-- ==== Sys2Proof/Word.lean ====
section
/-! DEFINITION. The word types of the Z24 and the sparse finite map the state is built from. -/

namespace Sys2Proof

/-- One byte of a record, a receipt, a register image or memory. -/
abbrev Byte := BitVec 8
/-- One lane of a vector register, one 32-bit register. -/
abbrev W32 := BitVec 32
/-- One scalar register, one 64-bit register. -/
abbrev W64 := BitVec 64

/-- A sparse map from numbers to values: what is not listed reads as the default the reader names. -/
abbrev SMap (α : Type) := List (Nat × α)

/-- The value at `k`, or `d` where nothing is listed. -/
def SMap.get {α : Type} (d : α) (m : SMap α) (k : Nat) : α :=
  match m with
  | [] => d
  | (j, v) :: t => if j = k then v else SMap.get d t k

/-- The value at `k`, if one is listed. -/
def SMap.find {α : Type} (m : SMap α) (k : Nat) : Option α :=
  match m with
  | [] => none
  | (j, v) :: t => if j = k then some v else SMap.find t k

/-- List `v` at `k`, in rising order of keys. -/
def SMap.set {α : Type} (m : SMap α) (k : Nat) (v : α) : SMap α :=
  match m with
  | [] => [(k, v)]
  | (j, w) :: t => if j = k then (k, v) :: t else if k < j then (k, v) :: (j, w) :: t else (j, w) :: SMap.set t k v

/-- Drop what is listed at `k`. -/
def SMap.del {α : Type} (m : SMap α) (k : Nat) : SMap α := m.filter (fun p => p.1 != k)

end Sys2Proof
end

