-- ==== Sys2Proof/Messages.lean ====
section
/-! DEFINITION. The operands of the commands: instruction formats (R166) and the messages and events of the module's
interfaces, as data. -/

namespace Sys2Proof

/-- Which register space a host access addresses: BAR2 of a function, or PF BAR4 (R8, R422). -/
inductive Bar where
  | bar2 (fn : Nat)
  | bar4
  deriving DecidableEq, Repr

/-- A thread of a running group: the group is named by function × 65,536 + journal entry (R72), the thread by its index. -/
structure Thr where
  gid : Nat
  idx : Nat
  deriving DecidableEq, Repr

/-! ### Instruction formats (R166). `grd` is bits [55:51]; the other names are the spec's. -/

structure FmtR where
  grd : BitVec 5
  d : BitVec 6
  s1 : BitVec 6
  s2 : BitVec 6
  s3 : BitVec 6
  ty : BitVec 4
  cond : BitVec 4
  rsv : BitVec 19
  deriving DecidableEq, Repr

structure FmtI where
  grd : BitVec 5
  d : BitVec 6
  s1 : BitVec 6
  ty : BitVec 4
  rsv : BitVec 3
  imm : BitVec 32
  deriving DecidableEq, Repr

structure FmtM where
  grd : BitVec 5
  d : BitVec 6
  base : BitVec 6
  space : BitVec 2
  size : BitVec 3
  sx : Bool
  rsv : BitVec 1
  offset : BitVec 32
  deriving DecidableEq, Repr

structure FmtG where
  grd : BitVec 5
  d : BitVec 6
  base : BitVec 6
  x : BitVec 6
  space : BitVec 2
  size : BitVec 3
  sx : Bool
  rsv : BitVec 27
  deriving DecidableEq, Repr

structure FmtA where
  grd : BitVec 5
  d : BitVec 6
  base : BitVec 6
  s1 : BitVec 6
  s2 : BitVec 6
  ty : BitVec 4
  space : BitVec 2
  rsv : BitVec 21
  deriving DecidableEq, Repr

structure FmtC where
  grd : BitVec 5
  d : BitVec 6
  s1 : BitVec 6
  s2 : BitVec 6
  cond : BitVec 4
  disp : BitVec 29
  deriving DecidableEq, Repr

structure FmtS where
  grd : BitVec 5
  d : BitVec 6
  s1 : BitVec 6
  s2 : BitVec 6
  s3 : BitVec 6
  scope : BitVec 2
  ty : BitVec 4
  rsv : BitVec 17
  id : BitVec 4
  deriving DecidableEq, Repr

structure FmtT where
  grd : BitVec 5
  tile : BitVec 2
  sa : BitVec 6
  sb : BitVec 6
  sk : BitVec 6
  ss : BitVec 6
  fmtA : BitVec 4
  fmtB : BitVec 4
  rnd : BitVec 2
  clr : BitVec 1
  rsv : BitVec 14
  deriving DecidableEq, Repr

/-! ### Translation and endpoint -/

/-- What a translation completion of the host says (R404, R408): a page of 2^`log2` bytes, no permission, or an error
completion. -/
inductive AtsResult where
  | page (ha log2 : Nat) (read write : Bool)
  | none
  | error
  deriving DecidableEq, Repr

/-- The response code of a PRG Response (R410, R411). -/
inductive PrgResult where
  | success | invalid | failure
  deriving DecidableEq, Repr

/-- A completion of an endpoint read (R431, R433). `ok`: successful; `poisoned`: its data are poisoned. -/
structure CplResult where
  ok : Bool
  poisoned : Bool
  data : List Byte
  deriving DecidableEq, Repr

/-! ### Mesh (R357 to R360) -/

/-- A REQ flit (R357). `data`: for a WRITE or WRITEBACK, nothing: its data come in DAT flits. -/
structure ReqFlit where
  dst : BitVec 24
  src : BitVec 24
  txn : BitVec 8
  cls : BitVec 4
  prio : BitVec 2
  hub : Bool
  paddock : BitVec 5
  addr : BitVec 47
  size : BitVec 3
  ty : BitVec 4
  record : BitVec 10
  view : BitVec 2
  rsv : BitVec 22
  operand : BitVec 128
  deriving DecidableEq, Repr

/-- An RSP flit (R359). -/
structure RspFlit where
  dst : BitVec 24
  src : BitVec 24
  txn : BitVec 8
  status : BitVec 4
  value : W64
  deriving DecidableEq, Repr

/-- A DAT flit (R360) with its end-to-end check (R356). -/
structure DatFlit where
  dst : BitVec 24
  src : BitVec 24
  txn : BitVec 8
  index : BitVec 2
  poison : Bool
  state : BitVec 3
  byteEn : W64
  data : List Byte
  crcOk : Bool
  deriving DecidableEq, Repr

/-- What a CONTROL message asks (R358, R367): a map entry of one kind, or a fence. -/
inductive ControlMsg where
  | mapUpdate (kind logical physical : Nat)
  | other
  deriving DecidableEq, Repr

/-- A flit as a probe sees it on one router output (R676): plane 0 REQ, 1 RSP, 2 SNP, 3 DAT; `beat` counts hub beats;
`payload` the 20 bytes that a PROBE record carries (R679). -/
structure SeenFlit where
  router : Nat
  output : Nat
  plane : Nat
  op : Nat
  addr : Nat
  src : Nat
  paddock : Nat
  hub : Bool
  beat : Nat
  payload : List Byte
  deriving DecidableEq, Repr

/-! ### Memory -/

/-- What the error-correcting code says of a line read (R293, R294). -/
inductive EccResult where
  | clean | corrected | uncorrectable
  deriving DecidableEq, Repr

/-- What a request that a Fold slice or controller reports is charged as (R328). -/
inductive ChargeKind where
  | hit
  | readMiss
  | write (full : Bool)
  deriving DecidableEq, Repr

/-! ### Optical links (R476 to R487) -/

/-- The peer's IDENT (R476). -/
structure IdentMsg where
  node : Nat
  sizes : Nat
  port : Nat
  role : Nat
  poolDir : Nat
  expressNode : Nat
  widthMin : Nat
  serial : W64
  deriving DecidableEq, Repr

/-- A key exchange message of a link (R550): the peer's public share, its credential, its signature and confirmation tag. -/
structure KeyxMsg where
  share : Nat
  credential : List Byte
  signature : Nat
  confirm : Nat
  deriving DecidableEq, Repr

/-- An LFL message (R486) as it arrives at port `port` (or is made here). -/
structure LflMsg where
  dst : Nat
  src : Nat
  op : Nat
  team : Nat
  hop : Nat
  id : Nat
  e2eSeq : Nat
  sumType : Nat
  addr : Nat
  round : Nat
  rank : Nat
  payload : List Byte
  crcOk : Bool
  reservedOk : Bool
  port : Nat
  deriving DecidableEq, Repr

/-- A flit of a link (R481) as its receiver sees it. -/
structure LflFlit where
  seq : Nat
  ack : Nat
  keyGen : Nat
  crcOk : Bool
  authOk : Bool
  corrected : Nat
  msgs : List LflMsg
  deriving DecidableEq, Repr

/-! ### Commons (R506 to R526) -/

/-- DISCOVER (R508). -/
structure DiscoverMsg where
  version : Nat
  strap : Nat
  vendor : Nat
  device : Nat
  stepping : Nat
  measCount : Nat
  declare : Nat
  nomMv : Nat
  pmaxW : Nat
  respNs : Nat
  windowMib : Nat
  serial : W64
  reservedOk : Bool
  deriving DecidableEq, Repr

/-- A chiplet's FAULT (R526). -/
structure ChipFault where
  cls : Nat
  code : Nat
  addr : Nat
  record : Nat
  deriving DecidableEq, Repr

/-- The header of an LSP message (R511). `status` is byte 4; `reserved`: the bits that R511 reserves are zero. -/
structure LspMsg where
  tag : Nat
  addr : Nat
  len : Nat
  status : Nat
  record : Nat
  sub : Nat
  reserved : Bool
  deriving DecidableEq, Repr

/-- An LSP message of the hub with its payload (R511, R513), bytes by offset where it is DATA; `tail` is the tag of an encrypted
payload (R553). -/
structure LspOut where
  op : Nat
  tag : Nat
  addr : Nat
  len : Nat
  status : Nat
  record : Nat
  sub : Nat
  data : List Byte
  tail : Nat
  deriving DecidableEq, Repr

/-! ### Faults and supervision -/

/-- Classes of a report (R588). -/
inductive FaultClass where
  | ce | uc | ft
  deriving DecidableEq, Repr

/-- A report of a checking mechanism (R591 to R593). `kind` and `unit` name the physical unit by the KIND and number of the
pinfold (R598) where one is to be fenced (R590); `records` are the groups whose data it concerns. -/
structure Report where
  cause : Nat
  cls : FaultClass
  addr : Nat
  block : Nat
  phys : Nat
  initiator : Nat
  hub : Bool
  paddock : Nat
  access : Nat
  kind : Nat
  unit : Nat
  records : List Nat
  deriving DecidableEq, Repr

/-- A rail under a monitor (R644). JESD270-4 tolerances stand outside the spec, so an HBM sample says itself whether it lies
outside. -/
inductive RailUnit where
  | tile (n : Nat)
  | hubCore
  | phy
  | hbm (stack rail : Nat) (outside : Bool)
  | optics (group : Nat)
  | heater (group : Nat)
  | commons (site : Nat)
  deriving DecidableEq, Repr

/-- What loses margin (R651, R662): a tile rail, the hub rail with the single unit that holds every late canary (its pinfold
KIND and number) where there is one, a pseudo-channel's stack, or an optical lane. -/
inductive MarginUnit where
  | tile (n : Nat)
  | hubRail (unit : Option (Nat × Nat))
  | stack (s : Nat)
  | lane (port lane : Nat)
  deriving DecidableEq, Repr

end Sys2Proof
end

