-- ==== Sys2Proof/Syntax.lean ====
section
/-! DEFINITION. The commands the module takes: one constructor per row of the table of operations and events. -/

namespace Sys2Proof

/-- A command: a host or bus access, an instruction of a thread, a completion, a message or an event. -/
inductive Instr where
  /-- REGISTER_WRITE (R11) -/
  | registerWrite (bar : Bar) (off : Nat) (wide : Bool) (data : W64)
  /-- RC_REGISTER_READ (R13) -/
  | rcRegisterRead (bar : Bar) (off : Nat) (wide : Bool)
  /-- LOW_HALF_READ (R427) -/
  | lowHalfRead (bar : Bar) (off : Nat)
  /-- LOW_HALF_WRITE (R427) -/
  | lowHalfWrite (bar : Bar) (off : Nat) (data : W32)
  /-- HIGH_HALF_WRITE (R427) -/
  | highHalfWrite (bar : Bar) (off : Nat) (data : W32)
  /-- BAD_ACCESS (R426) -/
  | badAccess (bar : Bar) (off len : Nat) (fullEnables write : Bool)
  /-- UNSUPPORTED_REQUEST (R430) -/
  | unsupportedRequest (fn : Nat) (posted : Bool)
  /-- TAG_COMMIT_PF (R38) -/
  | tagCommitPf
  /-- TAG_COMMIT_I3C (R38) -/
  | tagCommitI3c
  /-- TAG_COMMIT_DONE (R38) -/
  | tagCommitDone (verified : Bool)
  /-- I3C_READ (R42) -/
  | i3cRead (off : Nat)
  /-- I3C_WRITE (R42) -/
  | i3cWrite (off : Nat) (data : W32)
  /-- TILE_DISCOVERY (R20) -/
  | tileDiscovery (site : Nat) (strap : BitVec 9)
  /-- DISCOVERY_TIMEOUT (R20) -/
  | discoveryTimeout (site : Nat)
  /-- STILE_WRITE (R45) -/
  | stileWrite (fn slot : Nat) (poisoned : Bool) (cells : List (Nat × Byte))
  /-- RECORD_SEAL (R43) -/
  | recordSeal (fn slot : Nat) (cells : List (Nat × Byte))
  /-- SLOT_ABANDON (R45) -/
  | slotAbandon (fn slot : Nat)
  /-- GAP_HOLD_EXPIRY (R59) -/
  | gapHoldExpiry (fn slot : Nat)
  /-- JOURNAL_ENTRY_WRITTEN (R63) -/
  | journalEntryWritten (fn entry : Nat) (twinA twinB : Bool)
  /-- WATERMARK_TICK (R70) -/
  | watermarkTick (fn : Nat)
  /-- RING_HEAD_WRITE (R96) -/
  | ringHeadWrite (fn : Nat) (value : W32)
  /-- AUDIT_HEAD_WRITE (R96) -/
  | auditHeadWrite (fn : Nat) (value : W64)
  /-- RECEIPT_WRITE (R69) -/
  | receiptWrite (fn : Nat)
  /-- NOP_RECORD (R50) -/
  | nopRecord (fn entry : Nat)
  /-- BIND (R68) -/
  | bind (fn entry : Nat)
  /-- WORK (R115) -/
  | work (fn entry : Nat)
  /-- AUDIT_CLOSE (R92) -/
  | auditClose (fn entry : Nat)
  /-- LOAD_PROGRAM (R109) -/
  | loadProgram (fn entry : Nat)
  /-- LOAD_WEIGHTS (R109) -/
  | loadWeights (fn entry : Nat)
  /-- LOAD_COPY_DONE (R112) -/
  | loadCopyDone (fn entry : Nat)
  /-- UNLOAD (R109) -/
  | unload (fn entry : Nat)
  /-- TABLE_UPDATE (R396) -/
  | tableUpdate (fn entry : Nat)
  /-- INVALIDATE (R398) -/
  | invalidate (fn entry : Nat)
  /-- DIR_INSERT (R274) -/
  | dirInsert (fn entry : Nat)
  /-- DIR_DELETE (R274) -/
  | dirDelete (fn entry : Nat)
  /-- QUIESCE (R448) -/
  | quiesce (fn entry : Nat)
  /-- QUIESCE_TIMEOUT (R448) -/
  | quiesceTimeout (fn : Nat)
  /-- RESUME (R453) -/
  | resume (fn entry : Nat)
  /-- LAUNCH (R116) -/
  | launch (fn entry : Nat)
  /-- LOOKUP_COMPLETE (R266) -/
  | lookupComplete (gid lookup : Nat)
  /-- GATHER_COMPLETE (R278) -/
  | gatherComplete (gid : Nat)
  /-- INPUT_DIGEST_DONE (R118) -/
  | inputDigestDone (gid : Nat)
  /-- GROUP_ABORT_DONE (R201) -/
  | groupAbortDone (gid : Nat)
  /-- CHECK_WINDOW_CLOSE (R243) -/
  | checkWindowClose (gid : Nat) (thread : Option Nat) (error : Bool)
  /-- RELEASE_START (R77) -/
  | releaseStart (fn entry : Nat)
  /-- RELEASE_LOGGED (R77) -/
  | releaseLogged (fn entry : Nat)
  /-- AUDIT_WRITE (R80) -/
  | auditWrite (fn : Nat)
  /-- RECORD_COMMIT (R77) -/
  | recordCommit (fn entry : Nat)
  /-- CHECKPOINT_SIGNED (R93) -/
  | checkpointSigned (fn : Nat)
  /-- SWITCH_OUT_TRIGGER (R203) -/
  | switchOutTrigger (gid : Nat)
  /-- SWITCH_OUT_SAVED (R205) -/
  | switchOutSaved (gid : Nat)
  /-- GROUP_RESTORE (R205) -/
  | groupRestore (gid : Nat)
  /-- NOP (R172) -/
  | nop (t : Thr) (f : FmtI)
  /-- EXIT (R172) -/
  | exit (t : Thr) (f : FmtI)
  /-- ADD (R172) -/
  | add (t : Thr) (f : FmtR)
  /-- SUB (R172) -/
  | sub (t : Thr) (f : FmtR)
  /-- MUL (R172) -/
  | mul (t : Thr) (f : FmtR)
  /-- MULH (R172) -/
  | mulh (t : Thr) (f : FmtR)
  /-- MULHU (R172) -/
  | mulhu (t : Thr) (f : FmtR)
  /-- DIV (R172) -/
  | div (t : Thr) (f : FmtR)
  /-- DIVU (R172) -/
  | divu (t : Thr) (f : FmtR)
  /-- REM (R172) -/
  | rem (t : Thr) (f : FmtR)
  /-- REMU (R172) -/
  | remu (t : Thr) (f : FmtR)
  /-- AND (R172) -/
  | opAnd (t : Thr) (f : FmtR)
  /-- OR (R172) -/
  | opOr (t : Thr) (f : FmtR)
  /-- XOR (R172) -/
  | opXor (t : Thr) (f : FmtR)
  /-- SLL (R172) -/
  | sll (t : Thr) (f : FmtR)
  /-- SRL (R172) -/
  | srl (t : Thr) (f : FmtR)
  /-- SRA (R172) -/
  | sra (t : Thr) (f : FmtR)
  /-- CMP (R172) -/
  | cmp (t : Thr) (f : FmtR)
  /-- ADDI (R172) -/
  | addi (t : Thr) (f : FmtI)
  /-- ANDI (R172) -/
  | andi (t : Thr) (f : FmtI)
  /-- ORI (R172) -/
  | ori (t : Thr) (f : FmtI)
  /-- XORI (R172) -/
  | xori (t : Thr) (f : FmtI)
  /-- SLLI (R172) -/
  | slli (t : Thr) (f : FmtI)
  /-- SRLI (R172) -/
  | srli (t : Thr) (f : FmtI)
  /-- SRAI (R172) -/
  | srai (t : Thr) (f : FmtI)
  /-- LI (R172) -/
  | li (t : Thr) (f : FmtI)
  /-- LIH (R172) -/
  | lih (t : Thr) (f : FmtI)
  /-- CMPI (R172) -/
  | cmpi (t : Thr) (f : FmtI)
  /-- MIN (R172) -/
  | opMin (t : Thr) (f : FmtR)
  /-- MAX (R172) -/
  | opMax (t : Thr) (f : FmtR)
  /-- MINU (R172) -/
  | minu (t : Thr) (f : FmtR)
  /-- MAXU (R172) -/
  | maxu (t : Thr) (f : FmtR)
  /-- SEL (R172) -/
  | sel (t : Thr) (f : FmtR)
  /-- CLZ (R172) -/
  | clz (t : Thr) (f : FmtR)
  /-- CTZ (R172) -/
  | ctz (t : Thr) (f : FmtR)
  /-- POPC (R172) -/
  | popc (t : Thr) (f : FmtR)
  /-- PAND (R172) -/
  | pand (t : Thr) (f : FmtR)
  /-- POR (R172) -/
  | por (t : Thr) (f : FmtR)
  /-- PXOR (R172) -/
  | pxor (t : Thr) (f : FmtR)
  /-- PNOT (R172) -/
  | pnot (t : Thr) (f : FmtR)
  /-- MOVPX (R172) -/
  | movpx (t : Thr) (f : FmtR)
  /-- MOVXP (R172) -/
  | movxp (t : Thr) (f : FmtR)
  /-- BC (R172) -/
  | bc (t : Thr) (f : FmtC)
  /-- JAL (R172) -/
  | jal (t : Thr) (f : FmtC)
  /-- JALR (R172) -/
  | jalr (t : Thr) (f : FmtC)
  /-- VADD (R173) -/
  | vadd (t : Thr) (f : FmtR)
  /-- VSUB (R173) -/
  | vsub (t : Thr) (f : FmtR)
  /-- VMUL (R173) -/
  | vmul (t : Thr) (f : FmtR)
  /-- VFMA (R173) -/
  | vfma (t : Thr) (f : FmtR)
  /-- VMIN (R173) -/
  | vmin (t : Thr) (f : FmtR)
  /-- VMAX (R173) -/
  | vmax (t : Thr) (f : FmtR)
  /-- VABS (R173) -/
  | vabs (t : Thr) (f : FmtR)
  /-- VNEG (R173) -/
  | vneg (t : Thr) (f : FmtR)
  /-- VDIV (R173) -/
  | vdiv (t : Thr) (f : FmtR)
  /-- VSQRT (R173) -/
  | vsqrt (t : Thr) (f : FmtR)
  /-- VEXP2 (R174) -/
  | vexp2 (t : Thr) (f : FmtR)
  /-- VLOG2 (R174) -/
  | vlog2 (t : Thr) (f : FmtR)
  /-- VCMP (R173) -/
  | vcmp (t : Thr) (f : FmtR)
  /-- VSEL (R173) -/
  | vsel (t : Thr) (f : FmtR)
  /-- VAND (R173) -/
  | vand (t : Thr) (f : FmtR)
  /-- VOR (R173) -/
  | vor (t : Thr) (f : FmtR)
  /-- VXOR (R173) -/
  | vxor (t : Thr) (f : FmtR)
  /-- VSLL (R173) -/
  | vsll (t : Thr) (f : FmtR)
  /-- VSRL (R173) -/
  | vsrl (t : Thr) (f : FmtR)
  /-- VSRA (R173) -/
  | vsra (t : Thr) (f : FmtR)
  /-- VCVT (R218) -/
  | vcvt (t : Thr) (f : FmtI)
  /-- VBCAST (R173) -/
  | vbcast (t : Thr) (f : FmtR)
  /-- VEXT (R173) -/
  | vext (t : Thr) (f : FmtR)
  /-- VINS (R173) -/
  | vins (t : Thr) (f : FmtR)
  /-- VPERM (R173) -/
  | vperm (t : Thr) (f : FmtR)
  /-- VRED_SUM (R173) -/
  | vredSum (t : Thr) (f : FmtR)
  /-- VRED_MIN (R173) -/
  | vredMin (t : Thr) (f : FmtR)
  /-- VRED_MAX (R173) -/
  | vredMax (t : Thr) (f : FmtR)
  /-- VLANE (R173) -/
  | vlane (t : Thr) (f : FmtR)
  /-- LD (R176) -/
  | ld (t : Thr) (f : FmtM)
  /-- ST (R176) -/
  | st (t : Thr) (f : FmtM)
  /-- LD_ACQ (R179) -/
  | ldAcq (t : Thr) (f : FmtM)
  /-- ST_REL (R179) -/
  | stRel (t : Thr) (f : FmtM)
  /-- VLD (R176) -/
  | vld (t : Thr) (f : FmtM)
  /-- VST (R176) -/
  | vst (t : Thr) (f : FmtM)
  /-- VLD_G (R178) -/
  | vldG (t : Thr) (f : FmtG)
  /-- VST_S (R178) -/
  | vstS (t : Thr) (f : FmtG)
  /-- LOAD_RETURN (R176) -/
  | loadReturn (t : Thr) (load : Nat)
  /-- MCOPY (R180) -/
  | mcopy (t : Thr) (f : FmtR)
  /-- MCOPY_COMPLETE (R180) -/
  | mcopyComplete (t : Thr) (copy : Nat)
  /-- WAITM (R180) -/
  | waitm (t : Thr) (f : FmtI)
  /-- ATOM_ADD (R141) -/
  | atomAdd (t : Thr) (f : FmtA)
  /-- ATOM_FADD (R144) -/
  | atomFadd (t : Thr) (f : FmtA)
  /-- ATOM_SWAP (R144) -/
  | atomSwap (t : Thr) (f : FmtA)
  /-- ATOM_CAS (R183) -/
  | atomCas (t : Thr) (f : FmtA)
  /-- ATOM_MIN (R183) -/
  | atomMin (t : Thr) (f : FmtA)
  /-- ATOM_MAX (R183) -/
  | atomMax (t : Thr) (f : FmtA)
  /-- FENCE (R186) -/
  | fence (t : Thr) (f : FmtS)
  /-- HURDLE (R187) -/
  | hurdle (t : Thr) (f : FmtS)
  /-- HARRIVE (R136) -/
  | harrive (t : Thr) (f : FmtS)
  /-- HWAIT (R187) -/
  | hwait (t : Thr) (f : FmtS)
  /-- HURDLE_SUM (R188) -/
  | hurdleSum (t : Thr) (f : FmtS)
  /-- HURDLE_TIMEOUT (R139) -/
  | hurdleTimeout (gid id : Nat)
  /-- COLLECT (R189) -/
  | collect (t : Thr) (f : FmtS)
  /-- TZERO (R195) -/
  | tzero (t : Thr) (f : FmtT)
  /-- TMMA (R191) -/
  | tmma (t : Thr) (f : FmtT)
  /-- TRD (R194) -/
  | trd (t : Thr) (f : FmtT)
  /-- TENSOR_OP_COMPLETE (R193) -/
  | tensorOpComplete (gid core : Nat)
  /-- TWAIT (R195) -/
  | twait (t : Thr) (f : FmtT)
  /-- FEVAL (R253) -/
  | feval (t : Thr) (f : FmtR)
  /-- FEVAL_COMPLETE (R255) -/
  | fevalComplete (t : Thr) (eval : Nat)
  /-- NODE_FILL_RETURN (R260) -/
  | nodeFillReturn (t : Thr) (eval line : Nat)
  /-- FWAIT (R253) -/
  | fwait (t : Thr) (f : FmtR)
  /-- DFIND (R269) -/
  | dfind (t : Thr) (f : FmtR)
  /-- CHK_SYNC (R196) -/
  | chkSync (t : Thr) (f : FmtI)
  /-- CHK_CMP (R197) -/
  | chkCmp (t : Thr) (f : FmtR)
  /-- CHK_ASSERT (R198) -/
  | chkAssert (t : Thr) (f : FmtR)
  /-- RDTIME (R199) -/
  | rdtime (t : Thr) (f : FmtI)
  /-- RDCNT (R199) -/
  | rdcnt (t : Thr) (f : FmtI)
  /-- RAND (R199) -/
  | rand (t : Thr) (f : FmtI)
  /-- TABLE_WALK_DONE (R403) -/
  | tableWalkDone (fn va : Nat)
  /-- ATS_COMPLETION (R405) -/
  | atsCompletion (fn va : Nat) (c : AtsResult)
  /-- ATS_INVALIDATE_REQUEST (R406) -/
  | atsInvalidateRequest (fn itag va size : Nat)
  /-- ATS_INVALIDATE_COMPLETE (R406) -/
  | atsInvalidateComplete (fn itag : Nat)
  /-- PRG_RESPONSE (R412) -/
  | prgResponse (fn index : Nat) (r : PrgResult)
  /-- PRI_TIMEOUT (R412) -/
  | priTimeout (fn index : Nat)
  /-- RING_WRITE_RETRY (R408) -/
  | ringWriteRetry (fn : Nat)
  /-- PRI_ENABLE_CHANGE (R412) -/
  | priEnableChange (fn : Nat) (enable : Bool)
  /-- PCIE_COMPLETION (R433) -/
  | pcieCompletion (tag : Nat) (c : CplResult)
  /-- COMPLETION_TIMEOUT (R433) -/
  | completionTimeout (tag : Nat)
  /-- BUS_MASTER_ENABLE_CHANGE (R432) -/
  | busMasterEnableChange (fn : Nat) (enable : Bool)
  /-- POWER_STATE_CHANGE (R432) -/
  | powerStateChange (fn : Nat) (d3hot : Bool)
  /-- VF_ENABLE_CLEAR (R423) -/
  | vfEnableClear
  /-- NUMVFS_WRITE (R423) -/
  | numvfsWrite (value : Nat)
  /-- FLR (R458) -/
  | flr (fn : Nat)
  /-- FLR_DONE (R456) -/
  | flrDone (fn : Nat)
  /-- HOT_RESET (R459) -/
  | hotReset
  /-- PERST (R606) -/
  | perst
  /-- INT_STATUS_CLEAR (R434) -/
  | intStatusClear (ones : W32)
  /-- INT_ENABLE_WRITE (R434) -/
  | intEnableWrite (value : W32)
  /-- INTERRUPT_DISABLE_CHANGE (R434) -/
  | interruptDisableChange (disable : Bool)
  /-- INTA_HOLDOFF_EXPIRY (R435) -/
  | intaHoldoffExpiry
  /-- L1_ENTRY (R439) -/
  | l1Entry
  /-- L1_EXIT (R439) -/
  | l1Exit
  /-- L0P_NARROW (R440) -/
  | l0pNarrow
  /-- L0P_WIDEN (R440) -/
  | l0pWiden
  /-- PTM_DIALOGUE (R443) -/
  | ptmDialogue
  /-- PTM_RESPONSE (R444) -/
  | ptmResponse (offset : Option Int)
  /-- LOCK_INTERFACE (R558) -/
  | lockInterface (fn stream : Nat)
  /-- START_INTERFACE (R557) -/
  | startInterface (fn : Nat)
  /-- STOP_INTERFACE (R558) -/
  | stopInterface (fn : Nat)
  /-- GET_DEVICE_INTERFACE_REPORT (R558) -/
  | getDeviceInterfaceReport (fn : Nat)
  /-- SPDM_GET_CERTIFICATE (R554) -/
  | spdmGetCertificate (slot : Nat)
  /-- SPDM_CHALLENGE (R554) -/
  | spdmChallenge (slot : Nat) (nonce : List Byte)
  /-- SPDM_GET_MEASUREMENTS (R555) -/
  | spdmGetMeasurements (block : Nat) (nonce : List Byte)
  /-- SPDM_KEY_EXCHANGE (R554) -/
  | spdmKeyExchange (slot : Nat) (share : Nat)
  /-- FLIT_RECEIVE (R355) -/
  | flitReceive (link : Nat) (half : Nat) (crcOk : Bool) (src : BitVec 24) (dst : BitVec 24) (privileged : Bool)
  /-- NOC_READ (R365) -/
  | nocRead (q : ReqFlit)
  /-- NOC_WRITE (R354) -/
  | nocWrite (q : ReqFlit)
  /-- NOC_ATOMIC (R144) -/
  | nocAtomic (q : ReqFlit)
  /-- NOC_XADD (R141) -/
  | nocXadd (q : ReqFlit)
  /-- CONTROL (R367) -/
  | control (q : ReqFlit) (m : ControlMsg)
  /-- RD_SHARED (R375) -/
  | rdShared (q : ReqFlit)
  /-- RD_UNIQUE (R375) -/
  | rdUnique (q : ReqFlit)
  /-- UPGRADE (R375) -/
  | upgrade (q : ReqFlit)
  /-- WRITEBACK (R378) -/
  | writeback (q : ReqFlit)
  /-- NOC_GO (R375) -/
  | nocGo (line : Nat)
  /-- SNP_SHARED (R376) -/
  | snpShared (line agent : Nat)
  /-- SNP_UNIQUE (R376) -/
  | snpUnique (line agent : Nat)
  /-- SNP_INVALID (R376) -/
  | snpInvalid (line agent : Nat)
  /-- SNOOP_DONE (R375) -/
  | snoopDone (line : Nat)
  /-- NOC_DATA (R360) -/
  | nocData (d : DatFlit)
  /-- WRITE_GRANT (R354) -/
  | writeGrant (r : RspFlit)
  /-- NOC_DONE (R359) -/
  | nocDone (r : RspFlit)
  /-- NOC_ACK (R375) -/
  | nocAck (line : Nat)
  /-- ROUTE_ENTRY_INSTALL (R364) -/
  | routeEntryInstall (router port entry : Nat) (value : W64)
  /-- FOLD_FILL_RETURN (R304) -/
  | foldFillReturn (owner granule : Nat)
  /-- HBM_TEMP_POLL (R298) -/
  | hbmTempPoll (stack temp : Nat)
  /-- HBM_ECC_POLL (R284) -/
  | hbmEccPoll (stack count : Nat)
  /-- RFM_REQUEST (R299) -/
  | rfmRequest (stack : Nat)
  /-- WRITE_AGE_EXPIRY (R287) -/
  | writeAgeExpiry (engine : Nat)
  /-- HBM_CHANNEL_LOST (R297) -/
  | hbmChannelLost (stack : Nat)
  /-- PATROL_SCRUB_READ (R300) -/
  | patrolScrubRead (line : Nat) (r : EccResult)
  /-- PASTURE_REBUILD_DONE (R314) -/
  | pastureRebuildDone
  /-- JOURNAL_REBUILD_DONE (R75) -/
  | journalRebuildDone (fn : Nat)
  /-- MARGIN_REQUEST (R315) -/
  | marginRequest (value : W32)
  /-- MARGIN_RESULT (R315) -/
  | marginResult (readEye writeEye ref : BitVec 8)
  /-- DIR_ENTRY_REBUILD (R277) -/
  | dirEntryRebuild (bucket : Nat)
  /-- REGULATOR_WINDOW (R327) -/
  | regulatorWindow (waiting throughout : List (Nat × Nat))
  /-- CHARGE_REPORT (R328) -/
  | chargeReport (owner cls : Nat) (a : ChargeKind) (surplus : Bool)
  /-- QUEUE_FEEDBACK (R335) -/
  | queueFeedback (occupancy : List (Nat × Nat × Nat))
  /-- URGENCY_CHANGE (R334) -/
  | urgencyChange (owner cls level : Nat)
  /-- SHORTFALL_LOG_TICK (R344) -/
  | shortfallLogTick (group : Nat)
  /-- FAULT_REPORT (R594) -/
  | faultReport (r : Report)
  /-- SAFE_EXIT (R601) -/
  | safeExit
  /-- SHEEPDOG_SELF_FAULT (R602) -/
  | sheepdogSelfFault
  /-- STALL_WATCHDOG (R587) -/
  | stallWatchdog (r : Report)
  /-- Q_RELEASE (R595) -/
  | qRelease (value : W32)
  /-- FIRST_ERROR_CLEAR (R596) -/
  | firstErrorClear
  /-- SUPPLY_VALID (R695) -/
  | supplyValid (sris : Bool)
  /-- SUPPLY_DIP (R643) -/
  | supplyDip
  /-- AUX_LOSS (R695) -/
  | auxLoss
  /-- SYS_RST_ASSERT (R697) -/
  | sysRstAssert
  /-- SYS_RST_DEASSERT (R606) -/
  | sysRstDeassert
  /-- WARM_RST_ASSERT (R606) -/
  | warmRstAssert
  /-- START_REQ_COLD (R638) -/
  | startReqCold
  /-- START_REQ_WARM (R638) -/
  | startReqWarm
  /-- AUTO_WARM_START (R637) -/
  | autoWarmStart
  /-- MEMORY_MACHINE_DONE (R630) -/
  | memoryMachineDone (stack : Nat) (ok : Bool)
  /-- LINK_TRAINING_END (R477) -/
  | linkTrainingEnd
  /-- READY_LIMIT_EXPIRY (R635) -/
  | readyLimitExpiry
  /-- START_RETRY (R635) -/
  | startRetry
  /-- FLASH_READ (R616) -/
  | flashRead
  /-- FLASH_PROGRAM (R616) -/
  | flashProgram
  /-- FLASH_ERASE (R616) -/
  | flashErase
  /-- FLASH_OP_DONE (R616) -/
  | flashOpDone (verified : Bool)
  /-- CHALLENGE_NEW (R577) -/
  | challengeNew
  /-- CHALLENGE_EXPIRY (R577) -/
  | challengeExpiry
  /-- TOKEN_PADDOCK_DEBUG (R578) -/
  | tokenPaddockDebug
  /-- TOKEN_RETURN (R572) -/
  | tokenReturn
  /-- TOKEN_SCRAP (R572) -/
  | tokenScrap
  /-- TOKEN_DEPLOY (R574) -/
  | tokenDeploy
  /-- TOKEN_PROVISION (R571) -/
  | tokenProvision
  /-- TRANSITION_DONE (R571) -/
  | transitionDone
  /-- DEBUG_EXPIRY (R578) -/
  | debugExpiry (paddock : Nat)
  /-- DEBUG_READ (R578) -/
  | debugRead (high : W32)
  /-- SCRUB_START (R562) -/
  | scrubStart (value : W32)
  /-- SCRUB_DONE (R563) -/
  | scrubDone
  /-- LIGHT_CHANGE (R477) -/
  | lightChange (input : Nat) (on : Bool)
  /-- TRAIN_PATTERN (R477) -/
  | trainPattern (port : Nat)
  /-- PORT_TRAINED (R475) -/
  | portTrained (port width : Nat)
  /-- TRAIN_TIMEOUT (R477) -/
  | trainTimeout
  /-- TRAIN (R483) -/
  | train (port : Nat) (lanes : Nat)
  /-- IDENT (R476) -/
  | ident (port : Nat) (idm : IdentMsg)
  /-- KEYX_OFFER (R550) -/
  | keyxOffer (port : Nat) (k : KeyxMsg)
  /-- KEYX_ACCEPT (R550) -/
  | keyxAccept (port : Nat) (k : KeyxMsg)
  /-- KEYX_CONFIRM (R550) -/
  | keyxConfirm (port : Nat) (k : KeyxMsg)
  /-- KEYX_REKEY (R551) -/
  | keyxRekey (port : Nat) (share : Nat)
  /-- KEYX_ACK (R485) -/
  | keyxAck (port : Nat) (share : Nat)
  /-- REKEY_TIMER (R485) -/
  | rekeyTimer (port : Nat)
  /-- REKEY_TIMEOUT (R485) -/
  | rekeyTimeout (port : Nat)
  /-- LFL_FLIT (R482) -/
  | lflFlit (port : Nat) (f : LflFlit)
  /-- NAK (R482) -/
  | nak (port seq : Nat)
  /-- WIDTH (R478) -/
  | width (port lanes : Nat)
  /-- LANE_FAULT (R478) -/
  | laneFault (port lane : Nat)
  /-- LANE_SWAP_DONE (R478) -/
  | laneSwapDone (port lane : Nat) (ok : Bool)
  /-- TIME_REQ (R497) -/
  | timeReq (port : Nat) (t1 : W64)
  /-- TIME_RESP (R497) -/
  | timeResp (port : Nat) (t2 t3 : W64)
  /-- TIME_EXCHANGE_TICK (R497) -/
  | timeExchangeTick
  /-- TIME_SYNC_LOST (R498) -/
  | timeSyncLost
  /-- BELLWETHER_LOST (R498) -/
  | bellwetherLost
  /-- FENCED (R499) -/
  | fenced (port node : Nat)
  /-- FENCED_REPEAT (R499) -/
  | fencedRepeat
  /-- COLLECT_DATA (R496) -/
  | collectData (m : LflMsg)
  /-- HURDLE_ARRIVE (R495) -/
  | hurdleArrive (m : LflMsg)
  /-- LSTATE (R491) -/
  | lstate (m : LflMsg)
  /-- COLLECT_RESULT (R496) -/
  | collectResult (m : LflMsg)
  /-- HURDLE_OPEN (R495) -/
  | hurdleOpen (m : LflMsg)
  /-- E2E_ACK (R490) -/
  | e2eAck (m : LflMsg)
  /-- E2E_RESEND (R490) -/
  | e2eResend (dst cls seq : Nat)
  /-- LSTATE_TICK (R491) -/
  | lstateTick
  /-- LFL_FORWARD (R489) -/
  | lflForward (m : LflMsg)
  /-- DISCOVER (R510) -/
  | discover (site : Nat) (d : DiscoverMsg)
  /-- CONFIGURE (R507) -/
  | configure (site : Nat)
  /-- CONFIGURE_ACK (R507) -/
  | configureAck (site : Nat) (echoOk : Bool)
  /-- MEASURE_REQ (R529) -/
  | measureReq (site block : Nat)
  /-- MEASURE (R529) -/
  | measure (site block : Nat) (digest : List Byte)
  /-- HEARTBEAT (R527) -/
  | heartbeat (site temp flags : Nat)
  /-- HEARTBEAT_TIMEOUT (R527) -/
  | heartbeatTimeout (site : Nat)
  /-- FAULT (R526) -/
  | fault (site : Nat) (f : ChipFault)
  /-- THROTTLE (R533) -/
  | throttle (site watts : Nat)
  /-- HUB_SHARE (R552) -/
  | hubShare (site : Nat)
  /-- CHIP_SHARE (R552) -/
  | chipShare (site share : Nat)
  /-- HUB_CONFIRM (R552) -/
  | hubConfirm (site : Nat)
  /-- CHIP_CONFIRM (R552) -/
  | chipConfirm (site : Nat) (tag : Nat)
  /-- MGMT_RETRY (R507) -/
  | mgmtRetry (site : Nat)
  /-- LSP_FLIT (R506) -/
  | lspFlit (site seq : Nat) (crcOk : Bool) (kind ack : Nat)
  /-- LSP_NAK (R506) -/
  | lspNak (site seq : Nat)
  /-- WIN_READ (R515) -/
  | winRead (t : Thr) (load part : Nat)
  /-- WIN_WRITE (R515) -/
  | winWrite (site : Nat) (tag : Nat)
  /-- RECORD_END (R516) -/
  | recordEnd (site : Nat) (record : Nat)
  /-- DMA_READ (R520) -/
  | dmaRead (site : Nat) (m : LspMsg)
  /-- DMA_WRITE (R520) -/
  | dmaWrite (site : Nat) (m : LspMsg)
  /-- COH_REQ (R522) -/
  | cohReq (site : Nat) (m : LspMsg)
  /-- LSP_DONE (R525) -/
  | lspDone (site : Nat) (m : LspMsg)
  /-- LSP_GO (R522) -/
  | lspGo (site tag : Nat)
  /-- LSP_ACK (R516) -/
  | lspAck (site : Nat) (m : LspMsg)
  /-- SNP_PUSH (R522) -/
  | snpPush (site line : Nat)
  /-- SNP_INV (R522) -/
  | snpInv (site line : Nat) (toShared : Bool)
  /-- SNP_ACK (R523) -/
  | snpAck (site : Nat) (m : LspMsg)
  /-- LSP_DATA (R553) -/
  | lspData (site : Nat) (m : LspMsg) (cells : List (Nat × Byte)) (authTag : Nat)
  /-- WINDOW_TIMEOUT (R518) -/
  | windowTimeout (site tag : Nat)
  /-- SNP_ACK_TIMEOUT (R523) -/
  | snpAckTimeout (site line : Nat)
  /-- WINDOW_REKEY (R553) -/
  | windowRekey (site : Nat)
  /-- COMMONS_POWER_CHECK (R533) -/
  | commonsPowerCheck (site meanPower peakPct temp : Nat)
  /-- BRINGUP_STEP_TIMEOUT (R534) -/
  | bringupStepTimeout (site step : Nat)
  /-- POWER_CONTROL_PERIOD (R646) -/
  | powerControlPeriod (meanW inputV10 : Nat)
  /-- CANARY_WINDOW (R650) -/
  | canaryWindow (rail : Nat)
  /-- MARGIN_RELAX (R650) -/
  | marginRelax (rail : Nat)
  /-- CAL_MARGIN_ESCALATE (R651) -/
  | calMarginEscalate (u : MarginUnit)
  /-- THERMAL_SAMPLE (R653) -/
  | thermalSample (tiles : List Nat) (hub : Nat)
  /-- RAIL_MONITOR_SAMPLE (R644) -/
  | railMonitorSample (rail : RailUnit) (first second : Nat)
  /-- PLL_LOCK_LOSS (R658) -/
  | pllLockLoss (pll : Nat)
  /-- HBM_CENTRING_STEP (R659) -/
  | hbmCentringStep (stack pc setting : Nat) (up : Bool) (readEye writeEye bytes : Nat)
  /-- RING_TRACKING (R659) -/
  | ringTracking (port : Nat) (below : List Nat) (detune : Nat)
  /-- THERMAL_SHUTDOWN (R704) -/
  | thermalShutdown (temp : Nat)
  /-- TLY_RESET (R668) -/
  | tlyReset
  /-- TLY_FN_RESET (R668) -/
  | tlyFnReset (fn : Nat)
  /-- FAB_SNAP_TAKE (R675) -/
  | fabSnapTake
  /-- FAB_SNAP_DONE (R675) -/
  | fabSnapDone
  /-- PROBE_MATCH (R676) -/
  | probeMatch (f : SeenFlit)
  /-- TRACE_RECORD_OFFER (R681) -/
  | traceRecordOffer (source : Nat) (allow pair : Bool)
  /-- TRACE_ARM (R683) -/
  | traceArm (b : Nat)
  /-- TRACE_DISARM (R683) -/
  | traceDisarm (b : Nat)
  /-- TRACE_TRIGGER (R683) -/
  | traceTrigger (value : W32)
  /-- AUX_SUPPLY_VALID (R695) -/
  | auxSupplyValid (sris : Bool)
  /-- PCIE_LINK_ERROR (R436) -/
  | pcieLinkError (kind : Nat)
  /-- KEY_EXCHANGE_TIMEOUT (R550) -/
  | keyExchangeTimeout (port : Nat)
  /-- CLKREQ_ASSERTED (R438) -/
  | clkreqAsserted
  deriving DecidableEq, Repr

end Sys2Proof
end

