-- ==== Sys2Proof/WellFormed.lean ====
section
/-! DEFINITION. Which commands are well formed: the numbers that name units lie in their ranges (R8, R45, R422 to R429). Meanings
do not rest on it: a number out of range names nothing. -/

namespace Sys2Proof

/-- The PF and 31 VFs (R422). -/
def fnOk (n : Nat) : Bool := n < 32
/-- Slots of a stile (R45). -/
def slotOk (n : Nat) : Bool := n < 4096
def siteOk (n : Nat) : Bool := n < 20
/-- Sites 16 to 19 are commons (R8). -/
def commonsOk (n : Nat) : Bool := 16 ≤ n && n < 20
def stackOk (n : Nat) : Bool := n < 24
/-- Pseudo-channels of a stack (R8). -/
def channelOk (n : Nat) : Bool := n < 64
def engineOk (n : Nat) : Bool := n < 1536
def groupOk (n : Nat) : Bool := n < 6
def portOk (n : Nat) : Bool := n < 16
def laneOk (n : Nat) : Bool := n < 16
def inputOk (n : Nat) : Bool := n < 4
/-- Rails of 16 tiles and of the hub (R644). -/
def railOk (n : Nat) : Bool := n < 17
/-- Trace buffers (R678). -/
def bufferOk (n : Nat) : Bool := n < 4
/-- Routers 0 to 479 (R351). -/
def routerOk (n : Nat) : Bool := n < 480
/-- Mesh links and routers, which have halves (R355). -/
def linkOk (n : Nat) : Bool := n < 1396
def halfOk (n : Nat) : Bool := n < 2
/-- A group is named by its function and its journal entry, of at most 65,536 (R72). -/
def gidOk (n : Nat) : Bool := fnOk (n / 65536)
def threadOk (t : Thr) : Bool := gidOk t.gid
/-- Coherent agents (R373). -/
def agentOk (n : Nat) : Bool := n < 24
def barOk (b : Bar) : Bool :=
  match b with
  | .bar2 n => fnOk n
  | .bar4 => true
/-- Bytes of a BAR (R424). -/
def barSize (b : Bar) : Nat :=
  match b with
  | .bar2 _ => 0x10000
  | .bar4 => 0x1000000
/-- A register access lies in its BAR and is aligned to its size (R426). -/
def accessOk (b : Bar) (off size : Nat) : Bool := off % size == 0 && off + size ≤ barSize b

def Instr.wf (c : Instr) : Bool :=
  match c with
  | .registerWrite bar off wide _ => barOk bar && accessOk bar off (if wide then 8 else 4)
  | .rcRegisterRead bar off wide => barOk bar && accessOk bar off (if wide then 8 else 4)
  | .lowHalfRead bar off => barOk bar && accessOk bar off 4
  | .lowHalfWrite bar off _ => barOk bar && accessOk bar off 4
  | .highHalfWrite bar off _ => barOk bar && accessOk bar off 4
  | .badAccess bar _ _ _ _ => barOk bar
  | .unsupportedRequest fn _ => fnOk fn
  | .tagCommitPf => true
  | .tagCommitI3c => true
  | .tagCommitDone _ => true
  | .i3cRead _ => true
  | .i3cWrite _ _ => true
  | .tileDiscovery site _ => siteOk site
  | .discoveryTimeout site => siteOk site
  | .stileWrite fn slot _ _ => fnOk fn && slotOk slot
  | .recordSeal fn slot _ => fnOk fn && slotOk slot
  | .slotAbandon fn slot => fnOk fn && slotOk slot
  | .gapHoldExpiry fn slot => fnOk fn && slotOk slot
  | .journalEntryWritten fn _ _ _ => fnOk fn
  | .watermarkTick fn => fnOk fn
  | .ringHeadWrite fn _ => fnOk fn
  | .auditHeadWrite fn _ => fnOk fn
  | .receiptWrite fn => fnOk fn
  | .nopRecord fn _ => fnOk fn
  | .bind fn _ => fnOk fn
  | .work fn _ => fnOk fn
  | .auditClose fn _ => fnOk fn
  | .loadProgram fn _ => fnOk fn
  | .loadWeights fn _ => fnOk fn
  | .loadCopyDone fn _ => fnOk fn
  | .unload fn _ => fnOk fn
  | .tableUpdate fn _ => fnOk fn
  | .invalidate fn _ => fnOk fn
  | .dirInsert fn _ => fnOk fn
  | .dirDelete fn _ => fnOk fn
  | .quiesce fn _ => fnOk fn
  | .quiesceTimeout fn => fnOk fn
  | .resume fn _ => fnOk fn
  | .launch fn _ => fnOk fn
  | .lookupComplete gid _ => gidOk gid
  | .gatherComplete gid => gidOk gid
  | .inputDigestDone gid => gidOk gid
  | .groupAbortDone gid => gidOk gid
  | .checkWindowClose gid _ _ => gidOk gid
  | .releaseStart fn _ => fnOk fn
  | .releaseLogged fn _ => fnOk fn
  | .auditWrite fn => fnOk fn
  | .recordCommit fn _ => fnOk fn
  | .checkpointSigned fn => fnOk fn
  | .switchOutTrigger gid => gidOk gid
  | .switchOutSaved gid => gidOk gid
  | .groupRestore gid => gidOk gid
  | .nop t _ => threadOk t
  | .exit t _ => threadOk t
  | .add t _ => threadOk t
  | .sub t _ => threadOk t
  | .mul t _ => threadOk t
  | .mulh t _ => threadOk t
  | .mulhu t _ => threadOk t
  | .div t _ => threadOk t
  | .divu t _ => threadOk t
  | .rem t _ => threadOk t
  | .remu t _ => threadOk t
  | .opAnd t _ => threadOk t
  | .opOr t _ => threadOk t
  | .opXor t _ => threadOk t
  | .sll t _ => threadOk t
  | .srl t _ => threadOk t
  | .sra t _ => threadOk t
  | .cmp t _ => threadOk t
  | .addi t _ => threadOk t
  | .andi t _ => threadOk t
  | .ori t _ => threadOk t
  | .xori t _ => threadOk t
  | .slli t _ => threadOk t
  | .srli t _ => threadOk t
  | .srai t _ => threadOk t
  | .li t _ => threadOk t
  | .lih t _ => threadOk t
  | .cmpi t _ => threadOk t
  | .opMin t _ => threadOk t
  | .opMax t _ => threadOk t
  | .minu t _ => threadOk t
  | .maxu t _ => threadOk t
  | .sel t _ => threadOk t
  | .clz t _ => threadOk t
  | .ctz t _ => threadOk t
  | .popc t _ => threadOk t
  | .pand t _ => threadOk t
  | .por t _ => threadOk t
  | .pxor t _ => threadOk t
  | .pnot t _ => threadOk t
  | .movpx t _ => threadOk t
  | .movxp t _ => threadOk t
  | .bc t _ => threadOk t
  | .jal t _ => threadOk t
  | .jalr t _ => threadOk t
  | .vadd t _ => threadOk t
  | .vsub t _ => threadOk t
  | .vmul t _ => threadOk t
  | .vfma t _ => threadOk t
  | .vmin t _ => threadOk t
  | .vmax t _ => threadOk t
  | .vabs t _ => threadOk t
  | .vneg t _ => threadOk t
  | .vdiv t _ => threadOk t
  | .vsqrt t _ => threadOk t
  | .vexp2 t _ => threadOk t
  | .vlog2 t _ => threadOk t
  | .vcmp t _ => threadOk t
  | .vsel t _ => threadOk t
  | .vand t _ => threadOk t
  | .vor t _ => threadOk t
  | .vxor t _ => threadOk t
  | .vsll t _ => threadOk t
  | .vsrl t _ => threadOk t
  | .vsra t _ => threadOk t
  | .vcvt t _ => threadOk t
  | .vbcast t _ => threadOk t
  | .vext t _ => threadOk t
  | .vins t _ => threadOk t
  | .vperm t _ => threadOk t
  | .vredSum t _ => threadOk t
  | .vredMin t _ => threadOk t
  | .vredMax t _ => threadOk t
  | .vlane t _ => threadOk t
  | .ld t _ => threadOk t
  | .st t _ => threadOk t
  | .ldAcq t _ => threadOk t
  | .stRel t _ => threadOk t
  | .vld t _ => threadOk t
  | .vst t _ => threadOk t
  | .vldG t _ => threadOk t
  | .vstS t _ => threadOk t
  | .loadReturn t _ => threadOk t
  | .mcopy t _ => threadOk t
  | .mcopyComplete t _ => threadOk t
  | .waitm t _ => threadOk t
  | .atomAdd t _ => threadOk t
  | .atomFadd t _ => threadOk t
  | .atomSwap t _ => threadOk t
  | .atomCas t _ => threadOk t
  | .atomMin t _ => threadOk t
  | .atomMax t _ => threadOk t
  | .fence t _ => threadOk t
  | .hurdle t _ => threadOk t
  | .harrive t _ => threadOk t
  | .hwait t _ => threadOk t
  | .hurdleSum t _ => threadOk t
  | .hurdleTimeout gid _ => gidOk gid
  | .collect t _ => threadOk t
  | .tzero t _ => threadOk t
  | .tmma t _ => threadOk t
  | .trd t _ => threadOk t
  | .tensorOpComplete gid _ => gidOk gid
  | .twait t _ => threadOk t
  | .feval t _ => threadOk t
  | .fevalComplete t _ => threadOk t
  | .nodeFillReturn t _ _ => threadOk t
  | .fwait t _ => threadOk t
  | .dfind t _ => threadOk t
  | .chkSync t _ => threadOk t
  | .chkCmp t _ => threadOk t
  | .chkAssert t _ => threadOk t
  | .rdtime t _ => threadOk t
  | .rdcnt t _ => threadOk t
  | .rand t _ => threadOk t
  | .tableWalkDone fn _ => fnOk fn
  | .atsCompletion fn _ _ => fnOk fn
  | .atsInvalidateRequest fn _ _ _ => fnOk fn
  | .atsInvalidateComplete fn _ => fnOk fn
  | .prgResponse fn _ _ => fnOk fn
  | .priTimeout fn _ => fnOk fn
  | .ringWriteRetry fn => fnOk fn
  | .priEnableChange fn _ => fnOk fn
  | .flitReceive link half _ _ _ _ => linkOk link && halfOk half
  | .nocRead _ => true
  | .nocWrite _ => true
  | .nocAtomic _ => true
  | .nocXadd _ => true
  | .control _ _ => true
  | .rdShared _ => true
  | .rdUnique _ => true
  | .upgrade _ => true
  | .writeback _ => true
  | .nocGo _ => true
  | .snpShared _ agent => agentOk agent
  | .snpUnique _ agent => agentOk agent
  | .snpInvalid _ agent => agentOk agent
  | .snoopDone _ => true
  | .nocData _ => true
  | .writeGrant _ => true
  | .nocDone _ => true
  | .nocAck _ => true
  | .routeEntryInstall router port _ _ => routerOk router && portOk port
  | .foldFillReturn _ _ => true
  | .hbmTempPoll stack _ => stackOk stack
  | .hbmEccPoll stack _ => stackOk stack
  | .rfmRequest stack => stackOk stack
  | .writeAgeExpiry engine => engineOk engine
  | .hbmChannelLost stack => stackOk stack
  | .patrolScrubRead _ _ => true
  | .pastureRebuildDone => true
  | .journalRebuildDone fn => fnOk fn
  | .marginRequest _ => true
  | .marginResult _ _ _ => true
  | .dirEntryRebuild _ => true
  | .regulatorWindow _ _ => true
  | .chargeReport _ _ _ _ => true
  | .queueFeedback _ => true
  | .urgencyChange _ _ _ => true
  | .shortfallLogTick group => groupOk group
  | .pcieCompletion _ _ => true
  | .completionTimeout _ => true
  | .busMasterEnableChange fn _ => fnOk fn
  | .powerStateChange fn _ => fnOk fn
  | .vfEnableClear => true
  | .numvfsWrite _ => true
  | .flr fn => fnOk fn
  | .flrDone fn => fnOk fn
  | .hotReset => true
  | .perst => true
  | .intStatusClear _ => true
  | .intEnableWrite _ => true
  | .interruptDisableChange _ => true
  | .intaHoldoffExpiry => true
  | .l1Entry => true
  | .l1Exit => true
  | .l0pNarrow => true
  | .l0pWiden => true
  | .ptmDialogue => true
  | .ptmResponse _ => true
  | .lockInterface fn _ => fnOk fn
  | .startInterface fn => fnOk fn
  | .stopInterface fn => fnOk fn
  | .getDeviceInterfaceReport fn => fnOk fn
  | .spdmGetCertificate _ => true
  | .spdmChallenge _ _ => true
  | .spdmGetMeasurements _ _ => true
  | .spdmKeyExchange _ _ => true
  | .lightChange input _ => inputOk input
  | .trainPattern port => portOk port
  | .portTrained port _ => portOk port
  | .trainTimeout => true
  | .train port _ => portOk port
  | .ident port _ => portOk port
  | .keyxOffer port _ => portOk port
  | .keyxAccept port _ => portOk port
  | .keyxConfirm port _ => portOk port
  | .keyxRekey port _ => portOk port
  | .keyxAck port _ => portOk port
  | .rekeyTimer port => portOk port
  | .rekeyTimeout port => portOk port
  | .lflFlit port _ => portOk port
  | .nak port _ => portOk port
  | .width port _ => portOk port
  | .laneFault port lane => portOk port && laneOk lane
  | .laneSwapDone port lane _ => portOk port && laneOk lane
  | .timeReq port _ => portOk port
  | .timeResp port _ _ => portOk port
  | .timeExchangeTick => true
  | .timeSyncLost => true
  | .bellwetherLost => true
  | .fenced port _ => portOk port
  | .fencedRepeat => true
  | .collectData _ => true
  | .hurdleArrive _ => true
  | .lstate _ => true
  | .collectResult _ => true
  | .hurdleOpen _ => true
  | .e2eAck _ => true
  | .e2eResend _ _ _ => true
  | .lstateTick => true
  | .lflForward _ => true
  | .discover site _ => commonsOk site
  | .configure site => commonsOk site
  | .configureAck site _ => commonsOk site
  | .measureReq site _ => commonsOk site
  | .measure site _ _ => commonsOk site
  | .heartbeat site _ _ => commonsOk site
  | .heartbeatTimeout site => commonsOk site
  | .fault site _ => commonsOk site
  | .throttle site _ => commonsOk site
  | .hubShare site => commonsOk site
  | .chipShare site _ => commonsOk site
  | .hubConfirm site => commonsOk site
  | .chipConfirm site _ => commonsOk site
  | .mgmtRetry site => commonsOk site
  | .lspFlit site _ _ _ _ => commonsOk site
  | .lspNak site _ => commonsOk site
  | .winRead t _ _ => threadOk t
  | .winWrite site _ => commonsOk site
  | .recordEnd site _ => commonsOk site
  | .dmaRead site _ => commonsOk site
  | .dmaWrite site _ => commonsOk site
  | .cohReq site _ => commonsOk site
  | .lspDone site _ => commonsOk site
  | .lspGo site _ => commonsOk site
  | .lspAck site _ => commonsOk site
  | .snpPush site _ => commonsOk site
  | .snpInv site _ _ => commonsOk site
  | .snpAck site _ => commonsOk site
  | .lspData site _ _ _ => commonsOk site
  | .windowTimeout site _ => commonsOk site
  | .snpAckTimeout site _ => commonsOk site
  | .windowRekey site => commonsOk site
  | .commonsPowerCheck site _ _ _ => commonsOk site
  | .bringupStepTimeout site _ => commonsOk site
  | .challengeNew => true
  | .challengeExpiry => true
  | .tokenPaddockDebug => true
  | .tokenReturn => true
  | .tokenScrap => true
  | .tokenDeploy => true
  | .tokenProvision => true
  | .transitionDone => true
  | .debugExpiry paddock => fnOk paddock
  | .debugRead _ => true
  | .scrubStart _ => true
  | .scrubDone => true
  | .faultReport _ => true
  | .safeExit => true
  | .sheepdogSelfFault => true
  | .stallWatchdog _ => true
  | .qRelease _ => true
  | .firstErrorClear => true
  | .supplyValid _ => true
  | .supplyDip => true
  | .auxLoss => true
  | .sysRstAssert => true
  | .sysRstDeassert => true
  | .warmRstAssert => true
  | .startReqCold => true
  | .startReqWarm => true
  | .autoWarmStart => true
  | .memoryMachineDone stack _ => stackOk stack
  | .linkTrainingEnd => true
  | .readyLimitExpiry => true
  | .startRetry => true
  | .flashRead => true
  | .flashProgram => true
  | .flashErase => true
  | .powerControlPeriod _ _ => true
  | .canaryWindow rail => railOk rail
  | .marginRelax rail => railOk rail
  | .calMarginEscalate _ => true
  | .thermalSample _ _ => true
  | .railMonitorSample _ _ _ => true
  | .pllLockLoss _ => true
  | .hbmCentringStep stack pc _ _ _ _ _ => stackOk stack && channelOk pc
  | .ringTracking port _ _ => portOk port
  | .thermalShutdown _ => true
  | .tlyReset => true
  | .tlyFnReset fn => fnOk fn
  | .fabSnapTake => true
  | .fabSnapDone => true
  | .probeMatch _ => true
  | .traceRecordOffer _ _ _ => true
  | .traceArm b => bufferOk b
  | .traceDisarm b => bufferOk b
  | .traceTrigger _ => true
  | .auxSupplyValid _ => true
  | .pcieLinkError _ => true
  | .keyExchangeTimeout port => portOk port
  | .clkreqAsserted => true
  | .flashOpDone _ => true

end Sys2Proof
end

