-- ==== Sys2Proof/Decode.lean ====
section
/-! DEFINITION. The opcode table gives its rows no bits: commands come by name, so no word spells one. -/

namespace Sys2Proof

/-- The command that a word spells by the table's bits: none (assumption 45). -/
def decodeTableWord (_nbits _w : Nat) : Option Instr := none

end Sys2Proof
end

