-- ==== Sys2Proof/Config.lean ====
section
/-! DEFINITION. What the spec leaves open: constants with no body, so that nothing can be proved of the values they take. -/

namespace Sys2Proof

/-- A fresh value the spec leaves open, for the n-th time one is drawn (random numbers, keys, salts, challenges, beat counts).
The n is the plain counter `State.draws`. Assumption 2. -/
opaque Config.freeBits : Nat → Nat
/-- The fixed function of R174 behind VEXP2. Assumption 3. -/
opaque Config.exp2Bits : BitVec 32 → BitVec 32
/-- The fixed function of R174 behind VLOG2. Assumption 3. -/
opaque Config.log2Bits : BitVec 32 → BitVec 32
/-- ECDSA P-384 signature (R92, R541): the 96 bytes r ‖ s of a key over a message, as a number. Assumption 4. -/
opaque Config.ecdsaSign : (key : Nat) → (message : List (BitVec 8)) → Nat
/-- Whether ECDSA P-384 verification of a signature under a public key accepts. Assumption 4. -/
opaque Config.ecdsaVerify : (publicKey : Nat) → (message : List (BitVec 8)) → (signature : Nat) → Bool
/-- The public key that belongs to a private key. Assumption 4. -/
opaque Config.ecPublic : (key : Nat) → Nat
/-- Elliptic-curve Diffie-Hellman shared secret of a private key and a peer's public share. Assumption 4. -/
opaque Config.ecdh : (key : Nat) → (peerShare : Nat) → Nat
/-- AES-256-GCM (and GMAC) tag of a message under a key and a nonce. Assumption 4. -/
opaque Config.gcmTag : (key : Nat) → (nonce : Nat) → (message : List (BitVec 8)) → Nat
/-- AES-256-GCM key stream byte i under a key and a nonce. Assumption 4. -/
opaque Config.gcmStream : (key : Nat) → (nonce : Nat) → (i : Nat) → BitVec 8
/-- The public provisioning key that the boot ROM holds (R611, R571). Assumption 4. -/
opaque Config.provisioningKey : Nat
/-- The SHA-384 digest of the boot ROM (R540). Assumption 4. -/
opaque Config.bootRomDigest : List (BitVec 8)

end Sys2Proof
end

