-- ==== Sys2Proof/Machine/Flags.lean ====
section
/-! DEFINITION. Number formats, exact values and the one rounding step (R208 to R218, R235 to R240). -/

namespace Sys2Proof.Machine
open Sys2Proof

/-- The exact value of an element (R209, R210): a finite value is a sign and a magnitude counted in units of 2^-320 (R225). -/
inductive Fv where
  | nan
  | inf (neg : Bool)
  | fin (neg : Bool) (mag : Nat)
  deriving DecidableEq, Repr

/-- One row of the table of R209: field widths, bias, the code magnitude of infinity, the canonical NaN of R215 and the
code magnitude of the largest finite value. -/
structure FFmt where
  exp : Nat
  man : Nat
  bias : Nat
  infCode : Option Nat
  nanCode : Option Nat
  maxCode : Nat
  deriving DecidableEq, Repr

def fp32 : FFmt := ⟨8, 23, 127, some 0x7F800000, some 0x7FC00000, 0x7F7FFFFF⟩
def bf16 : FFmt := ⟨8, 7, 127, some 0x7F80, some 0x7FC0, 0x7F7F⟩
def fp16 : FFmt := ⟨5, 10, 15, some 0x7C00, some 0x7E00, 0x7BFF⟩
def e4m3 : FFmt := ⟨4, 3, 7, none, some 0x7F, 0x7E⟩
def e5m2 : FFmt := ⟨5, 2, 15, some 0x7C, some 0x7E, 0x7B⟩
def e2m1 : FFmt := ⟨2, 1, 1, none, none, 0x7⟩
def e2m3 : FFmt := ⟨2, 3, 1, none, none, 0x1F⟩
def e3m2 : FFmt := ⟨3, 2, 3, none, none, 0x1F⟩

/-- Rounding modes (R171). -/
inductive Rnd where
  | rne | rz | sr
  deriving DecidableEq, Repr

/-- The RND field (R171); 0b11 is reserved. -/
def Rnd.ofBits (b : Nat) : Option Rnd :=
  if b = 0 then some .rne else if b = 1 then some .rz else if b = 2 then some .sr else none

/-- Whether a code of the format is a NaN (R209). -/
def FFmt.isNanCode (f : FFmt) (code : Nat) : Bool :=
  let mag := code % 2 ^ (f.exp + f.man)
  match f.infCode with
  | some c => mag > c
  | none => f.nanCode = some mag

/-- The exact value of a code (R209). -/
def FFmt.decode (f : FFmt) (code : Nat) : Fv :=
  let mag := code % 2 ^ (f.exp + f.man)
  let neg := (code >>> (f.exp + f.man)) % 2 = 1
  if f.isNanCode code then .nan
  else if f.infCode = some mag then .inf neg
  else
    let e := mag >>> f.man
    let sig := if e = 0 then mag else mag % 2 ^ f.man + 2 ^ f.man
    .fin neg (sig * 2 ^ (320 + (max e 1) - f.bias - f.man))

/-- Round a magnitude `m` to a whole number of quanta of 2^k units: R235 for RNE and RZ, R239 for SR with the 24-bit `r`. -/
def roundQ (m k : Nat) (mode : Rnd) (r : Nat) : Nat :=
  let lo := m / 2 ^ k
  let rem := m % 2 ^ k
  match mode with
  | .rz => lo
  | .rne => if 2 ^ k < 2 * rem ∨ (2 * rem = 2 ^ k ∧ lo % 2 = 1) then lo + 1 else lo
  | .sr => if r < rem * 2 ^ 24 / 2 ^ k then lo + 1 else lo

/-- The code magnitude of a magnitude given in units of 2^-321, rounded once, before the range is looked at; `sc` is the block
scale's exponent byte (127 where there is none). -/
def FFmt.roundCode (f : FFmt) (mode : Rnd) (r : Nat) (sc m : Nat) : Nat :=
  let kmin := 195 + sc - f.bias - f.man
  let k := max kmin (m.log2 - f.man)
  ((k - kmin) <<< f.man) + roundQ m k mode r

/-- Place the sign bit. -/
def FFmt.withSign (f : FFmt) (neg : Bool) (code : Nat) : Nat :=
  if neg then code + 2 ^ (f.exp + f.man) else code

/-- Round a finite magnitude (units of 2^-321) to the format, with the range rules of R215. -/
def FFmt.encodeMag (f : FFmt) (mode : Rnd) (r : Nat) (neg : Bool) (m : Nat) : Nat :=
  let c := f.roundCode mode r 127 m
  let c' := if c ≤ f.maxCode then c
    else match mode, f.infCode with
      | .rne, some i => i
      | _, _ => f.maxCode
  f.withSign neg c'

/-- The read-out of a special or finite value in a floating format outside the MX formats (R214, R215). -/
def FFmt.encode (f : FFmt) (mode : Rnd) (r : Nat) (v : Fv) : Nat :=
  match v with
  | .nan => f.nanCode.getD 0
  | .inf neg => f.withSign neg (f.infCode.getD f.maxCode)
  | .fin neg m => f.encodeMag mode r neg (2 * m)

/-- An element of an MX block under scale byte `sc`: rounded once and saturated in every mode (R216). -/
def FFmt.encodeMx (f : FFmt) (mode : Rnd) (r sc : Nat) (neg : Bool) (m : Nat) : Nat :=
  f.withSign neg (min f.maxCode (f.roundCode mode r sc (2 * m)))

/-- An integer destination of `w` bits whose unit is 2^(k - 321): rounded, then clamped (R215). -/
def encodeInt (w k : Nat) (mode : Rnd) (r : Nat) (v : Fv) : Nat :=
  match v with
  | .nan => 0
  | .inf neg => if neg then 2 ^ (w - 1) else 2 ^ (w - 1) - 1
  | .fin neg m =>
    let n := roundQ (2 * m) k mode r
    if neg then (2 ^ w - min n (2 ^ (w - 1))) % 2 ^ w else min n (2 ^ (w - 1) - 1)

/-- The exact value of a two's complement code of `w` bits in units of 2^(u - 320). -/
def decodeInt (w u code : Nat) : Fv :=
  let c := code % 2 ^ w
  if 2 ^ (w - 1) ≤ c then .fin true ((2 ^ w - c) * 2 ^ u) else .fin false (c * 2 ^ u)

/-- The value as an integer multiple of 2^-320; zero for the specials. -/
def Fv.toInt (v : Fv) : Int :=
  match v with
  | .fin neg m => if neg then -(m : Int) else m
  | _ => 0

def Fv.isNan : Fv → Bool
  | .nan => true
  | _ => false

def Fv.isZero : Fv → Bool
  | .fin _ 0 => true
  | _ => false

/-- The exact value of a signed number of units of 2^-320; zero is +0 (R236). -/
def Fv.ofInt (n : Int) : Fv := .fin (n < 0) n.natAbs

/-! ### The formats of R170 -/

/-- How an element is coded: a floating row of R209, or a two's complement integer with its unit. -/
inductive Elem where
  | flt (f : FFmt)
  | int (w u : Nat)
  deriving DecidableEq, Repr

/-- One value of R170: element code, width in bits, whether a block scale applies, emax of R216. -/
structure Fmt where
  elem : Elem
  width : Nat
  mx : Bool
  emax : Nat
  /-- 4, 8, 16 for the operand classes; 32 for FP32 and I32. -/
  cls : Nat
  deriving DecidableEq, Repr

/-- R170. -/
def Fmt.ofNibble (n : Nat) : Option Fmt :=
  if n = 0 then some ⟨.int 4 320, 4, false, 0, 4⟩
  else if n = 1 then some ⟨.flt e2m1, 4, true, 2, 4⟩
  else if n = 2 then some ⟨.int 8 320, 8, false, 0, 8⟩
  else if n = 3 then some ⟨.int 8 314, 8, true, 0, 8⟩
  else if n = 4 then some ⟨.flt e4m3, 8, false, 0, 8⟩
  else if n = 5 then some ⟨.flt e5m2, 8, false, 0, 8⟩
  else if n = 6 then some ⟨.flt e4m3, 8, true, 8, 8⟩
  else if n = 7 then some ⟨.flt e5m2, 8, true, 15, 8⟩
  else if n = 8 then some ⟨.flt e2m3, 6, true, 2, 8⟩
  else if n = 9 then some ⟨.flt e3m2, 6, true, 4, 8⟩
  else if n = 10 then some ⟨.flt bf16, 16, false, 0, 16⟩
  else if n = 11 then some ⟨.flt fp16, 16, false, 0, 16⟩
  else if n = 12 then some ⟨.flt fp32, 32, false, 0, 32⟩
  else if n = 13 then some ⟨.int 32 320, 32, false, 0, 32⟩
  else none

/-- The exact value of an element code with no block scale (R209, R210). In an MX format no E4M3 or E5M2 code of the element
loses its meaning as NaN or infinity (R211, R220). -/
def Elem.decode (e : Elem) (code : Nat) : Fv :=
  match e with
  | .flt f => f.decode code
  | .int w u => decodeInt w u code

/-- An element's value under its block scale byte (R211): 0xFF makes it NaN. -/
def Fv.scaled (v : Fv) (sc : Nat) : Fv :=
  if sc = 0xFF then .nan
  else match v with
    | .fin neg m => .fin neg (m * 2 ^ sc / 2 ^ 127)
    | v => v

/-- The value of an element of a format; `sc` is used by the MX formats only. -/
def Fmt.value (f : Fmt) (code sc : Nat) : Fv :=
  if f.mx then (f.elem.decode code).scaled sc else f.elem.decode code

/-- Round a value to a non-MX format (R214, R215). -/
def Fmt.encode (f : Fmt) (mode : Rnd) (r : Nat) (v : Fv) : Nat :=
  match f.elem with
  | .flt g => g.encode mode r v
  | .int w u => encodeInt w (u + 1) mode r v

/-- The scale byte of a block (R216): 0xFF where a value is NaN or infinite, 0x7F where all are zero. -/
def Fmt.blockScale (f : Fmt) (vs : List Fv) : Nat :=
  if vs.any (fun v => match v with | .fin _ _ => false | _ => true) then 0xFF
  else
    let m := vs.foldl (fun a v => max a v.toInt.natAbs) 0
    if m = 0 then 0x7F
    else
      -- floor(log2 m) - emax, where m counts units of 2^-320
      let x : Int := (m.log2 : Int) - 320 - f.emax
      ((max (-127) (min 127 x)) + 127).toNat

/-- One element of a block under its scale (R216). -/
def Fmt.encodeMx (f : Fmt) (mode : Rnd) (r sc : Nat) (v : Fv) : Nat :=
  if sc = 0xFF then 0
  else match f.elem, v with
    | .flt g, .fin neg m => g.encodeMx mode r sc neg m
    | .int w u, v => encodeInt w (u + 1 + sc - 127) mode r v
    | _, _ => 0

/-! ### Deterministic stochastic rounding (R240) -/

/-- mix of R240. -/
def mix64 (z : W64) : W64 :=
  let z := (z ^^^ (z >>> 30)) * 0xBF58476D1CE4E5B9#64
  let z := (z ^^^ (z >>> 27)) * 0x94D049BB133111EB#64
  z ^^^ (z >>> 31)

/-- The random value of an element (R240). -/
def srRandom (function stream sequence thread op e : Nat) : Nat :=
  let seed : W64 := (BitVec.ofNat 64 function <<< 56) ||| (BitVec.ofNat 64 stream <<< 48) ||| BitVec.ofNat 64 sequence
  let ctr : W64 := (BitVec.ofNat 64 thread <<< 40) ||| (BitVec.ofNat 64 (op % 2 ^ 30) <<< 10) ||| BitVec.ofNat 64 e
  (mix64 (seed ^^^ mix64 ctr) >>> 40).toNat

/-! ### FP32 lane arithmetic (R173) -/

def f32Nan : W32 := 0x7FC00000#32

def f32Dec (a : W32) : Fv := fp32.decode a.toNat

/-- Round a finite value, given in units of 2^-321, to binary32 in RNE. -/
def f32Round (neg : Bool) (m : Nat) : W32 := BitVec.ofNat 32 (fp32.encodeMag .rne 0 neg m)

def f32Inf (neg : Bool) : W32 := BitVec.ofNat 32 (fp32.withSign neg 0x7F800000)

/-- Round a signed exact sum (units of 2^-320); an exact zero takes `zneg` as its sign. -/
def f32OfInt (n : Int) (zneg : Bool) : W32 :=
  if n = 0 then f32Round zneg 0 else f32Round (n < 0) (2 * n.natAbs)

/-- Sum of two values, rounded once. -/
def fvAdd (a b : Fv) : W32 :=
  match a, b with
  | .nan, _ => f32Nan
  | _, .nan => f32Nan
  | .inf s, .inf t => if s = t then f32Inf s else f32Nan
  | .inf s, _ => f32Inf s
  | _, .inf t => f32Inf t
  | .fin s m, .fin t n => f32OfInt ((Fv.fin s m).toInt + (Fv.fin t n).toInt) (s && t)

/-- The exact product of two values: every product of two binary32 values lies on the grid (R225). -/
def fvMul (a b : Fv) : Fv :=
  match a, b with
  | .nan, _ => .nan
  | _, .nan => .nan
  | .inf s, .inf t => .inf (s != t)
  | .inf s, .fin t n => if n = 0 then .nan else .inf (s != t)
  | .fin s m, .inf t => if m = 0 then .nan else .inf (s != t)
  | .fin s m, .fin t n => .fin (s != t) (m * n / 2 ^ 320)

def fvRound (v : Fv) : W32 :=
  match v with
  | .nan => f32Nan
  | .inf s => f32Inf s
  | .fin s m => f32Round s (2 * m)

def f32Add (a b : W32) : W32 := fvAdd (f32Dec a) (f32Dec b)

def fvNeg (v : Fv) : Fv :=
  match v with
  | .nan => .nan
  | .inf s => .inf (!s)
  | .fin s m => .fin (!s) m

def f32Sub (a b : W32) : W32 := fvAdd (f32Dec a) (fvNeg (f32Dec b))
def f32Mul (a b : W32) : W32 := fvRound (fvMul (f32Dec a) (f32Dec b))
/-- a × b + c, rounded once. -/
def f32Fma (a b c : W32) : W32 := fvAdd (fvMul (f32Dec a) (f32Dec b)) (f32Dec c)

def f32Div (a b : W32) : W32 :=
  match f32Dec a, f32Dec b with
  | .nan, _ => f32Nan
  | _, .nan => f32Nan
  | .inf _, .inf _ => f32Nan
  | .inf s, .fin t _ => f32Inf (s != t)
  | .fin s _, .inf t => f32Round (s != t) 0
  | .fin s m, .fin t n =>
    if n = 0 then (if m = 0 then f32Nan else f32Inf (s != t))
    else f32Round (s != t) (2 * (m * 2 ^ 320 / n) + (if m * 2 ^ 320 % n = 0 then 0 else 1))

/-- The integer square root, bit by bit from 2^(bits-1) down. -/
def isqrt (n : Nat) (bits : Nat) (acc : Nat) : Nat :=
  match bits with
  | 0 => acc
  | b + 1 => if (acc + 2 ^ b) * (acc + 2 ^ b) ≤ n then isqrt n b (acc + 2 ^ b) else isqrt n b acc

def f32Sqrt (a : W32) : W32 :=
  match f32Dec a with
  | .nan => f32Nan
  | .inf s => if s then f32Nan else f32Inf false
  | .fin s m =>
    if m = 0 then f32Round s 0
    else if s then f32Nan
    else
      let n := m * 2 ^ 320
      let q := isqrt n 400 0
      f32Round false (2 * q + (if q * q = n then 0 else 1))

/-- A result with every NaN made canonical (R173). -/
def f32Canon (a : W32) : W32 := if (f32Dec a).isNan then f32Nan else a

/-- 2^x (R174): a fixed function the spec does not give, every NaN result canonical. -/
def f32Exp2 (a : W32) : W32 := if (f32Dec a).isNan then f32Nan else f32Canon (Config.exp2Bits a)
/-- log2 x (R174). -/
def f32Log2 (a : W32) : W32 := if (f32Dec a).isNan then f32Nan else f32Canon (Config.log2Bits a)

/-- The order of VMIN and VMAX: −0 below +0 (R173). -/
def f32Key (a : W32) : Int := if a.msb then -((a.toNat % 2 ^ 31 : Nat) : Int) - 1 else a.toNat

def f32Min (a b : W32) : W32 :=
  if (f32Dec a).isNan then f32Canon b else if (f32Dec b).isNan then a else if f32Key a ≤ f32Key b then a else b

def f32Max (a b : W32) : W32 :=
  if (f32Dec a).isNan then f32Canon b else if (f32Dec b).isNan then a else if f32Key a ≤ f32Key b then b else a

def f32Abs (a : W32) : W32 := if (f32Dec a).isNan then f32Nan else a &&& 0x7FFFFFFF#32
def f32Neg (a : W32) : W32 := if (f32Dec a).isNan then f32Nan else a ^^^ 0x80000000#32

/-- An order on values that IEEE 754 comparison follows: −0 equals +0; infinities lie outside every finite value. -/
def Fv.rank (v : Fv) : Int :=
  match v with
  | .nan => 0
  | .inf s => if s then -(2 ^ 640 : Int) else 2 ^ 640
  | v => v.toInt

def fvEq (a b : Fv) : Bool := !a.isNan && !b.isNan && a.rank = b.rank
def fvLt (a b : Fv) : Bool := !a.isNan && !b.isNan && a.rank < b.rank
def fvLe (a b : Fv) : Bool := !a.isNan && !b.isNan && a.rank ≤ b.rank

/-! ### Conditions (R168) -/

/-- Whether a condition is one of the integer conditions and ALWAYS. -/
def condIsInt (c : Nat) : Bool := c ≤ 6
def condIsFp (c : Nat) : Bool := 8 ≤ c && c ≤ 12

/-- An integer condition over two words (R168). -/
def condInt {n : Nat} (c : Nat) (a b : BitVec n) : Bool :=
  if c = 0 then a == b
  else if c = 1 then a != b
  else if c = 2 then a.slt b
  else if c = 3 then !a.slt b
  else if c = 4 then a.ult b
  else if c = 5 then !a.ult b
  else true

/-- An FP32 condition (R168). -/
def condFp (c : Nat) (a b : W32) : Bool :=
  let x := f32Dec a
  let y := f32Dec b
  if c = 8 then fvEq x y
  else if c = 9 then !fvEq x y
  else if c = 10 then fvLt x y
  else if c = 11 then fvLe x y
  else if c = 12 then x.isNan || y.isNan
  else true

end Sys2Proof.Machine
end

