-- ==== Sys2Proof/Machine/XaBase.lean ====
section
/-! DEFINITION. The exact accumulator element as data (R223, R224, R229). -/

namespace Sys2Proof.Machine
open Sys2Proof

/-- A valid bin: its tag 0-19 and its signed 64-bit content (R223). -/
structure XaBin where
  tag : Nat
  val : Int
  deriving DecidableEq, Repr

/-- An element's state word (R224): a bin is present exactly when its VALID bit is set; `ext` is the extended entry's E (R229),
present exactly when EXT is set. -/
structure Xa where
  bin0 : Option XaBin
  bin1 : Option XaBin
  bin2 : Option XaBin
  nan : Bool
  pinf : Bool
  ninf : Bool
  ext : Option Int
  ovf : Bool
  ovfSign : Bool
  residue : Nat
  deriving DecidableEq, Repr

/-- A zeroed element (R224). -/
def Xa.zero : Xa := ⟨none, none, none, false, false, false, none, false, false, 0⟩

end Sys2Proof.Machine
end

