-- ==== Sys2Proof/Machine/Accumulator.lean ====
section
/-! DEFINITION. The exact accumulator: adding, normalising, extended form, residue and read-out (R223 to R242). -/

namespace Sys2Proof.Machine
open Sys2Proof

/-- The value of one bin in units of 2^-320. -/
def XaBin.value (b : XaBin) : Int := b.val * 2 ^ (32 * b.tag)

def XaBin.optValue (b : Option XaBin) : Int :=
  match b with
  | some b => b.value
  | none => 0

/-- The value V of an element in units of 2^-320 (R223, R229). -/
def Xa.value (x : Xa) : Int :=
  match x.ext with
  | some e => e
  | none => XaBin.optValue x.bin0 + XaBin.optValue x.bin1 + XaBin.optValue x.bin2

/-- The range of an extended entry (R229). -/
def extInRange (e : Int) : Bool := -(2 ^ 703 : Int) < e && e < (2 ^ 703 : Int)

/-- Add to the extended entry; leaving the range sets OVF and takes no further finite parts (R230). -/
def Xa.extAdd (x : Xa) (v : Int) : Xa :=
  match x.ext with
  | none => x
  | some e =>
    if x.ovf then x
    else if extInRange (e + v) then { x with ext := some (e + v) }
    else { x with ovf := true, ovfSign := e + v < 0 }

/-- Enter extended form with the element's exact value (R228, R229). -/
def Xa.enterExt (x : Xa) : Xa :=
  { x with ext := some x.value, bin0 := none, bin1 := none, bin2 := none }

/-- Add `p` to a bin of tag `t` if it is that bin. -/
def XaBin.addTo (b : Option XaBin) (t : Nat) (p : Int) : Option (Option XaBin) :=
  match b with
  | some c => if c.tag = t then some (some { c with val := c.val + p }) else none
  | none => none

/-- Add one part to the bin of tag `t` (R225, R228): into its bin, else a free bin, else extended form. A tag past 19 goes to
extended form (R226). -/
def Xa.addPart (x : Xa) (t : Nat) (p : Int) : Xa :=
  if p = 0 then x
  else if x.ext.isSome then x.extAdd (p * 2 ^ (32 * t))
  else if 19 < t then x.enterExt.extAdd (p * 2 ^ (32 * t))
  else match XaBin.addTo x.bin0 t p, XaBin.addTo x.bin1 t p, XaBin.addTo x.bin2 t p with
    | some b, _, _ => { x with bin0 := b }
    | _, some b, _ => { x with bin1 := b }
    | _, _, some b => { x with bin2 := b }
    | _, _, _ =>
      if x.bin0.isNone then { x with bin0 := some ⟨t, p⟩ }
      else if x.bin1.isNone then { x with bin1 := some ⟨t, p⟩ }
      else if x.bin2.isNone then { x with bin2 := some ⟨t, p⟩ }
      else x.enterExt.extAdd (p * 2 ^ (32 * t))

/-- Add the parts of a magnitude from tag `t` up, for `fuel` windows (R225). -/
def Xa.addParts (x : Xa) (neg : Bool) (m : Nat) (t : Nat) (fuel : Nat) : Xa :=
  match fuel with
  | 0 => x
  | k + 1 =>
    if m = 0 then x
    else
      let part : Int := (m % 2 ^ 32 : Nat)
      (x.addPart t (if neg then -part else part)).addParts neg (m / 2 ^ 32) (t + 1) k

/-- The residue of an integer modulo 255, 0-254 (R242). -/
def residue255 (v : Int) : Nat := (v % 255).toNat

/-- The actual residue of an element (R242). -/
def Xa.actualResidue (x : Xa) : Nat := residue255 x.value

/-- Add one exact finite value, a number of units of 2^-320, and advance the predicted residue (R225, R242). Once OVF is set no
finite part enters and the prediction stands (R230). -/
def Xa.addInt (x : Xa) (v : Int) : Xa :=
  if x.ovf then x
  else
    let y := x.addParts (v < 0) v.natAbs 0 24
    if y.ovf then y else { y with residue := (x.residue + residue255 v) % 255 }

/-- Add a product or an addend with its special cases (R220). -/
def Xa.addValue (x : Xa) (v : Fv) : Xa :=
  match v with
  | .nan => { x with nan := true }
  | .inf neg => if neg then { x with ninf := true } else { x with pinf := true }
  | .fin _ _ => x.addInt v.toInt

/-- Release a bin whose value is zero (R226). -/
def XaBin.released (b : Option XaBin) : Option XaBin :=
  match b with
  | some c => if c.val = 0 then none else some c
  | none => none

/-- The content of a bin if it carries the tag. -/
def XaBin.valAt (b : Option XaBin) (t : Nat) : Int :=
  match b with
  | some c => if c.tag = t then c.val else 0
  | none => 0

/-- Take the carry out of the bin of tag `t` when its magnitude is 2^48 or more (R226). -/
def Xa.carry (x : Xa) (t : Nat) : Xa :=
  if x.ext.isSome then x
  else
    let v := XaBin.valAt x.bin0 t + XaBin.valAt x.bin1 t + XaBin.valAt x.bin2 t
    if v.natAbs < 2 ^ 48 then x
    else
      let c := v / 2 ^ 32
      (x.addPart t (-(c * 2 ^ 32))).addPart (t + 1) c

/-- Normalisation of tags `t` to 19 and the release of zero bins (R226). -/
def Xa.normaliseFrom (x : Xa) (t fuel : Nat) : Xa :=
  match fuel with
  | 0 => { x with bin0 := XaBin.released x.bin0, bin1 := XaBin.released x.bin1, bin2 := XaBin.released x.bin2 }
  | k + 1 => (x.carry t).normaliseFrom (t + 1) k

def Xa.normalise (x : Xa) : Xa := x.normaliseFrom 0 20

/-- The exact value that an element reads out, flags first (R236); OVF is answered apart. -/
def Xa.readValue (x : Xa) : Fv :=
  if x.nan || (x.pinf && x.ninf) then .nan
  else if x.pinf then .inf false
  else if x.ninf then .inf true
  else Fv.ofInt x.value

/-- Read-out of an element in a format and mode (R235, R236). -/
def Xa.readOut (x : Xa) (f : Fmt) (mode : Rnd) (r : Nat) : Nat :=
  if x.ovf && !(x.nan || x.pinf || x.ninf) then f.encode mode r (.fin x.ovfSign (2 ^ 703))
  else f.encode mode r x.readValue

/-- Exact sum of a list of values as one element, the way a reduction unit holds it (R234): from its first addend in
extended form. -/
def Xa.sumValues (vs : List Fv) : Xa :=
  vs.foldl (fun x v => x.addValue v) { Xa.zero with ext := some 0 }

end Sys2Proof.Machine
end

