-- ==== Sys2Proof/Machine/Digest.lean ====
section
/-! DEFINITION. Digests and codes: SHA-384, HMAC and HKDF over it (R55, R91, R543), CRC-32, CRC-32C (R35, R49). -/

namespace Sys2Proof.Machine
open Sys2Proof

/-- The `n` bytes of a number, lowest first (R7). -/
def leBytes (n : Nat) (v : Nat) : List Byte :=
  match n with
  | 0 => []
  | k + 1 => BitVec.ofNat 8 v :: leBytes k (v / 256)

/-- The number that bytes spell, lowest first (R7). -/
def leNat (bs : List Byte) : Nat :=
  match bs with
  | [] => 0
  | b :: t => b.toNat + 256 * leNat t

/-- The number that bytes spell, highest first: digests and signatures (R7). -/
def beNat (bs : List Byte) : Nat := bs.foldl (fun a b => a * 256 + b.toNat) 0

/-- The `n` bytes of a number, highest first. -/
def beBytes (n : Nat) (v : Nat) : List Byte := (leBytes n v).reverse

/-- The byte at an index, zero past the end. -/
def byteAt (bs : List Byte) (i : Nat) : Byte := bs.getD i 0#8

/-- `n` bytes from `off`, as a little-endian number. -/
def fieldAt (bs : List Byte) (off n : Nat) : Nat := leNat ((bs.drop off).take n)

/-- Replace the bytes from `off` on by `new`. -/
def putAt (bs : List Byte) (off : Nat) (new : List Byte) : List Byte :=
  bs.take off ++ new ++ bs.drop (off + new.length)

def zeros (n : Nat) : List Byte := List.replicate n 0#8

/-- Whether every byte of a range is zero. -/
def zeroAt (bs : List Byte) (off n : Nat) : Bool := ((bs.drop off).take n).all (fun b => b == 0#8)

/-! ### SHA-384 -/

def sha512K1 : List W64 := [
    0x428A2F98D728AE22, 0x7137449123EF65CD, 0xB5C0FBCFEC4D3B2F, 0xE9B5DBA58189DBBC,
    0x3956C25BF348B538, 0x59F111F1B605D019, 0x923F82A4AF194F9B, 0xAB1C5ED5DA6D8118,
    0xD807AA98A3030242, 0x12835B0145706FBE, 0x243185BE4EE4B28C, 0x550C7DC3D5FFB4E2,
    0x72BE5D74F27B896F, 0x80DEB1FE3B1696B1, 0x9BDC06A725C71235, 0xC19BF174CF692694,
    0xE49B69C19EF14AD2, 0xEFBE4786384F25E3, 0x0FC19DC68B8CD5B5, 0x240CA1CC77AC9C65,
    0x2DE92C6F592B0275, 0x4A7484AA6EA6E483, 0x5CB0A9DCBD41FBD4, 0x76F988DA831153B5,
    0x983E5152EE66DFAB, 0xA831C66D2DB43210, 0xB00327C898FB213F, 0xBF597FC7BEEF0EE4,
    0xC6E00BF33DA88FC2, 0xD5A79147930AA725, 0x06CA6351E003826F, 0x142929670A0E6E70,
    0x27B70A8546D22FFC, 0x2E1B21385C26C926, 0x4D2C6DFC5AC42AED, 0x53380D139D95B3DF,
    0x650A73548BAF63DE, 0x766A0ABB3C77B2A8, 0x81C2C92E47EDAEE6, 0x92722C851482353B]
def sha512K2 : List W64 := [
    0xA2BFE8A14CF10364, 0xA81A664BBC423001, 0xC24B8B70D0F89791, 0xC76C51A30654BE30,
    0xD192E819D6EF5218, 0xD69906245565A910, 0xF40E35855771202A, 0x106AA07032BBD1B8,
    0x19A4C116B8D2D0C8, 0x1E376C085141AB53, 0x2748774CDF8EEB99, 0x34B0BCB5E19B48A8,
    0x391C0CB3C5C95A63, 0x4ED8AA4AE3418ACB, 0x5B9CCA4F7763E373, 0x682E6FF3D6B2B8A3,
    0x748F82EE5DEFB2FC, 0x78A5636F43172F60, 0x84C87814A1F0AB72, 0x8CC702081A6439EC,
    0x90BEFFFA23631E28, 0xA4506CEBDE82BDE9, 0xBEF9A3F7B2C67915, 0xC67178F2E372532B,
    0xCA273ECEEA26619C, 0xD186B8C721C0C207, 0xEADA7DD6CDE0EB1E, 0xF57D4F7FEE6ED178,
    0x06F067AA72176FBA, 0x0A637DC5A2C898A6, 0x113F9804BEF90DAE, 0x1B710B35131C471B,
    0x28DB77F523047D84, 0x32CAAB7B40C72493, 0x3C9EBE0A15C9BEBC, 0x431D67C49C100D4C,
    0x4CC5D4BECB3E42B6, 0x597F299CFC657E2A, 0x5FCB6FAB3AD6FAEC, 0x6C44198C4A475817]
def sha512K : List W64 := sha512K1 ++ sha512K2

def sha384Init : List W64 := [
    0xCBBB9D5DC1059ED8, 0x629A292A367CD507, 0x9159015A3070DD17, 0x152FECD8F70E5939,
    0x67332667FFC00B31, 0x8EB44A8768581511, 0xDB0C2E0D64F98FA7, 0x47B5481DBEFA4FA4]

/-- Eight-byte big-endian words of a message block. -/
def beWords (n : Nat) (bs : List Byte) : List W64 :=
  match n with
  | 0 => []
  | k + 1 => BitVec.ofNat 64 (beNat (bs.take 8)) :: beWords k (bs.drop 8)

/-- One further schedule word; the schedule is kept newest first. -/
def shaNextW (w : List W64) : W64 :=
  let s0 := fun (x : W64) => (x.rotateRight 1) ^^^ (x.rotateRight 8) ^^^ (x >>> 7)
  let s1 := fun (x : W64) => (x.rotateRight 19) ^^^ (x.rotateRight 61) ^^^ (x >>> 6)
  s1 (w.getD 1 0) + w.getD 6 0 + s0 (w.getD 14 0) + w.getD 15 0

def shaExpand (n : Nat) (w : List W64) : List W64 :=
  match n with
  | 0 => w
  | k + 1 => shaExpand k (shaNextW w :: w)

structure ShaVars where
  a : W64
  b : W64
  c : W64
  d : W64
  e : W64
  f : W64
  g : W64
  h : W64
  deriving DecidableEq, Repr

def shaRound (v : ShaVars) (k w : W64) : ShaVars :=
  let t1 := v.h + ((v.e.rotateRight 14) ^^^ (v.e.rotateRight 18) ^^^ (v.e.rotateRight 41)) +
    ((v.e &&& v.f) ^^^ (~~~v.e &&& v.g)) + k + w
  let t2 := ((v.a.rotateRight 28) ^^^ (v.a.rotateRight 34) ^^^ (v.a.rotateRight 39)) +
    ((v.a &&& v.b) ^^^ (v.a &&& v.c) ^^^ (v.b &&& v.c))
  ⟨t1 + t2, v.a, v.b, v.c, v.d + t1, v.e, v.f, v.g⟩

def shaRounds (v : ShaVars) (ks ws : List W64) : ShaVars :=
  match ks, ws with
  | k :: ks, w :: ws => shaRounds (shaRound v k w) ks ws
  | _, _ => v

def ShaVars.words (v : ShaVars) : List W64 := [v.a, v.b, v.c, v.d, v.e, v.f, v.g, v.h]

/-- Absorb one 128-byte block. -/
def shaBlock (h : List W64) (block : List Byte) : List W64 :=
  let w := (shaExpand 64 (beWords 16 block).reverse).reverse
  let v : ShaVars := ⟨h.getD 0 0, h.getD 1 0, h.getD 2 0, h.getD 3 0, h.getD 4 0, h.getD 5 0, h.getD 6 0, h.getD 7 0⟩
  List.zipWith (· + ·) h (shaRounds v sha512K w).words

def shaBlocks (n : Nat) (h : List W64) (bs : List Byte) : List W64 :=
  match n with
  | 0 => h
  | k + 1 => shaBlocks k (shaBlock h (bs.take 128)) (bs.drop 128)

/-- SHA-384 of a byte string, 48 bytes in the order the algorithm emits them (R7). -/
def sha384 (m : List Byte) : List Byte :=
  let padLen := (128 - (m.length + 17) % 128) % 128
  let padded := m ++ [0x80#8] ++ zeros padLen ++ beBytes 16 (8 * m.length)
  let h := shaBlocks (padded.length / 128) sha384Init padded
  ((h.take 6).map (fun w => beBytes 8 w.toNat)).flatten

/-- HMAC-SHA-384. -/
def hmac384 (key m : List Byte) : List Byte :=
  let k0 := if key.length <= 128 then key else sha384 key
  let k := k0 ++ zeros (128 - k0.length)
  sha384 (k.map (· ^^^ 0x5C#8) ++ sha384 (k.map (· ^^^ 0x36#8) ++ m))

/-- HKDF-SHA-384 with at most 48 bytes of output. -/
def hkdf384 (salt ikm info : List Byte) (len : Nat) : List Byte :=
  (hmac384 (hmac384 salt ikm) (info ++ [1#8])).take len

/-! ### Cyclic codes, reflected, with all-ones preset and final inversion -/

def crcBits (n : Nat) (poly crc : W32) : W32 :=
  match n with
  | 0 => crc
  | k + 1 => crcBits k poly (if crc.getLsbD 0 then (crc >>> 1) ^^^ poly else crc >>> 1)

def crcReflected (poly : W32) (bs : List Byte) : W32 :=
  ~~~ bs.foldl (fun c b => crcBits 8 poly (c ^^^ b.zeroExtend 32)) 0xFFFFFFFF#32

/-- CRC-32, IEEE 802.3 polynomial. -/
def crc32 (bs : List Byte) : W32 := crcReflected 0xEDB88320#32 bs
/-- CRC-32C, Castagnoli polynomial. -/
def crc32c (bs : List Byte) : W32 := crcReflected 0x82F63B78#32 bs

end Sys2Proof.Machine
end

