-- ==== Sys2Proof/Machine/RegMap.lean ====
section
/-! DEFINITION. The register map: where each register stands, its access code, what a start does to it (R8, R31, R96, R150,
R282, R318, R323, R346, R348, R385, R415, R460, R464, R500, R535, R580, R584, R605, R639, R665, R666, R686, R687, R688).
Registers of BAR2 stand by BAR2 offset, the others by PF BAR4 offset (R428, R429). -/

namespace Sys2Proof.Machine
open Sys2Proof

/-- Access codes. -/
inductive Acc where
  | ro | rw | rwl | w1c | w1s | rc | wo
  deriving DecidableEq, Repr

/-- A row of a register table: `count` registers from `off`, `stride` apart, of 8 bytes when `wide`. `keepC` and `keepW`: a cold
or a warm start does not set it to `cold` (it keeps it, or sets it in a step of its own). `mask`: its RW or W1C bits (R10). -/
structure RegRow where
  off : Nat
  stride : Nat
  count : Nat
  wide : Bool
  acc : Acc
  keepC : Bool
  keepW : Bool
  cold : Nat
  mask : Nat
  deriving DecidableEq, Repr

def IDN_PART : Nat := 0x0
def IDN_STEPPING : Nat := 0x4
def IDN_SERIAL : Nat := 0x8
def IDN_TILES_PRESENT : Nat := 0x10
def IDN_STACKS_PRESENT : Nat := 0x14
def IDN_TILE_SPARES : Nat := 0x20
def IDN_FOLD_SPARES : Nat := 0x60
def IDN_SITE : Nat := 0x80
def IDN_TAG_STATUS : Nat := 0x100
def IDN_TAG_COMMIT : Nat := 0x104
def IDN_TAG_STAGE_PF : Nat := 0x400
def IDN_TAG_STAGE_I3C : Nat := 0x500
def IDN_TAG_CURRENT : Nat := 0x800
def IDN_TAG_OTP : Nat := 0x1000
def STL_EPOCH : Nat := 0x0
def STL_BIND_STATE : Nat := 0x4
def STL_RING_HEAD : Nat := 0x8
def STL_AUDIT_HEAD : Nat := 0x10
def STL_GAP_HOLD : Nat := 0x18
def STL_WM_PERIOD : Nat := 0x1C
def STL_WATERMARK : Nat := 0x20
def STL_DUP_COUNT : Nat := 0xA0
def STL_REFUSE_COUNT : Nat := 0xA4
def STL_UNBOUND_DROPS : Nat := 0xA8
def STL_BUSY_WRITES : Nat := 0xAC
def STL_ABANDONED : Nat := 0xB0
def STL_REPLAYS : Nat := 0xB4
def JRN_CAPACITY : Nat := 0x100
def JRN_IN_USE : Nat := 0x104
def JRN_STATUS : Nat := 0x108
def JRN_RELEASE_MAX : Nat := 0x10C
def JRN_RELEASE_SIZE : Nat := 0x110
def PDK_HIRSELS : Nat := 0x400
def PDK_INCOMPLETE : Nat := 0x420
def PDK_HBM_GIB : Nat := 0x440
def PDK_FOLD_SLICES : Nat := 0x444
def PDK_IMAGE_SIZE : Nat := 0x448
def PDK_PRIVATE_SIZE : Nat := 0x44C
def PDK_COMMONS : Nat := 0x450
def PDK_TEAM : Nat := 0x454
def PDK_HURDLE_TIMEOUT : Nat := 0x458
def PDK_STATE : Nat := 0x45C
def PDK_HANDLES : Nat := 0x460
def PDK_MEASURE_COUNT : Nat := 0x464
def DSP_RUNNING : Nat := 0x480
def DSP_LAUNCHES : Nat := 0x484
def DSP_STREAM_RERUNS : Nat := 0x488
def DSP_HIRSEL_WAITS : Nat := 0x48C
def DSP_LAUNCH_MAX : Nat := 0x490
def DSP_MEMO_HITS : Nat := 0x494
def DIR_ENTRIES : Nat := 0x800
def DIR_BASE : Nat := 0x804
def DIR_KEYS : Nat := 0x808
def DIR_FULLEST : Nat := 0x80C
def DIR_LOOKUPS : Nat := 0x810
def DIR_HITS : Nat := 0x814
def DIR_RESTARTS : Nat := 0x818
def DIR_PENDING : Nat := 0x81C
def DIR_FULL_REFUSALS : Nat := 0x820
def DIR_DAMAGED : Nat := 0x824
def DIR_LAST_DAMAGED : Nat := 0x828
def DIR_REBUILDS : Nat := 0x82C
def FOR_EVALS : Nat := 0x900
def FOR_PAIR_LEVELS : Nat := 0x908
def FOR_NODE_FILLS : Nat := 0x910
def FOR_SPAN_OVERFLOWS : Nat := 0x914
def FOR_EVAL_MAX : Nat := 0x918
def MCT_GLOBAL_UNITS : Nat := 0x10000
def MCT_STACK_UNITS : Nat := 0x10004
def MCT_HUB_GIB : Nat := 0x10008
def MCT_PASTURE_CFG : Nat := 0x1000C
def MCT_WRITE_BATCH : Nat := 0x10010
def MCT_UE_FENCE : Nat := 0x10014
def MCT_TWIN_STATUS : Nat := 0x10018
def MCT_CE_COUNT : Nat := 0x1001C
def MCT_UE_COUNT : Nat := 0x10020
def MCT_TWIN_REPAIRS : Nat := 0x10024
def MCT_MARGIN_SEL : Nat := 0x10030
def MCT_MARGIN_RESULT : Nat := 0x10034
def MCT_STACK_STATUS : Nat := 0x10100
def FLD_SLICE_MAP : Nat := 0x20000
def FLD_STAGE_OVERFLOWS : Nat := 0x20400
def FLD_XA_SPILLS : Nat := 0x20404
def FLD_READ_HITS : Nat := 0xA00
def FLD_READ_MISSES : Nat := 0xA04
def FLD_STAGE_SPILLS : Nat := 0xA08
def MCT_POISON_COMPLETIONS : Nat := 0xA0C
def MCT_LAST_POISON : Nat := 0xA10
def BWG_DELIVERABLE : Nat := 0x30000
def BWG_ADMITTED : Nat := 0x30020
def BWG_HUB_FLOW : Nat := 0x30040
def BWG_URGENCY_LEVELS : Nat := 0x30050
def BWG_FEEDBACK : Nat := 0x30054
def BWG_SHORTFALL_STATUS : Nat := 0x30060
def BWG_SHORTFALL_EVENTS : Nat := 0x30064
def BWG_URGENT_WINDOWS : Nat := 0x30070
def BWG_FLOW : Nat := 0xB00
def BWG_SCALE : Nat := 0xB20
def BWG_URGENCY : Nat := 0xB24
def BWG_BYTES : Nat := 0xB40
def BWG_SURPLUS : Nat := 0xB48
def BWG_WAIT_WINDOWS : Nat := 0xB50
def BWG_MISS_WINDOWS : Nat := 0xB54
def NOC_MAP_SEL : Nat := 0x40000
def NOC_MAP_DATA : Nat := 0x40004
def NOC_ROUTE_SEL : Nat := 0x40008
def NOC_ROUTE_DATA : Nat := 0x40010
def NOC_HALF_LINKS : Nat := 0x40018
def NOC_RETRIES : Nat := 0x4001C
def NOC_E2E_ERRORS : Nat := 0x40020
def NOC_LATE_SPEAKERS : Nat := 0x40024
def NOC_DENIED : Nat := 0x40028
def SNP_WINDOW_GIB : Nat := 0x50000
def SNP_AGENTS : Nat := 0x50004
def SNP_TRANSACTIONS : Nat := 0x50008
def SNP_PUSHES : Nat := 0x5000C
def SNP_NEED_PUSHES : Nat := 0x50010
def SNP_LOST_LINES : Nat := 0x50014
def SNP_TXN_MAX : Nat := 0x50018
def XLT_PASID : Nat := 0xC00
def XLT_TABLE_MIB : Nat := 0xC04
def XLT_ROOT : Nat := 0xC08
def XLT_TABLE_USED : Nat := 0xC0C
def XLT_PRI_TIMEOUT : Nat := 0xC10
def XLT_PRI_STATE : Nat := 0xC14
def XLT_FAULT_VA : Nat := 0xC18
def XLT_FAULT_INFO : Nat := 0xC20
def XLT_TLB_MISSES : Nat := 0xC24
def XLT_WALKS : Nat := 0xC28
def XLT_ATS_REQUESTS : Nat := 0xC2C
def XLT_ATS_INVALIDATIONS : Nat := 0xC30
def XLT_PAGE_REQUESTS : Nat := 0xC34
def XLT_MERGED_FAULTS : Nat := 0xC38
def XLT_WRITEOUT_LOSSES : Nat := 0xC3C
def XLT_STALE_RESPONSES : Nat := 0xC40
def PCE_INT_STATUS : Nat := 0x60000
def PCE_INT_ENABLE : Nat := 0x60004
def PCE_INT_HOLDOFF : Nat := 0x60008
def PCE_LINK_STATUS : Nat := 0x6000C
def PCE_L1_IDLE : Nat := 0x60010
def PCE_L0P_POLICY : Nat := 0x60014
def PCE_PTM_PERIOD : Nat := 0x60018
def PCE_PTM_STATUS : Nat := 0x6001C
def PCE_PTM_OFFSET : Nat := 0x60020
def PCE_L1_ENTRIES : Nat := 0x60028
def PCE_L0P_CHANGES : Nat := 0x6002C
def PCE_CPL_TIMEOUTS : Nat := 0x60030
def PCE_CPL_ERRORS : Nat := 0x60034
def PCE_BAD_ACCESSES : Nat := 0x60038
def PCE_FUNC_STATUS_ALL : Nat := 0x60100
def PCE_FUNC_STATUS : Nat := 0xD00
def PCE_FLR_COUNT : Nat := 0xD04
def PCE_FLR_CARRIED : Nat := 0xD08
def PCE_QUIESCE_MAX : Nat := 0xD0C
def LNK_NODE : Nat := 0x70000
def LNK_BELLWETHER : Nat := 0x70004
def LNK_TRAIN_TIMEOUT : Nat := 0x70008
def LNK_REKEY_MS : Nat := 0x7000C
def LNK_TIME_PERIOD : Nat := 0x70010
def LNK_TIME_STATUS : Nat := 0x70014
def LNK_TIME_OFFSET : Nat := 0x70018
def LNK_TEAM_SEL : Nat := 0x70020
def LNK_TEAM_DATA : Nat := 0x70024
def LNK_REACH : Nat := 0x70040
def LNK_PORT_CFG : Nat := 0x70100
def LNK_PORT_STATUS : Nat := 0x70140
def LNK_PORT_LANES : Nat := 0x70180
def LNK_FEC_CORRECTED : Nat := 0x70200
def LNK_FEC_FAILED : Nat := 0x70208
def LNK_RETRIES : Nat := 0x7020C
def LNK_AUTH_FAILS : Nat := 0x70210
def LNK_REKEYS : Nat := 0x70214
def LNK_LANE_SWAPS : Nat := 0x70218
def LNK_E2E_RETRANSMITS : Nat := 0x70400
def LNK_UNREACHABLE : Nat := 0x70404
def LNK_DENIED : Nat := 0x70408
def LNK_ROUTE_CHANGES : Nat := 0x7040C
def LNK_FORWARDED : Nat := 0x70410
def CMN_SITE_CFG : Nat := 0x80000
def CMN_SITE_STATUS : Nat := 0x80004
def CMN_DECLARE : Nat := 0x80008
def CMN_IDENT : Nat := 0x8000C
def CMN_SERIAL : Nat := 0x80010
def CMN_TELEMETRY : Nat := 0x80018
def CMN_RESP_NS : Nat := 0x8001C
def CMN_MEAS_SEL : Nat := 0x80020
def CMN_MEAS_DATA : Nat := 0x80024
def CMN_WIN_REQUESTS : Nat := 0x80028
def CMN_DMA_REQUESTS : Nat := 0x8002C
def CMN_TIMEOUTS : Nat := 0x80030
def CMN_CHECK_FAILS : Nat := 0x80034
def CMN_FAULT_REPORTS : Nat := 0x80038
def CMN_THROTTLES : Nat := 0x8003C
def CMN_LAST_FAULT : Nat := 0x80040
def SEC_PADDOCK_CFG : Nat := 0x90000
def SEC_CHALLENGE_NEW : Nat := 0x90080
def SEC_TOKEN_SUBMIT : Nat := 0x90084
def SEC_TOKEN_STATUS : Nat := 0x90088
def SEC_DEBUG_OPEN : Nat := 0x9008C
def SEC_DEBUG_REMAIN : Nat := 0x90090
def SEC_DEBUG_STATUS : Nat := 0x90094
def SEC_DEBUG_ADDR : Nat := 0x90098
def SEC_DEBUG_DATA : Nat := 0x900A0
def SEC_SCRUB : Nat := 0x900A8
def SEC_SCRUB_STATUS : Nat := 0x900AC
def SEC_SCRUBS : Nat := 0x900B0
def SEC_INTEGRITY_FAILS : Nat := 0x900B4
def SEC_WINDOW_TAG_FAILS : Nat := 0x900B8
def SEC_TDI_STATE : Nat := 0x90100
def SEC_CHALLENGE : Nat := 0x90200
def SEC_IK_PUBLIC : Nat := 0x90300
def SEC_TOKEN : Nat := 0x90400
def LCS_STATE : Nat := 0xA0000
def LCS_PROGRESS : Nat := 0xA0004
def LCS_STATUS : Nat := 0xA0008
def LCS_OTP : Nat := 0xA0100
def SDG_STATUS : Nat := 0xB0000
def SDG_QUIET_MS : Nat := 0xB0004
def SDG_RECOVERY_LIMIT : Nat := 0xB0008
def SDG_RECOVERIES : Nat := 0xB000C
def SDG_UNIT_LIMIT : Nat := 0xB0010
def SDG_SELF_CE : Nat := 0xB0014
def SDG_FIRST_ADDR : Nat := 0xB0020
def SDG_FIRST_TIME : Nat := 0xB0028
def SDG_FIRST_INFO : Nat := 0xB0030
def SDG_FIRST_CAUSE : Nat := 0xB0034
def SDG_Q_OLDEST : Nat := 0xB0040
def SDG_Q_RELEASE : Nat := 0xB0044
def SDG_Q_COUNT : Nat := 0xB0048
def SDG_Q_DISPLACED : Nat := 0xB004C
def SDG_PINFOLD_COUNT : Nat := 0xB0050
def SDG_PINFOLD_LOST : Nat := 0xB0054
def SDG_PINFOLD_SEL : Nat := 0xB0058
def SDG_PINFOLD_DATA : Nat := 0xB0060
def SDG_PINFOLD_TIME : Nat := 0xB0068
def SDG_OVF_CE : Nat := 0xB0100
def SDG_OVF_UC : Nat := 0xB0200
def SDG_QUEUE : Nat := 0xB8000
def BOOT_STATUS : Nat := 0x110000
def BOOT_FB_REASON : Nat := 0x110004
def BOOT_START_MS : Nat := 0x110008
def BOOT_WARM_COUNT : Nat := 0x11000C
def BOOT_START_REQ : Nat := 0x110010
def BOOT_TRAIN_STATUS : Nat := 0x110014
def BOOT_SLOT_INFO : Nat := 0x110018
def BOOT_TEMPLATE_REASON : Nat := 0x110020
def BOOT_FLASH_CMD : Nat := 0x110040
def BOOT_FLASH_ADDR : Nat := 0x110044
def BOOT_FLASH_STATUS : Nat := 0x110048
def BOOT_FLASH_BUF : Nat := 0x110100
def BOOT_FUSE_SEL : Nat := 0x110200
def BOOT_FUSE_DATA : Nat := 0x110204
def PWR_CAP : Nat := 0xE0000
def PWR_CAP_RUN : Nat := 0xE0004
def PWR_TILE_SETPOINT : Nat := 0xE0008
def PWR_HUB_SETPOINT : Nat := 0xE000C
def PWR_THERM_TARGET : Nat := 0xE0010
def PWR_INPUT : Nat := 0xE0014
def PWR_CAP_STATE : Nat := 0xE0018
def PWR_HUB_RAIL : Nat := 0xE001C
def PWR_TILE : Nat := 0xE0040
def PWR_THERM_EVENTS : Nat := 0xE0080
def PWR_CAP_WINDOWS : Nat := 0xE0084
def CLK_MODE : Nat := 0xF0000
def CLK_LOCK_HBM : Nat := 0xF0004
def CLK_LOCK_OTHER : Nat := 0xF0008
def CAL_LIMITS : Nat := 0x100000
def CAL_HOLD_MS : Nat := 0x100004
def CAL_HBM_STACK : Nat := 0x100100
def CAL_PORT : Nat := 0x100200
def CAL_CE_COUNT : Nat := 0x100300
def CAL_UC_COUNT : Nat := 0x100304
def CAL_BYTES : Nat := 0x100310
def CAL_CANARY_LATE : Nat := 0x100318
def TLY_COUNT : Nat := 0xC0000
def TLY_RESET : Nat := 0xC0100
def TLY_FAB_FILTER : Nat := 0xC0104
def TLY_FAB_SNAP : Nat := 0xC0108
def TLY_FAB_SNAP_GEN : Nat := 0xC010C
def TLY_FAB_SNAP_TIME : Nat := 0xC0110
def TLY_FAB : Nat := 0xC4000
def TLY_FAB_SNAPSHOT : Nat := 0xC8000
def TLY_FN_COUNT : Nat := 0x1000
def TLY_FN_RESET : Nat := 0x1100
def TLY_REC_CTL : Nat := 0x2000
def TLY_REC_SEL : Nat := 0x2040
def TLY_REC_COUNT : Nat := 0x2080
def TLY_REC_HIST : Nat := 0x2100
def TRC_BUF_CFG : Nat := 0xD0000
def TRC_BUF_CTL : Nat := 0xD0010
def TRC_BUF_STATUS : Nat := 0xD0020
def TRC_BUF_BASE : Nat := 0xD0040
def TRC_WRITE_PTR : Nat := 0xD0080
def TRC_TRIGGER_PTR : Nat := 0xD00C0
def TRC_DROPPED : Nat := 0xD0100
def TRC_TRIGGER : Nat := 0xD0110
def TRC_TRIGGER_CLASS : Nat := 0xD0114
def TRC_EXC_PADDOCKS : Nat := 0xD0118
def TRC_ROUTE : Nat := 0xD011C
def TRC_TRIGGERS_IGNORED : Nat := 0xD0120
def TRC_READ_SEL : Nat := 0xD0200
def TRC_PROBE_CTL : Nat := 0xD0800
def TRC_PROBE_ADDR_MATCH : Nat := 0xD0808
def TRC_PROBE_ADDR_MASK : Nat := 0xD0810
def TRC_PROBE_SRC_MATCH : Nat := 0xD0818
def TRC_PROBE_SRC_MASK : Nat := 0xD081C
def TRC_PROBE_OP_MASK : Nat := 0xD0820
def TRC_PROBE_COUNT : Nat := 0xD0828
def TRC_READ_WINDOW : Nat := 0xD1000

/-! ### Rows of BAR2 -/
def bar2Rows0 : List RegRow := [
  ⟨0x0, 4, 1, false, .ro, true, true, 0x0, 0x0⟩,
  ⟨0x4, 4, 1, false, .ro, false, true, 0x0, 0x0⟩,
  ⟨0x8, 4, 1, false, .rw, false, true, 0x0, 0xFFFFFFFF⟩,
  ⟨0x10, 8, 1, true, .rw, false, true, 0x0, 0xFFFFFFFFFFFFFFFF⟩,
  ⟨0x18, 4, 1, false, .rwl, true, true, 0x0, 0x0⟩,
  ⟨0x1C, 4, 1, false, .rwl, true, true, 0x0, 0x0⟩,
  ⟨0x20, 8, 16, true, .ro, false, true, 0x0, 0x0⟩,
  ⟨0xA0, 4, 1, false, .ro, false, true, 0x0, 0x0⟩,
  ⟨0xA4, 4, 1, false, .ro, false, true, 0x0, 0x0⟩,
  ⟨0xA8, 4, 1, false, .ro, false, true, 0x0, 0x0⟩,
  ⟨0xAC, 4, 1, false, .ro, false, true, 0x0, 0x0⟩,
  ⟨0xB0, 4, 1, false, .ro, false, true, 0x0, 0x0⟩,
  ⟨0xB4, 4, 1, false, .ro, false, true, 0x0, 0x0⟩,
  ⟨0x100, 4, 1, false, .rwl, true, true, 0x0, 0x0⟩,
  ⟨0x104, 4, 1, false, .ro, false, true, 0x0, 0x0⟩,
  ⟨0x108, 4, 1, false, .ro, true, true, 0x0, 0x0⟩,
  ⟨0x10C, 4, 1, false, .rwl, true, true, 0x0, 0x0⟩,
  ⟨0x110, 4, 1, false, .rwl, true, true, 0x0, 0x0⟩,
  ⟨0x400, 4, 8, false, .ro, true, true, 0x0, 0x0⟩,
  ⟨0x420, 4, 8, false, .ro, false, true, 0x0, 0x0⟩,
  ⟨0x440, 4, 1, false, .ro, true, true, 0x0, 0x0⟩,
  ⟨0x444, 4, 1, false, .ro, true, true, 0x0, 0x0⟩,
  ⟨0x448, 4, 1, false, .ro, true, true, 0x0, 0x0⟩,
  ⟨0x44C, 4, 1, false, .ro, true, true, 0x0, 0x0⟩,
  ⟨0x450, 4, 1, false, .ro, true, true, 0x0, 0x0⟩,
  ⟨0x454, 4, 1, false, .ro, true, true, 0x0, 0x0⟩,
  ⟨0x458, 4, 1, false, .rwl, true, true, 0x0, 0x0⟩,
  ⟨0x45C, 4, 1, false, .ro, true, true, 0x0, 0x0⟩,
  ⟨0x460, 4, 1, false, .ro, false, true, 0x0, 0x0⟩,
  ⟨0x464, 4, 1, false, .ro, false, true, 0x0, 0x0⟩,
  ⟨0x480, 4, 1, false, .ro, false, false, 0x0, 0x0⟩,
  ⟨0x484, 4, 1, false, .ro, false, true, 0x0, 0x0⟩,
  ⟨0x488, 4, 1, false, .ro, false, true, 0x0, 0x0⟩,
  ⟨0x48C, 4, 1, false, .ro, false, true, 0x0, 0x0⟩,
  ⟨0x490, 4, 1, false, .rc, false, false, 0x0, 0x0⟩,
  ⟨0x494, 4, 1, false, .ro, false, true, 0x0, 0x0⟩,
  ⟨0x800, 4, 1, false, .ro, true, true, 0x0, 0x0⟩,
  ⟨0x804, 4, 1, false, .ro, true, true, 0x0, 0x0⟩,
  ⟨0x808, 4, 1, false, .ro, false, true, 0x0, 0x0⟩,
  ⟨0x80C, 4, 1, false, .ro, false, true, 0x0, 0x0⟩]
def bar2Rows1 : List RegRow := [
  ⟨0x810, 4, 1, false, .ro, false, true, 0x0, 0x0⟩,
  ⟨0x814, 4, 1, false, .ro, false, true, 0x0, 0x0⟩,
  ⟨0x818, 4, 1, false, .ro, false, true, 0x0, 0x0⟩,
  ⟨0x81C, 4, 1, false, .ro, false, true, 0x0, 0x0⟩,
  ⟨0x820, 4, 1, false, .ro, false, true, 0x0, 0x0⟩,
  ⟨0x824, 4, 1, false, .ro, false, true, 0x0, 0x0⟩,
  ⟨0x828, 4, 1, false, .ro, false, true, 0x0, 0x0⟩,
  ⟨0x82C, 4, 1, false, .ro, false, true, 0x0, 0x0⟩,
  ⟨0x900, 4, 1, false, .ro, false, true, 0x0, 0x0⟩,
  ⟨0x908, 8, 1, true, .ro, false, true, 0x0, 0x0⟩,
  ⟨0x910, 4, 1, false, .ro, false, true, 0x0, 0x0⟩,
  ⟨0x914, 4, 1, false, .ro, false, true, 0x0, 0x0⟩,
  ⟨0x918, 4, 1, false, .rc, false, false, 0x0, 0x0⟩,
  ⟨0xA00, 4, 1, false, .ro, false, false, 0x0, 0x0⟩,
  ⟨0xA04, 4, 1, false, .ro, false, false, 0x0, 0x0⟩,
  ⟨0xA08, 4, 1, false, .ro, false, false, 0x0, 0x0⟩,
  ⟨0xA0C, 4, 1, false, .ro, false, true, 0x0, 0x0⟩,
  ⟨0xA10, 8, 1, true, .ro, false, true, 0x0, 0x0⟩,
  ⟨0xB00, 4, 6, false, .ro, true, true, 0x0, 0x0⟩,
  ⟨0xB20, 4, 1, false, .ro, false, true, 0x10000, 0x0⟩,
  ⟨0xB24, 4, 1, false, .ro, false, false, 0x0, 0x0⟩,
  ⟨0xB40, 32, 6, true, .ro, false, false, 0x0, 0x0⟩,
  ⟨0xB48, 32, 6, true, .ro, false, false, 0x0, 0x0⟩,
  ⟨0xB50, 32, 6, false, .ro, false, false, 0x0, 0x0⟩,
  ⟨0xB54, 32, 6, false, .ro, false, true, 0x0, 0x0⟩,
  ⟨0xC00, 4, 1, false, .rw, false, true, 0x0, 0xFFFFF⟩,
  ⟨0xC04, 4, 1, false, .ro, true, true, 0x0, 0x0⟩,
  ⟨0xC08, 4, 1, false, .ro, true, true, 0x0, 0x0⟩,
  ⟨0xC0C, 4, 1, false, .ro, false, true, 0x1, 0x0⟩,
  ⟨0xC10, 4, 1, false, .rwl, true, true, 0x0, 0x0⟩,
  ⟨0xC14, 4, 1, false, .ro, false, false, 0x0, 0x0⟩,
  ⟨0xC18, 8, 1, true, .ro, false, false, 0x0, 0x0⟩,
  ⟨0xC20, 4, 1, false, .ro, false, false, 0x0, 0x0⟩,
  ⟨0xC24, 4, 1, false, .ro, false, false, 0x0, 0x0⟩,
  ⟨0xC28, 4, 1, false, .ro, false, false, 0x0, 0x0⟩,
  ⟨0xC2C, 4, 1, false, .ro, false, false, 0x0, 0x0⟩,
  ⟨0xC30, 4, 1, false, .ro, false, false, 0x0, 0x0⟩,
  ⟨0xC34, 4, 1, false, .ro, false, true, 0x0, 0x0⟩,
  ⟨0xC38, 4, 1, false, .ro, false, true, 0x0, 0x0⟩,
  ⟨0xC3C, 4, 1, false, .ro, false, true, 0x0, 0x0⟩]
def bar2Rows2 : List RegRow := [
  ⟨0xC40, 4, 1, false, .ro, false, true, 0x0, 0x0⟩,
  ⟨0xD00, 4, 1, false, .ro, false, false, 0x0, 0x0⟩,
  ⟨0xD04, 4, 1, false, .ro, false, true, 0x0, 0x0⟩,
  ⟨0xD08, 4, 1, false, .ro, false, true, 0x0, 0x0⟩,
  ⟨0xD0C, 4, 1, false, .rc, false, false, 0x0, 0x0⟩,
  ⟨0x1000, 8, 32, true, .ro, false, false, 0x0, 0x0⟩,
  ⟨0x1100, 4, 1, false, .wo, false, false, 0x0, 0x0⟩,
  ⟨0x2000, 4, 1, false, .rw, false, false, 0x0, 0x8000000F⟩,
  ⟨0x2040, 4, 16, false, .rw, false, false, 0x0, 0xFF⟩,
  ⟨0x2080, 8, 16, true, .ro, false, false, 0x0, 0x0⟩,
  ⟨0x2100, 8, 16, true, .ro, false, false, 0x0, 0x0⟩]
def bar2Rows : List RegRow := bar2Rows0 ++ bar2Rows1 ++ bar2Rows2

/-! ### Rows of PF BAR4 -/
def bar4Rows0 : List RegRow := [
  ⟨0x0, 4, 1, false, .ro, false, true, 0x4C241620, 0x0⟩,
  ⟨0x4, 4, 1, false, .ro, true, true, 0x0, 0x0⟩,
  ⟨0x8, 8, 1, true, .ro, true, true, 0x0, 0x0⟩,
  ⟨0x10, 4, 1, false, .ro, false, true, 0xFFFF, 0x0⟩,
  ⟨0x14, 4, 1, false, .ro, false, true, 0xFFFFFF, 0x0⟩,
  ⟨0x20, 4, 16, false, .ro, true, true, 0x0, 0x0⟩,
  ⟨0x60, 4, 1, false, .ro, true, true, 0x0, 0x0⟩,
  ⟨0x80, 4, 20, false, .ro, true, true, 0x0, 0x0⟩,
  ⟨0x100, 4, 1, false, .ro, false, true, 0x0, 0x0⟩,
  ⟨0x104, 4, 1, false, .wo, false, false, 0x0, 0x0⟩,
  ⟨0x400, 4, 64, false, .rw, false, true, 0x0, 0xFFFFFFFF⟩,
  ⟨0x500, 4, 64, false, .rw, false, true, 0x0, 0xFFFFFFFF⟩,
  ⟨0x800, 4, 64, false, .ro, true, true, 0x0, 0x0⟩,
  ⟨0x1000, 4, 1024, false, .ro, true, true, 0x0, 0x0⟩,
  ⟨0x10000, 4, 1, false, .rwl, true, true, 0x0, 0x0⟩,
  ⟨0x10004, 4, 1, false, .rwl, true, true, 0x0, 0x0⟩,
  ⟨0x10008, 4, 1, false, .rwl, true, true, 0x0, 0x0⟩,
  ⟨0x1000C, 4, 1, false, .rwl, true, true, 0x0, 0x0⟩,
  ⟨0x10010, 4, 1, false, .rwl, true, true, 0x0, 0x0⟩,
  ⟨0x10014, 4, 1, false, .rwl, true, true, 0x0, 0x0⟩,
  ⟨0x10018, 4, 1, false, .ro, true, true, 0x0, 0x0⟩,
  ⟨0x1001C, 4, 1, false, .ro, false, false, 0x0, 0x0⟩,
  ⟨0x10020, 4, 1, false, .ro, false, false, 0x0, 0x0⟩,
  ⟨0x10024, 4, 1, false, .ro, false, false, 0x0, 0x0⟩,
  ⟨0x10030, 4, 1, false, .rw, false, false, 0x0, 0x800007FF⟩,
  ⟨0x10034, 4, 1, false, .ro, false, false, 0x0, 0x0⟩,
  ⟨0x10100, 4, 24, false, .ro, false, true, 0x0, 0x0⟩,
  ⟨0x20000, 4, 256, false, .rwl, true, true, 0x0, 0x0⟩,
  ⟨0x20400, 4, 1, false, .ro, false, false, 0x0, 0x0⟩,
  ⟨0x20404, 4, 1, false, .ro, false, false, 0x0, 0x0⟩,
  ⟨0x30000, 4, 6, false, .ro, false, true, 0x6CC0, 0x0⟩,
  ⟨0x30020, 4, 6, false, .ro, true, true, 0x0, 0x0⟩,
  ⟨0x30040, 4, 4, false, .rwl, true, true, 0x0, 0x0⟩,
  ⟨0x30050, 4, 1, false, .rwl, true, true, 0x0, 0x0⟩,
  ⟨0x30054, 4, 1, false, .rwl, true, true, 0x0, 0x0⟩,
  ⟨0x30060, 4, 1, false, .ro, false, false, 0x0, 0x0⟩,
  ⟨0x30064, 4, 1, false, .ro, false, true, 0x0, 0x0⟩,
  ⟨0x30070, 4, 3, false, .ro, false, false, 0x0, 0x0⟩,
  ⟨0x40000, 4, 1, false, .rw, false, false, 0x0, 0x7FFF⟩,
  ⟨0x40004, 4, 1, false, .ro, true, true, 0x0, 0x0⟩]
def bar4Rows1 : List RegRow := [
  ⟨0x40008, 4, 1, false, .rw, false, false, 0x0, 0xFFE0F⟩,
  ⟨0x40010, 8, 1, true, .ro, false, false, 0x0, 0x0⟩,
  ⟨0x40018, 4, 1, false, .ro, false, true, 0x0, 0x0⟩,
  ⟨0x4001C, 4, 1, false, .ro, false, false, 0x0, 0x0⟩,
  ⟨0x40020, 4, 1, false, .ro, false, false, 0x0, 0x0⟩,
  ⟨0x40024, 4, 1, false, .ro, false, true, 0x0, 0x0⟩,
  ⟨0x40028, 4, 1, false, .ro, false, true, 0x0, 0x0⟩,
  ⟨0x50000, 4, 1, false, .rwl, true, true, 0x0, 0x0⟩,
  ⟨0x50004, 4, 1, false, .ro, true, true, 0x0, 0x0⟩,
  ⟨0x50008, 4, 1, false, .ro, false, false, 0x0, 0x0⟩,
  ⟨0x5000C, 4, 1, false, .ro, false, false, 0x0, 0x0⟩,
  ⟨0x50010, 4, 1, false, .ro, false, false, 0x0, 0x0⟩,
  ⟨0x50014, 4, 1, false, .ro, false, true, 0x0, 0x0⟩,
  ⟨0x50018, 4, 1, false, .rc, false, false, 0x0, 0x0⟩,
  ⟨0x60000, 4, 1, false, .w1c, false, false, 0x0, 0x1FF⟩,
  ⟨0x60004, 4, 1, false, .rw, false, false, 0x0, 0x1FF⟩,
  ⟨0x60008, 4, 1, false, .rw, false, false, 0x0, 0xFFFF⟩,
  ⟨0x6000C, 4, 1, false, .ro, false, false, 0x0, 0x0⟩,
  ⟨0x60010, 4, 1, false, .rwl, true, true, 0x0, 0x0⟩,
  ⟨0x60014, 4, 1, false, .rwl, true, true, 0x0, 0x0⟩,
  ⟨0x60018, 4, 1, false, .rwl, true, true, 0x0, 0x0⟩,
  ⟨0x6001C, 4, 1, false, .ro, false, false, 0x0, 0x0⟩,
  ⟨0x60020, 8, 1, true, .ro, false, false, 0x0, 0x0⟩,
  ⟨0x60028, 4, 1, false, .ro, false, false, 0x0, 0x0⟩,
  ⟨0x6002C, 4, 1, false, .ro, false, false, 0x0, 0x0⟩,
  ⟨0x60030, 4, 1, false, .ro, false, false, 0x0, 0x0⟩,
  ⟨0x60034, 4, 1, false, .ro, false, false, 0x0, 0x0⟩,
  ⟨0x60038, 4, 1, false, .ro, false, false, 0x0, 0x0⟩,
  ⟨0x60100, 4, 32, false, .ro, false, false, 0x0, 0x0⟩,
  ⟨0x70000, 4, 1, false, .rwl, true, true, 0x0, 0x0⟩,
  ⟨0x70004, 4, 1, false, .rwl, true, true, 0x0, 0x0⟩,
  ⟨0x70008, 4, 1, false, .rwl, true, true, 0x0, 0x0⟩,
  ⟨0x7000C, 4, 1, false, .rwl, true, true, 0x0, 0x0⟩,
  ⟨0x70010, 4, 1, false, .rwl, true, true, 0x0, 0x0⟩,
  ⟨0x70014, 4, 1, false, .ro, false, false, 0x0, 0x0⟩,
  ⟨0x70018, 8, 1, true, .ro, false, false, 0x0, 0x0⟩,
  ⟨0x70020, 4, 1, false, .rw, false, false, 0x0, 0x3F000F⟩,
  ⟨0x70024, 4, 1, false, .ro, true, true, 0x0, 0x0⟩,
  ⟨0x70040, 4, 16, false, .ro, false, false, 0x0, 0x0⟩,
  ⟨0x70100, 4, 16, false, .rwl, true, true, 0x0, 0x0⟩]
def bar4Rows2 : List RegRow := [
  ⟨0x70140, 4, 16, false, .ro, false, false, 0x0, 0x0⟩,
  ⟨0x70180, 4, 16, false, .ro, false, false, 0x0, 0x0⟩,
  ⟨0x70200, 32, 16, true, .ro, false, false, 0x0, 0x0⟩,
  ⟨0x70208, 32, 16, false, .ro, false, false, 0x0, 0x0⟩,
  ⟨0x7020C, 32, 16, false, .ro, false, false, 0x0, 0x0⟩,
  ⟨0x70210, 32, 16, false, .ro, false, false, 0x0, 0x0⟩,
  ⟨0x70214, 32, 16, false, .ro, false, false, 0x0, 0x0⟩,
  ⟨0x70218, 32, 16, false, .ro, false, true, 0x0, 0x0⟩,
  ⟨0x70400, 4, 1, false, .ro, false, false, 0x0, 0x0⟩,
  ⟨0x70404, 4, 1, false, .ro, false, false, 0x0, 0x0⟩,
  ⟨0x70408, 4, 1, false, .ro, false, true, 0x0, 0x0⟩,
  ⟨0x7040C, 4, 1, false, .ro, false, false, 0x0, 0x0⟩,
  ⟨0x70410, 8, 1, true, .ro, false, false, 0x0, 0x0⟩,
  ⟨0x80000, 256, 4, false, .rwl, true, true, 0x0, 0x0⟩,
  ⟨0x80004, 256, 4, false, .ro, false, false, 0x0, 0x0⟩,
  ⟨0x80008, 256, 4, false, .ro, false, false, 0x0, 0x0⟩,
  ⟨0x8000C, 256, 4, false, .ro, false, false, 0x0, 0x0⟩,
  ⟨0x80010, 256, 4, true, .ro, false, false, 0x0, 0x0⟩,
  ⟨0x80018, 256, 4, false, .ro, false, false, 0x0, 0x0⟩,
  ⟨0x8001C, 256, 4, false, .ro, false, false, 0x0, 0x0⟩,
  ⟨0x80020, 256, 4, false, .rw, false, false, 0x0, 0xFF⟩,
  ⟨0x80024, 256, 4, false, .ro, false, false, 0x0, 0x0⟩,
  ⟨0x80028, 256, 4, false, .ro, false, false, 0x0, 0x0⟩,
  ⟨0x8002C, 256, 4, false, .ro, false, false, 0x0, 0x0⟩,
  ⟨0x80030, 256, 4, false, .ro, false, true, 0x0, 0x0⟩,
  ⟨0x80034, 256, 4, false, .ro, false, true, 0x0, 0x0⟩,
  ⟨0x80038, 256, 4, false, .ro, false, true, 0x0, 0x0⟩,
  ⟨0x8003C, 256, 4, false, .ro, false, false, 0x0, 0x0⟩,
  ⟨0x80040, 256, 4, false, .ro, false, true, 0x0, 0x0⟩,
  ⟨0x90000, 4, 32, false, .rwl, true, true, 0x0, 0x0⟩,
  ⟨0x90080, 4, 1, false, .wo, false, false, 0x0, 0x0⟩,
  ⟨0x90084, 4, 1, false, .wo, false, false, 0x0, 0x0⟩,
  ⟨0x90088, 4, 1, false, .ro, false, false, 0x0, 0x0⟩,
  ⟨0x9008C, 4, 1, false, .ro, false, false, 0x0, 0x0⟩,
  ⟨0x90090, 4, 1, false, .ro, false, false, 0x0, 0x0⟩,
  ⟨0x90094, 4, 1, false, .ro, false, false, 0x0, 0x0⟩,
  ⟨0x90098, 8, 1, true, .rw, false, false, 0x0, 0x1FFFFFFFFFFFF8⟩,
  ⟨0x900A0, 8, 1, true, .ro, false, false, 0x0, 0x0⟩,
  ⟨0x900A8, 4, 1, false, .wo, false, false, 0x0, 0x0⟩,
  ⟨0x900AC, 4, 1, false, .ro, false, false, 0x0, 0x0⟩]
def bar4Rows3 : List RegRow := [
  ⟨0x900B0, 4, 1, false, .ro, false, true, 0x0, 0x0⟩,
  ⟨0x900B4, 4, 1, false, .ro, false, true, 0x0, 0x0⟩,
  ⟨0x900B8, 4, 1, false, .ro, false, false, 0x0, 0x0⟩,
  ⟨0x90100, 4, 32, false, .ro, false, false, 0x0, 0x0⟩,
  ⟨0x90200, 4, 12, false, .ro, false, false, 0x0, 0x0⟩,
  ⟨0x90300, 4, 25, false, .ro, true, true, 0x0, 0x0⟩,
  ⟨0x90400, 4, 80, false, .rw, false, false, 0x0, 0xFFFFFFFF⟩,
  ⟨0xA0000, 4, 1, false, .ro, true, true, 0x0, 0x0⟩,
  ⟨0xA0004, 4, 1, false, .ro, true, true, 0x0, 0x0⟩,
  ⟨0xA0008, 4, 1, false, .ro, false, false, 0x0, 0x0⟩,
  ⟨0xA0100, 4, 40, false, .ro, true, true, 0x0, 0x0⟩,
  ⟨0xB0000, 4, 1, false, .ro, false, false, 0x0, 0x0⟩,
  ⟨0xB0004, 4, 1, false, .rwl, true, true, 0x0, 0x0⟩,
  ⟨0xB0008, 4, 1, false, .rwl, true, true, 0x0, 0x0⟩,
  ⟨0xB000C, 4, 1, false, .ro, false, true, 0x0, 0x0⟩,
  ⟨0xB0010, 4, 1, false, .rwl, true, true, 0x0, 0x0⟩,
  ⟨0xB0014, 4, 1, false, .ro, false, false, 0x0, 0x0⟩,
  ⟨0xB0020, 8, 1, true, .ro, false, false, 0x0, 0x0⟩,
  ⟨0xB0028, 8, 1, true, .ro, false, false, 0x0, 0x0⟩,
  ⟨0xB0030, 4, 1, false, .w1c, false, false, 0x0, 0x80000000⟩,
  ⟨0xB0034, 4, 1, false, .ro, false, false, 0x0, 0x0⟩,
  ⟨0xB0040, 4, 1, false, .ro, false, false, 0xFFFF, 0x0⟩,
  ⟨0xB0044, 4, 1, false, .wo, false, false, 0x0, 0x0⟩,
  ⟨0xB0048, 4, 1, false, .ro, false, false, 0x0, 0x0⟩,
  ⟨0xB004C, 4, 1, false, .ro, false, false, 0x0, 0x0⟩,
  ⟨0xB0050, 4, 1, false, .ro, false, true, 0x0, 0x0⟩,
  ⟨0xB0054, 4, 1, false, .ro, false, true, 0x0, 0x0⟩,
  ⟨0xB0058, 4, 1, false, .rw, false, false, 0x0, 0x7FF⟩,
  ⟨0xB0060, 8, 1, true, .ro, false, true, 0x0, 0x0⟩,
  ⟨0xB0068, 8, 1, true, .ro, false, true, 0x0, 0x0⟩,
  ⟨0xB0100, 4, 24, false, .ro, false, false, 0x0, 0x0⟩,
  ⟨0xB0200, 4, 24, false, .ro, false, false, 0x0, 0x0⟩,
  ⟨0xB8000, 4, 8192, false, .ro, false, false, 0x0, 0x0⟩,
  ⟨0x110000, 4, 1, false, .ro, true, true, 0x0, 0x0⟩,
  ⟨0x110004, 4, 1, false, .ro, true, true, 0x0, 0x0⟩,
  ⟨0x110008, 4, 1, false, .ro, true, true, 0x0, 0x0⟩,
  ⟨0x11000C, 4, 1, false, .ro, false, true, 0x0, 0x0⟩,
  ⟨0x110010, 4, 1, false, .wo, false, false, 0x0, 0x0⟩,
  ⟨0x110014, 4, 1, false, .ro, false, false, 0x0, 0x0⟩,
  ⟨0x110018, 4, 1, false, .ro, true, true, 0x0, 0x0⟩]
def bar4Rows4 : List RegRow := [
  ⟨0x110020, 4, 8, false, .ro, true, true, 0x0, 0x0⟩,
  ⟨0x110040, 4, 1, false, .wo, false, false, 0x0, 0x0⟩,
  ⟨0x110044, 4, 1, false, .rw, false, false, 0x0, 0x7FFFFFF⟩,
  ⟨0x110048, 4, 1, false, .ro, false, false, 0x0, 0x0⟩,
  ⟨0x110100, 4, 64, false, .rw, false, false, 0x0, 0xFFFFFFFF⟩,
  ⟨0x110200, 4, 1, false, .rw, false, false, 0x0, 0x3F7F⟩,
  ⟨0x110204, 4, 1, false, .ro, true, true, 0x0, 0x0⟩,
  ⟨0xE0000, 4, 1, false, .rwl, true, true, 0x0, 0x0⟩,
  ⟨0xE0004, 4, 1, false, .rw, false, false, 0x0, 0xFFF⟩,
  ⟨0xE0008, 4, 1, false, .rwl, true, true, 0x0, 0x0⟩,
  ⟨0xE000C, 4, 1, false, .rwl, true, true, 0x0, 0x0⟩,
  ⟨0xE0010, 4, 1, false, .rwl, true, true, 0x0, 0x0⟩,
  ⟨0xE0014, 4, 1, false, .ro, false, false, 0x0, 0x0⟩,
  ⟨0xE0018, 4, 1, false, .ro, false, false, 0x0, 0x0⟩,
  ⟨0xE001C, 4, 1, false, .ro, false, false, 0x0, 0x0⟩,
  ⟨0xE0040, 4, 16, false, .ro, false, false, 0x0, 0x0⟩,
  ⟨0xE0080, 4, 1, false, .ro, false, true, 0x0, 0x0⟩,
  ⟨0xE0084, 4, 1, false, .ro, false, false, 0x0, 0x0⟩,
  ⟨0xF0000, 4, 1, false, .ro, true, true, 0x0, 0x0⟩,
  ⟨0xF0004, 4, 1, false, .ro, false, false, 0x0, 0x0⟩,
  ⟨0xF0008, 4, 1, false, .ro, false, false, 0x0, 0x0⟩,
  ⟨0x100000, 4, 1, false, .ro, true, true, 0x0, 0x0⟩,
  ⟨0x100004, 4, 1, false, .ro, true, true, 0x0, 0x0⟩,
  ⟨0x100100, 4, 24, false, .ro, false, false, 0x0, 0x0⟩,
  ⟨0x100200, 4, 16, false, .ro, false, false, 0x0, 0x0⟩,
  ⟨0x100300, 4, 1, false, .ro, false, false, 0x0, 0x0⟩,
  ⟨0x100304, 4, 1, false, .ro, false, true, 0x0, 0x0⟩,
  ⟨0x100310, 8, 1, true, .ro, false, false, 0x0, 0x0⟩,
  ⟨0x100318, 4, 1, false, .ro, false, false, 0x0, 0x0⟩,
  ⟨0xC0000, 8, 32, true, .ro, false, false, 0x0, 0x0⟩,
  ⟨0xC0100, 4, 1, false, .wo, false, false, 0x0, 0x0⟩,
  ⟨0xC0104, 4, 1, false, .rw, false, false, 0x80000000, 0x8000003F⟩,
  ⟨0xC0108, 4, 1, false, .w1s, false, false, 0x0, 0x0⟩,
  ⟨0xC010C, 4, 1, false, .ro, false, false, 0x0, 0x0⟩,
  ⟨0xC0110, 8, 1, true, .ro, false, false, 0x0, 0x0⟩,
  ⟨0xC4000, 128, 75, true, .ro, false, false, 0x0, 0x0⟩,
  ⟨0xC4008, 128, 75, true, .ro, false, false, 0x0, 0x0⟩,
  ⟨0xC4010, 128, 75, true, .ro, false, false, 0x0, 0x0⟩,
  ⟨0xC4018, 128, 75, true, .ro, false, false, 0x0, 0x0⟩,
  ⟨0xC4020, 128, 75, false, .ro, false, false, 0x0, 0x0⟩]
def bar4Rows5 : List RegRow := [
  ⟨0xC4028, 128, 75, false, .ro, false, false, 0x0, 0x0⟩,
  ⟨0xC402C, 128, 75, false, .ro, false, false, 0x0, 0x0⟩,
  ⟨0xC4030, 128, 75, false, .ro, false, false, 0x0, 0x0⟩,
  ⟨0xC4034, 128, 75, false, .ro, false, false, 0x0, 0x0⟩,
  ⟨0xC4038, 128, 75, false, .ro, false, false, 0x0, 0x0⟩,
  ⟨0xC403C, 128, 75, false, .ro, false, false, 0x0, 0x0⟩,
  ⟨0xC4040, 128, 75, false, .ro, false, false, 0x0, 0x0⟩,
  ⟨0xC4044, 128, 75, false, .ro, false, false, 0x0, 0x0⟩,
  ⟨0xC8000, 128, 75, true, .ro, false, false, 0x0, 0x0⟩,
  ⟨0xC8008, 128, 75, true, .ro, false, false, 0x0, 0x0⟩,
  ⟨0xC8010, 128, 75, true, .ro, false, false, 0x0, 0x0⟩,
  ⟨0xC8018, 128, 75, true, .ro, false, false, 0x0, 0x0⟩,
  ⟨0xC8020, 128, 75, false, .ro, false, false, 0x0, 0x0⟩,
  ⟨0xC8028, 128, 75, false, .ro, false, false, 0x0, 0x0⟩,
  ⟨0xC802C, 128, 75, false, .ro, false, false, 0x0, 0x0⟩,
  ⟨0xC8030, 128, 75, false, .ro, false, false, 0x0, 0x0⟩,
  ⟨0xC8034, 128, 75, false, .ro, false, false, 0x0, 0x0⟩,
  ⟨0xC8038, 128, 75, false, .ro, false, false, 0x0, 0x0⟩,
  ⟨0xC803C, 128, 75, false, .ro, false, false, 0x0, 0x0⟩,
  ⟨0xC8040, 128, 75, false, .ro, false, false, 0x0, 0x0⟩,
  ⟨0xC8044, 128, 75, false, .ro, false, false, 0x0, 0x0⟩,
  ⟨0xD0000, 4, 4, false, .rwl, true, true, 0x0, 0x0⟩,
  ⟨0xD0010, 4, 4, false, .w1s, false, false, 0x0, 0x0⟩,
  ⟨0xD0020, 4, 4, false, .ro, false, false, 0x0, 0x0⟩,
  ⟨0xD0040, 8, 4, true, .ro, true, true, 0x0, 0x0⟩,
  ⟨0xD0080, 8, 4, true, .ro, false, false, 0x0, 0x0⟩,
  ⟨0xD00C0, 8, 4, true, .ro, false, false, 0x0, 0x0⟩,
  ⟨0xD0100, 4, 4, false, .ro, false, false, 0x0, 0x0⟩,
  ⟨0xD0110, 4, 1, false, .wo, false, false, 0x0, 0x0⟩,
  ⟨0xD0114, 4, 1, false, .rw, false, false, 0x0, 0x3⟩,
  ⟨0xD0118, 4, 1, false, .rw, false, false, 0x0, 0xFFFFFFFF⟩,
  ⟨0xD011C, 4, 1, false, .rw, false, false, 0x0, 0x333⟩,
  ⟨0xD0120, 4, 1, false, .ro, false, false, 0x0, 0x0⟩,
  ⟨0xD0200, 8, 1, true, .rw, false, false, 0x0, 0xC00000FFFFFFF000⟩,
  ⟨0xD0800, 64, 8, false, .rw, false, false, 0x0, 0xFF03FE70⟩,
  ⟨0xD0808, 64, 8, true, .rw, false, false, 0x0, 0x7FFFFFFFFFFF⟩,
  ⟨0xD0810, 64, 8, true, .rw, false, false, 0x0, 0x7FFFFFFFFFFF⟩,
  ⟨0xD0818, 64, 8, false, .rw, false, false, 0x0, 0xFFFFFF⟩,
  ⟨0xD081C, 64, 8, false, .rw, false, false, 0x0, 0xFFFFFF⟩,
  ⟨0xD0820, 64, 8, false, .rw, false, false, 0x0, 0xFFFF⟩]
def bar4Rows6 : List RegRow := [
  ⟨0xD0828, 64, 8, true, .ro, false, false, 0x0, 0x0⟩,
  ⟨0xD1000, 4, 1024, false, .ro, false, false, 0x0, 0x0⟩]
def bar4Rows : List RegRow := bar4Rows0 ++ bar4Rows1 ++ bar4Rows2 ++ bar4Rows3 ++ bar4Rows4 ++ bar4Rows5 ++ bar4Rows6

/-- Whether an offset lies in one of a row's registers. -/
def RegRow.covers (r : RegRow) (off : Nat) : Bool :=
  r.off ≤ off && (off - r.off) / r.stride < r.count && (off - r.off) % r.stride < (if r.wide then 8 else 4)

/-- The row that holds an offset, if a register occupies it (R9). -/
def findRow (rows : List RegRow) (off : Nat) : Option RegRow := rows.find? (fun r => r.covers off)

/-- The first offset of the register of the row that holds `off`. -/
def RegRow.base (r : RegRow) (off : Nat) : Nat := off - (off - r.off) % r.stride

/-- The registers of a row with their cold values, where those are not zero. -/
def RegRow.coldEntries (r : RegRow) : List (Nat × W64) :=
  if r.keepC || r.cold == 0 then [] else (List.range r.count).map (fun i => (r.off + r.stride * i, BitVec.ofNat 64 r.cold))

/-- Registers with non-zero cold values. -/
def coldList (rows : List RegRow) : SMap W64 :=
  (rows.map RegRow.coldEntries).flatten.foldl (fun m p => m.set p.1 p.2) []

/-- What a cold start does to stored registers: those with a cold value take it. -/
def coldRegs (rows : List RegRow) (m : SMap W64) : SMap W64 :=
  (coldList rows).foldl (fun m p => m.set p.1 p.2)
    (m.filter (fun p => match findRow rows p.1 with | some r => r.keepC | none => false))

/-- What a warm start does to stored registers. -/
def warmRegs (rows : List RegRow) (m : SMap W64) : SMap W64 :=
  (coldList (rows.filter (fun r => !r.keepW))).foldl (fun m p => m.set p.1 p.2)
    (m.filter (fun p => match findRow rows p.1 with | some r => r.keepW | none => false))

end Sys2Proof.Machine
end

