-- ==== Sys2Proof/Machine/StateFn.lean ====
section
/-! DEFINITION. The state of the intake, the journal, the paddock and its thread groups, as data (R43 to R207). -/

namespace Sys2Proof.Machine
open Sys2Proof

/-- A slot's state (R45). -/
inductive SlotSt where
  | free | filling | sealed
  deriving DecidableEq, Repr

/-- One stile slot (R43 to R46): bytes not listed are zero. `held` is R59; `accepting`: its journal entry is being written
(R63); `expired`: its gap hold has run out and its refusal waits for the notice log (R59, R71); `since`: when it began to fill, or
was sealed. -/
structure Slot where
  st : SlotSt
  bytes : SMap Byte
  held : Bool
  accepting : Option Nat
  expired : Bool
  since : Nat
  deriving DecidableEq, Repr

/-- A FREE slot: every byte zero (R46). -/
def Slot.empty : Slot := ⟨.free, [], false, none, false, 0⟩

/-- STATE of a journal entry (R73). -/
inductive JSt where
  | free | accepted | releasing | committed
  deriving DecidableEq, Repr

/-- How far the release of a RELEASING record has come (R77): release log being written, write-out under way. -/
inductive RelStage where
  | none | logging | writing
  deriving DecidableEq, Repr

/-- What a resolved address reaches (R159 to R162). -/
inductive Tgt where
  /-- core store, by local physical address -/
  | core (lpa : Nat)
  /-- the group's part of the private region, by local physical address -/
  | priv (lpa : Nat)
  /-- the image window, by virtual address and the address behind it -/
  | image (va lpa : Nat)
  /-- other paddock memory -/
  | mem (va lpa : Nat)
  /-- host memory, by virtual address and translated host address -/
  | host (va ha : Nat)
  /-- a commons window -/
  | commons (lpa : Nat)
  deriving DecidableEq, Repr

/-- One element of an outstanding load: lane, target, size. `data` is there once the host or a commons has answered. -/
structure LoadPart where
  lane : Nat
  tgt : Tgt
  size : Nat
  data : Option (List Byte)
  deriving DecidableEq, Repr

/-- A journal entry (R72), with the bookkeeping the journal and dispatcher keep for it. `logSet` is its release set in the
release log, by paddock virtual address; `order` its place in acceptance order; `busy`: a record other than WORK that is
executing its own steps; `twinA`, `twinB`: the entry is durable in that twin. -/
structure JEntry where
  record : List Byte
  audit : List Byte
  receipt : List Byte
  st : JSt
  attempts : Nat
  ringIndex : Option Nat
  auditIndex : Option Nat
  chain : List Byte
  logOffset : Nat
  logLength : Nat
  logSet : SMap Byte
  twinA : Bool
  twinB : Bool
  order : Nat
  slot : Nat
  stage : RelStage
  busy : Bool
  /-- mismatches of CHK.CMP over the record's attempts (R197) -/
  mismatches : Nat
  eligibleSeen : Bool
  /-- decided STATUS and DETAIL of a record that releases nothing or has no release, while its receipt waits its turn (R64, R78) -/
  outcome : Option (Nat × Nat)
  /-- 4 KiB pages of the release set still to be written out (R77 step 5) -/
  left : List Nat
  /-- the source of a load record as the drovers read it (R109): `lane` is the offset in the image -/
  src : List LoadPart
  deriving DecidableEq, Repr

def JEntry.empty : JEntry :=
  ⟨[], [], [], .free, 0, none, none, [], 0, 0, [], false, false, 0, 0, .none, false, 0, false, none, [], []⟩

/-- One refusal or watermark receipt in the notice log (R71). -/
structure Notice where
  index : Nat
  image : List Byte
  deriving DecidableEq, Repr

/-- A CHECKPOINT that has its index and waits for its signature (R93). -/
structure Ckpt where
  index : Nat
  first : Nat
  chain : List Byte
  time : Nat
  deriving DecidableEq, Repr

/-- The audit chain of a paddock in the present epoch (R89 to R94). `entries` holds every image by index; those from
`written` on are not yet in the ring. -/
structure Audit where
  started : Bool
  next : Nat
  written : Nat
  origin : Nat
  chain : List Byte
  since : Nat
  sinceAny : Bool
  first : Nat
  entries : SMap (List Byte)
  unsigned : List Ckpt
  deriving DecidableEq, Repr

def Audit.empty : Audit := ⟨false, 0, 0, 0, List.replicate 48 0#8, 0, false, 0, [], []⟩

/-- A handle's state and kind (R108). -/
inductive HandleSt where
  | loading | loaded | unloading
  deriving DecidableEq, Repr

inductive HandleKind where
  | program | weights | pasture | attach
  deriving DecidableEq, Repr

/-- A handle that is not FREE, with the fields of the record that loads it (R105, R108). -/
structure Handle where
  st : HandleSt
  kind : HandleKind
  offset : Nat
  len : Nat
  digest : List Byte
  pasture : Nat
  entry : Nat
  hirsels : Nat
  threads : Nat
  accTiles : Nat
  coreStore : Nat
  priv : Nat
  usesCommons : Bool
  usesTeam : Bool
  deriving DecidableEq, Repr

/-- An outstanding load (R154, R176): its destination register, a vector register when `vec`. -/
structure LoadOp where
  id : Nat
  dest : Nat
  vec : Bool
  size : Nat
  sx : Bool
  acq : Bool
  /-- the active lanes of a vector load -/
  mask : W32
  parts : List LoadPart
  deriving DecidableEq, Repr

/-- An outstanding MCOPY (R180). `out`: out of core store; `data`: the bytes read at issue of such a copy; `parts`: where the
paddock side lies, `lane` the offset in the copy. -/
structure MCopyOp where
  id : Nat
  out : Bool
  csOff : Nat
  va : Nat
  len : Nat
  data : List Byte
  parts : List LoadPart
  deriving DecidableEq, Repr

/-- An outstanding FEVAL (R253 to R257) with what the unit read when it started: descriptor fields, header, features; where its
sums go (`outs`, in FOLD mode) and the node lines it still waits for (R260). -/
structure FevalOp where
  id : Nat
  ensemble : Nat
  header : List Byte
  features : List (List W32)
  records : Nat
  outFold : Bool
  outOff : Nat
  outs : List Tgt
  treeFirst : Nat
  treeCount : Nat
  addBase : Bool
  unit : Nat
  fills : List Nat
  issuedAt : Nat
  deriving DecidableEq, Repr

/-- A directory lookup in progress (R266): for key k of a launch, or for a DFIND of a thread. -/
structure Lookup where
  id : Nat
  thread : Option Nat
  keyIx : Nat
  key : W64
  bucket : Nat
  finger : Nat
  gen : Nat
  state : Nat
  count : Nat
  sel : Bool
  restarted : Bool
  deriving DecidableEq, Repr

/-- A thread's state (R204). -/
inductive ThrSt where
  | running | parked | hurdle | exited
  deriving DecidableEq, Repr

/-- One hardware thread (R156): registers, predicates, PC, op count (R241) and its outstanding operations. `arrivals` gives,
by hurdle key, the round of its latest arrival (R187); `waitKey` the hurdle a waiting thread is at and, for HURDLE.SUM, its
destination register; `windows` counts its open check windows (R243). -/
structure Thread where
  st : ThrSt
  pc : W64
  x : SMap W64
  v : SMap (List W32)
  p : SMap W32
  op : Nat
  issued : Nat
  windows : Nat
  loads : List LoadOp
  mcopies : List MCopyOp
  /-- destination registers of its directory finds (R269): lookup × 2 gives that of the row address, lookup × 2 + 1 that of its
  length -/
  finds : SMap Nat
  fevals : List FevalOp
  arrivals : SMap Nat
  waitKey : Option Nat
  sumDest : Option Nat
  lastTime : Nat
  nextId : Nat
  deriving DecidableEq, Repr

def Thread.empty : Thread :=
  ⟨.running, 0, [], [], [], 0, 0, 0, [], [], [], [], [], none, none, 0, 0⟩

/-- A queued tensor operation with its operands as they stood at issue (R193). -/
inductive TOpKind where
  | tzero
  | tmma (fa fb k : Nat) (a b s : List Byte)
  | trd (fa rnd sa : Nat) (clr : Bool) (op : Nat)
  deriving DecidableEq, Repr

structure TOp where
  tile : Nat
  thread : Nat
  kind : TOpKind
  deriving DecidableEq, Repr

/-- An open Fold exact-accumulator element (R141): at which target, in which format, private or staged. -/
structure XaOpen where
  tgt : Tgt
  ty : Nat
  xa : Xa
  /-- the slice that serves it, and whether it lies in the spill area (R143) -/
  slice : Nat
  spilled : Bool
  deriving DecidableEq, Repr

/-- One hurdle round (R134 to R140, R187). -/
structure Round where
  number : Nat
  arrived : List Nat
  /-- form (HURDLE.SUM or COLLECT), lane TYPE and round tag given by the first arrival -/
  form : Nat
  ty : Nat
  tag : Nat
  misuse : Bool
  contrib : SMap (List W32)
  /-- at torus scope: the group has arrived and waits for the team -/
  groupArrived : Bool
  deriving DecidableEq, Repr

def Round.empty : Round := ⟨0, [], 0, 0, 0, false, [], false⟩

/-- A COLLECT's operands (R189), with the number and thread under which the engine reads its source, and the parts it reads. -/
structure CollectOp where
  src : Nat
  dst : Nat
  len : Nat
  ty : Nat
  id : Nat
  thread : Nat
  parts : List LoadPart
  /-- the engine has read the source and contributed -/
  sent : Bool
  deriving DecidableEq, Repr

/-- Where a WORK record's attempt stands (R76, R116, R201, R205). -/
inductive GrpPhase where
  | launching | running | ended | stopping | saving | switchedOut
  deriving DecidableEq, Repr

/-- A thread group: one attempt of a WORK record (R115 to R146). Its stores outside private storage are `staged`, by paddock
virtual address; `filter` is its read filter by 64-byte line of local physical address (R123). -/
structure Grp where
  fn : Nat
  entry : Nat
  phase : GrpPhase
  hirsels : List Nat
  /-- the hirsels of its launch, which fix the participants of its tile hurdles (R135) -/
  home : List Nat
  prog : Handle
  weights : Option Handle
  privBase : Nat
  threads : SMap Thread
  tiles : SMap Xa
  tq : SMap (List TOp)
  extLru : SMap (List Nat)
  staged : SMap Byte
  filter : List Nat
  forwarded : List Nat
  /-- earlier records of the stream that were HELD when this attempt started or restarted (R124) -/
  heldAtStart : List Nat
  xas : SMap XaOpen
  rounds : SMap Round
  collect : Option CollectOp
  lookups : List Lookup
  keyResults : SMap (List Byte)
  gathered : SMap (List Byte)
  nextLookup : Nat
  inputDigest : Option (List Byte)
  inputPending : Bool
  /-- the input buffer as it is read (R118), `lane` the offset in it -/
  input : List LoadPart
  windows : Nat
  code : Option Nat
  poison : Bool
  /-- the poison lay in memory (R323) -/
  memPoison : Bool
  /-- a commons that does not declare checking has contributed (R67) -/
  unchecked : Bool
  /-- has been HELD since it started (R124) -/
  wasHeld : Bool
  launchAt : Nat
  /-- core stores in the switch-out area (R204), by group core × 524,288 + offset -/
  saved : SMap Byte
  /-- the thread whose page request had the group switched out (R203) -/
  faulter : Option Nat
  deriving DecidableEq, Repr

/-- A recorded torus hurdle outcome (R138). -/
structure Memo where
  id : Nat
  tag : Nat
  form : Nat
  ty : Nat
  misuse : Bool
  value : List W32
  buffer : List Byte
  deriving DecidableEq, Repr

end Sys2Proof.Machine
end

