-- ==== Sys2Proof/Machine/StateMem.lean ====
section
/-! DEFINITION. The state of translation, the directory, the regulators, the memory system, the network and coherence
(R247 to R417). -/

namespace Sys2Proof.Machine
open Sys2Proof

/-- A cached translation of a paddock (R402): a page of 2^`log2` bytes at virtual address `va`, LOCAL or HOST. -/
structure Tlb where
  /-- a host address of a ring or a load source, which no table maps (R52, R105) -/
  direct : Bool
  va : Nat
  log2 : Nat
  host : Bool
  target : Nat
  read : Bool
  write : Bool
  deriving DecidableEq, Repr

/-- A page request group of a function (R409 to R414). -/
structure Prg where
  page : Nat
  write : Bool
  quarantined : Bool
  sentAt : Nat
  deriving DecidableEq, Repr

/-- An ATS invalidation in progress (R406). -/
structure AtsInv where
  itag : Nat
  va : Nat
  size : Nat
  deriving DecidableEq, Repr

/-- Who waits for a translation: a thread, a load record, a group's input buffer, a write-out, the rings (R405 to R413). -/
inductive XWho where
  | thread (gid idx : Nat)
  | load (entry : Nat)
  | input (gid : Nat)
  | out (entry : Nat)
  | ring
  deriving DecidableEq, Repr

/-- What it waits for: a table walk, a translation request, the response of a page request group (`joined`, or only before it
retries, R410), a free PRG index (R409), or the end of a condition of R432. -/
inductive XStage where
  | walk | ats | fault (index : Nat) (joined : Bool) | index | held
  deriving DecidableEq, Repr

structure XWait where
  page : Nat
  write : Bool
  atomic : Bool
  direct : Bool
  stage : XStage
  /-- since when its page request counts as outstanding (R203, R410) -/
  since : Nat
  who : XWho
  deriving DecidableEq, Repr

/-- The translation unit of a function: cached translations, walks and translation requests outstanding (with whether write
is needed), invalidations, page request groups by PRG index, and the run of successes without effect per page (R412). -/
structure Xlt where
  tlb : List Tlb
  walks : List Nat
  atsReqs : List (Nat × Bool)
  staleAts : List Nat
  invs : List AtsInv
  prgs : SMap Prg
  retries : SMap Nat
  priEnable : Bool
  priAlloc : Nat
  ringBlocked : Bool
  waits : List XWait
  deriving DecidableEq, Repr

/-- PRI allocation stands at its largest until the host sets one. -/
def Xlt.empty : Xlt := ⟨[], [], [], [], [], [], [], false, 512, false, []⟩

/-- STATE of a bucket entry (R264). -/
inductive DirSt where
  | empty | active | damaged
  deriving DecidableEq, Repr

/-- A bucket entry (R264); `pair` is the local physical address of its page pair ÷ 16,384. -/
structure DirEntry where
  gen : Nat
  count : Nat
  st : DirSt
  sel : Bool
  pair : Nat
  deriving DecidableEq, Repr

/-- Bandwidth state of one flow (R327 to R336): `balance` and surplus `grant` in bytes, urgency, and the window's charges. -/
structure Flow where
  balance : Int
  grant : Int
  charged : Nat
  debtIn : Bool
  urgency : Nat
  effMin : Nat
  deriving DecidableEq, Repr

def Flow.empty : Flow := ⟨0, 0, 0, false, 0, 0⟩

/-- An engine of a memory controller (R285, R287, R335). -/
structure Engine where
  rq : Nat
  wq : Nat
  writing : Bool
  issued : Nat
  deriving DecidableEq, Repr

def Engine.empty : Engine := ⟨0, 0, false, 0⟩

/-- MOESI (R376). -/
inductive Moesi where
  | m | o | e | s | i
  deriving DecidableEq, Repr

/-- The home's view of a window line (R374). -/
inductive HomeSt where
  | absent | clean | dirty
  deriving DecidableEq, Repr

/-- Kinds of coherent transaction (R375, R378). -/
inductive TxnKind where
  | shared | unique | upgrade | writeback
  deriving DecidableEq, Repr

/-- A coherent transaction at its home (R375, R383). -/
structure CohTxn where
  agent : Nat
  tag : Nat
  kind : TxnKind
  goSent : Bool
  launched : Bool
  /-- the snoop the requester launched: an UPGRADE whose copy is gone launches SNP_UNIQUE -/
  snoop : TxnKind
  needPush : Bool
  passed : List Nat
  sharers : List Nat
  pushed : Bool
  /-- the pushed line has arrived at the home -/
  pushIn : Bool
  pushOwner : Nat
  lost : Bool
  lostM : Bool
  /-- SNOOP_DONE has come -/
  lapDone : Bool
  granted : Bool
  poison : Bool
  /-- the push comes from an agent that held the line in M -/
  pushM : Bool
  /-- commons agents whose SNP_ACK is awaited, once for each message (R523) -/
  awaiting : List Nat
  /-- SNP_PUSH and SNP_INV sent to commons: agent × 2, plus 1 for SNP_INV -/
  told : List Nat
  startedAt : Nat
  deriving DecidableEq, Repr

/-- A line of the coherent window: home state, the Fold copy of a line that is not absent, lock, queue (R374) and each agent's state
in the duplicate tags (R373). -/
structure CohLine where
  home : HomeSt
  copy : List Byte
  lock : Option CohTxn
  queue : List CohTxn
  holders : SMap Moesi
  deriving DecidableEq, Repr

def CohLine.empty : CohLine := ⟨.absent, [], none, [], []⟩

/-- A line tag in a Fold cache slice, most recently used first within its set (R304, R307). -/
structure FoldTag where
  line : Nat
  staged : Bool
  owner : Nat
  deriving DecidableEq, Repr

/-- A request outstanding on the mesh at its source (R354, R365): data lines still to come, whether its WRITE_GRANT has been sent,
and when it was seen first. -/
structure NocReq where
  req : ReqFlit
  op : Nat
  left : Nat
  granted : Bool
  since : Nat
  deriving DecidableEq, Repr

/-- A fenced physical unit in the pinfold (R25, R598). -/
structure PinEntry where
  data : Nat
  time : Nat
  deriving DecidableEq, Repr

end Sys2Proof.Machine
end

