-- ==== Sys2Proof/Machine/StateHub.lean ====
section
/-! DEFINITION. The state of the endpoint, the optical links, the commons, security and the sheepdog (R418 to R605). -/

namespace Sys2Proof.Machine
open Sys2Proof

/-- What an outstanding PCIe read of the endpoint is for (R431). -/
inductive PcieUse where
  | load (entry part : Nat)
  | thread (gid thread load part : Nat)
  | input (gid part : Nat)
  | mcopy (gid thread copy part : Nat)
  /-- for an attempt that has been discarded -/
  | dead
  deriving DecidableEq, Repr

/-- A non-posted request of the endpoint that awaits its completion (R431, R433). -/
structure PcieReq where
  fn : Nat
  use : PcieUse
  addr : Nat
  len : Nat
  deriving DecidableEq, Repr

/-- The part of a function's PCIe configuration state that bears on the module (R420 to R432). -/
structure PceFn where
  busMaster : Bool
  d3hot : Bool
  flrBusy : Bool
  /-- the TDI of the VF moved to ERROR, or another cause of R558 keeps it from issuing requests -/
  tdiHold : Bool
  deriving DecidableEq, Repr

def PceFn.reset : PceFn := ⟨false, false, false, false⟩

/-- ASPM and L0p state of the link (R438 to R440). -/
inductive LinkPm where
  | l0 | l1
  deriving DecidableEq, Repr

/-- The endpoint (R418 to R465). `intaSent`: the last message sent was Assert_INTA; `holdoff`: a hold-off runs (R435). -/
structure Pce where
  linkUp : Bool
  pm : LinkPm
  intDisable : Bool
  vfEnable : Bool
  numVfs : Nat
  intaSent : Bool
  holdoff : Bool
  ptmFails : Nat
  ptmDone : Bool
  ptmPending : Bool
  /-- module time still to be slewed, in ns (R444) -/
  slew : Int
  /-- module time of the last adjustment -/
  slewAt : Nat
  nextTag : Nat
  reqs : SMap PcieReq
  /-- AER status words, correctable and uncorrectable, per function (R436, R437) -/
  aerCor : SMap W32
  aerUnc : SMap W32
  /-- TDI binding: Selective IDE stream per VF (R558) -/
  tdiStream : SMap Nat
  /-- when a function last sent ERR_COR for an internal error (R437) -/
  corAt : SMap Nat
  /-- reads held under R432, in order -/
  waiting : List PcieReq
  /-- the latency last reported by LTR, in µs (R441) -/
  ltr : Nat
  deriving DecidableEq, Repr

def Pce.reset : Pce :=
  ⟨false, .l0, false, false, 0, false, false, 0, false, false, 0, 0, 0, [], [], [], [], [], [], 0⟩

/-- One optical port beyond its registers (R466 to R485): its logical lanes in service, the lane on λ16, the flits and messages of
its replay buffer by first SEQ and count, and its keys. -/
structure Port where
  /-- the peer's IDENT has been checked -/
  identOk : Bool
  peerSerial : Nat
  lanes : List Nat
  onSpare : Option Nat
  rxNext : Nat
  txNext : Nat
  replay : List (Nat × Nat × LflMsg)
  /-- consecutive NAKs that named the same sequence -/
  naks : Nat
  nakSeq : Nat
  authFailed : Bool
  keyGen : Nat
  keyUp : Nat
  keyDown : Nat
  keyed : Bool
  keyedAt : Nat
  /-- key exchange in progress: 0 none, 1 OFFER sent, 2 ACCEPT sent, 3 REKEY sent -/
  kx : Nat
  kxSecret : Nat
  kxPeer : Nat
  kxLog : List Byte
  kxAt : Nat
  /-- flits sent under the current key -/
  sent : Nat
  since : Nat
  timeT1 : Nat
  deriving DecidableEq, Repr

def Port.empty : Port :=
  ⟨false, 0, [], none, 0, 0, [], 0, 0, false, 0, 0, 0, false, 0, 0, 0, 0, [], 0, 0, 0, 0⟩

/-- Link state of a node as last flooded (R491): six direction bits, FENCED, generation. -/
structure NodeState where
  dirs : Nat
  fenced : Bool
  gen : Nat
  deriving DecidableEq, Repr

/-- A message the source keeps until it is acknowledged (R490). -/
structure Kept where
  msg : LflMsg
  resends : Nat
  sentAt : Nat
  deriving DecidableEq, Repr

/-- What the root of a team holds for a round (R495): arrivals by rank with SUMTYPE and lanes. -/
structure TorusRound where
  team : Nat
  id : Nat
  round : Nat
  arrivals : SMap (Nat × List Byte)
  deriving DecidableEq, Repr

/-- A staging part (R494, R496): contributions to this member's slice and the results that have come, by byte offset. -/
structure Staging where
  team : Nat
  id : Nat
  round : Nat
  cells : SMap Byte
  result : SMap Byte
  deriving DecidableEq, Repr

/-- The torus engines of the module. -/
structure Torus where
  nodes : SMap NodeState
  gen : Nat
  kept : List Kept
  txSeq : SMap Nat
  rxSeq : SMap Nat
  ahead : List LflMsg
  rounds : List TorusRound
  staging : List Staging
  lightIn : List Nat
  /-- the last successful time exchange (R498) -/
  syncAt : Nat
  /-- since when the bellwether has been unreachable -/
  bwLostAt : Option Nat
  deriving DecidableEq, Repr

def Torus.empty : Torus := ⟨[], 0, [], [], [], [], [], [], [0, 1, 2, 3], 0, none⟩

/-- A window request of an attempt at a commons (R515, R518): of a load, a copy or a COLLECT of a thread by number and part, or a
write of the bytes given by their offset in the line. `dead`: its attempt has ended; `answered`: DONE has come. -/
structure WinReq where
  gid : Nat
  attempt : Nat
  thread : Nat
  load : Nat
  part : Nat
  line : Nat
  off : Nat
  len : Nat
  write : Bool
  bytes : List (Nat × Byte)
  sent : Bool
  sentAt : Nat
  answered : Bool
  dead : Bool
  deriving DecidableEq, Repr

/-- A RECORD_END that is due (R516): the group, its RECORD field and SUB. -/
structure WinEnd where
  gid : Nat
  record : Nat
  sub : Nat
  deriving DecidableEq, Repr

/-- A DMA request of a chiplet whose data have not all come, or that is held (R519, R520, R553): `got` by offset. -/
structure DmaReq where
  msg : LspMsg
  write : Bool
  left : Nat
  got : List (Nat × Byte)
  deriving DecidableEq, Repr

/-- A commons site beyond its registers (R504 to R553), by site number. `step` is the step of R534 under way, 0 when the site is not
being brought up and 8 when it is; `upAt` when its site reset was deasserted, `beatAt` its last HEARTBEAT. -/
structure Site where
  strap : Nat
  stepping : Nat
  measCount : Nat
  nomMv : Nat
  pmaxW : Nat
  windowMib : Nat
  step : Nat
  upAt : Nat
  beatAt : Nat
  measures : SMap (List Byte)
  keyed : Bool
  keyGen : Nat
  /-- key (32 bytes) and salt (4 bytes) of each direction, and the confirmation key -/
  keyDown : List Byte
  keyUp : List Byte
  keyConfirm : List Byte
  /-- window key exchange: 0 none, 1 due, 2 HUB_SHARE sent, 3 CHIP_SHARE come, 4 HUB_CONFIRM sent -/
  kx : Nat
  kxSecret : Nat
  kxShares : List Byte
  sentData : Nat
  recvData : Nat
  nextTag : Nat
  reqs : SMap WinReq
  /-- groups and attempts that have used the window (R516) -/
  users : List (Nat × Nat)
  endsPending : List WinEnd
  dma : List DmaReq
  timeouts : List Nat
  tagFails : List Nat
  /-- LSP link: next SEQ sent, next expected, replay buffer, one message a flit -/
  txSeq : Nat
  rxSeq : Nat
  replay : List (Nat × LspOut)
  /-- measurement blocks still to be read again for an attestation (R529) -/
  toMeasure : List Nat
  /-- the management message that awaits its answer -/
  mgmt : Option (Nat × List Nat)
  deriving DecidableEq, Repr

def Site.empty : Site :=
  { strap := 0, stepping := 0, measCount := 0, nomMv := 0, pmaxW := 0, windowMib := 0, step := 0, upAt := 0, beatAt := 0, measures := [],
    keyed := false, keyGen := 0, keyDown := [], keyUp := [], keyConfirm := [], kx := 0, kxSecret := 0, kxShares := [], sentData := 0,
    recvData := 0, nextTag := 0, reqs := [], users := [], endsPending := [], dma := [], timeouts := [], tagFails := [], txSeq := 0,
    rxSeq := 0, replay := [], toMeasure := [], mgmt := none }

/-- Life-cycle transitions (R571). -/
inductive Trans where
  | fab | provision | deploy | ret | scrap
  deriving DecidableEq, Repr

/-- The security and life-cycle blocks beyond their registers (R538 to R584). `otp` holds the life-cycle OTP words; `challengeAt` when the
valid challenge was drawn; `redraws` how often the transition under way has drawn its secret again (R573); `debugUntil` the paddocks open
to debug and `debugged` those with DEBUGGED set (R556); `scrubbing` the functions with SCRUBBING marked, the first being scrubbed,
`begun` those past step 5 and `tdiStops` those whose STOP_INTERFACE awaits its response (R558, R563); `attest` a measurement request
that waits for commons measurements: block and nonce. -/
structure Sec where
  otp : SMap W32
  challengeAt : Option Nat
  trans : Option Trans
  redraws : Nat
  debugUntil : SMap Nat
  debugged : List Nat
  scrubbing : List Nat
  begun : List Nat
  tdiStops : List Nat
  attest : Option (Nat × List Byte)
  /-- secrets of the SPDM sessions -/
  sessions : List Nat
  /-- paddock key sets and the hub and pasture keys, as drawn -/
  paddockKeys : SMap Nat
  hubKey : Nat
  pastureKey : Nat
  ik : Nat
  ak : Nat
  wrap : Nat
  deriving DecidableEq, Repr

def Sec.reset : Sec :=
  { otp := [], challengeAt := none, trans := none, redraws := 0, debugUntil := [], debugged := [], scrubbing := [], begun := [], tdiStops := [],
    attest := none, sessions := [], paddockKeys := [], hubKey := 0, pastureKey := 0, ik := 0, ak := 0, wrap := 0 }

/-- An unread entry of the sheepdog queue (R591). -/
structure SdgEntry where
  time : Nat
  addr : Nat
  block : Nat
  phys : Nat
  initiator : Nat
  cls : FaultClass
  hub : Bool
  paddock : Nat
  cause : Nat
  multi : Bool
  zeroed : Bool
  safe : Bool
  access : Nat
  rep : Nat
  seq : Nat
  deriving DecidableEq, Repr

/-- The sheepdog beyond its registers (R585 to R605). -/
structure Sdg where
  queue : SMap SdgEntry
  /-- what stood in a slot when it was freed (R595) -/
  stale : SMap SdgEntry
  seq : Nat
  pinfold : List PinEntry
  /-- causes that hold the safe state (R600), each with the time of its latest FT -/
  held : SMap Nat
  lastFt : Nat
  monitorSince : Nat
  /-- rail, clock and thermal monitors that still report (R600) -/
  monitors : List Nat
  exits : List Nat
  sramUe : List (Nat × Nat)
  stackUe : List (Nat × Nat)
  deriving DecidableEq, Repr

def Sdg.reset : Sdg := ⟨[], [], 0, [], [], 0, 0, [], [], [], []⟩

end Sys2Proof.Machine
end

