-- ==== Sys2Proof/Machine/StateTop.lean ====
section
/-! DEFINITION. The state of a function, of the start and of the power manager, of observation, of identity and of the
network interfaces, and what the module sends (R16 to R42, R96 to R151, R350 to R372, R606 to R705). -/

namespace Sys2Proof.Machine
open Sys2Proof

/-- What the module sends or drives, in the order it does so (assumption 5). -/
inductive Tx where
  /-- completion of a register read -/
  | cpl (data : W64)
  /-- Unsupported Request completion -/
  | cplUr
  /-- response of the I3C target (R42) -/
  | i3c (code : Nat) (data : W32)
  /-- posted write to host memory (R431) -/
  | hostWrite (fn addr : Nat) (data : List Byte)
  /-- read request to host memory (R431) -/
  | hostRead (fn tag addr len : Nat)
  | ats (fn va : Nat) (write : Bool)
  | pageRequest (fn index va : Nat) (write : Bool)
  | atsDone (fn itag : Nat)
  /-- Assert_INTA and Deassert_INTA (R434) -/
  | inta (on : Bool)
  /-- AER message: 0 ERR_COR, 1 ERR_NONFATAL or ERR_FATAL as the host's severity says -/
  | err (fn kind : Nat)
  | ptmRequest
  /-- LTR message: the latency reported, in µs (R441) -/
  | ltr (us : Nat)
  /-- an LFL message sent on a port -/
  | lfl (port : Nat) (m : LflMsg)
  /-- a control codeword of a port (R483): its kind and arguments -/
  | portCtl (port kind : Nat) (args : List Nat)
  /-- an LSP message to a commons (R513) -/
  | lsp (site : Nat) (m : LspOut)
  /-- an LSP NAK: the next SEQ expected (R506) -/
  | lspNak (site seq : Nat)
  /-- a management message to a commons (R507) -/
  | mgmt (site code : Nat) (args : List Nat)
  /-- a REQ flit sent again (R367) -/
  | req (q : ReqFlit)
  /-- an RSP flit (R359): op, status, value -/
  | rsp (dst txn op status value : Nat)
  /-- a DAT flit (R360) -/
  | dat (dst txn index : Nat) (poison : Bool) (state : Nat) (data : List Byte)
  /-- a snoop launched to an agent (R375) -/
  | snp (line agent : Nat) (kind : TxnKind)
  /-- refresh management commands to a stack (R299) -/
  | rfm (stack : Nat)
  /-- the broadcast of a fence: physical unit and new epoch (R367) -/
  | fence (kind unit epoch : Nat)
  /-- a TDISP or SPDM response: code and contents -/
  | doe (code : Nat) (args : List Nat) (data : List Byte)
  deriving DecidableEq, Repr

/-- A receipt carried across a function reset (R457): a record's, by entry, or a notice image. -/
inductive Carried where
  | entry (e : Nat)
  | notice (image : List Byte)
  deriving DecidableEq, Repr

/-- A QUIESCE under way (R448): its entry, when it was accepted, its TIMEOUT_US, whether its records were stopped. -/
structure Quiesce where
  entry : Option Nat
  since : Nat
  timeoutUs : Nat
  order : Nat
  /-- streams in which a record has completed with QUIESCED (R449) -/
  streams : List Nat
  deriving DecidableEq, Repr

/-- A function and its paddock. `regs` holds its BAR2 registers by offset. `held` and `latch` are R427. `tmpl` is its template
(R620), empty where the paddock is EMPTY. -/
structure Fn where
  regs : SMap W64
  held : SMap W32
  latch : SMap W32
  slots : SMap Slot
  entries : SMap JEntry
  nextOrder : Nat
  ringAddr : Nat
  auditAddr : Nat
  nextRing : Nat
  ringWritten : Nat
  notices : List Notice
  wmAtReceipt : SMap Nat
  audit : Audit
  handles : SMap Handle
  measLog : List (List Byte)
  memos : List Memo
  dirSalt : Nat
  xlt : Xlt
  flows : SMap Flow
  pce : PceFn
  carried : List Carried
  carrying : Bool
  quiesce : Option Quiesce
  drained : Bool
  tmpl : List Byte
  /-- tables in use besides the root, by local physical address (R396) -/
  tables : List Nat
  /-- tables freed and not yet back in the pool: address, first virtual address and bytes that they covered -/
  freed : List (Nat × Nat × Nat)
  deriving DecidableEq, Repr

def Fn.empty : Fn :=
  { regs := [(BWG_SCALE, 0x10000)], held := [], latch := [], slots := [], entries := [], nextOrder := 0, ringAddr := 0, auditAddr := 0,
    nextRing := 0, ringWritten := 0, notices := [], wmAtReceipt := [], audit := Audit.empty, handles := [], measLog := [],
    memos := [], dirSalt := 0, xlt := Xlt.empty, flows := [], pce := PceFn.reset, carried := [], carrying := false,
    quiesce := none, drained := true, tmpl := [], tables := [], freed := [] }

/-- A boot flash operation under way (R616): 1 READ, 2 PROGRAM, 3 ERASE. -/
structure FlashOp where
  op : Nat
  addr : Nat
  deriving DecidableEq, Repr

/-- Supplies, resets and the start (R606 to R640, R691 to R697). `step` is the step of R627 under way; `found` the sites whose
discovery and bring-up have ended; `modRec` the MODULE record (R621). -/
structure Boot where
  aux : Bool
  v48 : Bool
  powered : Bool
  sysRst : Bool
  sris : Bool
  thermTripAt : Option Nat
  step : Nat
  kind : Nat
  cause : Nat
  promoted : Bool
  holding : Bool
  recovery : Bool
  ready : Bool
  slotB : Bool
  failReason : Nat
  failed : Bool
  failAt : Nat
  startAt : Nat
  linksDone : Bool
  machines : List Nat
  found : List Nat
  modRec : List Byte
  teams : SMap Nat
  authority : Option Nat
  autoStarts : List Nat
  coldNeeded : Bool
  flashOp : Option FlashOp
  dFw : List Byte
  dUc : List Byte
  dFb : List Byte
  fuses : SMap W32
  flrDue : List Nat
  deriving DecidableEq, Repr

def Boot.reset : Boot :=
  { aux := false, v48 := false, powered := false, sysRst := false, sris := false, thermTripAt := none,
    step := 0, kind := 0, cause := 0, promoted := false, holding := false, recovery := false, ready := false, slotB := false,
    failReason := 0, failed := false, failAt := 0, startAt := 0, linksDone := false, machines := [], found := [],
    modRec := [], teams := [], authority := none, autoStarts := [], coldNeeded := false, flashOp := none,
    dFw := [], dUc := [], dFb := [], fuses := [], flrDue := [] }

/-- The power manager's loops (R646 to R662). Rails are numbered 0-15 for tiles and 16 for the hub; voltages count 0.1 mV. `floor`,
`capLimit` and `thermLimit` list what differs from the setpoint, `target` what each rail was last set to; `quietAt` when a canary was last
late or the floor last lowered; `thermMoved` the rails whose thermal limit has moved in this control period. `late` and `below` say
since when a rail, an optical lane (port × 16 + lane) or a pseudo-channel holds a CAL_MARGIN CE. `eyes` are the last read and write eyes
of a pseudo-channel, `settings` its offsets from training (pseudo-channel × 3 + setting), `stepAt` its last centring step and `bursts` the
window and bytes of its pattern bursts; `heater` a ring's current in µA. `hot`, `hotStacks` and `hotSites` are rails, stacks and
commons whose last reading was a thermal event or at the fencing limit. -/
structure Power where
  floor : SMap Nat
  quietAt : SMap Nat
  capLimit : SMap Nat
  thermLimit : SMap Nat
  thermMoved : List Nat
  target : SMap Nat
  sitePct : Nat
  halved : Bool
  calmPeriods : Nat
  msPeriods : Nat
  msSum : Nat
  late : SMap Nat
  belowLanes : SMap Nat
  belowPcs : SMap Nat
  eyes : SMap (Nat × Nat)
  settings : SMap Int
  stepAt : SMap Nat
  bursts : SMap (Nat × Nat)
  heater : SMap Nat
  hot : List Nat
  hotStacks : List Nat
  hotSites : List Nat
  deriving DecidableEq, Repr

def Power.reset : Power :=
  { floor := [], quietAt := [], capLimit := [], thermLimit := [], thermMoved := [], target := [], sitePct := 100, halved := false,
    calmPeriods := 0, msPeriods := 0, msSum := 0, late := [], belowLanes := [], belowPcs := [], eyes := [], settings := [],
    stepAt := [], bursts := [], heater := [], hot := [], hotStacks := [], hotSites := [] }

/-- A trace record offered and not yet admitted or dropped (R679, R681). -/
structure TraceRec where
  buffer : Nat
  source : Nat
  bytes : List Byte
  deriving DecidableEq, Repr

/-- Drops of a producer since its last admitted record (R681): count and time of the first. -/
structure Drops where
  count : Nat
  first : Nat
  deriving DecidableEq, Repr

/-- Observation beyond its registers (R667 to R684). `drops` are by buffer × 65,536 + source, `stopDrops` by buffer since the
stop (R682), `probeBeat` the hub beat of a probe's latest record (R676); `admitted` a microsecond of module time and the bytes that the engine has
admitted in it. -/
structure Observe where
  offers : List TraceRec
  drops : SMap Drops
  stopDrops : SMap Drops
  probeBeat : SMap Nat
  admitted : Nat × Nat
  deriving DecidableEq, Repr

def Observe.reset : Observe := ⟨[], [], [], [], (0, 0)⟩

/-- The identity block (R18 to R42): the words at the site pads, the tag OTP, the commits waiting, the first in progress
(true for the PF), and the bytes being programmed. -/
structure Ident where
  pads : SMap (BitVec 9)
  tagOtp : SMap Byte
  commits : List Bool
  burn : List Byte
  deriving DecidableEq, Repr

def Ident.reset : Ident := ⟨[], [], [], []⟩

/-- The network interfaces (R350 to R370). `maps` override the map built at
cold start: by kind × 65,536 + logical number, the physical number plus 1, 0 where vacant; `bad` lists, rising, the physical
units bad at cold start and `fenced` those fenced since; `epochs` the fence epoch of a physical unit by kind × 65,536 + unit;
`outs` requests outstanding by source × 256 + TXN; `halfFails` consecutive failures and `halfFenced` fenced halves by
link × 2 + half. -/
structure Noc where
  maps : SMap Nat
  bad : List (Nat × Nat)
  fenced : List (Nat × Nat)
  epochs : SMap Nat
  outs : SMap NocReq
  halfFails : SMap Nat
  halfFenced : List Nat
  routes : SMap W64
  deriving DecidableEq, Repr

def Noc.reset : Noc := ⟨[], [], [], [], [], [], [], []⟩

/-- The memory system beyond its registers (R262 to R349): directory entries by bucket, Fold tags by slice × 8,192 + set, node
caches by forest unit, engines, hub flows by class, the AMBER and RED marks by stack group, shortfall groups and whether the
surplus of a group is halved; `doubled` the stacks at double
refresh; `leaving` the hirsels that leave their paddock once nothing runs on them (R102). -/
structure MemSys where
  dir : SMap DirEntry
  fold : SMap (List FoldTag)
  nodes : SMap (List Nat)
  engines : SMap Engine
  hubFlows : SMap Flow
  amber : List Nat
  red : List Nat
  shortfall : List Nat
  lastLog : SMap Nat
  doubled : List Nat
  /-- consecutive readings at or below 83 °C by stack (R298) -/
  cool : SMap Nat
  /-- corrections counted by on-die error correction, by stack (R284, R294) -/
  onDie : SMap Nat
  margin : Option Nat
  pastureLost : List Nat
  leaving : List Nat
  deriving DecidableEq, Repr

def MemSys.reset : MemSys := ⟨[], [], [], [], [], [], [], [], [], [], [], [], none, [], []⟩

end Sys2Proof.Machine
end

