-- ==== Sys2Proof/Machine/State.lean ====
section
/-! DEFINITION. The state of the module, its faults and refusals, and the state in which it is found before any supply. -/

namespace Sys2Proof.Machine
open Sys2Proof

/-- Memory as address and byte, addresses rising, no entry equal to what an unlisted address reads as. -/
abbrev Memory := List Host.Cell

/-- Reasons for which the machine would stop. -/
inductive Fault where
  /-- Raised by no meaning: every command of the table has an effect, which may be none. Safe. -/
  | unreachable
  deriving DecidableEq, Repr

/-- Reasons for which a command would have no meaning. -/
inductive Refusal where
  /-- A command that `exec` gives no meaning yet, by its mnemonic. Safe: nothing is claimed of it. -/
  | notModelled (mnemonic : String)
  deriving DecidableEq, Repr

/-- The module. `hub` holds the registers of PF BAR4 by offset, `held` and `latch` its halves (R427); `groups` the thread
groups by function × 65,536 + journal entry; `mem` local physical memory, `poison` the poisoned lines (R295), `flash` the boot
flash; `draws` counts the free values drawn (assumption 2); `pending` the commands that wait. -/
structure State where
  time : Nat
  draws : Nat
  tx : List Tx
  pending : List Instr
  hub : SMap W64
  held : SMap W32
  latch : SMap W32
  fns : SMap Fn
  pce : Pce
  boot : Boot
  pow : Power
  obs : Observe
  ident : Ident
  noc : Noc
  lines : SMap CohLine
  ms : MemSys
  ports : SMap Port
  torus : Torus
  sites : SMap Site
  sec : Sec
  sdg : Sdg
  groups : SMap Grp
  mem : Memory
  poison : List Nat
  flash : Memory
  deriving DecidableEq, Repr

/-- The hub registers whose cold value is not zero (R31, R346, R605, R686). -/
def State.resetHub : SMap W64 :=
  [(IDN_PART, 0x4C241620), (IDN_TILES_PRESENT, 0x0000FFFF), (IDN_STACKS_PRESENT, 0x00FFFFFF),
   (BWG_DELIVERABLE, 0x6CC0), (BWG_DELIVERABLE + 4, 0x6CC0), (BWG_DELIVERABLE + 8, 0x6CC0),
   (BWG_DELIVERABLE + 12, 0x6CC0), (BWG_DELIVERABLE + 16, 0x6CC0), (BWG_DELIVERABLE + 20, 0x6CC0),
   (SDG_Q_OLDEST, 0xFFFF), (TLY_FAB_FILTER, 0x80000000)]

/-- The module without supplies, as it leaves the factory: nothing runs, its registers hold their cold values or zero, its
life-cycle OTP is blank (assumptions 6 and 7). The queue is empty. -/
def State.reset : State :=
  { time := 0, draws := 0, tx := [], pending := [], hub := State.resetHub, held := [], latch := [], fns := [], pce := Pce.reset,
    boot := Boot.reset, pow := Power.reset, obs := Observe.reset, ident := Ident.reset, noc := Noc.reset, lines := [],
    ms := MemSys.reset, ports := [], torus := Torus.empty, sites := [], sec := Sec.reset, sdg := Sdg.reset, groups := [],
    mem := [], poison := [], flash := [] }

end Sys2Proof.Machine
end

