-- ==== Sys2Proof/Machine/Ops.lean ====
section
/-! DEFINITION. The named operations over memory, registers, counters and interrupts, and where a paddock's memory lies. -/

namespace Sys2Proof.Machine
open Sys2Proof

/-! ### Memory -/

/-- The byte at an address; an unlisted address reads as `d`. -/
def cellGet (d : Byte) (m : Memory) (a : Nat) : Byte :=
  match m with
  | [] => d
  | (k, v) :: t => if k = a then v else cellGet d t a

/-- Write a byte, keeping addresses rising and no entry equal to `d`. -/
def cellPut (d : Byte) (m : Memory) (a : Nat) (b : Byte) : Memory :=
  match m with
  | [] => if b = d then [] else [(a, b)]
  | (k, v) :: t =>
    if a < k then (if b = d then (k, v) :: t else (a, b) :: (k, v) :: t)
    else if a = k then (if b = d then t else (a, b) :: t)
    else (k, v) :: cellPut d t a b

/-- Every entry stands at `lo` or above, addresses rise, and no entry equals `d`. -/
def cellWfFrom (d : Byte) (lo : Nat) (m : Memory) : Bool :=
  match m with
  | [] => true
  | (k, v) :: t => lo ≤ k && v != d && cellWfFrom d (k + 1) t

/-- The canonical form of memory; unlisted bytes are zero, as a wiped byte reads (R317, R544; assumption 8). -/
def Memory.wf (m : Memory) : Bool := cellWfFrom 0#8 0 m

/-- The canonical form of the boot flash; an erased byte reads 0xFF (assumption 9). -/
def flashWf (m : Memory) : Bool := cellWfFrom 0xFF#8 0 m

def cellsGet (d : Byte) (m : Memory) (a n : Nat) : List Byte :=
  match n with
  | 0 => []
  | k + 1 => cellGet d m a :: cellsGet d m (a + 1) k

def cellsPut (d : Byte) (m : Memory) (a : Nat) (bs : List Byte) : Memory :=
  match bs with
  | [] => m
  | b :: t => cellsPut d (cellPut d m a b) (a + 1) t

/-- Wipe a range. -/
def cellsClear (m : Memory) (a n : Nat) : Memory := m.filter (fun c => c.1 < a || a + n ≤ c.1)

def State.readByte (s : State) (a : Nat) : Byte := cellGet 0 s.mem a
def State.readBytes (s : State) (a n : Nat) : List Byte := cellsGet 0 s.mem a n
def State.readNat (s : State) (a n : Nat) : Nat := leNat (s.readBytes a n)
def State.writeByte (s : State) (a : Nat) (b : Byte) : State := { s with mem := cellPut 0 s.mem a b }
def State.writeBytes (s : State) (a : Nat) (bs : List Byte) : State := { s with mem := cellsPut 0 s.mem a bs }

/-- The 64-byte line that holds an address. -/
def lineOf (a : Nat) : Nat := a / 64

/-- Mark a line poisoned (R295). -/
def State.poisonLine (s : State) (l : Nat) : State :=
  if s.poison.contains l then s else { s with poison := s.poison ++ [l] }
def State.cleanLine (s : State) (l : Nat) : State := { s with poison := s.poison.filter (· != l) }
def State.isPoison (s : State) (a : Nat) : Bool := s.poison.contains (lineOf a)

/-- Whether a range touches a poisoned line. -/
def State.anyPoison (s : State) (a n : Nat) : Bool := n != 0 && s.poison.any (fun l => a / 64 ≤ l && l ≤ (a + n - 1) / 64)

/-- Write a range: lines that it covers whole lose their poison (R296). -/
def State.store (s : State) (a : Nat) (bs : List Byte) : State :=
  { s.writeBytes a bs with
    poison := s.poison.filter (fun l => !(a ≤ l * 64 && l * 64 + 64 ≤ a + bs.length)) }

/-- Wipe a range (R317). -/
def State.wipe (s : State) (a n : Nat) : State :=
  { s with mem := cellsClear s.mem a n, poison := s.poison.filter (fun l => !(a ≤ l * 64 && l * 64 + 64 ≤ a + n)) }

/-! ### Outputs and free values -/

def State.send (s : State) (t : Tx) : State := { s with tx := s.tx ++ [t] }
def State.sendAll (s : State) (ts : List Tx) : State := { s with tx := s.tx ++ ts }

/-- A fresh free value (assumption 2), and the state with the counter advanced. -/
def State.free (s : State) : Nat := Config.freeBits s.draws
def State.drawn (s : State) : State := { s with draws := s.draws + 1 }

/-! ### Registers -/

def State.hubGet (s : State) (off : Nat) : W64 := s.hub.get 0 off
def State.hubNat (s : State) (off : Nat) : Nat := (s.hubGet off).toNat
def State.hubSet (s : State) (off : Nat) (v : W64) : State := { s with hub := s.hub.set off v }
def State.hubSetN (s : State) (off v : Nat) : State := s.hubSet off (BitVec.ofNat 64 v)

def State.fn (s : State) (n : Nat) : Fn := s.fns.get Fn.empty n
def State.setFn (s : State) (n : Nat) (f : Fn) : State := { s with fns := s.fns.set n f }
def State.modFn (s : State) (n : Nat) (g : Fn → Fn) : State := s.setFn n (g (s.fn n))

def Fn.get (f : Fn) (off : Nat) : W64 := f.regs.get 0 off
def Fn.nat (f : Fn) (off : Nat) : Nat := (f.get off).toNat
def Fn.put (f : Fn) (off : Nat) (v : W64) : Fn := { f with regs := f.regs.set off v }
def Fn.putN (f : Fn) (off v : Nat) : Fn := f.put off (BitVec.ofNat 64 v)

def State.fnGet (s : State) (n off : Nat) : W64 := (s.fn n).get off
def State.fnNat (s : State) (n off : Nat) : Nat := (s.fn n).nat off
def State.fnSet (s : State) (n off : Nat) (v : W64) : State := s.modFn n (fun f => f.put off v)
def State.fnSetN (s : State) (n off v : Nat) : State := s.modFn n (fun f => f.putN off v)

/-- Bit `i` of a number, and a field of it. -/
def bitOf (v i : Nat) : Bool := v / 2 ^ i % 2 = 1
def fieldOf (v lo width : Nat) : Nat := v / 2 ^ lo % 2 ^ width
/-- Replace a field of a number. -/
def withField (v lo width x : Nat) : Nat :=
  v - fieldOf v lo width * 2 ^ lo + (x % 2 ^ width) * 2 ^ lo
def boolN (b : Bool) : Nat := if b then 1 else 0

def sat (top v : Nat) : Nat := if top < v then top else v

/-- A 32-bit counter that saturates. -/
def State.hubCount (s : State) (off n : Nat) : State := s.hubSetN off (sat 0xFFFFFFFF (s.hubNat off + n))
def State.fnCount (s : State) (fn off n : Nat) : State := s.fnSetN fn off (sat 0xFFFFFFFF (s.fnNat fn off + n))
/-- A 64-bit counter that saturates. -/
def State.hubCount64 (s : State) (off n : Nat) : State := s.hubSetN off (sat 0xFFFFFFFFFFFFFFFF (s.hubNat off + n))
def State.fnCount64 (s : State) (fn off n : Nat) : State := s.fnSetN fn off (sat 0xFFFFFFFFFFFFFFFF (s.fnNat fn off + n))
/-- A register that keeps the longest time since its last read. -/
def State.hubMax (s : State) (off n : Nat) : State := s.hubSetN off (sat 0xFFFFFFFF (max n (s.hubNat off)))
def State.fnMax (s : State) (fn off n : Nat) : State := s.fnSetN fn off (sat 0xFFFFFFFF (max n (s.fnNat fn off)))

/-! ### Settings of a paddock -/

def State.confidential (s : State) (n : Nat) : Bool := bitOf (s.hubNat (SEC_PADDOCK_CFG + 4 * n)) 0
def State.integrity (s : State) (n : Nat) : Bool := bitOf (s.hubNat (SEC_PADDOCK_CFG + 4 * n)) 1

/-- A field of the function's template (R620). -/
def Fn.tmplNat (f : Fn) (off n : Nat) : Nat := fieldAt f.tmpl off n

def gib : Nat := 1073741824
def mib : Nat := 1048576

/-- Local physical base of the paddock's capacity (R289, R292, R620). -/
def State.capBase (s : State) (n : Nat) : Nat :=
  let f := s.fn n
  let g := s.hubNat MCT_GLOBAL_UNITS
  let u := s.hubNat MCT_STACK_UNITS
  let base := f.tmplNat 4 4 * gib
  if bitOf (f.tmplNat 1 1) 0 then (6 * g + f.tmplNat 2 1 * (256 - g - u)) * gib + base else base

def State.capSize (s : State) (n : Nat) : Nat := s.fnNat n PDK_HBM_GIB * gib

/-- Bytes of the directory area (R262). -/
def State.dirBytes (s : State) (n : Nat) : Nat :=
  let e := s.fnNat n DIR_ENTRIES
  if e = 0 then 0 else e * 16384 + 65536
def State.dirArea (s : State) (n : Nat) : Nat := s.capBase n + s.capSize n - s.dirBytes n
/-- The root table (R389). -/
def State.tableRoot (s : State) (n : Nat) : Nat := s.dirArea n - s.fnNat n XLT_TABLE_MIB * mib
/-- Base of the integrity tag reserve (R546), or of the table area without tags. -/
def State.tagBase (s : State) (n : Nat) : Nat :=
  s.tableRoot n - (if s.integrity n then s.capSize n / 32 else 0)
/-- Base of the image area (R104). -/
def State.imageBase (s : State) (n : Nat) : Nat := s.tagBase n - s.fnNat n PDK_IMAGE_SIZE * mib

/-- PDK_STATE (R151). -/
def Fn.pdk (f : Fn) : Nat := f.nat PDK_STATE % 4
def pdkEmpty : Nat := 0
def pdkOpen : Nat := 1
def pdkQuiescing : Nat := 2
def pdkQuiesced : Nat := 3

/-- BOUND of STL_BIND_STATE (R97). -/
def Fn.bound (f : Fn) : Bool := bitOf (f.nat STL_BIND_STATE) 0

/-! ### Life cycle (R566 to R569) -/

def lcBlank : Nat := 0
def lcFab : Nat := 1
def lcProvisioned : Nat := 2
def lcDeployed : Nat := 3
def lcReturned : Nat := 4
def lcScrapped : Nat := 5

/-- At least 3 of a milestone's 4 bits are 1 (R568). -/
def milestone (w lo : Nat) : Bool :=
  3 ≤ boolN (bitOf w lo) + boolN (bitOf w (lo + 1)) + boolN (bitOf w (lo + 2)) + boolN (bitOf w (lo + 3))

/-- The state a word shows, if the word is valid (R569). -/
def stateWord (w : Nat) : Option Nat :=
  let f := milestone w 0
  let p := milestone w 4
  let d := milestone w 8
  let r := milestone w 12
  if fieldOf w 20 12 ≠ 0 then none
  else if (p && !f) || (d && !p) || (r && !d) then none
  else if milestone w 16 then some lcScrapped
  else some (boolN f + boolN p + boolN d + boolN r)

def Sec.word (x : Sec) (i : Nat) : Nat := (x.otp.get 0 i).toNat

/-- The module's life-cycle state (R569). -/
def Sec.lifeCycle (x : Sec) : Nat :=
  let ws := (List.range 8).map x.word
  let shown := ws.filterMap stateWord
  if shown.isEmpty then lcScrapped else shown.foldl max 0

def State.lc (s : State) : Nat := s.sec.lifeCycle

/-! ### Tally (R667 to R671) -/

/-- Add to VALUE, keeping GEN (R667). -/
def tlyAdd (w : W64) (n : Nat) : W64 :=
  BitVec.ofNat 64 (fieldOf w.toNat 48 16 * 2 ^ 48 + sat (2 ^ 48 - 1) (w.toNat % 2 ^ 48 + n))
/-- Reset: the next GEN, VALUE zero (R667). -/
def tlyReset (w : W64) : W64 := BitVec.ofNat 64 ((fieldOf w.toNat 48 16 + 1) % 2 ^ 16 * 2 ^ 48)

/-- Count an M event. -/
def State.tallyM (s : State) (code n : Nat) : State :=
  s.hubSet (TLY_COUNT + 8 * code) (tlyAdd (s.hubGet (TLY_COUNT + 8 * code)) n)

/-- The record-scoped counters of a function count a P event of a stream (R671). -/
def Fn.tallyRec (f : Fn) (stream code n : Nat) : Fn :=
  let ctl := f.nat TLY_REC_CTL
  if bitOf ctl 31 && ctl % 16 = stream then
    (List.range 16).foldl (fun f k =>
      if f.nat (TLY_REC_SEL + 4 * k) = code then
        f.put (TLY_REC_COUNT + 8 * k) (tlyAdd (f.get (TLY_REC_COUNT + 8 * k)) n) else f) f
  else f

/-- The record-scoped set resets for a record of its stream and notes it in its history (R671, R672). -/
def Fn.recReset (f : Fn) (stream seq : Nat) : Fn :=
  let ctl := f.nat TLY_REC_CTL
  if bitOf ctl 31 && ctl % 16 = stream then
    let gen := (fieldOf (f.nat TLY_REC_COUNT) 48 16 + 1) % 2 ^ 16
    let f := (List.range 16).foldl (fun f k => f.putN (TLY_REC_COUNT + 8 * k) (gen * 2 ^ 48)) f
    f.putN (TLY_REC_HIST + 8 * (gen % 16)) (gen * 2 ^ 48 + seq % 2 ^ 48)
  else f

/-- Count a P event of a paddock; `stream` is the stream of the record it belongs to, where it belongs to one (R669 to R671). -/
def State.tallyP (s : State) (fn : Nat) (stream : Option Nat) (code n : Nat) : State :=
  if s.confidential fn then s
  else
    let s := s.tallyM code n
    s.modFn fn (fun f =>
      let f := f.put (TLY_FN_COUNT + 8 * code) (tlyAdd (f.get (TLY_FN_COUNT + 8 * code)) n)
      match stream with
      | some st => f.tallyRec st code n
      | none => f)

/-! ### Interrupts (R434, R435, R461) -/

def State.intLevel (s : State) : Bool :=
  !s.pce.intDisable && (s.hubGet PCE_INT_STATUS &&& s.hubGet PCE_INT_ENABLE) != 0

/-- Send what the level asks for: Assert_INTA when it has risen and no hold-off runs, Deassert_INTA when it has fallen. -/
def State.updateInta (s : State) : State :=
  if s.intLevel && !s.pce.intaSent && !s.pce.holdoff then
    { s.send (.inta true) with pce := { s.pce with intaSent := true } }
  else if !s.intLevel && s.pce.intaSent then
    { s.send (.inta false) with
      pce := { s.pce with intaSent := false, holdoff := decide (s.hubNat PCE_INT_HOLDOFF % 65536 ≠ 0) } }
  else s

def intReceipt : Nat := 0
def intFault : Nat := 1
def intSafe : Nat := 2
def intPort : Nat := 3
def intThermal : Nat := 4
def intShortfall : Nat := 5
def intQuiesced : Nat := 6
def intDrained : Nat := 7
def intFlrDone : Nat := 8

/-- A source sets its bit of PCE_INT_STATUS (R461). -/
def State.raiseInt (s : State) (bit : Nat) : State :=
  (s.hubSet PCE_INT_STATUS (s.hubGet PCE_INT_STATUS ||| BitVec.ofNat 64 (2 ^ bit))).updateInta

/-! ### Modes -/

/-- In the safe state (R597). -/
def State.safe (s : State) : Bool := bitOf (s.hubNat SDG_STATUS) 31

/-- Powered and able to act at all. -/
def State.up (s : State) : Bool := s.boot.powered

/-- The module has reached readiness and is not in the safe state: release, dispatch and acceptance proceed. -/
def State.running (s : State) : Bool := s.up && s.boot.ready && !s.safe

/-- Every memory machine of a warm start has ended: journal recovery runs (R83, R632). -/
def State.recovering (s : State) : Bool := s.up && !s.boot.ready && s.boot.kind = 2 && s.boot.step = 8 && 24 ≤ s.boot.machines.length

/-- Release, receipt and audit writes proceed: at readiness, and in journal recovery before it. -/
def State.releases (s : State) : Bool := s.running || (s.recovering && !s.safe)

/-- The PF exists; a VF exists while VF Enable is 1 and NumVFs reaches it (R422). -/
def State.fnExists (s : State) (n : Nat) : Bool := n = 0 || (s.pce.vfEnable && n ≤ s.pce.numVfs)

/-- A memory write reaches a function (R430, R458). -/
def State.barOpen (s : State) (n : Nat) : Bool := s.up && s.fnExists n && !(s.fn n).pce.d3hot && !(s.fn n).pce.flrBusy

/-- The latency tolerance is reported when it changes (R441). -/
def State.noteLtr (s : State) : State :=
  let us := if s.fns.any (fun p => p.2.pdk = pdkOpen) then 10 else 1000
  if !s.pce.linkUp || s.pce.ltr = us then s else { s.send (.ltr us) with pce := { s.pce with ltr := us } }

/-- FLT_N asserted (R692). -/
def State.fltAsserted (s : State) : Bool :=
  s.boot.aux && (!s.boot.powered || (1 ≤ s.boot.step && s.boot.step ≤ 3) || s.safe || s.boot.recovery || s.boot.failed)

/-- ALRT_N asserted: a UC or FT entry is unread (R595, R692). -/
def State.alrtAsserted (s : State) : Bool :=
  s.boot.aux && s.boot.powered && s.sdg.queue.any (fun e => e.2.cls != .ce)

/-- THERMTRIP_N asserted: a trip reading now or within the last 10 ms (R692). -/
def State.thermTripAsserted (s : State) : Bool :=
  s.boot.aux && match s.boot.thermTripAt with
    | some t => s.time < t + 10000000
    | none => false

end Sys2Proof.Machine
end

