-- ==== Sys2Proof/Machine/Layout.lean ====
section
/-! DEFINITION. Logical and physical units, their physical IDs, and where an address is served (R17, R22 to R30, R289, R290,
R303, R306, R350, R351, R366). -/

namespace Sys2Proof.Machine
open Sys2Proof

/-! ### Kinds of unit: the KIND codes of R604, which agree with the map codes of R366 -/

def kCore : Nat := 0
def kSlice : Nat := 1
def kStack : Nat := 2
def kDrover : Nat := 3
def kShepherd : Nat := 4
def kPort : Nat := 5
def kCommons : Nat := 6
def kTile : Nat := 7
def kLane : Nat := 8
def kForest : Nat := 9
def kHalf : Nat := 10

/-- The pool of a physical unit of a kind with spares (R22, R25): its first physical number, its size and how many logical
units it serves. Cores are numbered tile × 272 + core. Other kinds have no spares. -/
def poolOf (kind phys : Nat) : Option (Nat × Nat × Nat) :=
  if kind = kCore then some (phys / 272 * 272, 272, 256)
  else if kind = kSlice then some (0, 264, 256)
  else none

def State.badIn (s : State) (kind lo n : Nat) : List Nat :=
  (s.noc.bad.filter (fun b => b.1 = kind && lo ≤ b.2 && b.2 < lo + n)).map (·.2)

/-- The `l`-th good physical unit of a pool whose bad units are listed rising (R24). -/
def nthGood (bad : List Nat) (l : Nat) : Nat := bad.foldl (fun p b => if b ≤ p then p + 1 else p) l

/-- The physical unit under a logical number as cold start maps it (R24). -/
def State.basePhys (s : State) (kind logical : Nat) : Option Nat :=
  if kind = kCore then
    let t := logical / 256
    let p := nthGood (s.badIn kCore (t * 272) 272) (t * 272 + logical % 256)
    if p < t * 272 + 272 then some p else none
  else if kind = kSlice then
    let p := nthGood (s.badIn kSlice 0 264) logical
    if p < 264 then some p else none
  else if s.noc.bad.contains (kind, logical) then none else some logical

/-- The map entry of a logical unit (R366): its physical unit, none where vacant. -/
def State.phys (s : State) (kind logical : Nat) : Option Nat :=
  match s.noc.maps.find (kind * 65536 + logical) with
  | some p => if p = 0 then none else some (p - 1)
  | none => s.basePhys kind logical

def State.vacant (s : State) (kind logical : Nat) : Bool := (s.phys kind logical).isNone

/-- The logical number that a physical unit serves (R604). -/
def State.logicalOf (s : State) (kind p : Nat) : Option Nat :=
  let cand :=
    if kind = kCore then (List.range 256).map (fun c => p / 272 * 256 + c)
    else if kind = kSlice then List.range 256
    else if kind = kCommons then [16, 17, 18, 19]
    else [p]
  cand.find? (fun l => s.phys kind l == some p)

/-- The standby of a commons site: its partner where CMN_SITE_CFG makes this the primary of a redundant pair and the partner is in
state STANDBY (R528, R536, R537). -/
def State.standbyOf (s : State) (site : Nat) : List Nat :=
  let cfg := s.hubNat (CMN_SITE_CFG + 0x100 * (site - 16))
  let q := fieldOf cfg 12 2
  if bitOf cfg 8 && !bitOf cfg 9 && s.hubNat (CMN_SITE_STATUS + 0x100 * q) % 16 = 4 then [16 + q] else []

/-- The free spares of a pool, rising (R24, R25), and the standby of a commons (R528). -/
def State.spares (s : State) (kind p : Nat) : List Nat :=
  if kind = kCommons then s.standbyOf p
  else match poolOf kind p with
  | none => []
  | some (lo, n, _) =>
    ((List.range n).map (lo + ·)).filter (fun q =>
      !s.noc.bad.contains (kind, q) && !s.noc.fenced.contains (kind, q) && (s.logicalOf kind q).isNone)

def State.fencedUnit (s : State) (kind p : Nat) : Bool := s.noc.fenced.contains (kind, p)

/-! ### Physical IDs (R350, R351) -/

def rtr (x y : Nat) : Nat := 24 * y + x
/-- Router of tile port q of site t. -/
def tileRouter (t q : Nat) : Nat := rtr (4 + 4 * (t % 4) + q % 4) (2 + 4 * (t / 4) + q / 4)

/-- Router, local port and UNIT field of a physical unit. -/
def unitPlace (kind p : Nat) : Nat × Nat × Nat :=
  if kind = kCore then (tileRouter (p / 272) (p % 272 / 17), 0, p % 272)
  else if kind = kSlice then
    if p < 256 then (tileRouter (p / 16) (p % 16), 1, 0)
    else (rtr (if p % 4 < 2 then 2 + p % 4 else 18 + p % 4) (if p < 260 then 1 else 18), 0, 0)
  else if kind = kStack then (if p < 12 then rtr (2 * p) 0 else rtr (2 * (p - 12)) 19, 0, 0)
  else if kind = kDrover then (if p < 16 then rtr (4 + p) 1 else rtr (p - 12) 18, 0, 0)
  else if kind = kShepherd then (rtr (if p < 2 then 2 else 21) (9 + p % 2), 0, 0)
  else if kind = kPort then (if p < 8 then rtr 0 (2 + 2 * p) else rtr 23 (2 + 2 * (p - 8)), 0, 0)
  else if kind = kCommons then (rtr (if p < 18 then 2 else 20) (if p % 2 = 0 then 3 else 14), 0, 0)
  else if kind = kTile then (tileRouter p 0, 2, 0)
  else (0, 0, p)

def State.epochOf (s : State) (kind p : Nat) : Nat := s.noc.epochs.get 0 (kind * 65536 + p)

/-- The 24-bit physical ID (R351) with the current fence epoch. -/
def State.physId (s : State) (kind p : Nat) : Nat :=
  let u := unitPlace kind p
  s.epochOf kind p * 2 ^ 20 + u.1 * 2 ^ 11 + u.2.1 * 2 ^ 9 + u.2.2

/-- A map entry as NOC_MAP_DATA shows it (R366). -/
def State.mapEntry (s : State) (kind logical : Nat) : Nat :=
  match s.phys kind logical with
  | some p => 2 ^ 31 + s.physId kind p
  | none => 0

/-! ### Hirsels (R22, R27, R101) -/

/-- A hirsel is complete when none of its cores is vacant and its tile is in service. -/
def State.hirselComplete (s : State) (h : Nat) : Bool :=
  !s.vacant kTile (h / 16) && (List.range 16).all (fun c => !s.vacant kCore (h * 16 + c))

def Fn.hasHirsel (f : Fn) (h : Nat) : Bool := bitOf (f.nat (PDK_HIRSELS + 4 * (h / 32))) (h % 32)
def Fn.hirselList (f : Fn) : List Nat := (List.range 256).filter f.hasHirsel
def Fn.setHirsel (f : Fn) (h : Nat) (on : Bool) : Fn :=
  f.putN (PDK_HIRSELS + 4 * (h / 32)) (withField (f.nat (PDK_HIRSELS + 4 * (h / 32))) (h % 32) 1 (boolN on))

/-- Hirsels that no group holds: a switched-out group holds none (R76, R205). -/
def State.heldHirsels (s : State) : List Nat :=
  (s.groups.map (fun g => if g.2.phase == .switchedOut then [] else g.2.hirsels)).flatten

def State.freeHirsels (s : State) (n : Nat) : List Nat :=
  let used := s.heldHirsels
  (s.fn n).hirselList.filter (fun h => s.hirselComplete h && !used.contains h && !s.ms.leaving.contains h)

/-! ### Where memory lies (R17, R289, R290) -/

def foldHash (k w : Nat) : Nat := ((k ^^^ (k >>> w)) ^^^ ((k >>> (2 * w)) ^^^ (k >>> (3 * w)))) % 2 ^ w

/-- Pseudo-channel and device offset of an HBM address (R290). -/
def State.hbmPlace (s : State) (lpa : Nat) : Nat × Nat :=
  let g := s.hubNat MCT_GLOBAL_UNITS
  let u := s.hubNat MCT_STACK_UNITS
  let grp := 256 - g - u
  if lpa < 6 * g * gib then
    let n := lpa / 256
    let k := n / 1536
    let j := n % 1536
    (512 * ((j / 512 + k) % 3) + ((j % 512) ^^^ foldHash k 9), k * 256 + lpa % 256)
  else if lpa < (6 * g + 6 * grp) * gib then
    let b := (lpa - 6 * g * gib) / (grp * gib)
    let a := (lpa - 6 * g * gib) % (grp * gib)
    let n := a / 256
    let k := n / 256
    let q := (n % 256) ^^^ foldHash k 8
    ((4 * b + q / 64) * 64 + q % 64, g * 2 ^ 22 + k * 256 + a % 256)
  else
    let b := (lpa - (1536 - 6 * u) * gib) / (u * 256 * mib)
    let a := (lpa - (1536 - 6 * u) * gib) % (u * 256 * mib)
    let n := a / 256
    let k := n / 64
    (b * 64 + ((n % 64) ^^^ foldHash k 6), (1024 - 4 * u) * mib + k * 256 + a % 256)

/-- How a controller splits a device offset: row, stack ID, bank, segment, burst and byte (R291). -/
def deviceSplit (off : Nat) : Nat × Nat × Nat × Nat × Nat × Nat :=
  (fieldOf off 18 12, fieldOf off 14 4, fieldOf off 10 4 ^^^ fieldOf off 18 4, fieldOf off 8 2, fieldOf off 5 3, off % 32)

def hbmTop : Nat := 1536 * gib
def scratchBase : Nat := 0x200000000000
def coreBase : Nat := 0x300000000000
def commonsBase : Nat := 0x400000000000

def State.isHbm (_s : State) (lpa : Nat) : Bool := lpa < hbmTop

/-- Stack that holds an HBM address. -/
def State.stackOf (s : State) (lpa : Nat) : Nat := (s.hbmPlace lpa).1 / 64

/-- Local physical base of the pasture area's copy in GROUP_A: the top PASTURE_GIB GiB of its group band (R292). -/
def State.pastureBase (s : State) : Nat :=
  let g := s.hubNat MCT_GLOBAL_UNITS
  let band := 256 - g - s.hubNat MCT_STACK_UNITS
  (6 * g + (fieldOf (s.hubNat MCT_PASTURE_CFG) 0 4 + 1) * band) * gib - fieldOf (s.hubNat MCT_PASTURE_CFG) 16 16 * gib

/-- Groups that hold pasture copies in service, those that have lost a stack last (R314, R321). -/
def State.pastureGroups (s : State) : List Nat :=
  let t := s.hubNat MCT_TWIN_STATUS
  let act := [fieldOf t 4 4, fieldOf t 8 4]
  act.filter (fun g => !s.ms.pastureLost.contains g) ++ s.ms.pastureLost.filter act.contains

/-- Offset in the pasture area, for an address of its copy in GROUP_A. -/
def State.pastureOff (s : State) (lpa : Nat) : Option Nat :=
  if s.pastureBase ≤ lpa && lpa < s.pastureBase + fieldOf (s.hubNat MCT_PASTURE_CFG) 16 16 * gib then some (lpa - s.pastureBase) else none

/-- A fenced stack returns poison and discards writes (R297); a pasture line is lost only with the copy that serves it (R314). -/
def State.stackFenced (s : State) (lpa : Nat) : Bool :=
  lpa < hbmTop && (match s.pastureOff lpa with
    | some _ => s.vacant kStack (s.pastureGroups.headD 0 * 4 + s.stackOf lpa % 4)
    | none => s.vacant kStack (s.stackOf lpa))

/-- Local physical address of a core store byte. -/
def coreAddr (core off : Nat) : Nat := coreBase + core * 0x80000 + off

/-! ### Fold slices (R302, R303, R306, R322) -/

def ownerHub : Nat := 0xFE
def State.sliceOwner (s : State) (l : Nat) : Nat := fieldOf (s.hubNat (FLD_SLICE_MAP + 4 * l)) 8 8
def State.sliceUse (s : State) (l : Nat) : Nat := s.hubNat (FLD_SLICE_MAP + 4 * l) % 4

/-- An owner's slices of one use (1 cache, 2 scratchpad), rising, without vacant ones (R310). -/
def State.slices (s : State) (owner use : Nat) : List Nat :=
  (List.range 256).filter (fun l => s.sliceOwner l = owner && s.sliceUse l = use && !s.vacant kSlice l)

/-- The slice that serves an address for an owner (R303). -/
def State.serving (s : State) (owner lpa : Nat) : Nat :=
  let c := s.slices owner 1
  if lpa < hbmTop then c.getD ((s.hbmPlace lpa).1 % c.length) 0
  else if coreBase ≤ lpa && lpa < commonsBase then c.getD (lpa / 256 % c.length) 0
  else (lpa - scratchBase) / 0x800000 % 256

/-- Set of a line in its slice (R304). -/
def State.foldSet (s : State) (lpa : Nat) : Nat :=
  let p := s.hbmPlace lpa
  (p.2 / 64 % 8192) ^^^ ((p.1 / 256) * 1024)

/-- The `i`-th byte of a paddock's scratchpad share (R306), counted through its slices. -/
def State.shareAddr (s : State) (owner i : Nat) : Option Nat :=
  match (s.slices owner 2)[i / 0x800000]? with
  | some l => some (scratchBase + l * 0x800000 + i % 0x800000)
  | none => none

/-! ### Memory as masters see it: fenced stacks and poison -/

/-- Read bytes with the poison of their lines (R295 to R297). -/
def State.fetch (s : State) (a n : Nat) : List Byte × Bool :=
  (s.readBytes a n, s.anyPoison a n || (n != 0 && (s.stackFenced a || s.stackFenced (a + n - 1))))

/-- Write bytes; a fenced stack discards them. -/
def State.commitStore (s : State) (a : Nat) (bs : List Byte) : State :=
  if s.stackFenced a then s else s.store a bs

end Sys2Proof.Machine
end

