-- ==== Sys2Proof/Machine/CohBase.lean ====
section
/-! DEFINITION. Coherent agents, lines and how the home locks one (R373 to R375, R378). -/

namespace Sys2Proof.Machine
open Sys2Proof

def State.line (s : State) (l : Nat) : CohLine := s.lines.get CohLine.empty l
def State.setLine (s : State) (l : Nat) (x : CohLine) : State := { s with lines := s.lines.set l x }
def State.modLine (s : State) (l : Nat) (h : CohLine → CohLine) : State := s.setLine l (h (s.line l))

/-- The unit behind an agent. -/
def State.agentUnit (s : State) (a : Nat) : Nat × Nat :=
  if a < 4 then (kShepherd, a)
  else if a < 20 then (kTile, (s.phys kTile (a - 4)).getD (a - 4))
  else (kCommons, a - 4)
def State.agentId (s : State) (a : Nat) : Nat := s.physId (s.agentUnit a).1 (s.agentUnit a).2

/-- A transaction as it arrives at the home. -/
def newTxn (agent tag : Nat) (kind : TxnKind) (now : Nat) : CohTxn :=
  { agent := agent, tag := tag, kind := kind, goSent := false, launched := false, snoop := kind, needPush := false, passed := [],
    sharers := [], pushed := false, pushIn := false, pushOwner := 0, lost := false, lostM := false, lapDone := false, granted := false,
    poison := false, pushM := false, awaiting := [], told := [], startedAt := now }

/-- The home locks the line for a transaction and sends GO (R375 step 2, R378). -/
def State.lockLine (s : State) (l : Nat) (t : CohTxn) : State :=
  let x := s.line l
  let need := t.kind != .writeback && x.home == .absent
  (s.setLine l { x with lock := some { t with goSent := true, needPush := need } }).send (.rsp (s.agentId t.agent) t.tag 2 0 (boolN need))

end Sys2Proof.Machine
end

