-- ==== Sys2Proof/Machine/Receipts.lean ====
section
/-! DEFINITION. Records in the journal, receipts, audit entries and the completion of records (R49, R64 to R81, R89 to R94,
R448, R449, R452). -/

namespace Sys2Proof.Machine
open Sys2Proof

/-! ### Fields of a record (R49, R50) -/

def recType (r : List Byte) : Nat := fieldAt r 0 1
def recAfter (r : List Byte) : Bool := bitOf (fieldAt r 2 1) 0
def recStream (r : List Byte) : Nat := fieldAt r 3 1 % 16
def recSeq (r : List Byte) : Nat := fieldAt r 4 6
def recEpoch (r : List Byte) : Nat := fieldAt r 12 4
def recTag (r : List Byte) : Nat := fieldAt r 16 4

def tNop : Nat := 0x01
def tBind : Nat := 0x02
def tWork : Nat := 0x03
def tAuditClose : Nat := 0x04
def tLoadProgram : Nat := 0x10
def tLoadWeights : Nat := 0x11
def tUnload : Nat := 0x12
def tTableUpdate : Nat := 0x20
def tInvalidate : Nat := 0x21
def tDirInsert : Nat := 0x30
def tDirDelete : Nat := 0x31
def tQuiesce : Nat := 0x40
def tResume : Nat := 0x41

/-! ### Status codes (R15) and KIND (R66) -/

def stOk : Nat := 0
def stFull : Nat := 1
def stGap : Nat := 2
def stState : Nat := 3
def stLength : Nat := 4
def stFormat : Nat := 5
def stPoisoned : Nat := 6
def stFaulted : Nat := 7
def stQuiesced : Nat := 8
def stEpoch : Nat := 9
def kindCompletion : Nat := 1
def kindRefusal : Nat := 2
def kindWatermark : Nat := 3
def noAudit : Nat := 0xFFFFFFFFFFFF

/-! ### Entries -/

def Fn.entry (f : Fn) (e : Nat) : Option JEntry := f.entries.find e
def Fn.setEntry (f : Fn) (e : Nat) (j : JEntry) : Fn := { f with entries := f.entries.set e j }
def Fn.modEntry (f : Fn) (e : Nat) (g : JEntry → JEntry) : Fn :=
  match f.entry e with
  | some j => f.setEntry e (g j)
  | none => f
def State.entry (s : State) (fn e : Nat) : Option JEntry := (s.fn fn).entry e
def State.modEntry (s : State) (fn e : Nat) (g : JEntry → JEntry) : State := s.modFn fn (fun f => f.modEntry e g)

/-- Entries in acceptance order. -/
def insertByOrder (p : Nat × JEntry) (l : List (Nat × JEntry)) : List (Nat × JEntry) :=
  match l with
  | [] => [p]
  | q :: t => if p.2.order < q.2.order then p :: q :: t else q :: insertByOrder p t
def Fn.inOrder (f : Fn) : List (Nat × JEntry) := f.entries.foldl (fun l p => insertByOrder p l) []

/-- Group number of an entry (the record's dispatcher slot). -/
def gidOf (fn e : Nat) : Nat := fn * 65536 + e
def State.grp (s : State) (gid : Nat) : Option Grp := s.groups.find gid
def State.setGrp (s : State) (gid : Nat) (g : Grp) : State := { s with groups := s.groups.set gid g }
def State.modGrp (s : State) (gid : Nat) (h : Grp → Grp) : State :=
  match s.grp gid with
  | some g => s.setGrp gid (h g)
  | none => s

def Fn.watermark (f : Fn) (stream : Nat) : Nat := f.nat (STL_WATERMARK + 8 * stream)
def Fn.epoch (f : Fn) : Nat := f.nat STL_EPOCH
def Fn.ringLog (f : Fn) : Nat := fieldOf (f.nat STL_BIND_STATE) 8 8
def Fn.auditLog (f : Fn) : Nat := fieldOf (f.nat STL_BIND_STATE) 16 8

/-- The earlier records of an entry's stream that have not yet reached RELEASING or COMMITTED. -/
def Fn.earlierOpen (f : Fn) (j : JEntry) : Bool :=
  f.entries.any (fun p => p.2.order < j.order && recStream p.2.record = recStream j.record && p.2.st == .accepted)

/-! ### Receipts (R65 to R71) -/

/-- A receipt image without PHASE. -/
def receiptImage (status kind : Nat) (unchecked : Bool) (stream detail slot seq wm epoch tag audit : Nat) : List Byte :=
  leBytes 4 (status * 2 ^ 28 + kind * 2 ^ 25 + boolN unchecked * 2 ^ 24 + stream * 2 ^ 20 + detail % 256 * 2 ^ 12 + slot % 4096) ++
    leBytes 6 seq ++ leBytes 6 wm ++ leBytes 4 epoch ++ leBytes 4 tag ++ leBytes 6 audit ++ leBytes 2 0

/-- PHASE of a receipt index (R68). -/
def receiptPhase (log2 i : Nat) : Nat := if i / 2 ^ log2 % 2 = 0 then 1 else 0
def withPhase (img : List Byte) (log2 i : Nat) : List Byte :=
  putAt img 31 (leBytes 1 (receiptPhase log2 i * 128))

/-- Notice entries in use: those with an index and those carried (R71). -/
def Fn.noticeCount (f : Fn) : Nat :=
  f.notices.length + (f.carried.filter (fun c => match c with | .notice _ => true | .entry _ => false)).length

/-- A refusal or watermark receipt takes the next index, or is carried after a function reset (R71, R457). -/
def Fn.addNotice (f : Fn) (stream : Nat) (img : List Byte) : Fn :=
  let f := { f with wmAtReceipt := f.wmAtReceipt.set stream (f.watermark stream) }
  if f.carrying then
    { (f.putN PCE_FLR_CARRIED (f.nat PCE_FLR_CARRIED + 1)) with carried := f.carried ++ [.notice img] }
  else
    { f with notices := f.notices ++ [⟨f.nextRing, withPhase img f.ringLog f.nextRing⟩],
             nextRing := (f.nextRing + 1) % 2 ^ 32 }

/-- The completion receipt of an entry is built and takes the next index, or is carried. -/
def Fn.addCompletion (f : Fn) (e : Nat) (j : JEntry) (status detail : Nat) (unchecked : Bool) (audit : Nat) : Fn :=
  let st := recStream j.record
  let img := receiptImage status kindCompletion unchecked st detail j.slot (recSeq j.record) (f.watermark st) f.epoch
    (recTag j.record) audit
  let f := { f with wmAtReceipt := f.wmAtReceipt.set st (f.watermark st) }
  if f.carrying then
    { ((f.putN PCE_FLR_CARRIED (f.nat PCE_FLR_CARRIED + 1)).setEntry e { j with receipt := img, ringIndex := none }) with
      carried := f.carried ++ [.entry e] }
  else
    { (f.setEntry e { j with receipt := withPhase img f.ringLog f.nextRing, ringIndex := some f.nextRing }) with
      nextRing := (f.nextRing + 1) % 2 ^ 32 }

/-! ### The audit chain (R89 to R94) -/

def aResult : Nat := 1
def aLoad : Nat := 2
def aCheckpoint : Nat := 3
def aGenesis : Nat := 4

/-- An audit entry without PHASE; `body` is bytes 32 to 255. -/
def auditImage (type check fn stream seq epoch index time : Nat) (body : List Byte) : List Byte :=
  leBytes 2 type ++ leBytes 1 check ++ leBytes 1 fn ++ leBytes 1 stream ++ leBytes 1 0 ++ leBytes 6 seq ++ leBytes 4 epoch ++
    leBytes 8 index ++ leBytes 8 time ++ (body ++ zeros 224).take 224

/-- Chain an entry whose byte 5 is zero (R91). -/
def chainNext (c img : List Byte) : List Byte := sha384 (c ++ img)

/-- The entry takes the next index of the chain. -/
def Audit.push (a : Audit) (img : List Byte) : Audit :=
  { a with entries := a.entries.set a.next img, chain := chainNext a.chain img, next := a.next + 1 }

def State.serial (s : State) : Nat := s.hubNat IDN_SERIAL

/-- A CHECKPOINT takes its index; its bytes are determined then, and it is withheld until it has been signed (R92, R93). -/
def State.checkpoint (s : State) (fn : Nat) : State :=
  let f := s.fn fn
  let a := f.audit
  if !a.started then s
  else
    let body0 := leBytes 8 a.first ++ leBytes 8 s.serial ++ a.chain ++ sha384 f.measLog.flatten ++ zeros 16
    let msg := auditImage aCheckpoint 0 fn 0 0 f.epoch a.next s.time body0
    let sig := beBytes 96 (Config.ecdsaSign s.sec.ak (msg.take 160))
    let img := auditImage aCheckpoint 0 fn 0 0 f.epoch a.next s.time (body0 ++ sig)
    let ck : Ckpt := ⟨a.next, a.first, a.chain, s.time⟩
    s.setFn fn { f with audit := { a.push img with since := 0, sinceAny := false, first := a.next + 1,
                                                   unsigned := a.unsigned ++ [ck] } }

/-- A RESULT or LOAD entry: after every 4,096 a CHECKPOINT follows (R92). -/
def State.pushAudit (s : State) (fn : Nat) (img : List Byte) : State :=
  let f := s.fn fn
  let a := f.audit.push img
  let s := s.setFn fn { f with audit := { a with since := a.since + 1, sinceAny := true } }
  if 4096 ≤ a.since + 1 then s.checkpoint fn else s

/-! ### Draining (R452) -/

def Fn.isDrained (f : Fn) : Bool :=
  f.pdk = pdkQuiesced && f.entries.isEmpty && f.notices.isEmpty && f.carried.isEmpty &&
    f.audit.next ≤ f.nat STL_AUDIT_HEAD && f.xlt.prgs.all (fun p => p.2.quarantined)

/-- DRAINED is set in PCE_INT_STATUS when it becomes true (R452). -/
def State.noteDrained (s : State) (fn : Nat) : State :=
  let f := s.fn fn
  let d := f.isDrained
  let s := s.setFn fn { f with drained := d }
  if d && !f.drained then s.raiseInt intDrained else s

/-! ### Completion -/

/-- Mark an entry COMMITTED. -/
def State.commitEntry (s : State) (fn e : Nat) : State :=
  match s.entry fn e with
  | some j =>
    (s.modEntry fn e (fun j => { j with st := .committed, busy := false })).tallyP fn (some (recStream j.record)) 0x01 1
  | none => s

/-- Build the receipts of one entry whose outcome is decided and whose turn has come (R64, R78). -/
def State.settleOne (s : State) (fn e : Nat) : State :=
  match s.entry fn e with
  | some j =>
    match j.outcome with
    | some (status, detail) =>
      if j.st == .accepted && !(s.fn fn).earlierOpen j then
        (s.modFn fn (fun f => f.addCompletion e { j with outcome := none } status detail false noAudit)).commitEntry fn e
      else s
    | none => s
  | none => s

/-- Settle every entry in acceptance order. -/
def State.settle (s : State) (fn : Nat) : State :=
  ((s.fn fn).inOrder.map (·.1)).foldl (fun s e => s.settleOne fn e) s

/-- A record that has ended reads nothing more of its source. -/
def State.dropLoadReads (s : State) (fn e : Nat) : State :=
  let s := s.modFn fn (fun f => { f with xlt := { f.xlt with waits := f.xlt.waits.filter (fun w => w.who != .load e) } })
  let mine := fun (r : PcieReq) => r.fn = fn && (match r.use with
    | .load e' _ => e' = e
    | _ => false)
  { s with pce := { s.pce with reqs := s.pce.reqs.map (fun r => if mine r.2 then (r.1, { r.2 with use := .dead }) else r),
                               waiting := s.pce.waiting.filter (fun r => !mine r) } }

/-- Decide the outcome of a record; one that completes with QUIESCED takes the later records of its stream with it (R449). -/
def State.decide (s : State) (fn e status detail : Nat) : State :=
  match s.entry fn e with
  | some j =>
    if j.st == .accepted && j.outcome.isNone then
      let s := (s.dropLoadReads fn e).modEntry fn e (fun j => { j with outcome := some (status, detail), busy := false, src := [] })
      if status = stQuiesced then
        s.modFn fn (fun f => match f.quiesce with
          | some q => { f with quiesce := some { q with streams := recStream j.record :: q.streams } }
          | none => f)
      else s
    else s
  | none => s

/-! ### Ending an attempt -/

def subCommitted : Nat := 0
def subDiscarded : Nat := 1
def subEnded : Nat := 2

/-- The RECORD field of an attempt at a commons (R511). -/
def State.winRecord (s : State) (gid : Nat) : Nat :=
  match s.entry (gid / 65536) (gid % 65536) with
  | some j => gid / 65536 * 2 ^ 59 + recStream j.record * 2 ^ 55 + j.attempts % 8 * 2 ^ 52 + recSeq j.record
  | none => 0

/-- RECORD_END becomes due at every site whose window the attempt used (R516); what it had not sent yet is dropped. -/
def State.endWindow (s : State) (gid sub : Nat) : State :=
  { s with sites := s.sites.map (fun (p : Nat × Site) =>
      let reqs := (p.2.reqs.filter (fun r => r.2.gid ≠ gid || r.2.sent)).map
        (fun r => if r.2.gid = gid then (r.1, { r.2 with dead := true }) else r)
      if p.2.users.any (fun u => u.1 = gid) then
        (p.1, { p.2 with users := p.2.users.filter (fun u => u.1 != gid), reqs := reqs,
                         endsPending := p.2.endsPending ++ [⟨gid, s.winRecord gid, sub⟩] })
      else (p.1, { p.2 with reqs := reqs })) }

/-- Whether a use of a host read belongs to a group. -/
def PcieUse.ofGroup (u : PcieUse) (gid : Nat) : Bool :=
  match u with
  | .thread g _ _ _ => g = gid
  | .input g _ => g = gid
  | .mcopy g _ _ _ => g = gid
  | _ => false

def XWho.ofGroup (w : XWho) (gid : Nat) : Bool :=
  match w with
  | .thread g _ => g = gid
  | .input g => g = gid
  | _ => false

/-- Waiters of an attempt leave their page request groups (R413). -/
def Fn.leaveWaits (f : Fn) (gid : Nat) : Fn :=
  { f with xlt := { f.xlt with waits := f.xlt.waits.filter (fun w => !w.who.ofGroup gid) } }

/-- STAGED lines of a group leave the Fold (R307). -/
def MemSys.unstage (m : MemSys) (gid : Nat) : MemSys :=
  { m with fold := m.fold.map (fun (p : Nat × List FoldTag) => (p.1, p.2.filter (fun w => !(w.staged && w.owner = gid)))) }

/-- What an attempt still awaits finds it gone; its window use ends with `sub`. -/
def State.detach (s : State) (gid sub : Nat) : State :=
  let s := (s.endWindow gid sub).modFn (gid / 65536) (fun f => f.leaveWaits gid)
  { s with ms := s.ms.unstage gid,
           pce := { s.pce with
                      reqs := s.pce.reqs.map (fun r => if r.2.use.ofGroup gid then (r.1, { r.2 with use := .dead }) else r),
                      waiting := s.pce.waiting.filter (fun r => !r.use.ofGroup gid) } }

/-- Forget an attempt: its hirsels and private storage are free. -/
def State.dropGroup (s : State) (gid sub : Nat) : State :=
  let s := s.detach gid sub
  { s with groups := s.groups.del gid }

/-- DSP_RUNNING counts the RUNNING groups (R150): a view kept in the register. -/
def State.noteRunning (s : State) (fn : Nat) : State :=
  s.fnSetN fn DSP_RUNNING ((s.groups.filter (fun g => g.2.fn = fn && (g.2.phase == .running || g.2.phase == .launching || g.2.phase == .stopping))).length)

/-- An incomplete hirsel leaves its paddock once no group runs on it; its core stores are scrubbed (R102). -/
def State.leaveHirsels (s : State) : State :=
  let used := s.heldHirsels
  let go := s.ms.leaving.filter (fun h => !used.contains h)
  let s := { s with ms := { s.ms with leaving := s.ms.leaving.filter (fun h => used.contains h) } }
  go.foldl (fun s h =>
    let s := { s with fns := s.fns.map (fun p => (p.1, p.2.setHirsel h false)) }
    (List.range 16).foldl (fun s c => s.wipe (coreAddr (h * 16 + c) 0) 0x80000) s) s

/-! ### Restarts of a stream (R124, R206) -/

/-- A group as a restart leaves it at step 4 of R116; one that is being switched out, or has been, waits for hirsels with no
context. `held` are the earlier records of its stream that are HELD. -/
def Grp.relaunched (g : Grp) (held : List Nat) (now : Nat) : Grp :=
  { g with phase := (if g.phase == .saving || g.phase == .switchedOut then g.phase else .launching),
           threads := [], tiles := [], tq := [], extLru := [], staged := [], filter := [], forwarded := [], heldAtStart := held,
           xas := [], rounds := [], collect := none, lookups := g.lookups.filter (fun l => l.thread.isNone), gathered := [],
           inputDigest := none, inputPending := true, input := [], windows := 0, code := none, poison := false,
           memPoison := false, unchecked := false,
           wasHeld := false, launchAt := now, saved := [], faulter := none }

/-- Earlier HELD records of the stream of an entry. -/
def State.heldBefore (s : State) (fn e : Nat) : List Nat :=
  match s.entry fn e with
  | none => []
  | some j =>
    ((s.fn fn).entries.filter (fun (p : Nat × JEntry) => p.2.order < j.order && recStream p.2.record = recStream j.record &&
      (match s.grp (gidOf fn p.1) with
        | some g => g.phase == .ended
        | none => false))).map (fun p => gidOf fn p.1)

/-- Restart a group (R124). -/
def State.restartGroup (s : State) (gid : Nat) : State :=
  match s.grp gid with
  | none => s
  | some g =>
    let held := s.heldBefore g.fn g.entry
    let s := (s.detach gid 1).setGrp gid (g.relaunched held s.time)
    let st := match s.entry g.fn g.entry with
      | some j => recStream j.record
      | none => 0
    ((s.fnCount g.fn DSP_STREAM_RERUNS 1).tallyP g.fn (some st) 0x10 1).modEntry g.fn g.entry (fun j => { j with stage := .none, logSet := [] })

/-- Later records of the stream of an entry that have an attempt and are not yet released, in order. -/
def State.laterGroups (s : State) (fn e : Nat) : List Nat :=
  match s.entry fn e with
  | none => []
  | some j =>
    ((s.fn fn).inOrder.filter (fun (p : Nat × JEntry) => j.order < p.2.order && recStream p.2.record = recStream j.record &&
      p.2.st == .accepted && (s.grp (gidOf fn p.1)).isSome)).map (fun p => gidOf fn p.1)

/-- A record whose staged stores were forwarded ends without release: the later records that started while it was HELD restart
(R124). -/
def State.restartForwarded (s : State) (gid : Nat) : State :=
  match s.grp gid with
  | none => s
  | some g =>
    let later := s.laterGroups g.fn g.entry
    let forwarded := later.any (fun k => match s.grp k with
      | some h => h.forwarded.contains gid
      | none => false)
    if g.wasHeld && forwarded then
      later.foldl (fun s k => match s.grp k with
        | some h => if h.heldAtStart.contains gid then s.restartGroup k else s
        | none => s) s
    else s

/-- The attempt ends without release and its record completes (R78). -/
def State.endRecord (s : State) (gid fn e status detail : Nat) : State :=
  ((((s.restartForwarded gid).dropGroup gid subEnded).decide fn e status detail).noteRunning fn).leaveHirsels

/-! ### Quiesce (R448) -/

/-- When every record accepted before the QUIESCE is COMMITTED: the CHECKPOINT takes its index, the QUIESCE commits and the
paddock is QUIESCED. -/
def State.quiesceCommit (s : State) (fn : Nat) : State :=
  match (s.fn fn).quiesce with
  | none => s
  | some q =>
    if (s.fn fn).pdk = pdkQuiescing &&
        (s.fn fn).entries.all (fun p => p.2.st == .committed || some p.1 == q.entry || q.order ≤ p.2.order) then
      let s := s.checkpoint fn
      let s := match q.entry with
        | some e => (s.modEntry fn e (fun j => { j with outcome := some (stOk, 0) })).settle fn
        | none => s
      let s := s.modFn fn (fun f => { (f.putN PDK_STATE pdkQuiesced) with quiesce := none })
      (((s.fnMax fn PCE_QUIESCE_MAX (s.time - q.since)).raiseInt intQuiesced).noteDrained fn).noteLtr
    else s

/-- PDK_HANDLES shows the handles that are not FREE (R150). -/
def Fn.noteHandles (f : Fn) : Fn := f.putN PDK_HANDLES f.handles.length

/-- An accepted record of one of the types, its outcome not decided, that names a handle. -/
def Fn.names (f : Fn) (types : List Nat) (h : Nat) : Bool :=
  f.entries.any (fun p => p.2.st == .accepted && p.2.outcome.isNone && types.contains (recType p.2.record) && fieldAt p.2.record 32 4 = h)

/-- The handle of a load that was stopped returns to FREE; that of an UNLOAD that was stopped is LOADED as before (R448). -/
def Fn.fixHandles (f : Fn) : Fn :=
  ({ f with handles := f.handles.filterMap (fun (p : Nat × Handle) =>
    match p.2.st with
    | .loading => if f.names [tLoadProgram, tLoadWeights] p.1 then some p else none
    | .unloading => if f.names [tUnload] p.1 then some p else some (p.1, { p.2 with st := .loaded })
    | .loaded => some p) } : Fn).noteHandles

/-- Complete with QUIESCED what R448 step 1 and R449 name: records that have not started, and every later record of a stream in
which one has completed so. -/
def State.quiesceSweep (s : State) (fn : Nat) : State :=
  match (s.fn fn).quiesce with
  | none => s
  | some _ =>
    ((s.fn fn).inOrder.foldl (fun s p =>
      match (s.fn fn).quiesce with
      | none => s
      | some q =>
        let notIt := some p.1 != q.entry
        let later := q.streams.contains (recStream p.2.record)
        let unstarted := (s.grp (gidOf fn p.1)).isNone && p.2.order < q.order && p.2.stage == .none
        if p.2.st == .accepted && p.2.outcome.isNone && notIt && (unstarted || later) then
          s.endRecord (gidOf fn p.1) fn p.1 stQuiesced 0
        else s) s).modFn fn Fn.fixHandles

/-- After records have ended: settle receipts, sweep and commit a quiesce under way. -/
def State.progress (s : State) (fn : Nat) : State :=
  if s.safe then s else (((s.quiesceSweep fn).settle fn).quiesceCommit fn).noteDrained fn

end Sys2Proof.Machine
end

