-- ==== Sys2Proof/Machine/Trace.lean ====
section
/-! DEFINITION. Trace buffers: offering, writing and triggering (R678 to R684). -/

namespace Sys2Proof.Machine
open Sys2Proof

def trcIdle : Nat := 0
def trcArmed : Nat := 1
def trcTriggered : Nat := 2
def trcStopped : Nat := 3

def State.trcSize (s : State) (b : Nat) : Nat := fieldOf (s.hubNat (TRC_BUF_CFG + 4 * b)) 16 16 * mib
def State.trcPct (s : State) (b : Nat) : Nat := fieldOf (s.hubNat (TRC_BUF_CFG + 4 * b)) 8 7
def State.trcMode (s : State) (b : Nat) : Nat := s.hubNat (TRC_BUF_CFG + 4 * b) % 4
def State.trcState (s : State) (b : Nat) : Nat := s.hubNat (TRC_BUF_STATUS + 4 * b) % 8
def State.trcPtr (s : State) (b : Nat) : Nat := s.hubNat (TRC_WRITE_PTR + 8 * b)
/-- First byte of the post region (R682). -/
def State.trcPost (s : State) (b : Nat) : Nat := s.trcSize b - s.trcSize b * s.trcPct b / 100 / 4096 * 4096
def State.trcExists (s : State) (b : Nat) : Bool := b < 4 && s.trcSize b != 0

def State.trcSetState (s : State) (b st : Nat) : State :=
  s.hubSetN (TRC_BUF_STATUS + 4 * b) (withField (s.hubNat (TRC_BUF_STATUS + 4 * b)) 0 3 st)
def State.trcSetPtr (s : State) (b p : Nat) : State := s.hubSetN (TRC_WRITE_PTR + 8 * b) p

/-- The 32 bytes of a trace record made now (R679). -/
def State.trcRecord (s : State) (type source : Nat) (paddock : Nat) (hub : Bool) (payload : List Byte) : List Byte :=
  leBytes 8 s.time ++ leBytes 1 type ++ leBytes 1 (paddock % 32 + boolN hub * 32) ++ leBytes 2 source ++
    (payload ++ zeros 20).take 20

/-- Write 32 bytes at an offset of the buffer and count the record (R669). -/
def State.trcPut (s : State) (b off : Nat) (bytes : List Byte) : State :=
  (s.store (s.hubNat (TRC_BUF_BASE + 8 * b) + off) bytes).tallyM 0x1C 1

/-- A drop in a buffer by a producer (R681). -/
def State.trcDrop (s : State) (b source n : Nat) : State :=
  let s := s.hubCount (TRC_DROPPED + 4 * b) n
  let d := s.obs.drops.get ⟨0, s.time⟩ (b * 65536 + source)
  let s := { s with obs := { s.obs with drops := s.obs.drops.set (b * 65536 + source) ⟨d.count + n, d.first⟩ } }
  if s.trcState b = trcStopped then
    let e := s.obs.stopDrops.get ⟨0, s.time⟩ b
    { s with obs := { s.obs with stopDrops := s.obs.stopDrops.set b ⟨e.count + n, e.first⟩ } }
  else s

/-- Write an admitted record where its buffer's mode puts it (R682). -/
def State.trcWrite (s : State) (b : Nat) (bytes : List Byte) : State :=
  let p := s.trcPtr b
  let st := s.trcState b
  if st = trcTriggered || (st = trcArmed && s.trcMode b = 0) then
    let s := (s.trcPut b p bytes).trcSetPtr b (p + 32)
    if s.trcSize b ≤ p + 64 then s.trcSetState b trcStopped else s
  else if st = trcArmed then
    let top := if s.trcMode b = 2 then s.trcPost b else s.trcSize b
    let s := s.trcPut b p bytes
    if top ≤ p + 32 then
      (s.trcSetPtr b 0).hubSetN (TRC_BUF_STATUS + 4 * b) (withField (s.hubNat (TRC_BUF_STATUS + 4 * b)) 3 1 1)
    else s.trcSetPtr b (p + 32)
  else s

/-- A producer offers a record to a buffer that exists (R681). -/
def State.trcOffer (s : State) (b source : Nat) (bytes : List Byte) : State :=
  if s.trcExists b then { s with obs := { s.obs with offers := s.obs.offers ++ [⟨b, source, bytes⟩] } } else s

/-- Trigger a buffer (R683); `code` and `source` are the payload and the SOURCE of the TRIGGER record. -/
def State.trcTrigger (s : State) (b code source : Nat) : State :=
  if s.trcExists b && s.trcState b = trcArmed && s.trcMode b = 2 then
    let p := s.trcPost b
    let s := s.trcPut b p (s.trcRecord 5 source 0 false (leBytes 1 code))
    let s := (s.trcSetState b trcTriggered).hubSetN (TRC_TRIGGER_PTR + 8 * b) p
    let s := s.trcSetPtr b (p + 32)
    if s.trcSize b ≤ p + 64 then s.trcSetState b trcStopped else s
  else s.hubCount TRC_TRIGGERS_IGNORED 1

end Sys2Proof.Machine
end

