-- ==== Sys2Proof/Machine/Faults.lean ====
section
/-! DEFINITION. The sheepdog's shared operations: placing a report, first-error capture, AER, fencing, the safe state and the
datapath error (R81, R102, R436, R437, R588 to R603, R635). -/

namespace Sys2Proof.Machine
open Sys2Proof

/-! ### Causes (R589) -/

def cSramCe : Nat := 0x01
def cSramUe : Nat := 0x02
def cHbmCe : Nat := 0x03
def cHbmUe : Nat := 0x04
def cStackFenced : Nat := 0x05
def cTwinRepair : Nat := 0x06
def cPasturePoison : Nat := 0x07
def cIntegrity : Nat := 0x08
def cResidue : Nat := 0x09
def cDuplicate : Nat := 0x0A
def cCompletion : Nat := 0x0B
def cReduction : Nat := 0x0C
def cLinkHalf : Nat := 0x0D
def cMeshLost : Nat := 0x0E
def cE2eCrc : Nat := 0x0F
def cLateSpeaker : Nat := 0x10
def cDenied : Nat := 0x11
def cLineLost : Nat := 0x12
def cWindowLine : Nat := 0x13
def cTableFormat : Nat := 0x14
def cWriteoutLoss : Nat := 0x15
def cPriTimeout : Nat := 0x16
def cDirTag : Nat := 0x17
def cDirDamaged : Nat := 0x18
def cDirRebuild : Nat := 0x19
def cPortExcluded : Nat := 0x1A
def cLaneReplaced : Nat := 0x1B
def cTeamDenied : Nat := 0x1C
def cStrap : Nat := 0x1D
def cCommonsFenced : Nat := 0x1E
def cCommonsReport : Nat := 0x1F
def cShortfall : Nat := 0x20
def cPcieLink : Nat := 0x21
def cCalMargin : Nat := 0x22
def cTileRail : Nat := 0x23
def cShepherdPair : Nat := 0x24
def cDrover : Nat := 0x25
def cJournalLost : Nat := 0x26
def cKeyUnwrap : Nat := 0x27
def cHubRail : Nat := 0x28
def cThermalTrip : Nat := 0x29
def cShepherdAll : Nat := 0x2A
def cSheepdogSelf : Nat := 0x2B
def cRecoveryLimit : Nat := 0x2C

/-- A report with nothing but cause, class, source and address; for the hub. -/
def hubReport (cause : Nat) (cls : FaultClass) (block phys addr : Nat) : Report :=
  ⟨cause, cls, addr, block, phys, 0, true, 0, 0, 0, 0, []⟩

/-- A report attributed to a paddock. -/
def padReport (cause : Nat) (cls : FaultClass) (block phys addr paddock access : Nat) : Report :=
  ⟨cause, cls, addr, block, phys, 0, false, paddock, access, 0, 0, []⟩

def clsCode (c : FaultClass) : Nat :=
  match c with
  | .ce => 1
  | .uc => 2
  | .ft => 3

/-! ### The queue (R591, R594) -/

/-- The slot held for an FT cause. -/
def heldSlot (cause : Nat) : Option Nat :=
  if cause = cMeshLost then some 1016
  else if cause = cJournalLost then some 1017
  else if cause = cKeyUnwrap then some 1018
  else if cause = cHubRail then some 1019
  else if cause = cThermalTrip then some 1020
  else if cause = cShepherdAll then some 1021
  else if cause = cSheepdogSelf then some 1022
  else if cause = cRecoveryLimit then some 1023
  else none

/-- Where an entry goes. -/
inductive Placed where
  | merge (slot : Nat) (multi : Bool)
  | put (slot : Nat) (displaced : Option SdgEntry)
  | overflow
  deriving DecidableEq, Repr

def freeSlot (q : SMap SdgEntry) (lo n : Nat) : Option Nat :=
  ((List.range n).map (lo + ·)).find? (fun k => (q.find k).isNone)
def freeCount (q : SMap SdgEntry) (lo n : Nat) : Nat :=
  (((List.range n).map (lo + ·)).filter (fun k => (q.find k).isNone)).length

/-- The unread entry of the highest SEQ among those that satisfy `p`. -/
def newest (q : SMap SdgEntry) (p : SdgEntry → Bool) : Option (Nat × SdgEntry) :=
  q.foldl (fun best x => if p x.2 then (match best with
    | some b => if b.2.seq < x.2.seq then some x else some b
    | none => some x) else best) none
def oldest (q : SMap SdgEntry) (p : SdgEntry → Bool) : Option (Nat × SdgEntry) :=
  q.foldl (fun best x => if p x.2 then (match best with
    | some b => if x.2.seq < b.2.seq then some x else some b
    | none => some x) else best) none

def sameSource (e x : SdgEntry) : Bool := x.block = e.block && x.phys = e.phys && x.cause = e.cause && x.cls == e.cls

/-- R594. -/
def placeEntry (q : SMap SdgEntry) (e : SdgEntry) : Placed :=
  match e.cls with
  | .ce =>
    match oldest q (sameSource e) with
    | some (k, _) => .merge k false
    | none => match freeSlot q 0 992 with
      | some k => .put k none
      | none => .overflow
  | .uc =>
    match (if e.cause = cLateSpeaker then oldest q (fun x => sameSource e x && e.time < x.time + 1000000) else none) with
    | some (k, _) => .merge k false
    | none => match freeSlot q 0 992 with
      | some k => .put k none
      | none => match freeSlot q 992 24 with
        | some k => if 9 ≤ freeCount q 992 24 then .put k none else .overflow
        | none => .overflow
  | .ft =>
    match oldest q (sameSource e) with
    | some (k, _) => .merge k false
    | none =>
      match (match heldSlot e.cause with
        | some k => if (q.find k).isNone then some k else none
        | none => none) with
      | some k => .put k none
      | none => match freeSlot q 992 24 with
        | some k => .put k none
        | none => match freeSlot q 0 992 with
          | some k => .put k none
          | none => match newest q (fun x => x.cls == .ce) with
            | some (k, d) => .put k (some d)
            | none => match newest q (fun x => x.cls == .uc) with
              | some (k, d) => .put k (some d)
              | none => match oldest q (fun x => x.cls == .ft && x.cause = e.cause) with
                | some (k, _) => .merge k true
                | none => .overflow

/-- The 32 bytes of an entry (R591). -/
def SdgEntry.bytes (e : SdgEntry) : List Byte :=
  leBytes 8 e.time ++ leBytes 8 e.addr ++ leBytes 4 (e.block * 2 ^ 24 + e.phys % 2 ^ 24) ++ leBytes 3 e.initiator ++
    leBytes 1 ((clsCode e.cls) * 64 + boolN e.hub * 32 + e.paddock % 32) ++ leBytes 1 e.cause ++
    leBytes 1 (boolN e.multi * 32 + boolN e.zeroed * 16 + boolN e.safe * 8 + e.access % 8) ++ leBytes 2 e.rep ++ leBytes 4 e.seq

/-- The entry that a report becomes (R560, R591). -/
def State.entryOf (s : State) (r : Report) : SdgEntry :=
  let z := !r.hub && s.confidential r.paddock
  ⟨s.time, if z then 0 else r.addr, r.block, r.phys, r.initiator, r.cls, r.hub, if r.hub then 0 else r.paddock, r.cause, false,
   z, s.safe, r.access, 0, s.sdg.seq⟩

/-- SDG_OVF_CE or SDG_OVF_UC of a source block counts. -/
def State.countOverflow (s : State) (cls : FaultClass) (block : Nat) : State :=
  match cls with
  | .ce => s.hubCount (SDG_OVF_CE + 4 * block) 1
  | _ => s.hubCount (SDG_OVF_UC + 4 * block) 1

def State.setQueue (s : State) (q : SMap SdgEntry) : State := { s with sdg := { s.sdg with queue := q } }

/-- Advance REPEAT of an entry. -/
def SdgEntry.repeated (e : SdgEntry) (multi : Bool) : SdgEntry :=
  { e with rep := sat 0xFFFF (e.rep + 1), multi := e.multi || multi }

/-- First-error capture of a new UC or FT entry (R596). -/
def State.capture (s : State) (e : SdgEntry) : State :=
  let info := s.hubNat SDG_FIRST_INFO
  let fresh := !bitOf info 31
  let ftOver := bitOf info 31 && fieldOf info 27 2 = 2 && e.cls == .ft && !bitOf info 29
  if fresh || ftOver then
    let i := 2 ^ 31 + boolN ftOver * (2 ^ 30 + 2 ^ 29) + (clsCode e.cls) * 2 ^ 27 + e.access * 2 ^ 24 + e.initiator % 2 ^ 24
    (((s.hubSetN SDG_FIRST_ADDR e.addr).hubSetN SDG_FIRST_TIME e.time).hubSetN SDG_FIRST_INFO i).hubSetN SDG_FIRST_CAUSE
      (e.block * 2 ^ 16 + boolN e.hub * 2 ^ 13 + e.paddock * 2 ^ 8 + e.cause)
  else s.hubSetN SDG_FIRST_INFO (withField info 30 1 1)

/-- Set an AER status bit of a function: 14 Corrected Internal Error, 13 Advisory Non-Fatal in the correctable word. -/
def State.aerCor (s : State) (fn bit : Nat) : State :=
  { s with pce := { s.pce with aerCor := s.pce.aerCor.set fn (s.pce.aerCor.get 0 fn ||| BitVec.ofNat 32 (2 ^ bit)) } }
def State.aerUnc (s : State) (fn bit : Nat) : State :=
  { s with pce := { s.pce with aerUnc := s.pce.aerUnc.set fn (s.pce.aerUnc.get 0 fn ||| BitVec.ofNat 32 (2 ^ bit)) } }

/-- AER of a sheepdog entry (R437); the messages go out as unmasked (assumption 12). -/
def State.aerEntry (s : State) (e : SdgEntry) : State :=
  match e.cls with
  | .ce =>
    let s := s.aerCor 0 14
    match s.pce.corAt.find 0 with
    | some t => if s.time < t + 1000000 then s
                else { s.send (.err 0 0) with pce := { s.pce with corAt := s.pce.corAt.set 0 s.time } }
    | none => { s.send (.err 0 0) with pce := { s.pce with corAt := s.pce.corAt.set 0 s.time } }
  | .uc => let fn := if e.hub then 0 else e.paddock
           (s.aerUnc fn 22).send (.err fn 1)
  | .ft => (s.aerUnc 0 22).send (.err 0 1)

/-- The trace copy of an entry and the trigger of its class (R680, R683); a class triggers every buffer that exists
(assumption 13). -/
def State.traceEntry (s : State) (e : SdgEntry) : State :=
  let route := s.hubNat TRC_ROUTE
  let s := if bitOf route 9 then
      s.trcOffer (fieldOf route 4 2) 0x11 (s.trcRecord 3 0x11 e.paddock e.hub ((e.bytes.drop 8).take 20))
    else s
  let c := s.hubNat TRC_TRIGGER_CLASS % 4
  if (c = 2 && e.cls != .ce) || (c = 3 && e.cls == .ft) then
    (List.range 4).foldl (fun s b => if s.trcExists b then s.trcTrigger b 2 0x11 else s) s
  else s

/-- What a new entry sets off: the FAULT interrupt, the capture, AER and trace (R595, R596). -/
def State.entryMade (s : State) (e : SdgEntry) : State :=
  let s := (s.aerEntry e).traceEntry e
  match e.cls with
  | .ce => s
  | _ => (s.capture e).raiseInt intFault

/-- Classify and place a report (R588, R594), counting it (R669). -/
def State.placeReport (s : State) (r : Report) : State :=
  let e := s.entryOf r
  let s := s.tallyM (0x18 + (clsCode r.cls)) 1
  match placeEntry s.sdg.queue e with
  | .merge k multi =>
    match s.sdg.queue.find k with
    | some x => s.setQueue (s.sdg.queue.set k (x.repeated multi))
    | none => s
  | .put k d =>
    let s := match d with
      | some x => (s.countOverflow x.cls x.block).hubCount SDG_Q_DISPLACED 1
      | none => s
    let s := { s with sdg := { s.sdg with queue := s.sdg.queue.set k e, seq := (s.sdg.seq + 1) % 2 ^ 32 } }
    s.entryMade e
  | .overflow => s.countOverflow r.cls r.block

/-! ### The safe state (R597, R600, R635) -/

/-- The causes that hold the safe state until a start (R600). -/
def holdingCause (c : Nat) : Bool :=
  c = cJournalLost || c = cKeyUnwrap || c = cMeshLost || c = cShepherdAll || c = cSheepdogSelf || c = cRecoveryLimit

/-- A start fails (R635): FLT_N stays asserted, the reason is recorded; EPOCH_WRITE and NO_SLOT enter recovery mode. -/
def State.failStart (s : State) (reason : Nat) : State :=
  if reason = 3 || reason = 6 then
    { s with boot := { s.boot with failReason := reason, failAt := s.time, recovery := true, ready := false, failed := false, step := 3 } }
  else { s with boot := { s.boot with failReason := reason, failAt := s.time, failed := true, ready := false } }

/-- Each RUNNING, HELD or switched-out record returns to ACCEPTED with ATTEMPTS as before its launch (R597 step 3). -/
def State.stopAll (s : State) : State :=
  let gs := s.groups
  let s := gs.foldl (fun s g =>
    (s.dropGroup g.1 subDiscarded).modEntry g.2.fn g.2.entry (fun j =>
      if j.st == .accepted then { j with attempts := j.attempts - 1, stage := .none, logSet := [] } else j)) s
  ({ s with fns := s.fns.map (fun p => (p.1, p.2.putN DSP_RUNNING 0)) } : State).leaveHirsels

/-- LNK port state (R503). -/
def State.portState (s : State) (p : Nat) : Nat := fieldOf (s.hubNat (LNK_PORT_STATUS + 4 * p)) 28 4
def State.nodeId (s : State) : Nat := s.hubNat LNK_NODE % 512

/-- FENCED on every UP or STANDBY port (R499). -/
def State.sendFenced (s : State) : State :=
  (List.range 16).foldl (fun s p =>
    if s.portState p = 2 || s.portState p = 3 then s.send (.portCtl p 0x08 [s.nodeId]) else s) s

/-- SDG_STATUS after an FT of a cause: HELD while a cause of R600 stands; CAUSE is that of the entry. -/
def sdgStatusAfter (old cause : Nat) (self : Bool) : Nat :=
  let held := boolN (bitOf old 29 || holdingCause cause) * 2 ^ 29
  let selfBit := boolN (bitOf old 30 || self) * 2 ^ 30
  let c := if bitOf old 31 && !self then fieldOf old 8 8 else cause
  2 ^ 31 + selfBit + held + c * 256

/-- The reason for which a cause fails a start (R635): before links and memory train, a shepherd or mesh loss is the self-test's. -/
def ftReason (step cause : Nat) : Nat :=
  if step < 8 && cause = cShepherdAll then 1
  else if step < 8 && cause = cMeshLost then 2
  else 5

/-- Entry to the safe state (R597); an FT before readiness also fails the start (R635). -/
def State.enterSafe (s : State) (cause : Nat) (self : Bool) : State :=
  let was := s.safe
  let s := s.hubSetN SDG_STATUS (sdgStatusAfter (s.hubNat SDG_STATUS) cause self)
  let s := { s with sdg := { s.sdg with lastFt := s.time,
                                        held := if holdingCause cause then s.sdg.held.set cause s.time else s.sdg.held },
                    boot := { s.boot with coldNeeded := s.boot.coldNeeded || cause = cJournalLost || cause = cKeyUnwrap } }
  let s := if s.boot.ready || s.boot.step = 0 then s else s.failStart (ftReason s.boot.step cause)
  if was then s else (s.stopAll.sendFenced).raiseInt intSafe

/-- A report reaches the sheepdog (R588, R594, R597): it is placed, and an FT takes the module to the safe state. -/
def State.report (s : State) (r : Report) : State :=
  let s := s.placeReport r
  match r.cls with
  | .ft => s.enterSafe r.cause false
  | _ => s

/-! ### Fencing (R25, R102, R367, R603) -/

/-- The lowest complete hirsel of the free pool, in the same tile where there is one (R102). -/
def State.poolHirsel (s : State) (h : Nat) : Option Nat :=
  let free := (List.range 256).filter (fun k => s.hirselComplete k && s.fns.all (fun p => !p.2.hasHirsel k))
  match free.find? (fun k => k / 16 = h / 16) with
  | some k => some k
  | none => free.head?

/-- A hirsel that has become incomplete is replaced in its paddock from the free pool, if that holds one (R102). -/
def State.replaceHirsel (s : State) (h : Nat) : State :=
  match s.fns.find? (fun p => p.2.hasHirsel h) with
  | none => s
  | some p =>
    if s.ms.leaving.contains h then s
    else match s.poolHirsel h with
      | none => s
      | some k => ({ s.modFn p.1 (fun f => f.setHirsel k true) with ms := { s.ms with leaving := h :: s.ms.leaving } }).leaveHirsels

/-- The incomplete hirsels of the paddocks are replaced. -/
def State.replaceHirsels (s : State) (hs : List Nat) : State :=
  hs.foldl (fun s h => if s.hirselComplete h then s else s.replaceHirsel h) s

/-- A journal whose twin lies in a fenced stack becomes SINGLE (R75). -/
def State.journalStackLost (s : State) (stack : Nat) : State :=
  { s with fns := s.fns.map (fun (p : Nat × Fn) =>
      let j := p.2.nat JRN_STATUS
      if !p.2.tmpl.isEmpty && (fieldOf j 8 8 = stack || fieldOf j 16 8 = stack) then (p.1, p.2.putN JRN_STATUS (withField j 0 2 1))
      else p) }

/-- A journal with work in it that no stack in service holds is lost (R589 cause 0x26). -/
def State.journalGone (s : State) : Bool :=
  s.fns.any (fun p => !p.2.tmpl.isEmpty && !p.2.entries.isEmpty && s.vacant kStack (fieldOf (p.2.nat JRN_STATUS) 8 8) &&
    s.vacant kStack (fieldOf (p.2.nat JRN_STATUS) 16 8))

/-- A pasture copy in a group that loses a stack: MCT_TWIN_STATUS becomes SINGLE (R314). -/
def State.pastureStackLost (s : State) (stack : Nat) : State :=
  let t := s.hubNat MCT_TWIN_STATUS
  let g := stack / 4
  if fieldOf (s.hubNat MCT_PASTURE_CFG) 16 16 ≠ 0 && (fieldOf t 4 4 = g || fieldOf t 8 4 = g) then
    { s.hubSetN MCT_TWIN_STATUS (withField t 0 2 1) with
      ms := { s.ms with pastureLost := if s.ms.pastureLost.contains g then s.ms.pastureLost else g :: s.ms.pastureLost } }
  else s

/-- The pinfold entry of a fenced unit (R604). -/
def State.pinData (s : State) (kind phys cause logical : Nat) (replaced : Bool) : Nat :=
  2 ^ 63 + kind * 2 ^ 59 + cause * 2 ^ 51 + boolN replaced * 2 ^ 50 +
    (if kind = kStack || kind = kLane || kind = kPort || kind = kHalf then phys % 512 else s.physId kind phys) * 2 ^ 24 + logical

def State.addPin (s : State) (data : Nat) : State :=
  if s.sdg.pinfold.length < 2048 then
    { s with sdg := { s.sdg with pinfold := s.sdg.pinfold ++ [⟨data, s.time⟩] } }
  else s.hubCount SDG_PINFOLD_LOST 1

/-- The coherent agent that a fenced unit is (R373). -/
def agentOfUnit (kind phys : Nat) (logical : Option Nat) : Option Nat :=
  if kind = kShepherd && phys < 4 then some phys
  else if kind = kTile then logical.map (· + 4)
  else if kind = kCommons && 16 ≤ phys then some (phys + 4)
  else none

/-- A transaction that awaits a fenced agent no longer does; a line that it had still to push is lost (R379). -/
def CohTxn.without (t : CohTxn) (a : Nat) : CohTxn :=
  let t := { t with awaiting := t.awaiting.filter (· != a) }
  if t.pushed && !t.pushIn && t.pushOwner = a then { t with pushed := false, lost := true, lostM := t.pushM } else t

/-- The stop of a fenced agent clears its S and E entries (R379); transactions that it had begun are gone, and the line's next begins. -/
def State.agentFenced (s : State) (a : Nat) : State :=
  let s := s.hubSetN SNP_AGENTS (withField (s.hubNat SNP_AGENTS) a 1 0)
  s.lines.foldl (fun (s : State) (p : Nat × CohLine) =>
    let x := { p.2 with queue := p.2.queue.filter (fun t => t.agent != a),
                        holders := (match p.2.holders.find a with
                          | some .s => p.2.holders.del a
                          | some .e => p.2.holders.del a
                          | _ => p.2.holders) }
    match x.lock with
    | none => s.setLine p.1 x
    | some t =>
      if t.agent != a then s.setLine p.1 { x with lock := some (t.without a) }
      else match x.queue with
        | [] => s.setLine p.1 { x with lock := none }
        | u :: rest => (s.setLine p.1 { x with lock := none, queue := rest }).lockLine p.1 u) s

/-- Fence a physical unit (R603): pinfold entry, broadcast with the next epoch, spare or vacancy; what hangs on a core, a tile or
a stack follows. A unit already fenced stays as it is. -/
def State.fenceUnit (s : State) (kind phys cause : Nat) : State :=
  if s.fencedUnit kind phys then s
  else
    let logical := s.logicalOf kind phys
    let spare := match logical with
      | some _ => (s.spares kind phys).find? (fun q => q != phys)
      | none => none
    let ep := (s.epochOf kind phys + 1) % 16
    let s := { s with noc := { s.noc with fenced := s.noc.fenced ++ [(kind, phys)],
                                          epochs := s.noc.epochs.set (kind * 65536 + phys) ep } }
    let s := s.addPin (s.pinData kind phys cause (logical.getD 0xFFFF) spare.isSome)
    let s := s.send (.fence kind phys ep)
    let s := match logical with
      | some l => { s with noc := { s.noc with maps := s.noc.maps.set (kind * 65536 + l) (match spare with
          | some q => q + 1
          | none => 0) } }
      | none => s
    let s := match agentOfUnit kind phys logical with
      | some a => s.agentFenced a
      | none => s
    if kind = kCore then
      match logical with
      | some l => s.replaceHirsels [l / 16]
      | none => s
    else if kind = kTile then
      (s.hubSetN IDN_TILES_PRESENT (withField (s.hubNat IDN_TILES_PRESENT) phys 1 0)).replaceHirsels
        ((List.range 16).map (fun i => phys * 16 + i))
    else if kind = kStack then
      let s := (s.hubSetN IDN_STACKS_PRESENT (withField (s.hubNat IDN_STACKS_PRESENT) phys 1 0)).hubSetN (MCT_STACK_STATUS + 4 * phys)
        (withField (s.hubNat (MCT_STACK_STATUS + 4 * phys)) 2 2 1)
      let s := (s.journalStackLost phys).pastureStackLost phys
      if s.journalGone then s.report (hubReport cJournalLost .ft 0x06 (s.physId kStack phys) 0) else s
    else s

/-! ### Datapath errors (R81, R245) -/

/-- The record of a group suffers a datapath error: its staged result is discarded and it returns to ACCEPTED, or completes with
FAULTED, DETAIL 0x2C, when the error is of a class that re-execution does not clear or ATTEMPTS has reached 4 (R81, R200). -/
def State.datapathError (s : State) (gid : Nat) (clears : Bool) : State :=
  match s.grp gid with
  | none => s
  | some g =>
    match s.entry g.fn g.entry with
    | none => s
    | some j =>
      if j.st != .accepted || j.stage != .none then s
      else if !clears || 4 ≤ j.attempts then (s.endRecord gid g.fn g.entry stFaulted 0x2C).progress g.fn
      else
        let s := (((s.dropGroup gid subDiscarded).noteRunning g.fn).leaveHirsels).modEntry g.fn g.entry
          (fun j => { j with stage := .none, logSet := [] })
        ((s.fnCount g.fn STL_REPLAYS 1).tallyP g.fn (some (recStream j.record)) 0x11 1).progress g.fn

end Sys2Proof.Machine
end

