-- ==== Sys2Proof/Machine/Flockbook.lean ====
section
/-! DEFINITION. The flockbook: its layout, the checks of R622 and R623, the settings it makes, and the holding configuration
(R302, R320, R322, R339, R340, R463, R472, R548, R561, R617 to R626, R664, R678). -/

namespace Sys2Proof.Machine
open Sys2Proof

/-! ### RWL registers of BAR4: ranges and defaults (R318, R320, R322, R346, R347, R464, R469, R500, R501, R535, R536, R581, R605,
R665, R678) -/

/-- A register of an array of 32-bit registers. -/
def inArray (off base n : Nat) : Bool := base ≤ off && off < base + 4 * n && (off - base) % 4 = 0

/-- A value with one field [hi:0] within a range and nothing above it. -/
def within (v lo hi : Nat) : Bool := lo ≤ v && v ≤ hi

/-- Whether a value is in range in every field of an RWL register of BAR4; none where the offset is no RWL register. -/
def rwlOk (off v : Nat) : Option Bool :=
  if off = MCT_GLOBAL_UNITS || off = MCT_STACK_UNITS then some (v ≤ 256)
  else if off = MCT_HUB_GIB then some true
  else if off = MCT_PASTURE_CFG then some (fieldOf v 12 4 = 0)
  else if off = MCT_WRITE_BATCH then some (within v 8 64)
  else if off = MCT_UE_FENCE then some (within v 1 1024)
  else if inArray off FLD_SLICE_MAP 256 then
    some (fieldOf v 16 16 = 0 && fieldOf v 2 6 = 0 && v % 4 ≤ 2 && (fieldOf v 8 8 ≤ 0x1F || 0xFE ≤ fieldOf v 8 8))
  else if inArray off BWG_HUB_FLOW 3 then some (fieldOf v 20 4 = 0)
  else if off = BWG_URGENCY_LEVELS then some (v < 2 ^ 24)
  else if off = BWG_FEEDBACK then some (v < 2 ^ 14 && fieldOf v 6 2 = 0)
  else if off = SNP_WINDOW_GIB then some (v ≤ 64)
  else if off = PCE_L1_IDLE then some (within v 1 65535)
  else if off = PCE_L0P_POLICY then some (v < 2 ^ 24 && fieldOf v 3 5 = 0 && v % 8 ≤ 4)
  else if off = PCE_PTM_PERIOD then some (within v 1 1000)
  else if off = LNK_NODE then some (v < 2 ^ 27 && fieldOf v 9 9 = 0)
  else if off = LNK_BELLWETHER then some (v < 2 ^ 25 && fieldOf v 9 6 = 0)
  else if off = LNK_TRAIN_TIMEOUT then some (within v 200 10000)
  else if off = LNK_REKEY_MS then some (within v 1 60000)
  else if off = LNK_TIME_PERIOD then some (within v 10 10000)
  else if inArray off LNK_PORT_CFG 16 then some (fieldOf v 13 3 = 0 && fieldOf v 7 1 = 0 && v % 128 ≤ 68)
  else if off = CMN_SITE_CFG || off = CMN_SITE_CFG + 0x100 || off = CMN_SITE_CFG + 0x200 || off = CMN_SITE_CFG + 0x300 then
    some (v < 2 ^ 24 && fieldOf v 14 2 = 0 && fieldOf v 10 2 = 0 && fieldOf v 5 3 = 0 && fieldOf v 16 8 ≤ 100 &&
      (fieldOf v 16 8 ≠ 0 || (v % 16 = 0 && !bitOf v 8)))
  else if inArray off SEC_PADDOCK_CFG 32 then some (v < 4)
  else if off = SDG_QUIET_MS then some (within v 1 10000)
  else if off = SDG_RECOVERY_LIMIT then some (fieldOf v 8 8 = 0 && v % 256 ≠ 0 && fieldOf v 16 16 ≠ 0)
  else if off = SDG_UNIT_LIMIT then some (within v 1 255)
  else if off = PWR_CAP then some (within v 2800 3800)
  else if off = PWR_TILE_SETPOINT then some (within v 700 900)
  else if off = PWR_HUB_SETPOINT then some (within v 680 850)
  else if off = PWR_THERM_TARGET then some (within v 70 98)
  else if inArray off TRC_BUF_CFG 4 then some (v % 4 ≤ 2 && fieldOf v 2 6 = 0 && fieldOf v 15 1 = 0 && fieldOf v 8 7 ≤ 99)
  else none

/-- The defaults that the register tables state; every other RWL register defaults to zero (R619). -/
def rwlDefaults : List (Nat × Nat) :=
  [(MCT_WRITE_BATCH, 32), (BWG_URGENCY_LEVELS, 75 * 65536 + 50 * 256 + 25), (BWG_FEEDBACK, 48 * 256 + 32),
   (PCE_L1_IDLE, 100), (PCE_L0P_POLICY, 25 * 65536 + 60 * 256 + 2), (PCE_PTM_PERIOD, 10), (LNK_TRAIN_TIMEOUT, 500),
   (LNK_REKEY_MS, 1000), (LNK_TIME_PERIOD, 100), (SDG_QUIET_MS, 100), (SDG_RECOVERY_LIMIT, 3600 * 65536 + 3),
   (SDG_UNIT_LIMIT, 3), (PWR_CAP, 3200), (PWR_TILE_SETPOINT, 800), (PWR_HUB_SETPOINT, 750), (PWR_THERM_TARGET, 92)]

/-! ### Sections (R617, R618) -/

structure Sect where
  type : Nat
  count : Nat
  index : Nat
  body : List Byte
  deriving DecidableEq, Repr

/-- Sections of an image from its byte 64 on; the second part names the first section that breaks R618. -/
def parseSects (n idx last : Nat) (bs : List Byte) : List Sect × Option Nat :=
  match n with
  | 0 => ([], if bs.isEmpty then none else some 0xFFFF)
  | k + 1 =>
    let t := fieldAt bs 0 2
    let c := fieldAt bs 2 2
    let len := fieldAt bs 4 4
    if bs.length < 8 || bs.length < 8 + len || len % 8 ≠ 0 || t ≤ last || 7 < t then ([], some idx)
    else
      let r := parseSects k (idx + 1) t (bs.drop (8 + len))
      (⟨t, c, idx, (bs.drop 8).take len⟩ :: r.1, r.2)

/-- The `n` records of a section, `size` bytes each. -/
def chunks (n size : Nat) (bs : List Byte) : List (List Byte) :=
  match n with
  | 0 => []
  | k + 1 => bs.take size :: chunks k size (bs.drop size)

/-- A flockbook taken apart. -/
structure Book where
  sects : List Sect
  regs : List (Nat × Nat)
  templates : List (List Byte)
  teams : List (Nat × Nat)
  authority : Option Nat
  modRec : List Byte
  cal : List Byte
  trace : List (List Byte)
  deriving DecidableEq, Repr

def findSect (ss : List Sect) (t : Nat) : Option Sect := ss.find? (fun x => x.type = t)

/-- The records of the section of a type, none where there is no such section. -/
def recordsOf (ss : List Sect) (t size : Nat) : List (List Byte) :=
  match findSect ss t with
  | some x => chunks x.count size x.body
  | none => []

def bookOf (ss : List Sect) : Book :=
  { sects := ss,
    regs := (recordsOf ss 1 8).map (fun r => (fieldAt r 0 4, fieldAt r 4 4)),
    templates := recordsOf ss 2 128,
    teams := (recordsOf ss 3 72).map (fun r => (fieldAt r 0 1, fieldAt r 8 64)),
    authority := ((recordsOf ss 4 104).head?).map (fun r => beNat (r.take 97)),
    modRec := (recordsOf ss 5 24).headD [],
    cal := (recordsOf ss 6 32).headD [],
    trace := recordsOf ss 7 16 }

/-- No value appears twice. -/
def noRepeat (l : List Nat) : Bool :=
  match l with
  | [] => true
  | x :: t => !t.contains x && noRepeat t

/-! ### FORMAT -/

def isPow2 (n : Nat) : Bool := n ≠ 0 && 2 ^ n.log2 = n

/-- A template's reserved bits are zero and its fields lie within their ranges (R620). -/
def templateFormat (t : List Byte) : Bool :=
  fieldAt t 0 1 ≤ 31 && fieldAt t 1 1 ≤ 1 &&
  (if bitOf (fieldAt t 1 1) 0 then fieldAt t 2 1 ≤ 5 else fieldAt t 2 1 = 0) &&
  (let c := fieldAt t 3 1
   fieldOf c 5 2 = 0 && (if bitOf c 7 then 16 ≤ c % 32 && c % 32 ≤ 19 else c = 0)) &&
  within (fieldAt t 12 4) 1 16777216 && within (fieldAt t 20 4) 1 4096 &&
  fieldAt t 64 1 ≤ 63 && zeroAt t 65 1 && fieldAt t 66 2 ≤ 512 &&
  isPow2 (fieldAt t 68 4) && within (fieldAt t 68 4) 256 65536 &&
  fieldAt t 80 1 ≤ 23 && fieldAt t 81 1 ≤ 23 && fieldAt t 82 1 ≤ 23 && zeroAt t 83 1 &&
  within (fieldAt t 84 4) 10 100000 && fieldAt t 88 4 ≤ 10000 && within (fieldAt t 92 4) 10 10000000 &&
  within (fieldAt t 96 4) 100 60000000 &&
  (List.range 6).all (fun c => fieldOf (fieldAt t (100 + 4 * c) 4) 20 4 = 0) && zeroAt t 124 4

def calFormat (c : List Byte) : Bool :=
  within (fieldAt c 0 1) 16 64 && within (fieldAt c 1 1) 5 100 && within (fieldAt c 2 1) 4 15 && zeroAt c 3 1 &&
  within (fieldAt c 4 2) 1 10000 && zeroAt c 6 26

def traceFormat (r : List Byte) : Bool :=
  fieldAt r 0 1 ≤ 3 && fieldAt r 1 1 ≤ 2 &&
  (if fieldAt r 1 1 = 2 then within (fieldAt r 2 1) 1 99 else fieldAt r 2 1 = 0) && zeroAt r 3 1 &&
  within (fieldAt r 4 4) 1 16384 && zeroAt r 8 8

/-- Whether a section's body is laid out as its type says, with no repeated record and no reserved bit set. -/
def sectFormat (x : Sect) : Bool :=
  let recs := fun n => chunks x.count n x.body
  if x.type = 1 then x.body.length = 8 * x.count
  else if x.type = 2 then
    x.body.length = 128 * x.count && (recs 128).all templateFormat && noRepeat ((recs 128).map (fun r => fieldAt r 0 1)) &&
      noRepeat (((recs 128).map (fun r => fieldAt r 3 1)).filter (· != 0))
  else if x.type = 3 then
    x.body.length = 72 * x.count && (recs 72).all (fun r => within (fieldAt r 0 1) 1 63 && zeroAt r 1 7) &&
      noRepeat ((recs 72).map (fun r => fieldAt r 0 1))
  else if x.type = 4 then x.count = 1 && x.body.length = 104 && fieldAt x.body 0 1 = 4 && zeroAt x.body 97 7
  else if x.type = 5 then
    x.count = 1 && x.body.length = 24 && fieldOf (fieldAt x.body 1 1) 2 6 = 0 && zeroAt x.body 5 3 && zeroAt x.body 16 8
  else if x.type = 6 then x.count = 1 && x.body.length = 32 && calFormat x.body
  else
    x.count ≤ 4 && x.body.length = 16 * x.count && (recs 16).all traceFormat &&
      noRepeat ((recs 16).map (fun r => fieldAt r 0 1))

/-- The sections of an image, or the index at which it breaks FORMAT. -/
def parseBook (img : List Byte) (slotLen : Nat) : Except Nat Book :=
  if img.length < 64 || fieldAt img 0 4 ≠ 0x4B424C46 || fieldAt img 4 1 ≠ 1 || !zeroAt img 5 3 || fieldAt img 8 4 ≠ slotLen ||
      img.length ≠ slotLen || !zeroAt img 24 40 then .error 0xFFFF
  else
    let p := parseSects (fieldAt img 12 4) 0 0 (img.drop 64)
    match p.2 with
    | some i => .error i
    | none =>
      match p.1.find? (fun x => !sectFormat x) with
      | some x => .error x.index
      | none => .ok (bookOf p.1)

/-! ### What the image sets -/

/-- The value an image gives an RWL register: its record, else the default (R619). -/
def Book.reg (b : Book) (off : Nat) : Nat :=
  match b.regs.find? (fun p => p.1 = off) with
  | some p => p.2
  | none => match rwlDefaults.find? (fun p => p.1 = off) with
    | some p => p.2
    | none => 0

def tmplPad (t : List Byte) : Nat := fieldAt t 0 1
def tmplGrouped (t : List Byte) : Bool := bitOf (fieldAt t 1 1) 0
def tmplHirsels (t : List Byte) : List Nat := (List.range 256).filter (fun h => bitOf (fieldAt t 32 32) h)
def tmplFlow (t : List Byte) (c : Nat) : Nat := fieldAt t (100 + 4 * c) 4
def flowMin (v : Nat) : Nat := v % 2 ^ 20
def flowWeight (v : Nat) : Nat := fieldOf v 24 8
/-- Directory area in KiB (R262). -/
def dirKib (t : List Byte) : Nat := if fieldAt t 24 4 = 0 then 0 else fieldAt t 24 4 * 16 + 64

/-! ### REGISTER (R619) -/

def Book.registerOk (b : Book) : Bool :=
  b.regs.all (fun p => rwlOk p.1 p.2 == some true) && noRepeat (b.regs.map (·.1))

/-! ### MEMORY_MAP (R289, R292, R320) -/

/-- Start and end in GiB of a template's capacity in the local physical space. -/
def Book.capRange (b : Book) (t : List Byte) : Nat × Nat :=
  let g := b.reg MCT_GLOBAL_UNITS
  let grp := 256 - g - b.reg MCT_STACK_UNITS
  let lo := (if tmplGrouped t then 6 * g + fieldAt t 2 1 * grp else 0) + fieldAt t 4 4
  (lo, lo + fieldAt t 8 4)

/-- The band that a capacity must stay in, without the hub area or the pasture areas. -/
def Book.bandRange (b : Book) (t : List Byte) : Nat × Nat :=
  let g := b.reg MCT_GLOBAL_UNITS
  let grp := 256 - g - b.reg MCT_STACK_UNITS
  let pc := b.reg MCT_PASTURE_CFG
  if tmplGrouped t then
    let q := fieldAt t 2 1
    let past := if q = pc % 16 || q = fieldOf pc 4 4 || q = fieldOf pc 8 4 then fieldOf pc 16 16 else 0
    (6 * g + q * grp, 6 * g + q * grp + (grp - past))
  else (0, 6 * g - b.reg MCT_HUB_GIB)

/-- The hub area's contents in MiB: switch-out areas of the allocated hirsels, extended spill areas (R231), collective staging
areas (R494), trace reservations and the coherent window. -/
def Book.hubNeed (b : Book) : Nat :=
  16 * ((b.templates.map (fun t => (tmplHirsels t).length)).foldl (· + ·) 0) + 1408 +
    68 * (((b.templates.map (fun t => fieldAt t 64 1)).filter (· != 0)).eraseDups).length +
    (b.trace.map (fun r => fieldAt r 4 4)).foldl (· + ·) 0 + 1024 * b.reg SNP_WINDOW_GIB

def disjoint (a b : Nat × Nat) : Bool := a.2 ≤ b.1 || b.2 ≤ a.1

/-- Every two entries of a list satisfy `p`. -/
def pairsOk {α : Type} (p : α → α → Bool) (l : List α) : Bool :=
  match l with
  | [] => true
  | x :: t => t.all (p x) && pairsOk p t

def pastureOk (v : Nat) : Bool :=
  fieldOf v 16 16 = 0 || (v % 16 ≤ 5 && fieldOf v 4 4 ≤ 5 && fieldOf v 8 4 ≤ 5 && noRepeat [v % 16, fieldOf v 4 4, fieldOf v 8 4])

/-- G + S, the pasture groups, and areas that fit their bands. -/
def Book.bandsOk (b : Book) : Bool :=
  let g := b.reg MCT_GLOBAL_UNITS
  let u := b.reg MCT_STACK_UNITS
  g + u ≤ 256 && pastureOk (b.reg MCT_PASTURE_CFG) && b.reg MCT_HUB_GIB ≤ 6 * g &&
    fieldOf (b.reg MCT_PASTURE_CFG) 16 16 ≤ 256 - g - u

def Book.memoryOk (b : Book) : Bool :=
  b.templates.all (fun t => (b.bandRange t).1 ≤ (b.capRange t).1 && (b.capRange t).2 ≤ (b.bandRange t).2) &&
  pairsOk (fun t u => disjoint (b.capRange t) (b.capRange u)) b.templates &&
  b.templates.all (fun t =>
    1024 * (fieldAt t 12 4 + fieldAt t 20 4) + dirKib t +
        (if bitOf (b.reg (SEC_PADDOCK_CFG + 4 * tmplPad t)) 1 then 32768 * fieldAt t 8 4 else 0) ≤ 1048576 * fieldAt t 8 4) &&
  b.hubNeed ≤ 1024 * b.reg MCT_HUB_GIB

/-! ### JOURNAL (R75) -/

/-- Header, journal and release log of one twin of a template in KiB; the staging overflow lies in the release log (R307). -/
def tmplJournalKib (t : List Byte) : Nat := 64 + fieldAt t 68 4 + 1024 * fieldAt t 72 4

def Book.journalGroupsOk (b : Book) : Bool :=
  b.templates.all (fun t => noRepeat [fieldAt t 80 1 / 4, fieldAt t 81 1 / 4, fieldAt t 82 1 / 4])

def Book.journalOk (b : Book) : Bool :=
  (List.range 24).all (fun s =>
    (b.templates.map (fun t =>
      if fieldAt t 80 1 = s || fieldAt t 81 1 = s || fieldAt t 82 1 = s then tmplJournalKib t else 0)).foldl (· + ·) 0 ≤
      b.reg MCT_STACK_UNITS * 262144)

/-! ### FOLD (R302, R322) -/

def Book.slices (b : Book) (owner use : Nat) : Nat :=
  ((List.range 256).filter (fun l =>
    fieldOf (b.reg (FLD_SLICE_MAP + 4 * l)) 8 8 = owner && b.reg (FLD_SLICE_MAP + 4 * l) % 4 = use)).length

def Book.sliceMapOk (b : Book) : Bool :=
  (List.range 256).all (fun l =>
    let v := b.reg (FLD_SLICE_MAP + 4 * l)
    (v % 4 = 0) == (fieldOf v 8 8 = 0xFF)) &&
  b.slices ownerHub 1 ≠ 0 && b.slices ownerHub 2 ≠ 0

def Book.foldOk (b : Book) : Bool :=
  b.templates.all (fun t => (tmplHirsels t).isEmpty || b.slices (tmplPad t) 1 ≠ 0)

/-! ### REGULATION (R339, R340) -/

/-- Six times the admitted sum of a stack group. -/
def Book.admitted6 (b : Book) (g : Nat) : Nat :=
  let pc := b.reg MCT_PASTURE_CFG
  let pad := fun (t : List Byte) =>
    let four := flowMin (tmplFlow t 0) + flowMin (tmplFlow t 1) + flowMin (tmplFlow t 2) + flowMin (tmplFlow t 4)
    (if tmplGrouped t then (if fieldAt t 2 1 = g then 6 * four else 0) else four) +
    (if pc % 16 = g then 3 * flowMin (tmplFlow t 5) else 0) + (if fieldOf pc 4 4 = g then 3 * flowMin (tmplFlow t 5) else 0) +
    (if fieldAt t 80 1 / 4 = g then 6 * flowMin (tmplFlow t 3) else 0) +
    (if fieldAt t 81 1 / 4 = g then 6 * flowMin (tmplFlow t 3) else 0)
  (b.templates.map pad).foldl (· + ·) 0 + 6 * flowMin (b.reg BWG_HUB_FLOW) + flowMin (b.reg (BWG_HUB_FLOW + 4)) +
    flowMin (b.reg (BWG_HUB_FLOW + 8))

def flowDead (v : Nat) : Bool := flowMin v = 0 && flowWeight v = 0

def Book.regulationOk (b : Book) : Bool :=
  (List.range 6).all (fun g => b.admitted6 g ≤ 6 * 23664) &&
  b.templates.all (fun t => (tmplHirsels t).isEmpty ||
    (!flowDead (tmplFlow t 0) && !flowDead (tmplFlow t 1) && !flowDead (tmplFlow t 2) && !flowDead (tmplFlow t 3) &&
     (fieldOf (b.reg MCT_PASTURE_CFG) 16 16 = 0 || !flowDead (tmplFlow t 5)) &&
     (!bitOf (fieldAt t 3 1) 7 || !flowDead (tmplFlow t 4)))) &&
  (List.range 3).all (fun c => !flowDead (b.reg (BWG_HUB_FLOW + 4 * c))) &&
  (let u := b.reg BWG_URGENCY_LEVELS
   u % 256 < fieldOf u 8 8 && fieldOf u 8 8 < fieldOf u 16 8) &&
  (let f := b.reg BWG_FEEDBACK
   f % 64 < fieldOf f 8 6)

/-! ### LINKS (R472) -/

def Book.port (b : Book) (p : Nat) : Nat := b.reg (LNK_PORT_CFG + 4 * p)
def portRole (v : Nat) : Nat := fieldOf v 28 4
def portPoolDir (v : Nat) : Nat := fieldOf v 25 3
def portExpress (v : Nat) : Nat := fieldOf v 16 9
def portWidthMin (v : Nat) : Nat := fieldOf v 8 5
def portLaneCount (v : Nat) : Nat := v % 128

/-- Size of a dimension d of LNK_NODE (R501), and the coordinate of a node in it (R471). -/
def dimSize (v d : Nat) : Nat := fieldOf v (18 + 3 * d) 3 + 1
def nodeCoord (n d : Nat) : Nat := n / 8 ^ d % 8

def Book.linksOk (b : Book) : Bool :=
  let node := b.reg LNK_NODE
  let ports := List.range 16
  (List.range 3).all (fun d => nodeCoord (node % 512) d < dimSize node d) &&
  (List.range 3).all (fun d => [2 * d + 1, 2 * d + 2].all (fun role =>
    let ps := ports.filter (fun p => portRole (b.port p) = role)
    if dimSize node d = 1 then
      ps.isEmpty && ports.all (fun p => portRole (b.port p) ≠ 8 || portPoolDir (b.port p) ≠ role)
    else match ps with
      | [x, y] => x / 4 ≠ y / 4
      | _ => false)) &&
  (List.range 4).all (fun g => ((List.range 4).map (fun i => portLaneCount (b.port (4 * g + i)))).foldl (· + ·) 0 ≤ 68) &&
  ports.all (fun p =>
    let v := b.port p
    if portRole v = 0 then v = 0
    else within (portWidthMin v) 1 16 && portWidthMin v ≤ portLaneCount v && portRole v ≤ 8 &&
      (if portRole v = 8 then within (portPoolDir v) 1 6 else portPoolDir v = 0) &&
      (if portRole v = 7 then portExpress v ≠ node % 512 && (List.range 3).all (fun d => nodeCoord (portExpress v) d < dimSize node d)
       else portExpress v = 0))

def Book.anyPort (b : Book) : Bool := (List.range 16).any (fun p => portRole (b.port p) ≠ 0)

/-! ### DIRECTORY, HIRSELS, POLICY -/

def Book.directoryOk (b : Book) : Bool :=
  b.templates.all (fun t =>
    let e := fieldAt t 24 4
    e = 0 || (isPow2 e && within e 64 524288 && fieldAt t 28 4 % e = 0 && fieldAt t 28 4 + e ≤ 524288)) &&
  pairsOk (fun t u => fieldAt t 24 4 = 0 || fieldAt u 24 4 = 0 ||
    disjoint (fieldAt t 28 4, fieldAt t 28 4 + fieldAt t 24 4) (fieldAt u 28 4, fieldAt u 28 4 + fieldAt u 24 4)) b.templates

def Book.hirselsDisjoint (b : Book) : Bool :=
  pairsOk (fun t u => (fieldAt t 32 32 &&& fieldAt u 32 32) = 0) b.templates

def popNodes (n : Nat) : Nat := ((List.range 512).filter (fun i => bitOf n i)).length
def Book.teamMembers (b : Book) (t : Nat) : Nat := popNodes (((b.teams.find? (fun x => x.1 = t)).map (·.2)).getD 0)
def Book.teamsOk (b : Book) : Bool := b.templates.all (fun t => fieldAt t 66 2 = b.teamMembers (fieldAt t 64 1))

/-- Fields of the MODULE record with their defaults (R621). -/
def modPerst (m : List Byte) : Nat := if m.isEmpty then 0 else fieldAt m 0 1
def modAutoWarm (m : List Byte) : Bool := bitOf (fieldAt m 1 1) 0
def modAuditSlot (m : List Byte) : Bool := bitOf (fieldAt m 1 1) 1
def modWarmDelay (m : List Byte) : Nat := if m.isEmpty then 100 else fieldAt m 2 2
def modWarmMax (m : List Byte) : Nat := if m.isEmpty then 4 else fieldAt m 4 1
def modReadyLimit (m : List Byte) : Nat := if m.isEmpty then 600 else fieldAt m 8 2
def modWarmLimit (m : List Byte) : Nat := if m.isEmpty then 30 else fieldAt m 10 2

def modOk (m : List Byte) : Bool :=
  m.isEmpty || (modPerst m ≤ 1 && within (modWarmDelay m) 10 10000 && within (modWarmMax m) 1 16 &&
    within (modReadyLimit m) 300 1200 && within (modWarmLimit m) 5 60)

/-- Certificate slot 1 is empty when its area is erased. -/
def slot1Empty (flash : Memory) : Bool := !flash.any (fun c => 0x50000 ≤ c.1 && c.1 < 0x60000)

def Book.l0pOk (b : Book) : Bool :=
  let v := b.reg PCE_L0P_POLICY
  fieldOf v 16 8 < fieldOf v 8 8 && fieldOf v 8 8 ≤ 100

def Book.sectIndex (b : Book) (t : Nat) : Nat := ((findSect b.sects t).map (·.index)).getD 0xFFFF

/-- The first check that fails: section index and reason (R622, R623). -/
def Book.refusal (b : Book) (target serial : Nat) (flash : Memory) : Option (Nat × Nat) :=
  if target ≠ 0 && target ≠ serial then some (0xFFFF, 2)
  else if !b.registerOk then some (b.sectIndex 1, 3)
  else if !b.bandsOk then some (b.sectIndex 1, 4)
  else if !b.memoryOk then some (0xFFFF, 4)
  else if !b.journalGroupsOk then some (b.sectIndex 2, 5)
  else if !b.journalOk then some (0xFFFF, 5)
  else if !b.sliceMapOk then some (b.sectIndex 1, 6)
  else if !b.foldOk then some (0xFFFF, 6)
  else if !b.regulationOk then some (0xFFFF, 7)
  else if !b.linksOk then some (b.sectIndex 1, 8)
  else if b.anyPort && b.authority.isNone then some (0xFFFF, 9)
  else if !b.directoryOk then some (b.sectIndex 2, 10)
  else if !b.hirselsDisjoint then some (b.sectIndex 2, 11)
  else if !b.teamsOk then some (0xFFFF, 11)
  else if !b.l0pOk || bitOf (b.reg SEC_PADDOCK_CFG) 0 then some (b.sectIndex 1, 12)
  else if !modOk b.modRec || (modAuditSlot b.modRec && slot1Empty flash) then some (b.sectIndex 5, 12)
  else none

/-- The check of an image whole (R622): the book, or section index and reason. -/
def checkBook (img : List Byte) (slotLen serial : Nat) (flash : Memory) : Except (Nat × Nat) Book :=
  match parseBook img slotLen with
  | .error i => .error (i, 1)
  | .ok b => match b.refusal (fieldAt img 16 8) serial flash with
    | some r => .error r
    | none => .ok b

/-! ### Applying an image -/

/-- Offsets of the RWL registers of BAR4. -/
def rwlOffsets : List Nat :=
  [MCT_GLOBAL_UNITS, MCT_STACK_UNITS, MCT_HUB_GIB, MCT_PASTURE_CFG, MCT_WRITE_BATCH, MCT_UE_FENCE] ++
  (List.range 256).map (fun l => FLD_SLICE_MAP + 4 * l) ++ (List.range 3).map (fun c => BWG_HUB_FLOW + 4 * c) ++
  [BWG_URGENCY_LEVELS, BWG_FEEDBACK, SNP_WINDOW_GIB, PCE_L1_IDLE, PCE_L0P_POLICY, PCE_PTM_PERIOD, LNK_NODE, LNK_BELLWETHER,
   LNK_TRAIN_TIMEOUT, LNK_REKEY_MS, LNK_TIME_PERIOD] ++ (List.range 16).map (fun p => LNK_PORT_CFG + 4 * p) ++
  (List.range 4).map (fun i => CMN_SITE_CFG + 0x100 * i) ++ (List.range 32).map (fun n => SEC_PADDOCK_CFG + 4 * n) ++
  [SDG_QUIET_MS, SDG_RECOVERY_LIMIT, SDG_UNIT_LIMIT, PWR_CAP, PWR_TILE_SETPOINT, PWR_HUB_SETPOINT, PWR_THERM_TARGET] ++
  (List.range 4).map (fun b => TRC_BUF_CFG + 4 * b)

/-- The hub area's base (R292). -/
def State.hubAreaBase (s : State) : Nat := (6 * s.hubNat MCT_GLOBAL_UNITS - s.hubNat MCT_HUB_GIB) * gib

/-- The hub area holds, from its base: the coherent window (R372), the switch-out areas of 16 MiB per hirsel 0-255 (R204), the
extended spill areas (R231), the collective staging areas of the teams in ascending order (R494), the trace reservations. The
order of the last four is the model's (assumption 14). -/
def State.traceArea (s : State) : Nat :=
  s.hubAreaBase + s.hubNat SNP_WINDOW_GIB * gib +
    16 * mib * (s.fns.map (fun p => p.2.hirselList.length)).foldl (· + ·) 0 + 1408 * mib +
    68 * mib * ((s.fns.map (fun p => p.2.nat PDK_TEAM % 64)).filter (· != 0)).eraseDups.length

/-- Registers of a function that its template gives (R620). -/
def Fn.applyTemplate (f : Fn) (slicesC slicesS : Nat) (t : List Byte) (warm : Bool) : Fn :=
  let f := { f with tmpl := t }
  let f := f.putN PDK_HBM_GIB (fieldAt t 8 4)
  let f := f.putN PDK_FOLD_SLICES (slicesS % 256 * 256 + slicesC % 256)
  let f := f.putN PDK_IMAGE_SIZE (fieldAt t 12 4)
  let f := f.putN PDK_PRIVATE_SIZE (fieldAt t 16 4)
  let f := f.putN PDK_COMMONS (fieldAt t 3 1)
  let f := f.putN PDK_TEAM (fieldAt t 66 2 % 1024 * 65536 + fieldAt t 64 1)
  let f := f.putN PDK_HURDLE_TIMEOUT (fieldAt t 92 4)
  let f := f.putN XLT_TABLE_MIB (fieldAt t 20 4)
  let f := f.putN XLT_PRI_TIMEOUT (fieldAt t 96 4)
  let f := f.putN DIR_ENTRIES (fieldAt t 24 4)
  let f := f.putN DIR_BASE (fieldAt t 28 4)
  let f := f.putN STL_GAP_HOLD (fieldAt t 84 4)
  let f := f.putN STL_WM_PERIOD (fieldAt t 88 4)
  let f := f.putN JRN_CAPACITY (fieldAt t 68 4)
  let f := f.putN JRN_RELEASE_SIZE (fieldAt t 72 4)
  let f := f.putN JRN_RELEASE_MAX (fieldAt t 76 4)
  let f := (List.range 6).foldl (fun f c => f.putN (BWG_FLOW + 4 * c) (tmplFlow t c)) f
  if warm then f
  else
    let f := (List.range 8).foldl (fun f w => f.putN (PDK_HIRSELS + 4 * w) (fieldAt t (32 + 4 * w) 4)) f
    let f := f.putN JRN_STATUS (fieldAt t 81 1 * 65536 + fieldAt t 80 1 * 256)
    f.putN PDK_STATE pdkOpen

/-- Standby stack of a function's journal (R75, R620). -/
def Fn.standby (f : Fn) : Nat := fieldAt f.tmpl 82 1

/-- CAL_LIMITS and CAL_HOLD_MS of a CALIBRATION record, or their defaults (R664). -/
def State.applyCal (s : State) (c : List Byte) : State :=
  if c.isEmpty then (s.hubSetN CAL_LIMITS (8 * 65536 + 20 * 256 + 32)).hubSetN CAL_HOLD_MS 100
  else (s.hubSetN CAL_LIMITS (fieldAt c 2 1 * 65536 + fieldAt c 1 1 * 256 + fieldAt c 0 1)).hubSetN CAL_HOLD_MS (fieldAt c 4 2)

/-- Configuration and base of the trace buffers (R678). -/
def State.applyTrace (s : State) (rs : List (List Byte)) : State :=
  ((List.range 4).foldl (fun (p : State × Nat) b =>
    match rs.find? (fun r => fieldAt r 0 1 = b) with
    | some r =>
      ((p.1.hubSetN (TRC_BUF_CFG + 4 * b) (fieldAt r 4 4 * 65536 + fieldAt r 2 1 * 256 + fieldAt r 1 1)).hubSetN
        (TRC_BUF_BASE + 8 * b) p.2, p.2 + fieldAt r 4 4 * mib)
    | none => ((p.1.hubSetN (TRC_BUF_CFG + 4 * b) 0).hubSetN (TRC_BUF_BASE + 8 * b) 0, p.2)) (s, s.traceArea)).1

/-- Apply an accepted image (R622, R626). At a warm start what a warm start keeps stays. -/
def State.applyBook (s : State) (b : Book) (warm : Bool) : State :=
  let s := rwlOffsets.foldl (fun s off => s.hubSetN off (b.reg off)) s
  let s := (List.range 6).foldl (fun s g => s.hubSetN (BWG_ADMITTED + 4 * g) ((b.admitted6 g + 5) / 6)) s
  let pc := b.reg MCT_PASTURE_CFG
  let s := if warm then s else s.hubSetN MCT_TWIN_STATUS (fieldOf pc 4 4 * 256 + pc % 16 * 16)
  let s := b.templates.foldl (fun s t =>
    s.modFn (tmplPad t) (fun f => f.applyTemplate (b.slices (tmplPad t) 1) (b.slices (tmplPad t) 2) t warm)) s
  let s := { s with fns := s.fns.map (fun (p : Nat × Fn) =>
    if p.2.tmpl.isEmpty then p else (p.1, p.2.putN XLT_ROOT (s.tableRoot p.1 / 4096))) }
  let s := { s with boot := { s.boot with modRec := b.modRec, teams := b.teams, authority := b.authority } }
  (s.applyCal b.cal).applyTrace b.trace

/-- The holding configuration (R625). -/
def holdingBook : Book :=
  { sects := [],
    regs := (List.range 256).map (fun l => (FLD_SLICE_MAP + 4 * l, 0xFE00 + (if l = 255 then 2 else 1))) ++
      [(MCT_GLOBAL_UNITS, 256), (MCT_STACK_UNITS, 0), (MCT_HUB_GIB, 16), (SNP_WINDOW_GIB, 1),
       (BWG_HUB_FLOW, 0x1000000), (BWG_HUB_FLOW + 4, 0x1000000), (BWG_HUB_FLOW + 8, 0x1000000 + 1000)],
    templates := [], teams := [], authority := none, modRec := [], cal := [], trace := [] }

end Sys2Proof.Machine
end

