-- ==== Sys2Proof/Machine/StartBase.lean ====
section
/-! DEFINITION. The start up to its step 6: image slots, the epoch area, derived keys, what a cold and a warm start reset, and the
triggers (R24, R540, R566, R573, R606 to R614, R622, R626, R627, R634 to R638, R658). -/

namespace Sys2Proof.Machine
open Sys2Proof

/-! ### Image slots (R610 to R612) -/

def slotBase (b : Bool) : Nat := if b then 0x2100000 else 0x100000
def slotSize : Nat := 0x2000000

def State.flashBytes (s : State) (a n : Nat) : List Byte := cellsGet 0xFF s.flash a n
def State.flashNat (s : State) (a n : Nat) : Nat := leNat (s.flashBytes a n)
def State.flashPut (s : State) (a : Nat) (bs : List Byte) : State := { s with flash := cellsPut 0xFF s.flash a bs }

/-- Offset and length of component `i` of a slot: firmware, microcode, flockbook. -/
def State.component (s : State) (b : Bool) (i : Nat) : Nat × Nat :=
  let h := slotBase b + 16 + 56 * i
  (s.flashNat h 4, s.flashNat (h + 4) 4)

def State.componentBytes (s : State) (b : Bool) (i : Nat) : List Byte :=
  let c := s.component b i
  s.flashBytes (slotBase b + c.1) c.2
def State.componentDigest (s : State) (b : Bool) (i : Nat) : List Byte := s.flashBytes (slotBase b + 16 + 56 * i + 8) 48

def componentMax (i : Nat) : Nat := if i = 0 then 16 * mib else if i = 1 then 8 * mib else 4 * mib

/-- Components lie inside the slot, clear of the header and of each other (R610). -/
def State.componentsLie (s : State) (b : Bool) : Bool :=
  (List.range 3).all (fun i =>
    let c := s.component b i
    4096 ≤ c.1 && c.1 + c.2 ≤ slotSize && c.2 ≤ componentMax i) &&
  pairsOk disjoint ((List.range 3).map (fun i => let c := s.component b i; (c.1, c.1 + c.2)))

/-- Words 27 to 38 of the life-cycle OTP as bytes. -/
def Sec.ownerDigest (x : Sec) : List Byte := ((List.range 12).map (fun i => leBytes 4 (x.word (27 + i)))).flatten

/-- The signatures that a life-cycle state asks of a slot (R611). -/
def State.slotSigned (s : State) (b : Bool) : Bool :=
  let msg := s.flashBytes (slotBase b) 184
  let own := s.flashBytes (slotBase b + 376) 97
  let fal := Config.ecdsaVerify Config.provisioningKey msg (beNat (s.flashBytes (slotBase b + 184) 96))
  if s.lc = lcFab || s.lc = lcReturned then true
  else if s.lc = lcProvisioned then fal
  else if s.lc = lcDeployed then
    fal && sha384 own == s.sec.ownerDigest && Config.ecdsaVerify (beNat own) msg (beNat (s.flashBytes (slotBase b + 280) 96))
  else false

/-- R611. -/
def State.slotValid (s : State) (b : Bool) : Bool :=
  s.flashNat (slotBase b) 4 = 0x544F4C53 && s.flashNat (slotBase b + 4) 1 = 1 && zeroAt (s.flashBytes (slotBase b) 8) 5 3 &&
    zeroAt (s.flashBytes (slotBase b) 4096) 473 3623 && s.componentsLie b &&
    (List.range 3).all (fun i => sha384 (s.componentBytes b i) == s.componentDigest b i) && s.slotSigned b

def State.generation (s : State) (b : Bool) : Nat := s.flashNat (slotBase b + 8) 8

/-! ### The epoch area (R613, R614) -/

structure EpochRec where
  epoch : Nat
  slotB : Bool
  failA : Nat
  failB : Nat
  coldDone : Bool
  dFw : List Byte
  dUc : List Byte
  dFb : List Byte
  seq : Nat
  at_ : Nat
  deriving DecidableEq, Repr

/-- The values that stand where no record is valid. -/
def EpochRec.none : EpochRec := ⟨0, false, 0, 0, false, zeros 48, zeros 48, zeros 48, 0, 0⟩

def epochCrcOk (r : List Byte) : Bool := (crc32c (r.take 252)).toNat = fieldAt r 252 4

def epochOfBytes (r : List Byte) (a : Nat) : EpochRec :=
  ⟨fieldAt r 0 4, fieldAt r 4 1 = 1, fieldAt r 5 1, fieldAt r 6 1, bitOf (fieldAt r 7 1) 0, (r.drop 8).take 48,
   (r.drop 56).take 48, (r.drop 104).take 48, fieldAt r 248 4, a⟩

def EpochRec.bytes (e : EpochRec) : List Byte :=
  let b := leBytes 4 e.epoch ++ leBytes 1 (boolN e.slotB) ++ leBytes 1 e.failA ++ leBytes 1 e.failB ++ leBytes 1 (boolN e.coldDone) ++
    (e.dFw ++ zeros 48).take 48 ++ (e.dUc ++ zeros 48).take 48 ++ (e.dFb ++ zeros 48).take 48 ++ zeros 96 ++ leBytes 4 e.seq
  b ++ leBytes 4 (crc32c b).toNat

/-- Addresses of the 512 records of the area. -/
def epochAddrs : List Nat := (List.range 512).map (fun i => 0x10000 + 256 * i)

/-- The valid record of the highest SEQ. -/
def State.currentEpoch (s : State) : Option EpochRec :=
  epochAddrs.foldl (fun best a =>
    let r := s.flashBytes a 256
    if s.flash.any (fun c => a ≤ c.1 && c.1 < a + 256) && epochCrcOk r then
      let e := epochOfBytes r a
      match best with
      | some b => if b.seq < e.seq then some e else some b
      | none => some e
    else best) none

def State.erased (s : State) (a n : Nat) : Bool := !s.flash.any (fun c => a ≤ c.1 && c.1 < a + n)
def State.eraseFlash (s : State) (a n : Nat) : State := { s with flash := s.flash.filter (fun c => c.1 < a || a + n ≤ c.1) }

/-- Append a record with the next SEQ, to the sector in use, or to the other one, erased, when that is full. -/
def State.appendEpoch (s : State) (e : EpochRec) : State :=
  let cur := s.currentEpoch
  let sector := match cur with
    | some c => (c.at_ - 0x10000) / 0x10000
    | none => 0
  let seq := match cur with
    | some c => c.seq + 1
    | none => 1
  let after := match cur with
    | some c => c.at_ + 256
    | none => 0x10000
  let free := ((List.range 256).map (fun i => 0x10000 + sector * 0x10000 + 256 * i)).find? (fun a => after ≤ a && s.erased a 256)
  match free with
  | some a => s.flashPut a { e with seq := seq }.bytes
  | none =>
    let a := 0x10000 + (1 - sector) * 0x10000
    (s.eraseFlash a 0x10000).flashPut a { e with seq := seq }.bytes

def State.epochRec (s : State) : EpochRec := s.currentEpoch.getD EpochRec.none

/-! ### Derived keys (R538 to R540) -/

/-- The class byte of a life-cycle state (R540, R566). -/
def classByte (lc : Nat) : Nat := if lc = lcFab then 1 else if lc = lcReturned then 3 else 2

/-- A secret of the OTP: eight words and their check word; none when the check fails (R567). -/
def Sec.secret (x : Sec) (first : Nat) : Option (List Byte) :=
  let b := ((List.range 8).map (fun i => leBytes 4 (x.word (first + i)))).flatten
  if (crc32c b).toNat = x.word (first + 8) then some b else none

/-- The order of the curve P-384. -/
def p384N : Nat :=
  0xffffffffffffffffffffffffffffffffffffffffffffffffc7634d81f4372ddf581a0db248b0a77aecec196accc52973

def deriveKey (secret label context : List Byte) (n : Nat) : List Byte := hkdf384 (zeros 48) secret (label ++ context) n
def p384Private (b : List Byte) : Nat := beNat b % (p384N - 1) + 1

/-- IK, AK and the memory wrap key; 0 stands for no key. -/
def State.deriveKeys (s : State) (epoch : Nat) : State :=
  match s.sec.secret 9 with
  | none => { s with sec := { s.sec with ik := 0, ak := 0, wrap := 0 } }
  | some uds =>
    let cls := leBytes 1 (classByte s.lc)
    let owner := if s.lc = lcDeployed then (s.sec.secret 18).getD (zeros 32) else zeros 32
    let ik := p384Private (deriveKey uds [0x49#8, 0x4B#8] cls 64)
    let ak := p384Private (deriveKey (uds ++ owner) [0x41#8, 0x4B#8] (cls ++ Config.bootRomDigest ++ s.boot.dFw ++ s.boot.dUc) 64)
    let wrap := leNat (deriveKey (uds ++ owner) [0x4D#8, 0x57#8] (cls ++ leBytes 4 epoch) 32)
    { s with sec := { s.sec with ik := ik, ak := ak, wrap := wrap } }

/-- Put bytes into consecutive 32-bit registers of BAR4. -/
def State.hubBytes (s : State) (off : Nat) (bs : List Byte) : State :=
  (List.range ((bs.length + 3) / 4)).foldl (fun s i => s.hubSetN (off + 4 * i) (leNat ((bs.drop (4 * i)).take 4))) s
/-- Bytes held in consecutive 32-bit registers of BAR4. -/
def State.hubBytesGet (s : State) (off n : Nat) : List Byte :=
  (((List.range ((n + 3) / 4)).map (fun i => leBytes 4 (s.hubNat (off + 4 * i)))).flatten).take n

/-- SEC_IK_PUBLIC shows the public identity key (R580). -/
def State.showIk (s : State) : State :=
  s.hubBytes SEC_IK_PUBLIC (if s.sec.ik = 0 then zeros 97 else beBytes 97 (Config.ecPublic s.sec.ik))

/-! ### Fuses and maps (R24, R634) -/

/-- The unit that a fuse record of a die lists. -/
def fuseUnit (die : Nat) (w : Nat) : Option (Nat × Nat) :=
  let k := fieldOf w 28 3
  let u := w % 4096
  if !bitOf w 31 then none
  else if k = 0 && die < 16 && u < 272 then some (kCore, die * 272 + u)
  else if k = 1 && die = 16 && u < 264 then some (kSlice, u)
  else if k = 2 && die = 16 && u < 272 then some (kLane, u)
  else none

/-- Units in rising order of kind and number. -/
def insertUnit (x : Nat × Nat) (l : List (Nat × Nat)) : List (Nat × Nat) :=
  match l with
  | [] => [x]
  | y :: t => if x = y then l else if x.1 < y.1 || (x.1 = y.1 && x.2 < y.2) then x :: l else y :: insertUnit x t

def fusedBad (fuses : SMap W32) : List (Nat × Nat) :=
  fuses.foldl (fun l p => match fuseUnit (p.1 / 128) p.2.toNat with
    | some u => insertUnit u l
    | none => l) []

/-- IDN_TILE_SPARES of a tile and IDN_FOLD_SPARES (R25, R31): vacant logical units and free spares. -/
def State.tileSpares (s : State) (t : Nat) : Nat :=
  ((List.range 256).filter (fun c => s.vacant kCore (t * 256 + c))).length % 256 * 256 + (s.spares kCore (t * 272)).length % 256
def State.foldSpares (s : State) : Nat :=
  ((List.range 256).filter (fun l => s.vacant kSlice l)).length % 256 * 256 + (s.spares kSlice 0).length % 256

/-! ### The tag area (R35, R37, R38) -/

def Ident.gen (x : Ident) (g : Nat) : List Byte := (List.range 256).map (fun i => x.tagOtp.get 0 (g * 256 + i))
def genBlank (b : List Byte) : Bool := b.all (· == 0#8)
def genValid (b : List Byte) : Bool := !genBlank b && (crc32 (b.take 252)).toNat = fieldAt b 252 4
/-- The current generation: the highest valid one. -/
def Ident.current (x : Ident) : Option Nat := (List.range 16).reverse.find? (fun g => genValid (x.gen g))
/-- NEXT: the lowest blank generation above every one that is not blank, 16 when there is none. -/
def Ident.next (x : Ident) : Nat :=
  match (List.range 16).reverse.find? (fun g => !genBlank (x.gen g)) with
  | some g => g + 1
  | none => 0
def Ident.putGen (x : Ident) (g : Nat) (b : List Byte) : Ident :=
  { x with tagOtp := (List.range 256).foldl (fun m i => m.set (g * 256 + i) (byteAt b i)) x.tagOtp }

/-- IDN_TAG_STATUS follows the area and the commits waiting; LAST_RESULT stays. -/
def State.noteTags (s : State) : State :=
  let x := s.ident
  let cur := match x.current with
    | some g => g * 2 ^ 20 + 2 ^ 19
    | none => 0
  s.hubSetN IDN_TAG_STATUS (cur + x.next * 2 ^ 14 + fieldOf (s.hubNat IDN_TAG_STATUS) 8 4 * 256 +
    boolN (x.commits.contains false) * 2 + boolN (x.commits.contains true))

/-! ### Straps and sites (R18 to R20, R33, R34) -/

/-- Odd parity over bits [7:0] in bit 8. -/
def strapParityOk (w : Nat) : Bool := ((List.range 9).filter (fun i => bitOf w i)).length % 2 = 1
def strapSite (w : Nat) : Nat := fieldOf w 3 5
def strapClass (w : Nat) : Nat := w % 8
def clsNemel : Nat := 1
def clsChiplet : Nat := 2
def clsFill : Nat := 3

/-- A legal word for a site and class, with its parity. -/
def strapWord (site cls : Nat) : Nat :=
  let b := site * 8 + cls
  if ((List.range 8).filter (fun i => bitOf b i)).length % 2 = 0 then b + 256 else b

/-- The word at the pads of a site: tile sites hold Nemel tiles and commons sites chiplets unless listed otherwise
(assumption 15). -/
def Ident.pad (x : Ident) (site : Nat) : Nat :=
  match x.pads.find site with
  | some w => w.toNat
  | none => strapWord site (if site < 16 then clsNemel else clsChiplet)

/-- The checks of R20 on the word at the pads. -/
def padOk (site w : Nat) : Bool :=
  strapParityOk w && (if site < 16 then strapClass w = clsNemel else strapClass w = clsChiplet || strapClass w = clsFill)

def siteEmpty : Nat := 0
def siteActive : Nat := 1
def siteFenced : Nat := 2
def siteFill : Nat := 3

def State.siteReg (s : State) (site : Nat) : Nat := s.hubNat (IDN_SITE + 4 * site)
def State.siteSt (s : State) (site : Nat) : Nat := fieldOf (s.siteReg site) 2 2
def State.siteErr (s : State) (site : Nat) : Bool := bitOf (s.siteReg site) 7
def State.setSiteSt (s : State) (site st : Nat) : State := s.hubSetN (IDN_SITE + 4 * site) (withField (s.siteReg site) 2 2 st)

/-- A site's start work has ended. -/
def State.foundSite (s : State) (site : Nat) : State :=
  if s.boot.found.contains site then s else { s with boot := { s.boot with found := site :: s.boot.found } }

/-- CMN_SITE_STATUS STATE of a commons site (R537). -/
def cmnOff (site off : Nat) : Nat := CMN_SITE_CFG + 0x100 * (site - 16) + off
def State.cmnSt (s : State) (site : Nat) : Nat := s.hubNat (cmnOff site 4) % 16
def State.setCmnSt (s : State) (site st : Nat) : State :=
  s.hubSetN (cmnOff site 4) (withField (s.hubNat (cmnOff site 4)) 0 4 st)
def State.cmnCfg (s : State) (site : Nat) : Nat := s.hubNat (cmnOff site 0)

/-- Mark STRAP_ERR (R20, R21): a tile becomes vacant, a commons site stays in reset; a UC entry names the site. -/
def State.strapErr (s : State) (site : Nat) : State :=
  let s := s.hubSetN (IDN_SITE + 4 * site) (withField (withField (s.siteReg site) 7 1 1) 2 2 siteEmpty)
  let s := if site < 16 then
      let s := s.hubSetN IDN_TILES_PRESENT (withField (s.hubNat IDN_TILES_PRESENT) site 1 0)
      { s with noc := { s.noc with maps := s.noc.maps.set (kTile * 65536 + site) 0 } }
    else s
  (s.report (hubReport cStrap .uc 0x17 site 0)).foundSite site

/-! ### What a start resets (R608, R48, R684) -/

/-- A function after a cold start: its epoch and its PCIe configuration stay. -/
def Fn.cold (f : Fn) (power : Bool) : Fn :=
  { Fn.empty with regs := (coldList bar2Rows).set STL_EPOCH (f.get STL_EPOCH), pce := if power then PceFn.reset else f.pce,
                  xlt := if power then Xlt.empty else { Xlt.empty with priEnable := f.xlt.priEnable, priAlloc := f.xlt.priAlloc } }

/-- The endpoint at a start that does not reset it: what it had asked of the host comes back unwanted. -/
def Pce.started (p : Pce) : Pce := { p with waiting := [], reqs := p.reqs.map (fun r => (r.1, { r.2 with use := .dead })) }

/-- R608, cold column; `power` after power-on or SYS_RST_N, which reset the endpoint too. The supply, flash, OTP, straps, fuses and
light stay. -/
def State.coldReset (s : State) (power : Bool) : State :=
  { s with
    time := 0, hub := coldRegs bar4Rows s.hub, held := [], latch := [],
    fns := (List.range 32).map (fun n => (n, (s.fn n).cold power)),
    pce := if power then Pce.reset else s.pce.started,
    boot := { s.boot with modRec := [], teams := [], authority := none, autoStarts := [], coldNeeded := false,
                          flashOp := none, flrDue := [], thermTripAt := if s.thermTripAsserted then some 0 else none },
    pow := Power.reset, obs := Observe.reset,
    noc := { Noc.reset with bad := fusedBad s.boot.fuses }, lines := [], ms := MemSys.reset, ports := [],
    torus := { Torus.empty with lightIn := s.torus.lightIn }, sites := [], sec := { Sec.reset with otp := s.sec.otp, redraws := s.sec.redraws },
    sdg := Sdg.reset, groups := [], mem := [], poison := [] }

/-- A journal entry after a warm start: what an unreleased attempt had reached is forgotten (R83). -/
def JEntry.warm (j : JEntry) : JEntry :=
  if j.st == .accepted then { j with busy := false, outcome := none, stage := .none, logSet := [], src := [] }
  else { j with busy := false }

/-- A function after a warm start: slots and caches are gone, what its journal and memory hold stays; PRG indices outstanding are
quarantined (R414). -/
def Fn.warm (f : Fn) : Fn :=
  { f with regs := warmRegs bar2Rows f.regs, held := [], latch := [], slots := [], flows := [],
           xlt := { Xlt.empty with priEnable := f.xlt.priEnable, priAlloc := f.xlt.priAlloc,
                                   prgs := f.xlt.prgs.map (fun (q : Nat × Prg) => (q.1, { q.2 with quarantined := true })) },
           entries := (f.entries.filter (fun (e : Nat × JEntry) => e.2.st != .free)).map (fun e => (e.1, e.2.warm)) }

/-- R608, warm column. SRAM is the Fold's scratchpad and the core stores. -/
def State.warmReset (s : State) : State :=
  let s := { s with
    hub := warmRegs bar4Rows s.hub, held := [], latch := [], fns := s.fns.map (fun (p : Nat × Fn) => (p.1, p.2.warm)),
    pce := s.pce.started, boot := { s.boot with flashOp := none }, pow := Power.reset, obs := Observe.reset,
    noc := { s.noc with outs := [], halfFails := [], routes := [] }, lines := [],
    ms := { MemSys.reset with doubled := s.ms.doubled, pastureLost := s.ms.pastureLost, leaving := s.ms.leaving, dir := s.ms.dir },
    ports := [], torus := { Torus.empty with lightIn := s.torus.lightIn }, sites := [],
    sec := { s.sec with challengeAt := none, debugUntil := [], begun := [], attest := none },
    sdg := { Sdg.reset with pinfold := s.sdg.pinfold }, groups := [] }
  s.wipe scratchBase (commonsBase - scratchBase)

/-! ### Steps 1 to 5 (R627) -/

/-- A trigger has been taken: kind (1 cold, 2 warm), cause (R640) and the promotion of R607. -/
def State.beginBoot (s : State) (kind cause : Nat) (promoted : Bool) : State :=
  let s := (s.hubSetN CLK_LOCK_HBM 0xFFFFFF).hubSetN CLK_LOCK_OTHER 0x1FF
  let s := s.hubSetN CLK_MODE (boolN s.boot.sris)
  { s with boot := { s.boot with step := 1, kind := kind, cause := cause, promoted := promoted, holding := false, recovery := false,
                                 ready := false, failed := false, startAt := s.time, linksDone := false, machines := [],
                                 found := [] } }

def cmnOffSt : Nat := 0
def cmnDiscovering : Nat := 1
def cmnTraining : Nat := 2
def cmnActive : Nat := 3
def cmnStandby : Nat := 4
def cmnMismatch : Nat := 5
def cmnFenced : Nat := 6
def cmnFill : Nat := 7

/-- The kind under which a site is fenced, and its number (R598). -/
def siteUnit (site : Nat) : Nat × Nat := if site < 16 then (kTile, site) else (kCommons, site)

/-- Step 6 at one site: the pads are read; discovery begins, or the site is done at once (R20, R531, R532, R536, R625). A site
fenced or marked before a warm start stays so. -/
def State.beginSite (s : State) (site : Nat) : State :=
  let w := s.ident.pad site
  let u := siteUnit site
  let s := if site < 16 then s else s.hubSetN SNP_AGENTS (withField (s.hubNat SNP_AGENTS) (site + 4) 1 0)
  if s.boot.kind = 2 && s.siteErr site then s.foundSite site
  else if s.boot.kind = 2 && s.fencedUnit u.1 u.2 then
    (if site < 16 then s else s.setCmnSt site cmnFenced).foundSite site
  else
    let s := s.hubSetN (IDN_SITE + 4 * site) (strapSite w * 2048 + strapClass w * 256)
    if !padOk site w then s.strapErr site
    else if site < 16 then s
    else if strapClass w = clsFill then ((s.setSiteSt site siteFill).setCmnSt site cmnFill).foundSite site
    else if s.boot.holding || fieldOf (s.cmnCfg site) 16 8 = 0 then s.foundSite site
    else { s.setCmnSt site cmnDiscovering with sites := s.sites.set site { Site.empty with step := 1, upAt := s.time } }

/-- Steps 4 to 6: the image applied, or the holding configuration; then discovery begins at each site. Sites that have none are
done at once. -/
def State.beginSites (s : State) : State :=
  let s := { s with boot := { s.boot with step := 6 } }
  (List.range 20).foldl (fun s site => s.beginSite site) s

/-- Step 5 of a cold start. -/
def State.loadCold (s : State) (b : Bool) : State :=
  match checkBook (s.componentBytes b 2) (s.component b 2).2 s.serial s.flash with
  | .ok bk => ((s.hubSetN BOOT_FB_REASON 0).applyBook bk false).beginSites
  | .error r =>
    let s := { s with boot := { s.boot with holding := true } }
    ((s.hubSetN BOOT_FB_REASON (r.1 % 65536 * 65536 + r.2)).applyBook holdingBook false).beginSites

/-- Step 5 of a warm start (R626): the checks are skipped, a refused image leaves the holding configuration. -/
def State.loadWarm (s : State) (b : Bool) : State :=
  if s.hubNat BOOT_FB_REASON % 256 ≠ 0 then
    ({ s with boot := { s.boot with holding := true } } : State).applyBook holdingBook true |>.beginSites
  else match parseBook (s.componentBytes b 2) (s.component b 2).2 with
    | .ok bk =>
      let gone := bk.templates.filter (fun t => !(s.fn (tmplPad t)).tmpl.isEmpty)
      (s.applyBook { bk with templates := gone } true).beginSites
    | .error _ => s.beginSites

/-- BOOT_SLOT_INFO (R639). -/
def State.noteSlots (s : State) (e : EpochRec) : State :=
  s.hubSetN BOOT_SLOT_INFO (e.failB * 2 ^ 24 + e.failA * 2 ^ 16 + boolN (s.slotValid true) * 2 + boolN (s.slotValid false))

/-- The slot in force (R612): the higher GENERATION among the valid slots whose fail count is below 3, A on a tie. -/
def State.chooseSlot (s : State) (e : EpochRec) : Option Bool :=
  let a := s.slotValid false && e.failA < 3
  let b := s.slotValid true && e.failB < 3
  if a && b then some (Nat.blt (s.generation false) (s.generation true))
  else if a then some false
  else if b then some true
  else none

/-- Digests in force (R613). -/
def State.takeDigests (s : State) (b : Bool) : State :=
  { s with boot := { s.boot with slotB := b, dFw := s.componentDigest b 0, dUc := s.componentDigest b 1, dFb := s.componentDigest b 2 } }

/-- Step 3 and on of a cold start (R612, R614). -/
def State.coldStep3 (s : State) : State :=
  let e := s.epochRec
  match s.chooseSlot e with
  | none => (s.noteSlots e).failStart 6
  | some b =>
    let e := if b then { e with failB := sat 255 (e.failB + 1) } else { e with failA := sat 255 (e.failA + 1) }
    let s := (s.appendEpoch { e with slotB := b }).noteSlots e
    let s := (s.takeDigests b).deriveKeys e.epoch
    let s := { s with boot := { s.boot with step := 4 } }
    (s.noteTags.showIk).loadCold b

/-- The transition of a progress word that has begun and is not done (R570, R573); nothing follows SCRAP. -/
def openTransition (w : Nat) : Option Trans :=
  if bitOf w 25 then none
  else if bitOf w 20 then some .scrap
  else if bitOf w 14 && !bitOf w 19 then some .ret
  else if bitOf w 8 && !bitOf w 13 then some .deploy
  else if bitOf w 2 && !bitOf w 7 then some .provision
  else if bitOf w 0 && !bitOf w 1 then some .fab
  else none

/-- Program bits of a life-cycle OTP word: bits only rise (R567). -/
def State.burn (s : State) (word bits : Nat) : State :=
  { s with sec := { s.sec with otp := s.sec.otp.set word (s.sec.otp.get 0 word ||| BitVec.ofNat 32 bits) } }

/-! ### The transition engine (R571, R573, R574) -/

/-- The field of the progress word and the bit of the state words that a transition sets. -/
def Trans.field (t : Trans) : Nat × Nat :=
  match t with
  | .fab => (0, 0)
  | .provision => (2, 4)
  | .deploy => (8, 8)
  | .ret => (14, 12)
  | .scrap => (20, 16)

/-- Fresh bits programmed over the eight words of a secret. -/
def State.burnFresh (s : State) (first : Nat) : State :=
  (List.range 8).foldl (fun (x : State) i => x.burn (first + i) (s.free / 2 ^ (32 * i) % 2 ^ 32)) s.drawn
/-- A secret: fresh bits, then its check word. -/
def State.burnSecret (s : State) (first : Nat) : State :=
  let s := s.burnFresh first
  s.burn (first + 8) (crc32c ((List.range 8).map (fun i => leBytes 4 (s.sec.word (first + i)))).flatten).toNat
def State.burnOnes (s : State) (first n : Nat) : State := (List.range n).foldl (fun (x : State) i => x.burn (first + i) 0xFFFFFFFF) s

/-- The copy of the DEPLOY request in the transition area, and whether it can be read. -/
def State.deployCopy (s : State) : List Byte := s.flashBytes 0x30000 320
def State.copyOk (s : State) : Bool := s.flashBytes 0x30000 2 == [1#8, 4#8]
def State.burnDigest (s : State) : State :=
  let d := sha384 ((s.deployCopy.drop 208).take 97)
  let s := (List.range 12).foldl (fun (x : State) i => x.burn (27 + i) (fieldAt d (4 * i) 4)) s
  s.burn 39 (crc32c s.sec.ownerDigest).toNat

/-- HBM, Fold, core stores and directory are wiped. -/
def State.wipeAll (s : State) : State := { s with mem := [], poison := [], ms := { s.ms with dir := [], fold := [], nodes := [] } }

/-- The work of mark A, B or C, of WRITTEN or of DONE, numbered from 0. -/
def State.transWork (s : State) (t : Trans) (i : Nat) : State :=
  if i = 3 then (List.range 8).foldl (fun (x : State) w => x.burn w (0xF * 2 ^ t.field.2)) s
  else if i = 4 then s
  else match t, i with
    | .provision, 0 => s.burnSecret 9
    | .provision, 1 => (s.deriveKeys s.epochRec.epoch).showIk
    | .deploy, 0 => s.burnDigest
    | .deploy, 1 => s.burnSecret 18
    | .deploy, 2 => s.deriveKeys s.epochRec.epoch
    | .ret, 0 => s.burnOnes 18 9
    | .ret, 1 => s.wipeAll
    | .ret, 2 => s.deriveKeys s.epochRec.epoch
    | .scrap, 0 => s.burnOnes 9 18
    | .scrap, 1 => s.wipeAll
    | .scrap, 2 => s.deriveKeys s.epochRec.epoch
    | _, _ => s

/-- Marks of a transition that are clear, up to `n` of them, are worked through and set. -/
def State.transRun (s : State) (t : Trans) (n : Nat) : State :=
  (((List.range 5).filter (fun i => !bitOf (s.sec.word 8) (t.field.1 + 1 + i))).take n).foldl
    (fun (x : State) i => (x.transWork t i).burn 8 (2 ^ (t.field.1 + 1 + i))) s

/-- SEEDED of a transition that has one is clear. -/
def seedDue (w : Nat) (t : Trans) : Bool :=
  match t with
  | .provision => !bitOf w 3
  | .deploy => !bitOf w 10
  | _ => false

/-- A transition is resumed: without its copy a DEPLOY stalls; the third fresh draw abandons it for SCRAPPED. -/
def State.resumeTrans (s : State) (t : Trans) : State :=
  let w := s.sec.word 8
  let s := ({ s with sec := { s.sec with trans := some t } } : State).hubSetN LCS_STATUS 1
  if t == .deploy && !bitOf w 9 && !s.copyOk then s.hubSetN LCS_STATUS 2
  else if seedDue w t then
    let n := s.sec.redraws + 1
    let s := ({ s with sec := { s.sec with redraws := n } } : State)
    if 3 ≤ n then { s.burn 8 (2 ^ 20) with sec := { (s.burn 8 (2 ^ 20)).sec with trans := some .scrap } } else s
  else s

/-- Power fails during a transition: how far it had come is open (assumption 2). -/
def State.transCut (s : State) : State :=
  match s.sec.trans with
  | none => s
  | some t =>
    if s.hubNat LCS_STATUS ≠ 1 then s
    else
      let k := s.free % 5
      let s := s.drawn.transRun t (min k (((List.range 4).filter (fun i => !bitOf (s.sec.word 8) (t.field.1 + 1 + i))).length))
      let w := s.sec.word 8
      if seedDue w t && (t == .provision || bitOf w 9) then s.burnFresh (if t == .provision then 9 else 18) else s

/-- The PCIe link trains (R418, R462, R628): width, rate and mode are the partner's as well, so they are open (assumption 2); Flit
mode goes with 64 GT/s. -/
def State.trainPcie (s : State) : State :=
  let n := s.free
  let w := [16, 8, 4, 2, 1].getD (n % 5) 1
  let rate := n / 5 % 6 + 1
  let flit := rate = 6 || bitOf (n / 30) 0
  { s.drawn.hubSetN PCE_LINK_STATUS (w * 2 ^ 19 + w * 2 ^ 14 + rate * 2 ^ 11 + boolN flit * 2 ^ 10) with
    pce := { s.pce with linkUp := true, pm := .l0 } }

/-- Step 2 (R566, R569, R573): a blank module moves to FAB, a begun transition is resumed and holds the start, a scrapped module
goes no further. -/
def State.bootStep2 (s : State) (next : State → State) : State :=
  let s := ({ s with boot := { s.boot with step := 2 } } : State)
  let s := if s.pce.linkUp then s else s.trainPcie
  let s := if s.lc = lcBlank then
      (List.range 8).foldl (fun s w => s.burn w 0xF) ((s.burn 8 1).burn 8 2)
    else s
  match openTransition (s.sec.word 8) with
  | some t => s.resumeTrans t
  | none => if s.lc = lcScrapped then s else next { s with boot := { s.boot with step := 3 } }

/-- A cold start (R606, R627). -/
def State.startCold (s : State) (cause : Nat) (promoted power : Bool) : State :=
  if s.sec.trans.isSome && !power then s
  else (((s.coldReset power).beginBoot 1 cause promoted).updateInta).bootStep2 State.coldStep3

/-- Whether a warm trigger makes a cold start instead (R607). -/
def State.promotes (s : State) : Bool :=
  let e := s.epochRec
  !e.coldDone || !s.slotValid e.slotB || s.componentDigest e.slotB 0 != e.dFw || s.componentDigest e.slotB 1 != e.dUc ||
    s.componentDigest e.slotB 2 != e.dFb || s.boot.coldNeeded

/-- A warm trigger (R606, R607, R636). -/
def State.startWarm (s : State) (cause : Nat) : State :=
  if s.sec.trans.isSome then s
  else if s.promotes || (!s.boot.ready && s.boot.kind = 1 && s.boot.step ≠ 0) then s.startCold cause true false
  else
    let n := s.hubNat BOOT_WARM_COUNT
    let s := ((s.warmReset.hubSetN BOOT_WARM_COUNT (sat 0xFFFFFFFF (n + 1))).beginBoot 2 cause false).updateInta
    s.bootStep2 (fun s =>
      let e := s.epochRec
      let s := ((s.noteSlots e).takeDigests e.slotB).deriveKeys e.epoch
      s.loadWarm e.slotB)

/-- The module without its converters (R643, R695, R697): contents of SRAM and HBM are lost. A tag generation being programmed is
spoiled (R41): what stands in it is open. -/
def State.unpower (s : State) : State :=
  let s := if s.ident.commits.isEmpty then s
    else
      let g := s.ident.next
      let v := leBytes 256 s.free
      let bad := !genBlank v && !genValid v
      let w := if bad then v else 1#8 :: zeros 255
      let s := s.drawn
      { s with ident := { (if g < 16 then s.ident.putGen g w else s.ident) with commits := [] } }
  let s := s.transCut.coldReset true
  { s with boot := { s.boot with powered := false, ready := false, step := 0, kind := 0, recovery := false, failed := false,
                                 holding := false } }

end Sys2Proof.Machine
end

