-- ==== Sys2Proof/Machine/Xlate.lean ====
section
/-! DEFINITION. How a group stops, and address translation: table walks, cached translations, waits and page requests
(R113, R200 to R202, R369, R386 to R393, R402 to R413, R431, R432). -/

namespace Sys2Proof.Machine
open Sys2Proof

/-! ### Exceptions (R200 to R202) -/

def xIllegal : Nat := 0x20
def xMisaligned : Nat := 0x21
def xCoreRange : Nat := 0x22
def xWriteProtect : Nat := 0x23
def xTranslation : Nat := 0x24
def xHurdle : Nat := 0x25
def xHurdleTimeout : Nat := 0x26
def xOperand : Nat := 0x27
def xTile : Nat := 0x28
def xAssert : Nat := 0x29
def xFetch : Nat := 0x2A
def xCheck : Nat := 0x2B
def xDatapath : Nat := 0x2C
def xBudget : Nat := 0xB0

def imageVa : Nat := 0xF00000000000
def privVa : Nat := 0xE00000000000

/-- The thread of a group. -/
def Grp.th (g : Grp) (i : Nat) : Option Thread := g.threads.find i
def Grp.setTh (g : Grp) (i : Nat) (t : Thread) : Grp := { g with threads := g.threads.set i t }
def State.setTh (s : State) (t : Thr) (th : Thread) : State := s.modGrp t.gid (fun g => g.setTh t.idx th)
def State.modTh (s : State) (t : Thr) (h : Thread → Thread) : State :=
  s.modGrp t.gid (fun g => match g.th t.idx with
    | some th => g.setTh t.idx (h th)
    | none => g)

/-- Whether trace takes exceptions of a paddock (R680). -/
def State.excTraced (s : State) (fn : Nat) : Bool :=
  bitOf (s.hubNat TRC_EXC_PADDOCKS) fn && bitOf (s.hubNat TRC_ROUTE) 8 && !s.confidential fn &&
    (s.lc = lcFab || s.lc = lcReturned || (s.sec.debugUntil.find fn).isSome)

/-- The EXCEPTION record of a captured exception (R202, R679). -/
def State.traceExc (s : State) (fn idx pc va code : Nat) : State :=
  if s.excTraced fn then
    s.trcOffer (s.hubNat TRC_ROUTE % 4) 0x10
      (s.trcRecord 2 0x10 fn false (leBytes 4 idx ++ leBytes 4 pc ++ leBytes 8 va ++ leBytes 1 code))
  else s

/-- The attempt is to complete with FAULTED and a code: it stops, or will once it has been restored (R201, R206). The first code
stays. -/
def State.failGroup (s : State) (gid code : Nat) : State :=
  s.modGrp gid (fun g =>
    let g := { g with code := some (g.code.getD code) }
    if g.phase == .saving || g.phase == .switchedOut then g else { g with phase := .stopping })

/-- The attempt has read poison and is to complete with POISONED (R201, R295). -/
def State.poisonGroup (s : State) (gid : Nat) : State :=
  s.modGrp gid (fun g =>
    let g := { g with poison := true }
    if g.phase == .saving || g.phase == .switchedOut then g else { g with phase := .stopping })

/-- A thread raises an exception; `va` is its data address (R200, R201). -/
def State.raise (s : State) (t : Thr) (code va : Nat) : State :=
  match s.grp t.gid with
  | none => s
  | some g =>
    let pc := match g.th t.idx with
      | some th => th.pc.toNat - (imageVa + g.prog.offset)
      | none => 0
    let s := if g.code.isNone then s.traceExc g.fn t.idx pc va code else s
    s.failGroup t.gid code

/-! ### Loads that fail (R113) -/

def State.failLoad (s : State) (fn e : Nat) : State :=
  match s.entry fn e with
  | none => s
  | some j =>
    let s := s.modFn fn (fun f => ({ f with handles := f.handles.del (fieldAt j.record 32 4) } : Fn).noteHandles)
    ((s.modEntry fn e (fun j => { j with src := [] })).decide fn e stFaulted xTranslation).progress fn

/-! ### Table walks (R390 to R393) -/

/-- What a walk finds for an address. -/
inductive Leaf where
  | unmapped
  | mapped (base lpa log2 : Nat) (write : Bool)
  /-- host memory over a range of 2^`log2` bytes -/
  | host (log2 : Nat)
  | malformed
  | poisoned
  deriving DecidableEq, Repr

/-- A LOCAL entry at a level: its page. -/
def localLeaf (lvl va e : Nat) : Leaf :=
  let log2 := 12 + 9 * lvl
  let a := fieldOf e 12 35 * 4096
  if a % 2 ^ log2 = 0 then .mapped (va / 2 ^ log2 * 2 ^ log2) a log2 (bitOf e 60) else .malformed

/-- A walk from a table of level `lvl`. -/
def State.walkAt (s : State) (lvl tbl va : Nat) : Leaf :=
  let ea := tbl + 8 * (va / 2 ^ (12 + 9 * lvl) % 512)
  if s.anyPoison ea 8 || s.stackFenced ea then .poisoned
  else
    let e := s.readNat ea 8
    if !bitOf e 63 then (if e = 0 then .unmapped else .malformed)
    else if fieldOf e 47 12 ≠ 0 || e % 4096 ≠ 0 then .malformed
    else if fieldOf e 61 2 = 0 then
      if fieldOf e 59 2 ≠ 0 then .malformed
      else match lvl with
        | 0 => .malformed
        | l + 1 => s.walkAt l (fieldOf e 12 35 * 4096) va
    else if fieldOf e 61 2 = 1 then
      if bitOf e 59 then
        let first := tbl + 8 * (va / 65536 * 16 % 512)
        let a := fieldOf e 12 35 * 4096
        if lvl = 0 && a % 65536 = 0 && (List.range 16).all (fun i => s.readNat (first + 8 * i) 8 = e) then
          .mapped (va / 65536 * 65536) a 16 (bitOf e 60)
        else .malformed
      else if lvl = 3 then .malformed
      else localLeaf lvl va e
    else if fieldOf e 61 2 = 2 then (if fieldOf e 12 35 = 0 && fieldOf e 59 2 = 0 then .host (12 + 9 * lvl) else .malformed)
    else .malformed

/-- A walk of the paddock's tables from its root (R389, R390). -/
def State.walk (s : State) (fn va : Nat) : Leaf := s.walkAt 3 (s.tableRoot fn) va

/-! ### Cached translations (R402; assumption 16) -/

def Tlb.covers (e : Tlb) (va : Nat) : Bool := e.va ≤ va && va < e.va + 2 ^ e.log2
def Xlt.lookup (x : Xlt) (direct : Bool) (va : Nat) : Option Tlb := x.tlb.find? (fun e => e.direct == direct && e.covers va)

/-- What the caches say of a table-managed address, or of a direct host address. -/
inductive XRes where
  | at (host : Bool) (addr : Nat)
  | deny (cause : Nat)
  | illegal
  | miss
  | fault
  deriving DecidableEq, Repr

def xcNoncanonical : Nat := 1
def xcUnmapped : Nat := 2
def xcWriteDenied : Nat := 3
def xcDenied : Nat := 4
def xcAtsError : Nat := 5
def xcPriInvalid : Nat := 6
def xcPriStopped : Nat := 7
def xcPriTimeout : Nat := 8
def xcPriDisabled : Nat := 9
def xcRetryLimit : Nat := 10

def Xlt.resolve (x : Xlt) (direct : Bool) (va : Nat) (write atomic : Bool) : XRes :=
  match x.lookup direct va with
  | none => .miss
  | some e =>
    let a := e.target + (va - e.va)
    if e.host then
      if atomic then .illegal
      else if if write then e.write else e.read then .at true a
      else .fault
    else if write && !e.write then .deny xcWriteDenied
    else .at false a

/-! ### Who may reach a local physical address (R369, R387) -/

inductive Own where
  | ok
  /-- a mismatch: logged (R369) -/
  | mismatch
  /-- DENIED without a mismatch (R515, R532) -/
  | denied
  /-- a fenced site without a spare (R532) -/
  | fenced
  deriving DecidableEq, Repr

def siteWindow (site : Nat) : Nat := commonsBase + (site - 16) * 2 ^ 40

/-- The site whose occupant serves a commons window (R528). -/
def State.servedBy (s : State) (site : Nat) : Nat := (s.phys kCommons site).getD site

def State.owns (s : State) (fn lpa : Nat) : Own :=
  if lpa < hbmTop then (if s.capBase fn ≤ lpa && lpa < s.capBase fn + s.capSize fn then .ok else .mismatch)
  else if scratchBase ≤ lpa && lpa < scratchBase + 256 * 0x800000 then
    let l := (lpa - scratchBase) / 0x800000
    if s.sliceOwner l = fn && s.sliceUse l = 2 && !s.vacant kSlice l then .ok else .mismatch
  else if commonsBase ≤ lpa && lpa < commonsBase + 4 * 2 ^ 40 then
    let c := s.fnNat fn PDK_COMMONS
    let site := 16 + (lpa - commonsBase) / 2 ^ 40
    let x := s.servedBy site
    if bitOf c 7 && c % 32 = site then
      if s.cmnSt x = cmnFenced then .fenced
      else if s.cmnSt x = cmnActive && bitOf (s.cmnCfg x) 0 && (lpa - commonsBase) % 2 ^ 40 < (s.sites.get Site.empty x).windowMib * mib then .ok
      else .denied
    else .mismatch
  else .denied

/-- A DENIED answer to a mismatch: logged and counted (R369). -/
def State.logDenied (s : State) (fn lpa access : Nat) : State :=
  (s.hubCount NOC_DENIED 1).report (padReport cDenied .uc 0x08 0 lpa fn access)

/-! ### Translation faults and their registers (R416) -/

def XWho.origin (w : XWho) : Nat :=
  match w with
  | .thread _ _ => 0
  | .load _ => 1
  | .input _ => 1
  | .out _ => 2
  | .ring => 3

def State.noteFault (s : State) (fn va cause origin : Nat) (write : Bool) : State :=
  (s.fnSetN fn XLT_FAULT_VA (fieldOf va 12 36 * 4096)).fnSetN fn XLT_FAULT_INFO (cause * 256 + origin * 16 + boolN write)

/-- A thread raises TRANSLATION (R388, R416). -/
def State.raiseXlate (s : State) (t : Thr) (va cause : Nat) (write : Bool) : State :=
  (s.noteFault (t.gid / 65536) va cause 0 write).raise t xTranslation va

def Fn.modXlt (f : Fn) (g : Xlt → Xlt) : Fn := { f with xlt := g f.xlt }
def State.modXlt (s : State) (fn : Nat) (g : Xlt → Xlt) : State := s.modFn fn (fun f => f.modXlt g)

/-- XLT_PRI_STATE shows the groups outstanding and the indices quarantined (R415). -/
def Fn.notePri (f : Fn) : Fn :=
  let q := (f.xlt.prgs.filter (fun p => p.2.quarantined)).length
  f.putN XLT_PRI_STATE (f.nat XLT_PRI_STATE / 2 ^ 31 % 2 * 2 ^ 31 + (f.xlt.prgs.length - q) * 65536 + q)
def State.notePri (s : State) (fn : Nat) : State := s.modFn fn Fn.notePri
def Fn.priStopped (f : Fn) : Bool := bitOf (f.nat XLT_PRI_STATE) 31

/-- The endpoint issues no request for a function (R432). -/
def State.pceHeld (s : State) (fn : Nat) : Bool :=
  let p := (s.fn fn).pce
  !s.fnExists fn || !p.busMaster || p.d3hot || p.flrBusy || p.tdiHold

/-! ### Waits (R405, R409 to R413) -/

def State.addWait (s : State) (fn : Nat) (w : XWait) : State := s.modXlt fn (fun x => { x with waits := x.waits ++ [w] })

/-- A thread that waits for a page is parked (R411). -/
def State.park (s : State) (w : XWho) : State :=
  match w with
  | .thread gid idx => s.modTh ⟨gid, idx⟩ (fun th => { th with st := .parked })
  | _ => s
def State.unpark (s : State) (w : XWho) : State :=
  match w with
  | .thread gid idx => s.modTh ⟨gid, idx⟩ (fun th =>
      if th.st == .parked then { th with st := .running } else th)
  | _ => s

/-- A page of a write-out that cannot be translated is lost (R408). -/
def State.losePage (s : State) (fn e page : Nat) : State :=
  let s := s.modEntry fn e (fun j => { j with left := j.left.filter (· != page) })
  (s.fnCount fn XLT_WRITEOUT_LOSSES 1).report (padReport cWriteoutLoss .uc 0x0A 0 page fn 2)

/-- What a waiter does whose page has failed (R408, R412). -/
def State.failWait (s : State) (fn : Nat) (w : XWait) (cause : Nat) : State :=
  let s := s.noteFault fn w.page cause w.who.origin w.write
  match w.who with
  | .thread gid idx => (s.unpark w.who).raise ⟨gid, idx⟩ xTranslation w.page
  | .input gid => s.failGroup gid xTranslation
  | .load e => s.failLoad fn e
  | .out e => s.losePage fn e w.page
  | .ring => s.modXlt fn (fun x => { x with ringBlocked := true })

/-- Take the waits that satisfy `p` out of the list. -/
def State.takeWaits (s : State) (fn : Nat) (p : XWait → Bool) : List XWait × State :=
  ((s.fn fn).xlt.waits.filter p, s.modXlt fn (fun x => { x with waits := x.waits.filter (fun w => !p w) }))

/-- A Translation Request for a page, shared while one is outstanding (R405); it waits under R432. -/
def State.askAts (s : State) (fn : Nat) (w : XWait) : State :=
  if s.pceHeld fn then s.addWait fn { w with stage := .held }
  else
    let s := s.addWait fn { w with stage := .ats }
    if (s.fn fn).xlt.atsReqs.any (fun q => q.1 = w.page) then s
    else ((s.modXlt fn (fun x => { x with atsReqs := x.atsReqs ++ [(w.page, w.write)] })).fnCount fn XLT_ATS_REQUESTS 1).send
      (.ats fn w.page w.write)

/-- The lowest free PRG index. -/
def Xlt.freeIndex (x : Xlt) : Option Nat :=
  if x.prgs.length < min 512 x.priAlloc then (List.range 512).find? (fun i => (x.prgs.find i).isNone) else none

/-- A page fault (R409, R410, R412). -/
def State.pageFault (s : State) (fn : Nat) (w : XWait) : State :=
  let x := (s.fn fn).xlt
  if (s.fn fn).priStopped then s.failWait fn w xcPriStopped
  else if !x.priEnable then s.failWait fn w xcPriDisabled
  else if s.pceHeld fn then s.addWait fn { w with stage := .held }
  else match x.prgs.find? (fun p => p.2.page = w.page && !p.2.quarantined) with
    | some p =>
      if p.2.write || !w.write then
        (s.addWait fn { w with stage := .fault p.1 true, since := s.time }).fnCount fn XLT_MERGED_FAULTS 1
      else s.addWait fn { w with stage := .fault p.1 false, since := s.time }
    | none =>
      match x.freeIndex with
      | none => s.addWait fn { w with stage := .index }
      | some i =>
        let s := s.modXlt fn (fun x => { x with prgs := x.prgs.set i ⟨w.page, w.write, false, s.time⟩ })
        ((((s.addWait fn { w with stage := .fault i true, since := s.time }).fnCount fn XLT_PAGE_REQUESTS 1).notePri fn).send
          (.pageRequest fn i w.page w.write))

/-- An access misses: a table walk, or a translation request for a direct host address, is under way (R403, R405). -/
def State.missPage (s : State) (fn : Nat) (w : XWait) : State :=
  let s := if s.confidential fn then s else s.fnCount fn XLT_TLB_MISSES 1
  if w.direct then s.askAts fn w
  else
    let s := s.addWait fn { w with stage := .walk }
    if (s.fn fn).xlt.walks.contains w.page then s
    else
      let s := if s.confidential fn then s else s.fnCount fn XLT_WALKS 1
      s.modXlt fn (fun x => { x with walks := x.walks ++ [w.page] })

/-- Someone needs a page it cannot use yet: it waits, once per page. -/
def State.needPage (s : State) (fn va : Nat) (write atomic direct : Bool) (who : XWho) : State :=
  let page := va / 4096 * 4096
  if (s.fn fn).xlt.waits.any (fun w => w.page = page && w.who == who) then s
  else
    let w : XWait := ⟨page, write, atomic, direct, .walk, s.time, who⟩
    match (s.fn fn).xlt.resolve direct page write atomic with
    | .fault => (s.park who).pageFault fn w
    | .miss => (s.park who).missPage fn w
    | _ => s

/-! ### Requests to host memory (R431, R432) -/

/-- A read of host memory: a request with the next tag, or held in order. -/
def State.hostAsk (s : State) (q : PcieReq) : State :=
  if s.pceHeld q.fn then { s with pce := { s.pce with waiting := s.pce.waiting ++ [q] } }
  else
    { s.send (.hostRead q.fn s.pce.nextTag q.addr q.len) with
      pce := { s.pce with reqs := s.pce.reqs.set s.pce.nextTag q, nextTag := s.pce.nextTag + 1 } }

end Sys2Proof.Machine
end

