-- ==== Sys2Proof/Machine/GroupOps.lean ====
section
/-! DEFINITION. Shared operations of thread groups: issue of an instruction, where an address leads, what a group sees there, and
its stores (R54, R104, R109, R114, R122 to R131, R153 to R166, R200, R205, R206). -/

namespace Sys2Proof.Machine
open Sys2Proof

/-! ### A group's record and places -/

def State.recOf (s : State) (g : Grp) : List Byte :=
  match s.entry g.fn g.entry with
  | some j => j.record
  | none => []
def State.streamOf (s : State) (g : Grp) : Nat := recStream (s.recOf g)

/-- Hirsels of a group (R119). -/
def Grp.size (g : Grp) : Nat := g.prog.hirsels
/-- Threads of the group (R120). -/
def Grp.count (g : Grp) : Nat := g.size * 16 * g.prog.threads
def Grp.coreOf (g : Grp) (idx : Nat) : Nat := idx / g.prog.threads
/-- Global core of a group core index (R159). -/
def Grp.globalCore (g : Grp) (c : Nat) : Nat := g.hirsels.getD (c / 16) 0 * 16 + c % 16
/-- Every core of the group, as global numbers. -/
def Grp.cores (g : Grp) : List Nat := (List.range (g.size * 16)).map g.globalCore
def Grp.live (g : Grp) : Bool := g.phase == .running || g.phase == .saving || g.phase == .switchedOut

/-! ### The image window and pastures (R104, R109, R311) -/

/-- A pasture's handle in paddock 0, with its place in the pasture area. -/
def State.pastureHandle (s : State) (id : Nat) : Option Handle :=
  ((s.fn 0).handles.find? (fun h => h.2.kind == .pasture && h.2.pasture = id)).map (·.2)

/-- An attachment covers its range of the window from its commit to that of its UNLOAD (R109). -/
def Handle.attached (h : Handle) (off : Nat) : Bool :=
  h.kind == .attach && h.st != .loading && h.offset ≤ off && off < h.offset + h.len

/-- The address behind an offset of the image window. -/
def State.imageAddr (s : State) (fn off : Nat) : Nat :=
  match (s.fn fn).handles.find? (fun (h : Nat × Handle) => h.2.attached off) with
  | some h => match s.pastureHandle h.2.pasture with
    | some p => s.pastureBase + p.offset + (off - h.2.offset)
    | none => s.imageBase fn + off
  | none => s.imageBase fn + off

/-! ### Poison that a group reads (R295, R323) -/

/-- MCT_LAST_POISON: the offset of the line in the paddock's capacity, or in the pasture area for a pasture line. -/
def State.lastPoison (s : State) (fn line : Nat) : State :=
  let a := line * 64
  if s.capBase fn ≤ a && a < s.capBase fn + s.capSize fn then s.fnSetN fn MCT_LAST_POISON (a - s.capBase fn)
  else match s.pastureOff a with
    | some o => s.fnSetN fn MCT_LAST_POISON o
    | none => s

/-- The attempt has read poison of memory. -/
def State.memPoison (s : State) (gid : Nat) (line : Option Nat) : State :=
  let s := match line with
    | some l => s.lastPoison (gid / 65536) l
    | none => s
  (s.modGrp gid (fun g => { g with memPoison := true })).poisonGroup gid

/-- HBM lines that a range of a target lies in. -/
def State.tgtLines (s : State) (fn : Nat) (t : Tgt) (n : Nat) : List Nat :=
  match t with
  | .mem _ a => if a < hbmTop && n ≠ 0 then (List.range ((a + n - 1) / 64 + 1 - a / 64)).map (· + a / 64) else []
  | .image va _ => if n = 0 then [] else
      (List.range ((va + n - 1) / 64 + 1 - va / 64)).map (fun i => lineOf (s.imageAddr fn (max va ((va / 64 + i) * 64) - imageVa)))
  | _ => []

/-- The attempt has met poison in a read of targets. -/
def State.meetPoison (s : State) (gid : Nat) (ts : List (Tgt × Nat)) : State :=
  let lines := (ts.map (fun (x : Tgt × Nat) => s.tgtLines (gid / 65536) x.1 x.2)).flatten
  s.memPoison gid (lines.filter (fun l => s.poison.contains l || s.stackFenced (l * 64))).getLast?

/-! ### Issue (R153 to R158, R166, R200) -/

def gNegate (b : BitVec 5) : Bool := b.getLsbD 3
def gReg (b : BitVec 5) : Nat := b.toNat % 8
/-- N and P are zero when G is 0 (R158). -/
def guardOk (b : BitVec 5) : Bool := b.getLsbD 4 || b == 0

def Thread.pr (th : Thread) (i : Nat) : W32 := th.p.get 0 i
/-- The guard at a lane; at lane 0 for scalar instructions (R158). -/
def Thread.guard (th : Thread) (b : BitVec 5) (lane : Nat) : Bool :=
  if b.getLsbD 4 then xor ((th.pr (gReg b)).getLsbD lane) (gNegate b) else true
def Thread.lanes (th : Thread) (b : BitVec 5) : List Nat := (List.range 32).filter (th.guard b)

/-- x0 reads as zero (R156). -/
def Thread.xr (th : Thread) (i : Nat) : W64 := if i = 0 then 0 else th.x.get 0 i
def zeroLanes : List W32 := List.replicate 32 0#32
def Thread.vr (th : Thread) (i : Nat) : List W32 := th.v.get zeroLanes i
def laneAt (v : List W32) (i : Nat) : W32 := v.getD i 0#32

/-- A later write of a scalar register overtakes what an earlier operation would still have written there. -/
def Thread.forget (th : Thread) (vec : Bool) (r : Nat) : Thread :=
  { th with loads := th.loads.map (fun l => if l.vec == vec && l.dest = r then { l with vec := false, dest := 0 } else l),
            finds := th.finds.map (fun k => if !vec && k.2 = r then (k.1, 0) else k) }
/-- Writes to x0 are discarded (R156). -/
def Thread.setX (th : Thread) (r : Nat) (v : W64) : Thread :=
  if r = 0 then th else { th.forget false r with x := th.x.set r v }
def Thread.setV (th : Thread) (r : Nat) (v : List W32) : Thread := { th.forget true r with v := th.v.set r v }
def Thread.setP (th : Thread) (r : Nat) (v : W32) : Thread := { th with p := th.p.set r v }

/-- Past the instruction (R166, R199). -/
def Thread.advance (th : Thread) : Thread := { th with pc := th.pc + 8, issued := th.issued + 1 }
/-- A branch to a target. -/
def Thread.jump (th : Thread) (target : W64) : Thread := { th with pc := target, issued := th.issued + 1 }

/-- Scalar registers that a load or a directory find has still to write (R154). -/
def Thread.pendX (th : Thread) : List Nat := (th.loads.filter (fun l => !l.vec)).map (·.dest) ++ th.finds.map (·.2)
def Thread.pendV (th : Thread) : List Nat := (th.loads.filter (·.vec)).map (·.dest)

/-- The PC lies in the program's image (R200). -/
def Grp.inImage (g : Grp) (pc : W64) : Bool :=
  imageVa + g.prog.offset ≤ pc.toNat && pc.toNat + 8 ≤ imageVa + g.prog.offset + g.prog.len

/-- An instruction issues: it counts (R669) and the thread goes on as given. -/
def State.retire (s : State) (t : Thr) (g : Grp) (th : Thread) : State :=
  let st := s.streamOf g
  ((s.setTh t th).tallyP g.fn (some st) 0x03 1).tallyP g.fn (some st) 0x04 1

/-- What stands before an instruction's effect: `legal` its encoding (R166), `xs` and `vs` the registers it reads; `vec` a vector
guard. A thread that does not run, or waits for a register, issues nothing. -/
def State.insn (s : State) (t : Thr) (grd : BitVec 5) (vec legal : Bool) (xs vs : List Nat) (k : Grp → Thread → State) : State :=
  match s.grp t.gid with
  | none => s
  | some g =>
    match g.th t.idx with
    | none => s
    | some th =>
      if g.phase != .running || th.st != .running then s
      else if !g.inImage th.pc then s.raise t xFetch th.pc.toNat
      else if s.anyPoison (s.imageBase g.fn + (th.pc.toNat - imageVa)) 8 then s.memPoison t.gid (some (lineOf (s.imageBase g.fn + (th.pc.toNat - imageVa))))
      else if !(legal && guardOk grd) then s.raise t xIllegal 0
      else if !vec && !th.guard grd 0 then s.retire t g th.advance
      else if xs.any (fun r => r != 0 && th.pendX.contains r) || vs.any (fun r => th.pendV.contains r) then s
      else k g th

/-! ### Check windows (R243) -/

def Thread.window (th : Thread) (n : Nat) : Thread := { th with windows := th.windows + n }

/-! ### Ranges of core store (R114, R163) -/

/-- Whether a range of core store is usable. -/
def coreRangeOk (usable off n : Nat) (store : Bool) : Bool :=
  off + n ≤ usable || (0x60000 ≤ off && off + n ≤ 0x70000) || (usable = 0x60000 && off + n ≤ 0x70000) ||
    (!store && 0x7FC00 ≤ off && off + n ≤ 0x80000)

/-! ### Where an address leads (R159 to R162) -/

/-- What a resolved access meets. -/
inductive Reach where
  | ok (t : Tgt)
  | exc (code : Nat)
  | xlate (cause : Nat)
  | need
  | mismatch (lpa : Nat)
  | fenced
  deriving DecidableEq, Repr

inductive AccKind where
  | load | store | atomic
  deriving DecidableEq, Repr

def AccKind.writes (k : AccKind) : Bool := k != .load
/-- ACCESS of R593. -/
def AccKind.code (k : AccKind) : Nat :=
  match k with
  | .load => 1
  | .store => 2
  | .atomic => 3

/-- Core store addressing of a group core (R163). -/
def Grp.reachCore (g : Grp) (core off n : Nat) (k : AccKind) : Reach :=
  if coreRangeOk g.prog.coreStore off n k.writes then .ok (.core (coreAddr (g.globalCore core) off)) else .exc xCoreRange

/-- The private window (R161). -/
def State.reachPriv (s : State) (g : Grp) (off n : Nat) : Reach :=
  if off + n ≤ g.prog.priv then
    match s.shareAddr g.fn (g.privBase + off) with
    | some a => .ok (.priv a)
    | none => .xlate xcUnmapped
  else .xlate xcNoncanonical

/-- A table-managed address (R386 to R388). -/
def State.reachTable (s : State) (fn va : Nat) (k : AccKind) : Reach :=
  match (s.fn fn).xlt.resolve false va k.writes (k == .atomic) with
  | .miss => .need
  | .fault => .need
  | .illegal => .exc xIllegal
  | .deny c => .xlate c
  | .at true ha => .ok (.host va ha)
  | .at false lpa =>
    match s.owns fn lpa with
    | .ok =>
      if commonsBase ≤ lpa then (if k == .atomic then .exc xIllegal else .ok (.commons lpa)) else .ok (.mem va lpa)
    | .mismatch => .mismatch lpa
    | .denied => .xlate xcDenied
    | .fenced => .fenced

/-- An access of `n` bytes that does not cross a 4 KiB page. -/
def State.reach (s : State) (g : Grp) (idx space : Nat) (a : W64) (n : Nat) (k : AccKind) : Reach :=
  let v := a.toNat
  if space = 1 then
    if v < 2 ^ 19 then g.reachCore (g.coreOf idx) v n k else .exc xCoreRange
  else if space = 2 then
    if v < 2 ^ 31 && v / 2 ^ 19 < g.size * 16 then g.reachCore (v / 2 ^ 19) (v % 2 ^ 19) n k else .exc xCoreRange
  else if 2 ^ 48 ≤ v then .xlate xcNoncanonical
  else if imageVa ≤ v then
    if k.writes then .exc xWriteProtect
    else if v - imageVa + n ≤ s.fnNat g.fn PDK_IMAGE_SIZE * mib then .ok (.image v (s.imageAddr g.fn (v - imageVa)))
    else .xlate xcUnmapped
  else if privVa ≤ v then s.reachPriv g (v - privVa) n
  else s.reachTable g.fn v k

/-- What an access that does not complete its address does to its thread. -/
def State.unreached (s : State) (t : Thr) (va : Nat) (k : AccKind) (r : Reach) : State :=
  match r with
  | .ok _ => s
  | .exc c => s.raise t c va
  | .xlate c => s.raiseXlate t va c k.writes
  | .need => s.needPage (t.gid / 65536) va k.writes (k == .atomic) false (.thread t.gid t.idx)
  | .mismatch lpa => (s.logDenied (t.gid / 65536) lpa k.code).raiseXlate t va xcDenied k.writes
  | .fenced => s.datapathError t.gid false

/-! ### What a group sees (R122, R123) -/

/-- The output buffer of a WORK record. -/
def outAddr (r : List Byte) : Nat := fieldAt r 56 8
def outLen (r : List Byte) : Nat := fieldAt r 52 4
def inOutput (r : List Byte) (va : Nat) : Bool := outAddr r ≤ va && va < outAddr r + outLen r

/-- A byte of the release set of a record that is HELD or RELEASING (R54). -/
def State.heldByte (s : State) (fn e : Nat) (j : JEntry) (va : Nat) : Option Byte :=
  if j.st == .releasing then j.logSet.find va
  else if j.st == .accepted then
    match s.grp (gidOf fn e) with
    | some g =>
      if g.phase == .ended then
        (match g.staged.find va with
          | some b => some b
          | none => if inOutput j.record va then some 0#8 else none)
      else none
    | none => none
  else none

/-- Earlier records of a group's stream, the latest first. -/
def State.earlier (s : State) (g : Grp) : List (Nat × JEntry) :=
  match s.entry g.fn g.entry with
  | none => []
  | some j => ((s.fn g.fn).inOrder.filter (fun p => p.2.order < j.order && recStream p.2.record = recStream j.record)).reverse

/-- The staged byte that a group sees at a virtual address, with the group it was forwarded from (R122, R407). -/
def State.stagedByte (s : State) (g : Grp) (va : Nat) : Option (Byte × Option Nat) :=
  match g.staged.find va with
  | some b => some (b, none)
  | none =>
    match (s.earlier g).find? (fun p => (s.heldByte g.fn p.1 p.2 va).isSome) with
    | some p => (s.heldByte g.fn p.1 p.2 va).map (fun b => (b, some (gidOf g.fn p.1)))
    | none => none

/-- Bytes at consecutive virtual addresses, staged ones over those given. -/
def State.overlay (s : State) (g : Grp) (va : Nat) (bs : List Byte) : List Byte :=
  match bs with
  | [] => []
  | b :: t => (match s.stagedByte g va with
    | some (c, _) => c
    | none => b) :: s.overlay g (va + 1) t

/-- Whether every byte of a range is staged, so that nothing is read beneath. -/
def State.allStaged (s : State) (g : Grp) (va n : Nat) : Bool := (List.range n).all (fun i => (s.stagedByte g (va + i)).isSome)

/-- The HELD records whose staged bytes a range takes. -/
def State.forwardsOf (s : State) (g : Grp) (va n : Nat) : List Nat :=
  ((List.range n).filterMap (fun i => (s.stagedByte g (va + i)).bind (·.2))).dedup

/-- A range of the image window, byte by byte as attachments lie in it. -/
def State.fetchImage (s : State) (fn va n : Nat) : List Byte × Bool :=
  let at' := (List.range n).map (fun i => s.imageAddr fn (va + i - imageVa))
  (at'.map s.readByte, at'.any (fun a => s.isPoison a || s.stackFenced a))

/-- What a group reads of a target of `n` bytes, and whether it meets poison. A host or commons target gives what the answer
brought. -/
def State.readTgt (s : State) (g : Grp) (t : Tgt) (n : Nat) (answer : List Byte) : List Byte × Bool :=
  match t with
  | .core a => (s.readBytes a n, false)
  | .priv a => (s.readBytes a n, false)
  | .image va _ => s.fetchImage g.fn va n
  | .mem va a =>
    let m := s.fetch a n
    (s.overlay g va m.1, m.2 && !s.allStaged g va n)
  | .host va _ => (s.overlay g va answer, false)
  | .commons _ => (answer, false)

/-- Lines of paddock HBM that a read enters into the read filter (R123). -/
def filterLines (t : Tgt) (n : Nat) : List Nat :=
  match t with
  | .mem _ a => if a < hbmTop && n ≠ 0 then (List.range ((a + n - 1) / 64 + 1 - a / 64)).map (· + a / 64) else []
  | _ => []

def addAll (new old : List Nat) : List Nat := new.foldl (fun l x => if l.contains x then l else l ++ [x]) old

/-! ### The Fold's cache slices (R303 to R307, R323) -/

/-- Ways that STAGED lines may take of a set (R307). -/
def stagedWays : Nat := 12

/-- STAGED lines of a set of a slice. -/
def foldStaged (m : SMap (List FoldTag)) (k : Nat) : Nat := ((m.get [] k).filter (·.staged)).length

/-- Drop the least recently used way that is not STAGED. -/
def dropLru (l : List FoldTag) : List FoldTag :=
  match l with
  | [] => []
  | w :: t => if t.all (·.staged) && !w.staged then t else w :: dropLru t
/-- Put a line in front, least recently used ways leaving (R304). -/
def foldInsert (l : List FoldTag) (w : FoldTag) : List FoldTag := w :: (if 16 ≤ l.length then dropLru l else l)

/-- Slice and set of a line for an owner. -/
def State.foldKey (s : State) (owner lpa : Nat) : Nat := s.serving owner lpa * 8192 + s.foldSet lpa
def State.foldHas (s : State) (owner line : Nat) : Bool :=
  !(s.slices owner 1).isEmpty && (s.ms.fold.get [] (s.foldKey owner (line * 64))).any (fun w => !w.staged && w.line = line)

/-- A line is placed in its owner's slice, most recently used; a poisoned one is never cached (R296, R304). -/
def State.foldFill (s : State) (owner line : Nat) : State :=
  if hbmTop ≤ line * 64 || (s.slices owner 1).isEmpty || s.poison.contains line || s.stackFenced (line * 64) then s
  else
    let k := s.foldKey owner (line * 64)
    let ways := (s.ms.fold.get [] k).filter (fun w => w.staged || w.line != line)
    { s with ms := { s.ms with fold := s.ms.fold.set k (foldInsert ways ⟨line, false, owner⟩) } }

/-- A read of a line by a paddock hits or misses (R323); a hit makes the line the most recently used. -/
def State.foldRead (s : State) (fn stream line : Nat) : State :=
  let hit := s.foldHas fn line
  let s := if hit then s.foldFill fn line else s
  if s.confidential fn then s
  else (s.fnCount fn (if hit then FLD_READ_HITS else FLD_READ_MISSES) 1).tallyP fn (some stream) (if hit then 0x0A else 0x0B) 1

/-- A write to HBM: a line present is updated and a line written whole is allocated (R304). -/
def State.foldWrite (s : State) (owner a n : Nat) : State :=
  if n = 0 then s
  else ((List.range ((a + n - 1) / 64 + 1 - a / 64)).map (· + a / 64)).foldl (fun s l =>
    if (a ≤ l * 64 && l * 64 + 64 ≤ a + n) || s.foldHas owner l then s.foldFill owner l else s) s

/-- Lines of a range leave every cache slice of an owner, or of all when the owner is none (R296, R305). -/
def State.foldDrop (s : State) (owner : Option Nat) (a n : Nat) : State :=
  { s with ms := { s.ms with fold := s.ms.fold.map (fun (p : Nat × List FoldTag) =>
      (p.1, p.2.filter (fun w => w.staged || !(a ≤ w.line * 64 + 63 && w.line * 64 < a + n) ||
        (match owner with
          | some o => w.owner != o
          | none => false)))) } }

/-- Note what a read of a target has seen. -/
def State.noteRead (s : State) (gid : Nat) (g : Grp) (t : Tgt) (n : Nat) : State :=
  let fw := match t with
    | .mem va _ => s.forwardsOf g va n
    | .host va _ => s.forwardsOf g va n
    | _ => []
  let s := (s.tgtLines g.fn t n).foldl (fun s l => s.foldRead g.fn (s.streamOf g) l) s
  s.modGrp gid (fun g => { g with filter := addAll (filterLines t n) g.filter, forwarded := addAll fw g.forwarded })

/-! ### Conflicts with what a thread has outstanding (R129, R181, R194) -/

/-- A target as a class of addresses and an address: physical private storage, virtual, or a commons window. -/
def Tgt.key (t : Tgt) : Nat × Nat :=
  match t with
  | .core a => (0, a)
  | .priv a => (0, a)
  | .image va _ => (1, va)
  | .mem va _ => (1, va)
  | .host va _ => (1, va)
  | .commons a => (2, a)

def overlaps (a b : Nat × Nat) (n m : Nat) : Bool := a.1 = b.1 && a.2 < b.2 + m && b.2 < a.2 + n

def LoadOp.hits (l : LoadOp) (k : Nat × Nat) (n : Nat) : Bool := l.parts.any (fun p => overlaps p.tgt.key k p.size n)
def MCopyOp.hits (m : MCopyOp) (core : Nat) (k : Nat × Nat) (n : Nat) : Bool :=
  (!m.out && overlaps (0, coreAddr core m.csOff) k m.len n) || m.parts.any (fun p => overlaps p.tgt.key k p.size n)

/-- Core store that a queued TRD of the thread has still to write (R194): rows of 32 elements. -/
def TOp.hits (o : TOp) (idx core : Nat) (k : Nat × Nat) (n : Nat) : Bool :=
  match o.kind with
  | .trd fa _ sa _ _ => o.thread = idx && overlaps (0, coreAddr core sa) k
      (match Fmt.ofNibble fa with
        | some f => 128 * f.width
        | none => 0) n
  | _ => false

/-- LOCAL output of a FEVAL (R255). -/
def FevalOp.hits (o : FevalOp) (core : Nat) (k : Nat × Nat) (n : Nat) : Bool :=
  !o.outFold && overlaps (0, coreAddr core o.outOff) k (4 * o.records * (byteAt o.header 1).toNat) n

/-- An access of a thread must wait: a LD.ACQ is outstanding, an MCOPY, a TRD or a FEVAL of the thread covers the bytes, or, for a
store or atomic, an earlier load does. -/
def Grp.blocks (g : Grp) (idx : Nat) (th : Thread) (t : Tgt) (n : Nat) (writes : Bool) : Bool :=
  let core := g.globalCore (g.coreOf idx)
  th.loads.any (fun l => l.acq || (writes && l.hits t.key n)) || th.mcopies.any (fun m => m.hits core t.key n) ||
    (g.tq.get [] (g.coreOf idx)).any (fun o => o.hits idx core t.key n) || th.fevals.any (fun o => o.hits core t.key n)

/-! ### Stores (R54, R162) -/

/-- Distinct staged bytes outside the output buffer (R54). -/
def Grp.outside (g : Grp) (r : List Byte) : Nat := (g.staged.filter (fun c => !inOutput r c.1)).length

def stage (m : SMap Byte) (va : Nat) (bs : List Byte) : SMap Byte :=
  match bs with
  | [] => m
  | b :: t => stage (m.set va b) (va + 1) t

/-- The line of a staged store: it takes a way of its set, or goes to the staging overflow (R307). -/
def State.stageLine (s : State) (gid : Nat) (lpa : Nat) : State :=
  let fn := gid / 65536
  let k := s.foldKey fn lpa
  let ways := s.ms.fold.get [] k
  if ways.any (fun w => w.staged && w.line = lpa / 64 && w.owner = gid) then s
  else if stagedWays ≤ foldStaged s.ms.fold k then
    (s.hubCount FLD_STAGE_OVERFLOWS 1).fnCount fn FLD_STAGE_SPILLS 1
  else { s with ms := { s.ms with fold := s.ms.fold.set k (foldInsert ways ⟨lpa / 64, true, gid⟩) } }

/-- Stage bytes at a virtual address; past STATE_BUDGET the record faults (R54). -/
def State.stageBytes (s : State) (gid va : Nat) (lpa : Option Nat) (bs : List Byte) : State :=
  match s.grp gid with
  | none => s
  | some g =>
    let r := s.recOf g
    let g' := { g with staged := stage g.staged va bs }
    if fieldAt r 64 4 < g'.outside r then s.failGroup gid xBudget
    else
      let s := s.setGrp gid g'
      match lpa with
      | some a => s.stageLine gid a
      | none => s

/-- A store of a group to a target that is no commons window. -/
def State.putTgt (s : State) (gid : Nat) (t : Tgt) (bs : List Byte) : State :=
  match t with
  | .core a => s.store a bs
  | .priv a => s.store a bs
  | .mem va a => s.stageBytes gid va (some a) bs
  | .host va _ => s.stageBytes gid va none bs
  | .image _ _ => s
  | .commons _ => s

end Sys2Proof.Machine
end

