-- ==== Sys2Proof/Machine/Operands.lean ====
section
/-! DEFINITION. Operand forms of the instructions: which encodings are legal and how operands are read and results written
(R156 to R158, R166 to R170, R212, R217, R218). -/

namespace Sys2Proof.Machine
open Sys2Proof

abbrev Out := Host.Outcome State Fault Refusal

/-! ### Register fields (R166) -/

def isP (r : BitVec 6) : Bool := r.toNat < 8
def isV (r : BitVec 6) : Bool := r.toNat < 32
def sext32 (i : BitVec 32) : W64 := i.signExtend 64

/-! ### Scalar results -/

/-- Write xD and go on; the result's check window opens (R243). -/
def State.doneX (s : State) (t : Thr) (g : Grp) (th : Thread) (d : BitVec 6) (v : W64) : State :=
  s.retire t g ((th.setX d.toNat v).window 1).advance
def State.doneP (s : State) (t : Thr) (g : Grp) (th : Thread) (d : BitVec 6) (v : W32) : State :=
  s.retire t g ((th.setP d.toNat v).window 1).advance
def State.doneV (s : State) (t : Thr) (g : Grp) (th : Thread) (d : BitVec 6) (v : List W32) : State :=
  s.retire t g ((th.setV d.toNat v).window 1).advance

def allOnes (b : Bool) : W32 := if b then 0xFFFFFFFF#32 else 0#32

/-- Two scalar sources, format R. -/
def State.scalar2 (s : State) (t : Thr) (f : FmtR) (op : W64 → W64 → W64) : State :=
  s.insn t f.grd false (f.s3 == 0 && f.ty == 0 && f.cond == 0 && f.rsv == 0) [f.s1.toNat, f.s2.toNat] []
    (fun g th => s.doneX t g th f.d (op (th.xr f.s1.toNat) (th.xr f.s2.toNat)))

/-- One scalar source, format R. -/
def State.scalar1 (s : State) (t : Thr) (f : FmtR) (op : W64 → W64) : State :=
  s.insn t f.grd false (f.s2 == 0 && f.s3 == 0 && f.ty == 0 && f.cond == 0 && f.rsv == 0) [f.s1.toNat] []
    (fun g th => s.doneX t g th f.d (op (th.xr f.s1.toNat)))

/-- A scalar source and an immediate, format I. -/
def State.scalarI (s : State) (t : Thr) (f : FmtI) (immOk : Bool) (op : W64 → BitVec 32 → W64) : State :=
  s.insn t f.grd false (f.ty == 0 && f.rsv == 0 && immOk) [f.s1.toNat] []
    (fun g th => s.doneX t g th f.d (op (th.xr f.s1.toNat) f.imm))

/-- Two predicates into a predicate. -/
def State.pred2 (s : State) (t : Thr) (f : FmtR) (op : W32 → W32 → W32) : State :=
  s.insn t f.grd false (isP f.d && isP f.s1 && isP f.s2 && f.s3 == 0 && f.ty == 0 && f.cond == 0 && f.rsv == 0) [] []
    (fun g th => s.doneP t g th f.d (op (th.pr f.s1.toNat) (th.pr f.s2.toNat)))

/-! ### Vector operands -/

def laneMap (th : Thread) (b : BitVec 5) (old : List W32) (h : Nat → W32) : List W32 :=
  (List.range 32).map (fun i => if th.guard b i then h i else laneAt old i)

/-- A guarded vector instruction keeps inactive lanes, so it reads its destination (R158). -/
def keepD (b : BitVec 5) (d : BitVec 6) : List Nat := if b.getLsbD 4 then [d.toNat] else []

/-- Lanewise with one, two or three vector sources; `n` is how many. `tys` are the TYPEs accepted (R705). -/
def State.vecN (s : State) (t : Thr) (f : FmtR) (n : Nat) (tys : List Nat) (op : Nat → W32 → W32 → W32 → W32) : State :=
  s.insn t f.grd true
    (tys.contains f.ty.toNat && f.cond == 0 && f.rsv == 0 && isV f.d && isV f.s1 &&
      (if 2 ≤ n then isV f.s2 else f.s2 == 0) && (if 3 ≤ n then isV f.s3 else f.s3 == 0))
    [] (([f.s1.toNat, f.s2.toNat, f.s3.toNat].take n) ++ keepD f.grd f.d)
    (fun g th =>
      let a := th.vr f.s1.toNat
      let b := th.vr f.s2.toNat
      let c := th.vr f.s3.toNat
      s.doneV t g th f.d (laneMap th f.grd (th.vr f.d.toNat)
        (fun i => op f.ty.toNat (laneAt a i) (laneAt b i) (laneAt c i))))

def tyI32 : Nat := 0
def tyU32 : Nat := 1
def tyI64 : Nat := 2
def tyU64 : Nat := 3
def tyFP32 : Nat := 4
def tyBF16 : Nat := 5
def tyFP16 : Nat := 6

/-- Integer or FP32 by TYPE. -/
def byType (i f : W32 → W32 → W32) (ty : Nat) (a b _c : W32) : W32 := if ty = tyFP32 then f a b else i a b

/-! ### Register forms of VCVT (R217) -/

/-- A vector register as one number. -/
def regNat (v : List W32) : Nat := (List.range 32).foldl (fun a j => a + (laneAt v j).toNat * 2 ^ (32 * j)) 0
/-- Lanes of a number. -/
def regOfNat (n : Nat) : List W32 := (List.range 32).map (fun j => BitVec.ofNat 32 (n / 2 ^ (32 * j)))

/-- A format with a packed register form. -/
def Fmt.packed (f : Fmt) : Bool := f.mx || f.width = 4

/-- The 32 values that a register holds in a format. -/
def Fmt.unpack (f : Fmt) (v : List W32) : List Fv :=
  let n := regNat v
  let sc := (laneAt v 31).toNat % 256
  (List.range 32).map (fun i =>
    if f.packed then f.value (fieldOf n (f.width * i) f.width) sc
    else f.value ((laneAt v i).toNat % 2 ^ f.width) 0)

/-- Pack 32 values in a format; `rs` are their random values. -/
def Fmt.pack (f : Fmt) (mode : Rnd) (rs : List Nat) (vs : List Fv) : List W32 :=
  if f.packed then
    let sc := if f.mx then f.blockScale vs else 0
    let code := fun (i : Nat) => if f.mx then f.encodeMx mode (rs.getD i 0) sc (vs.getD i .nan) else f.encode mode (rs.getD i 0) (vs.getD i .nan)
    regOfNat ((List.range 32).foldl (fun a i => a + code i % 2 ^ f.width * 2 ^ (f.width * i)) 0 + sc * 2 ^ (32 * 31))
  else (List.range 32).map (fun i => BitVec.ofNat 32 (f.encode mode (rs.getD i 0) (vs.getD i .nan) % 2 ^ f.width))

/-- The random values of a thread's SR instruction for elements 0 to n − 1 (R240). -/
def State.randoms (s : State) (g : Grp) (idx op n : Nat) : List Nat :=
  let r := s.recOf g
  (List.range n).map (srRandom g.fn (recStream r) (recSeq r) idx op)

end Sys2Proof.Machine
end

