-- ==== Sys2Proof/Machine/Exact.lean ====
section
/-! DEFINITION. Exact accumulation in the Fold and the end of a thread group (R120, R124, R141 to R144, R183 to R185, R243). -/

namespace Sys2Proof.Machine
open Sys2Proof

/-! ### Elements of the Fold (R141 to R143) -/

def tySize (ty : Nat) : Nat :=
  if ty = tyI64 || ty = tyU64 then 8 else if ty = tyBF16 || ty = tyFP16 then 2 else 4

/-- The format of a floating TYPE. -/
def tyFmt (ty : Nat) : Option Fmt := Fmt.ofNibble (if ty = tyFP32 then 12 else if ty = tyBF16 then 10 else 11)

def keyNat (k : Nat × Nat) : Nat := k.1 * 2 ^ 64 + k.2

def Tgt.lpa (t : Tgt) : Nat :=
  match t with
  | .core a => a
  | .priv a => a
  | .image _ a => a
  | .mem _ a => a
  | .host _ a => a
  | .commons a => a

/-- Elements open in a slice (R143). -/
def State.openIn (s : State) (slice : Nat) : Nat :=
  ((s.groups.map (fun g => g.2.xas.filter (fun x => x.2.slice = slice && !x.2.spilled))).flatten).length

/-- An element of the group that an add of a TYPE at a target overlaps and may not (R142). -/
def Grp.xaClash (g : Grp) (t : Tgt) (ty : Nat) : Bool :=
  g.xas.any (fun x => overlaps t.key x.2.tgt.key (tySize ty) (tySize x.2.ty) && !(x.2.ty = ty && x.2.tgt.key = t.key))

/-- Whether an element has just entered extended form, for SPAN_OVERFLOWS (R669). -/
def entersExt (a b : Xa) : Nat := boolN (a.ext.isNone && b.ext.isSome)

/-- The value of an element of a TYPE. -/
def tyValue (ty : Nat) (bs : List Byte) : Fv :=
  match tyFmt ty with
  | some f => f.value (leNat bs) 0
  | none => .nan

/-- An exact add that clashes with no open element (R141); the element's windows open (R243). -/
def State.exactAdd (s : State) (gid : Nat) (t : Tgt) (ty : Nat) (v : Fv) : State :=
  match s.grp gid with
  | none => s
  | some g =>
    match g.xas.find (keyNat t.key) with
    | some x =>
      let xa := (x.xa.addValue v).normalise
      (s.setGrp gid { g with xas := g.xas.set (keyNat t.key) { x with xa := xa }, windows := g.windows + 1 }).tallyP g.fn
        (some (s.streamOf g)) 0x06 (entersExt x.xa xa)
    | none =>
      let seen := s.readTgt g t (tySize ty) []
      if seen.2 then s.meetPoison gid [(t, tySize ty)]
      else
        let slice := s.serving g.fn t.lpa
        let spilled := 4096 ≤ s.openIn slice
        let xa0 := (Xa.zero.addValue (tyValue ty seen.1)).normalise
        let xa := (xa0.addValue v).normalise
        let s := if spilled then s.hubCount FLD_XA_SPILLS 1 else s
        let s := s.setGrp gid { g with xas := g.xas.set (keyNat t.key) ⟨t, ty, xa, slice, spilled⟩, windows := g.windows + 2 }
        (s.noteRead gid g t (tySize ty)).tallyP g.fn (some (s.streamOf g)) 0x06 (entersExt Xa.zero xa)

/-- Close one element: rounded once in RNE and stored (R141, R235). -/
def State.closeXa (s : State) (gid : Nat) (x : XaOpen) : State :=
  match tyFmt x.ty with
  | some f => s.putTgt gid x.tgt (leBytes (tySize x.ty) (x.xa.readOut f .rne 0))
  | none => s

/-- Close every open element of a group (R141). -/
def State.closeXas (s : State) (gid : Nat) : State :=
  match s.grp gid with
  | none => s
  | some g =>
    g.xas.foldl (fun s x => s.closeXa gid x.2)
      (s.setGrp gid { g with xas := [], windows := g.windows + g.xas.length })

/-! ### The end of a group (R120, R124) -/

/-- The address behind a table-managed LOCAL page, from the caches or the tables. -/
def State.xlateNow (s : State) (fn va : Nat) : Option Nat :=
  match (s.fn fn).xlt.lookup false va with
  | some e => if e.host then none else some (e.target + (va - e.va))
  | none => match s.walk fn va with
    | .mapped base lpa _ _ => some (lpa + (va - base))
    | _ => none

/-- Virtual addresses, one per 64-byte line, that a release set touches. -/
def Grp.releaseLines (g : Grp) (r : List Byte) : List Nat :=
  let out := if outLen r = 0 then [] else (List.range ((outAddr r + outLen r - 1) / 64 + 1 - outAddr r / 64)).map (fun i => (outAddr r / 64 + i) * 64)
  addAll (g.staged.map (fun c => c.1 / 64 * 64)) out

/-- Lines of memory that the release set of a HELD record covers. -/
def State.heldLines (s : State) (g : Grp) : List Nat :=
  (g.releaseLines (s.recOf g)).filterMap (fun va => (s.xlateNow g.fn va).map (· / 64))

/-- A record has become HELD: later records whose filter may hold a line of its release set restart (R124). -/
def State.restartLater (s : State) (gid : Nat) : State :=
  match s.grp gid with
  | none => s
  | some g =>
    let lines := s.heldLines g
    (s.laterGroups g.fn g.entry).foldl (fun s k =>
      match s.grp k with
      | some h => if h.filter.any lines.contains then s.restartGroup k else s
      | none => s) s

/-- Nothing of the group is outstanding that R120 names. -/
def Grp.quiet (g : Grp) : Bool :=
  g.threads.all (fun t => t.2.st == .exited && t.2.mcopies.isEmpty && t.2.fevals.isEmpty && t.2.finds.isEmpty) &&
    g.tq.all (fun q => q.2.isEmpty) && g.lookups.isEmpty

/-- The group ends when its threads have exited and their operations are complete: its elements close and it is HELD. -/
def State.settleGroup (s : State) (gid : Nat) : State :=
  match s.grp gid with
  | none => s
  | some g =>
    if g.phase == .running && g.quiet then
      let s := s.closeXas gid
      match s.grp gid with
      | none => s
      | some h =>
        if h.phase == .running then
          ((s.setGrp gid { h with phase := .ended, wasHeld := true }).restartLater gid).noteRunning g.fn
        else s
    else s

/-! ### Integer atomics (R144, R183, R184) -/

def tySigned (ty : Nat) : Bool := ty = tyI32 || ty = tyI64

/-- Order of MIN and MAX by the signedness of TYPE; `w` bytes. -/
def atomLe (ty w a b : Nat) : Bool :=
  if tySigned ty then (BitVec.ofNat (8 * w) a).toInt ≤ (BitVec.ofNat (8 * w) b).toInt else a ≤ b

inductive AtomOp where
  | add | swap | cas | min | max
  deriving DecidableEq, Repr

/-- The new value of an integer atomic, none where it stores nothing. -/
def atomNew (o : AtomOp) (ty old a c : Nat) : Option Nat :=
  let w := tySize ty
  match o with
  | .add => some ((old + a) % 2 ^ (8 * w))
  | .swap => some a
  | .cas => if old = c then some a else none
  | .min => some (if atomLe ty w old a then old else a)
  | .max => some (if atomLe ty w old a then a else old)

/-- The prior value as it is written to xD. -/
def atomPrior (ty old : Nat) : W64 :=
  if ty = tyI32 then (BitVec.ofNat 32 old).signExtend 64 else BitVec.ofNat 64 old

/-- An atomic instruction's address: aligned, reached and free of conflicts; `k` has the target. -/
def State.atomAt (s : State) (t : Thr) (f : FmtA) (legal : Bool) (k : Grp → Thread → Tgt → State) : State :=
  s.insn t f.grd false (legal && f.space != 3 && f.rsv == 0) [f.base.toNat, f.s1.toNat, f.s2.toNat] []
    (fun g th =>
      let a := th.xr f.base.toNat
      let n := tySize f.ty.toNat
      if a.toNat % n ≠ 0 then s.raise t xMisaligned a.toNat
      else match s.reach g t.idx f.space.toNat a n .atomic with
        | .ok tgt => if g.blocks t.idx th tgt n true then s else k g th tgt
        | r => s.unreached t a.toNat .atomic r)

def isIntTy (ty : Nat) : Bool := ty < 4

/-- An integer atomic at a target: reads the group's view, stores the new value, writes the prior one where `ret`. -/
def State.atomInt (s : State) (t : Thr) (f : FmtA) (o : AtomOp) (ret : Bool) (g : Grp) (th : Thread) (tgt : Tgt) : State :=
  let ty := f.ty.toNat
  let n := tySize ty
  let seen := s.readTgt g tgt n []
  if seen.2 then s.meetPoison t.gid [(tgt, n)]
  else
    let old := leNat seen.1
    let s1 := s.noteRead t.gid g tgt n
    let s2 := match atomNew o ty old ((th.xr f.s1.toNat).toNat % 2 ^ (8 * n)) ((th.xr f.s2.toNat).toNat % 2 ^ (8 * n)) with
      | some v => s1.putTgt t.gid tgt (leBytes n v)
      | none => s1
    let th := if ret then th.setX f.d.toNat (atomPrior ty old) else th
    s2.retire t g (th.window 1).advance

/-- ATOM.ADD wraps for integers and accumulates exactly for floating TYPEs. -/
def execAtomAdd (t : Thr) (f : FmtA) (s : State) : Out :=
  .next (s.atomAt t f (f.d == 0 && f.s2 == 0 && f.ty.toNat ≤ tyFP16) (fun g th tgt =>
    if isIntTy f.ty.toNat then s.atomInt t f .add false g th tgt
    else if g.xaClash tgt f.ty.toNat then s.raise t xIllegal (th.xr f.base.toNat).toNat
    else
      (s.exactAdd t.gid tgt f.ty.toNat (tyValue f.ty.toNat (leBytes (tySize f.ty.toNat) ((th.xr f.s1.toNat).toNat)))).retire t g th.advance))

def execAtomFadd (t : Thr) (f : FmtA) (s : State) : Out :=
  .next (s.atomAt t f (f.s2 == 0 && isIntTy f.ty.toNat) (s.atomInt t f .add true))
def execAtomSwap (t : Thr) (f : FmtA) (s : State) : Out :=
  .next (s.atomAt t f (f.s2 == 0 && isIntTy f.ty.toNat) (s.atomInt t f .swap true))
def execAtomCas (t : Thr) (f : FmtA) (s : State) : Out :=
  .next (s.atomAt t f (isIntTy f.ty.toNat) (s.atomInt t f .cas true))
def execAtomMin (t : Thr) (f : FmtA) (s : State) : Out :=
  .next (s.atomAt t f (f.s2 == 0 && isIntTy f.ty.toNat) (s.atomInt t f .min true))
def execAtomMax (t : Thr) (f : FmtA) (s : State) : Out :=
  .next (s.atomAt t f (f.s2 == 0 && isIntTy f.ty.toNat) (s.atomInt t f .max true))

end Sys2Proof.Machine
end

