-- ==== Sys2Proof/Machine/Memory.lean ====
section
/-! DEFINITION. Loads, stores and copies (R128 to R131, R154, R162, R165, R176 to R182, R207, R515). -/

namespace Sys2Proof.Machine
open Sys2Proof

/-! ### Shapes of access -/

def Tgt.add (t : Tgt) (k : Nat) : Tgt :=
  match t with
  | .core a => .core (a + k)
  | .priv a => .priv (a + k)
  | .image va a => .image (va + k) (a + k)
  | .mem va a => .mem (va + k) (a + k)
  | .host va ha => .host (va + k) (ha + k)
  | .commons a => .commons (a + k)

/-- Pieces of a range that do not cross a boundary of `unit` bytes: offset in the range and length. -/
def pieces (fuel a off n unit : Nat) : List (Nat × Nat) :=
  match fuel with
  | 0 => []
  | k + 1 =>
    if n = 0 then []
    else
      let m := min n (unit - a % unit)
      (off, m) :: pieces k (a + m) (off + m) (n - m) unit

def cut (a n unit : Nat) : List (Nat × Nat) := pieces (n / unit + 2) a 0 n unit

/-- A part of a load as its target takes it: a commons window gives one part per 64-byte line (R515). -/
def splitPart (lane size : Nat) (t : Tgt) (n : Nat) : List LoadPart :=
  match t with
  | .commons a => (cut a n 64).map (fun p => ⟨lane + p.1 / size, t.add p.1, p.2, none⟩)
  | _ => [⟨lane, t, n, none⟩]

/-- Sign or zero extension to 64 bits of an `n`-byte value. -/
def extendN (n : Nat) (sx : Bool) (v : Nat) : W64 :=
  if sx && bitOf v (8 * n - 1) then BitVec.ofNat 64 (v % 2 ^ (8 * n)) - BitVec.ofNat 64 (2 ^ (8 * n)) else BitVec.ofNat 64 (v % 2 ^ (8 * n))

/-! ### Issue of a load (R154, R176) -/

/-- Requests that a part sends to the host when not all its bytes are staged (R407, R431). -/
def State.askPart (s : State) (t : Thr) (g : Grp) (id i : Nat) (p : LoadPart) : State :=
  match p.tgt with
  | .host va ha => if s.allStaged g va p.size then s else s.hostAsk ⟨g.fn, .thread t.gid t.idx id i, ha, p.size⟩
  | _ => s

def State.askParts (s : State) (t : Thr) (g : Grp) (id : Nat) (ps : List LoadPart) : State :=
  ((List.range ps.length).zip ps).foldl (fun s p => s.askPart t g id p.1 p.2) s

/-- A load becomes outstanding and the thread goes on. -/
def State.startLoad (s : State) (t : Thr) (g : Grp) (th : Thread) (op : LoadOp) : State :=
  let th1 := th.forget op.vec op.dest
  let s1 := s.retire t g ({ th1 with loads := th1.loads ++ [{ op with id := th.nextId }], nextId := th.nextId + 1 } : Thread).advance
  s1.askParts t g th.nextId op.parts

/-- An access after a LD.ACQ waits for it, as does a load that meets what the thread has outstanding. -/
def execLoad (s : State) (t : Thr) (f : FmtM) (acq : Bool) : State :=
  s.insn t f.grd false (f.space != 3 && f.size.toNat ≤ 3 && f.rsv == 0) [f.base.toNat] []
    (fun g th =>
      let a := th.xr f.base.toNat + sext32 f.offset
      let n := 2 ^ f.size.toNat
      if a.toNat % n ≠ 0 then s.raise t xMisaligned a.toNat
      else match s.reach g t.idx f.space.toNat a n .load with
        | .ok tgt =>
          if g.blocks t.idx th tgt n false || (acq && !th.mcopies.isEmpty) then s
          else s.startLoad t g th ⟨0, f.d.toNat, false, n, f.sx, acq, 0, splitPart 0 n tgt n⟩
        | r => s.unreached t a.toNat .load r)

def execLd (t : Thr) (f : FmtM) (s : State) : Out := .next (execLoad s t f false)
def execLdAcq (t : Thr) (f : FmtM) (s : State) : Out := .next (execLoad s t f true)

/-! ### Stores (R162, R176, R179) -/

/-- The lowest tag from `t` on that no request of a site bears. -/
def freeTag (reqs : SMap WinReq) (t : Nat) : Nat :=
  (((List.range 4096).map (fun i => (t + i) % 4096)).find? (fun k => (reqs.find k).isNone)).getD t

/-- A request at a site under a tag of its own. -/
def Site.addReq (x : Site) (q : WinReq) : Site :=
  let t := freeTag x.reqs x.nextTag
  { x with reqs := x.reqs.set t q, nextTag := (t + 1) % 4096 }

/-- Requests that a store makes of a commons window, one per 64-byte line, to be sent (R515). -/
def State.winStore (s : State) (t : Thr) (lpa : Nat) (bs : List Byte) : State :=
  let x := s.servedBy (16 + (lpa - commonsBase) / 2 ^ 40)
  let off := (lpa - commonsBase) % 2 ^ 40
  let n := match s.grp t.gid with
    | some g => ((s.entry g.fn g.entry).map (·.attempts)).getD 0
    | none => 0
  (cut off bs.length 64).foldl (fun (s : State) (p : Nat × Nat) =>
    let line := (off + p.1) / 64 * 64
    let cells := ((List.range p.2).map (fun i => (off + p.1 + i - line, bs.getD (p.1 + i) 0)))
    let q : WinReq := ⟨t.gid, n, t.idx, 0, 0, line, off + p.1 - line, p.2, true, cells, false, 0, false, false⟩
    { s with sites := s.sites.set x ((s.sites.get Site.empty x).addReq q) }) s

/-- Store bytes at a target. A commons store leaves only when the thread's check windows have closed (R162). -/
def State.doStore (s : State) (t : Thr) (g : Grp) (th : Thread) (tgt : Tgt) (bs : List Byte) : State :=
  match tgt with
  | .commons a => if th.windows = 0 then (s.winStore t a bs).retire t g th.advance else s
  | _ => (s.putTgt t.gid tgt bs).retire t g th.advance

def execStore (s : State) (t : Thr) (f : FmtM) (rel : Bool) : State :=
  s.insn t f.grd false (f.space != 3 && f.size.toNat ≤ 3 && !f.sx && f.rsv == 0) [f.base.toNat, f.d.toNat] []
    (fun g th =>
      let a := th.xr f.base.toNat + sext32 f.offset
      let n := 2 ^ f.size.toNat
      if a.toNat % n ≠ 0 then s.raise t xMisaligned a.toNat
      else match s.reach g t.idx f.space.toNat a n .store with
        | .ok tgt =>
          if g.blocks t.idx th tgt n true || (rel && !(th.loads.isEmpty && th.mcopies.isEmpty)) then s
          else s.doStore t g th tgt (leBytes n (th.xr f.d.toNat).toNat)
        | r => s.unreached t a.toNat .store r)

def execSt (t : Thr) (f : FmtM) (s : State) : Out := .next (execStore s t f false)
def execStRel (t : Thr) (f : FmtM) (s : State) : Out := .next (execStore s t f true)

/-! ### Vector loads and stores (R158, R176 to R178) -/

/-- The lanes from the first to the last active one, with their address: first lane, bytes before it, length. -/
def laneSpan (lanes : List Nat) (size : Nat) : Nat × Nat :=
  (lanes.headD 0, (lanes.getLastD 0 + 1 - lanes.headD 0) * size)

def laneMask (lanes : List Nat) : W32 := bitsOf lanes.contains
where
  bitsOf (h : Nat → Bool) : W32 := BitVec.ofNat 32 ((List.range 32).foldl (fun a i => a + boolN (h i) * 2 ^ i) 0)

def execVld (t : Thr) (f : FmtM) (s : State) : Out :=
  .next (s.insn t f.grd true (f.space != 3 && f.size.toNat ≤ 2 && f.rsv == 0 && isV f.d) [f.base.toNat] (keepD f.grd f.d)
    (fun g th =>
      let lanes := th.lanes f.grd
      let size := 2 ^ f.size.toNat
      let a := th.xr f.base.toNat + sext32 f.offset
      let sp := laneSpan lanes size
      if lanes.isEmpty then s.retire t g th.advance
      else if a.toNat % (32 * size) ≠ 0 then s.raise t xMisaligned a.toNat
      else
        let b := a + BitVec.ofNat 64 (sp.1 * size)
        match s.reach g t.idx f.space.toNat b sp.2 .load with
        | .ok tgt =>
          if g.blocks t.idx th tgt sp.2 false then s
          else s.startLoad t g th ⟨0, f.d.toNat, true, size, f.sx, false, laneMask lanes, splitPart sp.1 size tgt sp.2⟩
        | r => s.unreached t b.toNat .load r))

/-- Store the active lanes of a register from a target that the first of them addresses. -/
def State.storeLanes (s : State) (t : Thr) (v : List W32) (lanes : List Nat) (size : Nat) (at' : Nat → Tgt) : State :=
  lanes.foldl (fun s i => s.putTgt t.gid (at' i) (leBytes size (laneAt v i).toNat)) s

/-- Active lanes as bytes with gaps, for a commons window. -/
def winLanes (v : List W32) (lanes : List Nat) (size : Nat) (addr : Nat → Nat) : List (Nat × List Byte) :=
  lanes.map (fun i => (addr i, leBytes size (laneAt v i).toNat))

def execVst (t : Thr) (f : FmtM) (s : State) : Out :=
  .next (s.insn t f.grd true (f.space != 3 && f.size.toNat ≤ 2 && !f.sx && f.rsv == 0 && isV f.d) [f.base.toNat] [f.d.toNat]
    (fun g th =>
      let lanes := th.lanes f.grd
      let size := 2 ^ f.size.toNat
      let a := th.xr f.base.toNat + sext32 f.offset
      let sp := laneSpan lanes size
      if lanes.isEmpty then s.retire t g th.advance
      else if a.toNat % (32 * size) ≠ 0 then s.raise t xMisaligned a.toNat
      else
        let b := a + BitVec.ofNat 64 (sp.1 * size)
        match s.reach g t.idx f.space.toNat b sp.2 .store with
        | .ok tgt =>
          if g.blocks t.idx th tgt sp.2 true then s
          else match tgt with
            | .commons l =>
              if th.windows ≠ 0 then s
              else ((winLanes (th.vr f.d.toNat) lanes size (fun i => l + (i - sp.1) * size)).foldl
                (fun s p => s.winStore t p.1 p.2) s).retire t g th.advance
            | _ => (s.storeLanes t (th.vr f.d.toNat) lanes size (fun i => tgt.add ((i - sp.1) * size))).retire t g th.advance
        | r => s.unreached t b.toNat .store r))

/-- Address of a lane of VLD.G and VST.S (R178). -/
def laneAddr (f : FmtG) (th : Thread) (i : Nat) : W64 :=
  th.xr f.base.toNat + BitVec.ofNat 64 ((laneAt (th.vr f.x.toNat) i).toNat * 2 ^ f.size.toNat)

/-- The targets of the active lanes, in order, or what the first lane without one meets (R178). -/
def State.reachLanes (s : State) (g : Grp) (idx : Nat) (f : FmtG) (th : Thread) (k : AccKind) (lanes : List Nat) :
    List (Nat × Tgt) × Option (Nat × Reach) :=
  match lanes with
  | [] => ([], none)
  | i :: r =>
    let a := laneAddr f th i
    let n := 2 ^ f.size.toNat
    if a.toNat % n ≠ 0 then ([], some (a.toNat, .exc xMisaligned))
    else match s.reach g idx f.space.toNat a n k with
      | .ok t =>
        let rest := s.reachLanes g idx f th k r
        ((i, t) :: rest.1, rest.2)
      | e => ([], some (a.toNat, e))

def fmtGOk (f : FmtG) : Bool := f.space != 3 && f.size.toNat ≤ 2 && f.rsv == 0 && isV f.d && isV f.x

def execVldG (t : Thr) (f : FmtG) (s : State) : Out :=
  .next (s.insn t f.grd true (fmtGOk f) [f.base.toNat] ([f.x.toNat] ++ keepD f.grd f.d)
    (fun g th =>
      let size := 2 ^ f.size.toNat
      match s.reachLanes g t.idx f th .load (th.lanes f.grd) with
      | (ts, none) =>
        if ts.isEmpty then s.retire t g th.advance
        else if ts.any (fun p => g.blocks t.idx th p.2 size false) then s
        else s.startLoad t g th ⟨0, f.d.toNat, true, size, f.sx, false, laneMask (ts.map (·.1)),
          (ts.map (fun p => splitPart p.1 size p.2 size)).flatten⟩
      | (_, some (va, r)) => s.unreached t va .load r))

def execVstS (t : Thr) (f : FmtG) (s : State) : Out :=
  .next (s.insn t f.grd true (fmtGOk f && !f.sx) [f.base.toNat] [f.x.toNat, f.d.toNat]
    (fun g th =>
      let size := 2 ^ f.size.toNat
      let v := th.vr f.d.toNat
      match s.reachLanes g t.idx f th .store (th.lanes f.grd) with
      | (ts, none) =>
        if ts.any (fun p => g.blocks t.idx th p.2 size true) then s
        else if th.windows ≠ 0 && ts.any (fun p => match p.2 with
          | .commons _ => true
          | _ => false) then s
        else (ts.foldl (fun s p => match p.2 with
          | .commons l => s.winStore t l (leBytes size (laneAt v p.1).toNat)
          | tgt => s.putTgt t.gid tgt (leBytes size (laneAt v p.1).toNat)) s).retire t g th.advance
      | (_, some (va, r)) => s.unreached t va .store r))

/-! ### The return of a load -/

/-- A part that waits for an answer of the host or a commons has it. -/
def LoadPart.ready (p : LoadPart) (s : State) (g : Grp) : Bool :=
  match p.tgt with
  | .host va _ => p.data.isSome || s.allStaged g va p.size
  | .commons _ => p.data.isSome
  | _ => true

/-- What a part reads now. -/
def State.readPart (s : State) (g : Grp) (p : LoadPart) : List Byte × Bool := s.readTgt g p.tgt p.size ((p.data.getD []) ++ zeros p.size)

/-- Earlier loads of the thread that touch the same bytes (R129). -/
def earlierHits (ls : List LoadOp) (op : LoadOp) : Bool :=
  ls.any (fun l => l.id < op.id && op.parts.any (fun p => l.hits p.tgt.key p.size))

def partLane (ps : List (LoadPart × List Byte)) (size i : Nat) : Nat :=
  match ps.find? (fun p => p.1.lane ≤ i && i < p.1.lane + p.1.size / size) with
  | some p => leNat ((p.2.drop ((i - p.1.lane) * size)).take size)
  | none => 0

/-- The register that a load writes from what its parts read. -/
def Thread.loaded (th : Thread) (op : LoadOp) (ps : List (LoadPart × List Byte)) : Thread :=
  let th := { th with loads := th.loads.filter (fun l => l.id != op.id) }
  if op.vec then
    { th with v := th.v.set op.dest ((List.range 32).map (fun i =>
        if op.mask.getLsbD i then (extendN op.size op.sx (partLane ps op.size i)).truncate 32 else laneAt (th.vr op.dest) i)) }
  else if op.dest = 0 then th
  else { th with x := th.x.set op.dest (extendN op.size op.sx (leNat (ps.map (·.2)).flatten)) }

/-- LOAD_RETURN: a load whose parts can be read, and no earlier load of the same bytes waits, takes what the group sees now. -/
def execLoadReturn (t : Thr) (load : Nat) (s : State) : Out :=
  .next (match s.grp t.gid with
    | none => s
    | some g =>
      match g.th t.idx with
      | none => s
      | some th =>
        match th.loads.find? (fun l => l.id = load) with
        | none => s
        | some op =>
          if !(g.phase == .running || g.phase == .saving) || !op.parts.all (fun p => p.ready s g) || earlierHits th.loads op then s
          else
            let got := op.parts.map (fun p => (p, s.readPart g p))
            if got.any (fun p => p.2.2) then s.meetPoison t.gid (op.parts.map (fun p => (p.tgt, p.size)))
            else (op.parts.foldl (fun s p => s.noteRead t.gid g p.tgt p.size) s).modTh t
              (fun th => th.loaded op (got.map (fun p => (p.1, p.2.1)))))

/-! ### MCOPY (R180 to R182) -/

/-- The parts of the paddock side of a copy, or what the first piece without a target meets. -/
def State.reachRange (s : State) (g : Grp) (idx : Nat) (va : W64) (k : AccKind) (ps : List (Nat × Nat)) :
    List LoadPart × Option (Nat × Reach) :=
  match ps with
  | [] => ([], none)
  | p :: r =>
    let a := va + BitVec.ofNat 64 p.1
    match s.reach g idx 0 a p.2 k with
    | .ok t =>
      let rest := s.reachRange g idx va k r
      ((match t with
        | .commons _ => (splitPart 0 1 t p.2).map (fun q => { q with lane := q.lane + p.1 })
        | _ => [⟨p.1, t, p.2, none⟩]) ++ rest.1, rest.2)
    | e => ([], some (a.toNat, e))

/-- Read parts of a copy send their requests to the host. -/
def State.askCopy (s : State) (t : Thr) (g : Grp) (id : Nat) (ps : List LoadPart) : State :=
  ((List.range ps.length).zip ps).foldl (fun s p => match p.2.tgt with
    | .host va ha => if s.allStaged g va p.2.size then s else s.hostAsk ⟨g.fn, .mcopy t.gid t.idx id p.1, ha, p.2.size⟩
    | _ => s) s

def isCommons (t : Tgt) : Bool :=
  match t with
  | .commons _ => true
  | _ => false

def execMcopy (t : Thr) (f : FmtR) (s : State) : Out :=
  .next (s.insn t f.grd false (f.ty.toNat ≤ 1 && f.s3 == 0 && f.cond == 0 && f.rsv == 0) [f.d.toNat, f.s1.toNat, f.s2.toNat] []
    (fun g th =>
      let cs := th.xr f.d.toNat
      let va := th.xr f.s1.toNat
      let n := (th.xr f.s2.toNat).toNat
      let out := f.ty == 1
      if cs.toNat % 16 ≠ 0 || va.toNat % 16 ≠ 0 || n % 16 ≠ 0 then s.raise t xMisaligned va.toNat
      else if 524288 < n then s.raise t xOperand va.toNat
      else if n = 0 then s.retire t g th.advance
      else if 16 ≤ th.mcopies.length then s
      else
        let core := g.globalCore (g.coreOf t.idx)
        match s.reach g t.idx 1 cs n (if out then .load else .store) with
        | .ok ctgt =>
          match s.reachRange g t.idx va (if out then .store else .load) (cut va.toNat n 4096) with
          | (ps, none) =>
            if g.blocks t.idx th ctgt n (!out) || ps.any (fun p => g.blocks t.idx th p.tgt p.size out) ||
                (out && th.windows ≠ 0 && ps.any (fun p => isCommons p.tgt)) then s
            else
              let bs := if out then s.readBytes (coreAddr core cs.toNat) n else []
              let m : MCopyOp := ⟨th.nextId, out, cs.toNat, va.toNat, n, bs, ps⟩
              let s1 := s.retire t g ({ th with mcopies := th.mcopies ++ [m], nextId := th.nextId + 1 } : Thread).advance
              if out then s1 else s1.askCopy t g th.nextId ps
          | (_, some (a, r)) => s.unreached t a (if out then .store else .load) r
        | r => s.unreached t cs.toNat .load r))

/-- The copy takes place: into core store from what the group sees, or out of it as stores of the thread. -/
def State.copyDone (s : State) (t : Thr) (g : Grp) (m : MCopyOp) : State :=
  let s1 := s.modTh t (fun th => { th with mcopies := th.mcopies.filter (fun c => c.id != m.id) })
  if m.out then
    m.parts.foldl (fun s p => match p.tgt with
      | .commons l => s.winStore t l ((m.data.drop p.lane).take p.size)
      | tgt => s.putTgt t.gid tgt ((m.data.drop p.lane).take p.size)) s1
  else
    let got := m.parts.map (fun p => (p, s.readPart g p))
    if got.any (fun p => p.2.2) then s.meetPoison t.gid (m.parts.map (fun p => (p.tgt, p.size)))
    else got.foldl (fun s p => (s.noteRead t.gid g p.1.tgt p.1.size).store
      (coreAddr (g.globalCore (g.coreOf t.idx)) (m.csOff + p.1.lane)) (p.2.1.take p.1.size)) s1

end Sys2Proof.Machine
end

