-- ==== Sys2Proof/Machine/TorusOps.lean ====
section
/-! DEFINITION. The torus: routes, messages to other modules and exact sums across teams (R137, R138, R140, R234, R471, R473,
R486 to R496). -/

namespace Sys2Proof.Machine
open Sys2Proof

/-! ### Ports and directions (R470 to R473, R503) -/

def psOff : Nat := 0
def psTraining : Nat := 1
def psUp : Nat := 2
def psStandby : Nat := 3
def psExcluded : Nat := 4
def psFencedPeer : Nat := 5
def psRetraining : Nat := 6
def rsNoLight : Nat := 1
def rsNoTrain : Nat := 2
def rsBelowMin : Nat := 3
def rsMiswired : Nat := 4
def rsAuth : Nat := 5
def rsLinkLost : Nat := 6

def State.portCfg (s : State) (p : Nat) : Nat := s.hubNat (LNK_PORT_CFG + 4 * p)
def State.portField (s : State) (p lo w v : Nat) : State :=
  s.hubSetN (LNK_PORT_STATUS + 4 * p) (withField (s.hubNat (LNK_PORT_STATUS + 4 * p)) lo w v)
def State.setPortState (s : State) (p st : Nat) : State := s.portField p 28 4 st

/-- The direction that a port serves, 1 to 6 (R470); 0 for none. -/
def portDir (cfg : Nat) : Nat := if portRole cfg = 8 then portPoolDir cfg else if portRole cfg ≤ 6 then portRole cfg else 0

/-- Ports that carry a direction, ascending: those UP, pooled ones included while they carry (R473). -/
def State.dirPorts (s : State) (dir : Nat) : List Nat :=
  (List.range 16).filter (fun p => s.portState p = psUp && portDir (s.portCfg p) = dir)

/-- A trained POOL port carries traffic while fewer than two ports of its direction's role are UP (R473). -/
def State.notePools (s : State) : State :=
  (List.range 16).foldl (fun s p =>
    let c := s.portCfg p
    if portRole c = 8 && (s.portState p = psUp || s.portState p = psStandby) then
      let up := ((List.range 16).filter (fun q => portRole (s.portCfg q) = portPoolDir c && s.portState q = psUp)).length
      s.setPortState p (if up < 2 then psUp else psStandby)
    else s) s

/-- The module's six direction bits (R491). -/
def State.ownDirs (s : State) : Nat :=
  (List.range 6).foldl (fun a d => a + boolN (!(s.dirPorts (d + 1)).isEmpty) * 2 ^ d) 0

/-- Whether a node has a link up in a direction, 0 to 5. -/
def State.linkUp (s : State) (node dir : Nat) : Bool :=
  if node = s.nodeId then bitOf s.ownDirs dir
  else match s.torus.nodes.find node with
    | some n => bitOf n.dirs dir
    | none => false

/-! ### Routes (R471, R488) -/

def State.torusSize (s : State) (d : Nat) : Nat := dimSize (s.hubNat LNK_NODE) d
/-- The node with a coordinate replaced. -/
def setCoord (n d v : Nat) : Nat := n - nodeCoord n d * 8 ^ d + v * 8 ^ d
def State.neighbour (s : State) (n d : Nat) (neg : Bool) : Nat :=
  let k := s.torusSize d
  setCoord n d ((nodeCoord n d + (if neg then k - 1 else 1)) % k)

/-- Every link of `hops` steps from a node in a direction is up. -/
def State.segmentUp (s : State) (n d : Nat) (neg : Bool) (hops : Nat) : Bool :=
  match hops with
  | 0 => true
  | k + 1 => s.linkUp n (2 * d + boolN neg) && s.segmentUp (s.neighbour n d neg) d neg k

/-- The direction taken in a dimension: true for −; none where the destination cannot be reached. -/
def State.chooseDir (s : State) (n dst d : Nat) : Option Bool :=
  let k := s.torusSize d
  let dp := (nodeCoord dst d + k - nodeCoord n d) % k
  let dm := k - dp
  if dp = 0 then some false
  else
    let first := dm < dp
    if s.segmentUp n d first (if first then dm else dp) then some first
    else if s.segmentUp n d (!first) (if first then dp else dm) then some (!first)
    else none

/-- The route from a node, as the three bits of HOP: X at its y and z, then Y at the destination's x, then Z. -/
def State.route (s : State) (src dst : Nat) : Option Nat :=
  let n1 := setCoord src 0 (nodeCoord dst 0)
  let n2 := setCoord n1 1 (nodeCoord dst 1)
  match s.chooseDir src dst 0, s.chooseDir n1 dst 1, s.chooseDir n2 dst 2 with
  | some x, some y, some z => some (boolN x + 2 * boolN y + 4 * boolN z)
  | _, _, _ => none

/-- The direction of the next hop of a message at this module, 1 to 6. -/
def State.nextDir (s : State) (dst hop : Nat) : Nat :=
  match (List.range 3).find? (fun d => nodeCoord s.nodeId d ≠ nodeCoord dst d) with
  | some d => 2 * d + boolN (bitOf hop d) + 1
  | none => 0

/-- The port among those of a direction (R488). -/
def State.pickPort (s : State) (dir src dst : Nat) : Option Nat :=
  let ps := s.dirPorts dir
  ps[(src ^^^ dst) % ps.length]?

/-- The UP express port to a node (R474). -/
def State.expressPort (s : State) (dst : Nat) : Option Nat :=
  (List.range 16).find? (fun p => portRole (s.portCfg p) = 7 && portExpress (s.portCfg p) = dst && s.portState p = psUp)

/-- Egress port and HOP byte of a message that this module originates. -/
def State.egress (s : State) (dst : Nat) : Option (Nat × Nat) :=
  match s.expressPort dst with
  | some p => some (p, 8)
  | none =>
    match s.route s.nodeId dst with
    | some hop => (s.pickPort (s.nextDir dst hop) s.nodeId dst).map (fun p => (p, hop))
    | none => none

def State.reachable (s : State) (dst : Nat) : Bool := dst = s.nodeId || (s.egress dst).isSome

/-- LNK_REACH shows the nodes of the torus that can be reached (R500). -/
def State.noteReach (s : State) : State :=
  (List.range 16).foldl (fun s w =>
    s.hubSetN (LNK_REACH + 4 * w) ((List.range 32).foldl (fun a b =>
      let n := 32 * w + b
      a + boolN ((List.range 3).all (fun d => nodeCoord n d < s.torusSize d) && s.reachable n) * 2 ^ b) 0)) s

/-! ### Messages (R486, R487, R490) -/

def opCollectData : Nat := 0x01
def opHurdleArrive : Nat := 0x02
def opLstate : Nat := 0x03
def opCollectResult : Nat := 0x11
def opHurdleOpen : Nat := 0x12
def opE2eAck : Nat := 0x13

def State.modTorus (s : State) (h : Torus → Torus) : State := { s with torus := h s.torus }

def State.port (s : State) (p : Nat) : Port := s.ports.get Port.empty p
def State.setPort (s : State) (p : Nat) (x : Port) : State := { s with ports := s.ports.set p x }
def State.modPort (s : State) (p : Nat) (h : Port → Port) : State := s.setPort p (h (s.port p))

/-- Flits that a message takes: header slot and payload slots, 15 to a flit (R481, R486; assumption 33). -/
def flitsOf (m : LflMsg) : Nat := (1 + (m.payload.length + 39) / 40 + 14) / 15

/-- Put a message on a port; its flits stay in the replay buffer until acknowledged (R482). -/
def State.putLfl (s : State) (p : Nat) (m : LflMsg) : State :=
  let n := flitsOf m
  ((s.modPort p (fun x => { x with replay := x.replay ++ [(x.txNext, n, m)], txNext := (x.txNext + n) % 65536, sent := x.sent + n })).send
    (.lfl p m)).tallyM 0x14 m.payload.length

/-- A message of this module to another: it is kept until acknowledged, or not sent where the destination cannot be reached
(R488, R490). Nothing is sent in the safe state (R499). -/
def State.sendLfl (s : State) (m : LflMsg) : State :=
  if s.safe then s
  else match s.egress m.dst with
    | none => s.hubCount LNK_UNREACHABLE 1
    | some (p, hop) =>
      let key := m.dst * 2 + boolN (16 ≤ m.op)
      let q := s.torus.txSeq.get 0 key
      let m := { m with src := s.nodeId, hop := hop, e2eSeq := q, port := p, crcOk := true, reservedOk := true }
      (s.modTorus (fun t => { t with txSeq := t.txSeq.set key ((q + 1) % 2 ^ 32), kept := t.kept ++ [⟨m, 0, s.time⟩] })).putLfl p m

def lflMsg (dst op team id sumType addr round rank : Nat) (payload : List Byte) : LflMsg :=
  ⟨dst, 0, op, team, 0, id, 0, sumType, addr, round, rank, payload, true, true, 0⟩

/-- LSTATE of a node to every UP port but one (R491); link state is not kept for resending (assumption 17). -/
def State.floodState (s : State) (node dirs gen : Nat) (fenced : Bool) (except : Option Nat) : State :=
  if s.safe then s
  else (List.range 16).foldl (fun s p =>
    if s.portState p = psUp && except != some p then
      s.putLfl p ⟨fieldOf (s.hubNat (LNK_PORT_STATUS + 4 * p)) 7 9, node, opLstate, 0, 0, 0, 0, 0, 0, gen, 0,
        leBytes 1 (dirs % 64 + boolN fenced * 64) ++ leBytes 4 gen, true, true, p⟩
    else s) s

/-- The bellwether is reachable, or has been unreachable since some time; when it is again, the alternate follows it (R498). -/
def State.noteBellwether (s : State) : State :=
  if s.reachable (s.hubNat LNK_BELLWETHER % 512) then
    (s.modTorus (fun t => { t with bwLostAt := none })).hubSetN LNK_TIME_STATUS (withField (s.hubNat LNK_TIME_STATUS) 30 1 0)
  else s.modTorus (fun t => { t with bwLostAt := some (t.bwLostAt.getD s.time) })

/-- Routes are computed again (R491). -/
def State.noteRoutes (s : State) : State := ((s.hubCount LNK_ROUTE_CHANGES 1).noteReach).noteBellwether

/-- A port has changed state: pools, routes and LSTATE follow (R473, R491). -/
def State.portsChanged (s : State) : State :=
  let s := s.notePools
  let s := s.modTorus (fun t => { t with gen := (t.gen + 1) % 2 ^ 32 })
  (s.noteRoutes).floodState s.nodeId s.ownDirs s.torus.gen false none

/-! ### Teams (R494) -/

def State.teamMask (s : State) (t : Nat) : Nat := s.boot.teams.get 0 t
def State.members (s : State) (t : Nat) : List Nat := (List.range 512).filter (fun n => bitOf (s.teamMask t) n)
def rankIn (ms : List Nat) (n : Nat) : Option Nat := if ms.contains n then some (ms.filter (· < n)).length else none
def Fn.team (f : Fn) : Nat := f.nat PDK_TEAM % 64
/-- Paddocks of this module in a team. -/
def State.teamFns (s : State) (t : Nat) : List Nat := (List.range 32).filter (fun n => t ≠ 0 && (s.fn n).team = t)

/-! ### Exact sums of lanes (R140, R234, R495; assumption 18) -/

def laneFv (ty : Nat) (v : W32) : Fv :=
  if ty = tyI32 then Fv.ofInt (v.toInt * 2 ^ 320)
  else match tyFmt ty with
    | some f => f.value (v.toNat % 2 ^ f.width) 0
    | none => .nan

/-- The exact sum of values. -/
def sumFv (vs : List Fv) : Fv := (Xa.sumValues vs).readValue

/-- A lane's sum rounded once; INT32 wraps. -/
def roundLane (ty : Nat) (v : Fv) : W32 :=
  if ty = tyI32 then BitVec.ofInt 32 (v.toInt / 2 ^ 320)
  else match tyFmt ty with
    | some f => BitVec.ofNat 32 (f.encode .rne 0 v)
    | none => 0

/-- The 704-bit code of a lane sum; NaN and the infinities take codes that no finite sum reaches. -/
def laneCode (v : Fv) : Nat :=
  match v with
  | .nan => 2 ^ 703
  | .inf false => 2 ^ 703 - 1
  | .inf true => 2 ^ 703 + 1
  | .fin n m => if n && m ≠ 0 then 2 ^ 704 - m else m
def ofLaneCode (c : Nat) : Fv :=
  if c = 2 ^ 703 then .nan
  else if c = 2 ^ 703 - 1 then .inf false
  else if c = 2 ^ 703 + 1 then .inf true
  else if c < 2 ^ 703 then .fin false c
  else .fin true (2 ^ 704 - c)

/-- Lane sums over contributions, one vector each. -/
def sumLanes (ty : Nat) (cs : List (List W32)) : List Fv :=
  (List.range 32).map (fun i => sumFv (cs.map (fun v => laneFv ty (laneAt v i))))
def lanePayload (fs : List Fv) : List Byte := (fs.map (fun v => leBytes 88 (laneCode v))).flatten
def ofLanePayload (bs : List Byte) : List Fv := (List.range 32).map (fun i => ofLaneCode (fieldAt bs (88 * i) 88))

end Sys2Proof.Machine
end

