-- ==== Sys2Proof/Machine/Hurdles.lean ====
section
/-! DEFINITION. Fences, hurdles, collectives and the end of a thread (R120, R131, R134 to R140, R146, R179, R186 to R190,
R494 to R496). -/

namespace Sys2Proof.Machine
open Sys2Proof

/-! ### Rounds (R134, R135, R187) -/

def scTorus : Nat := 3
def hurdleKey (scope unit id : Nat) : Nat := scope * 65536 + unit * 16 + id
def keyScope (k : Nat) : Nat := k / 65536
def keyUnit (k : Nat) : Nat := k / 16 % 4096
def keyId (k : Nat) : Nat := k % 16

/-- The hirsel, or the tile of the launch, at which a thread meets others; tile numbers are those of the launch (R135). -/
def Grp.unitOf (g : Grp) (scope idx : Nat) : Nat :=
  if scope = 0 then g.coreOf idx / 16
  else if scope = 1 then g.home.getD (g.coreOf idx / 16) 0 / 16
  else 0

/-- Participants of a hurdle. -/
def Grp.partsOf (g : Grp) (k : Nat) : List Nat := (List.range g.count).filter (fun i => g.unitOf (keyScope k) i = keyUnit k)

def Grp.exited (g : Grp) (i : Nat) : Bool :=
  match g.th i with
  | some th => th.st == .exited
  | none => true

def Grp.round (g : Grp) (k : Nat) : Round := g.rounds.get Round.empty k

/-- The last arrival has come: every participant has arrived or exited, and at least one has arrived. -/
def Grp.roundFull (g : Grp) (k : Nat) : Bool :=
  !(g.round k).arrived.isEmpty && (g.partsOf k).all (fun i => (g.round k).arrived.contains i || g.exited i)

/-- A thread waits at a hurdle whose round has opened, with no copy outstanding: it leaves (R179, R187). -/
def Grp.leaves (g : Grp) (th : Thread) : Bool :=
  match th.waitKey with
  | some k => th.st == .hurdle && th.arrivals.get 0 k < (g.round k).number && th.mcopies.isEmpty
  | none => false

def Grp.release (g : Grp) : Grp :=
  { g with threads := g.threads.map (fun (p : Nat × Thread) =>
      if g.leaves p.2 then (p.1, { p.2 with st := .running, waitKey := none, sumDest := none }) else p) }

/-- The round opens: waiting threads that asked for the sum have it, and the next arrival starts a new round. -/
def Grp.openRound (g : Grp) (k : Nat) (sum : List W32) : Grp :=
  let r := g.round k
  let ths := g.threads.map (fun (p : Nat × Thread) =>
    match p.2.sumDest with
    | some d => if p.2.waitKey = some k && p.2.arrivals.get 0 k = r.number then (p.1, p.2.setV d sum) else p
    | none => p)
  ({ g with threads := ths, rounds := g.rounds.set k { Round.empty with number := r.number + 1 } } : Grp).release

/-- HURDLE_MISUSE in every thread of the group (R190); the exception that is captured is that of the lowest thread. -/
def State.misuse (s : State) (gid : Nat) : State := s.raise ⟨gid, 0⟩ xHurdle 0

/-! ### Outcomes of torus hurdles (R138) -/

/-- Write a piece of a buffer to the private window, at an offset in it. -/
def State.putPriv (s : State) (gid off : Nat) (bs : List Byte) : State :=
  match s.grp gid with
  | none => s
  | some g => match s.reachPriv g off bs.length with
    | .ok t => s.putTgt gid t bs
    | _ => s

/-- Write a buffer to the private window. -/
def State.writePriv (s : State) (gid va : Nat) (bs : List Byte) : State :=
  (cut va bs.length 4096).foldl (fun s p => s.putPriv gid (va + p.1 - privVa) ((bs.drop p.1).take p.2)) s

/-- A group has the outcome of its torus hurdle. -/
def State.torusDone (s : State) (gid k : Nat) (m : Memo) : State :=
  if m.misuse then s.misuse gid
  else match s.grp gid with
    | none => s
    | some g =>
      let s := match g.collect with
        | some c => if m.form = 2 then s.writePriv gid c.dst m.buffer else s
        | none => s
      (s.modGrp gid (fun g => { (g.openRound k m.value) with collect := none })).tallyP g.fn (some (s.streamOf g)) 0x12 1

/-- The last 1,024 outcomes stay recorded. -/
def Fn.addMemo (f : Fn) (m : Memo) : Fn :=
  let l := f.memos ++ [m]
  { f with memos := l.drop (l.length - 1024) }
def Fn.memo (f : Fn) (id tag : Nat) : Option Memo := f.memos.find? (fun m => m.id = id && m.tag = tag)

/-- Groups of a paddock that have arrived at a torus hurdle of an ID and tag. -/
def State.arrivedAt (s : State) (fn id tag : Nat) : List Nat :=
  (s.groups.filter (fun (p : Nat × Grp) =>
    let r := p.2.round (hurdleKey scTorus 0 id)
    p.2.fn = fn && r.groupArrived && r.tag = tag)).map (·.1)

/-- A member's paddocks have an outcome: their groups receive it and it is recorded (R138, R246). -/
def State.memberOpen (s : State) (team id tag : Nat) (m : Memo) : State :=
  (s.teamFns team).foldl (fun s fn =>
    let s := (s.arrivedAt fn id tag).foldl (fun s gid => s.torusDone gid (hurdleKey scTorus 0 id) m) s
    s.modFn fn (fun f => f.addMemo m)) s

/-! ### The root of a team (R495) -/

def sumTypeOf (form ty : Nat) : Nat := if form = 1 then 128 + ty else 0

/-- The outcome as HURDLE_OPEN carries it. -/
def openMsg (dst team id round sumType : Nat) (lanes : List W32) : LflMsg :=
  lflMsg dst opHurdleOpen team id sumType 0 round 0
    (if 128 ≤ sumType && sumType ≠ 255 then (lanes.map (fun v => leBytes 4 v.toNat)).flatten else [])

def memoOf (id tag sumType : Nat) (payload : List Byte) : Memo :=
  ⟨id, tag, if 128 ≤ sumType && sumType ≠ 255 then 1 else 0, if 128 ≤ sumType && sumType ≠ 255 then sumType % 16 else 0, sumType = 255,
   if payload.isEmpty then [] else (List.range 32).map (fun i => BitVec.ofNat 32 (fieldAt payload (4 * i) 4)), []⟩

/-- The root sends the outcome to every member, itself included. -/
def State.rootOpen (s : State) (team id tag sumType : Nat) (lanes : List W32) : State :=
  (s.members team).foldl (fun s n =>
    let m := openMsg n team id tag sumType lanes
    if n = s.nodeId then s.memberOpen team id tag (memoOf id tag sumType m.payload) else s.sendLfl m) s

/-- Sums of all arrivals of a round, rounded once. -/
def rootLanes (ty : Nat) (arrivals : List (List Byte)) : List W32 :=
  let vs := arrivals.map ofLanePayload
  (List.range 32).map (fun i => roundLane ty (sumFv (vs.map (fun v => v.getD i .nan))))

/-- An arrival at the root. After the round has opened it is answered from the record (R495). -/
def State.rootArrive (s : State) (team id tag rank sumType : Nat) (payload : List Byte) : State :=
  match (s.teamFns team).findSome? (fun fn => (s.fn fn).memo id tag) with
  | some m =>
    match (s.members team)[rank]? with
    | some n => s.sendLfl (openMsg n team id tag (if m.misuse then 255 else sumTypeOf m.form m.ty) m.value)
    | none => s
  | none =>
    let same := fun (r : TorusRound) => r.team = team && r.id = id && r.round = tag
    let old := (s.torus.rounds.find? same).getD ⟨team, id, tag, []⟩
    let r := { old with arrivals := old.arrivals.set rank (sumType, payload) }
    let others := s.torus.rounds.filter (fun x => !same x)
    if r.arrivals.length < (s.members team).length then s.modTorus (fun t => { t with rounds := r :: others })
    else
      let s := s.modTorus (fun t => { t with rounds := others })
      if r.arrivals.any (fun a => a.2.1 ≠ sumType) then s.rootOpen team id tag 255 []
      else if 128 ≤ sumType then s.rootOpen team id tag sumType (rootLanes (sumType % 16) (r.arrivals.map (fun a => a.2.2)))
      else s.rootOpen team id tag sumType []

/-- A member group's arrival goes to the root. -/
def State.sendArrival (s : State) (team id tag sumType : Nat) (payload : List Byte) : State :=
  let ms := s.members team
  let rank := (rankIn ms s.nodeId).getD 0
  if ms.headD s.nodeId = s.nodeId then s.rootArrive team id tag rank sumType payload
  else s.sendLfl (lflMsg (ms.headD 0) opHurdleArrive team id sumType 0 tag rank payload)

/-! ### Collectives (R146, R189, R496) -/

def collectTy (ty : Nat) : Bool := ty = tyI32 || ty = tyFP32 || ty = tyBF16 || ty = tyFP16

/-- First element of slice j of n elements among m members. -/
def sliceLo (n m j : Nat) : Nat := j * n / m
def sliceLen (n m j : Nat) : Nat := sliceLo n m (j + 1) - sliceLo n m j
/-- Bytes of the largest slice. -/
def sliceMax (n m size : Nat) : Nat := ((List.range m).map (sliceLen n m)).foldl max 0 * size

def isStaging (team id tag : Nat) (x : Staging) : Bool := x.team = team && x.id = id && x.round = tag
def Torus.part (t : Torus) (team id tag : Nat) : Staging := (t.staging.find? (isStaging team id tag)).getD ⟨team, id, tag, [], []⟩
def Torus.setPart (t : Torus) (x : Staging) : Torus :=
  { t with staging := x :: t.staging.filter (fun y => !isStaging x.team x.id x.round y) }
def Torus.dropPart (t : Torus) (team id tag : Nat) : Torus :=
  { t with staging := t.staging.filter (fun y => !isStaging team id tag y) }

/-- The COLLECT of this module's member group at an ID and tag. -/
def State.collectAt (s : State) (team id tag : Nat) : Option CollectOp :=
  ((s.teamFns team).findSome? (fun fn => (s.arrivedAt fn id tag).head?)).bind (fun gid => (s.grp gid).bind (·.collect))

/-- Every byte of the buffer has come: the members' groups have the outcome. -/
def State.collectFinish (s : State) (team id tag : Nat) : State :=
  match s.collectAt team id tag with
  | none => s
  | some c =>
    let p := s.torus.part team id tag
    if c.len ≤ p.result.length then
      (s.memberOpen team id tag ⟨id, tag, 2, c.ty, false, [], (List.range c.len).map (p.result.get 0)⟩).modTorus
        (fun t => t.dropPart team id tag)
    else s

/-- A result slice at this member. -/
def State.putResult (s : State) (team id tag off : Nat) (bs : List Byte) : State :=
  let p := s.torus.part team id tag
  s.modTorus (fun t => t.setPart { p with result := stage p.result off bs })

/-- The owner has all contributions of its slice: it sums, rounds once and sends the slice to every member. -/
def State.ownerSum (s : State) (team id tag : Nat) : State :=
  match s.collectAt team id tag, rankIn (s.members team) s.nodeId with
  | some c, some j =>
    let m := (s.members team).length
    let size := tySize c.ty
    let n := c.len / size
    let k := sliceLen n m j
    let big := sliceMax n m size
    let p := s.torus.part team id tag
    if !p.cells.isEmpty && (List.range m).all (fun r => (List.range (k * size)).all (fun i => (p.cells.find (r * big + i)).isSome)) then
      let elem := fun (r i : Nat) => BitVec.ofNat 32 (leNat ((List.range size).map (fun b => p.cells.get 0 (r * big + i * size + b))))
      let out := ((List.range k).map (fun i =>
        leBytes size (roundLane c.ty (sumFv ((List.range m).map (fun r => laneFv c.ty (elem r i))))).toNat)).flatten
      let s := s.modTorus (fun t => t.setPart { p with cells := [] })
      let base := sliceLo n m j * size
      (s.members team).foldl (fun s node =>
        if node = s.nodeId then s.putResult team id tag base out
        else (cut 0 out.length 4096).foldl (fun s q =>
          s.sendLfl (lflMsg node opCollectResult team id 0 (base + q.1) tag j ((out.drop q.1).take q.2))) s) s
    else s
  | _, _ => s

/-- A contribution to this owner's slice. -/
def State.putContribution (s : State) (team id tag off : Nat) (bs : List Byte) : State :=
  let p := s.torus.part team id tag
  s.modTorus (fun t => t.setPart { p with cells := stage p.cells off bs })

/-- The group's buffer goes out slice by slice. -/
def State.contribute (s : State) (team id tag : Nat) (c : CollectOp) (bs : List Byte) : State :=
  let ms := s.members team
  let m := ms.length
  let rank := (rankIn ms s.nodeId).getD 0
  let size := tySize c.ty
  let n := c.len / size
  let big := sliceMax n m size
  let s := ((List.range m).zip ms).foldl (fun s (x : Nat × Nat) =>
    let part := (bs.drop (sliceLo n m x.1 * size)).take (sliceLen n m x.1 * size)
    if x.2 = s.nodeId then s.putContribution team id tag (rank * big) part
    else (cut 0 part.length 4096).foldl (fun s q =>
      s.sendLfl (lflMsg x.2 opCollectData team id 0 (rank * big + q.1) tag rank ((part.drop q.1).take q.2))) s) s
  (s.ownerSum team id tag).collectFinish team id tag

/-- The engine reads the source once all of it can be read. -/
def State.collectRead (s : State) (gid : Nat) : State :=
  match s.grp gid with
  | none => s
  | some g =>
    match g.collect, g.rounds.find? (fun (r : Nat × Round) => keyScope r.1 = scTorus && r.2.form = 2 && r.2.groupArrived) with
    | some c, some r =>
      if c.sent || !c.parts.all (fun p => p.ready s g) then s
      else
        let got := c.parts.map (fun p => (p, s.readPart g p))
        if got.any (fun p => p.2.2) then s.meetPoison gid (c.parts.map (fun p => (p.tgt, p.size)))
        else
          let s := got.foldl (fun s p => s.noteRead gid g p.1.tgt p.1.size) s
          let s := (s.modGrp gid (fun g => { g with collect := some { c with sent := true } })).tallyP g.fn (some (s.streamOf g)) 0x13 c.len
          s.contribute (s.fn g.fn).team (keyId r.1) r.2.tag c ((got.map (fun p => p.2.1.take p.1.size)).flatten)
    | _, _ => s

/-! ### Arrival (R136, R137, R187 to R190) -/

/-- All threads of the group have arrived at a torus hurdle. -/
def State.torusArrive (s : State) (gid k : Nat) (g : Grp) : State :=
  let r := g.round k
  match (s.fn g.fn).memo (keyId k) r.tag with
  | some m =>
    if m.misuse || (m.form = r.form && m.ty = r.ty) then (s.fnCount g.fn DSP_MEMO_HITS 1).torusDone gid k m else s.misuse gid
  | none =>
    let s := s.modGrp gid (fun g => { g with rounds := g.rounds.set k { r with groupArrived := true } })
    match g.collect with
    | some c =>
      if c.len = 0 then s.sendArrival (s.fn g.fn).team (keyId k) r.tag 0 []
      else
        let t : Thr := ⟨gid, c.thread⟩
        (s.askParts t g c.id c.parts).collectRead gid
    | none =>
      s.sendArrival (s.fn g.fn).team (keyId k) r.tag (sumTypeOf r.form r.ty)
        (if r.form = 1 then lanePayload (sumLanes r.ty (r.contrib.map (·.2))) else [])

/-- A round whose last arrival has come opens, or goes to the team (R134, R137, R141). -/
def State.tryOpen (s : State) (gid k : Nat) : State :=
  match s.grp gid with
  | none => s
  | some g =>
    let r := g.round k
    if g.phase != .running || !g.roundFull k || r.groupArrived then s
    else if r.misuse then s.misuse gid
    else if keyScope k = scTorus then s.torusArrive gid k g
    else if keyScope k = 2 then
      let sum := if r.form = 1 then (sumLanes r.ty (r.contrib.map (·.2))).map (roundLane r.ty) else []
      ((s.closeXas gid).tallyP g.fn (some (s.streamOf g)) 0x12 1).modGrp gid (fun g => g.openRound k sum)
    else s.modGrp gid (fun g => g.openRound k [])

/-- A thread waits where nothing can open (R190): no thread that has not exited can go on. -/
def Grp.deadlocked (g : Grp) : Bool :=
  g.phase == .running && g.threads.any (fun p => p.2.st != .exited) &&
    g.threads.all (fun p => p.2.st == .exited ||
      (match p.2.waitKey with
        | some k => p.2.st == .hurdle && keyScope k < scTorus && p.2.arrivals.get 0 k = (g.round k).number
        | none => false))

def State.checkDeadlock (s : State) (gid : Nat) : State :=
  match s.grp gid with
  | none => s
  | some g => if g.deadlocked then s.misuse gid else s

/-- What arrives: form 0 HURDLE, 1 HURDLE.SUM, 2 COLLECT; `sum`: contribution and destination of a sum. -/
structure Arrival where
  form : Nat
  ty : Nat
  tag : Nat
  sum : Option (List W32 × Nat)
  collect : Option CollectOp
  deriving DecidableEq, Repr

def sameCollect (a b : CollectOp) : Bool := a.src = b.src && a.dst = b.dst && a.len = b.len && a.ty = b.ty

/-- The round with one more arrival. -/
def Round.join (r : Round) (idx : Nat) (a : Arrival) (clash : Bool) : Round :=
  let first := r.arrived.isEmpty
  { r with arrived := r.arrived ++ [idx], form := if first then a.form else r.form, ty := if first then a.ty else r.ty,
           tag := if first then a.tag else r.tag,
           misuse := r.misuse || clash || (!first && !(r.form = a.form && r.ty = a.ty && r.tag = a.tag)),
           contrib := match a.sum with
             | some v => r.contrib.set idx v.1
             | none => r.contrib }

/-- A thread arrives, and waits unless it only arrives. -/
def State.arrive (s : State) (t : Thr) (g : Grp) (th : Thread) (k : Nat) (a : Arrival) (wait : Bool) : State :=
  let r := g.round k
  if r.arrived.contains t.idx then s.raise t xHurdle 0
  else
    let clash := match a.collect, g.collect with
      | some c, some d => !sameCollect c d
      | _, _ => false
    let th := { th.advance with arrivals := th.arrivals.set k r.number,
                                st := if wait then .hurdle else .running,
                                waitKey := if wait then some k else none,
                                sumDest := a.sum.map (·.2), nextId := th.nextId + 1 }
    let s := s.modGrp t.gid (fun g => { g with rounds := g.rounds.set k (r.join t.idx a clash),
                                               collect := match g.collect with
                                                 | some c => some c
                                                 | none => a.collect })
    ((s.retire t g th).tryOpen t.gid k).checkDeadlock t.gid

/-- Checks of a hurdle's ID and scope (R190), then the wait for earlier accesses (R131, R179). -/
def State.atHurdle (s : State) (t : Thr) (g : Grp) (th : Thread) (scope id : Nat) (k : Nat → State) : State :=
  if scope = scTorus && (4 ≤ id || !g.prog.usesTeam) then s.raise t xHurdle 0
  else if !(th.loads.isEmpty && th.mcopies.isEmpty) then s
  else k (hurdleKey scope (g.unitOf scope t.idx) id)

/-- HURDLE, HARRIVE and HWAIT use SCOPE, ID and, at torus scope, S2. -/
def hurdleLegal (f : FmtS) : Bool := f.d == 0 && f.s1 == 0 && f.s3 == 0 && f.ty == 0 && f.rsv == 0 && (f.scope == 3 || f.s2 == 0)

def tagOf (f : FmtS) (th : Thread) : Nat := if f.scope == 3 then (th.xr f.s2.toNat).toNat % 2 ^ 32 else 0

def State.plainArrive (s : State) (t : Thr) (f : FmtS) (wait : Bool) : State :=
  s.insn t f.grd false (hurdleLegal f) [f.s2.toNat] []
    (fun g th => s.atHurdle t g th f.scope.toNat f.id.toNat
      (fun k => s.arrive t g th k ⟨0, 0, tagOf f th, none, none⟩ wait))

def execHurdle (t : Thr) (f : FmtS) (s : State) : Out := .next (s.plainArrive t f true)
def execHarrive (t : Thr) (f : FmtS) (s : State) : Out := .next (s.plainArrive t f false)

def execHwait (t : Thr) (f : FmtS) (s : State) : Out :=
  .next (s.insn t f.grd false (hurdleLegal f) [f.s2.toNat] []
    (fun g th => s.atHurdle t g th f.scope.toNat f.id.toNat (fun k =>
      match th.arrivals.find k with
      | none => s.raise t xHurdle 0
      | some n =>
        if n < (g.round k).number then s.retire t g th.advance
        else (s.retire t g { th.advance with st := .hurdle, waitKey := some k, sumDest := none }).checkDeadlock t.gid)))

/-- HURDLE.SUM is unguarded and exists at paddock and torus scope (R188). -/
def execHurdleSum (t : Thr) (f : FmtS) (s : State) : Out :=
  .next (s.insn t f.grd false
    (f.grd == 0 && 2 ≤ f.scope.toNat && collectTy f.ty.toNat && isV f.d && isV f.s1 && f.s3 == 0 && f.rsv == 0 &&
      (f.scope == 3 || f.s2 == 0)) [f.s2.toNat] [f.s1.toNat]
    (fun g th => s.atHurdle t g th f.scope.toNat f.id.toNat (fun k =>
      s.arrive t g th k ⟨1, f.ty.toNat, tagOf f th, some (th.vr f.s1.toNat, f.d.toNat), none⟩ true)))

/-- COLLECT: a destination that leaves the private window raises TRANSLATION (R207). -/
def execCollect (t : Thr) (f : FmtS) (s : State) : Out :=
  .next (s.insn t f.grd false (f.scope == 0 && collectTy f.ty.toNat && f.rsv == 0)
    [f.d.toNat, f.s1.toNat, f.s2.toNat, f.s3.toNat] []
    (fun g th => s.atHurdle t g th scTorus f.id.toNat (fun k =>
      let src := th.xr f.s1.toNat
      let dst := (th.xr f.d.toNat).toNat
      let n := (th.xr f.s3.toNat).toNat
      if 16 * mib < n || n % tySize f.ty.toNat ≠ 0 then s.raise t xOperand src.toNat
      else if n ≠ 0 && !(privVa ≤ dst && dst + n ≤ privVa + g.prog.priv) then s.raiseXlate t dst xcNoncanonical true
      else match s.reachRange g t.idx src .load (cut src.toNat n 4096) with
        | (ps, none) =>
          s.arrive t g th k ⟨2, f.ty.toNat, (th.xr f.s2.toNat).toNat % 2 ^ 32, none,
            some ⟨src.toNat, dst, n, f.ty.toNat, th.nextId, t.idx, ps, false⟩⟩ true
        | (_, some (a, r)) => s.unreached t a .load r)))

/-- HURDLE_TIMEOUT: the group has arrived and the torus hurdle has not opened (R139). -/
def execHurdleTimeout (gid id : Nat) (s : State) : Out :=
  .next (match s.grp gid with
    | none => s
    | some g =>
      if g.phase == .running && id < 4 && (g.round (hurdleKey scTorus 0 id)).groupArrived then s.raise ⟨gid, 0⟩ xHurdleTimeout 0 else s)

/-! ### FENCE, WAITM, EXIT and the completion of a copy -/

def execFence (t : Thr) (f : FmtS) (s : State) : Out :=
  .next (s.insn t f.grd false
    (f.d == 0 && f.s1 == 0 && f.s2 == 0 && f.s3 == 0 && f.scope == 0 && f.ty == 0 && f.rsv == 0 && f.id == 0) [] []
    (fun g th => if th.loads.isEmpty && th.mcopies.isEmpty then s.retire t g th.advance else s))

/-- Fields that an instruction of format I does not use are zero. -/
def plainI (f : FmtI) : Bool := f.d == 0 && f.s1 == 0 && f.ty == 0 && f.rsv == 0 && f.imm == 0

def execWaitm (t : Thr) (f : FmtI) (s : State) : Out :=
  .next (s.insn t f.grd false (plainI f) [] [] (fun g th => if th.mcopies.isEmpty then s.retire t g th.advance else s))

/-- Rounds that wait for a thread that has exited may open. -/
def State.tryRounds (s : State) (gid : Nat) : State :=
  match s.grp gid with
  | none => s
  | some g => (g.rounds.map (·.1)).foldl (fun s k => s.tryOpen gid k) s

def execExit (t : Thr) (f : FmtI) (s : State) : Out :=
  .next (s.insn t f.grd false (plainI f) [] []
    (fun g th =>
      (((s.retire t g { th.advance with st := .exited }).tryRounds t.gid).checkDeadlock t.gid).settleGroup t.gid))

/-- MCOPY_COMPLETE: the answers that the copy waits for have come. -/
def execMcopyComplete (t : Thr) (copy : Nat) (s : State) : Out :=
  .next (match s.grp t.gid with
    | none => s
    | some g =>
      match g.th t.idx with
      | none => s
      | some th =>
        match th.mcopies.find? (fun m => m.id = copy) with
        | none => s
        | some m =>
          if !(g.phase == .running || g.phase == .saving) || !(m.out || m.parts.all (fun p => p.ready s g)) then s
          else ((s.copyDone t g m).modGrp t.gid Grp.release).settleGroup t.gid)

/-! ### Messages of the torus engines (R486, R487, R490, R494 to R496) -/

def msgClass (op : Nat) : Nat := boolN (16 ≤ op)
def knownOp (op : Nat) : Bool := (1 ≤ op && op ≤ 3) || (0x11 ≤ op && op ≤ 0x13)

/-- What a message does at its destination (R494 to R496). -/
def State.actMsg (s : State) (m : LflMsg) : State :=
  if (s.teamFns m.team).isEmpty || !(s.members m.team).contains m.src then
    (s.hubCount LNK_DENIED 1).report (hubReport cTeamDenied .uc 0x0B m.port m.addr)
  else if m.op = opHurdleArrive then s.rootArrive m.team m.id m.round m.rank m.sumType m.payload
  else if m.op = opHurdleOpen then s.memberOpen m.team m.id m.round (memoOf m.id m.round m.sumType m.payload)
  else if m.op = opCollectData then
    ((s.putContribution m.team m.id m.round m.addr m.payload).ownerSum m.team m.id m.round).collectFinish m.team m.id m.round
  else if m.op = opCollectResult then (s.putResult m.team m.id m.round m.addr m.payload).collectFinish m.team m.id m.round
  else s

/-- Deliver what is held in order after the next expected message. -/
def State.deliverAhead (s : State) (fuel key : Nat) : State :=
  match fuel with
  | 0 => s
  | k + 1 =>
    match s.torus.ahead.find? (fun m => m.src * 2 + msgClass m.op = key && m.e2eSeq = s.torus.rxSeq.get 0 key) with
    | none => s
    | some m =>
      let s := s.modTorus (fun t => { t with ahead := t.ahead.filter (fun x => x != m), rxSeq := t.rxSeq.set key ((m.e2eSeq + 1) % 2 ^ 32) })
      (s.actMsg m).deliverAhead k key

/-- E2E_ACK to a source: E2E_SEQ is the last message delivered in order, RANK the class acknowledged. -/
def State.sendAck (s : State) (src cls : Nat) : State :=
  if s.safe then s
  else match s.egress src with
    | none => s.hubCount LNK_UNREACHABLE 1
    | some (p, hop) =>
      s.putLfl p { lflMsg src opE2eAck 0 0 0 0 0 cls [] with
        src := s.nodeId, hop := hop, e2eSeq := (s.torus.rxSeq.get 0 (src * 2 + cls) + 2 ^ 32 - 1) % 2 ^ 32, port := p }

/-- A message reaches its destination (R487, R490): in E2E_SEQ order per source and class, up to 256 held ahead of a gap. -/
def State.deliver (s : State) (m : LflMsg) : State :=
  if !knownOp m.op || !m.reservedOk || !m.crcOk || m.dst ≠ s.nodeId then s
  else
    let key := m.src * 2 + msgClass m.op
    let next := s.torus.rxSeq.get 0 key
    let s :=
      if m.e2eSeq = next then
        let s := s.modTorus (fun t => { t with rxSeq := t.rxSeq.set key ((next + 1) % 2 ^ 32) })
        (s.actMsg m).deliverAhead 256 key
      else if (m.e2eSeq + 2 ^ 32 - next) % 2 ^ 32 < 2 ^ 31 &&
          (s.torus.ahead.filter (fun x => x.src * 2 + msgClass x.op = key)).length < 256 &&
          !s.torus.ahead.any (fun x => x.src * 2 + msgClass x.op = key && x.e2eSeq = m.e2eSeq) then
        s.modTorus (fun t => { t with ahead := t.ahead ++ [m] })
      else s
    s.sendAck m.src (msgClass m.op)

end Sys2Proof.Machine
end

