-- ==== Sys2Proof/Machine/Tensor.lean ====
section
/-! DEFINITION. Tensor operations, checks and the special reads (R191 to R199, R213, R219 to R245). -/

namespace Sys2Proof.Machine
open Sys2Proof

/-! ### Tiles and operands (R191, R212, R219) -/

/-- Key of an element of a core's accumulator tile. -/
def tileKey (core tile e : Nat) : Nat := core * 65536 + tile * 1024 + e
def Grp.elem (g : Grp) (core tile e : Nat) : Xa := g.tiles.get Xa.zero (tileKey core tile e)

/-- Bytes of a row of K elements. -/
def rowBytes (f : Fmt) (k : Nat) : Nat := k * f.width / 8
/-- Bytes of the scale region of a TMMA. -/
def scaleBytes (fa fb : Fmt) (k : Nat) : Nat := (boolN fa.mx + boolN fb.mx) * k

/-- Exact value of element `i` of row `r` of an operand with its block scale. -/
def operandAt (f : Fmt) (bs : List Byte) (scales : List Byte) (k r i : Nat) : Fv :=
  let bit := i * f.width
  let base := r * rowBytes f k + bit / 8
  f.value (fieldOf (leNat ((bs.drop base).take 5)) (bit % 8) f.width) (byteAt scales (r * (k / 32) + i / 32)).toNat

/-- Add the 32 products of one slab to an element, then normalise (R219, R226). -/
def addSlab (fa fb : Fmt) (a b sa sb : List Byte) (k row col slab : Nat) (x : Xa) : Xa :=
  ((List.range 32).foldl (fun x i =>
    x.addValue (fvMul (operandAt fa a sa k row (slab * 32 + i)) (operandAt fb b sb k col (slab * 32 + i)))) x).normalise

/-- Every slab of a TMMA at one element. -/
def addAllSlabs (fa fb : Fmt) (a b sa sb : List Byte) (k row col : Nat) (x : Xa) : Xa :=
  (List.range (k / 32)).foldl (fun x slab => addSlab fa fb a b sa sb k row col slab x) x

/-- Elements whose extended entries are updated come first; those past 1,024 are spilled (R231). Answers the list and how many
entries were written to the spill area. -/
def touchExt (lru : List Nat) (used : List Nat) : List Nat × Nat :=
  let l := used ++ lru.filter (fun e => !used.contains e)
  (l.take 1024, l.length - min 1024 l.length)

/-- Extended elements of a tile. -/
def Grp.extOf (g : Grp) (core tile : Nat) : List Nat := (List.range 1024).filter (fun e => (g.elem core tile e).ext.isSome)

/-- The entries that a pass over a tile uses. -/
def State.touchTile (s : State) (gid core tile : Nat) : State :=
  match s.grp gid with
  | none => s
  | some g =>
    let used := (g.extOf core tile).map (fun e => tile * 1024 + e)
    let r := touchExt (g.extLru.get [] core) used
    (s.setGrp gid { g with extLru := g.extLru.set core r.1 }).tallyP g.fn (some (s.streamOf g)) 0x07 r.2

/-- A TMMA on its tile. -/
def Grp.tmma (g : Grp) (core tile : Nat) (fa fb : Fmt) (k : Nat) (a b sc : List Byte) : Grp :=
  let sa := if fa.mx then sc.take k else []
  let sb := if fb.mx then sc.drop (if fa.mx then k else 0) else []
  { g with tiles := (List.range 1024).foldl (fun m e =>
      m.set (tileKey core tile e) (addAllSlabs fa fb a b sa sb k (e / 32) (e % 32) (m.get Xa.zero (tileKey core tile e)))) g.tiles }

def Grp.zeroTile (g : Grp) (core tile : Nat) : Grp :=
  { g with tiles := g.tiles.filter (fun p => p.1 / 1024 != tileKey core tile 0 / 1024),
           extLru := g.extLru.set core ((g.extLru.get [] core).filter (fun e => e / 1024 != tile)) }

/-- The bytes of a TRD (R194, R240): 32 rows of 32 elements. -/
def State.trdBytes (s : State) (g : Grp) (core tile : Nat) (f : Fmt) (mode : Rnd) (idx op : Nat) : List Byte :=
  let rs := s.randoms g idx op 1024
  ((List.range 1024).map (fun e => leBytes (f.width / 8) ((g.elem core tile e).readOut f mode (rs.getD e 0)))).flatten

/-- Windows that an operation of the tensor unit opens on its thread (R243). -/
def State.openWindows (s : State) (gid idx n : Nat) : State := s.modTh ⟨gid, idx⟩ (fun th => th.window n)

/-- One operation of the queue takes place. -/
def State.tensorOp (s : State) (gid core : Nat) (g : Grp) (o : TOp) : State :=
  match o.kind with
  | .tzero => s.modGrp gid (fun g => g.zeroTile core o.tile)
  | .tmma fa fb k a b sc =>
    match Fmt.ofNibble fa, Fmt.ofNibble fb with
    | some x, some y =>
      let g2 := g.tmma core o.tile x y k a b sc
      let grown := (g2.extOf core o.tile).length - (g.extOf core o.tile).length
      let st := some (s.streamOf g)
      let s := s.modGrp gid (fun g => g.tmma core o.tile x y k a b sc)
      (((s.tallyP g.fn st 0x05 (k / 32)).tallyP g.fn st 0x06 grown).touchTile gid core o.tile).openWindows gid o.thread (k / 32)
    | _, _ => s
  | .trd fa rnd sa clr op =>
    match Fmt.ofNibble fa, Rnd.ofBits rnd with
    | some f, some mode =>
      let s := s.store (coreAddr (g.globalCore core) sa) (s.trdBytes g core o.tile f mode o.thread op)
      let s := s.touchTile gid core o.tile
      let s := if clr then s.modGrp gid (fun g => g.zeroTile core o.tile) else s
      s.openWindows gid o.thread 1
    | _, _ => s

/-- TENSOR_OP_COMPLETE: the oldest operation of a core's queue is complete (R193). -/
def execTensorOpComplete (gid core : Nat) (s : State) : Out :=
  .next (match s.grp gid with
    | none => s
    | some g =>
      if !(g.phase == .running || g.phase == .saving) then s
      else match g.tq.get [] core with
        | [] => s
        | o :: rest =>
          let s1 := s.modGrp gid (fun g => { g with tq := g.tq.set core rest })
          (s1.tensorOp gid core g o).settleGroup gid)

/-! ### Issue (R191 to R195, R207) -/

def State.enqueue (s : State) (t : Thr) (g : Grp) (th : Thread) (o : TOp) : State :=
  let core := g.coreOf t.idx
  if 8 ≤ (g.tq.get [] core).length then s
  else (s.modGrp t.gid (fun g => { g with tq := g.tq.set core (g.tq.get [] core ++ [o]) })).retire t g th.advance

/-- A tile number of an instruction (R207). -/
def State.withTile (s : State) (t : Thr) (g : Grp) (tile : Nat) (k : State) : State :=
  if g.prog.accTiles ≤ tile then s.raise t xTile 0 else k

/-- Every field but TILE is zero. -/
def tileOnly (f : FmtT) : Bool :=
  f.sa == 0 && f.sb == 0 && f.sk == 0 && f.ss == 0 && f.fmtA == 0 && f.fmtB == 0 && f.rnd == 0 && f.clr == 0 && f.rsv == 0

def execTzero (t : Thr) (f : FmtT) (s : State) : Out :=
  .next (s.insn t f.grd false (tileOnly f) [] []
    (fun g th => s.withTile t g f.tile.toNat (s.enqueue t g th ⟨f.tile.toNat, t.idx, .tzero⟩)))

def execTwait (t : Thr) (f : FmtT) (s : State) : Out :=
  .next (s.insn t f.grd false (tileOnly f) [] []
    (fun g th => s.withTile t g f.tile.toNat
      (if (g.tq.get [] (g.coreOf t.idx)).any (fun o => o.tile = f.tile.toNat) then s else s.retire t g th.advance)))

/-- Ranges of core store that an instruction reads or writes: the first exception, or whether something outstanding covers one. -/
def State.coreRanges (s : State) (t : Thr) (g : Grp) (th : Thread) (k : AccKind) (rs : List (W64 × Nat)) : Option Nat × Bool :=
  match rs with
  | [] => (none, false)
  | r :: rest =>
    match s.reach g t.idx 1 r.1 r.2 k with
    | .ok tgt =>
      let q := s.coreRanges t g th k rest
      (q.1, q.2 || g.blocks t.idx th tgt r.2 k.writes)
    | .exc c => (some c, false)
    | _ => (some xCoreRange, false)

/-- A TMMA with its formats (R213). -/
def State.tmmaAt (s : State) (t : Thr) (f : FmtT) (fa fb : Fmt) (g : Grp) (th : Thread) : State :=
  let a := th.xr f.sa.toNat
  let b := th.xr f.sb.toNat
  let sc := if fa.mx || fb.mx then th.xr f.ss.toNat else 0
  let k := (th.xr f.sk.toNat).toNat
  if a.toNat % 64 ≠ 0 || b.toNat % 64 ≠ 0 || sc.toNat % 64 ≠ 0 then s.raise t xMisaligned 0
  else if 65536 < k || k % 32 ≠ 0 then s.raise t xOperand 0
  else s.withTile t g f.tile.toNat
    (if k = 0 then s.retire t g th.advance
    else
      let ns := scaleBytes fa fb k
      match s.coreRanges t g th .load ([(a, 32 * rowBytes fa k), (b, 32 * rowBytes fb k)] ++ (if ns = 0 then [] else [(sc, ns)])) with
      | (some c, _) => s.raise t c 0
      | (none, true) => s
      | (none, false) =>
        let base := coreAddr (g.globalCore (g.coreOf t.idx))
        s.enqueue t g th ⟨f.tile.toNat, t.idx, .tmma f.fmtA.toNat f.fmtB.toNat k (s.readBytes (base a.toNat) (32 * rowBytes fa k))
          (s.readBytes (base b.toNat) (32 * rowBytes fb k)) (if ns = 0 then [] else s.readBytes (base sc.toNat) ns)⟩)

def execTmma (t : Thr) (f : FmtT) (s : State) : Out :=
  .next (
    let xs := [f.sa.toNat, f.sb.toNat, f.sk.toNat, f.ss.toNat]
    match Fmt.ofNibble f.fmtA.toNat, Fmt.ofNibble f.fmtB.toNat with
    | some fa, some fb =>
      s.insn t f.grd false (fa.cls ≤ 16 && fb.cls ≤ 16 && f.rnd == 0 && f.clr == 0 && f.rsv == 0 && (fa.mx || fb.mx || f.ss == 0)) xs []
        (s.tmmaAt t f fa fb)
    | _, _ => s.insn t f.grd false false xs [] (fun _ _ => s))

/-- The formats that TRD writes. -/
def trdFmt (n : Nat) : Bool := n = 12 || n = 13 || n = 10 || n = 11 || n = 4 || n = 5

def execTrd (t : Thr) (f : FmtT) (s : State) : Out :=
  .next (s.insn t f.grd false
    (trdFmt f.fmtA.toNat && (Rnd.ofBits f.rnd.toNat).isSome && f.sb == 0 && f.sk == 0 && f.ss == 0 && f.fmtB == 0 && f.rsv == 0)
    [f.sa.toNat] []
    (fun g th =>
      let sa := th.xr f.sa.toNat
      let n := 128 * (match Fmt.ofNibble f.fmtA.toNat with
        | some x => x.width
        | none => 0)
      if sa.toNat % 64 ≠ 0 then s.raise t xMisaligned sa.toNat
      else match s.coreRanges t g th .store [(sa, n)] with
        | (some c, _) => s.raise t c sa.toNat
        | (none, true) => s
        | (none, false) =>
          let sr := Rnd.ofBits f.rnd.toNat == some .sr
          s.withTile t g f.tile.toNat
            (s.enqueue t g { th with op := th.op + boolN sr }
              ⟨f.tile.toNat, t.idx, .trd f.fmtA.toNat f.rnd.toNat sa.toNat (f.clr == 1) th.op⟩)))

/-! ### Checks (R196 to R198, R243 to R245) -/

/-- CHK.SYNC: no window is open and no operation of the thread that will open one is under way. -/
def execChkSync (t : Thr) (f : FmtI) (s : State) : Out :=
  .next (s.insn t f.grd false (plainI f) [] []
    (fun g th =>
      if th.windows = 0 && g.windows = 0 && th.fevals.isEmpty && !(g.tq.get [] (g.coreOf t.idx)).any (fun o => o.thread = t.idx) then
        s.retire t g th.advance
      else s))

/-- A CHK.CMP mismatch (R197). -/
def State.checkMismatch (s : State) (gid : Nat) : State :=
  match s.grp gid with
  | none => s
  | some g =>
    let s := s.modEntry g.fn g.entry (fun j => { j with mismatches := j.mismatches + 1 })
    match s.entry g.fn g.entry with
    | some j => if 4 ≤ j.mismatches then (s.endRecord gid g.fn g.entry stFaulted xCheck).progress g.fn else s.datapathError gid true
    | none => s

def execChkCmp (t : Thr) (f : FmtR) (s : State) : Out :=
  .next (
    let rest := f.d == 0 && f.s3 == 0 && f.cond == 0 && f.rsv == 0
    if f.ty == 4 then
      s.insn t f.grd true (rest && isV f.s1 && isV f.s2) [] [f.s1.toNat, f.s2.toNat]
        (fun g th =>
          if (th.lanes f.grd).all (fun i => laneAt (th.vr f.s1.toNat) i == laneAt (th.vr f.s2.toNat) i) then s.retire t g th.advance
          else s.checkMismatch t.gid)
    else
      s.insn t f.grd false (rest && f.ty == 0) [f.s1.toNat, f.s2.toNat] []
        (fun g th =>
          if th.xr f.s1.toNat == th.xr f.s2.toNat then s.retire t g th.advance
          else s.checkMismatch t.gid))

def execChkAssert (t : Thr) (f : FmtR) (s : State) : Out :=
  .next (s.insn t f.grd false
    (f.d == 0 && isP f.s1 && f.s2 == 0 && f.s3 == 0 && f.ty == 0 && f.cond == 0 && f.rsv == 0) [] []
    (fun g th => if (th.pr f.s1.toNat).getLsbD 0 then s.retire t g th.advance else s.raise t xAssert 0))

/-- CHECK_WINDOW_CLOSE: one window of a thread, or of the group's Fold elements, closes; an error is a datapath error (R245). -/
def execCheckWindowClose (gid : Nat) (thread : Option Nat) (error : Bool) (s : State) : Out :=
  .next (match s.grp gid with
    | none => s
    | some g =>
      match thread with
      | some i =>
        match g.th i with
        | none => s
        | some th =>
          if th.windows = 0 then s
          else
            let s := s.setTh ⟨gid, i⟩ { th with windows := th.windows - 1 }
            if error then s.datapathError gid true else s
      | none =>
        if g.windows = 0 then s
        else
          let s := s.setGrp gid { g with windows := g.windows - 1 }
          if error then s.datapathError gid true else s)

/-! ### Time, counters and random numbers (R199) -/

def specialLegal (f : FmtI) (imm : Bool) : Bool := f.s1 == 0 && f.ty == 0 && f.rsv == 0 && (imm || f.imm == 0)

/-- Values of one thread do not decrease. -/
def execRdtime (t : Thr) (f : FmtI) (s : State) : Out :=
  .next (s.insn t f.grd false (specialLegal f false) [] []
    (fun g th =>
      let v := max s.time th.lastTime
      s.doneX t g { th with lastTime := v } f.d (BitVec.ofNat 64 v)))

/-- Tile beats are a free value (assumption 2); the instructions issued are those before this one. -/
def execRdcnt (t : Thr) (f : FmtI) (s : State) : Out :=
  .next (s.insn t f.grd false (specialLegal f true && (f.imm == 0 || f.imm == 1)) [] []
    (fun g th =>
      if s.confidential g.fn then s.doneX t g th f.d 0
      else if f.imm == 1 then s.doneX t g th f.d (BitVec.ofNat 64 th.issued)
      else s.drawn.doneX t g th f.d (BitVec.ofNat 64 s.free)))

def execRand (t : Thr) (f : FmtI) (s : State) : Out :=
  .next (s.insn t f.grd false (specialLegal f false) [] [] (fun g th => s.drawn.doneX t g th f.d (BitVec.ofNat 64 s.free)))

end Sys2Proof.Machine
end

