-- ==== Sys2Proof/Machine/Directory.lean ====
section
/-! DEFINITION. The entity directory: placement, lookups, updates, damage and rebuild (R117, R262 to R277). -/

namespace Sys2Proof.Machine
open Sys2Proof

/-! ### Reading and writing in pieces that one stack holds (R289, R297) -/

/-- Whether any line of a range is poisoned or lies in a fenced stack. -/
def State.badRange (s : State) (a n : Nat) : Bool :=
  s.anyPoison a n || (cut a n 256).any (fun p => s.stackFenced (a + p.1))
/-- Write a range; a fenced stack discards its part. -/
def State.commitAll (s : State) (a : Nat) (bs : List Byte) : State :=
  (cut a bs.length 256).foldl (fun s p => s.commitStore (a + p.1) ((bs.drop p.1).take p.2)) s

/-! ### Entries and pages (R262 to R265) -/

/-- The page pair of a bucket: pairs follow the 64 KiB header of the directory area in bucket order (assumption 19). -/
def State.bucketPair (s : State) (fn b : Nat) : Nat := s.dirArea fn + 65536 + (b - s.fnNat fn DIR_BASE) * 16384

def State.dirEntry (s : State) (fn b : Nat) : DirEntry :=
  match s.ms.dir.find b with
  | some e => e
  | none => ⟨0, 0, .empty, false, s.bucketPair fn b / 16384⟩
def State.setDir (s : State) (b : Nat) (e : DirEntry) : State := { s with ms := { s.ms with dir := s.ms.dir.set b e } }

/-- The paddock whose region holds a bucket. -/
def State.bucketOwner (s : State) (b : Nat) : Option Nat :=
  (List.range 32).find? (fun fn =>
    s.fnNat fn DIR_ENTRIES ≠ 0 && s.fnNat fn DIR_BASE ≤ b && b < s.fnNat fn DIR_BASE + s.fnNat fn DIR_ENTRIES)

/-- R263: bucket and fingerprint of a key. -/
def State.dirPlace (s : State) (fn : Nat) (key : W64) : Nat × Nat :=
  let h := (mix64 (key ^^^ BitVec.ofNat 64 (s.fn fn).dirSalt)).toNat
  (s.fnNat fn DIR_BASE + h % s.fnNat fn DIR_ENTRIES, h / 2 ^ 56)

def dirPage (e : DirEntry) (sel : Bool) : Nat := e.pair * 16384 + (if sel then 8192 else 0)

/-- A slot in use. -/
structure DirSlot where
  finger : Nat
  key : W64
  addr : Nat
  len : Nat
  tag : Nat
  deriving DecidableEq, Repr

def dirHeader (gen bucket count tag self flags : Nat) : List Byte :=
  let h := leBytes 8 gen ++ leBytes 4 bucket ++ leBytes 2 count ++ leBytes 1 tag ++ leBytes 1 self ++ leBytes 1 flags ++ zeros 43
  h ++ leBytes 4 (crc32c h).toNat

def DirSlot.bytes (x : DirSlot) : List Byte := leBytes 8 x.key.toNat ++ leBytes 8 x.addr ++ leBytes 4 x.len ++ leBytes 1 x.tag ++ zeros 3

/-- A page image (R265). -/
def pageImage (gen bucket tag self : Nat) (slots : List DirSlot) : List Byte :=
  dirHeader gen bucket slots.length tag self 0 ++ ((slots.map (fun x => BitVec.ofNat 8 x.finger)) ++ zeros 256).take 256 ++ zeros 64 ++
    ((slots.map DirSlot.bytes).flatten ++ zeros 6144).take 6144 ++ zeros 1664

def slotOf (bs : List Byte) (finger : Nat) : DirSlot :=
  ⟨finger, BitVec.ofNat 64 (fieldAt bs 0 8), fieldAt bs 8 8 % 2 ^ 48, fieldAt bs 16 4, fieldAt bs 20 1 % 32⟩

/-- The slots of a page. -/
def State.pageSlots (s : State) (page count : Nat) : List DirSlot :=
  (List.range count).map (fun i => slotOf (s.readBytes (page + 384 + 24 * i) 24) (s.readNat (page + 64 + i) 1))

/-! ### Damage (R276) -/

def State.makeDamaged (s : State) (fn b : Nat) : State :=
  let e := s.dirEntry fn b
  let e := { e with gen := e.gen + 2, st := .damaged }
  let s := (s.setDir b e).commitAll (dirPage e false) (dirHeader e.gen b e.count fn 0 1)
  let s := s.commitAll (dirPage e true) (dirHeader e.gen b e.count fn 1 1)
  ((s.fnCount fn DIR_DAMAGED 1).fnSetN fn DIR_LAST_DAMAGED b).report (padReport cDirDamaged .uc 0x09 b b fn 1)

/-! ### Lookups (R266, R267) -/

inductive DirFound where
  | found (addr len : Nat)
  | notFound
  | damaged
  deriving DecidableEq, Repr

/-- The first slot in use of a page that holds a key, as a lookup reads it: the fingerprint lines, then the lines of the slots whose
fingerprint matches. -/
def State.searchSlots (s : State) (page : Nat) (key : W64) (finger : Nat) (is : List Nat) : Option (Option DirSlot) :=
  match is with
  | [] => some none
  | i :: rest =>
    if s.readNat (page + 64 + i) 1 ≠ finger then s.searchSlots page key finger rest
    else if s.badRange (page + 384 + 24 * i) 24 then none
    else
      let x := slotOf (s.readBytes (page + 384 + 24 * i) 24) finger
      if x.key = key then some (some x) else s.searchSlots page key finger rest

/-- What step 4 of a lookup finds; none where a line it reads cannot be read. -/
def State.searchPage (s : State) (page count : Nat) (key : W64) (finger : Nat) : Option (Option DirSlot) :=
  if s.badRange (page + 64) ((count + 63) / 64 * 64) then none
  else s.searchSlots page key finger (List.range count)

/-- A lookup as it starts: the entry that step 1 reads. -/
def State.startLookup (s : State) (fn id : Nat) (thread : Option Nat) (keyIx : Nat) (key : W64) : Lookup :=
  if s.fnNat fn DIR_ENTRIES = 0 then ⟨id, thread, keyIx, key, 0, 0, 0, 0, 0, false, false⟩
  else
    let p := s.dirPlace fn key
    let e := s.dirEntry fn p.1
    let st := match e.st with
      | .empty => 0
      | .active => 1
      | .damaged => 2
    ⟨id, thread, keyIx, key, p.1, p.2, e.gen, st, e.count, e.sel, false⟩

/-- What a lookup that has read its page returns; a slot with another paddock's tag is logged and reported as not found. -/
def State.lookupResult (s : State) (fn : Nat) (l : Lookup) : DirFound × State :=
  if l.state = 0 then (.notFound, s)
  else if l.state = 2 then (.damaged, s)
  else
    let e := s.dirEntry fn l.bucket
    match s.searchPage (dirPage e l.sel) l.count l.key l.finger with
    | none => (.damaged, if e.st == .damaged then s else s.makeDamaged fn l.bucket)
    | some none => (.notFound, s)
    | some (some x) =>
      if x.tag = fn then (.found x.addr x.len, s.fnCount fn DIR_HITS 1)
      else (.notFound, s.report (padReport cDirTag .uc 0x09 l.bucket l.bucket fn 1))

/-- Step 5: whether the page may have been rewritten. -/
def mustRestart (l : Lookup) (gen : Nat) : Bool := l.state = 1 && !l.restarted && 2 * (l.gen / 2) + 3 ≤ gen

/-! ### DFIND (R269) -/

def execDfind (t : Thr) (f : FmtR) (s : State) : Out :=
  .next (s.insn t f.grd false
    (f.d.toNat % 2 = 0 && f.d != 0 && f.s2 == 0 && f.s3 == 0 && f.ty == 0 && f.cond == 0 && f.rsv == 0) [f.s1.toNat] []
    (fun g th =>
      if 8 ≤ th.finds.length then s
      else
        let n := g.nextLookup
        let l := s.startLookup g.fn n (some t.idx) 0 (th.xr f.s1.toNat)
        let th1 := (th.forget false f.d.toNat).forget false (f.d.toNat + 1)
        let th2 := { th1 with finds := (th1.finds.set (2 * n) f.d.toNat).set (2 * n + 1) (f.d.toNat + 1) }
        (((s.modGrp t.gid (fun g => { g with lookups := g.lookups ++ [l], nextLookup := n + 1 })).fnCount g.fn DIR_LOOKUPS 1).tallyP
          g.fn (some (s.streamOf g)) 0x09 1).retire t g th2.advance))

/-- The registers of a find that is complete. -/
def Thread.found (th : Thread) (id : Nat) (a len : W64) : Thread :=
  let d := th.finds.get 0 (2 * id)
  let d1 := th.finds.get 0 (2 * id + 1)
  let th := { th with finds := (th.finds.del (2 * id)).del (2 * id + 1) }
  let th := if d = 0 then th else { th with x := th.x.set d a }
  if d1 = 0 then th else { th with x := th.x.set d1 len }

/-! ### Updates (R273, R274) -/

/-- The new slots of an update, and whether it is a deletion of the whole bucket. -/
def updatedSlots (old : List DirSlot) (ins whole : Bool) (new : DirSlot) : List DirSlot :=
  if whole then []
  else if ins then
    if old.any (fun x => x.key = new.key) then old.map (fun x => if x.key = new.key then new else x) else old ++ [new]
  else
    match old.getLast? with
    | none => []
    | some last => if old.any (fun x => x.key = new.key) then (old.map (fun x => if x.key = new.key then last else x)).dropLast else old

/-- Table and invalidate records that hold others back (R398). -/
def isTable (r : List Byte) : Bool := recType r = tTableUpdate || recType r = tInvalidate
def isDirRec (r : List Byte) : Bool := recType r = tDirInsert || recType r = tDirDelete
def isLoadRec (r : List Byte) : Bool := recType r = tLoadProgram || recType r = tLoadWeights || recType r = tUnload

/-- An accepted record of a type whose outcome is not decided, with the module able to execute it. -/
def State.open (s : State) (fn e type : Nat) : Option JEntry :=
  match s.entry fn e with
  | some j => if s.running && j.st == .accepted && j.outcome.isNone && recType j.record = type then some j else none
  | none => none

/-- Every earlier record of its stream is COMMITTED. -/
def Fn.streamClear (f : Fn) (j : JEntry) : Bool :=
  f.entries.all (fun p => p.2.st == .committed || j.order ≤ p.2.order || recStream p.2.record ≠ recStream j.record)
/-- No earlier uncommitted INVALIDATE of the paddock (R398). -/
def Fn.noInvalidate (f : Fn) (j : JEntry) : Bool :=
  f.entries.all (fun p => p.2.st == .committed || j.order ≤ p.2.order || recType p.2.record ≠ tInvalidate)

def dirKey (r : List Byte) : W64 := BitVec.ofNat 64 (fieldAt r 32 8)
def dirWhole (r : List Byte) : Bool := recType r = tDirDelete && bitOf (fieldAt r 40 8) 0

/-- An earlier directory record of the paddock in the same bucket is not COMMITTED. -/
def State.bucketBusy (s : State) (fn b : Nat) (j : JEntry) : Bool :=
  (s.fn fn).entries.any (fun p => p.2.st != .committed && p.2.order < j.order && isDirRec p.2.record &&
    (s.dirPlace fn (dirKey p.2.record)).1 = b) ||
  s.groups.any (fun g => g.2.fn = fn && g.2.lookups.any (fun l => l.restarted && l.bucket = b))

/-- The update of a bucket. -/
def State.dirUpdate (s : State) (fn b : Nat) (e : DirEntry) (slots : List DirSlot) : State :=
  let gen := e.gen + 2
  let sel := !e.sel
  let s := s.commitAll (dirPage e sel) (pageImage gen b fn (boolN sel) slots)
  let n := slots.length
  let s := s.setDir b { e with gen := gen, count := n, sel := sel, st := if n = 0 then .empty else .active }
  let s := s.fnSetN fn DIR_KEYS (s.fnNat fn DIR_KEYS + n - e.count)
  let s := if e.st == .damaged then s.fnSetN fn DIR_DAMAGED (s.fnNat fn DIR_DAMAGED - 1) else s
  s.fnSetN fn DIR_FULLEST (max (s.fnNat fn DIR_FULLEST) n)

/-- A directory record executes. -/
def State.dirRecord (s : State) (fn e type : Nat) : State :=
  match s.open fn e type with
  | none => s
  | some j =>
    let r := j.record
    let p := s.dirPlace fn (dirKey r)
    if !(s.fn fn).streamClear j || !(s.fn fn).noInvalidate j || s.bucketBusy fn p.1 j then s
    else
      let en := s.dirEntry fn p.1
      let page := dirPage en en.sel
      let whole := dirWhole r
      if !whole && en.st == .damaged then ((s.fnCount fn MCT_POISON_COMPLETIONS 1).decide fn e stPoisoned 0).progress fn
      else if !whole && en.st == .active && s.badRange page 8192 then
        (((s.makeDamaged fn p.1).fnCount fn MCT_POISON_COMPLETIONS 1).decide fn e stPoisoned 0).progress fn
      else
        let old := if whole || en.st == .empty then [] else s.pageSlots page en.count
        let new : DirSlot := ⟨p.2, dirKey r, fieldAt r 40 8 % 2 ^ 48, fieldAt r 48 4, fn⟩
        ((s.dirUpdate fn p.1 en (updatedSlots old (type = tDirInsert) whole new)).decide fn e stOk 0).progress fn

def execDirInsert (fn entry : Nat) (s : State) : Out := .next (s.dirRecord fn entry tDirInsert)
def execDirDelete (fn entry : Nat) (s : State) : Out := .next (s.dirRecord fn entry tDirDelete)

/-! ### Rebuild (R275, R277) -/

/-- GEN, COUNT and FLAGS of a page that qualifies. -/
def State.pageHeader (s : State) (fn b page : Nat) : Option (Nat × Nat × Nat) :=
  if s.badRange page 64 then none
  else
    let h := s.readBytes page 64
    if h.all (· == 0#8) then some (0, 0, 0)
    else if (crc32c (h.take 60)).toNat = fieldAt h 60 4 && fieldAt h 8 4 = b && fieldAt h 14 1 = fn then
      some (fieldAt h 0 8, fieldAt h 12 2, fieldAt h 16 1)
    else none

def State.rebuildEntry (s : State) (fn b : Nat) : State :=
  let e := s.dirEntry fn b
  let take := fun (h : Nat × Nat × Nat) (sel : Bool) =>
    s.setDir b { e with gen := h.1, count := h.2.1, sel := sel,
                        st := if bitOf h.2.2 0 then .damaged else if h.2.1 = 0 then .empty else .active }
  match s.pageHeader fn b (dirPage e false), s.pageHeader fn b (dirPage e true) with
  | some a, some c => if a.1 < c.1 then take c true else take a false
  | some a, none => take a false
  | none, some c => take c true
  | none, none => s.makeDamaged fn b

/-- Every entry of a paddock, after a warm start. -/
def State.rebuildDir (s : State) (fn : Nat) : State :=
  (List.range (s.fnNat fn DIR_ENTRIES)).foldl (fun s i => s.rebuildEntry fn (s.fnNat fn DIR_BASE + i)) s

/-- DIR_ENTRY_REBUILD: an uncorrectable error in an on-chip entry. -/
def execDirEntryRebuild (bucket : Nat) (s : State) : Out :=
  .next (match s.bucketOwner bucket with
    | none => s
    | some fn =>
      if s.up then
        ((s.rebuildEntry fn bucket).fnCount fn DIR_REBUILDS 1).report (padReport cDirRebuild .ce 0x09 bucket bucket fn 0)
      else s)

end Sys2Proof.Machine
end

