-- ==== Sys2Proof/Machine/Launch.lean ====
section
/-! DEFINITION. Dispatch of WORK records: eligibility, launch, lookups, gather, input digest, abort, switch-out and restore
(R55, R76, R115 to R121, R201, R203 to R206, R266, R278 to R281, R671). -/

namespace Sys2Proof.Machine
open Sys2Proof

/-! ### Eligibility (R115, R273, R398) -/

/-- The previous record of its stream is COMMITTED; one no longer in the journal is. -/
def Fn.prevCommitted (f : Fn) (j : JEntry) : Bool :=
  f.entries.all (fun p => !(recStream p.2.record = recStream j.record && recSeq p.2.record + 1 = recSeq j.record) || p.2.st == .committed)

/-- Earlier records of the stream that are RUNNING, HELD or RELEASING. -/
def State.streamActive (s : State) (fn : Nat) (j : JEntry) : Nat :=
  ((s.fn fn).entries.filter (fun p => p.2.order < j.order && recStream p.2.record = recStream j.record &&
    (p.2.st == .releasing || (p.2.st == .accepted && (s.grp (gidOf fn p.1)).isSome)))).length

/-- No earlier table or directory record of its stream is uncommitted. -/
def Fn.noStreamTable (f : Fn) (j : JEntry) : Bool :=
  f.entries.all (fun p => p.2.st == .committed || j.order ≤ p.2.order || recStream p.2.record ≠ recStream j.record ||
    !(isTable p.2.record || isDirRec p.2.record))

def State.eligible (s : State) (fn e : Nat) : Bool :=
  match s.open fn e tWork with
  | none => false
  | some j => (s.grp (gidOf fn e)).isNone && (!recAfter j.record || (s.fn fn).prevCommitted j) && s.streamActive fn j < 64 &&
      (s.fn fn).noStreamTable j && (s.fn fn).noInvalidate j

/-- The program and weight handles that a WORK record names. -/
def Fn.program (f : Fn) (r : List Byte) : Option Handle := f.handles.find (fieldAt r 32 4)
def Fn.weightSet (f : Fn) (r : List Byte) : Option Handle := if fieldAt r 36 4 = 0 then none else f.handles.find (fieldAt r 36 4)

/-! ### The private region (R121) -/

/-- Parts of the private region that groups hold: base and end. -/
def State.privUsed (s : State) (fn : Nat) : List (Nat × Nat) :=
  ((s.groups.filter (fun g => g.2.fn = fn && g.2.prog.priv ≠ 0)).map (fun g => (g.2.privBase, g.2.privBase + g.2.prog.priv)))

/-- The lowest free part of `n` bytes. -/
def State.privFree (s : State) (fn n : Nat) : Option Nat :=
  if n = 0 then some 0
  else
    let used := s.privUsed fn
    let size := s.fnNat fn PDK_PRIVATE_SIZE * 1024
    let ok := fun b => b + n ≤ size && used.all (fun u => u.2 ≤ b || b + n ≤ u.1)
    (0 :: used.map (·.2)).foldl (fun best b => if ok b then (match best with
      | some x => some (min x b)
      | none => some b) else best) none

/-- Resources for a program: its hirsels and private part; without a cache slice none (R310). -/
def State.resources (s : State) (fn : Nat) (p : Handle) : Option (List Nat × Nat) :=
  let hs := s.freeHirsels fn
  match s.privFree fn p.priv with
  | some b => if p.hirsels ≤ hs.length && !(s.slices fn 1).isEmpty then some (hs.take p.hirsels, b) else none
  | none => none

/-- Whether a switched-out group can be restored as far as its page goes (R205, R206): it was restarted, has failed, or its response
has come. -/
def State.pageCame (s : State) (gid : Nat) (g : Grp) : Bool :=
  g.threads.isEmpty || g.code.isSome || g.poison ||
    match g.faulter with
    | some i => !(s.fn g.fn).xlt.waits.any (fun w => w.who == .thread gid i && (match w.stage with
      | .fault _ _ => true
      | _ => false))
    | none => true
def State.restorable (s : State) (gid : Nat) : Bool :=
  match s.grp gid with
  | some g => g.phase == .switchedOut && s.pageCame gid g
  | none => false

/-- An older eligible record waits, or a group waits to be restored: a record does not launch ahead of it. -/
def State.mustWait (s : State) (fn e : Nat) (j : JEntry) : Bool :=
  (s.fn fn).entries.any (fun p => p.2.order < j.order && p.1 != e && s.eligible fn p.1) ||
    s.groups.any (fun g => g.2.fn = fn && s.restorable g.1)

/-- WORK: an accepted record becomes eligible; one that has to wait for resources counts (R150). -/
def execWork (fn entry : Nat) (s : State) : Out :=
  .next (match s.entry fn entry with
    | none => s
    | some j =>
      if j.eligibleSeen || !s.eligible fn entry then s
      else
        let s1 := s.modEntry fn entry (fun j => { j with eligibleSeen := true })
        match (s.fn fn).program j.record with
        | some p => if (s.resources fn p).isSome && !s.mustWait fn entry j then s1 else s1.fnCount fn DSP_HIRSEL_WAITS 1
        | none => s1)

/-! ### The input buffer (R118) -/

def inAddr (r : List Byte) : Nat := fieldAt r 40 8
def inLen (r : List Byte) : Nat := fieldAt r 48 4

/-- A part of the input buffer that cannot be read. -/
def State.inputFails (s : State) (gid va cause : Nat) : State :=
  (s.noteFault (gid / 65536) va cause 1 false).failGroup gid xTranslation

/-- One piece of the input buffer, not crossing a page: its target, a wait, or a failure. -/
def State.inputPiece (s : State) (gid va off n : Nat) : State :=
  match s.grp gid with
  | none => s
  | some g =>
    if !g.inputPending || g.phase == .stopping || g.input.any (fun p => p.lane = off) then s
    else if 2 ^ 48 ≤ va then s.inputFails gid va xcNoncanonical
    else if privVa ≤ va && va < imageVa then s.inputFails gid va xcDenied
    else
      let add := fun (t : Tgt) => s.setGrp gid { g with input := g.input ++ [⟨off, t, n, none⟩] }
      if imageVa ≤ va then
        if va - imageVa + n ≤ s.fnNat g.fn PDK_IMAGE_SIZE * mib then add (.image va (s.imageAddr g.fn (va - imageVa)))
        else s.inputFails gid va xcUnmapped
      else match s.reachTable g.fn va .load with
        | .ok (.commons _) => s.inputFails gid va xcDenied
        | .ok (.host v ha) =>
          let s1 := add (.host v ha)
          if s.allStaged g va n then s1 else s1.hostAsk ⟨g.fn, .input gid g.input.length, ha, n⟩
        | .ok t => add t
        | .need => s.needPage g.fn va false false false (.input gid)
        | .xlate c => s.inputFails gid va c
        | .mismatch lpa => (s.logDenied g.fn lpa 1).inputFails gid va xcDenied
        | _ => s.inputFails gid va xcDenied

/-- Read on in the input buffer as far as translations allow. -/
def State.pumpInput (s : State) (gid : Nat) : State :=
  match s.grp gid with
  | none => s
  | some g =>
    let r := s.recOf g
    (cut (inAddr r) (inLen r) 4096).foldl (fun s p => s.inputPiece gid (inAddr r + p.1) p.1 p.2) s

/-! ### LAUNCH (R116 steps 1 to 3) -/

def keyCount (r : List Byte) : Nat := fieldAt r 68 1
def recKey (r : List Byte) (k : Nat) : W64 := BitVec.ofNat 64 (fieldAt r (72 + 8 * k) 8)

/-- A group as its launch begins. -/
def newGroup (fn e : Nat) (hs : List Nat) (p : Handle) (w : Option Handle) (priv : Nat) (held : List Nat) (now : Nat) : Grp :=
  { fn := fn, entry := e, phase := .launching, hirsels := hs, home := hs, prog := p, weights := w, privBase := priv, threads := [],
    tiles := [], tq := [], extLru := [], staged := [], filter := [], forwarded := [], heldAtStart := held, xas := [], rounds := [],
    collect := none, lookups := [], keyResults := [], gathered := [], nextLookup := 0, inputDigest := none, inputPending := true,
    input := [], windows := 0, code := none, poison := false, memPoison := false, unchecked := false, wasHeld := false, launchAt := now, saved := [],
    faulter := none }

/-- Lookups of a launch, one per key. -/
def State.issueLookups (s : State) (gid : Nat) (r : List Byte) : State :=
  let fn := gid / 65536
  (List.range (keyCount r)).foldl (fun s k =>
    ((s.modGrp gid (fun g => { g with lookups := g.lookups ++ [s.startLookup fn g.nextLookup none k (recKey r k)],
                                      nextLookup := g.nextLookup + 1 })).fnCount fn DIR_LOOKUPS 1).tallyP fn (some (recStream r)) 0x09 1) s

def execLaunch (fn entry : Nat) (s : State) : Out :=
  .next (match s.entry fn entry with
    | none => s
    | some j =>
      if !(j.eligibleSeen && s.eligible fn entry) || s.mustWait fn entry j then s
      else match (s.fn fn).program j.record with
        | none => s
        | some p =>
          match s.resources fn p with
          | none => s
          | some q =>
            let gid := gidOf fn entry
            let g := newGroup fn entry q.1 p ((s.fn fn).weightSet j.record) q.2 (s.heldBefore fn entry) s.time
            let s1 := (s.setGrp gid g).modEntry fn entry (fun j => { j with attempts := j.attempts + 1 })
            (((s1.fnCount fn DSP_LAUNCHES 1).issueLookups gid j.record).pumpInput gid).noteRunning fn)

/-! ### Lookups and gather (R266, R278 to R280) -/

def keyResult (addr len : Nat) : List Byte :=
  leBytes 8 addr ++ leBytes 4 len ++ leBytes 1 (if len ≤ 16384 then 1 else 2) ++ zeros 3

/-- LOOKUP_COMPLETE. -/
def execLookupComplete (gid lookup : Nat) (s : State) : Out :=
  .next (match s.grp gid with
    | none => s
    | some g =>
      match g.lookups.find? (fun l => l.id = lookup) with
      | none => s
      | some l =>
        let drop := fun (s : State) => s.modGrp gid (fun g => { g with lookups := g.lookups.filter (fun l => l.id != lookup) })
        if g.phase == .stopping then drop s
        else
          let r := s.lookupResult g.fn l
          if r.1 != .damaged && mustRestart l (r.2.dirEntry g.fn l.bucket).gen then
            let again := { s.startLookup g.fn l.id l.thread l.keyIx l.key with restarted := true }
            (s.modGrp gid (fun g => { g with lookups := g.lookups.map (fun x => if x.id = l.id then again else x) })).fnCount g.fn DIR_RESTARTS 1
          else
            let s1 := drop r.2
            match r.1, l.thread with
            | .damaged, _ => s1.memPoison gid none
            | .found a n, some i =>
              (s1.modTh ⟨gid, i⟩ (fun th => th.found l.id (BitVec.ofNat 64 a) (BitVec.ofNat 64 n))).settleGroup gid
            | .notFound, some i => (s1.modTh ⟨gid, i⟩ (fun th => th.found l.id 0 0xFFFFFFFFFFFFFFFF)).settleGroup gid
            | .found a n, none => s1.modGrp gid (fun g => { g with keyResults := g.keyResults.set l.keyIx (keyResult a n) })
            | .notFound, none => s1.modGrp gid (fun g => { g with keyResults := g.keyResults.set l.keyIx (zeros 16) }))

def Grp.keyRes (g : Grp) (k : Nat) : List Byte := g.keyResults.get (zeros 16) k

/-- Gather one piece of a row: its bytes, and the state with what was read noted or the record failed. -/
def State.gatherPiece (s : State) (gid va n : Nat) : List Byte × State :=
  match s.grp gid with
  | none => ([], s)
  | some g =>
    if privVa ≤ va then ([], s.inputFails gid va (if 2 ^ 48 ≤ va then xcNoncanonical else xcDenied))
    else match s.xlateNow g.fn va with
      | none => ([], s.inputFails gid va (match s.walk g.fn va with
        | .host _ => xcDenied
        | _ => xcUnmapped))
      | some lpa =>
        match s.owns g.fn lpa with
        | .ok =>
          if commonsBase ≤ lpa then ([], s.inputFails gid va xcDenied)
          else
            let t : Tgt := .mem va lpa
            let r := s.readTgt g t n []
            if r.2 then ([], s.meetPoison gid [(t, n)]) else (r.1, s.noteRead gid g t n)
        | .mismatch => ([], (s.logDenied g.fn lpa 1).inputFails gid va xcDenied)
        | _ => ([], s.inputFails gid va xcDenied)

/-- Gather the row of a key. -/
def State.gatherKey (s : State) (gid k : Nat) : State :=
  match s.grp gid with
  | none => s
  | some g =>
    let kr := g.keyRes k
    let n := if fieldAt kr 12 1 = 0 then 0 else min (fieldAt kr 8 4) 16384
    let q := (cut (fieldAt kr 0 8) n 4096).foldl (fun (q : List Byte × State) p =>
      let r := q.2.gatherPiece gid (fieldAt kr 0 8 + p.1) p.2
      (q.1 ++ r.1, r.2)) (([] : List Byte), s)
    q.2.modGrp gid (fun g => { g with gathered := g.gathered.set k q.1 })

/-! ### Step 6: the group starts (R116 step 4, R119, R120) -/

def launchBlock (g : Grp) (r : List Byte) (epoch : Nat) : List Byte :=
  (r.drop 32).take 216 ++ leBytes 6 (recSeq r) ++ leBytes 1 (recStream r) ++ leBytes 1 g.fn ++ leBytes 4 epoch ++ leBytes 2 g.size ++
    leBytes 1 g.prog.threads ++ zeros 1 ++ ((List.range 4).map g.keyRes).flatten ++ zeros 216 ++
    ((List.range 256).map (fun i => leBytes 2 (g.hirsels.getD i 0xFFFF))).flatten

/-- Launch blocks of every core. -/
def State.writeBlocks (s : State) (g : Grp) : State :=
  let b := launchBlock g (s.recOf g) (s.fn g.fn).epoch
  g.cores.foldl (fun s c => s.store (coreAddr c 0x7FC00) b) s

/-- Clear program areas below CORE_STORE_BYTES and the gather areas of every core. -/
def State.clearCores (s : State) (g : Grp) : State :=
  g.cores.foldl (fun s c => (s.wipe (coreAddr c 0) g.prog.coreStore).wipe (coreAddr c 0x60000) 0x10000) s

/-- The group's part of the private region reads as zero. -/
def State.clearPriv (s : State) (g : Grp) : State :=
  (cut g.privBase g.prog.priv 0x800000).foldl (fun s p =>
    match s.shareAddr g.fn (g.privBase + p.1) with
    | some a => s.wipe a p.2
    | none => s) s

/-- Gathered rows go into the gather areas of the first hirsel. -/
def State.writeRows (s : State) (g : Grp) : State :=
  g.gathered.foldl (fun s row => (List.range 16).foldl (fun s c => s.store (coreAddr (g.globalCore c) (0x60000 + row.1 * 0x4000)) row.2) s) s

/-- A thread at its start (R120): x1 its index, x2 the count, x3 the launch block. ENTRY is an offset in the image. -/
def startThread (g : Grp) (entryOff i : Nat) : Thread :=
  { Thread.empty with pc := BitVec.ofNat 64 (imageVa + g.prog.offset + entryOff),
                      x := [(1, BitVec.ofNat 64 i), (2, BitVec.ofNat 64 g.count), (3, 0x7FC00)] }

/-- GATHER_COMPLETE: the rows are gathered and every thread starts. -/
def execGatherComplete (gid : Nat) (s : State) : Out :=
  .next (match s.grp gid with
    | none => s
    | some g =>
      if g.phase != .launching || g.lookups.any (fun l => l.thread.isNone) then s
      else
        let r := s.recOf g
        let s1 := (List.range (keyCount r)).foldl (fun s k => s.gatherKey gid k) s
        match s1.grp gid with
        | none => s1
        | some g1 =>
          if g1.phase != .launching then s1
          else
            let s2 := (((s1.clearCores g1).clearPriv g1).writeBlocks g1).writeRows g1
            let ths := (List.range g1.count).map (fun i => (i, startThread g1 g1.prog.entry i))
            let s3 := s2.modGrp gid (fun g => { g with phase := .running, threads := ths })
            let s4 := (s3.tallyP g.fn (some (recStream r)) 0x02 1).fnMax g.fn DSP_LAUNCH_MAX (s.time - g.launchAt)
            let s5 := if s.confidential g.fn then s4 else s4.modFn g.fn (fun f => f.recReset (recStream r) (recSeq r))
            (s5.pumpInput gid).noteRunning g.fn)

/-! ### INPUT_DIGEST_DONE (R55, R118, R280) -/

def execInputDigestDone (gid : Nat) (s : State) : Out :=
  .next (match s.grp gid with
    | none => s
    | some g =>
      let r := s.recOf g
      if !g.inputPending || g.phase == .launching || g.phase == .stopping || g.threads.isEmpty ||
          !(cut (inAddr r) (inLen r) 4096).all (fun p => g.input.any (fun q => q.lane = p.1 && q.ready s g)) then s
      else
        let got := (cut (inAddr r) (inLen r) 4096).map (fun p => match g.input.find? (fun q => q.lane = p.1) with
          | some q => (q, s.readPart g q)
          | none => (⟨0, .core 0, 0, none⟩, [], false))
        if got.any (fun x => x.2.2) then s.meetPoison gid (got.map (fun x => (x.1.tgt, x.1.size)))
        else
          let rows := (List.range (keyCount r)).map (fun k => g.keyRes k ++ g.gathered.get [] k)
          let d := sha384 ((r.drop 32).take 216 ++ (got.map (fun x => x.2.1.take x.1.size)).flatten ++ rows.flatten)
          (got.foldl (fun s x => s.noteRead gid g x.1.tgt x.1.size) s).modGrp gid
            (fun g => { g with inputDigest := some d, inputPending := false }))

/-! ### GROUP_ABORT_DONE (R76, R78, R201) -/

/-- The attempt stays open to restarts while an earlier record of its stream has not reached RELEASING. -/
def execGroupAbortDone (gid : Nat) (s : State) : Out :=
  .next (match s.grp gid with
    | none => s
    | some g =>
      match s.entry g.fn g.entry with
      | none => s
      | some j =>
        if g.phase != .stopping || (s.fn g.fn).earlierOpen j then s
        else if g.poison then
          ((if g.memPoison then s.fnCount g.fn MCT_POISON_COMPLETIONS 1 else s).endRecord gid g.fn g.entry stPoisoned 0).progress g.fn
        else (s.endRecord gid g.fn g.entry stFaulted (g.code.getD xDatapath)).progress g.fn)

/-! ### Switch-out and restore (R203 to R206) -/

/-- A thread of the group whose page request has been outstanding for 20 µs. -/
def State.longFault (s : State) (gid : Nat) : Option Nat :=
  ((s.fn (gid / 65536)).xlt.waits.find? (fun w => w.who.ofGroup gid && w.since + 20000 ≤ s.time && (match w.stage, w.who with
    | .fault _ _, .thread _ _ => true
    | _, _ => false))).bind (fun w => match w.who with
      | .thread _ i => some i
      | _ => none)

/-- An eligible record of the paddock waits for hirsels. -/
def State.hirselWaiter (s : State) (fn : Nat) : Bool :=
  (s.fn fn).entries.any (fun p => s.eligible fn p.1 && (match (s.fn fn).program p.2.record with
    | some h => (s.freeHirsels fn).length < h.hirsels
    | none => false))

def execSwitchOutTrigger (gid : Nat) (s : State) : Out :=
  .next (match s.grp gid with
    | none => s
    | some g =>
      match s.longFault gid with
      | some i =>
        if g.phase == .running && s.running && s.hirselWaiter g.fn then
          (s.setGrp gid { g with phase := .saving, faulter := some i }).noteRunning g.fn
        else s
      | none => s)

/-- Operations in flight are complete (R204, R205 step 1). -/
def Grp.drained (g : Grp) : Bool :=
  g.tq.all (fun q => q.2.isEmpty) &&
    g.threads.all (fun t => t.2.loads.isEmpty && t.2.mcopies.isEmpty && t.2.fevals.isEmpty && t.2.finds.isEmpty)

/-- The bytes of the group's core stores, by group core. -/
def State.coreBytes (s : State) (g : Grp) : SMap Byte :=
  ((List.range (g.size * 16)).map (fun c =>
    let a := coreAddr (g.globalCore c) 0
    (s.mem.filter (fun x => a ≤ x.1 && x.1 < a + 0x80000)).map (fun x => (c * 0x80000 + (x.1 - a), x.2)))).flatten

def execSwitchOutSaved (gid : Nat) (s : State) : Out :=
  .next (match s.grp gid with
    | none => s
    | some g =>
      if g.phase == .saving && g.drained then
        ((((s.setGrp gid { g with phase := .switchedOut, saved := if g.threads.isEmpty then [] else s.coreBytes g }).tallyP g.fn
          (some (s.streamOf g)) 0x0F 1).leaveHirsels).noteRunning g.fn)
      else s)

/-- The saved core stores onto new hirsels. -/
def State.putCores (s : State) (g : Grp) : State :=
  let s := g.cores.foldl (fun s c => s.wipe (coreAddr c 0) 0x80000) s
  g.saved.foldl (fun s x => s.writeByte (coreAddr (g.globalCore (x.1 / 0x80000)) (x.1 % 0x80000)) x.2) s

def execGroupRestore (gid : Nat) (s : State) : Out :=
  .next (match s.grp gid with
    | none => s
    | some g =>
      let hs := s.freeHirsels g.fn
      if !(s.restorable gid && s.running && g.size ≤ hs.length) then s
      else
        let g1 := { g with hirsels := hs.take g.size, saved := [], faulter := none }
        if g.code.isSome || g.poison then (s.setGrp gid { g1 with phase := .stopping }).noteRunning g.fn
        else if g.threads.isEmpty then (s.setGrp gid { g1 with phase := .launching, home := hs.take g.size }).noteRunning g.fn
        else
          let s1 := s.putCores { g1 with saved := g.saved }
          ((s1.setGrp gid { g1 with phase := .running }).writeBlocks g1).noteRunning g.fn)

end Sys2Proof.Machine
end

