-- ==== Sys2Proof/Machine/Release.lean ====
section
/-! DEFINITION. Release of a HELD record, write-out, audit and receipt writes, and what moves on when a translation has come
(R54, R55, R69, R77 to R80, R90, R93, R94, R127, R244, R407, R408). -/

namespace Sys2Proof.Machine
open Sys2Proof

/-! ### The release set and its digest (R54, R55) -/

/-- Maximal runs of consecutive addresses. -/
def runsOf (m : SMap Byte) : List (Nat × List Byte) :=
  match m with
  | [] => []
  | (a, b) :: t =>
    match runsOf t with
    | (c, bs) :: rest => if c = a + 1 then (a, b :: bs) :: rest else (a, [b]) :: (c, bs) :: rest
    | [] => [(a, [b])]

/-- The output buffer, unstored bytes as zero. -/
def Grp.outBytes (g : Grp) (r : List Byte) : List Byte := (List.range (outLen r)).map (fun i => g.staged.get 0 (outAddr r + i))

/-- The release set by virtual address. -/
def Grp.releaseSet (g : Grp) (r : List Byte) : SMap Byte :=
  (List.range (outLen r)).foldl (fun m i => if (m.find (outAddr r + i)).isSome then m else m.set (outAddr r + i) 0) g.staged

def Grp.outDigest (g : Grp) (r : List Byte) : List Byte :=
  sha384 (g.outBytes r ++ ((runsOf (g.staged.filter (fun c => !inOutput r c.1))).map
    (fun x => leBytes 8 x.1 ++ leBytes 4 x.2.length ++ x.2)).flatten)

/-! ### RELEASE_START (R77 step 1, R244) -/

def Grp.windowsClosed (g : Grp) : Bool := g.windows = 0 && g.threads.all (fun t => t.2.windows = 0)

/-- A position of `n` bytes in the release log, clear of those in use. -/
def Fn.logFree (f : Fn) (n : Nat) : Option Nat :=
  let used := (f.entries.filter (fun p => p.2.st == .releasing || p.2.stage == .logging)).map
    (fun p => (p.2.logOffset, p.2.logOffset + p.2.logLength))
  let ok := fun b => b + n ≤ f.nat JRN_RELEASE_SIZE * mib && used.all (fun u => u.2 ≤ b || b + n ≤ u.1)
  (0 :: used.map (·.2)).foldl (fun best b => if ok b then (match best with
    | some x => some (min x b)
    | none => some b) else best) none

/-- No request of the attempt is outstanding at a commons. -/
def State.windowQuiet (s : State) (gid : Nat) : Bool := s.sites.all (fun p => p.2.reqs.all (fun r => r.2.gid ≠ gid || r.2.dead))

def execReleaseStart (fn entry : Nat) (s : State) : Out :=
  .next (match s.open fn entry tWork, s.grp (gidOf fn entry) with
    | some j, some g =>
      if g.phase == .ended && g.windowsClosed && g.inputDigest.isSome && g.code.isNone && !g.poison && j.stage == .none &&
          !(s.fn fn).earlierOpen j && s.windowQuiet (gidOf fn entry) then
        let set := g.releaseSet j.record
        match (s.fn fn).logFree set.length with
        | some off => s.modEntry fn entry (fun j => { j with stage := .logging, logOffset := off, logLength := set.length, logSet := set })
        | none => s
      else s
    | _, _ => s)

/-! ### Write-out (R77 step 5, R79, R127, R407, R408) -/

def pagesOf (m : SMap Byte) : List Nat := (m.map (fun c => c.1 / 4096 * 4096)).dedup
def pageCells (m : SMap Byte) (page : Nat) : SMap Byte := m.filter (fun c => page ≤ c.1 && c.1 < page + 4096)

/-- Write out one page of a record's release set if its translation allows it now; after a function reset what is left waits for the
next BIND (R455). -/
def State.outPage (s : State) (fn e page : Nat) (set : SMap Byte) : State :=
  let done := fun (s : State) => s.modEntry fn e (fun j => { j with left := j.left.filter (· != page) })
  let runs := runsOf (pageCells set page)
  match s.reachTable fn page .store with
  | .ok (.mem _ lpa) => done (runs.foldl (fun s x => (s.commitAll (lpa + (x.1 - page)) x.2).foldWrite fn (lpa + (x.1 - page)) x.2.length) s)
  | .ok (.host _ ha) =>
    if s.pceHeld fn || (s.fn fn).carrying then s
    else done (runs.foldl (fun s x => (s.send (.hostWrite fn (ha + (x.1 - page)) x.2)).tallyM 0x17 x.2.length) s)
  | .need => if (s.fn fn).carrying then s else s.needPage fn page true false false (.out e)
  | .mismatch lpa => (s.logDenied fn lpa 2).losePage fn e page
  | .xlate c => (s.noteFault fn page c 2 true).losePage fn e page
  | _ => s.losePage fn e page

/-- An earlier record of the stream still has pages to write out. -/
def Fn.outBehind (f : Fn) (j : JEntry) : Bool :=
  f.entries.any (fun p => p.2.st == .releasing && p.2.order < j.order && recStream p.2.record = recStream j.record && !p.2.left.isEmpty)

/-- Write out what can be written, record by record in acceptance order. -/
def State.pumpOut (s : State) (fn : Nat) : State :=
  if !s.releases then s
  else (s.fn fn).inOrder.foldl (fun s p =>
    match s.entry fn p.1 with
    | some j =>
      if j.st == .releasing && !j.left.isEmpty && !(s.fn fn).outBehind j then
        j.left.foldl (fun s page => s.outPage fn p.1 page j.logSet) s
      else s
    | none => s) s

/-! ### RELEASE_LOGGED (R77 steps 2 to 5, R90) -/

/-- Digests of a RESULT entry: program, weight set, input, output. -/
def resultBody (g : Grp) (r : List Byte) : List Byte :=
  g.prog.digest ++ (match g.weights with
    | some w => w.digest
    | none => zeros 48) ++ g.inputDigest.getD (zeros 48) ++ g.outDigest r

/-- The audit and receipt images are built with their indices and the entry is marked RELEASING (assumption 20). -/
def State.toReleasing (s : State) (fn e : Nat) (j : JEntry) (g : Grp) : State :=
  let f := s.fn fn
  let a := f.audit.next
  let img := auditImage aResult (boolN g.unchecked) fn (recStream j.record) (recSeq j.record) f.epoch a s.time (resultBody g j.record)
  let s := s.pushAudit fn img
  let s := s.modEntry fn e (fun j => { j with audit := img, auditIndex := some a, chain := chainNext f.audit.chain img,
                                              st := .releasing, stage := .writing, left := pagesOf j.logSet })
  match s.entry fn e with
  | some j => s.modFn fn (fun f => f.addCompletion e j stOk 0 g.unchecked a)
  | none => s

def execReleaseLogged (fn entry : Nat) (s : State) : Out :=
  .next (match s.open fn entry tWork, s.grp (gidOf fn entry) with
    | some j, some g =>
      if j.stage == .logging then
        let s1 := (s.toReleasing fn entry j g).dropGroup (gidOf fn entry) subCommitted
        (((s1.noteRunning fn).leaveHirsels).pumpOut fn).progress fn
      else s
    | _, _ => s)

/-! ### Ring writes (R69, R79, R80, R93, R94, R408) -/

/-- The host address of a ring entry, or a state in which its page has been asked for. -/
def State.ringPlace (s : State) (fn va : Nat) : Option Nat × State :=
  if (s.fn fn).xlt.ringBlocked || s.pceHeld fn then (none, s)
  else match (s.fn fn).xlt.resolve true va true false with
    | .at _ a => (some a, s)
    | _ => (none, s.needPage fn va true false true .ring)

/-- The record whose RESULT entry has an audit index still has pages to write out. -/
def Fn.outPending (f : Fn) (i : Nat) : Bool := f.entries.any (fun p => p.2.auditIndex = some i && !p.2.left.isEmpty)

def auditPhase (log2 pos : Nat) : List Byte := leBytes 1 ((if pos / 2 ^ log2 % 2 = 0 then 1 else 0) * 128)

/-- Write the next audit entry if it may be written. -/
def State.auditWrite (s : State) (fn : Nat) : State :=
  let f := s.fn fn
  let i := f.audit.written
  if !s.releases || !f.bound || f.audit.next ≤ i || f.audit.unsigned.any (fun c => c.index = i) || f.outPending i ||
      f.nat STL_AUDIT_HEAD + 2 ^ f.auditLog ≤ i then s
  else
    let pos := i - f.audit.origin
    match s.ringPlace fn (f.auditAddr + 256 * (pos % 2 ^ f.auditLog)) with
    | (some ha, s) =>
      let img := putAt (f.audit.entries.get (zeros 256) i) 5 (auditPhase f.auditLog pos)
      (((s.send (.hostWrite fn ha img)).tallyM 0x17 256).modFn fn (fun f => { f with audit := { f.audit with written := i + 1 } })).noteDrained fn
    | (none, s) => s

def execAuditWrite (fn : Nat) (s : State) : Out := .next (s.auditWrite fn)

/-- CHECKPOINT_SIGNED: the oldest signature completes; the entry is written when its turn has come. -/
def execCheckpointSigned (fn : Nat) (s : State) : Out :=
  .next (match (s.fn fn).audit.unsigned with
    | [] => s
    | c :: rest =>
      let s1 := s.modFn fn (fun f => { f with audit := { f.audit with unsigned := rest } })
      if c.index = (s.fn fn).audit.written then s1.auditWrite fn else s1)

/-- The receipt image of an index that is durable and due. -/
def Fn.dueReceipt (f : Fn) (i : Nat) : Option (List Byte) :=
  match f.notices.find? (fun n => n.index = i) with
  | some n => some n.image
  | none => (f.entries.find? (fun p => p.2.ringIndex = some i && p.2.st == .committed)).map (fun p => p.2.receipt)

def execReceiptWrite (fn : Nat) (s : State) : Out :=
  .next (
    let f := s.fn fn
    let i := f.ringWritten
    if !s.releases || !f.bound || i = f.nextRing || 2 ^ f.ringLog ≤ (i + 2 ^ 32 - f.nat STL_RING_HEAD) % 2 ^ 32 then s
    else match f.dueReceipt i with
      | none => s
      | some img =>
        match s.ringPlace fn (f.ringAddr + 32 * (i % 2 ^ f.ringLog)) with
        | (some ha, s) =>
          (((s.send (.hostWrite fn ha img)).tallyM 0x17 32).modFn fn (fun f => { f with ringWritten := (i + 1) % 2 ^ 32 })).raiseInt intReceipt
        | (none, s) => s)

/-! ### RECORD_COMMIT (R77 step 7) -/

def execRecordCommit (fn entry : Nat) (s : State) : Out :=
  .next (match s.entry fn entry with
    | none => s
    | some j =>
      match j.auditIndex with
      | some a =>
        if s.releases && j.st == .releasing && j.left.isEmpty && a < (s.fn fn).audit.written then
          ((s.modEntry fn entry (fun j => { j with stage := .none, logSet := [] })).commitEntry fn entry).progress fn
        else s
      | none => s)

/-! ### Loads read their source (R105, R109, R113) -/

def loadSrc (r : List Byte) : Nat := fieldAt r 40 8
def loadLen (r : List Byte) : Nat := fieldAt r 48 8
/-- Bytes a load copies: none for an ATTACH or an UNLOAD. -/
def copyLen (r : List Byte) : Nat := if recType r = tUnload || bitOf (fieldAt r 36 1) 1 then 0 else loadLen r

/-- One piece of the source, not crossing a page. -/
def State.loadPiece (s : State) (fn e va off n : Nat) : State :=
  match s.entry fn e with
  | none => s
  | some j =>
    if !j.busy || j.outcome.isSome || j.src.any (fun p => p.lane = off) then s
    else match (s.fn fn).xlt.resolve true va false false with
      | .at _ ha =>
        (s.modEntry fn e (fun j => { j with src := j.src ++ [⟨off, .host va ha, n, none⟩] })).hostAsk ⟨fn, .load e j.src.length, ha, n⟩
      | _ => s.needPage fn va false false true (.load e)

def State.pumpLoad (s : State) (fn e : Nat) : State :=
  match s.entry fn e with
  | none => s
  | some j => (cut (loadSrc j.record) (copyLen j.record) 4096).foldl (fun s p => s.loadPiece fn e (loadSrc j.record + p.1) p.1 p.2) s

/-- What waits on translations of a function goes on: write-outs, load sources, input buffers. -/
def State.pump (s : State) (fn : Nat) : State :=
  let s := s.pumpOut fn
  let s := ((s.fn fn).entries.filter (fun p => p.2.busy && isLoadRec p.2.record)).foldl (fun s p => s.pumpLoad fn p.1) s
  (s.groups.filter (fun g => g.2.fn = fn)).foldl (fun s g => s.pumpInput g.1) s

end Sys2Proof.Machine
end

