-- ==== Sys2Proof/Machine/Translation.lean ====
section
/-! DEFINITION. Translation: table records, walks, translation and page request completions (R386 to R417). -/

namespace Sys2Proof.Machine
open Sys2Proof

/-! ### Table entries (R390 to R393) -/

def tableEntry (lpa : Nat) : Nat := 2 ^ 63 + lpa
def localEntry (lpa : Nat) (write size64 : Bool) : Nat := 2 ^ 63 + 2 ^ 61 + boolN write * 2 ^ 60 + boolN size64 * 2 ^ 59 + lpa
def hostEntry : Nat := 2 ^ 63 + 2 ^ 62

/-- What an update writes: UNMAP, LOCAL with its base and permission, HOST. -/
inductive LeafKind where
  | unmap
  | local (lpa : Nat) (write : Bool)
  | host
  deriving DecidableEq, Repr

def LeafKind.word (k : LeafKind) (size64 : Bool) : Nat :=
  match k with
  | .unmap => 0
  | .local lpa w => localEntry lpa w size64
  | .host => hostEntry

def entAt (tbl lvl va : Nat) : Nat := tbl + 8 * (va / 2 ^ (12 + 9 * lvl) % 512)
def State.putEnt (s : State) (a v : Nat) : State := s.commitStore a (leBytes 8 v)

/-- The lowest table of the area that is not in use. -/
def State.freeTable (s : State) (fn : Nat) : Option Nat :=
  let f := s.fn fn
  ((List.range (f.nat XLT_TABLE_MIB * 256 - 1)).map (fun i => s.tableRoot fn + 4096 * (i + 1))).find? (fun a => !f.tables.contains a)

def Fn.noteTables (f : Fn) : Fn := f.putN XLT_TABLE_USED (f.tables.length + 1)

/-- Take a table, filled with the given entries. -/
def State.newTable (s : State) (fn : Nat) (ents : Nat → Nat) : Option (Nat × State) :=
  match s.freeTable fn with
  | none => none
  | some a =>
    let s := s.commitAll a ((List.range 512).map (fun i => leBytes 8 (ents i))).flatten
    some (a, s.modFn fn (fun f => ({ f with tables := f.tables ++ [a] } : Fn).noteTables))

/-- Tables below an entry of a level. -/
def State.tablesUnder (s : State) (lvl e : Nat) : List Nat :=
  match lvl with
  | 0 => []
  | l + 1 =>
    if bitOf e 63 && fieldOf e 61 2 = 0 then
      let t := fieldOf e 12 35 * 4096
      t :: ((List.range 512).map (fun i => s.tablesUnder l (s.readNat (t + 8 * i) 8))).flatten
    else []

/-- The entries of a table that splits a leaf of the level above (R396). -/
def splitEntry (lvl e i : Nat) : Nat :=
  if fieldOf e 61 2 = 2 then e else localEntry (fieldOf e 12 35 * 4096 + i * 2 ^ (12 + 9 * lvl)) (bitOf e 60) false

/-- Split a 64 KiB page into its 16 pages. -/
def State.split64 (s : State) (tbl va e : Nat) : State :=
  let first := tbl + 8 * (va / 65536 * 16 % 512)
  (List.range 16).foldl (fun s i => s.putEnt (first + 8 * i) (localEntry (fieldOf e 12 35 * 4096 + i * 4096) (bitOf e 60) false)) s

/-- Write one leaf of level `target` at a virtual address, from a table of level `lvl` down. -/
def State.setLeaf (s : State) (fn va target : Nat) (size64 : Bool) (k : LeafKind) (lvl tbl : Nat) : State :=
  let ea := entAt tbl lvl va
  let e := s.readNat ea 8
  match lvl with
  | 0 =>
    if size64 then
      let first := tbl + 8 * (va / 65536 * 16 % 512)
      (List.range 16).foldl (fun s i => s.putEnt (first + 8 * i) (k.word true)) s
    else
      let s := if bitOf e 63 && bitOf e 59 && fieldOf e 61 2 = 1 then s.split64 tbl va e else s
      s.putEnt ea (k.word false)
  | l + 1 =>
    if lvl = target then
      let gone := s.tablesUnder lvl e
      let span := 2 ^ (12 + 9 * lvl)
      let s := s.putEnt ea (k.word false)
      s.modFn fn (fun f => { f with freed := f.freed ++ gone.map (fun t => (t, va / span * span, span)) })
    else if bitOf e 63 && fieldOf e 61 2 = 0 then s.setLeaf fn va target size64 k l (fieldOf e 12 35 * 4096)
    else if !bitOf e 63 && k == .unmap then s
    else
      match s.newTable fn (fun i => if bitOf e 63 then splitEntry l e i else 0) with
      | none => s
      | some (t, s) => (s.putEnt ea (tableEntry t)).setLeaf fn va target size64 k l t

/-! ### TABLE_UPDATE and INVALIDATE (R394 to R398) -/

def tuSize (r : List Byte) : Nat :=
  let z := fieldAt r 44 1
  if z = 0 then 4096 else if z = 1 then 65536 else if z = 2 then 2 ^ 21 else 2 ^ 30
def tuLevel (r : List Byte) : Nat := if fieldAt r 44 1 ≤ 1 then 0 else fieldAt r 44 1 - 1
def tuKind (r : List Byte) (i : Nat) : LeafKind :=
  if fieldAt r 45 1 = 0 then .unmap
  else if fieldAt r 45 1 = 1 then .local (fieldAt r 48 8 + i * tuSize r) (bitOf (fieldAt r 46 1) 0)
  else .host

/-- A page of an update. -/
def State.setPage (s : State) (fn va : Nat) (r : List Byte) (i : Nat) : State :=
  s.setLeaf fn va (tuLevel r) (fieldAt r 44 1 = 1) (tuKind r i) 3 (s.tableRoot fn)

/-- No earlier table record of the paddock is uncommitted. -/
def Fn.noTable (f : Fn) (j : JEntry) : Bool := f.entries.all (fun p => p.2.st == .committed || j.order ≤ p.2.order || !isTable p.2.record)

def execTableUpdate (fn entry : Nat) (s : State) : Out :=
  .next (match s.open fn entry tTableUpdate with
    | none => s
    | some j =>
      if !((s.fn fn).streamClear j && (s.fn fn).noTable j) then s
      else
        let r := j.record
        let s1 := (List.range (fieldAt r 40 4)).foldl (fun s i => s.setPage fn (fieldAt r 32 8 + i * tuSize r) r i) s
        (s1.decide fn entry stOk 0).progress fn)

/-- Ranges overlap. -/
def meets (a n b m : Nat) : Bool := a < b + m && b < a + n

def execInvalidate (fn entry : Nat) (s : State) : Out :=
  .next (match s.open fn entry tInvalidate with
    | none => s
    | some j =>
      let f := s.fn fn
      if !(f.streamClear j && f.entries.all (fun p => p.2.st == .committed || j.order ≤ p.2.order)) then s
      else
        let r := j.record
        let all := bitOf (fieldAt r 48 1) 0
        let va := fieldAt r 32 8
        let n := fieldAt r 40 8
        let back := f.freed.filter (fun t => all || (va ≤ t.2.1 && t.2.1 + t.2.2 ≤ va + n))
        let s1 := s.modFn fn (fun f => ({ f with
          freed := f.freed.filter (fun t => !back.contains t),
          tables := f.tables.filter (fun t => !(back.map (·.1)).contains t),
          xlt := { f.xlt with tlb := f.xlt.tlb.filter (fun e => !(all || (!e.direct && meets e.va (2 ^ e.log2) va n))) } } : Fn).noteTables)
        (s1.decide fn entry stOk 0).progress fn)

/-! ### TABLE_WALK_DONE (R390 to R393, R403) -/

def Xlt.add (x : Xlt) (e : Tlb) : Xlt := { x with tlb := e :: x.tlb }

/-- The waiters that `p` names go on: threads run again, the rest is pumped by the caller. -/
def State.wakeAll (s : State) (ws : List XWait) : State := ws.foldl (fun s w => s.unpark w.who) s

/-- A waiter whose walk met a malformed entry, or poison. -/
def State.walkBroken (s : State) (fn : Nat) (w : XWait) (poison : Bool) : State :=
  match w.who with
  | .thread gid _ => if poison then s.memPoison gid none else s.datapathError gid false
  | .input gid => if poison then s.memPoison gid none else s.datapathError gid false
  | .out e => s.losePage fn e w.page
  | _ => s.failWait fn w xcUnmapped

/-- A waiter whose page is host memory (R388, R405). -/
def State.hostWait (s : State) (fn : Nat) (w : XWait) : State :=
  if w.atomic then
    match w.who with
    | .thread gid idx => (s.unpark w.who).raise ⟨gid, idx⟩ xIllegal w.page
    | _ => s
  else s.askAts fn w

def execTableWalkDone (fn va : Nat) (s : State) : Out :=
  .next (
    let page := va / 4096 * 4096
    if !(s.fn fn).xlt.walks.contains page then s
    else
      let s1 := s.modXlt fn (fun x => { x with walks := x.walks.filter (· != page) })
      let q := s1.takeWaits fn (fun w => w.page = page && w.stage == .walk)
      let s2 := match s1.walk fn page with
        | .mapped base lpa log2 write => (q.2.modXlt fn (fun x => x.add ⟨false, base, log2, false, lpa, true, write⟩)).wakeAll q.1
        | .host _ => q.1.foldl (fun s w => s.hostWait fn w) q.2
        | .unmapped => q.1.foldl (fun s w => s.failWait fn w xcUnmapped) q.2
        | .malformed => q.1.foldl (fun s w => s.walkBroken fn w false) (q.2.report (padReport cTableFormat .uc 0x08 0 page fn 1))
        | .poisoned => q.1.foldl (fun s w => s.walkBroken fn w true) q.2
      s2.pump fn)

/-! ### ATS_COMPLETION (R405 to R408, R412) -/

/-- Waits that need a free PRG index, or for which R432 no longer holds requests back, try again. -/
def State.retryWaits (s : State) (fn : Nat) (p : XWait → Bool) : State :=
  let q := s.takeWaits fn p
  q.1.foldl (fun s w =>
    match (s.fn fn).xlt.resolve w.direct w.page w.write w.atomic with
    | .miss => s.askAts fn w
    | .fault => s.pageFault fn w
    | _ => s.unpark w.who) q.2
def isIndexWait (w : XWait) : Bool := w.stage == .index
def isHeldWait (w : XWait) : Bool := w.stage == .held

/-- The cached translation that a completion gives for a page: no larger than 1 GiB, nor than the HOST range of the tables. -/
def State.atsEntry (s : State) (fn page ha log2 : Nat) (direct read write : Bool) : Tlb :=
  let top := if direct then 30 else match s.walk fn page with
    | .host n => min n 30
    | _ => 12
  let k := max 12 (min log2 top)
  let base := page / 2 ^ k * 2 ^ k
  ⟨direct, base, k, true, ha / 2 ^ (max 12 log2) * 2 ^ (max 12 log2) + (base - page / 2 ^ (max 12 log2) * 2 ^ (max 12 log2)), read, write⟩

/-- A waiter after its page's translation: it goes on, or faults; the sixteenth success without use ends it. -/
def State.afterAts (s : State) (fn : Nat) (w : XWait) : State :=
  match (s.fn fn).xlt.resolve w.direct w.page w.write w.atomic with
  | .at _ _ => (s.unpark w.who).modXlt fn (fun x => { x with retries := x.retries.del w.page })
  | .fault =>
    if 16 ≤ (s.fn fn).xlt.retries.get 0 w.page then
      (s.failWait fn w xcRetryLimit).modXlt fn (fun x => { x with retries := x.retries.del w.page })
    else s.pageFault fn w
  | _ => s.unpark w.who

def execAtsCompletion (fn va : Nat) (c : AtsResult) (s : State) : Out :=
  .next (
    let page := va / 4096 * 4096
    let x := (s.fn fn).xlt
    if !x.atsReqs.any (fun q => q.1 = page) then s.hubCount PCE_CPL_ERRORS 1
    else
      let s1 := s.modXlt fn (fun x => { x with atsReqs := x.atsReqs.filter (fun q => q.1 != page),
                                               staleAts := x.staleAts.filter (· != page) })
      let q := s1.takeWaits fn (fun w => w.page = page && w.stage == .ats)
      if x.staleAts.contains page then q.1.foldl (fun s w => s.askAts fn w) q.2
      else
        let s2 := match c with
          | .error => q.1.foldl (fun (s : State) w => s.failWait fn w xcAtsError) (q.2.hubCount PCE_CPL_ERRORS 1)
          | .page ha log2 r w =>
            let add := fun (d : Bool) (s : State) =>
              let e := s.atsEntry fn page ha log2 d r w
              s.modXlt fn (fun x => { x with tlb := e :: x.tlb.filter (fun o => !(o.host && o.direct == d && meets o.va (2 ^ o.log2) e.va (2 ^ e.log2))) })
            let s3 := if q.1.any (fun w => w.direct) then add true q.2 else q.2
            let s4 := if q.1.any (fun w => !w.direct) then add false s3 else s3
            q.1.foldl (fun s w => s.afterAts fn w) s4
          | .none =>
            let add := fun (d : Bool) (s : State) => s.modXlt fn (fun x => x.add ⟨d, page, 12, true, 0, false, false⟩)
            let s3 := if q.1.any (fun w => w.direct) then add true q.2 else q.2
            let s4 := if q.1.any (fun w => !w.direct) then add false s3 else s3
            let s5 := q.1.foldl (fun (s : State) w => s.afterAts fn w) s4
            s5.modXlt fn (fun x => { x with tlb := x.tlb.filter (fun e => e.read || e.write) })
        s2.pump fn)

/-! ### Invalidation by the host (R406) -/

def execAtsInvalidateRequest (fn itag va size : Nat) (s : State) : Out :=
  .next (if 32 ≤ (s.fn fn).xlt.invs.length then s
    else s.modXlt fn (fun x => { x with
      tlb := x.tlb.filter (fun e => !(e.host && meets e.va (2 ^ e.log2) va size)),
      staleAts := addAll ((x.atsReqs.filter (fun q => meets q.1 4096 va size)).map (·.1)) x.staleAts,
      invs := x.invs ++ [⟨itag, va, size⟩] }))

/-- Every request that used a removed entry is on the link: none of the function is held back. -/
def execAtsInvalidateComplete (fn itag : Nat) (s : State) : Out :=
  .next (if (s.fn fn).xlt.invs.any (fun i => i.itag = itag) && !s.pceHeld fn && !s.pce.waiting.any (fun q => q.fn = fn) then
      ((s.modXlt fn (fun x => { x with invs := x.invs.filter (fun i => i.itag != itag) })).fnCount fn XLT_ATS_INVALIDATIONS 1).send
        (.atsDone fn itag)
    else s)

/-! ### Page request groups (R410 to R414) -/

def waitsOn (i : Nat) (w : XWait) : Bool :=
  match w.stage with
  | .fault k _ => k = i
  | _ => false
def joinedTo (w : XWait) : Bool :=
  match w.stage with
  | .fault _ b => b
  | _ => false

/-- A group fails: those joined to it fail, those that waited for its response ask again. -/
def State.failPrg (s : State) (fn i cause : Nat) : State :=
  let q := s.takeWaits fn (waitsOn i)
  q.1.foldl (fun s w => if joinedTo w then s.failWait fn w cause else s.askAts fn w) q.2

def State.dropPrg (s : State) (fn i : Nat) : State :=
  ((s.modXlt fn (fun x => { x with prgs := x.prgs.del i })).notePri fn)

/-- The page's translation is asked for again, once for all waiters. -/
def State.prgSuccess (s : State) (fn i : Nat) (p : Prg) : State :=
  let s := (s.dropPrg fn i).modXlt fn (fun x => { x with
    retries := x.retries.set p.page (x.retries.get 0 p.page + 1), tlb := x.tlb.filter (fun e => !(e.host && e.covers p.page)) })
  let q := s.takeWaits fn (waitsOn i)
  q.1.foldl (fun s w => s.askAts fn w) q.2

/-- Response Failure: PRI stops. -/
def State.prgFailure (s : State) (fn : Nat) : State :=
  let s := s.modFn fn (fun f => f.putN XLT_PRI_STATE (withField (f.nat XLT_PRI_STATE) 31 1 1))
  let live := ((s.fn fn).xlt.prgs.filter (fun p => !p.2.quarantined)).map (·.1)
  live.foldl (fun s i => (s.failPrg fn i xcPriInvalid).dropPrg fn i) s

def execPrgResponse (fn index : Nat) (r : PrgResult) (s : State) : Out :=
  .next (match (s.fn fn).xlt.prgs.find index with
    | none => s.fnCount fn XLT_STALE_RESPONSES 1
    | some p =>
      let s1 :=
        if p.quarantined then
          let s2 := s.dropPrg fn index
          if p.sentAt < s.boot.startAt then s2.fnCount fn XLT_STALE_RESPONSES 1 else s2
        else match r with
          | .success => s.prgSuccess fn index p
          | .invalid => (s.failPrg fn index xcPriInvalid).dropPrg fn index
          | .failure => s.prgFailure fn
      ((s1.retryWaits fn isIndexWait).pump fn).noteDrained fn)

/-- PRI_TIMEOUT: no response within XLT_PRI_TIMEOUT µs. -/
def execPriTimeout (fn index : Nat) (s : State) : Out :=
  .next (match (s.fn fn).xlt.prgs.find index with
    | none => s
    | some p =>
      if p.quarantined || s.time < p.sentAt + 1000 * s.fnNat fn XLT_PRI_TIMEOUT then s
      else
        let s1 := s.failPrg fn index xcPriTimeout
        let s2 := (s1.modXlt fn (fun x => { x with prgs := x.prgs.set index { p with quarantined := true } })).notePri fn
        (s2.report (padReport cPriTimeout .uc 0x08 0 p.page fn 0)).pump fn)

def execRingWriteRetry (fn : Nat) (s : State) : Out := .next (s.modXlt fn (fun x => { x with ringBlocked := false }))

/-- PRI_ENABLE_CHANGE: setting PRI Enable again ends PRI_STOPPED. -/
def execPriEnableChange (fn : Nat) (enable : Bool) (s : State) : Out :=
  .next (
    let was := (s.fn fn).xlt.priEnable
    let s1 := s.modFn fn (fun f =>
      let f := f.modXlt (fun x => { x with priEnable := enable })
      if enable && !was then f.putN XLT_PRI_STATE (withField (f.nat XLT_PRI_STATE) 31 1 0) else f)
    (s1.retryWaits fn isIndexWait).pump fn)

end Sys2Proof.Machine
end

