-- ==== Sys2Proof/Machine/Forest.lean ====
section
/-! DEFINITION. Forest units: FEVAL, FWAIT, node fills and completion (R247 to R261). -/

namespace Sys2Proof.Machine
open Sys2Proof

/-! ### Headers and descriptors (R247, R250, R254, R257) -/

def fhOutputs (h : List Byte) : Nat := (byteAt h 1).toNat
def fhDepth (h : List Byte) : Nat := (byteAt h 2).toNat
def fhTrees (h : List Byte) : Nat := fieldAt h 4 4
def fhFeatures (h : List Byte) : Nat := fieldAt h 8 2
def fhTable (h : List Byte) : Nat := fieldAt h 16 4
def fhNodes (h : List Byte) : Nat := fieldAt h 20 4
def fhCount (h : List Byte) : Nat := fieldAt h 24 4
def fhBitset (h : List Byte) : Nat := fieldAt h 28 4
def fhWords (h : List Byte) : Nat := fieldAt h 32 4
def fhBase (h : List Byte) (o : Nat) : W32 := BitVec.ofNat 32 (fieldAt h (36 + 4 * o) 4)

/-- Every header field lies in its range. -/
def headerOk (h : List Byte) : Bool :=
  byteAt h 0 == 1 && zeroAt h 3 1 && zeroAt h 10 6 && zeroAt h 48 16 &&
    1 ≤ fhOutputs h && fhOutputs h ≤ 3 && 1 ≤ fhDepth h && fhDepth h ≤ 16 && 1 ≤ fhTrees h && fhTrees h ≤ 65536 &&
    1 ≤ fhFeatures h && fhFeatures h ≤ 4096 && fhTable h % 16 = 0 && fhNodes h % 64 = 0 && 1 ≤ fhCount h && fhCount h ≤ 16777216 &&
    fhBitset h % 4 = 0 && fhWords h ≤ 1048576 && zeroAt h (36 + 4 * fhOutputs h) (12 - 4 * fhOutputs h)

def fdEnsemble (d : List Byte) : Nat := fieldAt d 0 8
def fdFeatOff (d : List Byte) : Nat := fieldAt d 8 4
def fdStride (d : List Byte) : Nat := fieldAt d 12 4
def fdOutOff (d : List Byte) : Nat := fieldAt d 16 4
def fdRecords (d : List Byte) : Nat := fieldAt d 20 2
def fdMode (d : List Byte) : Nat := fieldAt d 22 1
def fdUnit (d : List Byte) : Nat := fieldAt d 23 1
def fdFirst (d : List Byte) : Nat := fieldAt d 24 4
def fdCount (d : List Byte) : Nat := fieldAt d 28 4
def fdOutAddr (d : List Byte) : Nat := fieldAt d 40 8

/-- Stage 1 of R257: the codes that the descriptor raises. -/
def descCodes (d : List Byte) (imageBytes : Nat) : List Nat :=
  let legal := fieldAt d 32 1 ≤ 1 && zeroAt d 33 7 && zeroAt d 48 16 && fdMode d ≤ 1 && (fdUnit d < 16 || fdUnit d = 255) &&
    (if fdMode d = 0 then fdOutAddr d = 0 else fdOutOff d = 0)
  let aligned := fdEnsemble d % 64 = 0 && fdFeatOff d % 4 = 0 && fdStride d % 4 = 0 &&
    (if fdMode d = 0 then fdOutOff d % 4 = 0 else fdOutAddr d % 4 = 0)
  (if legal then [] else [xIllegal]) ++ (if aligned then [] else [xMisaligned]) ++
    (if imageVa ≤ fdEnsemble d && fdEnsemble d < imageVa + imageBytes then [] else [xTranslation])

/-- Ranges of core store that the features and the LOCAL output take. -/
def featRange (d h : List Byte) : Nat × Nat := (fdFeatOff d, (fdRecords d - 1) * fdStride d + 4 * fhFeatures h)
def outRange (d h : List Byte) : Nat × Nat := (fdOutOff d, 4 * fdRecords d * fhOutputs h)

/-- Stage 2 of R257. -/
def State.limitCodes (g : Grp) (d h : List Byte) : List Nat :=
  if !headerOk h then [xIllegal]
  else
    let operand := 64 < fdRecords d || fhTrees h < fdFirst d + fdCount d || 16384 < fdRecords d * fhFeatures h ||
      fdStride d < 4 * fhFeatures h
    let range := coreRangeOk g.prog.coreStore (featRange d h).1 (featRange d h).2 false &&
      (fdMode d = 1 || coreRangeOk g.prog.coreStore (outRange d h).1 (outRange d h).2 true)
    (if operand then [xOperand] else []) ++ (if range then [] else [xCoreRange])

def lowest (cs : List Nat) : Option Nat := cs.foldl (fun m c => match m with
  | some x => some (min x c)
  | none => some c) none

/-! ### Walks (R248 to R251) -/

/-- How a walk ends: at a leaf, with an exception, or on poison. -/
inductive WalkEnd where
  | leaf (bytes : List Byte)
  | exc (code : Nat)
  | poison
  deriving DecidableEq, Repr

/-- A walk's end, the levels it stepped and the virtual lines it read. -/
structure Walk where
  stop : WalkEnd
  levels : Nat
  lines : List Nat
  deriving DecidableEq, Repr

/-- Bytes of the image window, none beyond it. -/
def State.imageRead (s : State) (fn va n : Nat) : Option (List Byte × Bool) :=
  if va + n ≤ imageVa + s.fnNat fn PDK_IMAGE_SIZE * mib then some (s.fetchImage fn va n) else none

/-- What a node raises, if anything, at a depth (R250): the lower code first. -/
def nodeCode (h b : List Byte) (depth : Nat) : Option Nat :=
  let kind := fieldAt b 2 1
  if kind = 0 then
    if zeroAt b 0 2 && zeroAt b 3 1 && zeroAt b (4 + 4 * fhOutputs h) (12 - 4 * fhOutputs h) then none else some xIllegal
  else
    let thr := fieldAt b 4 4
    let cw := fieldAt b 12 2
    if 3 < kind || 1 < fieldAt b 3 1 || !zeroAt b 14 2 || fhFeatures h ≤ fieldAt b 0 2 then some xIllegal
    else if kind = 3 && (cw = 0 || 256 < cw) then some xIllegal
    else if kind ≠ 3 && (cw ≠ 0 || (f32Dec (BitVec.ofNat 32 thr)).isNan) then some xIllegal
    else if fhCount h ≤ fieldAt b 8 4 + 1 || (kind = 3 && fhWords h < thr + cw) || fhDepth h ≤ depth then some xOperand
    else none

/-- The category that a feature names, if it is an integer below `top`. -/
def category (x : Fv) (top : Nat) : Option Nat :=
  match x with
  | .fin neg m => if m % 2 ^ 320 = 0 && (!neg || m = 0) && m / 2 ^ 320 < top then some (m / 2 ^ 320) else none
  | _ => none

/-- The direction of a well-formed internal node; for CAT it may need a bitset word. -/
def State.goLeft (s : State) (fn ens : Nat) (h b : List Byte) (x : W32) : Option (Bool × List Nat) × Bool :=
  let kind := fieldAt b 2 1
  let thr := fieldAt b 4 4
  let v := f32Dec x
  if v.isNan then (some (bitOf (fieldAt b 3 1) 0, []), false)
  else if kind = 1 then (some (fvLt v (f32Dec (BitVec.ofNat 32 thr)), []), false)
  else if kind = 2 then (some (fvLe v (f32Dec (BitVec.ofNat 32 thr)), []), false)
  else match category v (32 * fieldAt b 12 2) with
    | none => (some (false, []), false)
    | some c =>
      let a := ens + fhBitset h + 4 * (thr + c / 32)
      match s.imageRead fn a 4 with
      | none => (none, false)
      | some (w, bad) => (some (bitOf (leNat w) (c % 32), [a / 64]), bad)

/-- A walk from a node at a depth. -/
def State.walkFrom (s : State) (fn ens : Nat) (h : List Byte) (feats : List W32) (fuel depth node : Nat) (lines : List Nat) : Walk :=
  match fuel with
  | 0 => ⟨.exc xOperand, depth, lines⟩
  | k + 1 =>
    if fhCount h ≤ node then ⟨.exc xOperand, depth, lines⟩
    else
      let a := ens + fhNodes h + 16 * node
      match s.imageRead fn a 16 with
      | none => ⟨.exc xTranslation, depth, lines⟩
      | some (b, bad) =>
        let lines := (a / 64) :: lines
        if bad then ⟨.poison, depth, lines⟩
        else match nodeCode h b depth with
          | some c => ⟨.exc c, depth, lines⟩
          | none =>
            if fieldAt b 2 1 = 0 then ⟨.leaf b, depth, lines⟩
            else match s.goLeft fn ens h b (feats.getD (fieldAt b 0 2) 0#32) with
              | (none, _) => ⟨.exc xTranslation, depth, lines⟩
              | (some (_, ls), true) => ⟨.poison, depth, ls ++ lines⟩
              | (some (left, ls), false) =>
                s.walkFrom fn ens h feats k (depth + 1) (fieldAt b 8 4 + (if left then 0 else 1)) (ls ++ lines)

/-- The walk of a tree for a record: its root is read from the tree table. -/
def State.walkTree (s : State) (fn ens : Nat) (h : List Byte) (feats : List W32) (tree : Nat) : Walk :=
  match s.imageRead fn (ens + fhTable h + 4 * tree) 4 with
  | none => ⟨.exc xTranslation, 0, []⟩
  | some (_, true) => ⟨.poison, 0, []⟩
  | some (b, false) => s.walkFrom fn ens h feats 18 0 (leNat b) []

/-- Every walk of a FEVAL, by record and tree. -/
def State.walks (s : State) (fn : Nat) (o : FevalOp) : List (List Walk) :=
  o.features.map (fun fs => (List.range o.treeCount).map (fun t => s.walkTree fn o.ensemble o.header fs (o.treeFirst + t)))

/-! ### FEVAL (R253 to R258) -/

/-- Queued FEVALs of a forest unit. -/
def State.unitQueue (s : State) (unit : Nat) : Nat :=
  (s.groups.map (fun (g : Nat × Grp) => (g.2.threads.map (fun (t : Nat × Thread) => (t.2.fevals.filter (fun (e : FevalOp) => e.unit = unit)).length)).sum)).sum

/-- The unit that runs a FEVAL on a tile (R258). -/
def State.forestUnit (s : State) (tile want : Nat) : Option Nat :=
  let good := ((List.range 16).map (fun u => tile * 16 + u)).filter (fun u => !s.vacant kForest u)
  if want = 255 then
    good.foldl (fun best u => match best with
      | some b => if s.unitQueue u < s.unitQueue b then some u else some b
      | none => some u) none
  else if good.contains (tile * 16 + want) then some (tile * 16 + want)
  else good.head?

/-- Key of a node line of a paddock in a node cache. -/
def nodeKey (fn line : Nat) : Nat := fn * 2 ^ 42 + line

/-- A FOLD output's targets, or what the first without one meets (R255). -/
def State.foldOuts (s : State) (g : Grp) (idx : Nat) (vas : List W64) : List Tgt × Option (Nat × Reach) :=
  match vas with
  | [] => ([], none)
  | a :: r =>
    match s.reach g idx 0 a 4 .atomic with
    | .ok t =>
      let rest := s.foldOuts g idx r
      (t :: rest.1, rest.2)
    | e => ([], some (a.toNat, e))

/-- Features of a record as the unit reads them (R256). -/
def State.featuresOf (s : State) (core off n : Nat) : List W32 :=
  (List.range n).map (fun i => BitVec.ofNat 32 (s.readNat (coreAddr core (off + 4 * i)) 4))

/-- The FEVAL joins its unit's queue with the lines it lacks. -/
def State.queueFeval (s : State) (t : Thr) (g : Grp) (th : Thread) (o : FevalOp) : State :=
  let need := (((s.walks g.fn o).flatten.map (·.lines)).flatten).dedup
  let have' := s.ms.nodes.get [] o.unit
  let o := { o with fills := need.filter (fun l => !have'.contains (nodeKey g.fn l)) }
  s.retire t g ({ th with fevals := th.fevals ++ [o], nextId := th.nextId + 1 } : Thread).advance

/-- A FEVAL completed: counters (R282). -/
def State.countFeval (s : State) (fn since : Nat) : State := (s.fnCount fn FOR_EVALS 1).fnMax fn FOR_EVAL_MAX (s.time - since)

/-- The unit takes an FEVAL whose operands are in order, when it has room and nothing blocks them (R253, R256). -/
def State.admitFeval (s : State) (t : Thr) (g : Grp) (th : Thread) (d h : List Byte) (outs : List Tgt) : State :=
  let core := g.globalCore (g.coreOf t.idx)
  match s.forestUnit (core / 256) (fdUnit d) with
  | none => s
  | some u =>
    let fr := featRange d h
    let or' := outRange d h
    if 4 ≤ th.fevals.length || 16 ≤ s.unitQueue u || g.blocks t.idx th (.core (coreAddr core fr.1)) fr.2 false ||
        (fdMode d = 0 && g.blocks t.idx th (.core (coreAddr core or'.1)) or'.2 true) then s
    else
      s.queueFeval t g th ⟨th.nextId, fdEnsemble d, h, (List.range (fdRecords d)).map (fun r =>
        s.featuresOf core (fdFeatOff d + r * fdStride d) (fhFeatures h)), fdRecords d, fdMode d = 1, fdOutOff d, outs, fdFirst d,
        fdCount d, bitOf (fieldAt d 32 1) 0, u, [], s.time⟩

/-- FEVAL with the header of its ensemble, where the image holds one, and whether that is poisoned. -/
def State.fevalWith (s : State) (t : Thr) (g : Grp) (th : Thread) (d : List Byte) (header : Option (List Byte × Bool)) : State :=
  match header with
  | none => s.raiseXlate t (fdEnsemble d) xcUnmapped false
  | some (_, true) => s.meetPoison t.gid [(.image (fdEnsemble d) 0, 64)]
  | some (h, false) =>
    match lowest (State.limitCodes g d h) with
    | some c => s.raise t c 0
    | none =>
      let locations := if fdMode d = 0 then [] else
        (List.range (fdRecords d * fhOutputs h)).map (fun i => BitVec.ofNat 64 (fdOutAddr d + 4 * i))
      match s.foldOuts g t.idx locations with
      | (_, some (va, r)) => s.unreached t va .atomic r
      | (outs, none) => s.admitFeval t g th d h outs

/-- FEVAL once its descriptor is well formed and names records. -/
def State.startFeval (s : State) (t : Thr) (g : Grp) (th : Thread) (d : List Byte) : State :=
  s.fevalWith t g th d (s.imageRead g.fn (fdEnsemble d) 64)

def execFeval (t : Thr) (f : FmtR) (s : State) : Out :=
  .next (s.insn t f.grd false (f.d == 0 && f.s2 == 0 && f.s3 == 0 && f.ty == 0 && f.cond == 0 && f.rsv == 0) [f.s1.toNat] []
    (fun g th =>
      let a := th.xr f.s1.toNat
      if a.toNat % 64 ≠ 0 then s.raise t xMisaligned a.toNat
      else match s.reach g t.idx 1 a 64 .load with
        | .ok tgt =>
          if g.blocks t.idx th tgt 64 false then s
          else
            let d := (s.readTgt g tgt 64 []).1
            match lowest (descCodes d (s.fnNat g.fn PDK_IMAGE_SIZE * mib)) with
            | some c => if c = xTranslation then s.raiseXlate t (fdEnsemble d) xcUnmapped false else s.raise t c 0
            | none =>
              if fdRecords d = 0 then (s.countFeval g.fn s.time).retire t g th.advance
              else s.startFeval t g th d
        | r => s.unreached t a.toNat .load r))

def execFwait (t : Thr) (f : FmtR) (s : State) : Out :=
  .next (s.insn t f.grd false (f.d == 0 && f.s1 == 0 && f.s2 == 0 && f.s3 == 0 && f.ty == 0 && f.cond == 0 && f.rsv == 0) [] []
    (fun g th => if th.fevals.isEmpty then s.retire t g th.advance else s))

/-! ### Node caches (R246, R259, R260) -/

/-- Lines of a node cache of 1 MiB. -/
def nodeWays : Nat := 16384

/-- A line enters a node cache; the longest filled leaves a full one. -/
def MemSys.fillNode (m : MemSys) (unit key : Nat) : MemSys :=
  let l := m.nodes.get [] unit
  { m with nodes := m.nodes.set unit ((key :: l.filter (· != key)).take nodeWays) }

/-- UNLOAD of a paddock commits: its lines leave every node cache (R259). -/
def State.dropNodes (s : State) (fn : Nat) : State :=
  { s with ms := { s.ms with nodes := s.ms.nodes.map (fun (p : Nat × List Nat) => (p.1, p.2.filter (fun k => k / 2 ^ 42 != fn))) } }

/-- A FEVAL of a thread. -/
def Thread.feval (th : Thread) (id : Nat) : Option FevalOp := th.fevals.find? (fun o => o.id = id)

/-- NODE_FILL_RETURN: a line that is among the 32 fills outstanding arrives; every FEVAL of the unit that lacks it has it. -/
def execNodeFillReturn (t : Thr) (eval line : Nat) (s : State) : Out :=
  .next (match s.grp t.gid with
    | none => s
    | some g =>
      match (g.th t.idx).bind (·.feval eval) with
      | none => s
      | some o =>
        if !(o.fills.take 32).contains line then s
        else
          let s := { s with groups := s.groups.map (fun (p : Nat × Grp) =>
            if p.2.fn = g.fn then
              (p.1, { p.2 with threads := p.2.threads.map (fun (q : Nat × Thread) => (q.1, { q.2 with fevals := q.2.fevals.map (fun (e : FevalOp) =>
                if e.unit = o.unit then { e with fills := e.fills.filter (· != line) } else e) })) })
            else p) }
          ({ s with ms := s.ms.fillNode o.unit (nodeKey g.fn line) }).fnCount g.fn FOR_NODE_FILLS 1)

/-! ### FEVAL_COMPLETE (R251, R252, R255, R257, R261) -/

/-- The exact sum of a record's output from the leaves that its walks reached. -/
def sumOf (o : FevalOp) (leaves : List (List Byte)) (out : Nat) : Xa :=
  let x := if o.addBase then (Xa.zero.addValue (f32Dec (fhBase o.header out))).normalise else Xa.zero
  leaves.foldl (fun x b => (x.addValue (f32Dec (BitVec.ofNat 32 (fieldAt b (4 + 4 * out) 4)))).normalise) x

/-- The addends with which a sum joins a Fold element: flags, valid bins or 32-bit windows of an extended sum; a zero sum joins as
zero. -/
def Xa.addends (x : Xa) : List Fv :=
  let flags := (if x.nan then [Fv.nan] else []) ++ (if x.pinf then [Fv.inf false] else []) ++ (if x.ninf then [Fv.inf true] else [])
  let parts := match x.ext with
    | some e => (List.range 24).filterMap (fun t =>
        let w := e.natAbs / 2 ^ (32 * t) % 2 ^ 32
        if w = 0 then none else some (Fv.fin (e < 0) (w * 2 ^ (32 * t))))
    | none => ([x.bin0, x.bin1, x.bin2].filterMap id).map (fun b => Fv.ofInt b.value)
  let all := flags ++ parts
  if all.isEmpty then [.fin false 0] else all

/-- A sum joins the element of its location as an ATOM.ADD of type FP32 would. -/
def State.joinSum (s : State) (t : Thr) (tgt : Tgt) (x : Xa) : State :=
  match s.grp t.gid with
  | none => s
  | some g =>
    if g.phase == .stopping then s
    else if g.xaClash tgt tyFP32 then s.raise t xIllegal tgt.key.2
    else x.addends.foldl (fun s v => s.exactAdd t.gid tgt tyFP32 v) s

/-- The outputs of a FEVAL: record, output and sum, in order. -/
def fevalSums (o : FevalOp) (ws : List (List Walk)) : List Xa :=
  (ws.map (fun w =>
    let leaves := w.filterMap (fun x => match x.stop with
      | .leaf b => some b
      | _ => none)
    (List.range (fhOutputs o.header)).map (sumOf o leaves))).flatten

def execFevalComplete (t : Thr) (eval : Nat) (s : State) : Out :=
  .next (match s.grp t.gid with
    | none => s
    | some g =>
      match (g.th t.idx).bind (·.feval eval) with
      | none => s
      | some o =>
        if !o.fills.isEmpty || !(g.phase == .running || g.phase == .saving) then s
        else
          let ws := s.walks g.fn o
          let all := ws.flatten
          let s0 := s.modTh t (fun th => { th with fevals := th.fevals.filter (fun e => e.id != eval) })
          if all.any (fun w => w.stop == .poison) then s0.memPoison t.gid none
          else match lowest (all.filterMap (fun w => match w.stop with
            | .exc c => some c
            | _ => none)) with
          | some c => if c = xTranslation then s0.raiseXlate t o.ensemble xcUnmapped false else s0.raise t c 0
          | none =>
            let sums := fevalSums o ws
            let levels := (all.map (·.levels)).sum
            let spans := (sums.filter (fun x => x.ext.isSome)).length
            let st := some (s.streamOf g)
            let s1 := (((s0.fnCount64 g.fn FOR_PAIR_LEVELS levels).fnCount g.fn FOR_SPAN_OVERFLOWS spans).tallyP g.fn st 0x08 levels).tallyP
              g.fn st 0x06 spans
            let s2 := if o.outFold then (o.outs.zip sums).foldl (fun s p => s.joinSum t p.1 p.2) s1
              else s1.store (coreAddr (g.globalCore (g.coreOf t.idx)) o.outOff)
                ((sums.map (fun x => leBytes 4 (match tyFmt tyFP32 with
                  | some f => x.readOut f .rne 0
                  | none => 0))).flatten)
            ((s2.openWindows t.gid t.idx 1).countFeval g.fn o.issuedAt).settleGroup t.gid)

end Sys2Proof.Machine
end

