-- ==== Sys2Proof/Machine/Intake.lean ====
section
/-! DEFINITION. The stile: slots, the checks on a sealed record, refusals, acceptance, and the ring heads (R43 to R64, R70 to R74,
R96, R97, R106, R110, R272, R395, R397, R425, R446 to R448, R559, R597, R628). -/

namespace Sys2Proof.Machine
open Sys2Proof

/-! ### Check 3 (R49 to R53, R61, R67, R105 to R107, R271, R272, R394 to R397, R446): the words that fail -/

/-- The words of the reserved bytes from `lo` up to `hi` that are not zero. -/
def resv (r : List Byte) (lo hi : Nat) : List Nat :=
  ((List.range (hi - lo)).map (· + lo)).filterMap (fun i => if byteAt r i == 0 then none else some (i / 8))
def bad (word : Nat) (b : Bool) : List Nat := if b then [word] else []

def workWords (r : List Byte) : List Nat :=
  let inA := fieldAt r 40 8
  let inL := fieldAt r 48 4
  let outL := fieldAt r 52 4
  let outA := fieldAt r 56 8
  let keys := fieldAt r 68 1
  let inl := fieldAt r 104 4
  bad 4 (fieldAt r 32 4 = 0) ++ bad 5 (inL = 0 && inA ≠ 0) ++ bad 6 (outL = 0 && outA ≠ 0) ++
    bad 5 (inL ≠ 0 && outL ≠ 0 && inA < outA + outL && outA < inA + inL) ++ bad 8 (4 < keys) ++ resv r 69 72 ++
    bad 8 (keys ≤ 4 && !zeroAt r (72 + 8 * keys) (32 - 8 * keys)) ++
    (if inl < 140 then bad 13 (!zeroAt r (108 + inl) (140 - inl)) else [])

def bindWords (r : List Byte) : List Nat :=
  bad 4 (fieldAt r 32 8 % 4096 ≠ 0) ++ bad 5 (fieldAt r 40 1 < 6 || 16 < fieldAt r 40 1) ++ resv r 41 48 ++
    bad 6 (fieldAt r 48 8 % 4096 ≠ 0) ++ bad 7 (fieldAt r 56 1 < 6 || 20 < fieldAt r 56 1) ++ resv r 57 248

def programWords (r : List Byte) : List Nat :=
  let len := fieldAt r 48 8
  bad 4 (fieldAt r 32 4 = 0) ++ resv r 36 40 ++ bad 5 (fieldAt r 40 8 % 64 ≠ 0 || (len = 0 && fieldAt r 40 8 ≠ 0)) ++
    bad 6 (len = 0 || 16777216 < len) ++ bad 7 (fieldAt r 56 8 % 4096 ≠ 0) ++ bad 6 (len ≤ fieldAt r 64 4) ++
    bad 8 (fieldAt r 64 4 % 8 ≠ 0 || fieldAt r 68 2 = 0 || 256 < fieldAt r 68 2 || fieldAt r 70 1 = 0 || 16 < fieldAt r 70 1 ||
      4 < fieldAt r 71 1) ++
    bad 9 (fieldAt r 72 4 % 4096 ≠ 0 || 393216 < fieldAt r 72 4 || fieldAt r 76 4 % 4096 ≠ 0) ++ bad 10 (3 < fieldAt r 80 1) ++ resv r 81 248

def isPasture (r : List Byte) : Bool := recType r = tLoadWeights && bitOf (fieldAt r 36 1) 0
def isAttach (r : List Byte) : Bool := recType r = tLoadWeights && bitOf (fieldAt r 36 1) 1

def weightWords (r : List Byte) : List Nat :=
  let len := fieldAt r 48 8
  let fl := fieldAt r 36 1
  bad 4 (fieldAt r 32 4 = 0 || 3 ≤ fl || (if fl = 0 then fieldAt r 37 1 ≠ 0 else 63 < fieldAt r 37 1)) ++ resv r 38 40 ++
    bad 5 (fieldAt r 40 8 % 64 ≠ 0 || (len = 0 && fieldAt r 40 8 ≠ 0)) ++
    bad 4 (if isAttach r then len ≠ 0 else len = 0) ++ bad 7 (fieldAt r 56 8 % 4096 ≠ 0) ++
    bad 4 (isPasture r && fieldAt r 56 8 ≠ 0) ++ resv r 64 248

def tableWords (r : List Byte) : List Nat :=
  let va := fieldAt r 32 8
  let target := fieldAt r 45 1
  bad 4 (privVa ≤ va || (fieldAt r 44 1 ≤ 3 && va % tuSize r ≠ 0)) ++
    bad 5 (3 < fieldAt r 44 1 || 2 < target || 1 < fieldAt r 46 1 || fieldAt r 47 1 ≠ 0 || (target ≠ 1 && bitOf (fieldAt r 46 1) 0) ||
      (target ≠ 1 && fieldAt r 48 8 ≠ 0) || (target = 1 && fieldAt r 44 1 ≤ 3 && fieldAt r 48 8 % tuSize r ≠ 0)) ++ resv r 56 248

def invalidateWords (r : List Byte) : List Nat :=
  bad 4 (fieldAt r 32 8 % 4096 ≠ 0) ++ bad 5 (fieldAt r 40 8 % 4096 ≠ 0) ++
    bad 4 (bitOf (fieldAt r 48 1) 0 && (fieldAt r 32 8 ≠ 0 || fieldAt r 40 8 ≠ 0)) ++ bad 6 (1 < fieldAt r 48 1) ++ resv r 49 248

/-- The words of the body that fail, by type; a reserved type fails at word 0. -/
def bodyWords (r : List Byte) : List Nat :=
  let t := recType r
  if t = tNop || t = tAuditClose || t = tResume then resv r 32 248
  else if t = tBind then bindWords r
  else if t = tWork then workWords r
  else if t = tLoadProgram then programWords r
  else if t = tLoadWeights then weightWords r
  else if t = tUnload then bad 4 (fieldAt r 32 4 = 0) ++ resv r 36 248
  else if t = tTableUpdate then tableWords r
  else if t = tInvalidate then invalidateWords r
  else if t = tDirInsert then
    bad 5 (fieldAt r 40 8 % 16 ≠ 0 || privVa ≤ fieldAt r 40 8 || (fieldAt r 48 4 = 0 && fieldAt r 40 8 ≠ 0)) ++ resv r 52 248
  else if t = tDirDelete then bad 5 (1 < fieldAt r 40 8) ++ resv r 48 248
  else if t = tQuiesce then bad 4 (10000000 < fieldAt r 32 4) ++ resv r 36 248
  else [0]

/-- The first word that fails check 3. -/
def check3 (r : List Byte) : Option Nat :=
  lowest (bad 0 (fieldAt r 1 1 ≠ 1 || 1 < fieldAt r 2 1 || 15 < fieldAt r 3 1) ++ resv r 10 12 ++ resv r 20 32 ++ bodyWords r)

/-- Check 1 (R49, R57). -/
def sealOk (r : List Byte) : Bool := fieldAt r 248 4 = recSeq r % 2 ^ 32 && fieldAt r 252 4 = (crc32c (r.take 252)).toNat

/-! ### Check 7 (R61, R106, R272, R395, R397): the lowest offset that fails -/

def State.check7 (s : State) (fn : Nat) (r : List Byte) : Option Nat :=
  let t := recType r
  let window := s.fnNat fn PDK_IMAGE_SIZE * mib
  if t = tWork then
    lowest ((if 67108864 < inLen r || 2 ^ 48 < inAddr r + inLen r then [48] else []) ++
      (if 2 ^ 48 < outAddr r + outLen r || s.fnNat fn JRN_RELEASE_MAX < outLen r + fieldAt r 64 4 then [52] else []) ++
      (if 140 < fieldAt r 104 4 then [104] else []))
  else if t = tLoadProgram || t = tLoadWeights then
    if isPasture r then (if fieldOf (s.hubNat MCT_PASTURE_CFG) 16 16 * gib < fieldAt r 48 8 then some 48 else none)
    else if isAttach r then
      match s.pastureHandle (fieldAt r 37 1) with
      | some h => if h.st == .loaded && window < fieldAt r 56 8 + h.len then some 56 else none
      | none => none
    else if window < fieldAt r 56 8 + fieldAt r 48 8 then some 48 else none
  else if t = tTableUpdate then
    if fieldAt r 40 4 ≠ 0 && (1048576 < fieldAt r 40 4 || privVa < fieldAt r 32 8 + fieldAt r 40 4 * tuSize r) then some 40 else none
  else if t = tInvalidate then (if 2 ^ 48 < fieldAt r 32 8 + fieldAt r 40 8 then some 40 else none)
  else if t = tDirInsert then
    if 16777216 < fieldAt r 48 4 || 2 ^ 48 < fieldAt r 40 8 + fieldAt r 48 4 then some 48 else none
  else none

/-! ### Check 8 (R61, R62, R110, R272, R395, R447, R559, R563, R571, R597) -/

/-- The state of the TDI of a VF (R557). -/
def State.tdi (s : State) (n : Nat) : Nat := s.hubNat (SEC_TDI_STATE + 4 * n) % 4
def tdiUnlocked : Nat := 0
def tdiLocked : Nat := 1
def tdiRun : Nat := 2
def tdiError : Nat := 3

/-- What the state of the module and of the paddock refuses whatever the record says. -/
def State.modeRefuses (s : State) (fn : Nat) (r : List Byte) : Option Nat :=
  let isBind := recType r = tBind
  if s.safe then some 0x60
  else if s.sec.trans.isSome then some 0x52
  else if isBind && s.sec.scrubbing.contains fn then some 0x51
  else if s.confidential fn && fn ≠ 0 && (if isBind then s.tdi fn = tdiUnlocked else s.tdi fn ≠ tdiRun) then some 0x50
  else if isBind && (s.fn fn).pdk = pdkEmpty then some 0x05
  else none

def Fn.bindRefuses (f : Fn) : Option Nat :=
  if !f.bound then none
  else if f.entries.any (fun p => p.2.st == .accepted || p.2.st == .releasing) then some 0x06
  else if f.nextRing ≠ f.nat STL_RING_HEAD then some 0x07
  else if f.nat STL_AUDIT_HEAD < f.audit.next then some 0x08
  else none

def Fn.quiescing (f : Fn) : Bool := f.pdk = pdkQuiescing || f.pdk = pdkQuiesced

/-- A handle that counts as loaded, of a kind that suits. -/
def Fn.loadedAs (f : Fn) (h : Nat) (ok : HandleKind → Bool) : Bool :=
  match f.handles.find h with
  | some x => x.st == .loaded && ok x.kind
  | none => false

def State.workRefuses (s : State) (fn : Nat) (r : List Byte) : Option Nat :=
  let f := s.fn fn
  if f.quiescing then some 0x03
  else if !f.loadedAs (fieldAt r 32 4) (· == .program) then some 0x01
  else if fieldAt r 36 4 ≠ 0 && !f.loadedAs (fieldAt r 36 4) (fun k => k == .weights || k == .attach) then some 0x02
  else if !f.hirselList.any s.hirselComplete then some 0x04
  else none

/-- The range of the image window that a handle holds. -/
def Handle.window (h : Handle) : Nat × Nat := if h.kind == .pasture then (0, 0) else (h.offset, h.len)

/-- The range of the window that a load is to take. -/
def State.loadWindow (s : State) (r : List Byte) : Nat × Nat :=
  if isPasture r then (0, 0)
  else if isAttach r then (fieldAt r 56 8, match s.pastureHandle (fieldAt r 37 1) with
    | some h => h.len
    | none => 0)
  else (fieldAt r 56 8, fieldAt r 48 8)

/-- The lowest free range of the pasture area, first fit. -/
def State.pastureFree (s : State) (n : Nat) : Option Nat :=
  let used := ((s.fn 0).handles.filter (fun h => h.2.kind == .pasture)).map (fun h => (h.2.offset, h.2.offset + h.2.len))
  let ok := fun b => b + n ≤ fieldOf (s.hubNat MCT_PASTURE_CFG) 16 16 * gib && used.all (fun u => u.2 ≤ b || b + n ≤ u.1)
  lowest ((0 :: used.map (·.2)).filter ok)

def Fn.openLoads (f : Fn) : Nat :=
  (f.entries.filter (fun p => p.2.st == .accepted && (recType p.2.record = tLoadProgram || recType p.2.record = tLoadWeights))).length

/-- R110 for a load. -/
def State.loadRefuses (s : State) (fn : Nat) (r : List Byte) : Option Nat :=
  let f := s.fn fn
  let w := s.loadWindow r
  let flags := fieldAt r 80 1
  if f.quiescing then some 0x03
  else if (f.handles.find (fieldAt r 32 4)).isSome then some 0x10
  else if 1024 ≤ f.handles.length then some 0x13
  else if recType r = tLoadProgram && f.hirselList.length < fieldAt r 68 2 then some 0x14
  else if f.handles.any (fun h => meets w.1 w.2 h.2.window.1 h.2.window.2) then some 0x15
  else if isAttach r && !(match s.pastureHandle (fieldAt r 37 1) with
      | some h => h.st == .loaded
      | none => false) then some 0x17
  else if isPasture r && (fn ≠ 0 || (s.pastureHandle (fieldAt r 37 1)).isSome) then some 0x18
  else if 4096 ≤ f.measLog.length + f.openLoads then some 0x19
  else if recType r = tLoadProgram && ((bitOf flags 0 && !bitOf (f.nat PDK_COMMONS) 7) || (bitOf flags 1 && f.nat PDK_TEAM % 64 = 0)) then
    some 0x1A
  else if isPasture r && (s.pastureFree (fieldAt r 48 8)).isNone then some 0x1B
  else none

/-- R110 for an UNLOAD. -/
def State.unloadRefuses (s : State) (fn : Nat) (r : List Byte) : Option Nat :=
  let f := s.fn fn
  let h := fieldAt r 32 4
  if f.quiescing then some 0x03
  else match f.handles.find h with
    | none => some 0x11
    | some x =>
      if x.st != .loaded then some 0x11
      else if f.entries.any (fun p => (p.2.st == .accepted || p.2.st == .releasing) && recType p.2.record = tWork &&
          (fieldAt p.2.record 32 4 = h || fieldAt p.2.record 36 4 = h)) then some 0x12
      else if fn = 0 && x.kind == .pasture && s.fns.any (fun q => q.1 ≠ 0 && q.2.handles.any (fun y => y.2.kind == .attach &&
          y.2.pasture = x.pasture)) then some 0x16
      else none

/-- Bytes that two ranges share. -/
def shared (a n b m : Nat) : Nat := min (a + n) (b + m) - max a b

/-- A LOCAL range lies wholly in one of the regions of R387. -/
def State.localRange (s : State) (fn a n : Nat) : Bool :=
  let c := s.fnNat fn PDK_COMMONS
  let hbm := s.capBase fn ≤ a && a + n ≤ s.imageBase fn
  let priv := s.fnNat fn PDK_PRIVATE_SIZE * 1024
  let sl := s.slices fn 2
  let scratch := (((List.range sl.length).zip sl).map (fun p =>
    let skip := min 0x800000 (priv - p.1 * 0x800000)
    shared a n (scratchBase + p.2 * 0x800000 + skip) (0x800000 - skip))).sum = n
  let win := bitOf c 7 && siteWindow (c % 32) ≤ a && a + n ≤ siteWindow (c % 32) + 2 ^ 40
  hbm || scratch || win

/-- Tables that an update may need: one per block of each level from that above its pages that it touches. -/
def tablesNeeded (r : List Byte) : Nat :=
  let va := fieldAt r 32 8
  let n := fieldAt r 40 4 * tuSize r
  if n = 0 then 0
  else (((List.range 3).filter (fun l => tuLevel r ≤ l)).map (fun l =>
    (va + n - 1) / 2 ^ (12 + 9 * (l + 1)) + 1 - va / 2 ^ (12 + 9 * (l + 1)))).sum

def State.tableRefuses (s : State) (fn : Nat) (r : List Byte) : Option Nat :=
  let f := s.fn fn
  if f.quiescing then some 0x03
  else if recType r = tInvalidate || fieldAt r 40 4 = 0 then none
  else if fieldAt r 45 1 = 1 && !s.localRange fn (fieldAt r 48 8) (fieldAt r 40 4 * tuSize r) then some 0x30
  else
    let promised := ((f.entries.filter (fun p => p.2.st == .accepted && recType p.2.record = tTableUpdate)).map
      (fun p => tablesNeeded p.2.record)).sum
    if f.nat XLT_TABLE_MIB * 256 < f.tables.length + 1 + promised + tablesNeeded r then some 0x31 else none

/-- Directory records accepted and not committed. -/
def Fn.openDir (f : Fn) : List (Nat × JEntry) := f.entries.filter (fun p => p.2.st == .accepted && isDirRec p.2.record)

/-- The lookup of the stile for a DIR_INSERT: whether its key has a slot, and the bucket's damage if its page cannot be read. -/
def State.stileLookup (s : State) (fn : Nat) (key : W64) : DirFound × State := s.lookupResult fn (s.startLookup fn 0 none 0 key)

/-- R272; the state carries a bucket found DAMAGED and the count of full buckets. -/
def State.dirRefuses (s : State) (fn : Nat) (r : List Byte) : Option Nat × State :=
  let f := s.fn fn
  let key := dirKey r
  if f.quiescing then (some 0x03, s)
  else if f.nat DIR_ENTRIES = 0 then (some 0x22, s)
  else if 64 ≤ f.openDir.length then (some 0x21, s)
  else
    let b := (s.dirPlace fn key).1
    if (s.dirEntry fn b).st == .damaged then (if dirWhole r then (none, s) else (some 0x23, s))
    else if recType r = tDirInsert then
      match s.stileLookup fn key with
      | (.damaged, s) => (some 0x23, s)
      | (.found _ _, _) => (none, s)
      | (.notFound, s) =>
        let adds := (f.openDir.filter (fun p => recType p.2.record = tDirInsert && (s.dirPlace fn (dirKey p.2.record)).1 = b)).length
        if 256 ≤ (s.dirEntry fn b).count + adds then (some 0x20, s) else (none, s)
    else (none, s)

/-- Check 8: the reason for a refusal. -/
def State.check8 (s : State) (fn : Nat) (r : List Byte) : Option Nat × State :=
  let f := s.fn fn
  let t := recType r
  match s.modeRefuses fn r with
  | some d => (some d, s)
  | none =>
    if t = tBind then (f.bindRefuses, s)
    else if t = tWork then (s.workRefuses fn r, s)
    else if t = tLoadProgram || t = tLoadWeights then (s.loadRefuses fn r, s)
    else if t = tUnload then (s.unloadRefuses fn r, s)
    else if isTable r then (s.tableRefuses fn r, s)
    else if isDirRec r then s.dirRefuses fn r
    else if t = tQuiesce then (if f.quiescing then some 0x03 else none, s)
    else if t = tResume then (if f.pdk = pdkQuiesced then none else some 0x40, s)
    else (none, s)

/-! ### The outcome of the checks (R56 to R60) -/

inductive Verdict where
  | refuse (status detail : Nat)
  | unbound
  | dup
  | hold
  | wait
  | accept (entry : Nat)
  deriving DecidableEq, Repr

/-- The lowest free journal entry. -/
def Fn.freeEntry (f : Fn) : Option Nat := (List.range (f.nat JRN_CAPACITY)).find? (fun e => (f.entries.find e).isNone)

/-- Checks 7 to 9. The stile takes them, and the journal write that follows, for one record of a function at a time
(assumption 21). -/
def State.lateChecks (s : State) (fn : Nat) (r : List Byte) : Verdict × State :=
  let f := s.fn fn
  if f.slots.any (fun x => x.2.accepting.isSome) then (.wait, s)
  else match s.check7 fn r with
    | some d => (.refuse stLength d, s)
    | none =>
      match s.check8 fn r with
      | (some d, s) => (.refuse stState d, if d = 0x20 then s.fnCount fn DIR_FULL_REFUSALS 1 else s)
      | (none, s) =>
        match f.freeEntry with
        | some e => if 256 ≤ f.noticeCount then (.refuse stFull 0, s) else (.accept e, s)
        | none => (.refuse stFull 0, s)

def recordOf (x : Slot) : List Byte := (List.range 256).map (fun i => x.bytes.get 0 i)

/-- d of R56. -/
def Fn.distance (f : Fn) (r : List Byte) : Nat := (recSeq r + 2 ^ 48 - f.watermark (recStream r)) % 2 ^ 48

/-- Checks 5 and 6, then the late ones. -/
def State.orderChecks (s : State) (fn : Nat) (x : Slot) (r : List Byte) : Verdict × State :=
  let d := (s.fn fn).distance r
  if d = 0 || 2 ^ 47 ≤ d then (.dup, s)
  else if d = 1 then s.lateChecks fn r
  else if x.expired || 4096 < d then (.refuse stGap 0, s)
  else (.hold, s)

def State.verdict (s : State) (fn : Nat) (x : Slot) : Verdict × State :=
  let f := s.fn fn
  let r := recordOf x
  if !f.bound && recType r ≠ tBind then (.unbound, s)
  else if x.held then s.orderChecks fn x r
  else if !sealOk r then (.refuse stFormat 31, s)
  else match check3 r with
    | some w => (.refuse stFormat w, s)
    | none => if recEpoch r ≠ f.epoch then (.refuse stEpoch 0, s) else s.orderChecks fn x r

/-! ### What the stile does with an outcome (R46, R58, R63, R71, R97) -/

def Fn.putSlot (f : Fn) (i : Nat) (x : Slot) : Fn := { f with slots := f.slots.set i x }
def Fn.freeSlot (f : Fn) (i : Nat) : Fn := { f with slots := f.slots.del i }
def Fn.slot (f : Fn) (i : Nat) : Slot := f.slots.get Slot.empty i

/-- An outcome of a BIND of an unbound function in STL_BIND_STATE: status and detail where they change, DUP, HELD. -/
def Fn.bindOutcome (f : Fn) (st : Option (Nat × Nat)) (dup held : Bool) : Fn :=
  let v := withField (withField (f.nat STL_BIND_STATE) 1 1 (boolN dup)) 2 1 (boolN held)
  f.putN STL_BIND_STATE (match st with
    | some (status, detail) => withField (withField v 4 4 status) 24 8 detail
    | none => v)

/-- A refusal of the record in a slot; while the notice log is full none is made (R71). -/
def Fn.refuse (f : Fn) (i : Nat) (x : Slot) (status detail : Nat) : Fn :=
  let r := recordOf x
  if !f.bound then ((f.bindOutcome (some (status, detail)) false false).putN STL_UNBOUND_DROPS (sat 0xFFFFFFFF (f.nat STL_UNBOUND_DROPS + 1))).freeSlot i
  else if 256 ≤ f.noticeCount then f
  else
    let st := recStream r
    let img := receiptImage status kindRefusal false st detail i (recSeq r) (f.watermark st) f.epoch (recTag r) noAudit
    ((f.addNotice st img).putN STL_REFUSE_COUNT (sat 0xFFFFFFFF (f.nat STL_REFUSE_COUNT + 1))).freeSlot i

/-- Judge the record sealed in a slot. -/
def State.judge (s : State) (fn i : Nat) : State :=
  let x := (s.fn fn).slot i
  if x.st != .sealed || x.accepting.isSome then s
  else
    match s.verdict fn x with
    | (.refuse status detail, s) => s.modFn fn (fun f => f.refuse i x status detail)
    | (.unbound, s) => (s.fnCount fn STL_UNBOUND_DROPS 1).modFn fn (fun f => f.freeSlot i)
    | (.dup, s) =>
      (s.fnCount fn STL_DUP_COUNT 1).modFn fn (fun f => (if f.bound then f else f.bindOutcome none true false).freeSlot i)
    | (.hold, s) =>
      s.modFn fn (fun f => (if f.bound then f else f.bindOutcome none (bitOf (f.nat STL_BIND_STATE) 1) true).putSlot i { x with held := true })
    | (.wait, s) => s
    | (.accept e, s) =>
      s.modFn fn (fun f => (f.setEntry e { JEntry.empty with record := recordOf x, slot := i, order := f.nextOrder }).putSlot i
        { x with accepting := some e })

/-- Sealed slots that wait, in the order in which they were sealed. -/
def Fn.sealedSlots (f : Fn) : List Nat :=
  let ss := f.slots.filter (fun x => x.2.st == .sealed && x.2.accepting.isNone)
  (ss.foldl (fun (l : List (Nat × Slot)) x =>
    l.takeWhile (fun y => y.2.since ≤ x.2.since) ++ [x] ++ l.dropWhile (fun y => y.2.since ≤ x.2.since)) []).map (·.1)

/-- Judge again what waits in the slots. -/
def State.intake (s : State) (fn : Nat) : State :=
  if s.up && s.boot.ready then (s.fn fn).sealedSlots.foldl (fun s i => s.judge fn i) s else s

/-! ### Writes to the stile (R43 to R46, R425, R628) -/

def setBytes (m : SMap Byte) (cells : List (Nat × Byte)) : SMap Byte :=
  cells.foldl (fun m c => if c.1 < 256 then m.set c.1 c.2 else m) m

/-- A write request to a slot; one that carries byte 255 seals it. -/
def State.slotWrite (s : State) (fn i : Nat) (cells : List (Nat × Byte)) : State :=
  if !s.barOpen fn || 4096 ≤ i then s
  else if !s.boot.ready then s.fnCount fn STL_UNBOUND_DROPS 1
  else
    let s := s.tallyM 0x18 cells.length
    let x := (s.fn fn).slot i
    if x.st == .sealed then s.fnCount fn STL_BUSY_WRITES 1
    else
      let bytes := setBytes x.bytes cells
      if cells.any (fun c => c.1 = 255) then
        (s.modFn fn (fun f => f.putSlot i { Slot.empty with st := .sealed, bytes := bytes, since := s.time })).judge fn i
      else
        s.modFn fn (fun f => f.putSlot i { Slot.empty with st := .filling, bytes := bytes, since := if x.st == .free then s.time else x.since })

/-- An Advisory Non-Fatal Error of a function: Poisoned TLP Received (R425, R436; assumption 12). -/
def State.poisonedWrite (s : State) (fn : Nat) : State := ((s.aerUnc fn 12).aerCor fn 13).send (.err fn 0)

def execStileWrite (fn slot : Nat) (poisoned : Bool) (cells : List (Nat × Byte)) (s : State) : Out :=
  .next (if poisoned then (if s.up then s.poisonedWrite fn else s) else s.slotWrite fn slot cells)

def execRecordSeal (fn slot : Nat) (cells : List (Nat × Byte)) (s : State) : Out := .next (s.slotWrite fn slot cells)

/-- SLOT_ABANDON: a slot has been FILLING for 10 ms. -/
def execSlotAbandon (fn slot : Nat) (s : State) : Out :=
  .next (
    let x := (s.fn fn).slot slot
    if s.up && x.st == .filling && x.since + 10000000 ≤ s.time then
      (s.fnCount fn STL_ABANDONED 1).modFn fn (fun f => f.freeSlot slot)
    else s)

/-- GAP_HOLD_EXPIRY: a record has been held for STL_GAP_HOLD µs and is still not next. -/
def execGapHoldExpiry (fn slot : Nat) (s : State) : Out :=
  .next (
    let x := (s.fn fn).slot slot
    if s.up && s.boot.ready && x.st == .sealed && x.held && x.since + s.fnNat fn STL_GAP_HOLD * 1000 ≤ s.time then
      (s.modFn fn (fun f => f.putSlot slot { x with expired := true })).judge fn slot
    else s)

/-! ### Acceptance (R63, R73, R108, R448) -/

/-- The handle that an accepted load takes. -/
def State.newHandle (s : State) (r : List Byte) : Handle :=
  let isProg := recType r = tLoadProgram
  let n := fun off w => if isProg then fieldAt r off w else 0
  { st := .loading,
    kind := if isProg then .program else if isPasture r then .pasture else if isAttach r then .attach else .weights,
    offset := if isPasture r then (s.pastureFree (fieldAt r 48 8)).getD 0 else fieldAt r 56 8,
    len := if isAttach r then (s.loadWindow r).2 else fieldAt r 48 8,
    digest := [], pasture := fieldAt r 37 1, entry := n 64 4, hirsels := n 68 2, threads := n 70 1, accTiles := n 71 1,
    coreStore := n 72 4, priv := n 76 4, usesCommons := bitOf (n 80 1) 0, usesTeam := bitOf (n 80 1) 1 }

/-- What acceptance does beyond the journal entry, by type. -/
def State.acceptEffects (s : State) (fn e : Nat) (j : JEntry) : State :=
  let r := j.record
  let t := recType r
  let h := fieldAt r 32 4
  if t = tLoadProgram || t = tLoadWeights then
    let x := s.newHandle r
    s.modFn fn (fun f => ({ f with handles := f.handles.set h x } : Fn).noteHandles)
  else if t = tUnload then
    s.modFn fn (fun f => { f with handles := f.handles.map (fun (p : Nat × Handle) => if p.1 = h then (p.1, { p.2 with st := .unloading }) else p) })
  else if t = tQuiesce then
    (s.modFn fn (fun f => { (f.putN PDK_STATE pdkQuiescing) with quiesce := some ⟨some e, s.time, fieldAt r 32 4, j.order, []⟩ })).noteLtr
  else if t = tBind then s.modFn fn (fun f => if f.bound then f else f.bindOutcome (some (stOk, fieldOf (f.nat STL_BIND_STATE) 24 8)) false false)
  else s

/-- An entry is durable where it must be: the record is accepted. -/
def State.acceptEntry (s : State) (fn e : Nat) (j : JEntry) : State :=
  let st := recStream j.record
  let s := s.modFn fn (fun f =>
    let j := { j with st := .accepted, order := f.nextOrder }
    let f := ({ f with nextOrder := f.nextOrder + 1 } : Fn).setEntry e j
    let f := f.putN (STL_WATERMARK + 8 * st) (recSeq j.record)
    if (f.slot j.slot).accepting = some e then f.freeSlot j.slot else f)
  let s := s.tallyP fn (some st) 0x00 1
  match s.entry fn e with
  | some j => ((s.acceptEffects fn e j).progress fn).intake fn
  | none => s

/-- The twins in which an entry must be durable (R63, R75). -/
def Fn.journalSingle (f : Fn) : Bool := f.nat JRN_STATUS % 4 = 1

/-- JOURNAL_ENTRY_WRITTEN. -/
def execJournalEntryWritten (fn entry : Nat) (twinA twinB : Bool) (s : State) : Out :=
  .next (match s.entry fn entry with
    | none => s
    | some j =>
      if j.st != .free || !s.running then s
      else
        let j := { j with twinA := j.twinA || twinA, twinB := j.twinB || twinB }
        if (j.twinA && j.twinB) || ((s.fn fn).journalSingle && (j.twinA || j.twinB)) then s.acceptEntry fn entry j
        else s.modFn fn (fun f => f.setEntry entry j))

/-! ### Watermark receipts (R70, R71) -/

/-- A watermark receipt of a stream is built and not yet written. -/
def Fn.wmPending (f : Fn) (st : Nat) : Bool :=
  f.notices.any (fun n => fieldOf (fieldAt n.image 0 4) 25 3 = kindWatermark && fieldOf (fieldAt n.image 0 4) 20 4 = st &&
    (n.index + 2 ^ 32 - f.ringWritten) % 2 ^ 32 < 2 ^ 31)

def Fn.watermarkReceipt (f : Fn) (st : Nat) : Fn :=
  if f.watermark st = f.wmAtReceipt.get 0 st || f.wmPending st || 256 ≤ f.noticeCount then f
  else f.addNotice st (receiptImage stOk kindWatermark false st 0 0 (f.watermark st) (f.watermark st) f.epoch 0 noAudit)

/-- WATERMARK_TICK: module time is a multiple of STL_WM_PERIOD µs. -/
def execWatermarkTick (fn : Nat) (s : State) : Out :=
  .next (
    let p := s.fnNat fn STL_WM_PERIOD
    if s.running && (s.fn fn).bound && p ≠ 0 && s.time % (p * 1000) = 0 then
      s.modFn fn (fun f => (List.range 16).foldl (fun f st => f.watermarkReceipt st) f)
    else s)

/-! ### The ring heads (R71, R74, R96) -/

/-- Whether a receipt index lies from the old head up to the new one. -/
def passed (old new i : Nat) : Bool := (i + 2 ^ 32 - old) % 2 ^ 32 < (new + 2 ^ 32 - old) % 2 ^ 32

/-- Entries and notices whose receipts the head has passed return to FREE. -/
def Fn.passHead (f : Fn) (old new : Nat) : Fn :=
  { f with entries := f.entries.filter (fun (p : Nat × JEntry) => match p.2.ringIndex with
             | some i => !(p.2.st == .committed && passed old new i)
             | none => true),
           notices := f.notices.filter (fun n => !passed old new n.index) }

def execRingHeadWrite (fn : Nat) (value : W32) (s : State) : Out :=
  .next (
    let f := s.fn fn
    let old := f.nat STL_RING_HEAD
    if !s.barOpen fn || (f.ringWritten + 2 ^ 32 - old) % 2 ^ 32 < (value.toNat + 2 ^ 32 - old) % 2 ^ 32 then s
    else (((s.setFn fn ((f.passHead old value.toNat).putN STL_RING_HEAD value.toNat)).progress fn).intake fn).noteDrained fn)

/-- Audit entries below the head have been read. -/
def execAuditHeadWrite (fn : Nat) (value : W64) (s : State) : Out :=
  .next (
    let f := s.fn fn
    if !s.barOpen fn || value.toNat < f.nat STL_AUDIT_HEAD || f.audit.written < value.toNat then s
    else (s.setFn fn ({ (f.put STL_AUDIT_HEAD value) with
      audit := { f.audit with entries := f.audit.entries.filter (fun (p : Nat × List Byte) => value.toNat ≤ p.1) } })).noteDrained fn)

end Sys2Proof.Machine
end

