-- ==== Sys2Proof/Machine/Records.lean ====
section
/-! DEFINITION. Records that are not WORK, table or directory records: NOP, BIND, AUDIT_CLOSE, loads and unloads, QUIESCE and
RESUME (R50, R52, R68, R89 to R95, R109 to R113, R446 to R453, R457). -/

namespace Sys2Proof.Machine
open Sys2Proof

/-- AFTER: the record starts only once the previous one of its stream is COMMITTED (R49, R64). -/
def Fn.mayStart (f : Fn) (j : JEntry) : Bool := !recAfter j.record || f.prevCommitted j

/-- An accepted record of a type in its turn: every earlier record of its stream has reached RELEASING or COMMITTED. -/
def State.inTurn (s : State) (fn e type : Nat) : Option JEntry :=
  match s.open fn e type with
  | some j => if (s.fn fn).earlierOpen j || !(s.fn fn).mayStart j then none else some j
  | none => none

def execNopRecord (fn entry : Nat) (s : State) : Out :=
  .next (match s.open fn entry tNop with
    | some j => if (s.fn fn).mayStart j then (s.decide fn entry stOk 0).progress fn else s
    | none => s)

/-! ### BIND (R52, R68, R89, R90, R94, R457) -/

/-- The chain begins with its GENESIS entry. -/
def State.genesis (s : State) (fn : Nat) : State :=
  let f := s.fn fn
  if f.audit.started then s
  else
    let img := auditImage aGenesis 0 fn 0 0 f.epoch f.audit.next s.time (leBytes 8 s.serial ++ (s.boot.dFb ++ zeros 48).take 48)
    s.setFn fn { f with audit := { f.audit.push img with started := true, since := 0, sinceAny := true, first := f.audit.next + 1 } }

/-- A carried receipt takes the next index of the new numbering. -/
def Fn.placeCarried (f : Fn) (c : Carried) : Fn :=
  let f' := { f with nextRing := f.nextRing + 1 }
  match c with
  | .entry e => f'.modEntry e (fun j => { j with ringIndex := some f.nextRing, receipt := withPhase j.receipt f.ringLog f.nextRing })
  | .notice img => { f' with notices := f.notices ++ [⟨f.nextRing, withPhase img f.ringLog f.nextRing⟩] }

/-- The rings that a BIND names become current. -/
def Fn.bindRings (f : Fn) (r : List Byte) : Fn :=
  let v := withField (withField (withField (f.nat STL_BIND_STATE) 0 1 1) 8 8 (fieldAt r 40 1)) 16 8 (fieldAt r 56 1)
  let f := (f.putN STL_BIND_STATE v).putN STL_RING_HEAD 0
  let head := f.nat STL_AUDIT_HEAD
  let f := { f with ringAddr := fieldAt r 32 8, auditAddr := fieldAt r 48 8, nextRing := 0, ringWritten := 0, carrying := false, carried := [],
                    audit := { f.audit with origin := head, written := head },
                    xlt := { f.xlt with ringBlocked := false, waits := f.xlt.waits.filter (fun w => w.who != .ring) } }
  f

def execBind (fn entry : Nat) (s : State) : Out :=
  .next (match s.inTurn fn entry tBind with
    | none => s
    | some j =>
      let carried := (s.fn fn).carried
      let s := (s.genesis fn).modFn fn (fun f => carried.foldl Fn.placeCarried (f.bindRings j.record))
      let s := s.modFn fn (fun f => f.addCompletion entry j stOk 0 false f.audit.origin)
      ((s.commitEntry fn entry).progress fn).pump fn)

/-! ### AUDIT_CLOSE (R92) -/

def execAuditClose (fn entry : Nat) (s : State) : Out :=
  .next (match s.inTurn fn entry tAuditClose with
    | none => s
    | some _ =>
      let s := if (s.fn fn).audit.sinceAny then s.checkpoint fn else s
      (s.decide fn entry stOk 0).progress fn)

/-! ### Loads (R105 to R113) -/

/-- Earlier load and unload records of the paddock have executed. -/
def Fn.loadTurn (f : Fn) (j : JEntry) : Bool :=
  f.entries.all (fun p => !(p.2.st == .accepted && p.2.outcome.isNone && p.2.order < j.order && isLoadRec p.2.record))

/-- A load record may execute its steps. -/
def State.loadReady (s : State) (fn e type : Nat) : Option JEntry :=
  match s.open fn e type with
  | some j =>
    let f := s.fn fn
    if f.loadTurn j && f.noStreamTable j && f.noInvalidate j && f.mayStart j then some j else none
  | none => none

/-- The drovers begin to read the source. -/
def State.beginLoad (s : State) (fn e type : Nat) : State :=
  match s.loadReady fn e type with
  | some j => if j.busy then s else (s.modEntry fn e (fun j => { j with busy := true })).pumpLoad fn e
  | none => s

def execLoadProgram (fn entry : Nat) (s : State) : Out := .next (s.beginLoad fn entry tLoadProgram)
def execLoadWeights (fn entry : Nat) (s : State) : Out := .next (s.beginLoad fn entry tLoadWeights)

/-- The image that a load has read, once every piece has come. -/
def imageOf (j : JEntry) : Option (List Byte) :=
  (cut (loadSrc j.record) (copyLen j.record) 4096).foldl (fun acc p =>
    match acc, (j.src.find? (fun q => q.lane = p.1)).bind (·.data) with
    | some bs, some d => some (bs ++ (d ++ zeros p.2).take p.2)
    | _, _ => none) (some [])

/-- The digest of a load (R111). -/
def State.loadDigest (s : State) (r image : List Byte) : List Byte :=
  if recType r = tLoadProgram then sha384 ((r.drop 64).take 32 ++ image)
  else if isAttach r then (match s.pastureHandle (fieldAt r 37 1) with
    | some h => h.digest
    | none => zeros 48)
  else sha384 image

/-- KIND of a measurement log entry (R112). -/
def measKind (r : List Byte) : Nat := if recType r = tLoadProgram then 1 else if isAttach r then 3 else 2

/-- The image goes to its place. -/
def State.placeImage (s : State) (fn : Nat) (r image : List Byte) (h : Handle) : State :=
  if isAttach r then s
  else s.commitAll (if isPasture r then s.pastureBase + h.offset else s.imageBase fn + fieldAt r 56 8) image

/-- The load commits: its handle is LOADED, it is measured and audited, and its receipt is built (R112). -/
def State.commitLoad (s : State) (fn e : Nat) (j : JEntry) (image : List Byte) : State :=
  let r := j.record
  let d := s.loadDigest r image
  match (s.fn fn).handles.find (fieldAt r 32 4) with
  | none => s
  | some h =>
    let s := s.placeImage fn r image h
    let m := leBytes 4 (fieldAt r 32 4) ++ leBytes 1 (measKind r) ++ zeros 11 ++ d
    let s := s.modFn fn (fun f => ({ f with handles := f.handles.set (fieldAt r 32 4) { h with st := .loaded, digest := d },
                                            measLog := f.measLog ++ [m] } : Fn).putN PDK_MEASURE_COUNT (f.measLog.length + 1))
    let f := s.fn fn
    let i := f.audit.next
    let body := if recType r = tLoadProgram then d else zeros 48 ++ d
    let img := auditImage aLoad 0 fn (recStream r) (recSeq r) f.epoch i s.time body
    let j := { j with audit := img, auditIndex := some i, chain := chainNext f.audit.chain img, busy := false, src := [] }
    let s := (s.pushAudit fn img).modFn fn (fun f => f.addCompletion e j stOk 0 false i)
    (s.commitEntry fn e).progress fn

def execLoadCopyDone (fn entry : Nat) (s : State) : Out :=
  .next (match s.entry fn entry with
    | none => s
    | some j =>
      if !s.running || !j.busy || j.st != .accepted || j.outcome.isSome || (s.fn fn).earlierOpen j then s
      else match imageOf j with
        | some image => s.commitLoad fn entry j image
        | none => s)

def execUnload (fn entry : Nat) (s : State) : Out :=
  .next (match s.loadReady fn entry tUnload with
    | none => s
    | some j =>
      if (s.fn fn).earlierOpen j then s
      else
        let s := match (s.fn fn).handles.find (fieldAt j.record 32 4) with
          | some h => (cut h.offset h.len 4096).foldl (fun (s : State) (p : Nat × Nat) => s.foldDrop (some fn) (s.imageAddr fn (h.offset + p.1)) p.2) s
          | none => s
        let s := s.modFn fn (fun f => ({ f with handles := f.handles.del (fieldAt j.record 32 4) } : Fn).noteHandles)
        ((s.dropNodes fn).decide fn entry stOk 0).progress fn)

/-! ### QUIESCE and RESUME (R448 to R453) -/

/-- QUIESCE: what its acceptance has begun goes on, and it commits when nothing before it is left. -/
def execQuiesce (fn entry : Nat) (s : State) : Out :=
  .next (match s.open fn entry tQuiesce with
    | some _ => s.progress fn
    | none => s)

/-- Stop the groups that are still RUNNING, switched-out groups included, in acceptance order (R448 step 3). -/
def State.stopRunning (s : State) (fn : Nat) : State :=
  ((s.fn fn).inOrder.foldl (fun s p =>
    match s.grp (gidOf fn p.1) with
    | some g =>
      if g.phase == .launching || g.phase == .running || g.phase == .saving || g.phase == .switchedOut then
        s.endRecord (gidOf fn p.1) fn p.1 stQuiesced 0
      else s
    | none => s) s).progress fn

def execQuiesceTimeout (fn : Nat) (s : State) : Out :=
  .next (match (s.fn fn).quiesce with
    | none => s
    | some q => if s.running && (s.fn fn).pdk = pdkQuiescing && q.since + q.timeoutUs * 1000 ≤ s.time then s.stopRunning fn else s)

/-- A quiesce that no record asks for: an FLR, a TDI or a transition (R455, R558, R571), with TIMEOUT_US zero. -/
def State.forceQuiesce (s : State) (fn : Nat) : State :=
  let f := s.fn fn
  if f.pdk = pdkOpen || f.pdk = pdkQuiescing then
    let q : Quiesce := match f.quiesce with
      | some q => { q with timeoutUs := 0, order := f.nextOrder }
      | none => ⟨none, s.time, 0, f.nextOrder, []⟩
    (((s.setFn fn { (f.putN PDK_STATE pdkQuiescing) with quiesce := some q }).noteLtr).progress fn).stopRunning fn
  else s

def execResume (fn entry : Nat) (s : State) : Out :=
  .next (match s.inTurn fn entry tResume with
    | none => s
    | some _ =>
      let s := if (s.fn fn).pdk = pdkQuiesced then (s.fnSetN fn PDK_STATE pdkOpen).noteLtr else s
      (s.decide fn entry stOk 0).progress fn)

end Sys2Proof.Machine
end

