-- ==== Sys2Proof/Machine/Endpoint.lean ====
section
/-! DEFINITION. The PCIe endpoint: completions, resets of functions, interrupts, link power, PTM and its errors (R418 to R465, R556
to R558, R606, R608). -/

namespace Sys2Proof.Machine
open Sys2Proof

/-! ### Completions of the endpoint's reads (R431, R433, R436) -/

def LoadPart.answer (ps : List LoadPart) (i : Nat) (d : List Byte) : List LoadPart :=
  match ps[i]? with
  | some p => ps.set i { p with data := some d }
  | none => ps

/-- Data reach what asked for them: a load of a thread, or else the COLLECT of its group under that number. -/
def State.giveData (s : State) (q : PcieReq) (d : List Byte) : State :=
  match q.use with
  | .dead => s
  | .load e i => s.modEntry q.fn e (fun j => { j with src := LoadPart.answer j.src i d })
  | .input gid i => s.modGrp gid (fun g => { g with input := LoadPart.answer g.input i d })
  | .mcopy gid idx id i => s.modTh ⟨gid, idx⟩ (fun th => { th with mcopies := th.mcopies.map (fun (m : MCopyOp) =>
      if m.id = id then { m with parts := LoadPart.answer m.parts i d } else m) })
  | .thread gid idx id i =>
    let s := s.modTh ⟨gid, idx⟩ (fun th => { th with loads := th.loads.map (fun (l : LoadOp) =>
      if l.id = id then { l with parts := LoadPart.answer l.parts i d } else l) })
    let s := s.modGrp gid (fun g => { g with collect := g.collect.map (fun c =>
      if c.thread = idx && c.id = id then { c with parts := LoadPart.answer c.parts i d } else c) })
    s.collectRead gid

/-- The virtual address of the part of a thread's access that an answer concerns. -/
def Grp.partVa (g : Grp) (idx id i : Nat) : Nat :=
  let parts : List (List LoadPart) := match g.th idx with
    | some th => (th.loads.filter (fun (l : LoadOp) => l.id = id)).map (fun l => l.parts) ++ (th.mcopies.filter (fun (m : MCopyOp) => m.id = id)).map (fun m => m.parts)
    | none => []
  match parts.flatten[i]? with
  | some p => p.tgt.key.2
  | none => 0

/-- An error completion: TRANSLATION for a thread, FAULTED with its code for a load or an input buffer. -/
def State.failRead (s : State) (q : PcieReq) : State :=
  match q.use with
  | .dead => s
  | .load e _ => s.failLoad q.fn e
  | .input gid _ => s.failGroup gid xTranslation
  | .thread gid idx id i => s.raise ⟨gid, idx⟩ xTranslation ((s.grp gid).map (fun g => g.partVa idx id i) |>.getD 0)
  | .mcopy gid idx id i => s.raise ⟨gid, idx⟩ xTranslation ((s.grp gid).map (fun g => g.partVa idx id i) |>.getD 0)

/-- Poisoned data complete the reading record with POISONED. -/
def State.poisonRead (s : State) (q : PcieReq) : State :=
  match q.use with
  | .dead => s
  | .load e _ =>
    match s.entry q.fn e with
    | some j =>
      let s := s.modFn q.fn (fun f => ({ f with handles := f.handles.del (fieldAt j.record 32 4) } : Fn).noteHandles)
      (s.decide q.fn e stPoisoned 0).progress q.fn
    | none => s
  | .input gid _ => s.poisonGroup gid
  | .thread gid _ _ _ => s.poisonGroup gid
  | .mcopy gid _ _ _ => s.poisonGroup gid

def State.dropReq (s : State) (tag : Nat) : State := { s with pce := { s.pce with reqs := s.pce.reqs.del tag } }

/-- An advisory error of a function: uncorrectable status bit and ERR_COR. -/
def State.advisory (s : State) (fn bit : Nat) : State := ((s.aerUnc fn bit).aerCor fn 13).send (.err fn 0)

/-- PCIE_COMPLETION. -/
def execPcieCompletion (tag : Nat) (c : CplResult) (s : State) : Out :=
  .next (if !s.up then s
    else match s.pce.reqs.find tag with
    | none => (s.hubCount PCE_CPL_ERRORS 1).advisory 0 16
    | some q =>
      let s := (s.dropReq tag).tallyM 0x18 c.data.length
      if !c.ok then (s.hubCount PCE_CPL_ERRORS 1).failRead q
      else if c.poisoned then (((s.hubCount PCE_CPL_ERRORS 1).aerUnc q.fn 12).send (.err q.fn 1)).poisonRead q
      else s.giveData q c.data)

def execCompletionTimeout (tag : Nat) (s : State) : Out :=
  .next (match s.pce.reqs.find tag with
    | none => s
    | some q =>
      let s := ((s.dropReq tag).hubCount PCE_CPL_ERRORS 1).hubCount PCE_CPL_TIMEOUTS 1
      ((s.aerUnc q.fn 14).send (.err q.fn 1)).failRead q)

/-! ### R432: requests that wait -/

/-- Requests held under R432 go on, in order, when nothing holds the function any more. -/
def State.resumeHost (s : State) (fn : Nat) : State :=
  if s.pceHeld fn then s
  else
    let mine := s.pce.waiting.filter (fun q => q.fn = fn)
    let s := { s with pce := { s.pce with waiting := s.pce.waiting.filter (fun q => q.fn ≠ fn) } }
    ((mine.foldl State.hostAsk s).retryWaits fn isHeldWait).pump fn

def State.modPceFn (s : State) (fn : Nat) (g : PceFn → PceFn) : State := s.modFn fn (fun f => { f with pce := g f.pce })

/-! ### TDI errors (R558) -/

/-- A locked or running TDI whose configuration changes moves to ERROR: the paddock quiesces and the function issues no request. -/
def State.tdiFail (s : State) (fn : Nat) : State :=
  if fn ≠ 0 && (s.tdi fn = tdiLocked || s.tdi fn = tdiRun) then
    ((s.hubSetN (SEC_TDI_STATE + 4 * fn) tdiError).modPceFn fn (fun p => { p with tdiHold := true })).forceQuiesce fn
  else s

def execBusMasterEnableChange (fn : Nat) (enable : Bool) (s : State) : Out :=
  .next (if !s.up || !s.fnExists fn || (s.fn fn).pce.busMaster == enable then s
    else ((s.modPceFn fn (fun p => { p with busMaster := enable })).tdiFail fn).resumeHost fn)

def execPowerStateChange (fn : Nat) (d3hot : Bool) (s : State) : Out :=
  .next (if !s.up || !s.fnExists fn then s else (s.modPceFn fn (fun p => { p with d3hot := d3hot })).resumeHost fn)

/-! ### Function resets (R423, R454 to R459, R608) -/

/-- An FLR begins: host requests stop, and a paddock that is OPEN or QUIESCING is quiesced, at readiness where that is still to come (R455, R458, R636). -/
def State.beginFlr (s : State) (fn : Nat) : State :=
  if !s.fnExists fn || (s.fn fn).pce.flrBusy then s
  else
    let f := s.fn fn
    let forced := !(f.pdk = pdkEmpty || f.isDrained)
    let s := (s.modPceFn fn (fun p => { p with flrBusy := true })).fnCount fn PCE_FLR_COUNT 1
    let s := s.fnSetN fn PCE_FUNC_STATUS (withField (s.fnNat fn PCE_FUNC_STATUS) 6 1 (boolN forced))
    let s := s.tdiFail fn
    if s.boot.ready then s.forceQuiesce fn else { s with boot := { s.boot with flrDue := fn :: s.boot.flrDue.filter (· != fn) } }

/-- VFs that exist. -/
def State.vfs (s : State) : List Nat := (List.range 32).filter (fun n => n ≠ 0 && s.fnExists n)

def State.flrAll (s : State) (fns : List Nat) : State := fns.foldl State.beginFlr s
def State.vfsOff (s : State) : State :=
  let s := s.flrAll s.vfs
  { s with pce := { s.pce with vfEnable := false } }

def execVfEnableClear (s : State) : Out := .next (if s.up then s.vfsOff else s)

/-- NUMVFS_WRITE. The table has no command that sets VF Enable, so it is set here (assumption 22). -/
def execNumvfsWrite (value : Nat) (s : State) : Out :=
  .next (if !s.up || 31 < value then s
    else
      let s := s.flrAll (s.vfs.filter (fun n => value < n))
      { s with pce := { s.pce with numVfs := value, vfEnable := true } })

def execFlr (fn : Nat) (s : State) : Out :=
  .next (if !s.up || 31 < fn then s
    else if fn = 0 then (s.beginFlr 0).vfsOff
    else s.beginFlr fn)

/-- Receipts built and not consumed are carried, in index order (R457). -/
def Fn.carry (f : Fn) : Fn :=
  if f.carrying then f
  else
    let head := f.nat STL_RING_HEAD
    let items := (List.range ((f.nextRing + 2 ^ 32 - head) % 2 ^ 32)).filterMap (fun k =>
      let i := (head + k) % 2 ^ 32
      match f.notices.find? (fun n => n.index = i) with
      | some n => some (Carried.notice n.image)
      | none => (f.entries.find? (fun (p : Nat × JEntry) => p.2.ringIndex = some i)).map (fun p => Carried.entry p.1))
    { (f.putN PCE_FLR_CARRIED items.length) with
      entries := f.entries.map (fun (p : Nat × JEntry) => (p.1, { p.2 with ringIndex := none })), notices := [], carried := items,
      carrying := true }

/-- The state of the function is cleared (R456). -/
def Fn.flrClear (f : Fn) : Fn :=
  let f := f.carry
  let b := f.nat STL_BIND_STATE
  let f := f.putN STL_BIND_STATE (fieldOf b 24 8 * 2 ^ 24 + fieldOf b 4 4 * 16 + boolN (bitOf b 1) * 2)
  let f := ((f.putN STL_RING_HEAD 0).putN XLT_PASID 0).putN XLT_PRI_STATE 0
  { f with slots := [], held := [], latch := [], ringAddr := 0, auditAddr := 0, nextRing := 0, ringWritten := 0, xlt := Xlt.empty,
           entries := f.entries.filter (fun (p : Nat × JEntry) => p.2.st != .free),
           pce := { PceFn.reset with tdiHold := f.pce.tdiHold } }

/-- A paddock that write-outs to host memory keep from QUIESCED reaches it at the end of its function's reset (R455). -/
def State.endQuiesce (s : State) (fn : Nat) : State :=
  if (s.fn fn).pdk ≠ pdkQuiescing then s
  else
    let q := (s.fn fn).quiesce
    let s := s.checkpoint fn
    let s := match q.bind (·.entry) with
      | some e => (s.modEntry fn e (fun j => { j with outcome := some (stOk, 0) })).settle fn
      | none => s
    let s := s.modFn fn (fun f => { (f.putN PDK_STATE pdkQuiesced) with quiesce := none })
    s.raiseInt intQuiesced

/-- What the function had asked of the host comes back unwanted. -/
def State.dropHost (s : State) (fn : Nat) : State :=
  { s with pce := { s.pce with reqs := s.pce.reqs.map (fun r => if r.2.fn = fn then (r.1, { r.2 with use := .dead }) else r),
                               waiting := s.pce.waiting.filter (fun q => q.fn ≠ fn) } }

/-- A write-out waits for a table walk. -/
def Fn.outWalks (f : Fn) : Bool := f.xlt.waits.any (fun w => w.stage == .walk && (match w.who with
  | .out _ => true
  | _ => false))

/-- FLR_DONE: groups are stopped and write-outs to paddock memory are complete (R458 steps 3 to 5). -/
def execFlrDone (fn : Nat) (s : State) : Out :=
  .next (if !(s.fn fn).pce.flrBusy then s
    else
      let s := s.pumpOut fn
      if (s.fn fn).outWalks then s
      else
        let s := ((if s.boot.ready then s.endQuiesce fn else s).dropHost fn).modFn fn Fn.flrClear
        ((s.raiseInt intFlrDone).noteDrained fn).noteLtr)

/-- The endpoint as the reset of its link leaves it. -/
def Pce.linkReset (p : Pce) (sticky : Bool) : Pce :=
  { Pce.reset with linkUp := p.linkUp, ptmFails := p.ptmFails, ptmDone := p.ptmDone, slew := p.slew, nextTag := p.nextTag, reqs := p.reqs,
                   waiting := p.waiting, aerCor := if sticky then p.aerCor else [], aerUnc := if sticky then p.aerUnc else [],
                   tdiStream := p.tdiStream, corAt := p.corAt }

/-- Every function is reset and the link trains again. -/
def State.resetEndpoint (s : State) (sticky : Bool) : State :=
  let s := (s.flrAll (0 :: s.vfs)).trainPcie
  ({ s with pce := s.pce.linkReset sticky, sec := { s.sec with sessions := if sticky then s.sec.sessions else [] } }).updateInta

def execHotReset (s : State) : Out := .next (if s.up then s.resetEndpoint true else s)

/-- PERST: a warm start as well when PERST_ACTION is 0x01. -/
def execPerst (s : State) : Out :=
  .next (if !s.up then s
    else
      let s := s.resetEndpoint false
      if modPerst s.boot.modRec = 1 then s.startWarm 6 else s)

/-! ### Requests the endpoint does not take (R426, R430) -/

/-- UNSUPPORTED_REQUEST: a read completes with Unsupported Request, a write is discarded. -/
def execUnsupportedRequest (fn : Nat) (posted : Bool) (s : State) : Out :=
  .next (if !s.up then s
    else
      let s := if posted then s else s.send .cplUr
      if s.fnExists fn then (if posted then (s.aerUnc fn 20).send (.err fn 1) else s.advisory fn 20) else s)

/-- BAD_ACCESS: a read returns zero, a write is discarded. -/
def execBadAccess (bar : Bar) (off len : Nat) (fullEnables write : Bool) (s : State) : Out :=
  .next (
    let fn := match bar with
      | .bar2 n => n
      | .bar4 => 0
    let isBad := !((len = 4 || len = 8) && off % len = 0) || (write && !fullEnables)
    if !s.barOpen fn || !isBad then s
    else
      let s := s.hubCount PCE_BAD_ACCESSES 1
      if write then s else s.send (.cpl 0))

/-! ### Interrupts (R434, R435, R461) -/

def execIntStatusClear (ones : W32) (s : State) : Out :=
  .next (if !s.barOpen 0 then s
    else (s.hubSetN PCE_INT_STATUS (s.hubNat PCE_INT_STATUS &&& (0xFFFFFFFF ^^^ ones.toNat))).updateInta)

def execIntEnableWrite (value : W32) (s : State) : Out :=
  .next (if !s.barOpen 0 then s else (s.hubSetN PCE_INT_ENABLE value.toNat).updateInta)

def execInterruptDisableChange (disable : Bool) (s : State) : Out :=
  .next (if !s.up then s else ({ s with pce := { s.pce with intDisable := disable } }).updateInta)

def execIntaHoldoffExpiry (s : State) : Out :=
  .next (if !s.up then s else ({ s with pce := { s.pce with holdoff := false } }).updateInta)

/-! ### Link power (R438 to R440, R462, R463) -/

def execL1Entry (s : State) : Out :=
  .next (if s.up && s.pce.linkUp && s.pce.pm == .l0 then
      ({ s with pce := { s.pce with pm := .l1 } }).hubCount PCE_L1_ENTRIES 1
    else s)

def State.leaveL1 (s : State) : State := if s.up then { s with pce := { s.pce with pm := .l0 } } else s
def execL1Exit (s : State) : Out := .next s.leaveL1
def execClkreqAsserted (s : State) : Out := .next s.leaveL1

def State.activeWidth (s : State) : Nat := fieldOf (s.hubNat PCE_LINK_STATUS) 19 5
def State.setWidth (s : State) (w : Nat) : State :=
  (s.hubSetN PCE_LINK_STATUS (withField (s.hubNat PCE_LINK_STATUS) 19 5 w)).hubCount PCE_L0P_CHANGES 1

/-- The link is in Flit mode, without which L0p is unavailable (R418). -/
def State.flitMode (s : State) : Bool := bitOf (s.hubNat PCE_LINK_STATUS) 10

def execL0pNarrow (s : State) : Out :=
  .next (if s.up && s.flitMode && 2 ^ (s.hubNat PCE_L0P_POLICY % 8) < s.activeWidth then s.setWidth (s.activeWidth / 2) else s)

/-- L0P_WIDEN: to the width negotiated, ×16 on a full link. -/
def execL0pWiden (s : State) : Out :=
  .next (
    let full := fieldOf (s.hubNat PCE_LINK_STATUS) 14 5
    if s.up && s.flitMode && s.activeWidth < full then s.setWidth full else s)

/-! ### PTM and module time (R443, R444) -/

/-- A module that is standalone, or acts as bellwether, follows the host. -/
def State.clockMaster (s : State) : Bool :=
  let b := s.hubNat LNK_BELLWETHER
  (List.range 3).all (fun d => s.torusSize d = 1) || s.nodeId = b % 512 ||
    (bitOf (s.hubNat LNK_TIME_STATUS) 30 && bitOf b 15 && s.nodeId = fieldOf b 16 9)

def execPtmDialogue (s : State) : Out :=
  .next (if s.up && s.pce.linkUp then { s.send .ptmRequest with pce := { s.pce with ptmPending := true } } else s)

/-- An offset is applied: a lag of more than 1 ms steps once where `first`, any other offset is slewed. -/
def State.applyOffset (s : State) (off : Int) (first : Bool) : State :=
  if first && 1000000 < off then { s with time := s.time + off.toNat, pce := { s.pce with slew := 0 } }
  else { s with pce := { s.pce with slew := off } }

def ptmStatus (fails : Nat) (applied valid : Bool) : Nat := fails * 65536 + boolN applied * 2 + boolN valid

/-- PTM_RESPONSE: the offset, or the failure of the dialogue. -/
def execPtmResponse (offset : Option Int) (s : State) : Out :=
  .next (if !s.up || !s.pce.ptmPending then s
    else
      let v := s.hubNat PCE_PTM_STATUS
      let s := { s with pce := { s.pce with ptmPending := false } }
      match offset with
      | none =>
        let n := s.pce.ptmFails + 1
        ({ s with pce := { s.pce with ptmFails := n } }).hubSetN PCE_PTM_STATUS
          (ptmStatus (sat 0xFFFF (fieldOf v 16 16 + 1)) (bitOf v 1) (bitOf v 0 && n < 3))
      | some off =>
        let s := s.hubSet PCE_PTM_OFFSET (BitVec.ofInt 64 off)
        let m := s.clockMaster
        let s := s.hubSetN PCE_PTM_STATUS (ptmStatus (fieldOf v 16 16) m true)
        let s := if m then s.applyOffset off (!s.pce.ptmDone) else s
        { s with pce := { s.pce with ptmFails := 0, ptmDone := true } })

/-! ### Link errors (R436) -/

/-- The AER status bits of the correctable and uncorrectable errors of a link. -/
def linkCor : List Nat := [0, 6, 7, 12, 8]
def linkUnc : List Nat := [18, 13, 4, 17]

/-- PCIE_LINK_ERROR: 0 to 4 Receiver Error, Bad TLP, Bad DLLP, Replay Timer Timeout, REPLAY_NUM Rollover; 5 to 8 Malformed TLP, Flow
Control Protocol Error, Data Link Protocol Error, Receiver Overflow, of which the sheepdog logs an entry. -/
def execPcieLinkError (kind : Nat) (s : State) : Out :=
  .next (if !s.up || 8 < kind then s
    else if kind < 5 then (s.aerCor 0 (linkCor.getD kind 0)).send (.err 0 0)
    else ((s.aerUnc 0 (linkUnc.getD (kind - 5) 18)).send (.err 0 1)).report (hubReport cPcieLink .uc 0x0A 0 0))

end Sys2Proof.Machine
end

