-- ==== Sys2Proof/Machine/Hbm.lean ====
section
/-! DEFINITION. The memory controllers, the Fold's fills and the twins (R75, R284 to R287, R294 to R300, R304, R312 to R315, R341,
R654, R655). -/

namespace Sys2Proof.Machine
open Sys2Proof

/-! ### Stack groups and flows (R324, R339) -/

/-- The status word of a stack (R319). -/
def stackStatus (stack : Nat) : Nat := MCT_STACK_STATUS + 4 * stack

/-- Functions that hold a template. -/
def State.paddocks (s : State) : List Nat := (s.fns.filter (fun (p : Nat × Fn) => !p.2.tmpl.isEmpty)).map (·.1)

def flowMinOf (w : Nat) : Nat := w % 2 ^ 20
def flowWeightOf (w : Nat) : Nat := fieldOf w 24 8

def clsStile : Nat := 3
def clsCommons : Nat := 4
def clsPasture : Nat := 5

/-- The register of a flow (R346, R348). -/
def State.flowReg (s : State) (owner cls : Nat) : Nat :=
  if owner = ownerHub then (if cls < 8 then 0 else s.hubNat (BWG_HUB_FLOW + 4 * (cls - 8))) else s.fnNat owner (BWG_FLOW + 4 * cls)

/-- Six times what a flow's MIN counts in a stack group (R339). -/
def State.flowShare6 (s : State) (owner cls g m : Nat) : Nat :=
  if owner = ownerHub then (if cls = 8 then 6 * m else if cls = 0xB then 0 else m)
  else if cls = clsPasture then
    let t := s.hubNat MCT_TWIN_STATUS
    if fieldOf (s.hubNat MCT_PASTURE_CFG) 16 16 = 0 then 0
    else boolN (fieldOf t 4 4 = g) * 3 * m + boolN (fieldOf t 8 4 = g) * 3 * m
  else if cls = clsStile then
    let j := s.fnNat owner JRN_STATUS
    boolN (fieldOf j 8 8 / 4 = g) * 6 * m + boolN (fieldOf j 16 8 / 4 = g) * 6 * m
  else if bitOf ((s.fn owner).tmplNat 1 1) 0 then (if (s.fn owner).tmplNat 2 1 = g then 6 * m else 0)
  else m

/-- Every flow: paddock flows by class, then those of the hub. -/
def State.allFlows (s : State) : List (Nat × Nat) :=
  (s.paddocks.map (fun n => (List.range 6).map (fun c => (n, c)))).flatten ++ [(ownerHub, 8), (ownerHub, 9), (ownerHub, 0xA)]

/-- Six times A_g (R339). -/
def State.admitted6 (s : State) (g : Nat) : Nat :=
  (s.allFlows.map (fun (x : Nat × Nat) => s.flowShare6 x.1 x.2 g (flowMinOf (s.flowReg x.1 x.2)))).foldl (· + ·) 0

/-- BWG_ADMITTED is recomputed (R341). -/
def State.recomputeAdmitted (s : State) : State :=
  (List.range 6).foldl (fun s g => s.hubSetN (BWG_ADMITTED + 4 * g) ((s.admitted6 g + 5) / 6)) s

/-! ### Codes, errors and poison (R293 to R297, R312, R313) -/

/-- The paddock whose capacity holds an address. -/
def State.holder (s : State) (lpa : Nat) : Option Nat :=
  s.paddocks.find? (fun n => s.capBase n ≤ lpa && lpa < s.capBase n + s.capSize n)

/-- A report about a line of HBM: of the paddock that holds it, or of the hub. -/
def State.lineReport (s : State) (cause : Nat) (cls : FaultClass) (lpa initiator access : Nat) : Report :=
  let phys := s.physId kStack (s.stackOf lpa)
  match s.holder lpa with
  | some n => { padReport cause cls 0x03 phys lpa n access with initiator := initiator }
  | none => { hubReport cause cls 0x03 phys lpa with initiator := initiator, access := access }

/-- Buckets of a paddock whose page lies in a fenced stack become DAMAGED (R276). -/
def State.damageBuckets (s : State) (fn : Nat) : State :=
  ((List.range (s.fnNat fn DIR_ENTRIES)).map (s.fnNat fn DIR_BASE + ·)).foldl (fun s b =>
    let e := s.dirEntry fn b
    if e.st == .active && (cut (dirPage e e.sel) 8192 256).any (fun p => s.stackFenced (dirPage e e.sel + p.1)) then s.makeDamaged fn b
    else s) s

/-- The stack is fenced into the pinfold (R297), and directory pages in it are lost. -/
def State.fenceStack (s : State) (stack : Nat) : State :=
  if s.fencedUnit kStack stack then s
  else
    let s := (s.report (hubReport cStackFenced .uc 0x03 (s.physId kStack stack) 0)).fenceUnit kStack stack cStackFenced
    (s.paddocks.foldl State.damageBuckets s).recomputeAdmitted

/-- An uncorrectable error in a stack counts; more than MCT_UE_FENCE within 1 s fence it (R297, R318). -/
def State.countUe (s : State) (stack : Nat) : State :=
  let s := s.hubCount MCT_UE_COUNT 1
  let l := (stack, s.time) :: s.sdg.stackUe.filter (fun u => s.time < u.2 + 1000000000)
  let s := { s with sdg := { s.sdg with stackUe := l } }
  if s.hubNat MCT_UE_FENCE < (l.filter (fun u => u.1 = stack)).length then s.fenceStack stack else s

/-- A line becomes poisoned, and no cache slice keeps it (R295, R296). -/
def State.spoil (s : State) (lpa : Nat) : State := (s.poisonLine (lineOf lpa)).foldDrop none (lineOf lpa * 64) 64

/-- Twin repair of a pasture line: the other copy is correct (R312). -/
def State.repairTwin (s : State) (lpa initiator : Nat) : State :=
  (s.hubCount MCT_TWIN_REPAIRS 1).report (s.lineReport cTwinRepair .ce lpa initiator 1)

/-- The address in GROUP_A's copy of an address in any copy's pasture area. -/
def State.pastureLine (s : State) (lpa : Nat) : Option Nat :=
  let g := s.hubNat MCT_GLOBAL_UNITS
  let band := 256 - g - s.hubNat MCT_STACK_UNITS
  let size := fieldOf (s.hubNat MCT_PASTURE_CFG) 16 16 * gib
  let base := fun k => (6 * g + (k + 1) * band) * gib - size
  match s.pastureGroups.find? (fun k => base k ≤ lpa && lpa < base k + size) with
  | some k => some (s.pastureBase + (lpa - base k))
  | none => none

/-- What the code says of a line that is read (R294, R295, R312 to R314). -/
def State.lineError (s : State) (lpa initiator access : Nat) (r : EccResult) : State :=
  match r with
  | .clean => s
  | .corrected => (s.hubCount MCT_CE_COUNT 1).report (s.lineReport cHbmCe .ce lpa initiator access)
  | .uncorrectable =>
    if s.poison.contains (lineOf lpa) then s
    else match s.pastureLine lpa with
      | some a =>
        if s.hubNat MCT_TWIN_STATUS % 4 = 0 then (s.repairTwin lpa initiator).countUe (s.stackOf lpa)
        else ((s.spoil a).report (s.lineReport cPasturePoison .uc lpa initiator access)).countUe (s.stackOf lpa)
      | none => ((s.spoil lpa).report (s.lineReport cHbmUe .uc lpa initiator access)).countUe (s.stackOf lpa)

def execPatrolScrubRead (line : Nat) (r : EccResult) (s : State) : Out :=
  .next (if s.up && line * 64 < hbmTop && !s.vacant kStack (s.stackOf (line * 64)) then s.lineError (line * 64) 0 1 r else s)

def execHbmEccPoll (stack count : Nat) (s : State) : Out :=
  .next (if s.up && stack < 24 && !s.vacant kStack stack then
    { s with ms := { s.ms with onDie := s.ms.onDie.set stack (s.ms.onDie.get 0 stack + count) } } else s)

def execHbmChannelLost (stack : Nat) (s : State) : Out := .next (if s.up && stack < 24 then s.fenceStack stack else s)

/-! ### Temperature and refresh (R298, R654, R655, R692) -/

/-- A monitor reports a condition, or the condition has ended (R600). -/
def State.monitor (s : State) (id : Nat) (bad : Bool) : State :=
  if bad then
    (if s.sdg.monitors.contains id then s else { s with sdg := { s.sdg with monitors := id :: s.sdg.monitors } })
  else if s.sdg.monitors.contains id then
    { s with sdg := { s.sdg with monitors := s.sdg.monitors.filter (· != id), monitorSince := s.time } }
  else s

/-- Numbers of the monitors: rails from 0 (R644), sensors of rails, of stacks and of commons, and clocks. -/
def monSensor (rail : Nat) : Nat := 0x100 + rail
def monStack (stack : Nat) : Nat := 0x200 + stack
def monSite : Nat := 0x300
def monClock (pll : Nat) : Nat := 0x400 + pll

/-- THERMAL_TRIP: THERMTRIP_N, and the FT (R655, R692, R704). -/
def State.thermalTrip (s : State) (phys : Nat) : State :=
  ({ s with boot := { s.boot with thermTripAt := some s.time } } : State).report (hubReport cThermalTrip .ft 0x0F phys 0)

/-- The power manager reports a thermal event (R653). -/
def State.thermalEvent (s : State) : State := (s.hubCount PWR_THERM_EVENTS 1).raiseInt intThermal

/-- The refresh mode after a reading (R298). -/
def State.setRefresh (s : State) (stack temp : Nat) : State :=
  let dbl := s.ms.doubled.contains stack
  let n := if temp ≤ 83 then s.ms.cool.get 0 stack + 1 else 0
  let on := 85 < temp || (dbl && n < 10)
  let ms := { s.ms with cool := s.ms.cool.set stack n,
                        doubled := if on then (if dbl then s.ms.doubled else stack :: s.ms.doubled)
                                   else s.ms.doubled.filter (· != stack) }
  ({ s with ms := ms } : State).hubSetN (stackStatus stack) (withField (s.hubNat (stackStatus stack)) 8 2 (boolN on))

/-- A stack above 95 °C is a thermal event, and its group's surplus is halved until it reads 92 °C or below (R654). -/
def State.stackThermal (s : State) (stack temp : Nat) : State :=
  let hot := s.pow.hotStacks.contains stack
  if 95 < temp then
    if hot then s else ({ s with pow := { s.pow with hotStacks := stack :: s.pow.hotStacks } } : State).thermalEvent
  else if temp ≤ 92 && hot then { s with pow := { s.pow with hotStacks := s.pow.hotStacks.filter (· != stack) } }
  else s

def execHbmTempPoll (stack temp : Nat) (s : State) : Out :=
  .next (if !s.up || 24 ≤ stack || s.vacant kStack stack then s
  else
    let s := s.hubSetN (stackStatus stack) (withField (s.hubNat (stackStatus stack)) 16 8 temp)
    let s := ((s.setRefresh stack temp).stackThermal stack temp).monitor (monStack stack) (105 < temp)
    if 105 < temp then s.thermalTrip (s.physId kStack stack) else s)

def execRfmRequest (stack : Nat) (s : State) : Out :=
  .next (if s.up && stack < 24 && !s.vacant kStack stack then s.send (.rfm stack) else s)

/-! ### Engines (R285, R287) -/

/-- An engine's turn of writes: until its write queue is empty or MCT_WRITE_BATCH have been issued; then it reads again. -/
def Engine.drain (e : Engine) (batch : Nat) : Engine :=
  { e with wq := e.wq - min e.wq batch, issued := min e.wq batch, writing := false }

def execWriteAgeExpiry (engine : Nat) (s : State) : Out :=
  .next (if s.up && engine < 1536 then
    let e := (s.ms.engines.get Engine.empty engine).drain (s.hubNat MCT_WRITE_BATCH)
    { s with ms := { s.ms with engines := s.ms.engines.set engine e } }
  else s)

/-! ### Fold fills (R304) -/

/-- The granule's four lines come into the owner's slice. Memory holds what was written, so tags agree with it and writes that
arrived during the fill stand in it (assumption 31). -/
def execFoldFillReturn (owner granule : Nat) (s : State) : Out :=
  .next (if s.up then (List.range 4).foldl (fun s i => s.foldFill owner (granule * 4 + i)) s else s)

/-! ### Twins (R75, R314, R321, R341) -/

/-- The copy into the standby group has ended: it takes the place of the copy that was lost. -/
def execPastureRebuildDone (s : State) : Out :=
  .next (
    let t := s.hubNat MCT_TWIN_STATUS
    let pc := s.hubNat MCT_PASTURE_CFG
    if !s.running || t % 4 = 0 || fieldOf pc 16 16 = 0 then s
    else
      let standby := fieldOf pc 8 4
      match s.ms.pastureLost.find? (fun g => fieldOf t 4 4 = g || fieldOf t 8 4 = g) with
      | some g =>
        let t := if fieldOf t 4 4 = g then withField t 4 4 standby else withField t 8 4 standby
        (s.hubSetN MCT_TWIN_STATUS (withField t 0 2 0)).recomputeAdmitted
      | none => s)

def execJournalRebuildDone (fn : Nat) (s : State) : Out :=
  .next (
    let j := s.fnNat fn JRN_STATUS
    let f := s.fn fn
    if !s.running || j % 4 = 0 || f.tmpl.isEmpty || s.vacant kStack f.standby then s
    else if s.vacant kStack (fieldOf j 8 8) then
      (s.fnSetN fn JRN_STATUS (withField (withField j 8 8 f.standby) 0 2 0)).recomputeAdmitted
    else if s.vacant kStack (fieldOf j 16 8) then
      (s.fnSetN fn JRN_STATUS (withField (withField j 16 8 f.standby) 0 2 0)).recomputeAdmitted
    else s)

/-! ### Margin reports (R315) -/

/-- START names a pseudo-channel; a new request replaces one that is pending. START clears itself. -/
def State.marginRequest (s : State) (value : Nat) : State :=
  let pc := value % 2 ^ 11
  let s := s.hubSetN MCT_MARGIN_SEL pc
  if bitOf value 31 && pc < 1536 then
    { s.hubSetN MCT_MARGIN_RESULT 0 with ms := { s.ms with margin := some pc } }
  else s

def execMarginRequest (value : W32) (s : State) : Out := .next (if s.up then s.marginRequest value.toNat else s)

def execMarginResult (readEye writeEye ref : BitVec 8) (s : State) : Out :=
  .next (match s.ms.margin with
    | none => s
    | some _ =>
      { s.hubSetN MCT_MARGIN_RESULT (2 ^ 31 + readEye.toNat * 65536 + writeEye.toNat * 256 + ref.toNat) with
        ms := { s.ms with margin := none } })

end Sys2Proof.Machine
end

