-- ==== Sys2Proof/Machine/Bandwidth.lean ====
section
/-! DEFINITION. The bandwidth regulators: windows, charges, urgency, feedback and shortfall (R324 to R349, R654). -/

namespace Sys2Proof.Machine
open Sys2Proof

/-! ### Flows -/

def State.flow (s : State) (owner cls : Nat) : Flow :=
  if owner = ownerHub then s.ms.hubFlows.get Flow.empty cls else (s.fn owner).flows.get Flow.empty cls
def State.setFlow (s : State) (owner cls : Nat) (x : Flow) : State :=
  if owner = ownerHub then { s with ms := { s.ms with hubFlows := s.ms.hubFlows.set cls x } }
  else s.modFn owner (fun f => { f with flows := f.flows.set cls x })

/-- Real-time flows (R324). -/
def realTime (owner cls : Nat) : Bool := if owner = ownerHub then cls = 8 else cls = clsStile || cls = clsCommons

/-- A flow belongs to an owner that exists. -/
def State.isFlow (s : State) (owner cls : Nat) : Bool := s.allFlows.contains (owner, cls) || (owner = ownerHub && cls = 0xB)

def State.flowMin (s : State) (owner cls : Nat) : Nat := flowMinOf (s.flowReg owner cls)
def State.flowWeight (s : State) (owner cls : Nat) : Nat := flowWeightOf (s.flowReg owner cls)

/-- Groups that a flow draws on (R339). -/
def State.groupsOf (s : State) (owner cls : Nat) : List Nat := (List.range 6).filter (fun g => s.flowShare6 owner cls g 1 ≠ 0)

/-! ### Shortfall (R342, R343). Sums are kept 24 times as large, so that A_g and D_g(t) are whole. -/

/-- Pseudo-channels of a group whose stack is in service. -/
def State.activeChannels (s : State) (g : Nat) : Nat := 64 * ((List.range 4).filter (fun k => !s.vacant kStack (4 * g + k))).length
def State.deliver24 (s : State) (g : Nat) : Nat := 2610 * s.activeChannels g
def State.admitted24 (s : State) (g : Nat) : Nat := 4 * s.admitted6 g

def State.urgent (s : State) (owner cls : Nat) : Bool := realTime owner cls && 2 ≤ (s.flow owner cls).urgency

/-- U_g. -/
def State.urgent24 (s : State) (g : Nat) : Nat :=
  ((s.allFlows.filter (fun x => s.urgent x.1 x.2)).map (fun x => 4 * s.flowShare6 x.1 x.2 g (s.flowMin x.1 x.2))).foldl (· + ·) 0

def State.inShortfall (s : State) (g : Nat) : Bool := s.deliver24 g < s.admitted24 g

/-- s_g × 65,536, rounded down. -/
def State.scaleOf (s : State) (g : Nat) : Nat :=
  if s.inShortfall g then (s.deliver24 g - s.urgent24 g) * 65536 / (s.admitted24 g - s.urgent24 g) else 65536

def minOf (l : List Nat) (d : Nat) : Nat := l.foldl min d

/-- The scale of a flow: the smallest of its groups. -/
def State.flowScale (s : State) (owner cls : Nat) : Nat := minOf ((s.groupsOf owner cls).map s.scaleOf) 65536

/-- What an urgent flow keeps: all of its MIN, or its part of D_g(t) where urgent flows alone exceed that. -/
def State.urgentMin (s : State) (owner cls : Nat) : Nat :=
  let m := s.flowMin owner cls
  minOf ((s.groupsOf owner cls).map (fun g =>
    if s.inShortfall g && s.deliver24 g < s.urgent24 g then m * s.deliver24 g / s.urgent24 g else m)) m

def State.effectiveMin (s : State) (owner cls : Nat) : Nat :=
  if s.urgent owner cls then s.urgentMin owner cls else s.flowMin owner cls * s.flowScale owner cls / 65536

/-! ### Windows (R327, R330, R332, R333, R348) -/

/-- P_g in 24ths of a granule, CRITICAL excess taken from it. -/
def State.pool24 (s : State) (g : Nat) (waiting : List (Nat × Nat)) : Nat :=
  let mins := (waiting.map (fun x => 4 * s.flowShare6 x.1 x.2 g (s.effectiveMin x.1 x.2))).foldl (· + ·) 0
  let crit := ((waiting.filter (fun x => realTime x.1 x.2 && (s.flow x.1 x.2).urgency = 3)).map
    (fun x => 4 * s.flowShare6 x.1 x.2 g (s.flowMin x.1 x.2))).foldl (· + ·) 0
  s.deliver24 g - mins - crit

/-- The weight in a window: WATCH doubles it. -/
def State.windowWeight (s : State) (owner cls : Nat) : Nat :=
  s.flowWeight owner cls * (if realTime owner cls && (s.flow owner cls).urgency = 1 then 2 else 1)

/-- Sum of the weights of the flows that wait and draw on a group. -/
def State.weightsOf (s : State) (g : Nat) (waiting : List (Nat × Nat)) : Nat :=
  ((waiting.filter (fun x => (s.groupsOf x.1 x.2).contains g)).map (fun x => s.windowWeight x.1 x.2)).foldl (· + ·) 0

/-- What feedback, a hot stack and step 4 of the cap loop leave of a grant towards a group, in halves: none when the group is RED,
half when it is AMBER or halved (R336, R652, R654). -/
def State.surplusHalves (s : State) (g : Nat) : Nat :=
  if s.ms.red.contains g then 0
  else if s.ms.amber.contains g || s.pow.halved || s.pow.hotStacks.any (fun k => k / 4 = g) then 1
  else 2

/-- Groups towards which CRITICAL excess proceeds. -/
def State.notRed (s : State) (gs : List Nat) : Nat := (gs.filter (fun g => !s.ms.red.contains g)).length

/-- The surplus grant of a flow in bytes; a CRITICAL flow may take its MIN once more. -/
def State.grantOf (s : State) (waiting : List (Nat × Nat)) (owner cls : Nat) : Nat :=
  if !waiting.contains (owner, cls) then 0
  else
    let gs := s.groupsOf owner cls
    let w := s.windowWeight owner cls
    let per := gs.map (fun g => if s.weightsOf g waiting = 0 then 0 else s.pool24 g waiting * w * 256 / (24 * s.weightsOf g waiting))
    let excess := if realTime owner cls && (s.flow owner cls).urgency = 3 then s.flowMin owner cls * 256 else 0
    minOf per (per.headD 0) * (gs.map s.surplusHalves).foldl (· + ·) 0 / 2 + excess * s.notRed gs / max 1 gs.length

/-- Counters of the window that ends (R348, R349). -/
def State.closeWindow (s : State) (waiting throughout : List (Nat × Nat)) : State :=
  s.allFlows.foldl (fun s x =>
    if x.1 = ownerHub then s
    else
      let fl := s.flow x.1 x.2
      let s := if waiting.contains x && !s.confidential x.1 then s.fnCount x.1 (BWG_WAIT_WINDOWS + 0x20 * x.2) 1 else s
      if throughout.contains x && !fl.debtIn && fl.charged < fl.effMin * 256 then s.fnCount x.1 (BWG_MISS_WINDOWS + 0x20 * x.2) 1
      else s) s

/-- A flow's new window: its balance is its effective minimum less debt (R327). -/
def State.openWindow (s : State) (waiting : List (Nat × Nat)) (x : Nat × Nat) : Flow :=
  let fl := s.flow x.1 x.2
  let e := s.effectiveMin x.1 x.2
  { balance := (e * 256 : Nat) + min fl.balance 0, grant := (s.grantOf waiting x.1 x.2 : Nat), charged := 0,
    debtIn := Decidable.decide (fl.balance < 0), urgency := fl.urgency,
    effMin := e }

/-- BWG_SCALE of a paddock: the smallest s of its flows. -/
def State.paddockScale (s : State) (n : Nat) : Nat :=
  minOf (((List.range 6).filter (fun c => s.flowReg n c ≠ 0)).map (s.flowScale n)) 65536

/-- The shortfall entry of a group (R344): ADDR holds A_g, D_g(t) and whether it is over (assumption 32). -/
def State.shortfallReport (s : State) (g : Nat) (recovered : Bool) : State :=
  let a := (s.admitted6 g + 5) / 6
  let d := s.deliver24 g / 24
  let s := s.report (hubReport cShortfall .ce 0x15 g (boolN recovered * 2 ^ 63 + d * 2 ^ 24 + a * 2 ^ 8 + g))
  { s with ms := { s.ms with lastLog := s.ms.lastLog.set g s.time } }

/-- Groups enter and leave shortfall (R342, R344, R461). -/
def State.markShortfall (s : State) : State :=
  (List.range 6).foldl (fun s g =>
    let s := s.hubSetN (BWG_DELIVERABLE + 4 * g) (s.deliver24 g / 24)
    let now := s.inShortfall g
    let was := s.ms.shortfall.contains g
    if now == was then s
    else
      let s := s.hubSetN BWG_SHORTFALL_STATUS (withField (s.hubNat BWG_SHORTFALL_STATUS) g 1 (boolN now))
      let s := { s with ms := { s.ms with shortfall := if now then g :: s.ms.shortfall else s.ms.shortfall.filter (· != g) } }
      let s := if now then s.hubCount BWG_SHORTFALL_EVENTS 1 else s
      (s.shortfallReport g (!now)).raiseInt intShortfall) s

/-- Windows in which a real-time flow begins at urgency 1, 2 or 3. -/
def State.countUrgent (s : State) : State :=
  [1, 2, 3].foldl (fun s l =>
    if s.allFlows.any (fun x => realTime x.1 x.2 && (s.flow x.1 x.2).urgency = l) then s.hubCount (BWG_URGENT_WINDOWS + 4 * (l - 1)) 1
    else s) s

/-- A window ends and the next begins, at a multiple of 1,000 ns. -/
def execRegulatorWindow (waiting throughout : List (Nat × Nat)) (s : State) : Out :=
  .next (if !s.up || s.time % 1000 ≠ 0 then s
  else
    let s := (s.closeWindow waiting throughout).markShortfall
    let flows := (s.allFlows ++ [(ownerHub, 0xB)]).map (fun x => (x, s.openWindow waiting x))
    let s := flows.foldl (fun s y => s.setFlow y.1.1 y.1.2 y.2) s
    (s.paddocks.foldl (fun s n => s.fnSetN n BWG_SCALE (s.paddockScale n)) s).countUrgent)

def execShortfallLogTick (group : Nat) (s : State) : Out :=
  .next (if s.up && s.ms.shortfall.contains group && s.ms.lastLog.get 0 group + 100000000 ≤ s.time then s.shortfallReport group false else s)

/-! ### Charges (R328, R348, R349, R547) -/

/-- Bytes charged: writes of an integrity paddock as partial ones (R547). -/
def chargeBytes (a : ChargeKind) (tagged : Bool) : Nat :=
  match a with
  | .hit => 0
  | .readMiss => 256
  | .write full => if full && !tagged then 64 else 128

def isWriteCharge (a : ChargeKind) : Bool :=
  match a with
  | .write _ => true
  | _ => false

/-- A request is charged against its flow's balance, or its grant where it was admitted as surplus. -/
def State.charge (s : State) (owner cls : Nat) (n : Nat) (surplus : Bool) : State :=
  let fl := s.flow owner cls
  s.setFlow owner cls { fl with balance := if surplus then fl.balance else fl.balance - n,
                                grant := if surplus then max (fl.grant - n) 0 else fl.grant, charged := fl.charged + n }

def execChargeReport (owner cls : Nat) (a : ChargeKind) (surplus : Bool) (s : State) : Out :=
  .next (if !s.up || !s.isFlow owner cls then s
  else
    let n := chargeBytes a (owner != ownerHub && s.integrity owner)
    let s := s.charge owner cls n surplus
    if owner = ownerHub || s.confidential owner then s
    else
      let s := s.fnCount64 owner (BWG_BYTES + 0x20 * cls) n
      let s := if surplus then s.fnCount64 owner (BWG_SURPLUS + 0x20 * cls) n else s
      s.tallyP owner none (if isWriteCharge a then 0x0D else 0x0C) n)

/-! ### Urgency (R333, R334) -/

/-- The level of a fill in percent of its buffer. -/
def State.fillLevel (s : State) (fill size : Nat) : Nat :=
  let t := s.hubNat BWG_URGENCY_LEVELS
  if fieldOf t 16 8 * size ≤ 100 * fill then 3
  else if fieldOf t 8 8 * size ≤ 100 * fill then 2
  else if t % 256 * size ≤ 100 * fill then 1
  else 0

/-- The urgency of a real-time flow: the stile's from its slots, that of an unwired commons is CALM. -/
def State.urgencyLevel (s : State) (owner cls level : Nat) : Nat :=
  if owner = ownerHub then level % 4
  else if cls = clsStile then s.fillLevel (s.fn owner).sealedSlots.length 4096
  else
    let c := (s.fn owner).tmplNat 3 1
    if bitOf c 7 && bitOf (s.hubNat (cmnOff (c % 32) 8)) 3 then level % 4 else 0

def execUrgencyChange (owner cls level : Nat) (s : State) : Out :=
  .next (if !s.up || !s.isFlow owner cls || !realTime owner cls then s
  else
    let l := s.urgencyLevel owner cls level
    let s := s.setFlow owner cls { s.flow owner cls with urgency := l }
    if owner = ownerHub then s
    else s.fnSetN owner BWG_URGENCY (withField (s.fnNat owner BWG_URGENCY) (if cls = clsStile then 0 else 2) 2 l))

/-! ### Feedback (R335, R336) -/

/-- Active engines of a group that reach a level. -/
def State.enginesAt (s : State) (g level : Nat) : Nat :=
  (s.ms.engines.filter (fun (p : Nat × Engine) => p.1 / 256 = g && !s.vacant kStack (p.1 / 64) && (level ≤ p.2.rq || level ≤ p.2.wq))).length

/-- Groups in which more than 1/8 of the active engines reach a level. -/
def State.groupsAt (s : State) (level : Nat) : List Nat :=
  (List.range 6).filter (fun g => s.activeChannels g < 8 * s.enginesAt g level)

/-- Engines report their queues; the marks of the groups follow. -/
def execQueueFeedback (occupancy : List (Nat × Nat × Nat)) (s : State) : Out :=
  .next (if !s.up then s
  else
    let engines := occupancy.foldl (fun (m : SMap Engine) x =>
      if x.1 < 1536 then m.set x.1 { m.get Engine.empty x.1 with rq := sat 64 x.2.1, wq := sat 64 x.2.2 } else m) s.ms.engines
    let s := { s with ms := { s.ms with engines := engines } }
    let fb := s.hubNat BWG_FEEDBACK
    { s with ms := { s.ms with amber := s.groupsAt (fb % 64), red := s.groupsAt (fieldOf fb 8 6) } })

end Sys2Proof.Machine
end

