-- ==== Sys2Proof/Machine/Noc.lean ====
section
/-! DEFINITION. The mesh: flits on links, requests at their targets, answers at their sources, maps and routes (R141, R144,
R350 to R369, R599, R674). -/

namespace Sys2Proof.Machine
open Sys2Proof

/-! ### Units by physical ID (R350, R351) -/

/-- The unit with spares or a fence epoch that a router, local port and UNIT name. -/
def unitAt (router port unit : Nat) : Option (Nat × Nat) :=
  let x := router % 24
  let y := router / 24
  if 4 ≤ x && x < 20 && 2 ≤ y && y < 18 then
    let t := (x - 4) / 4 + 4 * ((y - 2) / 4)
    let q := (x - 4) % 4 + 4 * ((y - 2) % 4)
    if port = 0 then some (kCore, t * 272 + unit)
    else if port = 1 then some (kSlice, t * 16 + q)
    else if port = 2 && q = 0 then some (kTile, t)
    else none
  else if port ≠ 0 then none
  else if y = 0 then some (kStack, x / 2)
  else if y = 19 then some (kStack, 12 + x / 2)
  else if (y = 1 || y = 18) && 4 ≤ x && x < 20 then some (kDrover, (if y = 1 then 0 else 16) + (x - 4))
  else if (y = 1 || y = 18) && (x = 2 || x = 3 || x = 20 || x = 21) then
    some (kSlice, 256 + (if y = 18 then 4 else 0) + (if x < 4 then x - 2 else x - 18))
  else if x = 0 && y % 2 = 0 && 2 ≤ y && y ≤ 16 then some (kPort, (y - 2) / 2)
  else if x = 23 && y % 2 = 0 && 2 ≤ y && y ≤ 16 then some (kPort, 8 + (y - 2) / 2)
  else if (x = 2 || x = 3) && 3 ≤ y && y ≤ 5 then some (kCommons, 16)
  else if (x = 2 || x = 3) && 14 ≤ y && y ≤ 16 then some (kCommons, 17)
  else if (x = 20 || x = 21) && 3 ≤ y && y ≤ 5 then some (kCommons, 18)
  else if (x = 20 || x = 21) && 14 ≤ y && y ≤ 16 then some (kCommons, 19)
  else if (x = 2 || x = 21) && (y = 9 || y = 10) then some (kShepherd, (if x = 2 then 0 else 2) + (y - 9))
  else none

def unitOfId (id : Nat) : Option (Nat × Nat) := unitAt (fieldOf id 11 9) (fieldOf id 9 2) (id % 512)

/-- A flit whose SRC epoch differs from the one held for that unit (R368). -/
def State.stale (s : State) (src : Nat) : Bool :=
  match unitOfId src with
  | some u => fieldOf src 20 4 ≠ s.epochOf u.1 u.2
  | none => false

/-- LATE is set in the pinfold entry of a unit (R599, R604). -/
def State.markLate (s : State) (kind phys : Nat) : State :=
  { s with sdg := { s.sdg with pinfold := s.sdg.pinfold.map (fun (p : PinEntry) =>
      let same := fieldOf p.data 59 4 = kind && (if kind = kStack || kind = kPort then fieldOf p.data 24 9 = phys
        else fieldOf p.data 24 20 = s.physId kind phys % 2 ^ 20)
      if same then { p with data := withField p.data 49 1 1 } else p) } }

/-- A late speaker's flit is discarded, counted and reported (R368, R599). -/
def State.lateSpeaker (s : State) (src : Nat) : State :=
  let s := (s.hubCount NOC_LATE_SPEAKERS 1).report (hubReport cLateSpeaker .uc 0x04 src 0)
  match unitOfId src with
  | some u => s.markLate u.1 u.2
  | none => s

/-- The unit that an ID names is fenced. -/
def State.idFenced (s : State) (id : Nat) : Bool :=
  match unitOfId id with
  | some u => s.fencedUnit u.1 u.2
  | none => false

/-! ### Links and halves (R355) -/

/-- A half is fenced when a flit has failed on it three times in a row; loss of both halves is FT. -/
def State.fenceHalf (s : State) (link half : Nat) : State :=
  let both := s.noc.halfFenced.contains (link * 2 + (1 - half % 2))
  let s := { s with noc := { s.noc with halfFenced := (link * 2 + half) :: s.noc.halfFenced } }
  let s := (s.hubCount NOC_HALF_LINKS (boolN (!both))).fenceUnit kHalf (link * 2 + half) cLinkHalf
  if both then s.report (hubReport cMeshLost .ft 0x04 link 0) else s.report (hubReport cLinkHalf .ce 0x04 (link * 2 + half) 0)

/-- A flit arrives on a half of a link: it is replayed on a bad CRC; at its interface it is discarded when its source is stale,
and answered FENCED at the port of a fenced unit (R355, R367, R368). -/
def execFlitReceive (link half : Nat) (crcOk : Bool) (src dst : BitVec 24) (_privileged : Bool) (s : State) : Out :=
  .next (
    let k := link * 2 + half % 2
    if !s.up || s.noc.halfFenced.contains k then s
    else if !crcOk then
      let n := s.noc.halfFails.get 0 k + 1
      let s := { s.hubCount NOC_RETRIES 1 with noc := { s.noc with halfFails := s.noc.halfFails.set k n } }
      if 3 ≤ n then s.fenceHalf link (half % 2) else s
    else
      let s := { s with noc := { s.noc with halfFails := s.noc.halfFails.del k } }
      if s.stale src.toNat then s.lateSpeaker src.toNat
      else if s.idFenced dst.toNat then s.send (.rsp src.toNat 0 0 2 0)
      else s)

/-! ### Requests at their targets (R354, R358, R365, R367 to R369) -/

def opRead : Nat := 0
def opWrite : Nat := 1
def opAtomic : Nat := 2
def opXadd : Nat := 3

def reqKey (src : Nat) (txn : BitVec 8) : Nat := src * 256 + txn.toNat

def statusOk : Nat := 0
def statusPoison : Nat := 1
def statusFenced : Nat := 2
def statusDenied : Nat := 3

def State.inWindow (s : State) (lpa : Nat) : Bool :=
  s.hubAreaBase ≤ lpa && lpa < s.hubAreaBase + s.hubNat SNP_WINDOW_GIB * gib

/-- A pasture line that a paddock has attached (R369). -/
def State.attachedLine (s : State) (fn lpa : Nat) : Bool :=
  match s.pastureOff lpa with
  | none => false
  | some o => (s.fn fn).handles.any (fun (h : Nat × Handle) => h.2.kind == .attach && h.2.st != .loading &&
      (match s.pastureHandle h.2.pasture with
        | some p => p.offset ≤ o && o < p.offset + h.2.len
        | none => false))

/-- Whether a request may reach its address (R369, R372). -/
def State.reqOwner (s : State) (q : ReqFlit) (write : Bool) : Own :=
  let a := q.addr.toNat
  if q.view = 2#2 || s.inWindow a then .mismatch
  else if q.hub then
    if a < hbmTop then (if (s.holder a).isSome then .mismatch else .ok)
    else if scratchBase ≤ a && a < scratchBase + 256 * 0x800000 then
      (if s.sliceOwner ((a - scratchBase) / 0x800000) = ownerHub then .ok else .mismatch)
    else .mismatch
  else if !write && s.attachedLine q.paddock.toNat a then .ok
  else if coreBase ≤ a && a < commonsBase then
    (if (s.fn q.paddock.toNat).hasHirsel ((a - coreBase) / 0x80000 / 16) then .ok else .mismatch)
  else s.owns q.paddock.toNat a

/-- The group whose stream view a request has (R122, R357). -/
def State.reqGroup (s : State) (q : ReqFlit) : Option Grp :=
  if q.view = 1#2 then s.grp (q.paddock.toNat * 65536 + q.record.toNat) else none
def reqGid (q : ReqFlit) : Nat := q.paddock.toNat * 65536 + q.record.toNat

/-- A virtual address that maps to an address, from the translations in use. -/
def State.vaOf (s : State) (fn lpa : Nat) : Option Nat :=
  ((s.fn fn).xlt.tlb.find? (fun e => !e.host && !e.direct && e.target ≤ lpa && lpa < e.target + 2 ^ e.log2)).map
    (fun e => e.va + (lpa - e.target))

/-- The target of a request as the group it serves sees it. -/
def State.reqTgt (s : State) (q : ReqFlit) (a : Nat) : Tgt :=
  if coreBase ≤ a && a < commonsBase then .core a
  else match s.reqGroup q, s.vaOf q.paddock.toNat a with
    | some _, some va => .mem va a
    | _, _ => .priv a

/-- Bytes that a request reads, and whether they are poisoned. -/
def State.reqRead (s : State) (q : ReqFlit) (a n : Nat) : List Byte × Bool :=
  match s.reqGroup q with
  | some g => s.readTgt g (s.reqTgt q a) n []
  | none => s.fetch a n

/-- Bytes that a request writes. -/
def State.reqWrite (s : State) (q : ReqFlit) (a : Nat) (bs : List Byte) : State :=
  match s.reqGroup q with
  | some _ => s.putTgt (reqGid q) (s.reqTgt q a) bs
  | none => (s.commitStore a bs).foldWrite (if q.hub then ownerHub else q.paddock.toNat) a bs.length

/-- A request at its target: a stale one is discarded, one to a fenced unit answered FENCED, one that may not reach its address
DENIED; `k` performs the rest. A request becomes outstanding at its source until it is answered there. -/
def State.reqArrive (s : State) (q : ReqFlit) (op left : Nat) (write : Bool) (access : Nat) (k : State → State) : State :=
  let key := reqKey q.src.toNat q.txn
  if !s.up || (s.noc.outs.find key).isSome then s
  else if s.stale q.src.toNat then s.lateSpeaker q.src.toNat
  else
    let s := { s with noc := { s.noc with outs := s.noc.outs.set key ⟨q, op, left, false, s.time⟩ } }
    let answer := fun (s : State) (st : Nat) => s.send (.rsp q.src.toNat q.txn.toNat 0 st 0)
    if s.idFenced q.dst.toNat then answer s statusFenced
    else match s.reqOwner q write with
      | .ok => k s
      | .mismatch =>
        let r : Report := if q.hub then { hubReport cDenied .uc 0x04 q.dst.toNat q.addr.toNat with initiator := q.src.toNat, access := access }
          else { padReport cDenied .uc 0x04 q.dst.toNat q.addr.toNat q.paddock.toNat access with initiator := q.src.toNat }
        answer ((s.hubCount NOC_DENIED 1).report r) statusDenied
      | .denied => answer s statusDenied
      | .fenced => answer s statusFenced

/-- A READ returns its line, or the four lines of its granule; a hit makes a line the most recently used (R304). -/
def execNocRead (q : ReqFlit) (s : State) : Out :=
  let n := if q.size = 1#3 then 4 else 1
  let base := if n = 4 then q.addr.toNat / 256 * 256 else q.addr.toNat / 64 * 64
  let owner := if q.hub then ownerHub else q.paddock.toNat
  .next (s.reqArrive q opRead n false 1 (fun s =>
    (List.range n).foldl (fun s i =>
      let a := base + 64 * i
      let r := s.reqRead q a 64
      let s := if s.foldHas owner (lineOf a) then s.foldFill owner (lineOf a) else s
      s.send (.dat q.src.toNat q.txn.toNat i r.2 0 r.1)) s))

/-- A WRITE is granted; its data follow (R354). -/
def execNocWrite (q : ReqFlit) (s : State) : Out :=
  .next (s.reqArrive q opWrite (if q.size = 1#3 then 4 else 1) true 2 (fun s =>
    let key := reqKey q.src.toNat q.txn
    match s.noc.outs.find key with
    | some o => { s.send (.rsp q.src.toNat q.txn.toNat 1 0 0) with noc := { s.noc with outs := s.noc.outs.set key { o with granted := true } } }
    | none => s))

def atomOfSize (n : Nat) : Option AtomOp :=
  if n = 0 || n = 1 then some .add
  else if n = 2 then some .swap
  else if n = 3 then some .cas
  else if n = 4 then some .min
  else if n = 5 then some .max
  else none

/-- An integer atomic at its slice: DONE carries the prior value, but for ADD (R144, R359). -/
def execNocAtomic (q : ReqFlit) (s : State) : Out :=
  .next (s.reqArrive q opAtomic 0 true 3 (fun s =>
    match atomOfSize q.size.toNat with
    | none => s
    | some o =>
      let ty := q.ty.toNat
      let n := tySize ty
      let a := q.addr.toNat
      let r := s.reqRead q a n
      if r.2 then s.send (.rsp q.src.toNat q.txn.toNat 0 statusPoison 0)
      else
        let old := leNat r.1
        let opnd := q.operand.toNat / 2 ^ 64 % 2 ^ (8 * n)
        let s := match atomNew o ty old opnd (q.operand.toNat % 2 ^ 64 % 2 ^ (8 * n)) with
          | some v => s.reqWrite q a (leBytes n v)
          | none => s
        s.send (.rsp q.src.toNat q.txn.toNat 0 statusOk (if q.size = 0#3 then 0 else (atomPrior ty old).toNat))))

/-- A bin with its tag and flags joins an element (R225, R357). -/
def Xa.addBin (x : Xa) (operand : Nat) : Xa :=
  let v := (BitVec.ofNat 64 (operand / 2 ^ 64)).toInt
  let y := x.addPart (fieldOf operand 59 5) v
  ({ y with nan := y.nan || bitOf operand 58, pinf := y.pinf || bitOf operand 57, ninf := y.ninf || bitOf operand 56 } : Xa).normalise

/-- An XADD joins the open element at its address, or opens one; a clash raises ILLEGAL_OP (R141 to R143). -/
def execNocXadd (q : ReqFlit) (s : State) : Out :=
  .next (s.reqArrive q opXadd 0 true 3 (fun s =>
    match s.reqGroup q with
    | none => s
    | some g =>
      let t := s.reqTgt q q.addr.toNat
      let ty := q.ty.toNat
      let done := fun (s : State) => s.send (.rsp q.src.toNat q.txn.toNat 0 statusOk 0)
      if g.xaClash t ty then done (s.failGroup (reqGid q) xIllegal)
      else
        let s := if (g.xas.find (keyNat t.key)).isSome then s else s.exactAdd (reqGid q) t ty (.fin true 0)
        done (s.modGrp (reqGid q) (fun g => { g with xas := g.xas.map (fun (p : Nat × XaOpen) =>
          if p.1 = keyNat t.key then (p.1, { p.2 with xa := p.2.xa.addBin q.operand.toNat }) else p) }))))

/-- A CONTROL message of the sheepdog or a shepherd rewrites a map entry and advances the epoch of the unit that leaves it
(R367); one that the module's maps already show changes nothing. -/
def execControl (q : ReqFlit) (m : ControlMsg) (s : State) : Out :=
  .next (if !s.up then s
  else if s.stale q.src.toNat then s.lateSpeaker q.src.toNat
  else match m with
    | .other => s
    | .mapUpdate kind logical physical =>
      let new := if physical = 0 then none else some (physical - 1)
      if !q.hub || s.phys kind logical == new then s
      else
        let s := match s.phys kind logical with
          | some old => { s with noc := { s.noc with epochs := s.noc.epochs.set (kind * 65536 + old) ((s.epochOf kind old + 1) % 16) } }
          | none => s
        { s with noc := { s.noc with maps := s.noc.maps.set (kind * 65536 + logical) physical } })

/-! ### Fabric statistics (R673, R674) -/

/-- The initiator that an ID belongs to. -/
def State.initiatorOf (s : State) (id : Nat) : Option Nat :=
  let r := fieldOf id 11 9
  match unitOfId id with
  | some (k, p) =>
    if k = kCore then s.logicalOf kTile (p / 272)
    else if k = kDrover then some (16 + p)
    else if k = kCommons then some (48 + (p - 16))
    else if k = kPort then some (52 + p)
    else if k = kShepherd then some (68 + p)
    else none
  | none =>
    if r = rtr 1 9 || r = rtr 1 10 then some 72
    else if r = rtr 22 9 || r = rtr 22 10 then some 73
    else if r = rtr 3 10 then some 74
    else none

/-- The histogram bin of a latency. -/
def latBin (ns : Nat) : Nat := ([100, 200, 400, 800, 1600, 3200, 6400].filter (· ≤ ns)).length

/-- A transaction matches TLY_FAB_FILTER; a confidential paddock's never does (R670). -/
def State.fabMatch (s : State) (q : ReqFlit) : Bool :=
  let f := s.hubNat TLY_FAB_FILTER
  (q.hub || !s.confidential q.paddock.toNat) &&
    (bitOf f 31 || (if bitOf f 5 then q.hub else !q.hub && q.paddock.toNat = f % 32))

/-- Add to a 32-bit half of a 64-bit word of a statistics block. -/
def State.addHalf (s : State) (off n : Nat) : State :=
  let w := off / 8 * 8
  let lo := 32 * (off % 8 / 4)
  s.hubSetN w (withField (s.hubNat w) lo 32 (sat 0xFFFFFFFF (fieldOf (s.hubNat w) lo 32 + n)))

/-- A completed transaction counts for its initiator. -/
def State.fabCount (s : State) (o : NocReq) (bytes : Nat) : State :=
  match s.initiatorOf o.req.src.toNat with
  | none => s
  | some i =>
    if !s.fabMatch o.req then s
    else
      let b := TLY_FAB + 0x80 * i
      let lat := s.time - o.since
      let s := s.hubCount64 (b + (if o.op = opRead then 0 else 8)) (if o.op ≤ opWrite then bytes else 0)
      let s := (s.hubCount64 (b + 0x10) 1).hubCount64 (b + 0x18) lat
      let s := s.hubSetN (b + 0x20) (sat 0xFFFFFFFF (max lat (s.hubNat (b + 0x20))))
      s.addHalf (b + 0x28 + 4 * latBin lat) 1

def State.endReq (s : State) (key : Nat) (o : NocReq) (bytes : Nat) : State :=
  ({ s with noc := { s.noc with outs := s.noc.outs.del key } } : State).fabCount o bytes

/-! ### Answers at their sources -/

/-- The record that a request served suffers a datapath error (R356, R367). -/
def State.servedError (s : State) (q : ReqFlit) : State :=
  if q.hub || (s.grp (reqGid q)).isNone then s else s.datapathError (reqGid q) true

/-- Whether the unit that served an address has a good one in its place. -/
def State.remapped (s : State) (q : ReqFlit) : Bool :=
  match unitOfId q.dst.toNat with
  | some (k, p) =>
    match (s.sdg.pinfold.find? (fun e => fieldOf e.data 59 4 = k &&
        (if k = kStack || k = kPort then fieldOf e.data 24 9 = p else fieldOf e.data 24 20 = s.physId k p % 2 ^ 20))) with
    | some e => bitOf e.data 50
    | none => false
  | none => false

/-- WRITE_GRANT reaches the writer, whose data then leave. -/
def execWriteGrant (r : RspFlit) (s : State) : Out :=
  .next (if !s.up then s
  else if s.stale r.src.toNat then s.lateSpeaker r.src.toNat
  else match s.noc.outs.find (reqKey r.dst.toNat r.txn) with
    | some o => if o.op = opWrite then
        { s with noc := { s.noc with outs := s.noc.outs.set (reqKey r.dst.toNat r.txn) { o with granted := true } } } else s
    | none => s)

/-- DONE completes a request: FENCED is sent again to the unit's successor or is a datapath error, DENIED raises TRANSLATION,
POISON ends the record (R359, R367, R369). -/
def execNocDone (r : RspFlit) (s : State) : Out :=
  let key := reqKey r.dst.toNat r.txn
  .next (if !s.up then s
  else if s.stale r.src.toNat then s.lateSpeaker r.src.toNat
  else match s.noc.outs.find key with
    | none => s
    | some o =>
      let n := if o.op = opWrite then (if o.req.size = 1#3 then 256 else 64) else 0
      if r.status.toNat = statusFenced then
        let s := { s with noc := { s.noc with outs := s.noc.outs.del key } }
        if s.remapped o.req then s.send (.req o.req) else s.servedError o.req
      else
        let s := s.endReq key o n
        if o.req.hub || (s.grp (reqGid o.req)).isNone then s
        else if r.status.toNat = statusDenied then s.failGroup (reqGid o.req) xTranslation
        else if r.status.toNat = statusPoison then s.memPoison (reqGid o.req) (some (lineOf o.req.addr.toNat))
        else s)

/-- Data of a WRITE at its target: enabled bytes are written, and DONE follows the last line (R354, R360, R365). -/
def State.writeData (s : State) (key : Nat) (o : NocReq) (d : DatFlit) : State :=
  let base := if o.req.size = 1#3 then o.req.addr.toNat / 256 * 256 + 64 * d.index.toNat else o.req.addr.toNat / 64 * 64
  let full := (List.range 64).all (fun i => d.byteEn.getLsbD i)
  let s := if full then s.reqWrite o.req base ((d.data ++ zeros 64).take 64)
    else (List.range 64).foldl (fun s i => if d.byteEn.getLsbD i then s.reqWrite o.req (base + i) [d.data.getD i 0] else s) s
  let s := if d.poison && (s.reqGroup o.req).isNone then s.spoil base else s
  let s := { s with noc := { s.noc with outs := s.noc.outs.set key { o with left := o.left - 1 } } }
  if o.left ≤ 1 then s.send (.rsp o.req.src.toNat o.req.txn.toNat 0 statusOk 0) else s

/-- Data of a READ at its source; the last line completes it. -/
def State.readData (s : State) (key : Nat) (o : NocReq) (d : DatFlit) : State :=
  let s := if d.poison && !o.req.hub && (s.grp (reqGid o.req)).isSome then
      s.memPoison (reqGid o.req) (some (lineOf o.req.addr.toNat + d.index.toNat)) else s
  if o.left ≤ 1 then s.endReq key o (if o.req.size = 1#3 then 256 else 64)
  else { s with noc := { s.noc with outs := s.noc.outs.set key { o with left := o.left - 1 } } }

/-! ### Routes (R361, R363, R364) -/

/-- Directions: 0 north, 1 east, 2 south, 3 west. -/
def stepDir (d x y : Nat) : Option (Nat × Nat) :=
  if d = 0 then (if y = 0 then none else some (x, y - 1))
  else if d = 1 then (if x = 23 then none else some (x + 1, y))
  else if d = 2 then (if y = 19 then none else some (x, y + 1))
  else if x = 0 then none else some (x - 1, y)

/-- The turn rules of R361. -/
def turnOk (d e x : Nat) : Bool :=
  if d = 1 && (e = 0 || e = 2) then x % 2 = 1
  else if (d = 0 || d = 2) && e = 3 then x % 2 = 0
  else true

def goHops (d n x y : Nat) : Option (Nat × Nat) :=
  match n with
  | 0 => some (x, y)
  | k + 1 => match stepDir d x y with
    | some p => goHops d k p.1 p.2
    | none => none

/-- Where a path ends, if it stays in the grid and obeys the rules. -/
def routeEnd (segs : List (Nat × Nat)) (prev : Option Nat) (x y : Nat) : Option (Nat × Nat) :=
  match segs with
  | [] => some (x, y)
  | (d, n) :: t =>
    let ok := n ≠ 0 && n ≤ 23 && (match prev with
      | some p => p ≠ d && turnOk p d x
      | none => true)
    if !ok then none
    else match goHops d n x y with
      | some p => routeEnd t (some d) p.1 p.2
      | none => none

def routeOk (router v : Nat) : Bool :=
  let n := fieldOf v 28 3
  let segs := (List.range n).map (fun i => (fieldOf v (7 * i + 5) 2, fieldOf v (7 * i) 5))
  bitOf v 63 && 1 ≤ n && n ≤ 4 && routeEnd segs none (router % 24) (router / 24) == some (fieldOf v 54 9 % 24, fieldOf v 54 9 / 24)

/-- Routers whose units hold a route table: sheepdog, release controllers, shepherd pairs. -/
def routeHolders : List Nat := [rtr 3 9, rtr 1 9, rtr 1 10, rtr 2 9, rtr 2 10, rtr 21 9, rtr 21 10]

/-- Fields of a route entry; its reserved bits read zero. -/
def routeImage (v : Nat) : Nat := fieldOf v 52 12 * 2 ^ 52 + v % 2 ^ 31

def execRouteEntryInstall (router port entry : Nat) (value : W64) (s : State) : Out :=
  .next (if !s.up || !routeHolders.contains router || port ≠ 0 || 16 ≤ entry then s
  else
    let k := router * 64 + port * 16 + entry
    let m := if routeOk router value.toNat then s.noc.routes.set k (BitVec.ofNat 64 (routeImage value.toNat)) else s.noc.routes.del k
    { s with noc := { s.noc with routes := m } })

end Sys2Proof.Machine
end

