-- ==== Sys2Proof/Machine/Lsp.lean ====
section
/-! DEFINITION. Messages between the hub and a commons: their headers, encryption, and sending (R506, R507, R511 to R514, R553). -/

namespace Sys2Proof.Machine
open Sys2Proof

def State.site (s : State) (n : Nat) : Site := s.sites.get Site.empty n
def State.setSite (s : State) (n : Nat) (x : Site) : State := { s with sites := s.sites.set n x }
def State.modSite (s : State) (n : Nat) (h : Site → Site) : State := s.setSite n (h (s.site n))

/-! ### OP values (R513) and roles (R509, R536) -/

def lWinRead : Nat := 0x01
def lWinWrite : Nat := 0x02
def lRecordEnd : Nat := 0x03
def lDone : Nat := 0x11
def lGo : Nat := 0x12
def lSnpPush : Nat := 0x21
def lSnpInv : Nat := 0x22
def lData : Nat := 0x30

/-- STATUS ERROR (R514); the other values are those of R359. -/
def statusError : Nat := 4

def roleWindow : Nat := 0
def roleDma : Nat := 1
def roleCoherent : Nat := 2
def State.role (s : State) (site r : Nat) : Bool := bitOf (s.cmnCfg site) r

def cmnDeclare (s : State) (site : Nat) : Nat := s.hubNat (cmnOff site 8)
def declChecked : Nat := 5
def declEncrypt : Nat := 4
def State.declares (s : State) (site bit : Nat) : Bool := bitOf (cmnDeclare s site) bit

/-- A commons site. -/
def isCommonsSite (n : Nat) : Bool := 16 ≤ n && n < 20

/-- The chiplet speaks LSP: its site is ACTIVE or STANDBY (R537). -/
def State.siteLive (s : State) (n : Nat) : Bool := s.up && isCommonsSite n && (s.cmnSt n = cmnActive || s.cmnSt n = cmnStandby)

/-- The paddock that owns the window a site serves (R103, R528). -/
def State.siteOwner (s : State) (n : Nat) : Option Nat :=
  (s.fns.find? (fun (p : Nat × Fn) =>
    let c := p.2.nat PDK_COMMONS
    bitOf c 7 && s.servedBy (c % 32) = n)).map (·.1)

/-! ### Headers and encryption (R511, R553) -/

def lspClass (op : Nat) : Nat := if op < 0x10 then 0 else if op < 0x20 then 1 else if op < 0x30 then 2 else 3

/-- The 32-byte header. -/
def lspHeader (op tag status sub addr record len : Nat) : List Byte :=
  leBytes 1 (lspClass op) ++ leBytes 1 op ++ leBytes 2 tag ++ leBytes 1 status ++ leBytes 1 sub ++ leBytes 2 0 ++ leBytes 8 addr ++
    leBytes 8 record ++ leBytes 4 len ++ leBytes 4 0

/-- The IV: the direction's salt and the count of DATA messages. -/
def lspNonce (keySalt : List Byte) (count : Nat) : Nat := beNat ((keySalt.drop 32).take 4 ++ beBytes 8 count)
def lspKey (keySalt : List Byte) : Nat := beNat (keySalt.take 32)

/-- 64 bytes under a key. -/
def lspCrypt (keySalt : List Byte) (count : Nat) (bs : List Byte) : List Byte :=
  (List.range 64).map (fun i => byteAt bs i ^^^ Config.gcmStream (lspKey keySalt) (lspNonce keySalt count) i)
def lspTag (keySalt : List Byte) (count : Nat) (header cipher : List Byte) : Nat :=
  Config.gcmTag (lspKey keySalt) (lspNonce keySalt count) (header ++ cipher)

/-- A DATA message as it leaves, encrypted while a window key is in force. -/
def Site.seal (x : Site) (m : LspOut) : LspOut :=
  if m.op = lData && x.keyed then
    let c := lspCrypt x.keyDown x.sentData m.data
    { m with data := c, tail := lspTag x.keyDown x.sentData (lspHeader m.op m.tag m.status m.sub m.addr m.record m.len) c }
  else m

/-! ### Sending (R506) -/

/-- The hub sends a message: it takes the next SEQ and stays in the replay buffer, one message a flit, until acknowledged. -/
def State.sendLsp (s : State) (n : Nat) (m : LspOut) : State :=
  let x := s.site n
  let w := x.seal m
  (s.setSite n { x with sentData := x.sentData + boolN (m.op = lData && x.keyed), txSeq := (x.txSeq + 1) % 65536,
                        replay := x.replay ++ [(x.txSeq, w)] }).send (.lsp n w)

/-- The replay buffer holds 512 flits. -/
def State.lspRoom (s : State) (n : Nat) : Bool := (s.site n).replay.length < 512

/-- A message without payload. -/
def lspMsg (op tag addr len status record sub : Nat) : LspOut := ⟨op, tag, addr, len, status, record, sub, [], 0⟩

/-- A DATA message: byte enables in the place of ADDR. -/
def lspDataMsg (tag enables status sub : Nat) (bs : List Byte) : LspOut := ⟨lData, tag, enables, 0, status, 0, sub, (bs ++ zeros 64).take 64, 0⟩

/-- Byte enables of a list of bytes by offset. -/
def enablesOf (cells : List (Nat × Byte)) : Nat := (List.range 64).foldl (fun a i => a + boolN (cells.any (fun c => c.1 = i)) * 2 ^ i) 0
def lineOfCells (cells : List (Nat × Byte)) : List Byte :=
  (List.range 64).map (fun i => match cells.find? (fun c => c.1 = i) with
    | some c => c.2
    | none => 0)

/-- A management message that awaits an answer, and one that does not (R507). -/
def State.askMgmt (s : State) (n code : Nat) (args : List Nat) : State :=
  (s.modSite n (fun x => { x with mgmt := some (code, args) })).send (.mgmt n code args)
/-- The answer to a management message has come. -/
def State.mgmtDone (s : State) (n : Nat) : State := s.modSite n (fun x => { x with mgmt := none })

end Sys2Proof.Machine
end

