-- ==== Sys2Proof/Machine/Attest.lean ====
section
/-! DEFINITION. Measurement blocks and what is signed over them (R542, R554 to R556). -/

namespace Sys2Proof.Machine
open Sys2Proof

/-! ### Measurement blocks (R555, R556) -/

/-- DISCOVER bytes 2 to 31 (R508). -/
def State.discoverBytes (s : State) (n : Nat) : List Byte :=
  let x := s.site n
  let id := s.hubNat (cmnOff n 0x0C)
  leBytes 2 x.strap ++ leBytes 2 (id % 65536) ++ leBytes 2 (id / 65536) ++ leBytes 1 x.stepping ++ leBytes 1 x.measCount ++
    leBytes 2 (cmnDeclare s n) ++ leBytes 2 x.nomMv ++ leBytes 1 x.pmaxW ++ leBytes 1 0 ++ leBytes 4 (s.hubNat (cmnOff n 0x1C)) ++
    leBytes 4 x.windowMib ++ leBytes 8 (s.hubNat (cmnOff n 0x10))

def State.siteBlock (s : State) (n : Nat) : List Byte :=
  if s.cmnSt n = cmnActive || s.cmnSt n = cmnStandby then
    s.discoverBytes n ++ ((List.range (s.site n).measCount).map (fun i => (s.site n).measures.get (zeros 48) i)).flatten
  else leBytes 2 (s.cmnSt n)

def Fn.logDigest (f : Fn) : List Byte := sha384 f.measLog.flatten

def State.padBlock (s : State) (n : Nat) : List Byte :=
  let f := s.fn n
  leBytes 4 f.measLog.length ++ leBytes 1 (boolN (s.confidential n) + boolN (s.integrity n) * 2 + boolN (s.sec.debugged.contains n) * 4) ++
    zeros 3 ++ f.logDigest

/-- A measurement block by its index; none where there is none. Block 5 holds state, stepping, two zero bytes, serial and epoch. -/
def State.measBlock (s : State) (i : Nat) : Option (List Byte) :=
  if i = 1 then some Config.bootRomDigest
  else if i = 2 then some (s.boot.dFw ++ leBytes 1 (boolN s.boot.slotB))
  else if i = 3 then some s.boot.dFb
  else if i = 4 then some s.boot.dUc
  else if i = 5 then some (leBytes 2 s.lc ++ leBytes 2 (s.hubNat IDN_STEPPING) ++ leBytes 8 s.serial ++ leBytes 4 (s.fnNat 0 STL_EPOCH))
  else if 0x10 ≤ i && i < 0x14 then some (s.siteBlock i)
  else if 0x20 ≤ i && i < 0x40 then some (s.padBlock (i - 0x20))
  else none

def allBlocks : List Nat := (List.range 64).filter (fun i => (1 ≤ i && i ≤ 5) || (0x10 ≤ i && i < 0x14) || 0x20 ≤ i)

def State.blockBytes (s : State) (is : List Nat) : List Byte := (is.filterMap s.measBlock).flatten

/-- The measurement summary hash. -/
def State.summary (s : State) : List Byte := sha384 (s.blockBytes (allBlocks.filter (· < 0x20)))

def State.akSign (s : State) (m : List Byte) : List Byte := beBytes 96 (Config.ecdsaSign s.sec.ak m)

/-! ### Responses of the DOE mailbox -/

def doeTdisp : Nat := 1
def doeCertificate : Nat := 2
def doeChallengeAuth : Nat := 3
def doeMeasurements : Nat := 4
def doeKeyExchange : Nat := 5
def doeError : Nat := 6

/-- MEASUREMENTS: block 0xFF asks for all. -/
def State.sendMeasurements (s : State) (block : Nat) (nonce : List Byte) : State :=
  let is := if block = 0xFF then allBlocks else [block]
  let b := s.blockBytes is
  s.send (.doe doeMeasurements [block] (b ++ s.akSign (b ++ nonce)))

/-- Once the commons have been read again the response goes out. -/
def State.finishAttest (s : State) : State :=
  match s.sec.attest with
  | none => s
  | some (b, nonce) =>
    if s.sites.any (fun p => s.siteLive p.1 && !p.2.toMeasure.isEmpty) then s
    else ({ s with sec := { s.sec with attest := none } } : State).sendMeasurements b nonce

end Sys2Proof.Machine
end

