-- ==== Sys2Proof/Machine/Coherence.lean ====
section
/-! DEFINITION. The coherent window: transactions at the home, snoops at the agents' stops, pushes and grants (R372 to R384, R523). -/

namespace Sys2Proof.Machine
open Sys2Proof

/-! ### Agents and lines (R373, R374) -/

def State.modLock (s : State) (l : Nat) (h : CohTxn → CohTxn) : State :=
  s.modLine l (fun x => { x with lock := x.lock.map h })

/-- The agent that an ID belongs to. -/
def State.agentOf (s : State) (id : Nat) : Option Nat :=
  match unitOfId id with
  | some (k, p) =>
    if k = kShepherd then some p
    else if k = kTile then (s.logicalOf kTile p).map (· + 4)
    else if k = kCommons then some (p + 4)
    else none
  | none => none

def State.agentActive (s : State) (a : Nat) : Bool := bitOf (s.hubNat SNP_AGENTS) a
def State.agentGone (s : State) (a : Nat) : Bool := s.fencedUnit (s.agentUnit a).1 (s.agentUnit a).2 || !s.agentActive a

def CohLine.holder (x : CohLine) (a : Nat) : Moesi := x.holders.get .i a
def CohLine.hold (x : CohLine) (a : Nat) (st : Moesi) : CohLine :=
  { x with holders := if st == .i then x.holders.del a else x.holders.set a st }

/-- A coherent request of an agent is refused: logged and counted (R369, R372). -/
def State.cohDeny (s : State) (src dst a : Nat) : State :=
  (s.hubCount NOC_DENIED 1).report { hubReport cDenied .uc 0x05 dst a with initiator := src, access := 5 }

/-- A coherent request takes its place at the home (R374). A WRITEBACK of a line held in E shows that its agent has stored to it. -/
def State.cohStart (s : State) (g tag l : Nat) (kind : TxnKind) : State :=
  let s := if kind == .writeback && (s.line l).holder g == .e then s.modLine l (fun x => x.hold g .m) else s
  let t := newTxn g tag kind s.time
  if (s.line l).lock.isNone then s.lockLine l t else s.modLine l (fun x => { x with queue := x.queue ++ [t] })

/-- A coherent request arrives over the mesh (R372, R374). -/
def State.cohArrive (s : State) (q : ReqFlit) (kind : TxnKind) : State :=
  if !s.up then s
  else if s.stale q.src.toNat then s.lateSpeaker q.src.toNat
  else
    let a := q.addr.toNat
    let deny := (s.cohDeny q.src.toNat q.dst.toNat a).send (.rsp q.src.toNat q.txn.toNat 0 statusDenied 0)
    match s.agentOf q.src.toNat with
    | none => deny
    | some g => if !s.agentActive g || !s.inWindow a then deny else s.cohStart g q.txn.toNat (lineOf a) kind

def execRdShared (q : ReqFlit) (s : State) : Out := .next (s.cohArrive q .shared)
def execRdUnique (q : ReqFlit) (s : State) : Out := .next (s.cohArrive q .unique)
def execUpgrade (q : ReqFlit) (s : State) : Out := .next (s.cohArrive q .upgrade)
def execWriteback (q : ReqFlit) (s : State) : Out := .next (s.cohArrive q .writeback)

/-- GO at the requester: it launches its snoop, an UPGRADE whose copy is gone as SNP_UNIQUE (R375 step 3); a WRITEBACK sends its line,
or an ACK when it no longer holds it (R378). The WRITEBACK of a commons goes on when the chiplet has its GO (R522). -/
def execNocGo (line : Nat) (s : State) : Out :=
  .next (match (s.line line).lock with
    | none => s
    | some t =>
      if !t.goSent || t.launched || (t.kind == .writeback && 20 ≤ t.agent) then s
      else
        let k := if t.kind == .upgrade && (s.line line).holder t.agent == .i then .unique else t.kind
        let s := s.modLock line (fun t => { t with launched := true, snoop := k })
        if t.kind == .writeback then s else s.send (.snp line t.agent k))

/-! ### Snoops at the stops (R376, R377, R379) -/

/-- What an agent in a state does to a snoop: its new state, and whether it pushes. -/
def answerSnoop (st : Moesi) (k : TxnKind) (needPush : Bool) : Moesi × Bool :=
  match k, st with
  | .shared, .s => (.s, false)
  | .shared, .e => (.s, false)
  | .shared, .o => (.o, needPush)
  | .shared, .m => (.o, true)
  | .shared, .i => (.i, false)
  | .unique, .m => (.i, true)
  | .unique, .o => (.i, needPush)
  | .unique, _ => (.i, false)
  | .upgrade, .o => (.i, needPush)
  | .upgrade, .s => (.i, false)
  | _, x => (x, false)

/-- The stop of an agent answers the snoop as it passes. -/
def State.snoop (s : State) (line a : Nat) (k : TxnKind) : State :=
  match (s.line line).lock with
  | none => s
  | some t =>
    if !t.launched || t.lapDone || t.snoop != k || a = t.agent || t.passed.contains a then s
    else
      let x := s.line line
      let st := x.holder a
      if s.agentGone a then
        let dirty := st == .m || st == .o
        (s.modLine line (fun x => x.hold a .i)).modLock line (fun t =>
          { t with passed := a :: t.passed, lost := t.lost || dirty, lostM := t.lostM || st == .m, pushOwner := if dirty then a else t.pushOwner })
      else
        let r := answerSnoop st k t.needPush
        let s := s.modLine line (fun x => x.hold a r.1)
        let acks := if 20 ≤ a then boolN r.2 + boolN (r.1 == .i && st != .i || r.1 == .s && st != .s) else 0
        let s := s.modLock line (fun t =>
          { t with passed := a :: t.passed, sharers := if r.1 == .i then t.sharers else a :: t.sharers,
                   pushed := t.pushed || r.2, pushOwner := if r.2 then a else t.pushOwner,
                   pushM := if r.2 then st == .m else t.pushM, awaiting := List.replicate acks a ++ t.awaiting })
        if r.2 then (s.hubCount SNP_PUSHES 1).hubCount SNP_NEED_PUSHES (boolN (t.needPush && st == .o)) else s

def execSnpShared (line agent : Nat) (s : State) : Out := .next (s.snoop line agent .shared)
def execSnpUnique (line agent : Nat) (s : State) : Out := .next (s.snoop line agent .unique)
def execSnpInvalid (line agent : Nat) (s : State) : Out := .next (s.snoop line agent .upgrade)

/-! ### Step 6 (R375, R379) -/

def txnGrant (t : CohTxn) : Moesi :=
  if t.kind == .shared then (if t.sharers.isEmpty then .e else .s) else .m
def moesiCode (st : Moesi) : Nat :=
  match st with
  | .i => 0
  | .s => 1
  | .e => 2
  | .o => 3
  | .m => 4

/-- The line of a fenced agent: poisoned, or written from the home's copy (R379). -/
def State.settleLost (s : State) (line : Nat) (t : CohTxn) : State × Bool :=
  if !t.lost then (s, false)
  else if t.lostM || (s.line line).home != .dirty then
    let r := hubReport cLineLost .uc 0x05 (s.agentId t.pushOwner) (line * 64)
    (((s.modLine line (fun x => { x with home := .absent, copy := [] })).spoil (line * 64)).hubCount SNP_LOST_LINES 1 |>.report
      { r with initiator := s.agentId t.agent, access := 5 }, true)
  else ((s.commitStore (line * 64) (s.line line).copy).modLine line (fun x => { x with home := .clean }), false)

/-- The home sends the line and its state once the lap is done, a push has arrived and every commons has acknowledged. -/
def State.tryGrant (s : State) (line : Nat) : State :=
  match (s.line line).lock with
  | none => s
  | some t =>
    if t.kind == .writeback || !t.lapDone || t.granted || (t.pushed && !t.pushIn) || !t.awaiting.isEmpty then s
    else
      let r := s.settleLost line t
      let s := r.1
      let x := s.line line
      let fill := s.fetch (line * 64) 64
      let data := if x.home == .absent then fill.1 else x.copy
      let bad := r.2 || t.poison || (x.home == .absent && fill.2)
      let s := if x.home == .absent && !bad then s.modLine line (fun x => { x with home := .clean, copy := fill.1 }) else s
      let s := s.modLock line (fun t => { t with granted := true, poison := bad })
      s.send (.dat (s.agentId t.agent) t.tag 0 bad (moesiCode (txnGrant t)) data)

/-- SNOOP_DONE reaches the home when the snoop has passed every agent that holds the line. -/
def execSnoopDone (line : Nat) (s : State) : Out :=
  .next (match (s.line line).lock with
    | none => s
    | some t =>
      if t.lapDone then s.tryGrant line
      else if !t.launched || t.kind == .writeback ||
          (s.line line).holders.any (fun h => h.1 != t.agent && !t.passed.contains h.1) then s
      else (s.modLock line (fun t => { t with lapDone := true })).tryGrant line)

/-! ### Unlocking (R374, R375 step 7, R378) -/

/-- The home unlocks; the next transaction of the line begins. -/
def State.unlock (s : State) (line : Nat) : State :=
  let x := s.line line
  match x.queue with
  | [] => s.setLine line { x with lock := none }
  | t :: rest => (s.setLine line { x with lock := none, queue := rest }).lockLine line t

/-- A coherent transaction completes. -/
def State.txnDone (s : State) (line : Nat) (t : CohTxn) : State :=
  ((s.hubCount SNP_TRANSACTIONS 1).hubMax SNP_TXN_MAX (s.time - t.startedAt)).unlock line

def execNocAck (line : Nat) (s : State) : Out :=
  .next (match (s.line line).lock with
    | none => s
    | some t =>
      if t.kind == .writeback then
        (if t.launched && (s.line line).holder t.agent != .m && (s.line line).holder t.agent != .o then s.txnDone line t else s)
      else if t.granted then (s.modLine line (fun x => x.hold t.agent (txnGrant t))).txnDone line t
      else s)

/-! ### Data (R360, R375, R378) -/

/-- A pushed line arrives at its home, whose copy becomes DIRTY. -/
def State.pushData (s : State) (line : Nat) (data : List Byte) (poison : Bool) : State :=
  ((s.modLine line (fun x => { x with home := .dirty, copy := (data ++ zeros 64).take 64 })).modLock line
    (fun t => { t with pushIn := true, poison := t.poison || poison })).tryGrant line

/-- The data of a WRITEBACK: the home writes the line, its copy is CLEAN, and the agent holds it no more. -/
def State.writebackData (s : State) (line : Nat) (t : CohTxn) (data : List Byte) (poison : Bool) : State :=
  let bs := (data ++ zeros 64).take 64
  let s := s.commitStore (line * 64) bs
  let s := if poison then s.spoil (line * 64) else s
  let s := s.modLine line (fun x => (({ x with home := if poison then .absent else .clean, copy := bs } : CohLine).hold t.agent .i))
  (s.send (.rsp (s.agentId t.agent) t.tag 0 statusOk 0)).txnDone line t

/-- The line whose transaction a coherent DAT flit serves, and how: as a push, as the data of a WRITEBACK, or as a grant. -/
def State.cohDat (s : State) (d : DatFlit) : Option (Nat × CohTxn × Nat) :=
  let src := s.agentOf d.src.toNat
  let dst := s.agentOf d.dst.toNat
  (s.lines.find? (fun (p : Nat × CohLine) => match p.2.lock with
    | none => false
    | some t => t.tag % 256 = d.txn.toNat &&
        ((t.pushed && !t.pushIn && src == some t.pushOwner) || (t.kind == .writeback && t.launched && src == some t.agent) ||
         (t.granted && dst == some t.agent)))).bind (fun p => p.2.lock.map (fun t =>
          (p.1, t, if t.pushed && !t.pushIn && src == some t.pushOwner then 0 else if t.kind == .writeback then 1 else 2)))

/-- NOC_DATA: write data at a target, read data at a source, a push or WRITEBACK at a home, or a granted line at its requester. A
payload that fails its end-to-end check is a datapath error of the record it served (R356). -/
def execNocData (d : DatFlit) (s : State) : Out :=
  let wkey := reqKey d.src.toNat d.txn
  let rkey := reqKey d.dst.toNat d.txn
  .next (if !s.up then s
  else if s.stale d.src.toNat then s.lateSpeaker d.src.toNat
  else
    let w := match s.noc.outs.find wkey with
      | some o => if o.op = opWrite && o.granted && o.req.dst = d.dst then some o else none
      | none => none
    let r := match s.noc.outs.find rkey with
      | some o => if o.op = opRead then some o else none
      | none => none
    if !d.crcOk then
      let s := (s.hubCount NOC_E2E_ERRORS 1).report { hubReport cE2eCrc .uc 0x04 d.dst.toNat 0 with initiator := d.src.toNat }
      match w, r with
      | some o, _ => ({ s with noc := { s.noc with outs := s.noc.outs.del wkey } } : State).servedError o.req
      | _, some o => ({ s with noc := { s.noc with outs := s.noc.outs.del rkey } } : State).servedError o.req
      | _, _ => s
    else match s.cohDat d with
      | some (l, t, k) =>
        if k = 0 then s.pushData l d.data d.poison
        else if k = 1 then (if (s.line l).holder t.agent == .m || (s.line l).holder t.agent == .o then s.writebackData l t d.data d.poison else s)
        else
          let s := s.modLine l (fun x => x.hold t.agent (txnGrant t))
          if 20 ≤ t.agent then
            let st := if t.poison then statusPoison else statusOk
            (s.sendLsp (t.agent - 4) (lspMsg lDone t.tag 0 64 st 0 (moesiCode (txnGrant t)))).sendLsp (t.agent - 4)
              (lspDataMsg t.tag (2 ^ 64 - 1) st (moesiCode (txnGrant t)) d.data)
          else s
      | none => match w, r with
        | some o, _ => s.writeData wkey o d
        | _, some o => s.readData rkey o d
        | _, _ => s)

end Sys2Proof.Machine
end

