-- ==== Sys2Proof/Machine/Optical.lean ====
section
/-! DEFINITION. The optical links: lanes, training, keys, flits, messages, module time and the torus at large (R29, R30, R466 to R499,
R548 to R551). -/

namespace Sys2Proof.Machine
open Sys2Proof

/-! ### Lanes (R30, R466, R467, R478) -/

def State.unusedPort (s : State) (p : Nat) : Bool := portRole (s.portCfg p) = 0
def State.linksUp (s : State) : Bool := s.up && !s.safe
def State.carries (s : State) (p : Nat) : Bool := s.portState p = psUp || s.portState p = psStandby
def State.training (s : State) (p : Nat) : Bool := s.portState p = psTraining || s.portState p = psRetraining

/-- First physical lane of a port's allotment. -/
def State.laneBase (s : State) (p : Nat) : Nat :=
  p / 4 * 68 + ((List.range (p % 4)).map (fun i => portLaneCount (s.portCfg (p / 4 * 4 + i)))).foldl (· + ·) 0

/-- Physical lanes that the port takes as logical lanes 0 to 15 at cold start. -/
def State.baseLanes (s : State) (p : Nat) : List Nat :=
  (((List.range (portLaneCount (s.portCfg p))).map (· + s.laneBase p)).filter (fun l => !s.noc.bad.contains (kLane, l))).take 16

/-- The physical lane of a logical lane. -/
def State.lanePhys (s : State) (p l : Nat) : Option Nat :=
  match s.noc.maps.find (kLane * 65536 + p * 16 + l) with
  | some v => if v = 0 then none else some (v - 1)
  | none => (s.baseLanes p)[l]?

/-- Free spares of a port group (R25, R467). -/
def State.laneSpares (s : State) (g : Nat) : List Nat :=
  let used := ((List.range 4).map (fun i => (List.range 16).filterMap (s.lanePhys (4 * g + i)))).flatten
  ((List.range 68).map (· + 68 * g)).filter (fun l =>
    !s.noc.bad.contains (kLane, l) && !s.noc.fenced.contains (kLane, l) && !used.contains l)

def laneMaskOf (ls : List Nat) : Nat := (List.range 16).foldl (fun a i => a + boolN (ls.contains i) * 2 ^ i) 0
def lanesOfMask (m : Nat) : List Nat := (List.range 16).filter (bitOf m)

/-- LNK_PORT_LANES and WIDTH of a port follow its lanes (R500, R503). -/
def State.noteLanes (s : State) (p : Nat) : State :=
  let x := s.port p
  let sp := ((s.laneSpares (p / 4)).length) % 64
  (s.hubSetN (LNK_PORT_LANES + 4 * p) (sp * 2 ^ 24 + x.onSpare.getD 31 * 2 ^ 16 + laneMaskOf x.lanes)).portField p 19 5 x.lanes.length

/-- A logical lane's physical lane is fenced: pinfold entry, vacancy (R478, R604). -/
def State.fenceLane (s : State) (p l cause : Nat) : State :=
  match s.lanePhys p l with
  | none => s
  | some q =>
    let s := { s with noc := { s.noc with fenced := s.noc.fenced ++ [(kLane, q)],
                                          maps := s.noc.maps.set (kLane * 65536 + p * 16 + l) 0 } }
    s.addPin (s.pinData kLane q cause (p * 16 + l) false)

/-! ### Port states (R475, R477, R499) -/

def State.enterState (s : State) (p st : Nat) : State := ((s.setPortState p st).raiseInt intPort).portsChanged

/-- A port is excluded: logged with its reason, its buffers and keys dropped (R477). -/
def State.excludePort (s : State) (p reason : Nat) : State :=
  if s.portState p = psExcluded then s
  else
    let s := (s.portField p 24 4 reason).modPort p (fun x =>
      { x with replay := [], keyed := false, keyUp := 0, keyDown := 0, kx := 0, kxSecret := 0, identOk := false })
    (s.enterState p psExcluded).report (hubReport cPortExcluded .uc 0x0B p (reason * 2 ^ 8 + p))

/-- A port trains, or trains again from a step (R475, R477, R479). -/
def State.retrain (s : State) (p : Nat) (fresh : Bool) : State :=
  let was := s.carries p || s.portState p = psFencedPeer || (s.portState p = psRetraining)
  let lanes := (List.range 16).filter (fun l => (s.lanePhys p l).isSome)
  let s := (s.portField p 24 4 0).modPort p (fun x =>
    { x with identOk := false, keyed := false, keyUp := 0, keyDown := 0, kx := 0, kxSecret := 0, kxLog := [], replay := [], rxNext := 0,
             txNext := 0, authFailed := false, naks := 0, since := s.time,
             lanes := if fresh then lanes else x.lanes })
  (s.noteLanes p).enterState p (if was then psRetraining else psTraining)

/-- Link training begins once the hub rail is up: every port other than UNUSED (R475). -/
def State.beginLinks (s : State) : State :=
  (List.range 16).foldl (fun s p => if s.unusedPort p then s else s.retrain p true) s

/-- A port group's laser input loses its light or has it again (R29, R477). -/
def execLightChange (input : Nat) (on : Bool) (s : State) : Out :=
  .next (if 4 ≤ input || s.torus.lightIn.contains input == on then s
  else
    let s := s.modTorus (fun t => { t with lightIn := if on then input :: t.lightIn else t.lightIn.filter (· != input) })
    if !s.up then s
    else ((List.range 4).map (· + 4 * input)).foldl (fun s p =>
      if s.unusedPort p then s
      else if on then
        (if s.portState p = psExcluded && fieldOf (s.hubNat (LNK_PORT_STATUS + 4 * p)) 24 4 = rsNoLight then s.retrain p true else s)
      else if s.portState p = psOff || s.portState p = psExcluded then s
      else s.excludePort p rsNoLight) s)

/-- The peer's training pattern appears on a port that still listens. -/
def execTrainPattern (port : Nat) (s : State) : Out :=
  .next (
    let r := fieldOf (s.hubNat (LNK_PORT_STATUS + 4 * port)) 24 4
    if s.up && port < 16 && s.portState port = psExcluded && (r = rsNoTrain || r = rsLinkLost) then s.retrain port false else s)

/-- TRAIN: the lanes good at both ends (R475 step 4, R483). -/
def execTrain (port lanes : Nat) (s : State) : Out :=
  .next (if s.linksUp && port < 16 && s.training port then
    (s.modPort port (fun x => { x with lanes := x.lanes.filter (bitOf lanes) })).noteLanes port else s)

/-- Ports neither UP nor STANDBY at the limit are excluded (R477). -/
def execTrainTimeout (s : State) : Out :=
  .next (if !s.up then s
  else (List.range 16).foldl (fun s p =>
    if s.unusedPort p || !s.training p || s.time < (s.port p).since + s.hubNat LNK_TRAIN_TIMEOUT * 1000000 then s
    else s.excludePort p (if !s.torus.lightIn.contains (p / 4) then rsNoLight
      else if s.portState p = psRetraining then rsLinkLost else rsNoTrain)) s)

/-- Step 7: UP, or STANDBY for POOL (R475); below the least width of either end the port is excluded. -/
def execPortTrained (port width : Nat) (s : State) : Out :=
  .next (if !s.linksUp || 16 ≤ port || !s.training port || !(s.port port).identOk || !(s.port port).keyed then s
  else if width < portWidthMin (s.portCfg port) then s.excludePort port rsBelowMin
  else
    let s := s.portField port 19 5 (min width 16)
    s.enterState port (if portRole (s.portCfg port) = 8 then psStandby else psUp))

/-! ### IDENT (R476, R479) -/

/-- The direction opposite to 1 to 6. -/
def facing (d : Nat) : Nat := if d % 2 = 1 then d + 1 else d - 1

/-- The node that a port leads to (R471). -/
def State.farNode (s : State) (p : Nat) : Nat :=
  let c := s.portCfg p
  if portRole c = 7 then portExpress c
  else s.neighbour s.nodeId ((portDir c - 1) / 2) (portDir c % 2 = 0)

def State.miswired (s : State) (p : Nat) (i : IdentMsg) : Bool :=
  let c := s.portCfg p
  i.sizes ≠ fieldOf (s.hubNat LNK_NODE) 18 9 || i.node ≠ s.farNode p ||
    (if portRole c = 7 then !(i.role = 7 && i.expressNode = s.nodeId)
     else !(i.role = facing (portDir c) || (i.role = 8 && i.poolDir = facing (portDir c))))

/-- The module's own IDENT. -/
def State.sendIdent (s : State) (p : Nat) : State :=
  let c := s.portCfg p
  s.send (.portCtl p 0x02 [s.nodeId, fieldOf (s.hubNat LNK_NODE) 18 9, p, portRole c, portPoolDir c, portExpress c, portWidthMin c, s.serial])

/-! ### Key exchange (R485, R548 to R551) -/

def pointBytes (share : Nat) : List Byte := beBytes 97 share

/-- Bytes 0 to 623 of a KEYX body (R549). -/
def kxBody (step gen share : Nat) (cred : List Byte) (sig : List Byte) : List Byte :=
  ([0x03#8, BitVec.ofNat 8 step] ++ leBytes 2 gen ++ pointBytes share ++ zeros 3 ++ (cred ++ zeros 208).take 208 ++ (sig ++ zeros 96).take 96 ++
    zeros 216).take 624

/-- The module's torus credential in the boot flash (R548). -/
def State.credential (s : State) : List Byte := s.flashBytes 0x60000 208

/-- A credential stands under the authority key and names the serial number of IDENT. -/
def State.credentialOk (s : State) (cred : List Byte) (serial : Nat) : Bool :=
  match s.boot.authority with
  | none => false
  | some key => cred.length = 208 && fieldAt cred 0 8 = serial && zeroAt cred 105 7 &&
      Config.ecdsaVerify key (cred.take 112) (beNat (cred.drop 112))
def credKey (cred : List Byte) : Nat := beNat ((cred.drop 8).take 97)

/-- The keys of a link (R550): from the lower node and from the higher node. -/
def linkKeys (secret peer lower higher gen : Nat) (log : List Byte) : Nat × Nat :=
  let okm := hkdf384 (sha384 log) (beBytes 48 (Config.ecdh secret peer))
    ([0x4C#8, 0x46#8, 0x4C#8] ++ leBytes 2 lower ++ leBytes 2 higher ++ leBytes 2 gen) 72
  (leNat (okm.take 32), leNat ((okm.drop 32).take 32))

def State.lowerEnd (s : State) (p : Nat) : Bool := s.nodeId < fieldOf (s.hubNat (LNK_PORT_STATUS + 4 * p)) 7 9

/-- A port has its keys of a generation: `up` encrypts what it sends. -/
def State.installKeys (s : State) (p secret peer gen : Nat) (log : List Byte) : State :=
  let far := fieldOf (s.hubNat (LNK_PORT_STATUS + 4 * p)) 7 9
  let k := linkKeys secret peer (min s.nodeId far) (max s.nodeId far) gen log
  s.modPort p (fun x => { x with keyGen := gen, keyUp := if s.lowerEnd p then k.1 else k.2, keyDown := if s.lowerEnd p then k.2 else k.1,
                                 keyedAt := s.time, sent := 0, kx := 0, kxSecret := 0 })

/-- The GMAC tag of a KEYX body. -/
def kxTag (key gen : Nat) (body : List Byte) : Nat := Config.gcmTag key gen body

/-- A tag or signature that fails excludes the port with reason AUTH (R550). -/
def State.authFail (s : State) (p : Nat) : State := s.excludePort p rsAuth

/-- The initiator, the end on the lower node, sends OFFER. -/
def State.sendOffer (s : State) (p : Nat) : State :=
  let x := s.free
  let body := kxBody 1 0 (Config.ecPublic x) s.credential []
  ((s.drawn).modPort p (fun q => { q with kx := 1, kxSecret := x, kxLog := body, kxAt := s.time })).send
    (.portCtl p 0x03 [1, 0, Config.ecPublic x, leNat s.credential])

/-- IDENT is checked; on an UP port, or one whose peer was fenced, steps 5 to 7 run again (R476, R479). -/
def execIdent (port : Nat) (i : IdentMsg) (s : State) : Out :=
  .next (if !s.linksUp || 16 ≤ port || s.unusedPort port then s
  else
    let again := s.carries port || s.portState port = psFencedPeer
    let s := if again then s.retrain port false else s
    if !s.training port then s
    else if s.miswired port i then s.excludePort port rsMiswired
    else if (s.port port).lanes.length < max (portWidthMin (s.portCfg port)) i.widthMin then s.excludePort port rsBelowMin
    else
      let s := ((s.portField port 7 9 i.node).portField port 3 4 i.port).modPort port (fun x =>
        { x with identOk := true, peerSerial := i.serial.toNat, keyed := false, kx := 0 })
      let s := s.sendIdent port
      if s.lowerEnd port then s.sendOffer port else s)

/-- OFFER at the responder, which answers ACCEPT (R550 steps 1 and 2). -/
def execKeyxOffer (port : Nat) (k : KeyxMsg) (s : State) : Out :=
  .next (
    let x := s.port port
    if !s.linksUp || 16 ≤ port || !s.training port || !x.identOk || s.lowerEnd port then s
    else if !s.credentialOk k.credential x.peerSerial then s.authFail port
    else
      let sec := s.free
      let offer := kxBody 1 0 k.share k.credential []
      let half := kxBody 2 0 (Config.ecPublic sec) s.credential []
      let sig := beBytes 96 (Config.ecdsaSign s.sec.ik (offer ++ half.take 312))
      let log := offer ++ kxBody 2 0 (Config.ecPublic sec) s.credential sig
      let s := (s.drawn).installKeys port sec k.share 0 log
      let s := s.modPort port (fun x => { x with kx := 2, kxPeer := credKey k.credential, kxLog := log, kxAt := s.time, keyed := false })
      s.send (.portCtl port 0x03 [2, 0, Config.ecPublic sec, leNat s.credential, beNat sig,
        kxTag (s.port port).keyUp 0 (log.drop 624)]))

/-- ACCEPT at the initiator, which answers CONFIRM and has its keys (R550 step 3). -/
def execKeyxAccept (port : Nat) (k : KeyxMsg) (s : State) : Out :=
  .next (
    let x := s.port port
    if !s.linksUp || 16 ≤ port || !s.training port || x.kx ≠ 1 then s
    else
      let body := kxBody 2 0 k.share k.credential (beBytes 96 k.signature)
      if !s.credentialOk k.credential x.peerSerial ||
          !Config.ecdsaVerify (credKey k.credential) (x.kxLog ++ body.take 312) k.signature then s.authFail port
      else
        let log := x.kxLog ++ body
        let s := s.installKeys port x.kxSecret k.share 0 log
        if kxTag (s.port port).keyDown 0 body ≠ k.confirm then s.authFail port
        else
          let half := kxBody 3 0 0 [] []
          let sig := beBytes 96 (Config.ecdsaSign s.sec.ik (log ++ half.take 312))
          (s.modPort port (fun x => { x with keyed := true, kxLog := log })).send
            (.portCtl port 0x03 [3, 0, beNat sig, kxTag (s.port port).keyUp 0 (kxBody 3 0 0 [] sig)]))

/-- CONFIRM at the responder, which has its keys. -/
def execKeyxConfirm (port : Nat) (k : KeyxMsg) (s : State) : Out :=
  .next (
    let x := s.port port
    if !s.linksUp || 16 ≤ port || !s.training port || x.kx ≠ 2 then s
    else
      let body := kxBody 3 0 0 [] (beBytes 96 k.signature)
      if !Config.ecdsaVerify x.kxPeer (x.kxLog ++ body.take 312) k.signature || kxTag x.keyDown 0 body ≠ k.confirm then s.authFail port
      else s.modPort port (fun x => { x with keyed := true, kx := 0 }))

/-- The exchange misses its bound (R550). -/
def execKeyExchangeTimeout (port : Nat) (s : State) : Out :=
  .next (if s.up && port < 16 && s.training port && (s.port port).identOk && !(s.port port).keyed then s.authFail port else s)

/-- A rekey begins when its time has come or 2^32 flits have been sent (R485). -/
def execRekeyTimer (port : Nat) (s : State) : Out :=
  .next (
    let x := s.port port
    if !s.linksUp || 16 ≤ port || !s.carries port || !x.keyed || x.kx ≠ 0 ||
        !(x.keyedAt + s.hubNat LNK_REKEY_MS * 1000000 ≤ s.time || 2 ^ 32 ≤ x.sent) then s
    else
      let sec := s.free
      let gen := (x.keyGen + 1) % 65536
      ((s.drawn).modPort port (fun q => { q with kx := 3, kxSecret := sec, kxAt := s.time, kxLog := kxBody 4 gen (Config.ecPublic sec) [] [] })).send
        (.portCtl port 0x03 [4, gen, Config.ecPublic sec]))

/-- REKEY: answered with KEYX_ACK and new keys; of two that cross, the lower node's proceeds (R551). -/
def execKeyxRekey (port share : Nat) (s : State) : Out :=
  .next (
    let x := s.port port
    if !s.linksUp || 16 ≤ port || !s.carries port || !x.keyed || (x.kx = 3 && s.lowerEnd port) then s
    else
      let sec := s.free
      let gen := (x.keyGen + 1) % 65536
      let log := kxBody 4 gen share [] [] ++ kxBody 5 gen (Config.ecPublic sec) [] []
      ((((s.drawn).installKeys port sec share gen log).hubCount (LNK_REKEYS + 0x20 * port) 1).send
        (.portCtl port 0x03 [5, gen, Config.ecPublic sec])))

/-- KEYX_ACK: the sender of the REKEY switches. -/
def execKeyxAck (port share : Nat) (s : State) : Out :=
  .next (
    let x := s.port port
    if !s.linksUp || 16 ≤ port || !s.carries port || x.kx ≠ 3 then s
    else
      let gen := (x.keyGen + 1) % 65536
      (s.installKeys port x.kxSecret share gen (x.kxLog ++ kxBody 5 gen share [] [])).hubCount (LNK_REKEYS + 0x20 * port) 1)

/-- A rekey not complete within 10 ms is as a resent flit whose tag fails (R485). -/
def execRekeyTimeout (port : Nat) (s : State) : Out :=
  .next (if s.up && port < 16 && (s.port port).kx = 3 && (s.port port).kxAt + 10000000 ≤ s.time then
    (s.hubCount (LNK_AUTH_FAILS + 0x20 * port) 1).authFail port else s)

/-! ### Delivery at this module (R486, R487, R490, R494 to R496) -/

/-- An acknowledgement frees the messages that it covers. -/
def State.acked (s : State) (m : LflMsg) : State :=
  s.modTorus (fun t => { t with kept := t.kept.filter (fun k =>
    !(k.msg.dst = m.src && msgClass k.msg.op = m.rank && (m.e2eSeq + 2 ^ 32 - k.msg.e2eSeq) % 2 ^ 32 < 2 ^ 31)) })

/-- A newer link state of a node is kept and passed on (R491; assumption 17). -/
def State.linkState (s : State) (m : LflMsg) : State :=
  let dirs := fieldAt m.payload 0 1 % 64
  let fenced := bitOf (fieldAt m.payload 0 1) 6
  let gen := fieldAt m.payload 1 4
  let old := (s.torus.nodes.find m.src).map (·.gen)
  if m.src = s.nodeId || (match old with
    | some g => (gen + 2 ^ 32 - g) % 2 ^ 32 = 0 || 2 ^ 31 ≤ (gen + 2 ^ 32 - g) % 2 ^ 32
    | none => false) then s
  else ((s.modTorus (fun t => { t with nodes := t.nodes.set m.src ⟨dirs, fenced, gen⟩ })).noteRoutes).floodState m.src dirs gen fenced (some m.port)

/-- A message that has arrived for this module. -/
def State.deliverLfl (s : State) (m : LflMsg) : State :=
  if !m.crcOk || !m.reservedOk || m.dst ≠ s.nodeId then s
  else if m.op = opE2eAck then s.acked m
  else if m.op = opLstate then s.linkState m
  else s.deliver m

def execCollectData (m : LflMsg) (s : State) : Out := .next (if s.linksUp then s.deliverLfl { m with op := opCollectData } else s)
def execHurdleArrive (m : LflMsg) (s : State) : Out := .next (if s.linksUp then s.deliverLfl { m with op := opHurdleArrive } else s)
def execLstate (m : LflMsg) (s : State) : Out := .next (if s.linksUp then s.deliverLfl { m with op := opLstate } else s)
def execCollectResult (m : LflMsg) (s : State) : Out := .next (if s.linksUp then s.deliverLfl { m with op := opCollectResult } else s)
def execHurdleOpen (m : LflMsg) (s : State) : Out := .next (if s.linksUp then s.deliverLfl { m with op := opHurdleOpen } else s)
def execE2eAck (m : LflMsg) (s : State) : Out := .next (if s.linksUp then s.deliverLfl { m with op := opE2eAck } else s)

/-- A message not acknowledged within 50 µs goes again on its present route, up to 8 times; then it is dropped (R490). -/
def execE2eResend (dst cls seq : Nat) (s : State) : Out :=
  .next (if !s.linksUp then s
  else match s.torus.kept.find? (fun k => k.msg.dst = dst && msgClass k.msg.op = cls && k.msg.e2eSeq = seq) with
    | none => s
    | some k =>
      if s.time < k.sentAt + 50000 then s
      else if 8 ≤ k.resends then s.modTorus (fun t => { t with kept := t.kept.erase k })
      else
        let s := (s.modTorus (fun t => { t with kept := t.kept.map (fun x => if x == k then { k with resends := k.resends + 1, sentAt := s.time } else x) })
          ).hubCount LNK_E2E_RETRANSMITS 1
        match s.egress dst with
        | some (p, hop) => s.putLfl p { k.msg with hop := hop, port := p }
        | none => s.hubCount LNK_UNREACHABLE 1)

/-- A message in transit leaves by the direction of its HOP; an express port accepts none (R474, R489). -/
def execLflForward (m : LflMsg) (s : State) : Out :=
  .next (if !s.linksUp || m.dst = s.nodeId || portRole (s.portCfg m.port) = 7 || !s.carries m.port then s
  else match s.pickPort (s.nextDir m.dst m.hop) m.src m.dst with
    | some p => (((s.hubCount64 LNK_FORWARDED 1).tallyM 0x16 1).putLfl p { m with port := p })
    | none => s)

/-- Every 100 ms the module floods its own link state (R491). -/
def execLstateTick (s : State) : Out :=
  .next (if !s.linksUp then s
  else
    let s := s.modTorus (fun t => { t with gen := (t.gen + 1) % 2 ^ 32 })
    s.floodState s.nodeId s.ownDirs s.torus.gen false none)

/-! ### Flits (R480 to R484) -/

/-- `a` is at or before `b` in the sequence of a link. -/
def seqLe (a b : Nat) : Bool := (b + 65536 - a) % 65536 < 32768

/-- NAK names the next SEQ expected; flits are discarded until it comes. -/
def State.sendNak (s : State) (p : Nat) : State :=
  (s.hubCount (LNK_RETRIES + 0x20 * p) 1).send (.portCtl p 0x04 [(s.port p).rxNext])

/-- ACK frees flits of the replay buffer. -/
def Port.ack (x : Port) (a : Nat) : Port :=
  { x with replay := x.replay.filter (fun r => !seqLe ((r.1 + r.2.1 + 65535) % 65536) a) }

def execLflFlit (port : Nat) (f : LflFlit) (s : State) : Out :=
  .next (if !s.linksUp || 16 ≤ port || !s.carries port then s
  else
    let s := s.hubCount64 (LNK_FEC_CORRECTED + 0x20 * port) f.corrected
    let x := s.port port
    if !f.crcOk then (s.hubCount (LNK_FEC_FAILED + 0x20 * port) 1).sendNak port
    else if f.seq ≠ x.rxNext then s
    else if !f.authOk then
      let s := s.hubCount (LNK_AUTH_FAILS + 0x20 * port) 1
      if x.authFailed then s.authFail port else (s.modPort port (fun x => { x with authFailed := true })).sendNak port
    else
      let s := s.modPort port (fun x =>
        ({ x with rxNext := (x.rxNext + 1) % 65536, authFailed := false, naks := 0 } : Port).ack f.ack)
      f.msgs.foldl (fun s m => (s.tallyM 0x15 m.payload.length).deliverLfl { m with port := port }) s)

/-- NAK: resend from the named SEQ; 16 in a row that name the same retrain the port once, from step 2 (R479, R482). -/
def execNak (port seq : Nat) (s : State) : Out :=
  .next (if !s.linksUp || 16 ≤ port || !s.carries port then s
  else
    let x := s.port port
    let n := if x.naks ≠ 0 && x.nakSeq = seq then x.naks + 1 else 1
    if 16 ≤ n then s.retrain port true
    else
      let s := s.setPort port { x with naks := n, nakSeq := seq }
      s.sendAll ((x.replay.filter (fun r => seqLe seq ((r.1 + r.2.1 + 65535) % 65536))).map (fun r => Tx.lfl port r.2.2)))

/-! ### Width (R478, R479) -/

/-- The lanes of a port change; below its least width it is excluded. -/
def State.setLanes (s : State) (p : Nat) (ls : List Nat) : State :=
  let s := (s.modPort p (fun x => { x with lanes := ls })).noteLanes p
  if ls.length < portWidthMin (s.portCfg p) then s.excludePort p rsBelowMin else s

def execWidth (port lanes : Nat) (s : State) : Out :=
  .next (if s.linksUp && port < 16 && s.carries port then s.setLanes port (lanesOfMask lanes) else s)

/-- Logical lanes of a port that are out of service. -/
def State.lanesOut (s : State) (p : Nat) : Nat := (((List.range 16).filter (fun l => l < (s.baseLanes p).length)).length) - (s.port p).lanes.length

/-- A lane loses lock or fails too many codewords: it is fenced and the port narrows; lost on more lanes than there are free spares,
the port retrains (R478, R479). -/
def State.laneLost (s : State) (port lane cause : Nat) : State :=
  if 16 ≤ port || !s.carries port || !(s.port port).lanes.contains lane then s
  else
    let s := s.fenceLane port lane cause
    let s := s.modPort port (fun x => { x with onSpare := if x.onSpare = some lane then none else x.onSpare })
    let s := s.setLanes port ((s.port port).lanes.filter (· != lane))
    if !s.carries port then s
    else if (s.laneSpares (port / 4)).length < s.lanesOut port then s.retrain port true
    else s.send (.portCtl port 0x05 [laneMaskOf (s.port port).lanes])

def execLaneFault (port lane : Nat) (s : State) : Out := .next (if s.up then s.laneLost port lane cLaneReplaced else s)

/-- A free spare has been tuned and trained in the place of a lane; one that cannot hold its slot moves to λ16, if that is free
(R466, R478). -/
def execLaneSwapDone (port lane : Nat) (ok : Bool) (s : State) : Out :=
  .next (if !s.up || 16 ≤ port || 16 ≤ lane || !s.carries port || (s.port port).lanes.contains lane || (s.lanePhys port lane).isSome then s
  else match (s.laneSpares (port / 4)).head? with
    | none => s
    | some q =>
      if !ok && (s.port port).onSpare.isSome then s
      else
        let s := { s with noc := { s.noc with maps := s.noc.maps.set (kLane * 65536 + port * 16 + lane) (q + 1) } }
        let s := s.modPort port (fun x => { x with onSpare := if ok then x.onSpare else some lane })
        let s := s.setLanes port ((List.range 16).filter (fun l => l = lane || (s.port port).lanes.contains l))
        ((s.hubCount (LNK_LANE_SWAPS + 0x20 * port) 1).report (hubReport cLaneReplaced .ce 0x0B (port / 4 * 68 + q % 68) 0)).send
          (.portCtl port 0x05 [laneMaskOf (s.port port).lanes]))

/-! ### Module time (R497, R498) -/

/-- The node whose time the module follows (R497, R502). -/
def State.bellwether (s : State) : Nat :=
  let b := s.hubNat LNK_BELLWETHER
  if bitOf (s.hubNat LNK_TIME_STATUS) 30 && bitOf b 15 then fieldOf b 16 9 else b % 512

/-- Hops of a route in a dimension. -/
def State.hopsTo (s : State) (dst hop : Nat) : Nat :=
  ((List.range 3).map (fun d =>
    let k := s.torusSize d
    let dp := (nodeCoord dst d + k - nodeCoord s.nodeId d) % k
    if dp = 0 then 0 else if bitOf hop d then k - dp else dp)).foldl (· + ·) 0

def execTimeReq (port : Nat) (_t1 : W64) (s : State) : Out :=
  .next (if s.linksUp && port < 16 && s.carries port then s.send (.portCtl port 0x07 [s.time, s.time]) else s)

/-- A module other than the bellwether sends TIME_REQ to its parent. -/
def execTimeExchangeTick (s : State) : Out :=
  .next (if !s.linksUp || s.bellwether = s.nodeId then s
  else match s.egress s.bellwether with
    | none => s
    | some (p, hop) =>
      let st := withField (withField (s.hubNat LNK_TIME_STATUS) 26 4 p) 22 4 (if hop = 8 then 1 else s.hopsTo s.bellwether hop)
      ((s.hubSetN LNK_TIME_STATUS st).modPort p (fun x => { x with timeT1 := s.time })).send (.portCtl p 0x06 [s.time]))

/-- The offset, halves rounded towards minus infinity. -/
def timeTheta (t1 t2 t3 t4 : Int) : Int := ((t2 - t1) + (t3 - t4)) / 2

def execTimeResp (port : Nat) (t2 t3 : W64) (s : State) : Out :=
  .next (if !s.linksUp || 16 ≤ port || !s.carries port || s.bellwether = s.nodeId then s
  else
    let th := timeTheta (s.port port).timeT1 t2.toNat t3.toNat s.time
    let s := s.hubSet LNK_TIME_OFFSET (BitVec.ofInt 64 th)
    let first := s.torus.syncAt = 0
    let s := (s.modTorus (fun t => { t with syncAt := s.time })).hubSetN LNK_TIME_STATUS (withField (s.hubNat LNK_TIME_STATUS) 31 1 1)
    s.applyOffset th first)

/-- No exchange has succeeded for 10 ms: module time runs free (R498). -/
def execTimeSyncLost (s : State) : Out :=
  .next (if s.up && s.bellwether ≠ s.nodeId && bitOf (s.hubNat LNK_TIME_STATUS) 31 && s.torus.syncAt + 10000000 ≤ s.time then
    ({ s with pce := { s.pce with slew := 0 } } : State).hubSetN LNK_TIME_STATUS (withField (s.hubNat LNK_TIME_STATUS) 31 1 0) else s)

/-- The bellwether has been unreachable for 100 ms: the alternate acts in its place (R498). -/
def execBellwetherLost (s : State) : Out :=
  .next (match s.torus.bwLostAt with
    | none => s
    | some t =>
      let b := s.hubNat LNK_BELLWETHER
      if !s.up || !bitOf b 15 || s.time < t + 100000000 then s
      else
        let st := withField (s.hubNat LNK_TIME_STATUS) 30 1 1
        s.hubSetN LNK_TIME_STATUS (if fieldOf b 16 9 = s.nodeId then withField st 31 1 1 else st))

/-! ### The safe state at the links (R499) -/

/-- FENCED from a peer: nothing more is sent on the port, and LSTATE is flooded with the node marked. -/
def execFenced (port node : Nat) (s : State) : Out :=
  .next (if !s.linksUp || 16 ≤ port || !s.carries port then s
  else
    let g := ((s.torus.nodes.find node).map (·.gen)).getD 0
    let s := (s.modTorus (fun t => { t with nodes := t.nodes.set node ⟨0, true, g⟩ })).enterState port psFencedPeer
    s.floodState node 0 ((g + 1) % 2 ^ 32) true (some port))

def execFencedRepeat (s : State) : Out := .next (if s.up && s.safe then s.sendFenced else s)

end Sys2Proof.Machine
end

