-- ==== Sys2Proof/Machine/StartSteps.lean ====
section
/-! DEFINITION. Steps 6 to 8 of a start: the end of discovery, template checks, the new epoch with its sessions, and link training
(R87, R263, R539, R545, R614, R624, R627). -/

namespace Sys2Proof.Machine
open Sys2Proof

/-! ### Paddock sessions (R263, R539, R545, R556) -/

/-- A session begins: a fresh key set, DEBUGGED clear. -/
def State.beginSession (s : State) (n : Nat) : State :=
  { s.drawn with sec := { s.sec with paddockKeys := s.sec.paddockKeys.set n s.free, debugged := s.sec.debugged.filter (· != n) } }

/-- A fresh directory salt, for a paddock that has a directory. -/
def State.drawSalt (s : State) (n : Nat) : State :=
  if s.fnNat n DIR_ENTRIES = 0 then s else s.drawn.modFn n (fun f => { f with dirSalt := s.free % 2 ^ 64 })

/-- The hub and pasture keys, and a session of each paddock with its salt, at a cold start. -/
def State.beginSessions (s : State) : State :=
  let s := { s.drawn with sec := { s.sec with hubKey := s.free } }
  let s := { s.drawn with sec := { s.sec with pastureKey := s.free } }
  s.paddocks.foldl (fun s n => (s.beginSession n).drawSalt n) s

/-! ### Template checks (R624) -/

/-- A confidential paddock names a commons that does not declare ENCRYPT. -/
def State.templateRefused (s : State) (n : Nat) : Bool :=
  let c := fieldAt (s.fn n).tmpl 3 1
  s.confidential n && bitOf c 7 && !s.declares (c % 32) declEncrypt

/-- A refused template leaves its paddock EMPTY and its reason. -/
def State.checkTemplate (s : State) (n : Nat) : State :=
  if s.templateRefused n then
    let off := BOOT_TEMPLATE_REASON + 4 * (n / 4)
    (s.hubSetN off (withField (s.hubNat off) (8 * (n % 4)) 8 0x20)).setFn n ((s.fn n).cold false)
  else s

/-! ### The end of step 6, and steps 7 and 8 -/

/-- Shepherd pairs in service. -/
def State.shepherds (s : State) : List Nat :=
  (List.range 4).filter (fun p => !s.noc.bad.contains (kShepherd, p) && !s.fencedUnit kShepherd p)

/-- The shepherd pairs and tile controllers in service are coherent agents (R373); commons have set their own bits. -/
def State.noteAgents (s : State) : State :=
  let bits := (s.shepherds.map (2 ^ ·)).foldl (· + ·) 0 +
    (((List.range 16).filter (fun t => !s.vacant kTile t)).map (fun t => 2 ^ (t + 4))).foldl (· + ·) 0
  s.hubSetN SNP_AGENTS (fieldOf (s.hubNat SNP_AGENTS) 20 4 * 2 ^ 20 + bits)

/-- Step 7: the epoch advances, with the second epoch record; keys under the new epoch and sessions (R614). -/
def State.newEpoch (s : State) : State :=
  let e := s.epochRec
  let n := (e.epoch + 1) % 2 ^ 32
  let s := s.appendEpoch { e with epoch := n, slotB := s.boot.slotB, coldDone := false, dFw := s.boot.dFw, dUc := s.boot.dUc, dFb := s.boot.dFb }
  let s := { s with fns := s.fns.map (fun (p : Nat × Fn) => (p.1, p.2.putN STL_EPOCH n)) }
  (s.deriveKeys n).beginSessions

/-- Step 8 begins. -/
def State.beginTraining (s : State) : State := ({ s with boot := { s.boot with step := 8 } } : State).beginLinks

/-- Step 6 ends once every site has been found; then steps 7 and 8. -/
def State.advance (s : State) : State :=
  if !s.up || s.boot.step ≠ 6 || s.boot.failed || s.boot.recovery || !(List.range 20).all s.boot.found.contains then s
  else if s.boot.kind = 1 then (((s.paddocks.foldl State.checkTemplate s).noteAgents).newEpoch).beginTraining
  else s.noteAgents.beginTraining

/-- A site's start work has ended, and step 6 with the last. -/
def State.siteDone (s : State) (site : Nat) : State := (s.foundSite site).advance

end Sys2Proof.Machine
end

