-- ==== Sys2Proof/Machine/Commons.lean ====
section
/-! DEFINITION. The commons sites: bring-up, window, DMA, coherent agent, faults, keys (R504 to R537, R552, R553). -/

namespace Sys2Proof.Machine
open Sys2Proof

/-! ### Fencing (R505, R514, R527, R528, R532) -/

/-- Groups that a fence concerns: in a redundant pair every one that has sent the primary a request, else those whose access meets
it. -/
def Site.concerned (x : Site) (pair : Bool) : List Nat :=
  (if pair then x.users.map (·.1) else (x.reqs.filter (fun r => !r.2.dead)).map (fun r => r.2.gid)).dedup

/-- The standby that has taken a logical site serves its roles; with ENCRYPT it first exchanges a key (R528, R530). -/
def State.takeOver (s : State) (q : Nat) : State :=
  let s := s.setCmnSt q cmnActive
  if s.declares q declEncrypt && (s.siteOwner q).isSome && !(s.site q).keyed then s.modSite q (fun x => { x with kx := 1 }) else s

/-- A site is fenced: UC entry, pinfold, rail and keys gone; its records run again against the standby, or fault. -/
def State.fenceSite (s : State) (n : Nat) : State :=
  if s.fencedUnit kCommons n || !isCommonsSite n then s
  else
    let sb := (s.standbyOf n).head?
    let gs := (s.site n).concerned sb.isSome
    let s := s.report (hubReport cCommonsFenced .uc 0x0C (s.physId kCommons n) 0)
    let s := (s.setSite n Site.empty).fenceUnit kCommons n cCommonsFenced
    let s := ((s.setCmnSt n cmnFenced).setSiteSt n siteFenced).foundSite n
    let s := s.lines.foldl (fun (s : State) (p : Nat × CohLine) => s.tryGrant p.1) s
    let s := match sb with
      | some q => s.takeOver q
      | none => s
    (gs.foldl (fun s g => s.datapathError g sb.isSome) s).advance

/-- Three events within 1 ms fence the site (R518, R553). -/
def threeIn (now : Nat) (ts : List Nat) : Bool := 3 ≤ (ts.filter (fun t => now < t + 1000000)).length

/-! ### Site reset (R531) -/

/-- Lines that the chiplet held in M or O are lost with its state, as at a fence (R379; assumption 34). -/
def State.dropAgent (s : State) (n : Nat) : State :=
  let a := n + 4
  let held := s.lines.filter (fun (p : Nat × CohLine) => p.2.holder a == .m || p.2.holder a == .o)
  let s := s.agentFenced a
  held.foldl (fun (s : State) (p : Nat × CohLine) =>
    let t : CohTxn := { newTxn a 0 .unique s.time with lost := true, lostM := p.2.holder a == .m, pushOwner := a }
    ((s.modLine p.1 (fun x => x.hold a .i)).settleLost p.1 t).1.tryGrant p.1) s

/-- The site reset is pulsed: tenant state and window key are erased and bring-up begins again. -/
def State.pulseSite (s : State) (n : Nat) : State :=
  if s.siteLive n || s.cmnSt n = cmnDiscovering || s.cmnSt n = cmnTraining then
    ((s.dropAgent n).setCmnSt n cmnDiscovering).setSite n { Site.empty with step := 1, upAt := s.time }
  else s

/-! ### Discovery (R508 to R510) -/

/-- Every field lies in its range. -/
def discoverOk (d : DiscoverMsg) : Bool :=
  d.version = 1 && d.reservedOk && d.declare < 256 && 1 ≤ d.measCount && d.measCount ≤ 16 && d.stepping < 256 && d.stepping % 16 ≤ 9 &&
    600 ≤ d.nomMv && d.nomMv ≤ 1000 && 1 ≤ d.pmaxW && d.pmaxW ≤ 100 && 100 ≤ d.respNs && d.respNs ≤ 5000 && 1 ≤ d.windowMib &&
    d.windowMib ≤ 1048576 && d.vendor < 65536 && d.device < 65536

/-- Roles of CMN_SITE_CFG are declared, and a member of a pair can be one. Role bits stand in the order of the low bits of DECLARE. -/
def rolesOk (cfg declare : Nat) : Bool :=
  (List.range 4).all (fun i => !bitOf cfg i || bitOf declare i) && (!bitOf cfg 8 || (bitOf declare 7 && bitOf declare 6))

/-- The other member of a site's pair. -/
def State.partnerOf (s : State) (n : Nat) : Option Nat := if bitOf (s.cmnCfg n) 8 then some (16 + fieldOf (s.cmnCfg n) 12 2) else none

/-- Two sites are not the same chiplet, as far as both have been discovered and measured. -/
def State.pairDiffers (s : State) (n q : Nat) : Bool :=
  let x := s.site n
  let y := s.site q
  1 < x.step && 1 < y.step && (s.hubNat (cmnOff n 0x0C) ≠ s.hubNat (cmnOff q 0x0C) || cmnDeclare s n ≠ cmnDeclare s q ||
    x.stepping ≠ y.stepping || x.measCount ≠ y.measCount ||
    (List.range 16).any (fun i => match x.measures.find i, y.measures.find i with
      | some a, some b => a != b
      | _, _ => false))

/-- A site in MISMATCH: in reset with its rail off (R510). -/
def State.mismatch (s : State) (n : Nat) : State :=
  let s := s.report (hubReport cCommonsFenced .uc 0x0C (s.physId kCommons n) 0)
  ((s.setSite n Site.empty).setCmnSt n cmnMismatch).siteDone n

/-- The members of a pair that differ are both in MISMATCH. -/
def State.checkPair (s : State) (n : Nat) : State :=
  match s.partnerOf n with
  | some q => if s.pairDiffers n q then (s.mismatch n).mismatch q else s
  | none => s

/-- DISCOVER: steps 1 and 2 of R534. -/
def execDiscover (site : Nat) (d : DiscoverMsg) (s : State) : Out :=
  .next (if !s.up || !isCommonsSite site || s.cmnSt site ≠ cmnDiscovering then s
  else if d.strap ≠ s.ident.pad site then
    ((s.setSite site Site.empty).setCmnSt site cmnOffSt).strapErr site |>.advance
  else if !discoverOk d || !rolesOk (s.cmnCfg site) d.declare then s.mismatch site
  else
    let s := ((s.hubSetN (cmnOff site 8) d.declare).hubSetN (cmnOff site 0x0C) (d.device * 65536 + d.vendor)).hubSet (cmnOff site 0x10) d.serial
    let s := (s.hubSetN (cmnOff site 0x1C) d.respNs).setCmnSt site cmnTraining
    (s.modSite site (fun x => { x with strap := d.strap, stepping := d.stepping, measCount := d.measCount, nomMv := d.nomMv, pmaxW := d.pmaxW,
                                       windowMib := d.windowMib, step := 3, beatAt := s.time })).checkPair site)

/-! ### Bring-up (R505, R507, R529, R534) -/

/-- The power budget of a site (R533). -/
def State.siteBudget (s : State) (n : Nat) : Nat := min (min (fieldOf (s.cmnCfg n) 16 8) 100) (s.site n).pmaxW

/-- What CONFIGURE carries. -/
def State.configureArgs (s : State) (n : Nat) : List Nat :=
  [s.cmnCfg n % 16, n, (s.site n).windowMib * mib, s.hubAreaBase, s.hubNat SNP_WINDOW_GIB * gib, s.hubNat BWG_URGENCY_LEVELS, s.siteBudget n]

/-- CONFIGURE: the mainband has trained, with a number of clusters that is open; below 90 the site is fenced. -/
def execConfigure (site : Nat) (s : State) : Out :=
  .next (if !s.up || s.cmnSt site ≠ cmnTraining || (s.site site).step ≠ 3 then s
  else
    let n := s.free % 101
    let s := s.drawn.hubSetN (cmnOff site 4) (withField (s.hubNat (cmnOff site 4)) 8 7 n)
    if n < 90 then s.fenceSite site
    else (s.modSite site (fun x => { x with step := 4 })).askMgmt site 2 (s.configureArgs site))

/-- Step 7: the site serves its roles, or is the standby of its pair. -/
def State.bringUp (s : State) (n : Nat) : State :=
  let standby := bitOf (s.cmnCfg n) 8 && bitOf (s.cmnCfg n) 9 && s.servedBy (16 + fieldOf (s.cmnCfg n) 12 2) ≠ n
  let s := ((s.modSite n (fun x => { x with step := 8 })).setCmnSt n (if standby then cmnStandby else cmnActive)).setSiteSt n siteActive
  let s := if s.role n roleCoherent && !standby then s.hubSetN SNP_AGENTS (withField (s.hubNat SNP_AGENTS) (n + 4) 1 1) else s
  s.siteDone n

/-- After step 5: a window key where ENCRYPT is declared and the window owned, else the site is up. -/
def State.afterMeasures (s : State) (n : Nat) : State :=
  if s.declares n declEncrypt && (s.siteOwner n).isSome then s.modSite n (fun x => { x with step := 6, kx := 1 }) else s.bringUp n

def execConfigureAck (site : Nat) (echoOk : Bool) (s : State) : Out :=
  .next (if !s.up || s.cmnSt site ≠ cmnTraining || (s.site site).step ≠ 4 || !echoOk then s
  else (s.modSite site (fun x => { x with step := 5 })).mgmtDone site)

/-- MEASURE_REQ: at bring-up, and again for an attestation. -/
def execMeasureReq (site block : Nat) (s : State) : Out :=
  .next (if s.up && block < 16 && isCommonsSite site && ((s.cmnSt site = cmnTraining && (s.site site).step = 5) || s.siteLive site) then
    s.askMgmt site 4 [block]
  else s)

/-- MEASURE: a block read at bring-up is kept; one that differs later fences the site. -/
def execMeasure (site block : Nat) (digest : List Byte) (s : State) : Out :=
  let d := (digest ++ zeros 48).take 48
  .next (if !s.up || !isCommonsSite site || (s.site site).mgmt != some (4, [block]) then s
  else
    let x := s.site site
    if s.cmnSt site = cmnTraining && x.step = 5 then
      if block < x.measCount then
        let s := (s.setSite site { x with measures := x.measures.set block d, mgmt := none }).checkPair site
        if s.cmnSt site = cmnTraining && (List.range x.measCount).all (fun i => ((s.site site).measures.find i).isSome) then s.afterMeasures site else s
      else s.mgmtDone site
    else if s.siteLive site then
      let s := s.setSite site { x with mgmt := none, toMeasure := x.toMeasure.filter (· != block) }
      (match x.measures.find block with
        | some old => if old != d then s.fenceSite site else s
        | none => s).finishAttest
    else s)

/-- Bounds of R534 in ns. -/
def stepBound (step : Nat) : Nat := [0, 2000000, 2100000, 20000000, 21000000, 30000000, 35000000, 40000000].getD step 40000000

/-- BRINGUP_STEP_TIMEOUT. No answer to discovery at a cold start is STRAP_ERR (R20). -/
def execBringupStepTimeout (site step : Nat) (s : State) : Out :=
  let x := s.site site
  .next (if !s.up || !isCommonsSite site || !(s.cmnSt site = cmnDiscovering || s.cmnSt site = cmnTraining) || step = 0 || step < x.step ||
      s.time < x.upAt + stepBound step then s
  else if x.step = 1 && s.boot.kind = 1 && !s.boot.ready then (((s.setSite site Site.empty).setCmnSt site cmnOffSt).strapErr site).advance
  else s.fenceSite site)

/-- A management message without an answer is sent again. -/
def execMgmtRetry (site : Nat) (s : State) : Out :=
  .next (match (s.site site).mgmt with
    | some m => if s.up then s.send (.mgmt site m.1 m.2) else s
    | none => s)

/-! ### Faults, temperature and power (R526, R527, R533) -/

/-- Send THROTTLE. -/
def State.throttle (s : State) (n watts : Nat) : State := (s.hubCount (cmnOff n 0x3C) 1).send (.mgmt n 8 [watts])

/-- THROTTLE at the word of the power manager. -/
def execThrottle (site watts : Nat) (s : State) : Out := .next (if s.siteLive site then s.throttle site watts else s)

/-- A reading of a commons site's temperature: three sites at their fencing limit at once trip (R655). -/
def State.noteSiteHeat (s : State) (n temp : Nat) : State :=
  let l := s.pow.hotSites.filter (· != n)
  let l := if 115 ≤ temp then n :: l else l
  let s := ({ s with pow := { s.pow with hotSites := l } } : State).monitor monSite (3 ≤ l.length)
  if 115 ≤ temp && 3 ≤ l.length then s.thermalTrip (s.physId kCommons n) else s

/-- The site at a temperature: fenced at 115 °C; from 105 °C on the chiplet is throttled to a target that is open. -/
def State.siteHeat (s : State) (n temp : Nat) (overBudget : Bool) : State :=
  if 115 ≤ temp then s.fenceSite n
  else if overBudget then s.throttle n (s.siteBudget n)
  else if 105 ≤ temp then s.drawn.throttle n (1 + s.free % max 1 (s.siteBudget n))
  else s

def execHeartbeat (site temp _flags : Nat) (s : State) : Out :=
  .next (if !s.up || !isCommonsSite site || (s.site site).step < 3 then s
  else
    let s := s.modSite site (fun x => { x with beatAt := s.time })
    let s := s.hubSetN (cmnOff site 0x18) (withField (s.hubNat (cmnOff site 0x18)) 24 8 (min temp 255))
    let s := s.noteSiteHeat site (max temp (fieldOf (s.hubNat (cmnOff site 0x18)) 16 8))
    if s.siteLive site then s.siteHeat site temp false else s)

def execHeartbeatTimeout (site : Nat) (s : State) : Out :=
  .next (if s.siteLive site && (s.site site).beatAt + 1000000 ≤ s.time then s.fenceSite site else s)

/-- The hub's reading of a site: mean power over 1 ms in units of 10 mW, the percentage of the budget that power has exceeded for 100 µs,
its sensor's temperature. The higher temperature counts. -/
def execCommonsPowerCheck (site meanPower peakPct temp : Nat) (s : State) : Out :=
  .next (if !s.up || !isCommonsSite site then s
  else
    let t := if s.siteLive site then fieldOf (s.hubNat (cmnOff site 0x18)) 24 8 else 0
    let s := s.hubSetN (cmnOff site 0x18) (t * 2 ^ 24 + min temp 255 * 2 ^ 16 + min meanPower 65535)
    let s := s.noteSiteHeat site (max temp t)
    if !s.siteLive site then s
    else if 110 < peakPct then s.fenceSite site
    else s.siteHeat site (max temp t) (decide (s.siteBudget site * 100 < meanPower)))

/-- The group whose attempt a RECORD field names (R511). -/
def State.recordGroup (s : State) (record : Nat) : Option Nat :=
  let fn := fieldOf record 59 5
  ((s.fn fn).entries.find? (fun (p : Nat × JEntry) => (s.grp (gidOf fn p.1)).isSome && s.winRecord (gidOf fn p.1) = record)).map
    (fun p => gidOf fn p.1)

/-- A report of a chiplet, of the paddock that owns its window where one does. -/
def State.chipReport (s : State) (n : Nat) (cls : FaultClass) (off : Nat) : State :=
  let a := if off = 0 then 0 else siteWindow n + off
  match s.siteOwner n with
  | some fn => s.report (padReport cCommonsReport cls 0x0C (s.physId kCommons n) a fn 0)
  | none => s.report (hubReport cCommonsReport cls 0x0C (s.physId kCommons n) a)

def execFault (site : Nat) (f : ChipFault) (s : State) : Out :=
  .next (if !s.up || !isCommonsSite site || (s.site site).step = 0 then s
  else if 2 < f.cls then s.fenceSite site
  else
    let s := (s.hubCount (cmnOff site 0x38) 1).hubSetN (cmnOff site 0x40) (f.code % 65536 * 65536 + f.cls * 256)
    if f.cls = 0 then s.chipReport site .ce f.addr
    else if f.cls = 2 then s.fenceSite site
    else
      let s := s.chipReport site .uc f.addr
      if f.record = 0 then s
      else match s.recordGroup f.record with
        | some g => s.datapathError g true
        | none => s)

/-! ### Window keys (R530, R552, R553) -/

/-- A compressed P-384 share. -/
def compressed (pub : Nat) : Nat := (2 + pub % 2) * 2 ^ 384 + pub / 2 ^ 384 % 2 ^ 384

/-- HUB_SHARE starts an exchange that is due. -/
def execHubShare (site : Nat) (s : State) : Out :=
  .next (if !s.up || !isCommonsSite site || (s.site site).kx ≠ 1 then s
  else
    let sec := s.free
    let share := compressed (Config.ecPublic sec)
    let s := (s.drawn).modSite site (fun x => { x with kx := 2, kxSecret := sec, kxShares := beBytes 49 share })
    s.askMgmt site 9 [1, (s.site site).keyGen, (s.siteOwner site).getD 0, share])

/-- CHIP_SHARE: the hub derives the keys. -/
def execChipShare (site share : Nat) (s : State) : Out :=
  .next (if !s.up || !isCommonsSite site || (s.site site).kx ≠ 2 then s
  else
    (s.modSite site (fun x =>
      let both := x.kxShares ++ beBytes 49 share
      let info := [0x4C#8, 0x53#8, 0x50#8] ++ leBytes 1 site ++ leBytes 1 ((s.siteOwner site).getD 0) ++ leBytes 1 x.keyGen
      let k := hkdf384 (sha384 both) (beBytes 48 (Config.ecdh x.kxSecret share)) info 104
      { x with kx := 3, kxSecret := 0, kxShares := both, keyDown := k.take 32 ++ (k.drop 64).take 4,
               keyUp := (k.drop 32).take 32 ++ (k.drop 68).take 4, keyConfirm := (k.drop 72).take 32 })).mgmtDone site)

def confirmOf (x : Site) (who : List Byte) : Nat := beNat ((hmac384 x.keyConfirm (who ++ x.kxShares)).take 32)

def execHubConfirm (site : Nat) (s : State) : Out :=
  .next (if !s.up || !isCommonsSite site || (s.site site).kx ≠ 3 then s
  else
    let s := s.modSite site (fun x => { x with kx := 4 })
    s.askMgmt site 9 [3, (s.site site).keyGen, (s.siteOwner site).getD 0, confirmOf (s.site site) [0x68#8, 0x75#8, 0x62#8]])

/-- After 2^32 DATA messages in a direction the exchange is due again with the next GEN. -/
def execWindowRekey (site : Nat) (s : State) : Out :=
  .next (
    let x := s.site site
    if s.siteLive site && x.keyed && x.kx = 0 && (2 ^ 32 ≤ x.sentData || 2 ^ 32 ≤ x.recvData) then
      s.setSite site { x with kx := 1, keyGen := (x.keyGen + 1) % 256 }
    else s)

/-- New requests of a site are held while a key is being exchanged (R553). -/
def State.keyHeld (s : State) (n : Nat) : Bool := (s.site n).kx ≠ 0

/-! ### Window (R511 to R518) -/

/-- The requests of an earlier attempt of the group still wait for their RECORD_END (R516). -/
def Site.endsFirst (x : Site) (gid : Nat) : Bool := x.endsPending.any (fun e => e.gid = gid)

def noteUser (x : Site) (u : Nat × Nat) : Site := if x.users.contains u then x else { x with users := u :: x.users }

/-- Part of an outstanding read of a thread: a load, a copy into core store, or the group's COLLECT. -/
def Grp.partOf (g : Grp) (idx id i : Nat) : Option LoadPart :=
  let parts : List (List LoadPart) := match g.th idx with
    | some th => (th.loads.filter (fun (l : LoadOp) => l.id = id)).map (fun l => l.parts) ++
        (th.mcopies.filter (fun (m : MCopyOp) => m.id = id && !m.out)).map (fun m => m.parts)
    | none => []
  let col : List (List LoadPart) := match g.collect with
    | some c => if c.thread = idx && c.id = id then [c.parts] else []
    | none => []
  (parts ++ col).flatten[i]?

/-- The virtual address of a window access, as its paddock maps it. -/
def State.winVa (s : State) (fn lpa : Nat) : Nat := (s.vaOf fn lpa).getD 0

/-- WIN_READ: a line's part is asked of the chiplet. What the site no longer serves ends as R532 says. -/
def execWinRead (t : Thr) (load part : Nat) (s : State) : Out :=
  .next (match s.grp t.gid with
    | none => s
    | some g =>
      match g.partOf t.idx load part with
      | some ⟨_, .commons lpa, size, none⟩ =>
        let n := s.servedBy (16 + (lpa - commonsBase) / 2 ^ 40)
        let x := s.site n
        let off := (lpa - commonsBase) % 2 ^ 40
        let line := off / 64 * 64
        if !s.up || !g.live || x.reqs.any (fun r => !r.2.write && !r.2.dead && r.2.gid = t.gid && r.2.thread = t.idx && r.2.load = load && r.2.part = part) then s
        else match s.owns g.fn lpa with
          | .fenced => s.datapathError t.gid false
          | .denied => s.raiseXlate t (s.winVa g.fn lpa) xcDenied false
          | .mismatch => (s.logDenied g.fn lpa 1).raiseXlate t (s.winVa g.fn lpa) xcDenied false
          | .ok =>
            if s.keyHeld n || x.endsFirst t.gid || !s.lspRoom n || 4096 ≤ x.reqs.length ||
                x.reqs.any (fun r => r.2.write && !r.2.sent && r.2.gid = t.gid && r.2.line = line) then s
            else
              let tag := freeTag x.reqs x.nextTag
              let att := ((s.entry g.fn g.entry).map (·.attempts)).getD 0
              let q : WinReq := ⟨t.gid, att, t.idx, load, part, line, off - line, size, false, [], true, s.time, false, false⟩
              let s := s.setSite n (noteUser { x with reqs := x.reqs.set tag q, nextTag := (tag + 1) % 4096 } (t.gid, att))
              (s.hubCount (cmnOff n 0x28) 1).sendLsp n (lspMsg lWinRead tag off size 0 (s.winRecord t.gid) 0)
      | _ => s)

/-- WIN_WRITE: a write that waits is sent, its line following as DATA. -/
def execWinWrite (site : Nat) (tag : Nat) (s : State) : Out :=
  .next (
    let x := s.site site
    match x.reqs.find tag with
    | none => s
    | some q =>
      if !s.siteLive site || !q.write || q.sent || q.dead || s.keyHeld site || x.endsFirst q.gid || !s.lspRoom site then s
      else
        let s := s.setSite site (noteUser { x with reqs := x.reqs.set tag { q with sent := true, sentAt := s.time } } (q.gid, q.attempt))
        let s := (s.hubCount (cmnOff site 0x28) 1).sendLsp site (lspMsg lWinWrite tag q.line 64 0 (s.winRecord q.gid) 0)
        s.sendLsp site (lspDataMsg tag (enablesOf q.bytes) 0 0 (lineOfCells q.bytes)))

/-- The record of a COMMITTED end has reached COMMITTED (R516). -/
def State.endDue (s : State) (e : WinEnd) : Bool :=
  if e.sub = subCommitted then
    match s.entry (e.gid / 65536) (e.gid % 65536) with
    | some j => j.st == .committed || j.st == .free || recSeq j.record ≠ fieldOf e.record 0 48 || recStream j.record ≠ fieldOf e.record 55 4
    | none => true
  else true

/-- RECORD_END, once no request of the attempt is outstanding. -/
def execRecordEnd (site : Nat) (record : Nat) (s : State) : Out :=
  .next (
    let x := s.site site
    match x.endsPending.find? (fun e => e.record = record) with
    | none => s
    | some e =>
      if !s.siteLive site || !s.endDue e || !s.lspRoom site || x.reqs.any (fun r => r.2.gid = e.gid && r.2.dead && r.2.sent) then s
      else
        let s := s.setSite site { x with endsPending := x.endsPending.filter (fun y => y != e), nextTag := (freeTag x.reqs x.nextTag + 1) % 4096 }
        s.sendLsp site (lspMsg lRecordEnd (freeTag x.reqs x.nextTag) 0 0 0 e.record e.sub))

/-- STATUS and CHECK of a message, and whether either is reserved (R511, R514). -/
def lspSt (m : LspMsg) : Nat := m.status % 16
def lspCheck (m : LspMsg) : Nat := fieldOf m.status 4 2
def lspBad (m : LspMsg) : Bool := !m.reserved || 4 < lspSt m || lspCheck m = 3 || 64 ≤ m.status
def checkNone : Nat := 0
def checkFail : Nat := 2

def State.dropWin (s : State) (n tag : Nat) : State := s.modSite n (fun x => { x with reqs := x.reqs.del tag })

/-- The attempt contains a contribution of a commons that is not checked (R525). -/
def State.markUnchecked (s : State) (gid : Nat) : State := s.modGrp gid (fun g => { g with unchecked := true })

/-- How a window request ends that has no data to bring. -/
def State.winStatus (s : State) (n : Nat) (q : WinReq) (st : Nat) : State :=
  if st = statusPoison then s.poisonGroup q.gid
  else if st = statusFenced then s.datapathError q.gid false
  else if st = statusDenied then
    s.raiseXlate ⟨q.gid, q.thread⟩ (s.winVa (q.gid / 65536) (siteWindow n + q.line + q.off)) xcDenied q.write
  else s.datapathError q.gid true

/-- DONE of a window request (R514, R518, R524, R525); a late one is discarded. -/
def execLspDone (site : Nat) (m : LspMsg) (s : State) : Out :=
  .next (if !s.siteLive site then s
  else if lspBad m || !s.role site roleWindow then s.fenceSite site
  else match (s.site site).reqs.find m.tag with
    | none => s
    | some q =>
      if !q.sent || q.answered then s
      else if q.dead then s.dropWin site m.tag
      else if lspCheck m = checkFail then ((s.dropWin site m.tag).hubCount (cmnOff site 0x34) 1).datapathError q.gid true
      else if lspSt m ≠ statusOk then (s.dropWin site m.tag).winStatus site q (lspSt m)
      else if q.write then s.dropWin site m.tag
      else if lspCheck m = checkNone && s.declares site declChecked then s.fenceSite site
      else
        let s := if lspCheck m = checkNone || !s.declares site declChecked then s.markUnchecked q.gid else s
        s.modSite site (fun x => { x with reqs := x.reqs.set m.tag { q with answered := true } }))

/-- No DONE after the smaller of 4 × RESP_NS and 20 µs. -/
def execWindowTimeout (site tag : Nat) (s : State) : Out :=
  .next (match (s.site site).reqs.find tag with
    | none => s
    | some q =>
      if !s.siteLive site || !q.sent || q.answered || s.time < q.sentAt + min (4 * s.hubNat (cmnOff site 0x1C)) 20000 then s
      else
        let s := (s.dropWin site tag).hubCount (cmnOff site 0x30) 1
        let s := s.modSite site (fun x => { x with timeouts := (s.time :: x.timeouts).take 3 })
        let s := if q.dead then s else s.datapathError q.gid true
        if threeIn s.time (s.site site).timeouts then s.fenceSite site else s)

/-! ### DMA (R519, R520) -/

/-- Where a DMA address leads: paddock HBM or scratchpad through a LOCAL page, by the site TLB or a walk (assumption 35). -/
def State.dmaReach (s : State) (fn va : Nat) (write : Bool) : Option Nat × State :=
  let ok := fun (lpa : Nat) (s : State) => if lpa < coreBase && s.owns fn lpa == .ok then (some lpa, s) else (none, s)
  if 0xE00000000000 ≤ va then (none, s)
  else match (s.fn fn).xlt.resolve false va write false with
    | .at false lpa => ok lpa s
    | .miss =>
      let s := if s.confidential fn then s else (s.fnCount fn XLT_TLB_MISSES 1).fnCount fn XLT_WALKS 1
      (match s.walk fn va with
        | .mapped base lpa log2 w =>
          let s := s.modXlt fn (fun x => x.add ⟨false, base, log2, false, lpa, true, w⟩)
          if write && !w then (none, s) else ok (lpa + (va - base)) s
        | .malformed => (none, s.report (padReport cTableFormat .uc 0x08 0 va fn 1))
        | _ => (none, s))
    | _ => (none, s)

/-- The attempt that an attached request names: RUNNING, and it has sent the window a request. -/
def State.attached (s : State) (n fn record : Nat) : Option Nat :=
  match s.recordGroup record with
  | some gid =>
    match s.grp gid, s.entry (gid / 65536) (gid % 65536) with
    | some g, some j => if g.fn = fn && g.phase == .running && (s.site n).users.contains (gid, j.attempts) then some gid else none
    | _, _ => none
  | none => none

/-- A refused request: a mismatch, answered DENIED (R369). -/
def State.dmaDeny (s : State) (n : Nat) (m : LspMsg) (write : Bool) : State :=
  let r : Report := match s.siteOwner n with
    | some fn => padReport cDenied .uc 0x0C (s.physId kCommons n) m.addr fn (if write then 2 else 1)
    | none => { hubReport cDenied .uc 0x0C (s.physId kCommons n) m.addr with access := if write then 2 else 1 }
  ((s.hubCount NOC_DENIED 1).report { r with initiator := s.physId kCommons n }).sendLsp n (lspMsg lDone m.tag 0 0 statusDenied m.record 0)

/-- DONE with the data read, a line a message. -/
def State.dmaAnswer (s : State) (n : Nat) (m : LspMsg) (bs : List Byte) (poison : Bool) : State :=
  let st := if poison then statusPoison else statusOk
  let s := s.sendLsp n (lspMsg lDone m.tag 0 m.len st m.record 0)
  if poison then s
  else (cut 0 bs.length 64).foldl (fun (s : State) (p : Nat × Nat) =>
    s.sendLsp n (lspDataMsg m.tag (2 ^ p.2 - 1) st 0 ((bs.drop p.1).take p.2))) s

/-- A DMA_READ is served: attached under its record's stream view, else plainly. -/
def State.dmaServe (s : State) (n : Nat) (m : LspMsg) : State :=
  match s.siteOwner n with
  | none => s.dmaDeny n m false
  | some fn =>
    match s.dmaReach fn m.addr false with
    | (none, s) => s.dmaDeny n m false
    | (some lpa, s) =>
      if m.record = 0 then
        let r := s.fetch lpa m.len
        s.dmaAnswer n m r.1 r.2
      else match s.attached n fn m.record with
        | none => s.dmaDeny n m false
        | some gid =>
          match s.grp gid with
          | none => s
          | some g =>
            let t : Tgt := .mem m.addr lpa
            let r := s.readTgt g t m.len []
            if r.2 then (s.dmaAnswer n m [] true).meetPoison gid [(t, m.len)]
            else (s.noteRead gid g t m.len).dmaAnswer n m r.1 false

/-- A DMA_WRITE whose data have come: staged into the record it names, or written where DIRECT_WRITE allows it; a failed check is a
datapath error of the record (R520, R524, R525). -/
def State.dmaStore (s : State) (n : Nat) (d : DmaReq) : State :=
  let m := d.msg
  let done := fun (s : State) => s.sendLsp n (lspMsg lDone m.tag 0 m.len statusOk m.record 0)
  match s.siteOwner n with
  | none => s.dmaDeny n m true
  | some fn =>
    match s.dmaReach fn m.addr true with
    | (none, s) => s.dmaDeny n m true
    | (some lpa, s) =>
      let bytes := d.got.filter (fun c => c.1 < m.len)
      if m.record = 0 then
        if bitOf (s.cmnCfg n) 4 then
          done (bytes.foldl (fun (s : State) (c : Nat × Byte) => (s.commitStore (lpa + c.1) [c.2]).foldWrite fn (lpa + c.1) 1) s)
        else s.dmaDeny n m true
      else match s.attached n fn m.record with
        | none => s.dmaDeny n m true
        | some gid =>
          if lspCheck m = checkFail then done ((s.hubCount (cmnOff n 0x34) 1).datapathError gid true)
          else
            let s := if lspCheck m = checkNone || !s.declares n declChecked then s.markUnchecked gid else s
            done (bytes.foldl (fun (s : State) (c : Nat × Byte) => s.stageBytes gid (m.addr + c.1) (some (lpa + c.1)) [c.2]) s)

/-- A DMA request lies within one granule and its role is enabled; a CHECKED chiplet has checked what it writes. -/
def State.dmaBad (s : State) (n : Nat) (m : LspMsg) (write : Bool) : Bool :=
  lspBad m || !s.role n roleDma || m.len = 0 || 256 < m.addr % 256 + m.len || 2 ^ 48 ≤ m.addr || fieldOf m.record 48 4 ≠ 0 ||
    (write && m.record ≠ 0 && lspCheck m = checkNone && s.declares n declChecked)

def execDmaRead (site : Nat) (m : LspMsg) (s : State) : Out :=
  .next (if !s.siteLive site then s
  else if s.dmaBad site m false then s.fenceSite site
  else
    let s := s.hubCount (cmnOff site 0x2C) 1
    if s.keyHeld site then s.modSite site (fun x => { x with dma := x.dma ++ [⟨m, false, 0, []⟩] })
    else s.dmaServe site m)

/-- DMA_WRITE: ⌈LENGTH / 64⌉ DATA messages follow. -/
def execDmaWrite (site : Nat) (m : LspMsg) (s : State) : Out :=
  .next (if !s.siteLive site then s
  else if s.dmaBad site m true then s.fenceSite site
  else (s.hubCount (cmnOff site 0x2C) 1).modSite site (fun x => { x with dma := x.dma ++ [⟨m, true, (m.len + 63) / 64, []⟩] }))

/-- Requests that were held, or whose data are complete, are served in order once no key exchange holds them. -/
def State.pumpDma (s : State) (n : Nat) : State :=
  if s.keyHeld n then s
  else
    let go := (s.site n).dma.filter (fun d => d.left = 0)
    let s := s.modSite n (fun x => { x with dma := x.dma.filter (fun d => d.left ≠ 0) })
    go.foldl (fun (s : State) (d : DmaReq) => if d.write then s.dmaStore n d else s.dmaServe n d.msg) s

/-- CHIP_CONFIRM: the keys are in force, counts begin anew; a confirmation that fails fences the site. -/
def execChipConfirm (site : Nat) (tag : Nat) (s : State) : Out :=
  .next (if !s.up || !isCommonsSite site || (s.site site).kx ≠ 4 then s
  else if tag ≠ confirmOf (s.site site) [0x63#8, 0x68#8, 0x69#8, 0x70#8] then s.fenceSite site
  else
    let s := (s.modSite site (fun x => { x with kx := 0, keyed := true, keyConfirm := [], kxShares := [], sentData := 0, recvData := 0 })).mgmtDone site
    if (s.site site).step = 6 then s.bringUp site else s.pumpDma site)

/-! ### Coherent agent (R522, R523) -/

def kindOfSub (n : Nat) : TxnKind :=
  if n = 0 then .shared else if n = 1 then .unique else if n = 2 then .upgrade else .writeback

def execCohReq (site : Nat) (m : LspMsg) (s : State) : Out :=
  .next (if !s.siteLive site then s
  else if lspBad m || 3 < m.sub || !s.role site roleCoherent then s.fenceSite site
  else if !s.agentActive (site + 4) || !s.inWindow m.addr then
    (s.cohDeny (s.physId kCommons site) 0 m.addr).sendLsp site (lspMsg lDone m.tag 0 0 statusDenied 0 m.sub)
  else s.cohStart (site + 4) m.tag (lineOf m.addr) (kindOfSub m.sub))

/-- The line and transaction under which a commons agent stands as requester with a tag. -/
def State.txnOf (s : State) (a tag : Nat) (p : CohTxn → Bool) : Option (Nat × CohTxn) :=
  (s.lines.find? (fun (x : Nat × CohLine) => match x.2.lock with
    | some t => t.agent = a && t.tag = tag && p t
    | none => false)).bind (fun x => x.2.lock.map (fun t => (x.1, t)))

/-- GO for a WRITEBACK reaches the chiplet. -/
def execLspGo (site tag : Nat) (s : State) : Out :=
  .next (match s.txnOf (site + 4) tag (fun t => t.kind == .writeback && t.goSent && !t.launched) with
    | some (l, _) =>
      if s.siteLive site && s.lspRoom site then
        (s.modLock l (fun t => { t with launched := true })).sendLsp site (lspMsg lGo tag (l * 64) 64 0 0 3)
      else s
    | none => s)

/-- ACK: a granted line is installed, or a WRITEBACK has nothing to write; that of a RECORD_END changes nothing. -/
def execLspAck (site : Nat) (m : LspMsg) (s : State) : Out :=
  .next (if !s.siteLive site then s
  else if lspBad m then s.fenceSite site
  else match s.txnOf (site + 4) m.tag (fun t => t.granted || (t.kind == .writeback && t.launched)) with
    | some (l, t) =>
      if t.kind == .writeback then
        (if (s.line l).holder t.agent != .m && (s.line l).holder t.agent != .o then s.txnDone l t else s)
      else (s.modLine l (fun x => x.hold t.agent (txnGrant t))).txnDone l t
    | none => s)

/-- SNP_PUSH: the chiplet is asked to send the line that its stop has pushed. -/
def execSnpPush (site line : Nat) (s : State) : Out :=
  .next (match (s.line line).lock with
    | some t =>
      let a := site + 4
      if s.siteLive site && t.awaiting.contains a && t.pushed && t.pushOwner = a && !t.told.contains (a * 2) && s.lspRoom site then
        (s.modLock line (fun t => { t with told := (a * 2) :: t.told })).sendLsp site (lspMsg lSnpPush t.tag (line * 64) 64 0 0 0)
      else s
    | none => s)

/-- SNP_INV: the chiplet is to drop the line, or to move it to S. -/
def execSnpInv (site line : Nat) (toShared : Bool) (s : State) : Out :=
  .next (match (s.line line).lock with
    | some t =>
      let a := site + 4
      let st := (s.line line).holder a
      if s.siteLive site && t.awaiting.contains a && !t.told.contains (a * 2 + 1) && s.lspRoom site &&
          ((toShared && st == .s) || (!toShared && st == .i)) then
        (s.modLock line (fun t => { t with told := (a * 2 + 1) :: t.told })).sendLsp site
          (lspMsg lSnpInv t.tag (line * 64) 64 0 0 (boolN toShared))
      else s
    | none => s)

/-- SNP_ACK lets the home proceed; pushed data follow. -/
def execSnpAck (site : Nat) (m : LspMsg) (s : State) : Out :=
  .next (if !s.siteLive site then s
  else if lspBad m || !s.role site roleCoherent then s.fenceSite site
  else
    let l := lineOf m.addr
    (s.modLock l (fun t => { t with awaiting := t.awaiting.erase (site + 4),
                                    poison := t.poison || (t.awaiting.contains (site + 4) && lspSt m = statusPoison) })).tryGrant l)

/-- An SNP_ACK 4 µs late fences the site. -/
def execSnpAckTimeout (site line : Nat) (s : State) : Out :=
  .next (match (s.line line).lock with
    | some t => if s.siteLive site && t.awaiting.contains (site + 4) && t.startedAt + 4000 ≤ s.time then s.fenceSite site else s
    | none => s)

/-! ### DATA and flits (R506, R553) -/

/-- What a DATA message of the chiplet belongs to, by its TAG: a window read that DONE has answered, a DMA_WRITE, a WRITEBACK, a push
(assumption 36). -/
inductive DataFor where
  | win (q : WinReq)
  | dma
  | wb (line : Nat) (t : CohTxn)
  | push (line : Nat)
  | nothing
  deriving DecidableEq, Repr

def State.dataFor (s : State) (n tag : Nat) : DataFor :=
  let x := s.site n
  match x.reqs.find tag with
  | some q => if !q.write && q.answered then .win q else other x
  | none => other x
where
  other (x : Site) : DataFor :=
    if x.dma.any (fun d => d.write && d.left ≠ 0 && d.msg.tag = tag) then .dma
    else match s.txnOf (n + 4) tag (fun t => t.kind == .writeback && t.launched) with
      | some (l, t) => .wb l t
      | none => match s.lines.find? (fun (p : Nat × CohLine) => match p.2.lock with
          | some t => t.tag = tag && t.pushed && !t.pushIn && t.pushOwner = n + 4
          | none => false) with
        | some p => .push p.1
        | none => .nothing

/-- The first DMA_WRITE under a tag takes its next 64 bytes. -/
def takeData (ds : List DmaReq) (tag : Nat) (bs : List (Nat × Byte)) : List DmaReq :=
  match ds with
  | [] => []
  | d :: t =>
    if d.write && d.left ≠ 0 && d.msg.tag = tag then
      let k := (d.msg.len + 63) / 64 - d.left
      { d with left := d.left - 1, got := d.got ++ bs.map (fun c => (64 * k + c.1, c.2)) } :: t
    else d :: takeData t tag bs

/-- A payload whose tag fails: a datapath error of its record, counted; three within 1 ms fence the site. -/
def State.tagFail (s : State) (n tag : Nat) (w : DataFor) : State :=
  let s := (s.hubCount SEC_WINDOW_TAG_FAILS 1).modSite n (fun x => { x with tagFails := (s.time :: x.tagFails).take 3 })
  let s := match w with
    | .win q => if q.dead then s.dropWin n tag else (s.dropWin n tag).datapathError q.gid true
    | .dma =>
      let ds := (s.site n).dma.filter (fun d => d.write && d.left ≠ 0 && d.msg.tag = tag)
      let s := s.modSite n (fun x => { x with dma := x.dma.filter (fun d => !(d.write && d.left ≠ 0 && d.msg.tag = tag)) })
      ds.foldl (fun (s : State) (d : DmaReq) => match s.recordGroup d.msg.record with
        | some g => if d.msg.record = 0 then s else s.datapathError g true
        | none => s) s
    | _ => s
  if threeIn s.time (s.site n).tagFails then s.fenceSite n else s

/-- Data of a window read reach the load, copy or COLLECT that asked for them. -/
def State.winData (s : State) (n tag : Nat) (q : WinReq) (line : List Byte) : State :=
  let bs := (line.drop q.off).take q.len
  let s := s.dropWin n tag
  if q.dead then s
  else
    let fn := q.gid / 65536
    (s.giveData ⟨fn, .mcopy q.gid q.thread q.load q.part, 0, 0⟩ bs).giveData ⟨fn, .thread q.gid q.thread q.load q.part, 0, 0⟩ bs

/-- LSP_DATA: 64 bytes with byte enables, as they stand on the mainband; `authTag` the tag of an encrypted message. -/
def execLspData (site : Nat) (m : LspMsg) (cells : List (Nat × Byte)) (authTag : Nat) (s : State) : Out :=
  .next (if !s.siteLive site then s
  else if lspBad m then s.fenceSite site
  else
    let x := s.site site
    let w := s.dataFor site m.tag
    let raw := lineOfCells cells
    let en := cells.map (·.1)
    let head := lspHeader lData m.tag m.status m.sub m.addr m.record m.len
    let bad := x.keyed && authTag ≠ lspTag x.keyUp x.recvData head raw
    let line := if x.keyed then lspCrypt x.keyUp x.recvData raw else raw
    let s := s.setSite site { x with recvData := x.recvData + boolN x.keyed }
    let poison := lspSt m = statusPoison
    if bad then s.tagFail site m.tag w
    else match w with
      | .win q => if poison && !q.dead then (s.dropWin site m.tag).poisonGroup q.gid else s.winData site m.tag q line
      | .dma =>
        let bs := ((List.range 64).filter (fun i => if x.keyed then bitOf m.addr i else en.contains i)).map (fun i => (i, byteAt line i))
        (s.modSite site (fun x => { x with dma := takeData x.dma m.tag bs })).pumpDma site
      | .wb l t =>
        if (s.line l).holder t.agent == .m || (s.line l).holder t.agent == .o then
          (s.writebackData l t line poison).sendLsp site (lspMsg lDone t.tag 0 64 0 0 3)
        else s
      | .push l => s.pushData l line poison
      | .nothing => s)

/-- LSP_FLIT: KIND 1 DATA, 2 NAK, 3 IDLE; ACK frees the replay buffer up to it. -/
def execLspFlit (site seq : Nat) (crcOk : Bool) (kind ack : Nat) (s : State) : Out :=
  .next (if !s.siteLive site then s
  else
    let x := s.site site
    if !crcOk then s.send (.lspNak site x.rxSeq)
    else if kind = 0 || 3 < kind then s.fenceSite site
    else
      let acked := x.replay.any (fun r => r.1 = ack % 65536)
      let keep := if acked then ((x.replay.dropWhile (fun r => r.1 ≠ ack % 65536)).drop 1) else x.replay
      let s := s.setSite site { x with replay := keep }
      if kind ≠ 1 then s
      else if seq % 65536 = x.rxSeq then s.modSite site (fun x => { x with rxSeq := (x.rxSeq + 1) % 65536 })
      else if (x.rxSeq + 65536 - seq % 65536) % 65536 ≤ 512 then s
      else s.send (.lspNak site x.rxSeq))

/-- LSP_NAK: the replay buffer is sent again from the SEQ it names. -/
def execLspNak (site seq : Nat) (s : State) : Out :=
  .next (if !s.siteLive site then s
  else s.sendAll (((s.site site).replay.dropWhile (fun r => r.1 ≠ seq % 65536)).map (fun r => .lsp site r.2)))

end Sys2Proof.Machine
end

