-- ==== Sys2Proof/Machine/Security.lean ====
section
/-! DEFINITION. Attestation, device interfaces, crook tokens, debug and the scrub between tenants (R539 to R584). -/

namespace Sys2Proof.Machine
open Sys2Proof

/-! ### SPDM (R542, R554, R555) -/

/-- The alias certificate over AK, signed with IK. -/
def State.aliasCert (s : State) : List Byte :=
  let b := beBytes 97 (Config.ecPublic s.sec.ak) ++ s.boot.dFw ++ s.boot.dUc ++ Config.bootRomDigest ++ leBytes 1 (classByte s.lc)
  b ++ beBytes 96 (Config.ecdsaSign s.sec.ik b)

/-- The programmed bytes of a certificate slot of the boot flash. -/
def State.certSlot (s : State) (slot : Nat) : List Byte :=
  (s.flash.filter (fun c => 0x40000 + 0x10000 * slot ≤ c.1 && c.1 < 0x50000 + 0x10000 * slot)).map (·.2)

/-- The responder answers once firmware runs. -/
def State.spdmUp (s : State) : Bool := s.up && 4 ≤ s.boot.step

def execSpdmGetCertificate (slot : Nat) (s : State) : Out :=
  .next (if !s.spdmUp then s
  else if slot = 0 || (slot = 1 && !(s.certSlot 1).isEmpty) then s.send (.doe doeCertificate [slot] (s.certSlot slot ++ s.aliasCert))
  else s.send (.doe doeError [slot] []))

def execSpdmChallenge (slot : Nat) (nonce : List Byte) (s : State) : Out :=
  .next (if !s.spdmUp then s
  else if slot = 0 || (slot = 1 && !(s.certSlot 1).isEmpty) then
    let b := sha384 (s.certSlot slot ++ s.aliasCert) ++ s.summary
    s.send (.doe doeChallengeAuth [slot] (b ++ s.akSign (b ++ nonce)))
  else s.send (.doe doeError [slot] []))

/-- GET_MEASUREMENTS: the commons are read again first (R529). -/
def execSpdmGetMeasurements (block : Nat) (nonce : List Byte) (s : State) : Out :=
  .next (if !s.spdmUp then s
  else if block ≠ 0xFF && (s.measBlock block).isNone then s.send (.doe doeError [block] [])
  else
    let s := { s with sec := { s.sec with attest := some (block, nonce) },
                      sites := s.sites.map (fun (p : Nat × Site) =>
                        if s.siteLive p.1 then (p.1, { p.2 with toMeasure := List.range p.2.measCount }) else p) }
    s.finishAttest)

/-- KEY_EXCHANGE: four sessions at a time. -/
def execSpdmKeyExchange (slot : Nat) (share : Nat) (s : State) : Out :=
  .next (if !s.spdmUp then s
  else if 4 ≤ s.sec.sessions.length then s.send (.doe doeError [slot] [])
  else
    let x := s.free
    let b := beBytes 96 (Config.ecPublic x) ++ s.summary
    { s.drawn.send (.doe doeKeyExchange [slot] (b ++ s.akSign (b ++ beBytes 96 share))) with
      sec := { s.sec with sessions := s.sec.sessions ++ [Config.ecdh x share] } })

/-! ### Debug (R578) -/

def State.noteDebug (s : State) : State :=
  s.hubSetN SEC_DEBUG_OPEN ((s.sec.debugUntil.map (fun p => 2 ^ p.1)).foldl (· + ·) 0)
def State.closeDebug (s : State) (n : Nat) : State :=
  ({ s with sec := { s.sec with debugUntil := s.sec.debugUntil.del n } } : State).noteDebug
/-- Seconds until the earliest paddock closes. -/
def State.debugRemain (s : State) : Nat :=
  match s.sec.debugUntil.map (·.2) with
  | [] => 0
  | t :: r => (r.foldl min t - s.time + 999999999) / 1000000000

def execDebugExpiry (paddock : Nat) (s : State) : Out :=
  .next (match s.sec.debugUntil.find paddock with
    | some t => if t ≤ s.time then s.closeDebug paddock else s
    | none => s)

/-- Where a paddock's memory lies for debug: image window or a LOCAL page of HBM or scratchpad (assumption 37). -/
def State.debugPlace (s : State) (n va : Nat) : Option Nat :=
  if imageVa ≤ va then
    (if va - imageVa + 8 ≤ s.fnNat n PDK_IMAGE_SIZE * mib then some (s.imageAddr n (va - imageVa)) else none)
  else if privVa ≤ va then none
  else match s.walk n va with
    | .mapped base lpa _ _ => if lpa + (va - base) < coreBase then some (lpa + (va - base)) else none
    | _ => none

/-- Eight committed bytes of an open paddock; the contents of a poisoned line are open. -/
def State.debugRead (s : State) : State :=
  let v := s.hubNat SEC_DEBUG_ADDR
  let n := fieldOf v 48 5
  let va := v % 2 ^ 48 / 8 * 8
  if (s.sec.debugUntil.find n).isNone then s.hubSetN SEC_DEBUG_STATUS 1
  else match s.debugPlace n va with
    | none => s.hubSetN SEC_DEBUG_STATUS 1
    | some a =>
      let r := s.fetch a 8
      if r.2 then (s.drawn.hubSetN SEC_DEBUG_DATA s.free).hubSetN SEC_DEBUG_STATUS 2
      else (s.hubSetN SEC_DEBUG_DATA (leNat r.1)).hubSetN SEC_DEBUG_STATUS 2

/-- The write of the high half of SEC_DEBUG_ADDR completes the register (R427, R578). -/
def execDebugRead (high : W32) (s : State) : Out :=
  .next (if !s.up || s.lc = lcScrapped then s
  else
    let low := match s.held.find SEC_DEBUG_ADDR with
      | some w => w.toNat
      | none => s.hubNat SEC_DEBUG_ADDR % 2 ^ 32
    (({ s with held := s.held.del SEC_DEBUG_ADDR } : State).hubSetN SEC_DEBUG_ADDR
      (high.toNat % 2 ^ 21 * 2 ^ 32 + low / 8 * 8)).debugRead)

/-! ### Challenge and tokens (R575 to R577, R582) -/

def execChallengeNew (s : State) : Out :=
  .next (if s.up && s.lc ≠ lcScrapped then
    { s.drawn.hubBytes SEC_CHALLENGE (leBytes 48 s.free) with sec := { s.sec with challengeAt := some s.time } } else s)

def execChallengeExpiry (s : State) : Out :=
  .next (match s.sec.challengeAt with
    | some t => if t + 60000000000 ≤ s.time then { s with sec := { s.sec with challengeAt := none } } else s
    | none => s)

def opDebug : Nat := 1
def opReturn : Nat := 2
def opScrap : Nat := 3
def opDeploy : Nat := 4
def opProvision : Nat := 5

def tokAccepted : Nat := 1
def tokFormat : Nat := 2
def tokChallenge : Nat := 3
def tokSerial : Nat := 4
def tokKey : Nat := 5
def tokSignature : Nat := 6
def tokNotPermitted : Nat := 7

def State.token (s : State) : List Byte := s.hubBytesGet SEC_TOKEN 320
def tokenOp (t : List Byte) : Nat := fieldAt t 1 1

/-- Encodings and reserved bytes. -/
def tokenForm (t : List Byte) : Bool :=
  let op := tokenOp t
  fieldAt t 0 1 = 1 && 1 ≤ op && op ≤ 5 && zeroAt t 2 2 && zeroAt t 12 4 && zeroAt t 72 40 && zeroAt t 305 15 &&
    (if op = opDebug then 1 ≤ fieldAt t 8 4 && fieldAt t 8 4 ≤ 86400 else zeroAt t 4 8)

/-- The operation is allowed in the present state (R571, R576); a stalled DEPLOY accepts a fresh one (R574). -/
def State.tokenAllowed (s : State) (op : Nat) : Bool :=
  if s.sec.trans.isSome then s.sec.trans == some .deploy && s.hubNat LCS_STATUS = 2 && op = opDeploy
  else if op = opDebug || op = opReturn then s.lc = lcDeployed
  else if op = opScrap then s.lc = lcFab || s.lc = lcProvisioned || s.lc = lcDeployed || s.lc = lcReturned
  else if op = opDeploy then s.lc = lcProvisioned
  else s.lc = lcFab

def tokenKey (t : List Byte) : List Byte := (t.drop 208).take 97

/-- The token may stand unsigned. -/
def State.unsignedOk (s : State) (t : List Byte) : Bool := tokenOp t = opScrap && (s.lc = lcFab || s.lc = lcReturned)

/-- The signer's key is the one that R576 asks for. -/
def State.tokenKeyOk (s : State) (t : List Byte) : Bool :=
  let op := tokenOp t
  if s.unsignedOk t then true
  else if op = opDeploy then
    (if s.sec.trans.isSome then
      (List.range 12).all (fun i => (s.sec.word (27 + i) &&& fieldAt (sha384 (tokenKey t)) (4 * i) 4) = s.sec.word (27 + i))
    else true)
  else if op = opProvision || (op = opScrap && s.lc = lcProvisioned) then beNat (tokenKey t) = Config.provisioningKey
  else sha384 (tokenKey t) == s.sec.ownerDigest

def State.tokenSigned (s : State) (t : List Byte) : Bool :=
  (s.unsignedOk t && zeroAt t 112 193) || Config.ecdsaVerify (beNat (tokenKey t)) (t.take 112) (beNat ((t.drop 112).take 96))

/-- The result of a submission. -/
def State.tokenResult (s : State) (t : List Byte) : Nat :=
  if !tokenForm t then tokFormat
  else if s.sec.challengeAt.isNone || (t.drop 24).take 48 != s.hubBytesGet SEC_CHALLENGE 48 then tokChallenge
  else if fieldAt t 16 8 ≠ s.serial then tokSerial
  else if !s.tokenAllowed (tokenOp t) then tokNotPermitted
  else if !s.tokenKeyOk t then tokKey
  else if !s.tokenSigned t then tokSignature
  else tokAccepted

/-- Debug opens for the named paddocks that are not confidential; each is DEBUGGED. -/
def State.openDebug (s : State) (t : List Byte) : State :=
  let ps := (List.range 32).filter (fun n => bitOf (fieldAt t 4 4) n && !s.confidential n)
  ({ s with sec := { s.sec with
      debugUntil := ps.foldl (fun m n => m.set n (s.time + fieldAt t 8 4 * 1000000000)) s.sec.debugUntil,
      debugged := addAll ps s.sec.debugged } } : State).noteDebug

/-- A transition is accepted (R572): stiles refuse, every paddock is quiesced, BEGUN is set; a DEPLOY request is copied first. -/
def State.beginTrans (s : State) (t : Trans) (tok : List Byte) : State :=
  let s := if t == .deploy then (s.eraseFlash 0x30000 0x10000).flashPut 0x30000 tok else s
  let s := ({ s with sec := { s.sec with trans := some t } } : State).hubSetN LCS_STATUS 1
  let s := (List.range 32).foldl State.forceQuiesce s
  s.burn 8 (2 ^ t.field.1)

def transOf (op : Nat) : Trans :=
  if op = opReturn then .ret else if op = opScrap then .scrap else if op = opDeploy then .deploy else .provision

/-- A write of 1 to SEC_TOKEN_SUBMIT. -/
def State.submitToken (s : State) : State :=
  if !s.up || s.lc = lcScrapped then s
  else
    let t := s.token
    let r := s.tokenResult t
    let s := ({ s with sec := { s.sec with challengeAt := none } } : State).hubSetN SEC_TOKEN_STATUS r
    if r ≠ tokAccepted then s
    else if tokenOp t = opDebug then s.openDebug t
    else s.beginTrans (transOf (tokenOp t)) t

/-- A submission whose token bears an operation. -/
def State.submitIf (s : State) (op : Nat) : State := if tokenOp s.token = op then s.submitToken else s

def execTokenPaddockDebug (s : State) : Out := .next (s.submitIf opDebug)
def execTokenReturn (s : State) : Out := .next (s.submitIf opReturn)
def execTokenScrap (s : State) : Out := .next (s.submitIf opScrap)
def execTokenDeploy (s : State) : Out := .next (s.submitIf opDeploy)
def execTokenProvision (s : State) : Out := .next (s.submitIf opProvision)

/-- TRANSITION_DONE: once write-outs are complete, every mark is worked through, and the module makes a cold start. -/
def execTransitionDone (s : State) : Out :=
  .next (match s.sec.trans with
    | none => s
    | some t =>
      if !s.up || s.hubNat LCS_STATUS ≠ 1 || s.fns.any (fun f => f.2.entries.any (fun e => e.2.st == .releasing && !e.2.left.isEmpty)) then s
      else
        let s := s.transRun t 5
        ({ s with sec := { s.sec with trans := none, redraws := 0 } } : State).startCold 7 false false)

/-! ### Scrub (R562 to R565) -/

/-- Step 1: SCRUBBING is marked. -/
def State.markScrub (s : State) (n : Nat) : State :=
  { s with sec := { s.sec with scrubbing := if s.sec.scrubbing.contains n then s.sec.scrubbing else s.sec.scrubbing ++ [n] } }

/-- Steps 2 to 5: keys and site state, translations, core stores, Fold, directory. -/
def State.scrubChips (s : State) (n : Nat) : State :=
  let s := { s with sec := { s.sec with paddockKeys := s.sec.paddockKeys.del n, begun := n :: s.sec.begun } }
  let c := s.fnNat n PDK_COMMONS
  let s := if bitOf c 7 then s.pulseSite (s.servedBy (c % 32)) else s
  let s := s.modXlt n (fun x => { Xlt.empty with priEnable := x.priEnable, priAlloc := x.priAlloc, prgs := x.prgs.filter (fun p => p.2.quarantined) })
  let s := (s.fn n).hirselList.foldl (fun (s : State) h => s.wipe (coreAddr (h * 16) 0) (16 * 0x80000)) s
  let s := (s.foldDrop (some n) 0 hbmTop).dropNodes n
  let s := (s.slices n 2).foldl (fun (s : State) l => s.wipe (scratchBase + l * 0x800000) 0x800000) s
  let b := s.fnNat n DIR_BASE
  let e := s.fnNat n DIR_ENTRIES
  let s := { s with ms := { s.ms with dir := s.ms.dir.filter (fun p => p.1 < b || b + e ≤ p.1) } }
  let s := s.modFn n (fun f => ((f.putN DIR_KEYS 0).putN DIR_FULLEST 0).putN DIR_DAMAGED 0)
  s.drawSalt n

/-- Function `n` after step 7: its journal, log, handles, audit chain and rings are gone. -/
def Fn.scrubbed (f : Fn) : Fn :=
  let b := f.nat STL_BIND_STATE
  let f := f.putN STL_BIND_STATE (fieldOf b 24 8 * 2 ^ 24 + fieldOf b 4 4 * 16 + boolN (bitOf b 1) * 2)
  let f := (List.range 16).foldl (fun (f : Fn) i => f.putN (STL_WATERMARK + 8 * i) 0) f
  let f := ((((f.putN STL_RING_HEAD 0).putN STL_AUDIT_HEAD 0).putN PDK_MEASURE_COUNT 0).putN XLT_TABLE_USED 1).putN JRN_IN_USE 0
  ({ f with entries := [], notices := [], wmAtReceipt := [], carried := [], ringAddr := 0, auditAddr := 0, nextRing := 0, ringWritten := 0,
            audit := Audit.empty, handles := [], measLog := [], memos := [], tables := [], freed := [], quiesce := none,
            drained := true } : Fn).noteHandles

/-- Steps 6 to 8. -/
def State.scrubEnd (s : State) (n : Nat) : State :=
  let s := s.wipe (s.capBase n) (s.capSize n)
  let team := (s.fn n).nat PDK_TEAM
  let alone := s.fns.all (fun p => p.1 = n || p.2.nat PDK_TEAM ≠ team)
  let s := if alone then { s with torus := { s.torus with staging := s.torus.staging.filter (fun x => x.team ≠ team) } } else s
  let s := { s with groups := s.groups.filter (fun g => g.2.fn ≠ n) }
  let s := (s.modFn n Fn.scrubbed).beginSession n
  let s := if n = 0 then s else s.closeDebug n
  let s := { s with sec := { s.sec with scrubbing := s.sec.scrubbing.filter (· != n), begun := s.sec.begun.filter (· != n) } }
  let s := (s.hubCount SEC_SCRUBS 1).hubSetN SEC_SCRUB_STATUS (n * 65536 + 1)
  let s := if n = 0 then s.closeDebug 0 else s
  if s.sec.tdiStops.contains n then
    let s := { s with sec := { s.sec with tdiStops := s.sec.tdiStops.filter (· != n) },
                      pce := { s.pce with tdiStream := s.pce.tdiStream.del n } }
    ((s.hubSetN (SEC_TDI_STATE + 4 * n) tdiUnlocked).modPceFn n (fun p => { p with tdiHold := false })).send (.doe doeTdisp [2, n] [])
  else s

/-- Why a register-started scrub is refused; 0 where it is not (R562, R583). -/
def State.scrubRefusal (s : State) (n : Nat) : Nat :=
  if (s.fn n).pdk ≠ pdkQuiesced || !(s.fn n).isDrained then 2
  else if s.tdi n ≠ tdiUnlocked then 3
  else if n = 0 && s.fns.any (fun p => p.1 ≠ 0 && p.2.handles.any (fun h => h.2.kind == .attach)) then 4
  else if !s.sec.scrubbing.isEmpty then 5
  else 0

/-- SCRUB_START: a PF write of SEC_SCRUB. -/
def execScrubStart (value : W32) (s : State) : Out :=
  .next (
    let n := value.toNat % 32
    if !s.up || s.lc = lcScrapped || !bitOf value.toNat 31 then s
    else
      let r := s.scrubRefusal n
      if r ≠ 0 then s.hubSetN SEC_SCRUB_STATUS (boolN (!s.sec.scrubbing.isEmpty) * 2 ^ 31 + n * 65536 + r)
      else ((s.markScrub n).scrubChips n).hubSetN SEC_SCRUB_STATUS (2 ^ 31 + n * 65536))

/-- SCRUB_DONE: the scrub in progress ends, once its paddock is QUIESCED. -/
def execScrubDone (s : State) : Out :=
  .next (match s.sec.scrubbing with
    | [] => s
    | n :: _ =>
      if !s.up || (s.fn n).pdk ≠ pdkQuiesced then s
      else ((if s.sec.begun.contains n then s else s.scrubChips n).scrubEnd n))

/-! ### TDISP (R557, R558) -/

/-- Messages of a TDI run over a secured session. -/
def State.tdispUp (s : State) (fn : Nat) : Bool := s.spdmUp && !s.sec.sessions.isEmpty && 1 ≤ fn && fn < 32

def State.tdispError (s : State) (fn : Nat) : State := s.send (.doe doeError [fn] [])

def execLockInterface (fn stream : Nat) (s : State) : Out :=
  .next (if !s.tdispUp fn then s
  else if s.fnExists fn && s.tdi fn = tdiUnlocked && s.fnNat fn XLT_PASID ≠ 0 && stream < 8 then
    ({ s.hubSetN (SEC_TDI_STATE + 4 * fn) tdiLocked with pce := { s.pce with tdiStream := s.pce.tdiStream.set fn stream } } : State).send
      (.doe doeTdisp [0, fn] [])
  else s.tdispError fn)

def execStartInterface (fn : Nat) (s : State) : Out :=
  .next (if !s.tdispUp fn then s
  else if s.tdi fn = tdiLocked then (s.hubSetN (SEC_TDI_STATE + 4 * fn) tdiRun).send (.doe doeTdisp [1, fn] [])
  else s.tdispError fn)

/-- STOP_INTERFACE: quiesced with no time to finish, and scrubbed without waiting for drain; the response comes with its end. -/
def execStopInterface (fn : Nat) (s : State) : Out :=
  .next (if !s.tdispUp fn then s
  else if s.tdi fn = tdiUnlocked then s.tdispError fn
  else if s.sec.tdiStops.contains fn then s
  else
    let s := (s.forceQuiesce fn).markScrub fn
    let s := { s with sec := { s.sec with tdiStops := s.sec.tdiStops ++ [fn] } }
    if (s.fn fn).pdk = pdkEmpty then
      let s := { s with sec := { s.sec with tdiStops := s.sec.tdiStops.filter (· != fn), scrubbing := s.sec.scrubbing.filter (· != fn) },
                        pce := { s.pce with tdiStream := s.pce.tdiStream.del fn } }
      ((s.hubSetN (SEC_TDI_STATE + 4 * fn) tdiUnlocked).modPceFn fn (fun p => { p with tdiHold := false })).send (.doe doeTdisp [2, fn] [])
    else
      let s := if (s.fn fn).pdk = pdkQuiesced then s.scrubChips fn else s
      s.hubSetN SEC_SCRUB_STATUS (2 ^ 31 + s.sec.scrubbing.headD fn * 65536))

/-- GET_DEVICE_INTERFACE_REPORT: sizes of BAR0 and BAR2, paddock, SEC_PADDOCK_CFG, block 0x20 + n and the epoch. -/
def execGetDeviceInterfaceReport (fn : Nat) (s : State) : Out :=
  .next (if !s.tdispUp fn then s
  else if s.tdi fn = tdiLocked || s.tdi fn = tdiRun then
    s.send (.doe doeTdisp [3, fn, 0x100000, 0x10000, fn, s.hubNat (SEC_PADDOCK_CFG + 4 * fn), s.fnNat 0 STL_EPOCH] (s.padBlock fn))
  else s.tdispError fn)

end Sys2Proof.Machine
end

