-- ==== Sys2Proof/Machine/Sheepdog.lean ====
section
/-! DEFINITION. The sheepdog's commands: reports and their reactions, its own faults, leaving the safe state, its queue and capture
(R246, R309, R310, R587 to R590, R594 to R602). -/

namespace Sys2Proof.Machine
open Sys2Proof

/-! ### What hangs on a fenced unit (R25, R310, R380, R589, R590) -/

def State.errorAll (s : State) (gs : List Nat) (clears : Bool) : State := gs.foldl (fun s g => s.datapathError g clears) s

/-- Groups with a thread on a core or a tile, by the hirsels they hold. -/
def State.groupsOn (s : State) (p : Nat → Bool) : List Nat :=
  (s.groups.filter (fun g => g.2.phase != .switchedOut && g.2.hirsels.any p)).map (·.1)

/-- A window line at its home is absent; CE entry (R380). -/
def State.absentLine (s : State) (line : Nat) : State :=
  if (s.line line).home == .absent then s
  else (s.modLine line (fun x => { x with home := .absent, copy := [] })).report (hubReport cWindowLine .ce 0x05 0 (line * 64))

/-- Records that own contents of a slice: STAGED lines, open exact accumulators and, in a paddock's scratchpad slice, those of its
groups that are under way (R309, assumption 38). -/
def State.sliceOwners (s : State) (l : Nat) : List Nat :=
  let tags := (s.ms.fold.filter (fun (p : Nat × List FoldTag) => p.1 / 8192 = l)).map (·.2)
  let staged := (tags.flatten.filter (·.staged)).map (·.owner)
  let xas := (s.groups.filter (fun g => g.2.xas.any (fun x => x.2.slice = l))).map (·.1)
  let scratch := if s.sliceUse l = 2 then (s.groups.filter (fun g => g.2.fn = s.sliceOwner l)).map (·.1) else []
  (staged ++ xas ++ scratch).dedup

/-- Clean cache lines of a slice. -/
def State.cleanTags (s : State) (l : Nat) : Nat :=
  (((s.ms.fold.filter (fun (p : Nat × List FoldTag) => p.1 / 8192 = l)).map (·.2)).flatten.filter (fun w => !w.staged)).length

/-- Window lines whose home is a hub cache slice. -/
def State.homedIn (s : State) (l : Nat) : List Nat :=
  (s.lines.filter (fun (p : Nat × CohLine) => p.2.home != .absent && s.serving ownerHub (p.1 * 64) = l)).map (·.1)

/-- A fenced slice loses its contents (R310). -/
def State.fenceSlice (s : State) (phys cause : Nat) : State :=
  if s.fencedUnit kSlice phys then s
  else match s.logicalOf kSlice phys with
    | none => s.fenceUnit kSlice phys cause
    | some l =>
      let owners := s.sliceOwners l
      let home := s.homedIn l
      let id := s.physId kSlice phys
      let clean := s.cleanTags l
      let s := s.fenceUnit kSlice phys cause
      let s := { s with ms := { s.ms with fold := s.ms.fold.filter (fun (p : Nat × List FoldTag) => p.1 / 8192 != l) } }
      let s := s.wipe (scratchBase + l * 0x800000) 0x800000
      let s := (List.range clean).foldl (fun s _ => s.report (hubReport cSramCe .ce 0x02 id 0)) s
      let s := home.foldl State.absentLine s
      let s := s.errorAll owners true
      if s.vacant kSlice l then s.report (hubReport cause .uc 0x02 id 0) else s

/-- A unit that a report names is fenced, with what hangs on it. -/
def State.fenceNamed (s : State) (kind unit cause : Nat) : State :=
  if kind = kCore && unit < 4352 then
    if s.fencedUnit kCore unit then s
    else
      let gs := match s.logicalOf kCore unit with
        | some l => s.groupsOn (fun h => h = l / 16)
        | none => []
      (s.fenceUnit kCore unit cause).errorAll gs true
  else if kind = kTile && unit < 16 then
    if s.fencedUnit kTile unit then s
    else
      let gs := s.groupsOn (fun h => h / 16 = unit)
      ((((s.fenceUnit kTile unit cause).setSiteSt unit siteFenced).errorAll gs true).foundSite unit).advance
  else if kind = kSlice && unit < 264 then s.fenceSlice unit cause
  else if kind = kStack && unit < 24 then s.fenceStack unit
  else if kind = kCommons then s.fenceSite unit
  else if kind = kPort && unit < 16 then s.excludePort unit rsLinkLost
  else if kind = kLane && unit < 256 then s.laneLost (unit / 16) (unit % 16) cause
  else if kind = kHalf then (if s.noc.halfFenced.contains unit then s else s.fenceHalf (unit / 2) (unit % 2))
  else if kind = kShepherd && unit < 4 then
    let s := s.fenceUnit kShepherd unit cause
    if s.shepherds.isEmpty then s.report (hubReport cShepherdAll .ft 0x12 (s.physId kShepherd unit) 0) else s
  else if kind = kDrover && unit < 32 then s.fenceUnit kDrover unit cause
  else if kind = kForest && unit < 256 then s.fenceUnit kForest unit cause
  else s

/-! ### The catalogue (R588 to R590) -/

/-- The class the catalogue gives a cause; where it gives two, the report says which, and an FT is none of them. -/
def causeClass (cause : Nat) (c : FaultClass) : FaultClass :=
  if cause = cCalMargin || cause = cCommonsReport then (if c == .ce then .ce else .uc)
  else if [cSramCe, cHbmCe, cTwinRepair, cLinkHalf, cWindowLine, cDirRebuild, cLaneReplaced, cShortfall].contains cause then .ce
  else if [cMeshLost, cJournalLost, cKeyUnwrap, cHubRail, cThermalTrip, cShepherdAll, cSheepdogSelf, cRecoveryLimit].contains cause
  then .ft
  else .uc

/-- The kinds of unit that a checked datapath's error fences at once (R590). -/
def fencedAtOnce (kind : Nat) : Bool := kind = kCore || kind = kForest || kind = kDrover || kind = kTile

/-- SRAM_UE of a core or a slice counts; the SDG_UNIT_LIMIT-th within 1 s fences it (R590). -/
def State.countSramUe (s : State) (kind unit : Nat) : State :=
  if kind = kCore || kind = kSlice then
    let k := kind * 65536 + unit
    let l := (k, s.time) :: s.sdg.sramUe.filter (fun u => s.time < u.2 + 1000000000)
    let s := { s with sdg := { s.sdg with sramUe := l } }
    if s.hubNat SDG_UNIT_LIMIT % 256 ≤ (l.filter (fun u => u.1 = k)).length then s.fenceNamed kind unit cSramUe else s
  else s

/-- An uncorrectable error in SRAM: by what it hits in a slice, else an error of the records that own it (R164, R309, R380). -/
def State.sramError (s : State) (r : Report) : State :=
  let line := lineOf r.addr
  let staged := (s.ms.fold.map (fun (p : Nat × List FoldTag) => p.2.filter (fun w => w.staged && w.line = line))).flatten
  if r.kind = kSlice && s.inWindow r.addr then s.absentLine line
  else if r.kind = kSlice && staged.isEmpty && r.records.isEmpty && r.addr < hbmTop then
    (s.foldDrop none (line * 64) 64).report { r with cause := cSramCe, cls := .ce }
  else
    let gs := if r.kind = kSlice && r.addr < hbmTop then r.records ++ staged.map (·.owner) else r.records
    ((s.report r).errorAll gs.dedup true).countSramUe r.kind r.unit

/-- Records that read a line that is now poison complete with POISONED (R295, R313). -/
def State.poisonAll (s : State) (gs : List Nat) (line : Nat) : State :=
  if s.poison.contains line then gs.foldl (fun s g => s.memPoison g (some line)) s else s

/-- An error that the code of an HBM line shows, when a read meets it (R294, R295, R312, R313). -/
def State.hbmError (s : State) (r : Report) (e : EccResult) : State :=
  if r.addr < hbmTop && !s.vacant kStack (s.stackOf r.addr) then
    (s.lineError r.addr r.initiator r.access e).poisonAll r.records (lineOf (((s.pastureLine r.addr).getD r.addr)))
  else s.report r

/-- A granule whose tag does not agree is poisoned (R547). -/
def State.integrityError (s : State) (r : Report) : State :=
  let s := (s.hubCount SEC_INTEGRITY_FAILS 1).report r
  if r.addr < hbmTop then
    let s := (List.range 4).foldl (fun s i => s.spoil (r.addr / 256 * 256 + 64 * i)) s
    s.poisonAll r.records (lineOf r.addr)
  else s

/-- The records whose request was denied fail with TRANSLATION. -/
def State.denyAll (s : State) (gs : List Nat) : State := gs.foldl (fun s g => s.failGroup g xTranslation) s

/-- A pasture line that neither copy corrects is poisoned, and so are its readers. -/
def State.pasturePoison (s : State) (r : Report) : State :=
  let s := s.report r
  match s.pastureLine r.addr with
  | some a => (s.spoil a).poisonAll r.records (lineOf a)
  | none => s

/-- A directory entry that fails its check is DAMAGED. -/
def State.bucketDamaged (s : State) (r : Report) : State :=
  match s.bucketOwner r.addr with
  | some fn => s.makeDamaged fn r.addr
  | none => s.report r

/-- A directory entry is rebuilt from its page pair. -/
def State.bucketRebuilt (s : State) (r : Report) : State :=
  match s.bucketOwner r.addr with
  | some fn => ((s.rebuildEntry fn r.addr).fnCount fn DIR_REBUILDS 1).report r
  | none => s.report r

/-- The reaction that the catalogue gives to a report, with its entry. Causes that other commands of the table raise by their own
rules make the entry and fence what the report names (assumption 39). -/
def State.react (s : State) (r : Report) : State :=
  if r.cause = 0 || cRecoveryLimit < r.cause then s
  else if r.cause = cSramCe && r.block = 0x14 then s.hubCount SDG_SELF_CE 1
  else if r.cause = cSramUe then s.sramError r
  else if r.cause = cHbmCe then s.hbmError r .corrected
  else if r.cause = cHbmUe then s.hbmError r .uncorrectable
  else if r.cause = cStackFenced then s.fenceNamed kStack r.unit cStackFenced
  else if r.cause = cTwinRepair then (s.hubCount MCT_TWIN_REPAIRS 1).report r
  else if r.cause = cPasturePoison then
    s.pasturePoison r
  else if r.cause = cIntegrity then s.integrityError r
  else if r.cause = cResidue || r.cause = cDuplicate || r.cause = cCompletion then
    let s := s.report r
    (if fencedAtOnce r.kind then s.fenceNamed r.kind r.unit r.cause else s).errorAll r.records true
  else if r.cause = cLinkHalf then s.fenceNamed kHalf r.unit cLinkHalf
  else if r.cause = cE2eCrc then ((s.hubCount NOC_E2E_ERRORS 1).report r).errorAll r.records true
  else if r.cause = cLateSpeaker then s.lateSpeaker r.phys
  else if r.cause = cDenied then ((s.hubCount NOC_DENIED 1).report r).denyAll r.records
  else if r.cause = cLineLost then (((s.modLine (lineOf r.addr) (fun x => { x with home := .absent, copy := [] })).spoil r.addr).hubCount
    SNP_LOST_LINES 1).report r
  else if r.cause = cWindowLine then s.absentLine (lineOf r.addr)
  else if r.cause = cTableFormat then (s.report r).errorAll r.records false
  else if r.cause = cWriteoutLoss then (s.fnCount r.paddock XLT_WRITEOUT_LOSSES 1).report r
  else if r.cause = cDirDamaged then
    s.bucketDamaged r
  else if r.cause = cDirRebuild then
    s.bucketRebuilt r
  else if r.cause = cPortExcluded then s.fenceNamed kPort r.unit cPortExcluded
  else if r.cause = cLaneReplaced then (s.report r).fenceNamed kLane r.unit cLaneReplaced
  else if r.cause = cCommonsFenced || (r.cause = cCommonsReport && r.cls == .ft) then s.fenceNamed kCommons r.unit cCommonsFenced
  else if r.cause = cReduction || r.cause = cCommonsReport then (s.report r).errorAll (if r.cls == .ce then [] else r.records) true
  else if r.cause = cCalMargin then
    if r.cls == .ce then (s.hubCount CAL_CE_COUNT 1).report r
    else (((s.hubCount CAL_UC_COUNT 1).report r).fenceNamed r.kind r.unit cCalMargin).errorAll r.records true
  else if r.cause = cTileRail then (s.report r).fenceNamed kTile r.unit cTileRail
  else if r.cause = cShepherdPair then (s.report r).fenceNamed kShepherd r.unit cShepherdPair
  else if r.cause = cDrover then ((s.report r).fenceNamed kDrover r.unit cDrover).errorAll r.records true
  else if r.cause = cSheepdogSelf then (s.placeReport r).enterSafe cSheepdogSelf true
  else s.report r

/-- A report is classified (R588) and draws its reaction. A commons FT keeps its class to fence the site. -/
def State.takeReport (s : State) (r : Report) : State :=
  s.react { r with cls := if r.cause = cCommonsReport && r.cls == .ft then .ft else causeClass r.cause r.cls }

def execFaultReport (r : Report) (s : State) : Out := .next (if s.up then s.takeReport r else s)

/-- A stage that has held a request for 4 µs is reported as COMPLETION (R587, R589). -/
def execStallWatchdog (r : Report) (s : State) : Out := .next (if s.up then s.takeReport { r with cause := cCompletion } else s)

/-- The sheepdog's own checks (R602): the safe state without the classifier. SELF and CAUSE 0x2B are held. -/
def execSheepdogSelfFault (s : State) : Out := .next (if s.up then s.enterSafe cSheepdogSelf true else s)

/-! ### Leaving the safe state (R600, R601) -/

/-- SDG_QUIET_MS has passed, no monitor reports, and no cause holds the safe state. -/
def State.mayExit (s : State) : Bool :=
  s.up && s.safe && s.boot.ready && !bitOf (s.hubNat SDG_STATUS) 29 && s.sdg.monitors.isEmpty &&
    max s.sdg.lastFt s.sdg.monitorSince + s.hubNat SDG_QUIET_MS % 2 ^ 14 * 1000000 ≤ s.time

/-- Exits completed within the last WINDOW_S seconds. -/
def State.recentExits (s : State) : List Nat :=
  s.sdg.exits.filter (fun t => s.time ≤ t + fieldOf (s.hubNat SDG_RECOVERY_LIMIT) 16 16 * 1000000000)

def execSafeExit (s : State) : Out :=
  .next (if !s.mayExit then s
  else if s.hubNat SDG_RECOVERY_LIMIT % 256 < s.recentExits.length then s.report (hubReport cRecoveryLimit .ft 0x14 0 0)
  else
    let s := s.hubCount SDG_RECOVERIES 1
    let s := { s.hubSetN SDG_STATUS (withField (s.hubNat SDG_STATUS) 31 1 0) with
      sdg := { s.sdg with exits := s.time :: s.recentExits } }
    let s := s.raiseInt intSafe
    let s := s.fns.foldl (fun (s : State) (p : Nat × Fn) => s.pump p.1) s
    (List.range 16).foldl (fun (s : State) p => if s.unusedPort p then s else s.sendIdent p) s)

/-! ### Queue and capture (R595, R596) -/

/-- A slot is freed; what stands in it stays until it is rewritten. -/
def State.releaseSlot (s : State) (k : Nat) : State :=
  match s.sdg.queue.find k with
  | some e => { s with sdg := { s.sdg with queue := s.sdg.queue.del k, stale := s.sdg.stale.set k e } }
  | none => s

def execQRelease (value : W32) (s : State) : Out := .next (if s.up then s.releaseSlot (value.toNat % 1024) else s)

def execFirstErrorClear (s : State) : Out :=
  .next (if s.up && !s.safe then
    (((s.hubSetN SDG_FIRST_INFO 0).hubSetN SDG_FIRST_ADDR 0).hubSetN SDG_FIRST_CAUSE 0).hubSetN SDG_FIRST_TIME 0
  else s)

end Sys2Proof.Machine
end

