-- ==== Sys2Proof/Machine/Identity.lean ====
section
/-! DEFINITION. Discovery of the tiles, the tag area, and the identity block over I3C (R18 to R21, R31 to R42). -/

namespace Sys2Proof.Machine
open Sys2Proof

/-! ### Discovery (R20, R21, R534) -/

/-- A site whose discovery is under way. -/
def State.discovering (s : State) (site : Nat) : Bool :=
  s.up && s.boot.step = 6 && site < 20 && !s.boot.found.contains site && (site < 16 || s.cmnSt site = cmnDiscovering)

/-- A tile's first discovery message. -/
def execTileDiscovery (site : Nat) (strap : BitVec 9) (s : State) : Out :=
  .next (if !s.discovering site || 16 ≤ site then s
  else if strap.toNat ≠ s.ident.pad site then (s.strapErr site).advance
  else (s.setSiteSt site siteActive).siteDone site)

/-- No answer within 2 ms of the deassertion of the package reset, which falls with the start's trigger in the model's time. -/
def execDiscoveryTimeout (site : Nat) (s : State) : Out :=
  .next (if !s.discovering site || s.time < s.boot.startAt + 2000000 then s
  else if site < 16 then (s.strapErr site).advance
  else (((s.setSite site Site.empty).setCmnSt site cmnOffSt).strapErr site).advance)

/-! ### The tag area (R35 to R41) -/

def tagDone : Nat := 1
def tagExhausted : Nat := 2
def tagSpoiled : Nat := 3
def tagDenied : Nat := 4

/-- LAST_RESULT, and the commit in progress leaves the queue. -/
def State.endCommit (s : State) (result : Nat) : State :=
  ({ s with ident := { s.ident with commits := s.ident.commits.drop 1, burn := [] } } : State).hubSetN IDN_TAG_STATUS
    (withField (s.hubNat IDN_TAG_STATUS) 8 4 result)

/-- The staging buffer of a side: its offset. -/
def stageOff (pf : Bool) : Nat := if pf then IDN_TAG_STAGE_PF else IDN_TAG_STAGE_I3C

def tagWritable (lc : Nat) : Bool := lc = lcFab || lc = lcProvisioned || lc = lcDeployed || lc = lcReturned

/-- The first commit of the queue begins (R38 steps 1 and 2), or ends at once: up to `n` of them. -/
def State.beginCommit (n : Nat) (s : State) : State :=
  match n, s.ident.commits with
  | k + 1, pf :: _ =>
    if !tagWritable s.lc then State.beginCommit k (s.endCommit tagDenied)
    else if 16 ≤ s.ident.next then State.beginCommit k (s.endCommit tagExhausted)
    else
      let d := (s.hubBytesGet (stageOff pf) 256).take 252
      let b := d ++ leBytes 4 (crc32 d).toNat
      { s.hubBytes (stageOff pf) b with ident := { s.ident with burn := b } }
  | _, _ => s

/-- A commit of a side is requested (R39). -/
def State.askCommit (s : State) (pf : Bool) : State :=
  if s.ident.commits.contains pf then s
  else
    let first := s.ident.commits.isEmpty
    let s := { s with ident := { s.ident with commits := s.ident.commits ++ [pf] } }
    (if first then State.beginCommit 2 s else s).noteTags

def execTagCommitPf (s : State) : Out := .next (if s.up then s.askCommit true else s)
def execTagCommitI3c (s : State) : Out := .next (if s.up then (s.askCommit false).send (.i3c 0 0) else s)

/-- A commit ends. When its verify fails, what stands in the generation is open but neither blank nor valid. -/
def execTagCommitDone (verified : Bool) (s : State) : Out :=
  .next (if !s.up || s.ident.burn.isEmpty then s
  else
    let g := s.ident.next
    let v := leBytes 256 s.free
    let w := if !genBlank v && !genValid v then v else 1#8 :: zeros 255
    let s := if verified then { s with ident := s.ident.putGen g s.ident.burn } else { s.drawn with ident := s.ident.putGen g w }
    (State.beginCommit 2 (s.endCommit (if verified then tagDone else tagSpoiled))).noteTags)

/-! ### The identity block as it is read (R31, R40) -/

/-- A 32-bit word of a list of bytes. -/
def wordOf (b : List Byte) (i : Nat) : W32 := BitVec.ofNat 32 (fieldAt b (4 * i) 4)

/-- The word at an aligned offset of the identity block. -/
def State.idnWord (s : State) (off : Nat) : W32 :=
  if 0x1000 ≤ off && off < 0x2000 then wordOf (s.ident.gen ((off - 0x1000) / 256)) (off % 256 / 4)
  else if IDN_TAG_CURRENT ≤ off && off < IDN_TAG_CURRENT + 256 then
    match s.ident.current with
    | some g => wordOf (s.ident.gen g) (off % 256 / 4)
    | none => 0
  else if IDN_TILE_SPARES ≤ off && off < IDN_FOLD_SPARES then BitVec.ofNat 32 (s.tileSpares ((off - IDN_TILE_SPARES) / 4))
  else if off = IDN_FOLD_SPARES then BitVec.ofNat 32 s.foldSpares
  else if off = IDN_TAG_COMMIT then 0
  else if off = IDN_SERIAL + 4 then BitVec.ofNat 32 (s.hubNat IDN_SERIAL / 2 ^ 32)
  else BitVec.ofNat 32 (s.hubNat off)

/-! ### I3C (R42) -/

def execI3cRead (off : Nat) (s : State) : Out := .next (if s.up then s.send (.i3c 0 (s.idnWord (off % 65536 / 4 * 4))) else s)

def execI3cWrite (off : Nat) (data : W32) (s : State) : Out :=
  .next (if !s.up then s
  else if off = IDN_TAG_COMMIT then (if data = 2 then s.askCommit false else s).send (.i3c 0 0)
  else if IDN_TAG_STAGE_I3C ≤ off && off < IDN_TAG_STAGE_I3C + 256 && off % 4 = 0 then
    (s.hubSetN off data.toNat).send (.i3c 0 0)
  else s.send (.i3c 1 0))

end Sys2Proof.Machine
end

