-- ==== Sys2Proof/Machine/Start.lean ====
section
/-! DEFINITION. Supplies and reset lands, the requests for a start, the end of training, readiness with journal recovery, failed
starts and the boot flash (R83, R451, R565, R606 to R640, R643, R695, R697). -/

namespace Sys2Proof.Machine
open Sys2Proof

/-! ### Supplies and reset lands (R606, R643, R695, R697) -/

/-- Both supplies are valid and SYS_RST_N is not asserted: the converters run and a cold start begins. -/
def State.powerUp (s : State) (cause : Nat) : State :=
  if s.boot.aux && s.boot.v48 && !s.boot.sysRst && !s.boot.powered then
    ({ s with boot := { s.boot with powered := true } } : State).startCold cause false true
  else s

def State.powerDown (s : State) : State := if s.boot.powered then s.unpower else s

/-- The 48 V supply (R606, R641, R642) is valid once it has risen above 42 V; CLK_SRIS is sampled with the trigger. -/
def execSupplyValid (sris : Bool) (s : State) : Out :=
  .next (if s.boot.v48 then s
  else ({ s with boot := { s.boot with v48 := true, sris := if s.boot.aux then sris else s.boot.sris } } : State).powerUp 0)

/-- A dip of the 48 V supply below 38 V for more than 50 µs. -/
def execSupplyDip (s : State) : Out := .next (({ s with boot := { s.boot with v48 := false } } : State).powerDown)

def execAuxSupplyValid (sris : Bool) (s : State) : Out :=
  .next (if s.boot.aux then s
  else ({ s with boot := { s.boot with aux := true, sris := if s.boot.v48 then sris else s.boot.sris } } : State).powerUp 0)

def execAuxLoss (s : State) : Out := .next (({ s with boot := { s.boot with aux := false } } : State).powerDown)

def execSysRstAssert (s : State) : Out := .next (({ s with boot := { s.boot with sysRst := true } } : State).powerDown)

def execSysRstDeassert (s : State) : Out :=
  .next (if s.boot.sysRst then ({ s with boot := { s.boot with sysRst := false } } : State).powerUp 1 else s)

/-- A falling edge of WARM_RST_N, low for at least 1 µs. -/
def execWarmRstAssert (s : State) : Out := .next (if s.up then s.startWarm 2 else s)

/-! ### Requests for a start (R637, R638) -/

def execStartReqCold (s : State) : Out := .next (if s.up && s.lc ≠ lcScrapped then s.startCold 3 false false else s)
def execStartReqWarm (s : State) : Out := .next (if s.up && s.lc ≠ lcScrapped then s.startWarm 4 else s)

/-- The causes after which a module may start itself. -/
def autoCause (c : Nat) : Bool := c = cMeshLost || c = cShepherdAll || c = cSheepdogSelf

/-- Automatic warm starts of the last 3,600 s of module time. -/
def State.recentStarts (s : State) : List Nat := s.boot.autoStarts.filter (fun t => s.time < t + 3600000000000)

/-- An automatic warm start is due: only causes that allow it hold the safe state. -/
def State.autoDue (s : State) : Bool :=
  s.up && s.safe && s.boot.ready && modAutoWarm s.boot.modRec && !s.sdg.held.isEmpty &&
    s.sdg.held.all (fun p => autoCause p.1 && p.2 + modWarmDelay s.boot.modRec * 1000000 ≤ s.time) &&
    s.recentStarts.length < modWarmMax s.boot.modRec

def execAutoWarmStart (s : State) : Out :=
  .next (if s.autoDue then
    ({ s with boot := { s.boot with autoStarts := s.time :: s.recentStarts } } : State).startWarm 5 else s)

/-! ### Journal recovery (R83, R451, R545, R565, R632) -/

/-- The cursors of the rings go back to what the host has not read, and every release set is written out again. -/
def Fn.rewind (f : Fn) : Fn :=
  let f := { f with entries := f.entries.map (fun (p : Nat × JEntry) =>
    if p.2.st == JSt.releasing then (p.1, { p.2 with stage := .writing, left := pagesOf p.2.logSet }) else p) }
  if f.bound then
    { f with ringWritten := f.nat STL_RING_HEAD,
             audit := { f.audit with written := min f.audit.written (max f.audit.origin (f.nat STL_AUDIT_HEAD)) } }
  else f

/-- Records of a paddock that was QUIESCING complete with QUIESCED (R451). -/
def State.quiesceAll (s : State) (n : Nat) : State :=
  if (s.fn n).pdk = pdkQuiescing then
    (s.fn n).inOrder.foldl (fun (s : State) p =>
      if ((s.fn n).quiesce.bind (·.entry)) = some p.1 then s else s.decide n p.1 stQuiesced 0) s
  else s

/-- Recovery of one function's journal. -/
def State.recoverFn (s : State) (n : Nat) : State := (((s.modFn n Fn.rewind).quiesceAll n).progress n).pumpOut n

/-- A scrub that a start has interrupted begins again from step 2. -/
def State.resumeScrub (s : State) : State :=
  match s.sec.scrubbing with
  | [] => s
  | n :: _ =>
    let s := if (s.fn n).pdk = pdkQuiesced then s.scrubChips n else s
    s.hubSetN SEC_SCRUB_STATUS (2 ^ 31 + n * 65536)

/-- A paddock's keys cannot be unwrapped: neither twin of its journal is in service (R545). -/
def State.keysLost (s : State) (n : Nat) : Bool :=
  let j := s.fnNat n JRN_STATUS
  s.vacant kStack (fieldOf j 8 8) && s.vacant kStack (fieldOf j 16 8)

/-- R632: the window zeroed, keys unwrapped, directories rebuilt, journals recovered or scrubs resumed. -/
def State.recover (s : State) : State :=
  let s := s.wipe s.hubAreaBase (s.hubNat SNP_WINDOW_GIB * gib)
  let lost := s.paddocks.filter s.keysLost
  let s := lost.foldl (fun (s : State) n => s.report (padReport cKeyUnwrap .ft 0x0D 0 0 n 0)) s
  let ps := s.paddocks.filter (fun n => !s.sec.scrubbing.contains n)
  let s := ps.foldl State.rebuildDir s
  (ps.foldl State.recoverFn s).resumeScrub

/-- What recovery writes of a function has been written, as far as the rings have room and the host answers (R83 steps 3 and 4). -/
def State.recovered (s : State) (n : Nat) : Bool :=
  let f := s.fn n
  let auditFull := f.nat STL_AUDIT_HEAD + 2 ^ f.auditLog ≤ f.audit.written
  let ringFull := 2 ^ f.ringLog ≤ (f.ringWritten + 2 ^ 32 - f.nat STL_RING_HEAD) % 2 ^ 32
  let blocked := f.xlt.ringBlocked
  !f.bound || s.pceHeld n || s.sec.scrubbing.contains n ||
    (f.entries.all (fun p => p.2.st != .releasing || (p.2.left.isEmpty && (match p.2.auditIndex with
        | some a => f.audit.written ≤ a
        | none => true) && (auditFull || blocked))) &&
     (f.audit.next ≤ f.audit.written || auditFull || blocked) &&
     (f.ringWritten = f.nextRing || ringFull || blocked || (f.dueReceipt f.ringWritten).isNone))

/-! ### Readiness (R633, R636) -/

/-- A reset of a function that met the start takes its effect on the paddock (R636). -/
def State.lateFlr (s : State) (n : Nat) : State :=
  let s := s.forceQuiesce n
  if (s.fn n).pce.flrBusy then s else s.endQuiesce n

/-- Readiness is reached. -/
def State.makeReady (s : State) : State :=
  let s := { s with boot := { s.boot with ready := true, step := 9 } }
  let s := if s.boot.kind = 1 then
      let e := s.epochRec
      let e := if s.boot.slotB then { e with failB := 0 } else { e with failA := 0 }
      (s.appendEpoch { e with coldDone := true }).noteSlots { e with coldDone := true }
    else s
  let s := s.hubSetN BOOT_START_MS ((s.time - s.boot.startAt) / 1000000)
  let due := s.boot.flrDue
  let s := due.foldl State.lateFlr { s with boot := { s.boot with flrDue := [] } }
  let s := s.paddocks.foldl (fun s n => (s.progress n).pump n) s
  s.noteLtr

/-- Ready once links and memory machines have ended and, at a warm start, recovery is complete. -/
def State.tryReady (s : State) : State :=
  if s.up && s.boot.step = 8 && !s.boot.ready && !s.boot.failed && !s.boot.recovery && s.boot.linksDone && 24 ≤ s.boot.machines.length &&
      (s.boot.kind = 1 || s.paddocks.all s.recovered) then s.makeReady else s

/-- A stack's memory machine ends, or fences its stack (R629 to R632). -/
def execMemoryMachineDone (stack : Nat) (ok : Bool) (s : State) : Out :=
  .next (if !s.up || s.boot.step ≠ 8 || 24 ≤ stack || s.boot.machines.contains stack then s
  else
    let s := if ok then s else s.fenceStack stack
    let s := { s with boot := { s.boot with machines := stack :: s.boot.machines } }
    let s := s.hubSetN BOOT_TRAIN_STATUS (withField (s.hubNat BOOT_TRAIN_STATUS) stack 1 1)
    (if s.boot.kind = 2 && 24 ≤ s.boot.machines.length then s.recover else s).tryReady)

/-- Every port is UP, STANDBY or excluded (R477). -/
def State.linksEnded (s : State) : Bool :=
  (List.range 16).all (fun p => s.unusedPort p || s.carries p || s.portState p = psExcluded)

def execLinkTrainingEnd (s : State) : Out :=
  .next (if !s.up || s.boot.step ≠ 8 || !s.linksEnded then s
  else (({ s with boot := { s.boot with linksDone := true } } : State).hubSetN BOOT_TRAIN_STATUS
    (withField (s.hubNat BOOT_TRAIN_STATUS) 31 1 1)).tryReady)

/-! ### Failed starts (R635) -/

/-- The limit of a start in ns. -/
def State.readyLimit (s : State) : Nat :=
  (if s.boot.kind = 2 then modWarmLimit s.boot.modRec else modReadyLimit s.boot.modRec) * 1000000000

def execReadyLimitExpiry (s : State) : Out :=
  .next (if s.up && s.boot.step ≠ 0 && !s.boot.ready && !s.boot.failed && !s.boot.recovery && s.sec.trans.isNone && s.lc ≠ lcScrapped &&
      s.boot.startAt + s.readyLimit ≤ s.time then s.failStart 4 else s)

/-- A second after a failed start. -/
def execStartRetry (s : State) : Out :=
  .next (if s.up && s.boot.failed && s.boot.failAt + 1000000000 ≤ s.time then s.startCold 8 false false else s)

/-! ### Boot flash (R609, R615, R616) -/

def fsDone : Nat := 1
def fsDenied : Nat := 2
def fsVerify : Nat := 3
def fsBusy : Nat := 4

def flashArea (a lo n : Nat) : Bool := lo ≤ a && a < lo + n

/-- The PF may write at an address. -/
def State.flashWritable (s : State) (a : Nat) : Bool :=
  s.sec.trans.isNone &&
    (flashArea a 0x50000 0x10000 || flashArea a 0x60000 0x10000 ||
     (flashArea a (slotBase false) slotSize && (s.boot.recovery || s.boot.slotB)) ||
     (flashArea a (slotBase true) slotSize && (s.boot.recovery || !s.boot.slotB)))

/-- An operation begins, or is turned away. -/
def State.flashBegin (s : State) (op : Nat) : State :=
  let size := if op = 3 then 65536 else 256
  let a := s.hubNat BOOT_FLASH_ADDR % 2 ^ 27 / size * size
  if !s.up || s.lc = lcScrapped then s
  else if s.boot.flashOp.isSome then s.hubSetN BOOT_FLASH_STATUS (2 ^ 31 + fsBusy)
  else if (if op = 1 then flashArea a 0x30000 0x10000 else !s.flashWritable a) then s.hubSetN BOOT_FLASH_STATUS fsDenied
  else ({ s with boot := { s.boot with flashOp := some ⟨op, a⟩ } } : State).hubSetN BOOT_FLASH_STATUS (2 ^ 31)

def execFlashRead (s : State) : Out := .next (s.flashBegin 1)
def execFlashProgram (s : State) : Out := .next (s.flashBegin 2)
def execFlashErase (s : State) : Out := .next (s.flashBegin 3)

/-- Programming any byte of a slot's header clears its fail count (R615). -/
def State.clearFails (s : State) (a : Nat) : State :=
  let inA := flashArea a (slotBase false) 4096
  let inB := flashArea a (slotBase true) 4096
  if !inA && !inB then s
  else match s.currentEpoch with
    | none => s
    | some e =>
      let e := if inA then { e with failA := 0 } else { e with failB := 0 }
      (s.appendEpoch e).noteSlots e

/-- What programming leaves: bits only fall, and a failed one leaves an open value (assumption 2). -/
def State.programmed (s : State) (a : Nat) (verified : Bool) : List Byte :=
  if verified then (s.flashBytes a 256).zipWith (· &&& ·) (s.hubBytesGet BOOT_FLASH_BUF 256) else leBytes 256 s.free

/-- An operation ends. -/
def execFlashOpDone (verified : Bool) (s : State) : Out :=
  .next (match s.boot.flashOp with
    | none => s
    | some o =>
      let s := { s with boot := { s.boot with flashOp := none } }
      if o.op = 1 then (s.hubBytes BOOT_FLASH_BUF (s.flashBytes o.addr 256)).hubSetN BOOT_FLASH_STATUS fsDone
      else if o.op = 2 then
        let b := s.programmed o.addr verified
        let ok := verified && b == s.hubBytesGet BOOT_FLASH_BUF 256
        let s := ((if verified then s else s.drawn).flashPut o.addr b).clearFails o.addr
        s.hubSetN BOOT_FLASH_STATUS (if ok then fsDone else fsVerify)
      else (s.eraseFlash o.addr 65536).hubSetN BOOT_FLASH_STATUS fsDone)

end Sys2Proof.Machine
end

