-- ==== Sys2Proof/Machine/Power.lean ====
section
/-! DEFINITION. The power manager: targets, the cap and thermal loops, the margin loop, live calibration, the monitors and the
shutdown (R643 to R646, R650 to R663, R704). -/

namespace Sys2Proof.Machine
open Sys2Proof

/-! ### Rails. Voltages count 0.1 mV (R644, R646) -/

def hubRailNo : Nat := 16
def railMax (r : Nat) : Nat := if r < 16 then 9000 else 8500
def railMin (r : Nat) : Nat := if r < 16 then 7000 else 6800

def State.setpoint (s : State) (r : Nat) : Nat :=
  10 * (if r < 16 then s.hubNat PWR_TILE_SETPOINT % 1024 else s.hubNat PWR_HUB_SETPOINT % 1024)

/-- The margin floor; at each start it begins at the setpoint (R650). -/
def State.railFloor (s : State) (r : Nat) : Nat := max (railMin r) (s.pow.floor.get (s.setpoint r) r)
def State.capLimit (s : State) (r : Nat) : Nat := s.pow.capLimit.get (s.setpoint r) r
def State.thermLimit (s : State) (r : Nat) : Nat := s.pow.thermLimit.get (s.setpoint r) r

/-- R646. -/
def State.railTarget (s : State) (r : Nat) : Nat :=
  min (railMax r) (max (s.railFloor r) (min (s.setpoint r) (min (s.capLimit r) (s.thermLimit r))))

def railReg (r : Nat) : Nat := if r < 16 then PWR_TILE + 4 * r else PWR_HUB_RAIL

/-- The register of a rail shows its floor and the voltage measured. -/
def State.showRail (s : State) (r measured : Nat) : State :=
  s.hubSetN (railReg r) (withField (withField (s.hubNat (railReg r)) 10 10 (s.railFloor r / 10)) 0 10 (measured / 10))

/-- A rail moves to its target. -/
def State.setRail (s : State) (r : Nat) : State :=
  ({ s with pow := { s.pow with target := s.pow.target.set r (s.railTarget r) } } : State).showRail r (s.railTarget r)

/-- Every rail moves to its target. -/
def State.setRails (s : State) : State := (List.range 17).foldl State.setRail s

/-- A limit of a rail 5 mV lower, not below the rail's minimum, or 5 mV higher, not above the setpoint. -/
def stepDown (r v : Nat) : Nat := max (railMin r) (v - 50)
def stepUp (top v : Nat) : Nat := min top (v + 50)

/-! ### The cap loop (R652) -/

def State.cap (s : State) : Nat :=
  let c := s.hubNat PWR_CAP % 4096
  let r := s.hubNat PWR_CAP_RUN % 4096
  if r = 0 then c else min c r

/-- Tiles in service. -/
def State.liveTiles (s : State) : List Nat := (List.range 16).filter (fun t => !s.fencedUnit kTile t)

/-- The tiles' cap limits can go no lower, and the hub's. -/
def State.tilesAtFloor (s : State) : Bool := s.liveTiles.all (fun r => s.capLimit r ≤ s.railFloor r)
def State.hubAtFloor (s : State) : Bool := s.capLimit hubRailNo ≤ s.railFloor hubRailNo

def State.activeSites (s : State) : List Nat := [16, 17, 18, 19].filter (fun n => s.cmnSt n = cmnActive)

/-- The highest step in force. -/
def State.capStep (s : State) : Nat :=
  if s.pow.halved then 4
  else if s.pow.sitePct < 100 then 3
  else if s.capLimit hubRailNo < s.setpoint hubRailNo then 2
  else if (List.range 16).any (fun r => s.capLimit r < s.setpoint r) then 1
  else 0

/-- THROTTLE to each ACTIVE commons with a percentage of its budget; all of it releases the throttle (R507). -/
def State.throttleSites (s : State) (pct : Nat) : State :=
  s.activeSites.foldl (fun s n => s.throttle n (if pct = 100 then 0 else s.siteBudget n * pct / 100))
    { s with pow := { s.pow with sitePct := pct } }

def State.moveTileCaps (s : State) (g : Nat → Nat → Nat) : State :=
  { s with pow := { s.pow with capLimit := (List.range 16).foldl (fun m r => m.set r (g r (s.capLimit r))) s.pow.capLimit } }
def State.moveHubCap (s : State) (g : Nat → Nat → Nat) : State :=
  { s with pow := { s.pow with capLimit := s.pow.capLimit.set hubRailNo (g hubRailNo (s.capLimit hubRailNo)) } }

/-- One period above the cap: the first step that has not reached its limit acts. -/
def State.capDown (s : State) : State :=
  if !s.tilesAtFloor then s.moveTileCaps stepDown
  else if !s.hubAtFloor then s.moveHubCap stepDown
  else if !s.activeSites.isEmpty && 20 < s.pow.sitePct then s.throttleSites (s.pow.sitePct - 5)
  else { s with pow := { s.pow with halved := true } }

/-- One period of release: the highest step in force gives way by one move. -/
def State.capUp (s : State) : State :=
  match s.capStep with
  | 4 => { s with pow := { s.pow with halved := false } }
  | 3 => s.throttleSites (min 100 (s.pow.sitePct + 5))
  | 2 => s.moveHubCap (fun _ v => stepUp (s.setpoint hubRailNo) v)
  | 1 => s.moveTileCaps (fun r v => stepUp (s.setpoint r) v)
  | _ => s

/-- The cap loop at a 100 µs mean: 10 calm periods in a row begin release (R652). -/
def State.capLoop (s : State) (meanW : Nat) : State :=
  let calm := if meanW * 100 < s.cap * 97 then s.pow.calmPeriods + 1 else 0
  let s := { s with pow := { s.pow with calmPeriods := calm } }
  let s := if s.cap < meanW then s.capDown else if 10 ≤ calm then s.capUp else s
  s.hubSetN PWR_CAP_STATE s.capStep

/-- The 1 ms mean: PWR_INPUT, and the windows above the cap with step 4 in force (R665). -/
def State.msWindow (s : State) (meanW inputV10 : Nat) : State :=
  let sum := s.pow.msSum + meanW
  let w := s.hubNat PWR_INPUT
  if s.pow.msPeriods + 1 < 10 then
    ({ s with pow := { s.pow with msPeriods := s.pow.msPeriods + 1, msSum := sum } } : State).hubSetN PWR_INPUT (withField w 0 16 inputV10)
  else
    let s := ({ s with pow := { s.pow with msPeriods := 0, msSum := 0 } } : State).hubSetN PWR_INPUT
      (sum / 10 % 65536 * 65536 + inputV10 % 65536)
    if s.cap * 10 < sum && s.pow.halved then s.hubCount PWR_CAP_WINDOWS 1 else s

/-- A control period: the 100 µs mean of input power in W, the input voltage in units of 10 mV. -/
def execPowerControlPeriod (meanW inputV10 : Nat) (s : State) : Out :=
  .next (if s.up then
    let s := ((s.msWindow meanW inputV10).capLoop meanW).setRails
    { s with pow := { s.pow with thermMoved := [] } }
  else s)

/-! ### The margin loop (R650, R651) -/

def State.setFloor (s : State) (r v : Nat) : State :=
  ({ s with pow := { s.pow with floor := s.pow.floor.set r v, quietAt := s.pow.quietAt.set r s.time } } : State).setRail r

/-- The physical unit of a rail in reports: the tile, or the number of the rail. -/
def State.railPhys (s : State) (r : Nat) : Nat := if r < 16 then s.physId kTile r else r

/-- A 10 µs window with a late canary: the floor rises by 5 mV; at the rail's maximum a CE is raised, once while the shortfall lasts. -/
def execCanaryWindow (rail : Nat) (s : State) : Out :=
  .next (if !s.up || hubRailNo < rail then s
  else
    let s := s.hubCount CAL_CANARY_LATE 1
    let f := s.railFloor rail
    let s := s.setFloor rail (min (railMax rail) (f + 50))
    if f < railMax rail || (s.pow.late.find rail).isSome then s
    else ({ s with pow := { s.pow with late := s.pow.late.set rail s.time } } : State).takeReport
      (hubReport cCalMargin .ce 0x11 (s.railPhys rail) 0))

/-- 10 ms without a late canary: the floor falls by 2.5 mV, and a shortfall is over. -/
def execMarginRelax (rail : Nat) (s : State) : Out :=
  .next (if !s.up || hubRailNo < rail || s.time < s.pow.quietAt.get s.boot.startAt rail + 10000000 then s
  else ({ s with pow := { s.pow with late := s.pow.late.del rail } } : State).setFloor rail (max (railMin rail) (s.railFloor rail - 25)))

/-! ### Escalation (R651, R662) -/

def State.holdNs (s : State) : Nat := s.hubNat CAL_HOLD_MS % 2 ^ 14 * 1000000

/-- A shortfall that began at a time has lasted HOLD_MS. -/
def State.lasted (s : State) (since : Option Nat) : Bool :=
  match since with
  | some t => t + s.holdNs ≤ s.time
  | none => false

/-- The CAL_MARGIN UC of a unit, which fences it. -/
def State.marginUc (s : State) (kind unit phys : Nat) : State :=
  s.takeReport { hubReport cCalMargin .uc 0x11 phys 0 with kind := kind, unit := unit }

def State.dropLate (s : State) (r : Nat) : State := { s with pow := { s.pow with late := s.pow.late.del r } }

/-- Pseudo-channels of a stack. -/
def pcsOf (stack : Nat) : List Nat := (List.range 64).map (fun i => stack * 64 + i)

def execCalMarginEscalate (u : MarginUnit) (s : State) : Out :=
  .next (if !s.up then s
  else match u with
    | .tile n => if n < 16 && s.lasted (s.pow.late.find n) then (s.dropLate n).marginUc kTile n (s.physId kTile n) else s
    | .hubRail unit =>
      if !s.lasted (s.pow.late.find hubRailNo) then s
      else
        let s := s.dropLate hubRailNo
        match unit with
        | some (k, n) =>
          if k = kSlice || k = kDrover || k = kHalf then s.marginUc k n (s.physId k n)
          else s.report (hubReport cHubRail .ft 0x0F hubRailNo 0)
        | none => s.report (hubReport cHubRail .ft 0x0F hubRailNo 0)
    | .stack k =>
      if k < 24 && !s.vacant kStack k && (pcsOf k).any (fun p => s.lasted (s.pow.belowPcs.find p)) then
        let s := s.hubSetN (CAL_HBM_STACK + 4 * k) (withField (s.hubNat (CAL_HBM_STACK + 4 * k)) 0 2 2)
        ({ s with pow := { s.pow with belowPcs := s.pow.belowPcs.filter (fun p => p.1 / 64 != k) } } : State).marginUc kStack k
          (s.physId kStack k)
      else s
    | .lane p l =>
      if p < 16 && l < 16 && s.lasted (s.pow.belowLanes.find (p * 16 + l)) then
        ({ s with pow := { s.pow with belowLanes := s.pow.belowLanes.del (p * 16 + l) } } : State).marginUc kLane (p * 16 + l)
          ((s.lanePhys p l).getD 0)
      else s)

/-! ### The thermal loop (R653 to R655) -/

/-- The thermal limit of a rail follows its hottest sensor, by one move in a control period. -/
def State.thermMove (s : State) (r temp : Nat) : State :=
  let tgt := s.hubNat PWR_THERM_TARGET % 128
  let v := if tgt < temp then stepDown r (s.thermLimit r) else if temp + 3 ≤ tgt then stepUp (s.setpoint r) (s.thermLimit r) else s.thermLimit r
  if s.pow.thermMoved.contains r then s
  else { s with pow := { s.pow with thermLimit := s.pow.thermLimit.set r v, thermMoved := r :: s.pow.thermMoved } }

/-- A sensor at 100 °C with its rail at the floor is one thermal event until it reads less. -/
def State.thermMark (s : State) (r temp : Nat) : State :=
  if temp < 100 then { s with pow := { s.pow with hot := s.pow.hot.filter (· != r) } }
  else if s.pow.hot.contains r || s.railFloor r < s.pow.target.get (s.setpoint r) r then s
  else ({ s with pow := { s.pow with hot := r :: s.pow.hot } } : State).thermalEvent

/-- The hottest sensor of a rail's tile, or of the hub, is read. -/
def State.thermRead (s : State) (r temp : Nat) : State :=
  let s := s.hubSetN (railReg r) (withField (s.hubNat (railReg r)) 24 8 (min temp 255))
  let s := ((s.thermMove r temp).thermMark r temp).monitor (monSensor r) (110 < temp)
  if 110 < temp then s.thermalTrip (s.railPhys r) else s

/-- The hottest sensor of each tile in order, and that of the hub, in °C. -/
def execThermalSample (tiles : List Nat) (hub : Nat) (s : State) : Out :=
  .next (if s.up then ((List.range 16).zip tiles ++ [(hubRailNo, hub)]).foldl (fun (s : State) (x : Nat × Nat) => s.thermRead x.1 x.2) s
  else s)

/-! ### Monitors (R643, R644, R658, R704) -/

/-- A sample lies outside the limits of its rail (R644). -/
def State.railOutside (s : State) (rail : RailUnit) (v : Nat) : Bool :=
  match rail with
  | .tile _ => v < 6800 || 9300 < v
  | .hubCore => v < 6600 || 8800 < v
  | .phy => v * 100 < 7500 * 95 || 7500 * 105 < v * 100
  | .hbm _ _ outside => outside
  | .optics _ => v * 100 < 9000 * 95 || 9000 * 105 < v * 100
  | .heater _ => v * 100 < 18000 * 95 || 18000 * 105 < v * 100
  | .commons n => (s.site n).nomMv ≠ 0 && (v * 2 < (s.site n).nomMv * 19 || (s.site n).nomMv * 21 < v * 2)

/-- The number of a rail in reports (assumption 43). -/
def railNo (rail : RailUnit) : Nat :=
  match rail with
  | .tile n => n
  | .hubCore => hubRailNo
  | .phy => 17
  | .hbm k r _ => 18 + 3 * k + r
  | .optics g => 90 + g
  | .heater g => 94 + g
  | .commons n => 98 + n

/-- Two samples 1 µs apart, in 0.1 mV. A hub, HBM or optics rail outside its limits goes on reporting until a sample lies inside. -/
def execRailMonitorSample (rail : RailUnit) (first second : Nat) (s : State) : Out :=
  let bad := s.railOutside rail first && s.railOutside rail second
  .next (if !s.up then s
  else match rail with
    | .tile n =>
      if 16 ≤ n then s
      else
        let s := s.showRail n second
        if bad then s.takeReport { hubReport cTileRail .uc 0x0F (s.physId kTile n) 0 with kind := kTile, unit := n } else s
    | .commons n => if bad && isCommonsSite n then s.fenceSite n else s
    | .hubCore =>
      let s := (s.showRail hubRailNo second).monitor hubRailNo bad
      if bad then s.report (hubReport cHubRail .ft 0x0F hubRailNo 0) else s
    | r =>
      let s := s.monitor (railNo r) bad
      if bad then s.report (hubReport cHubRail .ft 0x0F (railNo r) 0) else s)

/-- PLLs: 0-23 of the stacks, 24-27 of sites 16-19, 28-31 of the port groups, 32 the time clock, 33 the reference, without which none
is locked (R657, R658). No lock comes back before the next start (assumption 44). -/
def execPllLockLoss (pll : Nat) (s : State) : Out :=
  .next (if !s.up || 33 < pll then s
  else
    let s := if pll = 33 then (s.hubSetN CLK_LOCK_HBM 0).hubSetN CLK_LOCK_OTHER 0
      else if pll < 24 then s.hubSetN CLK_LOCK_HBM (withField (s.hubNat CLK_LOCK_HBM) pll 1 0)
      else s.hubSetN CLK_LOCK_OTHER (withField (s.hubNat CLK_LOCK_OTHER) (pll - 24) 1 0)
    (s.monitor (monClock pll) true).report (hubReport cHubRail .ft 0x10 pll 0))

/-- Above 120 °C the comparator stops every converter; the trip stands. -/
def execThermalShutdown (temp : Nat) (s : State) : Out :=
  .next (if s.up && 120 < temp then ({ s with boot := { s.boot with thermTripAt := some s.time } } : State).unpower else s)

/-! ### Live calibration (R659 to R663) -/

/-- Bytes of pattern bursts that a pseudo-channel has used of its 1 µs window (R337). -/
def State.burstUsed (s : State) (pc : Nat) : Nat :=
  let b := s.pow.bursts.get (0, 0) pc
  if b.1 = s.time / 1000 then b.2 else 0

/-- Narrowest eyes of a stack over its pseudo-channels that have been measured. -/
def State.narrowest (s : State) (stack : Nat) (f : Nat × Nat → Nat) : Nat :=
  let l := ((pcsOf stack).filterMap (fun p => s.pow.eyes.find p)).map f
  min 255 (l.foldl min (l.headD 0))

/-- A unit is below its limit or holds it again; the time of the first shortfall is kept. -/
def noteBelow (m : SMap Nat) (k now : Nat) (below : Bool) : SMap Nat :=
  if below then (if (m.find k).isSome then m else m.set k now) else m.del k

/-- CAL_HBM_STACK of a stack in service. -/
def State.showEyes (s : State) (stack : Nat) : State :=
  s.hubSetN (CAL_HBM_STACK + 4 * stack) (s.narrowest stack (·.1) * 65536 + s.narrowest stack (·.2) * 256 +
    boolN ((pcsOf stack).any (fun p => (s.pow.belowPcs.find p).isSome)))

/-- One centring step of a pseudo-channel: a setting (0 read strobe delay, 1 read reference, 2 write levelling) moves by one step; the
eyes that its bursts found. A burst without budget, or a step within 10 ms of the last, waits. -/
def execHbmCentringStep (stack pc setting : Nat) (up : Bool) (readEye writeEye bytes : Nat) (s : State) : Out :=
  let k := stack * 64 + pc
  .next (if !s.up || 24 ≤ stack || 64 ≤ pc || 3 ≤ setting || s.vacant kStack stack || !s.boot.machines.contains stack then s
  else if 192 < s.burstUsed k + bytes then s
  else if (s.pow.stepAt.find k).any (fun t => s.time < t + 10000000) then s
  else
    let below := min readEye writeEye < s.hubNat CAL_LIMITS % 256
    let new := below && (s.pow.belowPcs.find k).isNone
    let w := s.pow.settings.get 0 (k * 3 + setting)
    let s := { s with pow := { s.pow with
      settings := s.pow.settings.set (k * 3 + setting) (if up then w + 1 else w - 1), stepAt := s.pow.stepAt.set k s.time,
      bursts := s.pow.bursts.set k (s.time / 1000, s.burstUsed k + bytes), eyes := s.pow.eyes.set k (readEye, writeEye),
      belowPcs := noteBelow s.pow.belowPcs k s.time below } }
    let s := (s.hubCount64 CAL_BYTES bytes).showEyes stack
    if new then s.takeReport (hubReport cCalMargin .ce 0x11 (s.physId kStack stack) 0) else s)

/-- The ring loop of a port: the lanes in service below RING_LIMIT or at the end of their heaters' range, the largest detuning in pm.
Heater currents, 0 to 2,000 µA, follow the photodiodes and are open (assumption 2). -/
def execRingTracking (port : Nat) (below : List Nat) (detune : Nat) (s : State) : Out :=
  .next (if !s.up || 16 ≤ port || s.unusedPort port || s.portState port = psExcluded then s
  else
    let lanes := (s.port port).lanes
    let s := lanes.foldl (fun (s : State) l =>
      ({ s.drawn with pow := { s.pow with heater := s.pow.heater.set (port * 16 + l) (s.free % 2001) } } : State)) s
    let low := lanes.filter (fun l => below.contains l)
    let new := low.filter (fun l => (s.pow.belowLanes.find (port * 16 + l)).isNone)
    let marks := lanes.foldl (fun (b : SMap Nat) l => noteBelow b (port * 16 + l) s.time (low.contains l)) s.pow.belowLanes
    let s := { s with pow := { s.pow with belowLanes := marks } }
    let s := s.hubSetN (CAL_PORT + 4 * port) (min detune 255 * 256 + low.length)
    new.foldl (fun s l => s.takeReport (hubReport cCalMargin .ce 0x11 ((s.lanePhys port l).getD 0) 0)) s)

end Sys2Proof.Machine
end

