-- ==== Sys2Proof/Machine/Observe.lean ====
section
/-! DEFINITION. Resetting tally counters, fabric snapshots, probes, trace admission and the control of trace buffers (R668, R675 to
R677, R681 to R684). -/

namespace Sys2Proof.Machine
open Sys2Proof

/-! ### Tally (R668) -/

def State.resetTally (s : State) : State :=
  (List.range 32).foldl (fun (s : State) e => s.hubSet (TLY_COUNT + 8 * e) (tlyReset (s.hubGet (TLY_COUNT + 8 * e)))) s

/-- The counters of a function; its record-scoped set resets with its records alone (R671, R672). -/
def Fn.resetTally (f : Fn) : Fn :=
  (List.range 32).foldl (fun (f : Fn) e => f.put (TLY_FN_COUNT + 8 * e) (tlyReset (f.get (TLY_FN_COUNT + 8 * e)))) f

def execTlyReset (s : State) : Out := .next (if s.up then s.resetTally else s)
def execTlyFnReset (fn : Nat) (s : State) : Out := .next (if s.up && fn < 32 then s.modFn fn Fn.resetTally else s)

/-! ### Fabric snapshots (R675) -/

/-- The blocks of R674 with those of the snapshot replaced by a copy. -/
def snapshotRegs (r : SMap W64) : SMap W64 :=
  (r.filter (fun (p : Nat × W64) => TLY_FAB ≤ p.1 && p.1 < TLY_FAB + 0x80 * 75)).foldl
    (fun (m : SMap W64) p => m.set (p.1 - TLY_FAB + TLY_FAB_SNAPSHOT) p.2)
    (r.filter (fun (p : Nat × W64) => !(TLY_FAB_SNAPSHOT ≤ p.1 && p.1 < TLY_FAB_SNAPSHOT + 0x80 * 75)))

def State.takeSnapshot (s : State) : State :=
  if bitOf (s.hubNat TLY_FAB_SNAP) 0 then s
  else
    let s := { s with hub := snapshotRegs s.hub }
    let s := s.hubSetN TLY_FAB_SNAP_GEN ((s.hubNat TLY_FAB_SNAP_GEN + 1) % 65536)
    (s.hubSetN TLY_FAB_SNAP_TIME s.time).hubSetN TLY_FAB_SNAP 1

def execFabSnapTake (s : State) : Out := .next (if s.up then s.takeSnapshot else s)
def execFabSnapDone (s : State) : Out := .next (if s.up then s.hubSetN TLY_FAB_SNAP 0 else s)

/-! ### Probes (R676, R677, R689) -/

def State.anyConfidential (s : State) : Bool := (List.range 32).any s.confidential

/-- What a probe may not see: replies while any paddock is confidential, requests of a confidential paddock. -/
def State.hidden (s : State) (f : SeenFlit) : Bool :=
  ((f.plane = 1 || f.plane = 3) && s.anyConfidential) || (f.plane = 0 && !f.hub && s.confidential f.paddock)

def State.probeReg (s : State) (k off : Nat) : W64 := s.hubGet (TRC_PROBE_CTL + 0x40 * k + off)

/-- A flit matches probe `k`. -/
def State.probeSees (s : State) (k : Nat) (f : SeenFlit) : Bool :=
  let c := (s.probeReg k 0).toNat
  let a := s.probeReg k 0x10 &&& BitVec.ofNat 64 (2 ^ 47 - 1)
  let m := s.probeReg k 0x1C &&& 0xFFFFFF#64
  bitOf c 31 && fieldOf c 24 2 = f.plane && fieldOf c 9 9 = f.router && fieldOf c 4 3 = f.output &&
    (BitVec.ofNat 64 f.addr &&& a == s.probeReg k 8 &&& a) && (BitVec.ofNat 64 f.src &&& m == s.probeReg k 0x18 &&& m) &&
    bitOf (s.probeReg k 0x20).toNat (f.op % 16)

/-- A PROBE record is offered, or dropped within 16 hub beats of the last. -/
def State.probeOffer (s : State) (k b : Nat) (f : SeenFlit) : State :=
  if !s.trcExists b then s
  else if (s.obs.probeBeat.find k).any (fun t => f.beat < t + 16) then s.trcDrop b k 1
  else
    ({ s with obs := { s.obs with probeBeat := s.obs.probeBeat.set k f.beat } } : State).trcOffer b k
      (s.trcRecord 1 k f.paddock f.hub (if f.plane = 2 then f.payload.take 16 else f.payload))

/-- A match counts, is traced and triggers as its probe says; what is hidden only triggers, and not for a request. -/
def State.probeHit (s : State) (k : Nat) (f : SeenFlit) : State :=
  let c := (s.probeReg k 0).toNat
  let b := fieldOf c 26 2
  let shown := !s.hidden f
  let s := if shown && bitOf c 28 then s.hubCount64 (TRC_PROBE_COUNT + 0x40 * k) 1 else s
  let s := if shown && bitOf c 29 then s.probeOffer k b f else s
  if bitOf c 30 && (shown || f.plane ≠ 0) then s.trcTrigger b 1 k else s

def execProbeMatch (f : SeenFlit) (s : State) : Out :=
  .next (if s.up then (List.range 8).foldl (fun (s : State) k => if s.probeSees k f then s.probeHit k f else s) s else s)

/-! ### Admission (R338, R681) -/

/-- Bytes that the engine may still allow in this microsecond: 1.15 TB/s lies below the TRACE flow's 3 % of module peak. -/
def State.trcRoom (s : State) : Nat :=
  1150000 - (if s.obs.admitted.1 = s.time / 1000 then s.obs.admitted.2 else 0)

def State.trcAdmit (s : State) (n : Nat) : State :=
  { s with obs := { s.obs with admitted := (s.time / 1000, 1150000 - s.trcRoom + n) } }

/-- A buffer takes records. -/
def State.trcOpen (s : State) (b : Nat) : Bool := s.trcState b = trcArmed || s.trcState b = trcTriggered

/-- A LOSS record and another both have a place in the buffer. -/
def State.trcPairFits (s : State) (b : Nat) : Bool :=
  (s.trcState b = trcArmed && s.trcMode b ≠ 0) || s.trcPtr b + 96 ≤ s.trcSize b

def State.lossRecord (s : State) (source : Nat) (d : Drops) : List Byte :=
  s.trcRecord 4 source 0 false (leBytes 8 d.count ++ leBytes 8 d.first)

def State.clearDrops (s : State) (b source : Nat) : State :=
  { s with obs := { s.obs with drops := s.obs.drops.del (b * 65536 + source) } }

/-- The oldest record that a producer has offered: written, after a LOSS record where it has dropped some, or dropped. `allow` and `pair`
are the engine's word within its limit. -/
def State.trcDecide (s : State) (t : TraceRec) (allow pair : Bool) : State :=
  let b := t.buffer
  match s.obs.drops.find (b * 65536 + t.source) with
  | none => if allow && 32 ≤ s.trcRoom && s.trcOpen b then (s.trcAdmit 32).trcWrite b t.bytes else s.trcDrop b t.source 1
  | some d =>
    if allow && pair && 64 ≤ s.trcRoom && s.trcOpen b && s.trcPairFits b then
      (((s.trcAdmit 64).clearDrops b t.source).trcWrite b (s.lossRecord t.source d)).trcWrite b t.bytes
    else s.trcDrop b t.source 1

/-- Take out the first element that satisfies `p`. -/
def takeFirst (p : TraceRec → Bool) (l : List TraceRec) : List TraceRec :=
  match l with
  | [] => []
  | x :: t => if p x then t else x :: takeFirst p t

def execTraceRecordOffer (source : Nat) (allow pair : Bool) (s : State) : Out :=
  .next (if !s.up then s
  else match s.obs.offers.find? (fun t => t.source = source) with
    | none => s
    | some t => ({ s with obs := { s.obs with offers := takeFirst (fun x => x.source = source) s.obs.offers } } : State).trcDecide t
        allow pair)

/-! ### Control (R682, R683) -/

def State.traceArm (s : State) (b : Nat) : State :=
  if s.trcExists b && (s.trcState b = trcIdle || s.trcState b = trcStopped) then
    ({ ((s.trcSetPtr b 0).hubSetN (TRC_BUF_STATUS + 4 * b) trcArmed).hubSetN (TRC_DROPPED + 4 * b) 0 with
      obs := { s.obs with drops := s.obs.drops.filter (fun (p : Nat × Drops) => p.1 / 65536 != b),
                          stopDrops := s.obs.stopDrops.del b } } : State)
  else s

/-- The last 32 bytes of a STOPPED buffer, at its disarming. -/
def State.trcSeal (s : State) (b : Nat) : State :=
  match s.obs.stopDrops.find b with
  | some d => s.trcPut b (s.trcSize b - 32) (s.lossRecord 0x12 d)
  | none => s.store (s.hubNat (TRC_BUF_BASE + 8 * b) + (s.trcSize b - 32)) (zeros 32)

def State.traceDisarm (s : State) (b : Nat) : State :=
  if !s.trcExists b || s.trcState b = trcIdle then s
  else (if s.trcState b = trcStopped then s.trcSeal b else s).trcSetState b trcIdle

/-- A host write to TRC_TRIGGER. -/
def State.traceTriggers (s : State) (value : Nat) : State :=
  (List.range 4).foldl (fun (s : State) b => if bitOf value b then s.trcTrigger b 3 0x12 else s) s

def execTraceArm (b : Nat) (s : State) : Out := .next (if s.up then s.traceArm b else s)
def execTraceDisarm (b : Nat) (s : State) : Out := .next (if s.up then s.traceDisarm b else s)
def execTraceTrigger (value : W32) (s : State) : Out := .next (if s.up then s.traceTriggers value.toNat else s)

end Sys2Proof.Machine
end

