-- ==== Sys2Proof/Machine/Access.lean ====
section
/-! DEFINITION. Reads and writes of the registers of BAR2 and BAR4 (R9 to R13, R31, R42, R426, R427, R566, R612 and the register
tables). -/

namespace Sys2Proof.Machine
open Sys2Proof

/-! ### What answers -/

def rowAt (bar : Bar) (off : Nat) : Option RegRow :=
  match bar with
  | .bar2 _ => findRow bar2Rows off
  | .bar4 => findRow bar4Rows off

def barFn (bar : Bar) : Nat :=
  match bar with
  | .bar2 n => n
  | .bar4 => 0

def isBar4 (bar : Bar) : Bool :=
  match bar with
  | .bar2 _ => false
  | .bar4 => true

/-- A scrapped module answers reads of IDN alone; in recovery mode IDN and BOOT alone respond (R566, R612). -/
def State.responds (s : State) (bar : Bar) (off : Nat) (write : Bool) : Bool :=
  if s.lc = lcScrapped then isBar4 bar && off < 0x10000 && !write
  else if s.boot.recovery then isBar4 bar && (off < 0x10000 || off / 0x10000 = 0x11)
  else true

/-! ### Registers that show other state -/

/-- DIR_PENDING, JRN_IN_USE, PDK_INCOMPLETE (R74, R101, R282). -/
def Fn.dirPending (f : Fn) : Nat := (f.entries.filter (fun (p : Nat × JEntry) => p.2.st != .committed && p.2.st != .free && isDirRec p.2.record)).length
def Fn.inUse (f : Fn) : Nat := (f.entries.filter (fun (p : Nat × JEntry) => p.2.st != .free)).length
def State.incomplete (s : State) (n w : Nat) : Nat :=
  (List.range 32).foldl (fun a b => a + boolN ((s.fn n).hasHirsel (32 * w + b) && !s.hirselComplete (32 * w + b)) * 2 ^ b) 0

/-- PCE_FUNC_STATUS (R465). -/
def State.funcStatus (s : State) (n : Nat) : Nat :=
  let f := s.fn n
  let held := s.pceHeld n && (s.pce.waiting.any (fun q => q.fn = n) || f.xlt.waits.any isHeldWait || f.ringWritten != f.nextRing)
  boolN f.pce.flrBusy * 256 + boolN f.drained * 128 + fieldOf (f.nat PCE_FUNC_STATUS) 6 1 * 64 + boolN held * 16 +
    (if f.pce.d3hot then 3 else 0)

/-- A register of a function as it is read. -/
def State.fnView (s : State) (n base : Nat) : Nat :=
  let f := s.fn n
  if base = JRN_IN_USE then f.inUse
  else if base = DIR_PENDING then f.dirPending
  else if PDK_INCOMPLETE ≤ base && base < PDK_INCOMPLETE + 32 then s.incomplete n ((base - PDK_INCOMPLETE) / 4)
  else if base = PCE_FUNC_STATUS then s.funcStatus n
  else f.nat base

/-- The map entry that NOC_MAP_SEL names (R366). -/
def State.mapData (s : State) : Nat :=
  let sel := s.hubNat NOC_MAP_SEL
  let i := sel % 4096
  match fieldOf sel 12 3 with
  | 0 => s.mapEntry kCore i
  | 1 => if i < 256 then s.mapEntry kSlice i else 0
  | 2 => if i < 24 then s.mapEntry kStack i else 0
  | 3 => if i < 32 then s.mapEntry kDrover i else 0
  | 4 => if i < 4 then s.mapEntry kShepherd i else 0
  | 5 => if i < 16 then s.mapEntry kPort i else 0
  | 6 => if i < 4 then s.mapEntry kCommons (16 + i) else 0
  | _ => if i < 16 then s.mapEntry kTile i else 0

/-- The route table entry that NOC_ROUTE_SEL names. -/
def State.routeData (s : State) : Nat :=
  let sel := s.hubNat NOC_ROUTE_SEL
  (s.noc.routes.get 0 (fieldOf sel 11 9 * 64 + fieldOf sel 9 2 * 16 + sel % 16)).toNat

/-- BOOT_STATUS (R640). -/
def State.bootStatus (s : State) : Nat :=
  let b := s.boot
  boolN b.ready * 2 ^ 31 + boolN b.holding * 2 ^ 30 + boolN b.recovery * 2 ^ 29 + boolN b.slotB * 2 ^ 28 + b.kind % 4 * 2 ^ 26 +
    boolN b.promoted * 2 ^ 25 + b.step % 16 * 2 ^ 20 + b.cause % 16 * 2 ^ 16 + b.failReason % 256 * 256

/-- The fuse record that BOOT_FUSE_SEL names; zero beyond the die's records (R634). -/
def State.fuseData (s : State) : Nat :=
  let sel := s.hubNat BOOT_FUSE_SEL
  let die := fieldOf sel 8 6
  let n := if die < 16 then 64 else if die = 16 then 128 else if 0x20 ≤ die && die < 0x38 then 32 else 0
  if sel % 128 < n then (s.boot.fuses.get 0 (die * 128 + sel % 128)).toNat else 0

/-- SDG_Q_OLDEST and SDG_Q_COUNT (R595). -/
def State.oldestSlot (s : State) : Nat :=
  match oldest s.sdg.queue (fun _ => true) with
  | some p => p.1
  | none => 0xFFFF
def State.queueCount (s : State) : Nat := (s.sdg.queue.filter (fun p => p.2.cls == .ft)).length * 65536 + s.sdg.queue.length

/-- A word of SDG_QUEUE. -/
def State.queueWord (s : State) (i : Nat) : Nat :=
  match s.sdg.queue.find (i / 8) with
  | some e => fieldAt e.bytes (4 * (i % 8)) 4
  | none => match s.sdg.stale.find (i / 8) with
    | some e => fieldAt e.bytes (4 * (i % 8)) 4
    | none => 0

/-- The pinfold entry that SDG_PINFOLD_SEL names. -/
def State.pinSel (s : State) : PinEntry := s.sdg.pinfold.getD (s.hubNat SDG_PINFOLD_SEL % 2048) ⟨0, 0⟩

/-- CMN_MEAS_DATA of a site. -/
def State.measData (s : State) (site : Nat) : Nat :=
  let sel := s.hubNat (cmnOff site 0x20)
  if fieldOf sel 4 4 < (s.site site).measCount && sel % 16 < 12 then
    match (s.site site).measures.find (fieldOf sel 4 4) with
    | some d => fieldAt d (4 * (sel % 16)) 4
    | none => 0
  else 0

/-- A word of TRC_READ_WINDOW (R684). -/
def State.traceWord (s : State) (i : Nat) : Nat :=
  let sel := s.hubNat TRC_READ_SEL
  let b := fieldOf sel 62 2
  let o := fieldOf sel 12 28 * 4096 + 4 * i
  if o + 4 ≤ s.trcSize b then s.readNat (s.hubNat (TRC_BUF_BASE + 8 * b) + o) 4 else 0

/-- A 32-bit field of a statistics block, or of its copy. -/
def State.fabHalf (s : State) (off : Nat) : Nat := fieldOf (s.hubNat (off / 8 * 8)) (32 * (off % 8 / 4)) 32

def isFab (base : Nat) : Bool :=
  (TLY_FAB ≤ base && base < TLY_FAB + 0x2580 && 0x20 ≤ base % 128) ||
    (TLY_FAB_SNAPSHOT ≤ base && base < TLY_FAB_SNAPSHOT + 0x2580 && 0x20 ≤ base % 128)

/-- A register of BAR4 as it is read. -/
def State.hubView (s : State) (base : Nat) : Nat :=
  if base < 0x10000 then (if base = IDN_SERIAL then s.hubNat base else (s.idnWord base).toNat)
  else if base = NOC_MAP_DATA then s.mapData
  else if base = NOC_ROUTE_DATA then s.routeData
  else if PCE_FUNC_STATUS_ALL ≤ base && base < PCE_FUNC_STATUS_ALL + 128 then s.funcStatus ((base - PCE_FUNC_STATUS_ALL) / 4)
  else if base = LNK_TIME_STATUS then s.hubNat base ||| (boolN (s.bellwether = s.nodeId) * 2 ^ 31)
  else if base = LNK_TEAM_DATA then
    s.boot.teams.get 0 (fieldOf (s.hubNat LNK_TEAM_SEL) 16 6) / 2 ^ (32 * (s.hubNat LNK_TEAM_SEL % 16)) % 2 ^ 32
  else if base / 0x10000 = 8 && base % 256 = 0x24 then s.measData (16 + (base - CMN_SITE_CFG) / 256)
  else if base = SEC_DEBUG_REMAIN then s.debugRemain
  else if base = LCS_STATE then s.lc
  else if base = LCS_PROGRESS then s.sec.word 8
  else if LCS_OTP ≤ base && base < LCS_OTP + 160 then
    (if 9 ≤ (base - LCS_OTP) / 4 && (base - LCS_OTP) / 4 ≤ 26 then 0 else s.sec.word ((base - LCS_OTP) / 4))
  else if base = SDG_Q_OLDEST then s.oldestSlot
  else if base = SDG_Q_COUNT then s.queueCount
  else if base = SDG_PINFOLD_COUNT then s.sdg.pinfold.length
  else if base = SDG_PINFOLD_DATA then s.pinSel.data
  else if base = SDG_PINFOLD_TIME then s.pinSel.time
  else if SDG_QUEUE ≤ base && base < SDG_QUEUE + 0x8000 then s.queueWord ((base - SDG_QUEUE) / 4)
  else if isFab base then s.fabHalf base
  else if TRC_READ_WINDOW ≤ base && base < TRC_READ_WINDOW + 0x1000 then s.traceWord ((base - TRC_READ_WINDOW) / 4)
  else if base = BOOT_STATUS then s.bootStatus
  else if base = BOOT_FUSE_DATA then s.fuseData
  else s.hubNat base

def State.barView (s : State) (bar : Bar) (base : Nat) : Nat :=
  match bar with
  | .bar2 n => s.fnView n base
  | .bar4 => s.hubView base

/-! ### Reading -/

def State.putBar (s : State) (bar : Bar) (base v : Nat) : State :=
  match bar with
  | .bar2 n => s.fnSetN n base v
  | .bar4 => s.hubSetN base v

/-- Latches of the halves of 64-bit registers, and low halves held (R427). -/
def State.latches (s : State) (bar : Bar) : SMap W32 :=
  match bar with
  | .bar2 n => (s.fn n).latch
  | .bar4 => s.latch
def State.setLatches (s : State) (bar : Bar) (m : SMap W32) : State :=
  match bar with
  | .bar2 n => s.modFn n (fun f => { f with latch := m })
  | .bar4 => { s with latch := m }
def State.helds (s : State) (bar : Bar) : SMap W32 :=
  match bar with
  | .bar2 n => (s.fn n).held
  | .bar4 => s.held
def State.setHelds (s : State) (bar : Bar) (m : SMap W32) : State :=
  match bar with
  | .bar2 n => s.modFn n (fun f => { f with held := m })
  | .bar4 => { s with held := m }

/-- What a register gives to a read that covers it, and what the read does to it (R11, R13). -/
def State.readReg (s : State) (bar : Bar) (r : RegRow) (base : Nat) : Nat × State :=
  match r.acc with
  | .wo => (0, s)
  | .rc => (s.barView bar base, s.putBar bar base 0)
  | _ => (s.barView bar base, s)

/-- A 4-byte read: a low half latches its high half, and a high half takes its latch where one is pending (R427). -/
def State.read4 (s : State) (bar : Bar) (off : Nat) : Nat × State :=
  if !s.responds bar off false then (0, s)
  else match rowAt bar off with
    | none => (0, s)
    | some r =>
      let base := r.base off
      let x := s.readReg bar r base
      if !r.wide then x
      else if off = base then
        (x.1 % 2 ^ 32, x.2.setLatches bar ((x.2.latches bar).set base (BitVec.ofNat 32 (x.1 / 2 ^ 32))))
      else match (s.latches bar).find base with
        | some v => (v.toNat, x.2.setLatches bar ((x.2.latches bar).del base))
        | none => (x.1 / 2 ^ 32, x.2)

/-- An 8-byte read: of one 64-bit register, or of two words, the lower first (R426). -/
def State.read8 (s : State) (bar : Bar) (off : Nat) : Nat × State :=
  match rowAt bar off with
  | some r =>
    if r.wide && s.responds bar off false then s.readReg bar r (r.base off)
    else
      let lo := s.read4 bar off
      let hi := lo.2.read4 bar (off + 4)
      (lo.1 + hi.1 * 2 ^ 32, hi.2)
  | none =>
    let hi := s.read4 bar (off + 4)
    (hi.1 * 2 ^ 32, hi.2)

/-- A read that the function answers, or its Unsupported Request (R430). -/
def State.hostRead (s : State) (bar : Bar) (off : Nat) (wide : Bool) : State :=
  if !s.up then s
  else if !s.barOpen (barFn bar) || (s.boot.recovery && barFn bar ≠ 0) then s.send .cplUr
  else if off % (if wide then 8 else 4) ≠ 0 then (s.hubCount PCE_BAD_ACCESSES 1).send (.cpl 0)
  else
    let x := if wide then s.read8 bar off else s.read4 bar off
    x.2.send (.cpl (BitVec.ofNat 64 x.1))

def execRcRegisterRead (bar : Bar) (off : Nat) (wide : Bool) (s : State) : Out := .next (s.hostRead bar off wide)
def execLowHalfRead (bar : Bar) (off : Nat) (s : State) : Out := .next (s.hostRead bar off false)

/-! ### Writing -/

/-- The state that a meaning answers. -/
def outState (o : Out) (d : State) : State :=
  match o with
  | .next s => s
  | _ => d

/-- Writable bits of an RWL register until the flockbook's load is complete. -/
def rwlMask (bar : Bar) (off : Nat) : Nat :=
  if !isBar4 bar then (if off = JRN_CAPACITY then 0x1FFFF else 0xFFFFFFFF)
  else if off = MCT_GLOBAL_UNITS || off = MCT_STACK_UNITS then 0x1FF
  else if off = MCT_HUB_GIB then 0xFFFF
  else if off = MCT_PASTURE_CFG then 0xFFFF0FFF
  else if off = MCT_WRITE_BATCH then 0x7F
  else if off = MCT_UE_FENCE then 0x7FF
  else if off / 0x10000 = 2 then 0xFF03
  else if BWG_HUB_FLOW ≤ off && off < BWG_HUB_FLOW + 12 then 0xFF0FFFFF
  else if off = BWG_HUB_FLOW + 12 then 0
  else if off = BWG_URGENCY_LEVELS then 0xFFFFFF
  else if off = BWG_FEEDBACK then 0x3F3F
  else if off = SNP_WINDOW_GIB then 0x7F
  else if off = PCE_L1_IDLE then 0xFFFF
  else if off = PCE_L0P_POLICY then 0xFFFF07
  else if off = PCE_PTM_PERIOD then 0x3FF
  else if off = LNK_NODE then 0x7FC01FF
  else if off = LNK_BELLWETHER then 0x1FF81FF
  else if off = LNK_TRAIN_TIMEOUT || off = LNK_TIME_PERIOD || off = SDG_QUIET_MS then 0x3FFF
  else if off = LNK_REKEY_MS then 0xFFFF
  else if LNK_PORT_CFG ≤ off && off < LNK_PORT_CFG + 64 then 0xFFFF1F7F
  else if off / 0x10000 = 8 then 0xFF331F
  else if SEC_PADDOCK_CFG ≤ off && off < SEC_PADDOCK_CFG + 128 then 3
  else if off = SDG_RECOVERY_LIMIT then 0xFFFF00FF
  else if off = SDG_UNIT_LIMIT then 0xFF
  else if off = PWR_CAP then 0xFFF
  else if off = PWR_TILE_SETPOINT || off = PWR_HUB_SETPOINT then 0x3FF
  else if off = PWR_THERM_TARGET then 0x7F
  else if TRC_BUF_CFG ≤ off && off < TRC_BUF_CFG + 16 then 0xFFFF7F03
  else 0xFFFFFFFF

/-- The flockbook's load is complete (R627). -/
def State.loaded (s : State) : Bool := 6 ≤ s.boot.step

/-- XLT_PASID: no effect while bound; a change under a locked TDI is an error (R415, R558). -/
def State.writePasid (s : State) (n v : Nat) : State :=
  if (s.fn n).bound then s
  else
    let old := s.fnNat n XLT_PASID
    let s := s.fnSetN n XLT_PASID v
    if old = v then s else s.tdiFail n

/-- An RW register takes a value, its reserved bits aside. -/
def State.writeRw (s : State) (bar : Bar) (r : RegRow) (base v : Nat) : State :=
  let x := v &&& r.mask
  match bar with
  | .bar2 n =>
    if base = STL_RING_HEAD then outState (execRingHeadWrite n (BitVec.ofNat 32 v) s) s
    else if base = STL_AUDIT_HEAD then outState (execAuditHeadWrite n (BitVec.ofNat 64 v) s) s
    else if base = XLT_PASID then s.writePasid n x
    else s.fnSetN n base x
  | .bar4 =>
    if base = PCE_INT_ENABLE then outState (execIntEnableWrite (BitVec.ofNat 32 x) s) s
    else if base = MCT_MARGIN_SEL then s.marginRequest x
    else if base = SEC_DEBUG_ADDR then (s.hubSetN base x).debugRead
    else if TRC_PROBE_CTL ≤ base && base < TRC_PROBE_CTL + 0x200 && (base - TRC_PROBE_CTL) % 64 = 0 then
      let s := if bitOf x 31 && !bitOf (s.hubNat base) 31 then s.hubSetN (base + 0x28) 0 else s
      s.hubSetN base x
    else s.hubSetN base x

/-- Commands of the flash register (R639). -/
def State.writeFlashCmd (s : State) (v : Nat) : State :=
  match v % 4 with
  | 1 => outState (execFlashRead s) s
  | 2 => outState (execFlashProgram s) s
  | 3 => outState (execFlashErase s) s
  | _ => s

/-- A WO register acts on what is written. -/
def State.writeWo (s : State) (bar : Bar) (base v : Nat) : State :=
  match bar with
  | .bar2 n => if base = TLY_FN_RESET && bitOf v 0 then s.modFn n Fn.resetTally else s
  | .bar4 =>
    if base = IDN_TAG_COMMIT then (if v = 1 then s.askCommit true else s)
    else if base = SEC_CHALLENGE_NEW then (if bitOf v 0 then outState (execChallengeNew s) s else s)
    else if base = SEC_TOKEN_SUBMIT then (if bitOf v 0 then s.submitToken else s)
    else if base = SEC_SCRUB then outState (execScrubStart (BitVec.ofNat 32 v) s) s
    else if base = SDG_Q_RELEASE then s.releaseSlot (v % 1024)
    else if base = BOOT_START_REQ then
      (if v = 0x434F4C44 then outState (execStartReqCold s) s else if v = 0x5741524D then outState (execStartReqWarm s) s else s)
    else if base = BOOT_FLASH_CMD then s.writeFlashCmd v
    else if base = TLY_RESET then (if bitOf v 0 then s.resetTally else s)
    else if base = TRC_TRIGGER then s.traceTriggers v
    else s

/-- A W1S register acts on the ones written (R12): TLY_FAB_SNAP and TRC_BUF_CTL, whose DISARM goes before its ARM. -/
def State.writeW1s (s : State) (base v : Nat) : State :=
  if base = TLY_FAB_SNAP then (if bitOf v 0 then s.takeSnapshot else s)
  else
    let b := (base - TRC_BUF_CTL) / 4
    let s := if bitOf v 1 then s.traceDisarm b else s
    if bitOf v 0 then s.traceArm b else s

/-- A W1C register clears the ones written (R12, R461, R596). -/
def State.writeW1c (s : State) (base v : Nat) : State :=
  if base = PCE_INT_STATUS then outState (execIntStatusClear (BitVec.ofNat 32 v) s) s
  else if base = SDG_FIRST_INFO && bitOf v 31 then outState (execFirstErrorClear s) s
  else s

/-- A whole register is written (R9 to R12). -/
def State.writeReg (s : State) (bar : Bar) (r : RegRow) (base v : Nat) : State :=
  match r.acc with
  | .ro => s
  | .rc => s
  | .rw => s.writeRw bar r base v
  | .rwl => if s.loaded then s else s.putBar bar base (v &&& rwlMask bar base)
  | .wo => s.writeWo bar base v
  | .w1s => s.writeW1s base v
  | .w1c => s.writeW1c base v

/-- A 4-byte write: the low half of a 64-bit RW register is held, its high half applies both (R427). -/
def State.write4 (s : State) (bar : Bar) (off v : Nat) : State :=
  if !s.responds bar off true then s
  else match rowAt bar off with
    | none => s
    | some r =>
      let base := r.base off
      if !r.wide then s.writeReg bar r base v
      else if r.acc != .rw then s
      else if off = base then s.setHelds bar ((s.helds bar).set base (BitVec.ofNat 32 v))
      else
        let low := match (s.helds bar).find base with
          | some w => w.toNat
          | none => s.barView bar base % 2 ^ 32
        (s.setHelds bar ((s.helds bar).del base)).writeReg bar r base (low + v * 2 ^ 32)

/-- An 8-byte write: of one 64-bit register, or of two words, the lower first (R426). -/
def State.write8 (s : State) (bar : Bar) (off v : Nat) : State :=
  match rowAt bar off with
  | some r =>
    if r.wide then (if s.responds bar off true then s.writeReg bar r (r.base off) v else s)
    else (s.write4 bar off (v % 2 ^ 32)).write4 bar (off + 4) (v / 2 ^ 32)
  | none => s.write4 bar (off + 4) (v / 2 ^ 32)

/-- A write that the function takes; another is discarded (R430). -/
def State.hostWrite (s : State) (bar : Bar) (off : Nat) (wide : Bool) (v : Nat) : State :=
  if !s.barOpen (barFn bar) || (s.boot.recovery && barFn bar ≠ 0) then s
  else if off % (if wide then 8 else 4) ≠ 0 then s.hubCount PCE_BAD_ACCESSES 1
  else if wide then s.write8 bar off v
  else s.write4 bar off (v % 2 ^ 32)

def execRegisterWrite (bar : Bar) (off : Nat) (wide : Bool) (data : W64) (s : State) : Out := .next (s.hostWrite bar off wide data.toNat)
def execLowHalfWrite (bar : Bar) (off : Nat) (data : W32) (s : State) : Out := .next (s.hostWrite bar off false data.toNat)
def execHighHalfWrite (bar : Bar) (off : Nat) (data : W32) (s : State) : Out := .next (s.hostWrite bar off false data.toNat)

end Sys2Proof.Machine
end

