-- ==== Sys2Proof/Machine/Clock.lean ====
section
/-! DEFINITION. What a nanosecond does to the module when no command waits (R444, R497, R75, R314; assumption 46). -/

namespace Sys2Proof.Machine
open Sys2Proof

/-- The offset at which slewing has converged: 50 ns where module time follows the host, 5 ns where it follows a parent. -/
def State.slewDone (s : State) : Nat := if s.bellwether = s.nodeId then 50 else 5

/-- One nanosecond of module time; within 100 parts per million it is lengthened or shortened, by one in 10,000. -/
def State.tickTime (s : State) : State :=
  if s.slewDone ≤ s.pce.slew.natAbs && s.pce.slewAt + 10000 ≤ s.time then
    if 0 < s.pce.slew then { s with time := s.time + 2, pce := { s.pce with slew := s.pce.slew - 1, slewAt := s.time + 2 } }
    else { s with pce := { s.pce with slew := s.pce.slew + 1, slewAt := s.time } }
  else { s with time := s.time + 1 }

/-- Journal twins that are SINGLE begin to be rebuilt once their standby stack is in service (R75). -/
def State.rebuildJournals (s : State) : State :=
  { s with fns := s.fns.map (fun (p : Nat × Fn) =>
      let j := p.2.nat JRN_STATUS
      if !p.2.tmpl.isEmpty && j % 4 = 1 && !s.vacant kStack p.2.standby then (p.1, p.2.putN JRN_STATUS (withField j 0 2 2)) else p) }

/-- A pasture that is SINGLE begins to be rebuilt in its standby group (R314). -/
def State.rebuildPasture (s : State) : State :=
  let t := s.hubNat MCT_TWIN_STATUS
  if fieldOf (s.hubNat MCT_PASTURE_CFG) 16 16 ≠ 0 && t % 4 = 1 &&
      ((List.range 4).all (fun k => !s.vacant kStack (4 * fieldOf (s.hubNat MCT_PASTURE_CFG) 8 4 + k))) then
    s.hubSetN MCT_TWIN_STATUS (withField t 0 2 2)
  else s

/-- Shepherd firmware's part: steps of the start that nothing holds up any more, and rebuilding. -/
def State.firmware (s : State) : State :=
  let s := s.advance.tryReady
  if s.running then s.rebuildJournals.rebuildPasture else s

/-- A nanosecond without a command. -/
def State.tick (s : State) : State := if s.up then s.tickTime.firmware else s

end Sys2Proof.Machine
end

