-- ==== Sys2Proof/Machine/Scalar.lean ====
section
/-! DEFINITION. Scalar and control instructions but EXIT (R172). -/

namespace Sys2Proof.Machine
open Sys2Proof

def signedHigh (a b : W64) : W64 := BitVec.ofInt 64 (a.toInt * b.toInt / 2 ^ 64)
def unsignedHigh (a b : W64) : W64 := BitVec.ofNat 64 (a.toNat * b.toNat / 2 ^ 64)
def divS (a b : W64) : W64 := if b = 0 then BitVec.allOnes 64 else a.sdiv b
def divU (a b : W64) : W64 := if b = 0 then BitVec.allOnes 64 else a / b
def remS (a b : W64) : W64 := if b = 0 then a else a.srem b
def remU (a b : W64) : W64 := if b = 0 then a else a % b
def clz64 (a : W64) : Nat := if a = 0 then 64 else 63 - a.toNat.log2
def ctz64 (a : W64) : Nat := ((List.range 64).find? (fun i => a.getLsbD i)).getD 64
def popc64 (a : W64) : Nat := ((List.range 64).filter (fun i => a.getLsbD i)).length
def immShift (f : FmtI) : Bool := f.imm.toNat < 64

def execNop (t : Thr) (f : FmtI) (s : State) : Out :=
  .next (s.insn t f.grd false (f.d == 0 && f.s1 == 0 && f.ty == 0 && f.rsv == 0 && f.imm == 0) [] [] (fun g th => s.retire t g th.advance))

def execAdd (t : Thr) (f : FmtR) (s : State) : Out := .next (s.scalar2 t f (fun a b => a + b))
def execSub (t : Thr) (f : FmtR) (s : State) : Out := .next (s.scalar2 t f (fun a b => a - b))
def execMul (t : Thr) (f : FmtR) (s : State) : Out := .next (s.scalar2 t f (fun a b => a * b))
def execMulh (t : Thr) (f : FmtR) (s : State) : Out := .next (s.scalar2 t f signedHigh)
def execMulhu (t : Thr) (f : FmtR) (s : State) : Out := .next (s.scalar2 t f unsignedHigh)
def execDiv (t : Thr) (f : FmtR) (s : State) : Out := .next (s.scalar2 t f divS)
def execDivu (t : Thr) (f : FmtR) (s : State) : Out := .next (s.scalar2 t f divU)
def execRem (t : Thr) (f : FmtR) (s : State) : Out := .next (s.scalar2 t f remS)
def execRemu (t : Thr) (f : FmtR) (s : State) : Out := .next (s.scalar2 t f remU)
def execOpAnd (t : Thr) (f : FmtR) (s : State) : Out := .next (s.scalar2 t f (fun a b => a &&& b))
def execOpOr (t : Thr) (f : FmtR) (s : State) : Out := .next (s.scalar2 t f (fun a b => a ||| b))
def execOpXor (t : Thr) (f : FmtR) (s : State) : Out := .next (s.scalar2 t f (fun a b => a ^^^ b))
def execSll (t : Thr) (f : FmtR) (s : State) : Out := .next (s.scalar2 t f (fun a b => a <<< (b.toNat % 64)))
def execSrl (t : Thr) (f : FmtR) (s : State) : Out := .next (s.scalar2 t f (fun a b => a >>> (b.toNat % 64)))
def execSra (t : Thr) (f : FmtR) (s : State) : Out := .next (s.scalar2 t f (fun a b => a.sshiftRight (b.toNat % 64)))

def execCmp (t : Thr) (f : FmtR) (s : State) : Out :=
  .next (s.insn t f.grd false (isP f.d && f.s3 == 0 && f.ty == 0 && condIsInt f.cond.toNat && f.rsv == 0) [f.s1.toNat, f.s2.toNat] []
    (fun g th => s.doneP t g th f.d (allOnes (condInt f.cond.toNat (th.xr f.s1.toNat) (th.xr f.s2.toNat)))))

def execAddi (t : Thr) (f : FmtI) (s : State) : Out := .next (s.scalarI t f true (fun a i => a + sext32 i))
def execAndi (t : Thr) (f : FmtI) (s : State) : Out := .next (s.scalarI t f true (fun a i => a &&& sext32 i))
def execOri (t : Thr) (f : FmtI) (s : State) : Out := .next (s.scalarI t f true (fun a i => a ||| sext32 i))
def execXori (t : Thr) (f : FmtI) (s : State) : Out := .next (s.scalarI t f true (fun a i => a ^^^ sext32 i))
def execSlli (t : Thr) (f : FmtI) (s : State) : Out := .next (s.scalarI t f (immShift f) (fun a i => a <<< i.toNat))
def execSrli (t : Thr) (f : FmtI) (s : State) : Out := .next (s.scalarI t f (immShift f) (fun a i => a >>> i.toNat))
def execSrai (t : Thr) (f : FmtI) (s : State) : Out := .next (s.scalarI t f (immShift f) (fun a i => a.sshiftRight i.toNat))
def execLi (t : Thr) (f : FmtI) (s : State) : Out := .next (s.scalarI t f (f.s1 == 0) (fun _ i => sext32 i))
def execLih (t : Thr) (f : FmtI) (s : State) : Out :=
  .next (s.scalarI t f true (fun a i => (i.zeroExtend 64 <<< 32) ||| ((a.truncate 32 : BitVec 32).zeroExtend 64)))

def execCmpi (t : Thr) (f : FmtI) (s : State) : Out :=
  .next (s.insn t f.grd false (isP f.d && f.rsv == 0 && condIsInt f.ty.toNat) [f.s1.toNat] []
    (fun g th => s.doneP t g th f.d (allOnes (condInt f.ty.toNat (th.xr f.s1.toNat) (sext32 f.imm)))))

def execOpMin (t : Thr) (f : FmtR) (s : State) : Out := .next (s.scalar2 t f (fun a b => if a.toInt ≤ b.toInt then a else b))
def execOpMax (t : Thr) (f : FmtR) (s : State) : Out := .next (s.scalar2 t f (fun a b => if a.toInt ≤ b.toInt then b else a))
def execMinu (t : Thr) (f : FmtR) (s : State) : Out := .next (s.scalar2 t f (fun a b => if a.toNat ≤ b.toNat then a else b))
def execMaxu (t : Thr) (f : FmtR) (s : State) : Out := .next (s.scalar2 t f (fun a b => if a.toNat ≤ b.toNat then b else a))

def execSel (t : Thr) (f : FmtR) (s : State) : Out :=
  .next (s.insn t f.grd false (isP f.s3 && f.ty == 0 && f.cond == 0 && f.rsv == 0) [f.s1.toNat, f.s2.toNat] []
    (fun g th => s.doneX t g th f.d (if (th.pr f.s3.toNat).getLsbD 0 then th.xr f.s1.toNat else th.xr f.s2.toNat)))

def execClz (t : Thr) (f : FmtR) (s : State) : Out := .next (s.scalar1 t f (fun a => BitVec.ofNat 64 (clz64 a)))
def execCtz (t : Thr) (f : FmtR) (s : State) : Out := .next (s.scalar1 t f (fun a => BitVec.ofNat 64 (ctz64 a)))
def execPopc (t : Thr) (f : FmtR) (s : State) : Out := .next (s.scalar1 t f (fun a => BitVec.ofNat 64 (popc64 a)))

def execPand (t : Thr) (f : FmtR) (s : State) : Out := .next (s.pred2 t f (fun a b => a &&& b))
def execPor (t : Thr) (f : FmtR) (s : State) : Out := .next (s.pred2 t f (fun a b => a ||| b))
def execPxor (t : Thr) (f : FmtR) (s : State) : Out := .next (s.pred2 t f (fun a b => a ^^^ b))
def execPnot (t : Thr) (f : FmtR) (s : State) : Out :=
  .next (s.insn t f.grd false (isP f.d && isP f.s1 && f.s2 == 0 && f.s3 == 0 && f.ty == 0 && f.cond == 0 && f.rsv == 0) [] []
    (fun g th => s.doneP t g th f.d (~~~ (th.pr f.s1.toNat))))
def execMovpx (t : Thr) (f : FmtR) (s : State) : Out :=
  .next (s.insn t f.grd false (isP f.s1 && f.s2 == 0 && f.s3 == 0 && f.ty == 0 && f.cond == 0 && f.rsv == 0) [] []
    (fun g th => s.doneX t g th f.d ((th.pr f.s1.toNat).zeroExtend 64)))
def execMovxp (t : Thr) (f : FmtR) (s : State) : Out :=
  .next (s.insn t f.grd false (isP f.d && f.s2 == 0 && f.s3 == 0 && f.ty == 0 && f.cond == 0 && f.rsv == 0) [f.s1.toNat] []
    (fun g th => s.doneP t g th f.d ((th.xr f.s1.toNat).truncate 32)))

/-- DISP in bytes. -/
def dispBytes (f : FmtC) : W64 := f.disp.signExtend 64 * 8

def execBc (t : Thr) (f : FmtC) (s : State) : Out :=
  .next (s.insn t f.grd false (f.d == 0 && condIsInt f.cond.toNat) [f.s1.toNat, f.s2.toNat] []
    (fun g th =>
      if condInt f.cond.toNat (th.xr f.s1.toNat) (th.xr f.s2.toNat) then s.retire t g ((th.jump (th.pc + dispBytes f)).window 1)
      else s.retire t g (th.window 1).advance))

def execJal (t : Thr) (f : FmtC) (s : State) : Out :=
  .next (s.insn t f.grd false (f.s1 == 0 && f.s2 == 0 && f.cond == 6) [] []
    (fun g th => s.retire t g (((th.setX f.d.toNat (th.pc + 8)).window 1).jump (th.pc + dispBytes f))))

/-- A target that is no multiple of 8 raises FETCH (R200). -/
def execJalr (t : Thr) (f : FmtC) (s : State) : Out :=
  .next (s.insn t f.grd false (f.s2 == 0 && f.cond == 6) [f.s1.toNat] []
    (fun g th =>
      let target := th.xr f.s1.toNat + dispBytes f
      if target.toNat % 8 = 0 then s.retire t g (((th.setX f.d.toNat (th.pc + 8)).window 1).jump target)
      else s.raise t xFetch target.toNat))

end Sys2Proof.Machine
end

