-- ==== Sys2Proof/Machine/Vector.lean ====
section
/-! DEFINITION. Vector instructions (R173, R174, R214 to R218, R705). -/

namespace Sys2Proof.Machine
open Sys2Proof

def tyInt : List Nat := [tyI32, tyU32]
def tyArith : List Nat := [tyI32, tyU32, tyFP32]

def sMin (a b : W32) : W32 := if a.toInt ≤ b.toInt then a else b
def sMax (a b : W32) : W32 := if a.toInt ≤ b.toInt then b else a
def uMin (a b : W32) : W32 := if a.toNat ≤ b.toNat then a else b
def uMax (a b : W32) : W32 := if a.toNat ≤ b.toNat then b else a
/-- Minimum and maximum in the order of TYPE. -/
def tyMin (ty : Nat) (a b : W32) : W32 := if ty = tyFP32 then f32Min a b else if ty = tyU32 then uMin a b else sMin a b
def tyMax (ty : Nat) (a b : W32) : W32 := if ty = tyFP32 then f32Max a b else if ty = tyU32 then uMax a b else sMax a b

def execVadd (t : Thr) (f : FmtR) (s : State) : Out := .next (s.vecN t f 2 tyArith (byType (fun a b => a + b) f32Add))
def execVsub (t : Thr) (f : FmtR) (s : State) : Out := .next (s.vecN t f 2 tyArith (byType (fun a b => a - b) f32Sub))
def execVmul (t : Thr) (f : FmtR) (s : State) : Out := .next (s.vecN t f 2 tyArith (byType (fun a b => a * b) f32Mul))
def execVfma (t : Thr) (f : FmtR) (s : State) : Out := .next (s.vecN t f 3 [tyFP32] (fun _ a b c => f32Fma a b c))
def execVmin (t : Thr) (f : FmtR) (s : State) : Out := .next (s.vecN t f 2 tyArith (fun ty a b _ => tyMin ty a b))
def execVmax (t : Thr) (f : FmtR) (s : State) : Out := .next (s.vecN t f 2 tyArith (fun ty a b _ => tyMax ty a b))
def execVabs (t : Thr) (f : FmtR) (s : State) : Out :=
  .next (s.vecN t f 1 [tyI32, tyFP32] (fun ty a _ _ => if ty = tyFP32 then f32Abs a else if a.msb then -a else a))
def execVneg (t : Thr) (f : FmtR) (s : State) : Out :=
  .next (s.vecN t f 1 [tyI32, tyFP32] (fun ty a _ _ => if ty = tyFP32 then f32Neg a else -a))
def execVdiv (t : Thr) (f : FmtR) (s : State) : Out := .next (s.vecN t f 2 [tyFP32] (fun _ a b _ => f32Div a b))
def execVsqrt (t : Thr) (f : FmtR) (s : State) : Out := .next (s.vecN t f 1 [tyFP32] (fun _ a _ _ => f32Sqrt a))
def execVexp2 (t : Thr) (f : FmtR) (s : State) : Out := .next (s.vecN t f 1 [tyFP32] (fun _ a _ _ => f32Exp2 a))
def execVlog2 (t : Thr) (f : FmtR) (s : State) : Out := .next (s.vecN t f 1 [tyFP32] (fun _ a _ _ => f32Log2 a))

/-- The conditions VCMP accepts with a TYPE (R705). -/
def vcmpOk (ty cond : Nat) : Bool :=
  ((ty = tyI32 || ty = tyU32) && condIsInt cond) || (ty = tyFP32 && (cond = 6 || condIsFp cond))
def vcmpHolds (ty cond : Nat) (a b : W32) : Bool :=
  if ty = tyFP32 then cond = 6 || condFp cond a b else condInt cond a b

def bitsOf (h : Nat → Bool) : W32 := BitVec.ofNat 32 ((List.range 32).foldl (fun a i => a + boolN (h i) * 2 ^ i) 0)

def execVcmp (t : Thr) (f : FmtR) (s : State) : Out :=
  .next (s.insn t f.grd true (isP f.d && isV f.s1 && isV f.s2 && f.s3 == 0 && vcmpOk f.ty.toNat f.cond.toNat && f.rsv == 0) []
    [f.s1.toNat, f.s2.toNat]
    (fun g th => s.doneP t g th f.d (bitsOf (fun i => th.guard f.grd i &&
      vcmpHolds f.ty.toNat f.cond.toNat (laneAt (th.vr f.s1.toNat) i) (laneAt (th.vr f.s2.toNat) i)))))

def execVsel (t : Thr) (f : FmtR) (s : State) : Out :=
  .next (s.insn t f.grd true (isV f.d && isV f.s1 && isV f.s2 && isP f.s3 && f.ty == 0 && f.cond == 0 && f.rsv == 0) []
    ([f.s1.toNat, f.s2.toNat] ++ keepD f.grd f.d)
    (fun g th => s.doneV t g th f.d (laneMap th f.grd (th.vr f.d.toNat) (fun i =>
      if (th.pr f.s3.toNat).getLsbD i then laneAt (th.vr f.s1.toNat) i else laneAt (th.vr f.s2.toNat) i))))

def execVand (t : Thr) (f : FmtR) (s : State) : Out := .next (s.vecN t f 2 tyInt (fun _ a b _ => a &&& b))
def execVor (t : Thr) (f : FmtR) (s : State) : Out := .next (s.vecN t f 2 tyInt (fun _ a b _ => a ||| b))
def execVxor (t : Thr) (f : FmtR) (s : State) : Out := .next (s.vecN t f 2 tyInt (fun _ a b _ => a ^^^ b))
def execVsll (t : Thr) (f : FmtR) (s : State) : Out := .next (s.vecN t f 2 tyInt (fun _ a b _ => a <<< (b.toNat % 32)))
def execVsrl (t : Thr) (f : FmtR) (s : State) : Out := .next (s.vecN t f 2 tyInt (fun _ a b _ => a >>> (b.toNat % 32)))
def execVsra (t : Thr) (f : FmtR) (s : State) : Out := .next (s.vecN t f 2 tyInt (fun _ a b _ => a.sshiftRight (b.toNat % 32)))

/-- Whether VCVT accepts its formats and guard (R218). -/
def vcvtOk (f : FmtI) : Bool :=
  match Fmt.ofNibble (fieldOf f.imm.toNat 4 4), Fmt.ofNibble (f.imm.toNat % 16), Rnd.ofBits (fieldOf f.imm.toNat 8 2) with
  | some a, some b, some _ => !f.grd.getLsbD 4 || !(a.packed || b.packed)
  | _, _, _ => false

/-- The conversion of a register (R214 to R217); a packed result is written whole. -/
def vcvtResult (src dst : Fmt) (mode : Rnd) (rs : List Nat) (v : List W32) : List W32 := dst.pack mode rs (src.unpack v)

def execVcvt (t : Thr) (f : FmtI) (s : State) : Out :=
  .next (s.insn t f.grd true (isV f.d && isV f.s1 && f.ty == 0 && f.rsv == 0 && fieldOf f.imm.toNat 10 22 = 0 && vcvtOk f) []
    ([f.s1.toNat] ++ keepD f.grd f.d)
    (fun g th =>
      match Fmt.ofNibble (fieldOf f.imm.toNat 4 4), Fmt.ofNibble (f.imm.toNat % 16), Rnd.ofBits (fieldOf f.imm.toNat 8 2) with
      | some a, some b, some mode =>
        let r := vcvtResult a b mode (s.randoms g t.idx th.op 32) (th.vr f.s1.toNat)
        let th' := if mode == .sr then { th with op := th.op + 1 } else th
        s.doneV t g th' f.d (laneMap th f.grd (th.vr f.d.toNat) (laneAt r))
      | _, _, _ => s.raise t xIllegal 0))

def execVbcast (t : Thr) (f : FmtR) (s : State) : Out :=
  .next (s.insn t f.grd true (isV f.d && f.s2 == 0 && f.s3 == 0 && f.ty == 0 && f.cond == 0 && f.rsv == 0) [f.s1.toNat] (keepD f.grd f.d)
    (fun g th => s.doneV t g th f.d (laneMap th f.grd (th.vr f.d.toNat) (fun _ => (th.xr f.s1.toNat).truncate 32))))

/-- The guard of VEXT and VINS is scalar (R173). -/
def execVext (t : Thr) (f : FmtR) (s : State) : Out :=
  .next (s.insn t f.grd false (isV f.s1 && f.s3 == 0 && f.ty == 0 && f.cond == 0 && f.rsv == 0) [f.s2.toNat] [f.s1.toNat]
    (fun g th => s.doneX t g th f.d ((laneAt (th.vr f.s1.toNat) ((th.xr f.s2.toNat).toNat % 32)).zeroExtend 64)))

def execVins (t : Thr) (f : FmtR) (s : State) : Out :=
  .next (s.insn t f.grd false (isV f.d && f.s3 == 0 && f.ty == 0 && f.cond == 0 && f.rsv == 0) [f.s1.toNat, f.s2.toNat] [f.d.toNat]
    (fun g th => s.doneV t g th f.d ((List.range 32).map (fun i =>
      if i = (th.xr f.s2.toNat).toNat % 32 then (th.xr f.s1.toNat).truncate 32 else laneAt (th.vr f.d.toNat) i))))

def execVperm (t : Thr) (f : FmtR) (s : State) : Out :=
  .next (s.insn t f.grd true (isV f.d && isV f.s1 && isV f.s2 && f.s3 == 0 && f.ty == 0 && f.cond == 0 && f.rsv == 0) []
    ([f.s1.toNat, f.s2.toNat] ++ keepD f.grd f.d)
    (fun g th => s.doneV t g th f.d (laneMap th f.grd (th.vr f.d.toNat) (fun i =>
      laneAt (th.vr f.s1.toNat) ((laneAt (th.vr f.s2.toNat) i).toNat % 32)))))

/-- A reduction of the active lanes into every lane; none where no lane is active and vD keeps its value. -/
def State.vred (s : State) (t : Thr) (f : FmtR) (red : Nat → List W32 → Option W32) : State :=
  s.insn t f.grd true (isV f.d && isV f.s1 && f.s2 == 0 && f.s3 == 0 && tyArith.contains f.ty.toNat && f.cond == 0 && f.rsv == 0) []
    [f.s1.toNat]
    (fun g th =>
      match red f.ty.toNat ((th.lanes f.grd).map (laneAt (th.vr f.s1.toNat))) with
      | some r => s.doneV t g th f.d (List.replicate 32 r)
      | none => s.retire t g th.advance)

/-- Exact FP32 sum, rounded once, or the integer sum modulo 2^32 (R173). -/
def redSum (ty : Nat) (vs : List W32) : W32 :=
  if ty = tyFP32 then
    match Fmt.ofNibble 12 with
    | some f => BitVec.ofNat 32 ((Xa.sumValues (vs.map f32Dec)).readOut f .rne 0)
    | none => 0
  else vs.foldl (fun a b => a + b) 0

def redFold (op : W32 → W32 → W32) (vs : List W32) : Option W32 :=
  match vs with
  | [] => none
  | a :: t => some (t.foldl op a)

def execVredSum (t : Thr) (f : FmtR) (s : State) : Out := .next (s.vred t f (fun ty vs => some (redSum ty vs)))
/-- One active FP32 lane gives that lane with a NaN made canonical. -/
def execVredMin (t : Thr) (f : FmtR) (s : State) : Out :=
  .next (s.vred t f (fun ty vs => (redFold (tyMin ty) vs).map (fun r => if ty = tyFP32 then f32Canon r else r)))
def execVredMax (t : Thr) (f : FmtR) (s : State) : Out :=
  .next (s.vred t f (fun ty vs => (redFold (tyMax ty) vs).map (fun r => if ty = tyFP32 then f32Canon r else r)))

def execVlane (t : Thr) (f : FmtR) (s : State) : Out :=
  .next (s.insn t f.grd true (isV f.d && f.s1 == 0 && f.s2 == 0 && f.s3 == 0 && f.ty == 0 && f.cond == 0 && f.rsv == 0) [] (keepD f.grd f.d)
    (fun g th => s.doneV t g th f.d (laneMap th f.grd (th.vr f.d.toNat) (fun i => BitVec.ofNat 32 i))))

end Sys2Proof.Machine
end

