-- ==== Sys2Proof/Machine/Dispatch.lean ====
section
/-! DEFINITION. Which meaning each command has. -/

namespace Sys2Proof.Machine
open Sys2Proof

def exec (i : Instr) (s : State) : Host.Outcome State Fault Refusal :=
  match i with
  | .registerWrite bar off wide data => Sys2Proof.Machine.execRegisterWrite bar off wide data s
  | .rcRegisterRead bar off wide => Sys2Proof.Machine.execRcRegisterRead bar off wide s
  | .lowHalfRead bar off => Sys2Proof.Machine.execLowHalfRead bar off s
  | .lowHalfWrite bar off data => Sys2Proof.Machine.execLowHalfWrite bar off data s
  | .highHalfWrite bar off data => Sys2Proof.Machine.execHighHalfWrite bar off data s
  | .badAccess bar off len fullEnables write => Sys2Proof.Machine.execBadAccess bar off len fullEnables write s
  | .unsupportedRequest fn posted => Sys2Proof.Machine.execUnsupportedRequest fn posted s
  | .tagCommitPf => Sys2Proof.Machine.execTagCommitPf s
  | .tagCommitI3c => Sys2Proof.Machine.execTagCommitI3c s
  | .tagCommitDone verified => Sys2Proof.Machine.execTagCommitDone verified s
  | .i3cRead off => Sys2Proof.Machine.execI3cRead off s
  | .i3cWrite off data => Sys2Proof.Machine.execI3cWrite off data s
  | .tileDiscovery site strap => Sys2Proof.Machine.execTileDiscovery site strap s
  | .discoveryTimeout site => Sys2Proof.Machine.execDiscoveryTimeout site s
  | .stileWrite fn slot poisoned cells => Sys2Proof.Machine.execStileWrite fn slot poisoned cells s
  | .recordSeal fn slot cells => Sys2Proof.Machine.execRecordSeal fn slot cells s
  | .slotAbandon fn slot => Sys2Proof.Machine.execSlotAbandon fn slot s
  | .gapHoldExpiry fn slot => Sys2Proof.Machine.execGapHoldExpiry fn slot s
  | .journalEntryWritten fn entry twinA twinB => Sys2Proof.Machine.execJournalEntryWritten fn entry twinA twinB s
  | .watermarkTick fn => Sys2Proof.Machine.execWatermarkTick fn s
  | .ringHeadWrite fn value => Sys2Proof.Machine.execRingHeadWrite fn value s
  | .auditHeadWrite fn value => Sys2Proof.Machine.execAuditHeadWrite fn value s
  | .receiptWrite fn => Sys2Proof.Machine.execReceiptWrite fn s
  | .nopRecord fn entry => Sys2Proof.Machine.execNopRecord fn entry s
  | .bind fn entry => Sys2Proof.Machine.execBind fn entry s
  | .work fn entry => Sys2Proof.Machine.execWork fn entry s
  | .auditClose fn entry => Sys2Proof.Machine.execAuditClose fn entry s
  | .loadProgram fn entry => Sys2Proof.Machine.execLoadProgram fn entry s
  | .loadWeights fn entry => Sys2Proof.Machine.execLoadWeights fn entry s
  | .loadCopyDone fn entry => Sys2Proof.Machine.execLoadCopyDone fn entry s
  | .unload fn entry => Sys2Proof.Machine.execUnload fn entry s
  | .tableUpdate fn entry => Sys2Proof.Machine.execTableUpdate fn entry s
  | .invalidate fn entry => Sys2Proof.Machine.execInvalidate fn entry s
  | .dirInsert fn entry => Sys2Proof.Machine.execDirInsert fn entry s
  | .dirDelete fn entry => Sys2Proof.Machine.execDirDelete fn entry s
  | .quiesce fn entry => Sys2Proof.Machine.execQuiesce fn entry s
  | .quiesceTimeout fn => Sys2Proof.Machine.execQuiesceTimeout fn s
  | .resume fn entry => Sys2Proof.Machine.execResume fn entry s
  | .launch fn entry => Sys2Proof.Machine.execLaunch fn entry s
  | .lookupComplete gid lookup => Sys2Proof.Machine.execLookupComplete gid lookup s
  | .gatherComplete gid => Sys2Proof.Machine.execGatherComplete gid s
  | .inputDigestDone gid => Sys2Proof.Machine.execInputDigestDone gid s
  | .groupAbortDone gid => Sys2Proof.Machine.execGroupAbortDone gid s
  | .checkWindowClose gid thread error => Sys2Proof.Machine.execCheckWindowClose gid thread error s
  | .releaseStart fn entry => Sys2Proof.Machine.execReleaseStart fn entry s
  | .releaseLogged fn entry => Sys2Proof.Machine.execReleaseLogged fn entry s
  | .auditWrite fn => Sys2Proof.Machine.execAuditWrite fn s
  | .recordCommit fn entry => Sys2Proof.Machine.execRecordCommit fn entry s
  | .checkpointSigned fn => Sys2Proof.Machine.execCheckpointSigned fn s
  | .switchOutTrigger gid => Sys2Proof.Machine.execSwitchOutTrigger gid s
  | .switchOutSaved gid => Sys2Proof.Machine.execSwitchOutSaved gid s
  | .groupRestore gid => Sys2Proof.Machine.execGroupRestore gid s
  | .nop t f => Sys2Proof.Machine.execNop t f s
  | .exit t f => Sys2Proof.Machine.execExit t f s
  | .add t f => Sys2Proof.Machine.execAdd t f s
  | .sub t f => Sys2Proof.Machine.execSub t f s
  | .mul t f => Sys2Proof.Machine.execMul t f s
  | .mulh t f => Sys2Proof.Machine.execMulh t f s
  | .mulhu t f => Sys2Proof.Machine.execMulhu t f s
  | .div t f => Sys2Proof.Machine.execDiv t f s
  | .divu t f => Sys2Proof.Machine.execDivu t f s
  | .rem t f => Sys2Proof.Machine.execRem t f s
  | .remu t f => Sys2Proof.Machine.execRemu t f s
  | .opAnd t f => Sys2Proof.Machine.execOpAnd t f s
  | .opOr t f => Sys2Proof.Machine.execOpOr t f s
  | .opXor t f => Sys2Proof.Machine.execOpXor t f s
  | .sll t f => Sys2Proof.Machine.execSll t f s
  | .srl t f => Sys2Proof.Machine.execSrl t f s
  | .sra t f => Sys2Proof.Machine.execSra t f s
  | .cmp t f => Sys2Proof.Machine.execCmp t f s
  | .addi t f => Sys2Proof.Machine.execAddi t f s
  | .andi t f => Sys2Proof.Machine.execAndi t f s
  | .ori t f => Sys2Proof.Machine.execOri t f s
  | .xori t f => Sys2Proof.Machine.execXori t f s
  | .slli t f => Sys2Proof.Machine.execSlli t f s
  | .srli t f => Sys2Proof.Machine.execSrli t f s
  | .srai t f => Sys2Proof.Machine.execSrai t f s
  | .li t f => Sys2Proof.Machine.execLi t f s
  | .lih t f => Sys2Proof.Machine.execLih t f s
  | .cmpi t f => Sys2Proof.Machine.execCmpi t f s
  | .opMin t f => Sys2Proof.Machine.execOpMin t f s
  | .opMax t f => Sys2Proof.Machine.execOpMax t f s
  | .minu t f => Sys2Proof.Machine.execMinu t f s
  | .maxu t f => Sys2Proof.Machine.execMaxu t f s
  | .sel t f => Sys2Proof.Machine.execSel t f s
  | .clz t f => Sys2Proof.Machine.execClz t f s
  | .ctz t f => Sys2Proof.Machine.execCtz t f s
  | .popc t f => Sys2Proof.Machine.execPopc t f s
  | .pand t f => Sys2Proof.Machine.execPand t f s
  | .por t f => Sys2Proof.Machine.execPor t f s
  | .pxor t f => Sys2Proof.Machine.execPxor t f s
  | .pnot t f => Sys2Proof.Machine.execPnot t f s
  | .movpx t f => Sys2Proof.Machine.execMovpx t f s
  | .movxp t f => Sys2Proof.Machine.execMovxp t f s
  | .bc t f => Sys2Proof.Machine.execBc t f s
  | .jal t f => Sys2Proof.Machine.execJal t f s
  | .jalr t f => Sys2Proof.Machine.execJalr t f s
  | .vadd t f => Sys2Proof.Machine.execVadd t f s
  | .vsub t f => Sys2Proof.Machine.execVsub t f s
  | .vmul t f => Sys2Proof.Machine.execVmul t f s
  | .vfma t f => Sys2Proof.Machine.execVfma t f s
  | .vmin t f => Sys2Proof.Machine.execVmin t f s
  | .vmax t f => Sys2Proof.Machine.execVmax t f s
  | .vabs t f => Sys2Proof.Machine.execVabs t f s
  | .vneg t f => Sys2Proof.Machine.execVneg t f s
  | .vdiv t f => Sys2Proof.Machine.execVdiv t f s
  | .vsqrt t f => Sys2Proof.Machine.execVsqrt t f s
  | .vexp2 t f => Sys2Proof.Machine.execVexp2 t f s
  | .vlog2 t f => Sys2Proof.Machine.execVlog2 t f s
  | .vcmp t f => Sys2Proof.Machine.execVcmp t f s
  | .vsel t f => Sys2Proof.Machine.execVsel t f s
  | .vand t f => Sys2Proof.Machine.execVand t f s
  | .vor t f => Sys2Proof.Machine.execVor t f s
  | .vxor t f => Sys2Proof.Machine.execVxor t f s
  | .vsll t f => Sys2Proof.Machine.execVsll t f s
  | .vsrl t f => Sys2Proof.Machine.execVsrl t f s
  | .vsra t f => Sys2Proof.Machine.execVsra t f s
  | .vcvt t f => Sys2Proof.Machine.execVcvt t f s
  | .vbcast t f => Sys2Proof.Machine.execVbcast t f s
  | .vext t f => Sys2Proof.Machine.execVext t f s
  | .vins t f => Sys2Proof.Machine.execVins t f s
  | .vperm t f => Sys2Proof.Machine.execVperm t f s
  | .vredSum t f => Sys2Proof.Machine.execVredSum t f s
  | .vredMin t f => Sys2Proof.Machine.execVredMin t f s
  | .vredMax t f => Sys2Proof.Machine.execVredMax t f s
  | .vlane t f => Sys2Proof.Machine.execVlane t f s
  | .ld t f => Sys2Proof.Machine.execLd t f s
  | .st t f => Sys2Proof.Machine.execSt t f s
  | .ldAcq t f => Sys2Proof.Machine.execLdAcq t f s
  | .stRel t f => Sys2Proof.Machine.execStRel t f s
  | .vld t f => Sys2Proof.Machine.execVld t f s
  | .vst t f => Sys2Proof.Machine.execVst t f s
  | .vldG t f => Sys2Proof.Machine.execVldG t f s
  | .vstS t f => Sys2Proof.Machine.execVstS t f s
  | .loadReturn t load => Sys2Proof.Machine.execLoadReturn t load s
  | .mcopy t f => Sys2Proof.Machine.execMcopy t f s
  | .mcopyComplete t copy => Sys2Proof.Machine.execMcopyComplete t copy s
  | .waitm t f => Sys2Proof.Machine.execWaitm t f s
  | .atomAdd t f => Sys2Proof.Machine.execAtomAdd t f s
  | .atomFadd t f => Sys2Proof.Machine.execAtomFadd t f s
  | .atomSwap t f => Sys2Proof.Machine.execAtomSwap t f s
  | .atomCas t f => Sys2Proof.Machine.execAtomCas t f s
  | .atomMin t f => Sys2Proof.Machine.execAtomMin t f s
  | .atomMax t f => Sys2Proof.Machine.execAtomMax t f s
  | .fence t f => Sys2Proof.Machine.execFence t f s
  | .hurdle t f => Sys2Proof.Machine.execHurdle t f s
  | .harrive t f => Sys2Proof.Machine.execHarrive t f s
  | .hwait t f => Sys2Proof.Machine.execHwait t f s
  | .hurdleSum t f => Sys2Proof.Machine.execHurdleSum t f s
  | .hurdleTimeout gid id => Sys2Proof.Machine.execHurdleTimeout gid id s
  | .collect t f => Sys2Proof.Machine.execCollect t f s
  | .tzero t f => Sys2Proof.Machine.execTzero t f s
  | .tmma t f => Sys2Proof.Machine.execTmma t f s
  | .trd t f => Sys2Proof.Machine.execTrd t f s
  | .tensorOpComplete gid core => Sys2Proof.Machine.execTensorOpComplete gid core s
  | .twait t f => Sys2Proof.Machine.execTwait t f s
  | .feval t f => Sys2Proof.Machine.execFeval t f s
  | .fevalComplete t eval => Sys2Proof.Machine.execFevalComplete t eval s
  | .nodeFillReturn t eval line => Sys2Proof.Machine.execNodeFillReturn t eval line s
  | .fwait t f => Sys2Proof.Machine.execFwait t f s
  | .dfind t f => Sys2Proof.Machine.execDfind t f s
  | .chkSync t f => Sys2Proof.Machine.execChkSync t f s
  | .chkCmp t f => Sys2Proof.Machine.execChkCmp t f s
  | .chkAssert t f => Sys2Proof.Machine.execChkAssert t f s
  | .rdtime t f => Sys2Proof.Machine.execRdtime t f s
  | .rdcnt t f => Sys2Proof.Machine.execRdcnt t f s
  | .rand t f => Sys2Proof.Machine.execRand t f s
  | .tableWalkDone fn va => Sys2Proof.Machine.execTableWalkDone fn va s
  | .atsCompletion fn va c => Sys2Proof.Machine.execAtsCompletion fn va c s
  | .atsInvalidateRequest fn itag va size => Sys2Proof.Machine.execAtsInvalidateRequest fn itag va size s
  | .atsInvalidateComplete fn itag => Sys2Proof.Machine.execAtsInvalidateComplete fn itag s
  | .prgResponse fn index r => Sys2Proof.Machine.execPrgResponse fn index r s
  | .priTimeout fn index => Sys2Proof.Machine.execPriTimeout fn index s
  | .ringWriteRetry fn => Sys2Proof.Machine.execRingWriteRetry fn s
  | .priEnableChange fn enable => Sys2Proof.Machine.execPriEnableChange fn enable s
  | .pcieCompletion tag c => Sys2Proof.Machine.execPcieCompletion tag c s
  | .completionTimeout tag => Sys2Proof.Machine.execCompletionTimeout tag s
  | .busMasterEnableChange fn enable => Sys2Proof.Machine.execBusMasterEnableChange fn enable s
  | .powerStateChange fn d3hot => Sys2Proof.Machine.execPowerStateChange fn d3hot s
  | .vfEnableClear => Sys2Proof.Machine.execVfEnableClear s
  | .numvfsWrite value => Sys2Proof.Machine.execNumvfsWrite value s
  | .flr fn => Sys2Proof.Machine.execFlr fn s
  | .flrDone fn => Sys2Proof.Machine.execFlrDone fn s
  | .hotReset => Sys2Proof.Machine.execHotReset s
  | .perst => Sys2Proof.Machine.execPerst s
  | .intStatusClear ones => Sys2Proof.Machine.execIntStatusClear ones s
  | .intEnableWrite value => Sys2Proof.Machine.execIntEnableWrite value s
  | .interruptDisableChange disable => Sys2Proof.Machine.execInterruptDisableChange disable s
  | .intaHoldoffExpiry => Sys2Proof.Machine.execIntaHoldoffExpiry s
  | .l1Entry => Sys2Proof.Machine.execL1Entry s
  | .l1Exit => Sys2Proof.Machine.execL1Exit s
  | .l0pNarrow => Sys2Proof.Machine.execL0pNarrow s
  | .l0pWiden => Sys2Proof.Machine.execL0pWiden s
  | .ptmDialogue => Sys2Proof.Machine.execPtmDialogue s
  | .ptmResponse offset => Sys2Proof.Machine.execPtmResponse offset s
  | .lockInterface fn stream => Sys2Proof.Machine.execLockInterface fn stream s
  | .startInterface fn => Sys2Proof.Machine.execStartInterface fn s
  | .stopInterface fn => Sys2Proof.Machine.execStopInterface fn s
  | .getDeviceInterfaceReport fn => Sys2Proof.Machine.execGetDeviceInterfaceReport fn s
  | .spdmGetCertificate slot => Sys2Proof.Machine.execSpdmGetCertificate slot s
  | .spdmChallenge slot nonce => Sys2Proof.Machine.execSpdmChallenge slot nonce s
  | .spdmGetMeasurements block nonce => Sys2Proof.Machine.execSpdmGetMeasurements block nonce s
  | .spdmKeyExchange slot share => Sys2Proof.Machine.execSpdmKeyExchange slot share s
  | .flitReceive link half crcOk src dst privileged => Sys2Proof.Machine.execFlitReceive link half crcOk src dst privileged s
  | .nocRead q => Sys2Proof.Machine.execNocRead q s
  | .nocWrite q => Sys2Proof.Machine.execNocWrite q s
  | .nocAtomic q => Sys2Proof.Machine.execNocAtomic q s
  | .nocXadd q => Sys2Proof.Machine.execNocXadd q s
  | .control q m => Sys2Proof.Machine.execControl q m s
  | .rdShared q => Sys2Proof.Machine.execRdShared q s
  | .rdUnique q => Sys2Proof.Machine.execRdUnique q s
  | .upgrade q => Sys2Proof.Machine.execUpgrade q s
  | .writeback q => Sys2Proof.Machine.execWriteback q s
  | .nocGo line => Sys2Proof.Machine.execNocGo line s
  | .snpShared line agent => Sys2Proof.Machine.execSnpShared line agent s
  | .snpUnique line agent => Sys2Proof.Machine.execSnpUnique line agent s
  | .snpInvalid line agent => Sys2Proof.Machine.execSnpInvalid line agent s
  | .snoopDone line => Sys2Proof.Machine.execSnoopDone line s
  | .nocData d => Sys2Proof.Machine.execNocData d s
  | .writeGrant r => Sys2Proof.Machine.execWriteGrant r s
  | .nocDone r => Sys2Proof.Machine.execNocDone r s
  | .nocAck line => Sys2Proof.Machine.execNocAck line s
  | .routeEntryInstall router port entry value => Sys2Proof.Machine.execRouteEntryInstall router port entry value s
  | .foldFillReturn owner granule => Sys2Proof.Machine.execFoldFillReturn owner granule s
  | .hbmTempPoll stack temp => Sys2Proof.Machine.execHbmTempPoll stack temp s
  | .hbmEccPoll stack count => Sys2Proof.Machine.execHbmEccPoll stack count s
  | .rfmRequest stack => Sys2Proof.Machine.execRfmRequest stack s
  | .writeAgeExpiry engine => Sys2Proof.Machine.execWriteAgeExpiry engine s
  | .hbmChannelLost stack => Sys2Proof.Machine.execHbmChannelLost stack s
  | .patrolScrubRead line r => Sys2Proof.Machine.execPatrolScrubRead line r s
  | .pastureRebuildDone => Sys2Proof.Machine.execPastureRebuildDone s
  | .journalRebuildDone fn => Sys2Proof.Machine.execJournalRebuildDone fn s
  | .marginRequest value => Sys2Proof.Machine.execMarginRequest value s
  | .marginResult readEye writeEye ref => Sys2Proof.Machine.execMarginResult readEye writeEye ref s
  | .dirEntryRebuild bucket => Sys2Proof.Machine.execDirEntryRebuild bucket s
  | .regulatorWindow waiting throughout => Sys2Proof.Machine.execRegulatorWindow waiting throughout s
  | .chargeReport owner cls a surplus => Sys2Proof.Machine.execChargeReport owner cls a surplus s
  | .queueFeedback occupancy => Sys2Proof.Machine.execQueueFeedback occupancy s
  | .urgencyChange owner cls level => Sys2Proof.Machine.execUrgencyChange owner cls level s
  | .shortfallLogTick group => Sys2Proof.Machine.execShortfallLogTick group s
  | .faultReport r => Sys2Proof.Machine.execFaultReport r s
  | .safeExit => Sys2Proof.Machine.execSafeExit s
  | .sheepdogSelfFault => Sys2Proof.Machine.execSheepdogSelfFault s
  | .stallWatchdog r => Sys2Proof.Machine.execStallWatchdog r s
  | .qRelease value => Sys2Proof.Machine.execQRelease value s
  | .firstErrorClear => Sys2Proof.Machine.execFirstErrorClear s
  | .supplyValid sris => Sys2Proof.Machine.execSupplyValid sris s
  | .supplyDip => Sys2Proof.Machine.execSupplyDip s
  | .auxLoss => Sys2Proof.Machine.execAuxLoss s
  | .sysRstAssert => Sys2Proof.Machine.execSysRstAssert s
  | .sysRstDeassert => Sys2Proof.Machine.execSysRstDeassert s
  | .warmRstAssert => Sys2Proof.Machine.execWarmRstAssert s
  | .startReqCold => Sys2Proof.Machine.execStartReqCold s
  | .startReqWarm => Sys2Proof.Machine.execStartReqWarm s
  | .autoWarmStart => Sys2Proof.Machine.execAutoWarmStart s
  | .memoryMachineDone stack ok => Sys2Proof.Machine.execMemoryMachineDone stack ok s
  | .linkTrainingEnd => Sys2Proof.Machine.execLinkTrainingEnd s
  | .readyLimitExpiry => Sys2Proof.Machine.execReadyLimitExpiry s
  | .startRetry => Sys2Proof.Machine.execStartRetry s
  | .flashRead => Sys2Proof.Machine.execFlashRead s
  | .flashProgram => Sys2Proof.Machine.execFlashProgram s
  | .flashErase => Sys2Proof.Machine.execFlashErase s
  | .flashOpDone verified => Sys2Proof.Machine.execFlashOpDone verified s
  | .challengeNew => Sys2Proof.Machine.execChallengeNew s
  | .challengeExpiry => Sys2Proof.Machine.execChallengeExpiry s
  | .tokenPaddockDebug => Sys2Proof.Machine.execTokenPaddockDebug s
  | .tokenReturn => Sys2Proof.Machine.execTokenReturn s
  | .tokenScrap => Sys2Proof.Machine.execTokenScrap s
  | .tokenDeploy => Sys2Proof.Machine.execTokenDeploy s
  | .tokenProvision => Sys2Proof.Machine.execTokenProvision s
  | .transitionDone => Sys2Proof.Machine.execTransitionDone s
  | .debugExpiry paddock => Sys2Proof.Machine.execDebugExpiry paddock s
  | .debugRead high => Sys2Proof.Machine.execDebugRead high s
  | .scrubStart value => Sys2Proof.Machine.execScrubStart value s
  | .scrubDone => Sys2Proof.Machine.execScrubDone s
  | .lightChange input on => Sys2Proof.Machine.execLightChange input on s
  | .trainPattern port => Sys2Proof.Machine.execTrainPattern port s
  | .portTrained port width => Sys2Proof.Machine.execPortTrained port width s
  | .trainTimeout => Sys2Proof.Machine.execTrainTimeout s
  | .train port lanes => Sys2Proof.Machine.execTrain port lanes s
  | .ident port idm => Sys2Proof.Machine.execIdent port idm s
  | .keyxOffer port k => Sys2Proof.Machine.execKeyxOffer port k s
  | .keyxAccept port k => Sys2Proof.Machine.execKeyxAccept port k s
  | .keyxConfirm port k => Sys2Proof.Machine.execKeyxConfirm port k s
  | .keyxRekey port share => Sys2Proof.Machine.execKeyxRekey port share s
  | .keyxAck port share => Sys2Proof.Machine.execKeyxAck port share s
  | .rekeyTimer port => Sys2Proof.Machine.execRekeyTimer port s
  | .rekeyTimeout port => Sys2Proof.Machine.execRekeyTimeout port s
  | .lflFlit port f => Sys2Proof.Machine.execLflFlit port f s
  | .nak port seq => Sys2Proof.Machine.execNak port seq s
  | .width port lanes => Sys2Proof.Machine.execWidth port lanes s
  | .laneFault port lane => Sys2Proof.Machine.execLaneFault port lane s
  | .laneSwapDone port lane ok => Sys2Proof.Machine.execLaneSwapDone port lane ok s
  | .timeReq port t1 => Sys2Proof.Machine.execTimeReq port t1 s
  | .timeResp port t2 t3 => Sys2Proof.Machine.execTimeResp port t2 t3 s
  | .timeExchangeTick => Sys2Proof.Machine.execTimeExchangeTick s
  | .timeSyncLost => Sys2Proof.Machine.execTimeSyncLost s
  | .bellwetherLost => Sys2Proof.Machine.execBellwetherLost s
  | .fenced port node => Sys2Proof.Machine.execFenced port node s
  | .fencedRepeat => Sys2Proof.Machine.execFencedRepeat s
  | .collectData m => Sys2Proof.Machine.execCollectData m s
  | .hurdleArrive m => Sys2Proof.Machine.execHurdleArrive m s
  | .lstate m => Sys2Proof.Machine.execLstate m s
  | .collectResult m => Sys2Proof.Machine.execCollectResult m s
  | .hurdleOpen m => Sys2Proof.Machine.execHurdleOpen m s
  | .e2eAck m => Sys2Proof.Machine.execE2eAck m s
  | .e2eResend dst cls seq => Sys2Proof.Machine.execE2eResend dst cls seq s
  | .lstateTick => Sys2Proof.Machine.execLstateTick s
  | .lflForward m => Sys2Proof.Machine.execLflForward m s
  | .discover site d => Sys2Proof.Machine.execDiscover site d s
  | .configure site => Sys2Proof.Machine.execConfigure site s
  | .configureAck site echoOk => Sys2Proof.Machine.execConfigureAck site echoOk s
  | .measureReq site block => Sys2Proof.Machine.execMeasureReq site block s
  | .measure site block digest => Sys2Proof.Machine.execMeasure site block digest s
  | .heartbeat site temp flags => Sys2Proof.Machine.execHeartbeat site temp flags s
  | .heartbeatTimeout site => Sys2Proof.Machine.execHeartbeatTimeout site s
  | .fault site f => Sys2Proof.Machine.execFault site f s
  | .throttle site watts => Sys2Proof.Machine.execThrottle site watts s
  | .hubShare site => Sys2Proof.Machine.execHubShare site s
  | .chipShare site share => Sys2Proof.Machine.execChipShare site share s
  | .hubConfirm site => Sys2Proof.Machine.execHubConfirm site s
  | .chipConfirm site tag => Sys2Proof.Machine.execChipConfirm site tag s
  | .mgmtRetry site => Sys2Proof.Machine.execMgmtRetry site s
  | .lspFlit site seq crcOk kind ack => Sys2Proof.Machine.execLspFlit site seq crcOk kind ack s
  | .lspNak site seq => Sys2Proof.Machine.execLspNak site seq s
  | .winRead t load part => Sys2Proof.Machine.execWinRead t load part s
  | .winWrite site tag => Sys2Proof.Machine.execWinWrite site tag s
  | .recordEnd site record => Sys2Proof.Machine.execRecordEnd site record s
  | .dmaRead site m => Sys2Proof.Machine.execDmaRead site m s
  | .dmaWrite site m => Sys2Proof.Machine.execDmaWrite site m s
  | .cohReq site m => Sys2Proof.Machine.execCohReq site m s
  | .lspDone site m => Sys2Proof.Machine.execLspDone site m s
  | .lspGo site tag => Sys2Proof.Machine.execLspGo site tag s
  | .lspAck site m => Sys2Proof.Machine.execLspAck site m s
  | .snpPush site line => Sys2Proof.Machine.execSnpPush site line s
  | .snpInv site line toShared => Sys2Proof.Machine.execSnpInv site line toShared s
  | .snpAck site m => Sys2Proof.Machine.execSnpAck site m s
  | .lspData site m cells authTag => Sys2Proof.Machine.execLspData site m cells authTag s
  | .windowTimeout site tag => Sys2Proof.Machine.execWindowTimeout site tag s
  | .snpAckTimeout site line => Sys2Proof.Machine.execSnpAckTimeout site line s
  | .windowRekey site => Sys2Proof.Machine.execWindowRekey site s
  | .commonsPowerCheck site meanPower peakPct temp => Sys2Proof.Machine.execCommonsPowerCheck site meanPower peakPct temp s
  | .bringupStepTimeout site step => Sys2Proof.Machine.execBringupStepTimeout site step s
  | .powerControlPeriod meanW inputV10 => Sys2Proof.Machine.execPowerControlPeriod meanW inputV10 s
  | .canaryWindow rail => Sys2Proof.Machine.execCanaryWindow rail s
  | .marginRelax rail => Sys2Proof.Machine.execMarginRelax rail s
  | .calMarginEscalate u => Sys2Proof.Machine.execCalMarginEscalate u s
  | .thermalSample tiles hub => Sys2Proof.Machine.execThermalSample tiles hub s
  | .railMonitorSample rail first second => Sys2Proof.Machine.execRailMonitorSample rail first second s
  | .pllLockLoss pll => Sys2Proof.Machine.execPllLockLoss pll s
  | .hbmCentringStep stack pc setting up readEye writeEye bytes => Sys2Proof.Machine.execHbmCentringStep stack pc setting up readEye writeEye bytes s
  | .ringTracking port below detune => Sys2Proof.Machine.execRingTracking port below detune s
  | .thermalShutdown temp => Sys2Proof.Machine.execThermalShutdown temp s
  | .tlyReset => Sys2Proof.Machine.execTlyReset s
  | .tlyFnReset fn => Sys2Proof.Machine.execTlyFnReset fn s
  | .fabSnapTake => Sys2Proof.Machine.execFabSnapTake s
  | .fabSnapDone => Sys2Proof.Machine.execFabSnapDone s
  | .probeMatch f => Sys2Proof.Machine.execProbeMatch f s
  | .traceRecordOffer source allow pair => Sys2Proof.Machine.execTraceRecordOffer source allow pair s
  | .traceArm b => Sys2Proof.Machine.execTraceArm b s
  | .traceDisarm b => Sys2Proof.Machine.execTraceDisarm b s
  | .traceTrigger value => Sys2Proof.Machine.execTraceTrigger value s
  | .auxSupplyValid sris => Sys2Proof.Machine.execAuxSupplyValid sris s
  | .pcieLinkError kind => Sys2Proof.Machine.execPcieLinkError kind s
  | .keyExchangeTimeout port => Sys2Proof.Machine.execKeyExchangeTimeout port s
  | .clkreqAsserted => Sys2Proof.Machine.execClkreqAsserted s

end Sys2Proof.Machine
end

