-- ==== Sys2Proof/Safety.lean ====
section
/-! DEFINITION. What a safe step and a good state are, in the terms that claims use. -/

namespace Sys2Proof.Machine
open Sys2Proof

/-- The step goes on. -/
def goesOn (s : State) : Prop := ∃ t, step s = .next t

/-- Memory and boot flash have their canonical form. -/
def State.memWf (s : State) : Prop := s.mem.wf = true ∧ flashWf s.flash = true

/-- What power, resets and starts leave alone except through its own engines (R35, R566, R609, R634): boot flash, life-cycle OTP, tag OTP
and fuses. -/
def State.persistent (s : State) : Memory × SMap W32 × SMap Byte × SMap W32 :=
  (s.flash, s.sec.otp, s.ident.tagOtp, s.boot.fuses)

end Sys2Proof.Machine
end

