-- ==== Sys2Proof/Certificates/Slice0/Obligations.lean ====
section
/-! DEFINITION. The statements for the provers. -/

open Sys2Proof Sys2Proof.Machine

/-! ### Words the statements share -/

namespace Sys2Proof.Claims

/-- A host access to this BAR is answered by a function that is there, in D0, neither scrapped nor in recovery (R430, R566, R612). -/
abbrev Answers (s : State) (bar : Bar) : Prop :=
  s.barOpen (barFn bar) = true ∧ s.boot.recovery = false ∧ s.lc ≠ lcScrapped

/-- No write changes the register at this offset: none stands there, it is RO or RC, or it is RWL and the load is complete. -/
def NoWrite (s : State) (bar : Bar) (off : Nat) : Bool :=
  match rowAt bar off with
  | none => true
  | some r => decide (r.acc = .ro ∨ r.acc = .rc ∨ (r.acc = .rwl ∧ s.loaded = true))

/-- An RW register of PF BAR4 whose write has no effect beyond the register. -/
abbrev PlainRw (base : Nat) : Prop :=
  base ≠ PCE_INT_ENABLE ∧ base ≠ MCT_MARGIN_SEL ∧ base ≠ SEC_DEBUG_ADDR ∧ ¬(TRC_PROBE_CTL ≤ base ∧ base < TRC_PROBE_CTL + 0x200)

end Sys2Proof.Claims

open Sys2Proof.Claims
/-! ### Registers -/

/-- A step runs the command at the front of the queue with the queue's rest. -/
def Obligations.StepRunsFrontCommand : Prop :=
  ∀ (c : Instr) (rest : List Instr) (s : State), s.pending = c :: rest → step s = exec c { s with pending := rest }

/-- R9 and R11. -/
def Obligations.UnwritableRegistersKeep : Prop :=
  (∀ (s : State) (bar : Bar) (off : Nat) (wide : Bool) (data : W64), Answers s bar → off % (if wide then 8 else 4) = 0 →
    NoWrite s bar off → (wide = true → NoWrite s bar (off + 4)) → exec (.registerWrite bar off wide data) s = .next s) ∧
  (∀ (s : State) (bar : Bar) (off : Nat) (r : RegRow), Answers s bar → off % 4 = 0 → rowAt bar off = some r → r.acc = .wo →
    r.wide = false → exec (.rcRegisterRead bar off false) s = .next (s.send (.cpl 0))) ∧
  (∀ (s : State) (bar : Bar) (off : Nat) (wide : Bool), Answers s bar → off % (if wide then 8 else 4) = 0 → rowAt bar off = none →
    (wide = true → rowAt bar (off + 4) = none) → exec (.rcRegisterRead bar off wide) s = .next (s.send (.cpl 0)))

/-- R10, R13 and R427 for registers of PF BAR4. -/
def Obligations.RegisterAccesses : Prop :=
  (∀ (s : State) (off : Nat) (r : RegRow) (data : W64), Answers s .bar4 → off % 4 = 0 → rowAt .bar4 off = some r → r.acc = .rw →
    r.wide = false → PlainRw (r.base off) →
    exec (.registerWrite .bar4 off false data) s = .next (s.hubSetN (r.base off) (data.toNat % 2 ^ 32 &&& r.mask))) ∧
  (∀ (s : State) (off : Nat) (r : RegRow), Answers s .bar4 → off % 4 = 0 → rowAt .bar4 off = some r → r.acc = .rc → r.wide = false →
    exec (.rcRegisterRead .bar4 off false) s =
      .next ((s.hubSetN (r.base off) 0).send (.cpl (BitVec.ofNat 64 (s.hubView (r.base off)))))) ∧
  (∀ (s : State) (off : Nat) (r : RegRow), Answers s .bar4 → off % 4 = 0 → rowAt .bar4 off = some r → r.wide = true →
    r.base off = off → r.acc ≠ .wo → r.acc ≠ .rc → ∃ t : State, exec (.lowHalfRead .bar4 off) s = .next t ∧
      t.tx = s.tx ++ [.cpl (BitVec.ofNat 64 (s.hubView off % 2 ^ 32))] ∧
      t.latch.find off = some (BitVec.ofNat 32 (s.hubView off / 2 ^ 32)) ∧ t.hub = s.hub) ∧
  (∀ (s : State) (off : Nat) (r : RegRow) (data : W32), Answers s .bar4 → off % 4 = 0 → rowAt .bar4 off = some r → r.wide = true →
    r.base off = off → r.acc = .rw → ∃ t : State, exec (.lowHalfWrite .bar4 off data) s = .next t ∧
      t.held.find off = some data ∧ t.hub = s.hub ∧ t.tx = s.tx) ∧
  (∀ (s : State) (off : Nat) (r : RegRow) (data : W32), Answers s .bar4 → off % 4 = 0 → rowAt .bar4 off = some r → r.wide = true →
    r.base off ≠ off → r.acc = .rw → PlainRw (r.base off) → ∃ t : State, exec (.highHalfWrite .bar4 off data) s = .next t ∧
      t.hub = (s.hubSetN (r.base off)
        (((match s.held.find (r.base off) with
          | some w => w.toNat
          | none => s.hubView (r.base off) % 2 ^ 32) + data.toNat * 2 ^ 32) &&& r.mask)).hub ∧
      t.held.find (r.base off) = none)

/-- R426 and R430. -/
def Obligations.RefusedAccesses : Prop :=
  (∀ (s : State) (bar : Bar) (off len : Nat) (full write : Bool), s.barOpen (barFn bar) = true →
    (¬((len = 4 ∨ len = 8) ∧ off % len = 0) ∨ (write = true ∧ full = false)) →
    exec (.badAccess bar off len full write) s =
      .next { s.hubSetN PCE_BAD_ACCESSES (min 0xFFFFFFFF (s.hubNat PCE_BAD_ACCESSES + 1)) with
              tx := s.tx ++ if write then [] else [.cpl 0] }) ∧
  (∀ (s : State) (fn : Nat) (posted : Bool), s.up = true → s.fnExists fn = false →
    exec (.unsupportedRequest fn posted) s = .next { s with tx := s.tx ++ if posted then [] else [.cplUr] }) ∧
  (∀ (s : State) (fn : Nat) (posted : Bool), s.up = true → s.fnExists fn = true → ∃ t : State,
    exec (.unsupportedRequest fn posted) s = .next t ∧
    t.tx = s.tx ++ (if posted then [.err fn 1] else [.cplUr, .err fn 0]) ∧ t.hub = s.hub ∧ t.fns = s.fns)

/-- R36 to R42. -/
def Obligations.IdentityBlock : Prop :=
  (∀ s : State, s.up = true → s.ident.commits = [] → tagWritable s.lc = true → s.ident.next < 16 →
    ∃ t : State, exec .tagCommitPf s = .next t ∧ t.ident.commits = [true] ∧ t.tx = s.tx ∧
      t.ident.burn = (s.hubBytesGet IDN_TAG_STAGE_PF 256).take 252 ++
        leBytes 4 (crc32 ((s.hubBytesGet IDN_TAG_STAGE_PF 256).take 252)).toNat) ∧
  (∀ s : State, s.up = true → s.ident.commits = [] → tagWritable s.lc = true → s.ident.next < 16 →
    ∃ t : State, exec .tagCommitI3c s = .next t ∧ t.ident.commits = [false] ∧ t.tx = s.tx ++ [.i3c 0 0] ∧
      t.ident.burn = (s.hubBytesGet IDN_TAG_STAGE_I3C 256).take 252 ++
        leBytes 4 (crc32 ((s.hubBytesGet IDN_TAG_STAGE_I3C 256).take 252)).toNat) ∧
  (∀ (s : State) (pf : Bool), s.up = true → s.ident.burn ≠ [] → s.ident.commits = [pf] →
    ∃ t : State, exec (.tagCommitDone true) s = .next t ∧ t.ident.commits = [] ∧
      t.ident.tagOtp = (s.ident.putGen s.ident.next s.ident.burn).tagOtp ∧ fieldOf (t.hubNat IDN_TAG_STATUS) 8 4 = tagDone) ∧
  (∀ (s : State) (off : Nat), s.up = true →
    exec (.i3cRead off) s = .next (s.send (.i3c 0 (s.idnWord (off % 65536 / 4 * 4))))) ∧
  (∀ (s : State) (off : Nat) (data : W32), s.up = true → IDN_TAG_STAGE_I3C ≤ off → off < IDN_TAG_STAGE_I3C + 256 → off % 4 = 0 →
    exec (.i3cWrite off data) s = .next ((s.hubSetN off data.toNat).send (.i3c 0 0))) ∧
  (∀ (s : State) (off : Nat) (data : W32), s.up = true → (off < IDN_TAG_STAGE_I3C ∨ IDN_TAG_STAGE_I3C + 256 ≤ off) →
    off ≠ IDN_TAG_COMMIT → exec (.i3cWrite off data) s = .next (s.send (.i3c 1 0)))

/-! ### The stile and the rings -/

/-- R43 to R46, R59 and R425. -/
def Obligations.StileSlots : Prop :=
  (∀ (s : State) (fn i : Nat) (cells : List (Nat × Byte)), s.barOpen fn = true → i < 4096 → s.boot.ready = true →
    ((s.fn fn).slot i).st ≠ .sealed → (∀ c ∈ cells, c.1 ≠ 255) → ∃ t : State, exec (.stileWrite fn i false cells) s = .next t ∧
      ((t.fn fn).slot i).st = .filling ∧ ((t.fn fn).slot i).bytes = setBytes ((s.fn fn).slot i).bytes cells ∧
      (∀ k, k ≠ i → (t.fn fn).slot k = (s.fn fn).slot k) ∧ t.mem = s.mem) ∧
  (∀ (s : State) (fn i : Nat) (cells : List (Nat × Byte)), s.barOpen fn = true → i < 4096 → s.boot.ready = true →
    ((s.fn fn).slot i).st = .sealed → ∃ t : State, exec (.stileWrite fn i false cells) s = .next t ∧ exec (.recordSeal fn i cells) s = .next t ∧
      (t.fn fn).slots = (s.fn fn).slots ∧ t.fnNat fn STL_BUSY_WRITES = min 0xFFFFFFFF (s.fnNat fn STL_BUSY_WRITES + 1)) ∧
  (∀ (s : State) (fn i : Nat) (cells : List (Nat × Byte)), s.up = true → ∃ t : State, exec (.stileWrite fn i true cells) s = .next t ∧
    t.fns = s.fns ∧ t.tx = s.tx ++ [.err fn 0]) ∧
  (∀ (s : State) (fn i : Nat) (cells : List (Nat × Byte)), s.barOpen fn = true → i < 4096 → s.boot.ready = true →
    ((s.fn fn).slot i).st ≠ .sealed → (∃ c ∈ cells, c.1 = 255) → ∃ u : State, exec (.recordSeal fn i cells) s = .next (u.judge fn i) ∧
      ((u.fn fn).slot i).st = .sealed ∧ ((u.fn fn).slot i).bytes = setBytes ((s.fn fn).slot i).bytes cells ∧
      ((u.fn fn).slot i).since = s.time ∧ (u.fn fn).entries = (s.fn fn).entries ∧ u.mem = s.mem) ∧
  (∀ (s : State) (fn i : Nat), s.up = true → ((s.fn fn).slot i).st = .filling → ((s.fn fn).slot i).since + 10000000 ≤ s.time →
    ∃ t : State, exec (.slotAbandon fn i) s = .next t ∧ (t.fn fn).slots = (s.fn fn).slots.del i ∧
      t.fnNat fn STL_ABANDONED = min 0xFFFFFFFF (s.fnNat fn STL_ABANDONED + 1) ∧ t.tx = s.tx) ∧
  (∀ (s : State) (fn i : Nat), s.up = true → s.boot.ready = true → ((s.fn fn).slot i).st = .sealed → ((s.fn fn).slot i).held = true →
    ((s.fn fn).slot i).accepting = none → ((s.fn fn).slot i).since + s.fnNat fn STL_GAP_HOLD * 1000 ≤ s.time → (s.fn fn).bound = true →
    (s.fn fn).noticeCount < 256 → 1 < (s.fn fn).distance (recordOf ((s.fn fn).slot i)) →
    (s.fn fn).distance (recordOf ((s.fn fn).slot i)) < 2 ^ 47 → ∃ t : State, exec (.gapHoldExpiry fn i) s = .next t ∧
      (t.fn fn).slot i = Slot.empty ∧ t.fnNat fn STL_REFUSE_COUNT = min 0xFFFFFFFF (s.fnNat fn STL_REFUSE_COUNT + 1))

/-- R63 and R73. -/
def Obligations.RecordsAccepted : Prop :=
  (∀ (s : State) (fn e : Nat) (a b : Bool) (j : JEntry), s.entry fn e = some j → j.st = .free → s.running = true →
    (((j.twinA || a) && (j.twinB || b)) || ((s.fn fn).journalSingle && ((j.twinA || a) || (j.twinB || b)))) = true →
    ∃ (u : State) (k : JEntry), exec (.journalEntryWritten fn e a b) s = .next (((u.acceptEffects fn e k).progress fn).intake fn) ∧
      u.entry fn e = some k ∧ k.st = .accepted ∧ k.record = j.record ∧
      (u.fn fn).watermark (recStream j.record) = recSeq j.record % 2 ^ 64 ∧ u.mem = s.mem) ∧
  (∀ (s : State) (fn e : Nat) (a b : Bool) (j : JEntry), s.entry fn e = some j → j.st = .free → s.running = true →
    (((j.twinA || a) && (j.twinB || b)) || ((s.fn fn).journalSingle && ((j.twinA || a) || (j.twinB || b)))) = false →
    ∃ t : State, exec (.journalEntryWritten fn e a b) s = .next t ∧
      t.entry fn e = some { j with twinA := j.twinA || a, twinB := j.twinB || b } ∧
      (t.fn fn).regs = (s.fn fn).regs)

/-- R71, R74 and R96; R69 to R71, R79, R80, R93 and R94. -/
def Obligations.Rings : Prop :=
  ((∀ (s : State) (fn : Nat) (v : W32), s.barOpen fn = true →
    (v.toNat + 2 ^ 32 - s.fnNat fn STL_RING_HEAD) % 2 ^ 32 ≤ ((s.fn fn).ringWritten + 2 ^ 32 - s.fnNat fn STL_RING_HEAD) % 2 ^ 32 →
    ∃ u : State, exec (.ringHeadWrite fn v) s = .next (((u.progress fn).intake fn).noteDrained fn) ∧ u.fnNat fn STL_RING_HEAD = v.toNat ∧
      (u.fn fn).notices = (s.fn fn).notices.filter (fun n => !passed (s.fnNat fn STL_RING_HEAD) v.toNat n.index) ∧
      (∀ p ∈ (u.fn fn).entries, p ∈ (s.fn fn).entries ∧ ∀ i, p.2.st = .committed → p.2.ringIndex = some i →
        passed (s.fnNat fn STL_RING_HEAD) v.toNat i = false) ∧ u.mem = s.mem) ∧
  (∀ (s : State) (fn : Nat) (v : W32),
    ((s.fn fn).ringWritten + 2 ^ 32 - s.fnNat fn STL_RING_HEAD) % 2 ^ 32 < (v.toNat + 2 ^ 32 - s.fnNat fn STL_RING_HEAD) % 2 ^ 32 →
    exec (.ringHeadWrite fn v) s = .next s) ∧
  (∀ (s : State) (fn : Nat) (v : W64), s.barOpen fn = true → s.fnNat fn STL_AUDIT_HEAD ≤ v.toNat → v.toNat ≤ (s.fn fn).audit.written →
    ∃ u : State, exec (.auditHeadWrite fn v) s = .next (u.noteDrained fn) ∧ u.fnGet fn STL_AUDIT_HEAD = v ∧
      (u.fn fn).audit.next = (s.fn fn).audit.next ∧ u.mem = s.mem) ∧
  (∀ (s : State) (fn : Nat) (v : W64), (v.toNat < s.fnNat fn STL_AUDIT_HEAD ∨ (s.fn fn).audit.written < v.toNat) →
    exec (.auditHeadWrite fn v) s = .next s)) ∧
  ((∀ (s : State) (fn ha : Nat) (img : List Byte), s.releases = true → (s.fn fn).bound = true → (s.fn fn).ringWritten ≠ (s.fn fn).nextRing →
    ((s.fn fn).ringWritten + 2 ^ 32 - s.fnNat fn STL_RING_HEAD) % 2 ^ 32 < 2 ^ (s.fn fn).ringLog →
    (s.fn fn).dueReceipt (s.fn fn).ringWritten = some img →
    s.ringPlace fn ((s.fn fn).ringAddr + 32 * ((s.fn fn).ringWritten % 2 ^ (s.fn fn).ringLog)) = (some ha, s) →
    ∃ u : State, exec (.receiptWrite fn) s = .next (u.raiseInt intReceipt) ∧ u.tx = s.tx ++ [.hostWrite fn ha img] ∧
      (u.fn fn).ringWritten = ((s.fn fn).ringWritten + 1) % 2 ^ 32 ∧ (u.fn fn).entries = (s.fn fn).entries) ∧
  (∀ (s : State) (fn ha : Nat), s.releases = true → (s.fn fn).bound = true → (s.fn fn).audit.written < (s.fn fn).audit.next →
    (∀ c ∈ (s.fn fn).audit.unsigned, c.index ≠ (s.fn fn).audit.written) → (s.fn fn).outPending (s.fn fn).audit.written = false →
    (s.fn fn).audit.written < s.fnNat fn STL_AUDIT_HEAD + 2 ^ (s.fn fn).auditLog →
    s.ringPlace fn ((s.fn fn).auditAddr + 256 * (((s.fn fn).audit.written - (s.fn fn).audit.origin) % 2 ^ (s.fn fn).auditLog)) =
      (some ha, s) →
    ∃ u : State, exec (.auditWrite fn) s = .next (u.noteDrained fn) ∧
      u.tx = s.tx ++ [.hostWrite fn ha (putAt ((s.fn fn).audit.entries.get (zeros 256) (s.fn fn).audit.written) 5
        (auditPhase (s.fn fn).auditLog ((s.fn fn).audit.written - (s.fn fn).audit.origin)))] ∧
      (u.fn fn).audit.written = (s.fn fn).audit.written + 1 ∧ (u.fn fn).audit.chain = (s.fn fn).audit.chain) ∧
  (∀ (s : State) (fn : Nat) (c : Ckpt) (rest : List Ckpt), (s.fn fn).audit.unsigned = c :: rest →
    c.index ≠ (s.fn fn).audit.written → ∃ t : State, exec (.checkpointSigned fn) s = .next t ∧ (t.fn fn).audit.unsigned = rest ∧ t.tx = s.tx) ∧
  (∀ (s : State) (fn : Nat), s.running = true → (s.fn fn).bound = true → s.fnNat fn STL_WM_PERIOD ≠ 0 →
    s.time % (s.fnNat fn STL_WM_PERIOD * 1000) = 0 → ∃ t : State, exec (.watermarkTick fn) s = .next t ∧
      t.fn fn = (List.range 16).foldl Fn.watermarkReceipt (s.fn fn) ∧ t.tx = s.tx))

/-! ### Records that run no program -/

/-- R50, R64, R92, R448 and R451; R448 step 3. -/
def Obligations.QuiesceAndSimpleRecords : Prop :=
  ((∀ (s : State) (fn e : Nat) (j : JEntry), s.open fn e tNop = some j → (s.fn fn).mayStart j = true →
    ∃ u : State, exec (.nopRecord fn e) s = .next (u.progress fn) ∧
      u.entry fn e = some { j with outcome := some (stOk, 0), busy := false, src := [] } ∧ u.groups = s.groups ∧ u.mem = s.mem ∧ u.tx = s.tx) ∧
  (∀ (s : State) (fn e : Nat) (j : JEntry), s.inTurn fn e tAuditClose = some j → ∃ u : State, exec (.auditClose fn e) s = .next (u.progress fn) ∧
      u.entry fn e = some { j with outcome := some (stOk, 0), busy := false, src := [] } ∧
      (u.fn fn).audit = ((if (s.fn fn).audit.sinceAny then s.checkpoint fn else s).fn fn).audit ∧ u.mem = s.mem) ∧
  (∀ (s : State) (fn e : Nat) (j : JEntry), s.inTurn fn e tResume = some j → (s.fn fn).pdk = pdkQuiesced →
    ∃ u : State, exec (.resume fn e) s = .next (u.progress fn) ∧ (u.fn fn).pdk = pdkOpen ∧
      u.entry fn e = some { j with outcome := some (stOk, 0), busy := false, src := [] } ∧ u.mem = s.mem) ∧
  (∀ (s : State) (fn e : Nat) (j : JEntry), s.open fn e tQuiesce = some j → exec (.quiesce fn e) s = .next (s.progress fn))) ∧
  ((∀ (s : State) (fn : Nat) (q : Quiesce), (s.fn fn).quiesce = some q → s.running = true → (s.fn fn).pdk = pdkQuiescing →
    q.since + q.timeoutUs * 1000 ≤ s.time → ∃ u : State, exec (.quiesceTimeout fn) s = .next (u.progress fn) ∧
      u = (s.fn fn).inOrder.foldl (fun s p => match s.grp (gidOf fn p.1) with
        | some g => if g.phase == .launching || g.phase == .running || g.phase == .saving || g.phase == .switchedOut then
            s.endRecord (gidOf fn p.1) fn p.1 stQuiesced 0 else s
        | none => s) s) ∧
  (∀ (s : State) (fn : Nat) (q : Quiesce), (s.fn fn).quiesce = some q → s.time < q.since + q.timeoutUs * 1000 →
    exec (.quiesceTimeout fn) s = .next s))

/-- R52, R68, R89 and R457. -/
def Obligations.BindRecords : Prop :=
  ∀ (s : State) (fn e : Nat) (j : JEntry), s.inTurn fn e tBind = some j →
    ∃ u : State, exec (.bind fn e) s = .next ((((u.modFn fn (fun f => f.addCompletion e j stOk 0 false f.audit.origin)).commitEntry fn e).progress
        fn).pump fn) ∧
      (u.fn fn).bound = true ∧ (u.fn fn).ringAddr = fieldAt j.record 32 8 ∧ (u.fn fn).auditAddr = fieldAt j.record 48 8 ∧
      (u.fn fn).ringLog = fieldAt j.record 40 1 ∧ (u.fn fn).auditLog = fieldAt j.record 56 1 ∧ u.fnNat fn STL_RING_HEAD = 0 ∧
      (u.fn fn).ringWritten = 0 ∧ (u.fn fn).nextRing = (s.fn fn).carried.length ∧ (u.fn fn).carried = [] ∧
      (u.fn fn).audit.started = true ∧ u.mem = s.mem

/-- R105 to R113. -/
def Obligations.LoadRecords : Prop :=
  (∀ (s : State) (fn e : Nat) (j : JEntry), s.loadReady fn e tLoadProgram = some j → j.busy = false →
    ∃ u : State, exec (.loadProgram fn e) s = .next (u.pumpLoad fn e) ∧ u.entry fn e = some { j with busy := true } ∧ u.mem = s.mem ∧ u.tx = s.tx) ∧
  (∀ (s : State) (fn e : Nat) (j : JEntry), s.loadReady fn e tLoadWeights = some j → j.busy = false →
    ∃ u : State, exec (.loadWeights fn e) s = .next (u.pumpLoad fn e) ∧ u.entry fn e = some { j with busy := true } ∧ u.mem = s.mem ∧ u.tx = s.tx) ∧
  (∀ (s : State) (fn e : Nat) (j : JEntry) (image : List Byte) (h : Handle), s.entry fn e = some j → s.running = true → j.busy = true →
    j.st = .accepted → j.outcome = none → (s.fn fn).earlierOpen j = false → imageOf j = some image →
    (s.fn fn).handles.find (fieldAt j.record 32 4) = some h →
    ∃ u : State, exec (.loadCopyDone fn e) s = .next ((u.commitEntry fn e).progress fn) ∧
      (u.fn fn).handles.find (fieldAt j.record 32 4) = some { h with st := .loaded, digest := s.loadDigest j.record image } ∧
      u.mem = (s.placeImage fn j.record image h).mem ∧ (u.fn fn).audit.next = (s.fn fn).audit.next + 1 +
        (if 4096 ≤ (s.fn fn).audit.since + 1 ∧ (s.fn fn).audit.started = true then 1 else 0)) ∧
  (∀ (s : State) (fn e : Nat) (j : JEntry), s.loadReady fn e tUnload = some j → (s.fn fn).earlierOpen j = false →
    ∃ u : State, exec (.unload fn e) s = .next (u.progress fn) ∧ (u.fn fn).handles.find (fieldAt j.record 32 4) = none ∧
      u.entry fn e = some { j with outcome := some (stOk, 0), busy := false, src := [] } ∧ u.mem = s.mem ∧ u.flash = s.flash)
/-! ### Directory and table records -/

/-- R272 to R277. -/
def Obligations.DirectoryRecords : Prop :=
  (∀ (s : State) (fn e : Nat) (j : JEntry), s.open fn e tDirInsert = some j → (s.fn fn).streamClear j = true →
    (s.fn fn).noInvalidate j = true → s.bucketBusy fn (s.dirPlace fn (dirKey j.record)).1 j = false →
    ∀ en : DirEntry, s.dirEntry fn (s.dirPlace fn (dirKey j.record)).1 = en → en.st ≠ .damaged →
    (en.st = .active → s.badRange (dirPage en en.sel) 8192 = false) →
    ∀ old : List DirSlot, old = (if en.st = .empty then [] else s.pageSlots (dirPage en en.sel) en.count) →
    ∀ x : DirSlot, x = ⟨(s.dirPlace fn (dirKey j.record)).2, dirKey j.record, fieldAt j.record 40 8 % 2 ^ 48, fieldAt j.record 48 4, fn⟩ →
    ∀ new : List DirSlot, new = (if ∃ y ∈ old, y.key = x.key then old.map (fun y => if y.key = x.key then x else y) else old ++ [x]) →
    ∃ u : State, exec (.dirInsert fn e) s = .next (u.progress fn) ∧
      u.dirEntry fn (s.dirPlace fn (dirKey j.record)).1 = ⟨en.gen + 2, new.length, .active, !en.sel, en.pair⟩ ∧
      u.mem = (s.commitAll (dirPage en (!en.sel)) (pageImage (en.gen + 2) (s.dirPlace fn (dirKey j.record)).1 fn (boolN (!en.sel)) new)).mem ∧
      u.entry fn e = some { j with outcome := some (stOk, 0), busy := false, src := [] } ∧ u.groups = s.groups) ∧
  (∀ (s : State) (fn e : Nat) (j : JEntry), s.open fn e tDirDelete = some j → (s.fn fn).streamClear j = true →
    (s.fn fn).noInvalidate j = true → s.bucketBusy fn (s.dirPlace fn (dirKey j.record)).1 j = false → dirWhole j.record = false →
    ∀ en : DirEntry, s.dirEntry fn (s.dirPlace fn (dirKey j.record)).1 = en → en.st = .active →
    s.badRange (dirPage en en.sel) 8192 = false →
    ∀ (old : List DirSlot) (last : DirSlot), s.pageSlots (dirPage en en.sel) en.count = old ++ [last] →
    (∃ y ∈ old ++ [last], y.key = dirKey j.record) →
    ∃ u : State, exec (.dirDelete fn e) s = .next (u.progress fn) ∧
      u.dirEntry fn (s.dirPlace fn (dirKey j.record)).1 =
        ⟨en.gen + 2, old.length, if old = [] then .empty else .active, !en.sel, en.pair⟩ ∧
      u.mem = (s.commitAll (dirPage en (!en.sel)) (pageImage (en.gen + 2) (s.dirPlace fn (dirKey j.record)).1 fn (boolN (!en.sel))
        (old.map (fun y => if y.key = dirKey j.record then last else y)))).mem ∧
      u.entry fn e = some { j with outcome := some (stOk, 0), busy := false, src := [] }) ∧
  (∀ (s : State) (fn e : Nat) (j : JEntry), s.open fn e tDirDelete = some j → (s.fn fn).streamClear j = true →
    (s.fn fn).noInvalidate j = true → s.bucketBusy fn (s.dirPlace fn (dirKey j.record)).1 j = false → dirWhole j.record = true →
    ∀ en : DirEntry, s.dirEntry fn (s.dirPlace fn (dirKey j.record)).1 = en →
    ∃ u : State, exec (.dirDelete fn e) s = .next (u.progress fn) ∧
      u.dirEntry fn (s.dirPlace fn (dirKey j.record)).1 = ⟨en.gen + 2, 0, .empty, !en.sel, en.pair⟩ ∧
      u.entry fn e = some { j with outcome := some (stOk, 0), busy := false, src := [] }) ∧
  (∀ (s : State) (fn e : Nat) (j : JEntry) (del : Bool), s.open fn e (if del then tDirDelete else tDirInsert) = some j →
    (s.fn fn).streamClear j = true → (s.fn fn).noInvalidate j = true →
    s.bucketBusy fn (s.dirPlace fn (dirKey j.record)).1 j = false → dirWhole j.record = false →
    (s.dirEntry fn (s.dirPlace fn (dirKey j.record)).1).st = .damaged →
    ∃ u : State, exec (if del then .dirDelete fn e else .dirInsert fn e) s = .next (u.progress fn) ∧ u.ms = s.ms ∧ u.mem = s.mem ∧
      u.fnNat fn MCT_POISON_COMPLETIONS = min 0xFFFFFFFF (s.fnNat fn MCT_POISON_COMPLETIONS + 1) ∧
      u.entry fn e = some { j with outcome := some (stPoisoned, 0), busy := false, src := [] }) ∧
  (∀ (s : State) (b fn g0 c0 g1 c1 : Nat), s.bucketOwner b = some fn → s.up = true → g0 < g1 →
    s.pageHeader fn b (dirPage (s.dirEntry fn b) false) = some (g0, c0, 0) →
    s.pageHeader fn b (dirPage (s.dirEntry fn b) true) = some (g1, c1, 0) →
    ∃ u : State, exec (.dirEntryRebuild b) s = .next (u.report (padReport cDirRebuild .ce 0x09 b b fn 0)) ∧
      u.dirEntry fn b = ⟨g1, c1, if c1 = 0 then .empty else .active, true, (s.dirEntry fn b).pair⟩ ∧
      u.fnNat fn DIR_REBUILDS = min 0xFFFFFFFF (s.fnNat fn DIR_REBUILDS + 1) ∧ u.mem = s.mem)

/-- R391 to R398 and R402. -/
def Obligations.TableRecords : Prop :=
  (∀ (s : State) (fn e : Nat) (j : JEntry), s.open fn e tTableUpdate = some j → (s.fn fn).streamClear j = true →
    (s.fn fn).noTable j = true → ∃ u : State, exec (.tableUpdate fn e) s = .next (u.progress fn) ∧
      u.mem = ((List.range (fieldAt j.record 40 4)).foldl
        (fun s i => s.setPage fn (fieldAt j.record 32 8 + i * tuSize j.record) j.record i) s).mem ∧
      u.entry fn e = some { j with outcome := some (stOk, 0), busy := false, src := [] } ∧ u.groups = s.groups) ∧
  (∀ (s : State) (fn e tbl : Nat) (j : JEntry), s.open fn e tTableUpdate = some j → (s.fn fn).streamClear j = true →
    (s.fn fn).noTable j = true → fieldAt j.record 40 4 = 1 → fieldAt j.record 44 1 = 3 → fieldAt j.record 45 1 = 1 →
    tbl % 4096 = 0 → tbl < 2 ^ 47 → s.readNat (entAt (s.tableRoot fn) 3 (fieldAt j.record 32 8)) 8 = 2 ^ 63 + tbl →
    s.readNat (entAt tbl 2 (fieldAt j.record 32 8)) 8 = 0 →
    ∃ u : State, exec (.tableUpdate fn e) s = .next (u.progress fn) ∧
      u.mem = (s.commitStore (entAt tbl 2 (fieldAt j.record 32 8)) (leBytes 8 (2 ^ 63 + 2 ^ 61 +
        (if bitOf (fieldAt j.record 46 1) 0 then 2 ^ 60 else 0) + fieldAt j.record 48 8))).mem) ∧
  (∀ (s : State) (fn e : Nat) (j : JEntry), s.open fn e tInvalidate = some j → (s.fn fn).streamClear j = true →
    (∀ p ∈ (s.fn fn).entries, p.2.order < j.order → p.2.st = .committed) →
    ∃ u : State, exec (.invalidate fn e) s = .next (u.progress fn) ∧ u.mem = s.mem ∧
      (∀ t : Tlb, t ∈ (u.fn fn).xlt.tlb ↔ t ∈ (s.fn fn).xlt.tlb ∧ bitOf (fieldAt j.record 48 1) 0 = false ∧
        (t.direct = true ∨ t.va + 2 ^ t.log2 ≤ fieldAt j.record 32 8 ∨ fieldAt j.record 32 8 + fieldAt j.record 40 8 ≤ t.va)) ∧
      (∀ t ∈ (s.fn fn).freed, (bitOf (fieldAt j.record 48 1) 0 = true ∨ (fieldAt j.record 32 8 ≤ t.2.1 ∧
        t.2.1 + t.2.2 ≤ fieldAt j.record 32 8 + fieldAt j.record 40 8)) → t ∉ (u.fn fn).freed ∧ t.1 ∉ (u.fn fn).tables) ∧
      u.entry fn e = some { j with outcome := some (stOk, 0), busy := false, src := [] })

/-! ### Thread groups -/

/-- R115, R116, R119, R120, R266, R267 and R278 to R280. -/
def Obligations.WorkLaunch : Prop :=
  (∀ (s : State) (fn e : Nat) (j : JEntry), s.entry fn e = some j → j.eligibleSeen = false → s.eligible fn e = true →
    ∃ t : State, exec (.work fn e) s = .next t ∧ t.entry fn e = some { j with eligibleSeen := true } ∧ t.groups = s.groups ∧ t.mem = s.mem ∧
      (∀ p, (s.fn fn).program j.record = some p → (s.resources fn p = none ∨ s.mustWait fn e j = true) →
        t.fnNat fn DSP_HIRSEL_WAITS = min 0xFFFFFFFF (s.fnNat fn DSP_HIRSEL_WAITS + 1))) ∧
  (∀ (s : State) (fn e : Nat) (j : JEntry) (p : Handle) (q : List Nat × Nat), s.entry fn e = some j → j.eligibleSeen = true →
    s.eligible fn e = true → s.mustWait fn e j = false → (s.fn fn).program j.record = some p → s.resources fn p = some q →
    ∃ (u : State) (g : Grp), exec (.launch fn e) s = .next ((u.pumpInput (gidOf fn e)).noteRunning fn) ∧ u.grp (gidOf fn e) = some g ∧
      g.phase = .launching ∧ g.hirsels = q.1 ∧ g.privBase = q.2 ∧ g.prog = p ∧ g.threads = [] ∧ g.staged = [] ∧
      g.lookups.length = keyCount j.record ∧ u.entry fn e = some { j with attempts := j.attempts + 1 } ∧ u.mem = s.mem) ∧
  (∀ (s : State) (gid : Nat) (g : Grp) (l : Lookup), s.grp gid = some g → g.lookups.find? (fun x => x.id = l.id) = some l →
    g.phase ≠ .stopping → l.thread = none → l.state = 0 →
    ∃ t : State, exec (.lookupComplete gid l.id) s = .next t ∧ t.mem = s.mem ∧
      t.grp gid = some { g with lookups := g.lookups.filter (fun x => x.id != l.id), keyResults := g.keyResults.set l.keyIx (zeros 16) }) ∧
  (∀ (s : State) (gid : Nat) (g : Grp) (l : Lookup) (x : DirSlot), s.grp gid = some g → g.lookups.find? (fun x => x.id = l.id) = some l →
    g.phase ≠ .stopping → l.thread = none → l.state = 1 → x.tag = g.fn → mustRestart l (s.dirEntry g.fn l.bucket).gen = false →
    s.searchPage (dirPage (s.dirEntry g.fn l.bucket) l.sel) l.count l.key l.finger = some (some x) →
    ∃ t : State, exec (.lookupComplete gid l.id) s = .next t ∧ t.mem = s.mem ∧
      t.fnNat g.fn DIR_HITS = min 0xFFFFFFFF (s.fnNat g.fn DIR_HITS + 1) ∧
      t.grp gid = some { g with lookups := g.lookups.filter (fun x => x.id != l.id),
                                keyResults := g.keyResults.set l.keyIx (keyResult x.addr x.len) }) ∧
  (∀ (s : State) (gid : Nat) (g : Grp) (l : Lookup), s.grp gid = some g → g.lookups.find? (fun x => x.id = l.id) = some l →
    g.phase ≠ .stopping → l.state = 1 → l.restarted = false → 2 * (l.gen / 2) + 3 ≤ (s.dirEntry g.fn l.bucket).gen →
    s.searchPage (dirPage (s.dirEntry g.fn l.bucket) l.sel) l.count l.key l.finger = some none →
    ∃ (t : State) (g' : Grp), exec (.lookupComplete gid l.id) s = .next t ∧ t.mem = s.mem ∧ t.grp gid = some g' ∧
      g'.lookups.length = g.lookups.length ∧ (∀ y ∈ g'.lookups, y.id = l.id → y.restarted = true) ∧
      g'.keyResults = g.keyResults ∧ t.fnNat g.fn DIR_RESTARTS = min 0xFFFFFFFF (s.fnNat g.fn DIR_RESTARTS + 1)) ∧
  (∀ (s v : State) (gid : Nat) (g h : Grp), s.grp gid = some g → g.phase = .launching → (∀ l ∈ g.lookups, l.thread ≠ none) →
    v = (List.range (keyCount (s.recOf g))).foldl (fun s k => s.gatherKey gid k) s → v.grp gid = some h → h.phase = .launching →
    ∃ (u : State) (h' : Grp), exec (.gatherComplete gid) s = .next ((u.pumpInput gid).noteRunning g.fn) ∧ u.grp gid = some h' ∧ h'.phase = .running ∧
      h'.gathered = h.gathered ∧ (∀ i, i < h.count → ∃ th, h'.th i = some th ∧ th.st = .running ∧
        th.pc = BitVec.ofNat 64 (imageVa + h.prog.offset + h.prog.entry) ∧ th.xr 1 = BitVec.ofNat 64 i ∧
        th.xr 2 = BitVec.ofNat 64 h.count ∧ th.xr 3 = 0x7FC00 ∧ (∀ r, 3 < r → th.xr r = 0) ∧ th.v = [] ∧ th.p = []))

/-- R55, R118, R201 and R203 to R206. -/
def Obligations.GroupEnds : Prop :=
  (∀ (s : State) (gid : Nat) (g : Grp) (got : List (LoadPart × List Byte × Bool)), s.grp gid = some g → g.inputPending = true →
    g.phase ≠ .launching → g.phase ≠ .stopping → g.threads ≠ [] →
    (∀ p ∈ cut (inAddr (s.recOf g)) (inLen (s.recOf g)) 4096, ∃ q ∈ g.input, q.lane = p.1 ∧ q.ready s g = true) →
    got = (cut (inAddr (s.recOf g)) (inLen (s.recOf g)) 4096).map (fun p => match g.input.find? (fun q => q.lane = p.1) with
      | some q => (q, s.readPart g q)
      | none => (⟨0, .core 0, 0, none⟩, [], false)) →
    (∀ x ∈ got, x.2.2 = false) →
    ∃ (t : State) (g' : Grp), exec (.inputDigestDone gid) s = .next t ∧ t.mem = s.mem ∧ t.grp gid = some g' ∧ g'.inputPending = false ∧
      g'.staged = g.staged ∧ g'.threads = g.threads ∧
      g'.inputDigest = some (sha384 (((s.recOf g).drop 32).take 216 ++ (got.map (fun x => x.2.1.take x.1.size)).flatten ++
        ((List.range (keyCount (s.recOf g))).map (fun k => g.keyRes k ++ g.gathered.get [] k)).flatten))) ∧
  (∀ (s : State) (gid : Nat) (g : Grp) (j : JEntry), s.grp gid = some g → s.entry g.fn g.entry = some j → g.phase = .stopping →
    (s.fn g.fn).earlierOpen j = false → g.poison = false →
    exec (.groupAbortDone gid) s = .next ((s.endRecord gid g.fn g.entry stFaulted (g.code.getD xDatapath)).progress g.fn)) ∧
  (∀ (s : State) (gid : Nat) (g : Grp) (j : JEntry), s.grp gid = some g → s.entry g.fn g.entry = some j → g.phase = .stopping →
    (s.fn g.fn).earlierOpen j = false → g.poison = true →
    ∃ u : State, exec (.groupAbortDone gid) s = .next ((u.endRecord gid g.fn g.entry stPoisoned 0).progress g.fn) ∧ u.groups = s.groups ∧
      u.fnNat g.fn MCT_POISON_COMPLETIONS = min 0xFFFFFFFF (s.fnNat g.fn MCT_POISON_COMPLETIONS + if g.memPoison then 1 else 0)) ∧
  (∀ (s : State) (gid fn e status detail : Nat), (s.endRecord gid fn e status detail).grp gid = none) ∧
  (∀ (s : State) (gid i : Nat) (g : Grp), s.grp gid = some g → s.longFault gid = some i → g.phase = .running → s.running = true →
    s.hirselWaiter g.fn = true → ∃ t : State, exec (.switchOutTrigger gid) s = .next t ∧
      t.grp gid = some { g with phase := .saving, faulter := some i } ∧ t.mem = s.mem) ∧
  (∀ (s : State) (gid : Nat) (g : Grp), s.grp gid = some g → g.phase = .saving → g.drained = true →
    ∃ t : State, exec (.switchOutSaved gid) s = .next t ∧
      t.grp gid = some { g with phase := .switchedOut, saved := if g.threads = [] then [] else s.coreBytes g }) ∧
  (∀ (s : State) (gid : Nat) (g : Grp), s.grp gid = some g → s.restorable gid = true → s.running = true →
    g.size ≤ (s.freeHirsels g.fn).length → g.code = none → g.poison = false → g.threads ≠ [] →
    ∃ t : State, exec (.groupRestore gid) s = .next t ∧
      t.grp gid = some { g with phase := .running, hirsels := (s.freeHirsels g.fn).take g.size, saved := [], faulter := none }) ∧
  (∀ (s : State) (gid : Nat) (g : Grp), s.grp gid = some g → s.restorable gid = true → s.running = true →
    g.size ≤ (s.freeHirsels g.fn).length → (g.code ≠ none ∨ g.poison = true) →
    ∃ t : State, exec (.groupRestore gid) s = .next t ∧ t.mem = s.mem ∧
      t.grp gid = some { g with phase := .stopping, hirsels := (s.freeHirsels g.fn).take g.size, saved := [], faulter := none })

/-- R54, R77 and R244. -/
def Obligations.ReleaseSteps : Prop :=
  (∀ (s : State) (fn e off : Nat) (j : JEntry) (g : Grp), s.open fn e tWork = some j → s.grp (gidOf fn e) = some g → g.phase = .ended →
    g.windowsClosed = true → g.inputDigest ≠ none → g.code = none → g.poison = false → j.stage = .none →
    (s.fn fn).earlierOpen j = false → s.windowQuiet (gidOf fn e) = true → (s.fn fn).logFree (g.releaseSet j.record).length = some off →
    ∃ t : State, exec (.releaseStart fn e) s = .next t ∧ t.entry fn e = some { j with
        stage := .logging, logOffset := off, logLength := (g.releaseSet j.record).length, logSet := g.releaseSet j.record } ∧
      t.groups = s.groups ∧ t.mem = s.mem ∧ t.tx = s.tx) ∧
  (∀ (s : State) (fn e : Nat) (j : JEntry) (g : Grp), s.open fn e tWork = some j → s.grp (gidOf fn e) = some g → j.stage = .logging →
    ∃ (u : State) (k : JEntry), exec (.releaseLogged fn e) s = .next ((((u.noteRunning fn).leaveHirsels).pumpOut fn).progress fn) ∧
      u.grp (gidOf fn e) = none ∧ u.entry fn e = some k ∧ k.st = .releasing ∧ k.auditIndex = some (s.fn fn).audit.next ∧
      k.left = pagesOf j.logSet ∧ k.record = j.record ∧ k.logSet = j.logSet ∧ u.mem = s.mem ∧
      ((s.fn fn).carrying = false → k.ringIndex = some (s.fn fn).nextRing ∧ (u.fn fn).nextRing = ((s.fn fn).nextRing + 1) % 2 ^ 32)) ∧
  (∀ (s : State) (fn e a : Nat) (j : JEntry), s.entry fn e = some j → j.auditIndex = some a → s.releases = true → j.st = .releasing →
    j.left = [] → a < (s.fn fn).audit.written → ∃ u : State, exec (.recordCommit fn e) s = .next (u.progress fn) ∧
      u.entry fn e = some { j with stage := .none, logSet := [], st := .committed, busy := false } ∧ u.groups = s.groups ∧ u.mem = s.mem)

/-! ### Instructions of a thread -/

namespace Sys2Proof.Claims

/-- A running thread of a running group whose PC lies in the image at a line that is not poisoned. -/
abbrev Issues (s : State) (t : Thr) (g : Grp) (th : Thread) : Prop :=
  s.grp t.gid = some g ∧ g.th t.idx = some th ∧ g.phase = .running ∧ th.st = .running ∧ g.inImage th.pc = true ∧
    s.anyPoison (s.imageBase g.fn + (th.pc.toNat - imageVa)) 8 = false

/-- The thread and guard of an instruction that a thread issues. -/
def issuedBy (i : Instr) : Option (Thr × BitVec 5) :=
  match i with
  | .nop t f | .exit t f | .addi t f | .andi t f | .ori t f | .xori t f | .slli t f | .srli t f | .srai t f | .li t f | .lih t f
  | .cmpi t f | .vcvt t f | .waitm t f | .chkSync t f | .rdtime t f | .rdcnt t f | .rand t f => some (t, f.grd)
  | .add t f | .sub t f | .mul t f | .mulh t f | .mulhu t f | .div t f | .divu t f | .rem t f | .remu t f | .opAnd t f | .opOr t f
  | .opXor t f | .sll t f | .srl t f | .sra t f | .cmp t f | .opMin t f | .opMax t f | .minu t f | .maxu t f | .sel t f | .clz t f
  | .ctz t f | .popc t f | .pand t f | .por t f | .pxor t f | .pnot t f | .movpx t f | .movxp t f | .vadd t f | .vsub t f | .vmul t f
  | .vfma t f | .vmin t f | .vmax t f | .vabs t f | .vneg t f | .vdiv t f | .vsqrt t f | .vexp2 t f | .vlog2 t f | .vcmp t f
  | .vsel t f | .vand t f | .vor t f | .vxor t f | .vsll t f | .vsrl t f | .vsra t f | .vbcast t f | .vext t f | .vins t f
  | .vperm t f | .vredSum t f | .vredMin t f | .vredMax t f | .vlane t f | .mcopy t f | .feval t f | .fwait t f | .dfind t f
  | .chkCmp t f | .chkAssert t f => some (t, f.grd)
  | .bc t f | .jal t f | .jalr t f => some (t, f.grd)
  | .ld t f | .st t f | .ldAcq t f | .stRel t f | .vld t f | .vst t f => some (t, f.grd)
  | .vldG t f | .vstS t f => some (t, f.grd)
  | .atomAdd t f | .atomFadd t f | .atomSwap t f | .atomCas t f | .atomMin t f | .atomMax t f => some (t, f.grd)
  | .fence t f | .hurdle t f | .harrive t f | .hwait t f | .hurdleSum t f | .collect t f => some (t, f.grd)
  | .tzero t f | .tmma t f | .trd t f | .twait t f => some (t, f.grd)
  | _ => none

/-- G, N and P of a guard are well formed, and at lane `i` bit `i` of pP, exclusive-ORed with N, is 1 (R158). -/
abbrev GuardAt (th : Thread) (grd : BitVec 5) (i : Nat) : Prop :=
  grd = 0 ∨ (grd.getLsbD 4 = true ∧ ((th.pr (grd.toNat % 8)).getLsbD i != grd.getLsbD 3) = true)

abbrev GuardFalse (th : Thread) (grd : BitVec 5) : Prop :=
  grd.getLsbD 4 = true ∧ ((th.pr (grd.toNat % 8)).getLsbD 0 != grd.getLsbD 3) = false

/-- No load or directory find of the thread has still to write the register (R154). -/
abbrev FreeX (th : Thread) (r : BitVec 6) : Prop := r = 0 ∨ r.toNat ∉ th.pendX
abbrev FreeV (th : Thread) (r : BitVec 6) : Prop := r.toNat ∉ th.pendV
/-- A vector instruction under a guard keeps inactive lanes, so it reads its destination. -/
abbrev FreeD (th : Thread) (grd : BitVec 5) (d : BitVec 6) : Prop := grd = 0 ∨ d.toNat ∉ th.pendV

/-- The instruction wrote xD (x0 stays zero), the PC is past it, and no other register has changed. -/
def WroteX (th th' : Thread) (d : BitVec 6) (v : W64) : Prop :=
  th'.xr d.toNat = (if d = 0 then 0 else v) ∧ (∀ r, r ≠ d.toNat → th'.xr r = th.xr r) ∧ th'.v = th.v ∧ th'.p = th.p ∧
    th'.pc = th.pc + 8 ∧ th'.st = th.st ∧ th'.windows = th.windows + 1 ∧ th'.mcopies = th.mcopies ∧ th'.fevals = th.fevals
def WroteP (th th' : Thread) (d : BitVec 6) (v : W32) : Prop :=
  th'.pr d.toNat = v ∧ (∀ r, r ≠ d.toNat → th'.pr r = th.pr r) ∧ th'.x = th.x ∧ th'.v = th.v ∧
    th'.pc = th.pc + 8 ∧ th'.st = th.st ∧ th'.windows = th.windows + 1 ∧ th'.mcopies = th.mcopies ∧ th'.fevals = th.fevals
def WroteV (th th' : Thread) (d : BitVec 6) (h : Nat → W32) : Prop :=
  (∀ i, i < 32 → laneAt (th'.vr d.toNat) i = h i) ∧ (∀ r, r ≠ d.toNat → th'.vr r = th.vr r) ∧ th'.x = th.x ∧ th'.p = th.p ∧
    th'.pc = th.pc + 8 ∧ th'.st = th.st ∧ th'.windows = th.windows + 1 ∧ th'.mcopies = th.mcopies ∧ th'.fevals = th.fevals

end Sys2Proof.Claims

/-- R153, R157, R200, R201 and R669. -/
def Obligations.ThreadsIssue : Prop :=
  (∀ (i : Instr) (t : Thr) (grd : BitVec 5) (s : State), issuedBy i = some (t, grd) →
    (∀ g th, s.grp t.gid = some g → g.th t.idx = some th → g.phase ≠ .running ∨ th.st ≠ .running) → exec i s = .next s) ∧
  (∀ (i : Instr) (t : Thr) (grd : BitVec 5) (s : State) (g : Grp) (th : Thread), issuedBy i = some (t, grd) → s.grp t.gid = some g →
    g.th t.idx = some th → g.phase = .running → th.st = .running →
    (th.pc.toNat < imageVa + g.prog.offset ∨ imageVa + g.prog.offset + g.prog.len < th.pc.toNat + 8) →
    exec i s = .next (s.raise t xFetch th.pc.toNat)) ∧
  (∀ (s : State) (t : Thr) (code va : Nat) (g : Grp), s.grp t.gid = some g → g.phase = .running →
    (s.raise t code va).grp t.gid = some { g with phase := .stopping, code := some (g.code.getD code) } ∧
    (∀ k, k ≠ t.gid → (s.raise t code va).grp k = s.grp k) ∧ (s.raise t code va).mem = s.mem ∧ (s.raise t code va).tx = s.tx ∧
    (s.raise t code va).fns = s.fns) ∧
  (∀ (s : State) (t : Thr) (g : Grp) (th : Thread), s.grp t.gid = some g →
    (s.retire t g th).grp t.gid = some (g.setTh t.idx th) ∧ (∀ k, k ≠ t.gid → (s.retire t g th).grp k = s.grp k) ∧
    (∀ k, k ≠ t.idx → (g.setTh t.idx th).th k = g.th k) ∧ (s.retire t g th).mem = s.mem ∧ (s.retire t g th).poison = s.poison ∧
    (s.retire t g th).tx = s.tx ∧ (s.retire t g th).draws = s.draws ∧
    (∀ off, (off < TLY_COUNT ∨ TLY_COUNT + 8 * 256 ≤ off) → (s.retire t g th).hubGet off = s.hubGet off) ∧
    (s.confidential g.fn = true → (s.retire t g th).hub = s.hub ∧ (s.retire t g th).fns = s.fns))

/-- R156 and R172; R172. -/
def Obligations.ScalarArithmetic : Prop :=
  (∀ op ∈ ([(Instr.add, fun a b => a + b), (.sub, fun a b => a - b), (.mul, fun a b => a * b),
      (.mulh, fun a b => BitVec.ofInt 64 (a.toInt * b.toInt / 2 ^ 64)), (.mulhu, fun a b => BitVec.ofNat 64 (a.toNat * b.toNat / 2 ^ 64)),
      (.div, fun a b => if b = 0 then BitVec.allOnes 64 else BitVec.ofInt 64 (a.toInt.tdiv b.toInt)),
      (.divu, fun a b => if b = 0 then BitVec.allOnes 64 else BitVec.ofNat 64 (a.toNat / b.toNat)),
      (.rem, fun a b => if b = 0 then a else BitVec.ofInt 64 (a.toInt.tmod b.toInt)),
      (.remu, fun a b => if b = 0 then a else BitVec.ofNat 64 (a.toNat % b.toNat)),
      (.opAnd, fun a b => a &&& b), (.opOr, fun a b => a ||| b), (.opXor, fun a b => a ^^^ b),
      (.sll, fun a b => a <<< (b.toNat % 64)), (.srl, fun a b => a >>> (b.toNat % 64)), (.sra, fun a b => a.sshiftRight (b.toNat % 64)),
      (.opMin, fun a b => if a.toInt ≤ b.toInt then a else b), (.opMax, fun a b => if a.toInt ≤ b.toInt then b else a),
      (.minu, fun a b => if a.toNat ≤ b.toNat then a else b), (.maxu, fun a b => if a.toNat ≤ b.toNat then b else a)] :
      List ((Thr → FmtR → Instr) × (W64 → W64 → W64))),
    ∀ (s : State) (t : Thr) (f : FmtR) (g : Grp) (th : Thread), Issues s t g th → f.s3 = 0 → f.ty = 0 → f.cond = 0 → f.rsv = 0 →
      GuardAt th f.grd 0 → FreeX th f.s1 → FreeX th f.s2 →
      ∃ th', exec (op.1 t f) s = .next (s.retire t g th') ∧ WroteX th th' f.d (op.2 (th.xr f.s1.toNat) (th.xr f.s2.toNat))) ∧
  ((∀ op ∈ ([(Instr.addi, fun a i => a + i.signExtend 64), (.andi, fun a i => a &&& i.signExtend 64),
      (.ori, fun a i => a ||| i.signExtend 64), (.xori, fun a i => a ^^^ i.signExtend 64),
      (.lih, fun a i => BitVec.ofNat 64 (i.toNat * 2 ^ 32 + a.toNat % 2 ^ 32))] :
      List ((Thr → FmtI → Instr) × (W64 → BitVec 32 → W64))),
    ∀ (s : State) (t : Thr) (f : FmtI) (g : Grp) (th : Thread), Issues s t g th → f.ty = 0 → f.rsv = 0 → GuardAt th f.grd 0 →
      FreeX th f.s1 → ∃ th', exec (op.1 t f) s = .next (s.retire t g th') ∧ WroteX th th' f.d (op.2 (th.xr f.s1.toNat) f.imm)) ∧
  (∀ op ∈ ([(Instr.slli, fun a n => a <<< n), (.srli, fun a n => a >>> n), (.srai, fun a n => a.sshiftRight n)] :
      List ((Thr → FmtI → Instr) × (W64 → Nat → W64))),
    ∀ (s : State) (t : Thr) (f : FmtI) (g : Grp) (th : Thread), Issues s t g th → f.ty = 0 → f.rsv = 0 → GuardAt th f.grd 0 →
      FreeX th f.s1 → (f.imm.toNat < 64 → ∃ th', exec (op.1 t f) s = .next (s.retire t g th') ∧
        WroteX th th' f.d (op.2 (th.xr f.s1.toNat) f.imm.toNat)) ∧
      (64 ≤ f.imm.toNat → exec (op.1 t f) s = .next (s.raise t xIllegal 0))) ∧
  (∀ (s : State) (t : Thr) (f : FmtI) (g : Grp) (th : Thread), Issues s t g th → f.s1 = 0 → f.ty = 0 → f.rsv = 0 → GuardAt th f.grd 0 →
      ∃ th', exec (.li t f) s = .next (s.retire t g th') ∧ WroteX th th' f.d (f.imm.signExtend 64)) ∧
  (∀ (s : State) (t : Thr) (f : FmtR) (g : Grp) (th : Thread), Issues s t g th → f.s2 = 0 → f.s3 = 0 → f.ty = 0 → f.cond = 0 →
    f.rsv = 0 → GuardAt th f.grd 0 → FreeX th f.s1 →
      (∃ th' n, exec (.clz t f) s = .next (s.retire t g th') ∧ WroteX th th' f.d (BitVec.ofNat 64 n) ∧ n ≤ 64 ∧
        (∀ i, i < n → (th.xr f.s1.toNat).getLsbD (63 - i) = false) ∧ (n < 64 → (th.xr f.s1.toNat).getLsbD (63 - n) = true)) ∧
      (∃ th' n, exec (.ctz t f) s = .next (s.retire t g th') ∧ WroteX th th' f.d (BitVec.ofNat 64 n) ∧ n ≤ 64 ∧
        (∀ i, i < n → (th.xr f.s1.toNat).getLsbD i = false) ∧ (n < 64 → (th.xr f.s1.toNat).getLsbD n = true)) ∧
      (∃ th', exec (.popc t f) s = .next (s.retire t g th') ∧ WroteX th th' f.d
        (BitVec.ofNat 64 ((List.range 64).filter (fun i => (th.xr f.s1.toNat).getLsbD i)).length))))

/-- R168 and R172; R154, R158 and R166. -/
def Obligations.GuardsAndPredicates : Prop :=
  ((∀ cond ∈ ([(0, fun a b => a = b), (1, fun a b => a ≠ b), (2, fun a b => a.toInt < b.toInt), (3, fun a b => b.toInt ≤ a.toInt),
      (4, fun a b => a.toNat < b.toNat), (5, fun a b => b.toNat ≤ a.toNat), (6, fun _ _ => True)] : List (BitVec 4 × (W64 → W64 → Prop))),
    (∀ (s : State) (t : Thr) (f : FmtR) (g : Grp) (th : Thread), Issues s t g th → f.d.toNat < 8 → f.s3 = 0 → f.ty = 0 → f.rsv = 0 →
      f.cond = cond.1 → GuardAt th f.grd 0 → FreeX th f.s1 → FreeX th f.s2 →
      ∃ th' b, exec (.cmp t f) s = .next (s.retire t g th') ∧ WroteP th th' f.d b ∧
        (cond.2 (th.xr f.s1.toNat) (th.xr f.s2.toNat) → b = 0xFFFFFFFF) ∧ (¬cond.2 (th.xr f.s1.toNat) (th.xr f.s2.toNat) → b = 0)) ∧
    (∀ (s : State) (t : Thr) (f : FmtI) (g : Grp) (th : Thread), Issues s t g th → f.d.toNat < 8 → f.rsv = 0 → f.ty = cond.1 →
      GuardAt th f.grd 0 → FreeX th f.s1 →
      ∃ th' b, exec (.cmpi t f) s = .next (s.retire t g th') ∧ WroteP th th' f.d b ∧
        (cond.2 (th.xr f.s1.toNat) (f.imm.signExtend 64) → b = 0xFFFFFFFF) ∧
        (¬cond.2 (th.xr f.s1.toNat) (f.imm.signExtend 64) → b = 0))) ∧
  (∀ (s : State) (t : Thr) (f : FmtR) (g : Grp) (th : Thread), Issues s t g th → 6 < f.cond.toNat →
    exec (.cmp t f) s = .next (s.raise t xIllegal 0)) ∧
  (∀ (s : State) (t : Thr) (f : FmtR) (g : Grp) (th : Thread), Issues s t g th → f.s3.toNat < 8 → f.ty = 0 → f.cond = 0 → f.rsv = 0 →
    GuardAt th f.grd 0 → FreeX th f.s1 → FreeX th f.s2 → ∃ th', exec (.sel t f) s = .next (s.retire t g th') ∧
      WroteX th th' f.d (if (th.pr f.s3.toNat).getLsbD 0 then th.xr f.s1.toNat else th.xr f.s2.toNat)) ∧
  (∀ op ∈ ([(Instr.pand, fun a b => a &&& b), (.por, fun a b => a ||| b), (.pxor, fun a b => a ^^^ b)] :
      List ((Thr → FmtR → Instr) × (W32 → W32 → W32))),
    ∀ (s : State) (t : Thr) (f : FmtR) (g : Grp) (th : Thread), Issues s t g th → f.d.toNat < 8 → f.s1.toNat < 8 → f.s2.toNat < 8 →
      f.s3 = 0 → f.ty = 0 → f.cond = 0 → f.rsv = 0 → GuardAt th f.grd 0 →
      ∃ th', exec (op.1 t f) s = .next (s.retire t g th') ∧ WroteP th th' f.d (op.2 (th.pr f.s1.toNat) (th.pr f.s2.toNat))) ∧
  (∀ (s : State) (t : Thr) (f : FmtR) (g : Grp) (th : Thread), Issues s t g th → f.s2 = 0 → f.s3 = 0 → f.ty = 0 → f.cond = 0 →
    f.rsv = 0 → GuardAt th f.grd 0 →
    (f.d.toNat < 8 → f.s1.toNat < 8 → ∃ th', exec (.pnot t f) s = .next (s.retire t g th') ∧
      WroteP th th' f.d (~~~ (th.pr f.s1.toNat))) ∧
    (f.s1.toNat < 8 → ∃ th', exec (.movpx t f) s = .next (s.retire t g th') ∧
      WroteX th th' f.d (BitVec.ofNat 64 (th.pr f.s1.toNat).toNat)) ∧
    (f.d.toNat < 8 → FreeX th f.s1 → ∃ th', exec (.movxp t f) s = .next (s.retire t g th') ∧
      WroteP th th' f.d (BitVec.ofNat 32 (th.xr f.s1.toNat).toNat)))) ∧
  (∀ op ∈ [Instr.add, .sub, .mul, .mulh, .mulhu, .div, .divu, .rem, .remu, .opAnd, .opOr, .opXor, .sll, .srl, .sra, .opMin, .opMax,
      .minu, .maxu], ∀ (s : State) (t : Thr) (f : FmtR) (g : Grp) (th : Thread), Issues s t g th →
    (¬(f.s3 = 0 ∧ f.ty = 0 ∧ f.cond = 0 ∧ f.rsv = 0) ∨ (f.grd.getLsbD 4 = false ∧ f.grd ≠ 0) →
      exec (op t f) s = .next (s.raise t xIllegal 0)) ∧
    (f.s3 = 0 → f.ty = 0 → f.cond = 0 → f.rsv = 0 → GuardFalse th f.grd →
      exec (op t f) s = .next (s.retire t g { th with pc := th.pc + 8, issued := th.issued + 1 })) ∧
    (f.s3 = 0 → f.ty = 0 → f.cond = 0 → f.rsv = 0 → GuardAt th f.grd 0 → ¬(FreeX th f.s1 ∧ FreeX th f.s2) → exec (op t f) s = .next s))

/-- R120, R168, R172 and R200. -/
def Obligations.ControlTransfer : Prop :=
  (∀ (s : State) (t : Thr) (f : FmtI) (g : Grp) (th : Thread), Issues s t g th → f.d = 0 → f.s1 = 0 → f.ty = 0 → f.rsv = 0 → f.imm = 0 →
    GuardAt th f.grd 0 →
    exec (.nop t f) s = .next (s.retire t g { th with pc := th.pc + 8, issued := th.issued + 1 }) ∧
    exec (.exit t f) s = .next ((((s.retire t g { th with pc := th.pc + 8, issued := th.issued + 1, st := .exited }).tryRounds
      t.gid).checkDeadlock t.gid).settleGroup t.gid)) ∧
  (∀ cond ∈ ([(0, fun a b => a = b), (1, fun a b => a ≠ b), (2, fun a b => a.toInt < b.toInt), (3, fun a b => b.toInt ≤ a.toInt),
      (4, fun a b => a.toNat < b.toNat), (5, fun a b => b.toNat ≤ a.toNat), (6, fun _ _ => True)] : List (BitVec 4 × (W64 → W64 → Prop))),
    ∀ (s : State) (t : Thr) (f : FmtC) (g : Grp) (th : Thread), Issues s t g th → f.d = 0 → f.cond = cond.1 → GuardAt th f.grd 0 →
      FreeX th f.s1 → FreeX th f.s2 → ∃ th', exec (.bc t f) s = .next (s.retire t g th') ∧ th'.x = th.x ∧ th'.v = th.v ∧ th'.p = th.p ∧
        (cond.2 (th.xr f.s1.toNat) (th.xr f.s2.toNat) → th'.pc = th.pc + f.disp.signExtend 64 * 8) ∧
        (¬cond.2 (th.xr f.s1.toNat) (th.xr f.s2.toNat) → th'.pc = th.pc + 8)) ∧
  (∀ (s : State) (t : Thr) (f : FmtC) (g : Grp) (th : Thread), Issues s t g th → f.s1 = 0 → f.s2 = 0 → f.cond = 6 → GuardAt th f.grd 0 →
    ∃ th', exec (.jal t f) s = .next (s.retire t g th') ∧ th'.pc = th.pc + f.disp.signExtend 64 * 8 ∧
      th'.xr f.d.toNat = (if f.d = 0 then 0 else th.pc + 8) ∧ (∀ r, r ≠ f.d.toNat → th'.xr r = th.xr r) ∧ th'.v = th.v ∧ th'.p = th.p) ∧
  (∀ (s : State) (t : Thr) (f : FmtC) (g : Grp) (th : Thread), Issues s t g th → f.s2 = 0 → f.cond = 6 → GuardAt th f.grd 0 →
    FreeX th f.s1 →
    ((th.xr f.s1.toNat).toNat % 8 = 0 → ∃ th', exec (.jalr t f) s = .next (s.retire t g th') ∧
      th'.pc = th.xr f.s1.toNat + f.disp.signExtend 64 * 8 ∧ th'.xr f.d.toNat = (if f.d = 0 then 0 else th.pc + 8) ∧
      (∀ r, r ≠ f.d.toNat → th'.xr r = th.xr r) ∧ th'.v = th.v ∧ th'.p = th.p) ∧
    ((th.xr f.s1.toNat).toNat % 8 ≠ 0 → ∃ va, exec (.jalr t f) s = .next (s.raise t xFetch va)))

namespace Sys2Proof.Claims

abbrev GuardWf (grd : BitVec 5) : Prop := grd = 0 ∨ grd.getLsbD 4 = true
/-- A lane is active: the instruction is unguarded, or bit `i` of pP, exclusive-ORed with N, is 1 (R158). -/
def active (th : Thread) (grd : BitVec 5) (i : Nat) : Bool := grd == 0 || (th.pr (grd.toNat % 8)).getLsbD i != grd.getLsbD 3
/-- Inactive lanes keep what the destination holds. -/
def lanewise (th : Thread) (grd : BitVec 5) (d : BitVec 6) (h : Nat → W32) (i : Nat) : W32 :=
  if active th grd i then h i else laneAt (th.vr d.toNat) i
/-- The values of the active lanes of a register, in order. -/
def activeLanes (th : Thread) (grd : BitVec 5) (r : BitVec 6) : List W32 :=
  ((List.range 32).filter (active th grd)).map (laneAt (th.vr r.toNat))

end Sys2Proof.Claims

/-- R158, R173, R174 and R705. -/
def Obligations.VectorLanewise : Prop :=
  (∀ op ∈ ([(Instr.vabs, 0, fun a => if a.toInt < 0 then -a else a), (.vneg, 0, fun a => -a), (.vabs, 4, f32Abs), (.vneg, 4, f32Neg),
      (.vsqrt, 4, f32Sqrt), (.vexp2, 4, f32Exp2), (.vlog2, 4, f32Log2)] : List ((Thr → FmtR → Instr) × BitVec 4 × (W32 → W32))),
    ∀ (s : State) (t : Thr) (f : FmtR) (g : Grp) (th : Thread), Issues s t g th → f.d.toNat < 32 → f.s1.toNat < 32 → f.s2 = 0 →
      f.s3 = 0 → f.ty = op.2.1 → f.cond = 0 → f.rsv = 0 → GuardWf f.grd → FreeV th f.s1 → FreeD th f.grd f.d →
      ∃ th', exec (op.1 t f) s = .next (s.retire t g th') ∧
        WroteV th th' f.d (lanewise th f.grd f.d (fun i => op.2.2 (laneAt (th.vr f.s1.toNat) i)))) ∧
  (∀ op ∈ ([(Instr.vadd, [0, 1], fun a b => a + b), (.vsub, [0, 1], fun a b => a - b), (.vmul, [0, 1], fun a b => a * b),
      (.vadd, [4], f32Add), (.vsub, [4], f32Sub), (.vmul, [4], f32Mul), (.vdiv, [4], f32Div),
      (.vmin, [0], fun a b => if a.toInt ≤ b.toInt then a else b), (.vmax, [0], fun a b => if a.toInt ≤ b.toInt then b else a),
      (.vmin, [1], fun a b => if a.toNat ≤ b.toNat then a else b), (.vmax, [1], fun a b => if a.toNat ≤ b.toNat then b else a),
      (.vmin, [4], f32Min), (.vmax, [4], f32Max), (.vand, [0, 1], fun a b => a &&& b), (.vor, [0, 1], fun a b => a ||| b),
      (.vxor, [0, 1], fun a b => a ^^^ b), (.vsll, [0, 1], fun a b => a <<< (b.toNat % 32)), (.vsrl, [0, 1], fun a b => a >>> (b.toNat % 32)),
      (.vsra, [0, 1], fun a b => a.sshiftRight (b.toNat % 32))] : List ((Thr → FmtR → Instr) × List Nat × (W32 → W32 → W32))),
    ∀ (s : State) (t : Thr) (f : FmtR) (g : Grp) (th : Thread), Issues s t g th → f.d.toNat < 32 → f.s1.toNat < 32 → f.s2.toNat < 32 →
      f.s3 = 0 → f.ty.toNat ∈ op.2.1 → f.cond = 0 → f.rsv = 0 → GuardWf f.grd → FreeV th f.s1 → FreeV th f.s2 → FreeD th f.grd f.d →
      ∃ th', exec (op.1 t f) s = .next (s.retire t g th') ∧
        WroteV th th' f.d (lanewise th f.grd f.d (fun i => op.2.2 (laneAt (th.vr f.s1.toNat) i) (laneAt (th.vr f.s2.toNat) i)))) ∧
  (∀ (s : State) (t : Thr) (f : FmtR) (g : Grp) (th : Thread), Issues s t g th → f.d.toNat < 32 → f.s1.toNat < 32 → f.s2.toNat < 32 →
      f.s3.toNat < 32 → f.ty = 4 → f.cond = 0 → f.rsv = 0 → GuardWf f.grd → FreeV th f.s1 → FreeV th f.s2 → FreeV th f.s3 →
      FreeD th f.grd f.d → ∃ th', exec (.vfma t f) s = .next (s.retire t g th') ∧ WroteV th th' f.d (lanewise th f.grd f.d
        (fun i => f32Fma (laneAt (th.vr f.s1.toNat) i) (laneAt (th.vr f.s2.toNat) i) (laneAt (th.vr f.s3.toNat) i)))) ∧
  (∀ op ∈ [Instr.vadd, .vsub, .vmul, .vmin, .vmax, .vdiv, .vand, .vor, .vxor, .vsll, .vsrl, .vsra, .vfma, .vabs, .vneg, .vsqrt, .vexp2,
      .vlog2], ∀ (s : State) (t : Thr) (f : FmtR) (g : Grp) (th : Thread), Issues s t g th →
      (f.ty.toNat ∉ [0, 1, 4] ∨ 32 ≤ f.d.toNat ∨ 32 ≤ f.s1.toNat) → exec (op t f) s = .next (s.raise t xIllegal 0)) ∧
  (∀ a b c : W32, (f32Dec a = .nan ∨ f32Dec b = .nan) → f32Add a b = 0x7FC00000 ∧ f32Sub a b = 0x7FC00000 ∧ f32Mul a b = 0x7FC00000 ∧
    f32Div a b = 0x7FC00000 ∧ f32Fma a b c = 0x7FC00000)

/-- R158, R168, R173, R214 to R218 and R240; R158, R173 and R705. -/
def Obligations.VectorMovesAndReductions : Prop :=
  ((∀ (s : State) (t : Thr) (f : FmtR) (g : Grp) (th : Thread), Issues s t g th → f.d.toNat < 8 → f.s1.toNat < 32 → f.s2.toNat < 32 →
    f.s3 = 0 → f.rsv = 0 → GuardWf f.grd → FreeV th f.s1 → FreeV th f.s2 →
    ((f.ty.toNat ≤ 1 ∧ f.cond.toNat ≤ 6) ∨ (f.ty = 4 ∧ (f.cond = 6 ∨ (8 ≤ f.cond.toNat ∧ f.cond.toNat ≤ 12)))) →
    ∃ th' v, exec (.vcmp t f) s = .next (s.retire t g th') ∧ WroteP th th' f.d v ∧ (∀ i, i < 32 → v.getLsbD i = (active th f.grd i &&
      vcmpHolds f.ty.toNat f.cond.toNat (laneAt (th.vr f.s1.toNat) i) (laneAt (th.vr f.s2.toNat) i)))) ∧
  (∀ (s : State) (t : Thr) (f : FmtR) (g : Grp) (th : Thread), Issues s t g th → f.d.toNat < 32 → f.s1.toNat < 32 → f.s2.toNat < 32 →
    f.ty = 0 → f.cond = 0 → f.rsv = 0 → GuardWf f.grd → FreeV th f.s1 → FreeV th f.s2 → FreeD th f.grd f.d →
    (f.s3.toNat < 8 → ∃ th', exec (.vsel t f) s = .next (s.retire t g th') ∧ WroteV th th' f.d (lanewise th f.grd f.d (fun i =>
      if (th.pr f.s3.toNat).getLsbD i then laneAt (th.vr f.s1.toNat) i else laneAt (th.vr f.s2.toNat) i))) ∧
    (f.s3 = 0 → ∃ th', exec (.vperm t f) s = .next (s.retire t g th') ∧ WroteV th th' f.d (lanewise th f.grd f.d (fun i =>
      laneAt (th.vr f.s1.toNat) ((laneAt (th.vr f.s2.toNat) i).toNat % 32))))) ∧
  (∀ (s : State) (t : Thr) (f : FmtR) (g : Grp) (th : Thread), Issues s t g th → f.d.toNat < 32 → f.s2 = 0 → f.s3 = 0 → f.ty = 0 →
    f.cond = 0 → f.rsv = 0 → GuardWf f.grd → FreeD th f.grd f.d →
    (FreeX th f.s1 → ∃ th', exec (.vbcast t f) s = .next (s.retire t g th') ∧ WroteV th th' f.d (lanewise th f.grd f.d (fun _ =>
      BitVec.ofNat 32 (th.xr f.s1.toNat).toNat))) ∧
    (f.s1 = 0 → ∃ th', exec (.vlane t f) s = .next (s.retire t g th') ∧ WroteV th th' f.d (lanewise th f.grd f.d (fun i =>
      BitVec.ofNat 32 i)))) ∧
  (∀ (s : State) (t : Thr) (f : FmtR) (g : Grp) (th : Thread), Issues s t g th → f.s3 = 0 → f.ty = 0 → f.cond = 0 → f.rsv = 0 →
    GuardAt th f.grd 0 →
    (f.s1.toNat < 32 → FreeV th f.s1 → FreeX th f.s2 → ∃ th', exec (.vext t f) s = .next (s.retire t g th') ∧
      WroteX th th' f.d (BitVec.ofNat 64 (laneAt (th.vr f.s1.toNat) ((th.xr f.s2.toNat).toNat % 32)).toNat)) ∧
    (f.d.toNat < 32 → FreeX th f.s1 → FreeX th f.s2 → FreeV th f.d → ∃ th', exec (.vins t f) s = .next (s.retire t g th') ∧
      WroteV th th' f.d (fun i => if i = (th.xr f.s2.toNat).toNat % 32 then BitVec.ofNat 32 (th.xr f.s1.toNat).toNat
        else laneAt (th.vr f.d.toNat) i))) ∧
  (∀ (s : State) (t : Thr) (f : FmtI) (g : Grp) (th : Thread) (a b : Fmt) (m : Rnd), Issues s t g th → f.d.toNat < 32 → f.s1.toNat < 32 →
    f.ty = 0 → f.rsv = 0 → f.imm.toNat < 1024 → GuardWf f.grd → FreeV th f.s1 → FreeD th f.grd f.d →
    Fmt.ofNibble (f.imm.toNat / 16 % 16) = some a → Fmt.ofNibble (f.imm.toNat % 16) = some b →
    Rnd.ofBits (f.imm.toNat / 256) = some m →
    (f.grd = 0 ∨ (a.packed = false ∧ b.packed = false) → ∃ th', exec (.vcvt t f) s = .next (s.retire t g th') ∧
      WroteV th th' f.d (lanewise th f.grd f.d (laneAt (b.pack m (s.randoms g t.idx th.op 32) (a.unpack (th.vr f.s1.toNat))))) ∧
      th'.op = th.op + (if m = .sr then 1 else 0)) ∧
    (f.grd ≠ 0 → (a.packed = true ∨ b.packed = true) → exec (.vcvt t f) s = .next (s.raise t xIllegal 0)))) ∧
  ((∀ (s : State) (t : Thr) (f : FmtR) (g : Grp) (th : Thread), Issues s t g th → f.d.toNat < 32 → f.s1.toNat < 32 → f.s2 = 0 →
    f.s3 = 0 → f.cond = 0 → f.rsv = 0 → GuardWf f.grd → FreeV th f.s1 →
    (f.ty.toNat ≤ 1 → ∃ th', exec (.vredSum t f) s = .next (s.retire t g th') ∧
      WroteV th th' f.d (fun _ => BitVec.ofNat 32 ((activeLanes th f.grd f.s1).map BitVec.toNat).sum)) ∧
    (f.ty = 4 → ∃ th', exec (.vredSum t f) s = .next (s.retire t g th') ∧
      WroteV th th' f.d (fun _ => BitVec.ofNat 32 ((Xa.sumValues ((activeLanes th f.grd f.s1).map f32Dec)).readOut
        ⟨.flt fp32, 32, false, 0, 32⟩ .rne 0))) ∧
    (f.ty.toNat ∈ [0, 1, 4] → ∀ a rest, activeLanes th f.grd f.s1 = a :: rest →
      (∃ th', exec (.vredMin t f) s = .next (s.retire t g th') ∧ WroteV th th' f.d (fun _ =>
        if f.ty = 4 then f32Canon (rest.foldl f32Min a) else if f.ty = 1 then rest.foldl uMin a else rest.foldl sMin a)) ∧
      (∃ th', exec (.vredMax t f) s = .next (s.retire t g th') ∧ WroteV th th' f.d (fun _ =>
        if f.ty = 4 then f32Canon (rest.foldl f32Max a) else if f.ty = 1 then rest.foldl uMax a else rest.foldl sMax a))) ∧
    (f.ty.toNat ∈ [0, 1, 4] → activeLanes th f.grd f.s1 = [] →
      exec (.vredMin t f) s = .next (s.retire t g { th with pc := th.pc + 8, issued := th.issued + 1 }) ∧
      exec (.vredMax t f) s = .next (s.retire t g { th with pc := th.pc + 8, issued := th.issued + 1 }))))

namespace Sys2Proof.Claims

/-- Every byte outside `n` bytes at `a` reads as before. -/
def KeepsOutside (s u : State) (a n : Nat) : Prop := ∀ x, (x < a ∨ a + n ≤ x) → u.readByte x = s.readByte x
/-- Moved past the instruction, registers as before. -/
def Advanced (th th' : Thread) : Prop :=
  th'.pc = th.pc + 8 ∧ th'.x = th.x ∧ th'.v = th.v ∧ th'.p = th.p ∧ th'.st = th.st

end Sys2Proof.Claims

/-- R129, R154, R159 and R176 to R179. -/
def Obligations.Loads : Prop :=
  (∀ op ∈ ([(Instr.ld, false), (.ldAcq, true)] : List ((Thr → FmtM → Instr) × Bool)),
    ∀ (s : State) (t : Thr) (f : FmtM) (g : Grp) (th : Thread) (tgt : Tgt), Issues s t g th → f.space ≠ 3 → f.size.toNat ≤ 3 → f.rsv = 0 →
      GuardAt th f.grd 0 → FreeX th f.base →
      ((th.xr f.base.toNat + f.offset.signExtend 64).toNat % 2 ^ f.size.toNat ≠ 0 → exec (op.1 t f) s =
        .next (s.raise t xMisaligned (th.xr f.base.toNat + f.offset.signExtend 64).toNat)) ∧
      ((th.xr f.base.toNat + f.offset.signExtend 64).toNat % 2 ^ f.size.toNat = 0 →
        s.reach g t.idx f.space.toNat (th.xr f.base.toNat + f.offset.signExtend 64) (2 ^ f.size.toNat) .load = .ok tgt →
        (g.blocks t.idx th tgt (2 ^ f.size.toNat) false = true → exec (op.1 t f) s = .next s) ∧
        (g.blocks t.idx th tgt (2 ^ f.size.toNat) false = false → op.2 = true → th.mcopies ≠ [] → exec (op.1 t f) s = .next s) ∧
        (g.blocks t.idx th tgt (2 ^ f.size.toNat) false = false → (op.2 = false ∨ th.mcopies = []) →
          ∃ (u : State) (th' : Thread) (l : LoadOp), exec (op.1 t f) s = .next (u.askParts t g th.nextId l.parts) ∧ u = s.retire t g th' ∧ u.mem = s.mem ∧ Advanced th th' ∧
            l ∈ th'.loads ∧ l.id = th.nextId ∧ l.dest = f.d.toNat ∧ l.vec = false ∧ l.size = 2 ^ f.size.toNat ∧ l.sx = f.sx ∧
            l.acq = op.2 ∧ l.parts = splitPart 0 (2 ^ f.size.toNat) tgt (2 ^ f.size.toNat) ∧ th'.loads.length = th.loads.length + 1))) ∧
  (∀ (g : Grp) (idx n : Nat) (th : Thread) (tgt : Tgt) (writes : Bool) (l : LoadOp), l ∈ th.loads → l.acq = true →
    g.blocks idx th tgt n writes = true) ∧
  (∀ (s : State) (t : Thr) (f : FmtM) (g : Grp) (th : Thread) (tgt : Tgt) (lo n : Nat), Issues s t g th → f.space ≠ 3 → f.size.toNat ≤ 2 →
    f.rsv = 0 → f.d.toNat < 32 → GuardWf f.grd → FreeX th f.base → FreeD th f.grd f.d →
    ((∀ i, i < 32 → active th f.grd i = false) → ∃ th' : Thread, exec (.vld t f) s = .next (s.retire t g th') ∧ Advanced th th') ∧
    ((∃ i, i < 32 ∧ active th f.grd i = true) → (th.xr f.base.toNat + f.offset.signExtend 64).toNat % (32 * 2 ^ f.size.toNat) = 0 →
      lo = ((List.range 32).filter (active th f.grd)).headD 0 →
      n = (((List.range 32).filter (active th f.grd)).getLastD 0 + 1 - lo) * 2 ^ f.size.toNat →
      s.reach g t.idx f.space.toNat (th.xr f.base.toNat + f.offset.signExtend 64 + BitVec.ofNat 64 (lo * 2 ^ f.size.toNat)) n .load
        = .ok tgt → g.blocks t.idx th tgt n false = false →
      ∃ (u : State) (th' : Thread) (l : LoadOp), exec (.vld t f) s = .next (u.askParts t g th.nextId l.parts) ∧ u = s.retire t g th' ∧ Advanced th th' ∧ l ∈ th'.loads ∧
        l.vec = true ∧ l.dest = f.d.toNat ∧ l.parts = splitPart lo (2 ^ f.size.toNat) tgt n ∧
        (∀ i, i < 32 → l.mask.getLsbD i = active th f.grd i))) ∧
  (∀ (s : State) (t : Thr) (f : FmtG) (g : Grp) (th : Thread) (ts : List (Nat × Tgt)), Issues s t g th → f.space ≠ 3 → f.size.toNat ≤ 2 →
    f.rsv = 0 → f.d.toNat < 32 → f.x.toNat < 32 → GuardWf f.grd → FreeX th f.base → FreeV th f.x → FreeD th f.grd f.d →
    s.reachLanes g t.idx f th .load ((List.range 32).filter (active th f.grd)) = (ts, none) →
    (ts = [] → ∃ th' : Thread, exec (.vldG t f) s = .next (s.retire t g th') ∧ Advanced th th') ∧
    (ts ≠ [] → (∀ p ∈ ts, g.blocks t.idx th p.2 (2 ^ f.size.toNat) false = false) →
      ∃ (u : State) (th' : Thread) (l : LoadOp), exec (.vldG t f) s = .next (u.askParts t g th.nextId l.parts) ∧ u = s.retire t g th' ∧ Advanced th th' ∧ l ∈ th'.loads ∧
        l.vec = true ∧ l.dest = f.d.toNat ∧
        l.parts = (ts.map (fun p => splitPart p.1 (2 ^ f.size.toNat) p.2 (2 ^ f.size.toNat))).flatten)) ∧
  (∀ (s : State) (t : Thr) (g : Grp) (th : Thread) (l : LoadOp), s.grp t.gid = some g → g.th t.idx = some th →
    th.loads.find? (fun x => x.id = l.id) = some l → (g.phase = .running ∨ g.phase = .saving) → (∀ p ∈ l.parts, p.ready s g = true) →
    earlierHits th.loads l = false → (∀ p ∈ l.parts, (s.readPart g p).2 = false) →
    ∃ (u : State) (h : Grp) (th' : Thread), exec (.loadReturn t l.id) s = .next u ∧ u.mem = s.mem ∧ u.grp t.gid = some h ∧ h.th t.idx = some th' ∧
      h.staged = g.staged ∧ th' = th.loaded l (l.parts.map (fun p => (p, (s.readPart g p).1))) ∧ th'.pc = th.pc ∧
      (∀ a off, l.vec = false → l.parts = [⟨off, .core a, l.size, none⟩] → l.dest ≠ 0 →
        th'.xr l.dest = extendN l.size l.sx (s.readNat a l.size)))

/-- R54, R159 to R162 and R176 to R179. -/
def Obligations.Stores : Prop :=
  (∀ op ∈ ([(Instr.st, false), (.stRel, true)] : List ((Thr → FmtM → Instr) × Bool)),
    ∀ (s : State) (t : Thr) (f : FmtM) (g : Grp) (th : Thread) (tgt : Tgt), Issues s t g th → f.space ≠ 3 → f.size.toNat ≤ 3 → f.sx = false →
      f.rsv = 0 → GuardAt th f.grd 0 → FreeX th f.base → FreeX th f.d →
      (th.xr f.base.toNat + f.offset.signExtend 64).toNat % 2 ^ f.size.toNat = 0 →
      s.reach g t.idx f.space.toNat (th.xr f.base.toNat + f.offset.signExtend 64) (2 ^ f.size.toNat) .store = .ok tgt →
      g.blocks t.idx th tgt (2 ^ f.size.toNat) true = false →
      (op.2 = true → (th.loads ≠ [] ∨ th.mcopies ≠ []) → exec (op.1 t f) s = .next s) ∧
      (op.2 = false ∨ (th.loads = [] ∧ th.mcopies = []) →
        (∀ a, (tgt = .core a ∨ tgt = .priv a) → s.mem.wf = true → ∃ (u : State) (th' : Thread), exec (op.1 t f) s = .next (u.retire t g th') ∧ Advanced th th' ∧
          KeepsOutside s u a (2 ^ f.size.toNat) ∧ u.groups = s.groups ∧
          u.readNat a (2 ^ f.size.toNat) = (th.xr f.d.toNat).toNat % 2 ^ (8 * 2 ^ f.size.toNat)) ∧
        (∀ va a, tgt = .mem va a → ({ g with staged := stage g.staged va (leBytes (2 ^ f.size.toNat) (th.xr f.d.toNat).toNat) } : Grp).outside
            (s.recOf g) ≤ fieldAt (s.recOf g) 64 4 →
          ∃ (u : State) (th' : Thread) (h : Grp), exec (op.1 t f) s = .next (u.retire t g th') ∧ Advanced th th' ∧ u.mem = s.mem ∧ u.grp t.gid = some h ∧
            h.staged = stage g.staged va (leBytes (2 ^ f.size.toNat) (th.xr f.d.toNat).toNat) ∧ h.phase = g.phase ∧ h.threads = g.threads) ∧
        (∀ a, tgt = .commons a → th.windows ≠ 0 → exec (op.1 t f) s = .next s))) ∧
  (∀ (s : State) (t : Thr) (f : FmtM) (g : Grp) (th : Thread) (lo n a : Nat), Issues s t g th → f.space ≠ 3 → f.size.toNat ≤ 2 →
    f.sx = false → f.rsv = 0 → f.d.toNat < 32 → GuardWf f.grd → FreeX th f.base → FreeV th f.d →
    ((∀ i, i < 32 → active th f.grd i = false) → ∃ th' : Thread, exec (.vst t f) s = .next (s.retire t g th') ∧ Advanced th th') ∧
    ((∃ i, i < 32 ∧ active th f.grd i = true) → (th.xr f.base.toNat + f.offset.signExtend 64).toNat % (32 * 2 ^ f.size.toNat) = 0 →
      lo = ((List.range 32).filter (active th f.grd)).headD 0 →
      n = (((List.range 32).filter (active th f.grd)).getLastD 0 + 1 - lo) * 2 ^ f.size.toNat →
      s.reach g t.idx f.space.toNat (th.xr f.base.toNat + f.offset.signExtend 64 + BitVec.ofNat 64 (lo * 2 ^ f.size.toNat)) n .store
        = .ok (.core a) → g.blocks t.idx th (.core a) n true = false → s.mem.wf = true →
      ∃ (u : State) (th' : Thread), exec (.vst t f) s = .next (u.retire t g th') ∧ Advanced th th' ∧ KeepsOutside s u a n ∧ u.groups = s.groups ∧
        (∀ i, lo ≤ i → i < 32 → active th f.grd i = true → u.readNat (a + (i - lo) * 2 ^ f.size.toNat) (2 ^ f.size.toNat) =
          (laneAt (th.vr f.d.toNat) i).toNat % 2 ^ (8 * 2 ^ f.size.toNat)) ∧
        (∀ i, lo ≤ i → i < 32 → active th f.grd i = false → ∀ k, k < 2 ^ f.size.toNat →
          u.readByte (a + (i - lo) * 2 ^ f.size.toNat + k) = s.readByte (a + (i - lo) * 2 ^ f.size.toNat + k)))) ∧
  (∀ (s : State) (t : Thr) (f : FmtG) (g : Grp) (th : Thread) (ts : List (Nat × Tgt)), Issues s t g th → f.space ≠ 3 → f.size.toNat ≤ 2 →
    f.sx = false → f.rsv = 0 → f.d.toNat < 32 → f.x.toNat < 32 → GuardWf f.grd → FreeX th f.base → FreeV th f.x → FreeV th f.d →
    s.reachLanes g t.idx f th .store ((List.range 32).filter (active th f.grd)) = (ts, none) →
    (∀ p ∈ ts, g.blocks t.idx th p.2 (2 ^ f.size.toNat) true = false) → (∀ p ∈ ts, ∃ a, p.2 = .core a ∨ p.2 = .priv a) →
    ∃ (u : State) (th' : Thread), exec (.vstS t f) s = .next (u.retire t g th') ∧ Advanced th th' ∧ u.groups = s.groups ∧
      (∀ x, (∀ p ∈ ts, ∀ a, (p.2 = .core a ∨ p.2 = .priv a) → x < a ∨ a + 2 ^ f.size.toNat ≤ x) → u.readByte x = s.readByte x))

/-- R131 and R179 to R182. -/
def Obligations.Copies : Prop :=
  (∀ (s : State) (t : Thr) (f : FmtR) (g : Grp) (th : Thread), Issues s t g th → f.ty.toNat ≤ 1 → f.s3 = 0 → f.cond = 0 → f.rsv = 0 →
    GuardAt th f.grd 0 → FreeX th f.d → FreeX th f.s1 → FreeX th f.s2 →
    (((th.xr f.d.toNat).toNat % 16 ≠ 0 ∨ (th.xr f.s1.toNat).toNat % 16 ≠ 0 ∨ (th.xr f.s2.toNat).toNat % 16 ≠ 0) →
      exec (.mcopy t f) s = .next (s.raise t xMisaligned (th.xr f.s1.toNat).toNat)) ∧
    ((th.xr f.d.toNat).toNat % 16 = 0 → (th.xr f.s1.toNat).toNat % 16 = 0 → (th.xr f.s2.toNat).toNat % 16 = 0 →
      (524288 < (th.xr f.s2.toNat).toNat → exec (.mcopy t f) s = .next (s.raise t xOperand (th.xr f.s1.toNat).toNat)) ∧
      (th.xr f.s2.toNat = 0 → ∃ th' : Thread, exec (.mcopy t f) s = .next (s.retire t g th') ∧ Advanced th th' ∧ th'.mcopies = th.mcopies) ∧
      (0 < (th.xr f.s2.toNat).toNat → (th.xr f.s2.toNat).toNat ≤ 524288 →
        (16 ≤ th.mcopies.length → exec (.mcopy t f) s = .next s) ∧
        (∀ (ctgt : Tgt) (ps : List LoadPart), th.mcopies.length < 16 →
          s.reach g t.idx 1 (th.xr f.d.toNat) (th.xr f.s2.toNat).toNat (if f.ty = 1 then .load else .store) = .ok ctgt →
          s.reachRange g t.idx (th.xr f.s1.toNat) (if f.ty = 1 then .store else .load)
            (cut (th.xr f.s1.toNat).toNat (th.xr f.s2.toNat).toNat 4096) = (ps, none) →
          g.blocks t.idx th ctgt (th.xr f.s2.toNat).toNat (f.ty != 1) = false →
          (∀ p ∈ ps, g.blocks t.idx th p.tgt p.size (f.ty == 1) = false ∧ isCommons p.tgt = false) →
          ∃ (u : State) (th' : Thread) (m : MCopyOp), exec (.mcopy t f) s = .next (if f.ty = 1 then u else u.askCopy t g th.nextId ps) ∧ u = s.retire t g th' ∧
            Advanced th th' ∧ th'.mcopies = th.mcopies ++ [m] ∧ m.id = th.nextId ∧ m.out = (f.ty == 1) ∧ m.parts = ps ∧
            m.csOff = (th.xr f.d.toNat).toNat ∧ m.len = (th.xr f.s2.toNat).toNat ∧
            (f.ty = 1 → m.data = s.readBytes (coreAddr (g.globalCore (g.coreOf t.idx)) (th.xr f.d.toNat).toNat) m.len))))) ∧
  (∀ (s : State) (t : Thr) (g : Grp) (th : Thread) (m : MCopyOp), s.grp t.gid = some g → g.th t.idx = some th →
    th.mcopies.find? (fun x => x.id = m.id) = some m → (g.phase = .running ∨ g.phase = .saving) →
    (m.out = true ∨ ∀ p ∈ m.parts, p.ready s g = true) →
    exec (.mcopyComplete t m.id) s = .next (((s.copyDone t g m).modGrp t.gid Grp.release).settleGroup t.gid)) ∧
  (∀ (s : State) (t : Thr) (g : Grp) (th : Thread) (m : MCopyOp) (a n : Nat), s.grp t.gid = some g → g.th t.idx = some th →
    m.out = false → m.parts = [⟨0, .priv a, n, none⟩] → s.mem.wf = true →
    KeepsOutside s (s.copyDone t g m) (coreAddr (g.globalCore (g.coreOf t.idx)) m.csOff) n ∧
    (s.copyDone t g m).readBytes (coreAddr (g.globalCore (g.coreOf t.idx)) m.csOff) n = s.readBytes a n ∧
    ∃ (h : Grp) (th' : Thread), (s.copyDone t g m).grp t.gid = some h ∧ h.th t.idx = some th' ∧ (∀ c ∈ th'.mcopies, c.id ≠ m.id)) ∧
  (∀ (s : State) (t : Thr) (f : FmtI) (g : Grp) (th : Thread), Issues s t g th → f.d = 0 → f.s1 = 0 → f.ty = 0 → f.rsv = 0 → f.imm = 0 →
    GuardAt th f.grd 0 → (th.mcopies = [] → ∃ th' : Thread, exec (.waitm t f) s = .next (s.retire t g th') ∧ Advanced th th') ∧
      (th.mcopies ≠ [] → exec (.waitm t f) s = .next s)) ∧
  (∀ (s : State) (t : Thr) (f : FmtS) (g : Grp) (th : Thread), Issues s t g th → f.d = 0 → f.s1 = 0 → f.s2 = 0 → f.s3 = 0 → f.scope = 0 →
    f.ty = 0 → f.rsv = 0 → f.id = 0 → GuardAt th f.grd 0 →
    (th.loads = [] → th.mcopies = [] → ∃ th' : Thread, exec (.fence t f) s = .next (s.retire t g th') ∧ Advanced th th') ∧
    (th.loads ≠ [] ∨ th.mcopies ≠ [] → exec (.fence t f) s = .next s))

/-- R141, R142, R144, R183 and R184. -/
def Obligations.Atomics : Prop :=
  (∀ op ∈ ([(Instr.atomAdd, false, fun _ w x a _ => some ((x + a) % 2 ^ (8 * w))),
      (.atomFadd, true, fun _ w x a _ => some ((x + a) % 2 ^ (8 * w))), (.atomSwap, true, fun _ _ _ a _ => some a),
      (.atomCas, true, fun _ _ x a c => if x = c then some a else none),
      (.atomMin, true, fun sg w x a _ => some (if (if sg then (BitVec.ofNat (8 * w) x).toInt ≤ (BitVec.ofNat (8 * w) a).toInt else x ≤ a) then x else a)),
      (.atomMax, true, fun sg w x a _ => some (if (if sg then (BitVec.ofNat (8 * w) x).toInt ≤ (BitVec.ofNat (8 * w) a).toInt else x ≤ a) then a else x))] :
      List ((Thr → FmtA → Instr) × Bool × (Bool → Nat → Nat → Nat → Nat → Option Nat))),
    ∀ (s : State) (t : Thr) (f : FmtA) (g : Grp) (th : Thread) (w p x : Nat), Issues s t g th → f.ty.toNat < 4 → f.space ≠ 3 → f.rsv = 0 →
      (op.1 t f ≠ .atomCas t f → f.s2 = 0) → (op.2.1 = false → f.d = 0) → GuardAt th f.grd 0 → FreeX th f.base → FreeX th f.s1 → FreeX th f.s2 →
      w = (if f.ty.toNat < 2 then 4 else 8) → (th.xr f.base.toNat).toNat % w = 0 →
      s.reach g t.idx f.space.toNat (th.xr f.base.toNat) w .atomic = .ok (.core p) → g.blocks t.idx th (.core p) w true = false →
      s.mem.wf = true → x = s.readNat p w →
      ∃ (u : State) (th' : Thread), exec (op.1 t f) s = .next (u.retire t g th') ∧ KeepsOutside s u p w ∧
        u.readNat p w = (op.2.2 (f.ty.toNat % 2 == 0) w x ((th.xr f.s1.toNat).toNat % 2 ^ (8 * w))
          ((th.xr f.s2.toNat).toNat % 2 ^ (8 * w))).getD x ∧
        (op.2.1 = true → WroteX th th' f.d (if f.ty = 0 then (BitVec.ofNat 32 x).signExtend 64 else BitVec.ofNat 64 x)) ∧
        (op.2.1 = false → Advanced th th')) ∧
  (∀ (s : State) (t : Thr) (f : FmtA) (g : Grp) (th : Thread) (tgt : Tgt) (o : XaOpen), Issues s t g th → 4 ≤ f.ty.toNat → f.ty.toNat ≤ 6 →
    f.d = 0 → f.s2 = 0 → f.space ≠ 3 → f.rsv = 0 → GuardAt th f.grd 0 → FreeX th f.base → FreeX th f.s1 →
    (th.xr f.base.toNat).toNat % (if f.ty = 4 then 4 else 2) = 0 →
    s.reach g t.idx f.space.toNat (th.xr f.base.toNat) (if f.ty = 4 then 4 else 2) .atomic = .ok tgt →
    g.blocks t.idx th tgt (if f.ty = 4 then 4 else 2) true = false →
    (g.xaClash tgt f.ty.toNat = true → exec (.atomAdd t f) s = .next (s.raise t xIllegal (th.xr f.base.toNat).toNat)) ∧
    (g.xaClash tgt f.ty.toNat = false → g.xas.find (keyNat tgt.key) = some o →
      ∃ (u : State) (th' : Thread) (h : Grp), exec (.atomAdd t f) s = .next (u.retire t g th') ∧ Advanced th th' ∧ u.mem = s.mem ∧ u.grp t.gid = some h ∧
        h.xas.find (keyNat tgt.key) = some { o with xa := (o.xa.addValue (tyValue f.ty.toNat
          (leBytes (if f.ty = 4 then 4 else 2) (th.xr f.s1.toNat).toNat))).normalise }))

namespace Sys2Proof.Claims

/-- Fields that HURDLE, HARRIVE and HWAIT do not use are zero. -/
abbrev HurdleFields (f : FmtS) : Prop := f.d = 0 ∧ f.s1 = 0 ∧ f.s3 = 0 ∧ f.ty = 0 ∧ f.rsv = 0 ∧ (f.scope = 3 ∨ f.s2 = 0)
/-- The hurdle that a scope and an ID name for a thread. -/
def hurdleAt (g : Grp) (t : Thr) (scope : BitVec 2) (id : BitVec 4) : Nat := hurdleKey scope.toNat (g.unitOf scope.toNat t.idx) id.toNat
/-- A hurdle the thread may use, with nothing of it outstanding. -/
abbrev AtHurdle (g : Grp) (th : Thread) (scope id : Nat) : Prop :=
  (scope = 3 → id < 4 ∧ g.prog.usesTeam = true) ∧ th.loads = [] ∧ th.mcopies = []
/-- The group after one more arrival of a thread at a hurdle: nothing but the round and a collective has changed. -/
def Arrived (g h : Grp) (idx k : Nat) : Prop :=
  (h.round k).arrived = (g.round k).arrived ++ [idx] ∧ (h.round k).number = (g.round k).number ∧
    (∀ j, j ≠ k → h.round j = g.round j) ∧ h.threads = g.threads ∧ h.staged = g.staged ∧ h.phase = g.phase

end Sys2Proof.Claims

/-- R131, R136, R179 and R187 to R190; R134 to R139, R179, R187 and R190. -/
def Obligations.Hurdles : Prop :=
  ((∀ op ∈ ([(Instr.hurdle, true), (.harrive, false)] : List ((Thr → FmtS → Instr) × Bool)),
    ∀ (s : State) (t : Thr) (f : FmtS) (g : Grp) (th : Thread) (k : Nat), Issues s t g th → HurdleFields f → GuardAt th f.grd 0 →
      FreeX th f.s2 → k = hurdleAt g t f.scope f.id →
      ((f.scope = 3 ∧ (4 ≤ f.id.toNat ∨ g.prog.usesTeam = false)) → exec (op.1 t f) s = .next (s.raise t xHurdle 0)) ∧
      (¬(f.scope = 3 ∧ (4 ≤ f.id.toNat ∨ g.prog.usesTeam = false)) → (th.loads ≠ [] ∨ th.mcopies ≠ []) → exec (op.1 t f) s = .next s) ∧
      (AtHurdle g th f.scope.toNat f.id.toNat → t.idx ∈ (g.round k).arrived → exec (op.1 t f) s = .next (s.raise t xHurdle 0)) ∧
      (AtHurdle g th f.scope.toNat f.id.toNat → t.idx ∉ (g.round k).arrived → ∃ (u : State) (th' : Thread) (h : Grp),
        exec (op.1 t f) s = .next (((u.retire t g th').tryOpen t.gid k).checkDeadlock t.gid) ∧ u.mem = s.mem ∧ u.fns = s.fns ∧
        u.grp t.gid = some h ∧ Arrived g h t.idx k ∧ th'.pc = th.pc + 8 ∧ th'.x = th.x ∧ th'.v = th.v ∧ th'.p = th.p ∧
        th'.arrivals.get 0 k = (g.round k).number ∧ (op.2 = true → th'.st = .hurdle ∧ th'.waitKey = some k) ∧
        (op.2 = false → th'.st = .running ∧ th'.waitKey = none))) ∧
  (∀ (s : State) (t : Thr) (f : FmtS) (g : Grp) (th : Thread) (k : Nat), Issues s t g th → f.grd = 0 → 2 ≤ f.scope.toNat →
    f.ty.toNat ∈ [0, 4, 5, 6] → f.d.toNat < 32 → f.s1.toNat < 32 → f.s3 = 0 → f.rsv = 0 → (f.scope = 3 ∨ f.s2 = 0) → FreeX th f.s2 →
    FreeV th f.s1 → k = hurdleAt g t f.scope f.id → AtHurdle g th f.scope.toNat f.id.toNat → t.idx ∉ (g.round k).arrived →
    ∃ (u : State) (th' : Thread) (h : Grp), exec (.hurdleSum t f) s = .next (((u.retire t g th').tryOpen t.gid k).checkDeadlock t.gid) ∧ u.mem = s.mem ∧
      u.grp t.gid = some h ∧ Arrived g h t.idx k ∧ (h.round k).contrib.get [] t.idx = th.vr f.s1.toNat ∧ th'.pc = th.pc + 8 ∧
      th'.x = th.x ∧ th'.v = th.v ∧ th'.st = .hurdle ∧ th'.waitKey = some k ∧ th'.sumDest = some f.d.toNat ∧
      ((g.round k).arrived = [] → (h.round k).form = 1 ∧ (h.round k).ty = f.ty.toNat)) ∧
  (∀ (s : State) (t : Thr) (f : FmtS) (g : Grp) (th : Thread) (k : Nat) (ps : List LoadPart), Issues s t g th → GuardAt th f.grd 0 →
    f.scope = 0 → f.ty.toNat ∈ [0, 4, 5, 6] → f.rsv = 0 → FreeX th f.d → FreeX th f.s1 → FreeX th f.s2 → FreeX th f.s3 →
    k = hurdleAt g t 3 f.id → AtHurdle g th 3 f.id.toNat → t.idx ∉ (g.round k).arrived → g.collect = none →
    (th.xr f.s3.toNat).toNat ≤ 16777216 → (th.xr f.s3.toNat).toNat % (if f.ty.toNat ≤ 4 then 4 else 2) = 0 →
    (th.xr f.s3.toNat = 0 ∨ (privVa ≤ (th.xr f.d.toNat).toNat ∧
      (th.xr f.d.toNat).toNat + (th.xr f.s3.toNat).toNat ≤ privVa + g.prog.priv)) →
    s.reachRange g t.idx (th.xr f.s1.toNat) .load (cut (th.xr f.s1.toNat).toNat (th.xr f.s3.toNat).toNat 4096) = (ps, none) →
    ∃ (u : State) (th' : Thread) (h : Grp) (c : CollectOp),
      exec (.collect t f) s = .next (((u.retire t g th').tryOpen t.gid k).checkDeadlock t.gid) ∧ u.mem = s.mem ∧
      u.grp t.gid = some h ∧ Arrived g h t.idx k ∧ h.collect = some c ∧ c.src = (th.xr f.s1.toNat).toNat ∧
      c.dst = (th.xr f.d.toNat).toNat ∧ c.len = (th.xr f.s3.toNat).toNat ∧ c.ty = f.ty.toNat ∧ c.parts = ps ∧ c.sent = false ∧
      th'.pc = th.pc + 8 ∧ th'.x = th.x ∧ th'.v = th.v ∧ th'.st = .hurdle ∧ th'.waitKey = some k)) ∧
  ((∀ (s : State) (t : Thr) (f : FmtS) (g : Grp) (th : Thread) (k : Nat), Issues s t g th → HurdleFields f → GuardAt th f.grd 0 →
    FreeX th f.s2 → k = hurdleAt g t f.scope f.id → AtHurdle g th f.scope.toNat f.id.toNat →
    (th.arrivals.find k = none → exec (.hwait t f) s = .next (s.raise t xHurdle 0)) ∧
    (∀ n, th.arrivals.find k = some n → n < (g.round k).number →
      ∃ th' : Thread, exec (.hwait t f) s = .next (s.retire t g th') ∧ Advanced th th') ∧
    (∀ n, th.arrivals.find k = some n → (g.round k).number ≤ n →
      ∃ th' : Thread, exec (.hwait t f) s = .next ((s.retire t g th').checkDeadlock t.gid) ∧ th'.pc = th.pc + 8 ∧ th'.x = th.x ∧ th'.v = th.v ∧
        th'.p = th.p ∧ th'.st = .hurdle ∧ th'.waitKey = some k)) ∧
  (∀ (s : State) (gid k : Nat) (g : Grp), s.grp gid = some g → g.phase = .running → g.roundFull k = true → keyScope k < 2 →
    (g.round k).groupArrived = false →
    ((g.round k).misuse = true → s.tryOpen gid k = s.raise ⟨gid, 0⟩ xHurdle 0) ∧
    ((g.round k).misuse = false → (s.tryOpen gid k).grp gid = some (g.openRound k []) ∧ (s.tryOpen gid k).mem = s.mem)) ∧
  (∀ (g : Grp) (k : Nat) (sum : List W32), ((g.openRound k sum).round k).number = (g.round k).number + 1 ∧
    ((g.openRound k sum).round k).arrived = [] ∧ (∀ j, j ≠ k → (g.openRound k sum).round j = g.round j) ∧
    (∀ i th, g.th i = some th → th.st = .hurdle → th.waitKey = some k → th.arrivals.get 0 k = (g.round k).number → th.mcopies = [] →
      ∃ th' : Thread, (g.openRound k sum).th i = some th' ∧ th'.st = .running ∧ th'.waitKey = none ∧ th'.pc = th.pc ∧ th'.x = th.x ∧
        (th.sumDest = none → th'.v = th.v) ∧ (∀ d, th.sumDest = some d → th'.vr d = sum ∧ ∀ r, r ≠ d → th'.vr r = th.vr r))) ∧
  (∀ (s : State) (gid id : Nat) (g : Grp), s.grp gid = some g →
    (g.phase = .running → id < 4 → (g.round (hurdleKey 3 0 id)).groupArrived = true →
      exec (.hurdleTimeout gid id) s = .next (s.raise ⟨gid, 0⟩ xHurdleTimeout 0)) ∧
    ((g.round (hurdleKey 3 0 id)).groupArrived = false → exec (.hurdleTimeout gid id) s = .next s)))

/-- R191 to R195, R207, R219 and R226. -/
def Obligations.TensorOps : Prop :=
  (∀ (s : State) (t : Thr) (f : FmtT) (g : Grp) (th : Thread), Issues s t g th → f.sa = 0 → f.sb = 0 → f.sk = 0 → f.ss = 0 → f.fmtA = 0 →
    f.fmtB = 0 → f.rnd = 0 → f.clr = 0 → f.rsv = 0 → GuardAt th f.grd 0 →
    (g.prog.accTiles ≤ f.tile.toNat → exec (.tzero t f) s = .next (s.raise t xTile 0) ∧ exec (.twait t f) s = .next (s.raise t xTile 0)) ∧
    (f.tile.toNat < g.prog.accTiles → 8 ≤ (g.tq.get [] (g.coreOf t.idx)).length → exec (.tzero t f) s = .next s) ∧
    (f.tile.toNat < g.prog.accTiles → (g.tq.get [] (g.coreOf t.idx)).length < 8 → ∃ (u : State) (th' : Thread) (h : Grp),
      exec (.tzero t f) s = .next (u.retire t g th') ∧ Advanced th th' ∧ u.mem = s.mem ∧ u.grp t.gid = some h ∧ h.tiles = g.tiles ∧
      h.tq.get [] (g.coreOf t.idx) = g.tq.get [] (g.coreOf t.idx) ++ [⟨f.tile.toNat, t.idx, .tzero⟩]) ∧
    (f.tile.toNat < g.prog.accTiles → (∀ o ∈ g.tq.get [] (g.coreOf t.idx), o.tile ≠ f.tile.toNat) →
      ∃ th' : Thread, exec (.twait t f) s = .next (s.retire t g th') ∧ Advanced th th') ∧
    (f.tile.toNat < g.prog.accTiles → (∃ o ∈ g.tq.get [] (g.coreOf t.idx), o.tile = f.tile.toNat) → exec (.twait t f) s = .next s)) ∧
  (∀ (s : State) (t : Thr) (f : FmtT) (g : Grp) (th : Thread) (fa fb : Fmt) (k : Nat) (a b c : W64), Issues s t g th →
    Fmt.ofNibble f.fmtA.toNat = some fa → Fmt.ofNibble f.fmtB.toNat = some fb → fa.cls ≤ 16 → fb.cls ≤ 16 → f.rnd = 0 → f.clr = 0 →
    f.rsv = 0 → (fa.mx = true ∨ fb.mx = true ∨ f.ss = 0) → GuardAt th f.grd 0 → FreeX th f.sa → FreeX th f.sb → FreeX th f.sk → FreeX th f.ss →
    a = th.xr f.sa.toNat → b = th.xr f.sb.toNat → c = (if fa.mx || fb.mx then th.xr f.ss.toNat else 0) → k = (th.xr f.sk.toNat).toNat →
    (a.toNat % 64 ≠ 0 ∨ b.toNat % 64 ≠ 0 ∨ c.toNat % 64 ≠ 0 → exec (.tmma t f) s = .next (s.raise t xMisaligned 0)) ∧
    (a.toNat % 64 = 0 → b.toNat % 64 = 0 → c.toNat % 64 = 0 → (65536 < k ∨ k % 32 ≠ 0) →
      exec (.tmma t f) s = .next (s.raise t xOperand 0)) ∧
    (a.toNat % 64 = 0 → b.toNat % 64 = 0 → c.toNat % 64 = 0 → k ≤ 65536 → k % 32 = 0 → f.tile.toNat < g.prog.accTiles →
      (k = 0 → ∃ th' : Thread, exec (.tmma t f) s = .next (s.retire t g th') ∧ Advanced th th') ∧
      (0 < k → (g.tq.get [] (g.coreOf t.idx)).length < 8 →
        s.coreRanges t g th .load ([(a, 32 * rowBytes fa k), (b, 32 * rowBytes fb k)] ++
          (if scaleBytes fa fb k = 0 then [] else [(c, scaleBytes fa fb k)])) = (none, false) →
        ∃ (u : State) (th' : Thread) (h : Grp), exec (.tmma t f) s = .next (u.retire t g th') ∧ Advanced th th' ∧ u.mem = s.mem ∧ u.grp t.gid = some h ∧
          h.tiles = g.tiles ∧ h.tq.get [] (g.coreOf t.idx) = g.tq.get [] (g.coreOf t.idx) ++ [⟨f.tile.toNat, t.idx,
            .tmma f.fmtA.toNat f.fmtB.toNat k (s.readBytes (coreAddr (g.globalCore (g.coreOf t.idx)) a.toNat) (32 * rowBytes fa k))
              (s.readBytes (coreAddr (g.globalCore (g.coreOf t.idx)) b.toNat) (32 * rowBytes fb k))
              (if scaleBytes fa fb k = 0 then [] else
                s.readBytes (coreAddr (g.globalCore (g.coreOf t.idx)) c.toNat) (scaleBytes fa fb k))⟩]))) ∧
  (∀ (s : State) (t : Thr) (f : FmtT) (g : Grp) (th : Thread) (fa : Fmt) (m : Rnd), Issues s t g th →
    f.fmtA.toNat ∈ [12, 13, 10, 11, 4, 5] → Fmt.ofNibble f.fmtA.toNat = some fa → Rnd.ofBits f.rnd.toNat = some m → f.sb = 0 → f.sk = 0 →
    f.ss = 0 → f.fmtB = 0 → f.rsv = 0 → GuardAt th f.grd 0 → FreeX th f.sa → (th.xr f.sa.toNat).toNat % 64 = 0 →
    s.coreRanges t g th .store [(th.xr f.sa.toNat, 128 * fa.width)] = (none, false) → f.tile.toNat < g.prog.accTiles →
    (g.tq.get [] (g.coreOf t.idx)).length < 8 →
    ∃ (u : State) (th' : Thread) (h : Grp), exec (.trd t f) s = .next (u.retire t g th') ∧ Advanced th th' ∧ u.mem = s.mem ∧ u.grp t.gid = some h ∧
      th'.op = th.op + (if m = .sr then 1 else 0) ∧ h.tq.get [] (g.coreOf t.idx) = g.tq.get [] (g.coreOf t.idx) ++
        [⟨f.tile.toNat, t.idx, .trd f.fmtA.toNat f.rnd.toNat (th.xr f.sa.toNat).toNat (f.clr == 1) th.op⟩]) ∧
  (∀ (s : State) (gid core : Nat) (g : Grp) (o : TOp) (rest : List TOp), s.grp gid = some g → (g.phase = .running ∨ g.phase = .saving) →
    g.tq.get [] core = o :: rest → o.tile < 4 →
    ∃ (u : State) (h : Grp), exec (.tensorOpComplete gid core) s = .next (u.settleGroup gid) ∧ u.grp gid = some h ∧
      h.tq.get [] core = rest ∧ h.staged = g.staged ∧ h.phase = g.phase ∧
      (∀ c i e, i < 4 → e < 1024 → ¬(c = core ∧ i = o.tile) → h.elem c i e = g.elem c i e) ∧
      (o.kind = .tzero → u.mem = s.mem ∧ ∀ e, e < 1024 → h.elem core o.tile e = Xa.zero) ∧
      (∀ (na nb k : Nat) (a b sc : List Byte) (fa fb : Fmt), o.kind = .tmma na nb k a b sc → Fmt.ofNibble na = some fa →
        Fmt.ofNibble nb = some fb → u.mem = s.mem ∧ ∀ e, e < 1024 → h.elem core o.tile e = addAllSlabs fa fb a b
          (if fa.mx then sc.take k else []) (if fb.mx then sc.drop (if fa.mx then k else 0) else []) k (e / 32) (e % 32)
          (g.elem core o.tile e)) ∧
      (∀ (na rnd sa op : Nat) (clr : Bool) (fa : Fmt) (m : Rnd), o.kind = .trd na rnd sa clr op → Fmt.ofNibble na = some fa →
        Rnd.ofBits rnd = some m → u.mem = (s.store (coreAddr (g.globalCore core) sa) (s.trdBytes g core o.tile fa m o.thread op)).mem ∧
        ∀ e, e < 1024 → h.elem core o.tile e = if clr then Xa.zero else g.elem core o.tile e))

/-- R251 to R258, R260, R266, R267 and R269. -/
def Obligations.ForestOps : Prop :=
  (∀ (s : State) (t : Thr) (f : FmtR) (g : Grp) (th : Thread) (a core : Nat) (d : List Byte), Issues s t g th → f.d = 0 → f.s2 = 0 →
    f.s3 = 0 → f.ty = 0 → f.cond = 0 → f.rsv = 0 → GuardAt th f.grd 0 → FreeX th f.s1 → (th.xr f.s1.toNat).toNat % 64 = 0 →
    s.reach g t.idx 1 (th.xr f.s1.toNat) 64 .load = .ok (.core a) → g.blocks t.idx th (.core a) 64 false = false →
    d = s.readBytes a 64 → core = g.globalCore (g.coreOf t.idx) →
    lowest (descCodes d (s.fnNat g.fn PDK_IMAGE_SIZE * mib)) = none →
    (fdRecords d = 0 → ∃ (u : State) (th' : Thread), exec (.feval t f) s = .next (u.retire t g th') ∧ Advanced th th' ∧ u.mem = s.mem ∧ th'.fevals = th.fevals) ∧
    (∀ (h : List Byte) (outs : List Tgt) (unit : Nat), 0 < fdRecords d → s.imageRead g.fn (fdEnsemble d) 64 = some (h, false) →
      lowest (State.limitCodes g d h) = none →
      s.foldOuts g t.idx (if fdMode d = 0 then [] else
        (List.range (fdRecords d * fhOutputs h)).map (fun i => BitVec.ofNat 64 (fdOutAddr d + 4 * i))) = (outs, none) →
      s.forestUnit (core / 256) (fdUnit d) = some unit → th.fevals.length < 4 → s.unitQueue unit < 16 →
      g.blocks t.idx th (.core (coreAddr core (featRange d h).1)) (featRange d h).2 false = false →
      (fdMode d = 0 → g.blocks t.idx th (.core (coreAddr core (outRange d h).1)) (outRange d h).2 true = false) →
      ∃ (th' : Thread) (o : FevalOp), exec (.feval t f) s = .next (s.retire t g th') ∧ Advanced th th' ∧ th'.fevals = th.fevals ++ [o] ∧
        o.id = th.nextId ∧ o.ensemble = fdEnsemble d ∧ o.header = h ∧ o.records = fdRecords d ∧ o.outFold = (fdMode d == 1) ∧
        o.outOff = fdOutOff d ∧ o.outs = outs ∧ o.treeFirst = fdFirst d ∧ o.treeCount = fdCount d ∧ o.unit = unit ∧
        o.features = (List.range (fdRecords d)).map (fun r => s.featuresOf core (fdFeatOff d + r * fdStride d) (fhFeatures h)))) ∧
  (∀ (s : State) (t : Thr) (f : FmtR) (g : Grp) (th : Thread), Issues s t g th → f.d = 0 → f.s1 = 0 → f.s2 = 0 → f.s3 = 0 → f.ty = 0 →
    f.cond = 0 → f.rsv = 0 → GuardAt th f.grd 0 →
    (th.fevals = [] → ∃ th' : Thread, exec (.fwait t f) s = .next (s.retire t g th') ∧ Advanced th th') ∧
    (th.fevals ≠ [] → exec (.fwait t f) s = .next s)) ∧
  (∀ (s : State) (t : Thr) (g : Grp) (th : Thread) (o : FevalOp) (line : Nat), s.grp t.gid = some g → g.th t.idx = some th →
    th.feval o.id = some o → line ∈ o.fills.take 32 → ∃ u : State, exec (.nodeFillReturn t o.id line) s = .next u ∧ u.mem = s.mem ∧
      u.fnNat g.fn FOR_NODE_FILLS = min 0xFFFFFFFF (s.fnNat g.fn FOR_NODE_FILLS + 1) ∧
      (∀ p ∈ u.groups, p.2.fn = g.fn → ∀ q ∈ p.2.threads, ∀ e ∈ q.2.fevals, e.unit = o.unit → line ∉ e.fills)) ∧
  (∀ (s : State) (t : Thr) (g : Grp) (th : Thread) (o : FevalOp), s.grp t.gid = some g → g.th t.idx = some th → th.feval o.id = some o →
    o.fills = [] → (g.phase = .running ∨ g.phase = .saving) → (∀ w ∈ (s.walks g.fn o).flatten, ∃ b, w.stop = .leaf b) →
    ∃ (u v : State), exec (.fevalComplete t o.id) s = .next (((v.openWindows t.gid t.idx 1).countFeval g.fn o.issuedAt).settleGroup t.gid) ∧
      u.mem = s.mem ∧ u.sites = s.sites ∧
      (o.outFold = false → v.mem = (s.store (coreAddr (g.globalCore (g.coreOf t.idx)) o.outOff) (((fevalSums o (s.walks g.fn o)).map
        (fun x => leBytes 4 (x.readOut ⟨.flt fp32, 32, false, 0, 32⟩ .rne 0))).flatten)).mem) ∧
      (o.outFold = true → v = (o.outs.zip (fevalSums o (s.walks g.fn o))).foldl (fun s p => s.joinSum t p.1 p.2) u)) ∧
  (∀ (s : State) (t : Thr) (f : FmtR) (g : Grp) (th : Thread), Issues s t g th → f.d.toNat % 2 = 0 → f.d ≠ 0 → f.s2 = 0 → f.s3 = 0 →
    f.ty = 0 → f.cond = 0 → f.rsv = 0 → GuardAt th f.grd 0 → FreeX th f.s1 →
    (8 ≤ th.finds.length → exec (.dfind t f) s = .next s) ∧
    (th.finds.length < 8 → ∃ (u : State) (th' : Thread) (h : Grp), exec (.dfind t f) s = .next (u.retire t g th') ∧ Advanced th th' ∧ u.mem = s.mem ∧
      u.grp t.gid = some h ∧ h.lookups = g.lookups ++ [s.startLookup g.fn g.nextLookup (some t.idx) 0 (th.xr f.s1.toNat)] ∧
      th'.finds.get 0 (2 * g.nextLookup) = f.d.toNat ∧ th'.finds.get 0 (2 * g.nextLookup + 1) = f.d.toNat + 1)) ∧
  (∀ (s : State) (gid i : Nat) (g : Grp) (th : Thread) (l : Lookup), s.grp gid = some g → g.th i = some th →
    g.lookups.find? (fun x => x.id = l.id) = some l → g.phase ≠ .stopping → l.thread = some i →
    ((l.state = 0 → ∃ (u : State) (h : Grp), exec (.lookupComplete gid l.id) s = .next (u.settleGroup gid) ∧ u.mem = s.mem ∧ u.grp gid = some h ∧
      h.th i = some (th.found l.id 0 0xFFFFFFFFFFFFFFFF)) ∧
    (∀ x : DirSlot, l.state = 1 → x.tag = g.fn → mustRestart l (s.dirEntry g.fn l.bucket).gen = false →
      s.searchPage (dirPage (s.dirEntry g.fn l.bucket) l.sel) l.count l.key l.finger = some (some x) →
      ∃ (u : State) (h : Grp), exec (.lookupComplete gid l.id) s = .next (u.settleGroup gid) ∧ u.mem = s.mem ∧ u.grp gid = some h ∧
        h.th i = some (th.found l.id (BitVec.ofNat 64 x.addr) (BitVec.ofNat 64 x.len))))) ∧
  (∀ (th : Thread) (id : Nat) (a n : W64), 0 < th.finds.get 0 (2 * id) → th.finds.get 0 (2 * id + 1) = th.finds.get 0 (2 * id) + 1 →
    (th.found id a n).xr (th.finds.get 0 (2 * id)) = a ∧ (th.found id a n).xr (th.finds.get 0 (2 * id) + 1) = n ∧
    (∀ r, r ≠ th.finds.get 0 (2 * id) → r ≠ th.finds.get 0 (2 * id) + 1 → (th.found id a n).xr r = th.xr r) ∧
    (th.found id a n).v = th.v ∧ (th.found id a n).pc = th.pc)

/-- R196 to R199, R243 and R245. -/
def Obligations.ChecksAndSpecials : Prop :=
  (∀ (s : State) (t : Thr) (f : FmtI) (g : Grp) (th : Thread), Issues s t g th → f.d = 0 → f.s1 = 0 → f.ty = 0 → f.rsv = 0 → f.imm = 0 →
    GuardAt th f.grd 0 →
    (th.windows = 0 → g.windows = 0 → th.fevals = [] → (∀ o ∈ g.tq.get [] (g.coreOf t.idx), o.thread ≠ t.idx) →
      ∃ th' : Thread, exec (.chkSync t f) s = .next (s.retire t g th') ∧ Advanced th th') ∧
    ((th.windows ≠ 0 ∨ g.windows ≠ 0 ∨ th.fevals ≠ []) → exec (.chkSync t f) s = .next s)) ∧
  (∀ (s : State) (t : Thr) (f : FmtR) (g : Grp) (th : Thread), Issues s t g th → f.d = 0 → f.s3 = 0 → f.cond = 0 → f.rsv = 0 →
    (f.ty = 0 → GuardAt th f.grd 0 → FreeX th f.s1 → FreeX th f.s2 →
      (th.xr f.s1.toNat = th.xr f.s2.toNat → ∃ th' : Thread, exec (.chkCmp t f) s = .next (s.retire t g th') ∧ Advanced th th') ∧
      (th.xr f.s1.toNat ≠ th.xr f.s2.toNat → exec (.chkCmp t f) s = .next (s.checkMismatch t.gid))) ∧
    (f.ty = 4 → GuardWf f.grd → f.s1.toNat < 32 → f.s2.toNat < 32 → FreeV th f.s1 → FreeV th f.s2 →
      ((∀ i, i < 32 → active th f.grd i = true → laneAt (th.vr f.s1.toNat) i = laneAt (th.vr f.s2.toNat) i) →
        ∃ th' : Thread, exec (.chkCmp t f) s = .next (s.retire t g th') ∧ Advanced th th') ∧
      ((∃ i, i < 32 ∧ active th f.grd i = true ∧ laneAt (th.vr f.s1.toNat) i ≠ laneAt (th.vr f.s2.toNat) i) →
        exec (.chkCmp t f) s = .next (s.checkMismatch t.gid)))) ∧
  (∀ (s : State) (gid : Nat) (g : Grp) (j : JEntry), s.grp gid = some g → s.entry g.fn g.entry = some j →
    ∃ u : State, u.entry g.fn g.entry = some { j with mismatches := j.mismatches + 1 } ∧ u.groups = s.groups ∧ u.mem = s.mem ∧
      (j.mismatches < 3 → s.checkMismatch gid = u.datapathError gid true) ∧
      (3 ≤ j.mismatches → s.checkMismatch gid = (u.endRecord gid g.fn g.entry stFaulted xCheck).progress g.fn)) ∧
  (∀ (s : State) (t : Thr) (f : FmtR) (g : Grp) (th : Thread), Issues s t g th → f.d = 0 → f.s1.toNat < 8 → f.s2 = 0 → f.s3 = 0 →
    f.ty = 0 → f.cond = 0 → f.rsv = 0 → GuardAt th f.grd 0 →
    ((th.pr f.s1.toNat).getLsbD 0 = true → ∃ th' : Thread, exec (.chkAssert t f) s = .next (s.retire t g th') ∧ Advanced th th') ∧
    ((th.pr f.s1.toNat).getLsbD 0 = false → exec (.chkAssert t f) s = .next (s.raise t xAssert 0))) ∧
  (∀ (s : State) (gid i : Nat) (g : Grp) (th : Thread) (error : Bool), s.grp gid = some g → g.th i = some th → 0 < th.windows →
    ∃ u : State, exec (.checkWindowClose gid (some i) error) s = .next (if error then u.datapathError gid true else u) ∧
      u.grp gid = some (g.setTh i { th with windows := th.windows - 1 }) ∧ u.mem = s.mem ∧ u.fns = s.fns) ∧
  (∀ (s : State) (gid : Nat) (g : Grp) (error : Bool), s.grp gid = some g → 0 < g.windows →
    ∃ u : State, exec (.checkWindowClose gid none error) s = .next (if error then u.datapathError gid true else u) ∧
      u.grp gid = some { g with windows := g.windows - 1 } ∧ u.mem = s.mem ∧ u.fns = s.fns) ∧
  (∀ (s : State) (t : Thr) (f : FmtI) (g : Grp) (th : Thread), Issues s t g th → f.s1 = 0 → f.ty = 0 → f.rsv = 0 → GuardAt th f.grd 0 →
    (f.imm = 0 → ∃ th' : Thread, exec (.rdtime t f) s = .next (s.retire t g th') ∧
      WroteX th th' f.d (BitVec.ofNat 64 (max s.time th.lastTime)) ∧ th'.lastTime = max s.time th.lastTime) ∧
    (f.imm.toNat ≤ 1 → s.confidential g.fn = true → ∃ th' : Thread, exec (.rdcnt t f) s = .next (s.retire t g th') ∧ WroteX th th' f.d 0) ∧
    (f.imm = 1 → s.confidential g.fn = false → ∃ th' : Thread, exec (.rdcnt t f) s = .next (s.retire t g th') ∧
      WroteX th th' f.d (BitVec.ofNat 64 th.issued)) ∧
    (f.imm = 0 → s.confidential g.fn = false → ∃ th' : Thread, exec (.rdcnt t f) s = .next (({ s with draws := s.draws + 1 } : State).retire t g th') ∧
      WroteX th th' f.d (BitVec.ofNat 64 (Config.freeBits s.draws))) ∧
    (f.imm = 0 → ∃ th' : Thread, exec (.rand t f) s = .next (({ s with draws := s.draws + 1 } : State).retire t g th') ∧
      WroteX th th' f.d (BitVec.ofNat 64 (Config.freeBits s.draws))))

/-! ### Translation and the host -/

/-- R390, R402 to R406 and R411. -/
def Obligations.TranslationCompletions : Prop :=
  (∀ (s : State) (fn va page base lpa log2 : Nat) (write : Bool), page = va / 4096 * 4096 → page ∈ (s.fn fn).xlt.walks →
    s.walk fn page = .mapped base lpa log2 write →
    ∃ u : State, exec (.tableWalkDone fn va) s = .next (u.pump fn) ∧ u.mem = s.mem ∧ page ∉ (u.fn fn).xlt.walks ∧
      (u.fn fn).xlt.tlb = ⟨false, base, log2, false, lpa, true, write⟩ :: (s.fn fn).xlt.tlb ∧
      (∀ w, w ∈ (u.fn fn).xlt.waits ↔ w ∈ (s.fn fn).xlt.waits ∧ ¬(w.page = page ∧ w.stage = .walk)) ∧
      (∀ gid i g th, s.grp gid = some g → g.th i = some th → th.st = .parked →
        (∃ w ∈ (s.fn fn).xlt.waits, w.page = page ∧ w.stage = .walk ∧ w.who = .thread gid i) →
        ∃ (h : Grp) (th' : Thread), u.grp gid = some h ∧ h.th i = some th' ∧ th'.st = .running ∧ th'.pc = th.pc)) ∧
  (∀ (s : State) (fn va : Nat), va / 4096 * 4096 ∉ (s.fn fn).xlt.walks → exec (.tableWalkDone fn va) s = .next s) ∧
  (∀ (s : State) (fn va : Nat) (c : AtsResult), (∀ q ∈ (s.fn fn).xlt.atsReqs, q.1 ≠ va / 4096 * 4096) →
    exec (.atsCompletion fn va c) s = .next (s.hubSetN PCE_CPL_ERRORS (min 0xFFFFFFFF (s.hubNat PCE_CPL_ERRORS + 1)))) ∧
  (∀ (s : State) (fn va page ha log2 : Nat) (d w : Bool), page = va / 4096 * 4096 → (page, w) ∈ (s.fn fn).xlt.atsReqs →
    page ∉ (s.fn fn).xlt.staleAts → (∃ x ∈ (s.fn fn).xlt.waits, x.page = page ∧ x.stage = .ats) →
    (∀ x ∈ (s.fn fn).xlt.waits, x.page = page → x.stage = .ats → x.direct = d) →
    ∃ (u : State) (e : Tlb) (rest : List Tlb), exec (.atsCompletion fn va (.page ha log2 true true)) s = .next (u.pump fn) ∧ u.mem = s.mem ∧
      (u.fn fn).xlt.tlb = e :: rest ∧ e.direct = d ∧ e.host = true ∧ e.read = true ∧ e.write = true ∧ e.va ≤ page ∧ page < e.va + 2 ^ e.log2 ∧
      e.target + (page - e.va) = ha / 2 ^ max 12 log2 * 2 ^ max 12 log2 + page % 2 ^ max 12 log2 ∧
      (∀ q ∈ (u.fn fn).xlt.atsReqs, q.1 ≠ page)) ∧
  (∀ (s : State) (fn itag va size : Nat),
    (32 ≤ (s.fn fn).xlt.invs.length → exec (.atsInvalidateRequest fn itag va size) s = .next s) ∧
    ((s.fn fn).xlt.invs.length < 32 → ∃ t : State, exec (.atsInvalidateRequest fn itag va size) s = .next t ∧ t.mem = s.mem ∧ t.tx = s.tx ∧
      (t.fn fn).xlt.invs = (s.fn fn).xlt.invs ++ [⟨itag, va, size⟩] ∧ (t.fn fn).xlt.waits = (s.fn fn).xlt.waits ∧
      (∀ e, e ∈ (t.fn fn).xlt.tlb ↔ e ∈ (s.fn fn).xlt.tlb ∧ (e.host = false ∨ e.va + 2 ^ e.log2 ≤ va ∨ va + size ≤ e.va)))) ∧
  (∀ (s : State) (fn itag : Nat), (∃ i ∈ (s.fn fn).xlt.invs, i.itag = itag) → s.pceHeld fn = false → (∀ q ∈ s.pce.waiting, q.fn ≠ fn) →
    ∃ t : State, exec (.atsInvalidateComplete fn itag) s = .next t ∧ t.tx = s.tx ++ [.atsDone fn itag] ∧
      (∀ i ∈ (t.fn fn).xlt.invs, i.itag ≠ itag) ∧ (t.fn fn).xlt.tlb = (s.fn fn).xlt.tlb ∧
      t.fnNat fn XLT_ATS_INVALIDATIONS = min 0xFFFFFFFF (s.fnNat fn XLT_ATS_INVALIDATIONS + 1))

/-- R408 to R415. -/
def Obligations.PageRequests : Prop :=
  (∀ (s : State) (fn i : Nat) (r : PrgResult), (s.fn fn).xlt.prgs.find i = none → exec (.prgResponse fn i r) s =
    .next (s.fnSetN fn XLT_STALE_RESPONSES (min 0xFFFFFFFF (s.fnNat fn XLT_STALE_RESPONSES + 1)))) ∧
  (∀ (s : State) (fn i : Nat) (p : Prg), (s.fn fn).xlt.prgs.find i = some p → p.quarantined = false →
    (∃ u : State, exec (.prgResponse fn i .success) s = .next (((u.retryWaits fn isIndexWait).pump fn).noteDrained fn) ∧ u.mem = s.mem ∧
      (u.fn fn).xlt.prgs.find i = none ∧ (u.fn fn).xlt.retries.get 0 p.page = (s.fn fn).xlt.retries.get 0 p.page + 1 ∧
      (∀ w ∈ (u.fn fn).xlt.waits, waitsOn i w = false)) ∧
    (∃ u : State, exec (.prgResponse fn i .invalid) s = .next (((u.retryWaits fn isIndexWait).pump fn).noteDrained fn) ∧
      (u.fn fn).xlt.prgs.find i = none) ∧
    ((s.fn fn).xlt.waits = [] → (s.fn fn).xlt.prgs.length ≤ 512 → ∃ u : State, exec (.prgResponse fn i .failure) s = .next (((u.retryWaits fn isIndexWait).pump fn).noteDrained fn) ∧
      bitOf (u.fnNat fn XLT_PRI_STATE) 31 = true ∧ (u.fn fn).xlt.prgs.find i = none ∧ u.mem = s.mem)) ∧
  (∀ (s : State) (fn i : Nat) (p : Prg) (r : PrgResult), (s.fn fn).xlt.prgs.find i = some p → p.quarantined = true →
    ∃ u : State, exec (.prgResponse fn i r) s = .next (((u.retryWaits fn isIndexWait).pump fn).noteDrained fn) ∧
      (u.fn fn).xlt.prgs.find i = none ∧ u.mem = s.mem ∧ u.groups = s.groups) ∧
  (∀ (s : State) (fn i : Nat) (p : Prg), (s.fn fn).xlt.prgs.find i = some p → p.quarantined = false →
    (s.time < p.sentAt + 1000 * s.fnNat fn XLT_PRI_TIMEOUT → exec (.priTimeout fn i) s = .next s) ∧
    (p.sentAt + 1000 * s.fnNat fn XLT_PRI_TIMEOUT ≤ s.time → ∃ u : State,
      exec (.priTimeout fn i) s = .next ((u.report (padReport cPriTimeout .uc 0x08 0 p.page fn 0)).pump fn) ∧
      (u.fn fn).xlt.prgs.find i = some { p with quarantined := true })) ∧
  (∀ (s : State) (fn : Nat), ∃ t : State, exec (.ringWriteRetry fn) s = .next t ∧ (t.fn fn).xlt.ringBlocked = false ∧ t.tx = s.tx ∧ t.mem = s.mem ∧
    (t.fn fn).regs = (s.fn fn).regs) ∧
  (∀ (s : State) (fn : Nat) (enable : Bool), ∃ u : State, exec (.priEnableChange fn enable) s = .next ((u.retryWaits fn isIndexWait).pump fn) ∧
    (u.fn fn).xlt.priEnable = enable ∧ u.mem = s.mem ∧ u.tx = s.tx ∧
    (enable = true → (s.fn fn).xlt.priEnable = false → bitOf (u.fnNat fn XLT_PRI_STATE) 31 = false) ∧
    (enable = (s.fn fn).xlt.priEnable → (u.fn fn).regs = (s.fn fn).regs))

/-- R431 to R433, R436 and R558. -/
def Obligations.EndpointRequests : Prop :=
  (∀ (s : State) (tag : Nat) (c : CplResult), s.up = true → s.pce.reqs.find tag = none → ∃ t : State, exec (.pcieCompletion tag c) s = .next t ∧
    t.hubNat PCE_CPL_ERRORS = min 0xFFFFFFFF (s.hubNat PCE_CPL_ERRORS + 1) ∧ t.tx = s.tx ++ [.err 0 0] ∧ t.fns = s.fns ∧ t.mem = s.mem) ∧
  (∀ (s : State) (tag : Nat) (c : CplResult) (q : PcieReq), s.up = true → s.pce.reqs.find tag = some q →
    ∃ u : State, u.pce.reqs.find tag = none ∧ u.mem = s.mem ∧ u.fns = s.fns ∧ u.groups = s.groups ∧
      (c.ok = true → c.poisoned = false → exec (.pcieCompletion tag c) s = .next (u.giveData q c.data) ∧ u.tx = s.tx) ∧
      (c.ok = false → exec (.pcieCompletion tag c) s = .next (u.failRead q) ∧
        u.hubNat PCE_CPL_ERRORS = min 0xFFFFFFFF (s.hubNat PCE_CPL_ERRORS + 1)) ∧
      (c.ok = true → c.poisoned = true → exec (.pcieCompletion tag c) s = .next (u.poisonRead q) ∧ u.tx = s.tx ++ [.err q.fn 1] ∧
        u.hubNat PCE_CPL_ERRORS = min 0xFFFFFFFF (s.hubNat PCE_CPL_ERRORS + 1))) ∧
  (∀ (s : State) (q : PcieReq) (e i : Nat) (j : JEntry) (p : LoadPart) (d : List Byte), q.use = .load e i → s.entry q.fn e = some j →
    j.src[i]? = some p → ∃ k, (s.giveData q d).entry q.fn e = some k ∧ k.src[i]? = some { p with data := some d } ∧
      (∀ n, n ≠ i → k.src[n]? = j.src[n]?) ∧ k.st = j.st ∧ (s.giveData q d).mem = s.mem) ∧
  (∀ (s : State) (tag : Nat) (q : PcieReq), s.pce.reqs.find tag = some q → ∃ u : State, exec (.completionTimeout tag) s = .next (u.failRead q) ∧
    u.pce.reqs.find tag = none ∧ u.tx = s.tx ++ [.err q.fn 1] ∧ u.mem = s.mem ∧ u.groups = s.groups ∧
    u.hubNat PCE_CPL_TIMEOUTS = min 0xFFFFFFFF (s.hubNat PCE_CPL_TIMEOUTS + 1) ∧
    u.hubNat PCE_CPL_ERRORS = min 0xFFFFFFFF (s.hubNat PCE_CPL_ERRORS + 1)) ∧
  (∀ (s : State) (fn : Nat) (b : Bool), s.up = true → s.fnExists fn = true →
    ((s.fn fn).pce.busMaster = b → exec (.busMasterEnableChange fn b) s = .next s) ∧
    ((s.fn fn).pce.busMaster ≠ b → ∃ u : State, exec (.busMasterEnableChange fn b) s = .next ((u.tdiFail fn).resumeHost fn) ∧
      (u.fn fn).pce = { (s.fn fn).pce with busMaster := b } ∧ u.hub = s.hub ∧ u.mem = s.mem ∧
      (fn = 0 ∨ (s.tdi fn ≠ tdiLocked ∧ s.tdi fn ≠ tdiRun) → u.tdiFail fn = u))) ∧
  (∀ (s : State) (fn : Nat) (b : Bool), s.up = true → s.fnExists fn = true → ∃ u : State, exec (.powerStateChange fn b) s = .next (u.resumeHost fn) ∧
    (u.fn fn).pce = { (s.fn fn).pce with d3hot := b } ∧ u.hub = s.hub ∧ u.mem = s.mem ∧ u.tx = s.tx)

/-- R421 to R423, R454 to R459, R608 and R636. -/
def Obligations.FunctionResets : Prop :=
  (∀ (s : State) (fn : Nat), s.up = true → fn ≤ 31 → s.fnExists fn = true → (s.fn fn).pce.flrBusy = false →
    (fn = 0 ∨ (s.tdi fn ≠ tdiLocked ∧ s.tdi fn ≠ tdiRun)) → ∃ u : State, u.mem = s.mem ∧ (u.fn fn).pce = { (s.fn fn).pce with flrBusy := true } ∧
      u.fnNat fn PCE_FLR_COUNT = min 0xFFFFFFFF (s.fnNat fn PCE_FLR_COUNT + 1) ∧
      bitOf (u.fnNat fn PCE_FUNC_STATUS) 6 = !((s.fn fn).pdk = pdkEmpty || (s.fn fn).isDrained) ∧
      (fn ≠ 0 → s.boot.ready = true → exec (.flr fn) s = .next (u.forceQuiesce fn) ∧ u.boot = s.boot) ∧
      (fn ≠ 0 → s.boot.ready = false → exec (.flr fn) s = .next u ∧ fn ∈ u.boot.flrDue) ∧
      (fn = 0 → s.boot.ready = true → exec (.flr fn) s = .next ((u.forceQuiesce 0).vfsOff)) ∧
      (fn = 0 → s.boot.ready = false → exec (.flr fn) s = .next u.vfsOff)) ∧
  (∀ (s : State) (fn : Nat), fn ≠ 0 → ((s.fn fn).pce.flrBusy = true ∨ s.fnExists fn = false) → exec (.flr fn) s = .next s) ∧
  (∀ s : State, s.up = true → ∃ t : State, exec .vfEnableClear s = .next t ∧ t.pce.vfEnable = false ∧ ∀ n, 0 < n → t.fnExists n = false) ∧
  (∀ (s : State) (v : Nat), s.up = true → (v ≤ 31 → ∃ t : State, exec (.numvfsWrite v) s = .next t ∧ t.pce.numVfs = v) ∧
    (31 < v → exec (.numvfsWrite v) s = .next s)) ∧
  (∀ (s : State) (fn : Nat), ((s.fn fn).pce.flrBusy = false → exec (.flrDone fn) s = .next s) ∧
    ((s.fn fn).pce.flrBusy = true → ((s.pumpOut fn).fn fn).outWalks = false → ∃ u : State,
      exec (.flrDone fn) s = .next (((u.raiseInt intFlrDone).noteDrained fn).noteLtr) ∧ (u.fn fn).pce.flrBusy = false ∧
      (u.fn fn).pce.busMaster = false ∧ (u.fn fn).slots = [] ∧ (u.fn fn).bound = false ∧ (u.fn fn).carrying = true ∧ (u.fn fn).nextRing = 0 ∧
      (u.fn fn).ringWritten = 0 ∧ u.fnNat fn STL_RING_HEAD = 0 ∧ (∀ q ∈ u.pce.waiting, q.fn ≠ fn))) ∧
  (∀ s : State, s.up = true → (∃ t : State, exec .hotReset s = .next t ∧ t.pce.vfEnable = false ∧ t.pce.intDisable = false) ∧
    (modPerst (s.resetEndpoint false).boot.modRec ≠ 1 → ∃ t : State, exec .perst s = .next t ∧ t.pce.vfEnable = false ∧ t.sec.sessions = []) ∧
    (modPerst (s.resetEndpoint false).boot.modRec = 1 →
      exec .perst s = .next ((s.resetEndpoint false).startWarm 6)))

/-- R434, R435 and R461; R436, R438 to R440, R443, R444, R462 and R463. -/
def Obligations.InterruptsAndLinkPower : Prop :=
  (∀ (s : State) (ones value : W32) (b : Bool), s.barOpen 0 = true →
    (∃ t : State, exec (.intStatusClear ones) s = .next t ∧ t.hubNat PCE_INT_STATUS = s.hubNat PCE_INT_STATUS &&& (0xFFFFFFFF ^^^ ones.toNat) ∧
      t.hubGet PCE_INT_ENABLE = s.hubGet PCE_INT_ENABLE ∧ (t.intLevel = true → t.pce.intaSent = true ∨ t.pce.holdoff = true) ∧
      (t.intLevel = false → t.pce.intaSent = false) ∧ t.tx.length ≤ s.tx.length + 1 ∧ t.fns = s.fns ∧ t.mem = s.mem) ∧
    (∃ t : State, exec (.intEnableWrite value) s = .next t ∧ t.hubNat PCE_INT_ENABLE = value.toNat ∧
      t.hubGet PCE_INT_STATUS = s.hubGet PCE_INT_STATUS ∧ (t.intLevel = true → t.pce.intaSent = true ∨ t.pce.holdoff = true) ∧
      (t.intLevel = false → t.pce.intaSent = false) ∧ t.tx.length ≤ s.tx.length + 1 ∧ t.fns = s.fns ∧ t.mem = s.mem) ∧
    (∃ t : State, exec (.interruptDisableChange b) s = .next t ∧ t.pce.intDisable = b ∧ t.hub = s.hub ∧
      (t.intLevel = true → t.pce.intaSent = true ∨ t.pce.holdoff = true) ∧ (t.intLevel = false → t.pce.intaSent = false) ∧
      t.tx.length ≤ s.tx.length + 1 ∧ t.fns = s.fns ∧ t.mem = s.mem) ∧
    (s.intLevel = true → ∃ t : State, exec .intaHoldoffExpiry s = .next t ∧ t.pce.intaSent = true ∧ t.hub = s.hub ∧
      t.tx = s.tx ++ (if s.pce.intaSent then [] else [.inta true]))) ∧
  ((∀ s : State, s.up = true →
    (s.pce.linkUp = true → s.pce.pm = .l0 → ∃ t : State, exec .l1Entry s = .next t ∧ t.pce = { s.pce with pm := .l1 } ∧
      t.hubNat PCE_L1_ENTRIES = min 0xFFFFFFFF (s.hubNat PCE_L1_ENTRIES + 1) ∧ t.tx = s.tx) ∧
    exec .l1Exit s = .next { s with pce := { s.pce with pm := .l0 } } ∧
    exec .clkreqAsserted s = .next { s with pce := { s.pce with pm := .l0 } } ∧
    (s.flitMode = true → 2 ^ (s.hubNat PCE_L0P_POLICY % 8) < s.activeWidth → ∃ t : State, exec .l0pNarrow s = .next t ∧
      t.activeWidth = s.activeWidth / 2 ∧ t.hubNat PCE_L0P_CHANGES = min 0xFFFFFFFF (s.hubNat PCE_L0P_CHANGES + 1) ∧ t.pce = s.pce) ∧
    (s.flitMode = true → s.activeWidth < fieldOf (s.hubNat PCE_LINK_STATUS) 14 5 → ∃ t : State, exec .l0pWiden s = .next t ∧
      t.activeWidth = fieldOf (s.hubNat PCE_LINK_STATUS) 14 5 ∧
      t.hubNat PCE_L0P_CHANGES = min 0xFFFFFFFF (s.hubNat PCE_L0P_CHANGES + 1) ∧ t.pce = s.pce) ∧
    (s.pce.linkUp = true → exec .ptmDialogue s = .next { s with tx := s.tx ++ [.ptmRequest], pce := { s.pce with ptmPending := true } })) ∧
  (∀ (s : State) (off : Int), s.up = true → s.pce.ptmPending = true → ∃ t : State, exec (.ptmResponse (some off)) s = .next t ∧
    t.hubGet PCE_PTM_OFFSET = BitVec.ofInt 64 off ∧ bitOf (t.hubNat PCE_PTM_STATUS) 0 = true ∧ t.pce.ptmPending = false ∧
    t.pce.ptmFails = 0 ∧ t.pce.ptmDone = true ∧ (s.clockMaster = false → t.time = s.time ∧ t.pce.slew = s.pce.slew) ∧
    (s.clockMaster = true → (s.pce.ptmDone = false ∧ 1000000 < off → t.time = s.time + off.toNat ∧ t.pce.slew = 0) ∧
      (s.pce.ptmDone = true ∨ off ≤ 1000000 → t.time = s.time ∧ t.pce.slew = off))) ∧
  (∀ s : State, s.up = true → s.pce.ptmPending = true → ∃ t : State, exec (.ptmResponse none) s = .next t ∧ t.pce.ptmFails = s.pce.ptmFails + 1 ∧
    t.pce.ptmPending = false ∧ t.time = s.time ∧ t.pce.slew = s.pce.slew ∧
    fieldOf (t.hubNat PCE_PTM_STATUS) 16 16 = min 0xFFFF (fieldOf (s.hubNat PCE_PTM_STATUS) 16 16 + 1) ∧
    (2 ≤ s.pce.ptmFails → bitOf (t.hubNat PCE_PTM_STATUS) 0 = false)) ∧
  (∀ (s : State) (kind : Nat), s.up = true →
    (kind < 5 → ∃ t : State, exec (.pcieLinkError kind) s = .next t ∧ t.tx = s.tx ++ [.err 0 0] ∧ t.sdg = s.sdg ∧ t.hub = s.hub) ∧
    (5 ≤ kind → kind ≤ 8 → ∃ u : State, exec (.pcieLinkError kind) s = .next (u.report (hubReport cPcieLink .uc 0x0A 0 0)) ∧
      u.tx = s.tx ++ [.err 0 1] ∧ u.sdg = s.sdg ∧ u.hub = s.hub)))

/-! ### Security and the life cycle -/

/-- R557, R558 and R563; R542, R554, R555 and R529. -/
def Obligations.SecuritySessions : Prop :=
  ((∀ (s : State) (fn stream : Nat), s.tdispUp fn = true → s.fnExists fn = true → s.tdi fn = tdiUnlocked → s.fnNat fn XLT_PASID ≠ 0 →
    stream < 8 → ∃ t : State, exec (.lockInterface fn stream) s = .next t ∧ t.tdi fn = tdiLocked ∧ t.pce.tdiStream.find fn = some stream ∧
      t.tx = s.tx ++ [.doe doeTdisp [0, fn] []] ∧ (∀ n, n ≠ fn → t.tdi n = s.tdi n) ∧ t.fns = s.fns ∧ t.mem = s.mem) ∧
  (∀ (s : State) (fn : Nat), s.tdispUp fn = true → s.tdi fn = tdiLocked → ∃ t : State, exec (.startInterface fn) s = .next t ∧
      t.tdi fn = tdiRun ∧ t.tx = s.tx ++ [.doe doeTdisp [1, fn] []] ∧ (∀ n, n ≠ fn → t.tdi n = s.tdi n) ∧ t.pce = s.pce ∧ t.fns = s.fns ∧
      t.mem = s.mem) ∧
  (∀ (s : State) (fn : Nat), s.tdispUp fn = true → s.tdi fn ≠ tdiUnlocked → fn ∉ s.sec.tdiStops →
    ((s.fn fn).pdk = pdkEmpty → ∃ t : State, exec (.stopInterface fn) s = .next t ∧ t.tdi fn = tdiUnlocked ∧ t.pce.tdiStream.find fn = none ∧
      fn ∉ t.sec.scrubbing ∧ t.tx = s.tx ++ [.doe doeTdisp [2, fn] []] ∧ (∀ n, n ≠ fn → t.tdi n = s.tdi n) ∧ t.mem = s.mem) ∧
    ((s.fn fn).pdk = pdkQuiesced → s.sec.scrubbing = [] → ∃ t : State, exec (.stopInterface fn) s = .next t ∧ fn ∈ t.sec.tdiStops ∧
      t.sec.scrubbing = [fn] ∧ t.hubNat SEC_SCRUB_STATUS = 2 ^ 31 + fn * 65536 ∧ t.sec.paddockKeys.find fn = none)) ∧
  (∀ (s : State) (fn : Nat), s.tdispUp fn = true → s.tdi fn = tdiLocked ∨ s.tdi fn = tdiRun →
    exec (.getDeviceInterfaceReport fn) s = .next { s with tx := s.tx ++ [.doe doeTdisp [3, fn, 0x100000, 0x10000, fn,
      s.hubNat (SEC_PADDOCK_CFG + 4 * fn), s.fnNat 0 STL_EPOCH] (s.padBlock fn)] }) ∧
  (∀ (s : State) (fn stream : Nat), s.tdispUp fn = true →
    (s.tdi fn ≠ tdiUnlocked → exec (.lockInterface fn stream) s = .next { s with tx := s.tx ++ [.doe doeError [fn] []] }) ∧
    (s.tdi fn ≠ tdiLocked → exec (.startInterface fn) s = .next { s with tx := s.tx ++ [.doe doeError [fn] []] }) ∧
    (s.tdi fn = tdiUnlocked → exec (.stopInterface fn) s = .next { s with tx := s.tx ++ [.doe doeError [fn] []] } ∧
      exec (.getDeviceInterfaceReport fn) s = .next { s with tx := s.tx ++ [.doe doeError [fn] []] })) ∧
  (∀ (s : State) (fn stream : Nat), s.spdmUp = false ∨ s.sec.sessions = [] ∨ fn = 0 →
    exec (.lockInterface fn stream) s = .next s ∧ exec (.startInterface fn) s = .next s ∧ exec (.stopInterface fn) s = .next s ∧
    exec (.getDeviceInterfaceReport fn) s = .next s)) ∧
  (∀ (s : State) (slot share block : Nat) (nonce : List Byte), s.spdmUp = true →
    (exec (.spdmGetCertificate 0) s = .next { s with tx := s.tx ++ [.doe doeCertificate [0] (s.certSlot 0 ++ s.aliasCert)] }) ∧
    (∀ b, b = sha384 (s.certSlot 0 ++ s.aliasCert) ++ s.summary →
      exec (.spdmChallenge 0 nonce) s = .next { s with tx := s.tx ++ [.doe doeChallengeAuth [0] (b ++ s.akSign (b ++ nonce))] }) ∧
    (2 ≤ slot → exec (.spdmGetCertificate slot) s = .next { s with tx := s.tx ++ [.doe doeError [slot] []] } ∧
      exec (.spdmChallenge slot nonce) s = .next { s with tx := s.tx ++ [.doe doeError [slot] []] }) ∧
    (∀ is b, is = (if block = 0xFF then allBlocks else [block]) → b = s.blockBytes is → block = 0xFF ∨ (s.measBlock block).isSome = true →
      ((∀ p ∈ s.sites, s.siteLive p.1 = false) → ∃ t : State, exec (.spdmGetMeasurements block nonce) s = .next t ∧
        t.tx = s.tx ++ [.doe doeMeasurements [block] (b ++ s.akSign (b ++ nonce))] ∧ t.sec.attest = none ∧ t.hub = s.hub ∧ t.fns = s.fns ∧
        t.mem = s.mem) ∧
      ((∃ p ∈ s.sites, s.siteLive p.1 = true ∧ 0 < p.2.measCount) → ∃ t : State, exec (.spdmGetMeasurements block nonce) s = .next t ∧ t.tx = s.tx ∧
        t.sec.attest = some (block, nonce) ∧
        ∀ p ∈ t.sites, s.siteLive p.1 = true → p.2.toMeasure = List.range p.2.measCount)) ∧
    (block ≠ 0xFF → s.measBlock block = none →
      exec (.spdmGetMeasurements block nonce) s = .next { s with tx := s.tx ++ [.doe doeError [block] []] }) ∧
    (∀ b, b = beBytes 96 (Config.ecPublic s.free) ++ s.summary → s.sec.sessions.length < 4 → ∃ t : State,
      exec (.spdmKeyExchange slot share) s = .next t ∧ t.sec.sessions = s.sec.sessions ++ [Config.ecdh s.free share] ∧
      t.tx = s.tx ++ [.doe doeKeyExchange [slot] (b ++ s.akSign (b ++ beBytes 96 share))] ∧ t.draws = s.draws + 1 ∧ t.mem = s.mem) ∧
    (4 ≤ s.sec.sessions.length → exec (.spdmKeyExchange slot share) s = .next { s with tx := s.tx ++ [.doe doeError [slot] []] }))

/-- R570 to R577, R582. -/
def Obligations.CrookTokens : Prop :=
  (∀ s : State, s.up = true → s.lc ≠ lcScrapped → ∃ t : State, exec .challengeNew s = .next t ∧ t.sec.challengeAt = some s.time ∧
    t.hubBytesGet SEC_CHALLENGE 48 = leBytes 48 s.free ∧ t.draws = s.draws + 1 ∧ t.sec.otp = s.sec.otp ∧ t.fns = s.fns ∧ t.mem = s.mem) ∧
  (∀ (s : State) (c : Nat), s.sec.challengeAt = some c →
    (c + 60000000000 ≤ s.time → exec .challengeExpiry s = .next { s with sec := { s.sec with challengeAt := none } }) ∧
    (s.time < c + 60000000000 → exec .challengeExpiry s = .next s)) ∧
  (∀ (s : State) (c : Instr) (op : Nat), (c, op) ∈ [(Instr.tokenPaddockDebug, opDebug), (.tokenReturn, opReturn), (.tokenScrap, opScrap),
      (.tokenDeploy, opDeploy), (.tokenProvision, opProvision)] → s.up = true → s.lc ≠ lcScrapped →
    (tokenOp s.token ≠ op → exec c s = .next s) ∧
    (tokenOp s.token = op → if s.tokenResult s.token ≠ tokAccepted then
        ∃ t : State, exec c s = .next t ∧ t.sec = { s.sec with challengeAt := none } ∧ t.hubNat SEC_TOKEN_STATUS = s.tokenResult s.token ∧
          (∀ off, off ≠ SEC_TOKEN_STATUS → t.hubGet off = s.hubGet off) ∧ t.fns = s.fns ∧ t.mem = s.mem ∧ t.flash = s.flash
      else if op = opDebug then
        ∃ t : State, exec c s = .next t ∧ t.sec.challengeAt = none ∧ t.hubNat SEC_TOKEN_STATUS = tokAccepted ∧ t.sec.otp = s.sec.otp ∧
          t.flash = s.flash ∧ t.mem = s.mem ∧
          (∀ n, n < 32 → bitOf (fieldAt s.token 4 4) n = true → s.confidential n = false → n ∈ t.sec.debugged ∧
            t.sec.debugUntil.find n = some (s.time + fieldAt s.token 8 4 * 1000000000)) ∧
          (∀ n, s.confidential n = true → t.sec.debugUntil.find n = s.sec.debugUntil.find n)
      else ∃ u : State, exec c s = .next (((List.range 32).foldl State.forceQuiesce u).burn 8 (2 ^ (transOf op).field.1)) ∧
        u.sec.challengeAt = none ∧ u.sec.trans = some (transOf op) ∧ u.hubNat LCS_STATUS = 1 ∧ u.hubNat SEC_TOKEN_STATUS = tokAccepted ∧
        u.sec.otp = s.sec.otp ∧ u.fns = s.fns ∧ (op ≠ opDeploy → u.flash = s.flash) ∧
        bitOf ((((List.range 32).foldl State.forceQuiesce u).burn 8 (2 ^ (transOf op).field.1)).sec.word 8) (transOf op).field.1 = true)) ∧
  (∀ (s : State) (t : Trans), s.sec.trans = some t → s.up = true → s.hubNat LCS_STATUS = 1 →
    (∀ f ∈ s.fns, ∀ e ∈ f.2.entries, e.2.st = .releasing → e.2.left = []) → ∃ u : State,
      exec .transitionDone s = .next (u.startCold 7 false false) ∧ u.sec.trans = none ∧ u.sec.redraws = 0 ∧ u.boot = s.boot ∧
      (∀ i, 1 ≤ i → i ≤ 5 → bitOf (u.sec.word 8) (t.field.1 + i) = true) ∧
      (∀ w, s.sec.otp.get 0 w ||| u.sec.otp.get 0 w = u.sec.otp.get 0 w)) ∧
  (∀ s : State, s.sec.trans = none → exec .transitionDone s = .next s)

/-- R562 to R564, R578, R579 and R583. -/
def Obligations.DebugAndScrub : Prop :=
  (∀ (s : State) (n e : Nat), s.sec.debugUntil.find n = some e → (s.time < e → exec (.debugExpiry n) s = .next s) ∧
    (e ≤ s.time → ∃ t : State, exec (.debugExpiry n) s = .next t ∧ t.sec.debugUntil.find n = none ∧
      (∀ m, m ≠ n → t.sec.debugUntil.find m = s.sec.debugUntil.find m) ∧ t.sec.debugged = s.sec.debugged ∧ t.fns = s.fns ∧ t.mem = s.mem)) ∧
  (∀ (s : State) (high : W32), s.up = true → s.lc ≠ lcScrapped → ∃ u : State, exec (.debugRead high) s = .next u.debugRead ∧
    u.hubNat SEC_DEBUG_ADDR = high.toNat % 2 ^ 21 * 2 ^ 32 + (match s.held.find SEC_DEBUG_ADDR with
      | some w => w.toNat / 8 * 8
      | none => s.hubNat SEC_DEBUG_ADDR % 2 ^ 32 / 8 * 8) ∧ u.held.find SEC_DEBUG_ADDR = none ∧ u.sec = s.sec ∧ u.fns = s.fns ∧ u.mem = s.mem) ∧
  (∀ s : State, s.sec.debugUntil.find (fieldOf (s.hubNat SEC_DEBUG_ADDR) 48 5) = none →
    s.debugRead = s.hubSetN SEC_DEBUG_STATUS 1) ∧
  (∀ (s : State) (a : Nat) (bs : List Byte) (e : Nat), s.sec.debugUntil.find (fieldOf (s.hubNat SEC_DEBUG_ADDR) 48 5) = some e →
    s.debugPlace (fieldOf (s.hubNat SEC_DEBUG_ADDR) 48 5) (s.hubNat SEC_DEBUG_ADDR % 2 ^ 48 / 8 * 8) = some a → s.fetch a 8 = (bs, false) →
    s.debugRead.hubNat SEC_DEBUG_DATA = leNat bs ∧ s.debugRead.hubNat SEC_DEBUG_STATUS = 2 ∧ s.debugRead.mem = s.mem) ∧
  (∀ (s : State) (value : W32) (n : Nat), n = value.toNat % 32 → s.up = true → s.lc ≠ lcScrapped → bitOf value.toNat 31 = true →
    ((s.fn n).pdk = pdkQuiesced → (s.fn n).isDrained = true → s.tdi n = tdiUnlocked → n ≠ 0 → s.sec.scrubbing = [] → ∃ t : State,
      exec (.scrubStart value) s = .next t ∧ t.sec.scrubbing = [n] ∧ t.hubNat SEC_SCRUB_STATUS = 2 ^ 31 + n * 65536 ∧
      t.sec.paddockKeys.find n = none ∧ (t.fn n).xlt.tlb = [] ∧ t.fnNat n DIR_KEYS = 0 ∧
      (bitOf (s.fnNat n PDK_COMMONS) 7 = false →
        ∀ p ∈ t.ms.dir, p.1 < s.fnNat n DIR_BASE ∨ s.fnNat n DIR_BASE + s.fnNat n DIR_ENTRIES ≤ p.1)) ∧
    ((s.fn n).pdk ≠ pdkQuiesced → s.sec.scrubbing = [] → ∃ t : State, exec (.scrubStart value) s = .next t ∧
      t.hubNat SEC_SCRUB_STATUS = n * 65536 + 2 ∧ t.sec = s.sec ∧ t.fns = s.fns ∧ t.mem = s.mem)) ∧
  (∀ (s : State) (n : Nat) (rest : List Nat), s.up = true → s.sec.scrubbing = n :: rest → n < 32 → (s.fn n).pdk = pdkQuiesced →
    (n ∉ s.sec.begun → exec .scrubDone s = .next ((s.scrubChips n).scrubEnd n)) ∧
    (n ∈ s.sec.begun → ∃ t : State, exec .scrubDone s = .next t ∧ n ∉ t.sec.scrubbing ∧ n ∉ t.sec.begun ∧
      t.hubNat SEC_SCRUB_STATUS = n * 65536 + 1 ∧ t.hubNat SEC_SCRUBS = min 0xFFFFFFFF (s.hubNat SEC_SCRUBS + 1) ∧
      (t.fn n).entries = [] ∧ (t.fn n).handles = [] ∧ (t.fn n).audit = Audit.empty ∧ (t.fn n).measLog = [] ∧
      (∀ a, s.capBase n ≤ a → a < s.capBase n + s.capSize n → t.readByte a = 0#8)))
/-! ### Supplies, starts and the boot flash -/

/-- R606 to R608, R637, R638, R643, R695 and R697. -/
def Obligations.SuppliesAndTriggers : Prop :=
  (∀ (s : State) (sris : Bool), s.boot.v48 = false →
    (s.boot.aux = true → s.boot.sysRst = false → s.boot.powered = false → ∃ u : State, exec (.supplyValid sris) s = .next (u.startCold 0 false true) ∧
      u = { s with boot := { s.boot with v48 := true, sris := sris, powered := true } }) ∧
    (s.boot.aux = false ∨ s.boot.sysRst = true ∨ s.boot.powered = true → ∃ t : State, exec (.supplyValid sris) s = .next t ∧ t.boot.v48 = true ∧
      t.boot.powered = s.boot.powered ∧ t.hub = s.hub ∧ t.mem = s.mem ∧ t.fns = s.fns)) ∧
  (∀ (s : State) (sris : Bool), s.boot.aux = false →
    (s.boot.v48 = true → s.boot.sysRst = false → s.boot.powered = false → ∃ u : State, exec (.auxSupplyValid sris) s = .next (u.startCold 0 false true) ∧
      u = { s with boot := { s.boot with aux := true, sris := sris, powered := true } }) ∧
    (s.boot.v48 = false ∨ s.boot.sysRst = true ∨ s.boot.powered = true → ∃ t : State, exec (.auxSupplyValid sris) s = .next t ∧ t.boot.aux = true ∧
      t.boot.powered = s.boot.powered ∧ t.hub = s.hub ∧ t.mem = s.mem ∧ t.fns = s.fns)) ∧
  (∀ s : State, s.boot.sysRst = true → s.boot.aux = true → s.boot.v48 = true → s.boot.powered = false → ∃ u : State,
    exec .sysRstDeassert s = .next (u.startCold 1 false true) ∧ u = { s with boot := { s.boot with sysRst := false, powered := true } }) ∧
  (∀ s : State,
    (s.boot.powered = true → exec .supplyDip s = .next ({ s with boot := { s.boot with v48 := false } } : State).unpower ∧
      exec .auxLoss s = .next ({ s with boot := { s.boot with aux := false } } : State).unpower ∧
      exec .sysRstAssert s = .next ({ s with boot := { s.boot with sysRst := true } } : State).unpower) ∧
    (s.boot.powered = false → exec .supplyDip s = .next { s with boot := { s.boot with v48 := false } } ∧
      exec .auxLoss s = .next { s with boot := { s.boot with aux := false } } ∧
      exec .sysRstAssert s = .next { s with boot := { s.boot with sysRst := true } }) ∧
    s.unpower.up = false ∧ s.unpower.mem = [] ∧ s.unpower.groups = [] ∧ s.unpower.flash = s.flash ∧ s.unpower.boot.fuses = s.boot.fuses ∧
    s.unpower.boot.v48 = s.boot.v48 ∧ s.unpower.boot.aux = s.boot.aux) ∧
  (∀ s : State, s.up = true → exec .warmRstAssert s = .next (s.startWarm 2) ∧
    (s.lc ≠ lcScrapped → exec .startReqCold s = .next (s.startCold 3 false false) ∧ exec .startReqWarm s = .next (s.startWarm 4))) ∧
  (∀ s : State, (s.autoDue = true → ∃ u : State, exec .autoWarmStart s = .next (u.startWarm 5) ∧ u.boot.autoStarts = s.time :: s.recentStarts ∧
      u.hub = s.hub ∧ u.fns = s.fns ∧ u.mem = s.mem) ∧ (s.autoDue = false → exec .autoWarmStart s = .next s)) ∧
  (∀ (s : State) (power : Bool), (s.coldReset power).persistent = s.persistent ∧ (s.coldReset power).time = 0 ∧ (s.coldReset power).mem = [] ∧
    (s.coldReset power).poison = [] ∧ (s.coldReset power).groups = [] ∧ (s.coldReset power).sdg = Sdg.reset ∧
    ∀ n, n < 32 → ((s.coldReset power).fn n).entries = [] ∧ ((s.coldReset power).fn n).tmpl = [] ∧
      (s.coldReset power).fnNat n STL_EPOCH = s.fnNat n STL_EPOCH) ∧
  (∀ s : State, s.warmReset.persistent = s.persistent ∧ s.warmReset.time = s.time ∧ s.warmReset.groups = [] ∧
    (∀ a, a < scratchBase → s.warmReset.readByte a = s.readByte a) ∧
    (∀ a, scratchBase ≤ a → a < commonsBase → s.warmReset.readByte a = 0#8) ∧
    (∀ n, (s.warmReset.fn n).handles = (s.fn n).handles ∧ (s.warmReset.fn n).audit = (s.fn n).audit ∧ (s.warmReset.fn n).slots = []))

/-- R20, R21, R627 to R635. -/
def Obligations.StartSteps : Prop :=
  (∀ (s : State) (site : Nat) (strap : BitVec 9), (s.discovering site = false → exec (.tileDiscovery site strap) s = .next s ∧
      exec (.discoveryTimeout site) s = .next s) ∧
    (s.discovering site = true → site < 16 →
      (strap.toNat = s.ident.pad site → ∃ u : State, exec (.tileDiscovery site strap) s = .next u.advance ∧ u.siteSt site = siteActive ∧
        site ∈ u.boot.found ∧ u.fns = s.fns ∧ u.mem = s.mem ∧ u.sdg = s.sdg) ∧
      (strap.toNat ≠ s.ident.pad site ∨ s.boot.startAt + 2000000 ≤ s.time → ∃ u : State,
        (strap.toNat ≠ s.ident.pad site → exec (.tileDiscovery site strap) s =
          .next ((u.report (hubReport cStrap .uc 0x17 site 0)).foundSite site).advance) ∧
        (s.boot.startAt + 2000000 ≤ s.time → exec (.discoveryTimeout site) s =
          .next ((u.report (hubReport cStrap .uc 0x17 site 0)).foundSite site).advance) ∧
        u.siteErr site = true ∧ u.siteSt site = siteEmpty ∧ bitOf (u.hubNat IDN_TILES_PRESENT) site = false ∧ u.phys kTile site = none ∧
        u.fns = s.fns ∧ u.mem = s.mem)) ∧
    (s.discovering site = true → 16 ≤ site → s.boot.startAt + 2000000 ≤ s.time → ∃ u : State, exec (.discoveryTimeout site) s =
        .next ((u.report (hubReport cStrap .uc 0x17 site 0)).foundSite site).advance ∧ u.siteErr site = true ∧ u.siteSt site = siteEmpty ∧
      u.cmnSt site = cmnOffSt ∧ u.site site = Site.empty) ∧
    (s.time < s.boot.startAt + 2000000 → exec (.discoveryTimeout site) s = .next s)) ∧
  (∀ (s : State) (stack : Nat) (ok : Bool), s.up = true → s.boot.step = 8 → stack < 24 →
    (stack ∈ s.boot.machines → exec (.memoryMachineDone stack ok) s = .next s) ∧
    (stack ∉ s.boot.machines → s.boot.kind = 1 → ∃ u : State, exec (.memoryMachineDone stack true) s = .next u.tryReady ∧
      u.boot = { s.boot with machines := stack :: s.boot.machines } ∧ bitOf (u.hubNat BOOT_TRAIN_STATUS) stack = true ∧ u.fns = s.fns ∧
      u.mem = s.mem) ∧
    (stack ∉ s.boot.machines → s.boot.kind = 2 → s.boot.machines.length = 23 → ∃ u : State, exec (.memoryMachineDone stack true) s =
      .next u.recover.tryReady ∧ u.boot = { s.boot with machines := stack :: s.boot.machines } ∧ u.fns = s.fns ∧ u.mem = s.mem) ∧
    (stack ∉ s.boot.machines → (s.fenceStack stack).boot.kind = 1 → ∃ u : State, exec (.memoryMachineDone stack false) s = .next u.tryReady ∧
      u.boot = { (s.fenceStack stack).boot with machines := stack :: (s.fenceStack stack).boot.machines } ∧
      u.noc = (s.fenceStack stack).noc ∧ u.fns = (s.fenceStack stack).fns)) ∧
  (∀ s : State, s.up = true → s.boot.step = 8 → (s.linksEnded = false → exec .linkTrainingEnd s = .next s) ∧
    (s.linksEnded = true → ∃ u : State, exec .linkTrainingEnd s = .next u.tryReady ∧ u.boot = { s.boot with linksDone := true } ∧
      bitOf (u.hubNat BOOT_TRAIN_STATUS) 31 = true ∧ u.fns = s.fns ∧ u.mem = s.mem)) ∧
  (∀ s : State, s.up = true → s.boot.step = 8 → s.boot.ready = false → s.boot.failed = false → s.boot.recovery = false →
    (s.boot.linksDone = true → 24 ≤ s.boot.machines.length → (s.boot.kind = 1 ∨ ∀ n ∈ s.paddocks, s.recovered n = true) →
      s.tryReady = s.makeReady) ∧
    (s.boot.linksDone = false ∨ s.boot.machines.length < 24 → s.tryReady = s)) ∧
  (∀ s : State, s.up = true → s.boot.step ≠ 0 → s.boot.ready = false → s.boot.failed = false → s.boot.recovery = false →
    s.sec.trans = none → s.lc ≠ lcScrapped → (s.time < s.boot.startAt + s.readyLimit → exec .readyLimitExpiry s = .next s) ∧
    (s.boot.startAt + s.readyLimit ≤ s.time → exec .readyLimitExpiry s = .next { s with
      boot := { s.boot with failReason := 4, failAt := s.time, failed := true, ready := false } })) ∧
  (∀ s : State, s.boot.ready = true → exec .readyLimitExpiry s = .next s) ∧
  (∀ s : State, s.up = true → s.boot.failed = true → (s.time < s.boot.failAt + 1000000000 → exec .startRetry s = .next s) ∧
    (s.boot.failAt + 1000000000 ≤ s.time → exec .startRetry s = .next (s.startCold 8 false false)))

/-- R609, R615 and R616. -/
def Obligations.BootFlash : Prop :=
  (∀ (s : State) (c : Instr) (op size a : Nat), (c, op, size) ∈ [(Instr.flashRead, 1, 256), (.flashProgram, 2, 256), (.flashErase, 3, 65536)] →
    a = s.hubNat BOOT_FLASH_ADDR % 2 ^ 27 / size * size → s.up = true → s.lc ≠ lcScrapped →
    (s.boot.flashOp ≠ none → ∃ t : State, exec c s = .next t ∧ t.boot = s.boot ∧ t.flash = s.flash ∧
      t.hubNat BOOT_FLASH_STATUS = 2 ^ 31 + fsBusy) ∧
    (s.boot.flashOp = none → (if op = 1 then flashArea a 0x30000 0x10000 = false else s.flashWritable a = true) → ∃ t : State, exec c s = .next t ∧
      t.boot.flashOp = some ⟨op, a⟩ ∧ t.flash = s.flash ∧ t.hubNat BOOT_FLASH_STATUS = 2 ^ 31) ∧
    (s.boot.flashOp = none → (if op = 1 then flashArea a 0x30000 0x10000 = true else s.flashWritable a = false) → ∃ t : State, exec c s = .next t ∧
      t.boot = s.boot ∧ t.flash = s.flash ∧ t.hubNat BOOT_FLASH_STATUS = fsDenied)) ∧
  (∀ (s : State) (a : Nat) (v : Bool), s.boot.flashOp = some ⟨1, a⟩ → ∃ t : State, exec (.flashOpDone v) s = .next t ∧ t.boot.flashOp = none ∧
    t.flash = s.flash ∧ t.hubBytesGet BOOT_FLASH_BUF 256 = s.flashBytes a 256 ∧ t.hubNat BOOT_FLASH_STATUS = fsDone) ∧
  (∀ (s : State) (a : Nat) (new : List Byte), s.boot.flashOp = some ⟨2, a⟩ → flashArea a (slotBase false) 4096 = false →
    flashArea a (slotBase true) 4096 = false → new = s.hubBytesGet BOOT_FLASH_BUF 256 →
    (∃ t : State, exec (.flashOpDone true) s = .next t ∧ t.boot.flashOp = none ∧
      t.flash = cellsPut 0xFF s.flash a ((s.flashBytes a 256).zipWith (· &&& ·) new) ∧
      ((s.flashBytes a 256).zipWith (· &&& ·) new = new → t.hubNat BOOT_FLASH_STATUS = fsDone) ∧
      ((s.flashBytes a 256).zipWith (· &&& ·) new ≠ new → t.hubNat BOOT_FLASH_STATUS = fsVerify)) ∧
    (∃ t : State, exec (.flashOpDone false) s = .next t ∧ t.boot.flashOp = none ∧ t.flash = cellsPut 0xFF s.flash a (leBytes 256 s.free) ∧
      t.hubNat BOOT_FLASH_STATUS = fsVerify ∧ t.draws = s.draws + 1)) ∧
  (∀ (s : State) (a : Nat) (v : Bool), s.boot.flashOp = some ⟨3, a⟩ → ∃ t : State, exec (.flashOpDone v) s = .next t ∧ t.boot.flashOp = none ∧
    t.hubNat BOOT_FLASH_STATUS = fsDone ∧
    (∀ b, a ≤ b → b < a + 65536 → cellGet 0xFF t.flash b = 0xFF#8) ∧
    (∀ b, b < a ∨ a + 65536 ≤ b → cellGet 0xFF t.flash b = cellGet 0xFF s.flash b))
/-! ### The mesh and the coherent window -/

/-- R141 to R144, R354 to R359, R365 to R369; R304, R354, R359 to R368. -/
def Obligations.MeshMessages : Prop :=
  ((∀ (s : State) (link half k : Nat) (src dst : BitVec 24) (p : Bool), k = link * 2 + half % 2 → s.up = true → k ∉ s.noc.halfFenced →
    (s.noc.halfFails.get 0 k < 2 → ∃ t : State, exec (.flitReceive link half false src dst p) s = .next t ∧
      t.noc.halfFails.find k = some (s.noc.halfFails.get 0 k + 1) ∧ t.hubNat NOC_RETRIES = min 0xFFFFFFFF (s.hubNat NOC_RETRIES + 1) ∧
      t.tx = s.tx ∧ t.fns = s.fns ∧ t.mem = s.mem) ∧
    (2 ≤ s.noc.halfFails.get 0 k → ∃ u : State, exec (.flitReceive link half false src dst p) s = .next (u.fenceHalf link (half % 2)) ∧
      u.hubNat NOC_RETRIES = min 0xFFFFFFFF (s.hubNat NOC_RETRIES + 1) ∧ u.sdg = s.sdg ∧ u.mem = s.mem) ∧
    (s.stale src.toNat = true → ∃ u : State, exec (.flitReceive link half true src dst p) s = .next (u.lateSpeaker src.toNat) ∧
      u.noc.halfFails.find k = none ∧ u.hub = s.hub ∧ u.sdg = s.sdg) ∧
    (s.stale src.toNat = false → ∃ t : State, exec (.flitReceive link half true src dst p) s = .next t ∧ t.noc.halfFails.find k = none ∧
      t.tx = s.tx ++ (if s.idFenced dst.toNat then [.rsp src.toNat 0 0 2 0] else []) ∧ t.hub = s.hub ∧ t.mem = s.mem)) ∧
  (∀ (s : State) (q : ReqFlit) (op left : Nat) (u : State), s.up = true → s.noc.outs.find (reqKey q.src.toNat q.txn) = none →
    s.stale q.src.toNat = false → u = { s with noc := { s.noc with outs := s.noc.outs.set (reqKey q.src.toNat q.txn) ⟨q, op, left, false, s.time⟩ } } →
    (op = opRead → left = (if q.size = 1#3 then 4 else 1) → s.idFenced q.dst.toNat = false → s.reqOwner q false = .ok →
      ∃ t : State, exec (.nocRead q) s = .next t ∧ t.noc = u.noc ∧ t.mem = s.mem ∧ t.groups = s.groups ∧ t.fns = s.fns ∧
        t.tx = s.tx ++ (List.range left).map (fun i =>
          let r := s.reqRead q ((if q.size = 1#3 then q.addr.toNat / 256 * 256 else q.addr.toNat / 64 * 64) + 64 * i) 64
          .dat q.src.toNat q.txn.toNat i r.2 0 r.1)) ∧
    (op = opWrite → left = (if q.size = 1#3 then 4 else 1) → s.idFenced q.dst.toNat = false → s.reqOwner q true = .ok →
      ∃ t : State, exec (.nocWrite q) s = .next t ∧ t.noc.outs.find (reqKey q.src.toNat q.txn) = some ⟨q, opWrite, left, true, s.time⟩ ∧
        t.tx = s.tx ++ [.rsp q.src.toNat q.txn.toNat 1 0 0] ∧ t.mem = s.mem ∧ t.groups = s.groups ∧ t.fns = s.fns) ∧
    (op = opAtomic → left = 0 → s.idFenced q.dst.toNat = false → s.reqOwner q true = .ok → ∀ (o : AtomOp) (r : List Byte),
      atomOfSize q.size.toNat = some o → u.reqRead q q.addr.toNat (tySize q.ty.toNat) = (r, false) →
      exec (.nocAtomic q) s = .next ((match atomNew o q.ty.toNat (leNat r) (q.operand.toNat / 2 ^ 64 % 2 ^ (8 * tySize q.ty.toNat))
            (q.operand.toNat % 2 ^ 64 % 2 ^ (8 * tySize q.ty.toNat)) with
          | some v => u.reqWrite q q.addr.toNat (leBytes (tySize q.ty.toNat) v)
          | none => u).send (.rsp q.src.toNat q.txn.toNat 0 statusOk (if q.size = 0#3 then 0 else (atomPrior q.ty.toNat (leNat r)).toNat)))) ∧
    (op = opXadd → left = 0 → s.idFenced q.dst.toNat = false → s.reqOwner q true = .ok → ∀ (g : Grp) (e : XaOpen), s.reqGroup q = some g →
      g.xaClash (u.reqTgt q q.addr.toNat) q.ty.toNat = false → g.xas.find (keyNat (u.reqTgt q q.addr.toNat).key) = some e →
      ∃ (t : State) (h : Grp), exec (.nocXadd q) s = .next t ∧ t.tx = s.tx ++ [.rsp q.src.toNat q.txn.toNat 0 statusOk 0] ∧
        t.grp (reqGid q) = some h ∧ h.xas.find (keyNat (u.reqTgt q q.addr.toNat).key) = some { e with xa := e.xa.addBin q.operand.toNat } ∧
        h.threads = g.threads ∧ h.staged = g.staged ∧ t.mem = s.mem) ∧
    (∀ c ∈ [(Instr.nocRead q, opRead, (if q.size = 1#3 then 4 else 1), false), (.nocWrite q, opWrite, (if q.size = 1#3 then 4 else 1), true),
        (.nocAtomic q, opAtomic, 0, true), (.nocXadd q, opXadd, 0, true)], op = c.2.1 → left = c.2.2.1 →
      (s.idFenced q.dst.toNat = true → exec c.1 s = .next (u.send (.rsp q.src.toNat q.txn.toNat 0 statusFenced 0))) ∧
      (s.idFenced q.dst.toNat = false → s.reqOwner q c.2.2.2 = .denied →
        exec c.1 s = .next (u.send (.rsp q.src.toNat q.txn.toNat 0 statusDenied 0))))) ∧
  (∀ (s : State) (q : ReqFlit) (kind logical physical old : Nat) (new : Option Nat), s.up = true → s.stale q.src.toNat = false →
    new = (if physical = 0 then none else some (physical - 1)) → exec (.control q .other) s = .next s ∧
    (q.hub = false → exec (.control q (.mapUpdate kind logical physical)) s = .next s) ∧
    (q.hub = true → s.phys kind logical = some old → new ≠ some old → ∃ t : State, exec (.control q (.mapUpdate kind logical physical)) s = .next t ∧
      t.phys kind logical = new ∧ t.epochOf kind old = (s.epochOf kind old + 1) % 16 ∧ t.tx = s.tx ∧ t.mem = s.mem ∧ t.fns = s.fns))) ∧
  ((∀ (s : State) (r : RspFlit), s.up = true → s.stale r.src.toNat = false →
    (s.noc.outs.find (reqKey r.dst.toNat r.txn) = none → exec (.writeGrant r) s = .next s ∧ exec (.nocDone r) s = .next s) ∧
    (∀ o, s.noc.outs.find (reqKey r.dst.toNat r.txn) = some o →
      (o.op = opWrite → ∃ t : State, exec (.writeGrant r) s = .next t ∧ t.noc.outs.find (reqKey r.dst.toNat r.txn) = some { o with granted := true } ∧
        t.tx = s.tx ∧ t.mem = s.mem) ∧
      (o.op ≠ opWrite → exec (.writeGrant r) s = .next s) ∧
      (∃ u : State, u.noc.outs.find (reqKey r.dst.toNat r.txn) = none ∧ u.tx = s.tx ∧ u.mem = s.mem ∧ u.groups = s.groups ∧ u.fns = s.fns ∧
        (r.status.toNat ≠ statusFenced → (o.req.hub = true ∨ s.grp (reqGid o.req) = none) → exec (.nocDone r) s = .next u) ∧
        (r.status.toNat = statusDenied → o.req.hub = false → (s.grp (reqGid o.req)).isSome = true →
          exec (.nocDone r) s = .next (u.failGroup (reqGid o.req) xTranslation)) ∧
        (r.status.toNat = statusPoison → o.req.hub = false → (s.grp (reqGid o.req)).isSome = true →
          exec (.nocDone r) s = .next (u.memPoison (reqGid o.req) (some (lineOf o.req.addr.toNat)))) ∧
        (r.status.toNat = statusOk → exec (.nocDone r) s = .next u)) ∧
      (r.status.toNat = statusFenced → ∃ u : State, u.noc = { s.noc with outs := s.noc.outs.del (reqKey r.dst.toNat r.txn) } ∧ u.mem = s.mem ∧
        u.groups = s.groups ∧ u.tx = s.tx ∧
        (s.remapped o.req = true → exec (.nocDone r) s = .next (u.send (.req o.req))) ∧
        (s.remapped o.req = false → exec (.nocDone r) s = .next (u.servedError o.req))))) ∧
  (∀ (s : State) (d : DatFlit) (o : NocReq) (base : Nat), s.up = true → s.stale d.src.toNat = false → d.crcOk = true → s.cohDat d = none →
    s.noc.outs.find (reqKey d.src.toNat d.txn) = some o → o.op = opWrite → o.granted = true → o.req.dst = d.dst → s.reqGroup o.req = none →
    d.poison = false → d.byteEn = 0xFFFFFFFFFFFFFFFF#64 → base = (if o.req.size = 1#3 then o.req.addr.toNat / 256 * 256 + 64 * d.index.toNat
      else o.req.addr.toNat / 64 * 64) → s.stackFenced base = false → ∃ t : State, exec (.nocData d) s = .next t ∧
      t.readBytes base 64 = (d.data ++ zeros 64).take 64 ∧ (∀ a, a < base ∨ base + 64 ≤ a → t.readByte a = s.readByte a) ∧
      t.noc.outs.find (reqKey d.src.toNat d.txn) = some { o with left := o.left - 1 } ∧
      t.tx = s.tx ++ (if o.left ≤ 1 then [.rsp o.req.src.toNat o.req.txn.toNat 0 statusOk 0] else [])) ∧
  (∀ (s : State) (d : DatFlit) (o : NocReq), s.up = true → s.stale d.src.toNat = false → d.crcOk = true → s.cohDat d = none →
    s.noc.outs.find (reqKey d.src.toNat d.txn) = none → s.noc.outs.find (reqKey d.dst.toNat d.txn) = some o → o.op = opRead →
    d.poison = false → ∃ t : State, exec (.nocData d) s = .next t ∧ t.mem = s.mem ∧ t.tx = s.tx ∧ t.fns = s.fns ∧ t.groups = s.groups ∧
      t.noc.outs.find (reqKey d.dst.toNat d.txn) = (if o.left ≤ 1 then none else some { o with left := o.left - 1 })) ∧
  (∀ (s : State) (router entry k : Nat) (v : W64), s.up = true → entry < 16 → k = router * 64 + entry →
    (router ∉ routeHolders → exec (.routeEntryInstall router 0 entry v) s = .next s) ∧
    (router ∈ routeHolders → ∃ t : State, exec (.routeEntryInstall router 0 entry v) s = .next t ∧ t.hub = s.hub ∧ t.mem = s.mem ∧
      t.noc.routes.find k = (if routeOk router v.toNat then some (BitVec.ofNat 64 (routeImage v.toNat)) else none) ∧
      ∀ j, j ≠ k → t.noc.routes.find j = s.noc.routes.find j)) ∧
  (∀ (s : State) (owner granule line : Nat), s.up = true → line = granule * 4 + 3 → ∃ t : State, exec (.foldFillReturn owner granule) s = .next t ∧
    t.mem = s.mem ∧ t.poison = s.poison ∧ t.hub = s.hub ∧ t.fns = s.fns ∧
    (line * 64 < hbmTop → s.slices owner 1 ≠ [] → line ∉ s.poison → s.stackFenced (line * 64) = false → t.foldHas owner line = true)))

/-- R372 to R378. -/
def Obligations.CoherentWindow : Prop :=
  (∀ (s : State) (q : ReqFlit) (c : Instr) (kind : TxnKind), (c, kind) ∈ [(Instr.rdShared q, TxnKind.shared), (.rdUnique q, .unique),
      (.upgrade q, .upgrade), (.writeback q, .writeback)] → s.up = true → s.stale q.src.toNat = false →
    (∀ (g l : Nat) (need : Bool) (hs : SMap Moesi), s.agentOf q.src.toNat = some g → s.agentActive g = true → s.inWindow q.addr.toNat = true →
      l = lineOf q.addr.toNat → need = (kind != .writeback && (s.line l).home == .absent) →
      hs = (if kind = .writeback ∧ (s.line l).holder g = .e then (s.line l).holders.set g .m else (s.line l).holders) →
      ((s.line l).lock = none → ∃ t : State, exec c s = .next t ∧ t.tx = s.tx ++ [.rsp (s.agentId g) q.txn.toNat 2 0 (boolN need)] ∧
        t.line l = { s.line l with holders := hs, lock := some { newTxn g q.txn.toNat kind s.time with goSent := true, needPush := need } } ∧
        (∀ m, m ≠ l → t.line m = s.line m) ∧ t.mem = s.mem ∧ t.hub = s.hub) ∧
      ((s.line l).lock ≠ none → ∃ t : State, exec c s = .next t ∧ t.tx = s.tx ∧ t.mem = s.mem ∧ t.hub = s.hub ∧
        t.line l = { s.line l with holders := hs, queue := (s.line l).queue ++ [newTxn g q.txn.toNat kind s.time] })) ∧
    (s.agentOf q.src.toNat = none ∨ s.inWindow q.addr.toNat = false → exec c s =
      .next ((s.cohDeny q.src.toNat q.dst.toNat q.addr.toNat).send (.rsp q.src.toNat q.txn.toNat 0 statusDenied 0)))) ∧
  (∀ (s : State) (l a : Nat), (s.line l).lock = none → exec (.nocGo l) s = .next s ∧ exec (.snpShared l a) s = .next s ∧
    exec (.snpUnique l a) s = .next s ∧ exec (.snpInvalid l a) s = .next s ∧ exec (.snoopDone l) s = .next s ∧ exec (.nocAck l) s = .next s) ∧
  (∀ (s : State) (l : Nat) (x : CohTxn) (k : TxnKind), (s.line l).lock = some x → x.goSent = true → x.launched = false → x.kind ≠ .writeback →
    k = (if x.kind = .upgrade ∧ (s.line l).holder x.agent = .i then .unique else x.kind) → ∃ t : State, exec (.nocGo l) s = .next t ∧
      (t.line l).lock = some { x with launched := true, snoop := k } ∧ t.tx = s.tx ++ [.snp l x.agent k] ∧ t.mem = s.mem) ∧
  (∀ (s : State) (l a : Nat) (x : CohTxn) (c : Instr) (k : TxnKind) (r : Moesi × Bool),
    (c, k) ∈ [(Instr.snpShared l a, TxnKind.shared), (.snpUnique l a, .unique), (.snpInvalid l a, .upgrade)] →
    (s.line l).lock = some x → x.launched = true → x.lapDone = false → x.snoop = k → a ≠ x.agent → a ∉ x.passed → s.agentGone a = false →
    r = answerSnoop ((s.line l).holder a) k x.needPush → ∃ (t : State) (y : CohTxn), exec c s = .next t ∧ (t.line l).holder a = r.1 ∧
      (k = .unique → (t.line l).holder a = .i) ∧ (t.line l).lock = some y ∧ y.passed = a :: x.passed ∧ y.pushed = (x.pushed || r.2) ∧
      (∀ b, b ≠ a → (t.line l).holder b = (s.line l).holder b) ∧ (t.line l).home = (s.line l).home ∧ t.mem = s.mem ∧ t.tx = s.tx ∧
      (r.2 = true → t.hubNat SNP_PUSHES = min 0xFFFFFFFF (s.hubNat SNP_PUSHES + 1)) ∧ (r.2 = false → t.hub = s.hub)) ∧
  (∀ (s : State) (l : Nat) (x : CohTxn), (s.line l).lock = some x → x.launched = true → x.kind ≠ .writeback → x.lapDone = false →
    (∀ h ∈ (s.line l).holders, h.1 = x.agent ∨ h.1 ∈ x.passed) → ∃ u : State, exec (.snoopDone l) s = .next (u.tryGrant l) ∧
      u.line l = { s.line l with lock := some { x with lapDone := true } } ∧ u.mem = s.mem ∧ u.tx = s.tx) ∧
  (∀ (s : State) (l : Nat) (x : CohTxn), (s.line l).lock = some x → x.kind ≠ .writeback → x.lapDone = true → x.granted = false →
    (x.pushed = true ∧ x.pushIn = false ∨ x.awaiting ≠ [] → s.tryGrant l = s) ∧
    (x.pushed = false ∨ x.pushIn = true → x.awaiting = [] → x.lost = false → (s.line l).home ≠ .absent →
      (s.tryGrant l).tx = s.tx ++ [.dat (s.agentId x.agent) x.tag 0 x.poison (moesiCode (txnGrant x)) (s.line l).copy] ∧
      ((s.tryGrant l).line l).lock = some { x with granted := true } ∧ (s.tryGrant l).mem = s.mem)) ∧
  (∀ (s : State) (l : Nat) (x : CohTxn), (s.line l).lock = some x → x.granted = true → x.kind ≠ .writeback → ∃ t : State, exec (.nocAck l) s = .next t ∧
    (t.line l).holder x.agent = (if x.kind = .shared then (if x.sharers = [] then .e else .s) else .m) ∧
    t.hubNat SNP_TRANSACTIONS = min 0xFFFFFFFF (s.hubNat SNP_TRANSACTIONS + 1) ∧ t.mem = s.mem ∧
    ((s.line l).queue = [] → (t.line l).lock = none ∧ t.tx = s.tx) ∧
    (∀ y rest, (s.line l).queue = y :: rest → (t.line l).queue = rest ∧ ∃ z, (t.line l).lock = some z ∧ z.agent = y.agent ∧ z.tag = y.tag ∧
      z.kind = y.kind ∧ z.goSent = true))
/-! ### Memory controllers, regulators and the sheepdog -/

/-- R75, R284 to R287, R293 to R300, R314, R315, R654 and R655. -/
def Obligations.MemoryControllers : Prop :=
  (∀ (s : State) (stack temp : Nat), s.up = true → stack < 24 → s.vacant kStack stack = false →
    (temp ≤ 105 → ∃ t : State, exec (.hbmTempPoll stack temp) s = .next t ∧ fieldOf (t.hubNat (stackStatus stack)) 16 8 = temp ∧
      (stack ∈ t.ms.doubled ↔ 85 < temp ∨ (stack ∈ s.ms.doubled ∧ ¬(temp ≤ 83 ∧ 9 ≤ s.ms.cool.get 0 stack))) ∧
      fieldOf (t.hubNat (stackStatus stack)) 8 2 = boolN (t.ms.doubled.contains stack) ∧ t.mem = s.mem ∧ t.fns = s.fns ∧
      t.hubNat PWR_THERM_EVENTS = (if 95 < temp ∧ stack ∉ s.pow.hotStacks then min 0xFFFFFFFF (s.hubNat PWR_THERM_EVENTS + 1)
        else s.hubNat PWR_THERM_EVENTS)) ∧
    (105 < temp → ∃ u : State, exec (.hbmTempPoll stack temp) s = .next (u.report (hubReport cThermalTrip .ft 0x0F (u.physId kStack stack) 0)) ∧
      u.boot.thermTripAt = some s.time ∧ stack ∈ u.ms.doubled ∧ u.mem = s.mem) ∧
    (∀ count, ∃ t : State, exec (.hbmEccPoll stack count) s = .next t ∧ t.ms.onDie.get 0 stack = s.ms.onDie.get 0 stack + count ∧ t.hub = s.hub ∧
      t.mem = s.mem) ∧
    exec (.rfmRequest stack) s = .next { s with tx := s.tx ++ [.rfm stack] } ∧
    exec (.hbmChannelLost stack) s = .next (s.fenceStack stack) ∧
    (s.fencedUnit kStack stack = true → exec (.hbmChannelLost stack) s = .next s)) ∧
  (∀ (s : State) (e : Nat), s.up = true → e < 1536 → ∃ (t : State) (x : Engine), exec (.writeAgeExpiry e) s = .next t ∧
    t.ms.engines.find e = some x ∧ x.rq = (s.ms.engines.get Engine.empty e).rq ∧ x.writing = false ∧
    x.issued = min (s.ms.engines.get Engine.empty e).wq (s.hubNat MCT_WRITE_BATCH) ∧
    x.wq + x.issued = (s.ms.engines.get Engine.empty e).wq ∧ t.mem = s.mem ∧ t.hub = s.hub) ∧
  (∀ (s : State) (line : Nat), s.up = true → line * 64 < hbmTop → s.vacant kStack (s.stackOf (line * 64)) = false →
    exec (.patrolScrubRead line .clean) s = .next s ∧
    (∃ u : State, exec (.patrolScrubRead line .corrected) s = .next (u.report (u.lineReport cHbmCe .ce (line * 64) 0 1)) ∧
      u.hubNat MCT_CE_COUNT = min 0xFFFFFFFF (s.hubNat MCT_CE_COUNT + 1) ∧ u.poison = s.poison ∧ u.mem = s.mem ∧ u.sdg = s.sdg) ∧
    (line ∈ s.poison → exec (.patrolScrubRead line .uncorrectable) s = .next s) ∧
    (line ∉ s.poison → s.pastureLine (line * 64) = none → ∃ u : State, exec (.patrolScrubRead line .uncorrectable) s =
      .next ((u.report (u.lineReport cHbmUe .uc (line * 64) 0 1)).countUe (s.stackOf (line * 64))) ∧ line ∈ u.poison ∧ u.mem = s.mem ∧
      u.hub = s.hub ∧ u.sdg = s.sdg)) ∧
  (∀ (s : State) (g : Nat), s.running = true → s.ms.pastureLost = [g] → fieldOf (s.hubNat MCT_TWIN_STATUS) 4 4 = g →
    s.hubNat MCT_TWIN_STATUS % 4 ≠ 0 → fieldOf (s.hubNat MCT_PASTURE_CFG) 16 16 ≠ 0 → ∃ u : State,
      exec .pastureRebuildDone s = .next u.recomputeAdmitted ∧ u.hubNat MCT_TWIN_STATUS % 4 = 0 ∧ u.mem = s.mem ∧ u.fns = s.fns ∧
      fieldOf (u.hubNat MCT_TWIN_STATUS) 4 4 = fieldOf (s.hubNat MCT_PASTURE_CFG) 8 4 ∧
      fieldOf (u.hubNat MCT_TWIN_STATUS) 8 4 = fieldOf (s.hubNat MCT_TWIN_STATUS) 8 4) ∧
  (∀ (s : State) (n : Nat), s.running = true → (s.fn n).tmpl ≠ [] → s.vacant kStack (s.fn n).standby = false → s.fnNat n JRN_STATUS % 4 ≠ 0 →
    s.vacant kStack (fieldOf (s.fnNat n JRN_STATUS) 8 8) = true → ∃ u : State, exec (.journalRebuildDone n) s = .next u.recomputeAdmitted ∧
      u.fnNat n JRN_STATUS % 4 = 0 ∧ fieldOf (u.fnNat n JRN_STATUS) 8 8 = (s.fn n).standby % 256 ∧
      fieldOf (u.fnNat n JRN_STATUS) 16 8 = fieldOf (s.fnNat n JRN_STATUS) 16 8 ∧ (u.fn n).entries = (s.fn n).entries ∧ u.mem = s.mem) ∧
  (∀ (s : State) (n : Nat), s.hubNat MCT_TWIN_STATUS % 4 = 0 → s.fnNat n JRN_STATUS % 4 = 0 → exec .pastureRebuildDone s = .next s ∧
    exec (.journalRebuildDone n) s = .next s) ∧
  (∀ (s : State) (v : W32), s.up = true → ∃ t : State, exec (.marginRequest v) s = .next t ∧ t.hubNat MCT_MARGIN_SEL = v.toNat % 2 ^ 11 ∧
    (bitOf v.toNat 31 = true → v.toNat % 2 ^ 11 < 1536 → t.ms.margin = some (v.toNat % 2 ^ 11) ∧ t.hubNat MCT_MARGIN_RESULT = 0) ∧
    (bitOf v.toNat 31 = false → t.ms = s.ms ∧ t.hubGet MCT_MARGIN_RESULT = s.hubGet MCT_MARGIN_RESULT)) ∧
  (∀ (s : State) (r w f : BitVec 8), (s.ms.margin = none → exec (.marginResult r w f) s = .next s) ∧
    (s.ms.margin ≠ none → ∃ t : State, exec (.marginResult r w f) s = .next t ∧ t.ms.margin = none ∧
      t.hubNat MCT_MARGIN_RESULT = 2 ^ 31 + r.toNat * 65536 + w.toNat * 256 + f.toNat))

/-- R327, R328, R333 to R336, R344, R348 and R349. -/
def Obligations.BandwidthRegulation : Prop :=
  (∀ (s : State) (w th : List (Nat × Nat)), s.up = true → (s.time % 1000 ≠ 0 → exec (.regulatorWindow w th) s = .next s) ∧
    (s.time % 1000 = 0 → ∃ (u t : State), u = (s.closeWindow w th).markShortfall ∧ exec (.regulatorWindow w th) s = .next t ∧
      t.time = s.time ∧ t.sec = s.sec ∧ (∀ o c, (o, c) ∈ u.allFlows → (t.flow o c).charged = 0 ∧
        (t.flow o c).effMin = u.effectiveMin o c ∧ (t.flow o c).urgency = (u.flow o c).urgency ∧
        (t.flow o c).balance = (u.effectiveMin o c * 256 : Nat) + min (u.flow o c).balance 0 ∧
        ((o, c) ∉ w → (t.flow o c).grant = 0)))) ∧
  (chargeBytes .hit false = 0 ∧ chargeBytes .readMiss false = 256 ∧ chargeBytes (.write true) false = 64 ∧
    chargeBytes (.write false) false = 128 ∧ chargeBytes (.write true) true = 128) ∧
  (∀ (s : State) (o c n : Nat) (a : ChargeKind), s.up = true → s.isFlow o c = true → n = chargeBytes a (o != ownerHub && s.integrity o) →
    (∃ t : State, exec (.chargeReport o c a false) s = .next t ∧ (t.flow o c).balance = (s.flow o c).balance - n ∧ (t.flow o c).grant = (s.flow o c).grant ∧
      (t.flow o c).charged = (s.flow o c).charged + n ∧ t.mem = s.mem ∧
      (o ≠ ownerHub → s.confidential o = false →
        t.fnNat o (BWG_BYTES + 0x20 * c) = min 0xFFFFFFFFFFFFFFFF (s.fnNat o (BWG_BYTES + 0x20 * c) + n)) ∧
      (s.confidential o = true → t.hub = s.hub ∧ (t.fn o).regs = (s.fn o).regs)) ∧
    (∃ t : State, exec (.chargeReport o c a true) s = .next t ∧ (t.flow o c).balance = (s.flow o c).balance ∧
      (t.flow o c).grant = max ((s.flow o c).grant - n) 0 ∧ (t.flow o c).charged = (s.flow o c).charged + n ∧ t.mem = s.mem)) ∧
  (∀ (s : State) (o c l : Nat), s.up = true → s.isFlow o c = true → (realTime o c = false → exec (.urgencyChange o c l) s = .next s) ∧
    (realTime o c = true → ∃ t : State, exec (.urgencyChange o c l) s = .next t ∧ t.flow o c = { s.flow o c with urgency := s.urgencyLevel o c l } ∧
      t.mem = s.mem ∧ t.hub = s.hub)) ∧
  (∀ (s : State) (e r w : Nat), s.up = true → e < 1536 → ∃ t : State, exec (.queueFeedback [(e, r, w)]) s = .next t ∧
    (t.ms.engines.get Engine.empty e).rq = min 64 r ∧ (t.ms.engines.get Engine.empty e).wq = min 64 w ∧
    (∀ g, g ∈ t.ms.amber ↔ g < 6 ∧ t.activeChannels g < 8 * t.enginesAt g (s.hubNat BWG_FEEDBACK % 64)) ∧
    (∀ g, g ∈ t.ms.red ↔ g < 6 ∧ t.activeChannels g < 8 * t.enginesAt g (fieldOf (s.hubNat BWG_FEEDBACK) 8 6)) ∧
    t.hub = s.hub ∧ t.mem = s.mem) ∧
  (∀ (s : State) (g : Nat), s.up = true → (g ∉ s.ms.shortfall ∨ s.time < s.ms.lastLog.get 0 g + 100000000 →
      exec (.shortfallLogTick g) s = .next s) ∧
    (g ∈ s.ms.shortfall → s.ms.lastLog.get 0 g + 100000000 ≤ s.time → ∃ t : State, exec (.shortfallLogTick g) s = .next t ∧
      t.ms.lastLog.get 0 g = s.time ∧ t.sec = s.sec ∧ t.flash = s.flash))

/-- R588, R589, R595 to R597, R600 to R602. -/
def Obligations.Sheepdog : Prop :=
  (∀ (s : State) (r : Report), s.up = true →
    (r.cause = 0 ∨ cRecoveryLimit < r.cause → exec (.faultReport r) s = .next s) ∧
    (r.cause = cSramCe → r.block = 0x14 → exec (.faultReport r) s =
      .next (s.hubSetN SDG_SELF_CE (min 0xFFFFFFFF (s.hubNat SDG_SELF_CE + 1)))) ∧
    (r.cause ∈ [cMeshLost, cJournalLost, cKeyUnwrap, cHubRail, cThermalTrip, cShepherdAll, cRecoveryLimit] →
      exec (.faultReport r) s = .next (s.report { r with cls := .ft })) ∧
    (r.cause ∈ [cResidue, cDuplicate, cCompletion] → fencedAtOnce r.kind = false →
      exec (.faultReport r) s = .next ((s.report { r with cls := .uc }).errorAll r.records true)) ∧
    (r.cause = cE2eCrc → ∃ u : State, exec (.faultReport r) s = .next ((u.report { r with cls := .uc }).errorAll r.records true) ∧
      u.hubNat NOC_E2E_ERRORS = min 0xFFFFFFFF (s.hubNat NOC_E2E_ERRORS + 1) ∧ u.mem = s.mem ∧ u.sdg = s.sdg) ∧
    (fencedAtOnce r.kind = false → exec (.stallWatchdog r) s =
      .next ((s.report { r with cause := cCompletion, cls := .uc }).errorAll r.records true)) ∧
    exec .sheepdogSelfFault s = .next (s.enterSafe cSheepdogSelf true)) ∧
  (∀ (s : State) (cause : Nat) (self : Bool), cause < 256 → (s.enterSafe cause self).safe = true ∧
    (s.safe = false ∨ self = true → fieldOf ((s.enterSafe cause self).hubNat SDG_STATUS) 8 8 = cause) ∧
    (self = true → bitOf ((s.enterSafe cause self).hubNat SDG_STATUS) 30 = true)) ∧
  (∀ (s : State), (s.mayExit = false → exec .safeExit s = .next s) ∧
    (s.mayExit = true → s.hubNat SDG_RECOVERY_LIMIT % 256 < s.recentExits.length →
      exec .safeExit s = .next (s.report (hubReport cRecoveryLimit .ft 0x14 0 0))) ∧
    (s.mayExit = true → s.recentExits.length ≤ s.hubNat SDG_RECOVERY_LIMIT % 256 → ∃ (u v : State),
      exec .safeExit s = .next ((List.range 16).foldl (fun (x : State) p => if x.unusedPort p then x else x.sendIdent p)
        (v.fns.foldl (fun (x : State) (p : Nat × Fn) => x.pump p.1) v)) ∧ v = u.raiseInt intSafe ∧ u.safe = false ∧
      u.sdg.exits = s.time :: s.recentExits ∧ u.hubNat SDG_RECOVERIES = min 0xFFFFFFFF (s.hubNat SDG_RECOVERIES + 1) ∧ u.mem = s.mem ∧
      u.fns = s.fns)) ∧
  (∀ (s : State) (v : W32), s.up = true → ∃ t : State, exec (.qRelease v) s = .next t ∧ t.sdg.queue.find (v.toNat % 1024) = none ∧
    (∀ k, k ≠ v.toNat % 1024 → t.sdg.queue.find k = s.sdg.queue.find k) ∧ t.sdg.pinfold = s.sdg.pinfold ∧ t.hub = s.hub ∧ t.mem = s.mem) ∧
  (∀ s : State, s.up = true → (s.safe = true → exec .firstErrorClear s = .next s) ∧
    (s.safe = false → ∃ t : State, exec .firstErrorClear s = .next t ∧ t.hubNat SDG_FIRST_INFO = 0 ∧ t.hubNat SDG_FIRST_ADDR = 0 ∧
      t.hubNat SDG_FIRST_CAUSE = 0 ∧ t.hubNat SDG_FIRST_TIME = 0 ∧ t.sdg = s.sdg ∧ t.mem = s.mem))
/-! ### Optical links and the torus -/

/-- R475 to R477, R485, R550 and R551. -/
def Obligations.OpticalTraining : Prop :=
  (∀ (s : State) (k : Nat) (on : Bool), k < 4 → ∃ t : State, exec (.lightChange k on) s = .next t ∧ (k ∈ t.torus.lightIn ↔ on = true) ∧
    (∀ j, j ≠ k → (j ∈ t.torus.lightIn ↔ j ∈ s.torus.lightIn)) ∧ t.time = s.time ∧ t.flash = s.flash) ∧
  (∀ (s : State) (p r : Nat), p < 16 → (s.excludePort p r).portState p = psExcluded) ∧
  (∀ (s : State) (p : Nat), s.up = true → p < 16 → (s.portState p ≠ psExcluded → exec (.trainPattern p) s = .next s) ∧
    (s.portState p = psExcluded → fieldOf (s.hubNat (LNK_PORT_STATUS + 4 * p)) 24 4 = rsNoTrain ∨
        fieldOf (s.hubNat (LNK_PORT_STATUS + 4 * p)) 24 4 = rsLinkLost → exec (.trainPattern p) s = .next (s.retrain p false))) ∧
  (∀ s : State, s.up = true → ∃ t : State, exec .trainTimeout s = .next t ∧ ∀ p, p < 16 → s.unusedPort p = false → s.training p = true →
    (s.port p).since + s.hubNat LNK_TRAIN_TIMEOUT * 1000000 ≤ s.time → t.portState p = psExcluded) ∧
  (∀ (s : State) (p : Nat), s.linksUp = true → p < 16 → s.training p = true →
    (∀ lanes, ∃ t : State, exec (.train p lanes) s = .next t ∧ (t.port p).lanes = (s.port p).lanes.filter (bitOf lanes) ∧ t.mem = s.mem ∧ t.tx = s.tx ∧
      ∀ q, q ≠ p → t.port q = s.port q) ∧
    (∀ width, ((s.port p).identOk = false ∨ (s.port p).keyed = false → exec (.portTrained p width) s = .next s) ∧
      ((s.port p).identOk = true → (s.port p).keyed = true → width < portWidthMin (s.portCfg p) →
        exec (.portTrained p width) s = .next (s.excludePort p rsBelowMin)) ∧
      ((s.port p).identOk = true → (s.port p).keyed = true → portWidthMin (s.portCfg p) ≤ width → ∃ u : State,
        exec (.portTrained p width) s = .next (u.enterState p (if portRole (s.portCfg p) = 8 then psStandby else psUp)) ∧
        fieldOf (u.hubNat (LNK_PORT_STATUS + 4 * p)) 19 5 = min width 16 ∧ u.ports = s.ports ∧ u.mem = s.mem)) ∧
    (∀ i : IdentMsg, s.unusedPort p = false → s.carries p = false → s.portState p ≠ psFencedPeer →
      (s.miswired p i = true → exec (.ident p i) s = .next (s.excludePort p rsMiswired)) ∧
      (s.miswired p i = false → max (portWidthMin (s.portCfg p)) i.widthMin ≤ (s.port p).lanes.length → ∃ u : State,
        exec (.ident p i) s = .next (if u.lowerEnd p then u.sendOffer p else u) ∧ (u.port p).identOk = true ∧
        (u.port p).peerSerial = i.serial.toNat ∧ (u.port p).keyed = false ∧ u.tx.length = s.tx.length + 1 ∧ u.mem = s.mem))) ∧
  (∀ (s : State) (p : Nat) (k : KeyxMsg), s.linksUp = true → p < 16 → s.training p = true → (s.port p).identOk = true →
    (s.lowerEnd p = false → if s.credentialOk k.credential (s.port p).peerSerial = true then
        ∃ t : State, exec (.keyxOffer p k) s = .next t ∧ (t.port p).kx = 2 ∧ (t.port p).keyed = false ∧ (t.port p).kxPeer = credKey k.credential ∧
          t.tx.length = s.tx.length + 1 ∧ t.draws = s.draws + 1 ∧ t.mem = s.mem
      else exec (.keyxOffer p k) s = .next (s.authFail p)) ∧
    (∀ body log, (s.port p).kx = 1 → body = kxBody 2 0 k.share k.credential (beBytes 96 k.signature) → log = (s.port p).kxLog ++ body →
      if s.credentialOk k.credential (s.port p).peerSerial = true ∧
          Config.ecdsaVerify (credKey k.credential) ((s.port p).kxLog ++ body.take 312) k.signature = true then
        (if kxTag ((s.installKeys p (s.port p).kxSecret k.share 0 log).port p).keyDown 0 body = k.confirm then
          ∃ t : State, exec (.keyxAccept p k) s = .next t ∧ (t.port p).keyed = true ∧ (t.port p).keyGen = 0 ∧ t.tx.length = s.tx.length + 1 ∧
            t.mem = s.mem
        else exec (.keyxAccept p k) s = .next ((s.installKeys p (s.port p).kxSecret k.share 0 log).authFail p))
      else exec (.keyxAccept p k) s = .next (s.authFail p)) ∧
    (∀ body, (s.port p).kx = 2 → body = kxBody 3 0 0 [] (beBytes 96 k.signature) →
      if Config.ecdsaVerify (s.port p).kxPeer ((s.port p).kxLog ++ body.take 312) k.signature = true ∧ kxTag (s.port p).keyDown 0 body = k.confirm then
        ∃ t : State, exec (.keyxConfirm p k) s = .next t ∧ t.port p = { s.port p with keyed := true, kx := 0 } ∧ t.tx = s.tx ∧ t.hub = s.hub
      else exec (.keyxConfirm p k) s = .next (s.authFail p)) ∧
    ((s.port p).keyed = false → exec (.keyExchangeTimeout p) s = .next (s.authFail p)) ∧
    ((s.port p).keyed = true → exec (.keyExchangeTimeout p) s = .next s)) ∧
  (∀ (s : State) (p gen : Nat), s.linksUp = true → p < 16 → s.carries p = true → (s.port p).keyed = true → gen = ((s.port p).keyGen + 1) % 65536 →
    ((s.port p).kx = 0 → (s.port p).keyedAt + s.hubNat LNK_REKEY_MS * 1000000 ≤ s.time ∨ 2 ^ 32 ≤ (s.port p).sent → ∃ t : State,
      exec (.rekeyTimer p) s = .next t ∧ (t.port p).kx = 3 ∧ (t.port p).kxSecret = s.free ∧ (t.port p).keyGen = (s.port p).keyGen ∧
      t.tx = s.tx ++ [.portCtl p 0x03 [4, gen, Config.ecPublic s.free]] ∧ t.mem = s.mem) ∧
    (s.time < (s.port p).keyedAt + s.hubNat LNK_REKEY_MS * 1000000 → (s.port p).sent < 2 ^ 32 → exec (.rekeyTimer p) s = .next s) ∧
    (∀ share, ((s.port p).kx = 0 ∨ s.lowerEnd p = false → ∃ t : State, exec (.keyxRekey p share) s = .next t ∧ (t.port p).keyGen = gen ∧
        (t.port p).sent = 0 ∧ (t.port p).kx = 0 ∧ t.hubNat (LNK_REKEYS + 0x20 * p) = min 0xFFFFFFFF (s.hubNat (LNK_REKEYS + 0x20 * p) + 1) ∧
        t.tx = s.tx ++ [.portCtl p 0x03 [5, gen, Config.ecPublic s.free]] ∧ t.mem = s.mem) ∧
      ((s.port p).kx = 3 → s.lowerEnd p = true → exec (.keyxRekey p share) s = .next s) ∧
      ((s.port p).kx = 3 → ∃ t : State, exec (.keyxAck p share) s = .next t ∧ (t.port p).keyGen = gen ∧ (t.port p).kx = 0 ∧ t.tx = s.tx ∧
        t.hubNat (LNK_REKEYS + 0x20 * p) = min 0xFFFFFFFF (s.hubNat (LNK_REKEYS + 0x20 * p) + 1) ∧ t.mem = s.mem) ∧
      ((s.port p).kx ≠ 3 → exec (.keyxAck p share) s = .next s)) ∧
    ((s.port p).kx = 3 → (s.port p).kxAt + 10000000 ≤ s.time → ∃ u : State, exec (.rekeyTimeout p) s = .next (u.authFail p) ∧ u.ports = s.ports ∧
      u.hubNat (LNK_AUTH_FAILS + 0x20 * p) = min 0xFFFFFFFF (s.hubNat (LNK_AUTH_FAILS + 0x20 * p) + 1) ∧ u.mem = s.mem) ∧
    (s.time < (s.port p).kxAt + 10000000 → exec (.rekeyTimeout p) s = .next s))

/-- R466, R478 to R484, R497 to R499. -/
def Obligations.LinkTraffic : Prop :=
  (∀ (s : State) (p : Nat) (f : LflFlit), s.linksUp = true → p < 16 → s.carries p = true →
    (f.crcOk = false → ∃ t : State, exec (.lflFlit p f) s = .next t ∧ t.tx = s.tx ++ [.portCtl p 0x04 [(s.port p).rxNext]] ∧ t.ports = s.ports ∧
      t.hubNat (LNK_FEC_FAILED + 0x20 * p) = min 0xFFFFFFFF (s.hubNat (LNK_FEC_FAILED + 0x20 * p) + 1) ∧ t.mem = s.mem) ∧
    (f.crcOk = true → f.seq ≠ (s.port p).rxNext → ∃ t : State, exec (.lflFlit p f) s = .next t ∧ t.tx = s.tx ∧ t.ports = s.ports ∧ t.mem = s.mem) ∧
    (f.crcOk = true → f.seq = (s.port p).rxNext → f.authOk = false →
      ((s.port p).authFailed = true → ∃ u : State, exec (.lflFlit p f) s = .next (u.authFail p) ∧ u.ports = s.ports ∧ u.mem = s.mem) ∧
      ((s.port p).authFailed = false → ∃ t : State, exec (.lflFlit p f) s = .next t ∧ t.port p = { s.port p with authFailed := true } ∧
        t.tx = s.tx ++ [.portCtl p 0x04 [(s.port p).rxNext]] ∧ t.mem = s.mem)) ∧
    (f.crcOk = true → f.seq = (s.port p).rxNext → f.authOk = true → ∃ u : State, exec (.lflFlit p f) s = .next (f.msgs.foldl (fun (x : State) m =>
        (x.tallyM 0x15 m.payload.length).deliverLfl { m with port := p }) u) ∧ (u.port p).rxNext = ((s.port p).rxNext + 1) % 65536 ∧
      (u.port p).authFailed = false ∧ (u.port p).replay = (s.port p).replay.filter (fun r => !seqLe ((r.1 + r.2.1 + 65535) % 65536) f.ack) ∧
      u.tx = s.tx ∧ u.mem = s.mem)) ∧
  (∀ (s : State) (p seq : Nat), s.linksUp = true → p < 16 → s.carries p = true →
    ((s.port p).nakSeq = seq → 15 ≤ (s.port p).naks → exec (.nak p seq) s = .next (s.retrain p true)) ∧
    ((s.port p).nakSeq ≠ seq ∨ (s.port p).naks < 15 → ∃ t : State, exec (.nak p seq) s = .next t ∧ (t.port p).nakSeq = seq ∧
      (t.port p).replay = (s.port p).replay ∧ t.tx = s.tx ++ ((s.port p).replay.filter (fun r =>
        seqLe seq ((r.1 + r.2.1 + 65535) % 65536))).map (fun r => .lfl p r.2.2) ∧ t.mem = s.mem) ∧
    (∀ lanes, portWidthMin (s.portCfg p) ≤ (lanesOfMask lanes).length → ∃ t : State, exec (.width p lanes) s = .next t ∧
      (t.port p).lanes = lanesOfMask lanes ∧ t.tx = s.tx ∧ t.mem = s.mem) ∧
    (∀ lane, exec (.laneFault p lane) s = .next (s.laneLost p lane cLaneReplaced) ∧
      (lane ∉ (s.port p).lanes → exec (.laneFault p lane) s = .next s)) ∧
    (∀ lane q rest, lane < 16 → lane ∉ (s.port p).lanes → s.lanePhys p lane = none → s.laneSpares (p / 4) = q :: rest → ∃ t : State,
      exec (.laneSwapDone p lane true) s = .next t ∧ t.lanePhys p lane = some q) ∧
    (∀ t1, exec (.timeReq p t1) s = .next { s with tx := s.tx ++ [.portCtl p 0x07 [s.time, s.time]] }) ∧
    (∀ t2 t3, s.bellwether ≠ s.nodeId → ∃ u : State, exec (.timeResp p t2 t3) s = .next (u.applyOffset
        (timeTheta (s.port p).timeT1 t2.toNat t3.toNat s.time) (s.torus.syncAt = 0)) ∧ u.torus = { s.torus with syncAt := s.time } ∧
      u.hubGet LNK_TIME_OFFSET = BitVec.ofInt 64 (timeTheta (s.port p).timeT1 t2.toNat t3.toNat s.time) ∧
      bitOf (u.hubNat LNK_TIME_STATUS) 31 = true ∧ u.time = s.time ∧ u.mem = s.mem) ∧
    (∀ node, ∃ u : State, exec (.fenced p node) s = .next (u.floodState node 0
        ((((s.torus.nodes.find node).map (·.gen)).getD 0 + 1) % 2 ^ 32) true (some p)) ∧ u.portState p = psFencedPeer ∧
      u.torus.nodes.find node = some ⟨0, true, ((s.torus.nodes.find node).map (·.gen)).getD 0⟩)) ∧
  (∀ (s : State) (p l cause q : Nat), s.lanePhys p l = some q → (s.fenceLane p l cause).lanePhys p l = none ∧
    (kLane, q) ∈ (s.fenceLane p l cause).noc.fenced) ∧
  (∀ s : State, s.linksUp = true → (s.bellwether = s.nodeId → exec .timeExchangeTick s = .next s) ∧
    (∀ p hop, s.bellwether ≠ s.nodeId → s.egress s.bellwether = some (p, hop) → ∃ t : State, exec .timeExchangeTick s = .next t ∧
      (t.port p).timeT1 = s.time ∧ t.tx = s.tx ++ [.portCtl p 0x06 [s.time]] ∧ t.mem = s.mem)) ∧
  (∀ s : State, s.up = true → s.bellwether ≠ s.nodeId → bitOf (s.hubNat LNK_TIME_STATUS) 31 = true →
    (s.time < s.torus.syncAt + 10000000 → exec .timeSyncLost s = .next s) ∧
    (s.torus.syncAt + 10000000 ≤ s.time → ∃ t : State, exec .timeSyncLost s = .next t ∧ bitOf (t.hubNat LNK_TIME_STATUS) 31 = false ∧ t.pce.slew = 0 ∧
      t.time = s.time ∧ t.mem = s.mem)) ∧
  (∀ (s : State) (since : Nat), s.up = true → s.torus.bwLostAt = some since → bitOf (s.hubNat LNK_BELLWETHER) 15 = true →
    (s.time < since + 100000000 → exec .bellwetherLost s = .next s) ∧
    (since + 100000000 ≤ s.time → ∃ t : State, exec .bellwetherLost s = .next t ∧ bitOf (t.hubNat LNK_TIME_STATUS) 30 = true ∧
      t.bellwether = fieldOf (s.hubNat LNK_BELLWETHER) 16 9 ∧ t.mem = s.mem ∧ t.tx = s.tx)) ∧
  (∀ s : State, s.up = true → (s.safe = true → exec .fencedRepeat s = .next s.sendFenced) ∧ (s.safe = false → exec .fencedRepeat s = .next s))

/-- R474, R486 to R491 and R494 to R496. -/
def Obligations.TorusMessages : Prop :=
  (∀ (s : State) (m : LflMsg) (c : Instr) (op : Nat), (c, op) ∈ [(Instr.collectData m, opCollectData), (.hurdleArrive m, opHurdleArrive),
      (.lstate m, opLstate), (.collectResult m, opCollectResult), (.hurdleOpen m, opHurdleOpen), (.e2eAck m, opE2eAck)] →
    (s.linksUp = false ∨ m.crcOk = false ∨ m.reservedOk = false ∨ m.dst ≠ s.nodeId → exec c s = .next s) ∧
    (s.linksUp = true → m.crcOk = true → m.reservedOk = true → m.dst = s.nodeId →
      (op = opE2eAck → ∃ t : State, exec c s = .next t ∧ t.tx = s.tx ∧ t.mem = s.mem ∧ ∀ k, k ∈ t.torus.kept ↔ k ∈ s.torus.kept ∧
        ¬(k.msg.dst = m.src ∧ msgClass k.msg.op = m.rank ∧ (m.e2eSeq + 2 ^ 32 - k.msg.e2eSeq) % 2 ^ 32 < 2 ^ 31)) ∧
      (op = opLstate → exec c s = .next (s.linkState { m with op := op })) ∧
      (op ≠ opE2eAck → op ≠ opLstate → exec c s = .next (s.deliver { m with op := op })))) ∧
  (∀ (s : State) (m : LflMsg), m.src ≠ s.nodeId → s.torus.nodes.find m.src = none → ∃ u : State, s.linkState m =
    u.floodState m.src (fieldAt m.payload 0 1 % 64) (fieldAt m.payload 1 4) (bitOf (fieldAt m.payload 0 1) 6) (some m.port) ∧
    u.torus.nodes.find m.src = some ⟨fieldAt m.payload 0 1 % 64, bitOf (fieldAt m.payload 0 1) 6, fieldAt m.payload 1 4⟩ ∧ u.mem = s.mem) ∧
  (∀ (s : State) (dst cls seq : Nat), s.linksUp = true →
    (s.torus.kept.find? (fun k => k.msg.dst = dst && msgClass k.msg.op = cls && k.msg.e2eSeq = seq) = none →
      exec (.e2eResend dst cls seq) s = .next s) ∧
    (∀ k, s.torus.kept.find? (fun k => k.msg.dst = dst && msgClass k.msg.op = cls && k.msg.e2eSeq = seq) = some k →
      (s.time < k.sentAt + 50000 → exec (.e2eResend dst cls seq) s = .next s) ∧
      (k.sentAt + 50000 ≤ s.time → 8 ≤ k.resends →
        exec (.e2eResend dst cls seq) s = .next { s with torus := { s.torus with kept := s.torus.kept.erase k } }) ∧
      (∀ p hop, k.sentAt + 50000 ≤ s.time → k.resends < 8 → s.egress dst = some (p, hop) → ∃ t : State, exec (.e2eResend dst cls seq) s = .next t ∧
        t.tx = s.tx ++ [.lfl p { k.msg with hop := hop, port := p }] ∧ { k with resends := k.resends + 1, sentAt := s.time } ∈ t.torus.kept ∧
        t.hubNat LNK_E2E_RETRANSMITS = min 0xFFFFFFFF (s.hubNat LNK_E2E_RETRANSMITS + 1) ∧ t.mem = s.mem))) ∧
  (∀ (s : State) (m : LflMsg), (m.dst = s.nodeId ∨ portRole (s.portCfg m.port) = 7 → exec (.lflForward m) s = .next s) ∧
    (∀ p, s.linksUp = true → m.dst ≠ s.nodeId → portRole (s.portCfg m.port) ≠ 7 → s.carries m.port = true →
      s.pickPort (s.nextDir m.dst m.hop) m.src m.dst = some p → ∃ t : State, exec (.lflForward m) s = .next t ∧
        t.tx = s.tx ++ [.lfl p { m with port := p }] ∧ t.torus = s.torus ∧ t.mem = s.mem ∧
        t.hubNat LNK_FORWARDED = min 0xFFFFFFFFFFFFFFFF (s.hubNat LNK_FORWARDED + 1))) ∧
  (∀ s : State, (s.linksUp = false → exec .lstateTick s = .next s) ∧
    (s.linksUp = true → ∃ u : State, exec .lstateTick s = .next (u.floodState s.nodeId s.ownDirs ((s.torus.gen + 1) % 2 ^ 32) false none) ∧
      u.torus = { s.torus with gen := (s.torus.gen + 1) % 2 ^ 32 } ∧ u.hub = s.hub ∧ u.mem = s.mem))
/-! ### The commons sites -/

/-- R505, R507 to R510, R526, R527, R529, R530, R533, R534, R552 and R553. -/
def Obligations.CommonsManagement : Prop :=
  (∀ (s : State) (n : Nat) (d : DiscoverMsg), s.up = true → isCommonsSite n = true →
    (s.cmnSt n ≠ cmnDiscovering → exec (.discover n d) s = .next s) ∧
    (s.cmnSt n = cmnDiscovering → d.strap ≠ s.ident.pad n →
      exec (.discover n d) s = .next (((s.setSite n Site.empty).setCmnSt n cmnOffSt).strapErr n).advance) ∧
    (s.cmnSt n = cmnDiscovering → d.strap = s.ident.pad n → discoverOk d = false ∨ rolesOk (s.cmnCfg n) d.declare = false →
      exec (.discover n d) s = .next (s.mismatch n)) ∧
    (s.cmnSt n = cmnDiscovering → d.strap = s.ident.pad n → discoverOk d = true → rolesOk (s.cmnCfg n) d.declare = true → ∃ u : State,
      exec (.discover n d) s = .next (u.checkPair n) ∧ u.cmnSt n = cmnTraining ∧ cmnDeclare u n = d.declare ∧ (u.site n).step = 3 ∧
      (u.site n).measCount = d.measCount ∧ (u.site n).windowMib = d.windowMib ∧ (u.site n).beatAt = s.time ∧ u.tx = s.tx ∧ u.mem = s.mem)) ∧
  (∀ (s : State) (n : Nat), s.up = true → isCommonsSite n = true → s.cmnSt n = cmnTraining →
    ((s.site n).step = 3 → if s.free % 101 < 90 then ∃ u : State, exec (.configure n) s = .next (u.fenceSite n) ∧ u.sites = s.sites ∧ u.mem = s.mem
      else ∃ t : State, exec (.configure n) s = .next t ∧ (t.site n).step = 4 ∧
        (∃ a, (t.site n).mgmt = some (2, a) ∧ t.tx = s.tx ++ [.mgmt n 2 a]) ∧ t.draws = s.draws + 1 ∧ t.mem = s.mem) ∧
    ((s.site n).step ≠ 3 → exec (.configure n) s = .next s) ∧
    ((s.site n).step = 4 → exec (.configureAck n false) s = .next s ∧ ∃ t : State, exec (.configureAck n true) s = .next t ∧ (t.site n).step = 5 ∧
      (t.site n).mgmt = none ∧ t.tx = s.tx ∧ t.mem = s.mem) ∧
    (∀ b, (s.site n).step = 5 → b < 16 → ∃ t : State, exec (.measureReq n b) s = .next t ∧ (t.site n).mgmt = some (4, [b]) ∧
      t.tx = s.tx ++ [.mgmt n 4 [b]] ∧ t.mem = s.mem) ∧
    (∀ b d, (s.site n).step = 5 → (s.site n).mgmt = some (4, [b]) → b < (s.site n).measCount → bitOf (s.cmnCfg n) 8 = false → ∃ u : State,
      (u.site n).measures.find b = some ((d ++ zeros 48).take 48) ∧ (u.site n).mgmt = none ∧ u.hub = s.hub ∧ u.mem = s.mem ∧
      ((∃ i, i < (s.site n).measCount ∧ i ≠ b ∧ (s.site n).measures.find i = none) → exec (.measure n b d) s = .next u) ∧
      ((∀ i, i < (s.site n).measCount → i ≠ b → (s.site n).measures.find i ≠ none) → exec (.measure n b d) s = .next (u.afterMeasures n)))) ∧
  (∀ (s : State) (n b : Nat) (d old : List Byte), s.siteLive n = true → (s.site n).mgmt = some (4, [b]) → (s.site n).measures.find b = some old →
    ∃ u : State, (u.site n).mgmt = none ∧ u.hub = s.hub ∧ (old = (d ++ zeros 48).take 48 → exec (.measure n b d) s = .next u.finishAttest) ∧
      (old ≠ (d ++ zeros 48).take 48 → exec (.measure n b d) s = .next (u.fenceSite n).finishAttest)) ∧
  (∀ (s : State) (n : Nat), s.siteLive n = true → 3 ≤ (s.site n).step →
    (∀ temp fl, temp < 105 → fieldOf (s.hubNat (cmnOff n 0x18)) 16 8 < 105 → ∃ t : State, exec (.heartbeat n temp fl) s = .next t ∧
      (t.site n).beatAt = s.time ∧ fieldOf (t.hubNat (cmnOff n 0x18)) 24 8 = temp ∧ t.tx = s.tx ∧ t.mem = s.mem) ∧
    (∀ temp fl, 115 ≤ temp → s.pow.hotSites = [] → ∃ u : State, exec (.heartbeat n temp fl) s = .next (u.fenceSite n) ∧ u.pow.hotSites = [n] ∧
      u.noc = s.noc ∧ u.mem = s.mem) ∧
    ((s.site n).beatAt + 1000000 ≤ s.time → exec (.heartbeatTimeout n) s = .next (s.fenceSite n)) ∧
    (s.time < (s.site n).beatAt + 1000000 → exec (.heartbeatTimeout n) s = .next s) ∧
    (∀ w, ∃ t : State, exec (.throttle n w) s = .next t ∧ t.tx = s.tx ++ [.mgmt n 8 [w]] ∧
      t.hubNat (cmnOff n 0x3C) = min 0xFFFFFFFF (s.hubNat (cmnOff n 0x3C) + 1) ∧ t.sites = s.sites ∧ t.mem = s.mem) ∧
    (∀ mean peak temp, max temp (fieldOf (s.hubNat (cmnOff n 0x18)) 24 8) < 105 →
      (110 < peak → ∃ u : State, exec (.commonsPowerCheck n mean peak temp) s = .next (u.fenceSite n) ∧ u.sites = s.sites ∧ u.noc = s.noc ∧ u.mem = s.mem) ∧
      (peak ≤ 110 → mean ≤ s.siteBudget n * 100 → ∃ t : State, exec (.commonsPowerCheck n mean peak temp) s = .next t ∧ t.tx = s.tx ∧
        fieldOf (t.hubNat (cmnOff n 0x18)) 0 16 = min mean 65535 ∧ fieldOf (t.hubNat (cmnOff n 0x18)) 16 8 = temp ∧ t.mem = s.mem) ∧
      (peak ≤ 110 → s.siteBudget n * 100 < mean → ∃ t : State, exec (.commonsPowerCheck n mean peak temp) s = .next t ∧
        t.tx = s.tx ++ [.mgmt n 8 [s.siteBudget n]] ∧ t.mem = s.mem)) ∧
    (∀ f : ChipFault, (2 < f.cls → exec (.fault n f) s = .next (s.fenceSite n)) ∧
      (f.cls ≤ 2 → ∃ u : State, u.hubNat (cmnOff n 0x38) = min 0xFFFFFFFF (s.hubNat (cmnOff n 0x38) + 1) ∧ u.sdg = s.sdg ∧ u.mem = s.mem ∧
        (f.cls = 0 → exec (.fault n f) s = .next (u.chipReport n .ce f.addr)) ∧
        (f.cls = 2 → exec (.fault n f) s = .next (u.fenceSite n)) ∧
        (f.cls = 1 → f.record = 0 → exec (.fault n f) s = .next (u.chipReport n .uc f.addr)))) ∧
    ((s.site n).keyed = true → (s.site n).kx = 0 →
      ((s.site n).sentData < 2 ^ 32 → (s.site n).recvData < 2 ^ 32 → exec (.windowRekey n) s = .next s) ∧
      (2 ^ 32 ≤ (s.site n).sentData ∨ 2 ^ 32 ≤ (s.site n).recvData → ∃ t : State, exec (.windowRekey n) s = .next t ∧
        t.site n = { s.site n with kx := 1, keyGen := ((s.site n).keyGen + 1) % 256 } ∧ t.hub = s.hub ∧ t.tx = s.tx ∧ t.mem = s.mem))) ∧
  (∀ (s : State) (n : Nat), s.up = true → isCommonsSite n = true →
    ((s.site n).kx = 1 → ∃ t : State, exec (.hubShare n) s = .next t ∧ (t.site n).kx = 2 ∧ (t.site n).kxSecret = s.free ∧ t.draws = s.draws + 1 ∧
      t.tx = s.tx ++ [.mgmt n 9 [1, (s.site n).keyGen, (s.siteOwner n).getD 0, compressed (Config.ecPublic s.free)]] ∧ t.mem = s.mem) ∧
    (∀ share, (s.site n).kx = 2 → ∃ t : State, exec (.chipShare n share) s = .next t ∧ (t.site n).kx = 3 ∧ (t.site n).kxSecret = 0 ∧
      (t.site n).kxShares = (s.site n).kxShares ++ beBytes 49 share ∧ (t.site n).mgmt = none ∧ t.tx = s.tx ∧ t.mem = s.mem) ∧
    ((s.site n).kx = 3 → ∃ t : State, exec (.hubConfirm n) s = .next t ∧ (t.site n).kx = 4 ∧ t.tx = s.tx ++ [.mgmt n 9 [3, (s.site n).keyGen,
      (s.siteOwner n).getD 0, confirmOf (s.site n) [0x68#8, 0x75#8, 0x62#8]]] ∧ t.mem = s.mem) ∧
    (∀ tag, (s.site n).kx = 4 →
      (tag ≠ confirmOf (s.site n) [0x63#8, 0x68#8, 0x69#8, 0x70#8] → exec (.chipConfirm n tag) s = .next (s.fenceSite n)) ∧
      (tag = confirmOf (s.site n) [0x63#8, 0x68#8, 0x69#8, 0x70#8] → ∃ u : State, (u.site n).keyed = true ∧ (u.site n).kx = 0 ∧
        (u.site n).sentData = 0 ∧ (u.site n).recvData = 0 ∧ u.hub = s.hub ∧ u.mem = s.mem ∧
        ((s.site n).step = 6 → exec (.chipConfirm n tag) s = .next (u.bringUp n)) ∧
        ((s.site n).step ≠ 6 → exec (.chipConfirm n tag) s = .next (u.pumpDma n)))) ∧
    (∀ code a, (s.site n).mgmt = some (code, a) → exec (.mgmtRetry n) s = .next { s with tx := s.tx ++ [.mgmt n code a] }) ∧
    ((s.site n).mgmt = none → exec (.mgmtRetry n) s = .next s) ∧
    (∀ step, s.cmnSt n = cmnTraining → step ≠ 0 → (s.site n).step ≤ step →
      (s.time < (s.site n).upAt + stepBound step → exec (.bringupStepTimeout n step) s = .next s) ∧
      ((s.site n).step ≠ 1 → (s.site n).upAt + stepBound step ≤ s.time → exec (.bringupStepTimeout n step) s = .next (s.fenceSite n))))

/-- R506, R511 to R525, R552 and R553. -/
def Obligations.CommonsWindow : Prop :=
  (∀ (s : State) (n seq kind ack : Nat), s.siteLive n = true →
    exec (.lspFlit n seq false kind ack) s = .next { s with tx := s.tx ++ [.lspNak n (s.site n).rxSeq] } ∧
    (kind = 0 ∨ 3 < kind → exec (.lspFlit n seq true kind ack) s = .next (s.fenceSite n)) ∧
    (kind = 1 → seq % 65536 = (s.site n).rxSeq → ∃ t : State, exec (.lspFlit n seq true kind ack) s = .next t ∧
      (t.site n).rxSeq = ((s.site n).rxSeq + 1) % 65536 ∧ t.tx = s.tx ∧ t.hub = s.hub ∧ t.mem = s.mem ∧
      ((∀ r ∈ (s.site n).replay, r.1 ≠ ack % 65536) → (t.site n).replay = (s.site n).replay) ∧
      (∀ old m new, (s.site n).replay = old ++ (ack % 65536, m) :: new → (∀ r ∈ old, r.1 ≠ ack % 65536) → (t.site n).replay = new)) ∧
    exec (.lspNak n seq) s = .next { s with tx := s.tx ++
      ((s.site n).replay.dropWhile (fun r => r.1 ≠ seq % 65536)).map (fun r => .lsp n r.2) }) ∧
  (∀ (s : State) (t : Thr) (g : Grp) (load part lane lpa size n off : Nat), s.up = true → s.grp t.gid = some g → g.live = true →
    g.partOf t.idx load part = some ⟨lane, .commons lpa, size, none⟩ → n = s.servedBy (16 + (lpa - commonsBase) / 2 ^ 40) →
    off = (lpa - commonsBase) % 2 ^ 40 → (∀ r ∈ (s.site n).reqs, r.2.gid ≠ t.gid) →
    (s.owns g.fn lpa = .fenced → exec (.winRead t load part) s = .next (s.datapathError t.gid false)) ∧
    (s.owns g.fn lpa = .ok → s.keyHeld n = false → (s.site n).endsFirst t.gid = false → s.lspRoom n = true → (s.site n).reqs.length < 4096 →
      ∃ (u : State) (tag : Nat) (q : WinReq), exec (.winRead t load part) s = .next u ∧ (u.site n).reqs.find tag = some q ∧
        q.gid = t.gid ∧ q.thread = t.idx ∧ q.load = load ∧ q.part = part ∧ q.write = false ∧ q.line + q.off = off ∧ q.len = size ∧
        q.sent = true ∧ q.sentAt = s.time ∧ q.answered = false ∧ q.dead = false ∧
        u.tx = s.tx ++ [.lsp n (lspMsg lWinRead tag off size 0 (s.winRecord t.gid) 0)] ∧ u.mem = s.mem ∧ u.groups = s.groups)) ∧
  (∀ (s : State) (n tag : Nat) (q : WinReq), s.siteLive n = true → (s.site n).reqs.find tag = some q →
    (q.write = true → q.sent = false → q.dead = false → s.keyHeld n = false → (s.site n).endsFirst q.gid = false → s.lspRoom n = true → ∃ t : State,
      exec (.winWrite n tag) s = .next t ∧ (t.site n).reqs.find tag = some { q with sent := true, sentAt := s.time } ∧
      t.tx.length = s.tx.length + 2 ∧ t.mem = s.mem ∧ t.groups = s.groups) ∧
    (q.write = false ∨ q.sent = true → exec (.winWrite n tag) s = .next s) ∧
    (q.sent = true → q.answered = false → (s.time < q.sentAt + min (4 * s.hubNat (cmnOff n 0x1C)) 20000 →
        exec (.windowTimeout n tag) s = .next s) ∧
      (q.sentAt + min (4 * s.hubNat (cmnOff n 0x1C)) 20000 ≤ s.time → (s.site n).timeouts = [] → ∃ u : State, exec (.windowTimeout n tag) s = .next
          (let v := if q.dead then u else u.datapathError q.gid true
           if threeIn v.time (v.site n).timeouts then v.fenceSite n else v) ∧
        (u.site n).reqs.find tag = none ∧ (u.site n).timeouts = [s.time] ∧ u.mem = s.mem ∧
        u.hubNat (cmnOff n 0x30) = min 0xFFFFFFFF (s.hubNat (cmnOff n 0x30) + 1)))) ∧
  (∀ (s : State) (n : Nat) (m : LspMsg) (q : WinReq), s.siteLive n = true → lspBad m = false → s.role n roleWindow = true →
    (s.site n).reqs.find m.tag = some q → q.sent = true → q.answered = false → ∃ u : State, (u.site n).reqs.find m.tag = none ∧ u.hub = s.hub ∧
      u.mem = s.mem ∧ u.groups = s.groups ∧ (q.dead = true → exec (.lspDone n m) s = .next u) ∧
      (q.dead = false → lspCheck m ≠ checkFail → lspSt m ≠ statusOk → exec (.lspDone n m) s = .next (u.winStatus n q (lspSt m))) ∧
      (q.dead = false → lspCheck m ≠ checkFail → lspSt m = statusOk → q.write = true → exec (.lspDone n m) s = .next u) ∧
      (q.dead = false → lspCheck m = 1 → lspSt m = statusOk → q.write = false → ∃ t : State, exec (.lspDone n m) s = .next t ∧
        (t.site n).reqs.find m.tag = some { q with answered := true } ∧ t.tx = s.tx ∧ t.mem = s.mem)) ∧
  (∀ (s : State) (n : Nat) (m : LspMsg), s.siteLive n = true → lspBad m = true → exec (.lspDone n m) s = .next (s.fenceSite n) ∧
    exec (.dmaRead n m) s = .next (s.fenceSite n) ∧ exec (.dmaWrite n m) s = .next (s.fenceSite n) ∧
    exec (.cohReq n m) s = .next (s.fenceSite n) ∧ exec (.lspAck n m) s = .next (s.fenceSite n) ∧
    exec (.snpAck n m) s = .next (s.fenceSite n) ∧ (∀ cs a, exec (.lspData n m cs a) s = .next (s.fenceSite n))) ∧
  (∀ (s : State) (n record : Nat) (e : WinEnd), s.siteLive n = true → (s.site n).endsPending = [e] → e.record = record →
    s.endDue e = true → s.lspRoom n = true → (s.site n).reqs = [] → ∃ (t : State) (tag : Nat), exec (.recordEnd n record) s = .next t ∧
      (t.site n).endsPending = [] ∧ t.tx = s.tx ++ [.lsp n (lspMsg lRecordEnd tag 0 0 0 record e.sub)] ∧ t.mem = s.mem) ∧
  (∀ (s : State) (n : Nat) (m : LspMsg), s.siteLive n = true → ∃ u : State, u.hubNat (cmnOff n 0x2C) = min 0xFFFFFFFF (s.hubNat (cmnOff n 0x2C) + 1) ∧
    u.sites = s.sites ∧ u.mem = s.mem ∧ u.tx = s.tx ∧
    (s.dmaBad n m false = false → s.keyHeld n = false → exec (.dmaRead n m) s = .next (u.dmaServe n m)) ∧
    (s.dmaBad n m false = false → s.keyHeld n = true → ∃ t : State, exec (.dmaRead n m) s = .next t ∧
      (t.site n).dma = (s.site n).dma ++ [⟨m, false, 0, []⟩] ∧ t.tx = s.tx ∧ t.mem = s.mem) ∧
    (s.dmaBad n m true = false → ∃ t : State, exec (.dmaWrite n m) s = .next t ∧
      (t.site n).dma = (s.site n).dma ++ [⟨m, true, (m.len + 63) / 64, []⟩] ∧ t.tx = s.tx ∧ t.mem = s.mem)) ∧
  (∀ (s : State) (n : Nat) (m : LspMsg), s.siteLive n = true → lspBad m = false → m.sub ≤ 3 → s.role n roleCoherent = true →
    (s.agentActive (n + 4) = true → s.inWindow m.addr = true →
      exec (.cohReq n m) s = .next (s.cohStart (n + 4) m.tag (lineOf m.addr) (kindOfSub m.sub))) ∧
    (s.agentActive (n + 4) = false ∨ s.inWindow m.addr = false → exec (.cohReq n m) s = .next
      ((s.cohDeny (s.physId kCommons n) 0 m.addr).sendLsp n (lspMsg lDone m.tag 0 0 statusDenied 0 m.sub))) ∧
    (∃ u : State, exec (.snpAck n m) s = .next (u.tryGrant (lineOf m.addr)) ∧ u.mem = s.mem ∧ u.hub = s.hub ∧
      ∀ x, (s.line (lineOf m.addr)).lock = some x → ∃ y, (u.line (lineOf m.addr)).lock = some y ∧ y.awaiting = x.awaiting.erase (n + 4))) ∧
  (∀ (s : State) (n l : Nat) (x : CohTxn), s.siteLive n = true → (s.line l).lock = some x →
    (n + 4 ∈ x.awaiting → s.lspRoom n = true →
      (x.pushed = true → x.pushOwner = n + 4 → (n + 4) * 2 ∉ x.told → ∃ t : State, exec (.snpPush n l) s = .next t ∧
        (t.line l).lock = some { x with told := (n + 4) * 2 :: x.told } ∧ t.tx = s.tx ++ [.lsp n (lspMsg lSnpPush x.tag (l * 64) 64 0 0 0)] ∧
        t.mem = s.mem) ∧
      (∀ b, (n + 4) * 2 + 1 ∉ x.told → (s.line l).holder (n + 4) = (if b then .s else .i) → ∃ t : State, exec (.snpInv n l b) s = .next t ∧
        (t.line l).lock = some { x with told := ((n + 4) * 2 + 1) :: x.told } ∧
        t.tx = s.tx ++ [.lsp n (lspMsg lSnpInv x.tag (l * 64) 64 0 0 (boolN b))] ∧ t.mem = s.mem)) ∧
    (n + 4 ∈ x.awaiting → x.startedAt + 4000 ≤ s.time → exec (.snpAckTimeout n l) s = .next (s.fenceSite n)) ∧
    (n + 4 ∉ x.awaiting ∨ s.time < x.startedAt + 4000 → exec (.snpAckTimeout n l) s = .next s)) ∧
  (∀ (s : State) (n tag l : Nat) (x : CohTxn), s.siteLive n = true →
    (s.lspRoom n = true → s.txnOf (n + 4) tag (fun t => t.kind == .writeback && t.goSent && !t.launched) = some (l, x) → ∃ t : State,
      exec (.lspGo n tag) s = .next t ∧ t.tx = s.tx ++ [.lsp n (lspMsg lGo tag (l * 64) 64 0 0 3)] ∧ t.mem = s.mem) ∧
    (∀ m : LspMsg, lspBad m = false → m.tag = tag → x.kind ≠ .writeback →
      s.txnOf (n + 4) tag (fun t => t.granted || (t.kind == .writeback && t.launched)) = some (l, x) → ∃ u : State,
        exec (.lspAck n m) s = .next (u.txnDone l x) ∧ (u.line l).holder x.agent = txnGrant x ∧ u.mem = s.mem)) ∧
  (∀ (s : State) (n : Nat) (m : LspMsg) (cs : List (Nat × Byte)) (a : Nat), s.siteLive n = true → lspBad m = false →
    ((s.site n).keyed = true → a ≠ lspTag (s.site n).keyUp (s.site n).recvData (lspHeader lData m.tag m.status m.sub m.addr m.record m.len)
        (lineOfCells cs) → ∃ u : State, exec (.lspData n m cs a) s = .next (u.tagFail n m.tag (s.dataFor n m.tag)) ∧
      (u.site n).recvData = (s.site n).recvData + 1 ∧ u.mem = s.mem) ∧
    ((s.site n).keyed = false → ∃ u : State, (u.site n).recvData = (s.site n).recvData ∧ u.hub = s.hub ∧ u.mem = s.mem ∧ u.tx = s.tx ∧
      (∀ q, s.dataFor n m.tag = .win q → lspSt m ≠ statusPoison → exec (.lspData n m cs a) s = .next (u.winData n m.tag q (lineOfCells cs))) ∧
      (∀ l, s.dataFor n m.tag = .push l → exec (.lspData n m cs a) s =
        .next (u.pushData l (lineOfCells cs) (lspSt m = statusPoison))) ∧
      (s.dataFor n m.tag = .nothing → exec (.lspData n m cs a) s = .next u)))
/-! ### Rails, heat, clocks and live calibration -/

/-- R643, R644, R646, R650 to R655, R658 to R663 and R704. -/
def Obligations.PowerAndCalibration : Prop :=
  (∀ (s : State) (meanW v : Nat), s.up = true → ∃ t : State, exec (.powerControlPeriod meanW v) s = .next t ∧
    (∀ r, r < 17 → t.pow.target.get 0 r = t.railTarget r ∧ t.railTarget r ≤ railMax r) ∧ t.pow.thermMoved = [] ∧
    t.hubNat PWR_CAP_STATE = t.capStep ∧ t.pow.heater = s.pow.heater ∧ t.pow.floor = s.pow.floor ∧ t.mem = s.mem ∧
    t.pow.calmPeriods = (if meanW * 100 < s.cap * 97 then s.pow.calmPeriods + 1 else 0) ∧ fieldOf (t.hubNat PWR_INPUT) 0 16 = v % 65536 ∧
    (9 ≤ s.pow.msPeriods → fieldOf (t.hubNat PWR_INPUT) 16 16 = (s.pow.msSum + meanW) / 10 % 65536) ∧
    (9 ≤ s.pow.msPeriods → s.cap * 10 < s.pow.msSum + meanW → s.pow.halved = true →
      t.hubNat PWR_CAP_WINDOWS = min 0xFFFFFFFF (s.hubNat PWR_CAP_WINDOWS + 1)) ∧
    (s.cap < meanW → s.tilesAtFloor = false → (∀ r, r < 16 → t.capLimit r = stepDown r (s.capLimit r)) ∧ t.pow.sitePct = s.pow.sitePct ∧
      t.pow.halved = s.pow.halved ∧ t.capLimit hubRailNo = s.capLimit hubRailNo ∧ t.tx = s.tx) ∧
    (s.cap < meanW → s.tilesAtFloor = true → s.hubAtFloor = false → t.capLimit hubRailNo = stepDown hubRailNo (s.capLimit hubRailNo) ∧
      (∀ r, r < 16 → t.capLimit r = s.capLimit r) ∧ t.pow.sitePct = s.pow.sitePct ∧ t.pow.halved = s.pow.halved ∧ t.tx = s.tx) ∧
    (s.cap < meanW → s.tilesAtFloor = true → s.hubAtFloor = true → s.activeSites ≠ [] → 20 < s.pow.sitePct → s.pow.sitePct ≤ 100 →
      t.pow.sitePct = s.pow.sitePct - 5 ∧ t.pow.capLimit = s.pow.capLimit ∧ t.pow.halved = s.pow.halved ∧
      t.tx = s.tx ++ s.activeSites.map (fun n => .mgmt n 8 [s.siteBudget n * (s.pow.sitePct - 5) / 100])) ∧
    (s.cap < meanW → s.tilesAtFloor = true → s.hubAtFloor = true → s.activeSites = [] ∨ s.pow.sitePct ≤ 20 →
      t.pow.halved = true ∧ t.pow.capLimit = s.pow.capLimit ∧ t.pow.sitePct = s.pow.sitePct ∧ t.tx = s.tx) ∧
    (meanW ≤ s.cap → s.cap * 97 ≤ meanW * 100 ∨ s.pow.calmPeriods < 9 → t.pow.capLimit = s.pow.capLimit ∧ t.pow.sitePct = s.pow.sitePct ∧
      t.pow.halved = s.pow.halved ∧ t.tx = s.tx) ∧
    (meanW * 100 < s.cap * 97 → 9 ≤ s.pow.calmPeriods →
      (s.pow.halved = true → t.pow.halved = false ∧ t.pow.capLimit = s.pow.capLimit ∧ t.pow.sitePct = s.pow.sitePct) ∧
      (s.pow.halved = false → s.pow.sitePct < 100 → t.pow.sitePct = min 100 (s.pow.sitePct + 5) ∧ t.pow.capLimit = s.pow.capLimit) ∧
      (s.pow.halved = false → 100 ≤ s.pow.sitePct → s.capLimit hubRailNo < s.setpoint hubRailNo →
        t.capLimit hubRailNo = stepUp (s.setpoint hubRailNo) (s.capLimit hubRailNo) ∧ ∀ r, r < 16 → t.capLimit r = s.capLimit r) ∧
      (s.pow.halved = false → 100 ≤ s.pow.sitePct → s.setpoint hubRailNo ≤ s.capLimit hubRailNo →
        (∃ r, r < 16 ∧ s.capLimit r < s.setpoint r) → ∀ r, r < 16 → t.capLimit r = stepUp (s.setpoint r) (s.capLimit r)))) ∧
  (∀ (s : State) (r : Nat), s.up = true → r ≤ 16 →
    (s.railFloor r < railMax r → ∃ t : State, exec (.canaryWindow r) s = .next t ∧ t.railFloor r = min (railMax r) (s.railFloor r + 50) ∧
      t.pow.target.get 0 r = t.railTarget r ∧ t.pow.quietAt.find r = some s.time ∧ t.pow.late = s.pow.late ∧ t.tx = s.tx ∧ t.mem = s.mem ∧
      t.hubNat CAL_CANARY_LATE = min 0xFFFFFFFF (s.hubNat CAL_CANARY_LATE + 1)) ∧
    (railMax r ≤ s.railFloor r → s.pow.late.find r = none → ∃ u : State, exec (.canaryWindow r) s =
        .next (u.takeReport (hubReport cCalMargin .ce 0x11 (s.railPhys r) 0)) ∧ u.pow.late.find r = some s.time ∧ u.mem = s.mem ∧
      u.railFloor r = railMax r ∧ u.hubNat CAL_CANARY_LATE = min 0xFFFFFFFF (s.hubNat CAL_CANARY_LATE + 1)) ∧
    (s.pow.quietAt.get s.boot.startAt r + 10000000 ≤ s.time → ∃ t : State, exec (.marginRelax r) s = .next t ∧
      t.railFloor r = max (railMin r) (s.railFloor r - 25) ∧ t.pow.target.get 0 r = t.railTarget r ∧ t.pow.late.find r = none ∧
      t.tx = s.tx ∧ t.mem = s.mem) ∧
    (s.time < s.pow.quietAt.get s.boot.startAt r + 10000000 → exec (.marginRelax r) s = .next s)) ∧
  (∀ (s : State) (t0 : Nat), s.up = true → t0 + s.holdNs ≤ s.time →
    (∀ n, n < 16 → s.pow.late.find n = some t0 → ∃ u : State, exec (.calMarginEscalate (.tile n)) s = .next (u.marginUc kTile n (s.physId kTile n)) ∧
      u.pow.late.find n = none ∧ u.hub = s.hub ∧ u.mem = s.mem) ∧
    (s.pow.late.find hubRailNo = some t0 → ∃ u : State, u.pow.late.find hubRailNo = none ∧ u.hub = s.hub ∧ u.mem = s.mem ∧
      exec (.calMarginEscalate (.hubRail none)) s = .next (u.report (hubReport cHubRail .ft 0x0F hubRailNo 0)) ∧
      ∀ k n, (k = kSlice ∨ k = kDrover ∨ k = kHalf →
          exec (.calMarginEscalate (.hubRail (some (k, n)))) s = .next (u.marginUc k n (s.physId k n))) ∧
        (k ≠ kSlice → k ≠ kDrover → k ≠ kHalf →
          exec (.calMarginEscalate (.hubRail (some (k, n)))) s = .next (u.report (hubReport cHubRail .ft 0x0F hubRailNo 0)))) ∧
    (∀ k i, k < 24 → i < 64 → s.vacant kStack k = false → s.pow.belowPcs.find (k * 64 + i) = some t0 → ∃ u : State,
      exec (.calMarginEscalate (.stack k)) s = .next (u.marginUc kStack k (s.physId kStack k)) ∧
      u.hubNat (CAL_HBM_STACK + 4 * k) % 4 = 2 ∧ u.pow.belowPcs.find (k * 64 + i) = none ∧ u.mem = s.mem) ∧
    (∀ p l, p < 16 → l < 16 → s.pow.belowLanes.find (p * 16 + l) = some t0 → ∃ u : State,
      exec (.calMarginEscalate (.lane p l)) s = .next (u.marginUc kLane (p * 16 + l) ((s.lanePhys p l).getD 0)) ∧
      u.pow.belowLanes.find (p * 16 + l) = none ∧ u.hub = s.hub ∧ u.mem = s.mem)) ∧
  (∀ (s : State) (n : Nat), s.pow.late.find n = none ∨ (∃ t0, s.pow.late.find n = some t0 ∧ s.time < t0 + s.holdNs) →
    exec (.calMarginEscalate (.tile n)) s = .next s) ∧
  (∀ (s : State) (temp : Nat), s.up = true → s.pow.thermMoved = [] →
    (temp < 100 → ∃ t : State, exec (.thermalSample [] temp) s = .next t ∧ fieldOf (t.hubNat PWR_HUB_RAIL) 24 8 = temp ∧ hubRailNo ∉ t.pow.hot ∧
      t.pow.thermMoved = [hubRailNo] ∧ t.tx = s.tx ∧ t.mem = s.mem ∧
      (s.hubNat PWR_THERM_TARGET % 128 < temp → t.thermLimit hubRailNo = stepDown hubRailNo (s.thermLimit hubRailNo)) ∧
      (temp ≤ s.hubNat PWR_THERM_TARGET % 128 → s.hubNat PWR_THERM_TARGET % 128 < temp + 3 →
        t.thermLimit hubRailNo = s.thermLimit hubRailNo) ∧
      (temp + 3 ≤ s.hubNat PWR_THERM_TARGET % 128 →
        t.thermLimit hubRailNo = stepUp (s.setpoint hubRailNo) (s.thermLimit hubRailNo))) ∧
    (100 ≤ temp → temp ≤ 110 → hubRailNo ∉ s.pow.hot → s.pow.target.get (s.setpoint hubRailNo) hubRailNo ≤ s.railFloor hubRailNo → ∃ u : State,
      exec (.thermalSample [] temp) s = .next (u.thermalEvent.monitor (monSensor hubRailNo) false) ∧ u.pow.hot = hubRailNo :: s.pow.hot ∧
      u.mem = s.mem ∧ u.tx = s.tx) ∧
    (110 < temp → hubRailNo ∈ s.pow.hot → ∃ u : State, exec (.thermalSample [] temp) s = .next (u.thermalTrip hubRailNo) ∧ u.mem = s.mem ∧
      monSensor hubRailNo ∈ u.sdg.monitors) ∧
    (∀ a, a < 100 → temp < 100 → ∃ t : State, exec (.thermalSample [a] temp) s = .next t ∧ fieldOf (t.hubNat PWR_TILE) 24 8 = a ∧
      fieldOf (t.hubNat PWR_HUB_RAIL) 24 8 = temp ∧ t.tx = s.tx ∧ t.mem = s.mem ∧
      (s.hubNat PWR_THERM_TARGET % 128 < a → t.thermLimit 0 = stepDown 0 (s.thermLimit 0)))) ∧
  (∀ (s : State) (a b : Nat), s.up = true →
    (∀ n, n < 16 → (6800 ≤ a ∧ a ≤ 9300) ∨ (6800 ≤ b ∧ b ≤ 9300) → ∃ t : State, exec (.railMonitorSample (.tile n) a b) s = .next t ∧
      fieldOf (t.hubNat (railReg n)) 0 10 = b / 10 % 1024 ∧ t.tx = s.tx ∧ t.sdg = s.sdg ∧ t.mem = s.mem) ∧
    (∀ n, n < 16 → a < 6800 ∨ 9300 < a → b < 6800 ∨ 9300 < b → ∃ u : State, exec (.railMonitorSample (.tile n) a b) s =
        .next (u.takeReport { hubReport cTileRail .uc 0x0F (s.physId kTile n) 0 with kind := kTile, unit := n }) ∧
      fieldOf (u.hubNat (railReg n)) 0 10 = b / 10 % 1024 ∧ u.mem = s.mem) ∧
    (a < 6600 ∨ 8800 < a → b < 6600 ∨ 8800 < b → ∃ u : State, exec (.railMonitorSample .hubCore a b) s =
        .next (u.report (hubReport cHubRail .ft 0x0F hubRailNo 0)) ∧ hubRailNo ∈ u.sdg.monitors ∧ u.mem = s.mem) ∧
    (6600 ≤ b → b ≤ 8800 → ∃ t : State, exec (.railMonitorSample .hubCore a b) s = .next t ∧ hubRailNo ∉ t.sdg.monitors ∧ t.tx = s.tx ∧ t.mem = s.mem) ∧
    (∀ n, isCommonsSite n = true → exec (.railMonitorSample (.commons n) a b) s =
      .next (if s.railOutside (.commons n) a && s.railOutside (.commons n) b then s.fenceSite n else s)) ∧
    (∀ rail, rail = .phy ∨ (∃ k r, rail = .hbm k r true) ∨ (∃ g, rail = .optics g) ∨ (∃ g, rail = .heater g) →
      s.railOutside rail a = true → s.railOutside rail b = true → ∃ u : State, exec (.railMonitorSample rail a b) s =
        .next (u.report (hubReport cHubRail .ft 0x0F (railNo rail) 0)) ∧ railNo rail ∈ u.sdg.monitors ∧ u.mem = s.mem) ∧
    (s.railOutside .phy a = true ↔ a * 100 < 712500 ∨ 787500 < a * 100) ∧
    (∀ g, s.railOutside (.optics g) a = true ↔ a * 100 < 855000 ∨ 945000 < a * 100) ∧
    (∀ g, s.railOutside (.heater g) a = true ↔ a * 100 < 1710000 ∨ 1890000 < a * 100)) ∧
  (∀ (s : State) (n : Nat), s.up = true → n ≤ 33 → ∃ u : State, exec (.pllLockLoss n) s = .next (u.report (hubReport cHubRail .ft 0x10 n 0)) ∧
    monClock n ∈ u.sdg.monitors ∧ u.mem = s.mem ∧ (n = 33 → u.hubNat CLK_LOCK_HBM = 0 ∧ u.hubNat CLK_LOCK_OTHER = 0) ∧
    (n < 24 → bitOf (u.hubNat CLK_LOCK_HBM) n = false) ∧ (24 ≤ n → n < 33 → bitOf (u.hubNat CLK_LOCK_OTHER) (n - 24) = false)) ∧
  (∀ (s : State) (temp : Nat), s.up = true → (temp ≤ 120 → exec (.thermalShutdown temp) s = .next s) ∧
    (120 < temp → ∃ t : State, exec (.thermalShutdown temp) s = .next t ∧ t.up = false)) ∧
  (∀ (s : State) (st pc k : Nat) (up : Bool) (re we bytes : Nat), s.up = true → st < 24 → pc < 64 → k < 3 → s.vacant kStack st = false →
    st ∈ s.boot.machines →
    (192 < s.burstUsed (st * 64 + pc) + bytes → exec (.hbmCentringStep st pc k up re we bytes) s = .next s) ∧
    (∀ t0, s.pow.stepAt.find (st * 64 + pc) = some t0 → s.time < t0 + 10000000 →
      exec (.hbmCentringStep st pc k up re we bytes) s = .next s) ∧
    (s.burstUsed (st * 64 + pc) + bytes ≤ 192 → (∀ t0, s.pow.stepAt.find (st * 64 + pc) = some t0 → t0 + 10000000 ≤ s.time) → ∃ u : State,
      u.pow.settings.get 0 ((st * 64 + pc) * 3 + k) = s.pow.settings.get 0 ((st * 64 + pc) * 3 + k) + (if up then 1 else -1) ∧
      (∀ j, j ≠ (st * 64 + pc) * 3 + k → u.pow.settings.get 0 j = s.pow.settings.get 0 j) ∧
      u.pow.eyes.find (st * 64 + pc) = some (re, we) ∧ u.pow.stepAt.find (st * 64 + pc) = some s.time ∧
      u.burstUsed (st * 64 + pc) = s.burstUsed (st * 64 + pc) + bytes ∧ u.mem = s.mem ∧ u.tx = s.tx ∧
      ((u.pow.belowPcs.find (st * 64 + pc)).isSome = true ↔ min re we < s.hubNat CAL_LIMITS % 256) ∧
      (s.hubNat CAL_LIMITS % 256 ≤ min re we ∨ s.pow.belowPcs.find (st * 64 + pc) ≠ none →
        exec (.hbmCentringStep st pc k up re we bytes) s = .next u) ∧
      (min re we < s.hubNat CAL_LIMITS % 256 → s.pow.belowPcs.find (st * 64 + pc) = none →
        exec (.hbmCentringStep st pc k up re we bytes) s =
          .next (u.takeReport (hubReport cCalMargin .ce 0x11 (s.physId kStack st) 0))))) ∧
  (∀ (s : State) (p : Nat) (below : List Nat) (d : Nat), s.up = true → p < 16 →
    (s.unusedPort p = true ∨ s.portState p = psExcluded → exec (.ringTracking p below d) s = .next s) ∧
    (s.unusedPort p = false → s.portState p ≠ psExcluded → (s.port p).lanes.length ≤ 16 → ∃ u : State, fieldOf (u.hubNat (CAL_PORT + 4 * p)) 8 8 = min d 255 ∧
      u.draws = s.draws + (s.port p).lanes.length ∧ u.tx = s.tx ∧ u.mem = s.mem ∧ (∀ l, l ∈ (s.port p).lanes →
        u.pow.heater.get 0 (p * 16 + l) ≤ 2000 ∧ ((u.pow.belowLanes.find (p * 16 + l)).isSome = true ↔ l ∈ below)) ∧
      ((∀ l, l ∈ (s.port p).lanes → l ∈ below → s.pow.belowLanes.find (p * 16 + l) ≠ none) → exec (.ringTracking p below d) s = .next u) ∧
      (∀ l, (s.port p).lanes = [l] → l ∈ below → s.pow.belowLanes.find (p * 16 + l) = none → exec (.ringTracking p below d) s =
        .next (u.takeReport (hubReport cCalMargin .ce 0x11 ((s.lanePhys p l).getD 0) 0))))) ∧
  (∀ s : State, s.up = false → (∀ a b, exec (.powerControlPeriod a b) s = .next s) ∧ (∀ r, exec (.canaryWindow r) s = .next s) ∧
    (∀ r, exec (.marginRelax r) s = .next s) ∧ (∀ u, exec (.calMarginEscalate u) s = .next s) ∧
    (∀ a b, exec (.thermalSample a b) s = .next s) ∧ (∀ r a b, exec (.railMonitorSample r a b) s = .next s) ∧
    (∀ n, exec (.pllLockLoss n) s = .next s) ∧ (∀ n, exec (.thermalShutdown n) s = .next s) ∧
    (∀ a b c d e f g, exec (.hbmCentringStep a b c d e f g) s = .next s) ∧ ∀ a b c, exec (.ringTracking a b c) s = .next s)
/-! ### Observation -/

/-- R667, R668, R675 to R677, R681 to R683. -/
def Obligations.Observation : Prop :=
  (∀ w : W64, (tlyReset w).toNat % 2 ^ 48 = 0 ∧ (tlyReset w).toNat / 2 ^ 48 = (w.toNat / 2 ^ 48 + 1) % 2 ^ 16) ∧
  (∀ s : State, s.up = true → ∃ t : State, exec .tlyReset s = .next t ∧ t.fns = s.fns ∧ t.tx = s.tx ∧ t.mem = s.mem ∧
    (∀ e, e < 32 → t.hubGet (TLY_COUNT + 8 * e) = tlyReset (s.hubGet (TLY_COUNT + 8 * e))) ∧
    ∀ off, off < TLY_COUNT ∨ TLY_COUNT + 256 ≤ off → t.hubGet off = s.hubGet off) ∧
  (∀ (s : State) (n : Nat), s.up = true → n < 32 → ∃ t : State, exec (.tlyFnReset n) s = .next t ∧ t.hub = s.hub ∧ t.tx = s.tx ∧ t.mem = s.mem ∧
    (∀ e, e < 32 → (t.fn n).get (TLY_FN_COUNT + 8 * e) = tlyReset ((s.fn n).get (TLY_FN_COUNT + 8 * e))) ∧
    (∀ off, off < TLY_FN_COUNT ∨ TLY_FN_COUNT + 256 ≤ off → (t.fn n).get off = (s.fn n).get off) ∧ ∀ m, m ≠ n → t.fn m = s.fn m) ∧
  (∀ s : State, s.up = true → (bitOf (s.hubNat TLY_FAB_SNAP) 0 = true → exec .fabSnapTake s = .next s) ∧
    (bitOf (s.hubNat TLY_FAB_SNAP) 0 = false → s.hub.Pairwise (fun a b => a.1 < b.1) → ∃ t : State, exec .fabSnapTake s = .next t ∧
      (∀ i, i < 0x80 * 75 → t.hubGet (TLY_FAB_SNAPSHOT + i) = s.hubGet (TLY_FAB + i) ∧ t.hubGet (TLY_FAB + i) = s.hubGet (TLY_FAB + i)) ∧
      t.hubNat TLY_FAB_SNAP_GEN = (s.hubNat TLY_FAB_SNAP_GEN + 1) % 65536 ∧ t.hubGet TLY_FAB_SNAP_TIME = BitVec.ofNat 64 s.time ∧
      t.hubNat TLY_FAB_SNAP = 1 ∧ t.fns = s.fns ∧ t.tx = s.tx ∧ t.mem = s.mem) ∧
    ∃ t : State, exec .fabSnapDone s = .next t ∧ t.hubNat TLY_FAB_SNAP = 0 ∧ (∀ off, off ≠ TLY_FAB_SNAP → t.hubGet off = s.hubGet off) ∧
      t.fns = s.fns ∧ t.tx = s.tx ∧ t.mem = s.mem) ∧
  (∀ (s : State) (f : SeenFlit), s.up = true → ((∀ k, k < 8 → s.probeSees k f = false) → exec (.probeMatch f) s = .next s) ∧
    (∀ k b c, k < 8 → s.probeSees k f = true → (∀ j, j < 8 → j ≠ k → s.probeSees j f = false) → c = (s.probeReg k 0).toNat → b = fieldOf c 26 2 →
      (s.hidden f = true → f.plane = 0 ∨ bitOf c 30 = false → exec (.probeMatch f) s = .next s) ∧
      (s.hidden f = false → bitOf c 28 = true → bitOf c 29 = false → bitOf c 30 = false → ∃ t : State, exec (.probeMatch f) s = .next t ∧
        t.hubNat (TRC_PROBE_COUNT + 0x40 * k) = min 0xFFFFFFFFFFFFFFFF (s.hubNat (TRC_PROBE_COUNT + 0x40 * k) + 1) ∧ t.obs = s.obs ∧
        t.tx = s.tx ∧ t.mem = s.mem) ∧
      (s.hidden f = false → bitOf c 28 = false → bitOf c 29 = true → bitOf c 30 = false → s.trcExists b = true →
        (s.obs.probeBeat.find k = none → ∃ t : State, exec (.probeMatch f) s = .next t ∧ t.obs.probeBeat.find k = some f.beat ∧ t.obs.offers =
          s.obs.offers ++ [⟨b, k, s.trcRecord 1 k f.paddock f.hub (if f.plane = 2 then f.payload.take 16 else f.payload)⟩] ∧
          t.hub = s.hub ∧ t.tx = s.tx ∧ t.mem = s.mem) ∧
        (∀ t0, s.obs.probeBeat.find k = some t0 → f.beat < t0 + 16 → ∃ t : State, exec (.probeMatch f) s = .next t ∧ t.obs.offers = s.obs.offers ∧
          t.hubNat (TRC_DROPPED + 4 * b) = min 0xFFFFFFFF (s.hubNat (TRC_DROPPED + 4 * b) + 1) ∧ t.tx = s.tx ∧ t.mem = s.mem)) ∧
      (bitOf c 28 = false → bitOf c 29 = false → bitOf c 30 = true → s.hidden f = false ∨ f.plane ≠ 0 →
        exec (.probeMatch f) s = .next (s.trcTrigger b 1 k)))) ∧
  (∀ (s : State) (r : TraceRec) (allow pair : Bool), s.up = true → r.buffer < 4 →
    (s.obs.offers = [] → exec (.traceRecordOffer r.source allow pair) s = .next s) ∧
    (s.obs.offers = [r] →
      (allow = false → ∃ t : State, exec (.traceRecordOffer r.source allow pair) s = .next t ∧ t.obs.offers = [] ∧ t.tx = s.tx ∧ t.mem = s.mem ∧
        t.hubNat (TRC_DROPPED + 4 * r.buffer) = min 0xFFFFFFFF (s.hubNat (TRC_DROPPED + 4 * r.buffer) + 1)) ∧
      (allow = true → s.trcOpen r.buffer = true → s.obs.drops.find (r.buffer * 65536 + r.source) = none → 32 ≤ s.trcRoom → ∃ u : State,
        exec (.traceRecordOffer r.source allow pair) s = .next (u.trcWrite r.buffer r.bytes) ∧ u.obs.offers = [] ∧ u.trcRoom + 32 = s.trcRoom ∧
        u.hub = s.hub ∧ u.tx = s.tx ∧ u.mem = s.mem) ∧
      (∀ d, s.obs.drops.find (r.buffer * 65536 + r.source) = some d →
        (allow = true → pair = true → s.trcOpen r.buffer = true → s.trcPairFits r.buffer = true → 64 ≤ s.trcRoom → ∃ u : State,
          exec (.traceRecordOffer r.source allow pair) s =
            .next ((u.trcWrite r.buffer (s.lossRecord r.source d)).trcWrite r.buffer r.bytes) ∧ u.obs.offers = [] ∧
          u.obs.drops.find (r.buffer * 65536 + r.source) = none ∧ u.hub = s.hub ∧ u.tx = s.tx ∧ u.mem = s.mem) ∧
        (pair = false ∨ s.trcPairFits r.buffer = false ∨ s.trcRoom < 64 → ∃ t : State, exec (.traceRecordOffer r.source allow pair) s = .next t ∧
          (t.obs.drops.find (r.buffer * 65536 + r.source)).map (·.count) = some (d.count + 1) ∧ t.obs.offers = [] ∧ t.mem = s.mem)))) ∧
  (∀ (s : State) (b : Nat) (bs : List Byte), b < 4 →
    (s.trcState b = trcTriggered ∨ (s.trcState b = trcArmed ∧ s.trcMode b = 0) → s.trcPtr b + 32 < 2 ^ 64 →
      (s.trcWrite b bs).trcPtr b = s.trcPtr b + 32 ∧ (s.trcWrite b bs).mem = (s.store (s.hubNat (TRC_BUF_BASE + 8 * b) + s.trcPtr b) bs).mem ∧
      (s.trcWrite b bs).trcState b = (if s.trcSize b ≤ s.trcPtr b + 64 then trcStopped else s.trcState b)) ∧
    (s.trcState b = trcArmed → s.trcMode b ≠ 0 → s.trcPtr b + 32 < 2 ^ 64 →
      (s.trcWrite b bs).mem = (s.store (s.hubNat (TRC_BUF_BASE + 8 * b) + s.trcPtr b) bs).mem ∧ (s.trcWrite b bs).trcState b = trcArmed ∧
      (s.trcWrite b bs).trcPtr b =
        (if (if s.trcMode b = 2 then s.trcPost b else s.trcSize b) ≤ s.trcPtr b + 32 then 0 else s.trcPtr b + 32)) ∧
    (s.trcState b = trcIdle ∨ s.trcState b = trcStopped → s.trcWrite b bs = s)) ∧
  (∀ (s : State) (b : Nat), s.up = true → (s.trcExists b = false → exec (.traceArm b) s = .next s ∧ exec (.traceDisarm b) s = .next s) ∧
    (s.trcExists b = true →
      (s.trcState b = trcIdle ∨ s.trcState b = trcStopped → ∃ t : State, exec (.traceArm b) s = .next t ∧ t.trcState b = trcArmed ∧ t.trcPtr b = 0 ∧
        t.hubNat (TRC_DROPPED + 4 * b) = 0 ∧ t.fns = s.fns ∧ t.tx = s.tx ∧ t.mem = s.mem) ∧
      (s.trcState b ≠ trcIdle → s.trcState b ≠ trcStopped → exec (.traceArm b) s = .next s) ∧
      (s.trcState b = trcIdle → exec (.traceDisarm b) s = .next s) ∧
      (s.trcState b ≠ trcIdle → s.trcState b ≠ trcStopped → ∃ t : State, exec (.traceDisarm b) s = .next t ∧ t.trcState b = trcIdle ∧
        t.trcPtr b = s.trcPtr b ∧ t.tx = s.tx ∧ t.mem = s.mem) ∧
      (s.trcState b = trcStopped → ∃ t : State, exec (.traceDisarm b) s = .next t ∧ t.trcState b = trcIdle ∧ t.tx = s.tx ∧
        (s.obs.stopDrops.find b = none →
          t.mem = (s.store (s.hubNat (TRC_BUF_BASE + 8 * b) + (s.trcSize b - 32)) (zeros 32)).mem) ∧
        (∀ d, s.obs.stopDrops.find b = some d →
          t.mem = (s.store (s.hubNat (TRC_BUF_BASE + 8 * b) + (s.trcSize b - 32)) (s.lossRecord 0x12 d)).mem)))) ∧
  (∀ (s : State) (b code source : Nat),
    (s.trcExists b = true → s.trcState b = trcArmed → s.trcMode b = 2 → ∃ t : State, s.trcTrigger b code source = t ∧
      t.trcState b = (if s.trcSize b ≤ s.trcPost b + 64 then trcStopped else trcTriggered) ∧ t.hubNat (TRC_TRIGGER_PTR + 8 * b) = s.trcPost b ∧
      t.trcPtr b = s.trcPost b + 32 ∧ t.tx = s.tx ∧
      t.mem = (s.store (s.hubNat (TRC_BUF_BASE + 8 * b) + s.trcPost b) (s.trcRecord 5 source 0 false (leBytes 1 code))).mem) ∧
    (s.trcExists b = false ∨ s.trcState b ≠ trcArmed ∨ s.trcMode b ≠ 2 → ∃ t : State, s.trcTrigger b code source = t ∧
      t.hubNat TRC_TRIGGERS_IGNORED = min 0xFFFFFFFF (s.hubNat TRC_TRIGGERS_IGNORED + 1) ∧ t.obs = s.obs ∧ t.tx = s.tx ∧ t.mem = s.mem)) ∧
  (∀ s : State, s.up = true → (∀ v : W32, v.toNat % 16 = 0 → exec (.traceTrigger v) s = .next s) ∧
    exec (.traceTrigger 1#32) s = .next (s.trcTrigger 0 3 0x12) ∧ exec (.traceTrigger 2#32) s = .next (s.trcTrigger 1 3 0x12) ∧
    exec (.traceTrigger 4#32) s = .next (s.trcTrigger 2 3 0x12) ∧ exec (.traceTrigger 8#32) s = .next (s.trcTrigger 3 3 0x12)) ∧
  (∀ s : State, s.up = false → exec .tlyReset s = .next s ∧ (∀ n, exec (.tlyFnReset n) s = .next s) ∧ exec .fabSnapTake s = .next s ∧
    exec .fabSnapDone s = .next s ∧ (∀ f, exec (.probeMatch f) s = .next s) ∧ (∀ a b c, exec (.traceRecordOffer a b c) s = .next s) ∧
    (∀ b, exec (.traceArm b) s = .next s) ∧ (∀ b, exec (.traceDisarm b) s = .next s) ∧ ∀ v, exec (.traceTrigger v) s = .next s)
/-! ### The whole machine -/

/-- R198, with the code of R200. -/
def Obligations.AssertRaises : Prop :=
  ∀ (s : State) (t : Thr) (f : FmtR) (g : Grp) (th : Thread), Issues s t g th → f.d = 0 → f.s1.toNat < 8 → f.s2 = 0 →
    f.s3 = 0 → f.ty = 0 → f.cond = 0 → f.rsv = 0 → GuardAt th f.grd 0 → (th.pr f.s1.toNat).getLsbD 0 = false → ∃ u : State, exec (.chkAssert t f) s = .next u ∧ u = s.raise t xAssert 0 ∧
      u.grp t.gid = some { g with phase := .stopping, code := some (g.code.getD xAssert) } ∧ (∀ k, k ≠ t.gid → u.grp k = s.grp k) ∧ u.mem = s.mem

/-- R677. -/
def Obligations.ProbesAreBlind : Prop :=
  (∀ (s : State) (f : SeenFlit) (n : Nat), n < 32 → s.confidential n = true → f.plane = 1 ∨ f.plane = 3 → ∃ t : State,
    exec (.probeMatch f) s = .next t ∧ t.obs = s.obs ∧
    ∀ k, k < 8 → t.hubGet (TRC_PROBE_COUNT + 0x40 * k) = s.hubGet (TRC_PROBE_COUNT + 0x40 * k)) ∧
  (∀ (s : State) (f : SeenFlit), f.plane = 0 → f.hub = false → s.confidential f.paddock = true → exec (.probeMatch f) s = .next s)

/-- R31, R346, R605 and R686, Cold columns. -/
def Obligations.ResetState : Prop :=
  State.reset.pending = [] ∧ State.reset.tx = [] ∧ State.reset.up = false ∧ State.reset.groups = [] ∧ State.reset.mem = [] ∧
  State.reset.flash = [] ∧ State.reset.memWf ∧ State.reset.hubNat IDN_PART = 0x4C241620 ∧ State.reset.hubNat IDN_TILES_PRESENT = 0xFFFF ∧
  State.reset.hubNat IDN_STACKS_PRESENT = 0xFFFFFF ∧ (∀ g, g < 6 → State.reset.hubNat (BWG_DELIVERABLE + 4 * g) = 0x6CC0) ∧
  State.reset.hubNat SDG_Q_OLDEST = 0xFFFF ∧ State.reset.hubNat TLY_FAB_FILTER = 0x80000000 ∧ State.reset.lc = lcBlank

/-- Every row of the table has an effect, which may be none. -/
def Obligations.CommandsAnswer : Prop :=
  ∀ (c : Instr) (s : State), ∃ t : State, exec c s = .next t ∧ t.pending = s.pending

/-- R35, R36, R172 to R198, R579: an instruction acts on its thread, its group and memory. -/
def Obligations.InstructionsConfined : Prop :=
  ∀ (i : Instr) (s u : State) (x : Thr × BitVec 5), issuedBy i = some x → exec i s = .next u →
    u.flash = s.flash ∧ u.ident = s.ident ∧ u.sec = s.sec ∧ u.noc = s.noc ∧ u.pow = s.pow ∧
    u.time = s.time

/-- The form of memory and of boot flash. -/
def Obligations.MemoryKeepsItsForm : Prop :=
  ∀ s t : State, s.memWf → step s = .next t → t.memWf

/-- R444 and R497 for the slewing of module time. -/
def Obligations.QuietStep : Prop :=
  ∀ s : State, s.pending = [] → ∃ t : State, step s = .next t ∧ t.pending = [] ∧ (s.up = false → t = s) ∧
    (s.up = true → s.pce.slew.natAbs < s.slewDone → t.time = s.time + 1) ∧
    (s.up = true → s.slewDone ≤ s.pce.slew.natAbs → s.time < s.pce.slewAt + 10000 → t.time = s.time + 1) ∧
    (s.up = true → s.slewDone ≤ s.pce.slew.natAbs → s.pce.slewAt + 10000 ≤ s.time →
      (0 < s.pce.slew → t.time = s.time + 2) ∧ (s.pce.slew ≤ 0 → t.time = s.time))
end

