-- ==== Sys2Proof/Laws/State.lean ====
section
/-! SUPPORT. The small laws of the state: what a map, a register and a byte of memory read after a write, and for each field how it
passes through a choice and a fold. -/

namespace Sys2Proof
open Sys2Proof

/-! ### Maps -/

@[simp] theorem SMap.get_set_self {α : Type} (d : α) (m : SMap α) (k : Nat) (v : α) : (m.set k v).get d k = v := by
  induction m with
  | nil => simp [SMap.set, SMap.get]
  | cons p t ih =>
    obtain ⟨j, w⟩ := p
    simp only [SMap.set]
    split
    · simp [SMap.get]
    · split <;> simp [SMap.get, *]

theorem SMap.get_set_other {α : Type} (d : α) (m : SMap α) (k j : Nat) (v : α) (h : j ≠ k) : (m.set k v).get d j = m.get d j := by
  induction m with
  | nil => simp [SMap.set, SMap.get, Ne.symm h]
  | cons p t ih =>
    obtain ⟨i, w⟩ := p
    simp only [SMap.set]
    split
    · rename_i e
      subst e
      simp [SMap.get, Ne.symm h]
    · split
      · simp [SMap.get, Ne.symm h]
      · simp only [SMap.get, ih]

@[simp] theorem SMap.find_set_self {α : Type} (m : SMap α) (k : Nat) (v : α) : (m.set k v).find k = some v := by
  induction m with
  | nil => simp [SMap.set, SMap.find]
  | cons p t ih =>
    obtain ⟨j, w⟩ := p
    simp only [SMap.set]
    split
    · simp [SMap.find]
    · split <;> simp [SMap.find, *]

theorem SMap.find_set_other {α : Type} (m : SMap α) (k j : Nat) (v : α) (h : j ≠ k) : (m.set k v).find j = m.find j := by
  induction m with
  | nil => simp [SMap.set, SMap.find, Ne.symm h]
  | cons p t ih =>
    obtain ⟨i, w⟩ := p
    simp only [SMap.set]
    split
    · rename_i e
      subst e
      simp [SMap.find, Ne.symm h]
    · split
      · simp [SMap.find, Ne.symm h]
      · simp only [SMap.find, ih]

@[simp] theorem SMap.find_del_self {α : Type} (m : SMap α) (k : Nat) : (m.del k).find k = none := by
  induction m with
  | nil => rfl
  | cons p t ih =>
    obtain ⟨j, w⟩ := p
    unfold SMap.del at *
    by_cases h : j = k <;> simp [SMap.find, h, ih]

theorem SMap.find_del_other {α : Type} (m : SMap α) (k j : Nat) (h : j ≠ k) : (m.del k).find j = m.find j := by
  induction m with
  | nil => rfl
  | cons p t ih =>
    obtain ⟨i, w⟩ := p
    unfold SMap.del at *
    by_cases e : i = k
    · subst e
      simp [SMap.find, Ne.symm h, ih]
    · simp [SMap.find, e, ih]

end Sys2Proof

namespace Sys2Proof.Machine
open Sys2Proof

/-! ### Registers -/

@[simp] theorem State.hubGet_hubSet_self (s : State) (off : Nat) (v : W64) : (s.hubSet off v).hubGet off = v := by
  simp [State.hubSet, State.hubGet]
theorem State.hubGet_hubSet_other (s : State) (off a : Nat) (v : W64) (h : a ≠ off) : (s.hubSet off v).hubGet a = s.hubGet a := by
  simp [State.hubSet, State.hubGet, SMap.get_set_other _ _ _ _ _ h]
@[simp] theorem State.hubNat_hubSetN_self (s : State) (off v : Nat) : (s.hubSetN off v).hubNat off = v % 2 ^ 64 := by
  simp [State.hubSetN, State.hubNat]
theorem State.hubNat_hubSetN_other (s : State) (off a v : Nat) (h : a ≠ off) : (s.hubSetN off v).hubNat a = s.hubNat a := by
  simp [State.hubSetN, State.hubNat, State.hubGet_hubSet_other _ _ _ _ h]
@[simp] theorem State.fn_setFn_self (s : State) (n : Nat) (f : Fn) : (s.setFn n f).fn n = f := by simp [State.setFn, State.fn]
theorem State.fn_setFn_other (s : State) (n m : Nat) (f : Fn) (h : m ≠ n) : (s.setFn n f).fn m = s.fn m := by
  simp [State.setFn, State.fn, SMap.get_set_other _ _ _ _ _ h]
@[simp] theorem State.fn_modFn_self (s : State) (n : Nat) (g : Fn → Fn) : (s.modFn n g).fn n = g (s.fn n) := by simp [State.modFn]
theorem State.fn_modFn_other (s : State) (n m : Nat) (g : Fn → Fn) (h : m ≠ n) : (s.modFn n g).fn m = s.fn m := by
  simp [State.modFn, State.fn_setFn_other _ _ _ _ h]
@[simp] theorem Fn.get_put_self (f : Fn) (off : Nat) (v : W64) : (f.put off v).get off = v := by simp [Fn.put, Fn.get]
theorem Fn.get_put_other (f : Fn) (off a : Nat) (v : W64) (h : a ≠ off) : (f.put off v).get a = f.get a := by
  simp [Fn.put, Fn.get, SMap.get_set_other _ _ _ _ _ h]
@[simp] theorem Fn.nat_putN_self (f : Fn) (off v : Nat) : (f.putN off v).nat off = v % 2 ^ 64 := by simp [Fn.putN, Fn.nat]
theorem Fn.nat_putN_other (f : Fn) (off a v : Nat) (h : a ≠ off) : (f.putN off v).nat a = f.nat a := by
  simp [Fn.putN, Fn.nat, Fn.get_put_other _ _ _ _ h]

/-! ### Memory -/

theorem cellGet_below (d : Byte) (m : Memory) (lo a : Nat) (h : cellWfFrom d lo m = true) (ha : a < lo) : cellGet d m a = d := by
  induction m generalizing lo with
  | nil => rfl
  | cons c t ih =>
    obtain ⟨k, v⟩ := c
    simp [cellWfFrom] at h
    have hk : k ≠ a := by omega
    simp only [cellGet, if_neg hk]
    exact ih (k + 1) h.2 (by omega)

/-- A byte reads as it was written. -/
theorem cellGet_cellPut_self (d : Byte) (m : Memory) (lo a : Nat) (b : Byte) (h : cellWfFrom d lo m = true) :
    cellGet d (cellPut d m a b) a = b := by
  induction m generalizing lo with
  | nil => unfold cellPut; split <;> simp_all [cellGet]
  | cons c t ih =>
    obtain ⟨k, v⟩ := c
    simp [cellWfFrom] at h
    unfold cellPut
    split
    · split
      · rename_i h1 h2
        have hk : k ≠ a := by omega
        rw [h2]
        simp only [cellGet, if_neg hk]
        exact cellGet_below d t (k + 1) a h.2 (by omega)
      · simp [cellGet]
    · split
      · split
        · rename_i h1 h2 h3
          rw [h3, h2]
          exact cellGet_below d t (k + 1) k h.2 (by omega)
        · simp [cellGet]
      · rename_i h1 h2
        have hk : k ≠ a := fun e => h2 e.symm
        simp only [cellGet, if_neg hk]
        exact ih (k + 1) h.2

/-- Writing a byte leaves every other byte. -/
theorem cellGet_cellPut_other (d : Byte) (m : Memory) (a x : Nat) (b : Byte) (hx : x ≠ a) :
    cellGet d (cellPut d m a b) x = cellGet d m x := by
  induction m with
  | nil => unfold cellPut; split <;> simp [cellGet, Ne.symm hx]
  | cons c t ih =>
    obtain ⟨k, v⟩ := c
    unfold cellPut
    split
    · split
      · rfl
      · simp [cellGet, Ne.symm hx]
    · split
      · rename_i h1 h2
        have hk : k ≠ x := fun e => hx (by omega)
        split <;> simp [cellGet, hk, Ne.symm hx]
      · simp only [cellGet, ih]

theorem cellGet_cellsPut_other (d : Byte) (m : Memory) (a x : Nat) (bs : List Byte) (hx : x < a ∨ a + bs.length ≤ x) :
    cellGet d (cellsPut d m a bs) x = cellGet d m x := by
  induction bs generalizing m a with
  | nil => rfl
  | cons b t ih =>
    simp only [cellsPut]
    rw [ih]
    · exact cellGet_cellPut_other d m a x b (by simp at hx; omega)
    · simp at hx; omega

theorem State.readByte_writeByte_self (s : State) (a : Nat) (b : Byte) (h : Memory.wf s.mem = true) : (s.writeByte a b).readByte a = b :=
  cellGet_cellPut_self 0#8 s.mem 0 a b h
theorem State.readByte_writeByte_other (s : State) (a x : Nat) (b : Byte) (hx : x ≠ a) : (s.writeByte a b).readByte x = s.readByte x :=
  cellGet_cellPut_other 0#8 s.mem a x b hx
/-- A store leaves every byte outside what it stores. -/
theorem State.readByte_store_other (s : State) (a x : Nat) (bs : List Byte) (hx : x < a ∨ a + bs.length ≤ x) :
    (s.store a bs).readByte x = s.readByte x :=
  cellGet_cellsPut_other 0#8 s.mem a x bs hx

/-! ### Fields through choices and folds -/

@[simp] theorem ite_time (c : Prop) [Decidable c] (a b : State) : (if c then a else b).time = if c then a.time else b.time := by split <;> rfl
@[simp] theorem ite_draws (c : Prop) [Decidable c] (a b : State) : (if c then a else b).draws = if c then a.draws else b.draws := by split <;> rfl
@[simp] theorem ite_tx (c : Prop) [Decidable c] (a b : State) : (if c then a else b).tx = if c then a.tx else b.tx := by split <;> rfl
@[simp] theorem ite_pending (c : Prop) [Decidable c] (a b : State) : (if c then a else b).pending = if c then a.pending else b.pending := by split <;> rfl
@[simp] theorem ite_hub (c : Prop) [Decidable c] (a b : State) : (if c then a else b).hub = if c then a.hub else b.hub := by split <;> rfl
@[simp] theorem ite_held (c : Prop) [Decidable c] (a b : State) : (if c then a else b).held = if c then a.held else b.held := by split <;> rfl
@[simp] theorem ite_latch (c : Prop) [Decidable c] (a b : State) : (if c then a else b).latch = if c then a.latch else b.latch := by split <;> rfl
@[simp] theorem ite_fns (c : Prop) [Decidable c] (a b : State) : (if c then a else b).fns = if c then a.fns else b.fns := by split <;> rfl
@[simp] theorem ite_pce (c : Prop) [Decidable c] (a b : State) : (if c then a else b).pce = if c then a.pce else b.pce := by split <;> rfl
@[simp] theorem ite_boot (c : Prop) [Decidable c] (a b : State) : (if c then a else b).boot = if c then a.boot else b.boot := by split <;> rfl
@[simp] theorem ite_pow (c : Prop) [Decidable c] (a b : State) : (if c then a else b).pow = if c then a.pow else b.pow := by split <;> rfl
@[simp] theorem ite_obs (c : Prop) [Decidable c] (a b : State) : (if c then a else b).obs = if c then a.obs else b.obs := by split <;> rfl
@[simp] theorem ite_ident (c : Prop) [Decidable c] (a b : State) : (if c then a else b).ident = if c then a.ident else b.ident := by split <;> rfl
@[simp] theorem ite_noc (c : Prop) [Decidable c] (a b : State) : (if c then a else b).noc = if c then a.noc else b.noc := by split <;> rfl
@[simp] theorem ite_lines (c : Prop) [Decidable c] (a b : State) : (if c then a else b).lines = if c then a.lines else b.lines := by split <;> rfl
@[simp] theorem ite_ms (c : Prop) [Decidable c] (a b : State) : (if c then a else b).ms = if c then a.ms else b.ms := by split <;> rfl
@[simp] theorem ite_ports (c : Prop) [Decidable c] (a b : State) : (if c then a else b).ports = if c then a.ports else b.ports := by split <;> rfl
@[simp] theorem ite_torus (c : Prop) [Decidable c] (a b : State) : (if c then a else b).torus = if c then a.torus else b.torus := by split <;> rfl
@[simp] theorem ite_sites (c : Prop) [Decidable c] (a b : State) : (if c then a else b).sites = if c then a.sites else b.sites := by split <;> rfl
@[simp] theorem ite_sec (c : Prop) [Decidable c] (a b : State) : (if c then a else b).sec = if c then a.sec else b.sec := by split <;> rfl
@[simp] theorem ite_sdg (c : Prop) [Decidable c] (a b : State) : (if c then a else b).sdg = if c then a.sdg else b.sdg := by split <;> rfl
@[simp] theorem ite_groups (c : Prop) [Decidable c] (a b : State) : (if c then a else b).groups = if c then a.groups else b.groups := by split <;> rfl
@[simp] theorem ite_mem (c : Prop) [Decidable c] (a b : State) : (if c then a else b).mem = if c then a.mem else b.mem := by split <;> rfl
@[simp] theorem ite_poison (c : Prop) [Decidable c] (a b : State) : (if c then a else b).poison = if c then a.poison else b.poison := by split <;> rfl
@[simp] theorem ite_flash (c : Prop) [Decidable c] (a b : State) : (if c then a else b).flash = if c then a.flash else b.flash := by split <;> rfl

theorem ite_keeps {β : Type} (π : State → β) (c : Prop) [Decidable c] (a b : State) (v : β) (ha : π a = v) (hb : π b = v) :
    π (if c then a else b) = v := by
  split <;> assumption
/-- A fold of steps that keep what π reads keeps it. -/
theorem foldl_keep {α β : Type} (π : State → β) (g : State → α → State) (l : List α) (s : State) (h : ∀ s x, π (g s x) = π s) :
    π (l.foldl g s) = π s := by
  induction l generalizing s with
  | nil => rfl
  | cons a t ih => rw [List.foldl_cons, ih, h]
theorem foldl_keeps {α β : Type} (π : State → β) (g : State → α → State) (l : List α) (s : State) (b : β) (h : ∀ s x, π (g s x) = π s)
    (e : π s = b) : π (l.foldl g s) = b := by
  rw [foldl_keep π g l s h, e]
theorem foldl_fst {α γ β : Type} (π : State → β) (g : State × γ → α → State × γ) (l : List α) (p : State × γ)
    (h : ∀ p x, π (g p x).1 = π p.1) : π (l.foldl g p).1 = π p.1 := by
  induction l generalizing p with
  | nil => rfl
  | cons a t ih => rw [List.foldl_cons, ih, h]
theorem foldl_snd {α γ β : Type} (π : State → β) (g : γ × State → α → γ × State) (l : List α) (p : γ × State)
    (h : ∀ p x, π (g p x).2 = π p.2) : π (l.foldl g p).2 = π p.2 := by
  induction l generalizing p with
  | nil => rfl
  | cons a t ih => rw [List.foldl_cons, ih, h]
@[simp] theorem foldl_time {α : Type} (g : State → α → State) (l : List α) (s : State) (h : ∀ s x, (g s x).time = s.time) :
    (l.foldl g s).time = s.time := foldl_keep State.time g l s h
@[simp] theorem foldl_draws {α : Type} (g : State → α → State) (l : List α) (s : State) (h : ∀ s x, (g s x).draws = s.draws) :
    (l.foldl g s).draws = s.draws := foldl_keep State.draws g l s h
@[simp] theorem foldl_tx {α : Type} (g : State → α → State) (l : List α) (s : State) (h : ∀ s x, (g s x).tx = s.tx) :
    (l.foldl g s).tx = s.tx := foldl_keep State.tx g l s h
@[simp] theorem foldl_pending {α : Type} (g : State → α → State) (l : List α) (s : State) (h : ∀ s x, (g s x).pending = s.pending) :
    (l.foldl g s).pending = s.pending := foldl_keep State.pending g l s h
@[simp] theorem foldl_hub {α : Type} (g : State → α → State) (l : List α) (s : State) (h : ∀ s x, (g s x).hub = s.hub) :
    (l.foldl g s).hub = s.hub := foldl_keep State.hub g l s h
@[simp] theorem foldl_held {α : Type} (g : State → α → State) (l : List α) (s : State) (h : ∀ s x, (g s x).held = s.held) :
    (l.foldl g s).held = s.held := foldl_keep State.held g l s h
@[simp] theorem foldl_latch {α : Type} (g : State → α → State) (l : List α) (s : State) (h : ∀ s x, (g s x).latch = s.latch) :
    (l.foldl g s).latch = s.latch := foldl_keep State.latch g l s h
@[simp] theorem foldl_fns {α : Type} (g : State → α → State) (l : List α) (s : State) (h : ∀ s x, (g s x).fns = s.fns) :
    (l.foldl g s).fns = s.fns := foldl_keep State.fns g l s h
@[simp] theorem foldl_pce {α : Type} (g : State → α → State) (l : List α) (s : State) (h : ∀ s x, (g s x).pce = s.pce) :
    (l.foldl g s).pce = s.pce := foldl_keep State.pce g l s h
@[simp] theorem foldl_boot {α : Type} (g : State → α → State) (l : List α) (s : State) (h : ∀ s x, (g s x).boot = s.boot) :
    (l.foldl g s).boot = s.boot := foldl_keep State.boot g l s h
@[simp] theorem foldl_pow {α : Type} (g : State → α → State) (l : List α) (s : State) (h : ∀ s x, (g s x).pow = s.pow) :
    (l.foldl g s).pow = s.pow := foldl_keep State.pow g l s h
@[simp] theorem foldl_obs {α : Type} (g : State → α → State) (l : List α) (s : State) (h : ∀ s x, (g s x).obs = s.obs) :
    (l.foldl g s).obs = s.obs := foldl_keep State.obs g l s h
@[simp] theorem foldl_ident {α : Type} (g : State → α → State) (l : List α) (s : State) (h : ∀ s x, (g s x).ident = s.ident) :
    (l.foldl g s).ident = s.ident := foldl_keep State.ident g l s h
@[simp] theorem foldl_noc {α : Type} (g : State → α → State) (l : List α) (s : State) (h : ∀ s x, (g s x).noc = s.noc) :
    (l.foldl g s).noc = s.noc := foldl_keep State.noc g l s h
@[simp] theorem foldl_lines {α : Type} (g : State → α → State) (l : List α) (s : State) (h : ∀ s x, (g s x).lines = s.lines) :
    (l.foldl g s).lines = s.lines := foldl_keep State.lines g l s h
@[simp] theorem foldl_ms {α : Type} (g : State → α → State) (l : List α) (s : State) (h : ∀ s x, (g s x).ms = s.ms) :
    (l.foldl g s).ms = s.ms := foldl_keep State.ms g l s h
@[simp] theorem foldl_ports {α : Type} (g : State → α → State) (l : List α) (s : State) (h : ∀ s x, (g s x).ports = s.ports) :
    (l.foldl g s).ports = s.ports := foldl_keep State.ports g l s h
@[simp] theorem foldl_torus {α : Type} (g : State → α → State) (l : List α) (s : State) (h : ∀ s x, (g s x).torus = s.torus) :
    (l.foldl g s).torus = s.torus := foldl_keep State.torus g l s h
@[simp] theorem foldl_sites {α : Type} (g : State → α → State) (l : List α) (s : State) (h : ∀ s x, (g s x).sites = s.sites) :
    (l.foldl g s).sites = s.sites := foldl_keep State.sites g l s h
@[simp] theorem foldl_sec {α : Type} (g : State → α → State) (l : List α) (s : State) (h : ∀ s x, (g s x).sec = s.sec) :
    (l.foldl g s).sec = s.sec := foldl_keep State.sec g l s h
@[simp] theorem foldl_sdg {α : Type} (g : State → α → State) (l : List α) (s : State) (h : ∀ s x, (g s x).sdg = s.sdg) :
    (l.foldl g s).sdg = s.sdg := foldl_keep State.sdg g l s h
@[simp] theorem foldl_groups {α : Type} (g : State → α → State) (l : List α) (s : State) (h : ∀ s x, (g s x).groups = s.groups) :
    (l.foldl g s).groups = s.groups := foldl_keep State.groups g l s h
@[simp] theorem foldl_mem {α : Type} (g : State → α → State) (l : List α) (s : State) (h : ∀ s x, (g s x).mem = s.mem) :
    (l.foldl g s).mem = s.mem := foldl_keep State.mem g l s h
@[simp] theorem foldl_poison {α : Type} (g : State → α → State) (l : List α) (s : State) (h : ∀ s x, (g s x).poison = s.poison) :
    (l.foldl g s).poison = s.poison := foldl_keep State.poison g l s h
@[simp] theorem foldl_flash {α : Type} (g : State → α → State) (l : List α) (s : State) (h : ∀ s x, (g s x).flash = s.flash) :
    (l.foldl g s).flash = s.flash := foldl_keep State.flash g l s h

end Sys2Proof.Machine
end

