-- ==== Sys2Proof/Laws/FramesA.lean ====
section
/-! SUPPORT. Frames of the operations, part 1 of 4, in the order of the files that define them: the fields of the state that each leaves as
they were. -/

set_option linter.all false

namespace Sys2Proof.Machine
open Sys2Proof

@[simp] theorem State.writeByte_frame (s : State) (a : ℕ) (b : Byte) :
    (s.writeByte a b).time = s.time ∧ (s.writeByte a b).draws = s.draws ∧ (s.writeByte a b).tx = s.tx ∧
    (s.writeByte a b).pending = s.pending ∧ (s.writeByte a b).hub = s.hub ∧ (s.writeByte a b).held = s.held ∧
    (s.writeByte a b).latch = s.latch ∧ (s.writeByte a b).fns = s.fns ∧ (s.writeByte a b).pce = s.pce ∧ (s.writeByte a b).boot = s.boot ∧
    (s.writeByte a b).pow = s.pow ∧ (s.writeByte a b).obs = s.obs ∧ (s.writeByte a b).ident = s.ident ∧ (s.writeByte a b).noc = s.noc ∧
    (s.writeByte a b).lines = s.lines ∧ (s.writeByte a b).ms = s.ms ∧ (s.writeByte a b).ports = s.ports ∧
    (s.writeByte a b).torus = s.torus ∧ (s.writeByte a b).sites = s.sites ∧ (s.writeByte a b).sec = s.sec ∧ (s.writeByte a b).sdg = s.sdg ∧
    (s.writeByte a b).groups = s.groups ∧ (s.writeByte a b).poison = s.poison ∧ (s.writeByte a b).flash = s.flash := by
  simp [State.writeByte]

@[simp] theorem State.writeBytes_frame (s : State) (a : ℕ) (bs : List Byte) :
    (s.writeBytes a bs).time = s.time ∧ (s.writeBytes a bs).draws = s.draws ∧ (s.writeBytes a bs).tx = s.tx ∧
    (s.writeBytes a bs).pending = s.pending ∧ (s.writeBytes a bs).hub = s.hub ∧ (s.writeBytes a bs).held = s.held ∧
    (s.writeBytes a bs).latch = s.latch ∧ (s.writeBytes a bs).fns = s.fns ∧ (s.writeBytes a bs).pce = s.pce ∧
    (s.writeBytes a bs).boot = s.boot ∧ (s.writeBytes a bs).pow = s.pow ∧ (s.writeBytes a bs).obs = s.obs ∧
    (s.writeBytes a bs).ident = s.ident ∧ (s.writeBytes a bs).noc = s.noc ∧ (s.writeBytes a bs).lines = s.lines ∧
    (s.writeBytes a bs).ms = s.ms ∧ (s.writeBytes a bs).ports = s.ports ∧ (s.writeBytes a bs).torus = s.torus ∧
    (s.writeBytes a bs).sites = s.sites ∧ (s.writeBytes a bs).sec = s.sec ∧ (s.writeBytes a bs).sdg = s.sdg ∧
    (s.writeBytes a bs).groups = s.groups ∧ (s.writeBytes a bs).poison = s.poison ∧ (s.writeBytes a bs).flash = s.flash := by
  simp [State.writeBytes]

@[simp] theorem State.poisonLine_frame (s : State) (l : ℕ) :
    (s.poisonLine l).time = s.time ∧ (s.poisonLine l).draws = s.draws ∧ (s.poisonLine l).tx = s.tx ∧ (s.poisonLine l).pending = s.pending ∧
    (s.poisonLine l).hub = s.hub ∧ (s.poisonLine l).held = s.held ∧ (s.poisonLine l).latch = s.latch ∧ (s.poisonLine l).fns = s.fns ∧
    (s.poisonLine l).pce = s.pce ∧ (s.poisonLine l).boot = s.boot ∧ (s.poisonLine l).pow = s.pow ∧ (s.poisonLine l).obs = s.obs ∧
    (s.poisonLine l).ident = s.ident ∧ (s.poisonLine l).noc = s.noc ∧ (s.poisonLine l).lines = s.lines ∧ (s.poisonLine l).ms = s.ms ∧
    (s.poisonLine l).ports = s.ports ∧ (s.poisonLine l).torus = s.torus ∧ (s.poisonLine l).sites = s.sites ∧ (s.poisonLine l).sec = s.sec ∧
    (s.poisonLine l).sdg = s.sdg ∧ (s.poisonLine l).groups = s.groups ∧ (s.poisonLine l).mem = s.mem ∧
    (s.poisonLine l).flash = s.flash := by
  simp [State.poisonLine]

@[simp] theorem State.cleanLine_frame (s : State) (l : ℕ) :
    (s.cleanLine l).time = s.time ∧ (s.cleanLine l).draws = s.draws ∧ (s.cleanLine l).tx = s.tx ∧ (s.cleanLine l).pending = s.pending ∧
    (s.cleanLine l).hub = s.hub ∧ (s.cleanLine l).held = s.held ∧ (s.cleanLine l).latch = s.latch ∧ (s.cleanLine l).fns = s.fns ∧
    (s.cleanLine l).pce = s.pce ∧ (s.cleanLine l).boot = s.boot ∧ (s.cleanLine l).pow = s.pow ∧ (s.cleanLine l).obs = s.obs ∧
    (s.cleanLine l).ident = s.ident ∧ (s.cleanLine l).noc = s.noc ∧ (s.cleanLine l).lines = s.lines ∧ (s.cleanLine l).ms = s.ms ∧
    (s.cleanLine l).ports = s.ports ∧ (s.cleanLine l).torus = s.torus ∧ (s.cleanLine l).sites = s.sites ∧ (s.cleanLine l).sec = s.sec ∧
    (s.cleanLine l).sdg = s.sdg ∧ (s.cleanLine l).groups = s.groups ∧ (s.cleanLine l).mem = s.mem ∧ (s.cleanLine l).flash = s.flash := by
  simp [State.cleanLine]

@[simp] theorem State.store_frame (s : State) (a : ℕ) (bs : List Byte) :
    (s.store a bs).time = s.time ∧ (s.store a bs).draws = s.draws ∧ (s.store a bs).tx = s.tx ∧ (s.store a bs).pending = s.pending ∧
    (s.store a bs).hub = s.hub ∧ (s.store a bs).held = s.held ∧ (s.store a bs).latch = s.latch ∧ (s.store a bs).fns = s.fns ∧
    (s.store a bs).pce = s.pce ∧ (s.store a bs).boot = s.boot ∧ (s.store a bs).pow = s.pow ∧ (s.store a bs).obs = s.obs ∧
    (s.store a bs).ident = s.ident ∧ (s.store a bs).noc = s.noc ∧ (s.store a bs).lines = s.lines ∧ (s.store a bs).ms = s.ms ∧
    (s.store a bs).ports = s.ports ∧ (s.store a bs).torus = s.torus ∧ (s.store a bs).sites = s.sites ∧ (s.store a bs).sec = s.sec ∧
    (s.store a bs).sdg = s.sdg ∧ (s.store a bs).groups = s.groups ∧ (s.store a bs).flash = s.flash := by
  simp [State.store]

@[simp] theorem State.wipe_frame (s : State) (a : ℕ) (n : ℕ) :
    (s.wipe a n).time = s.time ∧ (s.wipe a n).draws = s.draws ∧ (s.wipe a n).tx = s.tx ∧ (s.wipe a n).pending = s.pending ∧
    (s.wipe a n).hub = s.hub ∧ (s.wipe a n).held = s.held ∧ (s.wipe a n).latch = s.latch ∧ (s.wipe a n).fns = s.fns ∧
    (s.wipe a n).pce = s.pce ∧ (s.wipe a n).boot = s.boot ∧ (s.wipe a n).pow = s.pow ∧ (s.wipe a n).obs = s.obs ∧
    (s.wipe a n).ident = s.ident ∧ (s.wipe a n).noc = s.noc ∧ (s.wipe a n).lines = s.lines ∧ (s.wipe a n).ms = s.ms ∧
    (s.wipe a n).ports = s.ports ∧ (s.wipe a n).torus = s.torus ∧ (s.wipe a n).sites = s.sites ∧ (s.wipe a n).sec = s.sec ∧
    (s.wipe a n).sdg = s.sdg ∧ (s.wipe a n).groups = s.groups ∧ (s.wipe a n).flash = s.flash := by
  simp [State.wipe]

@[simp] theorem State.send_frame (s : State) (t : Tx) :
    (s.send t).time = s.time ∧ (s.send t).draws = s.draws ∧ (s.send t).pending = s.pending ∧ (s.send t).hub = s.hub ∧
    (s.send t).held = s.held ∧ (s.send t).latch = s.latch ∧ (s.send t).fns = s.fns ∧ (s.send t).pce = s.pce ∧ (s.send t).boot = s.boot ∧
    (s.send t).pow = s.pow ∧ (s.send t).obs = s.obs ∧ (s.send t).ident = s.ident ∧ (s.send t).noc = s.noc ∧ (s.send t).lines = s.lines ∧
    (s.send t).ms = s.ms ∧ (s.send t).ports = s.ports ∧ (s.send t).torus = s.torus ∧ (s.send t).sites = s.sites ∧ (s.send t).sec = s.sec ∧
    (s.send t).sdg = s.sdg ∧ (s.send t).groups = s.groups ∧ (s.send t).mem = s.mem ∧ (s.send t).poison = s.poison ∧
    (s.send t).flash = s.flash := by
  simp [State.send]

@[simp] theorem State.sendAll_frame (s : State) (ts : List Tx) :
    (s.sendAll ts).time = s.time ∧ (s.sendAll ts).draws = s.draws ∧ (s.sendAll ts).pending = s.pending ∧ (s.sendAll ts).hub = s.hub ∧
    (s.sendAll ts).held = s.held ∧ (s.sendAll ts).latch = s.latch ∧ (s.sendAll ts).fns = s.fns ∧ (s.sendAll ts).pce = s.pce ∧
    (s.sendAll ts).boot = s.boot ∧ (s.sendAll ts).pow = s.pow ∧ (s.sendAll ts).obs = s.obs ∧ (s.sendAll ts).ident = s.ident ∧
    (s.sendAll ts).noc = s.noc ∧ (s.sendAll ts).lines = s.lines ∧ (s.sendAll ts).ms = s.ms ∧ (s.sendAll ts).ports = s.ports ∧
    (s.sendAll ts).torus = s.torus ∧ (s.sendAll ts).sites = s.sites ∧ (s.sendAll ts).sec = s.sec ∧ (s.sendAll ts).sdg = s.sdg ∧
    (s.sendAll ts).groups = s.groups ∧ (s.sendAll ts).mem = s.mem ∧ (s.sendAll ts).poison = s.poison ∧ (s.sendAll ts).flash = s.flash := by
  simp [State.sendAll]

@[simp] theorem State.drawn_frame (s : State) :
    s.drawn.time = s.time ∧ s.drawn.tx = s.tx ∧ s.drawn.pending = s.pending ∧ s.drawn.hub = s.hub ∧ s.drawn.held = s.held ∧
    s.drawn.latch = s.latch ∧ s.drawn.fns = s.fns ∧ s.drawn.pce = s.pce ∧ s.drawn.boot = s.boot ∧ s.drawn.pow = s.pow ∧
    s.drawn.obs = s.obs ∧ s.drawn.ident = s.ident ∧ s.drawn.noc = s.noc ∧ s.drawn.lines = s.lines ∧ s.drawn.ms = s.ms ∧
    s.drawn.ports = s.ports ∧ s.drawn.torus = s.torus ∧ s.drawn.sites = s.sites ∧ s.drawn.sec = s.sec ∧ s.drawn.sdg = s.sdg ∧
    s.drawn.groups = s.groups ∧ s.drawn.mem = s.mem ∧ s.drawn.poison = s.poison ∧ s.drawn.flash = s.flash := by
  simp [State.drawn]

@[simp] theorem State.hubSet_frame (s : State) (off : ℕ) (v : W64) :
    (s.hubSet off v).time = s.time ∧ (s.hubSet off v).draws = s.draws ∧ (s.hubSet off v).tx = s.tx ∧ (s.hubSet off v).pending = s.pending ∧
    (s.hubSet off v).held = s.held ∧ (s.hubSet off v).latch = s.latch ∧ (s.hubSet off v).fns = s.fns ∧ (s.hubSet off v).pce = s.pce ∧
    (s.hubSet off v).boot = s.boot ∧ (s.hubSet off v).pow = s.pow ∧ (s.hubSet off v).obs = s.obs ∧ (s.hubSet off v).ident = s.ident ∧
    (s.hubSet off v).noc = s.noc ∧ (s.hubSet off v).lines = s.lines ∧ (s.hubSet off v).ms = s.ms ∧ (s.hubSet off v).ports = s.ports ∧
    (s.hubSet off v).torus = s.torus ∧ (s.hubSet off v).sites = s.sites ∧ (s.hubSet off v).sec = s.sec ∧ (s.hubSet off v).sdg = s.sdg ∧
    (s.hubSet off v).groups = s.groups ∧ (s.hubSet off v).mem = s.mem ∧ (s.hubSet off v).poison = s.poison ∧
    (s.hubSet off v).flash = s.flash := by
  simp [State.hubSet]

@[simp] theorem State.hubSetN_frame (s : State) (off : ℕ) (v : ℕ) :
    (s.hubSetN off v).time = s.time ∧ (s.hubSetN off v).draws = s.draws ∧ (s.hubSetN off v).tx = s.tx ∧
    (s.hubSetN off v).pending = s.pending ∧ (s.hubSetN off v).held = s.held ∧ (s.hubSetN off v).latch = s.latch ∧
    (s.hubSetN off v).fns = s.fns ∧ (s.hubSetN off v).pce = s.pce ∧ (s.hubSetN off v).boot = s.boot ∧ (s.hubSetN off v).pow = s.pow ∧
    (s.hubSetN off v).obs = s.obs ∧ (s.hubSetN off v).ident = s.ident ∧ (s.hubSetN off v).noc = s.noc ∧ (s.hubSetN off v).lines = s.lines ∧
    (s.hubSetN off v).ms = s.ms ∧ (s.hubSetN off v).ports = s.ports ∧ (s.hubSetN off v).torus = s.torus ∧
    (s.hubSetN off v).sites = s.sites ∧ (s.hubSetN off v).sec = s.sec ∧ (s.hubSetN off v).sdg = s.sdg ∧
    (s.hubSetN off v).groups = s.groups ∧ (s.hubSetN off v).mem = s.mem ∧ (s.hubSetN off v).poison = s.poison ∧
    (s.hubSetN off v).flash = s.flash := by
  simp [State.hubSetN]

@[simp] theorem State.setFn_frame (s : State) (n : ℕ) (f : Fn) :
    (s.setFn n f).time = s.time ∧ (s.setFn n f).draws = s.draws ∧ (s.setFn n f).tx = s.tx ∧ (s.setFn n f).pending = s.pending ∧
    (s.setFn n f).hub = s.hub ∧ (s.setFn n f).held = s.held ∧ (s.setFn n f).latch = s.latch ∧ (s.setFn n f).pce = s.pce ∧
    (s.setFn n f).boot = s.boot ∧ (s.setFn n f).pow = s.pow ∧ (s.setFn n f).obs = s.obs ∧ (s.setFn n f).ident = s.ident ∧
    (s.setFn n f).noc = s.noc ∧ (s.setFn n f).lines = s.lines ∧ (s.setFn n f).ms = s.ms ∧ (s.setFn n f).ports = s.ports ∧
    (s.setFn n f).torus = s.torus ∧ (s.setFn n f).sites = s.sites ∧ (s.setFn n f).sec = s.sec ∧ (s.setFn n f).sdg = s.sdg ∧
    (s.setFn n f).groups = s.groups ∧ (s.setFn n f).mem = s.mem ∧ (s.setFn n f).poison = s.poison ∧ (s.setFn n f).flash = s.flash := by
  simp [State.setFn]

@[simp] theorem State.modFn_frame (s : State) (n : ℕ) (g : Fn → Fn) :
    (s.modFn n g).time = s.time ∧ (s.modFn n g).draws = s.draws ∧ (s.modFn n g).tx = s.tx ∧ (s.modFn n g).pending = s.pending ∧
    (s.modFn n g).hub = s.hub ∧ (s.modFn n g).held = s.held ∧ (s.modFn n g).latch = s.latch ∧ (s.modFn n g).pce = s.pce ∧
    (s.modFn n g).boot = s.boot ∧ (s.modFn n g).pow = s.pow ∧ (s.modFn n g).obs = s.obs ∧ (s.modFn n g).ident = s.ident ∧
    (s.modFn n g).noc = s.noc ∧ (s.modFn n g).lines = s.lines ∧ (s.modFn n g).ms = s.ms ∧ (s.modFn n g).ports = s.ports ∧
    (s.modFn n g).torus = s.torus ∧ (s.modFn n g).sites = s.sites ∧ (s.modFn n g).sec = s.sec ∧ (s.modFn n g).sdg = s.sdg ∧
    (s.modFn n g).groups = s.groups ∧ (s.modFn n g).mem = s.mem ∧ (s.modFn n g).poison = s.poison ∧ (s.modFn n g).flash = s.flash := by
  simp [State.modFn]

@[simp] theorem State.fnSet_frame (s : State) (n : ℕ) (off : ℕ) (v : W64) :
    (s.fnSet n off v).time = s.time ∧ (s.fnSet n off v).draws = s.draws ∧ (s.fnSet n off v).tx = s.tx ∧
    (s.fnSet n off v).pending = s.pending ∧ (s.fnSet n off v).hub = s.hub ∧ (s.fnSet n off v).held = s.held ∧
    (s.fnSet n off v).latch = s.latch ∧ (s.fnSet n off v).pce = s.pce ∧ (s.fnSet n off v).boot = s.boot ∧ (s.fnSet n off v).pow = s.pow ∧
    (s.fnSet n off v).obs = s.obs ∧ (s.fnSet n off v).ident = s.ident ∧ (s.fnSet n off v).noc = s.noc ∧ (s.fnSet n off v).lines = s.lines ∧
    (s.fnSet n off v).ms = s.ms ∧ (s.fnSet n off v).ports = s.ports ∧ (s.fnSet n off v).torus = s.torus ∧
    (s.fnSet n off v).sites = s.sites ∧ (s.fnSet n off v).sec = s.sec ∧ (s.fnSet n off v).sdg = s.sdg ∧
    (s.fnSet n off v).groups = s.groups ∧ (s.fnSet n off v).mem = s.mem ∧ (s.fnSet n off v).poison = s.poison ∧
    (s.fnSet n off v).flash = s.flash := by
  simp [State.fnSet]

@[simp] theorem State.fnSetN_frame (s : State) (n : ℕ) (off : ℕ) (v : ℕ) :
    (s.fnSetN n off v).time = s.time ∧ (s.fnSetN n off v).draws = s.draws ∧ (s.fnSetN n off v).tx = s.tx ∧
    (s.fnSetN n off v).pending = s.pending ∧ (s.fnSetN n off v).hub = s.hub ∧ (s.fnSetN n off v).held = s.held ∧
    (s.fnSetN n off v).latch = s.latch ∧ (s.fnSetN n off v).pce = s.pce ∧ (s.fnSetN n off v).boot = s.boot ∧
    (s.fnSetN n off v).pow = s.pow ∧ (s.fnSetN n off v).obs = s.obs ∧ (s.fnSetN n off v).ident = s.ident ∧ (s.fnSetN n off v).noc = s.noc ∧
    (s.fnSetN n off v).lines = s.lines ∧ (s.fnSetN n off v).ms = s.ms ∧ (s.fnSetN n off v).ports = s.ports ∧
    (s.fnSetN n off v).torus = s.torus ∧ (s.fnSetN n off v).sites = s.sites ∧ (s.fnSetN n off v).sec = s.sec ∧
    (s.fnSetN n off v).sdg = s.sdg ∧ (s.fnSetN n off v).groups = s.groups ∧ (s.fnSetN n off v).mem = s.mem ∧
    (s.fnSetN n off v).poison = s.poison ∧ (s.fnSetN n off v).flash = s.flash := by
  simp [State.fnSetN]

@[simp] theorem State.hubCount_frame (s : State) (off : ℕ) (n : ℕ) :
    (s.hubCount off n).time = s.time ∧ (s.hubCount off n).draws = s.draws ∧ (s.hubCount off n).tx = s.tx ∧
    (s.hubCount off n).pending = s.pending ∧ (s.hubCount off n).held = s.held ∧ (s.hubCount off n).latch = s.latch ∧
    (s.hubCount off n).fns = s.fns ∧ (s.hubCount off n).pce = s.pce ∧ (s.hubCount off n).boot = s.boot ∧ (s.hubCount off n).pow = s.pow ∧
    (s.hubCount off n).obs = s.obs ∧ (s.hubCount off n).ident = s.ident ∧ (s.hubCount off n).noc = s.noc ∧
    (s.hubCount off n).lines = s.lines ∧ (s.hubCount off n).ms = s.ms ∧ (s.hubCount off n).ports = s.ports ∧
    (s.hubCount off n).torus = s.torus ∧ (s.hubCount off n).sites = s.sites ∧ (s.hubCount off n).sec = s.sec ∧
    (s.hubCount off n).sdg = s.sdg ∧ (s.hubCount off n).groups = s.groups ∧ (s.hubCount off n).mem = s.mem ∧
    (s.hubCount off n).poison = s.poison ∧ (s.hubCount off n).flash = s.flash := by
  simp [State.hubCount]

@[simp] theorem State.fnCount_frame (s : State) (fn : ℕ) (off : ℕ) (n : ℕ) :
    (s.fnCount fn off n).time = s.time ∧ (s.fnCount fn off n).draws = s.draws ∧ (s.fnCount fn off n).tx = s.tx ∧
    (s.fnCount fn off n).pending = s.pending ∧ (s.fnCount fn off n).hub = s.hub ∧ (s.fnCount fn off n).held = s.held ∧
    (s.fnCount fn off n).latch = s.latch ∧ (s.fnCount fn off n).pce = s.pce ∧ (s.fnCount fn off n).boot = s.boot ∧
    (s.fnCount fn off n).pow = s.pow ∧ (s.fnCount fn off n).obs = s.obs ∧ (s.fnCount fn off n).ident = s.ident ∧
    (s.fnCount fn off n).noc = s.noc ∧ (s.fnCount fn off n).lines = s.lines ∧ (s.fnCount fn off n).ms = s.ms ∧
    (s.fnCount fn off n).ports = s.ports ∧ (s.fnCount fn off n).torus = s.torus ∧ (s.fnCount fn off n).sites = s.sites ∧
    (s.fnCount fn off n).sec = s.sec ∧ (s.fnCount fn off n).sdg = s.sdg ∧ (s.fnCount fn off n).groups = s.groups ∧
    (s.fnCount fn off n).mem = s.mem ∧ (s.fnCount fn off n).poison = s.poison ∧ (s.fnCount fn off n).flash = s.flash := by
  simp [State.fnCount]

@[simp] theorem State.hubCount64_frame (s : State) (off : ℕ) (n : ℕ) :
    (s.hubCount64 off n).time = s.time ∧ (s.hubCount64 off n).draws = s.draws ∧ (s.hubCount64 off n).tx = s.tx ∧
    (s.hubCount64 off n).pending = s.pending ∧ (s.hubCount64 off n).held = s.held ∧ (s.hubCount64 off n).latch = s.latch ∧
    (s.hubCount64 off n).fns = s.fns ∧ (s.hubCount64 off n).pce = s.pce ∧ (s.hubCount64 off n).boot = s.boot ∧
    (s.hubCount64 off n).pow = s.pow ∧ (s.hubCount64 off n).obs = s.obs ∧ (s.hubCount64 off n).ident = s.ident ∧
    (s.hubCount64 off n).noc = s.noc ∧ (s.hubCount64 off n).lines = s.lines ∧ (s.hubCount64 off n).ms = s.ms ∧
    (s.hubCount64 off n).ports = s.ports ∧ (s.hubCount64 off n).torus = s.torus ∧ (s.hubCount64 off n).sites = s.sites ∧
    (s.hubCount64 off n).sec = s.sec ∧ (s.hubCount64 off n).sdg = s.sdg ∧ (s.hubCount64 off n).groups = s.groups ∧
    (s.hubCount64 off n).mem = s.mem ∧ (s.hubCount64 off n).poison = s.poison ∧ (s.hubCount64 off n).flash = s.flash := by
  simp [State.hubCount64]

@[simp] theorem State.fnCount64_frame (s : State) (fn : ℕ) (off : ℕ) (n : ℕ) :
    (s.fnCount64 fn off n).time = s.time ∧ (s.fnCount64 fn off n).draws = s.draws ∧ (s.fnCount64 fn off n).tx = s.tx ∧
    (s.fnCount64 fn off n).pending = s.pending ∧ (s.fnCount64 fn off n).hub = s.hub ∧ (s.fnCount64 fn off n).held = s.held ∧
    (s.fnCount64 fn off n).latch = s.latch ∧ (s.fnCount64 fn off n).pce = s.pce ∧ (s.fnCount64 fn off n).boot = s.boot ∧
    (s.fnCount64 fn off n).pow = s.pow ∧ (s.fnCount64 fn off n).obs = s.obs ∧ (s.fnCount64 fn off n).ident = s.ident ∧
    (s.fnCount64 fn off n).noc = s.noc ∧ (s.fnCount64 fn off n).lines = s.lines ∧ (s.fnCount64 fn off n).ms = s.ms ∧
    (s.fnCount64 fn off n).ports = s.ports ∧ (s.fnCount64 fn off n).torus = s.torus ∧ (s.fnCount64 fn off n).sites = s.sites ∧
    (s.fnCount64 fn off n).sec = s.sec ∧ (s.fnCount64 fn off n).sdg = s.sdg ∧ (s.fnCount64 fn off n).groups = s.groups ∧
    (s.fnCount64 fn off n).mem = s.mem ∧ (s.fnCount64 fn off n).poison = s.poison ∧ (s.fnCount64 fn off n).flash = s.flash := by
  simp [State.fnCount64]

@[simp] theorem State.hubMax_frame (s : State) (off : ℕ) (n : ℕ) :
    (s.hubMax off n).time = s.time ∧ (s.hubMax off n).draws = s.draws ∧ (s.hubMax off n).tx = s.tx ∧ (s.hubMax off n).pending = s.pending ∧
    (s.hubMax off n).held = s.held ∧ (s.hubMax off n).latch = s.latch ∧ (s.hubMax off n).fns = s.fns ∧ (s.hubMax off n).pce = s.pce ∧
    (s.hubMax off n).boot = s.boot ∧ (s.hubMax off n).pow = s.pow ∧ (s.hubMax off n).obs = s.obs ∧ (s.hubMax off n).ident = s.ident ∧
    (s.hubMax off n).noc = s.noc ∧ (s.hubMax off n).lines = s.lines ∧ (s.hubMax off n).ms = s.ms ∧ (s.hubMax off n).ports = s.ports ∧
    (s.hubMax off n).torus = s.torus ∧ (s.hubMax off n).sites = s.sites ∧ (s.hubMax off n).sec = s.sec ∧ (s.hubMax off n).sdg = s.sdg ∧
    (s.hubMax off n).groups = s.groups ∧ (s.hubMax off n).mem = s.mem ∧ (s.hubMax off n).poison = s.poison ∧
    (s.hubMax off n).flash = s.flash := by
  simp [State.hubMax]

@[simp] theorem State.fnMax_frame (s : State) (fn : ℕ) (off : ℕ) (n : ℕ) :
    (s.fnMax fn off n).time = s.time ∧ (s.fnMax fn off n).draws = s.draws ∧ (s.fnMax fn off n).tx = s.tx ∧
    (s.fnMax fn off n).pending = s.pending ∧ (s.fnMax fn off n).hub = s.hub ∧ (s.fnMax fn off n).held = s.held ∧
    (s.fnMax fn off n).latch = s.latch ∧ (s.fnMax fn off n).pce = s.pce ∧ (s.fnMax fn off n).boot = s.boot ∧
    (s.fnMax fn off n).pow = s.pow ∧ (s.fnMax fn off n).obs = s.obs ∧ (s.fnMax fn off n).ident = s.ident ∧ (s.fnMax fn off n).noc = s.noc ∧
    (s.fnMax fn off n).lines = s.lines ∧ (s.fnMax fn off n).ms = s.ms ∧ (s.fnMax fn off n).ports = s.ports ∧
    (s.fnMax fn off n).torus = s.torus ∧ (s.fnMax fn off n).sites = s.sites ∧ (s.fnMax fn off n).sec = s.sec ∧
    (s.fnMax fn off n).sdg = s.sdg ∧ (s.fnMax fn off n).groups = s.groups ∧ (s.fnMax fn off n).mem = s.mem ∧
    (s.fnMax fn off n).poison = s.poison ∧ (s.fnMax fn off n).flash = s.flash := by
  simp [State.fnMax]

@[simp] theorem State.tallyM_frame (s : State) (code : ℕ) (n : ℕ) :
    (s.tallyM code n).time = s.time ∧ (s.tallyM code n).draws = s.draws ∧ (s.tallyM code n).tx = s.tx ∧
    (s.tallyM code n).pending = s.pending ∧ (s.tallyM code n).held = s.held ∧ (s.tallyM code n).latch = s.latch ∧
    (s.tallyM code n).fns = s.fns ∧ (s.tallyM code n).pce = s.pce ∧ (s.tallyM code n).boot = s.boot ∧ (s.tallyM code n).pow = s.pow ∧
    (s.tallyM code n).obs = s.obs ∧ (s.tallyM code n).ident = s.ident ∧ (s.tallyM code n).noc = s.noc ∧ (s.tallyM code n).lines = s.lines ∧
    (s.tallyM code n).ms = s.ms ∧ (s.tallyM code n).ports = s.ports ∧ (s.tallyM code n).torus = s.torus ∧
    (s.tallyM code n).sites = s.sites ∧ (s.tallyM code n).sec = s.sec ∧ (s.tallyM code n).sdg = s.sdg ∧
    (s.tallyM code n).groups = s.groups ∧ (s.tallyM code n).mem = s.mem ∧ (s.tallyM code n).poison = s.poison ∧
    (s.tallyM code n).flash = s.flash := by
  simp [State.tallyM]

@[simp] theorem State.tallyP_frame (s : State) (fn : ℕ) (stream : Option ℕ) (code : ℕ) (n : ℕ) :
    (s.tallyP fn stream code n).time = s.time ∧ (s.tallyP fn stream code n).draws = s.draws ∧ (s.tallyP fn stream code n).tx = s.tx ∧
    (s.tallyP fn stream code n).pending = s.pending ∧ (s.tallyP fn stream code n).held = s.held ∧
    (s.tallyP fn stream code n).latch = s.latch ∧ (s.tallyP fn stream code n).pce = s.pce ∧ (s.tallyP fn stream code n).boot = s.boot ∧
    (s.tallyP fn stream code n).pow = s.pow ∧ (s.tallyP fn stream code n).obs = s.obs ∧ (s.tallyP fn stream code n).ident = s.ident ∧
    (s.tallyP fn stream code n).noc = s.noc ∧ (s.tallyP fn stream code n).lines = s.lines ∧ (s.tallyP fn stream code n).ms = s.ms ∧
    (s.tallyP fn stream code n).ports = s.ports ∧ (s.tallyP fn stream code n).torus = s.torus ∧
    (s.tallyP fn stream code n).sites = s.sites ∧ (s.tallyP fn stream code n).sec = s.sec ∧ (s.tallyP fn stream code n).sdg = s.sdg ∧
    (s.tallyP fn stream code n).groups = s.groups ∧ (s.tallyP fn stream code n).mem = s.mem ∧
    (s.tallyP fn stream code n).poison = s.poison ∧ (s.tallyP fn stream code n).flash = s.flash := by
  simp [State.tallyP]

@[simp] theorem State.updateInta_frame (s : State) :
    s.updateInta.time = s.time ∧ s.updateInta.draws = s.draws ∧ s.updateInta.pending = s.pending ∧ s.updateInta.hub = s.hub ∧
    s.updateInta.held = s.held ∧ s.updateInta.latch = s.latch ∧ s.updateInta.fns = s.fns ∧ s.updateInta.boot = s.boot ∧
    s.updateInta.pow = s.pow ∧ s.updateInta.obs = s.obs ∧ s.updateInta.ident = s.ident ∧ s.updateInta.noc = s.noc ∧
    s.updateInta.lines = s.lines ∧ s.updateInta.ms = s.ms ∧ s.updateInta.ports = s.ports ∧ s.updateInta.torus = s.torus ∧
    s.updateInta.sites = s.sites ∧ s.updateInta.sec = s.sec ∧ s.updateInta.sdg = s.sdg ∧ s.updateInta.groups = s.groups ∧
    s.updateInta.mem = s.mem ∧ s.updateInta.poison = s.poison ∧ s.updateInta.flash = s.flash := by
  simp [State.updateInta]

@[simp] theorem State.raiseInt_frame (s : State) (bit : ℕ) :
    (s.raiseInt bit).time = s.time ∧ (s.raiseInt bit).draws = s.draws ∧ (s.raiseInt bit).pending = s.pending ∧
    (s.raiseInt bit).held = s.held ∧ (s.raiseInt bit).latch = s.latch ∧ (s.raiseInt bit).fns = s.fns ∧ (s.raiseInt bit).boot = s.boot ∧
    (s.raiseInt bit).pow = s.pow ∧ (s.raiseInt bit).obs = s.obs ∧ (s.raiseInt bit).ident = s.ident ∧ (s.raiseInt bit).noc = s.noc ∧
    (s.raiseInt bit).lines = s.lines ∧ (s.raiseInt bit).ms = s.ms ∧ (s.raiseInt bit).ports = s.ports ∧ (s.raiseInt bit).torus = s.torus ∧
    (s.raiseInt bit).sites = s.sites ∧ (s.raiseInt bit).sec = s.sec ∧ (s.raiseInt bit).sdg = s.sdg ∧ (s.raiseInt bit).groups = s.groups ∧
    (s.raiseInt bit).mem = s.mem ∧ (s.raiseInt bit).poison = s.poison ∧ (s.raiseInt bit).flash = s.flash := by
  simp [State.raiseInt]

@[simp] theorem State.noteLtr_frame (s : State) :
    s.noteLtr.time = s.time ∧ s.noteLtr.draws = s.draws ∧ s.noteLtr.pending = s.pending ∧ s.noteLtr.hub = s.hub ∧ s.noteLtr.held = s.held ∧
    s.noteLtr.latch = s.latch ∧ s.noteLtr.fns = s.fns ∧ s.noteLtr.boot = s.boot ∧ s.noteLtr.pow = s.pow ∧ s.noteLtr.obs = s.obs ∧
    s.noteLtr.ident = s.ident ∧ s.noteLtr.noc = s.noc ∧ s.noteLtr.lines = s.lines ∧ s.noteLtr.ms = s.ms ∧ s.noteLtr.ports = s.ports ∧
    s.noteLtr.torus = s.torus ∧ s.noteLtr.sites = s.sites ∧ s.noteLtr.sec = s.sec ∧ s.noteLtr.sdg = s.sdg ∧ s.noteLtr.groups = s.groups ∧
    s.noteLtr.mem = s.mem ∧ s.noteLtr.poison = s.poison ∧ s.noteLtr.flash = s.flash := by
  simp [State.noteLtr]

@[simp] theorem State.commitStore_frame (s : State) (a : ℕ) (bs : List Byte) :
    (s.commitStore a bs).time = s.time ∧ (s.commitStore a bs).draws = s.draws ∧ (s.commitStore a bs).tx = s.tx ∧
    (s.commitStore a bs).pending = s.pending ∧ (s.commitStore a bs).hub = s.hub ∧ (s.commitStore a bs).held = s.held ∧
    (s.commitStore a bs).latch = s.latch ∧ (s.commitStore a bs).fns = s.fns ∧ (s.commitStore a bs).pce = s.pce ∧
    (s.commitStore a bs).boot = s.boot ∧ (s.commitStore a bs).pow = s.pow ∧ (s.commitStore a bs).obs = s.obs ∧
    (s.commitStore a bs).ident = s.ident ∧ (s.commitStore a bs).noc = s.noc ∧ (s.commitStore a bs).lines = s.lines ∧
    (s.commitStore a bs).ms = s.ms ∧ (s.commitStore a bs).ports = s.ports ∧ (s.commitStore a bs).torus = s.torus ∧
    (s.commitStore a bs).sites = s.sites ∧ (s.commitStore a bs).sec = s.sec ∧ (s.commitStore a bs).sdg = s.sdg ∧
    (s.commitStore a bs).groups = s.groups ∧ (s.commitStore a bs).flash = s.flash := by
  simp [State.commitStore]

@[simp] theorem State.setLine_frame (s : State) (l : ℕ) (x : CohLine) :
    (s.setLine l x).time = s.time ∧ (s.setLine l x).draws = s.draws ∧ (s.setLine l x).tx = s.tx ∧ (s.setLine l x).pending = s.pending ∧
    (s.setLine l x).hub = s.hub ∧ (s.setLine l x).held = s.held ∧ (s.setLine l x).latch = s.latch ∧ (s.setLine l x).fns = s.fns ∧
    (s.setLine l x).pce = s.pce ∧ (s.setLine l x).boot = s.boot ∧ (s.setLine l x).pow = s.pow ∧ (s.setLine l x).obs = s.obs ∧
    (s.setLine l x).ident = s.ident ∧ (s.setLine l x).noc = s.noc ∧ (s.setLine l x).ms = s.ms ∧ (s.setLine l x).ports = s.ports ∧
    (s.setLine l x).torus = s.torus ∧ (s.setLine l x).sites = s.sites ∧ (s.setLine l x).sec = s.sec ∧ (s.setLine l x).sdg = s.sdg ∧
    (s.setLine l x).groups = s.groups ∧ (s.setLine l x).mem = s.mem ∧ (s.setLine l x).poison = s.poison ∧
    (s.setLine l x).flash = s.flash := by
  simp [State.setLine]

@[simp] theorem State.modLine_frame (s : State) (l : ℕ) (h : CohLine → CohLine) :
    (s.modLine l h).time = s.time ∧ (s.modLine l h).draws = s.draws ∧ (s.modLine l h).tx = s.tx ∧ (s.modLine l h).pending = s.pending ∧
    (s.modLine l h).hub = s.hub ∧ (s.modLine l h).held = s.held ∧ (s.modLine l h).latch = s.latch ∧ (s.modLine l h).fns = s.fns ∧
    (s.modLine l h).pce = s.pce ∧ (s.modLine l h).boot = s.boot ∧ (s.modLine l h).pow = s.pow ∧ (s.modLine l h).obs = s.obs ∧
    (s.modLine l h).ident = s.ident ∧ (s.modLine l h).noc = s.noc ∧ (s.modLine l h).ms = s.ms ∧ (s.modLine l h).ports = s.ports ∧
    (s.modLine l h).torus = s.torus ∧ (s.modLine l h).sites = s.sites ∧ (s.modLine l h).sec = s.sec ∧ (s.modLine l h).sdg = s.sdg ∧
    (s.modLine l h).groups = s.groups ∧ (s.modLine l h).mem = s.mem ∧ (s.modLine l h).poison = s.poison ∧
    (s.modLine l h).flash = s.flash := by
  simp [State.modLine]

@[simp] theorem State.lockLine_frame (s : State) (l : ℕ) (t : CohTxn) :
    (s.lockLine l t).time = s.time ∧ (s.lockLine l t).draws = s.draws ∧ (s.lockLine l t).pending = s.pending ∧
    (s.lockLine l t).hub = s.hub ∧ (s.lockLine l t).held = s.held ∧ (s.lockLine l t).latch = s.latch ∧ (s.lockLine l t).fns = s.fns ∧
    (s.lockLine l t).pce = s.pce ∧ (s.lockLine l t).boot = s.boot ∧ (s.lockLine l t).pow = s.pow ∧ (s.lockLine l t).obs = s.obs ∧
    (s.lockLine l t).ident = s.ident ∧ (s.lockLine l t).noc = s.noc ∧ (s.lockLine l t).ms = s.ms ∧ (s.lockLine l t).ports = s.ports ∧
    (s.lockLine l t).torus = s.torus ∧ (s.lockLine l t).sites = s.sites ∧ (s.lockLine l t).sec = s.sec ∧ (s.lockLine l t).sdg = s.sdg ∧
    (s.lockLine l t).groups = s.groups ∧ (s.lockLine l t).mem = s.mem ∧ (s.lockLine l t).poison = s.poison ∧
    (s.lockLine l t).flash = s.flash := by
  simp [State.lockLine]

@[simp] theorem State.trcSetState_frame (s : State) (b : ℕ) (st : ℕ) :
    (s.trcSetState b st).time = s.time ∧ (s.trcSetState b st).draws = s.draws ∧ (s.trcSetState b st).tx = s.tx ∧
    (s.trcSetState b st).pending = s.pending ∧ (s.trcSetState b st).held = s.held ∧ (s.trcSetState b st).latch = s.latch ∧
    (s.trcSetState b st).fns = s.fns ∧ (s.trcSetState b st).pce = s.pce ∧ (s.trcSetState b st).boot = s.boot ∧
    (s.trcSetState b st).pow = s.pow ∧ (s.trcSetState b st).obs = s.obs ∧ (s.trcSetState b st).ident = s.ident ∧
    (s.trcSetState b st).noc = s.noc ∧ (s.trcSetState b st).lines = s.lines ∧ (s.trcSetState b st).ms = s.ms ∧
    (s.trcSetState b st).ports = s.ports ∧ (s.trcSetState b st).torus = s.torus ∧ (s.trcSetState b st).sites = s.sites ∧
    (s.trcSetState b st).sec = s.sec ∧ (s.trcSetState b st).sdg = s.sdg ∧ (s.trcSetState b st).groups = s.groups ∧
    (s.trcSetState b st).mem = s.mem ∧ (s.trcSetState b st).poison = s.poison ∧ (s.trcSetState b st).flash = s.flash := by
  simp [State.trcSetState]

@[simp] theorem State.trcSetPtr_frame (s : State) (b : ℕ) (p : ℕ) :
    (s.trcSetPtr b p).time = s.time ∧ (s.trcSetPtr b p).draws = s.draws ∧ (s.trcSetPtr b p).tx = s.tx ∧
    (s.trcSetPtr b p).pending = s.pending ∧ (s.trcSetPtr b p).held = s.held ∧ (s.trcSetPtr b p).latch = s.latch ∧
    (s.trcSetPtr b p).fns = s.fns ∧ (s.trcSetPtr b p).pce = s.pce ∧ (s.trcSetPtr b p).boot = s.boot ∧ (s.trcSetPtr b p).pow = s.pow ∧
    (s.trcSetPtr b p).obs = s.obs ∧ (s.trcSetPtr b p).ident = s.ident ∧ (s.trcSetPtr b p).noc = s.noc ∧ (s.trcSetPtr b p).lines = s.lines ∧
    (s.trcSetPtr b p).ms = s.ms ∧ (s.trcSetPtr b p).ports = s.ports ∧ (s.trcSetPtr b p).torus = s.torus ∧
    (s.trcSetPtr b p).sites = s.sites ∧ (s.trcSetPtr b p).sec = s.sec ∧ (s.trcSetPtr b p).sdg = s.sdg ∧
    (s.trcSetPtr b p).groups = s.groups ∧ (s.trcSetPtr b p).mem = s.mem ∧ (s.trcSetPtr b p).poison = s.poison ∧
    (s.trcSetPtr b p).flash = s.flash := by
  simp [State.trcSetPtr]

@[simp] theorem State.trcPut_frame (s : State) (b : ℕ) (off : ℕ) (bytes : List Byte) :
    (s.trcPut b off bytes).time = s.time ∧ (s.trcPut b off bytes).draws = s.draws ∧ (s.trcPut b off bytes).tx = s.tx ∧
    (s.trcPut b off bytes).pending = s.pending ∧ (s.trcPut b off bytes).held = s.held ∧ (s.trcPut b off bytes).latch = s.latch ∧
    (s.trcPut b off bytes).fns = s.fns ∧ (s.trcPut b off bytes).pce = s.pce ∧ (s.trcPut b off bytes).boot = s.boot ∧
    (s.trcPut b off bytes).pow = s.pow ∧ (s.trcPut b off bytes).obs = s.obs ∧ (s.trcPut b off bytes).ident = s.ident ∧
    (s.trcPut b off bytes).noc = s.noc ∧ (s.trcPut b off bytes).lines = s.lines ∧ (s.trcPut b off bytes).ms = s.ms ∧
    (s.trcPut b off bytes).ports = s.ports ∧ (s.trcPut b off bytes).torus = s.torus ∧ (s.trcPut b off bytes).sites = s.sites ∧
    (s.trcPut b off bytes).sec = s.sec ∧ (s.trcPut b off bytes).sdg = s.sdg ∧ (s.trcPut b off bytes).groups = s.groups ∧
    (s.trcPut b off bytes).flash = s.flash := by
  simp [State.trcPut]

@[simp] theorem State.trcDrop_frame (s : State) (b : ℕ) (source : ℕ) (n : ℕ) :
    (s.trcDrop b source n).time = s.time ∧ (s.trcDrop b source n).draws = s.draws ∧ (s.trcDrop b source n).tx = s.tx ∧
    (s.trcDrop b source n).pending = s.pending ∧ (s.trcDrop b source n).held = s.held ∧ (s.trcDrop b source n).latch = s.latch ∧
    (s.trcDrop b source n).fns = s.fns ∧ (s.trcDrop b source n).pce = s.pce ∧ (s.trcDrop b source n).boot = s.boot ∧
    (s.trcDrop b source n).pow = s.pow ∧ (s.trcDrop b source n).ident = s.ident ∧ (s.trcDrop b source n).noc = s.noc ∧
    (s.trcDrop b source n).lines = s.lines ∧ (s.trcDrop b source n).ms = s.ms ∧ (s.trcDrop b source n).ports = s.ports ∧
    (s.trcDrop b source n).torus = s.torus ∧ (s.trcDrop b source n).sites = s.sites ∧ (s.trcDrop b source n).sec = s.sec ∧
    (s.trcDrop b source n).sdg = s.sdg ∧ (s.trcDrop b source n).groups = s.groups ∧ (s.trcDrop b source n).mem = s.mem ∧
    (s.trcDrop b source n).poison = s.poison ∧ (s.trcDrop b source n).flash = s.flash := by
  simp [State.trcDrop]

@[simp] theorem State.trcWrite_frame (s : State) (b : ℕ) (bytes : List Byte) :
    (s.trcWrite b bytes).time = s.time ∧ (s.trcWrite b bytes).draws = s.draws ∧ (s.trcWrite b bytes).tx = s.tx ∧
    (s.trcWrite b bytes).pending = s.pending ∧ (s.trcWrite b bytes).held = s.held ∧ (s.trcWrite b bytes).latch = s.latch ∧
    (s.trcWrite b bytes).fns = s.fns ∧ (s.trcWrite b bytes).pce = s.pce ∧ (s.trcWrite b bytes).boot = s.boot ∧
    (s.trcWrite b bytes).pow = s.pow ∧ (s.trcWrite b bytes).obs = s.obs ∧ (s.trcWrite b bytes).ident = s.ident ∧
    (s.trcWrite b bytes).noc = s.noc ∧ (s.trcWrite b bytes).lines = s.lines ∧ (s.trcWrite b bytes).ms = s.ms ∧
    (s.trcWrite b bytes).ports = s.ports ∧ (s.trcWrite b bytes).torus = s.torus ∧ (s.trcWrite b bytes).sites = s.sites ∧
    (s.trcWrite b bytes).sec = s.sec ∧ (s.trcWrite b bytes).sdg = s.sdg ∧ (s.trcWrite b bytes).groups = s.groups ∧
    (s.trcWrite b bytes).flash = s.flash := by
  simp [State.trcWrite]

@[simp] theorem State.trcOffer_frame (s : State) (b : ℕ) (source : ℕ) (bytes : List Byte) :
    (s.trcOffer b source bytes).time = s.time ∧ (s.trcOffer b source bytes).draws = s.draws ∧ (s.trcOffer b source bytes).tx = s.tx ∧
    (s.trcOffer b source bytes).pending = s.pending ∧ (s.trcOffer b source bytes).hub = s.hub ∧ (s.trcOffer b source bytes).held = s.held ∧
    (s.trcOffer b source bytes).latch = s.latch ∧ (s.trcOffer b source bytes).fns = s.fns ∧ (s.trcOffer b source bytes).pce = s.pce ∧
    (s.trcOffer b source bytes).boot = s.boot ∧ (s.trcOffer b source bytes).pow = s.pow ∧ (s.trcOffer b source bytes).ident = s.ident ∧
    (s.trcOffer b source bytes).noc = s.noc ∧ (s.trcOffer b source bytes).lines = s.lines ∧ (s.trcOffer b source bytes).ms = s.ms ∧
    (s.trcOffer b source bytes).ports = s.ports ∧ (s.trcOffer b source bytes).torus = s.torus ∧
    (s.trcOffer b source bytes).sites = s.sites ∧ (s.trcOffer b source bytes).sec = s.sec ∧ (s.trcOffer b source bytes).sdg = s.sdg ∧
    (s.trcOffer b source bytes).groups = s.groups ∧ (s.trcOffer b source bytes).mem = s.mem ∧
    (s.trcOffer b source bytes).poison = s.poison ∧ (s.trcOffer b source bytes).flash = s.flash := by
  simp [State.trcOffer]

@[simp] theorem State.trcTrigger_frame (s : State) (b : ℕ) (code : ℕ) (source : ℕ) :
    (s.trcTrigger b code source).time = s.time ∧ (s.trcTrigger b code source).draws = s.draws ∧ (s.trcTrigger b code source).tx = s.tx ∧
    (s.trcTrigger b code source).pending = s.pending ∧ (s.trcTrigger b code source).held = s.held ∧
    (s.trcTrigger b code source).latch = s.latch ∧ (s.trcTrigger b code source).fns = s.fns ∧ (s.trcTrigger b code source).pce = s.pce ∧
    (s.trcTrigger b code source).boot = s.boot ∧ (s.trcTrigger b code source).pow = s.pow ∧ (s.trcTrigger b code source).obs = s.obs ∧
    (s.trcTrigger b code source).ident = s.ident ∧ (s.trcTrigger b code source).noc = s.noc ∧ (s.trcTrigger b code source).lines = s.lines ∧
    (s.trcTrigger b code source).ms = s.ms ∧ (s.trcTrigger b code source).ports = s.ports ∧ (s.trcTrigger b code source).torus = s.torus ∧
    (s.trcTrigger b code source).sites = s.sites ∧ (s.trcTrigger b code source).sec = s.sec ∧ (s.trcTrigger b code source).sdg = s.sdg ∧
    (s.trcTrigger b code source).groups = s.groups ∧ (s.trcTrigger b code source).flash = s.flash := by
  simp [State.trcTrigger]

@[simp] theorem State.modEntry_frame (s : State) (fn : ℕ) (e : ℕ) (g : JEntry → JEntry) :
    (s.modEntry fn e g).time = s.time ∧ (s.modEntry fn e g).draws = s.draws ∧ (s.modEntry fn e g).tx = s.tx ∧
    (s.modEntry fn e g).pending = s.pending ∧ (s.modEntry fn e g).hub = s.hub ∧ (s.modEntry fn e g).held = s.held ∧
    (s.modEntry fn e g).latch = s.latch ∧ (s.modEntry fn e g).pce = s.pce ∧ (s.modEntry fn e g).boot = s.boot ∧
    (s.modEntry fn e g).pow = s.pow ∧ (s.modEntry fn e g).obs = s.obs ∧ (s.modEntry fn e g).ident = s.ident ∧
    (s.modEntry fn e g).noc = s.noc ∧ (s.modEntry fn e g).lines = s.lines ∧ (s.modEntry fn e g).ms = s.ms ∧
    (s.modEntry fn e g).ports = s.ports ∧ (s.modEntry fn e g).torus = s.torus ∧ (s.modEntry fn e g).sites = s.sites ∧
    (s.modEntry fn e g).sec = s.sec ∧ (s.modEntry fn e g).sdg = s.sdg ∧ (s.modEntry fn e g).groups = s.groups ∧
    (s.modEntry fn e g).mem = s.mem ∧ (s.modEntry fn e g).poison = s.poison ∧ (s.modEntry fn e g).flash = s.flash := by
  simp [State.modEntry]

@[simp] theorem State.setGrp_frame (s : State) (gid : ℕ) (g : Grp) :
    (s.setGrp gid g).time = s.time ∧ (s.setGrp gid g).draws = s.draws ∧ (s.setGrp gid g).tx = s.tx ∧ (s.setGrp gid g).pending = s.pending ∧
    (s.setGrp gid g).hub = s.hub ∧ (s.setGrp gid g).held = s.held ∧ (s.setGrp gid g).latch = s.latch ∧ (s.setGrp gid g).fns = s.fns ∧
    (s.setGrp gid g).pce = s.pce ∧ (s.setGrp gid g).boot = s.boot ∧ (s.setGrp gid g).pow = s.pow ∧ (s.setGrp gid g).obs = s.obs ∧
    (s.setGrp gid g).ident = s.ident ∧ (s.setGrp gid g).noc = s.noc ∧ (s.setGrp gid g).lines = s.lines ∧ (s.setGrp gid g).ms = s.ms ∧
    (s.setGrp gid g).ports = s.ports ∧ (s.setGrp gid g).torus = s.torus ∧ (s.setGrp gid g).sites = s.sites ∧ (s.setGrp gid g).sec = s.sec ∧
    (s.setGrp gid g).sdg = s.sdg ∧ (s.setGrp gid g).mem = s.mem ∧ (s.setGrp gid g).poison = s.poison ∧
    (s.setGrp gid g).flash = s.flash := by
  simp [State.setGrp]

@[simp] theorem State.modGrp_frame (s : State) (gid : ℕ) (h : Grp → Grp) :
    (s.modGrp gid h).time = s.time ∧ (s.modGrp gid h).draws = s.draws ∧ (s.modGrp gid h).tx = s.tx ∧ (s.modGrp gid h).pending = s.pending ∧
    (s.modGrp gid h).hub = s.hub ∧ (s.modGrp gid h).held = s.held ∧ (s.modGrp gid h).latch = s.latch ∧ (s.modGrp gid h).fns = s.fns ∧
    (s.modGrp gid h).pce = s.pce ∧ (s.modGrp gid h).boot = s.boot ∧ (s.modGrp gid h).pow = s.pow ∧ (s.modGrp gid h).obs = s.obs ∧
    (s.modGrp gid h).ident = s.ident ∧ (s.modGrp gid h).noc = s.noc ∧ (s.modGrp gid h).lines = s.lines ∧ (s.modGrp gid h).ms = s.ms ∧
    (s.modGrp gid h).ports = s.ports ∧ (s.modGrp gid h).torus = s.torus ∧ (s.modGrp gid h).sites = s.sites ∧ (s.modGrp gid h).sec = s.sec ∧
    (s.modGrp gid h).sdg = s.sdg ∧ (s.modGrp gid h).mem = s.mem ∧ (s.modGrp gid h).poison = s.poison ∧
    (s.modGrp gid h).flash = s.flash := by
  unfold State.modGrp; (repeat' split) <;> simp

@[simp] theorem State.checkpoint_frame (s : State) (fn : ℕ) :
    (s.checkpoint fn).time = s.time ∧ (s.checkpoint fn).draws = s.draws ∧ (s.checkpoint fn).tx = s.tx ∧
    (s.checkpoint fn).pending = s.pending ∧ (s.checkpoint fn).hub = s.hub ∧ (s.checkpoint fn).held = s.held ∧
    (s.checkpoint fn).latch = s.latch ∧ (s.checkpoint fn).pce = s.pce ∧ (s.checkpoint fn).boot = s.boot ∧ (s.checkpoint fn).pow = s.pow ∧
    (s.checkpoint fn).obs = s.obs ∧ (s.checkpoint fn).ident = s.ident ∧ (s.checkpoint fn).noc = s.noc ∧ (s.checkpoint fn).lines = s.lines ∧
    (s.checkpoint fn).ms = s.ms ∧ (s.checkpoint fn).ports = s.ports ∧ (s.checkpoint fn).torus = s.torus ∧
    (s.checkpoint fn).sites = s.sites ∧ (s.checkpoint fn).sec = s.sec ∧ (s.checkpoint fn).sdg = s.sdg ∧
    (s.checkpoint fn).groups = s.groups ∧ (s.checkpoint fn).mem = s.mem ∧ (s.checkpoint fn).poison = s.poison ∧
    (s.checkpoint fn).flash = s.flash := by
  simp [State.checkpoint]

@[simp] theorem State.pushAudit_frame (s : State) (fn : ℕ) (img : List Byte) :
    (s.pushAudit fn img).time = s.time ∧ (s.pushAudit fn img).draws = s.draws ∧ (s.pushAudit fn img).tx = s.tx ∧
    (s.pushAudit fn img).pending = s.pending ∧ (s.pushAudit fn img).hub = s.hub ∧ (s.pushAudit fn img).held = s.held ∧
    (s.pushAudit fn img).latch = s.latch ∧ (s.pushAudit fn img).pce = s.pce ∧ (s.pushAudit fn img).boot = s.boot ∧
    (s.pushAudit fn img).pow = s.pow ∧ (s.pushAudit fn img).obs = s.obs ∧ (s.pushAudit fn img).ident = s.ident ∧
    (s.pushAudit fn img).noc = s.noc ∧ (s.pushAudit fn img).lines = s.lines ∧ (s.pushAudit fn img).ms = s.ms ∧
    (s.pushAudit fn img).ports = s.ports ∧ (s.pushAudit fn img).torus = s.torus ∧ (s.pushAudit fn img).sites = s.sites ∧
    (s.pushAudit fn img).sec = s.sec ∧ (s.pushAudit fn img).sdg = s.sdg ∧ (s.pushAudit fn img).groups = s.groups ∧
    (s.pushAudit fn img).mem = s.mem ∧ (s.pushAudit fn img).poison = s.poison ∧ (s.pushAudit fn img).flash = s.flash := by
  simp [State.pushAudit]

@[simp] theorem State.noteDrained_frame (s : State) (fn : ℕ) :
    (s.noteDrained fn).time = s.time ∧ (s.noteDrained fn).draws = s.draws ∧ (s.noteDrained fn).pending = s.pending ∧
    (s.noteDrained fn).held = s.held ∧ (s.noteDrained fn).latch = s.latch ∧ (s.noteDrained fn).boot = s.boot ∧
    (s.noteDrained fn).pow = s.pow ∧ (s.noteDrained fn).obs = s.obs ∧ (s.noteDrained fn).ident = s.ident ∧ (s.noteDrained fn).noc = s.noc ∧
    (s.noteDrained fn).lines = s.lines ∧ (s.noteDrained fn).ms = s.ms ∧ (s.noteDrained fn).ports = s.ports ∧
    (s.noteDrained fn).torus = s.torus ∧ (s.noteDrained fn).sites = s.sites ∧ (s.noteDrained fn).sec = s.sec ∧
    (s.noteDrained fn).sdg = s.sdg ∧ (s.noteDrained fn).groups = s.groups ∧ (s.noteDrained fn).mem = s.mem ∧
    (s.noteDrained fn).poison = s.poison ∧ (s.noteDrained fn).flash = s.flash := by
  simp [State.noteDrained]

@[simp] theorem State.commitEntry_frame (s : State) (fn : ℕ) (e : ℕ) :
    (s.commitEntry fn e).time = s.time ∧ (s.commitEntry fn e).draws = s.draws ∧ (s.commitEntry fn e).tx = s.tx ∧
    (s.commitEntry fn e).pending = s.pending ∧ (s.commitEntry fn e).held = s.held ∧ (s.commitEntry fn e).latch = s.latch ∧
    (s.commitEntry fn e).pce = s.pce ∧ (s.commitEntry fn e).boot = s.boot ∧ (s.commitEntry fn e).pow = s.pow ∧
    (s.commitEntry fn e).obs = s.obs ∧ (s.commitEntry fn e).ident = s.ident ∧ (s.commitEntry fn e).noc = s.noc ∧
    (s.commitEntry fn e).lines = s.lines ∧ (s.commitEntry fn e).ms = s.ms ∧ (s.commitEntry fn e).ports = s.ports ∧
    (s.commitEntry fn e).torus = s.torus ∧ (s.commitEntry fn e).sites = s.sites ∧ (s.commitEntry fn e).sec = s.sec ∧
    (s.commitEntry fn e).sdg = s.sdg ∧ (s.commitEntry fn e).groups = s.groups ∧ (s.commitEntry fn e).mem = s.mem ∧
    (s.commitEntry fn e).poison = s.poison ∧ (s.commitEntry fn e).flash = s.flash := by
  unfold State.commitEntry; (repeat' split) <;> simp

@[simp] theorem State.settleOne_frame (s : State) (fn : ℕ) (e : ℕ) :
    (s.settleOne fn e).time = s.time ∧ (s.settleOne fn e).draws = s.draws ∧ (s.settleOne fn e).tx = s.tx ∧
    (s.settleOne fn e).pending = s.pending ∧ (s.settleOne fn e).held = s.held ∧ (s.settleOne fn e).latch = s.latch ∧
    (s.settleOne fn e).pce = s.pce ∧ (s.settleOne fn e).boot = s.boot ∧ (s.settleOne fn e).pow = s.pow ∧ (s.settleOne fn e).obs = s.obs ∧
    (s.settleOne fn e).ident = s.ident ∧ (s.settleOne fn e).noc = s.noc ∧ (s.settleOne fn e).lines = s.lines ∧
    (s.settleOne fn e).ms = s.ms ∧ (s.settleOne fn e).ports = s.ports ∧ (s.settleOne fn e).torus = s.torus ∧
    (s.settleOne fn e).sites = s.sites ∧ (s.settleOne fn e).sec = s.sec ∧ (s.settleOne fn e).sdg = s.sdg ∧
    (s.settleOne fn e).groups = s.groups ∧ (s.settleOne fn e).mem = s.mem ∧ (s.settleOne fn e).poison = s.poison ∧
    (s.settleOne fn e).flash = s.flash := by
  unfold State.settleOne; (repeat' split) <;> simp

@[simp] theorem State.settle_frame (s : State) (fn : ℕ) :
    (s.settle fn).time = s.time ∧ (s.settle fn).draws = s.draws ∧ (s.settle fn).tx = s.tx ∧ (s.settle fn).pending = s.pending ∧
    (s.settle fn).held = s.held ∧ (s.settle fn).latch = s.latch ∧ (s.settle fn).pce = s.pce ∧ (s.settle fn).boot = s.boot ∧
    (s.settle fn).pow = s.pow ∧ (s.settle fn).obs = s.obs ∧ (s.settle fn).ident = s.ident ∧ (s.settle fn).noc = s.noc ∧
    (s.settle fn).lines = s.lines ∧ (s.settle fn).ms = s.ms ∧ (s.settle fn).ports = s.ports ∧ (s.settle fn).torus = s.torus ∧
    (s.settle fn).sites = s.sites ∧ (s.settle fn).sec = s.sec ∧ (s.settle fn).sdg = s.sdg ∧ (s.settle fn).groups = s.groups ∧
    (s.settle fn).mem = s.mem ∧ (s.settle fn).poison = s.poison ∧ (s.settle fn).flash = s.flash := by
  simp [State.settle]

@[simp] theorem State.dropLoadReads_frame (s : State) (fn : ℕ) (e : ℕ) :
    (s.dropLoadReads fn e).time = s.time ∧ (s.dropLoadReads fn e).draws = s.draws ∧ (s.dropLoadReads fn e).tx = s.tx ∧
    (s.dropLoadReads fn e).pending = s.pending ∧ (s.dropLoadReads fn e).hub = s.hub ∧ (s.dropLoadReads fn e).held = s.held ∧
    (s.dropLoadReads fn e).latch = s.latch ∧ (s.dropLoadReads fn e).boot = s.boot ∧ (s.dropLoadReads fn e).pow = s.pow ∧
    (s.dropLoadReads fn e).obs = s.obs ∧ (s.dropLoadReads fn e).ident = s.ident ∧ (s.dropLoadReads fn e).noc = s.noc ∧
    (s.dropLoadReads fn e).lines = s.lines ∧ (s.dropLoadReads fn e).ms = s.ms ∧ (s.dropLoadReads fn e).ports = s.ports ∧
    (s.dropLoadReads fn e).torus = s.torus ∧ (s.dropLoadReads fn e).sites = s.sites ∧ (s.dropLoadReads fn e).sec = s.sec ∧
    (s.dropLoadReads fn e).sdg = s.sdg ∧ (s.dropLoadReads fn e).groups = s.groups ∧ (s.dropLoadReads fn e).mem = s.mem ∧
    (s.dropLoadReads fn e).poison = s.poison ∧ (s.dropLoadReads fn e).flash = s.flash := by
  simp [State.dropLoadReads]

@[simp] theorem State.decide_frame (s : State) (fn : ℕ) (e : ℕ) (status : ℕ) (detail : ℕ) :
    (s.decide fn e status detail).time = s.time ∧ (s.decide fn e status detail).draws = s.draws ∧ (s.decide fn e status detail).tx = s.tx ∧
    (s.decide fn e status detail).pending = s.pending ∧ (s.decide fn e status detail).hub = s.hub ∧
    (s.decide fn e status detail).held = s.held ∧ (s.decide fn e status detail).latch = s.latch ∧
    (s.decide fn e status detail).boot = s.boot ∧ (s.decide fn e status detail).pow = s.pow ∧ (s.decide fn e status detail).obs = s.obs ∧
    (s.decide fn e status detail).ident = s.ident ∧ (s.decide fn e status detail).noc = s.noc ∧
    (s.decide fn e status detail).lines = s.lines ∧ (s.decide fn e status detail).ms = s.ms ∧
    (s.decide fn e status detail).ports = s.ports ∧ (s.decide fn e status detail).torus = s.torus ∧
    (s.decide fn e status detail).sites = s.sites ∧ (s.decide fn e status detail).sec = s.sec ∧ (s.decide fn e status detail).sdg = s.sdg ∧
    (s.decide fn e status detail).groups = s.groups ∧ (s.decide fn e status detail).mem = s.mem ∧
    (s.decide fn e status detail).poison = s.poison ∧ (s.decide fn e status detail).flash = s.flash := by
  unfold State.decide; (repeat' split) <;> simp

@[simp] theorem State.endWindow_frame (s : State) (gid : ℕ) (sub : ℕ) :
    (s.endWindow gid sub).time = s.time ∧ (s.endWindow gid sub).draws = s.draws ∧ (s.endWindow gid sub).tx = s.tx ∧
    (s.endWindow gid sub).pending = s.pending ∧ (s.endWindow gid sub).hub = s.hub ∧ (s.endWindow gid sub).held = s.held ∧
    (s.endWindow gid sub).latch = s.latch ∧ (s.endWindow gid sub).fns = s.fns ∧ (s.endWindow gid sub).pce = s.pce ∧
    (s.endWindow gid sub).boot = s.boot ∧ (s.endWindow gid sub).pow = s.pow ∧ (s.endWindow gid sub).obs = s.obs ∧
    (s.endWindow gid sub).ident = s.ident ∧ (s.endWindow gid sub).noc = s.noc ∧ (s.endWindow gid sub).lines = s.lines ∧
    (s.endWindow gid sub).ms = s.ms ∧ (s.endWindow gid sub).ports = s.ports ∧ (s.endWindow gid sub).torus = s.torus ∧
    (s.endWindow gid sub).sec = s.sec ∧ (s.endWindow gid sub).sdg = s.sdg ∧ (s.endWindow gid sub).groups = s.groups ∧
    (s.endWindow gid sub).mem = s.mem ∧ (s.endWindow gid sub).poison = s.poison ∧ (s.endWindow gid sub).flash = s.flash := by
  simp [State.endWindow]

@[simp] theorem State.detach_frame (s : State) (gid : ℕ) (sub : ℕ) :
    (s.detach gid sub).time = s.time ∧ (s.detach gid sub).draws = s.draws ∧ (s.detach gid sub).tx = s.tx ∧
    (s.detach gid sub).pending = s.pending ∧ (s.detach gid sub).hub = s.hub ∧ (s.detach gid sub).held = s.held ∧
    (s.detach gid sub).latch = s.latch ∧ (s.detach gid sub).boot = s.boot ∧ (s.detach gid sub).pow = s.pow ∧
    (s.detach gid sub).obs = s.obs ∧ (s.detach gid sub).ident = s.ident ∧ (s.detach gid sub).noc = s.noc ∧
    (s.detach gid sub).lines = s.lines ∧ (s.detach gid sub).ports = s.ports ∧ (s.detach gid sub).torus = s.torus ∧
    (s.detach gid sub).sec = s.sec ∧ (s.detach gid sub).sdg = s.sdg ∧ (s.detach gid sub).groups = s.groups ∧
    (s.detach gid sub).mem = s.mem ∧ (s.detach gid sub).poison = s.poison ∧ (s.detach gid sub).flash = s.flash := by
  simp [State.detach]

@[simp] theorem State.dropGroup_frame (s : State) (gid : ℕ) (sub : ℕ) :
    (s.dropGroup gid sub).time = s.time ∧ (s.dropGroup gid sub).draws = s.draws ∧ (s.dropGroup gid sub).tx = s.tx ∧
    (s.dropGroup gid sub).pending = s.pending ∧ (s.dropGroup gid sub).hub = s.hub ∧ (s.dropGroup gid sub).held = s.held ∧
    (s.dropGroup gid sub).latch = s.latch ∧ (s.dropGroup gid sub).boot = s.boot ∧ (s.dropGroup gid sub).pow = s.pow ∧
    (s.dropGroup gid sub).obs = s.obs ∧ (s.dropGroup gid sub).ident = s.ident ∧ (s.dropGroup gid sub).noc = s.noc ∧
    (s.dropGroup gid sub).lines = s.lines ∧ (s.dropGroup gid sub).ports = s.ports ∧ (s.dropGroup gid sub).torus = s.torus ∧
    (s.dropGroup gid sub).sec = s.sec ∧ (s.dropGroup gid sub).sdg = s.sdg ∧ (s.dropGroup gid sub).mem = s.mem ∧
    (s.dropGroup gid sub).poison = s.poison ∧ (s.dropGroup gid sub).flash = s.flash := by
  simp [State.dropGroup]

@[simp] theorem State.noteRunning_frame (s : State) (fn : ℕ) :
    (s.noteRunning fn).time = s.time ∧ (s.noteRunning fn).draws = s.draws ∧ (s.noteRunning fn).tx = s.tx ∧
    (s.noteRunning fn).pending = s.pending ∧ (s.noteRunning fn).hub = s.hub ∧ (s.noteRunning fn).held = s.held ∧
    (s.noteRunning fn).latch = s.latch ∧ (s.noteRunning fn).pce = s.pce ∧ (s.noteRunning fn).boot = s.boot ∧
    (s.noteRunning fn).pow = s.pow ∧ (s.noteRunning fn).obs = s.obs ∧ (s.noteRunning fn).ident = s.ident ∧ (s.noteRunning fn).noc = s.noc ∧
    (s.noteRunning fn).lines = s.lines ∧ (s.noteRunning fn).ms = s.ms ∧ (s.noteRunning fn).ports = s.ports ∧
    (s.noteRunning fn).torus = s.torus ∧ (s.noteRunning fn).sites = s.sites ∧ (s.noteRunning fn).sec = s.sec ∧
    (s.noteRunning fn).sdg = s.sdg ∧ (s.noteRunning fn).groups = s.groups ∧ (s.noteRunning fn).mem = s.mem ∧
    (s.noteRunning fn).poison = s.poison ∧ (s.noteRunning fn).flash = s.flash := by
  simp [State.noteRunning]

@[simp] theorem State.leaveHirsels_frame (s : State) :
    s.leaveHirsels.time = s.time ∧ s.leaveHirsels.draws = s.draws ∧ s.leaveHirsels.tx = s.tx ∧ s.leaveHirsels.pending = s.pending ∧
    s.leaveHirsels.hub = s.hub ∧ s.leaveHirsels.held = s.held ∧ s.leaveHirsels.latch = s.latch ∧ s.leaveHirsels.pce = s.pce ∧
    s.leaveHirsels.boot = s.boot ∧ s.leaveHirsels.pow = s.pow ∧ s.leaveHirsels.obs = s.obs ∧ s.leaveHirsels.ident = s.ident ∧
    s.leaveHirsels.noc = s.noc ∧ s.leaveHirsels.lines = s.lines ∧ s.leaveHirsels.ports = s.ports ∧ s.leaveHirsels.torus = s.torus ∧
    s.leaveHirsels.sites = s.sites ∧ s.leaveHirsels.sec = s.sec ∧ s.leaveHirsels.sdg = s.sdg ∧ s.leaveHirsels.groups = s.groups ∧
    s.leaveHirsels.flash = s.flash := by
  simp [State.leaveHirsels]

@[simp] theorem State.restartGroup_frame (s : State) (gid : ℕ) :
    (s.restartGroup gid).time = s.time ∧ (s.restartGroup gid).draws = s.draws ∧ (s.restartGroup gid).tx = s.tx ∧
    (s.restartGroup gid).pending = s.pending ∧ (s.restartGroup gid).held = s.held ∧ (s.restartGroup gid).latch = s.latch ∧
    (s.restartGroup gid).boot = s.boot ∧ (s.restartGroup gid).pow = s.pow ∧ (s.restartGroup gid).obs = s.obs ∧
    (s.restartGroup gid).ident = s.ident ∧ (s.restartGroup gid).noc = s.noc ∧ (s.restartGroup gid).lines = s.lines ∧
    (s.restartGroup gid).ports = s.ports ∧ (s.restartGroup gid).torus = s.torus ∧ (s.restartGroup gid).sec = s.sec ∧
    (s.restartGroup gid).sdg = s.sdg ∧ (s.restartGroup gid).mem = s.mem ∧ (s.restartGroup gid).poison = s.poison ∧
    (s.restartGroup gid).flash = s.flash := by
  unfold State.restartGroup; (repeat' split) <;> simp

@[simp] theorem State.restartForwarded_frame (s : State) (gid : ℕ) :
    (s.restartForwarded gid).time = s.time ∧ (s.restartForwarded gid).draws = s.draws ∧ (s.restartForwarded gid).tx = s.tx ∧
    (s.restartForwarded gid).pending = s.pending ∧ (s.restartForwarded gid).held = s.held ∧ (s.restartForwarded gid).latch = s.latch ∧
    (s.restartForwarded gid).boot = s.boot ∧ (s.restartForwarded gid).pow = s.pow ∧ (s.restartForwarded gid).obs = s.obs ∧
    (s.restartForwarded gid).ident = s.ident ∧ (s.restartForwarded gid).noc = s.noc ∧ (s.restartForwarded gid).lines = s.lines ∧
    (s.restartForwarded gid).ports = s.ports ∧ (s.restartForwarded gid).torus = s.torus ∧ (s.restartForwarded gid).sec = s.sec ∧
    (s.restartForwarded gid).sdg = s.sdg ∧ (s.restartForwarded gid).mem = s.mem ∧ (s.restartForwarded gid).poison = s.poison ∧
    (s.restartForwarded gid).flash = s.flash := by
  unfold State.restartForwarded
  dsimp only
  (repeat' split) <;> (repeat' apply And.intro) <;> (try simp) <;> (try apply foldl_keep) <;> intros <;> (repeat' split) <;> simp_all

@[simp] theorem State.endRecord_frame (s : State) (gid : ℕ) (fn : ℕ) (e : ℕ) (status : ℕ) (detail : ℕ) :
    (s.endRecord gid fn e status detail).time = s.time ∧ (s.endRecord gid fn e status detail).draws = s.draws ∧
    (s.endRecord gid fn e status detail).tx = s.tx ∧ (s.endRecord gid fn e status detail).pending = s.pending ∧
    (s.endRecord gid fn e status detail).held = s.held ∧ (s.endRecord gid fn e status detail).latch = s.latch ∧
    (s.endRecord gid fn e status detail).boot = s.boot ∧ (s.endRecord gid fn e status detail).pow = s.pow ∧
    (s.endRecord gid fn e status detail).obs = s.obs ∧ (s.endRecord gid fn e status detail).ident = s.ident ∧
    (s.endRecord gid fn e status detail).noc = s.noc ∧ (s.endRecord gid fn e status detail).lines = s.lines ∧
    (s.endRecord gid fn e status detail).ports = s.ports ∧ (s.endRecord gid fn e status detail).torus = s.torus ∧
    (s.endRecord gid fn e status detail).sec = s.sec ∧ (s.endRecord gid fn e status detail).sdg = s.sdg ∧
    (s.endRecord gid fn e status detail).flash = s.flash := by
  simp [State.endRecord]

@[simp] theorem State.quiesceCommit_frame (s : State) (fn : ℕ) :
    (s.quiesceCommit fn).time = s.time ∧ (s.quiesceCommit fn).draws = s.draws ∧ (s.quiesceCommit fn).pending = s.pending ∧
    (s.quiesceCommit fn).held = s.held ∧ (s.quiesceCommit fn).latch = s.latch ∧ (s.quiesceCommit fn).boot = s.boot ∧
    (s.quiesceCommit fn).pow = s.pow ∧ (s.quiesceCommit fn).obs = s.obs ∧ (s.quiesceCommit fn).ident = s.ident ∧
    (s.quiesceCommit fn).noc = s.noc ∧ (s.quiesceCommit fn).lines = s.lines ∧ (s.quiesceCommit fn).ms = s.ms ∧
    (s.quiesceCommit fn).ports = s.ports ∧ (s.quiesceCommit fn).torus = s.torus ∧ (s.quiesceCommit fn).sites = s.sites ∧
    (s.quiesceCommit fn).sec = s.sec ∧ (s.quiesceCommit fn).sdg = s.sdg ∧ (s.quiesceCommit fn).groups = s.groups ∧
    (s.quiesceCommit fn).mem = s.mem ∧ (s.quiesceCommit fn).poison = s.poison ∧ (s.quiesceCommit fn).flash = s.flash := by
  unfold State.quiesceCommit; (repeat' split) <;> simp

@[simp] theorem State.quiesceSweep_frame (s : State) (fn : ℕ) :
    (s.quiesceSweep fn).time = s.time ∧ (s.quiesceSweep fn).draws = s.draws ∧ (s.quiesceSweep fn).tx = s.tx ∧
    (s.quiesceSweep fn).pending = s.pending ∧ (s.quiesceSweep fn).held = s.held ∧ (s.quiesceSweep fn).latch = s.latch ∧
    (s.quiesceSweep fn).boot = s.boot ∧ (s.quiesceSweep fn).pow = s.pow ∧ (s.quiesceSweep fn).obs = s.obs ∧
    (s.quiesceSweep fn).ident = s.ident ∧ (s.quiesceSweep fn).noc = s.noc ∧ (s.quiesceSweep fn).lines = s.lines ∧
    (s.quiesceSweep fn).ports = s.ports ∧ (s.quiesceSweep fn).torus = s.torus ∧ (s.quiesceSweep fn).sec = s.sec ∧
    (s.quiesceSweep fn).sdg = s.sdg ∧ (s.quiesceSweep fn).flash = s.flash := by
  unfold State.quiesceSweep
  dsimp only
  (repeat' split) <;> (repeat' apply And.intro) <;> (try simp) <;> (try apply foldl_keep) <;> intros <;> (repeat' split) <;> simp_all

@[simp] theorem State.progress_frame (s : State) (fn : ℕ) :
    (s.progress fn).time = s.time ∧ (s.progress fn).draws = s.draws ∧ (s.progress fn).pending = s.pending ∧ (s.progress fn).held = s.held ∧
    (s.progress fn).latch = s.latch ∧ (s.progress fn).boot = s.boot ∧ (s.progress fn).pow = s.pow ∧ (s.progress fn).obs = s.obs ∧
    (s.progress fn).ident = s.ident ∧ (s.progress fn).noc = s.noc ∧ (s.progress fn).lines = s.lines ∧ (s.progress fn).ports = s.ports ∧
    (s.progress fn).torus = s.torus ∧ (s.progress fn).sec = s.sec ∧ (s.progress fn).sdg = s.sdg ∧ (s.progress fn).flash = s.flash := by
  simp [State.progress]

@[simp] theorem State.countOverflow_frame (s : State) (cls : FaultClass) (block : ℕ) :
    (s.countOverflow cls block).time = s.time ∧ (s.countOverflow cls block).draws = s.draws ∧ (s.countOverflow cls block).tx = s.tx ∧
    (s.countOverflow cls block).pending = s.pending ∧ (s.countOverflow cls block).held = s.held ∧
    (s.countOverflow cls block).latch = s.latch ∧ (s.countOverflow cls block).fns = s.fns ∧ (s.countOverflow cls block).pce = s.pce ∧
    (s.countOverflow cls block).boot = s.boot ∧ (s.countOverflow cls block).pow = s.pow ∧ (s.countOverflow cls block).obs = s.obs ∧
    (s.countOverflow cls block).ident = s.ident ∧ (s.countOverflow cls block).noc = s.noc ∧ (s.countOverflow cls block).lines = s.lines ∧
    (s.countOverflow cls block).ms = s.ms ∧ (s.countOverflow cls block).ports = s.ports ∧ (s.countOverflow cls block).torus = s.torus ∧
    (s.countOverflow cls block).sites = s.sites ∧ (s.countOverflow cls block).sec = s.sec ∧ (s.countOverflow cls block).sdg = s.sdg ∧
    (s.countOverflow cls block).groups = s.groups ∧ (s.countOverflow cls block).mem = s.mem ∧
    (s.countOverflow cls block).poison = s.poison ∧ (s.countOverflow cls block).flash = s.flash := by
  unfold State.countOverflow; (repeat' split) <;> simp

@[simp] theorem State.setQueue_frame (s : State) (q : SMap SdgEntry) :
    (s.setQueue q).time = s.time ∧ (s.setQueue q).draws = s.draws ∧ (s.setQueue q).tx = s.tx ∧ (s.setQueue q).pending = s.pending ∧
    (s.setQueue q).hub = s.hub ∧ (s.setQueue q).held = s.held ∧ (s.setQueue q).latch = s.latch ∧ (s.setQueue q).fns = s.fns ∧
    (s.setQueue q).pce = s.pce ∧ (s.setQueue q).boot = s.boot ∧ (s.setQueue q).pow = s.pow ∧ (s.setQueue q).obs = s.obs ∧
    (s.setQueue q).ident = s.ident ∧ (s.setQueue q).noc = s.noc ∧ (s.setQueue q).lines = s.lines ∧ (s.setQueue q).ms = s.ms ∧
    (s.setQueue q).ports = s.ports ∧ (s.setQueue q).torus = s.torus ∧ (s.setQueue q).sites = s.sites ∧ (s.setQueue q).sec = s.sec ∧
    (s.setQueue q).groups = s.groups ∧ (s.setQueue q).mem = s.mem ∧ (s.setQueue q).poison = s.poison ∧ (s.setQueue q).flash = s.flash := by
  simp [State.setQueue]

@[simp] theorem State.capture_frame (s : State) (e : SdgEntry) :
    (s.capture e).time = s.time ∧ (s.capture e).draws = s.draws ∧ (s.capture e).tx = s.tx ∧ (s.capture e).pending = s.pending ∧
    (s.capture e).held = s.held ∧ (s.capture e).latch = s.latch ∧ (s.capture e).fns = s.fns ∧ (s.capture e).pce = s.pce ∧
    (s.capture e).boot = s.boot ∧ (s.capture e).pow = s.pow ∧ (s.capture e).obs = s.obs ∧ (s.capture e).ident = s.ident ∧
    (s.capture e).noc = s.noc ∧ (s.capture e).lines = s.lines ∧ (s.capture e).ms = s.ms ∧ (s.capture e).ports = s.ports ∧
    (s.capture e).torus = s.torus ∧ (s.capture e).sites = s.sites ∧ (s.capture e).sec = s.sec ∧ (s.capture e).sdg = s.sdg ∧
    (s.capture e).groups = s.groups ∧ (s.capture e).mem = s.mem ∧ (s.capture e).poison = s.poison ∧ (s.capture e).flash = s.flash := by
  simp [State.capture]

@[simp] theorem State.aerCor_frame (s : State) (fn : ℕ) (bit : ℕ) :
    (s.aerCor fn bit).time = s.time ∧ (s.aerCor fn bit).draws = s.draws ∧ (s.aerCor fn bit).tx = s.tx ∧
    (s.aerCor fn bit).pending = s.pending ∧ (s.aerCor fn bit).hub = s.hub ∧ (s.aerCor fn bit).held = s.held ∧
    (s.aerCor fn bit).latch = s.latch ∧ (s.aerCor fn bit).fns = s.fns ∧ (s.aerCor fn bit).boot = s.boot ∧ (s.aerCor fn bit).pow = s.pow ∧
    (s.aerCor fn bit).obs = s.obs ∧ (s.aerCor fn bit).ident = s.ident ∧ (s.aerCor fn bit).noc = s.noc ∧ (s.aerCor fn bit).lines = s.lines ∧
    (s.aerCor fn bit).ms = s.ms ∧ (s.aerCor fn bit).ports = s.ports ∧ (s.aerCor fn bit).torus = s.torus ∧
    (s.aerCor fn bit).sites = s.sites ∧ (s.aerCor fn bit).sec = s.sec ∧ (s.aerCor fn bit).sdg = s.sdg ∧
    (s.aerCor fn bit).groups = s.groups ∧ (s.aerCor fn bit).mem = s.mem ∧ (s.aerCor fn bit).poison = s.poison ∧
    (s.aerCor fn bit).flash = s.flash := by
  simp [State.aerCor]

@[simp] theorem State.aerUnc_frame (s : State) (fn : ℕ) (bit : ℕ) :
    (s.aerUnc fn bit).time = s.time ∧ (s.aerUnc fn bit).draws = s.draws ∧ (s.aerUnc fn bit).tx = s.tx ∧
    (s.aerUnc fn bit).pending = s.pending ∧ (s.aerUnc fn bit).hub = s.hub ∧ (s.aerUnc fn bit).held = s.held ∧
    (s.aerUnc fn bit).latch = s.latch ∧ (s.aerUnc fn bit).fns = s.fns ∧ (s.aerUnc fn bit).boot = s.boot ∧ (s.aerUnc fn bit).pow = s.pow ∧
    (s.aerUnc fn bit).obs = s.obs ∧ (s.aerUnc fn bit).ident = s.ident ∧ (s.aerUnc fn bit).noc = s.noc ∧ (s.aerUnc fn bit).lines = s.lines ∧
    (s.aerUnc fn bit).ms = s.ms ∧ (s.aerUnc fn bit).ports = s.ports ∧ (s.aerUnc fn bit).torus = s.torus ∧
    (s.aerUnc fn bit).sites = s.sites ∧ (s.aerUnc fn bit).sec = s.sec ∧ (s.aerUnc fn bit).sdg = s.sdg ∧
    (s.aerUnc fn bit).groups = s.groups ∧ (s.aerUnc fn bit).mem = s.mem ∧ (s.aerUnc fn bit).poison = s.poison ∧
    (s.aerUnc fn bit).flash = s.flash := by
  simp [State.aerUnc]

@[simp] theorem State.aerEntry_frame (s : State) (e : SdgEntry) :
    (s.aerEntry e).time = s.time ∧ (s.aerEntry e).draws = s.draws ∧ (s.aerEntry e).pending = s.pending ∧ (s.aerEntry e).hub = s.hub ∧
    (s.aerEntry e).held = s.held ∧ (s.aerEntry e).latch = s.latch ∧ (s.aerEntry e).fns = s.fns ∧ (s.aerEntry e).boot = s.boot ∧
    (s.aerEntry e).pow = s.pow ∧ (s.aerEntry e).obs = s.obs ∧ (s.aerEntry e).ident = s.ident ∧ (s.aerEntry e).noc = s.noc ∧
    (s.aerEntry e).lines = s.lines ∧ (s.aerEntry e).ms = s.ms ∧ (s.aerEntry e).ports = s.ports ∧ (s.aerEntry e).torus = s.torus ∧
    (s.aerEntry e).sites = s.sites ∧ (s.aerEntry e).sec = s.sec ∧ (s.aerEntry e).sdg = s.sdg ∧ (s.aerEntry e).groups = s.groups ∧
    (s.aerEntry e).mem = s.mem ∧ (s.aerEntry e).poison = s.poison ∧ (s.aerEntry e).flash = s.flash := by
  unfold State.aerEntry
  dsimp only
  (repeat' split) <;> (repeat' apply And.intro) <;> (try simp) <;> (try apply foldl_keep) <;> intros <;> (repeat' split) <;> simp_all

@[simp] theorem State.traceEntry_frame (s : State) (e : SdgEntry) :
    (s.traceEntry e).time = s.time ∧ (s.traceEntry e).draws = s.draws ∧ (s.traceEntry e).tx = s.tx ∧ (s.traceEntry e).pending = s.pending ∧
    (s.traceEntry e).held = s.held ∧ (s.traceEntry e).latch = s.latch ∧ (s.traceEntry e).fns = s.fns ∧ (s.traceEntry e).pce = s.pce ∧
    (s.traceEntry e).boot = s.boot ∧ (s.traceEntry e).pow = s.pow ∧ (s.traceEntry e).ident = s.ident ∧ (s.traceEntry e).noc = s.noc ∧
    (s.traceEntry e).lines = s.lines ∧ (s.traceEntry e).ms = s.ms ∧ (s.traceEntry e).ports = s.ports ∧ (s.traceEntry e).torus = s.torus ∧
    (s.traceEntry e).sites = s.sites ∧ (s.traceEntry e).sec = s.sec ∧ (s.traceEntry e).sdg = s.sdg ∧ (s.traceEntry e).groups = s.groups ∧
    (s.traceEntry e).flash = s.flash := by
  simp [State.traceEntry]

@[simp] theorem State.entryMade_frame (s : State) (e : SdgEntry) :
    (s.entryMade e).time = s.time ∧ (s.entryMade e).draws = s.draws ∧ (s.entryMade e).pending = s.pending ∧ (s.entryMade e).held = s.held ∧
    (s.entryMade e).latch = s.latch ∧ (s.entryMade e).fns = s.fns ∧ (s.entryMade e).boot = s.boot ∧ (s.entryMade e).pow = s.pow ∧
    (s.entryMade e).ident = s.ident ∧ (s.entryMade e).noc = s.noc ∧ (s.entryMade e).lines = s.lines ∧ (s.entryMade e).ms = s.ms ∧
    (s.entryMade e).ports = s.ports ∧ (s.entryMade e).torus = s.torus ∧ (s.entryMade e).sites = s.sites ∧ (s.entryMade e).sec = s.sec ∧
    (s.entryMade e).sdg = s.sdg ∧ (s.entryMade e).groups = s.groups ∧ (s.entryMade e).flash = s.flash := by
  unfold State.entryMade; (repeat' split) <;> simp

@[simp] theorem State.placeReport_frame (s : State) (r : Report) :
    (s.placeReport r).time = s.time ∧ (s.placeReport r).draws = s.draws ∧ (s.placeReport r).pending = s.pending ∧
    (s.placeReport r).held = s.held ∧ (s.placeReport r).latch = s.latch ∧ (s.placeReport r).fns = s.fns ∧ (s.placeReport r).boot = s.boot ∧
    (s.placeReport r).pow = s.pow ∧ (s.placeReport r).ident = s.ident ∧ (s.placeReport r).noc = s.noc ∧ (s.placeReport r).lines = s.lines ∧
    (s.placeReport r).ms = s.ms ∧ (s.placeReport r).ports = s.ports ∧ (s.placeReport r).torus = s.torus ∧
    (s.placeReport r).sites = s.sites ∧ (s.placeReport r).sec = s.sec ∧ (s.placeReport r).groups = s.groups ∧
    (s.placeReport r).flash = s.flash := by
  unfold State.placeReport
  dsimp only
  (repeat' split) <;> (repeat' apply And.intro) <;> (try simp) <;> (try apply foldl_keep) <;> intros <;> (repeat' split) <;> simp_all

@[simp] theorem State.failStart_frame (s : State) (reason : ℕ) :
    (s.failStart reason).time = s.time ∧ (s.failStart reason).draws = s.draws ∧ (s.failStart reason).tx = s.tx ∧
    (s.failStart reason).pending = s.pending ∧ (s.failStart reason).hub = s.hub ∧ (s.failStart reason).held = s.held ∧
    (s.failStart reason).latch = s.latch ∧ (s.failStart reason).fns = s.fns ∧ (s.failStart reason).pce = s.pce ∧
    (s.failStart reason).pow = s.pow ∧ (s.failStart reason).obs = s.obs ∧ (s.failStart reason).ident = s.ident ∧
    (s.failStart reason).noc = s.noc ∧ (s.failStart reason).lines = s.lines ∧ (s.failStart reason).ms = s.ms ∧
    (s.failStart reason).ports = s.ports ∧ (s.failStart reason).torus = s.torus ∧ (s.failStart reason).sites = s.sites ∧
    (s.failStart reason).sec = s.sec ∧ (s.failStart reason).sdg = s.sdg ∧ (s.failStart reason).groups = s.groups ∧
    (s.failStart reason).mem = s.mem ∧ (s.failStart reason).poison = s.poison ∧ (s.failStart reason).flash = s.flash := by
  simp [State.failStart]

@[simp] theorem State.stopAll_frame (s : State) :
    s.stopAll.time = s.time ∧ s.stopAll.draws = s.draws ∧ s.stopAll.tx = s.tx ∧ s.stopAll.pending = s.pending ∧ s.stopAll.hub = s.hub ∧
    s.stopAll.held = s.held ∧ s.stopAll.latch = s.latch ∧ s.stopAll.boot = s.boot ∧ s.stopAll.pow = s.pow ∧ s.stopAll.obs = s.obs ∧
    s.stopAll.ident = s.ident ∧ s.stopAll.noc = s.noc ∧ s.stopAll.lines = s.lines ∧ s.stopAll.ports = s.ports ∧ s.stopAll.torus = s.torus ∧
    s.stopAll.sec = s.sec ∧ s.stopAll.sdg = s.sdg ∧ s.stopAll.flash = s.flash := by
  simp [State.stopAll]

@[simp] theorem State.sendFenced_frame (s : State) :
    s.sendFenced.time = s.time ∧ s.sendFenced.draws = s.draws ∧ s.sendFenced.pending = s.pending ∧ s.sendFenced.hub = s.hub ∧
    s.sendFenced.held = s.held ∧ s.sendFenced.latch = s.latch ∧ s.sendFenced.fns = s.fns ∧ s.sendFenced.pce = s.pce ∧
    s.sendFenced.boot = s.boot ∧ s.sendFenced.pow = s.pow ∧ s.sendFenced.obs = s.obs ∧ s.sendFenced.ident = s.ident ∧
    s.sendFenced.noc = s.noc ∧ s.sendFenced.lines = s.lines ∧ s.sendFenced.ms = s.ms ∧ s.sendFenced.ports = s.ports ∧
    s.sendFenced.torus = s.torus ∧ s.sendFenced.sites = s.sites ∧ s.sendFenced.sec = s.sec ∧ s.sendFenced.sdg = s.sdg ∧
    s.sendFenced.groups = s.groups ∧ s.sendFenced.mem = s.mem ∧ s.sendFenced.poison = s.poison ∧ s.sendFenced.flash = s.flash := by
  simp [State.sendFenced]

@[simp] theorem State.enterSafe_frame (s : State) (cause : ℕ) (self : Bool) :
    (s.enterSafe cause self).time = s.time ∧ (s.enterSafe cause self).draws = s.draws ∧ (s.enterSafe cause self).pending = s.pending ∧
    (s.enterSafe cause self).held = s.held ∧ (s.enterSafe cause self).latch = s.latch ∧ (s.enterSafe cause self).pow = s.pow ∧
    (s.enterSafe cause self).obs = s.obs ∧ (s.enterSafe cause self).ident = s.ident ∧ (s.enterSafe cause self).noc = s.noc ∧
    (s.enterSafe cause self).lines = s.lines ∧ (s.enterSafe cause self).ports = s.ports ∧ (s.enterSafe cause self).torus = s.torus ∧
    (s.enterSafe cause self).sec = s.sec ∧ (s.enterSafe cause self).flash = s.flash := by
  simp [State.enterSafe]

@[simp] theorem State.report_frame (s : State) (r : Report) :
    (s.report r).time = s.time ∧ (s.report r).draws = s.draws ∧ (s.report r).pending = s.pending ∧ (s.report r).held = s.held ∧
    (s.report r).latch = s.latch ∧ (s.report r).pow = s.pow ∧ (s.report r).ident = s.ident ∧ (s.report r).noc = s.noc ∧
    (s.report r).lines = s.lines ∧ (s.report r).ports = s.ports ∧ (s.report r).torus = s.torus ∧ (s.report r).sec = s.sec ∧
    (s.report r).flash = s.flash := by
  unfold State.report; (repeat' split) <;> simp

@[simp] theorem State.replaceHirsel_frame (s : State) (h : ℕ) :
    (s.replaceHirsel h).time = s.time ∧ (s.replaceHirsel h).draws = s.draws ∧ (s.replaceHirsel h).tx = s.tx ∧
    (s.replaceHirsel h).pending = s.pending ∧ (s.replaceHirsel h).hub = s.hub ∧ (s.replaceHirsel h).held = s.held ∧
    (s.replaceHirsel h).latch = s.latch ∧ (s.replaceHirsel h).pce = s.pce ∧ (s.replaceHirsel h).boot = s.boot ∧
    (s.replaceHirsel h).pow = s.pow ∧ (s.replaceHirsel h).obs = s.obs ∧ (s.replaceHirsel h).ident = s.ident ∧
    (s.replaceHirsel h).noc = s.noc ∧ (s.replaceHirsel h).lines = s.lines ∧ (s.replaceHirsel h).ports = s.ports ∧
    (s.replaceHirsel h).torus = s.torus ∧ (s.replaceHirsel h).sites = s.sites ∧ (s.replaceHirsel h).sec = s.sec ∧
    (s.replaceHirsel h).sdg = s.sdg ∧ (s.replaceHirsel h).groups = s.groups ∧ (s.replaceHirsel h).flash = s.flash := by
  unfold State.replaceHirsel; (repeat' split) <;> simp

@[simp] theorem State.replaceHirsels_frame (s : State) (hs : List ℕ) :
    (s.replaceHirsels hs).time = s.time ∧ (s.replaceHirsels hs).draws = s.draws ∧ (s.replaceHirsels hs).tx = s.tx ∧
    (s.replaceHirsels hs).pending = s.pending ∧ (s.replaceHirsels hs).hub = s.hub ∧ (s.replaceHirsels hs).held = s.held ∧
    (s.replaceHirsels hs).latch = s.latch ∧ (s.replaceHirsels hs).pce = s.pce ∧ (s.replaceHirsels hs).boot = s.boot ∧
    (s.replaceHirsels hs).pow = s.pow ∧ (s.replaceHirsels hs).obs = s.obs ∧ (s.replaceHirsels hs).ident = s.ident ∧
    (s.replaceHirsels hs).noc = s.noc ∧ (s.replaceHirsels hs).lines = s.lines ∧ (s.replaceHirsels hs).ports = s.ports ∧
    (s.replaceHirsels hs).torus = s.torus ∧ (s.replaceHirsels hs).sites = s.sites ∧ (s.replaceHirsels hs).sec = s.sec ∧
    (s.replaceHirsels hs).sdg = s.sdg ∧ (s.replaceHirsels hs).groups = s.groups ∧ (s.replaceHirsels hs).flash = s.flash := by
  simp [State.replaceHirsels]

@[simp] theorem State.journalStackLost_frame (s : State) (stack : ℕ) :
    (s.journalStackLost stack).time = s.time ∧ (s.journalStackLost stack).draws = s.draws ∧ (s.journalStackLost stack).tx = s.tx ∧
    (s.journalStackLost stack).pending = s.pending ∧ (s.journalStackLost stack).hub = s.hub ∧ (s.journalStackLost stack).held = s.held ∧
    (s.journalStackLost stack).latch = s.latch ∧ (s.journalStackLost stack).pce = s.pce ∧ (s.journalStackLost stack).boot = s.boot ∧
    (s.journalStackLost stack).pow = s.pow ∧ (s.journalStackLost stack).obs = s.obs ∧ (s.journalStackLost stack).ident = s.ident ∧
    (s.journalStackLost stack).noc = s.noc ∧ (s.journalStackLost stack).lines = s.lines ∧ (s.journalStackLost stack).ms = s.ms ∧
    (s.journalStackLost stack).ports = s.ports ∧ (s.journalStackLost stack).torus = s.torus ∧ (s.journalStackLost stack).sites = s.sites ∧
    (s.journalStackLost stack).sec = s.sec ∧ (s.journalStackLost stack).sdg = s.sdg ∧ (s.journalStackLost stack).groups = s.groups ∧
    (s.journalStackLost stack).mem = s.mem ∧ (s.journalStackLost stack).poison = s.poison ∧ (s.journalStackLost stack).flash = s.flash := by
  simp [State.journalStackLost]

@[simp] theorem State.pastureStackLost_frame (s : State) (stack : ℕ) :
    (s.pastureStackLost stack).time = s.time ∧ (s.pastureStackLost stack).draws = s.draws ∧ (s.pastureStackLost stack).tx = s.tx ∧
    (s.pastureStackLost stack).pending = s.pending ∧ (s.pastureStackLost stack).held = s.held ∧ (s.pastureStackLost stack).latch = s.latch ∧
    (s.pastureStackLost stack).fns = s.fns ∧ (s.pastureStackLost stack).pce = s.pce ∧ (s.pastureStackLost stack).boot = s.boot ∧
    (s.pastureStackLost stack).pow = s.pow ∧ (s.pastureStackLost stack).obs = s.obs ∧ (s.pastureStackLost stack).ident = s.ident ∧
    (s.pastureStackLost stack).noc = s.noc ∧ (s.pastureStackLost stack).lines = s.lines ∧ (s.pastureStackLost stack).ports = s.ports ∧
    (s.pastureStackLost stack).torus = s.torus ∧ (s.pastureStackLost stack).sites = s.sites ∧ (s.pastureStackLost stack).sec = s.sec ∧
    (s.pastureStackLost stack).sdg = s.sdg ∧ (s.pastureStackLost stack).groups = s.groups ∧ (s.pastureStackLost stack).mem = s.mem ∧
    (s.pastureStackLost stack).poison = s.poison ∧ (s.pastureStackLost stack).flash = s.flash := by
  simp [State.pastureStackLost]

@[simp] theorem State.addPin_frame (s : State) (data : ℕ) :
    (s.addPin data).time = s.time ∧ (s.addPin data).draws = s.draws ∧ (s.addPin data).tx = s.tx ∧ (s.addPin data).pending = s.pending ∧
    (s.addPin data).held = s.held ∧ (s.addPin data).latch = s.latch ∧ (s.addPin data).fns = s.fns ∧ (s.addPin data).pce = s.pce ∧
    (s.addPin data).boot = s.boot ∧ (s.addPin data).pow = s.pow ∧ (s.addPin data).obs = s.obs ∧ (s.addPin data).ident = s.ident ∧
    (s.addPin data).noc = s.noc ∧ (s.addPin data).lines = s.lines ∧ (s.addPin data).ms = s.ms ∧ (s.addPin data).ports = s.ports ∧
    (s.addPin data).torus = s.torus ∧ (s.addPin data).sites = s.sites ∧ (s.addPin data).sec = s.sec ∧ (s.addPin data).groups = s.groups ∧
    (s.addPin data).mem = s.mem ∧ (s.addPin data).poison = s.poison ∧ (s.addPin data).flash = s.flash := by
  simp [State.addPin]

@[simp] theorem State.agentFenced_frame (s : State) (a : ℕ) :
    (s.agentFenced a).time = s.time ∧ (s.agentFenced a).draws = s.draws ∧ (s.agentFenced a).pending = s.pending ∧
    (s.agentFenced a).held = s.held ∧ (s.agentFenced a).latch = s.latch ∧ (s.agentFenced a).fns = s.fns ∧ (s.agentFenced a).pce = s.pce ∧
    (s.agentFenced a).boot = s.boot ∧ (s.agentFenced a).pow = s.pow ∧ (s.agentFenced a).obs = s.obs ∧ (s.agentFenced a).ident = s.ident ∧
    (s.agentFenced a).noc = s.noc ∧ (s.agentFenced a).ms = s.ms ∧ (s.agentFenced a).ports = s.ports ∧ (s.agentFenced a).torus = s.torus ∧
    (s.agentFenced a).sites = s.sites ∧ (s.agentFenced a).sec = s.sec ∧ (s.agentFenced a).sdg = s.sdg ∧
    (s.agentFenced a).groups = s.groups ∧ (s.agentFenced a).mem = s.mem ∧ (s.agentFenced a).poison = s.poison ∧
    (s.agentFenced a).flash = s.flash := by
  unfold State.agentFenced
  dsimp only
  (repeat' split) <;> (repeat' apply And.intro) <;> (try simp) <;> (try apply foldl_keep) <;> intros <;> (repeat' split) <;> simp_all

@[simp] theorem State.fenceUnit_frame (s : State) (kind : ℕ) (phys : ℕ) (cause : ℕ) :
    (s.fenceUnit kind phys cause).time = s.time ∧ (s.fenceUnit kind phys cause).draws = s.draws ∧
    (s.fenceUnit kind phys cause).pending = s.pending ∧ (s.fenceUnit kind phys cause).held = s.held ∧
    (s.fenceUnit kind phys cause).latch = s.latch ∧ (s.fenceUnit kind phys cause).pow = s.pow ∧
    (s.fenceUnit kind phys cause).ident = s.ident ∧ (s.fenceUnit kind phys cause).ports = s.ports ∧
    (s.fenceUnit kind phys cause).torus = s.torus ∧ (s.fenceUnit kind phys cause).sec = s.sec ∧
    (s.fenceUnit kind phys cause).flash = s.flash := by
  unfold State.fenceUnit
  dsimp only
  (repeat' split) <;> (repeat' apply And.intro) <;> (try simp) <;> (try apply foldl_keep) <;> intros <;> (repeat' split) <;> simp_all

@[simp] theorem State.datapathError_frame (s : State) (gid : ℕ) (clears : Bool) :
    (s.datapathError gid clears).time = s.time ∧ (s.datapathError gid clears).draws = s.draws ∧
    (s.datapathError gid clears).pending = s.pending ∧ (s.datapathError gid clears).held = s.held ∧
    (s.datapathError gid clears).latch = s.latch ∧ (s.datapathError gid clears).boot = s.boot ∧ (s.datapathError gid clears).pow = s.pow ∧
    (s.datapathError gid clears).obs = s.obs ∧ (s.datapathError gid clears).ident = s.ident ∧ (s.datapathError gid clears).noc = s.noc ∧
    (s.datapathError gid clears).lines = s.lines ∧ (s.datapathError gid clears).ports = s.ports ∧
    (s.datapathError gid clears).torus = s.torus ∧ (s.datapathError gid clears).sec = s.sec ∧ (s.datapathError gid clears).sdg = s.sdg ∧
    (s.datapathError gid clears).flash = s.flash := by
  unfold State.datapathError; (repeat' split) <;> simp

@[simp] theorem State.applyCal_frame (s : State) (c : List Byte) :
    (s.applyCal c).time = s.time ∧ (s.applyCal c).draws = s.draws ∧ (s.applyCal c).tx = s.tx ∧ (s.applyCal c).pending = s.pending ∧
    (s.applyCal c).held = s.held ∧ (s.applyCal c).latch = s.latch ∧ (s.applyCal c).fns = s.fns ∧ (s.applyCal c).pce = s.pce ∧
    (s.applyCal c).boot = s.boot ∧ (s.applyCal c).pow = s.pow ∧ (s.applyCal c).obs = s.obs ∧ (s.applyCal c).ident = s.ident ∧
    (s.applyCal c).noc = s.noc ∧ (s.applyCal c).lines = s.lines ∧ (s.applyCal c).ms = s.ms ∧ (s.applyCal c).ports = s.ports ∧
    (s.applyCal c).torus = s.torus ∧ (s.applyCal c).sites = s.sites ∧ (s.applyCal c).sec = s.sec ∧ (s.applyCal c).sdg = s.sdg ∧
    (s.applyCal c).groups = s.groups ∧ (s.applyCal c).mem = s.mem ∧ (s.applyCal c).poison = s.poison ∧ (s.applyCal c).flash = s.flash := by
  simp [State.applyCal]

@[simp] theorem State.applyTrace_frame (s : State) (rs : List (List Byte)) :
    (s.applyTrace rs).time = s.time ∧ (s.applyTrace rs).draws = s.draws ∧ (s.applyTrace rs).tx = s.tx ∧
    (s.applyTrace rs).pending = s.pending ∧ (s.applyTrace rs).held = s.held ∧ (s.applyTrace rs).latch = s.latch ∧
    (s.applyTrace rs).fns = s.fns ∧ (s.applyTrace rs).pce = s.pce ∧ (s.applyTrace rs).boot = s.boot ∧ (s.applyTrace rs).pow = s.pow ∧
    (s.applyTrace rs).obs = s.obs ∧ (s.applyTrace rs).ident = s.ident ∧ (s.applyTrace rs).noc = s.noc ∧ (s.applyTrace rs).lines = s.lines ∧
    (s.applyTrace rs).ms = s.ms ∧ (s.applyTrace rs).ports = s.ports ∧ (s.applyTrace rs).torus = s.torus ∧
    (s.applyTrace rs).sites = s.sites ∧ (s.applyTrace rs).sec = s.sec ∧ (s.applyTrace rs).sdg = s.sdg ∧
    (s.applyTrace rs).groups = s.groups ∧ (s.applyTrace rs).mem = s.mem ∧ (s.applyTrace rs).poison = s.poison ∧
    (s.applyTrace rs).flash = s.flash := by
  unfold State.applyTrace
  (repeat' apply And.intro) <;> (refine (foldl_fst _ _ _ _ ?_).trans rfl) <;> intros <;> (repeat' split) <;> simp

@[simp] theorem State.applyBook_frame (s : State) (b : Book) (warm : Bool) :
    (s.applyBook b warm).time = s.time ∧ (s.applyBook b warm).draws = s.draws ∧ (s.applyBook b warm).tx = s.tx ∧
    (s.applyBook b warm).pending = s.pending ∧ (s.applyBook b warm).held = s.held ∧ (s.applyBook b warm).latch = s.latch ∧
    (s.applyBook b warm).pce = s.pce ∧ (s.applyBook b warm).pow = s.pow ∧ (s.applyBook b warm).obs = s.obs ∧
    (s.applyBook b warm).ident = s.ident ∧ (s.applyBook b warm).noc = s.noc ∧ (s.applyBook b warm).lines = s.lines ∧
    (s.applyBook b warm).ms = s.ms ∧ (s.applyBook b warm).ports = s.ports ∧ (s.applyBook b warm).torus = s.torus ∧
    (s.applyBook b warm).sites = s.sites ∧ (s.applyBook b warm).sec = s.sec ∧ (s.applyBook b warm).sdg = s.sdg ∧
    (s.applyBook b warm).groups = s.groups ∧ (s.applyBook b warm).mem = s.mem ∧ (s.applyBook b warm).poison = s.poison ∧
    (s.applyBook b warm).flash = s.flash := by
  simp [State.applyBook]

@[simp] theorem State.flashPut_frame (s : State) (a : ℕ) (bs : List Byte) :
    (s.flashPut a bs).time = s.time ∧ (s.flashPut a bs).draws = s.draws ∧ (s.flashPut a bs).tx = s.tx ∧
    (s.flashPut a bs).pending = s.pending ∧ (s.flashPut a bs).hub = s.hub ∧ (s.flashPut a bs).held = s.held ∧
    (s.flashPut a bs).latch = s.latch ∧ (s.flashPut a bs).fns = s.fns ∧ (s.flashPut a bs).pce = s.pce ∧ (s.flashPut a bs).boot = s.boot ∧
    (s.flashPut a bs).pow = s.pow ∧ (s.flashPut a bs).obs = s.obs ∧ (s.flashPut a bs).ident = s.ident ∧ (s.flashPut a bs).noc = s.noc ∧
    (s.flashPut a bs).lines = s.lines ∧ (s.flashPut a bs).ms = s.ms ∧ (s.flashPut a bs).ports = s.ports ∧
    (s.flashPut a bs).torus = s.torus ∧ (s.flashPut a bs).sites = s.sites ∧ (s.flashPut a bs).sec = s.sec ∧ (s.flashPut a bs).sdg = s.sdg ∧
    (s.flashPut a bs).groups = s.groups ∧ (s.flashPut a bs).mem = s.mem ∧ (s.flashPut a bs).poison = s.poison := by
  simp [State.flashPut]

@[simp] theorem State.eraseFlash_frame (s : State) (a : ℕ) (n : ℕ) :
    (s.eraseFlash a n).time = s.time ∧ (s.eraseFlash a n).draws = s.draws ∧ (s.eraseFlash a n).tx = s.tx ∧
    (s.eraseFlash a n).pending = s.pending ∧ (s.eraseFlash a n).hub = s.hub ∧ (s.eraseFlash a n).held = s.held ∧
    (s.eraseFlash a n).latch = s.latch ∧ (s.eraseFlash a n).fns = s.fns ∧ (s.eraseFlash a n).pce = s.pce ∧
    (s.eraseFlash a n).boot = s.boot ∧ (s.eraseFlash a n).pow = s.pow ∧ (s.eraseFlash a n).obs = s.obs ∧
    (s.eraseFlash a n).ident = s.ident ∧ (s.eraseFlash a n).noc = s.noc ∧ (s.eraseFlash a n).lines = s.lines ∧
    (s.eraseFlash a n).ms = s.ms ∧ (s.eraseFlash a n).ports = s.ports ∧ (s.eraseFlash a n).torus = s.torus ∧
    (s.eraseFlash a n).sites = s.sites ∧ (s.eraseFlash a n).sec = s.sec ∧ (s.eraseFlash a n).sdg = s.sdg ∧
    (s.eraseFlash a n).groups = s.groups ∧ (s.eraseFlash a n).mem = s.mem ∧ (s.eraseFlash a n).poison = s.poison := by
  simp [State.eraseFlash]

@[simp] theorem State.appendEpoch_frame (s : State) (e : EpochRec) :
    (s.appendEpoch e).time = s.time ∧ (s.appendEpoch e).draws = s.draws ∧ (s.appendEpoch e).tx = s.tx ∧
    (s.appendEpoch e).pending = s.pending ∧ (s.appendEpoch e).hub = s.hub ∧ (s.appendEpoch e).held = s.held ∧
    (s.appendEpoch e).latch = s.latch ∧ (s.appendEpoch e).fns = s.fns ∧ (s.appendEpoch e).pce = s.pce ∧ (s.appendEpoch e).boot = s.boot ∧
    (s.appendEpoch e).pow = s.pow ∧ (s.appendEpoch e).obs = s.obs ∧ (s.appendEpoch e).ident = s.ident ∧ (s.appendEpoch e).noc = s.noc ∧
    (s.appendEpoch e).lines = s.lines ∧ (s.appendEpoch e).ms = s.ms ∧ (s.appendEpoch e).ports = s.ports ∧
    (s.appendEpoch e).torus = s.torus ∧ (s.appendEpoch e).sites = s.sites ∧ (s.appendEpoch e).sec = s.sec ∧ (s.appendEpoch e).sdg = s.sdg ∧
    (s.appendEpoch e).groups = s.groups ∧ (s.appendEpoch e).mem = s.mem ∧ (s.appendEpoch e).poison = s.poison := by
  unfold State.appendEpoch
  dsimp only
  (repeat' split) <;> (repeat' apply And.intro) <;> (try simp) <;> (try apply foldl_keep) <;> intros <;> (repeat' split) <;> simp_all

@[simp] theorem State.deriveKeys_frame (s : State) (epoch : ℕ) :
    (s.deriveKeys epoch).time = s.time ∧ (s.deriveKeys epoch).draws = s.draws ∧ (s.deriveKeys epoch).tx = s.tx ∧
    (s.deriveKeys epoch).pending = s.pending ∧ (s.deriveKeys epoch).hub = s.hub ∧ (s.deriveKeys epoch).held = s.held ∧
    (s.deriveKeys epoch).latch = s.latch ∧ (s.deriveKeys epoch).fns = s.fns ∧ (s.deriveKeys epoch).pce = s.pce ∧
    (s.deriveKeys epoch).boot = s.boot ∧ (s.deriveKeys epoch).pow = s.pow ∧ (s.deriveKeys epoch).obs = s.obs ∧
    (s.deriveKeys epoch).ident = s.ident ∧ (s.deriveKeys epoch).noc = s.noc ∧ (s.deriveKeys epoch).lines = s.lines ∧
    (s.deriveKeys epoch).ms = s.ms ∧ (s.deriveKeys epoch).ports = s.ports ∧ (s.deriveKeys epoch).torus = s.torus ∧
    (s.deriveKeys epoch).sites = s.sites ∧ (s.deriveKeys epoch).sdg = s.sdg ∧ (s.deriveKeys epoch).groups = s.groups ∧
    (s.deriveKeys epoch).mem = s.mem ∧ (s.deriveKeys epoch).poison = s.poison ∧ (s.deriveKeys epoch).flash = s.flash := by
  unfold State.deriveKeys; (repeat' split) <;> simp

@[simp] theorem State.hubBytes_frame (s : State) (off : ℕ) (bs : List Byte) :
    (s.hubBytes off bs).time = s.time ∧ (s.hubBytes off bs).draws = s.draws ∧ (s.hubBytes off bs).tx = s.tx ∧
    (s.hubBytes off bs).pending = s.pending ∧ (s.hubBytes off bs).held = s.held ∧ (s.hubBytes off bs).latch = s.latch ∧
    (s.hubBytes off bs).fns = s.fns ∧ (s.hubBytes off bs).pce = s.pce ∧ (s.hubBytes off bs).boot = s.boot ∧
    (s.hubBytes off bs).pow = s.pow ∧ (s.hubBytes off bs).obs = s.obs ∧ (s.hubBytes off bs).ident = s.ident ∧
    (s.hubBytes off bs).noc = s.noc ∧ (s.hubBytes off bs).lines = s.lines ∧ (s.hubBytes off bs).ms = s.ms ∧
    (s.hubBytes off bs).ports = s.ports ∧ (s.hubBytes off bs).torus = s.torus ∧ (s.hubBytes off bs).sites = s.sites ∧
    (s.hubBytes off bs).sec = s.sec ∧ (s.hubBytes off bs).sdg = s.sdg ∧ (s.hubBytes off bs).groups = s.groups ∧
    (s.hubBytes off bs).mem = s.mem ∧ (s.hubBytes off bs).poison = s.poison ∧ (s.hubBytes off bs).flash = s.flash := by
  simp [State.hubBytes]

@[simp] theorem State.showIk_frame (s : State) :
    s.showIk.time = s.time ∧ s.showIk.draws = s.draws ∧ s.showIk.tx = s.tx ∧ s.showIk.pending = s.pending ∧ s.showIk.held = s.held ∧
    s.showIk.latch = s.latch ∧ s.showIk.fns = s.fns ∧ s.showIk.pce = s.pce ∧ s.showIk.boot = s.boot ∧ s.showIk.pow = s.pow ∧
    s.showIk.obs = s.obs ∧ s.showIk.ident = s.ident ∧ s.showIk.noc = s.noc ∧ s.showIk.lines = s.lines ∧ s.showIk.ms = s.ms ∧
    s.showIk.ports = s.ports ∧ s.showIk.torus = s.torus ∧ s.showIk.sites = s.sites ∧ s.showIk.sec = s.sec ∧ s.showIk.sdg = s.sdg ∧
    s.showIk.groups = s.groups ∧ s.showIk.mem = s.mem ∧ s.showIk.poison = s.poison ∧ s.showIk.flash = s.flash := by
  simp [State.showIk]

@[simp] theorem State.noteTags_frame (s : State) :
    s.noteTags.time = s.time ∧ s.noteTags.draws = s.draws ∧ s.noteTags.tx = s.tx ∧ s.noteTags.pending = s.pending ∧
    s.noteTags.held = s.held ∧ s.noteTags.latch = s.latch ∧ s.noteTags.fns = s.fns ∧ s.noteTags.pce = s.pce ∧ s.noteTags.boot = s.boot ∧
    s.noteTags.pow = s.pow ∧ s.noteTags.obs = s.obs ∧ s.noteTags.ident = s.ident ∧ s.noteTags.noc = s.noc ∧ s.noteTags.lines = s.lines ∧
    s.noteTags.ms = s.ms ∧ s.noteTags.ports = s.ports ∧ s.noteTags.torus = s.torus ∧ s.noteTags.sites = s.sites ∧ s.noteTags.sec = s.sec ∧
    s.noteTags.sdg = s.sdg ∧ s.noteTags.groups = s.groups ∧ s.noteTags.mem = s.mem ∧ s.noteTags.poison = s.poison ∧
    s.noteTags.flash = s.flash := by
  simp [State.noteTags]

@[simp] theorem State.setSiteSt_frame (s : State) (site : ℕ) (st : ℕ) :
    (s.setSiteSt site st).time = s.time ∧ (s.setSiteSt site st).draws = s.draws ∧ (s.setSiteSt site st).tx = s.tx ∧
    (s.setSiteSt site st).pending = s.pending ∧ (s.setSiteSt site st).held = s.held ∧ (s.setSiteSt site st).latch = s.latch ∧
    (s.setSiteSt site st).fns = s.fns ∧ (s.setSiteSt site st).pce = s.pce ∧ (s.setSiteSt site st).boot = s.boot ∧
    (s.setSiteSt site st).pow = s.pow ∧ (s.setSiteSt site st).obs = s.obs ∧ (s.setSiteSt site st).ident = s.ident ∧
    (s.setSiteSt site st).noc = s.noc ∧ (s.setSiteSt site st).lines = s.lines ∧ (s.setSiteSt site st).ms = s.ms ∧
    (s.setSiteSt site st).ports = s.ports ∧ (s.setSiteSt site st).torus = s.torus ∧ (s.setSiteSt site st).sites = s.sites ∧
    (s.setSiteSt site st).sec = s.sec ∧ (s.setSiteSt site st).sdg = s.sdg ∧ (s.setSiteSt site st).groups = s.groups ∧
    (s.setSiteSt site st).mem = s.mem ∧ (s.setSiteSt site st).poison = s.poison ∧ (s.setSiteSt site st).flash = s.flash := by
  simp [State.setSiteSt]

@[simp] theorem State.foundSite_frame (s : State) (site : ℕ) :
    (s.foundSite site).time = s.time ∧ (s.foundSite site).draws = s.draws ∧ (s.foundSite site).tx = s.tx ∧
    (s.foundSite site).pending = s.pending ∧ (s.foundSite site).hub = s.hub ∧ (s.foundSite site).held = s.held ∧
    (s.foundSite site).latch = s.latch ∧ (s.foundSite site).fns = s.fns ∧ (s.foundSite site).pce = s.pce ∧ (s.foundSite site).pow = s.pow ∧
    (s.foundSite site).obs = s.obs ∧ (s.foundSite site).ident = s.ident ∧ (s.foundSite site).noc = s.noc ∧
    (s.foundSite site).lines = s.lines ∧ (s.foundSite site).ms = s.ms ∧ (s.foundSite site).ports = s.ports ∧
    (s.foundSite site).torus = s.torus ∧ (s.foundSite site).sites = s.sites ∧ (s.foundSite site).sec = s.sec ∧
    (s.foundSite site).sdg = s.sdg ∧ (s.foundSite site).groups = s.groups ∧ (s.foundSite site).mem = s.mem ∧
    (s.foundSite site).poison = s.poison ∧ (s.foundSite site).flash = s.flash := by
  simp [State.foundSite]

@[simp] theorem State.setCmnSt_frame (s : State) (site : ℕ) (st : ℕ) :
    (s.setCmnSt site st).time = s.time ∧ (s.setCmnSt site st).draws = s.draws ∧ (s.setCmnSt site st).tx = s.tx ∧
    (s.setCmnSt site st).pending = s.pending ∧ (s.setCmnSt site st).held = s.held ∧ (s.setCmnSt site st).latch = s.latch ∧
    (s.setCmnSt site st).fns = s.fns ∧ (s.setCmnSt site st).pce = s.pce ∧ (s.setCmnSt site st).boot = s.boot ∧
    (s.setCmnSt site st).pow = s.pow ∧ (s.setCmnSt site st).obs = s.obs ∧ (s.setCmnSt site st).ident = s.ident ∧
    (s.setCmnSt site st).noc = s.noc ∧ (s.setCmnSt site st).lines = s.lines ∧ (s.setCmnSt site st).ms = s.ms ∧
    (s.setCmnSt site st).ports = s.ports ∧ (s.setCmnSt site st).torus = s.torus ∧ (s.setCmnSt site st).sites = s.sites ∧
    (s.setCmnSt site st).sec = s.sec ∧ (s.setCmnSt site st).sdg = s.sdg ∧ (s.setCmnSt site st).groups = s.groups ∧
    (s.setCmnSt site st).mem = s.mem ∧ (s.setCmnSt site st).poison = s.poison ∧ (s.setCmnSt site st).flash = s.flash := by
  simp [State.setCmnSt]

@[simp] theorem State.strapErr_frame (s : State) (site : ℕ) :
    (s.strapErr site).time = s.time ∧ (s.strapErr site).draws = s.draws ∧ (s.strapErr site).pending = s.pending ∧
    (s.strapErr site).held = s.held ∧ (s.strapErr site).latch = s.latch ∧ (s.strapErr site).pow = s.pow ∧
    (s.strapErr site).ident = s.ident ∧ (s.strapErr site).lines = s.lines ∧ (s.strapErr site).ports = s.ports ∧
    (s.strapErr site).torus = s.torus ∧ (s.strapErr site).sec = s.sec ∧ (s.strapErr site).flash = s.flash := by
  simp [State.strapErr]

@[simp] theorem State.coldReset_frame (s : State) (power : Bool) :
    (s.coldReset power).draws = s.draws ∧ (s.coldReset power).tx = s.tx ∧ (s.coldReset power).pending = s.pending ∧
    (s.coldReset power).ident = s.ident ∧ (s.coldReset power).flash = s.flash := by
  simp [State.coldReset]

@[simp] theorem State.warmReset_frame (s : State) :
    s.warmReset.time = s.time ∧ s.warmReset.draws = s.draws ∧ s.warmReset.tx = s.tx ∧ s.warmReset.pending = s.pending ∧
    s.warmReset.ident = s.ident ∧ s.warmReset.flash = s.flash := by
  simp [State.warmReset]

@[simp] theorem State.beginBoot_frame (s : State) (kind : ℕ) (cause : ℕ) (promoted : Bool) :
    (s.beginBoot kind cause promoted).time = s.time ∧ (s.beginBoot kind cause promoted).draws = s.draws ∧
    (s.beginBoot kind cause promoted).tx = s.tx ∧ (s.beginBoot kind cause promoted).pending = s.pending ∧
    (s.beginBoot kind cause promoted).held = s.held ∧ (s.beginBoot kind cause promoted).latch = s.latch ∧
    (s.beginBoot kind cause promoted).fns = s.fns ∧ (s.beginBoot kind cause promoted).pce = s.pce ∧
    (s.beginBoot kind cause promoted).pow = s.pow ∧ (s.beginBoot kind cause promoted).obs = s.obs ∧
    (s.beginBoot kind cause promoted).ident = s.ident ∧ (s.beginBoot kind cause promoted).noc = s.noc ∧
    (s.beginBoot kind cause promoted).lines = s.lines ∧ (s.beginBoot kind cause promoted).ms = s.ms ∧
    (s.beginBoot kind cause promoted).ports = s.ports ∧ (s.beginBoot kind cause promoted).torus = s.torus ∧
    (s.beginBoot kind cause promoted).sites = s.sites ∧ (s.beginBoot kind cause promoted).sec = s.sec ∧
    (s.beginBoot kind cause promoted).sdg = s.sdg ∧ (s.beginBoot kind cause promoted).groups = s.groups ∧
    (s.beginBoot kind cause promoted).mem = s.mem ∧ (s.beginBoot kind cause promoted).poison = s.poison ∧
    (s.beginBoot kind cause promoted).flash = s.flash := by
  simp [State.beginBoot]

@[simp] theorem State.beginSite_frame (s : State) (site : ℕ) :
    (s.beginSite site).time = s.time ∧ (s.beginSite site).draws = s.draws ∧ (s.beginSite site).pending = s.pending ∧
    (s.beginSite site).held = s.held ∧ (s.beginSite site).latch = s.latch ∧ (s.beginSite site).pow = s.pow ∧
    (s.beginSite site).ident = s.ident ∧ (s.beginSite site).lines = s.lines ∧ (s.beginSite site).ports = s.ports ∧
    (s.beginSite site).torus = s.torus ∧ (s.beginSite site).sec = s.sec ∧ (s.beginSite site).flash = s.flash := by
  simp [State.beginSite]

@[simp] theorem State.beginSites_frame (s : State) :
    s.beginSites.time = s.time ∧ s.beginSites.draws = s.draws ∧ s.beginSites.pending = s.pending ∧ s.beginSites.held = s.held ∧
    s.beginSites.latch = s.latch ∧ s.beginSites.pow = s.pow ∧ s.beginSites.ident = s.ident ∧ s.beginSites.lines = s.lines ∧
    s.beginSites.ports = s.ports ∧ s.beginSites.torus = s.torus ∧ s.beginSites.sec = s.sec ∧ s.beginSites.flash = s.flash := by
  simp [State.beginSites]

@[simp] theorem State.loadCold_frame (s : State) (b : Bool) :
    (s.loadCold b).time = s.time ∧ (s.loadCold b).draws = s.draws ∧ (s.loadCold b).pending = s.pending ∧ (s.loadCold b).held = s.held ∧
    (s.loadCold b).latch = s.latch ∧ (s.loadCold b).pow = s.pow ∧ (s.loadCold b).ident = s.ident ∧ (s.loadCold b).lines = s.lines ∧
    (s.loadCold b).ports = s.ports ∧ (s.loadCold b).torus = s.torus ∧ (s.loadCold b).sec = s.sec ∧ (s.loadCold b).flash = s.flash := by
  unfold State.loadCold; (repeat' split) <;> simp

@[simp] theorem State.loadWarm_frame (s : State) (b : Bool) :
    (s.loadWarm b).time = s.time ∧ (s.loadWarm b).draws = s.draws ∧ (s.loadWarm b).pending = s.pending ∧ (s.loadWarm b).held = s.held ∧
    (s.loadWarm b).latch = s.latch ∧ (s.loadWarm b).pow = s.pow ∧ (s.loadWarm b).ident = s.ident ∧ (s.loadWarm b).lines = s.lines ∧
    (s.loadWarm b).ports = s.ports ∧ (s.loadWarm b).torus = s.torus ∧ (s.loadWarm b).sec = s.sec ∧ (s.loadWarm b).flash = s.flash := by
  unfold State.loadWarm; (repeat' split) <;> simp

@[simp] theorem State.noteSlots_frame (s : State) (e : EpochRec) :
    (s.noteSlots e).time = s.time ∧ (s.noteSlots e).draws = s.draws ∧ (s.noteSlots e).tx = s.tx ∧ (s.noteSlots e).pending = s.pending ∧
    (s.noteSlots e).held = s.held ∧ (s.noteSlots e).latch = s.latch ∧ (s.noteSlots e).fns = s.fns ∧ (s.noteSlots e).pce = s.pce ∧
    (s.noteSlots e).boot = s.boot ∧ (s.noteSlots e).pow = s.pow ∧ (s.noteSlots e).obs = s.obs ∧ (s.noteSlots e).ident = s.ident ∧
    (s.noteSlots e).noc = s.noc ∧ (s.noteSlots e).lines = s.lines ∧ (s.noteSlots e).ms = s.ms ∧ (s.noteSlots e).ports = s.ports ∧
    (s.noteSlots e).torus = s.torus ∧ (s.noteSlots e).sites = s.sites ∧ (s.noteSlots e).sec = s.sec ∧ (s.noteSlots e).sdg = s.sdg ∧
    (s.noteSlots e).groups = s.groups ∧ (s.noteSlots e).mem = s.mem ∧ (s.noteSlots e).poison = s.poison ∧
    (s.noteSlots e).flash = s.flash := by
  simp [State.noteSlots]

@[simp] theorem State.takeDigests_frame (s : State) (b : Bool) :
    (s.takeDigests b).time = s.time ∧ (s.takeDigests b).draws = s.draws ∧ (s.takeDigests b).tx = s.tx ∧
    (s.takeDigests b).pending = s.pending ∧ (s.takeDigests b).hub = s.hub ∧ (s.takeDigests b).held = s.held ∧
    (s.takeDigests b).latch = s.latch ∧ (s.takeDigests b).fns = s.fns ∧ (s.takeDigests b).pce = s.pce ∧ (s.takeDigests b).pow = s.pow ∧
    (s.takeDigests b).obs = s.obs ∧ (s.takeDigests b).ident = s.ident ∧ (s.takeDigests b).noc = s.noc ∧ (s.takeDigests b).lines = s.lines ∧
    (s.takeDigests b).ms = s.ms ∧ (s.takeDigests b).ports = s.ports ∧ (s.takeDigests b).torus = s.torus ∧
    (s.takeDigests b).sites = s.sites ∧ (s.takeDigests b).sec = s.sec ∧ (s.takeDigests b).sdg = s.sdg ∧
    (s.takeDigests b).groups = s.groups ∧ (s.takeDigests b).mem = s.mem ∧ (s.takeDigests b).poison = s.poison ∧
    (s.takeDigests b).flash = s.flash := by
  simp [State.takeDigests]

@[simp] theorem State.coldStep3_frame (s : State) :
    s.coldStep3.time = s.time ∧ s.coldStep3.draws = s.draws ∧ s.coldStep3.pending = s.pending ∧ s.coldStep3.held = s.held ∧
    s.coldStep3.latch = s.latch ∧ s.coldStep3.pow = s.pow ∧ s.coldStep3.ident = s.ident ∧ s.coldStep3.lines = s.lines ∧
    s.coldStep3.ports = s.ports ∧ s.coldStep3.torus = s.torus := by
  unfold State.coldStep3
  dsimp only
  (repeat' split) <;> (repeat' apply And.intro) <;> (try simp) <;> (try apply foldl_keep) <;> intros <;> (repeat' split) <;> simp_all

@[simp] theorem State.burn_frame (s : State) (word : ℕ) (bits : ℕ) :
    (s.burn word bits).time = s.time ∧ (s.burn word bits).draws = s.draws ∧ (s.burn word bits).tx = s.tx ∧
    (s.burn word bits).pending = s.pending ∧ (s.burn word bits).hub = s.hub ∧ (s.burn word bits).held = s.held ∧
    (s.burn word bits).latch = s.latch ∧ (s.burn word bits).fns = s.fns ∧ (s.burn word bits).pce = s.pce ∧
    (s.burn word bits).boot = s.boot ∧ (s.burn word bits).pow = s.pow ∧ (s.burn word bits).obs = s.obs ∧
    (s.burn word bits).ident = s.ident ∧ (s.burn word bits).noc = s.noc ∧ (s.burn word bits).lines = s.lines ∧
    (s.burn word bits).ms = s.ms ∧ (s.burn word bits).ports = s.ports ∧ (s.burn word bits).torus = s.torus ∧
    (s.burn word bits).sites = s.sites ∧ (s.burn word bits).sdg = s.sdg ∧ (s.burn word bits).groups = s.groups ∧
    (s.burn word bits).mem = s.mem ∧ (s.burn word bits).poison = s.poison ∧ (s.burn word bits).flash = s.flash := by
  simp [State.burn]

@[simp] theorem State.burnFresh_frame (s : State) (first : ℕ) :
    (s.burnFresh first).time = s.time ∧ (s.burnFresh first).tx = s.tx ∧ (s.burnFresh first).pending = s.pending ∧
    (s.burnFresh first).hub = s.hub ∧ (s.burnFresh first).held = s.held ∧ (s.burnFresh first).latch = s.latch ∧
    (s.burnFresh first).fns = s.fns ∧ (s.burnFresh first).pce = s.pce ∧ (s.burnFresh first).boot = s.boot ∧
    (s.burnFresh first).pow = s.pow ∧ (s.burnFresh first).obs = s.obs ∧ (s.burnFresh first).ident = s.ident ∧
    (s.burnFresh first).noc = s.noc ∧ (s.burnFresh first).lines = s.lines ∧ (s.burnFresh first).ms = s.ms ∧
    (s.burnFresh first).ports = s.ports ∧ (s.burnFresh first).torus = s.torus ∧ (s.burnFresh first).sites = s.sites ∧
    (s.burnFresh first).sdg = s.sdg ∧ (s.burnFresh first).groups = s.groups ∧ (s.burnFresh first).mem = s.mem ∧
    (s.burnFresh first).poison = s.poison ∧ (s.burnFresh first).flash = s.flash := by
  simp [State.burnFresh]

@[simp] theorem State.burnSecret_frame (s : State) (first : ℕ) :
    (s.burnSecret first).time = s.time ∧ (s.burnSecret first).tx = s.tx ∧ (s.burnSecret first).pending = s.pending ∧
    (s.burnSecret first).hub = s.hub ∧ (s.burnSecret first).held = s.held ∧ (s.burnSecret first).latch = s.latch ∧
    (s.burnSecret first).fns = s.fns ∧ (s.burnSecret first).pce = s.pce ∧ (s.burnSecret first).boot = s.boot ∧
    (s.burnSecret first).pow = s.pow ∧ (s.burnSecret first).obs = s.obs ∧ (s.burnSecret first).ident = s.ident ∧
    (s.burnSecret first).noc = s.noc ∧ (s.burnSecret first).lines = s.lines ∧ (s.burnSecret first).ms = s.ms ∧
    (s.burnSecret first).ports = s.ports ∧ (s.burnSecret first).torus = s.torus ∧ (s.burnSecret first).sites = s.sites ∧
    (s.burnSecret first).sdg = s.sdg ∧ (s.burnSecret first).groups = s.groups ∧ (s.burnSecret first).mem = s.mem ∧
    (s.burnSecret first).poison = s.poison ∧ (s.burnSecret first).flash = s.flash := by
  simp [State.burnSecret]

@[simp] theorem State.burnOnes_frame (s : State) (first : ℕ) (n : ℕ) :
    (s.burnOnes first n).time = s.time ∧ (s.burnOnes first n).draws = s.draws ∧ (s.burnOnes first n).tx = s.tx ∧
    (s.burnOnes first n).pending = s.pending ∧ (s.burnOnes first n).hub = s.hub ∧ (s.burnOnes first n).held = s.held ∧
    (s.burnOnes first n).latch = s.latch ∧ (s.burnOnes first n).fns = s.fns ∧ (s.burnOnes first n).pce = s.pce ∧
    (s.burnOnes first n).boot = s.boot ∧ (s.burnOnes first n).pow = s.pow ∧ (s.burnOnes first n).obs = s.obs ∧
    (s.burnOnes first n).ident = s.ident ∧ (s.burnOnes first n).noc = s.noc ∧ (s.burnOnes first n).lines = s.lines ∧
    (s.burnOnes first n).ms = s.ms ∧ (s.burnOnes first n).ports = s.ports ∧ (s.burnOnes first n).torus = s.torus ∧
    (s.burnOnes first n).sites = s.sites ∧ (s.burnOnes first n).sdg = s.sdg ∧ (s.burnOnes first n).groups = s.groups ∧
    (s.burnOnes first n).mem = s.mem ∧ (s.burnOnes first n).poison = s.poison ∧ (s.burnOnes first n).flash = s.flash := by
  simp [State.burnOnes]

@[simp] theorem State.burnDigest_frame (s : State) :
    s.burnDigest.time = s.time ∧ s.burnDigest.draws = s.draws ∧ s.burnDigest.tx = s.tx ∧ s.burnDigest.pending = s.pending ∧
    s.burnDigest.hub = s.hub ∧ s.burnDigest.held = s.held ∧ s.burnDigest.latch = s.latch ∧ s.burnDigest.fns = s.fns ∧
    s.burnDigest.pce = s.pce ∧ s.burnDigest.boot = s.boot ∧ s.burnDigest.pow = s.pow ∧ s.burnDigest.obs = s.obs ∧
    s.burnDigest.ident = s.ident ∧ s.burnDigest.noc = s.noc ∧ s.burnDigest.lines = s.lines ∧ s.burnDigest.ms = s.ms ∧
    s.burnDigest.ports = s.ports ∧ s.burnDigest.torus = s.torus ∧ s.burnDigest.sites = s.sites ∧ s.burnDigest.sdg = s.sdg ∧
    s.burnDigest.groups = s.groups ∧ s.burnDigest.mem = s.mem ∧ s.burnDigest.poison = s.poison ∧ s.burnDigest.flash = s.flash := by
  simp [State.burnDigest]

@[simp] theorem State.wipeAll_frame (s : State) :
    s.wipeAll.time = s.time ∧ s.wipeAll.draws = s.draws ∧ s.wipeAll.tx = s.tx ∧ s.wipeAll.pending = s.pending ∧ s.wipeAll.hub = s.hub ∧
    s.wipeAll.held = s.held ∧ s.wipeAll.latch = s.latch ∧ s.wipeAll.fns = s.fns ∧ s.wipeAll.pce = s.pce ∧ s.wipeAll.boot = s.boot ∧
    s.wipeAll.pow = s.pow ∧ s.wipeAll.obs = s.obs ∧ s.wipeAll.ident = s.ident ∧ s.wipeAll.noc = s.noc ∧ s.wipeAll.lines = s.lines ∧
    s.wipeAll.ports = s.ports ∧ s.wipeAll.torus = s.torus ∧ s.wipeAll.sites = s.sites ∧ s.wipeAll.sec = s.sec ∧ s.wipeAll.sdg = s.sdg ∧
    s.wipeAll.groups = s.groups ∧ s.wipeAll.flash = s.flash := by
  simp [State.wipeAll]

@[simp] theorem State.transWork_frame (s : State) (t : Trans) (i : ℕ) :
    (s.transWork t i).time = s.time ∧ (s.transWork t i).tx = s.tx ∧ (s.transWork t i).pending = s.pending ∧
    (s.transWork t i).held = s.held ∧ (s.transWork t i).latch = s.latch ∧ (s.transWork t i).fns = s.fns ∧ (s.transWork t i).pce = s.pce ∧
    (s.transWork t i).boot = s.boot ∧ (s.transWork t i).pow = s.pow ∧ (s.transWork t i).obs = s.obs ∧ (s.transWork t i).ident = s.ident ∧
    (s.transWork t i).noc = s.noc ∧ (s.transWork t i).lines = s.lines ∧ (s.transWork t i).ports = s.ports ∧
    (s.transWork t i).torus = s.torus ∧ (s.transWork t i).sites = s.sites ∧ (s.transWork t i).sdg = s.sdg ∧
    (s.transWork t i).groups = s.groups ∧ (s.transWork t i).flash = s.flash := by
  unfold State.transWork; (repeat' split) <;> simp

@[simp] theorem State.transRun_frame (s : State) (t : Trans) (n : ℕ) :
    (s.transRun t n).time = s.time ∧ (s.transRun t n).tx = s.tx ∧ (s.transRun t n).pending = s.pending ∧ (s.transRun t n).held = s.held ∧
    (s.transRun t n).latch = s.latch ∧ (s.transRun t n).fns = s.fns ∧ (s.transRun t n).pce = s.pce ∧ (s.transRun t n).boot = s.boot ∧
    (s.transRun t n).pow = s.pow ∧ (s.transRun t n).obs = s.obs ∧ (s.transRun t n).ident = s.ident ∧ (s.transRun t n).noc = s.noc ∧
    (s.transRun t n).lines = s.lines ∧ (s.transRun t n).ports = s.ports ∧ (s.transRun t n).torus = s.torus ∧
    (s.transRun t n).sites = s.sites ∧ (s.transRun t n).sdg = s.sdg ∧ (s.transRun t n).groups = s.groups ∧
    (s.transRun t n).flash = s.flash := by
  simp [State.transRun]

@[simp] theorem State.resumeTrans_frame (s : State) (t : Trans) :
    (s.resumeTrans t).time = s.time ∧ (s.resumeTrans t).draws = s.draws ∧ (s.resumeTrans t).tx = s.tx ∧
    (s.resumeTrans t).pending = s.pending ∧ (s.resumeTrans t).held = s.held ∧ (s.resumeTrans t).latch = s.latch ∧
    (s.resumeTrans t).fns = s.fns ∧ (s.resumeTrans t).pce = s.pce ∧ (s.resumeTrans t).boot = s.boot ∧ (s.resumeTrans t).pow = s.pow ∧
    (s.resumeTrans t).obs = s.obs ∧ (s.resumeTrans t).ident = s.ident ∧ (s.resumeTrans t).noc = s.noc ∧ (s.resumeTrans t).lines = s.lines ∧
    (s.resumeTrans t).ms = s.ms ∧ (s.resumeTrans t).ports = s.ports ∧ (s.resumeTrans t).torus = s.torus ∧
    (s.resumeTrans t).sites = s.sites ∧ (s.resumeTrans t).sdg = s.sdg ∧ (s.resumeTrans t).groups = s.groups ∧
    (s.resumeTrans t).mem = s.mem ∧ (s.resumeTrans t).poison = s.poison ∧ (s.resumeTrans t).flash = s.flash := by
  simp [State.resumeTrans]

@[simp] theorem State.transCut_frame (s : State) :
    s.transCut.time = s.time ∧ s.transCut.tx = s.tx ∧ s.transCut.pending = s.pending ∧ s.transCut.held = s.held ∧
    s.transCut.latch = s.latch ∧ s.transCut.fns = s.fns ∧ s.transCut.pce = s.pce ∧ s.transCut.boot = s.boot ∧ s.transCut.pow = s.pow ∧
    s.transCut.obs = s.obs ∧ s.transCut.ident = s.ident ∧ s.transCut.noc = s.noc ∧ s.transCut.lines = s.lines ∧ s.transCut.ports = s.ports ∧
    s.transCut.torus = s.torus ∧ s.transCut.sites = s.sites ∧ s.transCut.sdg = s.sdg ∧ s.transCut.groups = s.groups ∧
    s.transCut.flash = s.flash := by
  unfold State.transCut; (repeat' split) <;> simp

@[simp] theorem State.trainPcie_frame (s : State) :
    s.trainPcie.time = s.time ∧ s.trainPcie.tx = s.tx ∧ s.trainPcie.pending = s.pending ∧ s.trainPcie.held = s.held ∧
    s.trainPcie.latch = s.latch ∧ s.trainPcie.fns = s.fns ∧ s.trainPcie.boot = s.boot ∧ s.trainPcie.pow = s.pow ∧ s.trainPcie.obs = s.obs ∧
    s.trainPcie.ident = s.ident ∧ s.trainPcie.noc = s.noc ∧ s.trainPcie.lines = s.lines ∧ s.trainPcie.ms = s.ms ∧
    s.trainPcie.ports = s.ports ∧ s.trainPcie.torus = s.torus ∧ s.trainPcie.sites = s.sites ∧ s.trainPcie.sec = s.sec ∧
    s.trainPcie.sdg = s.sdg ∧ s.trainPcie.groups = s.groups ∧ s.trainPcie.mem = s.mem ∧ s.trainPcie.poison = s.poison ∧
    s.trainPcie.flash = s.flash := by
  simp [State.trainPcie]

@[simp] theorem State.bootStep2_time (s : State) (next : State → State)
  (h : ∀ s, (next s).time = s.time) : (s.bootStep2 next).time = s.time := by
  unfold State.bootStep2
  extract_lets s1 s2 s3 s4
  have e : s4.time = s.time := by simp [s4, s3, s2, s1]
  split
  · simp [e]
  · split
    · exact e
    · rw [h]; exact e
@[simp] theorem State.bootStep2_tx (s : State) (next : State → State) (h : ∀ s, (next s).tx = s.tx) : (s.bootStep2 next).tx = s.tx := by
  unfold State.bootStep2
  extract_lets s1 s2 s3 s4
  have e : s4.tx = s.tx := by simp [s4, s3, s2, s1]
  split
  · simp [e]
  · split
    · exact e
    · rw [h]; exact e
@[simp] theorem State.bootStep2_pending (s : State) (next : State → State)
  (h : ∀ s, (next s).pending = s.pending) : (s.bootStep2 next).pending = s.pending := by
  unfold State.bootStep2
  extract_lets s1 s2 s3 s4
  have e : s4.pending = s.pending := by simp [s4, s3, s2, s1]
  split
  · simp [e]
  · split
    · exact e
    · rw [h]; exact e
@[simp] theorem State.bootStep2_held (s : State) (next : State → State)
  (h : ∀ s, (next s).held = s.held) : (s.bootStep2 next).held = s.held := by
  unfold State.bootStep2
  extract_lets s1 s2 s3 s4
  have e : s4.held = s.held := by simp [s4, s3, s2, s1]
  split
  · simp [e]
  · split
    · exact e
    · rw [h]; exact e
@[simp] theorem State.bootStep2_latch (s : State) (next : State → State)
  (h : ∀ s, (next s).latch = s.latch) : (s.bootStep2 next).latch = s.latch := by
  unfold State.bootStep2
  extract_lets s1 s2 s3 s4
  have e : s4.latch = s.latch := by simp [s4, s3, s2, s1]
  split
  · simp [e]
  · split
    · exact e
    · rw [h]; exact e
@[simp] theorem State.bootStep2_fns (s : State) (next : State → State)
  (h : ∀ s, (next s).fns = s.fns) : (s.bootStep2 next).fns = s.fns := by
  unfold State.bootStep2
  extract_lets s1 s2 s3 s4
  have e : s4.fns = s.fns := by simp [s4, s3, s2, s1]
  split
  · simp [e]
  · split
    · exact e
    · rw [h]; exact e
@[simp] theorem State.bootStep2_pow (s : State) (next : State → State)
  (h : ∀ s, (next s).pow = s.pow) : (s.bootStep2 next).pow = s.pow := by
  unfold State.bootStep2
  extract_lets s1 s2 s3 s4
  have e : s4.pow = s.pow := by simp [s4, s3, s2, s1]
  split
  · simp [e]
  · split
    · exact e
    · rw [h]; exact e
@[simp] theorem State.bootStep2_obs (s : State) (next : State → State)
  (h : ∀ s, (next s).obs = s.obs) : (s.bootStep2 next).obs = s.obs := by
  unfold State.bootStep2
  extract_lets s1 s2 s3 s4
  have e : s4.obs = s.obs := by simp [s4, s3, s2, s1]
  split
  · simp [e]
  · split
    · exact e
    · rw [h]; exact e
@[simp] theorem State.bootStep2_ident (s : State) (next : State → State)
  (h : ∀ s, (next s).ident = s.ident) : (s.bootStep2 next).ident = s.ident := by
  unfold State.bootStep2
  extract_lets s1 s2 s3 s4
  have e : s4.ident = s.ident := by simp [s4, s3, s2, s1]
  split
  · simp [e]
  · split
    · exact e
    · rw [h]; exact e
@[simp] theorem State.bootStep2_noc (s : State) (next : State → State)
  (h : ∀ s, (next s).noc = s.noc) : (s.bootStep2 next).noc = s.noc := by
  unfold State.bootStep2
  extract_lets s1 s2 s3 s4
  have e : s4.noc = s.noc := by simp [s4, s3, s2, s1]
  split
  · simp [e]
  · split
    · exact e
    · rw [h]; exact e
@[simp] theorem State.bootStep2_lines (s : State) (next : State → State)
  (h : ∀ s, (next s).lines = s.lines) : (s.bootStep2 next).lines = s.lines := by
  unfold State.bootStep2
  extract_lets s1 s2 s3 s4
  have e : s4.lines = s.lines := by simp [s4, s3, s2, s1]
  split
  · simp [e]
  · split
    · exact e
    · rw [h]; exact e
@[simp] theorem State.bootStep2_ms (s : State) (next : State → State) (h : ∀ s, (next s).ms = s.ms) : (s.bootStep2 next).ms = s.ms := by
  unfold State.bootStep2
  extract_lets s1 s2 s3 s4
  have e : s4.ms = s.ms := by simp [s4, s3, s2, s1]
  split
  · simp [e]
  · split
    · exact e
    · rw [h]; exact e
@[simp] theorem State.bootStep2_ports (s : State) (next : State → State)
  (h : ∀ s, (next s).ports = s.ports) : (s.bootStep2 next).ports = s.ports := by
  unfold State.bootStep2
  extract_lets s1 s2 s3 s4
  have e : s4.ports = s.ports := by simp [s4, s3, s2, s1]
  split
  · simp [e]
  · split
    · exact e
    · rw [h]; exact e
@[simp] theorem State.bootStep2_torus (s : State) (next : State → State)
  (h : ∀ s, (next s).torus = s.torus) : (s.bootStep2 next).torus = s.torus := by
  unfold State.bootStep2
  extract_lets s1 s2 s3 s4
  have e : s4.torus = s.torus := by simp [s4, s3, s2, s1]
  split
  · simp [e]
  · split
    · exact e
    · rw [h]; exact e
@[simp] theorem State.bootStep2_sites (s : State) (next : State → State)
  (h : ∀ s, (next s).sites = s.sites) : (s.bootStep2 next).sites = s.sites := by
  unfold State.bootStep2
  extract_lets s1 s2 s3 s4
  have e : s4.sites = s.sites := by simp [s4, s3, s2, s1]
  split
  · simp [e]
  · split
    · exact e
    · rw [h]; exact e
@[simp] theorem State.bootStep2_sdg (s : State) (next : State → State)
  (h : ∀ s, (next s).sdg = s.sdg) : (s.bootStep2 next).sdg = s.sdg := by
  unfold State.bootStep2
  extract_lets s1 s2 s3 s4
  have e : s4.sdg = s.sdg := by simp [s4, s3, s2, s1]
  split
  · simp [e]
  · split
    · exact e
    · rw [h]; exact e
@[simp] theorem State.bootStep2_groups (s : State) (next : State → State)
  (h : ∀ s, (next s).groups = s.groups) : (s.bootStep2 next).groups = s.groups := by
  unfold State.bootStep2
  extract_lets s1 s2 s3 s4
  have e : s4.groups = s.groups := by simp [s4, s3, s2, s1]
  split
  · simp [e]
  · split
    · exact e
    · rw [h]; exact e
@[simp] theorem State.bootStep2_mem (s : State) (next : State → State)
  (h : ∀ s, (next s).mem = s.mem) : (s.bootStep2 next).mem = s.mem := by
  unfold State.bootStep2
  extract_lets s1 s2 s3 s4
  have e : s4.mem = s.mem := by simp [s4, s3, s2, s1]
  split
  · simp [e]
  · split
    · exact e
    · rw [h]; exact e
@[simp] theorem State.bootStep2_poison (s : State) (next : State → State)
  (h : ∀ s, (next s).poison = s.poison) : (s.bootStep2 next).poison = s.poison := by
  unfold State.bootStep2
  extract_lets s1 s2 s3 s4
  have e : s4.poison = s.poison := by simp [s4, s3, s2, s1]
  split
  · simp [e]
  · split
    · exact e
    · rw [h]; exact e
@[simp] theorem State.bootStep2_flash (s : State) (next : State → State)
  (h : ∀ s, (next s).flash = s.flash) : (s.bootStep2 next).flash = s.flash := by
  unfold State.bootStep2
  extract_lets s1 s2 s3 s4
  have e : s4.flash = s.flash := by simp [s4, s3, s2, s1]
  split
  · simp [e]
  · split
    · exact e
    · rw [h]; exact e

end Sys2Proof.Machine
end

