-- ==== Sys2Proof/Laws/FramesB.lean ====
section
/-! SUPPORT. Frames of the operations, part 2 of 4, in the order of the files that define them: the fields of the state that each leaves as
they were. -/

set_option linter.all false

namespace Sys2Proof.Machine
open Sys2Proof

@[simp] theorem State.startCold_frame (s : State) (cause : ℕ) (promoted : Bool) (power : Bool) :
    (s.startCold cause promoted power).pending = s.pending ∧ (s.startCold cause promoted power).ident = s.ident := by
  simp [State.startCold]

@[simp] theorem State.startWarm_frame (s : State) (cause : ℕ) :
    (s.startWarm cause).pending = s.pending ∧ (s.startWarm cause).ident = s.ident := by
  simp [State.startWarm]

@[simp] theorem State.unpower_frame (s : State) :
    s.unpower.tx = s.tx ∧ s.unpower.pending = s.pending ∧ s.unpower.flash = s.flash := by
  simp [State.unpower]

@[simp] theorem State.setTh_frame (s : State) (t : Thr) (th : Thread) :
    (s.setTh t th).time = s.time ∧ (s.setTh t th).draws = s.draws ∧ (s.setTh t th).tx = s.tx ∧ (s.setTh t th).pending = s.pending ∧
    (s.setTh t th).hub = s.hub ∧ (s.setTh t th).held = s.held ∧ (s.setTh t th).latch = s.latch ∧ (s.setTh t th).fns = s.fns ∧
    (s.setTh t th).pce = s.pce ∧ (s.setTh t th).boot = s.boot ∧ (s.setTh t th).pow = s.pow ∧ (s.setTh t th).obs = s.obs ∧
    (s.setTh t th).ident = s.ident ∧ (s.setTh t th).noc = s.noc ∧ (s.setTh t th).lines = s.lines ∧ (s.setTh t th).ms = s.ms ∧
    (s.setTh t th).ports = s.ports ∧ (s.setTh t th).torus = s.torus ∧ (s.setTh t th).sites = s.sites ∧ (s.setTh t th).sec = s.sec ∧
    (s.setTh t th).sdg = s.sdg ∧ (s.setTh t th).mem = s.mem ∧ (s.setTh t th).poison = s.poison ∧ (s.setTh t th).flash = s.flash := by
  simp [State.setTh]

@[simp] theorem State.modTh_frame (s : State) (t : Thr) (h : Thread → Thread) :
    (s.modTh t h).time = s.time ∧ (s.modTh t h).draws = s.draws ∧ (s.modTh t h).tx = s.tx ∧ (s.modTh t h).pending = s.pending ∧
    (s.modTh t h).hub = s.hub ∧ (s.modTh t h).held = s.held ∧ (s.modTh t h).latch = s.latch ∧ (s.modTh t h).fns = s.fns ∧
    (s.modTh t h).pce = s.pce ∧ (s.modTh t h).boot = s.boot ∧ (s.modTh t h).pow = s.pow ∧ (s.modTh t h).obs = s.obs ∧
    (s.modTh t h).ident = s.ident ∧ (s.modTh t h).noc = s.noc ∧ (s.modTh t h).lines = s.lines ∧ (s.modTh t h).ms = s.ms ∧
    (s.modTh t h).ports = s.ports ∧ (s.modTh t h).torus = s.torus ∧ (s.modTh t h).sites = s.sites ∧ (s.modTh t h).sec = s.sec ∧
    (s.modTh t h).sdg = s.sdg ∧ (s.modTh t h).mem = s.mem ∧ (s.modTh t h).poison = s.poison ∧ (s.modTh t h).flash = s.flash := by
  simp [State.modTh]

@[simp] theorem State.traceExc_frame (s : State) (fn : ℕ) (idx : ℕ) (pc : ℕ) (va : ℕ) (code : ℕ) :
    (s.traceExc fn idx pc va code).time = s.time ∧ (s.traceExc fn idx pc va code).draws = s.draws ∧
    (s.traceExc fn idx pc va code).tx = s.tx ∧ (s.traceExc fn idx pc va code).pending = s.pending ∧
    (s.traceExc fn idx pc va code).hub = s.hub ∧ (s.traceExc fn idx pc va code).held = s.held ∧
    (s.traceExc fn idx pc va code).latch = s.latch ∧ (s.traceExc fn idx pc va code).fns = s.fns ∧
    (s.traceExc fn idx pc va code).pce = s.pce ∧ (s.traceExc fn idx pc va code).boot = s.boot ∧ (s.traceExc fn idx pc va code).pow = s.pow ∧
    (s.traceExc fn idx pc va code).ident = s.ident ∧ (s.traceExc fn idx pc va code).noc = s.noc ∧
    (s.traceExc fn idx pc va code).lines = s.lines ∧ (s.traceExc fn idx pc va code).ms = s.ms ∧
    (s.traceExc fn idx pc va code).ports = s.ports ∧ (s.traceExc fn idx pc va code).torus = s.torus ∧
    (s.traceExc fn idx pc va code).sites = s.sites ∧ (s.traceExc fn idx pc va code).sec = s.sec ∧
    (s.traceExc fn idx pc va code).sdg = s.sdg ∧ (s.traceExc fn idx pc va code).groups = s.groups ∧
    (s.traceExc fn idx pc va code).mem = s.mem ∧ (s.traceExc fn idx pc va code).poison = s.poison ∧
    (s.traceExc fn idx pc va code).flash = s.flash := by
  simp [State.traceExc]

@[simp] theorem State.failGroup_frame (s : State) (gid : ℕ) (code : ℕ) :
    (s.failGroup gid code).time = s.time ∧ (s.failGroup gid code).draws = s.draws ∧ (s.failGroup gid code).tx = s.tx ∧
    (s.failGroup gid code).pending = s.pending ∧ (s.failGroup gid code).hub = s.hub ∧ (s.failGroup gid code).held = s.held ∧
    (s.failGroup gid code).latch = s.latch ∧ (s.failGroup gid code).fns = s.fns ∧ (s.failGroup gid code).pce = s.pce ∧
    (s.failGroup gid code).boot = s.boot ∧ (s.failGroup gid code).pow = s.pow ∧ (s.failGroup gid code).obs = s.obs ∧
    (s.failGroup gid code).ident = s.ident ∧ (s.failGroup gid code).noc = s.noc ∧ (s.failGroup gid code).lines = s.lines ∧
    (s.failGroup gid code).ms = s.ms ∧ (s.failGroup gid code).ports = s.ports ∧ (s.failGroup gid code).torus = s.torus ∧
    (s.failGroup gid code).sites = s.sites ∧ (s.failGroup gid code).sec = s.sec ∧ (s.failGroup gid code).sdg = s.sdg ∧
    (s.failGroup gid code).mem = s.mem ∧ (s.failGroup gid code).poison = s.poison ∧ (s.failGroup gid code).flash = s.flash := by
  simp [State.failGroup]

@[simp] theorem State.poisonGroup_frame (s : State) (gid : ℕ) :
    (s.poisonGroup gid).time = s.time ∧ (s.poisonGroup gid).draws = s.draws ∧ (s.poisonGroup gid).tx = s.tx ∧
    (s.poisonGroup gid).pending = s.pending ∧ (s.poisonGroup gid).hub = s.hub ∧ (s.poisonGroup gid).held = s.held ∧
    (s.poisonGroup gid).latch = s.latch ∧ (s.poisonGroup gid).fns = s.fns ∧ (s.poisonGroup gid).pce = s.pce ∧
    (s.poisonGroup gid).boot = s.boot ∧ (s.poisonGroup gid).pow = s.pow ∧ (s.poisonGroup gid).obs = s.obs ∧
    (s.poisonGroup gid).ident = s.ident ∧ (s.poisonGroup gid).noc = s.noc ∧ (s.poisonGroup gid).lines = s.lines ∧
    (s.poisonGroup gid).ms = s.ms ∧ (s.poisonGroup gid).ports = s.ports ∧ (s.poisonGroup gid).torus = s.torus ∧
    (s.poisonGroup gid).sites = s.sites ∧ (s.poisonGroup gid).sec = s.sec ∧ (s.poisonGroup gid).sdg = s.sdg ∧
    (s.poisonGroup gid).mem = s.mem ∧ (s.poisonGroup gid).poison = s.poison ∧ (s.poisonGroup gid).flash = s.flash := by
  simp [State.poisonGroup]

@[simp] theorem State.raise_frame (s : State) (t : Thr) (code : ℕ) (va : ℕ) :
    (s.raise t code va).time = s.time ∧ (s.raise t code va).draws = s.draws ∧ (s.raise t code va).tx = s.tx ∧
    (s.raise t code va).pending = s.pending ∧ (s.raise t code va).hub = s.hub ∧ (s.raise t code va).held = s.held ∧
    (s.raise t code va).latch = s.latch ∧ (s.raise t code va).fns = s.fns ∧ (s.raise t code va).pce = s.pce ∧
    (s.raise t code va).boot = s.boot ∧ (s.raise t code va).pow = s.pow ∧ (s.raise t code va).ident = s.ident ∧
    (s.raise t code va).noc = s.noc ∧ (s.raise t code va).lines = s.lines ∧ (s.raise t code va).ms = s.ms ∧
    (s.raise t code va).ports = s.ports ∧ (s.raise t code va).torus = s.torus ∧ (s.raise t code va).sites = s.sites ∧
    (s.raise t code va).sec = s.sec ∧ (s.raise t code va).sdg = s.sdg ∧ (s.raise t code va).mem = s.mem ∧
    (s.raise t code va).poison = s.poison ∧ (s.raise t code va).flash = s.flash := by
  unfold State.raise; (repeat' split) <;> simp

@[simp] theorem State.failLoad_frame (s : State) (fn : ℕ) (e : ℕ) :
    (s.failLoad fn e).time = s.time ∧ (s.failLoad fn e).draws = s.draws ∧ (s.failLoad fn e).pending = s.pending ∧
    (s.failLoad fn e).held = s.held ∧ (s.failLoad fn e).latch = s.latch ∧ (s.failLoad fn e).boot = s.boot ∧ (s.failLoad fn e).pow = s.pow ∧
    (s.failLoad fn e).obs = s.obs ∧ (s.failLoad fn e).ident = s.ident ∧ (s.failLoad fn e).noc = s.noc ∧ (s.failLoad fn e).lines = s.lines ∧
    (s.failLoad fn e).ports = s.ports ∧ (s.failLoad fn e).torus = s.torus ∧ (s.failLoad fn e).sec = s.sec ∧ (s.failLoad fn e).sdg = s.sdg ∧
    (s.failLoad fn e).flash = s.flash := by
  unfold State.failLoad; (repeat' split) <;> simp

@[simp] theorem State.logDenied_frame (s : State) (fn : ℕ) (lpa : ℕ) (access : ℕ) :
    (s.logDenied fn lpa access).time = s.time ∧ (s.logDenied fn lpa access).draws = s.draws ∧
    (s.logDenied fn lpa access).pending = s.pending ∧ (s.logDenied fn lpa access).held = s.held ∧
    (s.logDenied fn lpa access).latch = s.latch ∧ (s.logDenied fn lpa access).pow = s.pow ∧ (s.logDenied fn lpa access).ident = s.ident ∧
    (s.logDenied fn lpa access).noc = s.noc ∧ (s.logDenied fn lpa access).lines = s.lines ∧ (s.logDenied fn lpa access).ports = s.ports ∧
    (s.logDenied fn lpa access).torus = s.torus ∧ (s.logDenied fn lpa access).sec = s.sec ∧
    (s.logDenied fn lpa access).flash = s.flash := by
  simp [State.logDenied]

@[simp] theorem State.noteFault_frame (s : State) (fn : ℕ) (va : ℕ) (cause : ℕ) (origin : ℕ) (write : Bool) :
    (s.noteFault fn va cause origin write).time = s.time ∧ (s.noteFault fn va cause origin write).draws = s.draws ∧
    (s.noteFault fn va cause origin write).tx = s.tx ∧ (s.noteFault fn va cause origin write).pending = s.pending ∧
    (s.noteFault fn va cause origin write).hub = s.hub ∧ (s.noteFault fn va cause origin write).held = s.held ∧
    (s.noteFault fn va cause origin write).latch = s.latch ∧ (s.noteFault fn va cause origin write).pce = s.pce ∧
    (s.noteFault fn va cause origin write).boot = s.boot ∧ (s.noteFault fn va cause origin write).pow = s.pow ∧
    (s.noteFault fn va cause origin write).obs = s.obs ∧ (s.noteFault fn va cause origin write).ident = s.ident ∧
    (s.noteFault fn va cause origin write).noc = s.noc ∧ (s.noteFault fn va cause origin write).lines = s.lines ∧
    (s.noteFault fn va cause origin write).ms = s.ms ∧ (s.noteFault fn va cause origin write).ports = s.ports ∧
    (s.noteFault fn va cause origin write).torus = s.torus ∧ (s.noteFault fn va cause origin write).sites = s.sites ∧
    (s.noteFault fn va cause origin write).sec = s.sec ∧ (s.noteFault fn va cause origin write).sdg = s.sdg ∧
    (s.noteFault fn va cause origin write).groups = s.groups ∧ (s.noteFault fn va cause origin write).mem = s.mem ∧
    (s.noteFault fn va cause origin write).poison = s.poison ∧ (s.noteFault fn va cause origin write).flash = s.flash := by
  simp [State.noteFault]

@[simp] theorem State.raiseXlate_frame (s : State) (t : Thr) (va : ℕ) (cause : ℕ) (write : Bool) :
    (s.raiseXlate t va cause write).time = s.time ∧ (s.raiseXlate t va cause write).draws = s.draws ∧
    (s.raiseXlate t va cause write).tx = s.tx ∧ (s.raiseXlate t va cause write).pending = s.pending ∧
    (s.raiseXlate t va cause write).hub = s.hub ∧ (s.raiseXlate t va cause write).held = s.held ∧
    (s.raiseXlate t va cause write).latch = s.latch ∧ (s.raiseXlate t va cause write).pce = s.pce ∧
    (s.raiseXlate t va cause write).boot = s.boot ∧ (s.raiseXlate t va cause write).pow = s.pow ∧
    (s.raiseXlate t va cause write).ident = s.ident ∧ (s.raiseXlate t va cause write).noc = s.noc ∧
    (s.raiseXlate t va cause write).lines = s.lines ∧ (s.raiseXlate t va cause write).ms = s.ms ∧
    (s.raiseXlate t va cause write).ports = s.ports ∧ (s.raiseXlate t va cause write).torus = s.torus ∧
    (s.raiseXlate t va cause write).sites = s.sites ∧ (s.raiseXlate t va cause write).sec = s.sec ∧
    (s.raiseXlate t va cause write).sdg = s.sdg ∧ (s.raiseXlate t va cause write).mem = s.mem ∧
    (s.raiseXlate t va cause write).poison = s.poison ∧ (s.raiseXlate t va cause write).flash = s.flash := by
  simp [State.raiseXlate]

@[simp] theorem State.modXlt_frame (s : State) (fn : ℕ) (g : Xlt → Xlt) :
    (s.modXlt fn g).time = s.time ∧ (s.modXlt fn g).draws = s.draws ∧ (s.modXlt fn g).tx = s.tx ∧ (s.modXlt fn g).pending = s.pending ∧
    (s.modXlt fn g).hub = s.hub ∧ (s.modXlt fn g).held = s.held ∧ (s.modXlt fn g).latch = s.latch ∧ (s.modXlt fn g).pce = s.pce ∧
    (s.modXlt fn g).boot = s.boot ∧ (s.modXlt fn g).pow = s.pow ∧ (s.modXlt fn g).obs = s.obs ∧ (s.modXlt fn g).ident = s.ident ∧
    (s.modXlt fn g).noc = s.noc ∧ (s.modXlt fn g).lines = s.lines ∧ (s.modXlt fn g).ms = s.ms ∧ (s.modXlt fn g).ports = s.ports ∧
    (s.modXlt fn g).torus = s.torus ∧ (s.modXlt fn g).sites = s.sites ∧ (s.modXlt fn g).sec = s.sec ∧ (s.modXlt fn g).sdg = s.sdg ∧
    (s.modXlt fn g).groups = s.groups ∧ (s.modXlt fn g).mem = s.mem ∧ (s.modXlt fn g).poison = s.poison ∧
    (s.modXlt fn g).flash = s.flash := by
  simp [State.modXlt]

@[simp] theorem State.notePri_frame (s : State) (fn : ℕ) :
    (s.notePri fn).time = s.time ∧ (s.notePri fn).draws = s.draws ∧ (s.notePri fn).tx = s.tx ∧ (s.notePri fn).pending = s.pending ∧
    (s.notePri fn).hub = s.hub ∧ (s.notePri fn).held = s.held ∧ (s.notePri fn).latch = s.latch ∧ (s.notePri fn).pce = s.pce ∧
    (s.notePri fn).boot = s.boot ∧ (s.notePri fn).pow = s.pow ∧ (s.notePri fn).obs = s.obs ∧ (s.notePri fn).ident = s.ident ∧
    (s.notePri fn).noc = s.noc ∧ (s.notePri fn).lines = s.lines ∧ (s.notePri fn).ms = s.ms ∧ (s.notePri fn).ports = s.ports ∧
    (s.notePri fn).torus = s.torus ∧ (s.notePri fn).sites = s.sites ∧ (s.notePri fn).sec = s.sec ∧ (s.notePri fn).sdg = s.sdg ∧
    (s.notePri fn).groups = s.groups ∧ (s.notePri fn).mem = s.mem ∧ (s.notePri fn).poison = s.poison ∧ (s.notePri fn).flash = s.flash := by
  simp [State.notePri]

@[simp] theorem State.addWait_frame (s : State) (fn : ℕ) (w : XWait) :
    (s.addWait fn w).time = s.time ∧ (s.addWait fn w).draws = s.draws ∧ (s.addWait fn w).tx = s.tx ∧ (s.addWait fn w).pending = s.pending ∧
    (s.addWait fn w).hub = s.hub ∧ (s.addWait fn w).held = s.held ∧ (s.addWait fn w).latch = s.latch ∧ (s.addWait fn w).pce = s.pce ∧
    (s.addWait fn w).boot = s.boot ∧ (s.addWait fn w).pow = s.pow ∧ (s.addWait fn w).obs = s.obs ∧ (s.addWait fn w).ident = s.ident ∧
    (s.addWait fn w).noc = s.noc ∧ (s.addWait fn w).lines = s.lines ∧ (s.addWait fn w).ms = s.ms ∧ (s.addWait fn w).ports = s.ports ∧
    (s.addWait fn w).torus = s.torus ∧ (s.addWait fn w).sites = s.sites ∧ (s.addWait fn w).sec = s.sec ∧ (s.addWait fn w).sdg = s.sdg ∧
    (s.addWait fn w).groups = s.groups ∧ (s.addWait fn w).mem = s.mem ∧ (s.addWait fn w).poison = s.poison ∧
    (s.addWait fn w).flash = s.flash := by
  simp [State.addWait]

@[simp] theorem State.park_frame (s : State) (w : XWho) :
    (s.park w).time = s.time ∧ (s.park w).draws = s.draws ∧ (s.park w).tx = s.tx ∧ (s.park w).pending = s.pending ∧ (s.park w).hub = s.hub ∧
    (s.park w).held = s.held ∧ (s.park w).latch = s.latch ∧ (s.park w).fns = s.fns ∧ (s.park w).pce = s.pce ∧ (s.park w).boot = s.boot ∧
    (s.park w).pow = s.pow ∧ (s.park w).obs = s.obs ∧ (s.park w).ident = s.ident ∧ (s.park w).noc = s.noc ∧ (s.park w).lines = s.lines ∧
    (s.park w).ms = s.ms ∧ (s.park w).ports = s.ports ∧ (s.park w).torus = s.torus ∧ (s.park w).sites = s.sites ∧ (s.park w).sec = s.sec ∧
    (s.park w).sdg = s.sdg ∧ (s.park w).mem = s.mem ∧ (s.park w).poison = s.poison ∧ (s.park w).flash = s.flash := by
  unfold State.park; (repeat' split) <;> simp

@[simp] theorem State.unpark_frame (s : State) (w : XWho) :
    (s.unpark w).time = s.time ∧ (s.unpark w).draws = s.draws ∧ (s.unpark w).tx = s.tx ∧ (s.unpark w).pending = s.pending ∧
    (s.unpark w).hub = s.hub ∧ (s.unpark w).held = s.held ∧ (s.unpark w).latch = s.latch ∧ (s.unpark w).fns = s.fns ∧
    (s.unpark w).pce = s.pce ∧ (s.unpark w).boot = s.boot ∧ (s.unpark w).pow = s.pow ∧ (s.unpark w).obs = s.obs ∧
    (s.unpark w).ident = s.ident ∧ (s.unpark w).noc = s.noc ∧ (s.unpark w).lines = s.lines ∧ (s.unpark w).ms = s.ms ∧
    (s.unpark w).ports = s.ports ∧ (s.unpark w).torus = s.torus ∧ (s.unpark w).sites = s.sites ∧ (s.unpark w).sec = s.sec ∧
    (s.unpark w).sdg = s.sdg ∧ (s.unpark w).mem = s.mem ∧ (s.unpark w).poison = s.poison ∧ (s.unpark w).flash = s.flash := by
  unfold State.unpark; (repeat' split) <;> simp

@[simp] theorem State.losePage_frame (s : State) (fn : ℕ) (e : ℕ) (page : ℕ) :
    (s.losePage fn e page).time = s.time ∧ (s.losePage fn e page).draws = s.draws ∧ (s.losePage fn e page).pending = s.pending ∧
    (s.losePage fn e page).held = s.held ∧ (s.losePage fn e page).latch = s.latch ∧ (s.losePage fn e page).pow = s.pow ∧
    (s.losePage fn e page).ident = s.ident ∧ (s.losePage fn e page).noc = s.noc ∧ (s.losePage fn e page).lines = s.lines ∧
    (s.losePage fn e page).ports = s.ports ∧ (s.losePage fn e page).torus = s.torus ∧ (s.losePage fn e page).sec = s.sec ∧
    (s.losePage fn e page).flash = s.flash := by
  simp [State.losePage]

@[simp] theorem State.failWait_frame (s : State) (fn : ℕ) (w : XWait) (cause : ℕ) :
    (s.failWait fn w cause).time = s.time ∧ (s.failWait fn w cause).draws = s.draws ∧ (s.failWait fn w cause).pending = s.pending ∧
    (s.failWait fn w cause).held = s.held ∧ (s.failWait fn w cause).latch = s.latch ∧ (s.failWait fn w cause).pow = s.pow ∧
    (s.failWait fn w cause).ident = s.ident ∧ (s.failWait fn w cause).noc = s.noc ∧ (s.failWait fn w cause).lines = s.lines ∧
    (s.failWait fn w cause).ports = s.ports ∧ (s.failWait fn w cause).torus = s.torus ∧ (s.failWait fn w cause).sec = s.sec ∧
    (s.failWait fn w cause).flash = s.flash := by
  unfold State.failWait; (repeat' split) <;> simp

@[simp] theorem State.takeWaits_frame (s : State) (fn : ℕ) (p : XWait → Bool) :
    (s.takeWaits fn p).2.time = s.time ∧ (s.takeWaits fn p).2.draws = s.draws ∧ (s.takeWaits fn p).2.tx = s.tx ∧
    (s.takeWaits fn p).2.pending = s.pending ∧ (s.takeWaits fn p).2.hub = s.hub ∧ (s.takeWaits fn p).2.held = s.held ∧
    (s.takeWaits fn p).2.latch = s.latch ∧ (s.takeWaits fn p).2.pce = s.pce ∧ (s.takeWaits fn p).2.boot = s.boot ∧
    (s.takeWaits fn p).2.pow = s.pow ∧ (s.takeWaits fn p).2.obs = s.obs ∧ (s.takeWaits fn p).2.ident = s.ident ∧
    (s.takeWaits fn p).2.noc = s.noc ∧ (s.takeWaits fn p).2.lines = s.lines ∧ (s.takeWaits fn p).2.ms = s.ms ∧
    (s.takeWaits fn p).2.ports = s.ports ∧ (s.takeWaits fn p).2.torus = s.torus ∧ (s.takeWaits fn p).2.sites = s.sites ∧
    (s.takeWaits fn p).2.sec = s.sec ∧ (s.takeWaits fn p).2.sdg = s.sdg ∧ (s.takeWaits fn p).2.groups = s.groups ∧
    (s.takeWaits fn p).2.mem = s.mem ∧ (s.takeWaits fn p).2.poison = s.poison ∧ (s.takeWaits fn p).2.flash = s.flash := by
  simp [State.takeWaits]

@[simp] theorem State.askAts_frame (s : State) (fn : ℕ) (w : XWait) :
    (s.askAts fn w).time = s.time ∧ (s.askAts fn w).draws = s.draws ∧ (s.askAts fn w).pending = s.pending ∧ (s.askAts fn w).hub = s.hub ∧
    (s.askAts fn w).held = s.held ∧ (s.askAts fn w).latch = s.latch ∧ (s.askAts fn w).pce = s.pce ∧ (s.askAts fn w).boot = s.boot ∧
    (s.askAts fn w).pow = s.pow ∧ (s.askAts fn w).obs = s.obs ∧ (s.askAts fn w).ident = s.ident ∧ (s.askAts fn w).noc = s.noc ∧
    (s.askAts fn w).lines = s.lines ∧ (s.askAts fn w).ms = s.ms ∧ (s.askAts fn w).ports = s.ports ∧ (s.askAts fn w).torus = s.torus ∧
    (s.askAts fn w).sites = s.sites ∧ (s.askAts fn w).sec = s.sec ∧ (s.askAts fn w).sdg = s.sdg ∧ (s.askAts fn w).groups = s.groups ∧
    (s.askAts fn w).mem = s.mem ∧ (s.askAts fn w).poison = s.poison ∧ (s.askAts fn w).flash = s.flash := by
  simp [State.askAts]

@[simp] theorem State.pageFault_frame (s : State) (fn : ℕ) (w : XWait) :
    (s.pageFault fn w).time = s.time ∧ (s.pageFault fn w).draws = s.draws ∧ (s.pageFault fn w).pending = s.pending ∧
    (s.pageFault fn w).held = s.held ∧ (s.pageFault fn w).latch = s.latch ∧ (s.pageFault fn w).pow = s.pow ∧
    (s.pageFault fn w).ident = s.ident ∧ (s.pageFault fn w).noc = s.noc ∧ (s.pageFault fn w).lines = s.lines ∧
    (s.pageFault fn w).ports = s.ports ∧ (s.pageFault fn w).torus = s.torus ∧ (s.pageFault fn w).sec = s.sec ∧
    (s.pageFault fn w).flash = s.flash := by
  unfold State.pageFault
  dsimp only
  (repeat' split) <;> (repeat' apply And.intro) <;> (try simp) <;> (try apply foldl_keep) <;> intros <;> (repeat' split) <;> simp_all

@[simp] theorem State.missPage_frame (s : State) (fn : ℕ) (w : XWait) :
    (s.missPage fn w).time = s.time ∧ (s.missPage fn w).draws = s.draws ∧ (s.missPage fn w).pending = s.pending ∧
    (s.missPage fn w).hub = s.hub ∧ (s.missPage fn w).held = s.held ∧ (s.missPage fn w).latch = s.latch ∧ (s.missPage fn w).pce = s.pce ∧
    (s.missPage fn w).boot = s.boot ∧ (s.missPage fn w).pow = s.pow ∧ (s.missPage fn w).obs = s.obs ∧ (s.missPage fn w).ident = s.ident ∧
    (s.missPage fn w).noc = s.noc ∧ (s.missPage fn w).lines = s.lines ∧ (s.missPage fn w).ms = s.ms ∧ (s.missPage fn w).ports = s.ports ∧
    (s.missPage fn w).torus = s.torus ∧ (s.missPage fn w).sites = s.sites ∧ (s.missPage fn w).sec = s.sec ∧ (s.missPage fn w).sdg = s.sdg ∧
    (s.missPage fn w).groups = s.groups ∧ (s.missPage fn w).mem = s.mem ∧ (s.missPage fn w).poison = s.poison ∧
    (s.missPage fn w).flash = s.flash := by
  simp [State.missPage]

@[simp] theorem State.needPage_frame (s : State) (fn : ℕ) (va : ℕ) (write : Bool) (atomic : Bool) (direct : Bool) (who : XWho) :
    (s.needPage fn va write atomic direct who).time = s.time ∧ (s.needPage fn va write atomic direct who).draws = s.draws ∧
    (s.needPage fn va write atomic direct who).pending = s.pending ∧ (s.needPage fn va write atomic direct who).held = s.held ∧
    (s.needPage fn va write atomic direct who).latch = s.latch ∧ (s.needPage fn va write atomic direct who).pow = s.pow ∧
    (s.needPage fn va write atomic direct who).ident = s.ident ∧ (s.needPage fn va write atomic direct who).noc = s.noc ∧
    (s.needPage fn va write atomic direct who).lines = s.lines ∧ (s.needPage fn va write atomic direct who).ports = s.ports ∧
    (s.needPage fn va write atomic direct who).torus = s.torus ∧ (s.needPage fn va write atomic direct who).sec = s.sec ∧
    (s.needPage fn va write atomic direct who).flash = s.flash := by
  unfold State.needPage
  dsimp only
  (repeat' split) <;> (repeat' apply And.intro) <;> (try simp) <;> (try apply foldl_keep) <;> intros <;> (repeat' split) <;> simp_all

@[simp] theorem State.hostAsk_frame (s : State) (q : PcieReq) :
    (s.hostAsk q).time = s.time ∧ (s.hostAsk q).draws = s.draws ∧ (s.hostAsk q).pending = s.pending ∧ (s.hostAsk q).hub = s.hub ∧
    (s.hostAsk q).held = s.held ∧ (s.hostAsk q).latch = s.latch ∧ (s.hostAsk q).fns = s.fns ∧ (s.hostAsk q).boot = s.boot ∧
    (s.hostAsk q).pow = s.pow ∧ (s.hostAsk q).obs = s.obs ∧ (s.hostAsk q).ident = s.ident ∧ (s.hostAsk q).noc = s.noc ∧
    (s.hostAsk q).lines = s.lines ∧ (s.hostAsk q).ms = s.ms ∧ (s.hostAsk q).ports = s.ports ∧ (s.hostAsk q).torus = s.torus ∧
    (s.hostAsk q).sites = s.sites ∧ (s.hostAsk q).sec = s.sec ∧ (s.hostAsk q).sdg = s.sdg ∧ (s.hostAsk q).groups = s.groups ∧
    (s.hostAsk q).mem = s.mem ∧ (s.hostAsk q).poison = s.poison ∧ (s.hostAsk q).flash = s.flash := by
  simp [State.hostAsk]

@[simp] theorem State.lastPoison_frame (s : State) (fn : ℕ) (line : ℕ) :
    (s.lastPoison fn line).time = s.time ∧ (s.lastPoison fn line).draws = s.draws ∧ (s.lastPoison fn line).tx = s.tx ∧
    (s.lastPoison fn line).pending = s.pending ∧ (s.lastPoison fn line).hub = s.hub ∧ (s.lastPoison fn line).held = s.held ∧
    (s.lastPoison fn line).latch = s.latch ∧ (s.lastPoison fn line).pce = s.pce ∧ (s.lastPoison fn line).boot = s.boot ∧
    (s.lastPoison fn line).pow = s.pow ∧ (s.lastPoison fn line).obs = s.obs ∧ (s.lastPoison fn line).ident = s.ident ∧
    (s.lastPoison fn line).noc = s.noc ∧ (s.lastPoison fn line).lines = s.lines ∧ (s.lastPoison fn line).ms = s.ms ∧
    (s.lastPoison fn line).ports = s.ports ∧ (s.lastPoison fn line).torus = s.torus ∧ (s.lastPoison fn line).sites = s.sites ∧
    (s.lastPoison fn line).sec = s.sec ∧ (s.lastPoison fn line).sdg = s.sdg ∧ (s.lastPoison fn line).groups = s.groups ∧
    (s.lastPoison fn line).mem = s.mem ∧ (s.lastPoison fn line).poison = s.poison ∧ (s.lastPoison fn line).flash = s.flash := by
  unfold State.lastPoison
  dsimp only
  (repeat' split) <;> (repeat' apply And.intro) <;> (try simp) <;> (try apply foldl_keep) <;> intros <;> (repeat' split) <;> simp_all

@[simp] theorem State.memPoison_frame (s : State) (gid : ℕ) (line : Option ℕ) :
    (s.memPoison gid line).time = s.time ∧ (s.memPoison gid line).draws = s.draws ∧ (s.memPoison gid line).tx = s.tx ∧
    (s.memPoison gid line).pending = s.pending ∧ (s.memPoison gid line).hub = s.hub ∧ (s.memPoison gid line).held = s.held ∧
    (s.memPoison gid line).latch = s.latch ∧ (s.memPoison gid line).pce = s.pce ∧ (s.memPoison gid line).boot = s.boot ∧
    (s.memPoison gid line).pow = s.pow ∧ (s.memPoison gid line).obs = s.obs ∧ (s.memPoison gid line).ident = s.ident ∧
    (s.memPoison gid line).noc = s.noc ∧ (s.memPoison gid line).lines = s.lines ∧ (s.memPoison gid line).ms = s.ms ∧
    (s.memPoison gid line).ports = s.ports ∧ (s.memPoison gid line).torus = s.torus ∧ (s.memPoison gid line).sites = s.sites ∧
    (s.memPoison gid line).sec = s.sec ∧ (s.memPoison gid line).sdg = s.sdg ∧ (s.memPoison gid line).mem = s.mem ∧
    (s.memPoison gid line).poison = s.poison ∧ (s.memPoison gid line).flash = s.flash := by
  unfold State.memPoison; (repeat' split) <;> simp

@[simp] theorem State.meetPoison_frame (s : State) (gid : ℕ) (ts : List (Tgt × ℕ)) :
    (s.meetPoison gid ts).time = s.time ∧ (s.meetPoison gid ts).draws = s.draws ∧ (s.meetPoison gid ts).tx = s.tx ∧
    (s.meetPoison gid ts).pending = s.pending ∧ (s.meetPoison gid ts).hub = s.hub ∧ (s.meetPoison gid ts).held = s.held ∧
    (s.meetPoison gid ts).latch = s.latch ∧ (s.meetPoison gid ts).pce = s.pce ∧ (s.meetPoison gid ts).boot = s.boot ∧
    (s.meetPoison gid ts).pow = s.pow ∧ (s.meetPoison gid ts).obs = s.obs ∧ (s.meetPoison gid ts).ident = s.ident ∧
    (s.meetPoison gid ts).noc = s.noc ∧ (s.meetPoison gid ts).lines = s.lines ∧ (s.meetPoison gid ts).ms = s.ms ∧
    (s.meetPoison gid ts).ports = s.ports ∧ (s.meetPoison gid ts).torus = s.torus ∧ (s.meetPoison gid ts).sites = s.sites ∧
    (s.meetPoison gid ts).sec = s.sec ∧ (s.meetPoison gid ts).sdg = s.sdg ∧ (s.meetPoison gid ts).mem = s.mem ∧
    (s.meetPoison gid ts).poison = s.poison ∧ (s.meetPoison gid ts).flash = s.flash := by
  simp [State.meetPoison]

@[simp] theorem State.retire_frame (s : State) (t : Thr) (g : Grp) (th : Thread) :
    (s.retire t g th).time = s.time ∧ (s.retire t g th).draws = s.draws ∧ (s.retire t g th).tx = s.tx ∧
    (s.retire t g th).pending = s.pending ∧ (s.retire t g th).held = s.held ∧ (s.retire t g th).latch = s.latch ∧
    (s.retire t g th).pce = s.pce ∧ (s.retire t g th).boot = s.boot ∧ (s.retire t g th).pow = s.pow ∧ (s.retire t g th).obs = s.obs ∧
    (s.retire t g th).ident = s.ident ∧ (s.retire t g th).noc = s.noc ∧ (s.retire t g th).lines = s.lines ∧ (s.retire t g th).ms = s.ms ∧
    (s.retire t g th).ports = s.ports ∧ (s.retire t g th).torus = s.torus ∧ (s.retire t g th).sites = s.sites ∧
    (s.retire t g th).sec = s.sec ∧ (s.retire t g th).sdg = s.sdg ∧ (s.retire t g th).mem = s.mem ∧ (s.retire t g th).poison = s.poison ∧
    (s.retire t g th).flash = s.flash := by
  simp [State.retire]

@[simp] theorem State.insn_time (s : State) (t : Thr) (grd : BitVec 5) (vec : Bool) (legal : Bool) (xs : List ℕ) (vs : List ℕ)
  (k : Grp → Thread → State) (h : ∀ g th, (k g th).time = s.time) : (s.insn t grd vec legal xs vs k).time = s.time := by
  unfold State.insn
  (repeat' split) <;> simp [h]
@[simp] theorem State.insn_draws (s : State) (t : Thr) (grd : BitVec 5) (vec : Bool) (legal : Bool) (xs : List ℕ) (vs : List ℕ)
  (k : Grp → Thread → State) (h : ∀ g th, (k g th).draws = s.draws) : (s.insn t grd vec legal xs vs k).draws = s.draws := by
  unfold State.insn
  (repeat' split) <;> simp [h]
@[simp] theorem State.insn_tx (s : State) (t : Thr) (grd : BitVec 5) (vec : Bool) (legal : Bool) (xs : List ℕ) (vs : List ℕ)
  (k : Grp → Thread → State) (h : ∀ g th, (k g th).tx = s.tx) : (s.insn t grd vec legal xs vs k).tx = s.tx := by
  unfold State.insn
  (repeat' split) <;> simp [h]
@[simp] theorem State.insn_pending (s : State) (t : Thr) (grd : BitVec 5) (vec : Bool) (legal : Bool) (xs : List ℕ) (vs : List ℕ)
  (k : Grp → Thread → State) (h : ∀ g th, (k g th).pending = s.pending) : (s.insn t grd vec legal xs vs k).pending = s.pending := by
  unfold State.insn
  (repeat' split) <;> simp [h]
@[simp] theorem State.insn_held (s : State) (t : Thr) (grd : BitVec 5) (vec : Bool) (legal : Bool) (xs : List ℕ) (vs : List ℕ)
  (k : Grp → Thread → State) (h : ∀ g th, (k g th).held = s.held) : (s.insn t grd vec legal xs vs k).held = s.held := by
  unfold State.insn
  (repeat' split) <;> simp [h]
@[simp] theorem State.insn_latch (s : State) (t : Thr) (grd : BitVec 5) (vec : Bool) (legal : Bool) (xs : List ℕ) (vs : List ℕ)
  (k : Grp → Thread → State) (h : ∀ g th, (k g th).latch = s.latch) : (s.insn t grd vec legal xs vs k).latch = s.latch := by
  unfold State.insn
  (repeat' split) <;> simp [h]
@[simp] theorem State.insn_pce (s : State) (t : Thr) (grd : BitVec 5) (vec : Bool) (legal : Bool) (xs : List ℕ) (vs : List ℕ)
  (k : Grp → Thread → State) (h : ∀ g th, (k g th).pce = s.pce) : (s.insn t grd vec legal xs vs k).pce = s.pce := by
  unfold State.insn
  (repeat' split) <;> simp [h]
@[simp] theorem State.insn_boot (s : State) (t : Thr) (grd : BitVec 5) (vec : Bool) (legal : Bool) (xs : List ℕ) (vs : List ℕ)
  (k : Grp → Thread → State) (h : ∀ g th, (k g th).boot = s.boot) : (s.insn t grd vec legal xs vs k).boot = s.boot := by
  unfold State.insn
  (repeat' split) <;> simp [h]
@[simp] theorem State.insn_pow (s : State) (t : Thr) (grd : BitVec 5) (vec : Bool) (legal : Bool) (xs : List ℕ) (vs : List ℕ)
  (k : Grp → Thread → State) (h : ∀ g th, (k g th).pow = s.pow) : (s.insn t grd vec legal xs vs k).pow = s.pow := by
  unfold State.insn
  (repeat' split) <;> simp [h]
@[simp] theorem State.insn_ident (s : State) (t : Thr) (grd : BitVec 5) (vec : Bool) (legal : Bool) (xs : List ℕ) (vs : List ℕ)
  (k : Grp → Thread → State) (h : ∀ g th, (k g th).ident = s.ident) : (s.insn t grd vec legal xs vs k).ident = s.ident := by
  unfold State.insn
  (repeat' split) <;> simp [h]
@[simp] theorem State.insn_noc (s : State) (t : Thr) (grd : BitVec 5) (vec : Bool) (legal : Bool) (xs : List ℕ) (vs : List ℕ)
  (k : Grp → Thread → State) (h : ∀ g th, (k g th).noc = s.noc) : (s.insn t grd vec legal xs vs k).noc = s.noc := by
  unfold State.insn
  (repeat' split) <;> simp [h]
@[simp] theorem State.insn_lines (s : State) (t : Thr) (grd : BitVec 5) (vec : Bool) (legal : Bool) (xs : List ℕ) (vs : List ℕ)
  (k : Grp → Thread → State) (h : ∀ g th, (k g th).lines = s.lines) : (s.insn t grd vec legal xs vs k).lines = s.lines := by
  unfold State.insn
  (repeat' split) <;> simp [h]
@[simp] theorem State.insn_ms (s : State) (t : Thr) (grd : BitVec 5) (vec : Bool) (legal : Bool) (xs : List ℕ) (vs : List ℕ)
  (k : Grp → Thread → State) (h : ∀ g th, (k g th).ms = s.ms) : (s.insn t grd vec legal xs vs k).ms = s.ms := by
  unfold State.insn
  (repeat' split) <;> simp [h]
@[simp] theorem State.insn_ports (s : State) (t : Thr) (grd : BitVec 5) (vec : Bool) (legal : Bool) (xs : List ℕ) (vs : List ℕ)
  (k : Grp → Thread → State) (h : ∀ g th, (k g th).ports = s.ports) : (s.insn t grd vec legal xs vs k).ports = s.ports := by
  unfold State.insn
  (repeat' split) <;> simp [h]
@[simp] theorem State.insn_torus (s : State) (t : Thr) (grd : BitVec 5) (vec : Bool) (legal : Bool) (xs : List ℕ) (vs : List ℕ)
  (k : Grp → Thread → State) (h : ∀ g th, (k g th).torus = s.torus) : (s.insn t grd vec legal xs vs k).torus = s.torus := by
  unfold State.insn
  (repeat' split) <;> simp [h]
@[simp] theorem State.insn_sites (s : State) (t : Thr) (grd : BitVec 5) (vec : Bool) (legal : Bool) (xs : List ℕ) (vs : List ℕ)
  (k : Grp → Thread → State) (h : ∀ g th, (k g th).sites = s.sites) : (s.insn t grd vec legal xs vs k).sites = s.sites := by
  unfold State.insn
  (repeat' split) <;> simp [h]
@[simp] theorem State.insn_sec (s : State) (t : Thr) (grd : BitVec 5) (vec : Bool) (legal : Bool) (xs : List ℕ) (vs : List ℕ)
  (k : Grp → Thread → State) (h : ∀ g th, (k g th).sec = s.sec) : (s.insn t grd vec legal xs vs k).sec = s.sec := by
  unfold State.insn
  (repeat' split) <;> simp [h]
@[simp] theorem State.insn_sdg (s : State) (t : Thr) (grd : BitVec 5) (vec : Bool) (legal : Bool) (xs : List ℕ) (vs : List ℕ)
  (k : Grp → Thread → State) (h : ∀ g th, (k g th).sdg = s.sdg) : (s.insn t grd vec legal xs vs k).sdg = s.sdg := by
  unfold State.insn
  (repeat' split) <;> simp [h]
@[simp] theorem State.insn_mem (s : State) (t : Thr) (grd : BitVec 5) (vec : Bool) (legal : Bool) (xs : List ℕ) (vs : List ℕ)
  (k : Grp → Thread → State) (h : ∀ g th, (k g th).mem = s.mem) : (s.insn t grd vec legal xs vs k).mem = s.mem := by
  unfold State.insn
  (repeat' split) <;> simp [h]
@[simp] theorem State.insn_poison (s : State) (t : Thr) (grd : BitVec 5) (vec : Bool) (legal : Bool) (xs : List ℕ) (vs : List ℕ)
  (k : Grp → Thread → State) (h : ∀ g th, (k g th).poison = s.poison) : (s.insn t grd vec legal xs vs k).poison = s.poison := by
  unfold State.insn
  (repeat' split) <;> simp [h]
@[simp] theorem State.insn_flash (s : State) (t : Thr) (grd : BitVec 5) (vec : Bool) (legal : Bool) (xs : List ℕ) (vs : List ℕ)
  (k : Grp → Thread → State) (h : ∀ g th, (k g th).flash = s.flash) : (s.insn t grd vec legal xs vs k).flash = s.flash := by
  unfold State.insn
  (repeat' split) <;> simp [h]

@[simp] theorem State.unreached_frame (s : State) (t : Thr) (va : ℕ) (k : AccKind) (r : Reach) :
    (s.unreached t va k r).time = s.time ∧ (s.unreached t va k r).draws = s.draws ∧ (s.unreached t va k r).pending = s.pending ∧
    (s.unreached t va k r).held = s.held ∧ (s.unreached t va k r).latch = s.latch ∧ (s.unreached t va k r).pow = s.pow ∧
    (s.unreached t va k r).ident = s.ident ∧ (s.unreached t va k r).noc = s.noc ∧ (s.unreached t va k r).lines = s.lines ∧
    (s.unreached t va k r).ports = s.ports ∧ (s.unreached t va k r).torus = s.torus ∧ (s.unreached t va k r).sec = s.sec ∧
    (s.unreached t va k r).flash = s.flash := by
  unfold State.unreached; (repeat' split) <;> simp

@[simp] theorem State.foldFill_frame (s : State) (owner : ℕ) (line : ℕ) :
    (s.foldFill owner line).time = s.time ∧ (s.foldFill owner line).draws = s.draws ∧ (s.foldFill owner line).tx = s.tx ∧
    (s.foldFill owner line).pending = s.pending ∧ (s.foldFill owner line).hub = s.hub ∧ (s.foldFill owner line).held = s.held ∧
    (s.foldFill owner line).latch = s.latch ∧ (s.foldFill owner line).fns = s.fns ∧ (s.foldFill owner line).pce = s.pce ∧
    (s.foldFill owner line).boot = s.boot ∧ (s.foldFill owner line).pow = s.pow ∧ (s.foldFill owner line).obs = s.obs ∧
    (s.foldFill owner line).ident = s.ident ∧ (s.foldFill owner line).noc = s.noc ∧ (s.foldFill owner line).lines = s.lines ∧
    (s.foldFill owner line).ports = s.ports ∧ (s.foldFill owner line).torus = s.torus ∧ (s.foldFill owner line).sites = s.sites ∧
    (s.foldFill owner line).sec = s.sec ∧ (s.foldFill owner line).sdg = s.sdg ∧ (s.foldFill owner line).groups = s.groups ∧
    (s.foldFill owner line).mem = s.mem ∧ (s.foldFill owner line).poison = s.poison ∧ (s.foldFill owner line).flash = s.flash := by
  simp [State.foldFill]

@[simp] theorem State.foldRead_frame (s : State) (fn : ℕ) (stream : ℕ) (line : ℕ) :
    (s.foldRead fn stream line).time = s.time ∧ (s.foldRead fn stream line).draws = s.draws ∧ (s.foldRead fn stream line).tx = s.tx ∧
    (s.foldRead fn stream line).pending = s.pending ∧ (s.foldRead fn stream line).held = s.held ∧
    (s.foldRead fn stream line).latch = s.latch ∧ (s.foldRead fn stream line).pce = s.pce ∧ (s.foldRead fn stream line).boot = s.boot ∧
    (s.foldRead fn stream line).pow = s.pow ∧ (s.foldRead fn stream line).obs = s.obs ∧ (s.foldRead fn stream line).ident = s.ident ∧
    (s.foldRead fn stream line).noc = s.noc ∧ (s.foldRead fn stream line).lines = s.lines ∧ (s.foldRead fn stream line).ports = s.ports ∧
    (s.foldRead fn stream line).torus = s.torus ∧ (s.foldRead fn stream line).sites = s.sites ∧ (s.foldRead fn stream line).sec = s.sec ∧
    (s.foldRead fn stream line).sdg = s.sdg ∧ (s.foldRead fn stream line).groups = s.groups ∧ (s.foldRead fn stream line).mem = s.mem ∧
    (s.foldRead fn stream line).poison = s.poison ∧ (s.foldRead fn stream line).flash = s.flash := by
  simp [State.foldRead]

@[simp] theorem State.foldWrite_frame (s : State) (owner : ℕ) (a : ℕ) (n : ℕ) :
    (s.foldWrite owner a n).time = s.time ∧ (s.foldWrite owner a n).draws = s.draws ∧ (s.foldWrite owner a n).tx = s.tx ∧
    (s.foldWrite owner a n).pending = s.pending ∧ (s.foldWrite owner a n).hub = s.hub ∧ (s.foldWrite owner a n).held = s.held ∧
    (s.foldWrite owner a n).latch = s.latch ∧ (s.foldWrite owner a n).fns = s.fns ∧ (s.foldWrite owner a n).pce = s.pce ∧
    (s.foldWrite owner a n).boot = s.boot ∧ (s.foldWrite owner a n).pow = s.pow ∧ (s.foldWrite owner a n).obs = s.obs ∧
    (s.foldWrite owner a n).ident = s.ident ∧ (s.foldWrite owner a n).noc = s.noc ∧ (s.foldWrite owner a n).lines = s.lines ∧
    (s.foldWrite owner a n).ports = s.ports ∧ (s.foldWrite owner a n).torus = s.torus ∧ (s.foldWrite owner a n).sites = s.sites ∧
    (s.foldWrite owner a n).sec = s.sec ∧ (s.foldWrite owner a n).sdg = s.sdg ∧ (s.foldWrite owner a n).groups = s.groups ∧
    (s.foldWrite owner a n).mem = s.mem ∧ (s.foldWrite owner a n).poison = s.poison ∧ (s.foldWrite owner a n).flash = s.flash := by
  simp [State.foldWrite]

@[simp] theorem State.foldDrop_frame (s : State) (owner : Option ℕ) (a : ℕ) (n : ℕ) :
    (s.foldDrop owner a n).time = s.time ∧ (s.foldDrop owner a n).draws = s.draws ∧ (s.foldDrop owner a n).tx = s.tx ∧
    (s.foldDrop owner a n).pending = s.pending ∧ (s.foldDrop owner a n).hub = s.hub ∧ (s.foldDrop owner a n).held = s.held ∧
    (s.foldDrop owner a n).latch = s.latch ∧ (s.foldDrop owner a n).fns = s.fns ∧ (s.foldDrop owner a n).pce = s.pce ∧
    (s.foldDrop owner a n).boot = s.boot ∧ (s.foldDrop owner a n).pow = s.pow ∧ (s.foldDrop owner a n).obs = s.obs ∧
    (s.foldDrop owner a n).ident = s.ident ∧ (s.foldDrop owner a n).noc = s.noc ∧ (s.foldDrop owner a n).lines = s.lines ∧
    (s.foldDrop owner a n).ports = s.ports ∧ (s.foldDrop owner a n).torus = s.torus ∧ (s.foldDrop owner a n).sites = s.sites ∧
    (s.foldDrop owner a n).sec = s.sec ∧ (s.foldDrop owner a n).sdg = s.sdg ∧ (s.foldDrop owner a n).groups = s.groups ∧
    (s.foldDrop owner a n).mem = s.mem ∧ (s.foldDrop owner a n).poison = s.poison ∧ (s.foldDrop owner a n).flash = s.flash := by
  simp [State.foldDrop]

@[simp] theorem State.noteRead_frame (s : State) (gid : ℕ) (g : Grp) (t : Tgt) (n : ℕ) :
    (s.noteRead gid g t n).time = s.time ∧ (s.noteRead gid g t n).draws = s.draws ∧ (s.noteRead gid g t n).tx = s.tx ∧
    (s.noteRead gid g t n).pending = s.pending ∧ (s.noteRead gid g t n).held = s.held ∧ (s.noteRead gid g t n).latch = s.latch ∧
    (s.noteRead gid g t n).pce = s.pce ∧ (s.noteRead gid g t n).boot = s.boot ∧ (s.noteRead gid g t n).pow = s.pow ∧
    (s.noteRead gid g t n).obs = s.obs ∧ (s.noteRead gid g t n).ident = s.ident ∧ (s.noteRead gid g t n).noc = s.noc ∧
    (s.noteRead gid g t n).lines = s.lines ∧ (s.noteRead gid g t n).ports = s.ports ∧ (s.noteRead gid g t n).torus = s.torus ∧
    (s.noteRead gid g t n).sites = s.sites ∧ (s.noteRead gid g t n).sec = s.sec ∧ (s.noteRead gid g t n).sdg = s.sdg ∧
    (s.noteRead gid g t n).mem = s.mem ∧ (s.noteRead gid g t n).poison = s.poison ∧ (s.noteRead gid g t n).flash = s.flash := by
  simp [State.noteRead]

@[simp] theorem State.stageLine_frame (s : State) (gid : ℕ) (lpa : ℕ) :
    (s.stageLine gid lpa).time = s.time ∧ (s.stageLine gid lpa).draws = s.draws ∧ (s.stageLine gid lpa).tx = s.tx ∧
    (s.stageLine gid lpa).pending = s.pending ∧ (s.stageLine gid lpa).held = s.held ∧ (s.stageLine gid lpa).latch = s.latch ∧
    (s.stageLine gid lpa).pce = s.pce ∧ (s.stageLine gid lpa).boot = s.boot ∧ (s.stageLine gid lpa).pow = s.pow ∧
    (s.stageLine gid lpa).obs = s.obs ∧ (s.stageLine gid lpa).ident = s.ident ∧ (s.stageLine gid lpa).noc = s.noc ∧
    (s.stageLine gid lpa).lines = s.lines ∧ (s.stageLine gid lpa).ports = s.ports ∧ (s.stageLine gid lpa).torus = s.torus ∧
    (s.stageLine gid lpa).sites = s.sites ∧ (s.stageLine gid lpa).sec = s.sec ∧ (s.stageLine gid lpa).sdg = s.sdg ∧
    (s.stageLine gid lpa).groups = s.groups ∧ (s.stageLine gid lpa).mem = s.mem ∧ (s.stageLine gid lpa).poison = s.poison ∧
    (s.stageLine gid lpa).flash = s.flash := by
  simp [State.stageLine]

@[simp] theorem State.stageBytes_frame (s : State) (gid : ℕ) (va : ℕ) (lpa : Option ℕ) (bs : List Byte) :
    (s.stageBytes gid va lpa bs).time = s.time ∧ (s.stageBytes gid va lpa bs).draws = s.draws ∧ (s.stageBytes gid va lpa bs).tx = s.tx ∧
    (s.stageBytes gid va lpa bs).pending = s.pending ∧ (s.stageBytes gid va lpa bs).held = s.held ∧
    (s.stageBytes gid va lpa bs).latch = s.latch ∧ (s.stageBytes gid va lpa bs).pce = s.pce ∧ (s.stageBytes gid va lpa bs).boot = s.boot ∧
    (s.stageBytes gid va lpa bs).pow = s.pow ∧ (s.stageBytes gid va lpa bs).obs = s.obs ∧ (s.stageBytes gid va lpa bs).ident = s.ident ∧
    (s.stageBytes gid va lpa bs).noc = s.noc ∧ (s.stageBytes gid va lpa bs).lines = s.lines ∧ (s.stageBytes gid va lpa bs).ports = s.ports ∧
    (s.stageBytes gid va lpa bs).torus = s.torus ∧ (s.stageBytes gid va lpa bs).sites = s.sites ∧ (s.stageBytes gid va lpa bs).sec = s.sec ∧
    (s.stageBytes gid va lpa bs).sdg = s.sdg ∧ (s.stageBytes gid va lpa bs).mem = s.mem ∧ (s.stageBytes gid va lpa bs).poison = s.poison ∧
    (s.stageBytes gid va lpa bs).flash = s.flash := by
  unfold State.stageBytes; (repeat' split) <;> simp

@[simp] theorem State.putTgt_frame (s : State) (gid : ℕ) (t : Tgt) (bs : List Byte) :
    (s.putTgt gid t bs).time = s.time ∧ (s.putTgt gid t bs).draws = s.draws ∧ (s.putTgt gid t bs).tx = s.tx ∧
    (s.putTgt gid t bs).pending = s.pending ∧ (s.putTgt gid t bs).held = s.held ∧ (s.putTgt gid t bs).latch = s.latch ∧
    (s.putTgt gid t bs).pce = s.pce ∧ (s.putTgt gid t bs).boot = s.boot ∧ (s.putTgt gid t bs).pow = s.pow ∧
    (s.putTgt gid t bs).obs = s.obs ∧ (s.putTgt gid t bs).ident = s.ident ∧ (s.putTgt gid t bs).noc = s.noc ∧
    (s.putTgt gid t bs).lines = s.lines ∧ (s.putTgt gid t bs).ports = s.ports ∧ (s.putTgt gid t bs).torus = s.torus ∧
    (s.putTgt gid t bs).sites = s.sites ∧ (s.putTgt gid t bs).sec = s.sec ∧ (s.putTgt gid t bs).sdg = s.sdg ∧
    (s.putTgt gid t bs).flash = s.flash := by
  unfold State.putTgt; (repeat' split) <;> simp

@[simp] theorem State.doneX_frame (s : State) (t : Thr) (g : Grp) (th : Thread) (d : BitVec 6) (v : W64) :
    (s.doneX t g th d v).time = s.time ∧ (s.doneX t g th d v).draws = s.draws ∧ (s.doneX t g th d v).tx = s.tx ∧
    (s.doneX t g th d v).pending = s.pending ∧ (s.doneX t g th d v).held = s.held ∧ (s.doneX t g th d v).latch = s.latch ∧
    (s.doneX t g th d v).pce = s.pce ∧ (s.doneX t g th d v).boot = s.boot ∧ (s.doneX t g th d v).pow = s.pow ∧
    (s.doneX t g th d v).obs = s.obs ∧ (s.doneX t g th d v).ident = s.ident ∧ (s.doneX t g th d v).noc = s.noc ∧
    (s.doneX t g th d v).lines = s.lines ∧ (s.doneX t g th d v).ms = s.ms ∧ (s.doneX t g th d v).ports = s.ports ∧
    (s.doneX t g th d v).torus = s.torus ∧ (s.doneX t g th d v).sites = s.sites ∧ (s.doneX t g th d v).sec = s.sec ∧
    (s.doneX t g th d v).sdg = s.sdg ∧ (s.doneX t g th d v).mem = s.mem ∧ (s.doneX t g th d v).poison = s.poison ∧
    (s.doneX t g th d v).flash = s.flash := by
  simp [State.doneX]

@[simp] theorem State.doneP_frame (s : State) (t : Thr) (g : Grp) (th : Thread) (d : BitVec 6) (v : W32) :
    (s.doneP t g th d v).time = s.time ∧ (s.doneP t g th d v).draws = s.draws ∧ (s.doneP t g th d v).tx = s.tx ∧
    (s.doneP t g th d v).pending = s.pending ∧ (s.doneP t g th d v).held = s.held ∧ (s.doneP t g th d v).latch = s.latch ∧
    (s.doneP t g th d v).pce = s.pce ∧ (s.doneP t g th d v).boot = s.boot ∧ (s.doneP t g th d v).pow = s.pow ∧
    (s.doneP t g th d v).obs = s.obs ∧ (s.doneP t g th d v).ident = s.ident ∧ (s.doneP t g th d v).noc = s.noc ∧
    (s.doneP t g th d v).lines = s.lines ∧ (s.doneP t g th d v).ms = s.ms ∧ (s.doneP t g th d v).ports = s.ports ∧
    (s.doneP t g th d v).torus = s.torus ∧ (s.doneP t g th d v).sites = s.sites ∧ (s.doneP t g th d v).sec = s.sec ∧
    (s.doneP t g th d v).sdg = s.sdg ∧ (s.doneP t g th d v).mem = s.mem ∧ (s.doneP t g th d v).poison = s.poison ∧
    (s.doneP t g th d v).flash = s.flash := by
  simp [State.doneP]

@[simp] theorem State.doneV_frame (s : State) (t : Thr) (g : Grp) (th : Thread) (d : BitVec 6) (v : List W32) :
    (s.doneV t g th d v).time = s.time ∧ (s.doneV t g th d v).draws = s.draws ∧ (s.doneV t g th d v).tx = s.tx ∧
    (s.doneV t g th d v).pending = s.pending ∧ (s.doneV t g th d v).held = s.held ∧ (s.doneV t g th d v).latch = s.latch ∧
    (s.doneV t g th d v).pce = s.pce ∧ (s.doneV t g th d v).boot = s.boot ∧ (s.doneV t g th d v).pow = s.pow ∧
    (s.doneV t g th d v).obs = s.obs ∧ (s.doneV t g th d v).ident = s.ident ∧ (s.doneV t g th d v).noc = s.noc ∧
    (s.doneV t g th d v).lines = s.lines ∧ (s.doneV t g th d v).ms = s.ms ∧ (s.doneV t g th d v).ports = s.ports ∧
    (s.doneV t g th d v).torus = s.torus ∧ (s.doneV t g th d v).sites = s.sites ∧ (s.doneV t g th d v).sec = s.sec ∧
    (s.doneV t g th d v).sdg = s.sdg ∧ (s.doneV t g th d v).mem = s.mem ∧ (s.doneV t g th d v).poison = s.poison ∧
    (s.doneV t g th d v).flash = s.flash := by
  simp [State.doneV]

@[simp] theorem State.scalar2_frame (s : State) (t : Thr) (f : FmtR) (op : W64 → W64 → W64) :
    (s.scalar2 t f op).time = s.time ∧ (s.scalar2 t f op).draws = s.draws ∧ (s.scalar2 t f op).tx = s.tx ∧
    (s.scalar2 t f op).pending = s.pending ∧ (s.scalar2 t f op).held = s.held ∧ (s.scalar2 t f op).latch = s.latch ∧
    (s.scalar2 t f op).pce = s.pce ∧ (s.scalar2 t f op).boot = s.boot ∧ (s.scalar2 t f op).pow = s.pow ∧
    (s.scalar2 t f op).ident = s.ident ∧ (s.scalar2 t f op).noc = s.noc ∧ (s.scalar2 t f op).lines = s.lines ∧
    (s.scalar2 t f op).ms = s.ms ∧ (s.scalar2 t f op).ports = s.ports ∧ (s.scalar2 t f op).torus = s.torus ∧
    (s.scalar2 t f op).sites = s.sites ∧ (s.scalar2 t f op).sec = s.sec ∧ (s.scalar2 t f op).sdg = s.sdg ∧ (s.scalar2 t f op).mem = s.mem ∧
    (s.scalar2 t f op).poison = s.poison ∧ (s.scalar2 t f op).flash = s.flash := by
  simp [State.scalar2]

@[simp] theorem State.scalar1_frame (s : State) (t : Thr) (f : FmtR) (op : W64 → W64) :
    (s.scalar1 t f op).time = s.time ∧ (s.scalar1 t f op).draws = s.draws ∧ (s.scalar1 t f op).tx = s.tx ∧
    (s.scalar1 t f op).pending = s.pending ∧ (s.scalar1 t f op).held = s.held ∧ (s.scalar1 t f op).latch = s.latch ∧
    (s.scalar1 t f op).pce = s.pce ∧ (s.scalar1 t f op).boot = s.boot ∧ (s.scalar1 t f op).pow = s.pow ∧
    (s.scalar1 t f op).ident = s.ident ∧ (s.scalar1 t f op).noc = s.noc ∧ (s.scalar1 t f op).lines = s.lines ∧
    (s.scalar1 t f op).ms = s.ms ∧ (s.scalar1 t f op).ports = s.ports ∧ (s.scalar1 t f op).torus = s.torus ∧
    (s.scalar1 t f op).sites = s.sites ∧ (s.scalar1 t f op).sec = s.sec ∧ (s.scalar1 t f op).sdg = s.sdg ∧ (s.scalar1 t f op).mem = s.mem ∧
    (s.scalar1 t f op).poison = s.poison ∧ (s.scalar1 t f op).flash = s.flash := by
  simp [State.scalar1]

@[simp] theorem State.scalarI_frame (s : State) (t : Thr) (f : FmtI) (immOk : Bool) (op : W64 → BitVec 32 → W64) :
    (s.scalarI t f immOk op).time = s.time ∧ (s.scalarI t f immOk op).draws = s.draws ∧ (s.scalarI t f immOk op).tx = s.tx ∧
    (s.scalarI t f immOk op).pending = s.pending ∧ (s.scalarI t f immOk op).held = s.held ∧ (s.scalarI t f immOk op).latch = s.latch ∧
    (s.scalarI t f immOk op).pce = s.pce ∧ (s.scalarI t f immOk op).boot = s.boot ∧ (s.scalarI t f immOk op).pow = s.pow ∧
    (s.scalarI t f immOk op).ident = s.ident ∧ (s.scalarI t f immOk op).noc = s.noc ∧ (s.scalarI t f immOk op).lines = s.lines ∧
    (s.scalarI t f immOk op).ms = s.ms ∧ (s.scalarI t f immOk op).ports = s.ports ∧ (s.scalarI t f immOk op).torus = s.torus ∧
    (s.scalarI t f immOk op).sites = s.sites ∧ (s.scalarI t f immOk op).sec = s.sec ∧ (s.scalarI t f immOk op).sdg = s.sdg ∧
    (s.scalarI t f immOk op).mem = s.mem ∧ (s.scalarI t f immOk op).poison = s.poison ∧ (s.scalarI t f immOk op).flash = s.flash := by
  simp [State.scalarI]

@[simp] theorem State.pred2_frame (s : State) (t : Thr) (f : FmtR) (op : W32 → W32 → W32) :
    (s.pred2 t f op).time = s.time ∧ (s.pred2 t f op).draws = s.draws ∧ (s.pred2 t f op).tx = s.tx ∧ (s.pred2 t f op).pending = s.pending ∧
    (s.pred2 t f op).held = s.held ∧ (s.pred2 t f op).latch = s.latch ∧ (s.pred2 t f op).pce = s.pce ∧ (s.pred2 t f op).boot = s.boot ∧
    (s.pred2 t f op).pow = s.pow ∧ (s.pred2 t f op).ident = s.ident ∧ (s.pred2 t f op).noc = s.noc ∧ (s.pred2 t f op).lines = s.lines ∧
    (s.pred2 t f op).ms = s.ms ∧ (s.pred2 t f op).ports = s.ports ∧ (s.pred2 t f op).torus = s.torus ∧ (s.pred2 t f op).sites = s.sites ∧
    (s.pred2 t f op).sec = s.sec ∧ (s.pred2 t f op).sdg = s.sdg ∧ (s.pred2 t f op).mem = s.mem ∧ (s.pred2 t f op).poison = s.poison ∧
    (s.pred2 t f op).flash = s.flash := by
  simp [State.pred2]

@[simp] theorem State.vecN_frame (s : State) (t : Thr) (f : FmtR) (n : ℕ) (tys : List ℕ) (op : ℕ → W32 → W32 → W32 → W32) :
    (s.vecN t f n tys op).time = s.time ∧ (s.vecN t f n tys op).draws = s.draws ∧ (s.vecN t f n tys op).tx = s.tx ∧
    (s.vecN t f n tys op).pending = s.pending ∧ (s.vecN t f n tys op).held = s.held ∧ (s.vecN t f n tys op).latch = s.latch ∧
    (s.vecN t f n tys op).pce = s.pce ∧ (s.vecN t f n tys op).boot = s.boot ∧ (s.vecN t f n tys op).pow = s.pow ∧
    (s.vecN t f n tys op).ident = s.ident ∧ (s.vecN t f n tys op).noc = s.noc ∧ (s.vecN t f n tys op).lines = s.lines ∧
    (s.vecN t f n tys op).ms = s.ms ∧ (s.vecN t f n tys op).ports = s.ports ∧ (s.vecN t f n tys op).torus = s.torus ∧
    (s.vecN t f n tys op).sites = s.sites ∧ (s.vecN t f n tys op).sec = s.sec ∧ (s.vecN t f n tys op).sdg = s.sdg ∧
    (s.vecN t f n tys op).mem = s.mem ∧ (s.vecN t f n tys op).poison = s.poison ∧ (s.vecN t f n tys op).flash = s.flash := by
  simp [State.vecN]

@[simp] theorem State.vred_frame (s : State) (t : Thr) (f : FmtR) (red : ℕ → List W32 → Option W32) :
    (s.vred t f red).time = s.time ∧ (s.vred t f red).draws = s.draws ∧ (s.vred t f red).tx = s.tx ∧ (s.vred t f red).pending = s.pending ∧
    (s.vred t f red).held = s.held ∧ (s.vred t f red).latch = s.latch ∧ (s.vred t f red).pce = s.pce ∧ (s.vred t f red).boot = s.boot ∧
    (s.vred t f red).pow = s.pow ∧ (s.vred t f red).ident = s.ident ∧ (s.vred t f red).noc = s.noc ∧ (s.vred t f red).lines = s.lines ∧
    (s.vred t f red).ms = s.ms ∧ (s.vred t f red).ports = s.ports ∧ (s.vred t f red).torus = s.torus ∧ (s.vred t f red).sites = s.sites ∧
    (s.vred t f red).sec = s.sec ∧ (s.vred t f red).sdg = s.sdg ∧ (s.vred t f red).mem = s.mem ∧ (s.vred t f red).poison = s.poison ∧
    (s.vred t f red).flash = s.flash := by
  unfold State.vred
  simp (disch := (intros; (repeat' split) <;> simp))

@[simp] theorem State.exactAdd_frame (s : State) (gid : ℕ) (t : Tgt) (ty : ℕ) (v : Fv) :
    (s.exactAdd gid t ty v).time = s.time ∧ (s.exactAdd gid t ty v).draws = s.draws ∧ (s.exactAdd gid t ty v).tx = s.tx ∧
    (s.exactAdd gid t ty v).pending = s.pending ∧ (s.exactAdd gid t ty v).held = s.held ∧ (s.exactAdd gid t ty v).latch = s.latch ∧
    (s.exactAdd gid t ty v).pce = s.pce ∧ (s.exactAdd gid t ty v).boot = s.boot ∧ (s.exactAdd gid t ty v).pow = s.pow ∧
    (s.exactAdd gid t ty v).obs = s.obs ∧ (s.exactAdd gid t ty v).ident = s.ident ∧ (s.exactAdd gid t ty v).noc = s.noc ∧
    (s.exactAdd gid t ty v).lines = s.lines ∧ (s.exactAdd gid t ty v).ports = s.ports ∧ (s.exactAdd gid t ty v).torus = s.torus ∧
    (s.exactAdd gid t ty v).sites = s.sites ∧ (s.exactAdd gid t ty v).sec = s.sec ∧ (s.exactAdd gid t ty v).sdg = s.sdg ∧
    (s.exactAdd gid t ty v).mem = s.mem ∧ (s.exactAdd gid t ty v).poison = s.poison ∧ (s.exactAdd gid t ty v).flash = s.flash := by
  unfold State.exactAdd; (repeat' split) <;> simp

@[simp] theorem State.closeXa_frame (s : State) (gid : ℕ) (x : XaOpen) :
    (s.closeXa gid x).time = s.time ∧ (s.closeXa gid x).draws = s.draws ∧ (s.closeXa gid x).tx = s.tx ∧
    (s.closeXa gid x).pending = s.pending ∧ (s.closeXa gid x).held = s.held ∧ (s.closeXa gid x).latch = s.latch ∧
    (s.closeXa gid x).pce = s.pce ∧ (s.closeXa gid x).boot = s.boot ∧ (s.closeXa gid x).pow = s.pow ∧ (s.closeXa gid x).obs = s.obs ∧
    (s.closeXa gid x).ident = s.ident ∧ (s.closeXa gid x).noc = s.noc ∧ (s.closeXa gid x).lines = s.lines ∧
    (s.closeXa gid x).ports = s.ports ∧ (s.closeXa gid x).torus = s.torus ∧ (s.closeXa gid x).sites = s.sites ∧
    (s.closeXa gid x).sec = s.sec ∧ (s.closeXa gid x).sdg = s.sdg ∧ (s.closeXa gid x).flash = s.flash := by
  unfold State.closeXa; (repeat' split) <;> simp

@[simp] theorem State.closeXas_frame (s : State) (gid : ℕ) :
    (s.closeXas gid).time = s.time ∧ (s.closeXas gid).draws = s.draws ∧ (s.closeXas gid).tx = s.tx ∧ (s.closeXas gid).pending = s.pending ∧
    (s.closeXas gid).held = s.held ∧ (s.closeXas gid).latch = s.latch ∧ (s.closeXas gid).pce = s.pce ∧ (s.closeXas gid).boot = s.boot ∧
    (s.closeXas gid).pow = s.pow ∧ (s.closeXas gid).obs = s.obs ∧ (s.closeXas gid).ident = s.ident ∧ (s.closeXas gid).noc = s.noc ∧
    (s.closeXas gid).lines = s.lines ∧ (s.closeXas gid).ports = s.ports ∧ (s.closeXas gid).torus = s.torus ∧
    (s.closeXas gid).sites = s.sites ∧ (s.closeXas gid).sec = s.sec ∧ (s.closeXas gid).sdg = s.sdg ∧ (s.closeXas gid).flash = s.flash := by
  unfold State.closeXas; (repeat' split) <;> simp

@[simp] theorem State.restartLater_frame (s : State) (gid : ℕ) :
    (s.restartLater gid).time = s.time ∧ (s.restartLater gid).draws = s.draws ∧ (s.restartLater gid).tx = s.tx ∧
    (s.restartLater gid).pending = s.pending ∧ (s.restartLater gid).held = s.held ∧ (s.restartLater gid).latch = s.latch ∧
    (s.restartLater gid).boot = s.boot ∧ (s.restartLater gid).pow = s.pow ∧ (s.restartLater gid).obs = s.obs ∧
    (s.restartLater gid).ident = s.ident ∧ (s.restartLater gid).noc = s.noc ∧ (s.restartLater gid).lines = s.lines ∧
    (s.restartLater gid).ports = s.ports ∧ (s.restartLater gid).torus = s.torus ∧ (s.restartLater gid).sec = s.sec ∧
    (s.restartLater gid).sdg = s.sdg ∧ (s.restartLater gid).mem = s.mem ∧ (s.restartLater gid).poison = s.poison ∧
    (s.restartLater gid).flash = s.flash := by
  unfold State.restartLater
  dsimp only
  (repeat' split) <;> (repeat' apply And.intro) <;> (try simp) <;> (try apply foldl_keep) <;> intros <;> (repeat' split) <;> simp_all

@[simp] theorem State.settleGroup_frame (s : State) (gid : ℕ) :
    (s.settleGroup gid).time = s.time ∧ (s.settleGroup gid).draws = s.draws ∧ (s.settleGroup gid).tx = s.tx ∧
    (s.settleGroup gid).pending = s.pending ∧ (s.settleGroup gid).held = s.held ∧ (s.settleGroup gid).latch = s.latch ∧
    (s.settleGroup gid).boot = s.boot ∧ (s.settleGroup gid).pow = s.pow ∧ (s.settleGroup gid).obs = s.obs ∧
    (s.settleGroup gid).ident = s.ident ∧ (s.settleGroup gid).noc = s.noc ∧ (s.settleGroup gid).lines = s.lines ∧
    (s.settleGroup gid).ports = s.ports ∧ (s.settleGroup gid).torus = s.torus ∧ (s.settleGroup gid).sec = s.sec ∧
    (s.settleGroup gid).sdg = s.sdg ∧ (s.settleGroup gid).flash = s.flash := by
  unfold State.settleGroup
  dsimp only
  (repeat' split) <;> (repeat' apply And.intro) <;> (try simp) <;> (try apply foldl_keep) <;> intros <;> (repeat' split) <;> simp_all

@[simp] theorem State.atomInt_frame (s : State) (t : Thr) (f : FmtA) (o : AtomOp) (ret : Bool) (g : Grp) (th : Thread) (tgt : Tgt) :
    (s.atomInt t f o ret g th tgt).time = s.time ∧ (s.atomInt t f o ret g th tgt).draws = s.draws ∧
    (s.atomInt t f o ret g th tgt).tx = s.tx ∧ (s.atomInt t f o ret g th tgt).pending = s.pending ∧
    (s.atomInt t f o ret g th tgt).held = s.held ∧ (s.atomInt t f o ret g th tgt).latch = s.latch ∧
    (s.atomInt t f o ret g th tgt).pce = s.pce ∧ (s.atomInt t f o ret g th tgt).boot = s.boot ∧ (s.atomInt t f o ret g th tgt).pow = s.pow ∧
    (s.atomInt t f o ret g th tgt).obs = s.obs ∧ (s.atomInt t f o ret g th tgt).ident = s.ident ∧
    (s.atomInt t f o ret g th tgt).noc = s.noc ∧ (s.atomInt t f o ret g th tgt).lines = s.lines ∧
    (s.atomInt t f o ret g th tgt).ports = s.ports ∧ (s.atomInt t f o ret g th tgt).torus = s.torus ∧
    (s.atomInt t f o ret g th tgt).sites = s.sites ∧ (s.atomInt t f o ret g th tgt).sec = s.sec ∧
    (s.atomInt t f o ret g th tgt).sdg = s.sdg ∧ (s.atomInt t f o ret g th tgt).flash = s.flash := by
  unfold State.atomInt
  dsimp only
  (repeat' split) <;> (repeat' apply And.intro) <;> (try simp) <;> (try apply foldl_keep) <;> intros <;> (repeat' split) <;> simp_all

@[simp] theorem State.askPart_frame (s : State) (t : Thr) (g : Grp) (id : ℕ) (i : ℕ) (p : LoadPart) :
    (s.askPart t g id i p).time = s.time ∧ (s.askPart t g id i p).draws = s.draws ∧ (s.askPart t g id i p).pending = s.pending ∧
    (s.askPart t g id i p).hub = s.hub ∧ (s.askPart t g id i p).held = s.held ∧ (s.askPart t g id i p).latch = s.latch ∧
    (s.askPart t g id i p).fns = s.fns ∧ (s.askPart t g id i p).boot = s.boot ∧ (s.askPart t g id i p).pow = s.pow ∧
    (s.askPart t g id i p).obs = s.obs ∧ (s.askPart t g id i p).ident = s.ident ∧ (s.askPart t g id i p).noc = s.noc ∧
    (s.askPart t g id i p).lines = s.lines ∧ (s.askPart t g id i p).ms = s.ms ∧ (s.askPart t g id i p).ports = s.ports ∧
    (s.askPart t g id i p).torus = s.torus ∧ (s.askPart t g id i p).sites = s.sites ∧ (s.askPart t g id i p).sec = s.sec ∧
    (s.askPart t g id i p).sdg = s.sdg ∧ (s.askPart t g id i p).groups = s.groups ∧ (s.askPart t g id i p).mem = s.mem ∧
    (s.askPart t g id i p).poison = s.poison ∧ (s.askPart t g id i p).flash = s.flash := by
  unfold State.askPart; (repeat' split) <;> simp

@[simp] theorem State.askParts_frame (s : State) (t : Thr) (g : Grp) (id : ℕ) (ps : List LoadPart) :
    (s.askParts t g id ps).time = s.time ∧ (s.askParts t g id ps).draws = s.draws ∧ (s.askParts t g id ps).pending = s.pending ∧
    (s.askParts t g id ps).hub = s.hub ∧ (s.askParts t g id ps).held = s.held ∧ (s.askParts t g id ps).latch = s.latch ∧
    (s.askParts t g id ps).fns = s.fns ∧ (s.askParts t g id ps).boot = s.boot ∧ (s.askParts t g id ps).pow = s.pow ∧
    (s.askParts t g id ps).obs = s.obs ∧ (s.askParts t g id ps).ident = s.ident ∧ (s.askParts t g id ps).noc = s.noc ∧
    (s.askParts t g id ps).lines = s.lines ∧ (s.askParts t g id ps).ms = s.ms ∧ (s.askParts t g id ps).ports = s.ports ∧
    (s.askParts t g id ps).torus = s.torus ∧ (s.askParts t g id ps).sites = s.sites ∧ (s.askParts t g id ps).sec = s.sec ∧
    (s.askParts t g id ps).sdg = s.sdg ∧ (s.askParts t g id ps).groups = s.groups ∧ (s.askParts t g id ps).mem = s.mem ∧
    (s.askParts t g id ps).poison = s.poison ∧ (s.askParts t g id ps).flash = s.flash := by
  simp [State.askParts]

@[simp] theorem State.startLoad_frame (s : State) (t : Thr) (g : Grp) (th : Thread) (op : LoadOp) :
    (s.startLoad t g th op).time = s.time ∧ (s.startLoad t g th op).draws = s.draws ∧ (s.startLoad t g th op).pending = s.pending ∧
    (s.startLoad t g th op).held = s.held ∧ (s.startLoad t g th op).latch = s.latch ∧ (s.startLoad t g th op).boot = s.boot ∧
    (s.startLoad t g th op).pow = s.pow ∧ (s.startLoad t g th op).obs = s.obs ∧ (s.startLoad t g th op).ident = s.ident ∧
    (s.startLoad t g th op).noc = s.noc ∧ (s.startLoad t g th op).lines = s.lines ∧ (s.startLoad t g th op).ms = s.ms ∧
    (s.startLoad t g th op).ports = s.ports ∧ (s.startLoad t g th op).torus = s.torus ∧ (s.startLoad t g th op).sites = s.sites ∧
    (s.startLoad t g th op).sec = s.sec ∧ (s.startLoad t g th op).sdg = s.sdg ∧ (s.startLoad t g th op).mem = s.mem ∧
    (s.startLoad t g th op).poison = s.poison ∧ (s.startLoad t g th op).flash = s.flash := by
  simp [State.startLoad]

@[simp] theorem execLoad_frame (s : State) (t : Thr) (f : FmtM) (acq : Bool) :
    (execLoad s t f acq).time = s.time ∧ (execLoad s t f acq).draws = s.draws ∧ (execLoad s t f acq).pending = s.pending ∧
    (execLoad s t f acq).held = s.held ∧ (execLoad s t f acq).latch = s.latch ∧ (execLoad s t f acq).pow = s.pow ∧
    (execLoad s t f acq).ident = s.ident ∧ (execLoad s t f acq).noc = s.noc ∧ (execLoad s t f acq).lines = s.lines ∧
    (execLoad s t f acq).ports = s.ports ∧ (execLoad s t f acq).torus = s.torus ∧ (execLoad s t f acq).sec = s.sec ∧
    (execLoad s t f acq).flash = s.flash := by
  unfold execLoad
  refine ⟨State.insn_time _ _ _ _ _ _ _ _ ?_, State.insn_draws _ _ _ _ _ _ _ _ ?_, State.insn_pending _ _ _ _ _ _ _ _ ?_,
    State.insn_held _ _ _ _ _ _ _ _ ?_, State.insn_latch _ _ _ _ _ _ _ _ ?_, State.insn_pow _ _ _ _ _ _ _ _ ?_,
    State.insn_ident _ _ _ _ _ _ _ _ ?_, State.insn_noc _ _ _ _ _ _ _ _ ?_, State.insn_lines _ _ _ _ _ _ _ _ ?_,
    State.insn_ports _ _ _ _ _ _ _ _ ?_, State.insn_torus _ _ _ _ _ _ _ _ ?_, State.insn_sec _ _ _ _ _ _ _ _ ?_,
    State.insn_flash _ _ _ _ _ _ _ _ ?_⟩ <;> intros <;> dsimp only <;> (repeat' split) <;> simp

@[simp] theorem State.winStore_frame (s : State) (t : Thr) (lpa : ℕ) (bs : List Byte) :
    (s.winStore t lpa bs).time = s.time ∧ (s.winStore t lpa bs).draws = s.draws ∧ (s.winStore t lpa bs).tx = s.tx ∧
    (s.winStore t lpa bs).pending = s.pending ∧ (s.winStore t lpa bs).hub = s.hub ∧ (s.winStore t lpa bs).held = s.held ∧
    (s.winStore t lpa bs).latch = s.latch ∧ (s.winStore t lpa bs).fns = s.fns ∧ (s.winStore t lpa bs).pce = s.pce ∧
    (s.winStore t lpa bs).boot = s.boot ∧ (s.winStore t lpa bs).pow = s.pow ∧ (s.winStore t lpa bs).obs = s.obs ∧
    (s.winStore t lpa bs).ident = s.ident ∧ (s.winStore t lpa bs).noc = s.noc ∧ (s.winStore t lpa bs).lines = s.lines ∧
    (s.winStore t lpa bs).ms = s.ms ∧ (s.winStore t lpa bs).ports = s.ports ∧ (s.winStore t lpa bs).torus = s.torus ∧
    (s.winStore t lpa bs).sec = s.sec ∧ (s.winStore t lpa bs).sdg = s.sdg ∧ (s.winStore t lpa bs).groups = s.groups ∧
    (s.winStore t lpa bs).mem = s.mem ∧ (s.winStore t lpa bs).poison = s.poison ∧ (s.winStore t lpa bs).flash = s.flash := by
  simp [State.winStore]

@[simp] theorem State.doStore_frame (s : State) (t : Thr) (g : Grp) (th : Thread) (tgt : Tgt) (bs : List Byte) :
    (s.doStore t g th tgt bs).time = s.time ∧ (s.doStore t g th tgt bs).draws = s.draws ∧ (s.doStore t g th tgt bs).tx = s.tx ∧
    (s.doStore t g th tgt bs).pending = s.pending ∧ (s.doStore t g th tgt bs).held = s.held ∧ (s.doStore t g th tgt bs).latch = s.latch ∧
    (s.doStore t g th tgt bs).pce = s.pce ∧ (s.doStore t g th tgt bs).boot = s.boot ∧ (s.doStore t g th tgt bs).pow = s.pow ∧
    (s.doStore t g th tgt bs).obs = s.obs ∧ (s.doStore t g th tgt bs).ident = s.ident ∧ (s.doStore t g th tgt bs).noc = s.noc ∧
    (s.doStore t g th tgt bs).lines = s.lines ∧ (s.doStore t g th tgt bs).ports = s.ports ∧ (s.doStore t g th tgt bs).torus = s.torus ∧
    (s.doStore t g th tgt bs).sec = s.sec ∧ (s.doStore t g th tgt bs).sdg = s.sdg ∧ (s.doStore t g th tgt bs).flash = s.flash := by
  unfold State.doStore; (repeat' split) <;> simp

@[simp] theorem execStore_frame (s : State) (t : Thr) (f : FmtM) (rel : Bool) :
    (execStore s t f rel).time = s.time ∧ (execStore s t f rel).draws = s.draws ∧ (execStore s t f rel).pending = s.pending ∧
    (execStore s t f rel).held = s.held ∧ (execStore s t f rel).latch = s.latch ∧ (execStore s t f rel).pow = s.pow ∧
    (execStore s t f rel).ident = s.ident ∧ (execStore s t f rel).noc = s.noc ∧ (execStore s t f rel).lines = s.lines ∧
    (execStore s t f rel).ports = s.ports ∧ (execStore s t f rel).torus = s.torus ∧ (execStore s t f rel).sec = s.sec ∧
    (execStore s t f rel).flash = s.flash := by
  unfold execStore
  refine ⟨State.insn_time _ _ _ _ _ _ _ _ ?_, State.insn_draws _ _ _ _ _ _ _ _ ?_, State.insn_pending _ _ _ _ _ _ _ _ ?_,
    State.insn_held _ _ _ _ _ _ _ _ ?_, State.insn_latch _ _ _ _ _ _ _ _ ?_, State.insn_pow _ _ _ _ _ _ _ _ ?_,
    State.insn_ident _ _ _ _ _ _ _ _ ?_, State.insn_noc _ _ _ _ _ _ _ _ ?_, State.insn_lines _ _ _ _ _ _ _ _ ?_,
    State.insn_ports _ _ _ _ _ _ _ _ ?_, State.insn_torus _ _ _ _ _ _ _ _ ?_, State.insn_sec _ _ _ _ _ _ _ _ ?_,
    State.insn_flash _ _ _ _ _ _ _ _ ?_⟩ <;> intros <;> dsimp only <;> (repeat' split) <;> simp

@[simp] theorem State.storeLanes_frame (s : State) (t : Thr) (v : List W32) (lanes : List ℕ) (size : ℕ) (at' : ℕ → Tgt) :
    (s.storeLanes t v lanes size at').time = s.time ∧ (s.storeLanes t v lanes size at').draws = s.draws ∧
    (s.storeLanes t v lanes size at').tx = s.tx ∧ (s.storeLanes t v lanes size at').pending = s.pending ∧
    (s.storeLanes t v lanes size at').held = s.held ∧ (s.storeLanes t v lanes size at').latch = s.latch ∧
    (s.storeLanes t v lanes size at').pce = s.pce ∧ (s.storeLanes t v lanes size at').boot = s.boot ∧
    (s.storeLanes t v lanes size at').pow = s.pow ∧ (s.storeLanes t v lanes size at').obs = s.obs ∧
    (s.storeLanes t v lanes size at').ident = s.ident ∧ (s.storeLanes t v lanes size at').noc = s.noc ∧
    (s.storeLanes t v lanes size at').lines = s.lines ∧ (s.storeLanes t v lanes size at').ports = s.ports ∧
    (s.storeLanes t v lanes size at').torus = s.torus ∧ (s.storeLanes t v lanes size at').sites = s.sites ∧
    (s.storeLanes t v lanes size at').sec = s.sec ∧ (s.storeLanes t v lanes size at').sdg = s.sdg ∧
    (s.storeLanes t v lanes size at').flash = s.flash := by
  simp [State.storeLanes]

@[simp] theorem State.askCopy_frame (s : State) (t : Thr) (g : Grp) (id : ℕ) (ps : List LoadPart) :
    (s.askCopy t g id ps).time = s.time ∧ (s.askCopy t g id ps).draws = s.draws ∧ (s.askCopy t g id ps).pending = s.pending ∧
    (s.askCopy t g id ps).hub = s.hub ∧ (s.askCopy t g id ps).held = s.held ∧ (s.askCopy t g id ps).latch = s.latch ∧
    (s.askCopy t g id ps).fns = s.fns ∧ (s.askCopy t g id ps).boot = s.boot ∧ (s.askCopy t g id ps).pow = s.pow ∧
    (s.askCopy t g id ps).obs = s.obs ∧ (s.askCopy t g id ps).ident = s.ident ∧ (s.askCopy t g id ps).noc = s.noc ∧
    (s.askCopy t g id ps).lines = s.lines ∧ (s.askCopy t g id ps).ms = s.ms ∧ (s.askCopy t g id ps).ports = s.ports ∧
    (s.askCopy t g id ps).torus = s.torus ∧ (s.askCopy t g id ps).sites = s.sites ∧ (s.askCopy t g id ps).sec = s.sec ∧
    (s.askCopy t g id ps).sdg = s.sdg ∧ (s.askCopy t g id ps).groups = s.groups ∧ (s.askCopy t g id ps).mem = s.mem ∧
    (s.askCopy t g id ps).poison = s.poison ∧ (s.askCopy t g id ps).flash = s.flash := by
  unfold State.askCopy
  (repeat' split) <;> (repeat' apply And.intro) <;> (try simp) <;> (try apply foldl_keep) <;> intros <;> (repeat' split) <;> (try simp_all)

@[simp] theorem State.copyDone_frame (s : State) (t : Thr) (g : Grp) (m : MCopyOp) :
    (s.copyDone t g m).time = s.time ∧ (s.copyDone t g m).draws = s.draws ∧ (s.copyDone t g m).tx = s.tx ∧
    (s.copyDone t g m).pending = s.pending ∧ (s.copyDone t g m).held = s.held ∧ (s.copyDone t g m).latch = s.latch ∧
    (s.copyDone t g m).pce = s.pce ∧ (s.copyDone t g m).boot = s.boot ∧ (s.copyDone t g m).pow = s.pow ∧ (s.copyDone t g m).obs = s.obs ∧
    (s.copyDone t g m).ident = s.ident ∧ (s.copyDone t g m).noc = s.noc ∧ (s.copyDone t g m).lines = s.lines ∧
    (s.copyDone t g m).ports = s.ports ∧ (s.copyDone t g m).torus = s.torus ∧ (s.copyDone t g m).sec = s.sec ∧
    (s.copyDone t g m).sdg = s.sdg ∧ (s.copyDone t g m).flash = s.flash := by
  unfold State.copyDone
  dsimp only
  split
  · (repeat' apply And.intro) <;> (refine (foldl_keeps _ _ _ _ _ ?_ ?_)) <;> (try (intros; split)) <;> simp
  · split <;> simp

@[simp] theorem State.portField_frame (s : State) (p : ℕ) (lo : ℕ) (w : ℕ) (v : ℕ) :
    (s.portField p lo w v).time = s.time ∧ (s.portField p lo w v).draws = s.draws ∧ (s.portField p lo w v).tx = s.tx ∧
    (s.portField p lo w v).pending = s.pending ∧ (s.portField p lo w v).held = s.held ∧ (s.portField p lo w v).latch = s.latch ∧
    (s.portField p lo w v).fns = s.fns ∧ (s.portField p lo w v).pce = s.pce ∧ (s.portField p lo w v).boot = s.boot ∧
    (s.portField p lo w v).pow = s.pow ∧ (s.portField p lo w v).obs = s.obs ∧ (s.portField p lo w v).ident = s.ident ∧
    (s.portField p lo w v).noc = s.noc ∧ (s.portField p lo w v).lines = s.lines ∧ (s.portField p lo w v).ms = s.ms ∧
    (s.portField p lo w v).ports = s.ports ∧ (s.portField p lo w v).torus = s.torus ∧ (s.portField p lo w v).sites = s.sites ∧
    (s.portField p lo w v).sec = s.sec ∧ (s.portField p lo w v).sdg = s.sdg ∧ (s.portField p lo w v).groups = s.groups ∧
    (s.portField p lo w v).mem = s.mem ∧ (s.portField p lo w v).poison = s.poison ∧ (s.portField p lo w v).flash = s.flash := by
  simp [State.portField]

@[simp] theorem State.setPortState_frame (s : State) (p : ℕ) (st : ℕ) :
    (s.setPortState p st).time = s.time ∧ (s.setPortState p st).draws = s.draws ∧ (s.setPortState p st).tx = s.tx ∧
    (s.setPortState p st).pending = s.pending ∧ (s.setPortState p st).held = s.held ∧ (s.setPortState p st).latch = s.latch ∧
    (s.setPortState p st).fns = s.fns ∧ (s.setPortState p st).pce = s.pce ∧ (s.setPortState p st).boot = s.boot ∧
    (s.setPortState p st).pow = s.pow ∧ (s.setPortState p st).obs = s.obs ∧ (s.setPortState p st).ident = s.ident ∧
    (s.setPortState p st).noc = s.noc ∧ (s.setPortState p st).lines = s.lines ∧ (s.setPortState p st).ms = s.ms ∧
    (s.setPortState p st).ports = s.ports ∧ (s.setPortState p st).torus = s.torus ∧ (s.setPortState p st).sites = s.sites ∧
    (s.setPortState p st).sec = s.sec ∧ (s.setPortState p st).sdg = s.sdg ∧ (s.setPortState p st).groups = s.groups ∧
    (s.setPortState p st).mem = s.mem ∧ (s.setPortState p st).poison = s.poison ∧ (s.setPortState p st).flash = s.flash := by
  simp [State.setPortState]

@[simp] theorem State.notePools_frame (s : State) :
    s.notePools.time = s.time ∧ s.notePools.draws = s.draws ∧ s.notePools.tx = s.tx ∧ s.notePools.pending = s.pending ∧
    s.notePools.held = s.held ∧ s.notePools.latch = s.latch ∧ s.notePools.fns = s.fns ∧ s.notePools.pce = s.pce ∧
    s.notePools.boot = s.boot ∧ s.notePools.pow = s.pow ∧ s.notePools.obs = s.obs ∧ s.notePools.ident = s.ident ∧ s.notePools.noc = s.noc ∧
    s.notePools.lines = s.lines ∧ s.notePools.ms = s.ms ∧ s.notePools.ports = s.ports ∧ s.notePools.torus = s.torus ∧
    s.notePools.sites = s.sites ∧ s.notePools.sec = s.sec ∧ s.notePools.sdg = s.sdg ∧ s.notePools.groups = s.groups ∧
    s.notePools.mem = s.mem ∧ s.notePools.poison = s.poison ∧ s.notePools.flash = s.flash := by
  simp [State.notePools]

@[simp] theorem State.noteReach_frame (s : State) :
    s.noteReach.time = s.time ∧ s.noteReach.draws = s.draws ∧ s.noteReach.tx = s.tx ∧ s.noteReach.pending = s.pending ∧
    s.noteReach.held = s.held ∧ s.noteReach.latch = s.latch ∧ s.noteReach.fns = s.fns ∧ s.noteReach.pce = s.pce ∧
    s.noteReach.boot = s.boot ∧ s.noteReach.pow = s.pow ∧ s.noteReach.obs = s.obs ∧ s.noteReach.ident = s.ident ∧ s.noteReach.noc = s.noc ∧
    s.noteReach.lines = s.lines ∧ s.noteReach.ms = s.ms ∧ s.noteReach.ports = s.ports ∧ s.noteReach.torus = s.torus ∧
    s.noteReach.sites = s.sites ∧ s.noteReach.sec = s.sec ∧ s.noteReach.sdg = s.sdg ∧ s.noteReach.groups = s.groups ∧
    s.noteReach.mem = s.mem ∧ s.noteReach.poison = s.poison ∧ s.noteReach.flash = s.flash := by
  simp [State.noteReach]

@[simp] theorem State.modTorus_frame (s : State) (h : Torus → Torus) :
    (s.modTorus h).time = s.time ∧ (s.modTorus h).draws = s.draws ∧ (s.modTorus h).tx = s.tx ∧ (s.modTorus h).pending = s.pending ∧
    (s.modTorus h).hub = s.hub ∧ (s.modTorus h).held = s.held ∧ (s.modTorus h).latch = s.latch ∧ (s.modTorus h).fns = s.fns ∧
    (s.modTorus h).pce = s.pce ∧ (s.modTorus h).boot = s.boot ∧ (s.modTorus h).pow = s.pow ∧ (s.modTorus h).obs = s.obs ∧
    (s.modTorus h).ident = s.ident ∧ (s.modTorus h).noc = s.noc ∧ (s.modTorus h).lines = s.lines ∧ (s.modTorus h).ms = s.ms ∧
    (s.modTorus h).ports = s.ports ∧ (s.modTorus h).sites = s.sites ∧ (s.modTorus h).sec = s.sec ∧ (s.modTorus h).sdg = s.sdg ∧
    (s.modTorus h).groups = s.groups ∧ (s.modTorus h).mem = s.mem ∧ (s.modTorus h).poison = s.poison ∧ (s.modTorus h).flash = s.flash := by
  simp [State.modTorus]

@[simp] theorem State.setPort_frame (s : State) (p : ℕ) (x : Port) :
    (s.setPort p x).time = s.time ∧ (s.setPort p x).draws = s.draws ∧ (s.setPort p x).tx = s.tx ∧ (s.setPort p x).pending = s.pending ∧
    (s.setPort p x).hub = s.hub ∧ (s.setPort p x).held = s.held ∧ (s.setPort p x).latch = s.latch ∧ (s.setPort p x).fns = s.fns ∧
    (s.setPort p x).pce = s.pce ∧ (s.setPort p x).boot = s.boot ∧ (s.setPort p x).pow = s.pow ∧ (s.setPort p x).obs = s.obs ∧
    (s.setPort p x).ident = s.ident ∧ (s.setPort p x).noc = s.noc ∧ (s.setPort p x).lines = s.lines ∧ (s.setPort p x).ms = s.ms ∧
    (s.setPort p x).torus = s.torus ∧ (s.setPort p x).sites = s.sites ∧ (s.setPort p x).sec = s.sec ∧ (s.setPort p x).sdg = s.sdg ∧
    (s.setPort p x).groups = s.groups ∧ (s.setPort p x).mem = s.mem ∧ (s.setPort p x).poison = s.poison ∧
    (s.setPort p x).flash = s.flash := by
  simp [State.setPort]

@[simp] theorem State.modPort_frame (s : State) (p : ℕ) (h : Port → Port) :
    (s.modPort p h).time = s.time ∧ (s.modPort p h).draws = s.draws ∧ (s.modPort p h).tx = s.tx ∧ (s.modPort p h).pending = s.pending ∧
    (s.modPort p h).hub = s.hub ∧ (s.modPort p h).held = s.held ∧ (s.modPort p h).latch = s.latch ∧ (s.modPort p h).fns = s.fns ∧
    (s.modPort p h).pce = s.pce ∧ (s.modPort p h).boot = s.boot ∧ (s.modPort p h).pow = s.pow ∧ (s.modPort p h).obs = s.obs ∧
    (s.modPort p h).ident = s.ident ∧ (s.modPort p h).noc = s.noc ∧ (s.modPort p h).lines = s.lines ∧ (s.modPort p h).ms = s.ms ∧
    (s.modPort p h).torus = s.torus ∧ (s.modPort p h).sites = s.sites ∧ (s.modPort p h).sec = s.sec ∧ (s.modPort p h).sdg = s.sdg ∧
    (s.modPort p h).groups = s.groups ∧ (s.modPort p h).mem = s.mem ∧ (s.modPort p h).poison = s.poison ∧
    (s.modPort p h).flash = s.flash := by
  simp [State.modPort]

@[simp] theorem State.putLfl_frame (s : State) (p : ℕ) (m : LflMsg) :
    (s.putLfl p m).time = s.time ∧ (s.putLfl p m).draws = s.draws ∧ (s.putLfl p m).pending = s.pending ∧ (s.putLfl p m).held = s.held ∧
    (s.putLfl p m).latch = s.latch ∧ (s.putLfl p m).fns = s.fns ∧ (s.putLfl p m).pce = s.pce ∧ (s.putLfl p m).boot = s.boot ∧
    (s.putLfl p m).pow = s.pow ∧ (s.putLfl p m).obs = s.obs ∧ (s.putLfl p m).ident = s.ident ∧ (s.putLfl p m).noc = s.noc ∧
    (s.putLfl p m).lines = s.lines ∧ (s.putLfl p m).ms = s.ms ∧ (s.putLfl p m).torus = s.torus ∧ (s.putLfl p m).sites = s.sites ∧
    (s.putLfl p m).sec = s.sec ∧ (s.putLfl p m).sdg = s.sdg ∧ (s.putLfl p m).groups = s.groups ∧ (s.putLfl p m).mem = s.mem ∧
    (s.putLfl p m).poison = s.poison ∧ (s.putLfl p m).flash = s.flash := by
  simp [State.putLfl]

@[simp] theorem State.sendLfl_frame (s : State) (m : LflMsg) :
    (s.sendLfl m).time = s.time ∧ (s.sendLfl m).draws = s.draws ∧ (s.sendLfl m).pending = s.pending ∧ (s.sendLfl m).held = s.held ∧
    (s.sendLfl m).latch = s.latch ∧ (s.sendLfl m).fns = s.fns ∧ (s.sendLfl m).pce = s.pce ∧ (s.sendLfl m).boot = s.boot ∧
    (s.sendLfl m).pow = s.pow ∧ (s.sendLfl m).obs = s.obs ∧ (s.sendLfl m).ident = s.ident ∧ (s.sendLfl m).noc = s.noc ∧
    (s.sendLfl m).lines = s.lines ∧ (s.sendLfl m).ms = s.ms ∧ (s.sendLfl m).sites = s.sites ∧ (s.sendLfl m).sec = s.sec ∧
    (s.sendLfl m).sdg = s.sdg ∧ (s.sendLfl m).groups = s.groups ∧ (s.sendLfl m).mem = s.mem ∧ (s.sendLfl m).poison = s.poison ∧
    (s.sendLfl m).flash = s.flash := by
  unfold State.sendLfl; (repeat' split) <;> simp

@[simp] theorem State.floodState_frame (s : State) (node : ℕ) (dirs : ℕ) (gen : ℕ) (fenced : Bool) (except : Option ℕ) :
    (s.floodState node dirs gen fenced except).time = s.time ∧ (s.floodState node dirs gen fenced except).draws = s.draws ∧
    (s.floodState node dirs gen fenced except).pending = s.pending ∧ (s.floodState node dirs gen fenced except).held = s.held ∧
    (s.floodState node dirs gen fenced except).latch = s.latch ∧ (s.floodState node dirs gen fenced except).fns = s.fns ∧
    (s.floodState node dirs gen fenced except).pce = s.pce ∧ (s.floodState node dirs gen fenced except).boot = s.boot ∧
    (s.floodState node dirs gen fenced except).pow = s.pow ∧ (s.floodState node dirs gen fenced except).obs = s.obs ∧
    (s.floodState node dirs gen fenced except).ident = s.ident ∧ (s.floodState node dirs gen fenced except).noc = s.noc ∧
    (s.floodState node dirs gen fenced except).lines = s.lines ∧ (s.floodState node dirs gen fenced except).ms = s.ms ∧
    (s.floodState node dirs gen fenced except).torus = s.torus ∧ (s.floodState node dirs gen fenced except).sites = s.sites ∧
    (s.floodState node dirs gen fenced except).sec = s.sec ∧ (s.floodState node dirs gen fenced except).sdg = s.sdg ∧
    (s.floodState node dirs gen fenced except).groups = s.groups ∧ (s.floodState node dirs gen fenced except).mem = s.mem ∧
    (s.floodState node dirs gen fenced except).poison = s.poison ∧ (s.floodState node dirs gen fenced except).flash = s.flash := by
  simp [State.floodState]

@[simp] theorem State.noteBellwether_frame (s : State) :
    s.noteBellwether.time = s.time ∧ s.noteBellwether.draws = s.draws ∧ s.noteBellwether.tx = s.tx ∧ s.noteBellwether.pending = s.pending ∧
    s.noteBellwether.held = s.held ∧ s.noteBellwether.latch = s.latch ∧ s.noteBellwether.fns = s.fns ∧ s.noteBellwether.pce = s.pce ∧
    s.noteBellwether.boot = s.boot ∧ s.noteBellwether.pow = s.pow ∧ s.noteBellwether.obs = s.obs ∧ s.noteBellwether.ident = s.ident ∧
    s.noteBellwether.noc = s.noc ∧ s.noteBellwether.lines = s.lines ∧ s.noteBellwether.ms = s.ms ∧ s.noteBellwether.ports = s.ports ∧
    s.noteBellwether.sites = s.sites ∧ s.noteBellwether.sec = s.sec ∧ s.noteBellwether.sdg = s.sdg ∧ s.noteBellwether.groups = s.groups ∧
    s.noteBellwether.mem = s.mem ∧ s.noteBellwether.poison = s.poison ∧ s.noteBellwether.flash = s.flash := by
  simp [State.noteBellwether]

@[simp] theorem State.noteRoutes_frame (s : State) :
    s.noteRoutes.time = s.time ∧ s.noteRoutes.draws = s.draws ∧ s.noteRoutes.tx = s.tx ∧ s.noteRoutes.pending = s.pending ∧
    s.noteRoutes.held = s.held ∧ s.noteRoutes.latch = s.latch ∧ s.noteRoutes.fns = s.fns ∧ s.noteRoutes.pce = s.pce ∧
    s.noteRoutes.boot = s.boot ∧ s.noteRoutes.pow = s.pow ∧ s.noteRoutes.obs = s.obs ∧ s.noteRoutes.ident = s.ident ∧
    s.noteRoutes.noc = s.noc ∧ s.noteRoutes.lines = s.lines ∧ s.noteRoutes.ms = s.ms ∧ s.noteRoutes.ports = s.ports ∧
    s.noteRoutes.sites = s.sites ∧ s.noteRoutes.sec = s.sec ∧ s.noteRoutes.sdg = s.sdg ∧ s.noteRoutes.groups = s.groups ∧
    s.noteRoutes.mem = s.mem ∧ s.noteRoutes.poison = s.poison ∧ s.noteRoutes.flash = s.flash := by
  simp [State.noteRoutes]

@[simp] theorem State.portsChanged_frame (s : State) :
    s.portsChanged.time = s.time ∧ s.portsChanged.draws = s.draws ∧ s.portsChanged.pending = s.pending ∧ s.portsChanged.held = s.held ∧
    s.portsChanged.latch = s.latch ∧ s.portsChanged.fns = s.fns ∧ s.portsChanged.pce = s.pce ∧ s.portsChanged.boot = s.boot ∧
    s.portsChanged.pow = s.pow ∧ s.portsChanged.obs = s.obs ∧ s.portsChanged.ident = s.ident ∧ s.portsChanged.noc = s.noc ∧
    s.portsChanged.lines = s.lines ∧ s.portsChanged.ms = s.ms ∧ s.portsChanged.sites = s.sites ∧ s.portsChanged.sec = s.sec ∧
    s.portsChanged.sdg = s.sdg ∧ s.portsChanged.groups = s.groups ∧ s.portsChanged.mem = s.mem ∧ s.portsChanged.poison = s.poison ∧
    s.portsChanged.flash = s.flash := by
  simp [State.portsChanged]

@[simp] theorem State.misuse_frame (s : State) (gid : ℕ) :
    (s.misuse gid).time = s.time ∧ (s.misuse gid).draws = s.draws ∧ (s.misuse gid).tx = s.tx ∧ (s.misuse gid).pending = s.pending ∧
    (s.misuse gid).hub = s.hub ∧ (s.misuse gid).held = s.held ∧ (s.misuse gid).latch = s.latch ∧ (s.misuse gid).fns = s.fns ∧
    (s.misuse gid).pce = s.pce ∧ (s.misuse gid).boot = s.boot ∧ (s.misuse gid).pow = s.pow ∧ (s.misuse gid).ident = s.ident ∧
    (s.misuse gid).noc = s.noc ∧ (s.misuse gid).lines = s.lines ∧ (s.misuse gid).ms = s.ms ∧ (s.misuse gid).ports = s.ports ∧
    (s.misuse gid).torus = s.torus ∧ (s.misuse gid).sites = s.sites ∧ (s.misuse gid).sec = s.sec ∧ (s.misuse gid).sdg = s.sdg ∧
    (s.misuse gid).mem = s.mem ∧ (s.misuse gid).poison = s.poison ∧ (s.misuse gid).flash = s.flash := by
  simp [State.misuse]

@[simp] theorem State.putPriv_frame (s : State) (gid : ℕ) (off : ℕ) (bs : List Byte) :
    (s.putPriv gid off bs).time = s.time ∧ (s.putPriv gid off bs).draws = s.draws ∧ (s.putPriv gid off bs).tx = s.tx ∧
    (s.putPriv gid off bs).pending = s.pending ∧ (s.putPriv gid off bs).held = s.held ∧ (s.putPriv gid off bs).latch = s.latch ∧
    (s.putPriv gid off bs).pce = s.pce ∧ (s.putPriv gid off bs).boot = s.boot ∧ (s.putPriv gid off bs).pow = s.pow ∧
    (s.putPriv gid off bs).obs = s.obs ∧ (s.putPriv gid off bs).ident = s.ident ∧ (s.putPriv gid off bs).noc = s.noc ∧
    (s.putPriv gid off bs).lines = s.lines ∧ (s.putPriv gid off bs).ports = s.ports ∧ (s.putPriv gid off bs).torus = s.torus ∧
    (s.putPriv gid off bs).sites = s.sites ∧ (s.putPriv gid off bs).sec = s.sec ∧ (s.putPriv gid off bs).sdg = s.sdg ∧
    (s.putPriv gid off bs).flash = s.flash := by
  unfold State.putPriv
  split
  · simp only [and_self]
  · split <;> simp

@[simp] theorem State.writePriv_frame (s : State) (gid : ℕ) (va : ℕ) (bs : List Byte) :
    (s.writePriv gid va bs).time = s.time ∧ (s.writePriv gid va bs).draws = s.draws ∧ (s.writePriv gid va bs).tx = s.tx ∧
    (s.writePriv gid va bs).pending = s.pending ∧ (s.writePriv gid va bs).held = s.held ∧ (s.writePriv gid va bs).latch = s.latch ∧
    (s.writePriv gid va bs).pce = s.pce ∧ (s.writePriv gid va bs).boot = s.boot ∧ (s.writePriv gid va bs).pow = s.pow ∧
    (s.writePriv gid va bs).obs = s.obs ∧ (s.writePriv gid va bs).ident = s.ident ∧ (s.writePriv gid va bs).noc = s.noc ∧
    (s.writePriv gid va bs).lines = s.lines ∧ (s.writePriv gid va bs).ports = s.ports ∧ (s.writePriv gid va bs).torus = s.torus ∧
    (s.writePriv gid va bs).sites = s.sites ∧ (s.writePriv gid va bs).sec = s.sec ∧ (s.writePriv gid va bs).sdg = s.sdg ∧
    (s.writePriv gid va bs).flash = s.flash := by
  simp [State.writePriv]

@[simp] theorem State.torusDone_frame (s : State) (gid : ℕ) (k : ℕ) (m : Memo) :
    (s.torusDone gid k m).time = s.time ∧ (s.torusDone gid k m).draws = s.draws ∧ (s.torusDone gid k m).tx = s.tx ∧
    (s.torusDone gid k m).pending = s.pending ∧ (s.torusDone gid k m).held = s.held ∧ (s.torusDone gid k m).latch = s.latch ∧
    (s.torusDone gid k m).pce = s.pce ∧ (s.torusDone gid k m).boot = s.boot ∧ (s.torusDone gid k m).pow = s.pow ∧
    (s.torusDone gid k m).ident = s.ident ∧ (s.torusDone gid k m).noc = s.noc ∧ (s.torusDone gid k m).lines = s.lines ∧
    (s.torusDone gid k m).ports = s.ports ∧ (s.torusDone gid k m).torus = s.torus ∧ (s.torusDone gid k m).sites = s.sites ∧
    (s.torusDone gid k m).sec = s.sec ∧ (s.torusDone gid k m).sdg = s.sdg ∧ (s.torusDone gid k m).flash = s.flash := by
  unfold State.torusDone; (repeat' split) <;> simp

@[simp] theorem State.memberOpen_frame (s : State) (team : ℕ) (id : ℕ) (tag : ℕ) (m : Memo) :
    (s.memberOpen team id tag m).time = s.time ∧ (s.memberOpen team id tag m).draws = s.draws ∧ (s.memberOpen team id tag m).tx = s.tx ∧
    (s.memberOpen team id tag m).pending = s.pending ∧ (s.memberOpen team id tag m).held = s.held ∧
    (s.memberOpen team id tag m).latch = s.latch ∧ (s.memberOpen team id tag m).pce = s.pce ∧ (s.memberOpen team id tag m).boot = s.boot ∧
    (s.memberOpen team id tag m).pow = s.pow ∧ (s.memberOpen team id tag m).ident = s.ident ∧ (s.memberOpen team id tag m).noc = s.noc ∧
    (s.memberOpen team id tag m).lines = s.lines ∧ (s.memberOpen team id tag m).ports = s.ports ∧
    (s.memberOpen team id tag m).torus = s.torus ∧ (s.memberOpen team id tag m).sites = s.sites ∧ (s.memberOpen team id tag m).sec = s.sec ∧
    (s.memberOpen team id tag m).sdg = s.sdg ∧ (s.memberOpen team id tag m).flash = s.flash := by
  simp [State.memberOpen]

@[simp] theorem State.rootOpen_frame (s : State) (team : ℕ) (id : ℕ) (tag : ℕ) (sumType : ℕ) (lanes : List W32) :
    (s.rootOpen team id tag sumType lanes).time = s.time ∧ (s.rootOpen team id tag sumType lanes).draws = s.draws ∧
    (s.rootOpen team id tag sumType lanes).pending = s.pending ∧ (s.rootOpen team id tag sumType lanes).held = s.held ∧
    (s.rootOpen team id tag sumType lanes).latch = s.latch ∧ (s.rootOpen team id tag sumType lanes).pce = s.pce ∧
    (s.rootOpen team id tag sumType lanes).boot = s.boot ∧ (s.rootOpen team id tag sumType lanes).pow = s.pow ∧
    (s.rootOpen team id tag sumType lanes).ident = s.ident ∧ (s.rootOpen team id tag sumType lanes).noc = s.noc ∧
    (s.rootOpen team id tag sumType lanes).lines = s.lines ∧ (s.rootOpen team id tag sumType lanes).sites = s.sites ∧
    (s.rootOpen team id tag sumType lanes).sec = s.sec ∧ (s.rootOpen team id tag sumType lanes).sdg = s.sdg ∧
    (s.rootOpen team id tag sumType lanes).flash = s.flash := by
  simp [State.rootOpen]

@[simp] theorem State.rootArrive_frame (s : State) (team : ℕ) (id : ℕ) (tag : ℕ) (rank : ℕ) (sumType : ℕ) (payload : List Byte) :
    (s.rootArrive team id tag rank sumType payload).time = s.time ∧ (s.rootArrive team id tag rank sumType payload).draws = s.draws ∧
    (s.rootArrive team id tag rank sumType payload).pending = s.pending ∧ (s.rootArrive team id tag rank sumType payload).held = s.held ∧
    (s.rootArrive team id tag rank sumType payload).latch = s.latch ∧ (s.rootArrive team id tag rank sumType payload).pce = s.pce ∧
    (s.rootArrive team id tag rank sumType payload).boot = s.boot ∧ (s.rootArrive team id tag rank sumType payload).pow = s.pow ∧
    (s.rootArrive team id tag rank sumType payload).ident = s.ident ∧ (s.rootArrive team id tag rank sumType payload).noc = s.noc ∧
    (s.rootArrive team id tag rank sumType payload).lines = s.lines ∧ (s.rootArrive team id tag rank sumType payload).sites = s.sites ∧
    (s.rootArrive team id tag rank sumType payload).sec = s.sec ∧ (s.rootArrive team id tag rank sumType payload).sdg = s.sdg ∧
    (s.rootArrive team id tag rank sumType payload).flash = s.flash := by
  unfold State.rootArrive; (repeat' split) <;> simp

@[simp] theorem State.sendArrival_frame (s : State) (team : ℕ) (id : ℕ) (tag : ℕ) (sumType : ℕ) (payload : List Byte) :
    (s.sendArrival team id tag sumType payload).time = s.time ∧ (s.sendArrival team id tag sumType payload).draws = s.draws ∧
    (s.sendArrival team id tag sumType payload).pending = s.pending ∧ (s.sendArrival team id tag sumType payload).held = s.held ∧
    (s.sendArrival team id tag sumType payload).latch = s.latch ∧ (s.sendArrival team id tag sumType payload).pce = s.pce ∧
    (s.sendArrival team id tag sumType payload).boot = s.boot ∧ (s.sendArrival team id tag sumType payload).pow = s.pow ∧
    (s.sendArrival team id tag sumType payload).ident = s.ident ∧ (s.sendArrival team id tag sumType payload).noc = s.noc ∧
    (s.sendArrival team id tag sumType payload).lines = s.lines ∧ (s.sendArrival team id tag sumType payload).sites = s.sites ∧
    (s.sendArrival team id tag sumType payload).sec = s.sec ∧ (s.sendArrival team id tag sumType payload).sdg = s.sdg ∧
    (s.sendArrival team id tag sumType payload).flash = s.flash := by
  simp [State.sendArrival]

@[simp] theorem State.collectFinish_frame (s : State) (team : ℕ) (id : ℕ) (tag : ℕ) :
    (s.collectFinish team id tag).time = s.time ∧ (s.collectFinish team id tag).draws = s.draws ∧ (s.collectFinish team id tag).tx = s.tx ∧
    (s.collectFinish team id tag).pending = s.pending ∧ (s.collectFinish team id tag).held = s.held ∧
    (s.collectFinish team id tag).latch = s.latch ∧ (s.collectFinish team id tag).pce = s.pce ∧
    (s.collectFinish team id tag).boot = s.boot ∧ (s.collectFinish team id tag).pow = s.pow ∧
    (s.collectFinish team id tag).ident = s.ident ∧ (s.collectFinish team id tag).noc = s.noc ∧
    (s.collectFinish team id tag).lines = s.lines ∧ (s.collectFinish team id tag).ports = s.ports ∧
    (s.collectFinish team id tag).sites = s.sites ∧ (s.collectFinish team id tag).sec = s.sec ∧ (s.collectFinish team id tag).sdg = s.sdg ∧
    (s.collectFinish team id tag).flash = s.flash := by
  unfold State.collectFinish; (repeat' split) <;> simp

@[simp] theorem State.putResult_frame (s : State) (team : ℕ) (id : ℕ) (tag : ℕ) (off : ℕ) (bs : List Byte) :
    (s.putResult team id tag off bs).time = s.time ∧ (s.putResult team id tag off bs).draws = s.draws ∧
    (s.putResult team id tag off bs).tx = s.tx ∧ (s.putResult team id tag off bs).pending = s.pending ∧
    (s.putResult team id tag off bs).hub = s.hub ∧ (s.putResult team id tag off bs).held = s.held ∧
    (s.putResult team id tag off bs).latch = s.latch ∧ (s.putResult team id tag off bs).fns = s.fns ∧
    (s.putResult team id tag off bs).pce = s.pce ∧ (s.putResult team id tag off bs).boot = s.boot ∧
    (s.putResult team id tag off bs).pow = s.pow ∧ (s.putResult team id tag off bs).obs = s.obs ∧
    (s.putResult team id tag off bs).ident = s.ident ∧ (s.putResult team id tag off bs).noc = s.noc ∧
    (s.putResult team id tag off bs).lines = s.lines ∧ (s.putResult team id tag off bs).ms = s.ms ∧
    (s.putResult team id tag off bs).ports = s.ports ∧ (s.putResult team id tag off bs).sites = s.sites ∧
    (s.putResult team id tag off bs).sec = s.sec ∧ (s.putResult team id tag off bs).sdg = s.sdg ∧
    (s.putResult team id tag off bs).groups = s.groups ∧ (s.putResult team id tag off bs).mem = s.mem ∧
    (s.putResult team id tag off bs).poison = s.poison ∧ (s.putResult team id tag off bs).flash = s.flash := by
  simp [State.putResult]

@[simp] theorem State.ownerSum_frame (s : State) (team : ℕ) (id : ℕ) (tag : ℕ) :
    (s.ownerSum team id tag).time = s.time ∧ (s.ownerSum team id tag).draws = s.draws ∧ (s.ownerSum team id tag).pending = s.pending ∧
    (s.ownerSum team id tag).held = s.held ∧ (s.ownerSum team id tag).latch = s.latch ∧ (s.ownerSum team id tag).fns = s.fns ∧
    (s.ownerSum team id tag).pce = s.pce ∧ (s.ownerSum team id tag).boot = s.boot ∧ (s.ownerSum team id tag).pow = s.pow ∧
    (s.ownerSum team id tag).obs = s.obs ∧ (s.ownerSum team id tag).ident = s.ident ∧ (s.ownerSum team id tag).noc = s.noc ∧
    (s.ownerSum team id tag).lines = s.lines ∧ (s.ownerSum team id tag).ms = s.ms ∧ (s.ownerSum team id tag).sites = s.sites ∧
    (s.ownerSum team id tag).sec = s.sec ∧ (s.ownerSum team id tag).sdg = s.sdg ∧ (s.ownerSum team id tag).groups = s.groups ∧
    (s.ownerSum team id tag).mem = s.mem ∧ (s.ownerSum team id tag).poison = s.poison ∧ (s.ownerSum team id tag).flash = s.flash := by
  unfold State.ownerSum; (repeat' split) <;> simp

@[simp] theorem State.putContribution_frame (s : State) (team : ℕ) (id : ℕ) (tag : ℕ) (off : ℕ) (bs : List Byte) :
    (s.putContribution team id tag off bs).time = s.time ∧ (s.putContribution team id tag off bs).draws = s.draws ∧
    (s.putContribution team id tag off bs).tx = s.tx ∧ (s.putContribution team id tag off bs).pending = s.pending ∧
    (s.putContribution team id tag off bs).hub = s.hub ∧ (s.putContribution team id tag off bs).held = s.held ∧
    (s.putContribution team id tag off bs).latch = s.latch ∧ (s.putContribution team id tag off bs).fns = s.fns ∧
    (s.putContribution team id tag off bs).pce = s.pce ∧ (s.putContribution team id tag off bs).boot = s.boot ∧
    (s.putContribution team id tag off bs).pow = s.pow ∧ (s.putContribution team id tag off bs).obs = s.obs ∧
    (s.putContribution team id tag off bs).ident = s.ident ∧ (s.putContribution team id tag off bs).noc = s.noc ∧
    (s.putContribution team id tag off bs).lines = s.lines ∧ (s.putContribution team id tag off bs).ms = s.ms ∧
    (s.putContribution team id tag off bs).ports = s.ports ∧ (s.putContribution team id tag off bs).sites = s.sites ∧
    (s.putContribution team id tag off bs).sec = s.sec ∧ (s.putContribution team id tag off bs).sdg = s.sdg ∧
    (s.putContribution team id tag off bs).groups = s.groups ∧ (s.putContribution team id tag off bs).mem = s.mem ∧
    (s.putContribution team id tag off bs).poison = s.poison ∧ (s.putContribution team id tag off bs).flash = s.flash := by
  simp [State.putContribution]

@[simp] theorem State.contribute_frame (s : State) (team : ℕ) (id : ℕ) (tag : ℕ) (c : CollectOp) (bs : List Byte) :
    (s.contribute team id tag c bs).time = s.time ∧ (s.contribute team id tag c bs).draws = s.draws ∧
    (s.contribute team id tag c bs).pending = s.pending ∧ (s.contribute team id tag c bs).held = s.held ∧
    (s.contribute team id tag c bs).latch = s.latch ∧ (s.contribute team id tag c bs).pce = s.pce ∧
    (s.contribute team id tag c bs).boot = s.boot ∧ (s.contribute team id tag c bs).pow = s.pow ∧
    (s.contribute team id tag c bs).ident = s.ident ∧ (s.contribute team id tag c bs).noc = s.noc ∧
    (s.contribute team id tag c bs).lines = s.lines ∧ (s.contribute team id tag c bs).sites = s.sites ∧
    (s.contribute team id tag c bs).sec = s.sec ∧ (s.contribute team id tag c bs).sdg = s.sdg ∧
    (s.contribute team id tag c bs).flash = s.flash := by
  simp [State.contribute]

@[simp] theorem State.collectRead_frame (s : State) (gid : ℕ) :
    (s.collectRead gid).time = s.time ∧ (s.collectRead gid).draws = s.draws ∧ (s.collectRead gid).pending = s.pending ∧
    (s.collectRead gid).held = s.held ∧ (s.collectRead gid).latch = s.latch ∧ (s.collectRead gid).pce = s.pce ∧
    (s.collectRead gid).boot = s.boot ∧ (s.collectRead gid).pow = s.pow ∧ (s.collectRead gid).ident = s.ident ∧
    (s.collectRead gid).noc = s.noc ∧ (s.collectRead gid).lines = s.lines ∧ (s.collectRead gid).sites = s.sites ∧
    (s.collectRead gid).sec = s.sec ∧ (s.collectRead gid).sdg = s.sdg ∧ (s.collectRead gid).flash = s.flash := by
  unfold State.collectRead; (repeat' split) <;> simp

@[simp] theorem State.torusArrive_frame (s : State) (gid : ℕ) (k : ℕ) (g : Grp) :
    (s.torusArrive gid k g).time = s.time ∧ (s.torusArrive gid k g).draws = s.draws ∧ (s.torusArrive gid k g).pending = s.pending ∧
    (s.torusArrive gid k g).held = s.held ∧ (s.torusArrive gid k g).latch = s.latch ∧ (s.torusArrive gid k g).boot = s.boot ∧
    (s.torusArrive gid k g).pow = s.pow ∧ (s.torusArrive gid k g).ident = s.ident ∧ (s.torusArrive gid k g).noc = s.noc ∧
    (s.torusArrive gid k g).lines = s.lines ∧ (s.torusArrive gid k g).sites = s.sites ∧ (s.torusArrive gid k g).sec = s.sec ∧
    (s.torusArrive gid k g).sdg = s.sdg ∧ (s.torusArrive gid k g).flash = s.flash := by
  unfold State.torusArrive
  dsimp only
  (repeat' split) <;> (repeat' apply And.intro) <;> (try simp) <;> (try apply foldl_keep) <;> intros <;> (repeat' split) <;> simp_all

@[simp] theorem State.tryOpen_frame (s : State) (gid : ℕ) (k : ℕ) :
    (s.tryOpen gid k).time = s.time ∧ (s.tryOpen gid k).draws = s.draws ∧ (s.tryOpen gid k).pending = s.pending ∧
    (s.tryOpen gid k).held = s.held ∧ (s.tryOpen gid k).latch = s.latch ∧ (s.tryOpen gid k).boot = s.boot ∧ (s.tryOpen gid k).pow = s.pow ∧
    (s.tryOpen gid k).ident = s.ident ∧ (s.tryOpen gid k).noc = s.noc ∧ (s.tryOpen gid k).lines = s.lines ∧
    (s.tryOpen gid k).sites = s.sites ∧ (s.tryOpen gid k).sec = s.sec ∧ (s.tryOpen gid k).sdg = s.sdg ∧
    (s.tryOpen gid k).flash = s.flash := by
  unfold State.tryOpen; (repeat' split) <;> simp

@[simp] theorem State.checkDeadlock_frame (s : State) (gid : ℕ) :
    (s.checkDeadlock gid).time = s.time ∧ (s.checkDeadlock gid).draws = s.draws ∧ (s.checkDeadlock gid).tx = s.tx ∧
    (s.checkDeadlock gid).pending = s.pending ∧ (s.checkDeadlock gid).hub = s.hub ∧ (s.checkDeadlock gid).held = s.held ∧
    (s.checkDeadlock gid).latch = s.latch ∧ (s.checkDeadlock gid).fns = s.fns ∧ (s.checkDeadlock gid).pce = s.pce ∧
    (s.checkDeadlock gid).boot = s.boot ∧ (s.checkDeadlock gid).pow = s.pow ∧ (s.checkDeadlock gid).ident = s.ident ∧
    (s.checkDeadlock gid).noc = s.noc ∧ (s.checkDeadlock gid).lines = s.lines ∧ (s.checkDeadlock gid).ms = s.ms ∧
    (s.checkDeadlock gid).ports = s.ports ∧ (s.checkDeadlock gid).torus = s.torus ∧ (s.checkDeadlock gid).sites = s.sites ∧
    (s.checkDeadlock gid).sec = s.sec ∧ (s.checkDeadlock gid).sdg = s.sdg ∧ (s.checkDeadlock gid).mem = s.mem ∧
    (s.checkDeadlock gid).poison = s.poison ∧ (s.checkDeadlock gid).flash = s.flash := by
  unfold State.checkDeadlock; (repeat' split) <;> simp

@[simp] theorem State.arrive_frame (s : State) (t : Thr) (g : Grp) (th : Thread) (k : ℕ) (a : Arrival) (wait : Bool) :
    (s.arrive t g th k a wait).time = s.time ∧ (s.arrive t g th k a wait).draws = s.draws ∧ (s.arrive t g th k a wait).pending = s.pending ∧
    (s.arrive t g th k a wait).held = s.held ∧ (s.arrive t g th k a wait).latch = s.latch ∧ (s.arrive t g th k a wait).boot = s.boot ∧
    (s.arrive t g th k a wait).pow = s.pow ∧ (s.arrive t g th k a wait).ident = s.ident ∧ (s.arrive t g th k a wait).noc = s.noc ∧
    (s.arrive t g th k a wait).lines = s.lines ∧ (s.arrive t g th k a wait).sites = s.sites ∧ (s.arrive t g th k a wait).sec = s.sec ∧
    (s.arrive t g th k a wait).sdg = s.sdg ∧ (s.arrive t g th k a wait).flash = s.flash := by
  simp [State.arrive]

@[simp] theorem State.atHurdle_time (s : State) (t : Thr) (g : Grp) (th : Thread) (scope : ℕ) (id : ℕ) (k : ℕ → State)
  (h : ∀ n, (k n).time = s.time) : (s.atHurdle t g th scope id k).time = s.time := by
  unfold State.atHurdle
  (repeat' split) <;> simp [h]
@[simp] theorem State.atHurdle_draws (s : State) (t : Thr) (g : Grp) (th : Thread) (scope : ℕ) (id : ℕ) (k : ℕ → State)
  (h : ∀ n, (k n).draws = s.draws) : (s.atHurdle t g th scope id k).draws = s.draws := by
  unfold State.atHurdle
  (repeat' split) <;> simp [h]
@[simp] theorem State.atHurdle_tx (s : State) (t : Thr) (g : Grp) (th : Thread) (scope : ℕ) (id : ℕ) (k : ℕ → State)
  (h : ∀ n, (k n).tx = s.tx) : (s.atHurdle t g th scope id k).tx = s.tx := by
  unfold State.atHurdle
  (repeat' split) <;> simp [h]
@[simp] theorem State.atHurdle_pending (s : State) (t : Thr) (g : Grp) (th : Thread) (scope : ℕ) (id : ℕ) (k : ℕ → State)
  (h : ∀ n, (k n).pending = s.pending) : (s.atHurdle t g th scope id k).pending = s.pending := by
  unfold State.atHurdle
  (repeat' split) <;> simp [h]
@[simp] theorem State.atHurdle_hub (s : State) (t : Thr) (g : Grp) (th : Thread) (scope : ℕ) (id : ℕ) (k : ℕ → State)
  (h : ∀ n, (k n).hub = s.hub) : (s.atHurdle t g th scope id k).hub = s.hub := by
  unfold State.atHurdle
  (repeat' split) <;> simp [h]
@[simp] theorem State.atHurdle_held (s : State) (t : Thr) (g : Grp) (th : Thread) (scope : ℕ) (id : ℕ) (k : ℕ → State)
  (h : ∀ n, (k n).held = s.held) : (s.atHurdle t g th scope id k).held = s.held := by
  unfold State.atHurdle
  (repeat' split) <;> simp [h]
@[simp] theorem State.atHurdle_latch (s : State) (t : Thr) (g : Grp) (th : Thread) (scope : ℕ) (id : ℕ) (k : ℕ → State)
  (h : ∀ n, (k n).latch = s.latch) : (s.atHurdle t g th scope id k).latch = s.latch := by
  unfold State.atHurdle
  (repeat' split) <;> simp [h]
@[simp] theorem State.atHurdle_fns (s : State) (t : Thr) (g : Grp) (th : Thread) (scope : ℕ) (id : ℕ) (k : ℕ → State)
  (h : ∀ n, (k n).fns = s.fns) : (s.atHurdle t g th scope id k).fns = s.fns := by
  unfold State.atHurdle
  (repeat' split) <;> simp [h]
@[simp] theorem State.atHurdle_pce (s : State) (t : Thr) (g : Grp) (th : Thread) (scope : ℕ) (id : ℕ) (k : ℕ → State)
  (h : ∀ n, (k n).pce = s.pce) : (s.atHurdle t g th scope id k).pce = s.pce := by
  unfold State.atHurdle
  (repeat' split) <;> simp [h]
@[simp] theorem State.atHurdle_boot (s : State) (t : Thr) (g : Grp) (th : Thread) (scope : ℕ) (id : ℕ) (k : ℕ → State)
  (h : ∀ n, (k n).boot = s.boot) : (s.atHurdle t g th scope id k).boot = s.boot := by
  unfold State.atHurdle
  (repeat' split) <;> simp [h]
@[simp] theorem State.atHurdle_pow (s : State) (t : Thr) (g : Grp) (th : Thread) (scope : ℕ) (id : ℕ) (k : ℕ → State)
  (h : ∀ n, (k n).pow = s.pow) : (s.atHurdle t g th scope id k).pow = s.pow := by
  unfold State.atHurdle
  (repeat' split) <;> simp [h]
@[simp] theorem State.atHurdle_ident (s : State) (t : Thr) (g : Grp) (th : Thread) (scope : ℕ) (id : ℕ) (k : ℕ → State)
  (h : ∀ n, (k n).ident = s.ident) : (s.atHurdle t g th scope id k).ident = s.ident := by
  unfold State.atHurdle
  (repeat' split) <;> simp [h]
@[simp] theorem State.atHurdle_noc (s : State) (t : Thr) (g : Grp) (th : Thread) (scope : ℕ) (id : ℕ) (k : ℕ → State)
  (h : ∀ n, (k n).noc = s.noc) : (s.atHurdle t g th scope id k).noc = s.noc := by
  unfold State.atHurdle
  (repeat' split) <;> simp [h]
@[simp] theorem State.atHurdle_lines (s : State) (t : Thr) (g : Grp) (th : Thread) (scope : ℕ) (id : ℕ) (k : ℕ → State)
  (h : ∀ n, (k n).lines = s.lines) : (s.atHurdle t g th scope id k).lines = s.lines := by
  unfold State.atHurdle
  (repeat' split) <;> simp [h]
@[simp] theorem State.atHurdle_ms (s : State) (t : Thr) (g : Grp) (th : Thread) (scope : ℕ) (id : ℕ) (k : ℕ → State)
  (h : ∀ n, (k n).ms = s.ms) : (s.atHurdle t g th scope id k).ms = s.ms := by
  unfold State.atHurdle
  (repeat' split) <;> simp [h]
@[simp] theorem State.atHurdle_ports (s : State) (t : Thr) (g : Grp) (th : Thread) (scope : ℕ) (id : ℕ) (k : ℕ → State)
  (h : ∀ n, (k n).ports = s.ports) : (s.atHurdle t g th scope id k).ports = s.ports := by
  unfold State.atHurdle
  (repeat' split) <;> simp [h]
@[simp] theorem State.atHurdle_torus (s : State) (t : Thr) (g : Grp) (th : Thread) (scope : ℕ) (id : ℕ) (k : ℕ → State)
  (h : ∀ n, (k n).torus = s.torus) : (s.atHurdle t g th scope id k).torus = s.torus := by
  unfold State.atHurdle
  (repeat' split) <;> simp [h]
@[simp] theorem State.atHurdle_sites (s : State) (t : Thr) (g : Grp) (th : Thread) (scope : ℕ) (id : ℕ) (k : ℕ → State)
  (h : ∀ n, (k n).sites = s.sites) : (s.atHurdle t g th scope id k).sites = s.sites := by
  unfold State.atHurdle
  (repeat' split) <;> simp [h]
@[simp] theorem State.atHurdle_sec (s : State) (t : Thr) (g : Grp) (th : Thread) (scope : ℕ) (id : ℕ) (k : ℕ → State)
  (h : ∀ n, (k n).sec = s.sec) : (s.atHurdle t g th scope id k).sec = s.sec := by
  unfold State.atHurdle
  (repeat' split) <;> simp [h]
@[simp] theorem State.atHurdle_sdg (s : State) (t : Thr) (g : Grp) (th : Thread) (scope : ℕ) (id : ℕ) (k : ℕ → State)
  (h : ∀ n, (k n).sdg = s.sdg) : (s.atHurdle t g th scope id k).sdg = s.sdg := by
  unfold State.atHurdle
  (repeat' split) <;> simp [h]
@[simp] theorem State.atHurdle_mem (s : State) (t : Thr) (g : Grp) (th : Thread) (scope : ℕ) (id : ℕ) (k : ℕ → State)
  (h : ∀ n, (k n).mem = s.mem) : (s.atHurdle t g th scope id k).mem = s.mem := by
  unfold State.atHurdle
  (repeat' split) <;> simp [h]
@[simp] theorem State.atHurdle_poison (s : State) (t : Thr) (g : Grp) (th : Thread) (scope : ℕ) (id : ℕ) (k : ℕ → State)
  (h : ∀ n, (k n).poison = s.poison) : (s.atHurdle t g th scope id k).poison = s.poison := by
  unfold State.atHurdle
  (repeat' split) <;> simp [h]
@[simp] theorem State.atHurdle_flash (s : State) (t : Thr) (g : Grp) (th : Thread) (scope : ℕ) (id : ℕ) (k : ℕ → State)
  (h : ∀ n, (k n).flash = s.flash) : (s.atHurdle t g th scope id k).flash = s.flash := by
  unfold State.atHurdle
  (repeat' split) <;> simp [h]

@[simp] theorem State.plainArrive_frame (s : State) (t : Thr) (f : FmtS) (wait : Bool) :
    (s.plainArrive t f wait).time = s.time ∧ (s.plainArrive t f wait).draws = s.draws ∧ (s.plainArrive t f wait).pending = s.pending ∧
    (s.plainArrive t f wait).held = s.held ∧ (s.plainArrive t f wait).latch = s.latch ∧ (s.plainArrive t f wait).boot = s.boot ∧
    (s.plainArrive t f wait).pow = s.pow ∧ (s.plainArrive t f wait).ident = s.ident ∧ (s.plainArrive t f wait).noc = s.noc ∧
    (s.plainArrive t f wait).lines = s.lines ∧ (s.plainArrive t f wait).sites = s.sites ∧ (s.plainArrive t f wait).sec = s.sec ∧
    (s.plainArrive t f wait).sdg = s.sdg ∧ (s.plainArrive t f wait).flash = s.flash := by
  simp [State.plainArrive]

@[simp] theorem State.tryRounds_frame (s : State) (gid : ℕ) :
    (s.tryRounds gid).time = s.time ∧ (s.tryRounds gid).draws = s.draws ∧ (s.tryRounds gid).pending = s.pending ∧
    (s.tryRounds gid).held = s.held ∧ (s.tryRounds gid).latch = s.latch ∧ (s.tryRounds gid).boot = s.boot ∧ (s.tryRounds gid).pow = s.pow ∧
    (s.tryRounds gid).ident = s.ident ∧ (s.tryRounds gid).noc = s.noc ∧ (s.tryRounds gid).lines = s.lines ∧
    (s.tryRounds gid).sites = s.sites ∧ (s.tryRounds gid).sec = s.sec ∧ (s.tryRounds gid).sdg = s.sdg ∧
    (s.tryRounds gid).flash = s.flash := by
  unfold State.tryRounds; (repeat' split) <;> simp

@[simp] theorem State.actMsg_frame (s : State) (m : LflMsg) :
    (s.actMsg m).time = s.time ∧ (s.actMsg m).draws = s.draws ∧ (s.actMsg m).pending = s.pending ∧ (s.actMsg m).held = s.held ∧
    (s.actMsg m).latch = s.latch ∧ (s.actMsg m).pow = s.pow ∧ (s.actMsg m).ident = s.ident ∧ (s.actMsg m).noc = s.noc ∧
    (s.actMsg m).lines = s.lines ∧ (s.actMsg m).sec = s.sec ∧ (s.actMsg m).flash = s.flash := by
  simp [State.actMsg]

@[simp] theorem State.deliverAhead_frame (s : State) (fuel : ℕ) (key : ℕ) :
    (s.deliverAhead fuel key).time = s.time ∧ (s.deliverAhead fuel key).draws = s.draws ∧ (s.deliverAhead fuel key).pending = s.pending ∧
    (s.deliverAhead fuel key).held = s.held ∧ (s.deliverAhead fuel key).latch = s.latch ∧ (s.deliverAhead fuel key).pow = s.pow ∧
    (s.deliverAhead fuel key).ident = s.ident ∧ (s.deliverAhead fuel key).noc = s.noc ∧ (s.deliverAhead fuel key).lines = s.lines ∧
    (s.deliverAhead fuel key).sec = s.sec ∧ (s.deliverAhead fuel key).flash = s.flash := by
  induction fuel generalizing s with
  | zero => simp [State.deliverAhead]
  | succ k ih =>
    unfold State.deliverAhead
    split
    · simp
    · simp [ih]

@[simp] theorem State.sendAck_frame (s : State) (src : ℕ) (cls : ℕ) :
    (s.sendAck src cls).time = s.time ∧ (s.sendAck src cls).draws = s.draws ∧ (s.sendAck src cls).pending = s.pending ∧
    (s.sendAck src cls).held = s.held ∧ (s.sendAck src cls).latch = s.latch ∧ (s.sendAck src cls).fns = s.fns ∧
    (s.sendAck src cls).pce = s.pce ∧ (s.sendAck src cls).boot = s.boot ∧ (s.sendAck src cls).pow = s.pow ∧
    (s.sendAck src cls).obs = s.obs ∧ (s.sendAck src cls).ident = s.ident ∧ (s.sendAck src cls).noc = s.noc ∧
    (s.sendAck src cls).lines = s.lines ∧ (s.sendAck src cls).ms = s.ms ∧ (s.sendAck src cls).torus = s.torus ∧
    (s.sendAck src cls).sites = s.sites ∧ (s.sendAck src cls).sec = s.sec ∧ (s.sendAck src cls).sdg = s.sdg ∧
    (s.sendAck src cls).groups = s.groups ∧ (s.sendAck src cls).mem = s.mem ∧ (s.sendAck src cls).poison = s.poison ∧
    (s.sendAck src cls).flash = s.flash := by
  unfold State.sendAck
  split
  · simp only [and_self]
  · split
    · simp
    · exact State.putLfl_frame _ _ _

@[simp] theorem State.deliver_frame (s : State) (m : LflMsg) :
    (s.deliver m).time = s.time ∧ (s.deliver m).draws = s.draws ∧ (s.deliver m).pending = s.pending ∧ (s.deliver m).held = s.held ∧
    (s.deliver m).latch = s.latch ∧ (s.deliver m).pow = s.pow ∧ (s.deliver m).ident = s.ident ∧ (s.deliver m).noc = s.noc ∧
    (s.deliver m).lines = s.lines ∧ (s.deliver m).sec = s.sec ∧ (s.deliver m).flash = s.flash := by
  simp [State.deliver]

@[simp] theorem State.touchTile_frame (s : State) (gid : ℕ) (core : ℕ) (tile : ℕ) :
    (s.touchTile gid core tile).time = s.time ∧ (s.touchTile gid core tile).draws = s.draws ∧ (s.touchTile gid core tile).tx = s.tx ∧
    (s.touchTile gid core tile).pending = s.pending ∧ (s.touchTile gid core tile).held = s.held ∧
    (s.touchTile gid core tile).latch = s.latch ∧ (s.touchTile gid core tile).pce = s.pce ∧ (s.touchTile gid core tile).boot = s.boot ∧
    (s.touchTile gid core tile).pow = s.pow ∧ (s.touchTile gid core tile).obs = s.obs ∧ (s.touchTile gid core tile).ident = s.ident ∧
    (s.touchTile gid core tile).noc = s.noc ∧ (s.touchTile gid core tile).lines = s.lines ∧ (s.touchTile gid core tile).ms = s.ms ∧
    (s.touchTile gid core tile).ports = s.ports ∧ (s.touchTile gid core tile).torus = s.torus ∧
    (s.touchTile gid core tile).sites = s.sites ∧ (s.touchTile gid core tile).sec = s.sec ∧ (s.touchTile gid core tile).sdg = s.sdg ∧
    (s.touchTile gid core tile).mem = s.mem ∧ (s.touchTile gid core tile).poison = s.poison ∧
    (s.touchTile gid core tile).flash = s.flash := by
  unfold State.touchTile; (repeat' split) <;> simp

@[simp] theorem State.openWindows_frame (s : State) (gid : ℕ) (idx : ℕ) (n : ℕ) :
    (s.openWindows gid idx n).time = s.time ∧ (s.openWindows gid idx n).draws = s.draws ∧ (s.openWindows gid idx n).tx = s.tx ∧
    (s.openWindows gid idx n).pending = s.pending ∧ (s.openWindows gid idx n).hub = s.hub ∧ (s.openWindows gid idx n).held = s.held ∧
    (s.openWindows gid idx n).latch = s.latch ∧ (s.openWindows gid idx n).fns = s.fns ∧ (s.openWindows gid idx n).pce = s.pce ∧
    (s.openWindows gid idx n).boot = s.boot ∧ (s.openWindows gid idx n).pow = s.pow ∧ (s.openWindows gid idx n).obs = s.obs ∧
    (s.openWindows gid idx n).ident = s.ident ∧ (s.openWindows gid idx n).noc = s.noc ∧ (s.openWindows gid idx n).lines = s.lines ∧
    (s.openWindows gid idx n).ms = s.ms ∧ (s.openWindows gid idx n).ports = s.ports ∧ (s.openWindows gid idx n).torus = s.torus ∧
    (s.openWindows gid idx n).sites = s.sites ∧ (s.openWindows gid idx n).sec = s.sec ∧ (s.openWindows gid idx n).sdg = s.sdg ∧
    (s.openWindows gid idx n).mem = s.mem ∧ (s.openWindows gid idx n).poison = s.poison ∧ (s.openWindows gid idx n).flash = s.flash := by
  simp [State.openWindows]

@[simp] theorem State.tensorOp_frame (s : State) (gid : ℕ) (core : ℕ) (g : Grp) (o : TOp) :
    (s.tensorOp gid core g o).time = s.time ∧ (s.tensorOp gid core g o).draws = s.draws ∧ (s.tensorOp gid core g o).tx = s.tx ∧
    (s.tensorOp gid core g o).pending = s.pending ∧ (s.tensorOp gid core g o).held = s.held ∧ (s.tensorOp gid core g o).latch = s.latch ∧
    (s.tensorOp gid core g o).pce = s.pce ∧ (s.tensorOp gid core g o).boot = s.boot ∧ (s.tensorOp gid core g o).pow = s.pow ∧
    (s.tensorOp gid core g o).obs = s.obs ∧ (s.tensorOp gid core g o).ident = s.ident ∧ (s.tensorOp gid core g o).noc = s.noc ∧
    (s.tensorOp gid core g o).lines = s.lines ∧ (s.tensorOp gid core g o).ms = s.ms ∧ (s.tensorOp gid core g o).ports = s.ports ∧
    (s.tensorOp gid core g o).torus = s.torus ∧ (s.tensorOp gid core g o).sites = s.sites ∧ (s.tensorOp gid core g o).sec = s.sec ∧
    (s.tensorOp gid core g o).sdg = s.sdg ∧ (s.tensorOp gid core g o).flash = s.flash := by
  unfold State.tensorOp; (repeat' split) <;> simp

@[simp] theorem State.enqueue_frame (s : State) (t : Thr) (g : Grp) (th : Thread) (o : TOp) :
    (s.enqueue t g th o).time = s.time ∧ (s.enqueue t g th o).draws = s.draws ∧ (s.enqueue t g th o).tx = s.tx ∧
    (s.enqueue t g th o).pending = s.pending ∧ (s.enqueue t g th o).held = s.held ∧ (s.enqueue t g th o).latch = s.latch ∧
    (s.enqueue t g th o).pce = s.pce ∧ (s.enqueue t g th o).boot = s.boot ∧ (s.enqueue t g th o).pow = s.pow ∧
    (s.enqueue t g th o).obs = s.obs ∧ (s.enqueue t g th o).ident = s.ident ∧ (s.enqueue t g th o).noc = s.noc ∧
    (s.enqueue t g th o).lines = s.lines ∧ (s.enqueue t g th o).ms = s.ms ∧ (s.enqueue t g th o).ports = s.ports ∧
    (s.enqueue t g th o).torus = s.torus ∧ (s.enqueue t g th o).sites = s.sites ∧ (s.enqueue t g th o).sec = s.sec ∧
    (s.enqueue t g th o).sdg = s.sdg ∧ (s.enqueue t g th o).mem = s.mem ∧ (s.enqueue t g th o).poison = s.poison ∧
    (s.enqueue t g th o).flash = s.flash := by
  simp [State.enqueue]

@[simp] theorem State.withTile_time (s : State) (t : Thr) (g : Grp) (tile : ℕ) (k : State)
  (h : k.time = s.time) : (s.withTile t g tile k).time = s.time := by
  unfold State.withTile
  (repeat' split) <;> simp [h]
@[simp] theorem State.withTile_draws (s : State) (t : Thr) (g : Grp) (tile : ℕ) (k : State)
  (h : k.draws = s.draws) : (s.withTile t g tile k).draws = s.draws := by
  unfold State.withTile
  (repeat' split) <;> simp [h]
@[simp] theorem State.withTile_tx (s : State) (t : Thr) (g : Grp) (tile : ℕ) (k : State)
  (h : k.tx = s.tx) : (s.withTile t g tile k).tx = s.tx := by
  unfold State.withTile
  (repeat' split) <;> simp [h]
@[simp] theorem State.withTile_pending (s : State) (t : Thr) (g : Grp) (tile : ℕ) (k : State)
  (h : k.pending = s.pending) : (s.withTile t g tile k).pending = s.pending := by
  unfold State.withTile
  (repeat' split) <;> simp [h]
@[simp] theorem State.withTile_hub (s : State) (t : Thr) (g : Grp) (tile : ℕ) (k : State)
  (h : k.hub = s.hub) : (s.withTile t g tile k).hub = s.hub := by
  unfold State.withTile
  (repeat' split) <;> simp [h]
@[simp] theorem State.withTile_held (s : State) (t : Thr) (g : Grp) (tile : ℕ) (k : State)
  (h : k.held = s.held) : (s.withTile t g tile k).held = s.held := by
  unfold State.withTile
  (repeat' split) <;> simp [h]
@[simp] theorem State.withTile_latch (s : State) (t : Thr) (g : Grp) (tile : ℕ) (k : State)
  (h : k.latch = s.latch) : (s.withTile t g tile k).latch = s.latch := by
  unfold State.withTile
  (repeat' split) <;> simp [h]
@[simp] theorem State.withTile_fns (s : State) (t : Thr) (g : Grp) (tile : ℕ) (k : State)
  (h : k.fns = s.fns) : (s.withTile t g tile k).fns = s.fns := by
  unfold State.withTile
  (repeat' split) <;> simp [h]
@[simp] theorem State.withTile_pce (s : State) (t : Thr) (g : Grp) (tile : ℕ) (k : State)
  (h : k.pce = s.pce) : (s.withTile t g tile k).pce = s.pce := by
  unfold State.withTile
  (repeat' split) <;> simp [h]
@[simp] theorem State.withTile_boot (s : State) (t : Thr) (g : Grp) (tile : ℕ) (k : State)
  (h : k.boot = s.boot) : (s.withTile t g tile k).boot = s.boot := by
  unfold State.withTile
  (repeat' split) <;> simp [h]
@[simp] theorem State.withTile_pow (s : State) (t : Thr) (g : Grp) (tile : ℕ) (k : State)
  (h : k.pow = s.pow) : (s.withTile t g tile k).pow = s.pow := by
  unfold State.withTile
  (repeat' split) <;> simp [h]
@[simp] theorem State.withTile_ident (s : State) (t : Thr) (g : Grp) (tile : ℕ) (k : State)
  (h : k.ident = s.ident) : (s.withTile t g tile k).ident = s.ident := by
  unfold State.withTile
  (repeat' split) <;> simp [h]
@[simp] theorem State.withTile_noc (s : State) (t : Thr) (g : Grp) (tile : ℕ) (k : State)
  (h : k.noc = s.noc) : (s.withTile t g tile k).noc = s.noc := by
  unfold State.withTile
  (repeat' split) <;> simp [h]
@[simp] theorem State.withTile_lines (s : State) (t : Thr) (g : Grp) (tile : ℕ) (k : State)
  (h : k.lines = s.lines) : (s.withTile t g tile k).lines = s.lines := by
  unfold State.withTile
  (repeat' split) <;> simp [h]
@[simp] theorem State.withTile_ms (s : State) (t : Thr) (g : Grp) (tile : ℕ) (k : State)
  (h : k.ms = s.ms) : (s.withTile t g tile k).ms = s.ms := by
  unfold State.withTile
  (repeat' split) <;> simp [h]
@[simp] theorem State.withTile_ports (s : State) (t : Thr) (g : Grp) (tile : ℕ) (k : State)
  (h : k.ports = s.ports) : (s.withTile t g tile k).ports = s.ports := by
  unfold State.withTile
  (repeat' split) <;> simp [h]
@[simp] theorem State.withTile_torus (s : State) (t : Thr) (g : Grp) (tile : ℕ) (k : State)
  (h : k.torus = s.torus) : (s.withTile t g tile k).torus = s.torus := by
  unfold State.withTile
  (repeat' split) <;> simp [h]
@[simp] theorem State.withTile_sites (s : State) (t : Thr) (g : Grp) (tile : ℕ) (k : State)
  (h : k.sites = s.sites) : (s.withTile t g tile k).sites = s.sites := by
  unfold State.withTile
  (repeat' split) <;> simp [h]
@[simp] theorem State.withTile_sec (s : State) (t : Thr) (g : Grp) (tile : ℕ) (k : State)
  (h : k.sec = s.sec) : (s.withTile t g tile k).sec = s.sec := by
  unfold State.withTile
  (repeat' split) <;> simp [h]
@[simp] theorem State.withTile_sdg (s : State) (t : Thr) (g : Grp) (tile : ℕ) (k : State)
  (h : k.sdg = s.sdg) : (s.withTile t g tile k).sdg = s.sdg := by
  unfold State.withTile
  (repeat' split) <;> simp [h]
@[simp] theorem State.withTile_mem (s : State) (t : Thr) (g : Grp) (tile : ℕ) (k : State)
  (h : k.mem = s.mem) : (s.withTile t g tile k).mem = s.mem := by
  unfold State.withTile
  (repeat' split) <;> simp [h]
@[simp] theorem State.withTile_poison (s : State) (t : Thr) (g : Grp) (tile : ℕ) (k : State)
  (h : k.poison = s.poison) : (s.withTile t g tile k).poison = s.poison := by
  unfold State.withTile
  (repeat' split) <;> simp [h]
@[simp] theorem State.withTile_flash (s : State) (t : Thr) (g : Grp) (tile : ℕ) (k : State)
  (h : k.flash = s.flash) : (s.withTile t g tile k).flash = s.flash := by
  unfold State.withTile
  (repeat' split) <;> simp [h]

end Sys2Proof.Machine
end

