-- ==== Sys2Proof/Laws/FramesC.lean ====
section
/-! SUPPORT. Frames of the operations, part 3 of 4, in the order of the files that define them: the fields of the state that each leaves as
they were. -/

set_option linter.all false

namespace Sys2Proof.Machine
open Sys2Proof

@[simp] theorem State.tmmaAt_frame (s : State) (t : Thr) (f : FmtT) (fa : Fmt) (fb : Fmt) (g : Grp) (th : Thread) :
    (s.tmmaAt t f fa fb g th).time = s.time ∧ (s.tmmaAt t f fa fb g th).draws = s.draws ∧ (s.tmmaAt t f fa fb g th).tx = s.tx ∧
    (s.tmmaAt t f fa fb g th).pending = s.pending ∧ (s.tmmaAt t f fa fb g th).held = s.held ∧ (s.tmmaAt t f fa fb g th).latch = s.latch ∧
    (s.tmmaAt t f fa fb g th).pce = s.pce ∧ (s.tmmaAt t f fa fb g th).boot = s.boot ∧ (s.tmmaAt t f fa fb g th).pow = s.pow ∧
    (s.tmmaAt t f fa fb g th).ident = s.ident ∧ (s.tmmaAt t f fa fb g th).noc = s.noc ∧ (s.tmmaAt t f fa fb g th).lines = s.lines ∧
    (s.tmmaAt t f fa fb g th).ms = s.ms ∧ (s.tmmaAt t f fa fb g th).ports = s.ports ∧ (s.tmmaAt t f fa fb g th).torus = s.torus ∧
    (s.tmmaAt t f fa fb g th).sites = s.sites ∧ (s.tmmaAt t f fa fb g th).sec = s.sec ∧ (s.tmmaAt t f fa fb g th).sdg = s.sdg ∧
    (s.tmmaAt t f fa fb g th).mem = s.mem ∧ (s.tmmaAt t f fa fb g th).poison = s.poison ∧ (s.tmmaAt t f fa fb g th).flash = s.flash := by
  unfold State.tmmaAt
  simp (disch := (intros; (repeat' split) <;> simp))

@[simp] theorem State.checkMismatch_frame (s : State) (gid : ℕ) :
    (s.checkMismatch gid).time = s.time ∧ (s.checkMismatch gid).draws = s.draws ∧ (s.checkMismatch gid).pending = s.pending ∧
    (s.checkMismatch gid).held = s.held ∧ (s.checkMismatch gid).latch = s.latch ∧ (s.checkMismatch gid).boot = s.boot ∧
    (s.checkMismatch gid).pow = s.pow ∧ (s.checkMismatch gid).obs = s.obs ∧ (s.checkMismatch gid).ident = s.ident ∧
    (s.checkMismatch gid).noc = s.noc ∧ (s.checkMismatch gid).lines = s.lines ∧ (s.checkMismatch gid).ports = s.ports ∧
    (s.checkMismatch gid).torus = s.torus ∧ (s.checkMismatch gid).sec = s.sec ∧ (s.checkMismatch gid).sdg = s.sdg ∧
    (s.checkMismatch gid).flash = s.flash := by
  unfold State.checkMismatch
  dsimp only
  (repeat' split) <;> (repeat' apply And.intro) <;> (try simp) <;> (try apply foldl_keep) <;> intros <;> (repeat' split) <;> simp_all

@[simp] theorem State.commitAll_frame (s : State) (a : ℕ) (bs : List Byte) :
    (s.commitAll a bs).time = s.time ∧ (s.commitAll a bs).draws = s.draws ∧ (s.commitAll a bs).tx = s.tx ∧
    (s.commitAll a bs).pending = s.pending ∧ (s.commitAll a bs).hub = s.hub ∧ (s.commitAll a bs).held = s.held ∧
    (s.commitAll a bs).latch = s.latch ∧ (s.commitAll a bs).fns = s.fns ∧ (s.commitAll a bs).pce = s.pce ∧
    (s.commitAll a bs).boot = s.boot ∧ (s.commitAll a bs).pow = s.pow ∧ (s.commitAll a bs).obs = s.obs ∧
    (s.commitAll a bs).ident = s.ident ∧ (s.commitAll a bs).noc = s.noc ∧ (s.commitAll a bs).lines = s.lines ∧
    (s.commitAll a bs).ms = s.ms ∧ (s.commitAll a bs).ports = s.ports ∧ (s.commitAll a bs).torus = s.torus ∧
    (s.commitAll a bs).sites = s.sites ∧ (s.commitAll a bs).sec = s.sec ∧ (s.commitAll a bs).sdg = s.sdg ∧
    (s.commitAll a bs).groups = s.groups ∧ (s.commitAll a bs).flash = s.flash := by
  simp [State.commitAll]

@[simp] theorem State.setDir_frame (s : State) (b : ℕ) (e : DirEntry) :
    (s.setDir b e).time = s.time ∧ (s.setDir b e).draws = s.draws ∧ (s.setDir b e).tx = s.tx ∧ (s.setDir b e).pending = s.pending ∧
    (s.setDir b e).hub = s.hub ∧ (s.setDir b e).held = s.held ∧ (s.setDir b e).latch = s.latch ∧ (s.setDir b e).fns = s.fns ∧
    (s.setDir b e).pce = s.pce ∧ (s.setDir b e).boot = s.boot ∧ (s.setDir b e).pow = s.pow ∧ (s.setDir b e).obs = s.obs ∧
    (s.setDir b e).ident = s.ident ∧ (s.setDir b e).noc = s.noc ∧ (s.setDir b e).lines = s.lines ∧ (s.setDir b e).ports = s.ports ∧
    (s.setDir b e).torus = s.torus ∧ (s.setDir b e).sites = s.sites ∧ (s.setDir b e).sec = s.sec ∧ (s.setDir b e).sdg = s.sdg ∧
    (s.setDir b e).groups = s.groups ∧ (s.setDir b e).mem = s.mem ∧ (s.setDir b e).poison = s.poison ∧ (s.setDir b e).flash = s.flash := by
  simp [State.setDir]

@[simp] theorem State.makeDamaged_frame (s : State) (fn : ℕ) (b : ℕ) :
    (s.makeDamaged fn b).time = s.time ∧ (s.makeDamaged fn b).draws = s.draws ∧ (s.makeDamaged fn b).pending = s.pending ∧
    (s.makeDamaged fn b).held = s.held ∧ (s.makeDamaged fn b).latch = s.latch ∧ (s.makeDamaged fn b).pow = s.pow ∧
    (s.makeDamaged fn b).ident = s.ident ∧ (s.makeDamaged fn b).noc = s.noc ∧ (s.makeDamaged fn b).lines = s.lines ∧
    (s.makeDamaged fn b).ports = s.ports ∧ (s.makeDamaged fn b).torus = s.torus ∧ (s.makeDamaged fn b).sec = s.sec ∧
    (s.makeDamaged fn b).flash = s.flash := by
  simp [State.makeDamaged]

@[simp] theorem State.lookupResult_frame (s : State) (fn : ℕ) (l : Lookup) :
    (s.lookupResult fn l).2.time = s.time ∧ (s.lookupResult fn l).2.draws = s.draws ∧ (s.lookupResult fn l).2.pending = s.pending ∧
    (s.lookupResult fn l).2.held = s.held ∧ (s.lookupResult fn l).2.latch = s.latch ∧ (s.lookupResult fn l).2.pow = s.pow ∧
    (s.lookupResult fn l).2.ident = s.ident ∧ (s.lookupResult fn l).2.noc = s.noc ∧ (s.lookupResult fn l).2.lines = s.lines ∧
    (s.lookupResult fn l).2.ports = s.ports ∧ (s.lookupResult fn l).2.torus = s.torus ∧ (s.lookupResult fn l).2.sec = s.sec ∧
    (s.lookupResult fn l).2.flash = s.flash := by
  unfold State.lookupResult
  dsimp only
  (repeat' split) <;> (repeat' apply And.intro) <;> (try simp) <;> (try apply foldl_keep) <;> intros <;> (repeat' split) <;> simp_all

@[simp] theorem State.dirUpdate_frame (s : State) (fn : ℕ) (b : ℕ) (e : DirEntry) (slots : List DirSlot) :
    (s.dirUpdate fn b e slots).time = s.time ∧ (s.dirUpdate fn b e slots).draws = s.draws ∧ (s.dirUpdate fn b e slots).tx = s.tx ∧
    (s.dirUpdate fn b e slots).pending = s.pending ∧ (s.dirUpdate fn b e slots).hub = s.hub ∧ (s.dirUpdate fn b e slots).held = s.held ∧
    (s.dirUpdate fn b e slots).latch = s.latch ∧ (s.dirUpdate fn b e slots).pce = s.pce ∧ (s.dirUpdate fn b e slots).boot = s.boot ∧
    (s.dirUpdate fn b e slots).pow = s.pow ∧ (s.dirUpdate fn b e slots).obs = s.obs ∧ (s.dirUpdate fn b e slots).ident = s.ident ∧
    (s.dirUpdate fn b e slots).noc = s.noc ∧ (s.dirUpdate fn b e slots).lines = s.lines ∧ (s.dirUpdate fn b e slots).ports = s.ports ∧
    (s.dirUpdate fn b e slots).torus = s.torus ∧ (s.dirUpdate fn b e slots).sites = s.sites ∧ (s.dirUpdate fn b e slots).sec = s.sec ∧
    (s.dirUpdate fn b e slots).sdg = s.sdg ∧ (s.dirUpdate fn b e slots).groups = s.groups ∧ (s.dirUpdate fn b e slots).flash = s.flash := by
  simp [State.dirUpdate]

@[simp] theorem State.dirRecord_frame (s : State) (fn : ℕ) (e : ℕ) (type : ℕ) :
    (s.dirRecord fn e type).time = s.time ∧ (s.dirRecord fn e type).draws = s.draws ∧ (s.dirRecord fn e type).pending = s.pending ∧
    (s.dirRecord fn e type).held = s.held ∧ (s.dirRecord fn e type).latch = s.latch ∧ (s.dirRecord fn e type).pow = s.pow ∧
    (s.dirRecord fn e type).ident = s.ident ∧ (s.dirRecord fn e type).noc = s.noc ∧ (s.dirRecord fn e type).lines = s.lines ∧
    (s.dirRecord fn e type).ports = s.ports ∧ (s.dirRecord fn e type).torus = s.torus ∧ (s.dirRecord fn e type).sec = s.sec ∧
    (s.dirRecord fn e type).flash = s.flash := by
  unfold State.dirRecord; (repeat' split) <;> simp

@[simp] theorem State.rebuildEntry_frame (s : State) (fn : ℕ) (b : ℕ) :
    (s.rebuildEntry fn b).time = s.time ∧ (s.rebuildEntry fn b).draws = s.draws ∧ (s.rebuildEntry fn b).pending = s.pending ∧
    (s.rebuildEntry fn b).held = s.held ∧ (s.rebuildEntry fn b).latch = s.latch ∧ (s.rebuildEntry fn b).pow = s.pow ∧
    (s.rebuildEntry fn b).ident = s.ident ∧ (s.rebuildEntry fn b).noc = s.noc ∧ (s.rebuildEntry fn b).lines = s.lines ∧
    (s.rebuildEntry fn b).ports = s.ports ∧ (s.rebuildEntry fn b).torus = s.torus ∧ (s.rebuildEntry fn b).sec = s.sec ∧
    (s.rebuildEntry fn b).flash = s.flash := by
  unfold State.rebuildEntry
  dsimp only
  (repeat' split) <;> (repeat' apply And.intro) <;> (try simp) <;> (try apply foldl_keep) <;> intros <;> (repeat' split) <;> simp_all

@[simp] theorem State.rebuildDir_frame (s : State) (fn : ℕ) :
    (s.rebuildDir fn).time = s.time ∧ (s.rebuildDir fn).draws = s.draws ∧ (s.rebuildDir fn).pending = s.pending ∧
    (s.rebuildDir fn).held = s.held ∧ (s.rebuildDir fn).latch = s.latch ∧ (s.rebuildDir fn).pow = s.pow ∧
    (s.rebuildDir fn).ident = s.ident ∧ (s.rebuildDir fn).noc = s.noc ∧ (s.rebuildDir fn).lines = s.lines ∧
    (s.rebuildDir fn).ports = s.ports ∧ (s.rebuildDir fn).torus = s.torus ∧ (s.rebuildDir fn).sec = s.sec ∧
    (s.rebuildDir fn).flash = s.flash := by
  simp [State.rebuildDir]

@[simp] theorem State.inputFails_frame (s : State) (gid : ℕ) (va : ℕ) (cause : ℕ) :
    (s.inputFails gid va cause).time = s.time ∧ (s.inputFails gid va cause).draws = s.draws ∧ (s.inputFails gid va cause).tx = s.tx ∧
    (s.inputFails gid va cause).pending = s.pending ∧ (s.inputFails gid va cause).hub = s.hub ∧ (s.inputFails gid va cause).held = s.held ∧
    (s.inputFails gid va cause).latch = s.latch ∧ (s.inputFails gid va cause).pce = s.pce ∧ (s.inputFails gid va cause).boot = s.boot ∧
    (s.inputFails gid va cause).pow = s.pow ∧ (s.inputFails gid va cause).obs = s.obs ∧ (s.inputFails gid va cause).ident = s.ident ∧
    (s.inputFails gid va cause).noc = s.noc ∧ (s.inputFails gid va cause).lines = s.lines ∧ (s.inputFails gid va cause).ms = s.ms ∧
    (s.inputFails gid va cause).ports = s.ports ∧ (s.inputFails gid va cause).torus = s.torus ∧
    (s.inputFails gid va cause).sites = s.sites ∧ (s.inputFails gid va cause).sec = s.sec ∧ (s.inputFails gid va cause).sdg = s.sdg ∧
    (s.inputFails gid va cause).mem = s.mem ∧ (s.inputFails gid va cause).poison = s.poison ∧
    (s.inputFails gid va cause).flash = s.flash := by
  simp [State.inputFails]

@[simp] theorem State.inputPiece_frame (s : State) (gid : ℕ) (va : ℕ) (off : ℕ) (n : ℕ) :
    (s.inputPiece gid va off n).time = s.time ∧ (s.inputPiece gid va off n).draws = s.draws ∧
    (s.inputPiece gid va off n).pending = s.pending ∧ (s.inputPiece gid va off n).held = s.held ∧
    (s.inputPiece gid va off n).latch = s.latch ∧ (s.inputPiece gid va off n).pow = s.pow ∧ (s.inputPiece gid va off n).ident = s.ident ∧
    (s.inputPiece gid va off n).noc = s.noc ∧ (s.inputPiece gid va off n).lines = s.lines ∧ (s.inputPiece gid va off n).ports = s.ports ∧
    (s.inputPiece gid va off n).torus = s.torus ∧ (s.inputPiece gid va off n).sec = s.sec ∧
    (s.inputPiece gid va off n).flash = s.flash := by
  unfold State.inputPiece; (repeat' split) <;> simp

@[simp] theorem State.pumpInput_frame (s : State) (gid : ℕ) :
    (s.pumpInput gid).time = s.time ∧ (s.pumpInput gid).draws = s.draws ∧ (s.pumpInput gid).pending = s.pending ∧
    (s.pumpInput gid).held = s.held ∧ (s.pumpInput gid).latch = s.latch ∧ (s.pumpInput gid).pow = s.pow ∧
    (s.pumpInput gid).ident = s.ident ∧ (s.pumpInput gid).noc = s.noc ∧ (s.pumpInput gid).lines = s.lines ∧
    (s.pumpInput gid).ports = s.ports ∧ (s.pumpInput gid).torus = s.torus ∧ (s.pumpInput gid).sec = s.sec ∧
    (s.pumpInput gid).flash = s.flash := by
  unfold State.pumpInput; (repeat' split) <;> simp

@[simp] theorem State.issueLookups_frame (s : State) (gid : ℕ) (r : List Byte) :
    (s.issueLookups gid r).time = s.time ∧ (s.issueLookups gid r).draws = s.draws ∧ (s.issueLookups gid r).tx = s.tx ∧
    (s.issueLookups gid r).pending = s.pending ∧ (s.issueLookups gid r).held = s.held ∧ (s.issueLookups gid r).latch = s.latch ∧
    (s.issueLookups gid r).pce = s.pce ∧ (s.issueLookups gid r).boot = s.boot ∧ (s.issueLookups gid r).pow = s.pow ∧
    (s.issueLookups gid r).obs = s.obs ∧ (s.issueLookups gid r).ident = s.ident ∧ (s.issueLookups gid r).noc = s.noc ∧
    (s.issueLookups gid r).lines = s.lines ∧ (s.issueLookups gid r).ms = s.ms ∧ (s.issueLookups gid r).ports = s.ports ∧
    (s.issueLookups gid r).torus = s.torus ∧ (s.issueLookups gid r).sites = s.sites ∧ (s.issueLookups gid r).sec = s.sec ∧
    (s.issueLookups gid r).sdg = s.sdg ∧ (s.issueLookups gid r).mem = s.mem ∧ (s.issueLookups gid r).poison = s.poison ∧
    (s.issueLookups gid r).flash = s.flash := by
  simp [State.issueLookups]

@[simp] theorem State.gatherPiece_frame (s : State) (gid : ℕ) (va : ℕ) (n : ℕ) :
    (s.gatherPiece gid va n).2.time = s.time ∧ (s.gatherPiece gid va n).2.draws = s.draws ∧ (s.gatherPiece gid va n).2.pending = s.pending ∧
    (s.gatherPiece gid va n).2.held = s.held ∧ (s.gatherPiece gid va n).2.latch = s.latch ∧ (s.gatherPiece gid va n).2.pow = s.pow ∧
    (s.gatherPiece gid va n).2.ident = s.ident ∧ (s.gatherPiece gid va n).2.noc = s.noc ∧ (s.gatherPiece gid va n).2.lines = s.lines ∧
    (s.gatherPiece gid va n).2.ports = s.ports ∧ (s.gatherPiece gid va n).2.torus = s.torus ∧ (s.gatherPiece gid va n).2.sec = s.sec ∧
    (s.gatherPiece gid va n).2.flash = s.flash := by
  unfold State.gatherPiece
  dsimp only
  (repeat' split) <;> (repeat' apply And.intro) <;> (try simp) <;> (try apply foldl_keep) <;> intros <;> (repeat' split) <;> simp_all

@[simp] theorem State.gatherKey_frame (s : State) (gid : ℕ) (k : ℕ) :
    (s.gatherKey gid k).time = s.time ∧ (s.gatherKey gid k).draws = s.draws ∧ (s.gatherKey gid k).pending = s.pending ∧
    (s.gatherKey gid k).held = s.held ∧ (s.gatherKey gid k).latch = s.latch ∧ (s.gatherKey gid k).pow = s.pow ∧
    (s.gatherKey gid k).ident = s.ident ∧ (s.gatherKey gid k).noc = s.noc ∧ (s.gatherKey gid k).lines = s.lines ∧
    (s.gatherKey gid k).ports = s.ports ∧ (s.gatherKey gid k).torus = s.torus ∧ (s.gatherKey gid k).sec = s.sec ∧
    (s.gatherKey gid k).flash = s.flash := by
  unfold State.gatherKey
  split
  · simp
  · simp only [State.modGrp_frame]
    (repeat' apply And.intro) <;> (refine (foldl_snd _ _ _ _ ?_).trans rfl) <;> intros <;> simp

@[simp] theorem State.writeBlocks_frame (s : State) (g : Grp) :
    (s.writeBlocks g).time = s.time ∧ (s.writeBlocks g).draws = s.draws ∧ (s.writeBlocks g).tx = s.tx ∧
    (s.writeBlocks g).pending = s.pending ∧ (s.writeBlocks g).hub = s.hub ∧ (s.writeBlocks g).held = s.held ∧
    (s.writeBlocks g).latch = s.latch ∧ (s.writeBlocks g).fns = s.fns ∧ (s.writeBlocks g).pce = s.pce ∧ (s.writeBlocks g).boot = s.boot ∧
    (s.writeBlocks g).pow = s.pow ∧ (s.writeBlocks g).obs = s.obs ∧ (s.writeBlocks g).ident = s.ident ∧ (s.writeBlocks g).noc = s.noc ∧
    (s.writeBlocks g).lines = s.lines ∧ (s.writeBlocks g).ms = s.ms ∧ (s.writeBlocks g).ports = s.ports ∧
    (s.writeBlocks g).torus = s.torus ∧ (s.writeBlocks g).sites = s.sites ∧ (s.writeBlocks g).sec = s.sec ∧ (s.writeBlocks g).sdg = s.sdg ∧
    (s.writeBlocks g).groups = s.groups ∧ (s.writeBlocks g).flash = s.flash := by
  simp [State.writeBlocks]

@[simp] theorem State.clearCores_frame (s : State) (g : Grp) :
    (s.clearCores g).time = s.time ∧ (s.clearCores g).draws = s.draws ∧ (s.clearCores g).tx = s.tx ∧ (s.clearCores g).pending = s.pending ∧
    (s.clearCores g).hub = s.hub ∧ (s.clearCores g).held = s.held ∧ (s.clearCores g).latch = s.latch ∧ (s.clearCores g).fns = s.fns ∧
    (s.clearCores g).pce = s.pce ∧ (s.clearCores g).boot = s.boot ∧ (s.clearCores g).pow = s.pow ∧ (s.clearCores g).obs = s.obs ∧
    (s.clearCores g).ident = s.ident ∧ (s.clearCores g).noc = s.noc ∧ (s.clearCores g).lines = s.lines ∧ (s.clearCores g).ms = s.ms ∧
    (s.clearCores g).ports = s.ports ∧ (s.clearCores g).torus = s.torus ∧ (s.clearCores g).sites = s.sites ∧ (s.clearCores g).sec = s.sec ∧
    (s.clearCores g).sdg = s.sdg ∧ (s.clearCores g).groups = s.groups ∧ (s.clearCores g).flash = s.flash := by
  simp [State.clearCores]

@[simp] theorem State.clearPriv_frame (s : State) (g : Grp) :
    (s.clearPriv g).time = s.time ∧ (s.clearPriv g).draws = s.draws ∧ (s.clearPriv g).tx = s.tx ∧ (s.clearPriv g).pending = s.pending ∧
    (s.clearPriv g).hub = s.hub ∧ (s.clearPriv g).held = s.held ∧ (s.clearPriv g).latch = s.latch ∧ (s.clearPriv g).fns = s.fns ∧
    (s.clearPriv g).pce = s.pce ∧ (s.clearPriv g).boot = s.boot ∧ (s.clearPriv g).pow = s.pow ∧ (s.clearPriv g).obs = s.obs ∧
    (s.clearPriv g).ident = s.ident ∧ (s.clearPriv g).noc = s.noc ∧ (s.clearPriv g).lines = s.lines ∧ (s.clearPriv g).ms = s.ms ∧
    (s.clearPriv g).ports = s.ports ∧ (s.clearPriv g).torus = s.torus ∧ (s.clearPriv g).sites = s.sites ∧ (s.clearPriv g).sec = s.sec ∧
    (s.clearPriv g).sdg = s.sdg ∧ (s.clearPriv g).groups = s.groups ∧ (s.clearPriv g).flash = s.flash := by
  unfold State.clearPriv
  simp (disch := (intros; (repeat' split) <;> simp))

@[simp] theorem State.writeRows_frame (s : State) (g : Grp) :
    (s.writeRows g).time = s.time ∧ (s.writeRows g).draws = s.draws ∧ (s.writeRows g).tx = s.tx ∧ (s.writeRows g).pending = s.pending ∧
    (s.writeRows g).hub = s.hub ∧ (s.writeRows g).held = s.held ∧ (s.writeRows g).latch = s.latch ∧ (s.writeRows g).fns = s.fns ∧
    (s.writeRows g).pce = s.pce ∧ (s.writeRows g).boot = s.boot ∧ (s.writeRows g).pow = s.pow ∧ (s.writeRows g).obs = s.obs ∧
    (s.writeRows g).ident = s.ident ∧ (s.writeRows g).noc = s.noc ∧ (s.writeRows g).lines = s.lines ∧ (s.writeRows g).ms = s.ms ∧
    (s.writeRows g).ports = s.ports ∧ (s.writeRows g).torus = s.torus ∧ (s.writeRows g).sites = s.sites ∧ (s.writeRows g).sec = s.sec ∧
    (s.writeRows g).sdg = s.sdg ∧ (s.writeRows g).groups = s.groups ∧ (s.writeRows g).flash = s.flash := by
  simp [State.writeRows]

@[simp] theorem State.putCores_frame (s : State) (g : Grp) :
    (s.putCores g).time = s.time ∧ (s.putCores g).draws = s.draws ∧ (s.putCores g).tx = s.tx ∧ (s.putCores g).pending = s.pending ∧
    (s.putCores g).hub = s.hub ∧ (s.putCores g).held = s.held ∧ (s.putCores g).latch = s.latch ∧ (s.putCores g).fns = s.fns ∧
    (s.putCores g).pce = s.pce ∧ (s.putCores g).boot = s.boot ∧ (s.putCores g).pow = s.pow ∧ (s.putCores g).obs = s.obs ∧
    (s.putCores g).ident = s.ident ∧ (s.putCores g).noc = s.noc ∧ (s.putCores g).lines = s.lines ∧ (s.putCores g).ms = s.ms ∧
    (s.putCores g).ports = s.ports ∧ (s.putCores g).torus = s.torus ∧ (s.putCores g).sites = s.sites ∧ (s.putCores g).sec = s.sec ∧
    (s.putCores g).sdg = s.sdg ∧ (s.putCores g).groups = s.groups ∧ (s.putCores g).flash = s.flash := by
  simp [State.putCores]

@[simp] theorem State.outPage_frame (s : State) (fn : ℕ) (e : ℕ) (page : ℕ) (set : SMap Byte) :
    (s.outPage fn e page set).time = s.time ∧ (s.outPage fn e page set).draws = s.draws ∧ (s.outPage fn e page set).pending = s.pending ∧
    (s.outPage fn e page set).held = s.held ∧ (s.outPage fn e page set).latch = s.latch ∧ (s.outPage fn e page set).pow = s.pow ∧
    (s.outPage fn e page set).ident = s.ident ∧ (s.outPage fn e page set).noc = s.noc ∧ (s.outPage fn e page set).lines = s.lines ∧
    (s.outPage fn e page set).ports = s.ports ∧ (s.outPage fn e page set).torus = s.torus ∧ (s.outPage fn e page set).sec = s.sec ∧
    (s.outPage fn e page set).flash = s.flash := by
  unfold State.outPage; (repeat' split) <;> simp

@[simp] theorem State.pumpOut_frame (s : State) (fn : ℕ) :
    (s.pumpOut fn).time = s.time ∧ (s.pumpOut fn).draws = s.draws ∧ (s.pumpOut fn).pending = s.pending ∧ (s.pumpOut fn).held = s.held ∧
    (s.pumpOut fn).latch = s.latch ∧ (s.pumpOut fn).pow = s.pow ∧ (s.pumpOut fn).ident = s.ident ∧ (s.pumpOut fn).noc = s.noc ∧
    (s.pumpOut fn).lines = s.lines ∧ (s.pumpOut fn).ports = s.ports ∧ (s.pumpOut fn).torus = s.torus ∧ (s.pumpOut fn).sec = s.sec ∧
    (s.pumpOut fn).flash = s.flash := by
  unfold State.pumpOut
  split
  · simp
  · (repeat' apply And.intro) <;> (try apply foldl_keep) <;> intros <;> (repeat' split) <;> simp

@[simp] theorem State.toReleasing_frame (s : State) (fn : ℕ) (e : ℕ) (j : JEntry) (g : Grp) :
    (s.toReleasing fn e j g).time = s.time ∧ (s.toReleasing fn e j g).draws = s.draws ∧ (s.toReleasing fn e j g).tx = s.tx ∧
    (s.toReleasing fn e j g).pending = s.pending ∧ (s.toReleasing fn e j g).hub = s.hub ∧ (s.toReleasing fn e j g).held = s.held ∧
    (s.toReleasing fn e j g).latch = s.latch ∧ (s.toReleasing fn e j g).pce = s.pce ∧ (s.toReleasing fn e j g).boot = s.boot ∧
    (s.toReleasing fn e j g).pow = s.pow ∧ (s.toReleasing fn e j g).obs = s.obs ∧ (s.toReleasing fn e j g).ident = s.ident ∧
    (s.toReleasing fn e j g).noc = s.noc ∧ (s.toReleasing fn e j g).lines = s.lines ∧ (s.toReleasing fn e j g).ms = s.ms ∧
    (s.toReleasing fn e j g).ports = s.ports ∧ (s.toReleasing fn e j g).torus = s.torus ∧ (s.toReleasing fn e j g).sites = s.sites ∧
    (s.toReleasing fn e j g).sec = s.sec ∧ (s.toReleasing fn e j g).sdg = s.sdg ∧ (s.toReleasing fn e j g).groups = s.groups ∧
    (s.toReleasing fn e j g).mem = s.mem ∧ (s.toReleasing fn e j g).poison = s.poison ∧ (s.toReleasing fn e j g).flash = s.flash := by
  unfold State.toReleasing
  dsimp only
  (repeat' split) <;> (repeat' apply And.intro) <;> (try simp) <;> (try apply foldl_keep) <;> intros <;> (repeat' split) <;> simp_all

@[simp] theorem State.ringPlace_frame (s : State) (fn : ℕ) (va : ℕ) :
    (s.ringPlace fn va).2.time = s.time ∧ (s.ringPlace fn va).2.draws = s.draws ∧ (s.ringPlace fn va).2.pending = s.pending ∧
    (s.ringPlace fn va).2.held = s.held ∧ (s.ringPlace fn va).2.latch = s.latch ∧ (s.ringPlace fn va).2.pow = s.pow ∧
    (s.ringPlace fn va).2.ident = s.ident ∧ (s.ringPlace fn va).2.noc = s.noc ∧ (s.ringPlace fn va).2.lines = s.lines ∧
    (s.ringPlace fn va).2.ports = s.ports ∧ (s.ringPlace fn va).2.torus = s.torus ∧ (s.ringPlace fn va).2.sec = s.sec ∧
    (s.ringPlace fn va).2.flash = s.flash := by
  unfold State.ringPlace; (repeat' split) <;> simp

@[simp] theorem State.auditWrite_frame (s : State) (fn : ℕ) :
    (s.auditWrite fn).time = s.time ∧ (s.auditWrite fn).draws = s.draws ∧ (s.auditWrite fn).pending = s.pending ∧
    (s.auditWrite fn).held = s.held ∧ (s.auditWrite fn).latch = s.latch ∧ (s.auditWrite fn).pow = s.pow ∧
    (s.auditWrite fn).ident = s.ident ∧ (s.auditWrite fn).noc = s.noc ∧ (s.auditWrite fn).lines = s.lines ∧
    (s.auditWrite fn).ports = s.ports ∧ (s.auditWrite fn).torus = s.torus ∧ (s.auditWrite fn).sec = s.sec ∧
    (s.auditWrite fn).flash = s.flash := by
  have h := State.ringPlace_frame s fn ((s.fn fn).auditAddr + 256 * (((s.fn fn).audit.written - (s.fn fn).audit.origin) % 2 ^ (s.fn fn).auditLog))
  unfold State.auditWrite
  dsimp only
  split
  · simp
  · split <;> rename_i heq <;> rw [heq] at h <;> simp_all

@[simp] theorem State.loadPiece_frame (s : State) (fn : ℕ) (e : ℕ) (va : ℕ) (off : ℕ) (n : ℕ) :
    (s.loadPiece fn e va off n).time = s.time ∧ (s.loadPiece fn e va off n).draws = s.draws ∧
    (s.loadPiece fn e va off n).pending = s.pending ∧ (s.loadPiece fn e va off n).held = s.held ∧
    (s.loadPiece fn e va off n).latch = s.latch ∧ (s.loadPiece fn e va off n).pow = s.pow ∧ (s.loadPiece fn e va off n).ident = s.ident ∧
    (s.loadPiece fn e va off n).noc = s.noc ∧ (s.loadPiece fn e va off n).lines = s.lines ∧ (s.loadPiece fn e va off n).ports = s.ports ∧
    (s.loadPiece fn e va off n).torus = s.torus ∧ (s.loadPiece fn e va off n).sec = s.sec ∧
    (s.loadPiece fn e va off n).flash = s.flash := by
  unfold State.loadPiece; (repeat' split) <;> simp

@[simp] theorem State.pumpLoad_frame (s : State) (fn : ℕ) (e : ℕ) :
    (s.pumpLoad fn e).time = s.time ∧ (s.pumpLoad fn e).draws = s.draws ∧ (s.pumpLoad fn e).pending = s.pending ∧
    (s.pumpLoad fn e).held = s.held ∧ (s.pumpLoad fn e).latch = s.latch ∧ (s.pumpLoad fn e).pow = s.pow ∧
    (s.pumpLoad fn e).ident = s.ident ∧ (s.pumpLoad fn e).noc = s.noc ∧ (s.pumpLoad fn e).lines = s.lines ∧
    (s.pumpLoad fn e).ports = s.ports ∧ (s.pumpLoad fn e).torus = s.torus ∧ (s.pumpLoad fn e).sec = s.sec ∧
    (s.pumpLoad fn e).flash = s.flash := by
  unfold State.pumpLoad; (repeat' split) <;> simp

@[simp] theorem State.pump_frame (s : State) (fn : ℕ) :
    (s.pump fn).time = s.time ∧ (s.pump fn).draws = s.draws ∧ (s.pump fn).pending = s.pending ∧ (s.pump fn).held = s.held ∧
    (s.pump fn).latch = s.latch ∧ (s.pump fn).pow = s.pow ∧ (s.pump fn).ident = s.ident ∧ (s.pump fn).noc = s.noc ∧
    (s.pump fn).lines = s.lines ∧ (s.pump fn).ports = s.ports ∧ (s.pump fn).torus = s.torus ∧ (s.pump fn).sec = s.sec ∧
    (s.pump fn).flash = s.flash := by
  simp [State.pump]

@[simp] theorem State.putEnt_frame (s : State) (a : ℕ) (v : ℕ) :
    (s.putEnt a v).time = s.time ∧ (s.putEnt a v).draws = s.draws ∧ (s.putEnt a v).tx = s.tx ∧ (s.putEnt a v).pending = s.pending ∧
    (s.putEnt a v).hub = s.hub ∧ (s.putEnt a v).held = s.held ∧ (s.putEnt a v).latch = s.latch ∧ (s.putEnt a v).fns = s.fns ∧
    (s.putEnt a v).pce = s.pce ∧ (s.putEnt a v).boot = s.boot ∧ (s.putEnt a v).pow = s.pow ∧ (s.putEnt a v).obs = s.obs ∧
    (s.putEnt a v).ident = s.ident ∧ (s.putEnt a v).noc = s.noc ∧ (s.putEnt a v).lines = s.lines ∧ (s.putEnt a v).ms = s.ms ∧
    (s.putEnt a v).ports = s.ports ∧ (s.putEnt a v).torus = s.torus ∧ (s.putEnt a v).sites = s.sites ∧ (s.putEnt a v).sec = s.sec ∧
    (s.putEnt a v).sdg = s.sdg ∧ (s.putEnt a v).groups = s.groups ∧ (s.putEnt a v).flash = s.flash := by
  simp [State.putEnt]

@[simp] theorem State.split64_frame (s : State) (tbl : ℕ) (va : ℕ) (e : ℕ) :
    (s.split64 tbl va e).time = s.time ∧ (s.split64 tbl va e).draws = s.draws ∧ (s.split64 tbl va e).tx = s.tx ∧
    (s.split64 tbl va e).pending = s.pending ∧ (s.split64 tbl va e).hub = s.hub ∧ (s.split64 tbl va e).held = s.held ∧
    (s.split64 tbl va e).latch = s.latch ∧ (s.split64 tbl va e).fns = s.fns ∧ (s.split64 tbl va e).pce = s.pce ∧
    (s.split64 tbl va e).boot = s.boot ∧ (s.split64 tbl va e).pow = s.pow ∧ (s.split64 tbl va e).obs = s.obs ∧
    (s.split64 tbl va e).ident = s.ident ∧ (s.split64 tbl va e).noc = s.noc ∧ (s.split64 tbl va e).lines = s.lines ∧
    (s.split64 tbl va e).ms = s.ms ∧ (s.split64 tbl va e).ports = s.ports ∧ (s.split64 tbl va e).torus = s.torus ∧
    (s.split64 tbl va e).sites = s.sites ∧ (s.split64 tbl va e).sec = s.sec ∧ (s.split64 tbl va e).sdg = s.sdg ∧
    (s.split64 tbl va e).groups = s.groups ∧ (s.split64 tbl va e).flash = s.flash := by
  simp [State.split64]

theorem State.newTable_frame (s : State) (fn : Nat) (e : Nat → Nat) (a : Nat) (s' : State) (h : s.newTable fn e = some (a, s')) :
    s'.time = s.time ∧ s'.draws = s.draws ∧ s'.tx = s.tx ∧ s'.pending = s.pending ∧ s'.hub = s.hub ∧ s'.held = s.held ∧ s'.latch = s.latch ∧
    s'.pce = s.pce ∧ s'.boot = s.boot ∧ s'.pow = s.pow ∧ s'.obs = s.obs ∧ s'.ident = s.ident ∧ s'.noc = s.noc ∧ s'.lines = s.lines ∧
    s'.ms = s.ms ∧ s'.ports = s.ports ∧ s'.torus = s.torus ∧ s'.sites = s.sites ∧ s'.sec = s.sec ∧ s'.sdg = s.sdg ∧ s'.groups = s.groups ∧
    s'.flash = s.flash := by
  unfold State.newTable at h
  split at h
  · cases h
  · simp at h
    simp [← h.2]

@[simp] theorem State.setLeaf_frame (s : State) (fn : ℕ) (va : ℕ) (target : ℕ) (size64 : Bool) (k : LeafKind) (lvl : ℕ) (tbl : ℕ) :
    (s.setLeaf fn va target size64 k lvl tbl).time = s.time ∧ (s.setLeaf fn va target size64 k lvl tbl).draws = s.draws ∧
    (s.setLeaf fn va target size64 k lvl tbl).tx = s.tx ∧ (s.setLeaf fn va target size64 k lvl tbl).pending = s.pending ∧
    (s.setLeaf fn va target size64 k lvl tbl).hub = s.hub ∧ (s.setLeaf fn va target size64 k lvl tbl).held = s.held ∧
    (s.setLeaf fn va target size64 k lvl tbl).latch = s.latch ∧ (s.setLeaf fn va target size64 k lvl tbl).pce = s.pce ∧
    (s.setLeaf fn va target size64 k lvl tbl).boot = s.boot ∧ (s.setLeaf fn va target size64 k lvl tbl).pow = s.pow ∧
    (s.setLeaf fn va target size64 k lvl tbl).obs = s.obs ∧ (s.setLeaf fn va target size64 k lvl tbl).ident = s.ident ∧
    (s.setLeaf fn va target size64 k lvl tbl).noc = s.noc ∧ (s.setLeaf fn va target size64 k lvl tbl).lines = s.lines ∧
    (s.setLeaf fn va target size64 k lvl tbl).ms = s.ms ∧ (s.setLeaf fn va target size64 k lvl tbl).ports = s.ports ∧
    (s.setLeaf fn va target size64 k lvl tbl).torus = s.torus ∧ (s.setLeaf fn va target size64 k lvl tbl).sites = s.sites ∧
    (s.setLeaf fn va target size64 k lvl tbl).sec = s.sec ∧ (s.setLeaf fn va target size64 k lvl tbl).sdg = s.sdg ∧
    (s.setLeaf fn va target size64 k lvl tbl).groups = s.groups ∧ (s.setLeaf fn va target size64 k lvl tbl).flash = s.flash := by
  induction lvl generalizing s tbl with
  | zero =>
    unfold State.setLeaf
    dsimp only
    (repeat' split) <;> simp
  | succ l ih =>
    unfold State.setLeaf
    dsimp only
    (repeat' split) <;> simp [ih]
    rename_i h
    exact State.newTable_frame _ _ _ _ _ h

@[simp] theorem State.setPage_frame (s : State) (fn : ℕ) (va : ℕ) (r : List Byte) (i : ℕ) :
    (s.setPage fn va r i).time = s.time ∧ (s.setPage fn va r i).draws = s.draws ∧ (s.setPage fn va r i).tx = s.tx ∧
    (s.setPage fn va r i).pending = s.pending ∧ (s.setPage fn va r i).hub = s.hub ∧ (s.setPage fn va r i).held = s.held ∧
    (s.setPage fn va r i).latch = s.latch ∧ (s.setPage fn va r i).pce = s.pce ∧ (s.setPage fn va r i).boot = s.boot ∧
    (s.setPage fn va r i).pow = s.pow ∧ (s.setPage fn va r i).obs = s.obs ∧ (s.setPage fn va r i).ident = s.ident ∧
    (s.setPage fn va r i).noc = s.noc ∧ (s.setPage fn va r i).lines = s.lines ∧ (s.setPage fn va r i).ms = s.ms ∧
    (s.setPage fn va r i).ports = s.ports ∧ (s.setPage fn va r i).torus = s.torus ∧ (s.setPage fn va r i).sites = s.sites ∧
    (s.setPage fn va r i).sec = s.sec ∧ (s.setPage fn va r i).sdg = s.sdg ∧ (s.setPage fn va r i).groups = s.groups ∧
    (s.setPage fn va r i).flash = s.flash := by
  simp [State.setPage]

@[simp] theorem State.wakeAll_frame (s : State) (ws : List XWait) :
    (s.wakeAll ws).time = s.time ∧ (s.wakeAll ws).draws = s.draws ∧ (s.wakeAll ws).tx = s.tx ∧ (s.wakeAll ws).pending = s.pending ∧
    (s.wakeAll ws).hub = s.hub ∧ (s.wakeAll ws).held = s.held ∧ (s.wakeAll ws).latch = s.latch ∧ (s.wakeAll ws).fns = s.fns ∧
    (s.wakeAll ws).pce = s.pce ∧ (s.wakeAll ws).boot = s.boot ∧ (s.wakeAll ws).pow = s.pow ∧ (s.wakeAll ws).obs = s.obs ∧
    (s.wakeAll ws).ident = s.ident ∧ (s.wakeAll ws).noc = s.noc ∧ (s.wakeAll ws).lines = s.lines ∧ (s.wakeAll ws).ms = s.ms ∧
    (s.wakeAll ws).ports = s.ports ∧ (s.wakeAll ws).torus = s.torus ∧ (s.wakeAll ws).sites = s.sites ∧ (s.wakeAll ws).sec = s.sec ∧
    (s.wakeAll ws).sdg = s.sdg ∧ (s.wakeAll ws).mem = s.mem ∧ (s.wakeAll ws).poison = s.poison ∧ (s.wakeAll ws).flash = s.flash := by
  simp [State.wakeAll]

@[simp] theorem State.walkBroken_frame (s : State) (fn : ℕ) (w : XWait) (poison : Bool) :
    (s.walkBroken fn w poison).time = s.time ∧ (s.walkBroken fn w poison).draws = s.draws ∧ (s.walkBroken fn w poison).pending = s.pending ∧
    (s.walkBroken fn w poison).held = s.held ∧ (s.walkBroken fn w poison).latch = s.latch ∧ (s.walkBroken fn w poison).pow = s.pow ∧
    (s.walkBroken fn w poison).ident = s.ident ∧ (s.walkBroken fn w poison).noc = s.noc ∧ (s.walkBroken fn w poison).lines = s.lines ∧
    (s.walkBroken fn w poison).ports = s.ports ∧ (s.walkBroken fn w poison).torus = s.torus ∧ (s.walkBroken fn w poison).sec = s.sec ∧
    (s.walkBroken fn w poison).flash = s.flash := by
  unfold State.walkBroken; (repeat' split) <;> simp

@[simp] theorem State.hostWait_frame (s : State) (fn : ℕ) (w : XWait) :
    (s.hostWait fn w).time = s.time ∧ (s.hostWait fn w).draws = s.draws ∧ (s.hostWait fn w).pending = s.pending ∧
    (s.hostWait fn w).hub = s.hub ∧ (s.hostWait fn w).held = s.held ∧ (s.hostWait fn w).latch = s.latch ∧ (s.hostWait fn w).pce = s.pce ∧
    (s.hostWait fn w).boot = s.boot ∧ (s.hostWait fn w).pow = s.pow ∧ (s.hostWait fn w).ident = s.ident ∧ (s.hostWait fn w).noc = s.noc ∧
    (s.hostWait fn w).lines = s.lines ∧ (s.hostWait fn w).ms = s.ms ∧ (s.hostWait fn w).ports = s.ports ∧
    (s.hostWait fn w).torus = s.torus ∧ (s.hostWait fn w).sites = s.sites ∧ (s.hostWait fn w).sec = s.sec ∧ (s.hostWait fn w).sdg = s.sdg ∧
    (s.hostWait fn w).mem = s.mem ∧ (s.hostWait fn w).poison = s.poison ∧ (s.hostWait fn w).flash = s.flash := by
  unfold State.hostWait; (repeat' split) <;> simp

@[simp] theorem State.retryWaits_frame (s : State) (fn : ℕ) (p : XWait → Bool) :
    (s.retryWaits fn p).time = s.time ∧ (s.retryWaits fn p).draws = s.draws ∧ (s.retryWaits fn p).pending = s.pending ∧
    (s.retryWaits fn p).held = s.held ∧ (s.retryWaits fn p).latch = s.latch ∧ (s.retryWaits fn p).pow = s.pow ∧
    (s.retryWaits fn p).ident = s.ident ∧ (s.retryWaits fn p).noc = s.noc ∧ (s.retryWaits fn p).lines = s.lines ∧
    (s.retryWaits fn p).ports = s.ports ∧ (s.retryWaits fn p).torus = s.torus ∧ (s.retryWaits fn p).sec = s.sec ∧
    (s.retryWaits fn p).flash = s.flash := by
  unfold State.retryWaits
  dsimp only
  (repeat' split) <;> (repeat' apply And.intro) <;> (try simp) <;> (try apply foldl_keep) <;> intros <;> (repeat' split) <;> simp_all

@[simp] theorem State.afterAts_frame (s : State) (fn : ℕ) (w : XWait) :
    (s.afterAts fn w).time = s.time ∧ (s.afterAts fn w).draws = s.draws ∧ (s.afterAts fn w).pending = s.pending ∧
    (s.afterAts fn w).held = s.held ∧ (s.afterAts fn w).latch = s.latch ∧ (s.afterAts fn w).pow = s.pow ∧
    (s.afterAts fn w).ident = s.ident ∧ (s.afterAts fn w).noc = s.noc ∧ (s.afterAts fn w).lines = s.lines ∧
    (s.afterAts fn w).ports = s.ports ∧ (s.afterAts fn w).torus = s.torus ∧ (s.afterAts fn w).sec = s.sec ∧
    (s.afterAts fn w).flash = s.flash := by
  unfold State.afterAts; (repeat' split) <;> simp

@[simp] theorem State.failPrg_frame (s : State) (fn : ℕ) (i : ℕ) (cause : ℕ) :
    (s.failPrg fn i cause).time = s.time ∧ (s.failPrg fn i cause).draws = s.draws ∧ (s.failPrg fn i cause).pending = s.pending ∧
    (s.failPrg fn i cause).held = s.held ∧ (s.failPrg fn i cause).latch = s.latch ∧ (s.failPrg fn i cause).pow = s.pow ∧
    (s.failPrg fn i cause).ident = s.ident ∧ (s.failPrg fn i cause).noc = s.noc ∧ (s.failPrg fn i cause).lines = s.lines ∧
    (s.failPrg fn i cause).ports = s.ports ∧ (s.failPrg fn i cause).torus = s.torus ∧ (s.failPrg fn i cause).sec = s.sec ∧
    (s.failPrg fn i cause).flash = s.flash := by
  simp [State.failPrg]

@[simp] theorem State.dropPrg_frame (s : State) (fn : ℕ) (i : ℕ) :
    (s.dropPrg fn i).time = s.time ∧ (s.dropPrg fn i).draws = s.draws ∧ (s.dropPrg fn i).tx = s.tx ∧ (s.dropPrg fn i).pending = s.pending ∧
    (s.dropPrg fn i).hub = s.hub ∧ (s.dropPrg fn i).held = s.held ∧ (s.dropPrg fn i).latch = s.latch ∧ (s.dropPrg fn i).pce = s.pce ∧
    (s.dropPrg fn i).boot = s.boot ∧ (s.dropPrg fn i).pow = s.pow ∧ (s.dropPrg fn i).obs = s.obs ∧ (s.dropPrg fn i).ident = s.ident ∧
    (s.dropPrg fn i).noc = s.noc ∧ (s.dropPrg fn i).lines = s.lines ∧ (s.dropPrg fn i).ms = s.ms ∧ (s.dropPrg fn i).ports = s.ports ∧
    (s.dropPrg fn i).torus = s.torus ∧ (s.dropPrg fn i).sites = s.sites ∧ (s.dropPrg fn i).sec = s.sec ∧ (s.dropPrg fn i).sdg = s.sdg ∧
    (s.dropPrg fn i).groups = s.groups ∧ (s.dropPrg fn i).mem = s.mem ∧ (s.dropPrg fn i).poison = s.poison ∧
    (s.dropPrg fn i).flash = s.flash := by
  simp [State.dropPrg]

@[simp] theorem State.prgSuccess_frame (s : State) (fn : ℕ) (i : ℕ) (p : Prg) :
    (s.prgSuccess fn i p).time = s.time ∧ (s.prgSuccess fn i p).draws = s.draws ∧ (s.prgSuccess fn i p).pending = s.pending ∧
    (s.prgSuccess fn i p).hub = s.hub ∧ (s.prgSuccess fn i p).held = s.held ∧ (s.prgSuccess fn i p).latch = s.latch ∧
    (s.prgSuccess fn i p).pce = s.pce ∧ (s.prgSuccess fn i p).boot = s.boot ∧ (s.prgSuccess fn i p).pow = s.pow ∧
    (s.prgSuccess fn i p).obs = s.obs ∧ (s.prgSuccess fn i p).ident = s.ident ∧ (s.prgSuccess fn i p).noc = s.noc ∧
    (s.prgSuccess fn i p).lines = s.lines ∧ (s.prgSuccess fn i p).ms = s.ms ∧ (s.prgSuccess fn i p).ports = s.ports ∧
    (s.prgSuccess fn i p).torus = s.torus ∧ (s.prgSuccess fn i p).sites = s.sites ∧ (s.prgSuccess fn i p).sec = s.sec ∧
    (s.prgSuccess fn i p).sdg = s.sdg ∧ (s.prgSuccess fn i p).groups = s.groups ∧ (s.prgSuccess fn i p).mem = s.mem ∧
    (s.prgSuccess fn i p).poison = s.poison ∧ (s.prgSuccess fn i p).flash = s.flash := by
  simp [State.prgSuccess]

@[simp] theorem State.prgFailure_frame (s : State) (fn : ℕ) :
    (s.prgFailure fn).time = s.time ∧ (s.prgFailure fn).draws = s.draws ∧ (s.prgFailure fn).pending = s.pending ∧
    (s.prgFailure fn).held = s.held ∧ (s.prgFailure fn).latch = s.latch ∧ (s.prgFailure fn).pow = s.pow ∧
    (s.prgFailure fn).ident = s.ident ∧ (s.prgFailure fn).noc = s.noc ∧ (s.prgFailure fn).lines = s.lines ∧
    (s.prgFailure fn).ports = s.ports ∧ (s.prgFailure fn).torus = s.torus ∧ (s.prgFailure fn).sec = s.sec ∧
    (s.prgFailure fn).flash = s.flash := by
  simp [State.prgFailure]

@[simp] theorem State.queueFeval_frame (s : State) (t : Thr) (g : Grp) (th : Thread) (o : FevalOp) :
    (s.queueFeval t g th o).time = s.time ∧ (s.queueFeval t g th o).draws = s.draws ∧ (s.queueFeval t g th o).tx = s.tx ∧
    (s.queueFeval t g th o).pending = s.pending ∧ (s.queueFeval t g th o).held = s.held ∧ (s.queueFeval t g th o).latch = s.latch ∧
    (s.queueFeval t g th o).pce = s.pce ∧ (s.queueFeval t g th o).boot = s.boot ∧ (s.queueFeval t g th o).pow = s.pow ∧
    (s.queueFeval t g th o).obs = s.obs ∧ (s.queueFeval t g th o).ident = s.ident ∧ (s.queueFeval t g th o).noc = s.noc ∧
    (s.queueFeval t g th o).lines = s.lines ∧ (s.queueFeval t g th o).ms = s.ms ∧ (s.queueFeval t g th o).ports = s.ports ∧
    (s.queueFeval t g th o).torus = s.torus ∧ (s.queueFeval t g th o).sites = s.sites ∧ (s.queueFeval t g th o).sec = s.sec ∧
    (s.queueFeval t g th o).sdg = s.sdg ∧ (s.queueFeval t g th o).mem = s.mem ∧ (s.queueFeval t g th o).poison = s.poison ∧
    (s.queueFeval t g th o).flash = s.flash := by
  simp [State.queueFeval]

@[simp] theorem State.countFeval_frame (s : State) (fn : ℕ) (since : ℕ) :
    (s.countFeval fn since).time = s.time ∧ (s.countFeval fn since).draws = s.draws ∧ (s.countFeval fn since).tx = s.tx ∧
    (s.countFeval fn since).pending = s.pending ∧ (s.countFeval fn since).hub = s.hub ∧ (s.countFeval fn since).held = s.held ∧
    (s.countFeval fn since).latch = s.latch ∧ (s.countFeval fn since).pce = s.pce ∧ (s.countFeval fn since).boot = s.boot ∧
    (s.countFeval fn since).pow = s.pow ∧ (s.countFeval fn since).obs = s.obs ∧ (s.countFeval fn since).ident = s.ident ∧
    (s.countFeval fn since).noc = s.noc ∧ (s.countFeval fn since).lines = s.lines ∧ (s.countFeval fn since).ms = s.ms ∧
    (s.countFeval fn since).ports = s.ports ∧ (s.countFeval fn since).torus = s.torus ∧ (s.countFeval fn since).sites = s.sites ∧
    (s.countFeval fn since).sec = s.sec ∧ (s.countFeval fn since).sdg = s.sdg ∧ (s.countFeval fn since).groups = s.groups ∧
    (s.countFeval fn since).mem = s.mem ∧ (s.countFeval fn since).poison = s.poison ∧ (s.countFeval fn since).flash = s.flash := by
  simp [State.countFeval]

@[simp] theorem State.admitFeval_frame (s : State) (t : Thr) (g : Grp) (th : Thread) (d : List Byte) (h : List Byte) (outs : List Tgt) :
    (s.admitFeval t g th d h outs).time = s.time ∧ (s.admitFeval t g th d h outs).draws = s.draws ∧
    (s.admitFeval t g th d h outs).tx = s.tx ∧ (s.admitFeval t g th d h outs).pending = s.pending ∧
    (s.admitFeval t g th d h outs).held = s.held ∧ (s.admitFeval t g th d h outs).latch = s.latch ∧
    (s.admitFeval t g th d h outs).pce = s.pce ∧ (s.admitFeval t g th d h outs).boot = s.boot ∧ (s.admitFeval t g th d h outs).pow = s.pow ∧
    (s.admitFeval t g th d h outs).obs = s.obs ∧ (s.admitFeval t g th d h outs).ident = s.ident ∧
    (s.admitFeval t g th d h outs).noc = s.noc ∧ (s.admitFeval t g th d h outs).lines = s.lines ∧ (s.admitFeval t g th d h outs).ms = s.ms ∧
    (s.admitFeval t g th d h outs).ports = s.ports ∧ (s.admitFeval t g th d h outs).torus = s.torus ∧
    (s.admitFeval t g th d h outs).sites = s.sites ∧ (s.admitFeval t g th d h outs).sec = s.sec ∧
    (s.admitFeval t g th d h outs).sdg = s.sdg ∧ (s.admitFeval t g th d h outs).mem = s.mem ∧
    (s.admitFeval t g th d h outs).poison = s.poison ∧ (s.admitFeval t g th d h outs).flash = s.flash := by
  unfold State.admitFeval
  dsimp only
  split
  · simp
  · split <;> simp

@[simp] theorem State.fevalWith_frame (s : State) (t : Thr) (g : Grp) (th : Thread) (d : List Byte) (header : Option (List Byte × Bool)) :
    (s.fevalWith t g th d header).time = s.time ∧ (s.fevalWith t g th d header).draws = s.draws ∧
    (s.fevalWith t g th d header).pending = s.pending ∧ (s.fevalWith t g th d header).held = s.held ∧
    (s.fevalWith t g th d header).latch = s.latch ∧ (s.fevalWith t g th d header).pow = s.pow ∧
    (s.fevalWith t g th d header).ident = s.ident ∧ (s.fevalWith t g th d header).noc = s.noc ∧
    (s.fevalWith t g th d header).lines = s.lines ∧ (s.fevalWith t g th d header).ports = s.ports ∧
    (s.fevalWith t g th d header).torus = s.torus ∧ (s.fevalWith t g th d header).sec = s.sec ∧
    (s.fevalWith t g th d header).flash = s.flash := by
  unfold State.fevalWith
  dsimp only
  (repeat' split) <;> simp

@[simp] theorem State.startFeval_frame (s : State) (t : Thr) (g : Grp) (th : Thread) (d : List Byte) :
    (s.startFeval t g th d).time = s.time ∧ (s.startFeval t g th d).draws = s.draws ∧ (s.startFeval t g th d).pending = s.pending ∧
    (s.startFeval t g th d).held = s.held ∧ (s.startFeval t g th d).latch = s.latch ∧ (s.startFeval t g th d).pow = s.pow ∧
    (s.startFeval t g th d).ident = s.ident ∧ (s.startFeval t g th d).noc = s.noc ∧ (s.startFeval t g th d).lines = s.lines ∧
    (s.startFeval t g th d).ports = s.ports ∧ (s.startFeval t g th d).torus = s.torus ∧ (s.startFeval t g th d).sec = s.sec ∧
    (s.startFeval t g th d).flash = s.flash := by
  simp [State.startFeval]

@[simp] theorem State.dropNodes_frame (s : State) (fn : ℕ) :
    (s.dropNodes fn).time = s.time ∧ (s.dropNodes fn).draws = s.draws ∧ (s.dropNodes fn).tx = s.tx ∧ (s.dropNodes fn).pending = s.pending ∧
    (s.dropNodes fn).hub = s.hub ∧ (s.dropNodes fn).held = s.held ∧ (s.dropNodes fn).latch = s.latch ∧ (s.dropNodes fn).fns = s.fns ∧
    (s.dropNodes fn).pce = s.pce ∧ (s.dropNodes fn).boot = s.boot ∧ (s.dropNodes fn).pow = s.pow ∧ (s.dropNodes fn).obs = s.obs ∧
    (s.dropNodes fn).ident = s.ident ∧ (s.dropNodes fn).noc = s.noc ∧ (s.dropNodes fn).lines = s.lines ∧ (s.dropNodes fn).ports = s.ports ∧
    (s.dropNodes fn).torus = s.torus ∧ (s.dropNodes fn).sites = s.sites ∧ (s.dropNodes fn).sec = s.sec ∧ (s.dropNodes fn).sdg = s.sdg ∧
    (s.dropNodes fn).groups = s.groups ∧ (s.dropNodes fn).mem = s.mem ∧ (s.dropNodes fn).poison = s.poison ∧
    (s.dropNodes fn).flash = s.flash := by
  simp [State.dropNodes]

@[simp] theorem State.joinSum_frame (s : State) (t : Thr) (tgt : Tgt) (x : Xa) :
    (s.joinSum t tgt x).time = s.time ∧ (s.joinSum t tgt x).draws = s.draws ∧ (s.joinSum t tgt x).tx = s.tx ∧
    (s.joinSum t tgt x).pending = s.pending ∧ (s.joinSum t tgt x).held = s.held ∧ (s.joinSum t tgt x).latch = s.latch ∧
    (s.joinSum t tgt x).pce = s.pce ∧ (s.joinSum t tgt x).boot = s.boot ∧ (s.joinSum t tgt x).pow = s.pow ∧
    (s.joinSum t tgt x).ident = s.ident ∧ (s.joinSum t tgt x).noc = s.noc ∧ (s.joinSum t tgt x).lines = s.lines ∧
    (s.joinSum t tgt x).ports = s.ports ∧ (s.joinSum t tgt x).torus = s.torus ∧ (s.joinSum t tgt x).sites = s.sites ∧
    (s.joinSum t tgt x).sec = s.sec ∧ (s.joinSum t tgt x).sdg = s.sdg ∧ (s.joinSum t tgt x).mem = s.mem ∧
    (s.joinSum t tgt x).poison = s.poison ∧ (s.joinSum t tgt x).flash = s.flash := by
  unfold State.joinSum; (repeat' split) <;> simp

@[simp] theorem State.stileLookup_frame (s : State) (fn : ℕ) (key : W64) :
    (s.stileLookup fn key).2.time = s.time ∧ (s.stileLookup fn key).2.draws = s.draws ∧ (s.stileLookup fn key).2.pending = s.pending ∧
    (s.stileLookup fn key).2.held = s.held ∧ (s.stileLookup fn key).2.latch = s.latch ∧ (s.stileLookup fn key).2.pow = s.pow ∧
    (s.stileLookup fn key).2.ident = s.ident ∧ (s.stileLookup fn key).2.noc = s.noc ∧ (s.stileLookup fn key).2.lines = s.lines ∧
    (s.stileLookup fn key).2.ports = s.ports ∧ (s.stileLookup fn key).2.torus = s.torus ∧ (s.stileLookup fn key).2.sec = s.sec ∧
    (s.stileLookup fn key).2.flash = s.flash := by
  simp [State.stileLookup]

@[simp] theorem State.dirRefuses_frame (s : State) (fn : ℕ) (r : List Byte) :
    (s.dirRefuses fn r).2.time = s.time ∧ (s.dirRefuses fn r).2.draws = s.draws ∧ (s.dirRefuses fn r).2.pending = s.pending ∧
    (s.dirRefuses fn r).2.held = s.held ∧ (s.dirRefuses fn r).2.latch = s.latch ∧ (s.dirRefuses fn r).2.pow = s.pow ∧
    (s.dirRefuses fn r).2.ident = s.ident ∧ (s.dirRefuses fn r).2.noc = s.noc ∧ (s.dirRefuses fn r).2.lines = s.lines ∧
    (s.dirRefuses fn r).2.ports = s.ports ∧ (s.dirRefuses fn r).2.torus = s.torus ∧ (s.dirRefuses fn r).2.sec = s.sec ∧
    (s.dirRefuses fn r).2.flash = s.flash := by
  have h := State.stileLookup_frame s fn (dirKey r)
  unfold State.dirRefuses
  dsimp only
  (repeat' split) <;> (try rename_i heq) <;> (try rw [heq] at h) <;> simp_all

@[simp] theorem State.check8_frame (s : State) (fn : ℕ) (r : List Byte) :
    (s.check8 fn r).2.time = s.time ∧ (s.check8 fn r).2.draws = s.draws ∧ (s.check8 fn r).2.pending = s.pending ∧
    (s.check8 fn r).2.held = s.held ∧ (s.check8 fn r).2.latch = s.latch ∧ (s.check8 fn r).2.pow = s.pow ∧
    (s.check8 fn r).2.ident = s.ident ∧ (s.check8 fn r).2.noc = s.noc ∧ (s.check8 fn r).2.lines = s.lines ∧
    (s.check8 fn r).2.ports = s.ports ∧ (s.check8 fn r).2.torus = s.torus ∧ (s.check8 fn r).2.sec = s.sec ∧
    (s.check8 fn r).2.flash = s.flash := by
  unfold State.check8
  dsimp only
  (repeat' split) <;> (repeat' apply And.intro) <;> (try simp) <;> (try apply foldl_keep) <;> intros <;> (repeat' split) <;> simp_all

@[simp] theorem State.lateChecks_frame (s : State) (fn : ℕ) (r : List Byte) :
    (s.lateChecks fn r).2.time = s.time ∧ (s.lateChecks fn r).2.draws = s.draws ∧ (s.lateChecks fn r).2.pending = s.pending ∧
    (s.lateChecks fn r).2.held = s.held ∧ (s.lateChecks fn r).2.latch = s.latch ∧ (s.lateChecks fn r).2.pow = s.pow ∧
    (s.lateChecks fn r).2.ident = s.ident ∧ (s.lateChecks fn r).2.noc = s.noc ∧ (s.lateChecks fn r).2.lines = s.lines ∧
    (s.lateChecks fn r).2.ports = s.ports ∧ (s.lateChecks fn r).2.torus = s.torus ∧ (s.lateChecks fn r).2.sec = s.sec ∧
    (s.lateChecks fn r).2.flash = s.flash := by
  have h := State.check8_frame s fn r
  unfold State.lateChecks
  dsimp only
  (repeat' split) <;> simp_all

@[simp] theorem State.orderChecks_frame (s : State) (fn : ℕ) (x : Slot) (r : List Byte) :
    (s.orderChecks fn x r).2.time = s.time ∧ (s.orderChecks fn x r).2.draws = s.draws ∧ (s.orderChecks fn x r).2.pending = s.pending ∧
    (s.orderChecks fn x r).2.held = s.held ∧ (s.orderChecks fn x r).2.latch = s.latch ∧ (s.orderChecks fn x r).2.pow = s.pow ∧
    (s.orderChecks fn x r).2.ident = s.ident ∧ (s.orderChecks fn x r).2.noc = s.noc ∧ (s.orderChecks fn x r).2.lines = s.lines ∧
    (s.orderChecks fn x r).2.ports = s.ports ∧ (s.orderChecks fn x r).2.torus = s.torus ∧ (s.orderChecks fn x r).2.sec = s.sec ∧
    (s.orderChecks fn x r).2.flash = s.flash := by
  unfold State.orderChecks
  simp [apply_ite Prod.snd]

@[simp] theorem State.verdict_frame (s : State) (fn : ℕ) (x : Slot) :
    (s.verdict fn x).2.time = s.time ∧ (s.verdict fn x).2.draws = s.draws ∧ (s.verdict fn x).2.pending = s.pending ∧
    (s.verdict fn x).2.held = s.held ∧ (s.verdict fn x).2.latch = s.latch ∧ (s.verdict fn x).2.pow = s.pow ∧
    (s.verdict fn x).2.ident = s.ident ∧ (s.verdict fn x).2.noc = s.noc ∧ (s.verdict fn x).2.lines = s.lines ∧
    (s.verdict fn x).2.ports = s.ports ∧ (s.verdict fn x).2.torus = s.torus ∧ (s.verdict fn x).2.sec = s.sec ∧
    (s.verdict fn x).2.flash = s.flash := by
  unfold State.verdict
  dsimp only
  (repeat' split) <;> (repeat' apply And.intro) <;> (try simp) <;> (try apply foldl_keep) <;> intros <;> (repeat' split) <;> simp_all

@[simp] theorem State.judge_frame (s : State) (fn : ℕ) (i : ℕ) :
    (s.judge fn i).time = s.time ∧ (s.judge fn i).draws = s.draws ∧ (s.judge fn i).pending = s.pending ∧ (s.judge fn i).held = s.held ∧
    (s.judge fn i).latch = s.latch ∧ (s.judge fn i).pow = s.pow ∧ (s.judge fn i).ident = s.ident ∧ (s.judge fn i).noc = s.noc ∧
    (s.judge fn i).lines = s.lines ∧ (s.judge fn i).ports = s.ports ∧ (s.judge fn i).torus = s.torus ∧ (s.judge fn i).sec = s.sec ∧
    (s.judge fn i).flash = s.flash := by
  have h := State.verdict_frame s fn ((s.fn fn).slot i)
  unfold State.judge
  dsimp only
  split
  · simp
  · split <;> rename_i heq <;> rw [heq] at h <;> simp_all

@[simp] theorem State.intake_frame (s : State) (fn : ℕ) :
    (s.intake fn).time = s.time ∧ (s.intake fn).draws = s.draws ∧ (s.intake fn).pending = s.pending ∧ (s.intake fn).held = s.held ∧
    (s.intake fn).latch = s.latch ∧ (s.intake fn).pow = s.pow ∧ (s.intake fn).ident = s.ident ∧ (s.intake fn).noc = s.noc ∧
    (s.intake fn).lines = s.lines ∧ (s.intake fn).ports = s.ports ∧ (s.intake fn).torus = s.torus ∧ (s.intake fn).sec = s.sec ∧
    (s.intake fn).flash = s.flash := by
  simp [State.intake]

@[simp] theorem State.slotWrite_frame (s : State) (fn : ℕ) (i : ℕ) (cells : List (ℕ × Byte)) :
    (s.slotWrite fn i cells).time = s.time ∧ (s.slotWrite fn i cells).draws = s.draws ∧ (s.slotWrite fn i cells).pending = s.pending ∧
    (s.slotWrite fn i cells).held = s.held ∧ (s.slotWrite fn i cells).latch = s.latch ∧ (s.slotWrite fn i cells).pow = s.pow ∧
    (s.slotWrite fn i cells).ident = s.ident ∧ (s.slotWrite fn i cells).noc = s.noc ∧ (s.slotWrite fn i cells).lines = s.lines ∧
    (s.slotWrite fn i cells).ports = s.ports ∧ (s.slotWrite fn i cells).torus = s.torus ∧ (s.slotWrite fn i cells).sec = s.sec ∧
    (s.slotWrite fn i cells).flash = s.flash := by
  simp [State.slotWrite]

@[simp] theorem State.poisonedWrite_frame (s : State) (fn : ℕ) :
    (s.poisonedWrite fn).time = s.time ∧ (s.poisonedWrite fn).draws = s.draws ∧ (s.poisonedWrite fn).pending = s.pending ∧
    (s.poisonedWrite fn).hub = s.hub ∧ (s.poisonedWrite fn).held = s.held ∧ (s.poisonedWrite fn).latch = s.latch ∧
    (s.poisonedWrite fn).fns = s.fns ∧ (s.poisonedWrite fn).boot = s.boot ∧ (s.poisonedWrite fn).pow = s.pow ∧
    (s.poisonedWrite fn).obs = s.obs ∧ (s.poisonedWrite fn).ident = s.ident ∧ (s.poisonedWrite fn).noc = s.noc ∧
    (s.poisonedWrite fn).lines = s.lines ∧ (s.poisonedWrite fn).ms = s.ms ∧ (s.poisonedWrite fn).ports = s.ports ∧
    (s.poisonedWrite fn).torus = s.torus ∧ (s.poisonedWrite fn).sites = s.sites ∧ (s.poisonedWrite fn).sec = s.sec ∧
    (s.poisonedWrite fn).sdg = s.sdg ∧ (s.poisonedWrite fn).groups = s.groups ∧ (s.poisonedWrite fn).mem = s.mem ∧
    (s.poisonedWrite fn).poison = s.poison ∧ (s.poisonedWrite fn).flash = s.flash := by
  simp [State.poisonedWrite]

@[simp] theorem State.acceptEffects_frame (s : State) (fn : ℕ) (e : ℕ) (j : JEntry) :
    (s.acceptEffects fn e j).time = s.time ∧ (s.acceptEffects fn e j).draws = s.draws ∧ (s.acceptEffects fn e j).pending = s.pending ∧
    (s.acceptEffects fn e j).hub = s.hub ∧ (s.acceptEffects fn e j).held = s.held ∧ (s.acceptEffects fn e j).latch = s.latch ∧
    (s.acceptEffects fn e j).boot = s.boot ∧ (s.acceptEffects fn e j).pow = s.pow ∧ (s.acceptEffects fn e j).obs = s.obs ∧
    (s.acceptEffects fn e j).ident = s.ident ∧ (s.acceptEffects fn e j).noc = s.noc ∧ (s.acceptEffects fn e j).lines = s.lines ∧
    (s.acceptEffects fn e j).ms = s.ms ∧ (s.acceptEffects fn e j).ports = s.ports ∧ (s.acceptEffects fn e j).torus = s.torus ∧
    (s.acceptEffects fn e j).sites = s.sites ∧ (s.acceptEffects fn e j).sec = s.sec ∧ (s.acceptEffects fn e j).sdg = s.sdg ∧
    (s.acceptEffects fn e j).groups = s.groups ∧ (s.acceptEffects fn e j).mem = s.mem ∧ (s.acceptEffects fn e j).poison = s.poison ∧
    (s.acceptEffects fn e j).flash = s.flash := by
  simp [State.acceptEffects]

@[simp] theorem State.acceptEntry_frame (s : State) (fn : ℕ) (e : ℕ) (j : JEntry) :
    (s.acceptEntry fn e j).time = s.time ∧ (s.acceptEntry fn e j).draws = s.draws ∧ (s.acceptEntry fn e j).pending = s.pending ∧
    (s.acceptEntry fn e j).held = s.held ∧ (s.acceptEntry fn e j).latch = s.latch ∧ (s.acceptEntry fn e j).pow = s.pow ∧
    (s.acceptEntry fn e j).ident = s.ident ∧ (s.acceptEntry fn e j).noc = s.noc ∧ (s.acceptEntry fn e j).lines = s.lines ∧
    (s.acceptEntry fn e j).ports = s.ports ∧ (s.acceptEntry fn e j).torus = s.torus ∧ (s.acceptEntry fn e j).sec = s.sec ∧
    (s.acceptEntry fn e j).flash = s.flash := by
  unfold State.acceptEntry
  dsimp only
  (repeat' split) <;> (repeat' apply And.intro) <;> (try simp) <;> (try apply foldl_keep) <;> intros <;> (repeat' split) <;> simp_all

@[simp] theorem State.genesis_frame (s : State) (fn : ℕ) :
    (s.genesis fn).time = s.time ∧ (s.genesis fn).draws = s.draws ∧ (s.genesis fn).tx = s.tx ∧ (s.genesis fn).pending = s.pending ∧
    (s.genesis fn).hub = s.hub ∧ (s.genesis fn).held = s.held ∧ (s.genesis fn).latch = s.latch ∧ (s.genesis fn).pce = s.pce ∧
    (s.genesis fn).boot = s.boot ∧ (s.genesis fn).pow = s.pow ∧ (s.genesis fn).obs = s.obs ∧ (s.genesis fn).ident = s.ident ∧
    (s.genesis fn).noc = s.noc ∧ (s.genesis fn).lines = s.lines ∧ (s.genesis fn).ms = s.ms ∧ (s.genesis fn).ports = s.ports ∧
    (s.genesis fn).torus = s.torus ∧ (s.genesis fn).sites = s.sites ∧ (s.genesis fn).sec = s.sec ∧ (s.genesis fn).sdg = s.sdg ∧
    (s.genesis fn).groups = s.groups ∧ (s.genesis fn).mem = s.mem ∧ (s.genesis fn).poison = s.poison ∧ (s.genesis fn).flash = s.flash := by
  simp [State.genesis]

@[simp] theorem State.beginLoad_frame (s : State) (fn : ℕ) (e : ℕ) (type : ℕ) :
    (s.beginLoad fn e type).time = s.time ∧ (s.beginLoad fn e type).draws = s.draws ∧ (s.beginLoad fn e type).pending = s.pending ∧
    (s.beginLoad fn e type).held = s.held ∧ (s.beginLoad fn e type).latch = s.latch ∧ (s.beginLoad fn e type).pow = s.pow ∧
    (s.beginLoad fn e type).ident = s.ident ∧ (s.beginLoad fn e type).noc = s.noc ∧ (s.beginLoad fn e type).lines = s.lines ∧
    (s.beginLoad fn e type).ports = s.ports ∧ (s.beginLoad fn e type).torus = s.torus ∧ (s.beginLoad fn e type).sec = s.sec ∧
    (s.beginLoad fn e type).flash = s.flash := by
  unfold State.beginLoad; (repeat' split) <;> simp

@[simp] theorem State.placeImage_frame (s : State) (fn : ℕ) (r : List Byte) (image : List Byte) (h : Handle) :
    (s.placeImage fn r image h).time = s.time ∧ (s.placeImage fn r image h).draws = s.draws ∧ (s.placeImage fn r image h).tx = s.tx ∧
    (s.placeImage fn r image h).pending = s.pending ∧ (s.placeImage fn r image h).hub = s.hub ∧ (s.placeImage fn r image h).held = s.held ∧
    (s.placeImage fn r image h).latch = s.latch ∧ (s.placeImage fn r image h).fns = s.fns ∧ (s.placeImage fn r image h).pce = s.pce ∧
    (s.placeImage fn r image h).boot = s.boot ∧ (s.placeImage fn r image h).pow = s.pow ∧ (s.placeImage fn r image h).obs = s.obs ∧
    (s.placeImage fn r image h).ident = s.ident ∧ (s.placeImage fn r image h).noc = s.noc ∧ (s.placeImage fn r image h).lines = s.lines ∧
    (s.placeImage fn r image h).ms = s.ms ∧ (s.placeImage fn r image h).ports = s.ports ∧ (s.placeImage fn r image h).torus = s.torus ∧
    (s.placeImage fn r image h).sites = s.sites ∧ (s.placeImage fn r image h).sec = s.sec ∧ (s.placeImage fn r image h).sdg = s.sdg ∧
    (s.placeImage fn r image h).groups = s.groups ∧ (s.placeImage fn r image h).flash = s.flash := by
  simp [State.placeImage]

@[simp] theorem State.commitLoad_frame (s : State) (fn : ℕ) (e : ℕ) (j : JEntry) (image : List Byte) :
    (s.commitLoad fn e j image).time = s.time ∧ (s.commitLoad fn e j image).draws = s.draws ∧
    (s.commitLoad fn e j image).pending = s.pending ∧ (s.commitLoad fn e j image).held = s.held ∧
    (s.commitLoad fn e j image).latch = s.latch ∧ (s.commitLoad fn e j image).boot = s.boot ∧ (s.commitLoad fn e j image).pow = s.pow ∧
    (s.commitLoad fn e j image).obs = s.obs ∧ (s.commitLoad fn e j image).ident = s.ident ∧ (s.commitLoad fn e j image).noc = s.noc ∧
    (s.commitLoad fn e j image).lines = s.lines ∧ (s.commitLoad fn e j image).ports = s.ports ∧
    (s.commitLoad fn e j image).torus = s.torus ∧ (s.commitLoad fn e j image).sec = s.sec ∧ (s.commitLoad fn e j image).sdg = s.sdg ∧
    (s.commitLoad fn e j image).flash = s.flash := by
  unfold State.commitLoad
  dsimp only
  (repeat' split) <;> (repeat' apply And.intro) <;> (try simp) <;> (try apply foldl_keep) <;> intros <;> (repeat' split) <;> simp_all

@[simp] theorem State.stopRunning_frame (s : State) (fn : ℕ) :
    (s.stopRunning fn).time = s.time ∧ (s.stopRunning fn).draws = s.draws ∧ (s.stopRunning fn).pending = s.pending ∧
    (s.stopRunning fn).held = s.held ∧ (s.stopRunning fn).latch = s.latch ∧ (s.stopRunning fn).boot = s.boot ∧
    (s.stopRunning fn).pow = s.pow ∧ (s.stopRunning fn).obs = s.obs ∧ (s.stopRunning fn).ident = s.ident ∧ (s.stopRunning fn).noc = s.noc ∧
    (s.stopRunning fn).lines = s.lines ∧ (s.stopRunning fn).ports = s.ports ∧ (s.stopRunning fn).torus = s.torus ∧
    (s.stopRunning fn).sec = s.sec ∧ (s.stopRunning fn).sdg = s.sdg ∧ (s.stopRunning fn).flash = s.flash := by
  unfold State.stopRunning
  simp only [State.progress_frame]
  (repeat' apply And.intro) <;> (try apply foldl_keep) <;> intros <;> (repeat' split) <;> simp

@[simp] theorem State.forceQuiesce_frame (s : State) (fn : ℕ) :
    (s.forceQuiesce fn).time = s.time ∧ (s.forceQuiesce fn).draws = s.draws ∧ (s.forceQuiesce fn).pending = s.pending ∧
    (s.forceQuiesce fn).held = s.held ∧ (s.forceQuiesce fn).latch = s.latch ∧ (s.forceQuiesce fn).boot = s.boot ∧
    (s.forceQuiesce fn).pow = s.pow ∧ (s.forceQuiesce fn).obs = s.obs ∧ (s.forceQuiesce fn).ident = s.ident ∧
    (s.forceQuiesce fn).noc = s.noc ∧ (s.forceQuiesce fn).lines = s.lines ∧ (s.forceQuiesce fn).ports = s.ports ∧
    (s.forceQuiesce fn).torus = s.torus ∧ (s.forceQuiesce fn).sec = s.sec ∧ (s.forceQuiesce fn).sdg = s.sdg ∧
    (s.forceQuiesce fn).flash = s.flash := by
  simp [State.forceQuiesce]

@[simp] theorem State.giveData_frame (s : State) (q : PcieReq) (d : List Byte) :
    (s.giveData q d).time = s.time ∧ (s.giveData q d).draws = s.draws ∧ (s.giveData q d).pending = s.pending ∧
    (s.giveData q d).held = s.held ∧ (s.giveData q d).latch = s.latch ∧ (s.giveData q d).pce = s.pce ∧ (s.giveData q d).boot = s.boot ∧
    (s.giveData q d).pow = s.pow ∧ (s.giveData q d).ident = s.ident ∧ (s.giveData q d).noc = s.noc ∧ (s.giveData q d).lines = s.lines ∧
    (s.giveData q d).sites = s.sites ∧ (s.giveData q d).sec = s.sec ∧ (s.giveData q d).sdg = s.sdg ∧ (s.giveData q d).flash = s.flash := by
  unfold State.giveData; (repeat' split) <;> simp

@[simp] theorem State.failRead_frame (s : State) (q : PcieReq) :
    (s.failRead q).time = s.time ∧ (s.failRead q).draws = s.draws ∧ (s.failRead q).pending = s.pending ∧ (s.failRead q).held = s.held ∧
    (s.failRead q).latch = s.latch ∧ (s.failRead q).boot = s.boot ∧ (s.failRead q).pow = s.pow ∧ (s.failRead q).ident = s.ident ∧
    (s.failRead q).noc = s.noc ∧ (s.failRead q).lines = s.lines ∧ (s.failRead q).ports = s.ports ∧ (s.failRead q).torus = s.torus ∧
    (s.failRead q).sec = s.sec ∧ (s.failRead q).sdg = s.sdg ∧ (s.failRead q).flash = s.flash := by
  unfold State.failRead; (repeat' split) <;> simp

@[simp] theorem State.poisonRead_frame (s : State) (q : PcieReq) :
    (s.poisonRead q).time = s.time ∧ (s.poisonRead q).draws = s.draws ∧ (s.poisonRead q).pending = s.pending ∧
    (s.poisonRead q).held = s.held ∧ (s.poisonRead q).latch = s.latch ∧ (s.poisonRead q).boot = s.boot ∧ (s.poisonRead q).pow = s.pow ∧
    (s.poisonRead q).obs = s.obs ∧ (s.poisonRead q).ident = s.ident ∧ (s.poisonRead q).noc = s.noc ∧ (s.poisonRead q).lines = s.lines ∧
    (s.poisonRead q).ports = s.ports ∧ (s.poisonRead q).torus = s.torus ∧ (s.poisonRead q).sec = s.sec ∧ (s.poisonRead q).sdg = s.sdg ∧
    (s.poisonRead q).flash = s.flash := by
  unfold State.poisonRead; (repeat' split) <;> simp

@[simp] theorem State.dropReq_frame (s : State) (tag : ℕ) :
    (s.dropReq tag).time = s.time ∧ (s.dropReq tag).draws = s.draws ∧ (s.dropReq tag).tx = s.tx ∧ (s.dropReq tag).pending = s.pending ∧
    (s.dropReq tag).hub = s.hub ∧ (s.dropReq tag).held = s.held ∧ (s.dropReq tag).latch = s.latch ∧ (s.dropReq tag).fns = s.fns ∧
    (s.dropReq tag).boot = s.boot ∧ (s.dropReq tag).pow = s.pow ∧ (s.dropReq tag).obs = s.obs ∧ (s.dropReq tag).ident = s.ident ∧
    (s.dropReq tag).noc = s.noc ∧ (s.dropReq tag).lines = s.lines ∧ (s.dropReq tag).ms = s.ms ∧ (s.dropReq tag).ports = s.ports ∧
    (s.dropReq tag).torus = s.torus ∧ (s.dropReq tag).sites = s.sites ∧ (s.dropReq tag).sec = s.sec ∧ (s.dropReq tag).sdg = s.sdg ∧
    (s.dropReq tag).groups = s.groups ∧ (s.dropReq tag).mem = s.mem ∧ (s.dropReq tag).poison = s.poison ∧
    (s.dropReq tag).flash = s.flash := by
  simp [State.dropReq]

@[simp] theorem State.advisory_frame (s : State) (fn : ℕ) (bit : ℕ) :
    (s.advisory fn bit).time = s.time ∧ (s.advisory fn bit).draws = s.draws ∧ (s.advisory fn bit).pending = s.pending ∧
    (s.advisory fn bit).hub = s.hub ∧ (s.advisory fn bit).held = s.held ∧ (s.advisory fn bit).latch = s.latch ∧
    (s.advisory fn bit).fns = s.fns ∧ (s.advisory fn bit).boot = s.boot ∧ (s.advisory fn bit).pow = s.pow ∧
    (s.advisory fn bit).obs = s.obs ∧ (s.advisory fn bit).ident = s.ident ∧ (s.advisory fn bit).noc = s.noc ∧
    (s.advisory fn bit).lines = s.lines ∧ (s.advisory fn bit).ms = s.ms ∧ (s.advisory fn bit).ports = s.ports ∧
    (s.advisory fn bit).torus = s.torus ∧ (s.advisory fn bit).sites = s.sites ∧ (s.advisory fn bit).sec = s.sec ∧
    (s.advisory fn bit).sdg = s.sdg ∧ (s.advisory fn bit).groups = s.groups ∧ (s.advisory fn bit).mem = s.mem ∧
    (s.advisory fn bit).poison = s.poison ∧ (s.advisory fn bit).flash = s.flash := by
  simp [State.advisory]

@[simp] theorem State.resumeHost_frame (s : State) (fn : ℕ) :
    (s.resumeHost fn).time = s.time ∧ (s.resumeHost fn).draws = s.draws ∧ (s.resumeHost fn).pending = s.pending ∧
    (s.resumeHost fn).held = s.held ∧ (s.resumeHost fn).latch = s.latch ∧ (s.resumeHost fn).pow = s.pow ∧
    (s.resumeHost fn).ident = s.ident ∧ (s.resumeHost fn).noc = s.noc ∧ (s.resumeHost fn).lines = s.lines ∧
    (s.resumeHost fn).ports = s.ports ∧ (s.resumeHost fn).torus = s.torus ∧ (s.resumeHost fn).sec = s.sec ∧
    (s.resumeHost fn).flash = s.flash := by
  simp [State.resumeHost]

@[simp] theorem State.modPceFn_frame (s : State) (fn : ℕ) (g : PceFn → PceFn) :
    (s.modPceFn fn g).time = s.time ∧ (s.modPceFn fn g).draws = s.draws ∧ (s.modPceFn fn g).tx = s.tx ∧
    (s.modPceFn fn g).pending = s.pending ∧ (s.modPceFn fn g).hub = s.hub ∧ (s.modPceFn fn g).held = s.held ∧
    (s.modPceFn fn g).latch = s.latch ∧ (s.modPceFn fn g).pce = s.pce ∧ (s.modPceFn fn g).boot = s.boot ∧ (s.modPceFn fn g).pow = s.pow ∧
    (s.modPceFn fn g).obs = s.obs ∧ (s.modPceFn fn g).ident = s.ident ∧ (s.modPceFn fn g).noc = s.noc ∧ (s.modPceFn fn g).lines = s.lines ∧
    (s.modPceFn fn g).ms = s.ms ∧ (s.modPceFn fn g).ports = s.ports ∧ (s.modPceFn fn g).torus = s.torus ∧
    (s.modPceFn fn g).sites = s.sites ∧ (s.modPceFn fn g).sec = s.sec ∧ (s.modPceFn fn g).sdg = s.sdg ∧
    (s.modPceFn fn g).groups = s.groups ∧ (s.modPceFn fn g).mem = s.mem ∧ (s.modPceFn fn g).poison = s.poison ∧
    (s.modPceFn fn g).flash = s.flash := by
  simp [State.modPceFn]

@[simp] theorem State.tdiFail_frame (s : State) (fn : ℕ) :
    (s.tdiFail fn).time = s.time ∧ (s.tdiFail fn).draws = s.draws ∧ (s.tdiFail fn).pending = s.pending ∧ (s.tdiFail fn).held = s.held ∧
    (s.tdiFail fn).latch = s.latch ∧ (s.tdiFail fn).boot = s.boot ∧ (s.tdiFail fn).pow = s.pow ∧ (s.tdiFail fn).obs = s.obs ∧
    (s.tdiFail fn).ident = s.ident ∧ (s.tdiFail fn).noc = s.noc ∧ (s.tdiFail fn).lines = s.lines ∧ (s.tdiFail fn).ports = s.ports ∧
    (s.tdiFail fn).torus = s.torus ∧ (s.tdiFail fn).sec = s.sec ∧ (s.tdiFail fn).sdg = s.sdg ∧ (s.tdiFail fn).flash = s.flash := by
  simp [State.tdiFail]

@[simp] theorem State.beginFlr_frame (s : State) (fn : ℕ) :
    (s.beginFlr fn).time = s.time ∧ (s.beginFlr fn).draws = s.draws ∧ (s.beginFlr fn).pending = s.pending ∧ (s.beginFlr fn).held = s.held ∧
    (s.beginFlr fn).latch = s.latch ∧ (s.beginFlr fn).pow = s.pow ∧ (s.beginFlr fn).obs = s.obs ∧ (s.beginFlr fn).ident = s.ident ∧
    (s.beginFlr fn).noc = s.noc ∧ (s.beginFlr fn).lines = s.lines ∧ (s.beginFlr fn).ports = s.ports ∧ (s.beginFlr fn).torus = s.torus ∧
    (s.beginFlr fn).sec = s.sec ∧ (s.beginFlr fn).sdg = s.sdg ∧ (s.beginFlr fn).flash = s.flash := by
  simp [State.beginFlr]

@[simp] theorem State.flrAll_frame (s : State) (fns : List ℕ) :
    (s.flrAll fns).time = s.time ∧ (s.flrAll fns).draws = s.draws ∧ (s.flrAll fns).pending = s.pending ∧ (s.flrAll fns).held = s.held ∧
    (s.flrAll fns).latch = s.latch ∧ (s.flrAll fns).pow = s.pow ∧ (s.flrAll fns).obs = s.obs ∧ (s.flrAll fns).ident = s.ident ∧
    (s.flrAll fns).noc = s.noc ∧ (s.flrAll fns).lines = s.lines ∧ (s.flrAll fns).ports = s.ports ∧ (s.flrAll fns).torus = s.torus ∧
    (s.flrAll fns).sec = s.sec ∧ (s.flrAll fns).sdg = s.sdg ∧ (s.flrAll fns).flash = s.flash := by
  simp [State.flrAll]

@[simp] theorem State.vfsOff_frame (s : State) :
    s.vfsOff.time = s.time ∧ s.vfsOff.draws = s.draws ∧ s.vfsOff.pending = s.pending ∧ s.vfsOff.held = s.held ∧ s.vfsOff.latch = s.latch ∧
    s.vfsOff.pow = s.pow ∧ s.vfsOff.obs = s.obs ∧ s.vfsOff.ident = s.ident ∧ s.vfsOff.noc = s.noc ∧ s.vfsOff.lines = s.lines ∧
    s.vfsOff.ports = s.ports ∧ s.vfsOff.torus = s.torus ∧ s.vfsOff.sec = s.sec ∧ s.vfsOff.sdg = s.sdg ∧ s.vfsOff.flash = s.flash := by
  simp [State.vfsOff]

@[simp] theorem State.endQuiesce_frame (s : State) (fn : ℕ) :
    (s.endQuiesce fn).time = s.time ∧ (s.endQuiesce fn).draws = s.draws ∧ (s.endQuiesce fn).pending = s.pending ∧
    (s.endQuiesce fn).held = s.held ∧ (s.endQuiesce fn).latch = s.latch ∧ (s.endQuiesce fn).boot = s.boot ∧ (s.endQuiesce fn).pow = s.pow ∧
    (s.endQuiesce fn).obs = s.obs ∧ (s.endQuiesce fn).ident = s.ident ∧ (s.endQuiesce fn).noc = s.noc ∧ (s.endQuiesce fn).lines = s.lines ∧
    (s.endQuiesce fn).ms = s.ms ∧ (s.endQuiesce fn).ports = s.ports ∧ (s.endQuiesce fn).torus = s.torus ∧
    (s.endQuiesce fn).sites = s.sites ∧ (s.endQuiesce fn).sec = s.sec ∧ (s.endQuiesce fn).sdg = s.sdg ∧
    (s.endQuiesce fn).groups = s.groups ∧ (s.endQuiesce fn).mem = s.mem ∧ (s.endQuiesce fn).poison = s.poison ∧
    (s.endQuiesce fn).flash = s.flash := by
  unfold State.endQuiesce
  dsimp only
  (repeat' split) <;> (repeat' apply And.intro) <;> (try simp) <;> (try apply foldl_keep) <;> intros <;> (repeat' split) <;> simp_all

@[simp] theorem State.dropHost_frame (s : State) (fn : ℕ) :
    (s.dropHost fn).time = s.time ∧ (s.dropHost fn).draws = s.draws ∧ (s.dropHost fn).tx = s.tx ∧ (s.dropHost fn).pending = s.pending ∧
    (s.dropHost fn).hub = s.hub ∧ (s.dropHost fn).held = s.held ∧ (s.dropHost fn).latch = s.latch ∧ (s.dropHost fn).fns = s.fns ∧
    (s.dropHost fn).boot = s.boot ∧ (s.dropHost fn).pow = s.pow ∧ (s.dropHost fn).obs = s.obs ∧ (s.dropHost fn).ident = s.ident ∧
    (s.dropHost fn).noc = s.noc ∧ (s.dropHost fn).lines = s.lines ∧ (s.dropHost fn).ms = s.ms ∧ (s.dropHost fn).ports = s.ports ∧
    (s.dropHost fn).torus = s.torus ∧ (s.dropHost fn).sites = s.sites ∧ (s.dropHost fn).sec = s.sec ∧ (s.dropHost fn).sdg = s.sdg ∧
    (s.dropHost fn).groups = s.groups ∧ (s.dropHost fn).mem = s.mem ∧ (s.dropHost fn).poison = s.poison ∧
    (s.dropHost fn).flash = s.flash := by
  simp [State.dropHost]

@[simp] theorem State.resetEndpoint_frame (s : State) (sticky : Bool) :
    (s.resetEndpoint sticky).time = s.time ∧ (s.resetEndpoint sticky).pending = s.pending ∧ (s.resetEndpoint sticky).held = s.held ∧
    (s.resetEndpoint sticky).latch = s.latch ∧ (s.resetEndpoint sticky).pow = s.pow ∧ (s.resetEndpoint sticky).obs = s.obs ∧
    (s.resetEndpoint sticky).ident = s.ident ∧ (s.resetEndpoint sticky).noc = s.noc ∧ (s.resetEndpoint sticky).lines = s.lines ∧
    (s.resetEndpoint sticky).ports = s.ports ∧ (s.resetEndpoint sticky).torus = s.torus ∧ (s.resetEndpoint sticky).sdg = s.sdg ∧
    (s.resetEndpoint sticky).flash = s.flash := by
  simp [State.resetEndpoint]

@[simp] theorem State.leaveL1_frame (s : State) :
    s.leaveL1.time = s.time ∧ s.leaveL1.draws = s.draws ∧ s.leaveL1.tx = s.tx ∧ s.leaveL1.pending = s.pending ∧ s.leaveL1.hub = s.hub ∧
    s.leaveL1.held = s.held ∧ s.leaveL1.latch = s.latch ∧ s.leaveL1.fns = s.fns ∧ s.leaveL1.boot = s.boot ∧ s.leaveL1.pow = s.pow ∧
    s.leaveL1.obs = s.obs ∧ s.leaveL1.ident = s.ident ∧ s.leaveL1.noc = s.noc ∧ s.leaveL1.lines = s.lines ∧ s.leaveL1.ms = s.ms ∧
    s.leaveL1.ports = s.ports ∧ s.leaveL1.torus = s.torus ∧ s.leaveL1.sites = s.sites ∧ s.leaveL1.sec = s.sec ∧ s.leaveL1.sdg = s.sdg ∧
    s.leaveL1.groups = s.groups ∧ s.leaveL1.mem = s.mem ∧ s.leaveL1.poison = s.poison ∧ s.leaveL1.flash = s.flash := by
  simp [State.leaveL1]

@[simp] theorem State.setWidth_frame (s : State) (w : ℕ) :
    (s.setWidth w).time = s.time ∧ (s.setWidth w).draws = s.draws ∧ (s.setWidth w).tx = s.tx ∧ (s.setWidth w).pending = s.pending ∧
    (s.setWidth w).held = s.held ∧ (s.setWidth w).latch = s.latch ∧ (s.setWidth w).fns = s.fns ∧ (s.setWidth w).pce = s.pce ∧
    (s.setWidth w).boot = s.boot ∧ (s.setWidth w).pow = s.pow ∧ (s.setWidth w).obs = s.obs ∧ (s.setWidth w).ident = s.ident ∧
    (s.setWidth w).noc = s.noc ∧ (s.setWidth w).lines = s.lines ∧ (s.setWidth w).ms = s.ms ∧ (s.setWidth w).ports = s.ports ∧
    (s.setWidth w).torus = s.torus ∧ (s.setWidth w).sites = s.sites ∧ (s.setWidth w).sec = s.sec ∧ (s.setWidth w).sdg = s.sdg ∧
    (s.setWidth w).groups = s.groups ∧ (s.setWidth w).mem = s.mem ∧ (s.setWidth w).poison = s.poison ∧ (s.setWidth w).flash = s.flash := by
  simp [State.setWidth]

@[simp] theorem State.applyOffset_frame (s : State) (off : ℤ) (first : Bool) :
    (s.applyOffset off first).draws = s.draws ∧ (s.applyOffset off first).tx = s.tx ∧ (s.applyOffset off first).pending = s.pending ∧
    (s.applyOffset off first).hub = s.hub ∧ (s.applyOffset off first).held = s.held ∧ (s.applyOffset off first).latch = s.latch ∧
    (s.applyOffset off first).fns = s.fns ∧ (s.applyOffset off first).boot = s.boot ∧ (s.applyOffset off first).pow = s.pow ∧
    (s.applyOffset off first).obs = s.obs ∧ (s.applyOffset off first).ident = s.ident ∧ (s.applyOffset off first).noc = s.noc ∧
    (s.applyOffset off first).lines = s.lines ∧ (s.applyOffset off first).ms = s.ms ∧ (s.applyOffset off first).ports = s.ports ∧
    (s.applyOffset off first).torus = s.torus ∧ (s.applyOffset off first).sites = s.sites ∧ (s.applyOffset off first).sec = s.sec ∧
    (s.applyOffset off first).sdg = s.sdg ∧ (s.applyOffset off first).groups = s.groups ∧ (s.applyOffset off first).mem = s.mem ∧
    (s.applyOffset off first).poison = s.poison ∧ (s.applyOffset off first).flash = s.flash := by
  simp [State.applyOffset]

@[simp] theorem State.recomputeAdmitted_frame (s : State) :
    s.recomputeAdmitted.time = s.time ∧ s.recomputeAdmitted.draws = s.draws ∧ s.recomputeAdmitted.tx = s.tx ∧
    s.recomputeAdmitted.pending = s.pending ∧ s.recomputeAdmitted.held = s.held ∧ s.recomputeAdmitted.latch = s.latch ∧
    s.recomputeAdmitted.fns = s.fns ∧ s.recomputeAdmitted.pce = s.pce ∧ s.recomputeAdmitted.boot = s.boot ∧
    s.recomputeAdmitted.pow = s.pow ∧ s.recomputeAdmitted.obs = s.obs ∧ s.recomputeAdmitted.ident = s.ident ∧
    s.recomputeAdmitted.noc = s.noc ∧ s.recomputeAdmitted.lines = s.lines ∧ s.recomputeAdmitted.ms = s.ms ∧
    s.recomputeAdmitted.ports = s.ports ∧ s.recomputeAdmitted.torus = s.torus ∧ s.recomputeAdmitted.sites = s.sites ∧
    s.recomputeAdmitted.sec = s.sec ∧ s.recomputeAdmitted.sdg = s.sdg ∧ s.recomputeAdmitted.groups = s.groups ∧
    s.recomputeAdmitted.mem = s.mem ∧ s.recomputeAdmitted.poison = s.poison ∧ s.recomputeAdmitted.flash = s.flash := by
  simp [State.recomputeAdmitted]

@[simp] theorem State.damageBuckets_frame (s : State) (fn : ℕ) :
    (s.damageBuckets fn).time = s.time ∧ (s.damageBuckets fn).draws = s.draws ∧ (s.damageBuckets fn).pending = s.pending ∧
    (s.damageBuckets fn).held = s.held ∧ (s.damageBuckets fn).latch = s.latch ∧ (s.damageBuckets fn).pow = s.pow ∧
    (s.damageBuckets fn).ident = s.ident ∧ (s.damageBuckets fn).noc = s.noc ∧ (s.damageBuckets fn).lines = s.lines ∧
    (s.damageBuckets fn).ports = s.ports ∧ (s.damageBuckets fn).torus = s.torus ∧ (s.damageBuckets fn).sec = s.sec ∧
    (s.damageBuckets fn).flash = s.flash := by
  simp [State.damageBuckets]

@[simp] theorem State.fenceStack_frame (s : State) (stack : ℕ) :
    (s.fenceStack stack).time = s.time ∧ (s.fenceStack stack).draws = s.draws ∧ (s.fenceStack stack).pending = s.pending ∧
    (s.fenceStack stack).held = s.held ∧ (s.fenceStack stack).latch = s.latch ∧ (s.fenceStack stack).pow = s.pow ∧
    (s.fenceStack stack).ident = s.ident ∧ (s.fenceStack stack).ports = s.ports ∧ (s.fenceStack stack).torus = s.torus ∧
    (s.fenceStack stack).sec = s.sec ∧ (s.fenceStack stack).flash = s.flash := by
  simp [State.fenceStack]

@[simp] theorem State.countUe_frame (s : State) (stack : ℕ) :
    (s.countUe stack).time = s.time ∧ (s.countUe stack).draws = s.draws ∧ (s.countUe stack).pending = s.pending ∧
    (s.countUe stack).held = s.held ∧ (s.countUe stack).latch = s.latch ∧ (s.countUe stack).pow = s.pow ∧
    (s.countUe stack).ident = s.ident ∧ (s.countUe stack).ports = s.ports ∧ (s.countUe stack).torus = s.torus ∧
    (s.countUe stack).sec = s.sec ∧ (s.countUe stack).flash = s.flash := by
  simp [State.countUe]

@[simp] theorem State.spoil_frame (s : State) (lpa : ℕ) :
    (s.spoil lpa).time = s.time ∧ (s.spoil lpa).draws = s.draws ∧ (s.spoil lpa).tx = s.tx ∧ (s.spoil lpa).pending = s.pending ∧
    (s.spoil lpa).hub = s.hub ∧ (s.spoil lpa).held = s.held ∧ (s.spoil lpa).latch = s.latch ∧ (s.spoil lpa).fns = s.fns ∧
    (s.spoil lpa).pce = s.pce ∧ (s.spoil lpa).boot = s.boot ∧ (s.spoil lpa).pow = s.pow ∧ (s.spoil lpa).obs = s.obs ∧
    (s.spoil lpa).ident = s.ident ∧ (s.spoil lpa).noc = s.noc ∧ (s.spoil lpa).lines = s.lines ∧ (s.spoil lpa).ports = s.ports ∧
    (s.spoil lpa).torus = s.torus ∧ (s.spoil lpa).sites = s.sites ∧ (s.spoil lpa).sec = s.sec ∧ (s.spoil lpa).sdg = s.sdg ∧
    (s.spoil lpa).groups = s.groups ∧ (s.spoil lpa).mem = s.mem ∧ (s.spoil lpa).flash = s.flash := by
  simp [State.spoil]

@[simp] theorem State.repairTwin_frame (s : State) (lpa : ℕ) (initiator : ℕ) :
    (s.repairTwin lpa initiator).time = s.time ∧ (s.repairTwin lpa initiator).draws = s.draws ∧
    (s.repairTwin lpa initiator).pending = s.pending ∧ (s.repairTwin lpa initiator).held = s.held ∧
    (s.repairTwin lpa initiator).latch = s.latch ∧ (s.repairTwin lpa initiator).pow = s.pow ∧ (s.repairTwin lpa initiator).ident = s.ident ∧
    (s.repairTwin lpa initiator).noc = s.noc ∧ (s.repairTwin lpa initiator).lines = s.lines ∧ (s.repairTwin lpa initiator).ports = s.ports ∧
    (s.repairTwin lpa initiator).torus = s.torus ∧ (s.repairTwin lpa initiator).sec = s.sec ∧
    (s.repairTwin lpa initiator).flash = s.flash := by
  simp [State.repairTwin]

@[simp] theorem State.lineError_frame (s : State) (lpa : ℕ) (initiator : ℕ) (access : ℕ) (r : EccResult) :
    (s.lineError lpa initiator access r).time = s.time ∧ (s.lineError lpa initiator access r).draws = s.draws ∧
    (s.lineError lpa initiator access r).pending = s.pending ∧ (s.lineError lpa initiator access r).held = s.held ∧
    (s.lineError lpa initiator access r).latch = s.latch ∧ (s.lineError lpa initiator access r).pow = s.pow ∧
    (s.lineError lpa initiator access r).ident = s.ident ∧ (s.lineError lpa initiator access r).ports = s.ports ∧
    (s.lineError lpa initiator access r).torus = s.torus ∧ (s.lineError lpa initiator access r).sec = s.sec ∧
    (s.lineError lpa initiator access r).flash = s.flash := by
  unfold State.lineError; (repeat' split) <;> simp

@[simp] theorem State.monitor_frame (s : State) (id : ℕ) (bad : Bool) :
    (s.monitor id bad).time = s.time ∧ (s.monitor id bad).draws = s.draws ∧ (s.monitor id bad).tx = s.tx ∧
    (s.monitor id bad).pending = s.pending ∧ (s.monitor id bad).hub = s.hub ∧ (s.monitor id bad).held = s.held ∧
    (s.monitor id bad).latch = s.latch ∧ (s.monitor id bad).fns = s.fns ∧ (s.monitor id bad).pce = s.pce ∧
    (s.monitor id bad).boot = s.boot ∧ (s.monitor id bad).pow = s.pow ∧ (s.monitor id bad).obs = s.obs ∧
    (s.monitor id bad).ident = s.ident ∧ (s.monitor id bad).noc = s.noc ∧ (s.monitor id bad).lines = s.lines ∧
    (s.monitor id bad).ms = s.ms ∧ (s.monitor id bad).ports = s.ports ∧ (s.monitor id bad).torus = s.torus ∧
    (s.monitor id bad).sites = s.sites ∧ (s.monitor id bad).sec = s.sec ∧ (s.monitor id bad).groups = s.groups ∧
    (s.monitor id bad).mem = s.mem ∧ (s.monitor id bad).poison = s.poison ∧ (s.monitor id bad).flash = s.flash := by
  simp [State.monitor]

@[simp] theorem State.thermalTrip_frame (s : State) (phys : ℕ) :
    (s.thermalTrip phys).time = s.time ∧ (s.thermalTrip phys).draws = s.draws ∧ (s.thermalTrip phys).pending = s.pending ∧
    (s.thermalTrip phys).held = s.held ∧ (s.thermalTrip phys).latch = s.latch ∧ (s.thermalTrip phys).pow = s.pow ∧
    (s.thermalTrip phys).ident = s.ident ∧ (s.thermalTrip phys).noc = s.noc ∧ (s.thermalTrip phys).lines = s.lines ∧
    (s.thermalTrip phys).ports = s.ports ∧ (s.thermalTrip phys).torus = s.torus ∧ (s.thermalTrip phys).sec = s.sec ∧
    (s.thermalTrip phys).flash = s.flash := by
  simp [State.thermalTrip]

@[simp] theorem State.thermalEvent_frame (s : State) :
    s.thermalEvent.time = s.time ∧ s.thermalEvent.draws = s.draws ∧ s.thermalEvent.pending = s.pending ∧ s.thermalEvent.held = s.held ∧
    s.thermalEvent.latch = s.latch ∧ s.thermalEvent.fns = s.fns ∧ s.thermalEvent.boot = s.boot ∧ s.thermalEvent.pow = s.pow ∧
    s.thermalEvent.obs = s.obs ∧ s.thermalEvent.ident = s.ident ∧ s.thermalEvent.noc = s.noc ∧ s.thermalEvent.lines = s.lines ∧
    s.thermalEvent.ms = s.ms ∧ s.thermalEvent.ports = s.ports ∧ s.thermalEvent.torus = s.torus ∧ s.thermalEvent.sites = s.sites ∧
    s.thermalEvent.sec = s.sec ∧ s.thermalEvent.sdg = s.sdg ∧ s.thermalEvent.groups = s.groups ∧ s.thermalEvent.mem = s.mem ∧
    s.thermalEvent.poison = s.poison ∧ s.thermalEvent.flash = s.flash := by
  simp [State.thermalEvent]

@[simp] theorem State.setRefresh_frame (s : State) (stack : ℕ) (temp : ℕ) :
    (s.setRefresh stack temp).time = s.time ∧ (s.setRefresh stack temp).draws = s.draws ∧ (s.setRefresh stack temp).tx = s.tx ∧
    (s.setRefresh stack temp).pending = s.pending ∧ (s.setRefresh stack temp).held = s.held ∧ (s.setRefresh stack temp).latch = s.latch ∧
    (s.setRefresh stack temp).fns = s.fns ∧ (s.setRefresh stack temp).pce = s.pce ∧ (s.setRefresh stack temp).boot = s.boot ∧
    (s.setRefresh stack temp).pow = s.pow ∧ (s.setRefresh stack temp).obs = s.obs ∧ (s.setRefresh stack temp).ident = s.ident ∧
    (s.setRefresh stack temp).noc = s.noc ∧ (s.setRefresh stack temp).lines = s.lines ∧ (s.setRefresh stack temp).ports = s.ports ∧
    (s.setRefresh stack temp).torus = s.torus ∧ (s.setRefresh stack temp).sites = s.sites ∧ (s.setRefresh stack temp).sec = s.sec ∧
    (s.setRefresh stack temp).sdg = s.sdg ∧ (s.setRefresh stack temp).groups = s.groups ∧ (s.setRefresh stack temp).mem = s.mem ∧
    (s.setRefresh stack temp).poison = s.poison ∧ (s.setRefresh stack temp).flash = s.flash := by
  simp [State.setRefresh]

@[simp] theorem State.stackThermal_frame (s : State) (stack : ℕ) (temp : ℕ) :
    (s.stackThermal stack temp).time = s.time ∧ (s.stackThermal stack temp).draws = s.draws ∧
    (s.stackThermal stack temp).pending = s.pending ∧ (s.stackThermal stack temp).held = s.held ∧
    (s.stackThermal stack temp).latch = s.latch ∧ (s.stackThermal stack temp).fns = s.fns ∧ (s.stackThermal stack temp).boot = s.boot ∧
    (s.stackThermal stack temp).obs = s.obs ∧ (s.stackThermal stack temp).ident = s.ident ∧ (s.stackThermal stack temp).noc = s.noc ∧
    (s.stackThermal stack temp).lines = s.lines ∧ (s.stackThermal stack temp).ms = s.ms ∧ (s.stackThermal stack temp).ports = s.ports ∧
    (s.stackThermal stack temp).torus = s.torus ∧ (s.stackThermal stack temp).sites = s.sites ∧ (s.stackThermal stack temp).sec = s.sec ∧
    (s.stackThermal stack temp).sdg = s.sdg ∧ (s.stackThermal stack temp).groups = s.groups ∧ (s.stackThermal stack temp).mem = s.mem ∧
    (s.stackThermal stack temp).poison = s.poison ∧ (s.stackThermal stack temp).flash = s.flash := by
  simp [State.stackThermal]

@[simp] theorem State.marginRequest_frame (s : State) (value : ℕ) :
    (s.marginRequest value).time = s.time ∧ (s.marginRequest value).draws = s.draws ∧ (s.marginRequest value).tx = s.tx ∧
    (s.marginRequest value).pending = s.pending ∧ (s.marginRequest value).held = s.held ∧ (s.marginRequest value).latch = s.latch ∧
    (s.marginRequest value).fns = s.fns ∧ (s.marginRequest value).pce = s.pce ∧ (s.marginRequest value).boot = s.boot ∧
    (s.marginRequest value).pow = s.pow ∧ (s.marginRequest value).obs = s.obs ∧ (s.marginRequest value).ident = s.ident ∧
    (s.marginRequest value).noc = s.noc ∧ (s.marginRequest value).lines = s.lines ∧ (s.marginRequest value).ports = s.ports ∧
    (s.marginRequest value).torus = s.torus ∧ (s.marginRequest value).sites = s.sites ∧ (s.marginRequest value).sec = s.sec ∧
    (s.marginRequest value).sdg = s.sdg ∧ (s.marginRequest value).groups = s.groups ∧ (s.marginRequest value).mem = s.mem ∧
    (s.marginRequest value).poison = s.poison ∧ (s.marginRequest value).flash = s.flash := by
  simp [State.marginRequest]

@[simp] theorem State.setFlow_frame (s : State) (owner : ℕ) (cls : ℕ) (x : Flow) :
    (s.setFlow owner cls x).time = s.time ∧ (s.setFlow owner cls x).draws = s.draws ∧ (s.setFlow owner cls x).tx = s.tx ∧
    (s.setFlow owner cls x).pending = s.pending ∧ (s.setFlow owner cls x).hub = s.hub ∧ (s.setFlow owner cls x).held = s.held ∧
    (s.setFlow owner cls x).latch = s.latch ∧ (s.setFlow owner cls x).pce = s.pce ∧ (s.setFlow owner cls x).boot = s.boot ∧
    (s.setFlow owner cls x).pow = s.pow ∧ (s.setFlow owner cls x).obs = s.obs ∧ (s.setFlow owner cls x).ident = s.ident ∧
    (s.setFlow owner cls x).noc = s.noc ∧ (s.setFlow owner cls x).lines = s.lines ∧ (s.setFlow owner cls x).ports = s.ports ∧
    (s.setFlow owner cls x).torus = s.torus ∧ (s.setFlow owner cls x).sites = s.sites ∧ (s.setFlow owner cls x).sec = s.sec ∧
    (s.setFlow owner cls x).sdg = s.sdg ∧ (s.setFlow owner cls x).groups = s.groups ∧ (s.setFlow owner cls x).mem = s.mem ∧
    (s.setFlow owner cls x).poison = s.poison ∧ (s.setFlow owner cls x).flash = s.flash := by
  simp [State.setFlow]

@[simp] theorem State.closeWindow_frame (s : State) (waiting : List (ℕ × ℕ)) (throughout : List (ℕ × ℕ)) :
    (s.closeWindow waiting throughout).time = s.time ∧ (s.closeWindow waiting throughout).draws = s.draws ∧
    (s.closeWindow waiting throughout).tx = s.tx ∧ (s.closeWindow waiting throughout).pending = s.pending ∧
    (s.closeWindow waiting throughout).hub = s.hub ∧ (s.closeWindow waiting throughout).held = s.held ∧
    (s.closeWindow waiting throughout).latch = s.latch ∧ (s.closeWindow waiting throughout).pce = s.pce ∧
    (s.closeWindow waiting throughout).boot = s.boot ∧ (s.closeWindow waiting throughout).pow = s.pow ∧
    (s.closeWindow waiting throughout).obs = s.obs ∧ (s.closeWindow waiting throughout).ident = s.ident ∧
    (s.closeWindow waiting throughout).noc = s.noc ∧ (s.closeWindow waiting throughout).lines = s.lines ∧
    (s.closeWindow waiting throughout).ms = s.ms ∧ (s.closeWindow waiting throughout).ports = s.ports ∧
    (s.closeWindow waiting throughout).torus = s.torus ∧ (s.closeWindow waiting throughout).sites = s.sites ∧
    (s.closeWindow waiting throughout).sec = s.sec ∧ (s.closeWindow waiting throughout).sdg = s.sdg ∧
    (s.closeWindow waiting throughout).groups = s.groups ∧ (s.closeWindow waiting throughout).mem = s.mem ∧
    (s.closeWindow waiting throughout).poison = s.poison ∧ (s.closeWindow waiting throughout).flash = s.flash := by
  simp [State.closeWindow]

@[simp] theorem State.shortfallReport_frame (s : State) (g : ℕ) (recovered : Bool) :
    (s.shortfallReport g recovered).time = s.time ∧ (s.shortfallReport g recovered).draws = s.draws ∧
    (s.shortfallReport g recovered).pending = s.pending ∧ (s.shortfallReport g recovered).held = s.held ∧
    (s.shortfallReport g recovered).latch = s.latch ∧ (s.shortfallReport g recovered).pow = s.pow ∧
    (s.shortfallReport g recovered).ident = s.ident ∧ (s.shortfallReport g recovered).noc = s.noc ∧
    (s.shortfallReport g recovered).lines = s.lines ∧ (s.shortfallReport g recovered).ports = s.ports ∧
    (s.shortfallReport g recovered).torus = s.torus ∧ (s.shortfallReport g recovered).sec = s.sec ∧
    (s.shortfallReport g recovered).flash = s.flash := by
  simp [State.shortfallReport]

@[simp] theorem State.markShortfall_frame (s : State) :
    s.markShortfall.time = s.time ∧ s.markShortfall.draws = s.draws ∧ s.markShortfall.pending = s.pending ∧ s.markShortfall.held = s.held ∧
    s.markShortfall.latch = s.latch ∧ s.markShortfall.pow = s.pow ∧ s.markShortfall.ident = s.ident ∧ s.markShortfall.noc = s.noc ∧
    s.markShortfall.lines = s.lines ∧ s.markShortfall.ports = s.ports ∧ s.markShortfall.torus = s.torus ∧ s.markShortfall.sec = s.sec ∧
    s.markShortfall.flash = s.flash := by
  simp [State.markShortfall]

@[simp] theorem State.countUrgent_frame (s : State) :
    s.countUrgent.time = s.time ∧ s.countUrgent.draws = s.draws ∧ s.countUrgent.tx = s.tx ∧ s.countUrgent.pending = s.pending ∧
    s.countUrgent.held = s.held ∧ s.countUrgent.latch = s.latch ∧ s.countUrgent.fns = s.fns ∧ s.countUrgent.pce = s.pce ∧
    s.countUrgent.boot = s.boot ∧ s.countUrgent.pow = s.pow ∧ s.countUrgent.obs = s.obs ∧ s.countUrgent.ident = s.ident ∧
    s.countUrgent.noc = s.noc ∧ s.countUrgent.lines = s.lines ∧ s.countUrgent.ms = s.ms ∧ s.countUrgent.ports = s.ports ∧
    s.countUrgent.torus = s.torus ∧ s.countUrgent.sites = s.sites ∧ s.countUrgent.sec = s.sec ∧ s.countUrgent.sdg = s.sdg ∧
    s.countUrgent.groups = s.groups ∧ s.countUrgent.mem = s.mem ∧ s.countUrgent.poison = s.poison ∧ s.countUrgent.flash = s.flash := by
  simp [State.countUrgent]

@[simp] theorem State.charge_frame (s : State) (owner : ℕ) (cls : ℕ) (n : ℕ) (surplus : Bool) :
    (s.charge owner cls n surplus).time = s.time ∧ (s.charge owner cls n surplus).draws = s.draws ∧
    (s.charge owner cls n surplus).tx = s.tx ∧ (s.charge owner cls n surplus).pending = s.pending ∧
    (s.charge owner cls n surplus).hub = s.hub ∧ (s.charge owner cls n surplus).held = s.held ∧
    (s.charge owner cls n surplus).latch = s.latch ∧ (s.charge owner cls n surplus).pce = s.pce ∧
    (s.charge owner cls n surplus).boot = s.boot ∧ (s.charge owner cls n surplus).pow = s.pow ∧ (s.charge owner cls n surplus).obs = s.obs ∧
    (s.charge owner cls n surplus).ident = s.ident ∧ (s.charge owner cls n surplus).noc = s.noc ∧
    (s.charge owner cls n surplus).lines = s.lines ∧ (s.charge owner cls n surplus).ports = s.ports ∧
    (s.charge owner cls n surplus).torus = s.torus ∧ (s.charge owner cls n surplus).sites = s.sites ∧
    (s.charge owner cls n surplus).sec = s.sec ∧ (s.charge owner cls n surplus).sdg = s.sdg ∧
    (s.charge owner cls n surplus).groups = s.groups ∧ (s.charge owner cls n surplus).mem = s.mem ∧
    (s.charge owner cls n surplus).poison = s.poison ∧ (s.charge owner cls n surplus).flash = s.flash := by
  simp [State.charge]

@[simp] theorem State.markLate_frame (s : State) (kind : ℕ) (phys : ℕ) :
    (s.markLate kind phys).time = s.time ∧ (s.markLate kind phys).draws = s.draws ∧ (s.markLate kind phys).tx = s.tx ∧
    (s.markLate kind phys).pending = s.pending ∧ (s.markLate kind phys).hub = s.hub ∧ (s.markLate kind phys).held = s.held ∧
    (s.markLate kind phys).latch = s.latch ∧ (s.markLate kind phys).fns = s.fns ∧ (s.markLate kind phys).pce = s.pce ∧
    (s.markLate kind phys).boot = s.boot ∧ (s.markLate kind phys).pow = s.pow ∧ (s.markLate kind phys).obs = s.obs ∧
    (s.markLate kind phys).ident = s.ident ∧ (s.markLate kind phys).noc = s.noc ∧ (s.markLate kind phys).lines = s.lines ∧
    (s.markLate kind phys).ms = s.ms ∧ (s.markLate kind phys).ports = s.ports ∧ (s.markLate kind phys).torus = s.torus ∧
    (s.markLate kind phys).sites = s.sites ∧ (s.markLate kind phys).sec = s.sec ∧ (s.markLate kind phys).groups = s.groups ∧
    (s.markLate kind phys).mem = s.mem ∧ (s.markLate kind phys).poison = s.poison ∧ (s.markLate kind phys).flash = s.flash := by
  simp [State.markLate]

@[simp] theorem State.lateSpeaker_frame (s : State) (src : ℕ) :
    (s.lateSpeaker src).time = s.time ∧ (s.lateSpeaker src).draws = s.draws ∧ (s.lateSpeaker src).pending = s.pending ∧
    (s.lateSpeaker src).held = s.held ∧ (s.lateSpeaker src).latch = s.latch ∧ (s.lateSpeaker src).pow = s.pow ∧
    (s.lateSpeaker src).ident = s.ident ∧ (s.lateSpeaker src).noc = s.noc ∧ (s.lateSpeaker src).lines = s.lines ∧
    (s.lateSpeaker src).ports = s.ports ∧ (s.lateSpeaker src).torus = s.torus ∧ (s.lateSpeaker src).sec = s.sec ∧
    (s.lateSpeaker src).flash = s.flash := by
  unfold State.lateSpeaker; (repeat' split) <;> simp

@[simp] theorem State.fenceHalf_frame (s : State) (link : ℕ) (half : ℕ) :
    (s.fenceHalf link half).time = s.time ∧ (s.fenceHalf link half).draws = s.draws ∧ (s.fenceHalf link half).pending = s.pending ∧
    (s.fenceHalf link half).held = s.held ∧ (s.fenceHalf link half).latch = s.latch ∧ (s.fenceHalf link half).pow = s.pow ∧
    (s.fenceHalf link half).ident = s.ident ∧ (s.fenceHalf link half).ports = s.ports ∧ (s.fenceHalf link half).torus = s.torus ∧
    (s.fenceHalf link half).sec = s.sec ∧ (s.fenceHalf link half).flash = s.flash := by
  simp [State.fenceHalf]

@[simp] theorem State.reqWrite_frame (s : State) (q : ReqFlit) (a : ℕ) (bs : List Byte) :
    (s.reqWrite q a bs).time = s.time ∧ (s.reqWrite q a bs).draws = s.draws ∧ (s.reqWrite q a bs).tx = s.tx ∧
    (s.reqWrite q a bs).pending = s.pending ∧ (s.reqWrite q a bs).held = s.held ∧ (s.reqWrite q a bs).latch = s.latch ∧
    (s.reqWrite q a bs).pce = s.pce ∧ (s.reqWrite q a bs).boot = s.boot ∧ (s.reqWrite q a bs).pow = s.pow ∧
    (s.reqWrite q a bs).obs = s.obs ∧ (s.reqWrite q a bs).ident = s.ident ∧ (s.reqWrite q a bs).noc = s.noc ∧
    (s.reqWrite q a bs).lines = s.lines ∧ (s.reqWrite q a bs).ports = s.ports ∧ (s.reqWrite q a bs).torus = s.torus ∧
    (s.reqWrite q a bs).sites = s.sites ∧ (s.reqWrite q a bs).sec = s.sec ∧ (s.reqWrite q a bs).sdg = s.sdg ∧
    (s.reqWrite q a bs).flash = s.flash := by
  unfold State.reqWrite; (repeat' split) <;> simp

@[simp] theorem State.reqArrive_time (s : State) (q : ReqFlit) (op : ℕ) (left : ℕ) (write : Bool) (access : ℕ) (k : State → State)
  (h : ∀ s, (k s).time = s.time) : (s.reqArrive q op left write access k).time = s.time := by
  unfold State.reqArrive
  dsimp only
  (repeat' split) <;> simp [h]
@[simp] theorem State.reqArrive_draws (s : State) (q : ReqFlit) (op : ℕ) (left : ℕ) (write : Bool) (access : ℕ) (k : State → State)
  (h : ∀ s, (k s).draws = s.draws) : (s.reqArrive q op left write access k).draws = s.draws := by
  unfold State.reqArrive
  dsimp only
  (repeat' split) <;> simp [h]
@[simp] theorem State.reqArrive_pending (s : State) (q : ReqFlit) (op : ℕ) (left : ℕ) (write : Bool) (access : ℕ) (k : State → State)
  (h : ∀ s, (k s).pending = s.pending) : (s.reqArrive q op left write access k).pending = s.pending := by
  unfold State.reqArrive
  dsimp only
  (repeat' split) <;> simp [h]
@[simp] theorem State.reqArrive_held (s : State) (q : ReqFlit) (op : ℕ) (left : ℕ) (write : Bool) (access : ℕ) (k : State → State)
  (h : ∀ s, (k s).held = s.held) : (s.reqArrive q op left write access k).held = s.held := by
  unfold State.reqArrive
  dsimp only
  (repeat' split) <;> simp [h]
@[simp] theorem State.reqArrive_latch (s : State) (q : ReqFlit) (op : ℕ) (left : ℕ) (write : Bool) (access : ℕ) (k : State → State)
  (h : ∀ s, (k s).latch = s.latch) : (s.reqArrive q op left write access k).latch = s.latch := by
  unfold State.reqArrive
  dsimp only
  (repeat' split) <;> simp [h]
@[simp] theorem State.reqArrive_pow (s : State) (q : ReqFlit) (op : ℕ) (left : ℕ) (write : Bool) (access : ℕ) (k : State → State)
  (h : ∀ s, (k s).pow = s.pow) : (s.reqArrive q op left write access k).pow = s.pow := by
  unfold State.reqArrive
  dsimp only
  (repeat' split) <;> simp [h]
@[simp] theorem State.reqArrive_ident (s : State) (q : ReqFlit) (op : ℕ) (left : ℕ) (write : Bool) (access : ℕ) (k : State → State)
  (h : ∀ s, (k s).ident = s.ident) : (s.reqArrive q op left write access k).ident = s.ident := by
  unfold State.reqArrive
  dsimp only
  (repeat' split) <;> simp [h]
@[simp] theorem State.reqArrive_lines (s : State) (q : ReqFlit) (op : ℕ) (left : ℕ) (write : Bool) (access : ℕ) (k : State → State)
  (h : ∀ s, (k s).lines = s.lines) : (s.reqArrive q op left write access k).lines = s.lines := by
  unfold State.reqArrive
  dsimp only
  (repeat' split) <;> simp [h]
@[simp] theorem State.reqArrive_ports (s : State) (q : ReqFlit) (op : ℕ) (left : ℕ) (write : Bool) (access : ℕ) (k : State → State)
  (h : ∀ s, (k s).ports = s.ports) : (s.reqArrive q op left write access k).ports = s.ports := by
  unfold State.reqArrive
  dsimp only
  (repeat' split) <;> simp [h]
@[simp] theorem State.reqArrive_torus (s : State) (q : ReqFlit) (op : ℕ) (left : ℕ) (write : Bool) (access : ℕ) (k : State → State)
  (h : ∀ s, (k s).torus = s.torus) : (s.reqArrive q op left write access k).torus = s.torus := by
  unfold State.reqArrive
  dsimp only
  (repeat' split) <;> simp [h]
@[simp] theorem State.reqArrive_sec (s : State) (q : ReqFlit) (op : ℕ) (left : ℕ) (write : Bool) (access : ℕ) (k : State → State)
  (h : ∀ s, (k s).sec = s.sec) : (s.reqArrive q op left write access k).sec = s.sec := by
  unfold State.reqArrive
  dsimp only
  (repeat' split) <;> simp [h]
@[simp] theorem State.reqArrive_flash (s : State) (q : ReqFlit) (op : ℕ) (left : ℕ) (write : Bool) (access : ℕ) (k : State → State)
  (h : ∀ s, (k s).flash = s.flash) : (s.reqArrive q op left write access k).flash = s.flash := by
  unfold State.reqArrive
  dsimp only
  (repeat' split) <;> simp [h]

@[simp] theorem State.addHalf_frame (s : State) (off : ℕ) (n : ℕ) :
    (s.addHalf off n).time = s.time ∧ (s.addHalf off n).draws = s.draws ∧ (s.addHalf off n).tx = s.tx ∧
    (s.addHalf off n).pending = s.pending ∧ (s.addHalf off n).held = s.held ∧ (s.addHalf off n).latch = s.latch ∧
    (s.addHalf off n).fns = s.fns ∧ (s.addHalf off n).pce = s.pce ∧ (s.addHalf off n).boot = s.boot ∧ (s.addHalf off n).pow = s.pow ∧
    (s.addHalf off n).obs = s.obs ∧ (s.addHalf off n).ident = s.ident ∧ (s.addHalf off n).noc = s.noc ∧ (s.addHalf off n).lines = s.lines ∧
    (s.addHalf off n).ms = s.ms ∧ (s.addHalf off n).ports = s.ports ∧ (s.addHalf off n).torus = s.torus ∧
    (s.addHalf off n).sites = s.sites ∧ (s.addHalf off n).sec = s.sec ∧ (s.addHalf off n).sdg = s.sdg ∧
    (s.addHalf off n).groups = s.groups ∧ (s.addHalf off n).mem = s.mem ∧ (s.addHalf off n).poison = s.poison ∧
    (s.addHalf off n).flash = s.flash := by
  simp [State.addHalf]

@[simp] theorem State.fabCount_frame (s : State) (o : NocReq) (bytes : ℕ) :
    (s.fabCount o bytes).time = s.time ∧ (s.fabCount o bytes).draws = s.draws ∧ (s.fabCount o bytes).tx = s.tx ∧
    (s.fabCount o bytes).pending = s.pending ∧ (s.fabCount o bytes).held = s.held ∧ (s.fabCount o bytes).latch = s.latch ∧
    (s.fabCount o bytes).fns = s.fns ∧ (s.fabCount o bytes).pce = s.pce ∧ (s.fabCount o bytes).boot = s.boot ∧
    (s.fabCount o bytes).pow = s.pow ∧ (s.fabCount o bytes).obs = s.obs ∧ (s.fabCount o bytes).ident = s.ident ∧
    (s.fabCount o bytes).noc = s.noc ∧ (s.fabCount o bytes).lines = s.lines ∧ (s.fabCount o bytes).ms = s.ms ∧
    (s.fabCount o bytes).ports = s.ports ∧ (s.fabCount o bytes).torus = s.torus ∧ (s.fabCount o bytes).sites = s.sites ∧
    (s.fabCount o bytes).sec = s.sec ∧ (s.fabCount o bytes).sdg = s.sdg ∧ (s.fabCount o bytes).groups = s.groups ∧
    (s.fabCount o bytes).mem = s.mem ∧ (s.fabCount o bytes).poison = s.poison ∧ (s.fabCount o bytes).flash = s.flash := by
  unfold State.fabCount; (repeat' split) <;> simp

@[simp] theorem State.endReq_frame (s : State) (key : ℕ) (o : NocReq) (bytes : ℕ) :
    (s.endReq key o bytes).time = s.time ∧ (s.endReq key o bytes).draws = s.draws ∧ (s.endReq key o bytes).tx = s.tx ∧
    (s.endReq key o bytes).pending = s.pending ∧ (s.endReq key o bytes).held = s.held ∧ (s.endReq key o bytes).latch = s.latch ∧
    (s.endReq key o bytes).fns = s.fns ∧ (s.endReq key o bytes).pce = s.pce ∧ (s.endReq key o bytes).boot = s.boot ∧
    (s.endReq key o bytes).pow = s.pow ∧ (s.endReq key o bytes).obs = s.obs ∧ (s.endReq key o bytes).ident = s.ident ∧
    (s.endReq key o bytes).lines = s.lines ∧ (s.endReq key o bytes).ms = s.ms ∧ (s.endReq key o bytes).ports = s.ports ∧
    (s.endReq key o bytes).torus = s.torus ∧ (s.endReq key o bytes).sites = s.sites ∧ (s.endReq key o bytes).sec = s.sec ∧
    (s.endReq key o bytes).sdg = s.sdg ∧ (s.endReq key o bytes).groups = s.groups ∧ (s.endReq key o bytes).mem = s.mem ∧
    (s.endReq key o bytes).poison = s.poison ∧ (s.endReq key o bytes).flash = s.flash := by
  simp [State.endReq]

@[simp] theorem State.servedError_frame (s : State) (q : ReqFlit) :
    (s.servedError q).time = s.time ∧ (s.servedError q).draws = s.draws ∧ (s.servedError q).pending = s.pending ∧
    (s.servedError q).held = s.held ∧ (s.servedError q).latch = s.latch ∧ (s.servedError q).boot = s.boot ∧ (s.servedError q).pow = s.pow ∧
    (s.servedError q).obs = s.obs ∧ (s.servedError q).ident = s.ident ∧ (s.servedError q).noc = s.noc ∧ (s.servedError q).lines = s.lines ∧
    (s.servedError q).ports = s.ports ∧ (s.servedError q).torus = s.torus ∧ (s.servedError q).sec = s.sec ∧ (s.servedError q).sdg = s.sdg ∧
    (s.servedError q).flash = s.flash := by
  simp [State.servedError]

@[simp] theorem State.writeData_frame (s : State) (key : ℕ) (o : NocReq) (d : DatFlit) :
    (s.writeData key o d).time = s.time ∧ (s.writeData key o d).draws = s.draws ∧ (s.writeData key o d).pending = s.pending ∧
    (s.writeData key o d).held = s.held ∧ (s.writeData key o d).latch = s.latch ∧ (s.writeData key o d).pce = s.pce ∧
    (s.writeData key o d).boot = s.boot ∧ (s.writeData key o d).pow = s.pow ∧ (s.writeData key o d).obs = s.obs ∧
    (s.writeData key o d).ident = s.ident ∧ (s.writeData key o d).lines = s.lines ∧ (s.writeData key o d).ports = s.ports ∧
    (s.writeData key o d).torus = s.torus ∧ (s.writeData key o d).sites = s.sites ∧ (s.writeData key o d).sec = s.sec ∧
    (s.writeData key o d).sdg = s.sdg ∧ (s.writeData key o d).flash = s.flash := by
  simp [State.writeData]

@[simp] theorem State.readData_frame (s : State) (key : ℕ) (o : NocReq) (d : DatFlit) :
    (s.readData key o d).time = s.time ∧ (s.readData key o d).draws = s.draws ∧ (s.readData key o d).tx = s.tx ∧
    (s.readData key o d).pending = s.pending ∧ (s.readData key o d).held = s.held ∧ (s.readData key o d).latch = s.latch ∧
    (s.readData key o d).pce = s.pce ∧ (s.readData key o d).boot = s.boot ∧ (s.readData key o d).pow = s.pow ∧
    (s.readData key o d).obs = s.obs ∧ (s.readData key o d).ident = s.ident ∧ (s.readData key o d).lines = s.lines ∧
    (s.readData key o d).ms = s.ms ∧ (s.readData key o d).ports = s.ports ∧ (s.readData key o d).torus = s.torus ∧
    (s.readData key o d).sites = s.sites ∧ (s.readData key o d).sec = s.sec ∧ (s.readData key o d).sdg = s.sdg ∧
    (s.readData key o d).mem = s.mem ∧ (s.readData key o d).poison = s.poison ∧ (s.readData key o d).flash = s.flash := by
  simp [State.readData]

@[simp] theorem State.setSite_frame (s : State) (n : ℕ) (x : Site) :
    (s.setSite n x).time = s.time ∧ (s.setSite n x).draws = s.draws ∧ (s.setSite n x).tx = s.tx ∧ (s.setSite n x).pending = s.pending ∧
    (s.setSite n x).hub = s.hub ∧ (s.setSite n x).held = s.held ∧ (s.setSite n x).latch = s.latch ∧ (s.setSite n x).fns = s.fns ∧
    (s.setSite n x).pce = s.pce ∧ (s.setSite n x).boot = s.boot ∧ (s.setSite n x).pow = s.pow ∧ (s.setSite n x).obs = s.obs ∧
    (s.setSite n x).ident = s.ident ∧ (s.setSite n x).noc = s.noc ∧ (s.setSite n x).lines = s.lines ∧ (s.setSite n x).ms = s.ms ∧
    (s.setSite n x).ports = s.ports ∧ (s.setSite n x).torus = s.torus ∧ (s.setSite n x).sec = s.sec ∧ (s.setSite n x).sdg = s.sdg ∧
    (s.setSite n x).groups = s.groups ∧ (s.setSite n x).mem = s.mem ∧ (s.setSite n x).poison = s.poison ∧
    (s.setSite n x).flash = s.flash := by
  simp [State.setSite]

@[simp] theorem State.modSite_frame (s : State) (n : ℕ) (h : Site → Site) :
    (s.modSite n h).time = s.time ∧ (s.modSite n h).draws = s.draws ∧ (s.modSite n h).tx = s.tx ∧ (s.modSite n h).pending = s.pending ∧
    (s.modSite n h).hub = s.hub ∧ (s.modSite n h).held = s.held ∧ (s.modSite n h).latch = s.latch ∧ (s.modSite n h).fns = s.fns ∧
    (s.modSite n h).pce = s.pce ∧ (s.modSite n h).boot = s.boot ∧ (s.modSite n h).pow = s.pow ∧ (s.modSite n h).obs = s.obs ∧
    (s.modSite n h).ident = s.ident ∧ (s.modSite n h).noc = s.noc ∧ (s.modSite n h).lines = s.lines ∧ (s.modSite n h).ms = s.ms ∧
    (s.modSite n h).ports = s.ports ∧ (s.modSite n h).torus = s.torus ∧ (s.modSite n h).sec = s.sec ∧ (s.modSite n h).sdg = s.sdg ∧
    (s.modSite n h).groups = s.groups ∧ (s.modSite n h).mem = s.mem ∧ (s.modSite n h).poison = s.poison ∧
    (s.modSite n h).flash = s.flash := by
  simp [State.modSite]

@[simp] theorem State.sendLsp_frame (s : State) (n : ℕ) (m : LspOut) :
    (s.sendLsp n m).time = s.time ∧ (s.sendLsp n m).draws = s.draws ∧ (s.sendLsp n m).pending = s.pending ∧ (s.sendLsp n m).hub = s.hub ∧
    (s.sendLsp n m).held = s.held ∧ (s.sendLsp n m).latch = s.latch ∧ (s.sendLsp n m).fns = s.fns ∧ (s.sendLsp n m).pce = s.pce ∧
    (s.sendLsp n m).boot = s.boot ∧ (s.sendLsp n m).pow = s.pow ∧ (s.sendLsp n m).obs = s.obs ∧ (s.sendLsp n m).ident = s.ident ∧
    (s.sendLsp n m).noc = s.noc ∧ (s.sendLsp n m).lines = s.lines ∧ (s.sendLsp n m).ms = s.ms ∧ (s.sendLsp n m).ports = s.ports ∧
    (s.sendLsp n m).torus = s.torus ∧ (s.sendLsp n m).sec = s.sec ∧ (s.sendLsp n m).sdg = s.sdg ∧ (s.sendLsp n m).groups = s.groups ∧
    (s.sendLsp n m).mem = s.mem ∧ (s.sendLsp n m).poison = s.poison ∧ (s.sendLsp n m).flash = s.flash := by
  simp [State.sendLsp]

@[simp] theorem State.askMgmt_frame (s : State) (n : ℕ) (code : ℕ) (args : List ℕ) :
    (s.askMgmt n code args).time = s.time ∧ (s.askMgmt n code args).draws = s.draws ∧ (s.askMgmt n code args).pending = s.pending ∧
    (s.askMgmt n code args).hub = s.hub ∧ (s.askMgmt n code args).held = s.held ∧ (s.askMgmt n code args).latch = s.latch ∧
    (s.askMgmt n code args).fns = s.fns ∧ (s.askMgmt n code args).pce = s.pce ∧ (s.askMgmt n code args).boot = s.boot ∧
    (s.askMgmt n code args).pow = s.pow ∧ (s.askMgmt n code args).obs = s.obs ∧ (s.askMgmt n code args).ident = s.ident ∧
    (s.askMgmt n code args).noc = s.noc ∧ (s.askMgmt n code args).lines = s.lines ∧ (s.askMgmt n code args).ms = s.ms ∧
    (s.askMgmt n code args).ports = s.ports ∧ (s.askMgmt n code args).torus = s.torus ∧ (s.askMgmt n code args).sec = s.sec ∧
    (s.askMgmt n code args).sdg = s.sdg ∧ (s.askMgmt n code args).groups = s.groups ∧ (s.askMgmt n code args).mem = s.mem ∧
    (s.askMgmt n code args).poison = s.poison ∧ (s.askMgmt n code args).flash = s.flash := by
  simp [State.askMgmt]

@[simp] theorem State.mgmtDone_frame (s : State) (n : ℕ) :
    (s.mgmtDone n).time = s.time ∧ (s.mgmtDone n).draws = s.draws ∧ (s.mgmtDone n).tx = s.tx ∧ (s.mgmtDone n).pending = s.pending ∧
    (s.mgmtDone n).hub = s.hub ∧ (s.mgmtDone n).held = s.held ∧ (s.mgmtDone n).latch = s.latch ∧ (s.mgmtDone n).fns = s.fns ∧
    (s.mgmtDone n).pce = s.pce ∧ (s.mgmtDone n).boot = s.boot ∧ (s.mgmtDone n).pow = s.pow ∧ (s.mgmtDone n).obs = s.obs ∧
    (s.mgmtDone n).ident = s.ident ∧ (s.mgmtDone n).noc = s.noc ∧ (s.mgmtDone n).lines = s.lines ∧ (s.mgmtDone n).ms = s.ms ∧
    (s.mgmtDone n).ports = s.ports ∧ (s.mgmtDone n).torus = s.torus ∧ (s.mgmtDone n).sec = s.sec ∧ (s.mgmtDone n).sdg = s.sdg ∧
    (s.mgmtDone n).groups = s.groups ∧ (s.mgmtDone n).mem = s.mem ∧ (s.mgmtDone n).poison = s.poison ∧ (s.mgmtDone n).flash = s.flash := by
  simp [State.mgmtDone]

@[simp] theorem State.sendMeasurements_frame (s : State) (block : ℕ) (nonce : List Byte) :
    (s.sendMeasurements block nonce).time = s.time ∧ (s.sendMeasurements block nonce).draws = s.draws ∧
    (s.sendMeasurements block nonce).pending = s.pending ∧ (s.sendMeasurements block nonce).hub = s.hub ∧
    (s.sendMeasurements block nonce).held = s.held ∧ (s.sendMeasurements block nonce).latch = s.latch ∧
    (s.sendMeasurements block nonce).fns = s.fns ∧ (s.sendMeasurements block nonce).pce = s.pce ∧
    (s.sendMeasurements block nonce).boot = s.boot ∧ (s.sendMeasurements block nonce).pow = s.pow ∧
    (s.sendMeasurements block nonce).obs = s.obs ∧ (s.sendMeasurements block nonce).ident = s.ident ∧
    (s.sendMeasurements block nonce).noc = s.noc ∧ (s.sendMeasurements block nonce).lines = s.lines ∧
    (s.sendMeasurements block nonce).ms = s.ms ∧ (s.sendMeasurements block nonce).ports = s.ports ∧
    (s.sendMeasurements block nonce).torus = s.torus ∧ (s.sendMeasurements block nonce).sites = s.sites ∧
    (s.sendMeasurements block nonce).sec = s.sec ∧ (s.sendMeasurements block nonce).sdg = s.sdg ∧
    (s.sendMeasurements block nonce).groups = s.groups ∧ (s.sendMeasurements block nonce).mem = s.mem ∧
    (s.sendMeasurements block nonce).poison = s.poison ∧ (s.sendMeasurements block nonce).flash = s.flash := by
  simp [State.sendMeasurements]

@[simp] theorem State.finishAttest_frame (s : State) :
    s.finishAttest.time = s.time ∧ s.finishAttest.draws = s.draws ∧ s.finishAttest.pending = s.pending ∧ s.finishAttest.hub = s.hub ∧
    s.finishAttest.held = s.held ∧ s.finishAttest.latch = s.latch ∧ s.finishAttest.fns = s.fns ∧ s.finishAttest.pce = s.pce ∧
    s.finishAttest.boot = s.boot ∧ s.finishAttest.pow = s.pow ∧ s.finishAttest.obs = s.obs ∧ s.finishAttest.ident = s.ident ∧
    s.finishAttest.noc = s.noc ∧ s.finishAttest.lines = s.lines ∧ s.finishAttest.ms = s.ms ∧ s.finishAttest.ports = s.ports ∧
    s.finishAttest.torus = s.torus ∧ s.finishAttest.sites = s.sites ∧ s.finishAttest.sdg = s.sdg ∧ s.finishAttest.groups = s.groups ∧
    s.finishAttest.mem = s.mem ∧ s.finishAttest.poison = s.poison ∧ s.finishAttest.flash = s.flash := by
  unfold State.finishAttest; (repeat' split) <;> simp

@[simp] theorem State.modLock_frame (s : State) (l : ℕ) (h : CohTxn → CohTxn) :
    (s.modLock l h).time = s.time ∧ (s.modLock l h).draws = s.draws ∧ (s.modLock l h).tx = s.tx ∧ (s.modLock l h).pending = s.pending ∧
    (s.modLock l h).hub = s.hub ∧ (s.modLock l h).held = s.held ∧ (s.modLock l h).latch = s.latch ∧ (s.modLock l h).fns = s.fns ∧
    (s.modLock l h).pce = s.pce ∧ (s.modLock l h).boot = s.boot ∧ (s.modLock l h).pow = s.pow ∧ (s.modLock l h).obs = s.obs ∧
    (s.modLock l h).ident = s.ident ∧ (s.modLock l h).noc = s.noc ∧ (s.modLock l h).ms = s.ms ∧ (s.modLock l h).ports = s.ports ∧
    (s.modLock l h).torus = s.torus ∧ (s.modLock l h).sites = s.sites ∧ (s.modLock l h).sec = s.sec ∧ (s.modLock l h).sdg = s.sdg ∧
    (s.modLock l h).groups = s.groups ∧ (s.modLock l h).mem = s.mem ∧ (s.modLock l h).poison = s.poison ∧
    (s.modLock l h).flash = s.flash := by
  simp [State.modLock]

@[simp] theorem State.cohDeny_frame (s : State) (src : ℕ) (dst : ℕ) (a : ℕ) :
    (s.cohDeny src dst a).time = s.time ∧ (s.cohDeny src dst a).draws = s.draws ∧ (s.cohDeny src dst a).pending = s.pending ∧
    (s.cohDeny src dst a).held = s.held ∧ (s.cohDeny src dst a).latch = s.latch ∧ (s.cohDeny src dst a).pow = s.pow ∧
    (s.cohDeny src dst a).ident = s.ident ∧ (s.cohDeny src dst a).noc = s.noc ∧ (s.cohDeny src dst a).lines = s.lines ∧
    (s.cohDeny src dst a).ports = s.ports ∧ (s.cohDeny src dst a).torus = s.torus ∧ (s.cohDeny src dst a).sec = s.sec ∧
    (s.cohDeny src dst a).flash = s.flash := by
  simp [State.cohDeny]

@[simp] theorem State.cohStart_frame (s : State) (g : ℕ) (tag : ℕ) (l : ℕ) (kind : TxnKind) :
    (s.cohStart g tag l kind).time = s.time ∧ (s.cohStart g tag l kind).draws = s.draws ∧ (s.cohStart g tag l kind).pending = s.pending ∧
    (s.cohStart g tag l kind).hub = s.hub ∧ (s.cohStart g tag l kind).held = s.held ∧ (s.cohStart g tag l kind).latch = s.latch ∧
    (s.cohStart g tag l kind).fns = s.fns ∧ (s.cohStart g tag l kind).pce = s.pce ∧ (s.cohStart g tag l kind).boot = s.boot ∧
    (s.cohStart g tag l kind).pow = s.pow ∧ (s.cohStart g tag l kind).obs = s.obs ∧ (s.cohStart g tag l kind).ident = s.ident ∧
    (s.cohStart g tag l kind).noc = s.noc ∧ (s.cohStart g tag l kind).ms = s.ms ∧ (s.cohStart g tag l kind).ports = s.ports ∧
    (s.cohStart g tag l kind).torus = s.torus ∧ (s.cohStart g tag l kind).sites = s.sites ∧ (s.cohStart g tag l kind).sec = s.sec ∧
    (s.cohStart g tag l kind).sdg = s.sdg ∧ (s.cohStart g tag l kind).groups = s.groups ∧ (s.cohStart g tag l kind).mem = s.mem ∧
    (s.cohStart g tag l kind).poison = s.poison ∧ (s.cohStart g tag l kind).flash = s.flash := by
  simp [State.cohStart]

@[simp] theorem State.cohArrive_frame (s : State) (q : ReqFlit) (kind : TxnKind) :
    (s.cohArrive q kind).time = s.time ∧ (s.cohArrive q kind).draws = s.draws ∧ (s.cohArrive q kind).pending = s.pending ∧
    (s.cohArrive q kind).held = s.held ∧ (s.cohArrive q kind).latch = s.latch ∧ (s.cohArrive q kind).pow = s.pow ∧
    (s.cohArrive q kind).ident = s.ident ∧ (s.cohArrive q kind).noc = s.noc ∧ (s.cohArrive q kind).ports = s.ports ∧
    (s.cohArrive q kind).torus = s.torus ∧ (s.cohArrive q kind).sec = s.sec ∧ (s.cohArrive q kind).flash = s.flash := by
  unfold State.cohArrive; (repeat' split) <;> simp

end Sys2Proof.Machine
end

