-- ==== Sys2Proof/Laws/FramesD.lean ====
section
/-! SUPPORT. Frames of the operations, part 4 of 4, in the order of the files that define them: the fields of the state that each leaves as
they were. -/

set_option linter.all false

namespace Sys2Proof.Machine
open Sys2Proof

@[simp] theorem State.snoop_frame (s : State) (line : ℕ) (a : ℕ) (k : TxnKind) :
    (s.snoop line a k).time = s.time ∧ (s.snoop line a k).draws = s.draws ∧ (s.snoop line a k).tx = s.tx ∧
    (s.snoop line a k).pending = s.pending ∧ (s.snoop line a k).held = s.held ∧ (s.snoop line a k).latch = s.latch ∧
    (s.snoop line a k).fns = s.fns ∧ (s.snoop line a k).pce = s.pce ∧ (s.snoop line a k).boot = s.boot ∧ (s.snoop line a k).pow = s.pow ∧
    (s.snoop line a k).obs = s.obs ∧ (s.snoop line a k).ident = s.ident ∧ (s.snoop line a k).noc = s.noc ∧ (s.snoop line a k).ms = s.ms ∧
    (s.snoop line a k).ports = s.ports ∧ (s.snoop line a k).torus = s.torus ∧ (s.snoop line a k).sites = s.sites ∧
    (s.snoop line a k).sec = s.sec ∧ (s.snoop line a k).sdg = s.sdg ∧ (s.snoop line a k).groups = s.groups ∧
    (s.snoop line a k).mem = s.mem ∧ (s.snoop line a k).poison = s.poison ∧ (s.snoop line a k).flash = s.flash := by
  unfold State.snoop; (repeat' split) <;> simp

@[simp] theorem State.settleLost_frame (s : State) (line : ℕ) (t : CohTxn) :
    (s.settleLost line t).1.time = s.time ∧ (s.settleLost line t).1.draws = s.draws ∧ (s.settleLost line t).1.pending = s.pending ∧
    (s.settleLost line t).1.held = s.held ∧ (s.settleLost line t).1.latch = s.latch ∧ (s.settleLost line t).1.pow = s.pow ∧
    (s.settleLost line t).1.ident = s.ident ∧ (s.settleLost line t).1.noc = s.noc ∧ (s.settleLost line t).1.ports = s.ports ∧
    (s.settleLost line t).1.torus = s.torus ∧ (s.settleLost line t).1.sec = s.sec ∧ (s.settleLost line t).1.flash = s.flash := by
  unfold State.settleLost; (repeat' split) <;> simp

@[simp] theorem State.tryGrant_frame (s : State) (line : ℕ) :
    (s.tryGrant line).time = s.time ∧ (s.tryGrant line).draws = s.draws ∧ (s.tryGrant line).pending = s.pending ∧
    (s.tryGrant line).held = s.held ∧ (s.tryGrant line).latch = s.latch ∧ (s.tryGrant line).pow = s.pow ∧
    (s.tryGrant line).ident = s.ident ∧ (s.tryGrant line).noc = s.noc ∧ (s.tryGrant line).ports = s.ports ∧
    (s.tryGrant line).torus = s.torus ∧ (s.tryGrant line).sec = s.sec ∧ (s.tryGrant line).flash = s.flash := by
  unfold State.tryGrant; (repeat' split) <;> simp

@[simp] theorem State.unlock_frame (s : State) (line : ℕ) :
    (s.unlock line).time = s.time ∧ (s.unlock line).draws = s.draws ∧ (s.unlock line).pending = s.pending ∧ (s.unlock line).hub = s.hub ∧
    (s.unlock line).held = s.held ∧ (s.unlock line).latch = s.latch ∧ (s.unlock line).fns = s.fns ∧ (s.unlock line).pce = s.pce ∧
    (s.unlock line).boot = s.boot ∧ (s.unlock line).pow = s.pow ∧ (s.unlock line).obs = s.obs ∧ (s.unlock line).ident = s.ident ∧
    (s.unlock line).noc = s.noc ∧ (s.unlock line).ms = s.ms ∧ (s.unlock line).ports = s.ports ∧ (s.unlock line).torus = s.torus ∧
    (s.unlock line).sites = s.sites ∧ (s.unlock line).sec = s.sec ∧ (s.unlock line).sdg = s.sdg ∧ (s.unlock line).groups = s.groups ∧
    (s.unlock line).mem = s.mem ∧ (s.unlock line).poison = s.poison ∧ (s.unlock line).flash = s.flash := by
  unfold State.unlock
  dsimp only
  (repeat' split) <;> (repeat' apply And.intro) <;> (try simp) <;> (try apply foldl_keep) <;> intros <;> (repeat' split) <;> simp_all

@[simp] theorem State.txnDone_frame (s : State) (line : ℕ) (t : CohTxn) :
    (s.txnDone line t).time = s.time ∧ (s.txnDone line t).draws = s.draws ∧ (s.txnDone line t).pending = s.pending ∧
    (s.txnDone line t).held = s.held ∧ (s.txnDone line t).latch = s.latch ∧ (s.txnDone line t).fns = s.fns ∧
    (s.txnDone line t).pce = s.pce ∧ (s.txnDone line t).boot = s.boot ∧ (s.txnDone line t).pow = s.pow ∧ (s.txnDone line t).obs = s.obs ∧
    (s.txnDone line t).ident = s.ident ∧ (s.txnDone line t).noc = s.noc ∧ (s.txnDone line t).ms = s.ms ∧
    (s.txnDone line t).ports = s.ports ∧ (s.txnDone line t).torus = s.torus ∧ (s.txnDone line t).sites = s.sites ∧
    (s.txnDone line t).sec = s.sec ∧ (s.txnDone line t).sdg = s.sdg ∧ (s.txnDone line t).groups = s.groups ∧
    (s.txnDone line t).mem = s.mem ∧ (s.txnDone line t).poison = s.poison ∧ (s.txnDone line t).flash = s.flash := by
  simp [State.txnDone]

@[simp] theorem State.pushData_frame (s : State) (line : ℕ) (data : List Byte) (poison : Bool) :
    (s.pushData line data poison).time = s.time ∧ (s.pushData line data poison).draws = s.draws ∧
    (s.pushData line data poison).pending = s.pending ∧ (s.pushData line data poison).held = s.held ∧
    (s.pushData line data poison).latch = s.latch ∧ (s.pushData line data poison).pow = s.pow ∧
    (s.pushData line data poison).ident = s.ident ∧ (s.pushData line data poison).noc = s.noc ∧
    (s.pushData line data poison).ports = s.ports ∧ (s.pushData line data poison).torus = s.torus ∧
    (s.pushData line data poison).sec = s.sec ∧ (s.pushData line data poison).flash = s.flash := by
  simp [State.pushData]

@[simp] theorem State.writebackData_frame (s : State) (line : ℕ) (t : CohTxn) (data : List Byte) (poison : Bool) :
    (s.writebackData line t data poison).time = s.time ∧ (s.writebackData line t data poison).draws = s.draws ∧
    (s.writebackData line t data poison).pending = s.pending ∧ (s.writebackData line t data poison).held = s.held ∧
    (s.writebackData line t data poison).latch = s.latch ∧ (s.writebackData line t data poison).fns = s.fns ∧
    (s.writebackData line t data poison).pce = s.pce ∧ (s.writebackData line t data poison).boot = s.boot ∧
    (s.writebackData line t data poison).pow = s.pow ∧ (s.writebackData line t data poison).obs = s.obs ∧
    (s.writebackData line t data poison).ident = s.ident ∧ (s.writebackData line t data poison).noc = s.noc ∧
    (s.writebackData line t data poison).ports = s.ports ∧ (s.writebackData line t data poison).torus = s.torus ∧
    (s.writebackData line t data poison).sites = s.sites ∧ (s.writebackData line t data poison).sec = s.sec ∧
    (s.writebackData line t data poison).sdg = s.sdg ∧ (s.writebackData line t data poison).groups = s.groups ∧
    (s.writebackData line t data poison).flash = s.flash := by
  simp [State.writebackData]

@[simp] theorem State.noteLanes_frame (s : State) (p : ℕ) :
    (s.noteLanes p).time = s.time ∧ (s.noteLanes p).draws = s.draws ∧ (s.noteLanes p).tx = s.tx ∧ (s.noteLanes p).pending = s.pending ∧
    (s.noteLanes p).held = s.held ∧ (s.noteLanes p).latch = s.latch ∧ (s.noteLanes p).fns = s.fns ∧ (s.noteLanes p).pce = s.pce ∧
    (s.noteLanes p).boot = s.boot ∧ (s.noteLanes p).pow = s.pow ∧ (s.noteLanes p).obs = s.obs ∧ (s.noteLanes p).ident = s.ident ∧
    (s.noteLanes p).noc = s.noc ∧ (s.noteLanes p).lines = s.lines ∧ (s.noteLanes p).ms = s.ms ∧ (s.noteLanes p).ports = s.ports ∧
    (s.noteLanes p).torus = s.torus ∧ (s.noteLanes p).sites = s.sites ∧ (s.noteLanes p).sec = s.sec ∧ (s.noteLanes p).sdg = s.sdg ∧
    (s.noteLanes p).groups = s.groups ∧ (s.noteLanes p).mem = s.mem ∧ (s.noteLanes p).poison = s.poison ∧
    (s.noteLanes p).flash = s.flash := by
  simp [State.noteLanes]

@[simp] theorem State.fenceLane_frame (s : State) (p : ℕ) (l : ℕ) (cause : ℕ) :
    (s.fenceLane p l cause).time = s.time ∧ (s.fenceLane p l cause).draws = s.draws ∧ (s.fenceLane p l cause).tx = s.tx ∧
    (s.fenceLane p l cause).pending = s.pending ∧ (s.fenceLane p l cause).held = s.held ∧ (s.fenceLane p l cause).latch = s.latch ∧
    (s.fenceLane p l cause).fns = s.fns ∧ (s.fenceLane p l cause).pce = s.pce ∧ (s.fenceLane p l cause).boot = s.boot ∧
    (s.fenceLane p l cause).pow = s.pow ∧ (s.fenceLane p l cause).obs = s.obs ∧ (s.fenceLane p l cause).ident = s.ident ∧
    (s.fenceLane p l cause).lines = s.lines ∧ (s.fenceLane p l cause).ms = s.ms ∧ (s.fenceLane p l cause).ports = s.ports ∧
    (s.fenceLane p l cause).torus = s.torus ∧ (s.fenceLane p l cause).sites = s.sites ∧ (s.fenceLane p l cause).sec = s.sec ∧
    (s.fenceLane p l cause).groups = s.groups ∧ (s.fenceLane p l cause).mem = s.mem ∧ (s.fenceLane p l cause).poison = s.poison ∧
    (s.fenceLane p l cause).flash = s.flash := by
  unfold State.fenceLane; (repeat' split) <;> simp

@[simp] theorem State.enterState_frame (s : State) (p : ℕ) (st : ℕ) :
    (s.enterState p st).time = s.time ∧ (s.enterState p st).draws = s.draws ∧ (s.enterState p st).pending = s.pending ∧
    (s.enterState p st).held = s.held ∧ (s.enterState p st).latch = s.latch ∧ (s.enterState p st).fns = s.fns ∧
    (s.enterState p st).boot = s.boot ∧ (s.enterState p st).pow = s.pow ∧ (s.enterState p st).obs = s.obs ∧
    (s.enterState p st).ident = s.ident ∧ (s.enterState p st).noc = s.noc ∧ (s.enterState p st).lines = s.lines ∧
    (s.enterState p st).ms = s.ms ∧ (s.enterState p st).sites = s.sites ∧ (s.enterState p st).sec = s.sec ∧
    (s.enterState p st).sdg = s.sdg ∧ (s.enterState p st).groups = s.groups ∧ (s.enterState p st).mem = s.mem ∧
    (s.enterState p st).poison = s.poison ∧ (s.enterState p st).flash = s.flash := by
  simp [State.enterState]

@[simp] theorem State.excludePort_frame (s : State) (p : ℕ) (reason : ℕ) :
    (s.excludePort p reason).time = s.time ∧ (s.excludePort p reason).draws = s.draws ∧ (s.excludePort p reason).pending = s.pending ∧
    (s.excludePort p reason).held = s.held ∧ (s.excludePort p reason).latch = s.latch ∧ (s.excludePort p reason).pow = s.pow ∧
    (s.excludePort p reason).ident = s.ident ∧ (s.excludePort p reason).noc = s.noc ∧ (s.excludePort p reason).lines = s.lines ∧
    (s.excludePort p reason).sec = s.sec ∧ (s.excludePort p reason).flash = s.flash := by
  simp [State.excludePort]

@[simp] theorem State.retrain_frame (s : State) (p : ℕ) (fresh : Bool) :
    (s.retrain p fresh).time = s.time ∧ (s.retrain p fresh).draws = s.draws ∧ (s.retrain p fresh).pending = s.pending ∧
    (s.retrain p fresh).held = s.held ∧ (s.retrain p fresh).latch = s.latch ∧ (s.retrain p fresh).fns = s.fns ∧
    (s.retrain p fresh).boot = s.boot ∧ (s.retrain p fresh).pow = s.pow ∧ (s.retrain p fresh).obs = s.obs ∧
    (s.retrain p fresh).ident = s.ident ∧ (s.retrain p fresh).noc = s.noc ∧ (s.retrain p fresh).lines = s.lines ∧
    (s.retrain p fresh).ms = s.ms ∧ (s.retrain p fresh).sites = s.sites ∧ (s.retrain p fresh).sec = s.sec ∧
    (s.retrain p fresh).sdg = s.sdg ∧ (s.retrain p fresh).groups = s.groups ∧ (s.retrain p fresh).mem = s.mem ∧
    (s.retrain p fresh).poison = s.poison ∧ (s.retrain p fresh).flash = s.flash := by
  simp [State.retrain]

@[simp] theorem State.beginLinks_frame (s : State) :
    s.beginLinks.time = s.time ∧ s.beginLinks.draws = s.draws ∧ s.beginLinks.pending = s.pending ∧ s.beginLinks.held = s.held ∧
    s.beginLinks.latch = s.latch ∧ s.beginLinks.fns = s.fns ∧ s.beginLinks.boot = s.boot ∧ s.beginLinks.pow = s.pow ∧
    s.beginLinks.obs = s.obs ∧ s.beginLinks.ident = s.ident ∧ s.beginLinks.noc = s.noc ∧ s.beginLinks.lines = s.lines ∧
    s.beginLinks.ms = s.ms ∧ s.beginLinks.sites = s.sites ∧ s.beginLinks.sec = s.sec ∧ s.beginLinks.sdg = s.sdg ∧
    s.beginLinks.groups = s.groups ∧ s.beginLinks.mem = s.mem ∧ s.beginLinks.poison = s.poison ∧ s.beginLinks.flash = s.flash := by
  simp [State.beginLinks]

@[simp] theorem State.sendIdent_frame (s : State) (p : ℕ) :
    (s.sendIdent p).time = s.time ∧ (s.sendIdent p).draws = s.draws ∧ (s.sendIdent p).pending = s.pending ∧ (s.sendIdent p).hub = s.hub ∧
    (s.sendIdent p).held = s.held ∧ (s.sendIdent p).latch = s.latch ∧ (s.sendIdent p).fns = s.fns ∧ (s.sendIdent p).pce = s.pce ∧
    (s.sendIdent p).boot = s.boot ∧ (s.sendIdent p).pow = s.pow ∧ (s.sendIdent p).obs = s.obs ∧ (s.sendIdent p).ident = s.ident ∧
    (s.sendIdent p).noc = s.noc ∧ (s.sendIdent p).lines = s.lines ∧ (s.sendIdent p).ms = s.ms ∧ (s.sendIdent p).ports = s.ports ∧
    (s.sendIdent p).torus = s.torus ∧ (s.sendIdent p).sites = s.sites ∧ (s.sendIdent p).sec = s.sec ∧ (s.sendIdent p).sdg = s.sdg ∧
    (s.sendIdent p).groups = s.groups ∧ (s.sendIdent p).mem = s.mem ∧ (s.sendIdent p).poison = s.poison ∧
    (s.sendIdent p).flash = s.flash := by
  simp [State.sendIdent]

@[simp] theorem State.installKeys_frame (s : State) (p : ℕ) (secret : ℕ) (peer : ℕ) (gen : ℕ) (log : List Byte) :
    (s.installKeys p secret peer gen log).time = s.time ∧ (s.installKeys p secret peer gen log).draws = s.draws ∧
    (s.installKeys p secret peer gen log).tx = s.tx ∧ (s.installKeys p secret peer gen log).pending = s.pending ∧
    (s.installKeys p secret peer gen log).hub = s.hub ∧ (s.installKeys p secret peer gen log).held = s.held ∧
    (s.installKeys p secret peer gen log).latch = s.latch ∧ (s.installKeys p secret peer gen log).fns = s.fns ∧
    (s.installKeys p secret peer gen log).pce = s.pce ∧ (s.installKeys p secret peer gen log).boot = s.boot ∧
    (s.installKeys p secret peer gen log).pow = s.pow ∧ (s.installKeys p secret peer gen log).obs = s.obs ∧
    (s.installKeys p secret peer gen log).ident = s.ident ∧ (s.installKeys p secret peer gen log).noc = s.noc ∧
    (s.installKeys p secret peer gen log).lines = s.lines ∧ (s.installKeys p secret peer gen log).ms = s.ms ∧
    (s.installKeys p secret peer gen log).torus = s.torus ∧ (s.installKeys p secret peer gen log).sites = s.sites ∧
    (s.installKeys p secret peer gen log).sec = s.sec ∧ (s.installKeys p secret peer gen log).sdg = s.sdg ∧
    (s.installKeys p secret peer gen log).groups = s.groups ∧ (s.installKeys p secret peer gen log).mem = s.mem ∧
    (s.installKeys p secret peer gen log).poison = s.poison ∧ (s.installKeys p secret peer gen log).flash = s.flash := by
  simp [State.installKeys]

@[simp] theorem State.authFail_frame (s : State) (p : ℕ) :
    (s.authFail p).time = s.time ∧ (s.authFail p).draws = s.draws ∧ (s.authFail p).pending = s.pending ∧ (s.authFail p).held = s.held ∧
    (s.authFail p).latch = s.latch ∧ (s.authFail p).pow = s.pow ∧ (s.authFail p).ident = s.ident ∧ (s.authFail p).noc = s.noc ∧
    (s.authFail p).lines = s.lines ∧ (s.authFail p).sec = s.sec ∧ (s.authFail p).flash = s.flash := by
  simp [State.authFail]

@[simp] theorem State.sendOffer_frame (s : State) (p : ℕ) :
    (s.sendOffer p).time = s.time ∧ (s.sendOffer p).pending = s.pending ∧ (s.sendOffer p).hub = s.hub ∧ (s.sendOffer p).held = s.held ∧
    (s.sendOffer p).latch = s.latch ∧ (s.sendOffer p).fns = s.fns ∧ (s.sendOffer p).pce = s.pce ∧ (s.sendOffer p).boot = s.boot ∧
    (s.sendOffer p).pow = s.pow ∧ (s.sendOffer p).obs = s.obs ∧ (s.sendOffer p).ident = s.ident ∧ (s.sendOffer p).noc = s.noc ∧
    (s.sendOffer p).lines = s.lines ∧ (s.sendOffer p).ms = s.ms ∧ (s.sendOffer p).torus = s.torus ∧ (s.sendOffer p).sites = s.sites ∧
    (s.sendOffer p).sec = s.sec ∧ (s.sendOffer p).sdg = s.sdg ∧ (s.sendOffer p).groups = s.groups ∧ (s.sendOffer p).mem = s.mem ∧
    (s.sendOffer p).poison = s.poison ∧ (s.sendOffer p).flash = s.flash := by
  simp [State.sendOffer]

@[simp] theorem State.acked_frame (s : State) (m : LflMsg) :
    (s.acked m).time = s.time ∧ (s.acked m).draws = s.draws ∧ (s.acked m).tx = s.tx ∧ (s.acked m).pending = s.pending ∧
    (s.acked m).hub = s.hub ∧ (s.acked m).held = s.held ∧ (s.acked m).latch = s.latch ∧ (s.acked m).fns = s.fns ∧ (s.acked m).pce = s.pce ∧
    (s.acked m).boot = s.boot ∧ (s.acked m).pow = s.pow ∧ (s.acked m).obs = s.obs ∧ (s.acked m).ident = s.ident ∧ (s.acked m).noc = s.noc ∧
    (s.acked m).lines = s.lines ∧ (s.acked m).ms = s.ms ∧ (s.acked m).ports = s.ports ∧ (s.acked m).sites = s.sites ∧
    (s.acked m).sec = s.sec ∧ (s.acked m).sdg = s.sdg ∧ (s.acked m).groups = s.groups ∧ (s.acked m).mem = s.mem ∧
    (s.acked m).poison = s.poison ∧ (s.acked m).flash = s.flash := by
  simp [State.acked]

@[simp] theorem State.linkState_frame (s : State) (m : LflMsg) :
    (s.linkState m).time = s.time ∧ (s.linkState m).draws = s.draws ∧ (s.linkState m).pending = s.pending ∧ (s.linkState m).held = s.held ∧
    (s.linkState m).latch = s.latch ∧ (s.linkState m).fns = s.fns ∧ (s.linkState m).pce = s.pce ∧ (s.linkState m).boot = s.boot ∧
    (s.linkState m).pow = s.pow ∧ (s.linkState m).obs = s.obs ∧ (s.linkState m).ident = s.ident ∧ (s.linkState m).noc = s.noc ∧
    (s.linkState m).lines = s.lines ∧ (s.linkState m).ms = s.ms ∧ (s.linkState m).sites = s.sites ∧ (s.linkState m).sec = s.sec ∧
    (s.linkState m).sdg = s.sdg ∧ (s.linkState m).groups = s.groups ∧ (s.linkState m).mem = s.mem ∧ (s.linkState m).poison = s.poison ∧
    (s.linkState m).flash = s.flash := by
  simp [State.linkState]

@[simp] theorem State.deliverLfl_frame (s : State) (m : LflMsg) :
    (s.deliverLfl m).time = s.time ∧ (s.deliverLfl m).draws = s.draws ∧ (s.deliverLfl m).pending = s.pending ∧
    (s.deliverLfl m).held = s.held ∧ (s.deliverLfl m).latch = s.latch ∧ (s.deliverLfl m).pow = s.pow ∧ (s.deliverLfl m).ident = s.ident ∧
    (s.deliverLfl m).noc = s.noc ∧ (s.deliverLfl m).lines = s.lines ∧ (s.deliverLfl m).sec = s.sec ∧ (s.deliverLfl m).flash = s.flash := by
  simp [State.deliverLfl]

@[simp] theorem State.sendNak_frame (s : State) (p : ℕ) :
    (s.sendNak p).time = s.time ∧ (s.sendNak p).draws = s.draws ∧ (s.sendNak p).pending = s.pending ∧ (s.sendNak p).held = s.held ∧
    (s.sendNak p).latch = s.latch ∧ (s.sendNak p).fns = s.fns ∧ (s.sendNak p).pce = s.pce ∧ (s.sendNak p).boot = s.boot ∧
    (s.sendNak p).pow = s.pow ∧ (s.sendNak p).obs = s.obs ∧ (s.sendNak p).ident = s.ident ∧ (s.sendNak p).noc = s.noc ∧
    (s.sendNak p).lines = s.lines ∧ (s.sendNak p).ms = s.ms ∧ (s.sendNak p).ports = s.ports ∧ (s.sendNak p).torus = s.torus ∧
    (s.sendNak p).sites = s.sites ∧ (s.sendNak p).sec = s.sec ∧ (s.sendNak p).sdg = s.sdg ∧ (s.sendNak p).groups = s.groups ∧
    (s.sendNak p).mem = s.mem ∧ (s.sendNak p).poison = s.poison ∧ (s.sendNak p).flash = s.flash := by
  simp [State.sendNak]

@[simp] theorem State.setLanes_frame (s : State) (p : ℕ) (ls : List ℕ) :
    (s.setLanes p ls).time = s.time ∧ (s.setLanes p ls).draws = s.draws ∧ (s.setLanes p ls).pending = s.pending ∧
    (s.setLanes p ls).held = s.held ∧ (s.setLanes p ls).latch = s.latch ∧ (s.setLanes p ls).pow = s.pow ∧
    (s.setLanes p ls).ident = s.ident ∧ (s.setLanes p ls).noc = s.noc ∧ (s.setLanes p ls).lines = s.lines ∧ (s.setLanes p ls).sec = s.sec ∧
    (s.setLanes p ls).flash = s.flash := by
  simp [State.setLanes]

@[simp] theorem State.laneLost_frame (s : State) (port : ℕ) (lane : ℕ) (cause : ℕ) :
    (s.laneLost port lane cause).time = s.time ∧ (s.laneLost port lane cause).draws = s.draws ∧
    (s.laneLost port lane cause).pending = s.pending ∧ (s.laneLost port lane cause).held = s.held ∧
    (s.laneLost port lane cause).latch = s.latch ∧ (s.laneLost port lane cause).pow = s.pow ∧ (s.laneLost port lane cause).ident = s.ident ∧
    (s.laneLost port lane cause).lines = s.lines ∧ (s.laneLost port lane cause).sec = s.sec ∧
    (s.laneLost port lane cause).flash = s.flash := by
  simp [State.laneLost]

@[simp] theorem State.beginSession_frame (s : State) (n : ℕ) :
    (s.beginSession n).time = s.time ∧ (s.beginSession n).tx = s.tx ∧ (s.beginSession n).pending = s.pending ∧
    (s.beginSession n).hub = s.hub ∧ (s.beginSession n).held = s.held ∧ (s.beginSession n).latch = s.latch ∧
    (s.beginSession n).fns = s.fns ∧ (s.beginSession n).pce = s.pce ∧ (s.beginSession n).boot = s.boot ∧ (s.beginSession n).pow = s.pow ∧
    (s.beginSession n).obs = s.obs ∧ (s.beginSession n).ident = s.ident ∧ (s.beginSession n).noc = s.noc ∧
    (s.beginSession n).lines = s.lines ∧ (s.beginSession n).ms = s.ms ∧ (s.beginSession n).ports = s.ports ∧
    (s.beginSession n).torus = s.torus ∧ (s.beginSession n).sites = s.sites ∧ (s.beginSession n).sdg = s.sdg ∧
    (s.beginSession n).groups = s.groups ∧ (s.beginSession n).mem = s.mem ∧ (s.beginSession n).poison = s.poison ∧
    (s.beginSession n).flash = s.flash := by
  simp [State.beginSession]

@[simp] theorem State.drawSalt_frame (s : State) (n : ℕ) :
    (s.drawSalt n).time = s.time ∧ (s.drawSalt n).tx = s.tx ∧ (s.drawSalt n).pending = s.pending ∧ (s.drawSalt n).hub = s.hub ∧
    (s.drawSalt n).held = s.held ∧ (s.drawSalt n).latch = s.latch ∧ (s.drawSalt n).pce = s.pce ∧ (s.drawSalt n).boot = s.boot ∧
    (s.drawSalt n).pow = s.pow ∧ (s.drawSalt n).obs = s.obs ∧ (s.drawSalt n).ident = s.ident ∧ (s.drawSalt n).noc = s.noc ∧
    (s.drawSalt n).lines = s.lines ∧ (s.drawSalt n).ms = s.ms ∧ (s.drawSalt n).ports = s.ports ∧ (s.drawSalt n).torus = s.torus ∧
    (s.drawSalt n).sites = s.sites ∧ (s.drawSalt n).sec = s.sec ∧ (s.drawSalt n).sdg = s.sdg ∧ (s.drawSalt n).groups = s.groups ∧
    (s.drawSalt n).mem = s.mem ∧ (s.drawSalt n).poison = s.poison ∧ (s.drawSalt n).flash = s.flash := by
  simp [State.drawSalt]

@[simp] theorem State.beginSessions_frame (s : State) :
    s.beginSessions.time = s.time ∧ s.beginSessions.tx = s.tx ∧ s.beginSessions.pending = s.pending ∧ s.beginSessions.hub = s.hub ∧
    s.beginSessions.held = s.held ∧ s.beginSessions.latch = s.latch ∧ s.beginSessions.pce = s.pce ∧ s.beginSessions.boot = s.boot ∧
    s.beginSessions.pow = s.pow ∧ s.beginSessions.obs = s.obs ∧ s.beginSessions.ident = s.ident ∧ s.beginSessions.noc = s.noc ∧
    s.beginSessions.lines = s.lines ∧ s.beginSessions.ms = s.ms ∧ s.beginSessions.ports = s.ports ∧ s.beginSessions.torus = s.torus ∧
    s.beginSessions.sites = s.sites ∧ s.beginSessions.sdg = s.sdg ∧ s.beginSessions.groups = s.groups ∧ s.beginSessions.mem = s.mem ∧
    s.beginSessions.poison = s.poison ∧ s.beginSessions.flash = s.flash := by
  simp [State.beginSessions]

@[simp] theorem State.checkTemplate_frame (s : State) (n : ℕ) :
    (s.checkTemplate n).time = s.time ∧ (s.checkTemplate n).draws = s.draws ∧ (s.checkTemplate n).tx = s.tx ∧
    (s.checkTemplate n).pending = s.pending ∧ (s.checkTemplate n).held = s.held ∧ (s.checkTemplate n).latch = s.latch ∧
    (s.checkTemplate n).pce = s.pce ∧ (s.checkTemplate n).boot = s.boot ∧ (s.checkTemplate n).pow = s.pow ∧
    (s.checkTemplate n).obs = s.obs ∧ (s.checkTemplate n).ident = s.ident ∧ (s.checkTemplate n).noc = s.noc ∧
    (s.checkTemplate n).lines = s.lines ∧ (s.checkTemplate n).ms = s.ms ∧ (s.checkTemplate n).ports = s.ports ∧
    (s.checkTemplate n).torus = s.torus ∧ (s.checkTemplate n).sites = s.sites ∧ (s.checkTemplate n).sec = s.sec ∧
    (s.checkTemplate n).sdg = s.sdg ∧ (s.checkTemplate n).groups = s.groups ∧ (s.checkTemplate n).mem = s.mem ∧
    (s.checkTemplate n).poison = s.poison ∧ (s.checkTemplate n).flash = s.flash := by
  simp [State.checkTemplate]

@[simp] theorem State.noteAgents_frame (s : State) :
    s.noteAgents.time = s.time ∧ s.noteAgents.draws = s.draws ∧ s.noteAgents.tx = s.tx ∧ s.noteAgents.pending = s.pending ∧
    s.noteAgents.held = s.held ∧ s.noteAgents.latch = s.latch ∧ s.noteAgents.fns = s.fns ∧ s.noteAgents.pce = s.pce ∧
    s.noteAgents.boot = s.boot ∧ s.noteAgents.pow = s.pow ∧ s.noteAgents.obs = s.obs ∧ s.noteAgents.ident = s.ident ∧
    s.noteAgents.noc = s.noc ∧ s.noteAgents.lines = s.lines ∧ s.noteAgents.ms = s.ms ∧ s.noteAgents.ports = s.ports ∧
    s.noteAgents.torus = s.torus ∧ s.noteAgents.sites = s.sites ∧ s.noteAgents.sec = s.sec ∧ s.noteAgents.sdg = s.sdg ∧
    s.noteAgents.groups = s.groups ∧ s.noteAgents.mem = s.mem ∧ s.noteAgents.poison = s.poison ∧ s.noteAgents.flash = s.flash := by
  simp [State.noteAgents]

@[simp] theorem State.newEpoch_frame (s : State) :
    s.newEpoch.time = s.time ∧ s.newEpoch.tx = s.tx ∧ s.newEpoch.pending = s.pending ∧ s.newEpoch.hub = s.hub ∧ s.newEpoch.held = s.held ∧
    s.newEpoch.latch = s.latch ∧ s.newEpoch.pce = s.pce ∧ s.newEpoch.boot = s.boot ∧ s.newEpoch.pow = s.pow ∧ s.newEpoch.obs = s.obs ∧
    s.newEpoch.ident = s.ident ∧ s.newEpoch.noc = s.noc ∧ s.newEpoch.lines = s.lines ∧ s.newEpoch.ms = s.ms ∧ s.newEpoch.ports = s.ports ∧
    s.newEpoch.torus = s.torus ∧ s.newEpoch.sites = s.sites ∧ s.newEpoch.sdg = s.sdg ∧ s.newEpoch.groups = s.groups ∧
    s.newEpoch.mem = s.mem ∧ s.newEpoch.poison = s.poison := by
  simp [State.newEpoch]

@[simp] theorem State.beginTraining_frame (s : State) :
    s.beginTraining.time = s.time ∧ s.beginTraining.draws = s.draws ∧ s.beginTraining.pending = s.pending ∧ s.beginTraining.held = s.held ∧
    s.beginTraining.latch = s.latch ∧ s.beginTraining.fns = s.fns ∧ s.beginTraining.pow = s.pow ∧ s.beginTraining.obs = s.obs ∧
    s.beginTraining.ident = s.ident ∧ s.beginTraining.noc = s.noc ∧ s.beginTraining.lines = s.lines ∧ s.beginTraining.ms = s.ms ∧
    s.beginTraining.sites = s.sites ∧ s.beginTraining.sec = s.sec ∧ s.beginTraining.sdg = s.sdg ∧ s.beginTraining.groups = s.groups ∧
    s.beginTraining.mem = s.mem ∧ s.beginTraining.poison = s.poison ∧ s.beginTraining.flash = s.flash := by
  simp [State.beginTraining]

@[simp] theorem State.advance_frame (s : State) :
    s.advance.time = s.time ∧ s.advance.pending = s.pending ∧ s.advance.held = s.held ∧ s.advance.latch = s.latch ∧ s.advance.pow = s.pow ∧
    s.advance.obs = s.obs ∧ s.advance.ident = s.ident ∧ s.advance.noc = s.noc ∧ s.advance.lines = s.lines ∧ s.advance.ms = s.ms ∧
    s.advance.sites = s.sites ∧ s.advance.sdg = s.sdg ∧ s.advance.groups = s.groups ∧ s.advance.mem = s.mem ∧
    s.advance.poison = s.poison := by
  simp [State.advance]

@[simp] theorem State.siteDone_frame (s : State) (site : ℕ) :
    (s.siteDone site).time = s.time ∧ (s.siteDone site).pending = s.pending ∧ (s.siteDone site).held = s.held ∧
    (s.siteDone site).latch = s.latch ∧ (s.siteDone site).pow = s.pow ∧ (s.siteDone site).obs = s.obs ∧ (s.siteDone site).ident = s.ident ∧
    (s.siteDone site).noc = s.noc ∧ (s.siteDone site).lines = s.lines ∧ (s.siteDone site).ms = s.ms ∧ (s.siteDone site).sites = s.sites ∧
    (s.siteDone site).sdg = s.sdg ∧ (s.siteDone site).groups = s.groups ∧ (s.siteDone site).mem = s.mem ∧
    (s.siteDone site).poison = s.poison := by
  simp [State.siteDone]

@[simp] theorem State.takeOver_frame (s : State) (q : ℕ) :
    (s.takeOver q).time = s.time ∧ (s.takeOver q).draws = s.draws ∧ (s.takeOver q).tx = s.tx ∧ (s.takeOver q).pending = s.pending ∧
    (s.takeOver q).held = s.held ∧ (s.takeOver q).latch = s.latch ∧ (s.takeOver q).fns = s.fns ∧ (s.takeOver q).pce = s.pce ∧
    (s.takeOver q).boot = s.boot ∧ (s.takeOver q).pow = s.pow ∧ (s.takeOver q).obs = s.obs ∧ (s.takeOver q).ident = s.ident ∧
    (s.takeOver q).noc = s.noc ∧ (s.takeOver q).lines = s.lines ∧ (s.takeOver q).ms = s.ms ∧ (s.takeOver q).ports = s.ports ∧
    (s.takeOver q).torus = s.torus ∧ (s.takeOver q).sec = s.sec ∧ (s.takeOver q).sdg = s.sdg ∧ (s.takeOver q).groups = s.groups ∧
    (s.takeOver q).mem = s.mem ∧ (s.takeOver q).poison = s.poison ∧ (s.takeOver q).flash = s.flash := by
  simp [State.takeOver]

@[simp] theorem State.fenceSite_frame (s : State) (n : ℕ) :
    (s.fenceSite n).time = s.time ∧ (s.fenceSite n).pending = s.pending ∧ (s.fenceSite n).held = s.held ∧ (s.fenceSite n).latch = s.latch ∧
    (s.fenceSite n).pow = s.pow ∧ (s.fenceSite n).ident = s.ident := by
  unfold State.fenceSite
  dsimp only
  (repeat' split) <;> (repeat' apply And.intro) <;> (try simp) <;> (try apply foldl_keep) <;> intros <;> (repeat' split) <;> simp_all

@[simp] theorem State.dropAgent_frame (s : State) (n : ℕ) :
    (s.dropAgent n).time = s.time ∧ (s.dropAgent n).draws = s.draws ∧ (s.dropAgent n).pending = s.pending ∧ (s.dropAgent n).held = s.held ∧
    (s.dropAgent n).latch = s.latch ∧ (s.dropAgent n).pow = s.pow ∧ (s.dropAgent n).ident = s.ident ∧ (s.dropAgent n).noc = s.noc ∧
    (s.dropAgent n).ports = s.ports ∧ (s.dropAgent n).torus = s.torus ∧ (s.dropAgent n).sec = s.sec ∧ (s.dropAgent n).flash = s.flash := by
  simp [State.dropAgent]

@[simp] theorem State.pulseSite_frame (s : State) (n : ℕ) :
    (s.pulseSite n).time = s.time ∧ (s.pulseSite n).draws = s.draws ∧ (s.pulseSite n).pending = s.pending ∧ (s.pulseSite n).held = s.held ∧
    (s.pulseSite n).latch = s.latch ∧ (s.pulseSite n).pow = s.pow ∧ (s.pulseSite n).ident = s.ident ∧ (s.pulseSite n).noc = s.noc ∧
    (s.pulseSite n).ports = s.ports ∧ (s.pulseSite n).torus = s.torus ∧ (s.pulseSite n).sec = s.sec ∧ (s.pulseSite n).flash = s.flash := by
  simp [State.pulseSite]

@[simp] theorem State.mismatch_frame (s : State) (n : ℕ) :
    (s.mismatch n).time = s.time ∧ (s.mismatch n).pending = s.pending ∧ (s.mismatch n).held = s.held ∧ (s.mismatch n).latch = s.latch ∧
    (s.mismatch n).pow = s.pow ∧ (s.mismatch n).ident = s.ident ∧ (s.mismatch n).noc = s.noc ∧ (s.mismatch n).lines = s.lines := by
  simp [State.mismatch]

@[simp] theorem State.checkPair_frame (s : State) (n : ℕ) :
    (s.checkPair n).time = s.time ∧ (s.checkPair n).pending = s.pending ∧ (s.checkPair n).held = s.held ∧ (s.checkPair n).latch = s.latch ∧
    (s.checkPair n).pow = s.pow ∧ (s.checkPair n).ident = s.ident ∧ (s.checkPair n).noc = s.noc ∧ (s.checkPair n).lines = s.lines := by
  unfold State.checkPair; (repeat' split) <;> simp

@[simp] theorem State.bringUp_frame (s : State) (n : ℕ) :
    (s.bringUp n).time = s.time ∧ (s.bringUp n).pending = s.pending ∧ (s.bringUp n).held = s.held ∧ (s.bringUp n).latch = s.latch ∧
    (s.bringUp n).pow = s.pow ∧ (s.bringUp n).obs = s.obs ∧ (s.bringUp n).ident = s.ident ∧ (s.bringUp n).noc = s.noc ∧
    (s.bringUp n).lines = s.lines ∧ (s.bringUp n).ms = s.ms ∧ (s.bringUp n).sdg = s.sdg ∧ (s.bringUp n).groups = s.groups ∧
    (s.bringUp n).mem = s.mem ∧ (s.bringUp n).poison = s.poison := by
  simp [State.bringUp]

@[simp] theorem State.afterMeasures_frame (s : State) (n : ℕ) :
    (s.afterMeasures n).time = s.time ∧ (s.afterMeasures n).pending = s.pending ∧ (s.afterMeasures n).held = s.held ∧
    (s.afterMeasures n).latch = s.latch ∧ (s.afterMeasures n).pow = s.pow ∧ (s.afterMeasures n).obs = s.obs ∧
    (s.afterMeasures n).ident = s.ident ∧ (s.afterMeasures n).noc = s.noc ∧ (s.afterMeasures n).lines = s.lines ∧
    (s.afterMeasures n).ms = s.ms ∧ (s.afterMeasures n).sdg = s.sdg ∧ (s.afterMeasures n).groups = s.groups ∧
    (s.afterMeasures n).mem = s.mem ∧ (s.afterMeasures n).poison = s.poison := by
  simp [State.afterMeasures]

@[simp] theorem State.throttle_frame (s : State) (n : ℕ) (watts : ℕ) :
    (s.throttle n watts).time = s.time ∧ (s.throttle n watts).draws = s.draws ∧ (s.throttle n watts).pending = s.pending ∧
    (s.throttle n watts).held = s.held ∧ (s.throttle n watts).latch = s.latch ∧ (s.throttle n watts).fns = s.fns ∧
    (s.throttle n watts).pce = s.pce ∧ (s.throttle n watts).boot = s.boot ∧ (s.throttle n watts).pow = s.pow ∧
    (s.throttle n watts).obs = s.obs ∧ (s.throttle n watts).ident = s.ident ∧ (s.throttle n watts).noc = s.noc ∧
    (s.throttle n watts).lines = s.lines ∧ (s.throttle n watts).ms = s.ms ∧ (s.throttle n watts).ports = s.ports ∧
    (s.throttle n watts).torus = s.torus ∧ (s.throttle n watts).sites = s.sites ∧ (s.throttle n watts).sec = s.sec ∧
    (s.throttle n watts).sdg = s.sdg ∧ (s.throttle n watts).groups = s.groups ∧ (s.throttle n watts).mem = s.mem ∧
    (s.throttle n watts).poison = s.poison ∧ (s.throttle n watts).flash = s.flash := by
  simp [State.throttle]

@[simp] theorem State.noteSiteHeat_frame (s : State) (n : ℕ) (temp : ℕ) :
    (s.noteSiteHeat n temp).time = s.time ∧ (s.noteSiteHeat n temp).draws = s.draws ∧ (s.noteSiteHeat n temp).pending = s.pending ∧
    (s.noteSiteHeat n temp).held = s.held ∧ (s.noteSiteHeat n temp).latch = s.latch ∧ (s.noteSiteHeat n temp).ident = s.ident ∧
    (s.noteSiteHeat n temp).noc = s.noc ∧ (s.noteSiteHeat n temp).lines = s.lines ∧ (s.noteSiteHeat n temp).ports = s.ports ∧
    (s.noteSiteHeat n temp).torus = s.torus ∧ (s.noteSiteHeat n temp).sec = s.sec ∧ (s.noteSiteHeat n temp).flash = s.flash := by
  simp [State.noteSiteHeat]

@[simp] theorem State.siteHeat_frame (s : State) (n : ℕ) (temp : ℕ) (overBudget : Bool) :
    (s.siteHeat n temp overBudget).time = s.time ∧ (s.siteHeat n temp overBudget).pending = s.pending ∧
    (s.siteHeat n temp overBudget).held = s.held ∧ (s.siteHeat n temp overBudget).latch = s.latch ∧
    (s.siteHeat n temp overBudget).pow = s.pow ∧ (s.siteHeat n temp overBudget).ident = s.ident := by
  simp [State.siteHeat]

@[simp] theorem State.chipReport_frame (s : State) (n : ℕ) (cls : FaultClass) (off : ℕ) :
    (s.chipReport n cls off).time = s.time ∧ (s.chipReport n cls off).draws = s.draws ∧ (s.chipReport n cls off).pending = s.pending ∧
    (s.chipReport n cls off).held = s.held ∧ (s.chipReport n cls off).latch = s.latch ∧ (s.chipReport n cls off).pow = s.pow ∧
    (s.chipReport n cls off).ident = s.ident ∧ (s.chipReport n cls off).noc = s.noc ∧ (s.chipReport n cls off).lines = s.lines ∧
    (s.chipReport n cls off).ports = s.ports ∧ (s.chipReport n cls off).torus = s.torus ∧ (s.chipReport n cls off).sec = s.sec ∧
    (s.chipReport n cls off).flash = s.flash := by
  unfold State.chipReport; (repeat' split) <;> simp

@[simp] theorem State.dropWin_frame (s : State) (n : ℕ) (tag : ℕ) :
    (s.dropWin n tag).time = s.time ∧ (s.dropWin n tag).draws = s.draws ∧ (s.dropWin n tag).tx = s.tx ∧
    (s.dropWin n tag).pending = s.pending ∧ (s.dropWin n tag).hub = s.hub ∧ (s.dropWin n tag).held = s.held ∧
    (s.dropWin n tag).latch = s.latch ∧ (s.dropWin n tag).fns = s.fns ∧ (s.dropWin n tag).pce = s.pce ∧ (s.dropWin n tag).boot = s.boot ∧
    (s.dropWin n tag).pow = s.pow ∧ (s.dropWin n tag).obs = s.obs ∧ (s.dropWin n tag).ident = s.ident ∧ (s.dropWin n tag).noc = s.noc ∧
    (s.dropWin n tag).lines = s.lines ∧ (s.dropWin n tag).ms = s.ms ∧ (s.dropWin n tag).ports = s.ports ∧
    (s.dropWin n tag).torus = s.torus ∧ (s.dropWin n tag).sec = s.sec ∧ (s.dropWin n tag).sdg = s.sdg ∧
    (s.dropWin n tag).groups = s.groups ∧ (s.dropWin n tag).mem = s.mem ∧ (s.dropWin n tag).poison = s.poison ∧
    (s.dropWin n tag).flash = s.flash := by
  simp [State.dropWin]

@[simp] theorem State.markUnchecked_frame (s : State) (gid : ℕ) :
    (s.markUnchecked gid).time = s.time ∧ (s.markUnchecked gid).draws = s.draws ∧ (s.markUnchecked gid).tx = s.tx ∧
    (s.markUnchecked gid).pending = s.pending ∧ (s.markUnchecked gid).hub = s.hub ∧ (s.markUnchecked gid).held = s.held ∧
    (s.markUnchecked gid).latch = s.latch ∧ (s.markUnchecked gid).fns = s.fns ∧ (s.markUnchecked gid).pce = s.pce ∧
    (s.markUnchecked gid).boot = s.boot ∧ (s.markUnchecked gid).pow = s.pow ∧ (s.markUnchecked gid).obs = s.obs ∧
    (s.markUnchecked gid).ident = s.ident ∧ (s.markUnchecked gid).noc = s.noc ∧ (s.markUnchecked gid).lines = s.lines ∧
    (s.markUnchecked gid).ms = s.ms ∧ (s.markUnchecked gid).ports = s.ports ∧ (s.markUnchecked gid).torus = s.torus ∧
    (s.markUnchecked gid).sites = s.sites ∧ (s.markUnchecked gid).sec = s.sec ∧ (s.markUnchecked gid).sdg = s.sdg ∧
    (s.markUnchecked gid).mem = s.mem ∧ (s.markUnchecked gid).poison = s.poison ∧ (s.markUnchecked gid).flash = s.flash := by
  simp [State.markUnchecked]

@[simp] theorem State.winStatus_frame (s : State) (n : ℕ) (q : WinReq) (st : ℕ) :
    (s.winStatus n q st).time = s.time ∧ (s.winStatus n q st).draws = s.draws ∧ (s.winStatus n q st).pending = s.pending ∧
    (s.winStatus n q st).held = s.held ∧ (s.winStatus n q st).latch = s.latch ∧ (s.winStatus n q st).boot = s.boot ∧
    (s.winStatus n q st).pow = s.pow ∧ (s.winStatus n q st).ident = s.ident ∧ (s.winStatus n q st).noc = s.noc ∧
    (s.winStatus n q st).lines = s.lines ∧ (s.winStatus n q st).ports = s.ports ∧ (s.winStatus n q st).torus = s.torus ∧
    (s.winStatus n q st).sec = s.sec ∧ (s.winStatus n q st).sdg = s.sdg ∧ (s.winStatus n q st).flash = s.flash := by
  simp [State.winStatus]

@[simp] theorem State.dmaReach_frame (s : State) (fn : ℕ) (va : ℕ) (write : Bool) :
    (s.dmaReach fn va write).2.time = s.time ∧ (s.dmaReach fn va write).2.draws = s.draws ∧ (s.dmaReach fn va write).2.pending = s.pending ∧
    (s.dmaReach fn va write).2.held = s.held ∧ (s.dmaReach fn va write).2.latch = s.latch ∧ (s.dmaReach fn va write).2.pow = s.pow ∧
    (s.dmaReach fn va write).2.ident = s.ident ∧ (s.dmaReach fn va write).2.noc = s.noc ∧ (s.dmaReach fn va write).2.lines = s.lines ∧
    (s.dmaReach fn va write).2.ports = s.ports ∧ (s.dmaReach fn va write).2.torus = s.torus ∧ (s.dmaReach fn va write).2.sec = s.sec ∧
    (s.dmaReach fn va write).2.flash = s.flash := by
  unfold State.dmaReach
  dsimp only
  (repeat' split) <;> (repeat' apply And.intro) <;> (try simp) <;> (try apply foldl_keep) <;> intros <;> (repeat' split) <;> simp_all

@[simp] theorem State.dmaDeny_frame (s : State) (n : ℕ) (m : LspMsg) (write : Bool) :
    (s.dmaDeny n m write).time = s.time ∧ (s.dmaDeny n m write).draws = s.draws ∧ (s.dmaDeny n m write).pending = s.pending ∧
    (s.dmaDeny n m write).held = s.held ∧ (s.dmaDeny n m write).latch = s.latch ∧ (s.dmaDeny n m write).pow = s.pow ∧
    (s.dmaDeny n m write).ident = s.ident ∧ (s.dmaDeny n m write).noc = s.noc ∧ (s.dmaDeny n m write).lines = s.lines ∧
    (s.dmaDeny n m write).ports = s.ports ∧ (s.dmaDeny n m write).torus = s.torus ∧ (s.dmaDeny n m write).sec = s.sec ∧
    (s.dmaDeny n m write).flash = s.flash := by
  simp [State.dmaDeny]

@[simp] theorem State.dmaAnswer_frame (s : State) (n : ℕ) (m : LspMsg) (bs : List Byte) (poison : Bool) :
    (s.dmaAnswer n m bs poison).time = s.time ∧ (s.dmaAnswer n m bs poison).draws = s.draws ∧
    (s.dmaAnswer n m bs poison).pending = s.pending ∧ (s.dmaAnswer n m bs poison).hub = s.hub ∧ (s.dmaAnswer n m bs poison).held = s.held ∧
    (s.dmaAnswer n m bs poison).latch = s.latch ∧ (s.dmaAnswer n m bs poison).fns = s.fns ∧ (s.dmaAnswer n m bs poison).pce = s.pce ∧
    (s.dmaAnswer n m bs poison).boot = s.boot ∧ (s.dmaAnswer n m bs poison).pow = s.pow ∧ (s.dmaAnswer n m bs poison).obs = s.obs ∧
    (s.dmaAnswer n m bs poison).ident = s.ident ∧ (s.dmaAnswer n m bs poison).noc = s.noc ∧ (s.dmaAnswer n m bs poison).lines = s.lines ∧
    (s.dmaAnswer n m bs poison).ms = s.ms ∧ (s.dmaAnswer n m bs poison).ports = s.ports ∧ (s.dmaAnswer n m bs poison).torus = s.torus ∧
    (s.dmaAnswer n m bs poison).sec = s.sec ∧ (s.dmaAnswer n m bs poison).sdg = s.sdg ∧ (s.dmaAnswer n m bs poison).groups = s.groups ∧
    (s.dmaAnswer n m bs poison).mem = s.mem ∧ (s.dmaAnswer n m bs poison).poison = s.poison ∧
    (s.dmaAnswer n m bs poison).flash = s.flash := by
  simp [State.dmaAnswer]

@[simp] theorem State.dmaServe_frame (s : State) (n : ℕ) (m : LspMsg) :
    (s.dmaServe n m).time = s.time ∧ (s.dmaServe n m).draws = s.draws ∧ (s.dmaServe n m).pending = s.pending ∧
    (s.dmaServe n m).held = s.held ∧ (s.dmaServe n m).latch = s.latch ∧ (s.dmaServe n m).pow = s.pow ∧ (s.dmaServe n m).ident = s.ident ∧
    (s.dmaServe n m).noc = s.noc ∧ (s.dmaServe n m).lines = s.lines ∧ (s.dmaServe n m).ports = s.ports ∧ (s.dmaServe n m).torus = s.torus ∧
    (s.dmaServe n m).sec = s.sec ∧ (s.dmaServe n m).flash = s.flash := by
  unfold State.dmaServe
  dsimp only
  split
  · simp
  · rename_i fn _
    have h := State.dmaReach_frame s fn m.addr false
    split <;> rename_i heq <;> rw [heq] at h
    · simp_all
    · (repeat' split) <;> simp_all

@[simp] theorem State.dmaStore_frame (s : State) (n : ℕ) (d : DmaReq) :
    (s.dmaStore n d).time = s.time ∧ (s.dmaStore n d).draws = s.draws ∧ (s.dmaStore n d).pending = s.pending ∧
    (s.dmaStore n d).held = s.held ∧ (s.dmaStore n d).latch = s.latch ∧ (s.dmaStore n d).pow = s.pow ∧ (s.dmaStore n d).ident = s.ident ∧
    (s.dmaStore n d).noc = s.noc ∧ (s.dmaStore n d).lines = s.lines ∧ (s.dmaStore n d).ports = s.ports ∧ (s.dmaStore n d).torus = s.torus ∧
    (s.dmaStore n d).sec = s.sec ∧ (s.dmaStore n d).flash = s.flash := by
  unfold State.dmaStore
  dsimp only
  split
  · simp
  · rename_i fn _
    have h := State.dmaReach_frame s fn d.msg.addr true
    split <;> rename_i heq <;> rw [heq] at h
    · simp_all
    · (repeat' split) <;> simp_all

@[simp] theorem State.pumpDma_frame (s : State) (n : ℕ) :
    (s.pumpDma n).time = s.time ∧ (s.pumpDma n).draws = s.draws ∧ (s.pumpDma n).pending = s.pending ∧ (s.pumpDma n).held = s.held ∧
    (s.pumpDma n).latch = s.latch ∧ (s.pumpDma n).pow = s.pow ∧ (s.pumpDma n).ident = s.ident ∧ (s.pumpDma n).noc = s.noc ∧
    (s.pumpDma n).lines = s.lines ∧ (s.pumpDma n).ports = s.ports ∧ (s.pumpDma n).torus = s.torus ∧ (s.pumpDma n).sec = s.sec ∧
    (s.pumpDma n).flash = s.flash := by
  simp [State.pumpDma]

@[simp] theorem State.tagFail_frame (s : State) (n : ℕ) (tag : ℕ) (w : DataFor) :
    (s.tagFail n tag w).time = s.time ∧ (s.tagFail n tag w).pending = s.pending ∧ (s.tagFail n tag w).held = s.held ∧
    (s.tagFail n tag w).latch = s.latch ∧ (s.tagFail n tag w).pow = s.pow ∧ (s.tagFail n tag w).ident = s.ident := by
  unfold State.tagFail
  dsimp only
  (repeat' split) <;> (repeat' apply And.intro) <;> (try simp) <;> (try apply foldl_keep) <;> intros <;> (repeat' split) <;> simp_all

@[simp] theorem State.winData_frame (s : State) (n : ℕ) (tag : ℕ) (q : WinReq) (line : List Byte) :
    (s.winData n tag q line).time = s.time ∧ (s.winData n tag q line).draws = s.draws ∧ (s.winData n tag q line).pending = s.pending ∧
    (s.winData n tag q line).held = s.held ∧ (s.winData n tag q line).latch = s.latch ∧ (s.winData n tag q line).pce = s.pce ∧
    (s.winData n tag q line).boot = s.boot ∧ (s.winData n tag q line).pow = s.pow ∧ (s.winData n tag q line).ident = s.ident ∧
    (s.winData n tag q line).noc = s.noc ∧ (s.winData n tag q line).lines = s.lines ∧ (s.winData n tag q line).sec = s.sec ∧
    (s.winData n tag q line).sdg = s.sdg ∧ (s.winData n tag q line).flash = s.flash := by
  simp [State.winData]

@[simp] theorem State.noteDebug_frame (s : State) :
    s.noteDebug.time = s.time ∧ s.noteDebug.draws = s.draws ∧ s.noteDebug.tx = s.tx ∧ s.noteDebug.pending = s.pending ∧
    s.noteDebug.held = s.held ∧ s.noteDebug.latch = s.latch ∧ s.noteDebug.fns = s.fns ∧ s.noteDebug.pce = s.pce ∧
    s.noteDebug.boot = s.boot ∧ s.noteDebug.pow = s.pow ∧ s.noteDebug.obs = s.obs ∧ s.noteDebug.ident = s.ident ∧ s.noteDebug.noc = s.noc ∧
    s.noteDebug.lines = s.lines ∧ s.noteDebug.ms = s.ms ∧ s.noteDebug.ports = s.ports ∧ s.noteDebug.torus = s.torus ∧
    s.noteDebug.sites = s.sites ∧ s.noteDebug.sec = s.sec ∧ s.noteDebug.sdg = s.sdg ∧ s.noteDebug.groups = s.groups ∧
    s.noteDebug.mem = s.mem ∧ s.noteDebug.poison = s.poison ∧ s.noteDebug.flash = s.flash := by
  simp [State.noteDebug]

@[simp] theorem State.closeDebug_frame (s : State) (n : ℕ) :
    (s.closeDebug n).time = s.time ∧ (s.closeDebug n).draws = s.draws ∧ (s.closeDebug n).tx = s.tx ∧ (s.closeDebug n).pending = s.pending ∧
    (s.closeDebug n).held = s.held ∧ (s.closeDebug n).latch = s.latch ∧ (s.closeDebug n).fns = s.fns ∧ (s.closeDebug n).pce = s.pce ∧
    (s.closeDebug n).boot = s.boot ∧ (s.closeDebug n).pow = s.pow ∧ (s.closeDebug n).obs = s.obs ∧ (s.closeDebug n).ident = s.ident ∧
    (s.closeDebug n).noc = s.noc ∧ (s.closeDebug n).lines = s.lines ∧ (s.closeDebug n).ms = s.ms ∧ (s.closeDebug n).ports = s.ports ∧
    (s.closeDebug n).torus = s.torus ∧ (s.closeDebug n).sites = s.sites ∧ (s.closeDebug n).sdg = s.sdg ∧
    (s.closeDebug n).groups = s.groups ∧ (s.closeDebug n).mem = s.mem ∧ (s.closeDebug n).poison = s.poison ∧
    (s.closeDebug n).flash = s.flash := by
  simp [State.closeDebug]

@[simp] theorem State.debugRead_frame (s : State) :
    s.debugRead.time = s.time ∧ s.debugRead.tx = s.tx ∧ s.debugRead.pending = s.pending ∧ s.debugRead.held = s.held ∧
    s.debugRead.latch = s.latch ∧ s.debugRead.fns = s.fns ∧ s.debugRead.pce = s.pce ∧ s.debugRead.boot = s.boot ∧ s.debugRead.pow = s.pow ∧
    s.debugRead.obs = s.obs ∧ s.debugRead.ident = s.ident ∧ s.debugRead.noc = s.noc ∧ s.debugRead.lines = s.lines ∧ s.debugRead.ms = s.ms ∧
    s.debugRead.ports = s.ports ∧ s.debugRead.torus = s.torus ∧ s.debugRead.sites = s.sites ∧ s.debugRead.sec = s.sec ∧
    s.debugRead.sdg = s.sdg ∧ s.debugRead.groups = s.groups ∧ s.debugRead.mem = s.mem ∧ s.debugRead.poison = s.poison ∧
    s.debugRead.flash = s.flash := by
  unfold State.debugRead
  dsimp only
  (repeat' split) <;> (repeat' apply And.intro) <;> (try simp) <;> (try apply foldl_keep) <;> intros <;> (repeat' split) <;> simp_all

@[simp] theorem State.openDebug_frame (s : State) (t : List Byte) :
    (s.openDebug t).time = s.time ∧ (s.openDebug t).draws = s.draws ∧ (s.openDebug t).tx = s.tx ∧ (s.openDebug t).pending = s.pending ∧
    (s.openDebug t).held = s.held ∧ (s.openDebug t).latch = s.latch ∧ (s.openDebug t).fns = s.fns ∧ (s.openDebug t).pce = s.pce ∧
    (s.openDebug t).boot = s.boot ∧ (s.openDebug t).pow = s.pow ∧ (s.openDebug t).obs = s.obs ∧ (s.openDebug t).ident = s.ident ∧
    (s.openDebug t).noc = s.noc ∧ (s.openDebug t).lines = s.lines ∧ (s.openDebug t).ms = s.ms ∧ (s.openDebug t).ports = s.ports ∧
    (s.openDebug t).torus = s.torus ∧ (s.openDebug t).sites = s.sites ∧ (s.openDebug t).sdg = s.sdg ∧ (s.openDebug t).groups = s.groups ∧
    (s.openDebug t).mem = s.mem ∧ (s.openDebug t).poison = s.poison ∧ (s.openDebug t).flash = s.flash := by
  simp [State.openDebug]

@[simp] theorem State.beginTrans_frame (s : State) (t : Trans) (tok : List Byte) :
    (s.beginTrans t tok).time = s.time ∧ (s.beginTrans t tok).draws = s.draws ∧ (s.beginTrans t tok).pending = s.pending ∧
    (s.beginTrans t tok).held = s.held ∧ (s.beginTrans t tok).latch = s.latch ∧ (s.beginTrans t tok).boot = s.boot ∧
    (s.beginTrans t tok).pow = s.pow ∧ (s.beginTrans t tok).obs = s.obs ∧ (s.beginTrans t tok).ident = s.ident ∧
    (s.beginTrans t tok).noc = s.noc ∧ (s.beginTrans t tok).lines = s.lines ∧ (s.beginTrans t tok).ports = s.ports ∧
    (s.beginTrans t tok).torus = s.torus ∧ (s.beginTrans t tok).sdg = s.sdg := by
  simp [State.beginTrans]

@[simp] theorem State.submitToken_frame (s : State) :
    s.submitToken.time = s.time ∧ s.submitToken.draws = s.draws ∧ s.submitToken.pending = s.pending ∧ s.submitToken.held = s.held ∧
    s.submitToken.latch = s.latch ∧ s.submitToken.boot = s.boot ∧ s.submitToken.pow = s.pow ∧ s.submitToken.obs = s.obs ∧
    s.submitToken.ident = s.ident ∧ s.submitToken.noc = s.noc ∧ s.submitToken.lines = s.lines ∧ s.submitToken.ports = s.ports ∧
    s.submitToken.torus = s.torus ∧ s.submitToken.sdg = s.sdg := by
  simp [State.submitToken]

@[simp] theorem State.submitIf_frame (s : State) (op : ℕ) :
    (s.submitIf op).time = s.time ∧ (s.submitIf op).draws = s.draws ∧ (s.submitIf op).pending = s.pending ∧ (s.submitIf op).held = s.held ∧
    (s.submitIf op).latch = s.latch ∧ (s.submitIf op).boot = s.boot ∧ (s.submitIf op).pow = s.pow ∧ (s.submitIf op).obs = s.obs ∧
    (s.submitIf op).ident = s.ident ∧ (s.submitIf op).noc = s.noc ∧ (s.submitIf op).lines = s.lines ∧ (s.submitIf op).ports = s.ports ∧
    (s.submitIf op).torus = s.torus ∧ (s.submitIf op).sdg = s.sdg := by
  simp [State.submitIf]

@[simp] theorem State.markScrub_frame (s : State) (n : ℕ) :
    (s.markScrub n).time = s.time ∧ (s.markScrub n).draws = s.draws ∧ (s.markScrub n).tx = s.tx ∧ (s.markScrub n).pending = s.pending ∧
    (s.markScrub n).hub = s.hub ∧ (s.markScrub n).held = s.held ∧ (s.markScrub n).latch = s.latch ∧ (s.markScrub n).fns = s.fns ∧
    (s.markScrub n).pce = s.pce ∧ (s.markScrub n).boot = s.boot ∧ (s.markScrub n).pow = s.pow ∧ (s.markScrub n).obs = s.obs ∧
    (s.markScrub n).ident = s.ident ∧ (s.markScrub n).noc = s.noc ∧ (s.markScrub n).lines = s.lines ∧ (s.markScrub n).ms = s.ms ∧
    (s.markScrub n).ports = s.ports ∧ (s.markScrub n).torus = s.torus ∧ (s.markScrub n).sites = s.sites ∧ (s.markScrub n).sdg = s.sdg ∧
    (s.markScrub n).groups = s.groups ∧ (s.markScrub n).mem = s.mem ∧ (s.markScrub n).poison = s.poison ∧
    (s.markScrub n).flash = s.flash := by
  simp [State.markScrub]

@[simp] theorem State.scrubChips_frame (s : State) (n : ℕ) :
    (s.scrubChips n).time = s.time ∧ (s.scrubChips n).pending = s.pending ∧ (s.scrubChips n).held = s.held ∧
    (s.scrubChips n).latch = s.latch ∧ (s.scrubChips n).pow = s.pow ∧ (s.scrubChips n).ident = s.ident ∧ (s.scrubChips n).noc = s.noc ∧
    (s.scrubChips n).ports = s.ports ∧ (s.scrubChips n).torus = s.torus ∧ (s.scrubChips n).flash = s.flash := by
  simp [State.scrubChips]

@[simp] theorem State.scrubEnd_frame (s : State) (n : ℕ) :
    (s.scrubEnd n).time = s.time ∧ (s.scrubEnd n).pending = s.pending ∧ (s.scrubEnd n).held = s.held ∧ (s.scrubEnd n).latch = s.latch ∧
    (s.scrubEnd n).boot = s.boot ∧ (s.scrubEnd n).pow = s.pow ∧ (s.scrubEnd n).obs = s.obs ∧ (s.scrubEnd n).ident = s.ident ∧
    (s.scrubEnd n).noc = s.noc ∧ (s.scrubEnd n).lines = s.lines ∧ (s.scrubEnd n).ms = s.ms ∧ (s.scrubEnd n).ports = s.ports ∧
    (s.scrubEnd n).sites = s.sites ∧ (s.scrubEnd n).sdg = s.sdg ∧ (s.scrubEnd n).flash = s.flash := by
  simp [State.scrubEnd]

@[simp] theorem State.tdispError_frame (s : State) (fn : ℕ) :
    (s.tdispError fn).time = s.time ∧ (s.tdispError fn).draws = s.draws ∧ (s.tdispError fn).pending = s.pending ∧
    (s.tdispError fn).hub = s.hub ∧ (s.tdispError fn).held = s.held ∧ (s.tdispError fn).latch = s.latch ∧ (s.tdispError fn).fns = s.fns ∧
    (s.tdispError fn).pce = s.pce ∧ (s.tdispError fn).boot = s.boot ∧ (s.tdispError fn).pow = s.pow ∧ (s.tdispError fn).obs = s.obs ∧
    (s.tdispError fn).ident = s.ident ∧ (s.tdispError fn).noc = s.noc ∧ (s.tdispError fn).lines = s.lines ∧ (s.tdispError fn).ms = s.ms ∧
    (s.tdispError fn).ports = s.ports ∧ (s.tdispError fn).torus = s.torus ∧ (s.tdispError fn).sites = s.sites ∧
    (s.tdispError fn).sec = s.sec ∧ (s.tdispError fn).sdg = s.sdg ∧ (s.tdispError fn).groups = s.groups ∧ (s.tdispError fn).mem = s.mem ∧
    (s.tdispError fn).poison = s.poison ∧ (s.tdispError fn).flash = s.flash := by
  simp [State.tdispError]

@[simp] theorem State.errorAll_frame (s : State) (gs : List ℕ) (clears : Bool) :
    (s.errorAll gs clears).time = s.time ∧ (s.errorAll gs clears).draws = s.draws ∧ (s.errorAll gs clears).pending = s.pending ∧
    (s.errorAll gs clears).held = s.held ∧ (s.errorAll gs clears).latch = s.latch ∧ (s.errorAll gs clears).boot = s.boot ∧
    (s.errorAll gs clears).pow = s.pow ∧ (s.errorAll gs clears).obs = s.obs ∧ (s.errorAll gs clears).ident = s.ident ∧
    (s.errorAll gs clears).noc = s.noc ∧ (s.errorAll gs clears).lines = s.lines ∧ (s.errorAll gs clears).ports = s.ports ∧
    (s.errorAll gs clears).torus = s.torus ∧ (s.errorAll gs clears).sec = s.sec ∧ (s.errorAll gs clears).sdg = s.sdg ∧
    (s.errorAll gs clears).flash = s.flash := by
  simp [State.errorAll]

@[simp] theorem State.absentLine_frame (s : State) (line : ℕ) :
    (s.absentLine line).time = s.time ∧ (s.absentLine line).draws = s.draws ∧ (s.absentLine line).pending = s.pending ∧
    (s.absentLine line).held = s.held ∧ (s.absentLine line).latch = s.latch ∧ (s.absentLine line).pow = s.pow ∧
    (s.absentLine line).ident = s.ident ∧ (s.absentLine line).noc = s.noc ∧ (s.absentLine line).ports = s.ports ∧
    (s.absentLine line).torus = s.torus ∧ (s.absentLine line).sec = s.sec ∧ (s.absentLine line).flash = s.flash := by
  simp [State.absentLine]

@[simp] theorem State.fenceSlice_frame (s : State) (phys : ℕ) (cause : ℕ) :
    (s.fenceSlice phys cause).time = s.time ∧ (s.fenceSlice phys cause).draws = s.draws ∧ (s.fenceSlice phys cause).pending = s.pending ∧
    (s.fenceSlice phys cause).held = s.held ∧ (s.fenceSlice phys cause).latch = s.latch ∧ (s.fenceSlice phys cause).pow = s.pow ∧
    (s.fenceSlice phys cause).ident = s.ident ∧ (s.fenceSlice phys cause).ports = s.ports ∧ (s.fenceSlice phys cause).torus = s.torus ∧
    (s.fenceSlice phys cause).sec = s.sec ∧ (s.fenceSlice phys cause).flash = s.flash := by
  unfold State.fenceSlice; (repeat' split) <;> simp

@[simp] theorem State.fenceNamed_frame (s : State) (kind : ℕ) (unit : ℕ) (cause : ℕ) :
    (s.fenceNamed kind unit cause).time = s.time ∧ (s.fenceNamed kind unit cause).pending = s.pending ∧
    (s.fenceNamed kind unit cause).held = s.held ∧ (s.fenceNamed kind unit cause).latch = s.latch ∧
    (s.fenceNamed kind unit cause).pow = s.pow ∧ (s.fenceNamed kind unit cause).ident = s.ident := by
  simp [State.fenceNamed]

@[simp] theorem State.countSramUe_frame (s : State) (kind : ℕ) (unit : ℕ) :
    (s.countSramUe kind unit).time = s.time ∧ (s.countSramUe kind unit).pending = s.pending ∧ (s.countSramUe kind unit).held = s.held ∧
    (s.countSramUe kind unit).latch = s.latch ∧ (s.countSramUe kind unit).pow = s.pow ∧ (s.countSramUe kind unit).ident = s.ident := by
  simp [State.countSramUe]

@[simp] theorem State.sramError_frame (s : State) (r : Report) :
    (s.sramError r).time = s.time ∧ (s.sramError r).pending = s.pending ∧ (s.sramError r).held = s.held ∧ (s.sramError r).latch = s.latch ∧
    (s.sramError r).pow = s.pow ∧ (s.sramError r).ident = s.ident := by
  simp [State.sramError]

@[simp] theorem State.poisonAll_frame (s : State) (gs : List ℕ) (line : ℕ) :
    (s.poisonAll gs line).time = s.time ∧ (s.poisonAll gs line).draws = s.draws ∧ (s.poisonAll gs line).tx = s.tx ∧
    (s.poisonAll gs line).pending = s.pending ∧ (s.poisonAll gs line).hub = s.hub ∧ (s.poisonAll gs line).held = s.held ∧
    (s.poisonAll gs line).latch = s.latch ∧ (s.poisonAll gs line).pce = s.pce ∧ (s.poisonAll gs line).boot = s.boot ∧
    (s.poisonAll gs line).pow = s.pow ∧ (s.poisonAll gs line).obs = s.obs ∧ (s.poisonAll gs line).ident = s.ident ∧
    (s.poisonAll gs line).noc = s.noc ∧ (s.poisonAll gs line).lines = s.lines ∧ (s.poisonAll gs line).ms = s.ms ∧
    (s.poisonAll gs line).ports = s.ports ∧ (s.poisonAll gs line).torus = s.torus ∧ (s.poisonAll gs line).sites = s.sites ∧
    (s.poisonAll gs line).sec = s.sec ∧ (s.poisonAll gs line).sdg = s.sdg ∧ (s.poisonAll gs line).mem = s.mem ∧
    (s.poisonAll gs line).poison = s.poison ∧ (s.poisonAll gs line).flash = s.flash := by
  simp [State.poisonAll]

@[simp] theorem State.hbmError_frame (s : State) (r : Report) (e : EccResult) :
    (s.hbmError r e).time = s.time ∧ (s.hbmError r e).draws = s.draws ∧ (s.hbmError r e).pending = s.pending ∧
    (s.hbmError r e).held = s.held ∧ (s.hbmError r e).latch = s.latch ∧ (s.hbmError r e).pow = s.pow ∧ (s.hbmError r e).ident = s.ident ∧
    (s.hbmError r e).ports = s.ports ∧ (s.hbmError r e).torus = s.torus ∧ (s.hbmError r e).sec = s.sec ∧
    (s.hbmError r e).flash = s.flash := by
  simp [State.hbmError]

@[simp] theorem State.integrityError_frame (s : State) (r : Report) :
    (s.integrityError r).time = s.time ∧ (s.integrityError r).draws = s.draws ∧ (s.integrityError r).pending = s.pending ∧
    (s.integrityError r).held = s.held ∧ (s.integrityError r).latch = s.latch ∧ (s.integrityError r).pow = s.pow ∧
    (s.integrityError r).ident = s.ident ∧ (s.integrityError r).noc = s.noc ∧ (s.integrityError r).lines = s.lines ∧
    (s.integrityError r).ports = s.ports ∧ (s.integrityError r).torus = s.torus ∧ (s.integrityError r).sec = s.sec ∧
    (s.integrityError r).flash = s.flash := by
  simp [State.integrityError]

@[simp] theorem State.denyAll_frame (s : State) (gs : List ℕ) :
    (s.denyAll gs).time = s.time ∧ (s.denyAll gs).draws = s.draws ∧ (s.denyAll gs).tx = s.tx ∧ (s.denyAll gs).pending = s.pending ∧
    (s.denyAll gs).hub = s.hub ∧ (s.denyAll gs).held = s.held ∧ (s.denyAll gs).latch = s.latch ∧ (s.denyAll gs).fns = s.fns ∧
    (s.denyAll gs).pce = s.pce ∧ (s.denyAll gs).boot = s.boot ∧ (s.denyAll gs).pow = s.pow ∧ (s.denyAll gs).obs = s.obs ∧
    (s.denyAll gs).ident = s.ident ∧ (s.denyAll gs).noc = s.noc ∧ (s.denyAll gs).lines = s.lines ∧ (s.denyAll gs).ms = s.ms ∧
    (s.denyAll gs).ports = s.ports ∧ (s.denyAll gs).torus = s.torus ∧ (s.denyAll gs).sites = s.sites ∧ (s.denyAll gs).sec = s.sec ∧
    (s.denyAll gs).sdg = s.sdg ∧ (s.denyAll gs).mem = s.mem ∧ (s.denyAll gs).poison = s.poison ∧ (s.denyAll gs).flash = s.flash := by
  simp [State.denyAll]

@[simp] theorem State.pasturePoison_frame (s : State) (r : Report) :
    (s.pasturePoison r).time = s.time ∧ (s.pasturePoison r).draws = s.draws ∧ (s.pasturePoison r).pending = s.pending ∧
    (s.pasturePoison r).held = s.held ∧ (s.pasturePoison r).latch = s.latch ∧ (s.pasturePoison r).pow = s.pow ∧
    (s.pasturePoison r).ident = s.ident ∧ (s.pasturePoison r).noc = s.noc ∧ (s.pasturePoison r).lines = s.lines ∧
    (s.pasturePoison r).ports = s.ports ∧ (s.pasturePoison r).torus = s.torus ∧ (s.pasturePoison r).sec = s.sec ∧
    (s.pasturePoison r).flash = s.flash := by
  unfold State.pasturePoison
  dsimp only
  split <;> simp

@[simp] theorem State.bucketDamaged_frame (s : State) (r : Report) :
    (s.bucketDamaged r).time = s.time ∧ (s.bucketDamaged r).draws = s.draws ∧ (s.bucketDamaged r).pending = s.pending ∧
    (s.bucketDamaged r).held = s.held ∧ (s.bucketDamaged r).latch = s.latch ∧ (s.bucketDamaged r).pow = s.pow ∧
    (s.bucketDamaged r).ident = s.ident ∧ (s.bucketDamaged r).noc = s.noc ∧ (s.bucketDamaged r).lines = s.lines ∧
    (s.bucketDamaged r).ports = s.ports ∧ (s.bucketDamaged r).torus = s.torus ∧ (s.bucketDamaged r).sec = s.sec ∧
    (s.bucketDamaged r).flash = s.flash := by
  unfold State.bucketDamaged
  split <;> simp

@[simp] theorem State.bucketRebuilt_frame (s : State) (r : Report) :
    (s.bucketRebuilt r).time = s.time ∧ (s.bucketRebuilt r).draws = s.draws ∧ (s.bucketRebuilt r).pending = s.pending ∧
    (s.bucketRebuilt r).held = s.held ∧ (s.bucketRebuilt r).latch = s.latch ∧ (s.bucketRebuilt r).pow = s.pow ∧
    (s.bucketRebuilt r).ident = s.ident ∧ (s.bucketRebuilt r).noc = s.noc ∧ (s.bucketRebuilt r).lines = s.lines ∧
    (s.bucketRebuilt r).ports = s.ports ∧ (s.bucketRebuilt r).torus = s.torus ∧ (s.bucketRebuilt r).sec = s.sec ∧
    (s.bucketRebuilt r).flash = s.flash := by
  unfold State.bucketRebuilt
  split <;> simp

@[simp] theorem State.react_frame (s : State) (r : Report) :
    (s.react r).time = s.time ∧ (s.react r).pending = s.pending ∧ (s.react r).held = s.held ∧ (s.react r).latch = s.latch ∧
    (s.react r).pow = s.pow ∧ (s.react r).ident = s.ident := by
  simp [State.react]

@[simp] theorem State.takeReport_frame (s : State) (r : Report) :
    (s.takeReport r).time = s.time ∧ (s.takeReport r).pending = s.pending ∧ (s.takeReport r).held = s.held ∧
    (s.takeReport r).latch = s.latch ∧ (s.takeReport r).pow = s.pow ∧ (s.takeReport r).ident = s.ident := by
  simp [State.takeReport]

@[simp] theorem State.releaseSlot_frame (s : State) (k : ℕ) :
    (s.releaseSlot k).time = s.time ∧ (s.releaseSlot k).draws = s.draws ∧ (s.releaseSlot k).tx = s.tx ∧
    (s.releaseSlot k).pending = s.pending ∧ (s.releaseSlot k).hub = s.hub ∧ (s.releaseSlot k).held = s.held ∧
    (s.releaseSlot k).latch = s.latch ∧ (s.releaseSlot k).fns = s.fns ∧ (s.releaseSlot k).pce = s.pce ∧ (s.releaseSlot k).boot = s.boot ∧
    (s.releaseSlot k).pow = s.pow ∧ (s.releaseSlot k).obs = s.obs ∧ (s.releaseSlot k).ident = s.ident ∧ (s.releaseSlot k).noc = s.noc ∧
    (s.releaseSlot k).lines = s.lines ∧ (s.releaseSlot k).ms = s.ms ∧ (s.releaseSlot k).ports = s.ports ∧
    (s.releaseSlot k).torus = s.torus ∧ (s.releaseSlot k).sites = s.sites ∧ (s.releaseSlot k).sec = s.sec ∧
    (s.releaseSlot k).groups = s.groups ∧ (s.releaseSlot k).mem = s.mem ∧ (s.releaseSlot k).poison = s.poison ∧
    (s.releaseSlot k).flash = s.flash := by
  unfold State.releaseSlot; (repeat' split) <;> simp

@[simp] theorem State.endCommit_frame (s : State) (result : ℕ) :
    (s.endCommit result).time = s.time ∧ (s.endCommit result).draws = s.draws ∧ (s.endCommit result).tx = s.tx ∧
    (s.endCommit result).pending = s.pending ∧ (s.endCommit result).held = s.held ∧ (s.endCommit result).latch = s.latch ∧
    (s.endCommit result).fns = s.fns ∧ (s.endCommit result).pce = s.pce ∧ (s.endCommit result).boot = s.boot ∧
    (s.endCommit result).pow = s.pow ∧ (s.endCommit result).obs = s.obs ∧ (s.endCommit result).noc = s.noc ∧
    (s.endCommit result).lines = s.lines ∧ (s.endCommit result).ms = s.ms ∧ (s.endCommit result).ports = s.ports ∧
    (s.endCommit result).torus = s.torus ∧ (s.endCommit result).sites = s.sites ∧ (s.endCommit result).sec = s.sec ∧
    (s.endCommit result).sdg = s.sdg ∧ (s.endCommit result).groups = s.groups ∧ (s.endCommit result).mem = s.mem ∧
    (s.endCommit result).poison = s.poison ∧ (s.endCommit result).flash = s.flash := by
  simp [State.endCommit]

@[simp] theorem State.beginCommit_frame (n : ℕ) (s : State) :
    (State.beginCommit n s).time = s.time ∧ (State.beginCommit n s).draws = s.draws ∧ (State.beginCommit n s).tx = s.tx ∧
    (State.beginCommit n s).pending = s.pending ∧ (State.beginCommit n s).held = s.held ∧ (State.beginCommit n s).latch = s.latch ∧
    (State.beginCommit n s).fns = s.fns ∧ (State.beginCommit n s).pce = s.pce ∧ (State.beginCommit n s).boot = s.boot ∧
    (State.beginCommit n s).pow = s.pow ∧ (State.beginCommit n s).obs = s.obs ∧ (State.beginCommit n s).noc = s.noc ∧
    (State.beginCommit n s).lines = s.lines ∧ (State.beginCommit n s).ms = s.ms ∧ (State.beginCommit n s).ports = s.ports ∧
    (State.beginCommit n s).torus = s.torus ∧ (State.beginCommit n s).sites = s.sites ∧ (State.beginCommit n s).sec = s.sec ∧
    (State.beginCommit n s).sdg = s.sdg ∧ (State.beginCommit n s).groups = s.groups ∧ (State.beginCommit n s).mem = s.mem ∧
    (State.beginCommit n s).poison = s.poison ∧ (State.beginCommit n s).flash = s.flash := by
  induction n generalizing s with
  | zero => simp [State.beginCommit]
  | succ k ih =>
    cases hc : s.ident.commits with
    | nil => simp [State.beginCommit, hc]
    | cons pf l =>
      unfold State.beginCommit
      simp only [hc]
      (repeat' split)
      · simp [ih]
      · simp [ih]
      · simp

@[simp] theorem State.askCommit_frame (s : State) (pf : Bool) :
    (s.askCommit pf).time = s.time ∧ (s.askCommit pf).draws = s.draws ∧ (s.askCommit pf).tx = s.tx ∧ (s.askCommit pf).pending = s.pending ∧
    (s.askCommit pf).held = s.held ∧ (s.askCommit pf).latch = s.latch ∧ (s.askCommit pf).fns = s.fns ∧ (s.askCommit pf).pce = s.pce ∧
    (s.askCommit pf).boot = s.boot ∧ (s.askCommit pf).pow = s.pow ∧ (s.askCommit pf).obs = s.obs ∧ (s.askCommit pf).noc = s.noc ∧
    (s.askCommit pf).lines = s.lines ∧ (s.askCommit pf).ms = s.ms ∧ (s.askCommit pf).ports = s.ports ∧ (s.askCommit pf).torus = s.torus ∧
    (s.askCommit pf).sites = s.sites ∧ (s.askCommit pf).sec = s.sec ∧ (s.askCommit pf).sdg = s.sdg ∧ (s.askCommit pf).groups = s.groups ∧
    (s.askCommit pf).mem = s.mem ∧ (s.askCommit pf).poison = s.poison ∧ (s.askCommit pf).flash = s.flash := by
  simp [State.askCommit]

@[simp] theorem State.powerUp_frame (s : State) (cause : ℕ) :
    (s.powerUp cause).pending = s.pending ∧ (s.powerUp cause).ident = s.ident := by
  simp [State.powerUp]

@[simp] theorem State.powerDown_frame (s : State) :
    s.powerDown.tx = s.tx ∧ s.powerDown.pending = s.pending ∧ s.powerDown.flash = s.flash := by
  simp [State.powerDown]

@[simp] theorem State.quiesceAll_frame (s : State) (n : ℕ) :
    (s.quiesceAll n).time = s.time ∧ (s.quiesceAll n).draws = s.draws ∧ (s.quiesceAll n).tx = s.tx ∧ (s.quiesceAll n).pending = s.pending ∧
    (s.quiesceAll n).hub = s.hub ∧ (s.quiesceAll n).held = s.held ∧ (s.quiesceAll n).latch = s.latch ∧ (s.quiesceAll n).boot = s.boot ∧
    (s.quiesceAll n).pow = s.pow ∧ (s.quiesceAll n).obs = s.obs ∧ (s.quiesceAll n).ident = s.ident ∧ (s.quiesceAll n).noc = s.noc ∧
    (s.quiesceAll n).lines = s.lines ∧ (s.quiesceAll n).ms = s.ms ∧ (s.quiesceAll n).ports = s.ports ∧ (s.quiesceAll n).torus = s.torus ∧
    (s.quiesceAll n).sites = s.sites ∧ (s.quiesceAll n).sec = s.sec ∧ (s.quiesceAll n).sdg = s.sdg ∧ (s.quiesceAll n).groups = s.groups ∧
    (s.quiesceAll n).mem = s.mem ∧ (s.quiesceAll n).poison = s.poison ∧ (s.quiesceAll n).flash = s.flash := by
  simp [State.quiesceAll]

@[simp] theorem State.recoverFn_frame (s : State) (n : ℕ) :
    (s.recoverFn n).time = s.time ∧ (s.recoverFn n).draws = s.draws ∧ (s.recoverFn n).pending = s.pending ∧ (s.recoverFn n).held = s.held ∧
    (s.recoverFn n).latch = s.latch ∧ (s.recoverFn n).pow = s.pow ∧ (s.recoverFn n).ident = s.ident ∧ (s.recoverFn n).noc = s.noc ∧
    (s.recoverFn n).lines = s.lines ∧ (s.recoverFn n).ports = s.ports ∧ (s.recoverFn n).torus = s.torus ∧ (s.recoverFn n).sec = s.sec ∧
    (s.recoverFn n).flash = s.flash := by
  simp [State.recoverFn]

@[simp] theorem State.resumeScrub_frame (s : State) :
    s.resumeScrub.time = s.time ∧ s.resumeScrub.pending = s.pending ∧ s.resumeScrub.held = s.held ∧ s.resumeScrub.latch = s.latch ∧
    s.resumeScrub.pow = s.pow ∧ s.resumeScrub.ident = s.ident ∧ s.resumeScrub.noc = s.noc ∧ s.resumeScrub.ports = s.ports ∧
    s.resumeScrub.torus = s.torus ∧ s.resumeScrub.flash = s.flash := by
  unfold State.resumeScrub; (repeat' split) <;> simp

@[simp] theorem State.recover_frame (s : State) :
    s.recover.time = s.time ∧ s.recover.pending = s.pending ∧ s.recover.held = s.held ∧ s.recover.latch = s.latch ∧ s.recover.pow = s.pow ∧
    s.recover.ident = s.ident ∧ s.recover.noc = s.noc ∧ s.recover.ports = s.ports ∧ s.recover.torus = s.torus ∧
    s.recover.flash = s.flash := by
  simp [State.recover]

@[simp] theorem State.lateFlr_frame (s : State) (n : ℕ) :
    (s.lateFlr n).time = s.time ∧ (s.lateFlr n).draws = s.draws ∧ (s.lateFlr n).pending = s.pending ∧ (s.lateFlr n).held = s.held ∧
    (s.lateFlr n).latch = s.latch ∧ (s.lateFlr n).boot = s.boot ∧ (s.lateFlr n).pow = s.pow ∧ (s.lateFlr n).obs = s.obs ∧
    (s.lateFlr n).ident = s.ident ∧ (s.lateFlr n).noc = s.noc ∧ (s.lateFlr n).lines = s.lines ∧ (s.lateFlr n).ports = s.ports ∧
    (s.lateFlr n).torus = s.torus ∧ (s.lateFlr n).sec = s.sec ∧ (s.lateFlr n).sdg = s.sdg ∧ (s.lateFlr n).flash = s.flash := by
  simp [State.lateFlr]

@[simp] theorem State.makeReady_frame (s : State) :
    s.makeReady.time = s.time ∧ s.makeReady.draws = s.draws ∧ s.makeReady.pending = s.pending ∧ s.makeReady.held = s.held ∧
    s.makeReady.latch = s.latch ∧ s.makeReady.pow = s.pow ∧ s.makeReady.ident = s.ident ∧ s.makeReady.noc = s.noc ∧
    s.makeReady.lines = s.lines ∧ s.makeReady.ports = s.ports ∧ s.makeReady.torus = s.torus ∧ s.makeReady.sec = s.sec := by
  simp [State.makeReady]

@[simp] theorem State.tryReady_frame (s : State) :
    s.tryReady.time = s.time ∧ s.tryReady.draws = s.draws ∧ s.tryReady.pending = s.pending ∧ s.tryReady.held = s.held ∧
    s.tryReady.latch = s.latch ∧ s.tryReady.pow = s.pow ∧ s.tryReady.ident = s.ident ∧ s.tryReady.noc = s.noc ∧ s.tryReady.lines = s.lines ∧
    s.tryReady.ports = s.ports ∧ s.tryReady.torus = s.torus ∧ s.tryReady.sec = s.sec := by
  simp [State.tryReady]

@[simp] theorem State.flashBegin_frame (s : State) (op : ℕ) :
    (s.flashBegin op).time = s.time ∧ (s.flashBegin op).draws = s.draws ∧ (s.flashBegin op).tx = s.tx ∧
    (s.flashBegin op).pending = s.pending ∧ (s.flashBegin op).held = s.held ∧ (s.flashBegin op).latch = s.latch ∧
    (s.flashBegin op).fns = s.fns ∧ (s.flashBegin op).pce = s.pce ∧ (s.flashBegin op).pow = s.pow ∧ (s.flashBegin op).obs = s.obs ∧
    (s.flashBegin op).ident = s.ident ∧ (s.flashBegin op).noc = s.noc ∧ (s.flashBegin op).lines = s.lines ∧ (s.flashBegin op).ms = s.ms ∧
    (s.flashBegin op).ports = s.ports ∧ (s.flashBegin op).torus = s.torus ∧ (s.flashBegin op).sites = s.sites ∧
    (s.flashBegin op).sec = s.sec ∧ (s.flashBegin op).sdg = s.sdg ∧ (s.flashBegin op).groups = s.groups ∧ (s.flashBegin op).mem = s.mem ∧
    (s.flashBegin op).poison = s.poison ∧ (s.flashBegin op).flash = s.flash := by
  simp [State.flashBegin]

@[simp] theorem State.clearFails_frame (s : State) (a : ℕ) :
    (s.clearFails a).time = s.time ∧ (s.clearFails a).draws = s.draws ∧ (s.clearFails a).tx = s.tx ∧ (s.clearFails a).pending = s.pending ∧
    (s.clearFails a).held = s.held ∧ (s.clearFails a).latch = s.latch ∧ (s.clearFails a).fns = s.fns ∧ (s.clearFails a).pce = s.pce ∧
    (s.clearFails a).boot = s.boot ∧ (s.clearFails a).pow = s.pow ∧ (s.clearFails a).obs = s.obs ∧ (s.clearFails a).ident = s.ident ∧
    (s.clearFails a).noc = s.noc ∧ (s.clearFails a).lines = s.lines ∧ (s.clearFails a).ms = s.ms ∧ (s.clearFails a).ports = s.ports ∧
    (s.clearFails a).torus = s.torus ∧ (s.clearFails a).sites = s.sites ∧ (s.clearFails a).sec = s.sec ∧ (s.clearFails a).sdg = s.sdg ∧
    (s.clearFails a).groups = s.groups ∧ (s.clearFails a).mem = s.mem ∧ (s.clearFails a).poison = s.poison := by
  unfold State.clearFails; (repeat' split) <;> simp

@[simp] theorem State.showRail_frame (s : State) (r : ℕ) (measured : ℕ) :
    (s.showRail r measured).time = s.time ∧ (s.showRail r measured).draws = s.draws ∧ (s.showRail r measured).tx = s.tx ∧
    (s.showRail r measured).pending = s.pending ∧ (s.showRail r measured).held = s.held ∧ (s.showRail r measured).latch = s.latch ∧
    (s.showRail r measured).fns = s.fns ∧ (s.showRail r measured).pce = s.pce ∧ (s.showRail r measured).boot = s.boot ∧
    (s.showRail r measured).pow = s.pow ∧ (s.showRail r measured).obs = s.obs ∧ (s.showRail r measured).ident = s.ident ∧
    (s.showRail r measured).noc = s.noc ∧ (s.showRail r measured).lines = s.lines ∧ (s.showRail r measured).ms = s.ms ∧
    (s.showRail r measured).ports = s.ports ∧ (s.showRail r measured).torus = s.torus ∧ (s.showRail r measured).sites = s.sites ∧
    (s.showRail r measured).sec = s.sec ∧ (s.showRail r measured).sdg = s.sdg ∧ (s.showRail r measured).groups = s.groups ∧
    (s.showRail r measured).mem = s.mem ∧ (s.showRail r measured).poison = s.poison ∧ (s.showRail r measured).flash = s.flash := by
  simp [State.showRail]

@[simp] theorem State.setRail_frame (s : State) (r : ℕ) :
    (s.setRail r).time = s.time ∧ (s.setRail r).draws = s.draws ∧ (s.setRail r).tx = s.tx ∧ (s.setRail r).pending = s.pending ∧
    (s.setRail r).held = s.held ∧ (s.setRail r).latch = s.latch ∧ (s.setRail r).fns = s.fns ∧ (s.setRail r).pce = s.pce ∧
    (s.setRail r).boot = s.boot ∧ (s.setRail r).obs = s.obs ∧ (s.setRail r).ident = s.ident ∧ (s.setRail r).noc = s.noc ∧
    (s.setRail r).lines = s.lines ∧ (s.setRail r).ms = s.ms ∧ (s.setRail r).ports = s.ports ∧ (s.setRail r).torus = s.torus ∧
    (s.setRail r).sites = s.sites ∧ (s.setRail r).sec = s.sec ∧ (s.setRail r).sdg = s.sdg ∧ (s.setRail r).groups = s.groups ∧
    (s.setRail r).mem = s.mem ∧ (s.setRail r).poison = s.poison ∧ (s.setRail r).flash = s.flash := by
  simp [State.setRail]

@[simp] theorem State.setRails_frame (s : State) :
    s.setRails.time = s.time ∧ s.setRails.draws = s.draws ∧ s.setRails.tx = s.tx ∧ s.setRails.pending = s.pending ∧
    s.setRails.held = s.held ∧ s.setRails.latch = s.latch ∧ s.setRails.fns = s.fns ∧ s.setRails.pce = s.pce ∧ s.setRails.boot = s.boot ∧
    s.setRails.obs = s.obs ∧ s.setRails.ident = s.ident ∧ s.setRails.noc = s.noc ∧ s.setRails.lines = s.lines ∧ s.setRails.ms = s.ms ∧
    s.setRails.ports = s.ports ∧ s.setRails.torus = s.torus ∧ s.setRails.sites = s.sites ∧ s.setRails.sec = s.sec ∧ s.setRails.sdg = s.sdg ∧
    s.setRails.groups = s.groups ∧ s.setRails.mem = s.mem ∧ s.setRails.poison = s.poison ∧ s.setRails.flash = s.flash := by
  simp [State.setRails]

@[simp] theorem State.throttleSites_frame (s : State) (pct : ℕ) :
    (s.throttleSites pct).time = s.time ∧ (s.throttleSites pct).draws = s.draws ∧ (s.throttleSites pct).pending = s.pending ∧
    (s.throttleSites pct).held = s.held ∧ (s.throttleSites pct).latch = s.latch ∧ (s.throttleSites pct).fns = s.fns ∧
    (s.throttleSites pct).pce = s.pce ∧ (s.throttleSites pct).boot = s.boot ∧ (s.throttleSites pct).obs = s.obs ∧
    (s.throttleSites pct).ident = s.ident ∧ (s.throttleSites pct).noc = s.noc ∧ (s.throttleSites pct).lines = s.lines ∧
    (s.throttleSites pct).ms = s.ms ∧ (s.throttleSites pct).ports = s.ports ∧ (s.throttleSites pct).torus = s.torus ∧
    (s.throttleSites pct).sites = s.sites ∧ (s.throttleSites pct).sec = s.sec ∧ (s.throttleSites pct).sdg = s.sdg ∧
    (s.throttleSites pct).groups = s.groups ∧ (s.throttleSites pct).mem = s.mem ∧ (s.throttleSites pct).poison = s.poison ∧
    (s.throttleSites pct).flash = s.flash := by
  simp [State.throttleSites]

@[simp] theorem State.moveTileCaps_frame (s : State) (g : ℕ → ℕ → ℕ) :
    (s.moveTileCaps g).time = s.time ∧ (s.moveTileCaps g).draws = s.draws ∧ (s.moveTileCaps g).tx = s.tx ∧
    (s.moveTileCaps g).pending = s.pending ∧ (s.moveTileCaps g).hub = s.hub ∧ (s.moveTileCaps g).held = s.held ∧
    (s.moveTileCaps g).latch = s.latch ∧ (s.moveTileCaps g).fns = s.fns ∧ (s.moveTileCaps g).pce = s.pce ∧
    (s.moveTileCaps g).boot = s.boot ∧ (s.moveTileCaps g).obs = s.obs ∧ (s.moveTileCaps g).ident = s.ident ∧
    (s.moveTileCaps g).noc = s.noc ∧ (s.moveTileCaps g).lines = s.lines ∧ (s.moveTileCaps g).ms = s.ms ∧
    (s.moveTileCaps g).ports = s.ports ∧ (s.moveTileCaps g).torus = s.torus ∧ (s.moveTileCaps g).sites = s.sites ∧
    (s.moveTileCaps g).sec = s.sec ∧ (s.moveTileCaps g).sdg = s.sdg ∧ (s.moveTileCaps g).groups = s.groups ∧
    (s.moveTileCaps g).mem = s.mem ∧ (s.moveTileCaps g).poison = s.poison ∧ (s.moveTileCaps g).flash = s.flash := by
  simp [State.moveTileCaps]

@[simp] theorem State.moveHubCap_frame (s : State) (g : ℕ → ℕ → ℕ) :
    (s.moveHubCap g).time = s.time ∧ (s.moveHubCap g).draws = s.draws ∧ (s.moveHubCap g).tx = s.tx ∧ (s.moveHubCap g).pending = s.pending ∧
    (s.moveHubCap g).hub = s.hub ∧ (s.moveHubCap g).held = s.held ∧ (s.moveHubCap g).latch = s.latch ∧ (s.moveHubCap g).fns = s.fns ∧
    (s.moveHubCap g).pce = s.pce ∧ (s.moveHubCap g).boot = s.boot ∧ (s.moveHubCap g).obs = s.obs ∧ (s.moveHubCap g).ident = s.ident ∧
    (s.moveHubCap g).noc = s.noc ∧ (s.moveHubCap g).lines = s.lines ∧ (s.moveHubCap g).ms = s.ms ∧ (s.moveHubCap g).ports = s.ports ∧
    (s.moveHubCap g).torus = s.torus ∧ (s.moveHubCap g).sites = s.sites ∧ (s.moveHubCap g).sec = s.sec ∧ (s.moveHubCap g).sdg = s.sdg ∧
    (s.moveHubCap g).groups = s.groups ∧ (s.moveHubCap g).mem = s.mem ∧ (s.moveHubCap g).poison = s.poison ∧
    (s.moveHubCap g).flash = s.flash := by
  simp [State.moveHubCap]

@[simp] theorem State.capDown_frame (s : State) :
    s.capDown.time = s.time ∧ s.capDown.draws = s.draws ∧ s.capDown.pending = s.pending ∧ s.capDown.held = s.held ∧
    s.capDown.latch = s.latch ∧ s.capDown.fns = s.fns ∧ s.capDown.pce = s.pce ∧ s.capDown.boot = s.boot ∧ s.capDown.obs = s.obs ∧
    s.capDown.ident = s.ident ∧ s.capDown.noc = s.noc ∧ s.capDown.lines = s.lines ∧ s.capDown.ms = s.ms ∧ s.capDown.ports = s.ports ∧
    s.capDown.torus = s.torus ∧ s.capDown.sites = s.sites ∧ s.capDown.sec = s.sec ∧ s.capDown.sdg = s.sdg ∧ s.capDown.groups = s.groups ∧
    s.capDown.mem = s.mem ∧ s.capDown.poison = s.poison ∧ s.capDown.flash = s.flash := by
  simp [State.capDown]

@[simp] theorem State.capUp_frame (s : State) :
    s.capUp.time = s.time ∧ s.capUp.draws = s.draws ∧ s.capUp.pending = s.pending ∧ s.capUp.held = s.held ∧ s.capUp.latch = s.latch ∧
    s.capUp.fns = s.fns ∧ s.capUp.pce = s.pce ∧ s.capUp.boot = s.boot ∧ s.capUp.obs = s.obs ∧ s.capUp.ident = s.ident ∧
    s.capUp.noc = s.noc ∧ s.capUp.lines = s.lines ∧ s.capUp.ms = s.ms ∧ s.capUp.ports = s.ports ∧ s.capUp.torus = s.torus ∧
    s.capUp.sites = s.sites ∧ s.capUp.sec = s.sec ∧ s.capUp.sdg = s.sdg ∧ s.capUp.groups = s.groups ∧ s.capUp.mem = s.mem ∧
    s.capUp.poison = s.poison ∧ s.capUp.flash = s.flash := by
  unfold State.capUp; (repeat' split) <;> simp

@[simp] theorem State.capLoop_frame (s : State) (meanW : ℕ) :
    (s.capLoop meanW).time = s.time ∧ (s.capLoop meanW).draws = s.draws ∧ (s.capLoop meanW).pending = s.pending ∧
    (s.capLoop meanW).held = s.held ∧ (s.capLoop meanW).latch = s.latch ∧ (s.capLoop meanW).fns = s.fns ∧ (s.capLoop meanW).pce = s.pce ∧
    (s.capLoop meanW).boot = s.boot ∧ (s.capLoop meanW).obs = s.obs ∧ (s.capLoop meanW).ident = s.ident ∧ (s.capLoop meanW).noc = s.noc ∧
    (s.capLoop meanW).lines = s.lines ∧ (s.capLoop meanW).ms = s.ms ∧ (s.capLoop meanW).ports = s.ports ∧
    (s.capLoop meanW).torus = s.torus ∧ (s.capLoop meanW).sites = s.sites ∧ (s.capLoop meanW).sec = s.sec ∧ (s.capLoop meanW).sdg = s.sdg ∧
    (s.capLoop meanW).groups = s.groups ∧ (s.capLoop meanW).mem = s.mem ∧ (s.capLoop meanW).poison = s.poison ∧
    (s.capLoop meanW).flash = s.flash := by
  simp [State.capLoop]

@[simp] theorem State.msWindow_frame (s : State) (meanW : ℕ) (inputV10 : ℕ) :
    (s.msWindow meanW inputV10).time = s.time ∧ (s.msWindow meanW inputV10).draws = s.draws ∧ (s.msWindow meanW inputV10).tx = s.tx ∧
    (s.msWindow meanW inputV10).pending = s.pending ∧ (s.msWindow meanW inputV10).held = s.held ∧
    (s.msWindow meanW inputV10).latch = s.latch ∧ (s.msWindow meanW inputV10).fns = s.fns ∧ (s.msWindow meanW inputV10).pce = s.pce ∧
    (s.msWindow meanW inputV10).boot = s.boot ∧ (s.msWindow meanW inputV10).obs = s.obs ∧ (s.msWindow meanW inputV10).ident = s.ident ∧
    (s.msWindow meanW inputV10).noc = s.noc ∧ (s.msWindow meanW inputV10).lines = s.lines ∧ (s.msWindow meanW inputV10).ms = s.ms ∧
    (s.msWindow meanW inputV10).ports = s.ports ∧ (s.msWindow meanW inputV10).torus = s.torus ∧
    (s.msWindow meanW inputV10).sites = s.sites ∧ (s.msWindow meanW inputV10).sec = s.sec ∧ (s.msWindow meanW inputV10).sdg = s.sdg ∧
    (s.msWindow meanW inputV10).groups = s.groups ∧ (s.msWindow meanW inputV10).mem = s.mem ∧
    (s.msWindow meanW inputV10).poison = s.poison ∧ (s.msWindow meanW inputV10).flash = s.flash := by
  simp [State.msWindow]

@[simp] theorem State.setFloor_frame (s : State) (r : ℕ) (v : ℕ) :
    (s.setFloor r v).time = s.time ∧ (s.setFloor r v).draws = s.draws ∧ (s.setFloor r v).tx = s.tx ∧ (s.setFloor r v).pending = s.pending ∧
    (s.setFloor r v).held = s.held ∧ (s.setFloor r v).latch = s.latch ∧ (s.setFloor r v).fns = s.fns ∧ (s.setFloor r v).pce = s.pce ∧
    (s.setFloor r v).boot = s.boot ∧ (s.setFloor r v).obs = s.obs ∧ (s.setFloor r v).ident = s.ident ∧ (s.setFloor r v).noc = s.noc ∧
    (s.setFloor r v).lines = s.lines ∧ (s.setFloor r v).ms = s.ms ∧ (s.setFloor r v).ports = s.ports ∧ (s.setFloor r v).torus = s.torus ∧
    (s.setFloor r v).sites = s.sites ∧ (s.setFloor r v).sec = s.sec ∧ (s.setFloor r v).sdg = s.sdg ∧ (s.setFloor r v).groups = s.groups ∧
    (s.setFloor r v).mem = s.mem ∧ (s.setFloor r v).poison = s.poison ∧ (s.setFloor r v).flash = s.flash := by
  simp [State.setFloor]

@[simp] theorem State.marginUc_frame (s : State) (kind : ℕ) (unit : ℕ) (phys : ℕ) :
    (s.marginUc kind unit phys).time = s.time ∧ (s.marginUc kind unit phys).pending = s.pending ∧
    (s.marginUc kind unit phys).held = s.held ∧ (s.marginUc kind unit phys).latch = s.latch ∧ (s.marginUc kind unit phys).pow = s.pow ∧
    (s.marginUc kind unit phys).ident = s.ident := by
  simp [State.marginUc]

@[simp] theorem State.dropLate_frame (s : State) (r : ℕ) :
    (s.dropLate r).time = s.time ∧ (s.dropLate r).draws = s.draws ∧ (s.dropLate r).tx = s.tx ∧ (s.dropLate r).pending = s.pending ∧
    (s.dropLate r).hub = s.hub ∧ (s.dropLate r).held = s.held ∧ (s.dropLate r).latch = s.latch ∧ (s.dropLate r).fns = s.fns ∧
    (s.dropLate r).pce = s.pce ∧ (s.dropLate r).boot = s.boot ∧ (s.dropLate r).obs = s.obs ∧ (s.dropLate r).ident = s.ident ∧
    (s.dropLate r).noc = s.noc ∧ (s.dropLate r).lines = s.lines ∧ (s.dropLate r).ms = s.ms ∧ (s.dropLate r).ports = s.ports ∧
    (s.dropLate r).torus = s.torus ∧ (s.dropLate r).sites = s.sites ∧ (s.dropLate r).sec = s.sec ∧ (s.dropLate r).sdg = s.sdg ∧
    (s.dropLate r).groups = s.groups ∧ (s.dropLate r).mem = s.mem ∧ (s.dropLate r).poison = s.poison ∧ (s.dropLate r).flash = s.flash := by
  simp [State.dropLate]

@[simp] theorem State.thermMove_frame (s : State) (r : ℕ) (temp : ℕ) :
    (s.thermMove r temp).time = s.time ∧ (s.thermMove r temp).draws = s.draws ∧ (s.thermMove r temp).tx = s.tx ∧
    (s.thermMove r temp).pending = s.pending ∧ (s.thermMove r temp).hub = s.hub ∧ (s.thermMove r temp).held = s.held ∧
    (s.thermMove r temp).latch = s.latch ∧ (s.thermMove r temp).fns = s.fns ∧ (s.thermMove r temp).pce = s.pce ∧
    (s.thermMove r temp).boot = s.boot ∧ (s.thermMove r temp).obs = s.obs ∧ (s.thermMove r temp).ident = s.ident ∧
    (s.thermMove r temp).noc = s.noc ∧ (s.thermMove r temp).lines = s.lines ∧ (s.thermMove r temp).ms = s.ms ∧
    (s.thermMove r temp).ports = s.ports ∧ (s.thermMove r temp).torus = s.torus ∧ (s.thermMove r temp).sites = s.sites ∧
    (s.thermMove r temp).sec = s.sec ∧ (s.thermMove r temp).sdg = s.sdg ∧ (s.thermMove r temp).groups = s.groups ∧
    (s.thermMove r temp).mem = s.mem ∧ (s.thermMove r temp).poison = s.poison ∧ (s.thermMove r temp).flash = s.flash := by
  simp [State.thermMove]

@[simp] theorem State.thermMark_frame (s : State) (r : ℕ) (temp : ℕ) :
    (s.thermMark r temp).time = s.time ∧ (s.thermMark r temp).draws = s.draws ∧ (s.thermMark r temp).pending = s.pending ∧
    (s.thermMark r temp).held = s.held ∧ (s.thermMark r temp).latch = s.latch ∧ (s.thermMark r temp).fns = s.fns ∧
    (s.thermMark r temp).boot = s.boot ∧ (s.thermMark r temp).obs = s.obs ∧ (s.thermMark r temp).ident = s.ident ∧
    (s.thermMark r temp).noc = s.noc ∧ (s.thermMark r temp).lines = s.lines ∧ (s.thermMark r temp).ms = s.ms ∧
    (s.thermMark r temp).ports = s.ports ∧ (s.thermMark r temp).torus = s.torus ∧ (s.thermMark r temp).sites = s.sites ∧
    (s.thermMark r temp).sec = s.sec ∧ (s.thermMark r temp).sdg = s.sdg ∧ (s.thermMark r temp).groups = s.groups ∧
    (s.thermMark r temp).mem = s.mem ∧ (s.thermMark r temp).poison = s.poison ∧ (s.thermMark r temp).flash = s.flash := by
  simp [State.thermMark]

@[simp] theorem State.thermRead_frame (s : State) (r : ℕ) (temp : ℕ) :
    (s.thermRead r temp).time = s.time ∧ (s.thermRead r temp).draws = s.draws ∧ (s.thermRead r temp).pending = s.pending ∧
    (s.thermRead r temp).held = s.held ∧ (s.thermRead r temp).latch = s.latch ∧ (s.thermRead r temp).ident = s.ident ∧
    (s.thermRead r temp).noc = s.noc ∧ (s.thermRead r temp).lines = s.lines ∧ (s.thermRead r temp).ports = s.ports ∧
    (s.thermRead r temp).torus = s.torus ∧ (s.thermRead r temp).sec = s.sec ∧ (s.thermRead r temp).flash = s.flash := by
  simp [State.thermRead]

@[simp] theorem State.showEyes_frame (s : State) (stack : ℕ) :
    (s.showEyes stack).time = s.time ∧ (s.showEyes stack).draws = s.draws ∧ (s.showEyes stack).tx = s.tx ∧
    (s.showEyes stack).pending = s.pending ∧ (s.showEyes stack).held = s.held ∧ (s.showEyes stack).latch = s.latch ∧
    (s.showEyes stack).fns = s.fns ∧ (s.showEyes stack).pce = s.pce ∧ (s.showEyes stack).boot = s.boot ∧ (s.showEyes stack).pow = s.pow ∧
    (s.showEyes stack).obs = s.obs ∧ (s.showEyes stack).ident = s.ident ∧ (s.showEyes stack).noc = s.noc ∧
    (s.showEyes stack).lines = s.lines ∧ (s.showEyes stack).ms = s.ms ∧ (s.showEyes stack).ports = s.ports ∧
    (s.showEyes stack).torus = s.torus ∧ (s.showEyes stack).sites = s.sites ∧ (s.showEyes stack).sec = s.sec ∧
    (s.showEyes stack).sdg = s.sdg ∧ (s.showEyes stack).groups = s.groups ∧ (s.showEyes stack).mem = s.mem ∧
    (s.showEyes stack).poison = s.poison ∧ (s.showEyes stack).flash = s.flash := by
  simp [State.showEyes]

@[simp] theorem State.resetTally_frame (s : State) :
    s.resetTally.time = s.time ∧ s.resetTally.draws = s.draws ∧ s.resetTally.tx = s.tx ∧ s.resetTally.pending = s.pending ∧
    s.resetTally.held = s.held ∧ s.resetTally.latch = s.latch ∧ s.resetTally.fns = s.fns ∧ s.resetTally.pce = s.pce ∧
    s.resetTally.boot = s.boot ∧ s.resetTally.pow = s.pow ∧ s.resetTally.obs = s.obs ∧ s.resetTally.ident = s.ident ∧
    s.resetTally.noc = s.noc ∧ s.resetTally.lines = s.lines ∧ s.resetTally.ms = s.ms ∧ s.resetTally.ports = s.ports ∧
    s.resetTally.torus = s.torus ∧ s.resetTally.sites = s.sites ∧ s.resetTally.sec = s.sec ∧ s.resetTally.sdg = s.sdg ∧
    s.resetTally.groups = s.groups ∧ s.resetTally.mem = s.mem ∧ s.resetTally.poison = s.poison ∧ s.resetTally.flash = s.flash := by
  simp [State.resetTally]

@[simp] theorem State.takeSnapshot_frame (s : State) :
    s.takeSnapshot.time = s.time ∧ s.takeSnapshot.draws = s.draws ∧ s.takeSnapshot.tx = s.tx ∧ s.takeSnapshot.pending = s.pending ∧
    s.takeSnapshot.held = s.held ∧ s.takeSnapshot.latch = s.latch ∧ s.takeSnapshot.fns = s.fns ∧ s.takeSnapshot.pce = s.pce ∧
    s.takeSnapshot.boot = s.boot ∧ s.takeSnapshot.pow = s.pow ∧ s.takeSnapshot.obs = s.obs ∧ s.takeSnapshot.ident = s.ident ∧
    s.takeSnapshot.noc = s.noc ∧ s.takeSnapshot.lines = s.lines ∧ s.takeSnapshot.ms = s.ms ∧ s.takeSnapshot.ports = s.ports ∧
    s.takeSnapshot.torus = s.torus ∧ s.takeSnapshot.sites = s.sites ∧ s.takeSnapshot.sec = s.sec ∧ s.takeSnapshot.sdg = s.sdg ∧
    s.takeSnapshot.groups = s.groups ∧ s.takeSnapshot.mem = s.mem ∧ s.takeSnapshot.poison = s.poison ∧ s.takeSnapshot.flash = s.flash := by
  simp [State.takeSnapshot]

@[simp] theorem State.probeOffer_frame (s : State) (k : ℕ) (b : ℕ) (f : SeenFlit) :
    (s.probeOffer k b f).time = s.time ∧ (s.probeOffer k b f).draws = s.draws ∧ (s.probeOffer k b f).tx = s.tx ∧
    (s.probeOffer k b f).pending = s.pending ∧ (s.probeOffer k b f).held = s.held ∧ (s.probeOffer k b f).latch = s.latch ∧
    (s.probeOffer k b f).fns = s.fns ∧ (s.probeOffer k b f).pce = s.pce ∧ (s.probeOffer k b f).boot = s.boot ∧
    (s.probeOffer k b f).pow = s.pow ∧ (s.probeOffer k b f).ident = s.ident ∧ (s.probeOffer k b f).noc = s.noc ∧
    (s.probeOffer k b f).lines = s.lines ∧ (s.probeOffer k b f).ms = s.ms ∧ (s.probeOffer k b f).ports = s.ports ∧
    (s.probeOffer k b f).torus = s.torus ∧ (s.probeOffer k b f).sites = s.sites ∧ (s.probeOffer k b f).sec = s.sec ∧
    (s.probeOffer k b f).sdg = s.sdg ∧ (s.probeOffer k b f).groups = s.groups ∧ (s.probeOffer k b f).mem = s.mem ∧
    (s.probeOffer k b f).poison = s.poison ∧ (s.probeOffer k b f).flash = s.flash := by
  simp [State.probeOffer]

@[simp] theorem State.probeHit_frame (s : State) (k : ℕ) (f : SeenFlit) :
    (s.probeHit k f).time = s.time ∧ (s.probeHit k f).draws = s.draws ∧ (s.probeHit k f).tx = s.tx ∧ (s.probeHit k f).pending = s.pending ∧
    (s.probeHit k f).held = s.held ∧ (s.probeHit k f).latch = s.latch ∧ (s.probeHit k f).fns = s.fns ∧ (s.probeHit k f).pce = s.pce ∧
    (s.probeHit k f).boot = s.boot ∧ (s.probeHit k f).pow = s.pow ∧ (s.probeHit k f).ident = s.ident ∧ (s.probeHit k f).noc = s.noc ∧
    (s.probeHit k f).lines = s.lines ∧ (s.probeHit k f).ms = s.ms ∧ (s.probeHit k f).ports = s.ports ∧ (s.probeHit k f).torus = s.torus ∧
    (s.probeHit k f).sites = s.sites ∧ (s.probeHit k f).sec = s.sec ∧ (s.probeHit k f).sdg = s.sdg ∧ (s.probeHit k f).groups = s.groups ∧
    (s.probeHit k f).flash = s.flash := by
  simp [State.probeHit]

@[simp] theorem State.trcAdmit_frame (s : State) (n : ℕ) :
    (s.trcAdmit n).time = s.time ∧ (s.trcAdmit n).draws = s.draws ∧ (s.trcAdmit n).tx = s.tx ∧ (s.trcAdmit n).pending = s.pending ∧
    (s.trcAdmit n).hub = s.hub ∧ (s.trcAdmit n).held = s.held ∧ (s.trcAdmit n).latch = s.latch ∧ (s.trcAdmit n).fns = s.fns ∧
    (s.trcAdmit n).pce = s.pce ∧ (s.trcAdmit n).boot = s.boot ∧ (s.trcAdmit n).pow = s.pow ∧ (s.trcAdmit n).ident = s.ident ∧
    (s.trcAdmit n).noc = s.noc ∧ (s.trcAdmit n).lines = s.lines ∧ (s.trcAdmit n).ms = s.ms ∧ (s.trcAdmit n).ports = s.ports ∧
    (s.trcAdmit n).torus = s.torus ∧ (s.trcAdmit n).sites = s.sites ∧ (s.trcAdmit n).sec = s.sec ∧ (s.trcAdmit n).sdg = s.sdg ∧
    (s.trcAdmit n).groups = s.groups ∧ (s.trcAdmit n).mem = s.mem ∧ (s.trcAdmit n).poison = s.poison ∧ (s.trcAdmit n).flash = s.flash := by
  simp [State.trcAdmit]

@[simp] theorem State.clearDrops_frame (s : State) (b : ℕ) (source : ℕ) :
    (s.clearDrops b source).time = s.time ∧ (s.clearDrops b source).draws = s.draws ∧ (s.clearDrops b source).tx = s.tx ∧
    (s.clearDrops b source).pending = s.pending ∧ (s.clearDrops b source).hub = s.hub ∧ (s.clearDrops b source).held = s.held ∧
    (s.clearDrops b source).latch = s.latch ∧ (s.clearDrops b source).fns = s.fns ∧ (s.clearDrops b source).pce = s.pce ∧
    (s.clearDrops b source).boot = s.boot ∧ (s.clearDrops b source).pow = s.pow ∧ (s.clearDrops b source).ident = s.ident ∧
    (s.clearDrops b source).noc = s.noc ∧ (s.clearDrops b source).lines = s.lines ∧ (s.clearDrops b source).ms = s.ms ∧
    (s.clearDrops b source).ports = s.ports ∧ (s.clearDrops b source).torus = s.torus ∧ (s.clearDrops b source).sites = s.sites ∧
    (s.clearDrops b source).sec = s.sec ∧ (s.clearDrops b source).sdg = s.sdg ∧ (s.clearDrops b source).groups = s.groups ∧
    (s.clearDrops b source).mem = s.mem ∧ (s.clearDrops b source).poison = s.poison ∧ (s.clearDrops b source).flash = s.flash := by
  simp [State.clearDrops]

@[simp] theorem State.trcDecide_frame (s : State) (t : TraceRec) (allow : Bool) (pair : Bool) :
    (s.trcDecide t allow pair).time = s.time ∧ (s.trcDecide t allow pair).draws = s.draws ∧ (s.trcDecide t allow pair).tx = s.tx ∧
    (s.trcDecide t allow pair).pending = s.pending ∧ (s.trcDecide t allow pair).held = s.held ∧ (s.trcDecide t allow pair).latch = s.latch ∧
    (s.trcDecide t allow pair).fns = s.fns ∧ (s.trcDecide t allow pair).pce = s.pce ∧ (s.trcDecide t allow pair).boot = s.boot ∧
    (s.trcDecide t allow pair).pow = s.pow ∧ (s.trcDecide t allow pair).ident = s.ident ∧ (s.trcDecide t allow pair).noc = s.noc ∧
    (s.trcDecide t allow pair).lines = s.lines ∧ (s.trcDecide t allow pair).ms = s.ms ∧ (s.trcDecide t allow pair).ports = s.ports ∧
    (s.trcDecide t allow pair).torus = s.torus ∧ (s.trcDecide t allow pair).sites = s.sites ∧ (s.trcDecide t allow pair).sec = s.sec ∧
    (s.trcDecide t allow pair).sdg = s.sdg ∧ (s.trcDecide t allow pair).groups = s.groups ∧ (s.trcDecide t allow pair).flash = s.flash := by
  unfold State.trcDecide
  dsimp only
  (repeat' split) <;> (repeat' apply And.intro) <;> (try simp) <;> (try apply foldl_keep) <;> intros <;> (repeat' split) <;> simp_all

@[simp] theorem State.traceArm_frame (s : State) (b : ℕ) :
    (s.traceArm b).time = s.time ∧ (s.traceArm b).draws = s.draws ∧ (s.traceArm b).tx = s.tx ∧ (s.traceArm b).pending = s.pending ∧
    (s.traceArm b).held = s.held ∧ (s.traceArm b).latch = s.latch ∧ (s.traceArm b).fns = s.fns ∧ (s.traceArm b).pce = s.pce ∧
    (s.traceArm b).boot = s.boot ∧ (s.traceArm b).pow = s.pow ∧ (s.traceArm b).ident = s.ident ∧ (s.traceArm b).noc = s.noc ∧
    (s.traceArm b).lines = s.lines ∧ (s.traceArm b).ms = s.ms ∧ (s.traceArm b).ports = s.ports ∧ (s.traceArm b).torus = s.torus ∧
    (s.traceArm b).sites = s.sites ∧ (s.traceArm b).sec = s.sec ∧ (s.traceArm b).sdg = s.sdg ∧ (s.traceArm b).groups = s.groups ∧
    (s.traceArm b).mem = s.mem ∧ (s.traceArm b).poison = s.poison ∧ (s.traceArm b).flash = s.flash := by
  simp [State.traceArm]

@[simp] theorem State.trcSeal_frame (s : State) (b : ℕ) :
    (s.trcSeal b).time = s.time ∧ (s.trcSeal b).draws = s.draws ∧ (s.trcSeal b).tx = s.tx ∧ (s.trcSeal b).pending = s.pending ∧
    (s.trcSeal b).held = s.held ∧ (s.trcSeal b).latch = s.latch ∧ (s.trcSeal b).fns = s.fns ∧ (s.trcSeal b).pce = s.pce ∧
    (s.trcSeal b).boot = s.boot ∧ (s.trcSeal b).pow = s.pow ∧ (s.trcSeal b).obs = s.obs ∧ (s.trcSeal b).ident = s.ident ∧
    (s.trcSeal b).noc = s.noc ∧ (s.trcSeal b).lines = s.lines ∧ (s.trcSeal b).ms = s.ms ∧ (s.trcSeal b).ports = s.ports ∧
    (s.trcSeal b).torus = s.torus ∧ (s.trcSeal b).sites = s.sites ∧ (s.trcSeal b).sec = s.sec ∧ (s.trcSeal b).sdg = s.sdg ∧
    (s.trcSeal b).groups = s.groups ∧ (s.trcSeal b).flash = s.flash := by
  unfold State.trcSeal; (repeat' split) <;> simp

@[simp] theorem State.traceDisarm_frame (s : State) (b : ℕ) :
    (s.traceDisarm b).time = s.time ∧ (s.traceDisarm b).draws = s.draws ∧ (s.traceDisarm b).tx = s.tx ∧
    (s.traceDisarm b).pending = s.pending ∧ (s.traceDisarm b).held = s.held ∧ (s.traceDisarm b).latch = s.latch ∧
    (s.traceDisarm b).fns = s.fns ∧ (s.traceDisarm b).pce = s.pce ∧ (s.traceDisarm b).boot = s.boot ∧ (s.traceDisarm b).pow = s.pow ∧
    (s.traceDisarm b).obs = s.obs ∧ (s.traceDisarm b).ident = s.ident ∧ (s.traceDisarm b).noc = s.noc ∧ (s.traceDisarm b).lines = s.lines ∧
    (s.traceDisarm b).ms = s.ms ∧ (s.traceDisarm b).ports = s.ports ∧ (s.traceDisarm b).torus = s.torus ∧
    (s.traceDisarm b).sites = s.sites ∧ (s.traceDisarm b).sec = s.sec ∧ (s.traceDisarm b).sdg = s.sdg ∧
    (s.traceDisarm b).groups = s.groups ∧ (s.traceDisarm b).flash = s.flash := by
  simp [State.traceDisarm]

@[simp] theorem State.traceTriggers_frame (s : State) (value : ℕ) :
    (s.traceTriggers value).time = s.time ∧ (s.traceTriggers value).draws = s.draws ∧ (s.traceTriggers value).tx = s.tx ∧
    (s.traceTriggers value).pending = s.pending ∧ (s.traceTriggers value).held = s.held ∧ (s.traceTriggers value).latch = s.latch ∧
    (s.traceTriggers value).fns = s.fns ∧ (s.traceTriggers value).pce = s.pce ∧ (s.traceTriggers value).boot = s.boot ∧
    (s.traceTriggers value).pow = s.pow ∧ (s.traceTriggers value).obs = s.obs ∧ (s.traceTriggers value).ident = s.ident ∧
    (s.traceTriggers value).noc = s.noc ∧ (s.traceTriggers value).lines = s.lines ∧ (s.traceTriggers value).ms = s.ms ∧
    (s.traceTriggers value).ports = s.ports ∧ (s.traceTriggers value).torus = s.torus ∧ (s.traceTriggers value).sites = s.sites ∧
    (s.traceTriggers value).sec = s.sec ∧ (s.traceTriggers value).sdg = s.sdg ∧ (s.traceTriggers value).groups = s.groups ∧
    (s.traceTriggers value).flash = s.flash := by
  simp [State.traceTriggers]

@[simp] theorem State.putBar_frame (s : State) (bar : Bar) (base : ℕ) (v : ℕ) :
    (s.putBar bar base v).time = s.time ∧ (s.putBar bar base v).draws = s.draws ∧ (s.putBar bar base v).tx = s.tx ∧
    (s.putBar bar base v).pending = s.pending ∧ (s.putBar bar base v).held = s.held ∧ (s.putBar bar base v).latch = s.latch ∧
    (s.putBar bar base v).pce = s.pce ∧ (s.putBar bar base v).boot = s.boot ∧ (s.putBar bar base v).pow = s.pow ∧
    (s.putBar bar base v).obs = s.obs ∧ (s.putBar bar base v).ident = s.ident ∧ (s.putBar bar base v).noc = s.noc ∧
    (s.putBar bar base v).lines = s.lines ∧ (s.putBar bar base v).ms = s.ms ∧ (s.putBar bar base v).ports = s.ports ∧
    (s.putBar bar base v).torus = s.torus ∧ (s.putBar bar base v).sites = s.sites ∧ (s.putBar bar base v).sec = s.sec ∧
    (s.putBar bar base v).sdg = s.sdg ∧ (s.putBar bar base v).groups = s.groups ∧ (s.putBar bar base v).mem = s.mem ∧
    (s.putBar bar base v).poison = s.poison ∧ (s.putBar bar base v).flash = s.flash := by
  unfold State.putBar; (repeat' split) <;> simp

@[simp] theorem State.setLatches_frame (s : State) (bar : Bar) (m : SMap W32) :
    (s.setLatches bar m).time = s.time ∧ (s.setLatches bar m).draws = s.draws ∧ (s.setLatches bar m).tx = s.tx ∧
    (s.setLatches bar m).pending = s.pending ∧ (s.setLatches bar m).hub = s.hub ∧ (s.setLatches bar m).held = s.held ∧
    (s.setLatches bar m).pce = s.pce ∧ (s.setLatches bar m).boot = s.boot ∧ (s.setLatches bar m).pow = s.pow ∧
    (s.setLatches bar m).obs = s.obs ∧ (s.setLatches bar m).ident = s.ident ∧ (s.setLatches bar m).noc = s.noc ∧
    (s.setLatches bar m).lines = s.lines ∧ (s.setLatches bar m).ms = s.ms ∧ (s.setLatches bar m).ports = s.ports ∧
    (s.setLatches bar m).torus = s.torus ∧ (s.setLatches bar m).sites = s.sites ∧ (s.setLatches bar m).sec = s.sec ∧
    (s.setLatches bar m).sdg = s.sdg ∧ (s.setLatches bar m).groups = s.groups ∧ (s.setLatches bar m).mem = s.mem ∧
    (s.setLatches bar m).poison = s.poison ∧ (s.setLatches bar m).flash = s.flash := by
  unfold State.setLatches; (repeat' split) <;> simp

@[simp] theorem State.setHelds_frame (s : State) (bar : Bar) (m : SMap W32) :
    (s.setHelds bar m).time = s.time ∧ (s.setHelds bar m).draws = s.draws ∧ (s.setHelds bar m).tx = s.tx ∧
    (s.setHelds bar m).pending = s.pending ∧ (s.setHelds bar m).hub = s.hub ∧ (s.setHelds bar m).latch = s.latch ∧
    (s.setHelds bar m).pce = s.pce ∧ (s.setHelds bar m).boot = s.boot ∧ (s.setHelds bar m).pow = s.pow ∧ (s.setHelds bar m).obs = s.obs ∧
    (s.setHelds bar m).ident = s.ident ∧ (s.setHelds bar m).noc = s.noc ∧ (s.setHelds bar m).lines = s.lines ∧
    (s.setHelds bar m).ms = s.ms ∧ (s.setHelds bar m).ports = s.ports ∧ (s.setHelds bar m).torus = s.torus ∧
    (s.setHelds bar m).sites = s.sites ∧ (s.setHelds bar m).sec = s.sec ∧ (s.setHelds bar m).sdg = s.sdg ∧
    (s.setHelds bar m).groups = s.groups ∧ (s.setHelds bar m).mem = s.mem ∧ (s.setHelds bar m).poison = s.poison ∧
    (s.setHelds bar m).flash = s.flash := by
  unfold State.setHelds; (repeat' split) <;> simp

@[simp] theorem State.readReg_frame (s : State) (bar : Bar) (r : RegRow) (base : ℕ) :
    (s.readReg bar r base).2.time = s.time ∧ (s.readReg bar r base).2.draws = s.draws ∧ (s.readReg bar r base).2.tx = s.tx ∧
    (s.readReg bar r base).2.pending = s.pending ∧ (s.readReg bar r base).2.held = s.held ∧ (s.readReg bar r base).2.latch = s.latch ∧
    (s.readReg bar r base).2.pce = s.pce ∧ (s.readReg bar r base).2.boot = s.boot ∧ (s.readReg bar r base).2.pow = s.pow ∧
    (s.readReg bar r base).2.obs = s.obs ∧ (s.readReg bar r base).2.ident = s.ident ∧ (s.readReg bar r base).2.noc = s.noc ∧
    (s.readReg bar r base).2.lines = s.lines ∧ (s.readReg bar r base).2.ms = s.ms ∧ (s.readReg bar r base).2.ports = s.ports ∧
    (s.readReg bar r base).2.torus = s.torus ∧ (s.readReg bar r base).2.sites = s.sites ∧ (s.readReg bar r base).2.sec = s.sec ∧
    (s.readReg bar r base).2.sdg = s.sdg ∧ (s.readReg bar r base).2.groups = s.groups ∧ (s.readReg bar r base).2.mem = s.mem ∧
    (s.readReg bar r base).2.poison = s.poison ∧ (s.readReg bar r base).2.flash = s.flash := by
  unfold State.readReg; (repeat' split) <;> simp

@[simp] theorem State.read4_frame (s : State) (bar : Bar) (off : ℕ) :
    (s.read4 bar off).2.time = s.time ∧ (s.read4 bar off).2.draws = s.draws ∧ (s.read4 bar off).2.tx = s.tx ∧
    (s.read4 bar off).2.pending = s.pending ∧ (s.read4 bar off).2.held = s.held ∧ (s.read4 bar off).2.pce = s.pce ∧
    (s.read4 bar off).2.boot = s.boot ∧ (s.read4 bar off).2.pow = s.pow ∧ (s.read4 bar off).2.obs = s.obs ∧
    (s.read4 bar off).2.ident = s.ident ∧ (s.read4 bar off).2.noc = s.noc ∧ (s.read4 bar off).2.lines = s.lines ∧
    (s.read4 bar off).2.ms = s.ms ∧ (s.read4 bar off).2.ports = s.ports ∧ (s.read4 bar off).2.torus = s.torus ∧
    (s.read4 bar off).2.sites = s.sites ∧ (s.read4 bar off).2.sec = s.sec ∧ (s.read4 bar off).2.sdg = s.sdg ∧
    (s.read4 bar off).2.groups = s.groups ∧ (s.read4 bar off).2.mem = s.mem ∧ (s.read4 bar off).2.poison = s.poison ∧
    (s.read4 bar off).2.flash = s.flash := by
  unfold State.read4
  dsimp only
  (repeat' split) <;> (repeat' apply And.intro) <;> (try simp) <;> (try apply foldl_keep) <;> intros <;> (repeat' split) <;> simp_all

@[simp] theorem State.read8_frame (s : State) (bar : Bar) (off : ℕ) :
    (s.read8 bar off).2.time = s.time ∧ (s.read8 bar off).2.draws = s.draws ∧ (s.read8 bar off).2.tx = s.tx ∧
    (s.read8 bar off).2.pending = s.pending ∧ (s.read8 bar off).2.held = s.held ∧ (s.read8 bar off).2.pce = s.pce ∧
    (s.read8 bar off).2.boot = s.boot ∧ (s.read8 bar off).2.pow = s.pow ∧ (s.read8 bar off).2.obs = s.obs ∧
    (s.read8 bar off).2.ident = s.ident ∧ (s.read8 bar off).2.noc = s.noc ∧ (s.read8 bar off).2.lines = s.lines ∧
    (s.read8 bar off).2.ms = s.ms ∧ (s.read8 bar off).2.ports = s.ports ∧ (s.read8 bar off).2.torus = s.torus ∧
    (s.read8 bar off).2.sites = s.sites ∧ (s.read8 bar off).2.sec = s.sec ∧ (s.read8 bar off).2.sdg = s.sdg ∧
    (s.read8 bar off).2.groups = s.groups ∧ (s.read8 bar off).2.mem = s.mem ∧ (s.read8 bar off).2.poison = s.poison ∧
    (s.read8 bar off).2.flash = s.flash := by
  unfold State.read8; (repeat' split) <;> simp

@[simp] theorem State.hostRead_frame (s : State) (bar : Bar) (off : ℕ) (wide : Bool) :
    (s.hostRead bar off wide).time = s.time ∧ (s.hostRead bar off wide).draws = s.draws ∧ (s.hostRead bar off wide).pending = s.pending ∧
    (s.hostRead bar off wide).held = s.held ∧ (s.hostRead bar off wide).pce = s.pce ∧ (s.hostRead bar off wide).boot = s.boot ∧
    (s.hostRead bar off wide).pow = s.pow ∧ (s.hostRead bar off wide).obs = s.obs ∧ (s.hostRead bar off wide).ident = s.ident ∧
    (s.hostRead bar off wide).noc = s.noc ∧ (s.hostRead bar off wide).lines = s.lines ∧ (s.hostRead bar off wide).ms = s.ms ∧
    (s.hostRead bar off wide).ports = s.ports ∧ (s.hostRead bar off wide).torus = s.torus ∧ (s.hostRead bar off wide).sites = s.sites ∧
    (s.hostRead bar off wide).sec = s.sec ∧ (s.hostRead bar off wide).sdg = s.sdg ∧ (s.hostRead bar off wide).groups = s.groups ∧
    (s.hostRead bar off wide).mem = s.mem ∧ (s.hostRead bar off wide).poison = s.poison ∧ (s.hostRead bar off wide).flash = s.flash := by
  unfold State.hostRead; (repeat' split) <;> simp

@[simp] theorem State.writePasid_frame (s : State) (n : ℕ) (v : ℕ) :
    (s.writePasid n v).time = s.time ∧ (s.writePasid n v).draws = s.draws ∧ (s.writePasid n v).pending = s.pending ∧
    (s.writePasid n v).held = s.held ∧ (s.writePasid n v).latch = s.latch ∧ (s.writePasid n v).boot = s.boot ∧
    (s.writePasid n v).pow = s.pow ∧ (s.writePasid n v).obs = s.obs ∧ (s.writePasid n v).ident = s.ident ∧ (s.writePasid n v).noc = s.noc ∧
    (s.writePasid n v).lines = s.lines ∧ (s.writePasid n v).ports = s.ports ∧ (s.writePasid n v).torus = s.torus ∧
    (s.writePasid n v).sec = s.sec ∧ (s.writePasid n v).sdg = s.sdg ∧ (s.writePasid n v).flash = s.flash := by
  simp [State.writePasid]

@[simp] theorem State.writeRw_frame (s : State) (bar : Bar) (r : RegRow) (base : ℕ) (v : ℕ) :
    (s.writeRw bar r base v).time = s.time ∧ (s.writeRw bar r base v).pending = s.pending ∧ (s.writeRw bar r base v).held = s.held ∧
    (s.writeRw bar r base v).latch = s.latch ∧ (s.writeRw bar r base v).pow = s.pow ∧ (s.writeRw bar r base v).ident = s.ident ∧
    (s.writeRw bar r base v).noc = s.noc ∧ (s.writeRw bar r base v).lines = s.lines ∧ (s.writeRw bar r base v).ports = s.ports ∧
    (s.writeRw bar r base v).torus = s.torus ∧ (s.writeRw bar r base v).sec = s.sec ∧ (s.writeRw bar r base v).flash = s.flash := by
  unfold State.writeRw
  dsimp only
  (repeat' split) <;> simp [outState, execRingHeadWrite, execAuditHeadWrite, execIntEnableWrite]

@[simp] theorem State.writeFlashCmd_frame (s : State) (v : ℕ) :
    (s.writeFlashCmd v).time = s.time ∧ (s.writeFlashCmd v).draws = s.draws ∧ (s.writeFlashCmd v).tx = s.tx ∧
    (s.writeFlashCmd v).pending = s.pending ∧ (s.writeFlashCmd v).held = s.held ∧ (s.writeFlashCmd v).latch = s.latch ∧
    (s.writeFlashCmd v).fns = s.fns ∧ (s.writeFlashCmd v).pce = s.pce ∧ (s.writeFlashCmd v).pow = s.pow ∧ (s.writeFlashCmd v).obs = s.obs ∧
    (s.writeFlashCmd v).ident = s.ident ∧ (s.writeFlashCmd v).noc = s.noc ∧ (s.writeFlashCmd v).lines = s.lines ∧
    (s.writeFlashCmd v).ms = s.ms ∧ (s.writeFlashCmd v).ports = s.ports ∧ (s.writeFlashCmd v).torus = s.torus ∧
    (s.writeFlashCmd v).sites = s.sites ∧ (s.writeFlashCmd v).sec = s.sec ∧ (s.writeFlashCmd v).sdg = s.sdg ∧
    (s.writeFlashCmd v).groups = s.groups ∧ (s.writeFlashCmd v).mem = s.mem ∧ (s.writeFlashCmd v).poison = s.poison ∧
    (s.writeFlashCmd v).flash = s.flash := by
  unfold State.writeFlashCmd
  (repeat' split) <;> simp [outState, execFlashRead, execFlashProgram, execFlashErase]

@[simp] theorem State.writeWo_frame (s : State) (bar : Bar) (base : ℕ) (v : ℕ) :
    (s.writeWo bar base v).pending = s.pending := by
  unfold State.writeWo
  split
  · split <;> simp
  · (repeat' apply And.intro) <;> (iterate 12 (first | (refine ite_keeps _ _ _ _ _ ?_ ?_) |
      skip)) <;> simp [outState, execChallengeNew, execScrubStart, execStartReqCold, execStartReqWarm]

@[simp] theorem State.writeW1s_frame (s : State) (base : ℕ) (v : ℕ) :
    (s.writeW1s base v).time = s.time ∧ (s.writeW1s base v).draws = s.draws ∧ (s.writeW1s base v).tx = s.tx ∧
    (s.writeW1s base v).pending = s.pending ∧ (s.writeW1s base v).held = s.held ∧ (s.writeW1s base v).latch = s.latch ∧
    (s.writeW1s base v).fns = s.fns ∧ (s.writeW1s base v).pce = s.pce ∧ (s.writeW1s base v).boot = s.boot ∧
    (s.writeW1s base v).pow = s.pow ∧ (s.writeW1s base v).ident = s.ident ∧ (s.writeW1s base v).noc = s.noc ∧
    (s.writeW1s base v).lines = s.lines ∧ (s.writeW1s base v).ms = s.ms ∧ (s.writeW1s base v).ports = s.ports ∧
    (s.writeW1s base v).torus = s.torus ∧ (s.writeW1s base v).sites = s.sites ∧ (s.writeW1s base v).sec = s.sec ∧
    (s.writeW1s base v).sdg = s.sdg ∧ (s.writeW1s base v).groups = s.groups ∧ (s.writeW1s base v).flash = s.flash := by
  simp [State.writeW1s]

@[simp] theorem State.writeW1c_frame (s : State) (base : ℕ) (v : ℕ) :
    (s.writeW1c base v).time = s.time ∧ (s.writeW1c base v).draws = s.draws ∧ (s.writeW1c base v).pending = s.pending ∧
    (s.writeW1c base v).held = s.held ∧ (s.writeW1c base v).latch = s.latch ∧ (s.writeW1c base v).fns = s.fns ∧
    (s.writeW1c base v).boot = s.boot ∧ (s.writeW1c base v).pow = s.pow ∧ (s.writeW1c base v).obs = s.obs ∧
    (s.writeW1c base v).ident = s.ident ∧ (s.writeW1c base v).noc = s.noc ∧ (s.writeW1c base v).lines = s.lines ∧
    (s.writeW1c base v).ms = s.ms ∧ (s.writeW1c base v).ports = s.ports ∧ (s.writeW1c base v).torus = s.torus ∧
    (s.writeW1c base v).sites = s.sites ∧ (s.writeW1c base v).sec = s.sec ∧ (s.writeW1c base v).sdg = s.sdg ∧
    (s.writeW1c base v).groups = s.groups ∧ (s.writeW1c base v).mem = s.mem ∧ (s.writeW1c base v).poison = s.poison ∧
    (s.writeW1c base v).flash = s.flash := by
  unfold State.writeW1c
  (repeat' split) <;> simp [outState, execIntStatusClear, execFirstErrorClear]

@[simp] theorem State.writeReg_frame (s : State) (bar : Bar) (r : RegRow) (base : ℕ) (v : ℕ) :
    (s.writeReg bar r base v).pending = s.pending := by
  unfold State.writeReg; (repeat' split) <;> simp

@[simp] theorem State.write4_frame (s : State) (bar : Bar) (off : ℕ) (v : ℕ) :
    (s.write4 bar off v).pending = s.pending := by
  unfold State.write4; (repeat' split) <;> simp

@[simp] theorem State.write8_frame (s : State) (bar : Bar) (off : ℕ) (v : ℕ) :
    (s.write8 bar off v).pending = s.pending := by
  unfold State.write8; (repeat' split) <;> simp

@[simp] theorem State.hostWrite_frame (s : State) (bar : Bar) (off : ℕ) (wide : Bool) (v : ℕ) :
    (s.hostWrite bar off wide v).pending = s.pending := by
  simp [State.hostWrite]

@[simp] theorem State.tickTime_frame (s : State) :
    s.tickTime.draws = s.draws ∧ s.tickTime.tx = s.tx ∧ s.tickTime.pending = s.pending ∧ s.tickTime.hub = s.hub ∧ s.tickTime.held = s.held ∧
    s.tickTime.latch = s.latch ∧ s.tickTime.fns = s.fns ∧ s.tickTime.boot = s.boot ∧ s.tickTime.pow = s.pow ∧ s.tickTime.obs = s.obs ∧
    s.tickTime.ident = s.ident ∧ s.tickTime.noc = s.noc ∧ s.tickTime.lines = s.lines ∧ s.tickTime.ms = s.ms ∧ s.tickTime.ports = s.ports ∧
    s.tickTime.torus = s.torus ∧ s.tickTime.sites = s.sites ∧ s.tickTime.sec = s.sec ∧ s.tickTime.sdg = s.sdg ∧
    s.tickTime.groups = s.groups ∧ s.tickTime.mem = s.mem ∧ s.tickTime.poison = s.poison ∧ s.tickTime.flash = s.flash := by
  simp [State.tickTime]

@[simp] theorem State.rebuildJournals_frame (s : State) :
    s.rebuildJournals.time = s.time ∧ s.rebuildJournals.draws = s.draws ∧ s.rebuildJournals.tx = s.tx ∧
    s.rebuildJournals.pending = s.pending ∧ s.rebuildJournals.hub = s.hub ∧ s.rebuildJournals.held = s.held ∧
    s.rebuildJournals.latch = s.latch ∧ s.rebuildJournals.pce = s.pce ∧ s.rebuildJournals.boot = s.boot ∧ s.rebuildJournals.pow = s.pow ∧
    s.rebuildJournals.obs = s.obs ∧ s.rebuildJournals.ident = s.ident ∧ s.rebuildJournals.noc = s.noc ∧ s.rebuildJournals.lines = s.lines ∧
    s.rebuildJournals.ms = s.ms ∧ s.rebuildJournals.ports = s.ports ∧ s.rebuildJournals.torus = s.torus ∧
    s.rebuildJournals.sites = s.sites ∧ s.rebuildJournals.sec = s.sec ∧ s.rebuildJournals.sdg = s.sdg ∧
    s.rebuildJournals.groups = s.groups ∧ s.rebuildJournals.mem = s.mem ∧ s.rebuildJournals.poison = s.poison ∧
    s.rebuildJournals.flash = s.flash := by
  simp [State.rebuildJournals]

@[simp] theorem State.rebuildPasture_frame (s : State) :
    s.rebuildPasture.time = s.time ∧ s.rebuildPasture.draws = s.draws ∧ s.rebuildPasture.tx = s.tx ∧ s.rebuildPasture.pending = s.pending ∧
    s.rebuildPasture.held = s.held ∧ s.rebuildPasture.latch = s.latch ∧ s.rebuildPasture.fns = s.fns ∧ s.rebuildPasture.pce = s.pce ∧
    s.rebuildPasture.boot = s.boot ∧ s.rebuildPasture.pow = s.pow ∧ s.rebuildPasture.obs = s.obs ∧ s.rebuildPasture.ident = s.ident ∧
    s.rebuildPasture.noc = s.noc ∧ s.rebuildPasture.lines = s.lines ∧ s.rebuildPasture.ms = s.ms ∧ s.rebuildPasture.ports = s.ports ∧
    s.rebuildPasture.torus = s.torus ∧ s.rebuildPasture.sites = s.sites ∧ s.rebuildPasture.sec = s.sec ∧ s.rebuildPasture.sdg = s.sdg ∧
    s.rebuildPasture.groups = s.groups ∧ s.rebuildPasture.mem = s.mem ∧ s.rebuildPasture.poison = s.poison ∧
    s.rebuildPasture.flash = s.flash := by
  simp [State.rebuildPasture]

@[simp] theorem State.firmware_frame (s : State) :
    s.firmware.time = s.time ∧ s.firmware.pending = s.pending ∧ s.firmware.held = s.held ∧ s.firmware.latch = s.latch ∧
    s.firmware.pow = s.pow ∧ s.firmware.ident = s.ident ∧ s.firmware.noc = s.noc ∧ s.firmware.lines = s.lines := by
  simp [State.firmware]

@[simp] theorem State.tick_frame (s : State) :
    s.tick.pending = s.pending ∧ s.tick.held = s.held ∧ s.tick.latch = s.latch ∧ s.tick.pow = s.pow ∧ s.tick.ident = s.ident ∧
    s.tick.noc = s.noc ∧ s.tick.lines = s.lines := by
  simp [State.tick]

@[simp] theorem State.withFetchWord_frame (s : State) (nbits : ℕ) (w : ℕ) :
    (s.withFetchWord nbits w).time = s.time ∧ (s.withFetchWord nbits w).draws = s.draws ∧ (s.withFetchWord nbits w).tx = s.tx ∧
    (s.withFetchWord nbits w).hub = s.hub ∧ (s.withFetchWord nbits w).held = s.held ∧ (s.withFetchWord nbits w).latch = s.latch ∧
    (s.withFetchWord nbits w).fns = s.fns ∧ (s.withFetchWord nbits w).pce = s.pce ∧ (s.withFetchWord nbits w).boot = s.boot ∧
    (s.withFetchWord nbits w).pow = s.pow ∧ (s.withFetchWord nbits w).obs = s.obs ∧ (s.withFetchWord nbits w).ident = s.ident ∧
    (s.withFetchWord nbits w).noc = s.noc ∧ (s.withFetchWord nbits w).lines = s.lines ∧ (s.withFetchWord nbits w).ms = s.ms ∧
    (s.withFetchWord nbits w).ports = s.ports ∧ (s.withFetchWord nbits w).torus = s.torus ∧ (s.withFetchWord nbits w).sites = s.sites ∧
    (s.withFetchWord nbits w).sec = s.sec ∧ (s.withFetchWord nbits w).sdg = s.sdg ∧ (s.withFetchWord nbits w).groups = s.groups ∧
    (s.withFetchWord nbits w).mem = s.mem ∧ (s.withFetchWord nbits w).poison = s.poison ∧ (s.withFetchWord nbits w).flash = s.flash := by
  unfold State.withFetchWord; (repeat' split) <;> simp

end Sys2Proof.Machine
end

