-- ==== Sys2Proof/Laws/Wf.lean ====
section
/-! SUPPORT. Every operation keeps the canonical form of memory and of the boot flash. -/

set_option linter.all false

namespace Sys2Proof.Machine
open Sys2Proof

/-! ### The canonical form -/

theorem cellWfFrom_mono (d : Byte) (m : Memory) (lo lo' : Nat) (hl : lo' ≤ lo) (h : cellWfFrom d lo m = true) : cellWfFrom d lo' m = true := by
  cases m with
  | nil => rfl
  | cons c t => simp [cellWfFrom] at *; exact ⟨⟨by omega, h.1.2⟩, h.2⟩

theorem cellPut_wfFrom (d : Byte) (m : Memory) (lo a : Nat) (b : Byte) (hl : lo ≤ a) (h : cellWfFrom d lo m = true) :
    cellWfFrom d lo (cellPut d m a b) = true := by
  induction m generalizing lo with
  | nil => unfold cellPut; split <;> simp_all [cellWfFrom]
  | cons c t ih =>
    obtain ⟨k, v⟩ := c
    simp [cellWfFrom] at h
    obtain ⟨⟨hk, hv⟩, ht⟩ := h
    unfold cellPut
    split
    · split
      · simp [cellWfFrom, *]
      · simp only [cellWfFrom, ht]
        simp [*]
        try omega
    · split
      · split
        · exact cellWfFrom_mono d t (k + 1) lo (by omega) ht
        · subst a; simp [cellWfFrom, *]
      · simp [cellWfFrom, *]; exact ih (k + 1) (by omega) ht

/-- Writing a byte keeps the canonical form. -/
@[simp] theorem cellPut_wf (m : Memory) (a : Nat) (b : Byte) (h : Memory.wf m = true) : Memory.wf (cellPut 0#8 m a b) = true :=
  cellPut_wfFrom 0#8 m 0 a b (Nat.zero_le a) h
@[simp] theorem cellPut_flashWf (m : Memory) (a : Nat) (b : Byte) (h : flashWf m = true) : flashWf (cellPut 0xFF#8 m a b) = true :=
  cellPut_wfFrom 0xFF#8 m 0 a b (Nat.zero_le a) h
/-- Writing bytes keeps the canonical form. -/
@[simp] theorem cellsPut_wf (m : Memory) (a : Nat) (bs : List Byte) (h : Memory.wf m = true) : Memory.wf (cellsPut 0#8 m a bs) = true := by
  induction bs generalizing m a with
  | nil => exact h
  | cons b t ih => exact ih _ _ (cellPut_wf m a b h)
@[simp] theorem cellsPut_flashWf (m : Memory) (a : Nat) (bs : List Byte) (h : flashWf m = true) : flashWf (cellsPut 0xFF#8 m a bs) = true := by
  induction bs generalizing m a with
  | nil => exact h
  | cons b t ih => exact ih _ _ (cellPut_flashWf m a b h)

theorem filter_wfFrom (d : Byte) (p : Host.Cell → Bool) (m : Memory) (lo : Nat) (h : cellWfFrom d lo m = true) :
    cellWfFrom d lo (m.filter p) = true := by
  induction m generalizing lo with
  | nil => rfl
  | cons c t ih =>
    obtain ⟨k, v⟩ := c
    simp [cellWfFrom] at h
    by_cases hp : p (k, v) = true
    · simp [hp, cellWfFrom, h, ih (k + 1) h.2]
    · simp [hp]; exact cellWfFrom_mono d _ (k + 1) lo (by omega) (ih (k + 1) h.2)
/-- Taking entries out keeps the canonical form. -/
@[simp] theorem filter_wf (p : Host.Cell → Bool) (m : Memory) (h : Memory.wf m = true) : Memory.wf (m.filter p) = true := filter_wfFrom 0#8 p m 0 h
@[simp] theorem filter_flashWf (p : Host.Cell → Bool) (m : Memory) (h : flashWf m = true) : flashWf (m.filter p) = true :=
  filter_wfFrom 0xFF#8 p m 0 h
@[simp] theorem cellsClear_wf (m : Memory) (a n : Nat) (h : Memory.wf m = true) : Memory.wf (cellsClear m a n) = true := filter_wf _ m h
@[simp] theorem nil_wf : Memory.wf [] = true := rfl
@[simp] theorem nil_flashWf : flashWf [] = true := rfl
@[simp] theorem wf_ite (c : Prop) [Decidable c] (a b : Memory) : Memory.wf (if c then a else b) = if c then Memory.wf a else Memory.wf b := by
  split <;> rfl
@[simp] theorem flashWf_ite (c : Prop) [Decidable c] (a b : Memory) : flashWf (if c then a else b) = if c then flashWf a else flashWf b := by
  split <;> rfl
@[simp] theorem foldl_wf {α : Type} (g : State → α → State) (l : List α) (s : State) (h : ∀ s x, Memory.wf s.mem = true → Memory.wf (g s x).mem = true)
    (hs : Memory.wf s.mem = true) : Memory.wf (l.foldl g s).mem = true := by
  induction l generalizing s with
  | nil => exact hs
  | cons a t ih => exact ih _ (h s a hs)
@[simp] theorem foldl_flashWf {α : Type} (g : State → α → State) (l : List α) (s : State)
    (h : ∀ s x, flashWf s.flash = true → flashWf (g s x).flash = true) (hs : flashWf s.flash = true) : flashWf (l.foldl g s).flash = true := by
  induction l generalizing s with
  | nil => exact hs
  | cons a t ih => exact ih _ (h s a hs)

theorem foldl_sndWf {α γ : Type} (g : γ × State → α → γ × State) (l : List α) (p : γ × State)
    (h : ∀ p x, Memory.wf p.2.mem = true → Memory.wf (g p x).2.mem = true) (hs : Memory.wf p.2.mem = true) : Memory.wf (l.foldl g p).2.mem = true := by
  induction l generalizing p with
  | nil => exact hs
  | cons a t ih => exact ih _ (h p a hs)
theorem iteKeeps_wf (c : Prop) [Decidable c] (a b : State) (ha : Memory.wf a.mem = true) (hb : Memory.wf b.mem = true) :
    Memory.wf (if c then a else b).mem = true := by
  split <;> assumption
theorem iteKeeps_flashWf (c : Prop) [Decidable c] (a b : State) (ha : flashWf a.flash = true) (hb : flashWf b.flash = true) :
    flashWf (if c then a else b).flash = true := by
  split <;> assumption

@[simp] theorem State.writeByte_wf (s : State) (a : ℕ) (b : Byte) (hw : Memory.wf (s).mem = true) :
    Memory.wf ((State.writeByte s a b)).mem = true := by
  simp [State.writeByte, hw]

@[simp] theorem State.writeBytes_wf (s : State) (a : ℕ) (bs : List Byte) (hw : Memory.wf (s).mem = true) :
    Memory.wf ((State.writeBytes s a bs)).mem = true := by
  simp [State.writeBytes, hw]

@[simp] theorem State.store_wf (s : State) (a : ℕ) (bs : List Byte) (hw : Memory.wf (s).mem = true) :
    Memory.wf ((State.store s a bs)).mem = true := by
  simp [State.store, hw]

@[simp] theorem State.wipe_wf (s : State) (a : ℕ) (n : ℕ) (hw : Memory.wf (s).mem = true) :
    Memory.wf ((State.wipe s a n)).mem = true := by
  simp [State.wipe, hw]

@[simp] theorem State.commitStore_wf (s : State) (a : ℕ) (bs : List Byte) (hw : Memory.wf (s).mem = true) :
    Memory.wf ((State.commitStore s a bs)).mem = true := by
  simp [State.commitStore, hw]

@[simp] theorem State.trcPut_wf (s : State) (b : ℕ) (off : ℕ) (bytes : List Byte) (hw : Memory.wf (s).mem = true) :
    Memory.wf ((State.trcPut s b off bytes)).mem = true := by
  simp [State.trcPut, hw]

@[simp] theorem State.trcWrite_wf (s : State) (b : ℕ) (bytes : List Byte) (hw : Memory.wf (s).mem = true) :
    Memory.wf ((State.trcWrite s b bytes)).mem = true := by
  simp [State.trcWrite, hw]

@[simp] theorem State.trcTrigger_wf (s : State) (b : ℕ) (code : ℕ) (source : ℕ) (hw : Memory.wf (s).mem = true) :
    Memory.wf ((State.trcTrigger s b code source)).mem = true := by
  simp [State.trcTrigger, hw]

@[simp] theorem State.leaveHirsels_wf (s : State) (hw : Memory.wf (s).mem = true) :
    Memory.wf ((State.leaveHirsels s)).mem = true := by
  unfold State.leaveHirsels
  dsimp only
  refine foldl_wf _ _ _ (fun s x hs => foldl_wf _ _ _ (fun s x hs => ?_) ?_) ?_ <;> simp [*]

@[simp] theorem State.endRecord_wf (s : State) (gid : ℕ) (fn : ℕ) (e : ℕ) (status : ℕ) (detail : ℕ) (hw : Memory.wf (s).mem = true) :
    Memory.wf ((State.endRecord s gid fn e status detail)).mem = true := by
  simp [State.endRecord, hw]

@[simp] theorem State.quiesceSweep_wf (s : State) (fn : ℕ) (hw : Memory.wf (s).mem = true) :
    Memory.wf ((State.quiesceSweep s fn)).mem = true := by
  unfold State.quiesceSweep
  dsimp only
  (repeat' split) <;> (try simp [hw]) <;> (refine foldl_wf _ _ _ ?_ ?_) <;> (try intros) <;> (repeat' split) <;> simp [*]

@[simp] theorem State.progress_wf (s : State) (fn : ℕ) (hw : Memory.wf (s).mem = true) :
    Memory.wf ((State.progress s fn)).mem = true := by
  simp [State.progress, hw]

@[simp] theorem State.traceEntry_wf (s : State) (e : SdgEntry) (hw : Memory.wf (s).mem = true) :
    Memory.wf ((State.traceEntry s e)).mem = true := by
  unfold State.traceEntry
  dsimp only
  (repeat' split) <;> (try simp [hw]) <;> (refine foldl_wf _ _ _ ?_ ?_) <;> (try intros) <;> (repeat' split) <;> simp [*]

@[simp] theorem State.entryMade_wf (s : State) (e : SdgEntry) (hw : Memory.wf (s).mem = true) :
    Memory.wf ((State.entryMade s e)).mem = true := by
  unfold State.entryMade
  (repeat' split) <;> simp [hw]

@[simp] theorem State.placeReport_wf (s : State) (r : Report) (hw : Memory.wf (s).mem = true) :
    Memory.wf ((State.placeReport s r)).mem = true := by
  unfold State.placeReport
  dsimp only
  (repeat' split) <;> simp [hw]

@[simp] theorem State.stopAll_wf (s : State) (hw : Memory.wf (s).mem = true) :
    Memory.wf ((State.stopAll s)).mem = true := by
  simp [State.stopAll, hw]

@[simp] theorem State.enterSafe_wf (s : State) (cause : ℕ) (self : Bool) (hw : Memory.wf (s).mem = true) :
    Memory.wf ((State.enterSafe s cause self)).mem = true := by
  simp [State.enterSafe, hw]

@[simp] theorem State.report_wf (s : State) (r : Report) (hw : Memory.wf (s).mem = true) :
    Memory.wf ((State.report s r)).mem = true := by
  unfold State.report
  (repeat' split) <;> simp [hw]

@[simp] theorem State.replaceHirsel_wf (s : State) (h : ℕ) (hw : Memory.wf (s).mem = true) :
    Memory.wf ((State.replaceHirsel s h)).mem = true := by
  unfold State.replaceHirsel
  (repeat' split) <;> simp [hw]

@[simp] theorem State.replaceHirsels_wf (s : State) (hs : List ℕ) (hw : Memory.wf (s).mem = true) :
    Memory.wf ((State.replaceHirsels s hs)).mem = true := by
  unfold State.replaceHirsels
  refine foldl_wf _ _ _ (fun s x hs => ?_) hw
  split
  · exact hs
  · exact State.replaceHirsel_wf s x hs

@[simp] theorem State.fenceUnit_wf (s : State) (kind : ℕ) (phys : ℕ) (cause : ℕ) (hw : Memory.wf (s).mem = true) :
    Memory.wf ((State.fenceUnit s kind phys cause)).mem = true := by
  unfold State.fenceUnit
  dsimp only
  (repeat' split) <;> simp [hw]

@[simp] theorem State.datapathError_wf (s : State) (gid : ℕ) (clears : Bool) (hw : Memory.wf (s).mem = true) :
    Memory.wf ((State.datapathError s gid clears)).mem = true := by
  unfold State.datapathError
  (repeat' split) <;> simp [hw]

@[simp] theorem State.strapErr_wf (s : State) (site : ℕ) (hw : Memory.wf (s).mem = true) :
    Memory.wf ((State.strapErr s site)).mem = true := by
  simp [State.strapErr, hw]

@[simp] theorem State.coldReset_wf (s : State) (power : Bool) (hw : Memory.wf (s).mem = true) :
    Memory.wf ((State.coldReset s power)).mem = true := by
  simp [State.coldReset, hw]

@[simp] theorem State.warmReset_wf (s : State) (hw : Memory.wf (s).mem = true) :
    Memory.wf ((State.warmReset s)).mem = true := by
  simp [State.warmReset, hw]

@[simp] theorem State.beginSite_wf (s : State) (site : ℕ) (hw : Memory.wf (s).mem = true) :
    Memory.wf ((State.beginSite s site)).mem = true := by
  simp [State.beginSite, hw]

@[simp] theorem State.beginSites_wf (s : State) (hw : Memory.wf (s).mem = true) :
    Memory.wf ((State.beginSites s)).mem = true := by
  unfold State.beginSites
  dsimp only
  (repeat' split) <;> (try simp [hw]) <;> (refine foldl_wf _ _ _ ?_ ?_) <;> (try intros) <;> (repeat' split) <;> simp [*]

@[simp] theorem State.loadCold_wf (s : State) (b : Bool) (hw : Memory.wf (s).mem = true) :
    Memory.wf ((State.loadCold s b)).mem = true := by
  unfold State.loadCold
  (repeat' split) <;> simp [hw]

@[simp] theorem State.loadWarm_wf (s : State) (b : Bool) (hw : Memory.wf (s).mem = true) :
    Memory.wf ((State.loadWarm s b)).mem = true := by
  unfold State.loadWarm
  (repeat' split) <;> simp [hw]

@[simp] theorem State.coldStep3_wf (s : State) (hw : Memory.wf (s).mem = true) :
    Memory.wf ((State.coldStep3 s)).mem = true := by
  unfold State.coldStep3
  dsimp only
  (repeat' split) <;> simp [hw]

@[simp] theorem State.wipeAll_wf (s : State) (hw : Memory.wf (s).mem = true) :
    Memory.wf ((State.wipeAll s)).mem = true := by
  simp [State.wipeAll, hw]

@[simp] theorem State.transWork_wf (s : State) (t : Trans) (i : ℕ) (hw : Memory.wf (s).mem = true) :
    Memory.wf ((State.transWork s t i)).mem = true := by
  unfold State.transWork
  (repeat' split) <;> simp [hw]

@[simp] theorem State.transRun_wf (s : State) (t : Trans) (n : ℕ) (hw : Memory.wf (s).mem = true) :
    Memory.wf ((State.transRun s t n)).mem = true := by
  unfold State.transRun
  simp (disch := (intros; (repeat' split) <;> simp [*]))

@[simp] theorem State.transCut_wf (s : State) (hw : Memory.wf (s).mem = true) :
    Memory.wf ((State.transCut s)).mem = true := by
  unfold State.transCut
  (repeat' split) <;> simp [hw]

@[simp] theorem State.bootStep2_wf (s : State) (next : State → State) (hw : Memory.wf (s).mem = true)
  (hk : ∀ s, Memory.wf (s).mem = true → Memory.wf (next s).mem = true) :
    Memory.wf (s.bootStep2 next).mem = true := by
  unfold State.bootStep2
  extract_lets s1 s2 s3 s4
  have e : Memory.wf (s4).mem = true := by simp [s4, s3, s2, s1, hw]
  split
  · simp [e]
  · split
    · exact e
    · exact hk _ e

@[simp] theorem State.startCold_wf (s : State) (cause : ℕ) (promoted : Bool) (power : Bool) (hw : Memory.wf (s).mem = true) :
    Memory.wf ((State.startCold s cause promoted power)).mem = true := by
  unfold State.startCold
  split
  · exact hw
  · exact State.bootStep2_wf _ _ (by simp [hw]) (fun s h => State.coldStep3_wf s h)

@[simp] theorem State.startWarm_wf (s : State) (cause : ℕ) (hw : Memory.wf (s).mem = true) :
    Memory.wf ((State.startWarm s cause)).mem = true := by
  unfold State.startWarm
  split
  · exact hw
  · split
    · exact State.startCold_wf s _ _ _ hw
    · exact State.bootStep2_wf _ _ (by simp [hw]) (fun s h => by simp [h])

@[simp] theorem State.unpower_wf (s : State) (hw : Memory.wf (s).mem = true) :
    Memory.wf ((State.unpower s)).mem = true := by
  simp [State.unpower, hw]

@[simp] theorem State.failLoad_wf (s : State) (fn : ℕ) (e : ℕ) (hw : Memory.wf (s).mem = true) :
    Memory.wf ((State.failLoad s fn e)).mem = true := by
  unfold State.failLoad
  (repeat' split) <;> simp [hw]

@[simp] theorem State.logDenied_wf (s : State) (fn : ℕ) (lpa : ℕ) (access : ℕ) (hw : Memory.wf (s).mem = true) :
    Memory.wf ((State.logDenied s fn lpa access)).mem = true := by
  simp [State.logDenied, hw]

@[simp] theorem State.losePage_wf (s : State) (fn : ℕ) (e : ℕ) (page : ℕ) (hw : Memory.wf (s).mem = true) :
    Memory.wf ((State.losePage s fn e page)).mem = true := by
  simp [State.losePage, hw]

@[simp] theorem State.failWait_wf (s : State) (fn : ℕ) (w : XWait) (cause : ℕ) (hw : Memory.wf (s).mem = true) :
    Memory.wf ((State.failWait s fn w cause)).mem = true := by
  unfold State.failWait
  (repeat' split) <;> simp [hw]

@[simp] theorem State.pageFault_wf (s : State) (fn : ℕ) (w : XWait) (hw : Memory.wf (s).mem = true) :
    Memory.wf ((State.pageFault s fn w)).mem = true := by
  unfold State.pageFault
  dsimp only
  (repeat' split) <;> simp [hw]

@[simp] theorem State.needPage_wf (s : State) (fn : ℕ) (va : ℕ) (write : Bool) (atomic : Bool) (direct : Bool) (who : XWho)
  (hw : Memory.wf (s).mem = true) :
    Memory.wf ((State.needPage s fn va write atomic direct who)).mem = true := by
  unfold State.needPage
  dsimp only
  (repeat' split) <;> simp [hw]

@[simp] theorem State.insn_wf (s : State) (t : Thr) (grd : BitVec 5) (vec : Bool) (legal : Bool) (xs : List ℕ) (vs : List ℕ)
  (k : Grp → Thread → State) (hw : Memory.wf (s).mem = true) (hk : ∀ g th, Memory.wf (k g th).mem = true) :
    Memory.wf (s.insn t grd vec legal xs vs k).mem = true := by
  unfold State.insn
  (repeat' split) <;> simp [hw, hk]

@[simp] theorem State.unreached_wf (s : State) (t : Thr) (va : ℕ) (k : AccKind) (r : Reach) (hw : Memory.wf (s).mem = true) :
    Memory.wf ((State.unreached s t va k r)).mem = true := by
  unfold State.unreached
  (repeat' split) <;> simp [hw]

@[simp] theorem State.putTgt_wf (s : State) (gid : ℕ) (t : Tgt) (bs : List Byte) (hw : Memory.wf (s).mem = true) :
    Memory.wf ((State.putTgt s gid t bs)).mem = true := by
  unfold State.putTgt
  (repeat' split) <;> simp [hw]

@[simp] theorem State.closeXa_wf (s : State) (gid : ℕ) (x : XaOpen) (hw : Memory.wf (s).mem = true) :
    Memory.wf ((State.closeXa s gid x)).mem = true := by
  unfold State.closeXa
  (repeat' split) <;> simp [hw]

@[simp] theorem State.closeXas_wf (s : State) (gid : ℕ) (hw : Memory.wf (s).mem = true) :
    Memory.wf ((State.closeXas s gid)).mem = true := by
  unfold State.closeXas
  (repeat' split) <;> first | (simp [hw]; done) | (refine foldl_wf _ _ _ (fun s x hs => ?_) ?_ <;> (repeat' split) <;> simp [*])

@[simp] theorem State.settleGroup_wf (s : State) (gid : ℕ) (hw : Memory.wf (s).mem = true) :
    Memory.wf ((State.settleGroup s gid)).mem = true := by
  unfold State.settleGroup
  dsimp only
  (repeat' split) <;> simp [hw]

@[simp] theorem State.atomAt_wf (s : State) (t : Thr) (f : FmtA) (legal : Bool) (k : Grp → Thread → Tgt → State)
  (hw : Memory.wf (s).mem = true) (hk : ∀ a0 a1 a2, Memory.wf (k a0 a1 a2).mem = true) :
    Memory.wf ((State.atomAt s t f legal k)).mem = true := by
  unfold State.atomAt
  refine State.insn_wf _ _ _ _ _ _ _ _ hw (fun g th => ?_)
  dsimp only
  (repeat' split) <;> simp [hw, hk]

@[simp] theorem State.atomInt_wf (s : State) (t : Thr) (f : FmtA) (o : AtomOp) (ret : Bool) (g : Grp) (th : Thread) (tgt : Tgt)
  (hw : Memory.wf (s).mem = true) :
    Memory.wf ((State.atomInt s t f o ret g th tgt)).mem = true := by
  unfold State.atomInt
  dsimp only
  (repeat' split) <;> simp [hw]

@[simp] theorem execLoad_wf (s : State) (t : Thr) (f : FmtM) (acq : Bool) (hw : Memory.wf (s).mem = true) :
    Memory.wf ((execLoad s t f acq)).mem = true := by
  unfold execLoad
  refine State.insn_wf _ _ _ _ _ _ _ _ hw (fun g th => ?_)
  dsimp only
  (repeat' split) <;> simp [hw]

@[simp] theorem State.doStore_wf (s : State) (t : Thr) (g : Grp) (th : Thread) (tgt : Tgt) (bs : List Byte)
  (hw : Memory.wf (s).mem = true) :
    Memory.wf ((State.doStore s t g th tgt bs)).mem = true := by
  unfold State.doStore
  (repeat' split) <;> simp [hw]

@[simp] theorem execStore_wf (s : State) (t : Thr) (f : FmtM) (rel : Bool) (hw : Memory.wf (s).mem = true) :
    Memory.wf ((execStore s t f rel)).mem = true := by
  unfold execStore
  refine State.insn_wf _ _ _ _ _ _ _ _ hw (fun g th => ?_)
  dsimp only
  (repeat' split) <;> simp [hw]

@[simp] theorem State.storeLanes_wf (s : State) (t : Thr) (v : List W32) (lanes : List ℕ) (size : ℕ) (at' : ℕ → Tgt)
  (hw : Memory.wf (s).mem = true) :
    Memory.wf ((State.storeLanes s t v lanes size at')).mem = true := by
  unfold State.storeLanes
  (repeat' split) <;> first | (simp [hw]; done) | (refine foldl_wf _ _ _ (fun s x hs => ?_) ?_ <;> (repeat' split) <;> simp [*])

@[simp] theorem State.copyDone_wf (s : State) (t : Thr) (g : Grp) (m : MCopyOp) (hw : Memory.wf (s).mem = true) :
    Memory.wf ((State.copyDone s t g m)).mem = true := by
  unfold State.copyDone
  dsimp only
  (repeat' split) <;> (try simp [hw]) <;> (refine foldl_wf _ _ _ ?_ ?_) <;> (try intros) <;> (repeat' split) <;> simp [*]

@[simp] theorem State.putPriv_wf (s : State) (gid : ℕ) (off : ℕ) (bs : List Byte) (hw : Memory.wf (s).mem = true) :
    Memory.wf ((State.putPriv s gid off bs)).mem = true := by
  unfold State.putPriv
  (repeat' split) <;> simp [hw]

@[simp] theorem State.writePriv_wf (s : State) (gid : ℕ) (va : ℕ) (bs : List Byte) (hw : Memory.wf (s).mem = true) :
    Memory.wf ((State.writePriv s gid va bs)).mem = true := by
  unfold State.writePriv
  (repeat' split) <;> first | (simp [hw]; done) | (refine foldl_wf _ _ _ (fun s x hs => ?_) ?_ <;> (repeat' split) <;> simp [*])

@[simp] theorem State.torusDone_wf (s : State) (gid : ℕ) (k : ℕ) (m : Memo) (hw : Memory.wf (s).mem = true) :
    Memory.wf ((State.torusDone s gid k m)).mem = true := by
  unfold State.torusDone
  (repeat' split) <;> simp [hw]

@[simp] theorem State.memberOpen_wf (s : State) (team : ℕ) (id : ℕ) (tag : ℕ) (m : Memo) (hw : Memory.wf (s).mem = true) :
    Memory.wf ((State.memberOpen s team id tag m)).mem = true := by
  unfold State.memberOpen
  refine foldl_wf _ _ _ (fun s x hs => ?_) hw
  simp only [State.modFn_frame]
  exact foldl_wf _ _ _ (fun s y hs => State.torusDone_wf _ _ _ _ hs) hs

@[simp] theorem State.rootOpen_wf (s : State) (team : ℕ) (id : ℕ) (tag : ℕ) (sumType : ℕ) (lanes : List W32)
  (hw : Memory.wf (s).mem = true) :
    Memory.wf ((State.rootOpen s team id tag sumType lanes)).mem = true := by
  unfold State.rootOpen
  simp (disch := (intros; (repeat' split) <;> simp [*]))

@[simp] theorem State.rootArrive_wf (s : State) (team : ℕ) (id : ℕ) (tag : ℕ) (rank : ℕ) (sumType : ℕ) (payload : List Byte)
  (hw : Memory.wf (s).mem = true) :
    Memory.wf ((State.rootArrive s team id tag rank sumType payload)).mem = true := by
  unfold State.rootArrive
  (repeat' split) <;> simp [hw]

@[simp] theorem State.sendArrival_wf (s : State) (team : ℕ) (id : ℕ) (tag : ℕ) (sumType : ℕ) (payload : List Byte)
  (hw : Memory.wf (s).mem = true) :
    Memory.wf ((State.sendArrival s team id tag sumType payload)).mem = true := by
  simp [State.sendArrival, hw]

@[simp] theorem State.collectFinish_wf (s : State) (team : ℕ) (id : ℕ) (tag : ℕ) (hw : Memory.wf (s).mem = true) :
    Memory.wf ((State.collectFinish s team id tag)).mem = true := by
  unfold State.collectFinish
  (repeat' split) <;> simp [hw]

@[simp] theorem State.contribute_wf (s : State) (team : ℕ) (id : ℕ) (tag : ℕ) (c : CollectOp) (bs : List Byte)
  (hw : Memory.wf (s).mem = true) :
    Memory.wf ((State.contribute s team id tag c bs)).mem = true := by
  unfold State.contribute
  refine State.collectFinish_wf _ _ _ _ ?_
  simp only [State.ownerSum_frame]
  refine foldl_wf _ _ _ (fun s x hs => ?_) hw
  split
  · simp [hs]
  · exact foldl_wf _ _ _ (fun s y hs => by simp [hs]) hs

@[simp] theorem State.collectRead_wf (s : State) (gid : ℕ) (hw : Memory.wf (s).mem = true) :
    Memory.wf ((State.collectRead s gid)).mem = true := by
  unfold State.collectRead
  (repeat' split) <;> simp [hw]

@[simp] theorem State.torusArrive_wf (s : State) (gid : ℕ) (k : ℕ) (g : Grp) (hw : Memory.wf (s).mem = true) :
    Memory.wf ((State.torusArrive s gid k g)).mem = true := by
  unfold State.torusArrive
  dsimp only
  (repeat' split) <;> simp [hw]

@[simp] theorem State.tryOpen_wf (s : State) (gid : ℕ) (k : ℕ) (hw : Memory.wf (s).mem = true) :
    Memory.wf ((State.tryOpen s gid k)).mem = true := by
  unfold State.tryOpen
  (repeat' split) <;> simp [hw]

@[simp] theorem State.arrive_wf (s : State) (t : Thr) (g : Grp) (th : Thread) (k : ℕ) (a : Arrival) (wait : Bool)
  (hw : Memory.wf (s).mem = true) :
    Memory.wf ((State.arrive s t g th k a wait)).mem = true := by
  simp [State.arrive, hw]

@[simp] theorem State.atHurdle_wf (s : State) (t : Thr) (g : Grp) (th : Thread) (scope : ℕ) (id : ℕ) (k : ℕ → State)
  (hw : Memory.wf (s).mem = true) (hk : ∀ n, Memory.wf (k n).mem = true) :
    Memory.wf (s.atHurdle t g th scope id k).mem = true := by
  unfold State.atHurdle
  (repeat' split) <;> simp [hw, hk]

@[simp] theorem State.plainArrive_wf (s : State) (t : Thr) (f : FmtS) (wait : Bool) (hw : Memory.wf (s).mem = true) :
    Memory.wf ((State.plainArrive s t f wait)).mem = true := by
  unfold State.plainArrive
  refine State.insn_wf _ _ _ _ _ _ _ _ hw (fun g th => State.atHurdle_wf _ _ _ _ _ _ _ hw (fun k => ?_))
  simp [hw]

@[simp] theorem State.tryRounds_wf (s : State) (gid : ℕ) (hw : Memory.wf (s).mem = true) :
    Memory.wf ((State.tryRounds s gid)).mem = true := by
  unfold State.tryRounds
  (repeat' split) <;> first | (simp [hw]; done) | (refine foldl_wf _ _ _ (fun s x hs => ?_) ?_ <;> (repeat' split) <;> simp [*])

@[simp] theorem State.actMsg_wf (s : State) (m : LflMsg) (hw : Memory.wf (s).mem = true) :
    Memory.wf ((State.actMsg s m)).mem = true := by
  simp [State.actMsg, hw]

@[simp] theorem State.deliverAhead_wf (s : State) (fuel : ℕ) (key : ℕ) (hw : Memory.wf (s).mem = true) :
    Memory.wf ((State.deliverAhead s fuel key)).mem = true := by
  induction fuel generalizing s with
  | zero => exact hw
  | succ k ih =>
    unfold State.deliverAhead
    split
    · exact hw
    · exact ih _ (by simp [hw])

@[simp] theorem State.deliver_wf (s : State) (m : LflMsg) (hw : Memory.wf (s).mem = true) :
    Memory.wf ((State.deliver s m)).mem = true := by
  simp [State.deliver, hw]

@[simp] theorem State.tensorOp_wf (s : State) (gid : ℕ) (core : ℕ) (g : Grp) (o : TOp) (hw : Memory.wf (s).mem = true) :
    Memory.wf ((State.tensorOp s gid core g o)).mem = true := by
  unfold State.tensorOp
  (repeat' split) <;> simp [hw]

@[simp] theorem State.withTile_wf (s : State) (t : Thr) (g : Grp) (tile : ℕ) (k : State) (hw : Memory.wf (s).mem = true)
  (hk : Memory.wf (k).mem = true) :
    Memory.wf (s.withTile t g tile k).mem = true := by
  unfold State.withTile
  (repeat' split) <;> simp [hw, hk]

@[simp] theorem State.checkMismatch_wf (s : State) (gid : ℕ) (hw : Memory.wf (s).mem = true) :
    Memory.wf ((State.checkMismatch s gid)).mem = true := by
  unfold State.checkMismatch
  dsimp only
  (repeat' split) <;> simp [hw]

@[simp] theorem State.commitAll_wf (s : State) (a : ℕ) (bs : List Byte) (hw : Memory.wf (s).mem = true) :
    Memory.wf ((State.commitAll s a bs)).mem = true := by
  unfold State.commitAll
  (repeat' split) <;> first | (simp [hw]; done) | (refine foldl_wf _ _ _ (fun s x hs => ?_) ?_ <;> (repeat' split) <;> simp [*])

@[simp] theorem State.makeDamaged_wf (s : State) (fn : ℕ) (b : ℕ) (hw : Memory.wf (s).mem = true) :
    Memory.wf ((State.makeDamaged s fn b)).mem = true := by
  unfold State.makeDamaged
  simp (disch := (intros; (repeat' split) <;> simp [*]))

@[simp] theorem State.lookupResult_wf (s : State) (fn : ℕ) (l : Lookup) (hw : Memory.wf (s).mem = true) :
    Memory.wf ((s.lookupResult fn l).2).mem = true := by
  unfold State.lookupResult
  dsimp only
  (repeat' split) <;> simp [hw]

@[simp] theorem State.dirUpdate_wf (s : State) (fn : ℕ) (b : ℕ) (e : DirEntry) (slots : List DirSlot) (hw : Memory.wf (s).mem = true) :
    Memory.wf ((State.dirUpdate s fn b e slots)).mem = true := by
  simp [State.dirUpdate, hw]

@[simp] theorem State.dirRecord_wf (s : State) (fn : ℕ) (e : ℕ) (type : ℕ) (hw : Memory.wf (s).mem = true) :
    Memory.wf ((State.dirRecord s fn e type)).mem = true := by
  unfold State.dirRecord
  (repeat' split) <;> simp [hw]

@[simp] theorem State.rebuildEntry_wf (s : State) (fn : ℕ) (b : ℕ) (hw : Memory.wf (s).mem = true) :
    Memory.wf ((State.rebuildEntry s fn b)).mem = true := by
  unfold State.rebuildEntry
  dsimp only
  (repeat' split) <;> simp [hw]

@[simp] theorem State.rebuildDir_wf (s : State) (fn : ℕ) (hw : Memory.wf (s).mem = true) :
    Memory.wf ((State.rebuildDir s fn)).mem = true := by
  unfold State.rebuildDir
  (repeat' split) <;> first | (simp [hw]; done) | (refine foldl_wf _ _ _ (fun s x hs => ?_) ?_ <;> (repeat' split) <;> simp [*])

@[simp] theorem State.inputPiece_wf (s : State) (gid : ℕ) (va : ℕ) (off : ℕ) (n : ℕ) (hw : Memory.wf (s).mem = true) :
    Memory.wf ((State.inputPiece s gid va off n)).mem = true := by
  unfold State.inputPiece
  (repeat' split) <;> simp [hw]

@[simp] theorem State.pumpInput_wf (s : State) (gid : ℕ) (hw : Memory.wf (s).mem = true) :
    Memory.wf ((State.pumpInput s gid)).mem = true := by
  unfold State.pumpInput
  dsimp only
  (repeat' split) <;> (try simp [hw]) <;> (refine foldl_wf _ _ _ ?_ ?_) <;> (try intros) <;> (repeat' split) <;> simp [*]

@[simp] theorem State.gatherPiece_wf (s : State) (gid : ℕ) (va : ℕ) (n : ℕ) (hw : Memory.wf (s).mem = true) :
    Memory.wf ((s.gatherPiece gid va n).2).mem = true := by
  unfold State.gatherPiece
  dsimp only
  (repeat' split) <;> simp [hw]

@[simp] theorem State.gatherKey_wf (s : State) (gid : ℕ) (k : ℕ) (hw : Memory.wf (s).mem = true) :
    Memory.wf ((State.gatherKey s gid k)).mem = true := by
  unfold State.gatherKey
  split
  · exact hw
  · simp only [State.modGrp_frame]
    refine foldl_sndWf _ _ _ (fun p x hs => ?_) hw
    exact State.gatherPiece_wf _ _ _ _ hs

@[simp] theorem State.writeBlocks_wf (s : State) (g : Grp) (hw : Memory.wf (s).mem = true) :
    Memory.wf ((State.writeBlocks s g)).mem = true := by
  unfold State.writeBlocks
  dsimp only
  (repeat' split) <;> (try simp [hw]) <;> (refine foldl_wf _ _ _ ?_ ?_) <;> (try intros) <;> (repeat' split) <;> simp [*]

@[simp] theorem State.clearCores_wf (s : State) (g : Grp) (hw : Memory.wf (s).mem = true) :
    Memory.wf ((State.clearCores s g)).mem = true := by
  unfold State.clearCores
  (repeat' split) <;> first | (simp [hw]; done) | (refine foldl_wf _ _ _ (fun s x hs => ?_) ?_ <;> (repeat' split) <;> simp [*])

@[simp] theorem State.clearPriv_wf (s : State) (g : Grp) (hw : Memory.wf (s).mem = true) :
    Memory.wf ((State.clearPriv s g)).mem = true := by
  unfold State.clearPriv
  (repeat' split) <;> first | (simp [hw]; done) | (refine foldl_wf _ _ _ (fun s x hs => ?_) ?_ <;> (repeat' split) <;> simp [*])

@[simp] theorem State.writeRows_wf (s : State) (g : Grp) (hw : Memory.wf (s).mem = true) :
    Memory.wf ((State.writeRows s g)).mem = true := by
  unfold State.writeRows
  exact foldl_wf _ _ _ (fun s x hs => foldl_wf _ _ _ (fun s y hs => State.store_wf _ _ _ hs) hs) hw

@[simp] theorem State.putCores_wf (s : State) (g : Grp) (hw : Memory.wf (s).mem = true) :
    Memory.wf ((State.putCores s g)).mem = true := by
  unfold State.putCores
  exact foldl_wf _ _ _ (fun s x hs => State.writeByte_wf _ _ _ hs) (foldl_wf _ _ _ (fun s y hs => State.wipe_wf _ _ _ hs) hw)

@[simp] theorem State.outPage_wf (s : State) (fn : ℕ) (e : ℕ) (page : ℕ) (set : SMap Byte) (hw : Memory.wf (s).mem = true) :
    Memory.wf ((State.outPage s fn e page set)).mem = true := by
  unfold State.outPage
  dsimp only
  (repeat' split) <;> (try simp [hw]) <;> (refine foldl_wf _ _ _ ?_ ?_) <;> (try intros) <;> (repeat' split) <;> simp [*]

@[simp] theorem State.pumpOut_wf (s : State) (fn : ℕ) (hw : Memory.wf (s).mem = true) :
    Memory.wf ((State.pumpOut s fn)).mem = true := by
  unfold State.pumpOut
  split
  · exact hw
  · refine foldl_wf _ _ _ (fun s x hs => ?_) hw
    (repeat' split)
    · exact foldl_wf _ _ _ (fun s y hs => State.outPage_wf _ _ _ _ _ hs) hs
    · exact hs
    · exact hs

@[simp] theorem State.ringPlace_wf (s : State) (fn : ℕ) (va : ℕ) (hw : Memory.wf (s).mem = true) :
    Memory.wf ((s.ringPlace fn va).2).mem = true := by
  unfold State.ringPlace
  (repeat' split) <;> simp [hw]

@[simp] theorem State.auditWrite_wf (s : State) (fn : ℕ) (hw : Memory.wf (s).mem = true) :
    Memory.wf ((State.auditWrite s fn)).mem = true := by
  have hw' := State.ringPlace_wf s fn ((s.fn fn).auditAddr + 256 * (((s.fn fn).audit.written - (s.fn fn).audit.origin) % 2 ^ (s.fn fn).auditLog)) hw
  unfold State.auditWrite
  dsimp only
  split
  · exact hw
  · split <;> rename_i heq <;> rw [heq] at hw' <;> simp_all

@[simp] theorem State.loadPiece_wf (s : State) (fn : ℕ) (e : ℕ) (va : ℕ) (off : ℕ) (n : ℕ) (hw : Memory.wf (s).mem = true) :
    Memory.wf ((State.loadPiece s fn e va off n)).mem = true := by
  unfold State.loadPiece
  (repeat' split) <;> simp [hw]

@[simp] theorem State.pumpLoad_wf (s : State) (fn : ℕ) (e : ℕ) (hw : Memory.wf (s).mem = true) :
    Memory.wf ((State.pumpLoad s fn e)).mem = true := by
  unfold State.pumpLoad
  (repeat' split) <;> first | (simp [hw]; done) | (refine foldl_wf _ _ _ (fun s x hs => ?_) ?_ <;> (repeat' split) <;> simp [*])

@[simp] theorem State.pump_wf (s : State) (fn : ℕ) (hw : Memory.wf (s).mem = true) :
    Memory.wf ((State.pump s fn)).mem = true := by
  unfold State.pump
  dsimp only
  refine foldl_wf _ _ _ (fun s x hs => State.pumpInput_wf _ _ hs) (foldl_wf _ _ _ (fun s x hs => State.pumpLoad_wf _ _ _ hs) ?_)
  exact State.pumpOut_wf _ _ hw

@[simp] theorem State.putEnt_wf (s : State) (a : ℕ) (v : ℕ) (hw : Memory.wf (s).mem = true) :
    Memory.wf ((State.putEnt s a v)).mem = true := by
  simp [State.putEnt, hw]

@[simp] theorem State.split64_wf (s : State) (tbl : ℕ) (va : ℕ) (e : ℕ) (hw : Memory.wf (s).mem = true) :
    Memory.wf ((State.split64 s tbl va e)).mem = true := by
  unfold State.split64
  dsimp only
  (repeat' split) <;> (try simp [hw]) <;> (refine foldl_wf _ _ _ ?_ ?_) <;> (try intros) <;> (repeat' split) <;> simp [*]

theorem State.newTable_wf (s : State) (fn : Nat) (e : Nat → Nat) (a : Nat) (s' : State) (h : s.newTable fn e = some (a, s'))
    (hs : Memory.wf s.mem = true) : Memory.wf s'.mem = true := by
  unfold State.newTable at h
  split at h
  · cases h
  · simp at h
    simp [← h.2, hs]

@[simp] theorem State.setLeaf_wf (s : State) (fn : ℕ) (va : ℕ) (target : ℕ) (size64 : Bool) (k : LeafKind) (lvl : ℕ) (tbl : ℕ)
  (hw : Memory.wf (s).mem = true) :
    Memory.wf ((State.setLeaf s fn va target size64 k lvl tbl)).mem = true := by
  induction lvl generalizing s tbl with
  | zero =>
    unfold State.setLeaf
    dsimp only
    (repeat' split) <;> simp +contextual [hw]
  | succ l ih =>
    unfold State.setLeaf
    dsimp only
    split
    · simp [hw]
    · split
      · exact ih _ _ hw
      · split
        · exact hw
        · split
          · exact hw
          · rename_i h'
            exact ih _ _ (by simp [State.newTable_wf _ _ _ _ _ h' hw])

@[simp] theorem State.setPage_wf (s : State) (fn : ℕ) (va : ℕ) (r : List Byte) (i : ℕ) (hw : Memory.wf (s).mem = true) :
    Memory.wf ((State.setPage s fn va r i)).mem = true := by
  simp [State.setPage, hw]

@[simp] theorem State.walkBroken_wf (s : State) (fn : ℕ) (w : XWait) (poison : Bool) (hw : Memory.wf (s).mem = true) :
    Memory.wf ((State.walkBroken s fn w poison)).mem = true := by
  unfold State.walkBroken
  (repeat' split) <;> simp [hw]

@[simp] theorem State.retryWaits_wf (s : State) (fn : ℕ) (p : XWait → Bool) (hw : Memory.wf (s).mem = true) :
    Memory.wf ((State.retryWaits s fn p)).mem = true := by
  unfold State.retryWaits
  dsimp only
  (repeat' split) <;> (try simp [hw]) <;> (refine foldl_wf _ _ _ ?_ ?_) <;> (try intros) <;> (repeat' split) <;> simp [*]

@[simp] theorem State.afterAts_wf (s : State) (fn : ℕ) (w : XWait) (hw : Memory.wf (s).mem = true) :
    Memory.wf ((State.afterAts s fn w)).mem = true := by
  unfold State.afterAts
  (repeat' split) <;> simp [hw]

@[simp] theorem State.failPrg_wf (s : State) (fn : ℕ) (i : ℕ) (cause : ℕ) (hw : Memory.wf (s).mem = true) :
    Memory.wf ((State.failPrg s fn i cause)).mem = true := by
  unfold State.failPrg
  dsimp only
  (repeat' split) <;> (try simp [hw]) <;> (refine foldl_wf _ _ _ ?_ ?_) <;> (try intros) <;> (repeat' split) <;> simp [*]

@[simp] theorem State.prgFailure_wf (s : State) (fn : ℕ) (hw : Memory.wf (s).mem = true) :
    Memory.wf ((State.prgFailure s fn)).mem = true := by
  unfold State.prgFailure
  simp (disch := (intros; (repeat' split) <;> simp [*]))

@[simp] theorem State.fevalWith_wf (s : State) (t : Thr) (g : Grp) (th : Thread) (d : List Byte) (header : Option (List Byte × Bool))
  (hw : Memory.wf (s).mem = true) :
    Memory.wf ((State.fevalWith s t g th d header)).mem = true := by
  unfold State.fevalWith
  dsimp only
  (repeat' split) <;> simp [hw]

@[simp] theorem State.startFeval_wf (s : State) (t : Thr) (g : Grp) (th : Thread) (d : List Byte) (hw : Memory.wf (s).mem = true) :
    Memory.wf ((State.startFeval s t g th d)).mem = true := by
  simp [State.startFeval, hw]

@[simp] theorem State.stileLookup_wf (s : State) (fn : ℕ) (key : W64) (hw : Memory.wf (s).mem = true) :
    Memory.wf ((s.stileLookup fn key).2).mem = true := by
  simp [State.stileLookup, hw]

@[simp] theorem State.dirRefuses_wf (s : State) (fn : ℕ) (r : List Byte) (hw : Memory.wf (s).mem = true) :
    Memory.wf ((s.dirRefuses fn r).2).mem = true := by
  have hw' := State.stileLookup_wf s fn (dirKey r) hw
  unfold State.dirRefuses
  dsimp only
  (repeat' split) <;> (try rename_i heq) <;> (try rw [heq] at hw') <;> simp_all

@[simp] theorem State.check8_wf (s : State) (fn : ℕ) (r : List Byte) (hw : Memory.wf (s).mem = true) :
    Memory.wf ((s.check8 fn r).2).mem = true := by
  unfold State.check8
  dsimp only
  (repeat' split) <;> simp [hw]

@[simp] theorem State.lateChecks_wf (s : State) (fn : ℕ) (r : List Byte) (hw : Memory.wf (s).mem = true) :
    Memory.wf ((s.lateChecks fn r).2).mem = true := by
  have hw' := State.check8_wf s fn r hw
  unfold State.lateChecks
  dsimp only
  (repeat' split) <;> simp_all

@[simp] theorem State.orderChecks_wf (s : State) (fn : ℕ) (x : Slot) (r : List Byte) (hw : Memory.wf (s).mem = true) :
    Memory.wf ((s.orderChecks fn x r).2).mem = true := by
  simp only [State.orderChecks]
  (repeat' split) <;> simp [hw]

@[simp] theorem State.verdict_wf (s : State) (fn : ℕ) (x : Slot) (hw : Memory.wf (s).mem = true) :
    Memory.wf ((s.verdict fn x).2).mem = true := by
  unfold State.verdict
  dsimp only
  (repeat' split) <;> simp [hw]

@[simp] theorem State.judge_wf (s : State) (fn : ℕ) (i : ℕ) (hw : Memory.wf (s).mem = true) :
    Memory.wf ((State.judge s fn i)).mem = true := by
  have hw' := State.verdict_wf s fn ((s.fn fn).slot i) hw
  unfold State.judge
  dsimp only
  split
  · exact hw
  · split <;> rename_i heq <;> rw [heq] at hw' <;> simp_all

@[simp] theorem State.intake_wf (s : State) (fn : ℕ) (hw : Memory.wf (s).mem = true) :
    Memory.wf ((State.intake s fn)).mem = true := by
  unfold State.intake
  (repeat' split) <;> first | (simp [hw]; done) | (refine foldl_wf _ _ _ (fun s x hs => ?_) ?_ <;> (repeat' split) <;> simp [*])

@[simp] theorem State.slotWrite_wf (s : State) (fn : ℕ) (i : ℕ) (cells : List (ℕ × Byte)) (hw : Memory.wf (s).mem = true) :
    Memory.wf ((State.slotWrite s fn i cells)).mem = true := by
  simp [State.slotWrite, hw]

@[simp] theorem State.acceptEntry_wf (s : State) (fn : ℕ) (e : ℕ) (j : JEntry) (hw : Memory.wf (s).mem = true) :
    Memory.wf ((State.acceptEntry s fn e j)).mem = true := by
  unfold State.acceptEntry
  dsimp only
  (repeat' split) <;> simp [hw]

@[simp] theorem State.beginLoad_wf (s : State) (fn : ℕ) (e : ℕ) (type : ℕ) (hw : Memory.wf (s).mem = true) :
    Memory.wf ((State.beginLoad s fn e type)).mem = true := by
  unfold State.beginLoad
  (repeat' split) <;> simp [hw]

@[simp] theorem State.placeImage_wf (s : State) (fn : ℕ) (r : List Byte) (image : List Byte) (h : Handle) (hw : Memory.wf (s).mem = true) :
    Memory.wf ((State.placeImage s fn r image h)).mem = true := by
  simp [State.placeImage, hw]

@[simp] theorem State.commitLoad_wf (s : State) (fn : ℕ) (e : ℕ) (j : JEntry) (image : List Byte) (hw : Memory.wf (s).mem = true) :
    Memory.wf ((State.commitLoad s fn e j image)).mem = true := by
  unfold State.commitLoad
  dsimp only
  (repeat' split) <;> simp [hw]

@[simp] theorem State.stopRunning_wf (s : State) (fn : ℕ) (hw : Memory.wf (s).mem = true) :
    Memory.wf ((State.stopRunning s fn)).mem = true := by
  unfold State.stopRunning
  refine State.progress_wf _ _ (foldl_wf _ _ _ (fun s x hs => ?_) hw)
  (repeat' split) <;> simp [hs]

@[simp] theorem State.forceQuiesce_wf (s : State) (fn : ℕ) (hw : Memory.wf (s).mem = true) :
    Memory.wf ((State.forceQuiesce s fn)).mem = true := by
  simp [State.forceQuiesce, hw]

@[simp] theorem State.giveData_wf (s : State) (q : PcieReq) (d : List Byte) (hw : Memory.wf (s).mem = true) :
    Memory.wf ((State.giveData s q d)).mem = true := by
  unfold State.giveData
  (repeat' split) <;> simp [hw]

@[simp] theorem State.failRead_wf (s : State) (q : PcieReq) (hw : Memory.wf (s).mem = true) :
    Memory.wf ((State.failRead s q)).mem = true := by
  unfold State.failRead
  (repeat' split) <;> simp [hw]

@[simp] theorem State.poisonRead_wf (s : State) (q : PcieReq) (hw : Memory.wf (s).mem = true) :
    Memory.wf ((State.poisonRead s q)).mem = true := by
  unfold State.poisonRead
  (repeat' split) <;> simp [hw]

@[simp] theorem State.resumeHost_wf (s : State) (fn : ℕ) (hw : Memory.wf (s).mem = true) :
    Memory.wf ((State.resumeHost s fn)).mem = true := by
  unfold State.resumeHost
  split
  · exact hw
  · refine State.pump_wf _ _ (State.retryWaits_wf _ _ _ ?_)
    simp [hw]

@[simp] theorem State.tdiFail_wf (s : State) (fn : ℕ) (hw : Memory.wf (s).mem = true) :
    Memory.wf ((State.tdiFail s fn)).mem = true := by
  simp [State.tdiFail, hw]

@[simp] theorem State.beginFlr_wf (s : State) (fn : ℕ) (hw : Memory.wf (s).mem = true) :
    Memory.wf ((State.beginFlr s fn)).mem = true := by
  simp [State.beginFlr, hw]

@[simp] theorem State.flrAll_wf (s : State) (fns : List ℕ) (hw : Memory.wf (s).mem = true) :
    Memory.wf ((State.flrAll s fns)).mem = true := by
  unfold State.flrAll
  (repeat' split) <;> first | (simp [hw]; done) | (refine foldl_wf _ _ _ (fun s x hs => ?_) ?_ <;> (repeat' split) <;> simp [*])

@[simp] theorem State.vfsOff_wf (s : State) (hw : Memory.wf (s).mem = true) :
    Memory.wf ((State.vfsOff s)).mem = true := by
  simp [State.vfsOff, hw]

@[simp] theorem State.resetEndpoint_wf (s : State) (sticky : Bool) (hw : Memory.wf (s).mem = true) :
    Memory.wf ((State.resetEndpoint s sticky)).mem = true := by
  simp [State.resetEndpoint, hw]

@[simp] theorem State.damageBuckets_wf (s : State) (fn : ℕ) (hw : Memory.wf (s).mem = true) :
    Memory.wf ((State.damageBuckets s fn)).mem = true := by
  unfold State.damageBuckets
  dsimp only
  (repeat' split) <;> (try simp [hw]) <;> (refine foldl_wf _ _ _ ?_ ?_) <;> (try intros) <;> (repeat' split) <;> simp [*]

@[simp] theorem State.fenceStack_wf (s : State) (stack : ℕ) (hw : Memory.wf (s).mem = true) :
    Memory.wf ((State.fenceStack s stack)).mem = true := by
  unfold State.fenceStack
  dsimp only
  (repeat' split) <;> (try simp [hw]) <;> (refine foldl_wf _ _ _ ?_ ?_) <;> (try intros) <;> (repeat' split) <;> simp [*]

@[simp] theorem State.countUe_wf (s : State) (stack : ℕ) (hw : Memory.wf (s).mem = true) :
    Memory.wf ((State.countUe s stack)).mem = true := by
  simp [State.countUe, hw]

@[simp] theorem State.repairTwin_wf (s : State) (lpa : ℕ) (initiator : ℕ) (hw : Memory.wf (s).mem = true) :
    Memory.wf ((State.repairTwin s lpa initiator)).mem = true := by
  simp [State.repairTwin, hw]

@[simp] theorem State.lineError_wf (s : State) (lpa : ℕ) (initiator : ℕ) (access : ℕ) (r : EccResult) (hw : Memory.wf (s).mem = true) :
    Memory.wf ((State.lineError s lpa initiator access r)).mem = true := by
  unfold State.lineError
  (repeat' split) <;> simp [hw]

@[simp] theorem State.thermalTrip_wf (s : State) (phys : ℕ) (hw : Memory.wf (s).mem = true) :
    Memory.wf ((State.thermalTrip s phys)).mem = true := by
  simp [State.thermalTrip, hw]

@[simp] theorem State.shortfallReport_wf (s : State) (g : ℕ) (recovered : Bool) (hw : Memory.wf (s).mem = true) :
    Memory.wf ((State.shortfallReport s g recovered)).mem = true := by
  simp [State.shortfallReport, hw]

@[simp] theorem State.markShortfall_wf (s : State) (hw : Memory.wf (s).mem = true) :
    Memory.wf ((State.markShortfall s)).mem = true := by
  unfold State.markShortfall
  simp (disch := (intros; (repeat' split) <;> simp [*]))

@[simp] theorem State.lateSpeaker_wf (s : State) (src : ℕ) (hw : Memory.wf (s).mem = true) :
    Memory.wf ((State.lateSpeaker s src)).mem = true := by
  unfold State.lateSpeaker
  (repeat' split) <;> simp [hw]

@[simp] theorem State.fenceHalf_wf (s : State) (link : ℕ) (half : ℕ) (hw : Memory.wf (s).mem = true) :
    Memory.wf ((State.fenceHalf s link half)).mem = true := by
  simp [State.fenceHalf, hw]

@[simp] theorem State.reqWrite_wf (s : State) (q : ReqFlit) (a : ℕ) (bs : List Byte) (hw : Memory.wf (s).mem = true) :
    Memory.wf ((State.reqWrite s q a bs)).mem = true := by
  unfold State.reqWrite
  (repeat' split) <;> simp [hw]

@[simp] theorem State.reqArrive_wf (s : State) (q : ReqFlit) (op : ℕ) (left : ℕ) (write : Bool) (access : ℕ) (k : State → State)
  (hw : Memory.wf (s).mem = true) (hk : ∀ s, Memory.wf (s).mem = true → Memory.wf (k s).mem = true) :
    Memory.wf (s.reqArrive q op left write access k).mem = true := by
  unfold State.reqArrive
  dsimp only
  (repeat' split) <;> simp [hw, hk]

@[simp] theorem State.servedError_wf (s : State) (q : ReqFlit) (hw : Memory.wf (s).mem = true) :
    Memory.wf ((State.servedError s q)).mem = true := by
  simp [State.servedError, hw]

@[simp] theorem State.writeData_wf (s : State) (key : ℕ) (o : NocReq) (d : DatFlit) (hw : Memory.wf (s).mem = true) :
    Memory.wf ((State.writeData s key o d)).mem = true := by
  unfold State.writeData
  dsimp only
  (repeat' split) <;> (try simp [hw]) <;> (refine foldl_wf _ _ _ ?_ ?_) <;> (try intros) <;> (repeat' split) <;> simp [*]

@[simp] theorem State.cohDeny_wf (s : State) (src : ℕ) (dst : ℕ) (a : ℕ) (hw : Memory.wf (s).mem = true) :
    Memory.wf ((State.cohDeny s src dst a)).mem = true := by
  simp [State.cohDeny, hw]

@[simp] theorem State.cohArrive_wf (s : State) (q : ReqFlit) (kind : TxnKind) (hw : Memory.wf (s).mem = true) :
    Memory.wf ((State.cohArrive s q kind)).mem = true := by
  unfold State.cohArrive
  (repeat' split) <;> simp [hw]

@[simp] theorem State.settleLost_wf (s : State) (line : ℕ) (t : CohTxn) (hw : Memory.wf (s).mem = true) :
    Memory.wf ((s.settleLost line t).1).mem = true := by
  unfold State.settleLost
  (repeat' split) <;> simp [hw]

@[simp] theorem State.tryGrant_wf (s : State) (line : ℕ) (hw : Memory.wf (s).mem = true) :
    Memory.wf ((State.tryGrant s line)).mem = true := by
  unfold State.tryGrant
  (repeat' split) <;> simp [hw]

@[simp] theorem State.pushData_wf (s : State) (line : ℕ) (data : List Byte) (poison : Bool) (hw : Memory.wf (s).mem = true) :
    Memory.wf ((State.pushData s line data poison)).mem = true := by
  simp [State.pushData, hw]

@[simp] theorem State.writebackData_wf (s : State) (line : ℕ) (t : CohTxn) (data : List Byte) (poison : Bool)
  (hw : Memory.wf (s).mem = true) :
    Memory.wf ((State.writebackData s line t data poison)).mem = true := by
  simp [State.writebackData, hw]

@[simp] theorem State.excludePort_wf (s : State) (p : ℕ) (reason : ℕ) (hw : Memory.wf (s).mem = true) :
    Memory.wf ((State.excludePort s p reason)).mem = true := by
  simp [State.excludePort, hw]

@[simp] theorem State.authFail_wf (s : State) (p : ℕ) (hw : Memory.wf (s).mem = true) :
    Memory.wf ((State.authFail s p)).mem = true := by
  simp [State.authFail, hw]

@[simp] theorem State.deliverLfl_wf (s : State) (m : LflMsg) (hw : Memory.wf (s).mem = true) :
    Memory.wf ((State.deliverLfl s m)).mem = true := by
  simp [State.deliverLfl, hw]

@[simp] theorem State.setLanes_wf (s : State) (p : ℕ) (ls : List ℕ) (hw : Memory.wf (s).mem = true) :
    Memory.wf ((State.setLanes s p ls)).mem = true := by
  simp [State.setLanes, hw]

@[simp] theorem State.laneLost_wf (s : State) (port : ℕ) (lane : ℕ) (cause : ℕ) (hw : Memory.wf (s).mem = true) :
    Memory.wf ((State.laneLost s port lane cause)).mem = true := by
  simp [State.laneLost, hw]

@[simp] theorem State.fenceSite_wf (s : State) (n : ℕ) (hw : Memory.wf (s).mem = true) :
    Memory.wf ((State.fenceSite s n)).mem = true := by
  unfold State.fenceSite
  split
  · exact hw
  · dsimp only
    simp only [State.advance_frame]
    refine foldl_wf _ _ _ (fun s x hs => State.datapathError_wf _ _ _ hs) ?_
    split <;> simp <;> refine foldl_wf _ _ _ (fun s x hs => State.tryGrant_wf _ _ hs) ?_ <;> simp [hw]

@[simp] theorem State.dropAgent_wf (s : State) (n : ℕ) (hw : Memory.wf (s).mem = true) :
    Memory.wf ((State.dropAgent s n)).mem = true := by
  unfold State.dropAgent
  dsimp only
  (repeat' split) <;> (try simp [hw]) <;> (refine foldl_wf _ _ _ ?_ ?_) <;> (try intros) <;> (repeat' split) <;> simp [*]

@[simp] theorem State.pulseSite_wf (s : State) (n : ℕ) (hw : Memory.wf (s).mem = true) :
    Memory.wf ((State.pulseSite s n)).mem = true := by
  simp [State.pulseSite, hw]

@[simp] theorem State.mismatch_wf (s : State) (n : ℕ) (hw : Memory.wf (s).mem = true) :
    Memory.wf ((State.mismatch s n)).mem = true := by
  simp [State.mismatch, hw]

@[simp] theorem State.checkPair_wf (s : State) (n : ℕ) (hw : Memory.wf (s).mem = true) :
    Memory.wf ((State.checkPair s n)).mem = true := by
  unfold State.checkPair
  (repeat' split) <;> simp [hw]

@[simp] theorem State.noteSiteHeat_wf (s : State) (n : ℕ) (temp : ℕ) (hw : Memory.wf (s).mem = true) :
    Memory.wf ((State.noteSiteHeat s n temp)).mem = true := by
  simp [State.noteSiteHeat, hw]

@[simp] theorem State.siteHeat_wf (s : State) (n : ℕ) (temp : ℕ) (overBudget : Bool) (hw : Memory.wf (s).mem = true) :
    Memory.wf ((State.siteHeat s n temp overBudget)).mem = true := by
  simp [State.siteHeat, hw]

@[simp] theorem State.chipReport_wf (s : State) (n : ℕ) (cls : FaultClass) (off : ℕ) (hw : Memory.wf (s).mem = true) :
    Memory.wf ((State.chipReport s n cls off)).mem = true := by
  unfold State.chipReport
  (repeat' split) <;> simp [hw]

@[simp] theorem State.winStatus_wf (s : State) (n : ℕ) (q : WinReq) (st : ℕ) (hw : Memory.wf (s).mem = true) :
    Memory.wf ((State.winStatus s n q st)).mem = true := by
  simp [State.winStatus, hw]

@[simp] theorem State.dmaReach_wf (s : State) (fn : ℕ) (va : ℕ) (write : Bool) (hw : Memory.wf (s).mem = true) :
    Memory.wf ((s.dmaReach fn va write).2).mem = true := by
  unfold State.dmaReach
  dsimp only
  (repeat' split) <;> simp [hw]

@[simp] theorem State.dmaDeny_wf (s : State) (n : ℕ) (m : LspMsg) (write : Bool) (hw : Memory.wf (s).mem = true) :
    Memory.wf ((State.dmaDeny s n m write)).mem = true := by
  simp [State.dmaDeny, hw]

@[simp] theorem State.dmaServe_wf (s : State) (n : ℕ) (m : LspMsg) (hw : Memory.wf (s).mem = true) :
    Memory.wf ((State.dmaServe s n m)).mem = true := by
  unfold State.dmaServe
  dsimp only
  split
  · simp [hw]
  · rename_i fn _
    have hw' := State.dmaReach_wf s fn m.addr false hw
    split <;> rename_i heq <;> rw [heq] at hw'
    · simp_all
    · (repeat' split) <;> simp_all +contextual

@[simp] theorem State.dmaStore_wf (s : State) (n : ℕ) (d : DmaReq) (hw : Memory.wf (s).mem = true) :
    Memory.wf ((State.dmaStore s n d)).mem = true := by
  unfold State.dmaStore
  dsimp only
  split
  · simp [hw]
  · rename_i fn _
    have hw' := State.dmaReach_wf s fn d.msg.addr true hw
    split <;> rename_i heq <;> rw [heq] at hw'
    · simp_all
    · (repeat' split) <;> simp_all +contextual

@[simp] theorem State.pumpDma_wf (s : State) (n : ℕ) (hw : Memory.wf (s).mem = true) :
    Memory.wf ((State.pumpDma s n)).mem = true := by
  unfold State.pumpDma
  dsimp only
  (repeat' split) <;> (try simp [hw]) <;> (refine foldl_wf _ _ _ ?_ ?_) <;> (try intros) <;> (repeat' split) <;> simp [*]

@[simp] theorem State.tagFail_wf (s : State) (n : ℕ) (tag : ℕ) (w : DataFor) (hw : Memory.wf (s).mem = true) :
    Memory.wf ((State.tagFail s n tag w)).mem = true := by
  unfold State.tagFail
  cases w with
  | win q =>
    dsimp only
    (repeat' split) <;> simp [hw]
  | dma =>
    dsimp only
    split
    · exact State.fenceSite_wf _ _ (foldl_wf _ _ _ (fun s x hs => by split <;> (try split) <;> simp [hs]) (by simp [hw]))
    · exact foldl_wf _ _ _ (fun s x hs => by split <;> (try split) <;> simp [hs]) (by simp [hw])
  | _ =>
    dsimp only
    split <;> simp [hw]

@[simp] theorem State.winData_wf (s : State) (n : ℕ) (tag : ℕ) (q : WinReq) (line : List Byte) (hw : Memory.wf (s).mem = true) :
    Memory.wf ((State.winData s n tag q line)).mem = true := by
  simp [State.winData, hw]

@[simp] theorem State.beginTrans_wf (s : State) (t : Trans) (tok : List Byte) (hw : Memory.wf (s).mem = true) :
    Memory.wf ((State.beginTrans s t tok)).mem = true := by
  unfold State.beginTrans
  dsimp only
  (repeat' split) <;> (try simp [hw]) <;> (refine foldl_wf _ _ _ ?_ ?_) <;> (try intros) <;> (repeat' split) <;> simp [*]

@[simp] theorem State.submitToken_wf (s : State) (hw : Memory.wf (s).mem = true) :
    Memory.wf ((State.submitToken s)).mem = true := by
  simp [State.submitToken, hw]

@[simp] theorem State.submitIf_wf (s : State) (op : ℕ) (hw : Memory.wf (s).mem = true) :
    Memory.wf ((State.submitIf s op)).mem = true := by
  simp [State.submitIf, hw]

@[simp] theorem State.scrubChips_wf (s : State) (n : ℕ) (hw : Memory.wf (s).mem = true) :
    Memory.wf ((State.scrubChips s n)).mem = true := by
  unfold State.scrubChips
  dsimp only
  simp only [State.drawSalt_frame, State.modFn_frame]
  refine foldl_wf _ _ _ (fun s x hs => State.wipe_wf _ _ _ hs) ?_
  simp only [State.dropNodes_frame, State.foldDrop_frame]
  refine foldl_wf _ _ _ (fun s x hs => State.wipe_wf _ _ _ hs) ?_
  simp [hw]

@[simp] theorem State.scrubEnd_wf (s : State) (n : ℕ) (hw : Memory.wf (s).mem = true) :
    Memory.wf ((State.scrubEnd s n)).mem = true := by
  simp [State.scrubEnd, hw]

@[simp] theorem State.errorAll_wf (s : State) (gs : List ℕ) (clears : Bool) (hw : Memory.wf (s).mem = true) :
    Memory.wf ((State.errorAll s gs clears)).mem = true := by
  unfold State.errorAll
  (repeat' split) <;> first | (simp [hw]; done) | (refine foldl_wf _ _ _ (fun s x hs => ?_) ?_ <;> (repeat' split) <;> simp [*])

@[simp] theorem State.absentLine_wf (s : State) (line : ℕ) (hw : Memory.wf (s).mem = true) :
    Memory.wf ((State.absentLine s line)).mem = true := by
  simp [State.absentLine, hw]

@[simp] theorem State.fenceSlice_wf (s : State) (phys : ℕ) (cause : ℕ) (hw : Memory.wf (s).mem = true) :
    Memory.wf ((State.fenceSlice s phys cause)).mem = true := by
  unfold State.fenceSlice
  split
  · exact hw
  · split
    · simp [hw]
    · dsimp only
      split
      · refine State.report_wf _ _ (State.errorAll_wf _ _ _ (foldl_wf _ _ _ (fun s x hs => State.absentLine_wf _ _ hs)
      (foldl_wf _ _ _ (fun s x hs => State.report_wf _ _ hs) ?_)))
        simp [hw]
      · refine State.errorAll_wf _ _ _ (foldl_wf _ _ _ (fun s x hs => State.absentLine_wf _ _ hs)
      (foldl_wf _ _ _ (fun s x hs => State.report_wf _ _ hs) ?_))
        simp [hw]

@[simp] theorem State.fenceNamed_wf (s : State) (kind : ℕ) (unit : ℕ) (cause : ℕ) (hw : Memory.wf (s).mem = true) :
    Memory.wf ((State.fenceNamed s kind unit cause)).mem = true := by
  simp [State.fenceNamed, hw]

@[simp] theorem State.countSramUe_wf (s : State) (kind : ℕ) (unit : ℕ) (hw : Memory.wf (s).mem = true) :
    Memory.wf ((State.countSramUe s kind unit)).mem = true := by
  simp [State.countSramUe, hw]

@[simp] theorem State.sramError_wf (s : State) (r : Report) (hw : Memory.wf (s).mem = true) :
    Memory.wf ((State.sramError s r)).mem = true := by
  have h2 : ∀ gs, Memory.wf (((s.report r).errorAll gs true).countSramUe r.kind r.unit).mem = true := fun gs =>
    State.countSramUe_wf _ _ _ (State.errorAll_wf _ _ _ (State.report_wf _ _ hw))
  unfold State.sramError
  dsimp only
  split
  · simp [hw]
  · split
    · simp [hw]
    · exact h2 _

@[simp] theorem State.hbmError_wf (s : State) (r : Report) (e : EccResult) (hw : Memory.wf (s).mem = true) :
    Memory.wf ((State.hbmError s r e)).mem = true := by
  simp [State.hbmError, hw]

@[simp] theorem State.integrityError_wf (s : State) (r : Report) (hw : Memory.wf (s).mem = true) :
    Memory.wf ((State.integrityError s r)).mem = true := by
  simp [State.integrityError, hw]

@[simp] theorem State.pasturePoison_wf (s : State) (r : Report) (hw : Memory.wf (s).mem = true) :
    Memory.wf ((State.pasturePoison s r)).mem = true := by
  unfold State.pasturePoison
  dsimp only
  (repeat' split) <;> simp [hw]

@[simp] theorem State.bucketDamaged_wf (s : State) (r : Report) (hw : Memory.wf (s).mem = true) :
    Memory.wf ((State.bucketDamaged s r)).mem = true := by
  unfold State.bucketDamaged
  (repeat' split) <;> simp [hw]

@[simp] theorem State.bucketRebuilt_wf (s : State) (r : Report) (hw : Memory.wf (s).mem = true) :
    Memory.wf ((State.bucketRebuilt s r)).mem = true := by
  unfold State.bucketRebuilt
  (repeat' split) <;> simp [hw]

@[simp] theorem State.react_wf (s : State) (r : Report) (hw : Memory.wf (s).mem = true) :
    Memory.wf ((State.react s r)).mem = true := by
  have h1 := State.report_wf s r hw
  have h2 := fun k u c => State.fenceNamed_wf _ k u c h1
  have h3 := fun gs b => State.errorAll_wf _ gs b h1
  have h4 := fun k u c gs b => State.errorAll_wf _ gs b (h2 k u c)
  have h5 := State.errorAll_wf _ r.records true (State.fenceNamed_wf _ r.kind r.unit cCalMargin (State.report_wf (s.hubCount CAL_UC_COUNT 1) r (by simp [hw])))
  simp [State.react, hw, h1, h2, h3, h4, h5]

@[simp] theorem State.takeReport_wf (s : State) (r : Report) (hw : Memory.wf (s).mem = true) :
    Memory.wf ((State.takeReport s r)).mem = true := by
  simp [State.takeReport, hw]

@[simp] theorem State.powerUp_wf (s : State) (cause : ℕ) (hw : Memory.wf (s).mem = true) :
    Memory.wf ((State.powerUp s cause)).mem = true := by
  simp [State.powerUp, hw]

@[simp] theorem State.powerDown_wf (s : State) (hw : Memory.wf (s).mem = true) :
    Memory.wf ((State.powerDown s)).mem = true := by
  simp [State.powerDown, hw]

@[simp] theorem State.recoverFn_wf (s : State) (n : ℕ) (hw : Memory.wf (s).mem = true) :
    Memory.wf ((State.recoverFn s n)).mem = true := by
  simp [State.recoverFn, hw]

@[simp] theorem State.resumeScrub_wf (s : State) (hw : Memory.wf (s).mem = true) :
    Memory.wf ((State.resumeScrub s)).mem = true := by
  unfold State.resumeScrub
  (repeat' split) <;> simp [hw]

@[simp] theorem State.recover_wf (s : State) (hw : Memory.wf (s).mem = true) :
    Memory.wf ((State.recover s)).mem = true := by
  unfold State.recover
  dsimp only
  refine State.resumeScrub_wf _ (foldl_wf _ _ _ (fun s x hs => State.recoverFn_wf _ _ hs)
  (foldl_wf _ _ _ (fun s x hs => State.rebuildDir_wf _ _ hs) (foldl_wf _ _ _ (fun s x hs => State.report_wf _ _ hs)
  (State.wipe_wf _ _ _ hw))))

@[simp] theorem State.lateFlr_wf (s : State) (n : ℕ) (hw : Memory.wf (s).mem = true) :
    Memory.wf ((State.lateFlr s n)).mem = true := by
  simp [State.lateFlr, hw]

@[simp] theorem State.makeReady_wf (s : State) (hw : Memory.wf (s).mem = true) :
    Memory.wf ((State.makeReady s)).mem = true := by
  unfold State.makeReady
  dsimp only
  simp only [State.noteLtr_frame]
  refine foldl_wf _ _ _ (fun s x hs => by simp [hs]) (foldl_wf _ _ _ (fun s x hs => State.lateFlr_wf _ _ hs) ?_)
  simp [hw]

@[simp] theorem State.tryReady_wf (s : State) (hw : Memory.wf (s).mem = true) :
    Memory.wf ((State.tryReady s)).mem = true := by
  simp [State.tryReady, hw]

@[simp] theorem State.marginUc_wf (s : State) (kind : ℕ) (unit : ℕ) (phys : ℕ) (hw : Memory.wf (s).mem = true) :
    Memory.wf ((State.marginUc s kind unit phys)).mem = true := by
  simp [State.marginUc, hw]

@[simp] theorem State.thermRead_wf (s : State) (r : ℕ) (temp : ℕ) (hw : Memory.wf (s).mem = true) :
    Memory.wf ((State.thermRead s r temp)).mem = true := by
  simp [State.thermRead, hw]

@[simp] theorem State.probeHit_wf (s : State) (k : ℕ) (f : SeenFlit) (hw : Memory.wf (s).mem = true) :
    Memory.wf ((State.probeHit s k f)).mem = true := by
  simp [State.probeHit, hw]

@[simp] theorem State.trcDecide_wf (s : State) (t : TraceRec) (allow : Bool) (pair : Bool) (hw : Memory.wf (s).mem = true) :
    Memory.wf ((State.trcDecide s t allow pair)).mem = true := by
  unfold State.trcDecide
  dsimp only
  (repeat' split) <;> simp [hw]

@[simp] theorem State.trcSeal_wf (s : State) (b : ℕ) (hw : Memory.wf (s).mem = true) :
    Memory.wf ((State.trcSeal s b)).mem = true := by
  unfold State.trcSeal
  (repeat' split) <;> simp [hw]

@[simp] theorem State.traceDisarm_wf (s : State) (b : ℕ) (hw : Memory.wf (s).mem = true) :
    Memory.wf ((State.traceDisarm s b)).mem = true := by
  simp [State.traceDisarm, hw]

@[simp] theorem State.traceTriggers_wf (s : State) (value : ℕ) (hw : Memory.wf (s).mem = true) :
    Memory.wf ((State.traceTriggers s value)).mem = true := by
  unfold State.traceTriggers
  (repeat' split) <;> first | (simp [hw]; done) | (refine foldl_wf _ _ _ (fun s x hs => ?_) ?_ <;> (repeat' split) <;> simp [*])

@[simp] theorem State.writePasid_wf (s : State) (n : ℕ) (v : ℕ) (hw : Memory.wf (s).mem = true) :
    Memory.wf ((State.writePasid s n v)).mem = true := by
  simp [State.writePasid, hw]

@[simp] theorem State.writeRw_wf (s : State) (bar : Bar) (r : RegRow) (base : ℕ) (v : ℕ) (hw : Memory.wf (s).mem = true) :
    Memory.wf ((State.writeRw s bar r base v)).mem = true := by
  unfold State.writeRw
  dsimp only
  (repeat' split) <;> simp [outState, execRingHeadWrite, execAuditHeadWrite, execIntEnableWrite, hw]

@[simp] theorem State.writeWo_wf (s : State) (bar : Bar) (base : ℕ) (v : ℕ) (hw : Memory.wf (s).mem = true) :
    Memory.wf ((State.writeWo s bar base v)).mem = true := by
  unfold State.writeWo
  split
  · split <;> simp [hw]
  · iterate 12 (first | (refine iteKeeps_wf _ _ _ ?_ ?_) | skip)
    all_goals simp [outState, execChallengeNew, execScrubStart, execStartReqCold, execStartReqWarm, hw]

@[simp] theorem State.writeW1s_wf (s : State) (base : ℕ) (v : ℕ) (hw : Memory.wf (s).mem = true) :
    Memory.wf ((State.writeW1s s base v)).mem = true := by
  simp [State.writeW1s, hw]

@[simp] theorem State.writeReg_wf (s : State) (bar : Bar) (r : RegRow) (base : ℕ) (v : ℕ) (hw : Memory.wf (s).mem = true) :
    Memory.wf ((State.writeReg s bar r base v)).mem = true := by
  unfold State.writeReg
  (repeat' split) <;> simp [hw]

@[simp] theorem State.write4_wf (s : State) (bar : Bar) (off : ℕ) (v : ℕ) (hw : Memory.wf (s).mem = true) :
    Memory.wf ((State.write4 s bar off v)).mem = true := by
  unfold State.write4
  (repeat' split) <;> simp [hw]

@[simp] theorem State.write8_wf (s : State) (bar : Bar) (off : ℕ) (v : ℕ) (hw : Memory.wf (s).mem = true) :
    Memory.wf ((State.write8 s bar off v)).mem = true := by
  unfold State.write8
  (repeat' split) <;> simp [hw]

@[simp] theorem State.hostWrite_wf (s : State) (bar : Bar) (off : ℕ) (wide : Bool) (v : ℕ) (hw : Memory.wf (s).mem = true) :
    Memory.wf ((State.hostWrite s bar off wide v)).mem = true := by
  simp [State.hostWrite, hw]

@[simp] theorem State.firmware_wf (s : State) (hw : Memory.wf (s).mem = true) :
    Memory.wf ((State.firmware s)).mem = true := by
  simp [State.firmware, hw]

@[simp] theorem State.tick_wf (s : State) (hw : Memory.wf (s).mem = true) :
    Memory.wf ((State.tick s)).mem = true := by
  simp [State.tick, hw]

@[simp] theorem State.flashPut_flashWf (s : State) (a : ℕ) (bs : List Byte) (hw : flashWf (s).flash = true) :
    flashWf ((State.flashPut s a bs)).flash = true := by
  simp [State.flashPut, hw]

@[simp] theorem State.eraseFlash_flashWf (s : State) (a : ℕ) (n : ℕ) (hw : flashWf (s).flash = true) :
    flashWf ((State.eraseFlash s a n)).flash = true := by
  simp [State.eraseFlash, hw]

@[simp] theorem State.appendEpoch_flashWf (s : State) (e : EpochRec) (hw : flashWf (s).flash = true) :
    flashWf ((State.appendEpoch s e)).flash = true := by
  unfold State.appendEpoch
  dsimp only
  (repeat' split) <;> simp [hw]

@[simp] theorem State.coldStep3_flashWf (s : State) (hw : flashWf (s).flash = true) :
    flashWf ((State.coldStep3 s)).flash = true := by
  unfold State.coldStep3
  dsimp only
  (repeat' split) <;> simp [hw]

@[simp] theorem State.bootStep2_flashWf (s : State) (next : State → State) (hw : flashWf (s).flash = true)
  (hk : ∀ s, flashWf (s).flash = true → flashWf (next s).flash = true) :
    flashWf (s.bootStep2 next).flash = true := by
  unfold State.bootStep2
  extract_lets s1 s2 s3 s4
  have e : flashWf (s4).flash = true := by simp [s4, s3, s2, s1, hw]
  split
  · simp [e]
  · split
    · exact e
    · exact hk _ e

@[simp] theorem State.startCold_flashWf (s : State) (cause : ℕ) (promoted : Bool) (power : Bool) (hw : flashWf (s).flash = true) :
    flashWf ((State.startCold s cause promoted power)).flash = true := by
  unfold State.startCold
  split
  · exact hw
  · exact State.bootStep2_flashWf _ _ (by simp [hw]) (fun s h => State.coldStep3_flashWf s h)

@[simp] theorem State.startWarm_flashWf (s : State) (cause : ℕ) (hw : flashWf (s).flash = true) :
    flashWf ((State.startWarm s cause)).flash = true := by
  simp [State.startWarm, hw]

@[simp] theorem State.insn_flashWf (s : State) (t : Thr) (grd : BitVec 5) (vec : Bool) (legal : Bool) (xs : List ℕ) (vs : List ℕ)
  (k : Grp → Thread → State) (hw : flashWf (s).flash = true) (hk : ∀ g th, flashWf (k g th).flash = true) :
    flashWf (s.insn t grd vec legal xs vs k).flash = true := by
  unfold State.insn
  (repeat' split) <;> simp [hw, hk]

@[simp] theorem State.atHurdle_flashWf (s : State) (t : Thr) (g : Grp) (th : Thread) (scope : ℕ) (id : ℕ) (k : ℕ → State)
  (hw : flashWf (s).flash = true) (hk : ∀ n, flashWf (k n).flash = true) :
    flashWf (s.atHurdle t g th scope id k).flash = true := by
  unfold State.atHurdle
  (repeat' split) <;> simp [hw, hk]

@[simp] theorem State.withTile_flashWf (s : State) (t : Thr) (g : Grp) (tile : ℕ) (k : State) (hw : flashWf (s).flash = true)
  (hk : flashWf (k).flash = true) :
    flashWf (s.withTile t g tile k).flash = true := by
  unfold State.withTile
  (repeat' split) <;> simp [hw, hk]

@[simp] theorem State.reqArrive_flashWf (s : State) (q : ReqFlit) (op : ℕ) (left : ℕ) (write : Bool) (access : ℕ) (k : State → State)
  (hw : flashWf (s).flash = true) (hk : ∀ s, flashWf (s).flash = true → flashWf (k s).flash = true) :
    flashWf (s.reqArrive q op left write access k).flash = true := by
  unfold State.reqArrive
  dsimp only
  (repeat' split) <;> simp [hw, hk]

@[simp] theorem State.newEpoch_flashWf (s : State) (hw : flashWf (s).flash = true) :
    flashWf ((State.newEpoch s)).flash = true := by
  simp [State.newEpoch, hw]

@[simp] theorem State.advance_flashWf (s : State) (hw : flashWf (s).flash = true) :
    flashWf ((State.advance s)).flash = true := by
  simp [State.advance, hw]

@[simp] theorem State.siteDone_flashWf (s : State) (site : ℕ) (hw : flashWf (s).flash = true) :
    flashWf ((State.siteDone s site)).flash = true := by
  simp [State.siteDone, hw]

@[simp] theorem State.fenceSite_flashWf (s : State) (n : ℕ) (hw : flashWf (s).flash = true) :
    flashWf ((State.fenceSite s n)).flash = true := by
  unfold State.fenceSite
  dsimp only
  (repeat' split) <;> simp [hw]

@[simp] theorem State.mismatch_flashWf (s : State) (n : ℕ) (hw : flashWf (s).flash = true) :
    flashWf ((State.mismatch s n)).flash = true := by
  simp [State.mismatch, hw]

@[simp] theorem State.checkPair_flashWf (s : State) (n : ℕ) (hw : flashWf (s).flash = true) :
    flashWf ((State.checkPair s n)).flash = true := by
  unfold State.checkPair
  (repeat' split) <;> simp [hw]

@[simp] theorem State.bringUp_flashWf (s : State) (n : ℕ) (hw : flashWf (s).flash = true) :
    flashWf ((State.bringUp s n)).flash = true := by
  simp [State.bringUp, hw]

@[simp] theorem State.afterMeasures_flashWf (s : State) (n : ℕ) (hw : flashWf (s).flash = true) :
    flashWf ((State.afterMeasures s n)).flash = true := by
  simp [State.afterMeasures, hw]

@[simp] theorem State.siteHeat_flashWf (s : State) (n : ℕ) (temp : ℕ) (overBudget : Bool) (hw : flashWf (s).flash = true) :
    flashWf ((State.siteHeat s n temp overBudget)).flash = true := by
  simp [State.siteHeat, hw]

@[simp] theorem State.tagFail_flashWf (s : State) (n : ℕ) (tag : ℕ) (w : DataFor) (hw : flashWf (s).flash = true) :
    flashWf ((State.tagFail s n tag w)).flash = true := by
  unfold State.tagFail
  cases w with
  | win q =>
    dsimp only
    (repeat' split) <;> simp [hw]
  | dma =>
    dsimp only
    split
    · exact State.fenceSite_flashWf _ _ (foldl_flashWf _ _ _ (fun s x hs => by split <;> (try split) <;> simp [hs]) (by simp [hw]))
    · exact foldl_flashWf _ _ _ (fun s x hs => by split <;> (try split) <;> simp [hs]) (by simp [hw])
  | _ =>
    dsimp only
    split <;> simp [hw]

@[simp] theorem State.beginTrans_flashWf (s : State) (t : Trans) (tok : List Byte) (hw : flashWf (s).flash = true) :
    flashWf ((State.beginTrans s t tok)).flash = true := by
  simp [State.beginTrans, hw]

@[simp] theorem State.submitToken_flashWf (s : State) (hw : flashWf (s).flash = true) :
    flashWf ((State.submitToken s)).flash = true := by
  simp [State.submitToken, hw]

@[simp] theorem State.submitIf_flashWf (s : State) (op : ℕ) (hw : flashWf (s).flash = true) :
    flashWf ((State.submitIf s op)).flash = true := by
  simp [State.submitIf, hw]

@[simp] theorem State.fenceNamed_flashWf (s : State) (kind : ℕ) (unit : ℕ) (cause : ℕ) (hw : flashWf (s).flash = true) :
    flashWf ((State.fenceNamed s kind unit cause)).flash = true := by
  simp [State.fenceNamed, hw]

@[simp] theorem State.countSramUe_flashWf (s : State) (kind : ℕ) (unit : ℕ) (hw : flashWf (s).flash = true) :
    flashWf ((State.countSramUe s kind unit)).flash = true := by
  simp [State.countSramUe, hw]

@[simp] theorem State.sramError_flashWf (s : State) (r : Report) (hw : flashWf (s).flash = true) :
    flashWf ((State.sramError s r)).flash = true := by
  simp [State.sramError, hw]

@[simp] theorem State.react_flashWf (s : State) (r : Report) (hw : flashWf (s).flash = true) :
    flashWf ((State.react s r)).flash = true := by
  simp [State.react, hw]

@[simp] theorem State.takeReport_flashWf (s : State) (r : Report) (hw : flashWf (s).flash = true) :
    flashWf ((State.takeReport s r)).flash = true := by
  simp [State.takeReport, hw]

@[simp] theorem State.powerUp_flashWf (s : State) (cause : ℕ) (hw : flashWf (s).flash = true) :
    flashWf ((State.powerUp s cause)).flash = true := by
  simp [State.powerUp, hw]

@[simp] theorem State.makeReady_flashWf (s : State) (hw : flashWf (s).flash = true) :
    flashWf ((State.makeReady s)).flash = true := by
  simp [State.makeReady, hw]

@[simp] theorem State.tryReady_flashWf (s : State) (hw : flashWf (s).flash = true) :
    flashWf ((State.tryReady s)).flash = true := by
  simp [State.tryReady, hw]

@[simp] theorem State.clearFails_flashWf (s : State) (a : ℕ) (hw : flashWf (s).flash = true) :
    flashWf ((State.clearFails s a)).flash = true := by
  unfold State.clearFails
  (repeat' split) <;> simp [hw]

@[simp] theorem State.marginUc_flashWf (s : State) (kind : ℕ) (unit : ℕ) (phys : ℕ) (hw : flashWf (s).flash = true) :
    flashWf ((State.marginUc s kind unit phys)).flash = true := by
  simp [State.marginUc, hw]

@[simp] theorem State.writeWo_flashWf (s : State) (bar : Bar) (base : ℕ) (v : ℕ) (hw : flashWf (s).flash = true) :
    flashWf ((State.writeWo s bar base v)).flash = true := by
  unfold State.writeWo
  split
  · split <;> simp [hw]
  · iterate 12 (first | (refine iteKeeps_flashWf _ _ _ ?_ ?_) | skip)
    all_goals simp [outState, execChallengeNew, execScrubStart, execStartReqCold, execStartReqWarm, hw]

@[simp] theorem State.writeReg_flashWf (s : State) (bar : Bar) (r : RegRow) (base : ℕ) (v : ℕ) (hw : flashWf (s).flash = true) :
    flashWf ((State.writeReg s bar r base v)).flash = true := by
  unfold State.writeReg
  (repeat' split) <;> simp [hw]

@[simp] theorem State.write4_flashWf (s : State) (bar : Bar) (off : ℕ) (v : ℕ) (hw : flashWf (s).flash = true) :
    flashWf ((State.write4 s bar off v)).flash = true := by
  unfold State.write4
  (repeat' split) <;> simp [hw]

@[simp] theorem State.write8_flashWf (s : State) (bar : Bar) (off : ℕ) (v : ℕ) (hw : flashWf (s).flash = true) :
    flashWf ((State.write8 s bar off v)).flash = true := by
  unfold State.write8
  (repeat' split) <;> simp [hw]

@[simp] theorem State.hostWrite_flashWf (s : State) (bar : Bar) (off : ℕ) (wide : Bool) (v : ℕ) (hw : flashWf (s).flash = true) :
    flashWf ((State.hostWrite s bar off wide v)).flash = true := by
  simp [State.hostWrite, hw]

@[simp] theorem State.firmware_flashWf (s : State) (hw : flashWf (s).flash = true) :
    flashWf ((State.firmware s)).flash = true := by
  simp [State.firmware, hw]

@[simp] theorem State.tick_flashWf (s : State) (hw : flashWf (s).flash = true) :
    flashWf ((State.tick s)).flash = true := by
  simp [State.tick, hw]

end Sys2Proof.Machine
end

