-- ==== Sys2Proof/Machine/ConfigSpace.lean ====
section
/-! DEFINITION. What configuration space shows of a function: header, capabilities and BARs (R418 to R422, R424, R445). No command
of the table reads it; the values are constants, or follow the state. -/

namespace Sys2Proof.Machine
open Sys2Proof

/-- The configuration header. -/
structure ConfigHeader where
  vendor : Nat
  device : Nat
  revision : Nat
  classCode : Nat
  subsysVendor : Nat
  subsysId : Nat
  headerType : Nat
  interruptPin : Nat
  serial : Option W64
  deriving DecidableEq, Repr

/-- R420: the stepping letter counts sixteens, the digit units. -/
def revisionId (stepping : Nat) : Nat := (fieldOf stepping 8 8 - 0x41) * 16 + stepping % 256

def modSubsysVendor (m : List Byte) : Nat := if m.isEmpty then 0x1FD7 else fieldAt m 12 2
def modSubsysId (m : List Byte) : Nat := if m.isEmpty then 0 else fieldAt m 14 2

/-- R420, for the PF and for a VF. -/
def State.configHeader (s : State) (fn : Nat) : ConfigHeader :=
  { vendor := if fn = 0 then 0x1FD7 else 0xFFFF
    device := if fn = 0 then 0x2416 else 0xFFFF
    revision := revisionId (s.hubNat IDN_STEPPING)
    classCode := 0x120000
    subsysVendor := modSubsysVendor s.boot.modRec
    subsysId := modSubsysId s.boot.modRec
    headerType := 0
    interruptPin := if fn = 0 then 1 else 0
    serial := if fn = 0 then some (s.hubGet IDN_SERIAL) else none }

/-- R421: offsets of the capabilities, and whether a VF has them too. -/
def capabilityList : List (Nat × Bool) :=
  [(0x040, true), (0x050, true), (0x100, true), (0x160, false), (0x170, true), (0x180, false), (0x1A0, false), (0x1B0, false),
   (0x1E0, false), (0x210, false), (0x230, false), (0x280, false), (0x290, false), (0x2A0, false), (0x2B0, false), (0x2F0, true),
   (0x300, true), (0x310, true), (0x330, false), (0x360, false), (0x3A0, false), (0x400, false)]
def capabilities (fn : Nat) : List Nat := (capabilityList.filter (fun c => fn = 0 || c.2)).map (·.1)

/-- The IDE capability: three words, a Link IDE block, eight Selective IDE blocks (R421). -/
def ideBytes : Nat := 12 + 8 + 8 * 44

/-- R422. -/
structure SriovCap where
  initialVfs : Nat
  totalVfs : Nat
  firstOffset : Nat
  stride : Nat
  deviceId : Nat
  pageSizes : List Nat
  numVfs : Nat
  vfEnable : Bool
  deriving DecidableEq, Repr
def State.sriov (s : State) : SriovCap :=
  ⟨31, 31, 1, 1, 0x2417, [4096, 8192, 16384, 32768, 65536], s.pce.numVfs, s.pce.vfEnable⟩
def vfNumber (vf : Nat) : Nat := 1 + (vf - 1)

/-- R424: sizes of the BARs of a function, and whether they are prefetchable. -/
def barSizes (fn : Nat) : List (Nat × Nat × Bool) :=
  [(0, 0x100000, true), (2, 0x10000, false)] ++ (if fn = 0 then [(4, 0x1000000, false)] else [])
def hubMmioBase : Nat := 0x7F0000000000

/-- R418, R419 and R445. -/
structure EndpointCaps where
  maxPayload : Nat
  maxReadRequest : Nat
  maxOutstanding : Nat
  atsQueueDepth : Nat
  atsPageAligned : Bool
  atsGlobalInvalidate : Bool
  pasidWidth : Nat
  pasidExecute : Bool
  pasidPrivileged : Bool
  priCapacity : Nat
  prgPasidRequired : Bool
  doeMailboxes : Nat
  doeLargest : Nat
  linkIdeStreams : Nat
  selectiveIdeStreams : Nat
  ideAddressBlocks : Nat
  deriving DecidableEq, Repr
def endpointCaps : EndpointCaps :=
  { maxPayload := 512, maxReadRequest := 4096, maxOutstanding := 2048, atsQueueDepth := 32, atsPageAligned := true,
    atsGlobalInvalidate := false, pasidWidth := 20, pasidExecute := false, pasidPrivileged := false, priCapacity := 512,
    prgPasidRequired := true, doeMailboxes := 1, doeLargest := 65536, linkIdeStreams := 1, selectiveIdeStreams := 8, ideAddressBlocks := 2 }

end Sys2Proof.Machine
end

