-- ==== Sys2Proof/Tests/Slice0.lean ====
section
/-! SUPPORT. Tests: an ill-formed command for each check of WellFormed, the spec's worked examples, single steps with values
computed by hand from the rules, and for each statement with hypotheses states and operands that meet them, one conjunct for each
of its clauses. -/

namespace Sys2Proof.Tests
open Sys2Proof Sys2Proof.Machine Sys2Proof.Claims

set_option Elab.async false

/-! ### Small states -/

/-- The module powered. -/
def up : State := { State.reset with boot := { Boot.reset with powered := true, aux := true, v48 := true } }
/-- The module at readiness. -/
def rdy : State := { up with boot := { up.boot with ready := true, step := 8 } }
/-- A program of one hirsel, 4 KiB long, with a private part. -/
def prog0 : Handle :=
  { st := .loaded, kind := .program, offset := 0, len := 4096, digest := [], pasture := 0, entry := 0, hirsels := 1, threads := 1,
    accTiles := 4, coreStore := 524288, priv := 65536, usesCommons := true, usesTeam := true }
/-- A running group of paddock 0, journal entry 0, with one thread. -/
def grpOf (th : Thread) : Grp :=
  { fn := 0, entry := 0, phase := .running, hirsels := [0], home := [0], prog := prog0, weights := none, privBase := 0,
    threads := [(0, th)], tiles := [], tq := [], extLru := [], staged := [], filter := [], forwarded := [], heldAtStart := [],
    xas := [], rounds := [], collect := none, lookups := [], keyResults := [], gathered := [], nextLookup := 0, inputDigest := none,
    inputPending := false, input := [], windows := 0, code := none, poison := false, memPoison := false, unchecked := false,
    wasHeld := false, launchAt := 0, saved := [], faulter := none }
/-- A thread at the start of its image. -/
def thr0 : Thread := { Thread.empty with pc := 0xF00000000000 }
def gstOf (g : Grp) : State := { rdy with groups := [(0, g)] }
def gst (th : Thread) : State := gstOf (grpOf th)
def t0 : Thr := ⟨0, 0⟩
def fR : FmtR := ⟨0, 0, 0, 0, 0, 0, 0, 0⟩
def fI : FmtI := ⟨0, 0, 0, 0, 0, 0⟩
def fM : FmtM := ⟨0, 0, 0, 0, 0, false, 0, 0⟩
def fG : FmtG := ⟨0, 0, 0, 0, 0, 0, false, 0⟩
def fA : FmtA := ⟨0, 0, 0, 0, 0, 0, 0, 0⟩
def fC : FmtC := ⟨0, 0, 0, 0, 0, 0⟩
def fS : FmtS := ⟨0, 0, 0, 0, 0, 0, 0, 0, 0⟩
def fT : FmtT := ⟨0, 0, 0, 0, 0, 0, 0, 0, 0, 0, 0⟩
/-- A state with one function. -/
def fst (f : Fn) : State := { rdy with fns := [(0, f)] }
/-- A state with one journal entry of function 0. -/
def est (j : JEntry) : State := fst { Fn.empty with entries := [(0, j)] }
/-- An accepted record of a type. -/
def rec0 (type : Nat) : JEntry := { JEntry.empty with record := BitVec.ofNat 8 type :: zeros 255, st := .accepted, twinA := true, twinB := true }

def rowOf (bar : Bar) (off : Nat) : RegRow := (rowAt bar off).getD ⟨0, 4, 1, false, .ro, false, false, 0, 0⟩
/-- A record with some bytes set. -/
def recB (type : Nat) (cs : List (Nat × Nat)) : List Byte :=
  (List.range 256).map (fun i => match cs.find? (fun c => c.1 = i) with
    | some c => BitVec.ofNat 8 c.2
    | none => if i = 0 then BitVec.ofNat 8 type else 0)
def recWith (type : Nat) (cs : List (Nat × Nat)) : JEntry := { rec0 type with record := recB type cs }
/-- Function 0 bound, with rings of one entry. -/
def fnB : Fn := Fn.empty.putN STL_BIND_STATE 1
def slotIn (x : Slot) : State := fst { fnB with slots := [(0, x)] }
/-- A directory page header of generation 1 in the second page of bucket 0. -/
def hdr1 : Memory := cellsPut 0 [] 73728 ((1#8 :: zeros 59) ++ leBytes 4 (crc32c (1#8 :: zeros 59)).toNat)
/-- Paddock 0 with hirsel 0 and slice 0 as cache. -/
def pst (f : Fn) : State := (fst (f.putN PDK_HIRSELS 1)).hubSetN FLD_SLICE_MAP 1
/-- A lookup that has read its entry. -/
def look0 : Lookup := ⟨0, none, 0, 0, 0, 0, 0, 0, 0, false, false⟩
/-- A WORK record of entry 0 with its group. -/
def wst (j : JEntry) (g : Grp) : State := { est j with groups := [(0, g)] }
def fmt (n : Nat) : Fmt := (Fmt.ofNibble n).getD ⟨.int 4 320, 4, false, 0, 4⟩
def memAt (l : List (Nat × Nat)) : Memory := l.map (fun c => (c.1, BitVec.ofNat 8 c.2))
/-- A function with the group of journal entry 0. -/
def fgst (f : Fn) (g : Grp) : State := { fst f with groups := [(0, g)] }
/-- Paddock 0 with 1 GiB, whose first page is cached as readable and writable. -/
def fnM : Fn :=
  { (Fn.empty.putN PDK_HBM_GIB 1) with
    xlt := { Xlt.empty with tlb := [⟨false, 0, 12, false, 0, true, true⟩] }, entries := [(0, { rec0 tWork with record := recB tWork [(64, 8)] })] }
/-- Paddock 0 with the window of site 16, whose first page is cached at address 0. -/
def cmnG (g : Grp) : State :=
  (({ fgst { (Fn.empty.putN PDK_COMMONS 0x90) with xlt := { Xlt.empty with tlb := [⟨false, 0, 12, false, commonsBase, true, true⟩] } } g with
      sites := [(16, { Site.empty with windowMib := 1, step := 8 })] } : State).hubSetN (cmnOff 16 0) 1).hubSetN (cmnOff 16 4) cmnActive
/-- A group with an image of 1 MiB whose core 0 holds a Fold Forest descriptor. -/
def forestSt (g : Grp) (records : Nat) : State :=
  { fgst (Fn.empty.putN PDK_IMAGE_SIZE 1) g with
    mem := memAt [(0, 1), (1, 1), (2, 1), (4, 1), (8, 1), (24, 1), (coreBase + 5, 0xF0), (coreBase + 12, 4)] ++
      (if records = 0 then [] else memAt [(coreBase + 20, records), (coreBase + 28, 1)]) }
def load0 : LoadOp := ⟨0, 1, false, 8, false, false, 0, []⟩
def feval0 : FevalOp := ⟨0, 0, [], [], 0, false, 0, [], 0, 0, false, 0, [], 0⟩
def mcopy0 : MCopyOp := ⟨0, true, 0, 0, 0, [], []⟩

/-- Readiness with three sessions. -/
def sess3 : State := { rdy with sec := { Sec.reset with sessions := [1, 2, 3] } }
/-- Hub registers written one after another. -/
def hubs (s : State) (l : List (Nat × Nat)) : State := l.foldl (fun s x => s.hubSetN x.1 x.2) s
/-- A coherent window of 1 GiB with one line; every agent takes part. -/
def cohSt (x : CohLine) : State := hubs { up with lines := [(0, x)] } [(SNP_WINDOW_GIB, 1), (SNP_AGENTS, 2 ^ 24 - 1)]
/-- Port 15 by its configuration and status words. -/
def lnk (cfg st : Nat) (x : Port) : State := hubs { up with ports := [(15, x)] } [(LNK_PORT_CFG + 60, cfg), (LNK_PORT_STATUS + 60, st)]
/-- Site 19 by its roles, its state and what it holds. -/
def siteSt (cfg st : Nat) (x : Site) : State := hubs { rdy with sites := [(19, x)] } [(cmnOff 19 0, cfg), (cmnOff 19 4, st)]
/-- An active site 19 beside a line of the coherent window. -/
def siteCoh (cfg : Nat) (x : CohLine) (y : Site) : State := { hubs (cohSt x) [(cmnOff 19 0, cfg), (cmnOff 19 4, cmnActive)] with sites := [(19, y)] }
/-- Stack 23 initialised. -/
def mch : State := { up with boot := { up.boot with machines := [23] } }

/-- The next state of a command, or the state itself where it stops. -/
def nx (i : Instr) (s : State) : State :=
  match exec i s with
  | .next t => t
  | _ => s

/-! ### Well-formedness: an ill-formed command for each check -/

theorem test_fnOk_refuses : (Instr.flr 32).wf = false := by decide
theorem test_slotOk_refuses : (Instr.slotAbandon 31 4096).wf = false := by decide
theorem test_siteOk_refuses : (Instr.discoveryTimeout 20).wf = false := by decide
theorem test_commonsOk_refuses : (Instr.configure 15).wf = false ∧ (Instr.configure 20).wf = false := by decide
theorem test_stackOk_refuses : (Instr.rfmRequest 24).wf = false := by decide
theorem test_channelOk_refuses : (Instr.hbmCentringStep 23 64 0 true 0 0 0).wf = false := by decide
theorem test_engineOk_refuses : (Instr.writeAgeExpiry 1536).wf = false := by decide
theorem test_groupOk_refuses : (Instr.shortfallLogTick 6).wf = false := by decide
theorem test_portOk_refuses : (Instr.trainPattern 16).wf = false := by decide
theorem test_laneOk_refuses : (Instr.laneFault 15 16).wf = false := by decide
theorem test_inputOk_refuses : (Instr.lightChange 4 true).wf = false := by decide
theorem test_railOk_refuses : (Instr.canaryWindow 17).wf = false := by decide
theorem test_bufferOk_refuses : (Instr.traceArm 4).wf = false := by decide
theorem test_routerOk_refuses : (Instr.routeEntryInstall 480 0 0 0).wf = false := by decide
theorem test_linkOk_refuses : (Instr.flitReceive 1396 0 true 0 0 true).wf = false := by decide
theorem test_halfOk_refuses : (Instr.flitReceive 1395 2 true 0 0 true).wf = false := by decide
theorem test_gidOk_refuses : (Instr.gatherComplete (32 * 65536)).wf = false := by decide
theorem test_threadOk_refuses : (Instr.nop ⟨32 * 65536, 0⟩ fI).wf = false := by decide
theorem test_agentOk_refuses : (Instr.snpShared 0 24).wf = false := by decide
theorem test_barOk_refuses : (Instr.lowHalfRead (.bar2 32) 0).wf = false := by decide
theorem test_accessOk_refuses :
    (Instr.lowHalfRead .bar4 2).wf = false ∧ (Instr.rcRegisterRead (.bar2 0) 0xFFFC true).wf = false := by decide

/-! ### The spec's worked examples -/

/-- 01, "a core failure in tile 5": physical cores 12 and 200 are bad. -/
def tile5 : State := { up with noc := { Noc.reset with bad := [(kCore, 5 * 272 + 12), (kCore, 5 * 272 + 200)] } }
theorem test_core_map : (tile5.phys kCore (1280 + 11), tile5.phys kCore (1280 + 12), tile5.phys kCore (1280 + 198),
    tile5.phys kCore (1280 + 199), tile5.phys kCore (1280 + 255)) =
    (some (1360 + 11), some (1360 + 13), some (1360 + 199), some (1360 + 201), some (1360 + 257)) := by decide +kernel
/-- 07, "two addresses": G = 32 and S = 4. -/
def hbm32 : State := hubs up [(MCT_GLOBAL_UNITS, 32), (MCT_STACK_UNITS, 4)]
theorem test_hbm_place : hbm32.hbmPlace 0x1234567880 = (837, 0x0308B980) := by decide +kernel
theorem test_device_split : deviceSplit 0x0308B980 = (0xC2, 2, 0xC, 1, 4, 0) := by decide

/-- 12, "a route and its detour": node 14 of 8 × 8 × 4, +X on ports 0 and 8; here −X is on port 2. -/
def node14 : State :=
  hubs up [(LNK_NODE, 14 + 7 * 2 ^ 18 + 7 * 2 ^ 21 + 3 * 2 ^ 24), (LNK_PORT_CFG, 2 ^ 28), (LNK_PORT_STATUS, 2 * 2 ^ 28),
    (LNK_PORT_CFG + 32, 2 ^ 28), (LNK_PORT_STATUS + 32, 2 * 2 ^ 28), (LNK_PORT_CFG + 8, 2 * 2 ^ 28), (LNK_PORT_STATUS + 8, 2 * 2 ^ 28)]
def seen (l : List Nat) (d15 : Nat) : State :=
  { node14 with torus := { Torus.empty with nodes := l.map (fun n => (n, ⟨if n = 15 then d15 else 63, false, 1⟩)) } }
theorem test_route : (seen [8, 9, 15, 17, 25] 63).egress 217 = some (8, 4) := by decide +kernel
theorem test_detour : (seen [9, 10, 11, 12, 13, 15, 17, 25] 62).egress 217 = some (2, 5) := by decide +kernel

/-- 05, "the same sum in two orders": codes of BF16. -/
def bf (n : Nat) : Fv := (fmt 10).value n 0
def prods : List (Nat × Nat) := [(0x4980, 0x4980), (0x3F80, 0x3F80), (0xC980, 0x4980), (0x2E00, 0x2E00), (0x0D80, 0x0D80)]
def sumOf (l : List (Nat × Nat)) : Xa := l.foldl (fun x p => (x.addValue (fvMul (bf p.1) (bf p.2))).normalise) Xa.zero
theorem test_exact_order_a : ((sumOf prods).ext, (sumOf prods).readOut (fmt 12) .rne 0, (sumOf prods).readOut (fmt 10) .rne 0,
    (sumOf prods).actualResidue) = (none, 0x3F800000, 0x3F80, 6) := by decide +kernel
theorem test_exact_order_b : ((sumOf prods.reverse).ext, (sumOf prods.reverse).readOut (fmt 12) .rne 0,
    (sumOf prods.reverse).readOut (fmt 10) .rne 0, (sumOf prods.reverse).actualResidue) =
    (some (2 ^ 320 + 2 ^ 250 + 2 ^ 120), 0x3F800000, 0x3F80, 6) := by decide +kernel

/-- 09, "a read that meets an owner in M": agent 9 answers PUSHED and moves to O. -/
theorem test_snoop_owner : (let l := (nx (.snpShared 0 9) (cohSt ⟨.clean, [], some { newTxn 0 0 .shared 0 with launched := true }, [], [(9, .m)]⟩)).line 0
    (l.holder 9, l.lock.map (fun x => (x.pushed, x.sharers)))) = (Moesi.o, some (true, [9])) := by decide +kernel

/-- 18, "a trigger-centred capture": 64 MiB, POST_PCT 25, so TRIGGER stands at 0x300_0000. -/
def trace1 : State := hubs up [(TRC_BUF_CFG + 4, 64 * 65536 + 25 * 256 + 2), (TRC_BUF_STATUS + 4, trcArmed)]
theorem test_trigger : trace1.trcPost 1 = 0x3000000 ∧
    (nx (.traceTrigger 2) trace1).hubNat (TRC_TRIGGER_PTR + 8) = 0x3000000 := by decide +kernel

/-! ### Steps of a thread (R156, R158, R168, R172 to R177). Expected values are computed by hand from the rule. -/

/-- A thread with x1, x2 and p1. -/
def thr2 (a b : Nat) (p : Nat) : Thread := { thr0 with x := [(1, BitVec.ofNat 64 a), (2, BitVec.ofNat 64 b)], p := [(1, BitVec.ofNat 32 p)] }
def x3 (i : Instr) (a b : Nat) (p : Nat := 0) : Nat :=
  (((nx i (gst (thr2 a b p))).grp 0).bind (fun g => g.th 0)).elim 0 (fun th => (th.xr 3).toNat)
def p3 (i : Instr) (a b : Nat) (p : Nat := 0) : Nat :=
  (((nx i (gst (thr2 a b p))).grp 0).bind (fun g => g.th 0)).elim 0 (fun th => (th.pr 3).toNat)
def pcAfter (i : Instr) (a b : Nat) : Nat := (((nx i (gst (thr2 a b 0))).grp 0).bind (fun g => g.th 0)).elim 0 (fun th => th.pc.toNat)
def r3 : FmtR := { fR with d := 3, s1 := 1, s2 := 2 }
def i3 (imm : Nat) : FmtI := { fI with d := 3, s1 := 1, imm := BitVec.ofNat 32 imm }
theorem test_add_wraps : x3 (.add t0 r3) (2 ^ 64 - 1) 2 = 1 := by decide +kernel
theorem test_sub : x3 (.sub t0 r3) 1 2 = 2 ^ 64 - 1 := by decide +kernel
theorem test_mulh_signed : x3 (.mulh t0 r3) (2 ^ 64 - 1) 2 = 2 ^ 64 - 1 := by decide +kernel
theorem test_mulhu : x3 (.mulhu t0 r3) (2 ^ 64 - 1) 2 = 1 := by decide +kernel
theorem test_div_toward_zero : x3 (.div t0 r3) (2 ^ 64 - 7) 2 = 2 ^ 64 - 3 := by decide +kernel
theorem test_div_corners : (x3 (.div t0 r3) 5 0, x3 (.div t0 r3) (2 ^ 63) (2 ^ 64 - 1)) = (2 ^ 64 - 1, 2 ^ 63) := by decide +kernel
theorem test_rem_sign : (x3 (.rem t0 r3) (2 ^ 64 - 7) 2, x3 (.rem t0 r3) 5 0) = (2 ^ 64 - 1, 5) := by decide +kernel
theorem test_remu : x3 (.remu t0 r3) (2 ^ 64 - 7) 2 = 1 := by decide +kernel
theorem test_sra : x3 (.sra t0 r3) (2 ^ 63) 68 = 2 ^ 64 - 2 ^ 59 := by decide +kernel
theorem test_srl : x3 (.srl t0 r3) (2 ^ 63) 68 = 2 ^ 59 := by decide +kernel
theorem test_cmp_signed : (p3 (.cmp t0 { r3 with cond := 2 }) (2 ^ 64 - 1) 0, p3 (.cmp t0 { r3 with cond := 4 }) (2 ^ 64 - 1) 0) =
    (2 ^ 32 - 1, 0) := by decide +kernel
theorem test_addi_extends : x3 (.addi t0 (i3 0xFFFFFFFF)) 5 0 = 4 := by decide +kernel
theorem test_andi_extends : x3 (.andi t0 (i3 0x80000000)) (2 ^ 64 - 1) 0 = 2 ^ 64 - 2 ^ 31 := by decide +kernel
theorem test_lih : x3 (.lih t0 (i3 0x80000001)) 0xAAAAAAAA00000007 0 = 0x8000000100000007 := by decide +kernel
theorem test_li : x3 (.li t0 { i3 0x80000000 with s1 := 0 }) 0 0 = 2 ^ 64 - 2 ^ 31 := by decide +kernel
theorem test_min_signed : (x3 (.opMin t0 r3) (2 ^ 64 - 1) 1, x3 (.minu t0 r3) (2 ^ 64 - 1) 1) = (2 ^ 64 - 1, 1) := by decide +kernel
theorem test_sel : (x3 (.sel t0 { r3 with s3 := 1 }) 7 9 1, x3 (.sel t0 { r3 with s3 := 1 }) 7 9 2) = (7, 9) := by decide +kernel
theorem test_counts : (x3 (.clz t0 { r3 with s2 := 0 }) 1 0, x3 (.ctz t0 { r3 with s2 := 0 }) 0 0, x3 (.popc t0 { r3 with s2 := 0 }) 0xF0F 0) =
    (63, 64, 8) := by decide +kernel
theorem test_pnot : p3 (.pnot t0 { fR with d := 3, s1 := 1 }) 0 0 5 = 2 ^ 32 - 6 := by decide +kernel
/-- G = 1, N = 1, P = 1: the instruction runs when bit 0 of p1 is 0 (R158). -/
theorem test_guard : (x3 (.add t0 { r3 with grd := 0b11001 }) 1 2 0, x3 (.add t0 { r3 with grd := 0b11001 }) 1 2 1) = (3, 0) := by decide +kernel
theorem test_bc_taken : pcAfter (.bc t0 { fC with s1 := 1, s2 := 2, cond := 1, disp := 0x1FFFFFFF }) 1 2 = 0xF00000000000 - 8 := by decide +kernel
theorem test_bc_not_taken : pcAfter (.bc t0 { fC with s1 := 1, s2 := 2, cond := 0, disp := 4 }) 1 2 = 0xF00000000008 := by decide +kernel
theorem test_jalr : (pcAfter (.jalr t0 { fC with d := 3, s1 := 1, cond := 6, disp := 2 }) 0x1000 0,
    x3 (.jalr t0 { fC with d := 3, s1 := 1, cond := 6, disp := 2 }) 0x1000 0) = (0x1010, 0xF00000000008) := by decide +kernel
theorem test_illegal_field : ((nx (.add t0 { r3 with s3 := 1 }) (gst (thr2 1 2 0))).grp 0).bind (fun g => g.code) = some xIllegal := by
  decide +kernel
/-- One TMMA in BF16 with K = 32 whose one product is 2^20 × 2^20. -/
theorem test_tmma_slab : (addSlab (fmt 10) (fmt 10) ([0x80#8, 0x49#8] ++ zeros 62) ([0x80#8, 0x49#8] ++ zeros 62) [] [] 32 0 0 0 Xa.zero).value =
    2 ^ 360 := by decide +kernel

/-! ### Witnesses: `witness_<Statement>`, with `_of_<part>` where a statement has two parts; one conjunct for each clause with hypotheses -/

theorem witness_StepRunsFrontCommand :
∃ c : Instr, ∃ rest : List Instr, ∃ s : State, s.pending = c :: rest :=
⟨.tagCommitPf, [], { State.reset with pending := [.tagCommitPf] }, by decide +kernel⟩

theorem witness_UnwritableRegistersKeep :
(∃ s : State, ∃ bar : Bar, ∃ off : Nat, ∃ wide : Bool, Answers s bar ∧ (off % (if wide then 8 else 4) = 0) ∧ NoWrite s bar off ∧ ((wide =
    true → NoWrite s bar (off + 4)))) ∧
(∃ s : State, ∃ bar : Bar, ∃ off : Nat, ∃ r : RegRow, Answers s bar ∧ off % 4 = 0 ∧ rowAt bar off = some r ∧ r.acc = .wo ∧ r.wide = false) ∧
(∃ s : State, ∃ bar : Bar, ∃ off : Nat, ∃ wide : Bool, Answers s bar ∧ (off % (if wide then 8 else 4) = 0) ∧ rowAt bar off = none ∧ ((wide
    = true → rowAt bar (off + 4) = none))) :=
  ⟨⟨rdy, .bar4, 0x8, true, by decide +kernel⟩,
   ⟨rdy, .bar4, 0x104, rowOf .bar4 0x104, by decide +kernel⟩,
   ⟨rdy, .bar4, 0x8000, true, by decide +kernel⟩⟩

theorem witness_RegisterAccesses :
(∃ s : State, ∃ off : Nat, ∃ r : RegRow, Answers s .bar4 ∧ off % 4 = 0 ∧ rowAt .bar4 off = some r ∧ r.acc = .rw ∧ r.wide = false ∧ PlainRw
    (r.base off)) ∧
(∃ s : State, ∃ off : Nat, ∃ r : RegRow, Answers s .bar4 ∧ off % 4 = 0 ∧ rowAt .bar4 off = some r ∧ r.acc = .rc ∧ r.wide = false) ∧
(∃ s : State, ∃ off : Nat, ∃ r : RegRow, Answers s .bar4 ∧ off % 4 = 0 ∧ rowAt .bar4 off = some r ∧ r.wide = true ∧ r.base off = off ∧
    r.acc ≠ .wo ∧ r.acc ≠ .rc) ∧
(∃ s : State, ∃ off : Nat, ∃ r : RegRow, Answers s .bar4 ∧ off % 4 = 0 ∧ rowAt .bar4 off = some r ∧ r.wide = true ∧ r.base off = off ∧
    r.acc = .rw) ∧
(∃ s : State, ∃ off : Nat, ∃ r : RegRow, Answers s .bar4 ∧ off % 4 = 0 ∧ rowAt .bar4 off = some r ∧ r.wide = true ∧ r.base off ≠ off ∧
    r.acc = .rw ∧ PlainRw (r.base off)) :=
  ⟨⟨rdy, 0x400, rowOf .bar4 (0x400), by decide +kernel⟩,
   ⟨rdy, 0x50018, rowOf .bar4 (0x50018), by decide +kernel⟩,
   ⟨rdy, 0x40010, rowOf .bar4 (0x40010), by decide +kernel⟩,
   ⟨rdy, 0xD0200, rowOf .bar4 (0xD0200), by decide +kernel⟩,
   ⟨rdy, 0xD0204, rowOf .bar4 (0xD0204), by decide +kernel⟩⟩

theorem witness_RefusedAccesses :
(∃ s : State, ∃ bar : Bar, ∃ off len : Nat, ∃ full write : Bool, s.barOpen (barFn bar) = true ∧ ((¬((len = 4 ∨ len = 8) ∧ off % len = 0) ∨
    (write = true ∧ full = false)))) ∧
(∃ s : State, ∃ fn : Nat, s.up = true ∧ s.fnExists fn = false) ∧
(∃ s : State, ∃ fn : Nat, s.up = true ∧ s.fnExists fn = true) :=
  ⟨⟨up, .bar4, 2, 4, false, false, by decide +kernel⟩,
   ⟨up, 1, by decide +kernel⟩,
   ⟨up, 0, by decide +kernel⟩⟩

theorem witness_IdentityBlock :
(∃ s : State, s.up = true ∧ s.ident.commits = [] ∧ tagWritable s.lc = true ∧ s.ident.next < 16) ∧
(∃ s : State, ∃ pf : Bool, s.up = true ∧ s.ident.burn ≠ [] ∧ s.ident.commits = [pf]) ∧
(∃ s : State, ∃ off : Nat, s.up = true ∧ IDN_TAG_STAGE_I3C ≤ off ∧ off < IDN_TAG_STAGE_I3C + 256 ∧ off % 4 = 0) ∧
(∃ s : State, ∃ off : Nat, s.up = true ∧ ((off < IDN_TAG_STAGE_I3C ∨ IDN_TAG_STAGE_I3C + 256 ≤ off)) ∧ off ≠ IDN_TAG_COMMIT) :=
  ⟨⟨{ up with sec := { Sec.reset with otp := [(0, 0xF)] } }, by decide +kernel⟩,
   ⟨{ up with ident := { Ident.reset with burn := [1], commits := [true] } }, true, by decide +kernel⟩,
   ⟨up, IDN_TAG_STAGE_I3C + 252, by decide +kernel⟩,
   ⟨up, IDN_TAG_STAGE_I3C + 256, by decide +kernel⟩⟩

theorem witness_StileSlots :
(∃ s : State, ∃ fn i : Nat, ∃ cells : List (Nat × Byte), s.barOpen fn = true ∧ i < 4096 ∧ s.boot.ready = true ∧ ((s.fn fn).slot i).st ≠
    .sealed ∧ (∀ c ∈ cells, c.1 ≠ 255)) ∧
(∃ s : State, ∃ fn i : Nat, s.barOpen fn = true ∧ i < 4096 ∧ s.boot.ready = true ∧ ((s.fn fn).slot i).st = .sealed) ∧
(∃ s : State, s.up = true) ∧
(∃ s : State, ∃ fn i : Nat, ∃ cells : List (Nat × Byte), s.barOpen fn = true ∧ i < 4096 ∧ s.boot.ready = true ∧ ((s.fn fn).slot i).st ≠
    .sealed ∧ (∃ c ∈ cells, c.1 = 255)) ∧
(∃ s : State, ∃ fn i : Nat, s.up = true ∧ ((s.fn fn).slot i).st = .filling ∧ ((s.fn fn).slot i).since + 10000000 ≤ s.time) ∧
(∃ s : State, ∃ fn i : Nat, s.up = true ∧ s.boot.ready = true ∧ ((s.fn fn).slot i).st = .sealed ∧ ((s.fn fn).slot i).held = true ∧ ((s.fn
    fn).slot i).accepting = none ∧ ((s.fn fn).slot i).since + s.fnNat fn STL_GAP_HOLD * 1000 ≤ s.time ∧ (s.fn fn).bound = true ∧ (s.fn
    fn).noticeCount < 256 ∧ 1 < (s.fn fn).distance (recordOf ((s.fn fn).slot i)) ∧ (s.fn fn).distance (recordOf ((s.fn fn).slot i)) < 2 ^
    47) :=
  ⟨⟨rdy, 0, 4095, [(254, 1)], by decide +kernel⟩,
   ⟨slotIn { Slot.empty with st := .sealed }, 0, 0, by decide +kernel⟩,
   ⟨rdy, by decide +kernel⟩,
   ⟨rdy, 0, 0, [(255, 1)], by decide +kernel⟩,
   ⟨{ slotIn { Slot.empty with st := .filling } with time := 10000000 }, 0, 0, by decide +kernel⟩,
   ⟨slotIn { Slot.empty with st := .sealed, held := true, bytes := [(4, 2)] }, 0, 0, by decide +kernel⟩⟩

theorem witness_RecordsAccepted :
(∃ s : State, ∃ fn e : Nat, ∃ a b : Bool, ∃ j : JEntry, s.entry fn e = some j ∧ j.st = .free ∧ s.running = true ∧ (((j.twinA || a) &&
    (j.twinB || b)) || ((s.fn fn).journalSingle && ((j.twinA || a) || (j.twinB || b)))) = true) ∧
(∃ s : State, ∃ fn e : Nat, ∃ a b : Bool, ∃ j : JEntry, s.entry fn e = some j ∧ j.st = .free ∧ s.running = true ∧ (((j.twinA || a) &&
    (j.twinB || b)) || ((s.fn fn).journalSingle && ((j.twinA || a) || (j.twinB || b)))) = false) :=
  ⟨⟨est ({ JEntry.empty with twinA := true }), 0, 0, false, true, { JEntry.empty with twinA := true }, by decide +kernel⟩,
   ⟨est ({ JEntry.empty with twinA := true }), 0, 0, false, false, { JEntry.empty with twinA := true }, by decide +kernel⟩⟩

theorem witness_Rings_of_RingHeads :
(∃ s : State, ∃ fn : Nat, ∃ v : W32, s.barOpen fn = true ∧ (v.toNat + 2 ^ 32 - s.fnNat fn STL_RING_HEAD) % 2 ^ 32 ≤ ((s.fn fn).ringWritten
    + 2 ^ 32 - s.fnNat fn STL_RING_HEAD) % 2 ^ 32) ∧
(∃ s : State, ∃ fn : Nat, ∃ v : W32, ((s.fn fn).ringWritten + 2 ^ 32 - s.fnNat fn STL_RING_HEAD) % 2 ^ 32 < (v.toNat + 2 ^ 32 - s.fnNat fn
    STL_RING_HEAD) % 2 ^ 32) ∧
(∃ s : State, ∃ fn : Nat, ∃ v : W64, s.barOpen fn = true ∧ s.fnNat fn STL_AUDIT_HEAD ≤ v.toNat ∧ v.toNat ≤ (s.fn fn).audit.written) ∧
(∃ s : State, ∃ fn : Nat, ∃ v : W64, ((v.toNat < s.fnNat fn STL_AUDIT_HEAD ∨ (s.fn fn).audit.written < v.toNat))) :=
  ⟨⟨fst { Fn.empty with ringWritten := 1, audit := { Audit.empty with written := 1 } }, 0, 1, by decide +kernel⟩,
   ⟨fst { Fn.empty with ringWritten := 1, audit := { Audit.empty with written := 1 } }, 0, 2, by decide +kernel⟩,
   ⟨fst { Fn.empty with ringWritten := 1, audit := { Audit.empty with written := 1 } }, 0, 1, by decide +kernel⟩,
   ⟨fst { Fn.empty with ringWritten := 1, audit := { Audit.empty with written := 1 } }, 0, 2, by decide +kernel⟩⟩

theorem witness_Rings_of_RingWrites :
(∃ s : State, ∃ fn ha : Nat, ∃ img : List Byte, s.releases = true ∧ (s.fn fn).bound = true ∧ (s.fn fn).ringWritten ≠ (s.fn fn).nextRing ∧
    ((s.fn fn).ringWritten + 2 ^ 32 - s.fnNat fn STL_RING_HEAD) % 2 ^ 32 < 2 ^ (s.fn fn).ringLog ∧ (s.fn fn).dueReceipt (s.fn
    fn).ringWritten = some img ∧ s.ringPlace fn ((s.fn fn).ringAddr + 32 * ((s.fn fn).ringWritten % 2 ^ (s.fn fn).ringLog)) = (some ha,
    s)) ∧
(∃ s : State, ∃ fn ha : Nat, s.releases = true ∧ (s.fn fn).bound = true ∧ (s.fn fn).audit.written < (s.fn fn).audit.next ∧ (∀ c ∈ (s.fn
    fn).audit.unsigned, c.index ≠ (s.fn fn).audit.written) ∧ (s.fn fn).outPending (s.fn fn).audit.written = false ∧ (s.fn
    fn).audit.written < s.fnNat fn STL_AUDIT_HEAD + 2 ^ (s.fn fn).auditLog ∧ s.ringPlace fn ((s.fn fn).auditAddr + 256 * (((s.fn
    fn).audit.written - (s.fn fn).audit.origin) % 2 ^ (s.fn fn).auditLog)) = (some ha, s)) ∧
(∃ s : State, ∃ fn : Nat, ∃ c : Ckpt, ∃ rest : List Ckpt, (s.fn fn).audit.unsigned = c :: rest ∧ c.index ≠ (s.fn fn).audit.written) ∧
(∃ s : State, ∃ fn : Nat, s.running = true ∧ (s.fn fn).bound = true ∧ s.fnNat fn STL_WM_PERIOD ≠ 0 ∧ s.time % (s.fnNat fn STL_WM_PERIOD *
    1000) = 0) :=
  ⟨⟨fst
    { fnB with nextRing := 1, notices := [⟨0, [1]⟩], pce := { PceFn.reset with busMaster := true }, xlt := { Xlt.empty with tlb := [⟨true, 0, 12, true, 0, true, true⟩] } },
    0, 0, [1], by decide +kernel⟩,
   ⟨fst
    { { fnB with nextRing := 1, notices := [⟨0, [1]⟩], pce := { PceFn.reset with busMaster := true }, xlt := { Xlt.empty with tlb := [⟨true, 0, 12, true, 0, true, true⟩] } } with audit := { Audit.empty with next := 1 } },
    0, 0, by decide +kernel⟩,
   ⟨fst { fnB with audit := { Audit.empty with written := 1, unsigned := [⟨0, 0, [], 0⟩] } }, 0, ⟨0, 0, [], 0⟩, [], by decide +kernel⟩,
   ⟨fst (fnB.putN STL_WM_PERIOD 1), 0, by decide +kernel⟩⟩

theorem witness_QuiesceAndSimpleRecords_of_SimpleRecords :
(∃ s : State, ∃ fn e : Nat, ∃ j : JEntry, s.open fn e tNop = some j ∧ (s.fn fn).mayStart j = true) ∧
(∃ s : State, ∃ fn e : Nat, ∃ j : JEntry, s.inTurn fn e tAuditClose = some j) ∧
(∃ s : State, ∃ fn e : Nat, ∃ j : JEntry, s.inTurn fn e tResume = some j ∧ (s.fn fn).pdk = pdkQuiesced) ∧
(∃ s : State, ∃ fn e : Nat, ∃ j : JEntry, s.open fn e tQuiesce = some j) :=
  ⟨⟨est (rec0 tNop), 0, 0, rec0 tNop, by decide +kernel⟩,
   ⟨est (rec0 tAuditClose), 0, 0, rec0 tAuditClose, by decide +kernel⟩,
   ⟨fst { Fn.empty.putN PDK_STATE pdkQuiesced with entries := [(0, (rec0 tResume))] }, 0, 0, rec0 tResume, by decide +kernel⟩,
   ⟨est (rec0 tQuiesce), 0, 0, rec0 tQuiesce, by decide +kernel⟩⟩

theorem witness_QuiesceAndSimpleRecords_of_QuiesceTimeouts :
(∃ s : State, ∃ fn : Nat, ∃ q : Quiesce, (s.fn fn).quiesce = some q ∧ s.running = true ∧ (s.fn fn).pdk = pdkQuiescing ∧ q.since +
    q.timeoutUs * 1000 ≤ s.time) ∧
(∃ s : State, ∃ fn : Nat, ∃ q : Quiesce, (s.fn fn).quiesce = some q ∧ s.time < q.since + q.timeoutUs * 1000) :=
  ⟨⟨{ fst { Fn.empty.putN PDK_STATE pdkQuiescing with quiesce := some (⟨none, 0, 1, 0, []⟩) } with time := 1000 }, 0, ⟨none, 0, 1, 0, []⟩, by
    decide +kernel⟩,
   ⟨{ fst { Fn.empty with quiesce := some (⟨none, 0, 1, 0, []⟩) } with time := 999 }, 0, ⟨none, 0, 1, 0, []⟩, by decide +kernel⟩⟩

theorem witness_BindRecords :
∃ s : State, ∃ fn e : Nat, ∃ j : JEntry, s.inTurn fn e tBind = some j :=
⟨est (rec0 tBind), 0, 0, rec0 tBind, by decide +kernel⟩

theorem witness_LoadRecords :
(∃ s : State, ∃ fn e : Nat, ∃ j : JEntry, s.loadReady fn e tLoadProgram = some j ∧ j.busy = false) ∧
(∃ s : State, ∃ fn e : Nat, ∃ j : JEntry, s.loadReady fn e tLoadWeights = some j ∧ j.busy = false) ∧
(∃ s : State, ∃ fn e : Nat, ∃ j : JEntry, ∃ image : List Byte, ∃ h : Handle, s.entry fn e = some j ∧ s.running = true ∧ j.busy = true ∧
    j.st = .accepted ∧ j.outcome = none ∧ (s.fn fn).earlierOpen j = false ∧ imageOf j = some image ∧ (s.fn fn).handles.find (fieldAt
    j.record 32 4) = some h) ∧
(∃ s : State, ∃ fn e : Nat, ∃ j : JEntry, s.loadReady fn e tUnload = some j ∧ (s.fn fn).earlierOpen j = false) :=
  ⟨⟨est (rec0 tLoadProgram), 0, 0, rec0 tLoadProgram, by decide +kernel⟩,
   ⟨est (rec0 tLoadWeights), 0, 0, rec0 tLoadWeights, by decide +kernel⟩,
   ⟨fst { Fn.empty with entries := [(0, ({ rec0 tLoadProgram with busy := true }))], handles := [(0, prog0)] }, 0, 0,
    { rec0 tLoadProgram with busy := true }, [], prog0, by decide +kernel⟩,
   ⟨est (rec0 tUnload), 0, 0, rec0 tUnload, by decide +kernel⟩⟩

theorem witness_DirectoryRecords :
(∃ s : State, ∃ fn e : Nat, ∃ j : JEntry, ∃ en : DirEntry, ∃ old : List DirSlot, ∃ x : DirSlot, ∃ new : List DirSlot, s.open fn e
    tDirInsert = some j ∧ (s.fn fn).streamClear j = true ∧ (s.fn fn).noInvalidate j = true ∧ s.bucketBusy fn (s.dirPlace fn (dirKey
    j.record)).1 j = false ∧ s.dirEntry fn (s.dirPlace fn (dirKey j.record)).1 = en ∧ en.st ≠ .damaged ∧ ((en.st = .active → s.badRange
    (dirPage en en.sel) 8192 = false)) ∧ (old = (if en.st = .empty then [] else s.pageSlots (dirPage en en.sel) en.count)) ∧ x =
    ⟨(s.dirPlace fn (dirKey j.record)).2, dirKey j.record, fieldAt j.record 40 8 % 2 ^ 48, fieldAt j.record 48 4, fn⟩ ∧ (new = (if ∃ y ∈
    old, y.key = x.key then old.map (fun y => if y.key = x.key then x else y) else old ++ [x]))) ∧
(∃ s : State, ∃ fn e : Nat, ∃ j : JEntry, ∃ en : DirEntry, ∃ old : List DirSlot, ∃ last : DirSlot, s.open fn e tDirDelete = some j ∧ (s.fn
    fn).streamClear j = true ∧ (s.fn fn).noInvalidate j = true ∧ s.bucketBusy fn (s.dirPlace fn (dirKey j.record)).1 j = false ∧ dirWhole
    j.record = false ∧ s.dirEntry fn (s.dirPlace fn (dirKey j.record)).1 = en ∧ en.st = .active ∧ s.badRange (dirPage en en.sel) 8192 =
    false ∧ s.pageSlots (dirPage en en.sel) en.count = old ++ [last] ∧ (∃ y ∈ old ++ [last], y.key = dirKey j.record)) ∧
(∃ s : State, ∃ fn e : Nat, ∃ j : JEntry, ∃ en : DirEntry, s.open fn e tDirDelete = some j ∧ (s.fn fn).streamClear j = true ∧ (s.fn
    fn).noInvalidate j = true ∧ s.bucketBusy fn (s.dirPlace fn (dirKey j.record)).1 j = false ∧ dirWhole j.record = true ∧ s.dirEntry fn
    (s.dirPlace fn (dirKey j.record)).1 = en) ∧
(∃ s : State, ∃ fn e : Nat, ∃ j : JEntry, ∃ del : Bool, (s.open fn e (if del then tDirDelete else tDirInsert) = some j) ∧ (s.fn
    fn).streamClear j = true ∧ (s.fn fn).noInvalidate j = true ∧ s.bucketBusy fn (s.dirPlace fn (dirKey j.record)).1 j = false ∧ dirWhole
    j.record = false ∧ (s.dirEntry fn (s.dirPlace fn (dirKey j.record)).1).st = .damaged) ∧
(∃ s : State, ∃ b fn g0 c0 g1 c1 : Nat, s.bucketOwner b = some fn ∧ s.up = true ∧ g0 < g1 ∧ s.pageHeader fn b (dirPage (s.dirEntry fn b)
    false) = some (g0, c0, 0) ∧ s.pageHeader fn b (dirPage (s.dirEntry fn b) true) = some (g1, c1, 0)) :=
  ⟨⟨fst { Fn.empty.putN DIR_ENTRIES 1 with entries := [(0, (rec0 tDirInsert))] }, 0, 0, rec0 tDirInsert, ((fst
    { Fn.empty.putN DIR_ENTRIES 1 with entries := [(0, (rec0 tDirInsert))] })).dirEntry 0 0, [], ⟨(((fst
    { Fn.empty.putN DIR_ENTRIES 1 with entries := [(0, (rec0 tDirInsert))] })).dirPlace 0 (dirKey ((rec0 tDirInsert)).record)).2, dirKey
    ((rec0 tDirInsert)).record, 0, 0, 0⟩, [(⟨(((fst { Fn.empty.putN DIR_ENTRIES 1 with entries := [(0, (rec0 tDirInsert))] })).dirPlace 0
    (dirKey ((rec0 tDirInsert)).record)).2, dirKey ((rec0 tDirInsert)).record, 0, 0, 0⟩)], by decide +kernel⟩,
   ⟨{ fst { Fn.empty.putN DIR_ENTRIES 1 with entries := [(0, (rec0 tDirDelete))] } with ms := { MemSys.reset with dir := [(0, (⟨0, 1, .active, false, 0⟩))] } },
    0, 0, rec0 tDirDelete, ⟨0, 1, .active, false, 0⟩, [], ⟨0, 0, 0, 0, 0⟩, by decide +kernel⟩,
   ⟨fst { Fn.empty.putN DIR_ENTRIES 1 with entries := [(0, (recWith tDirDelete [(40, 1)]))] }, 0, 0, recWith tDirDelete [(40, 1)], ((fst
    { Fn.empty.putN DIR_ENTRIES 1 with entries := [(0, (recWith tDirDelete [(40, 1)]))] })).dirEntry 0 0, by decide +kernel⟩,
   ⟨{ fst { Fn.empty.putN DIR_ENTRIES 1 with entries := [(0, (rec0 tDirInsert))] } with ms := { MemSys.reset with dir := [(0, ⟨0, 0, .damaged, false, 0⟩)] } },
    0, 0, rec0 tDirInsert, false, by decide +kernel⟩,
   ⟨{ fst (Fn.empty.putN DIR_ENTRIES 1) with mem := hdr1 }, 0, 0, 0, 0, 1, 0, by decide +kernel⟩⟩

theorem witness_TableRecords :
(∃ s : State, ∃ fn e : Nat, ∃ j : JEntry, s.open fn e tTableUpdate = some j ∧ (s.fn fn).streamClear j = true ∧ (s.fn fn).noTable j = true) ∧
(∃ s : State, ∃ fn e tbl : Nat, ∃ j : JEntry, s.open fn e tTableUpdate = some j ∧ (s.fn fn).streamClear j = true ∧ (s.fn fn).noTable j =
    true ∧ fieldAt j.record 40 4 = 1 ∧ fieldAt j.record 44 1 = 3 ∧ fieldAt j.record 45 1 = 1 ∧ tbl % 4096 = 0 ∧ tbl < 2 ^ 47 ∧ s.readNat
    (entAt (s.tableRoot fn) 3 (fieldAt j.record 32 8)) 8 = 2 ^ 63 + tbl ∧ s.readNat (entAt tbl 2 (fieldAt j.record 32 8)) 8 = 0) ∧
(∃ s : State, ∃ fn e : Nat, ∃ j : JEntry, s.open fn e tInvalidate = some j ∧ (s.fn fn).streamClear j = true ∧ ((∀ p ∈ (s.fn fn).entries,
    p.2.order < j.order → p.2.st = .committed))) :=
  ⟨⟨est (rec0 tTableUpdate), 0, 0, rec0 tTableUpdate, by decide +kernel⟩,
   ⟨{ est (recWith tTableUpdate [(40, 1), (44, 3), (45, 1)]) with mem := [(1, 0x10), (7, 0x80)] }, 0, 0, 4096, recWith tTableUpdate [(40, 1),
    (44, 3), (45, 1)], by decide +kernel⟩,
   ⟨est (rec0 tInvalidate), 0, 0, rec0 tInvalidate, by decide +kernel⟩⟩

theorem witness_WorkLaunch :
(∃ s : State, ∃ fn e : Nat, ∃ j : JEntry, s.entry fn e = some j ∧ j.eligibleSeen = false ∧ s.eligible fn e = true) ∧
(∃ s : State, ∃ fn e : Nat, ∃ j : JEntry, ∃ p : Handle, ∃ q : List Nat × Nat, s.entry fn e = some j ∧ j.eligibleSeen = true ∧ s.eligible
    fn e = true ∧ s.mustWait fn e j = false ∧ (s.fn fn).program j.record = some p ∧ s.resources fn p = some q) ∧
(∃ s : State, ∃ gid : Nat, ∃ g : Grp, ∃ l : Lookup, s.grp gid = some g ∧ g.lookups.find? (fun x => x.id = l.id) = some l ∧ g.phase ≠
    .stopping ∧ l.thread = none ∧ l.state = 0) ∧
(∃ s : State, ∃ gid : Nat, ∃ g : Grp, ∃ l : Lookup, ∃ x : DirSlot, s.grp gid = some g ∧ g.lookups.find? (fun x => x.id = l.id) = some l ∧
    g.phase ≠ .stopping ∧ l.thread = none ∧ l.state = 1 ∧ x.tag = g.fn ∧ mustRestart l (s.dirEntry g.fn l.bucket).gen = false ∧
    s.searchPage (dirPage (s.dirEntry g.fn l.bucket) l.sel) l.count l.key l.finger = some (some x)) ∧
(∃ s : State, ∃ gid : Nat, ∃ g : Grp, ∃ l : Lookup, s.grp gid = some g ∧ g.lookups.find? (fun x => x.id = l.id) = some l ∧ g.phase ≠
    .stopping ∧ l.state = 1 ∧ l.restarted = false ∧ 2 * (l.gen / 2) + 3 ≤ (s.dirEntry g.fn l.bucket).gen ∧ s.searchPage (dirPage
    (s.dirEntry g.fn l.bucket) l.sel) l.count l.key l.finger = some none) ∧
(∃ s v : State, ∃ gid : Nat, ∃ g h : Grp, s.grp gid = some g ∧ g.phase = .launching ∧ (∀ l ∈ g.lookups, l.thread ≠ none) ∧ v = (List.range
    (keyCount (s.recOf g))).foldl (fun s k => s.gatherKey gid k) s ∧ v.grp gid = some h ∧ h.phase = .launching) :=
  ⟨⟨est (rec0 tWork), 0, 0, rec0 tWork, by decide +kernel⟩,
   ⟨pst { Fn.empty with entries := [(0, ({ rec0 tWork with eligibleSeen := true }))], handles := [(0, ({ prog0 with priv := 0 }))] }, 0, 0,
    { rec0 tWork with eligibleSeen := true }, { prog0 with priv := 0 }, ([0], 0), by decide +kernel⟩,
   ⟨gstOf ({ grpOf thr0 with lookups := [(look0)] }), 0, { grpOf thr0 with lookups := [(look0)] }, look0, by decide +kernel⟩,
   ⟨gstOf ({ grpOf thr0 with lookups := [({ look0 with state := 1, count := 1 })] }), 0,
    { grpOf thr0 with lookups := [({ look0 with state := 1, count := 1 })] }, { look0 with state := 1, count := 1 }, ⟨0, 0, 0, 0, 0⟩, by
    decide +kernel⟩,
   ⟨{ gstOf ({ grpOf thr0 with lookups := [({ look0 with state := 1 })] }) with ms := { MemSys.reset with dir := [(0, ⟨3, 0, .empty, false, 0⟩)] } },
    0, { grpOf thr0 with lookups := [({ look0 with state := 1 })] }, { look0 with state := 1 }, by decide +kernel⟩,
   ⟨gstOf ({ grpOf thr0 with phase := .launching }), (gstOf ({ grpOf thr0 with phase := .launching })), 0,
    { grpOf thr0 with phase := .launching }, ({ grpOf thr0 with phase := .launching }), by decide +kernel⟩⟩

theorem witness_GroupEnds :
(∃ s : State, ∃ gid : Nat, ∃ g : Grp, ∃ got : List (LoadPart × List Byte × Bool), s.grp gid = some g ∧ g.inputPending = true ∧ g.phase ≠
    .launching ∧ g.phase ≠ .stopping ∧ g.threads ≠ [] ∧ ((∀ p ∈ cut (inAddr (s.recOf g)) (inLen (s.recOf g)) 4096, ∃ q ∈ g.input, q.lane =
    p.1 ∧ q.ready s g = true)) ∧ got = (cut (inAddr (s.recOf g)) (inLen (s.recOf g)) 4096).map (fun p => match g.input.find? (fun q =>
    q.lane = p.1) with | some q => (q, s.readPart g q) | none => (⟨0, .core 0, 0, none⟩, [], false)) ∧ (∀ x ∈ got, x.2.2 = false)) ∧
(∃ s : State, ∃ gid : Nat, ∃ g : Grp, ∃ j : JEntry, s.grp gid = some g ∧ s.entry g.fn g.entry = some j ∧ g.phase = .stopping ∧ (s.fn
    g.fn).earlierOpen j = false ∧ g.poison = false) ∧
(∃ s : State, ∃ gid : Nat, ∃ g : Grp, ∃ j : JEntry, s.grp gid = some g ∧ s.entry g.fn g.entry = some j ∧ g.phase = .stopping ∧ (s.fn
    g.fn).earlierOpen j = false ∧ g.poison = true) ∧
(∃ s : State, ∃ gid i : Nat, ∃ g : Grp, s.grp gid = some g ∧ s.longFault gid = some i ∧ g.phase = .running ∧ s.running = true ∧
    s.hirselWaiter g.fn = true) ∧
(∃ s : State, ∃ gid : Nat, ∃ g : Grp, s.grp gid = some g ∧ g.phase = .saving ∧ g.drained = true) ∧
(∃ s : State, ∃ gid : Nat, ∃ g : Grp, s.grp gid = some g ∧ s.restorable gid = true ∧ s.running = true ∧ g.size ≤ (s.freeHirsels
    g.fn).length ∧ g.code = none ∧ g.poison = false ∧ g.threads ≠ []) ∧
(∃ s : State, ∃ gid : Nat, ∃ g : Grp, s.grp gid = some g ∧ s.restorable gid = true ∧ s.running = true ∧ g.size ≤ (s.freeHirsels
    g.fn).length ∧ ((g.code ≠ none ∨ g.poison = true))) :=
  ⟨⟨wst (rec0 tWork) ({ grpOf thr0 with inputPending := true }), 0, { grpOf thr0 with inputPending := true }, [], by decide +kernel⟩,
   ⟨wst (rec0 tWork) ({ grpOf thr0 with phase := .stopping }), 0, { grpOf thr0 with phase := .stopping }, rec0 tWork, by decide +kernel⟩,
   ⟨wst (rec0 tWork) ({ grpOf thr0 with phase := .stopping, poison := true }), 0, { grpOf thr0 with phase := .stopping, poison := true },
    rec0 tWork, by decide +kernel⟩,
   ⟨{ fst { Fn.empty with entries := [(1, rec0 tWork)], handles := [(0, prog0)], xlt := { Xlt.empty with waits := [⟨0, false, false, false, .fault 0 false, 0, .thread 0 0⟩] } } with groups := [(0, (grpOf thr0))], time := 20000 },
    0, 0, grpOf thr0, by decide +kernel⟩,
   ⟨wst (rec0 tWork) ({ grpOf thr0 with phase := .saving }), 0, { grpOf thr0 with phase := .saving }, by decide +kernel⟩,
   ⟨{ pst Fn.empty with groups := [(0, ({ grpOf thr0 with phase := .switchedOut }))] }, 0, { grpOf thr0 with phase := .switchedOut }, by
    decide +kernel⟩,
   ⟨{ pst Fn.empty with groups := [(0, ({ grpOf thr0 with phase := .switchedOut, code := some 1 }))] }, 0,
    { grpOf thr0 with phase := .switchedOut, code := some 1 }, by decide +kernel⟩⟩

theorem witness_ReleaseSteps :
(∃ s : State, ∃ fn e off : Nat, ∃ j : JEntry, ∃ g : Grp, s.open fn e tWork = some j ∧ s.grp (gidOf fn e) = some g ∧ g.phase = .ended ∧
    g.windowsClosed = true ∧ g.inputDigest ≠ none ∧ g.code = none ∧ g.poison = false ∧ j.stage = .none ∧ (s.fn fn).earlierOpen j = false ∧
    s.windowQuiet (gidOf fn e) = true ∧ (s.fn fn).logFree (g.releaseSet j.record).length = some off) ∧
(∃ s : State, ∃ fn e : Nat, ∃ j : JEntry, ∃ g : Grp, s.open fn e tWork = some j ∧ s.grp (gidOf fn e) = some g ∧ j.stage = .logging ∧ (s.fn
    fn).carrying = false) ∧
(∃ s : State, ∃ fn e a : Nat, ∃ j : JEntry, s.entry fn e = some j ∧ j.auditIndex = some a ∧ s.releases = true ∧ j.st = .releasing ∧ j.left
    = [] ∧ a < (s.fn fn).audit.written) :=
  ⟨⟨wst (rec0 tWork) ({ grpOf thr0 with phase := .ended, inputDigest := some [] }), 0, 0, 0, rec0 tWork,
    { grpOf thr0 with phase := .ended, inputDigest := some [] }, by decide +kernel⟩,
   ⟨wst ({ rec0 tWork with stage := .logging }) ({ grpOf thr0 with phase := .ended, inputDigest := some [] }), 0, 0,
    { rec0 tWork with stage := .logging }, { grpOf thr0 with phase := .ended, inputDigest := some [] }, by decide +kernel⟩,
   ⟨fst
    { Fn.empty with entries := [(0, ({ rec0 tWork with st := .releasing, auditIndex := some 0 }))], audit := { Audit.empty with written := 1 } },
    0, 0, 0, { rec0 tWork with st := .releasing, auditIndex := some 0 }, by decide +kernel⟩⟩

theorem witness_ThreadsIssue :
(∃ i : Instr, ∃ t : Thr, ∃ grd : BitVec 5, ∃ s : State, issuedBy i = some (t, grd) ∧ ((∀ g th, s.grp t.gid = some g → g.th t.idx = some th
    → g.phase ≠ .running ∨ th.st ≠ .running))) ∧
(∃ i : Instr, ∃ t : Thr, ∃ grd : BitVec 5, ∃ s : State, ∃ g : Grp, ∃ th : Thread, issuedBy i = some (t, grd) ∧ s.grp t.gid = some g ∧ g.th
    t.idx = some th ∧ g.phase = .running ∧ th.st = .running ∧ ((th.pc.toNat < imageVa + g.prog.offset ∨ imageVa + g.prog.offset +
    g.prog.len < th.pc.toNat + 8))) ∧
(∃ s : State, ∃ t : Thr, ∃ g : Grp, ∃ k, s.grp t.gid = some g ∧ g.phase = .running ∧ k ≠ t.gid) ∧
(∃ s : State, ∃ t : Thr, ∃ g : Grp, ∃ k, s.grp t.gid = some g ∧ k ≠ t.gid) ∧
(∃ s : State, ∃ t : Thr, ∃ g : Grp, ∃ k, s.grp t.gid = some g ∧ k ≠ t.idx) ∧
(∃ s : State, ∃ t : Thr, ∃ g : Grp, ∃ off, s.grp t.gid = some g ∧ ((off < TLY_COUNT ∨ TLY_COUNT + 8 * 256 ≤ off))) ∧
(∃ s : State, ∃ t : Thr, ∃ g : Grp, s.grp t.gid = some g ∧ s.confidential g.fn = true) :=
  ⟨⟨.nop t0 fI, t0, 0, rdy, rfl, fun g th h _ => nomatch (show (none : Option Grp) = some g from h)⟩,
   ⟨.nop t0 fI, t0, 0, gstOf (grpOf ({ thr0 with pc := 0xEFFFFFFFFFF8 })), grpOf ({ thr0 with pc := 0xEFFFFFFFFFF8 }),
    { thr0 with pc := 0xEFFFFFFFFFF8 }, by decide +kernel⟩,
   ⟨gstOf (grpOf (thr0)), t0, grpOf (thr0), 1, by decide +kernel⟩,
   ⟨gstOf (grpOf (thr0)), t0, grpOf (thr0), 1, by decide +kernel⟩,
   ⟨gstOf (grpOf (thr0)), t0, grpOf (thr0), 1, by decide +kernel⟩,
   ⟨gstOf (grpOf (thr0)), t0, grpOf (thr0), TLY_COUNT + 2048, by decide +kernel⟩,
   ⟨(gstOf (grpOf (thr0))).hubSetN SEC_PADDOCK_CFG 1, t0, grpOf (thr0), by decide +kernel⟩⟩

theorem witness_GuardsAndPredicates_of_ScalarGuards :
(∃ s : State, ∃ t : Thr, ∃ f : FmtR, ∃ g : Grp, ∃ th : Thread, Issues s t g th ∧ (¬(f.s3 = 0 ∧ f.ty = 0 ∧ f.cond = 0 ∧ f.rsv = 0) ∨
    (f.grd.getLsbD 4 = false ∧ f.grd ≠ 0))) ∧
(∃ s : State, ∃ t : Thr, ∃ f : FmtR, ∃ g : Grp, ∃ th : Thread, Issues s t g th ∧ f.s3 = 0 ∧ f.ty = 0 ∧ f.cond = 0 ∧ f.rsv = 0 ∧ GuardFalse
    th f.grd) ∧
(∃ s : State, ∃ t : Thr, ∃ f : FmtR, ∃ g : Grp, ∃ th : Thread, Issues s t g th ∧ f.s3 = 0 ∧ f.ty = 0 ∧ f.cond = 0 ∧ f.rsv = 0 ∧ GuardAt th
    f.grd 0 ∧ (¬(FreeX th f.s1 ∧ FreeX th f.s2))) :=
  ⟨⟨gst (thr0), t0, { fR with s3 := 1 }, grpOf (thr0), thr0, by decide +kernel⟩,
   ⟨gst (thr0), t0, { fR with grd := 0b10000 }, grpOf (thr0), thr0, by decide +kernel⟩,
   ⟨gst ({ thr0 with loads := [⟨0, 1, false, 8, false, false, 0, []⟩] }), t0, { fR with s1 := 1 }, grpOf
    ({ thr0 with loads := [⟨0, 1, false, 8, false, false, 0, []⟩] }), { thr0 with loads := [⟨0, 1, false, 8, false, false, 0, []⟩] }, by
    decide +kernel⟩⟩

theorem witness_ScalarArithmetic_of_ScalarBinary :
∃ s : State, ∃ t : Thr, ∃ f : FmtR, ∃ g : Grp, ∃ th : Thread, Issues s t g th ∧ f.s3 = 0 ∧ f.ty = 0 ∧ f.cond = 0 ∧ f.rsv = 0 ∧ GuardAt th
    f.grd 0 ∧ FreeX th f.s1 ∧ FreeX th f.s2 :=
⟨gst (thr0), t0, { fR with d := 63, s1 := 63 }, grpOf (thr0), thr0, by decide +kernel⟩

theorem witness_ScalarArithmetic_of_ScalarImmediate :
(∃ s : State, ∃ t : Thr, ∃ f : FmtI, ∃ g : Grp, ∃ th : Thread, Issues s t g th ∧ f.ty = 0 ∧ f.rsv = 0 ∧ GuardAt th f.grd 0 ∧ FreeX th
    f.s1) ∧
(∃ s : State, ∃ t : Thr, ∃ f : FmtI, ∃ g : Grp, ∃ th : Thread, Issues s t g th ∧ f.ty = 0 ∧ f.rsv = 0 ∧ GuardAt th f.grd 0 ∧ FreeX th f.s1
    ∧ f.imm.toNat < 64) ∧
(∃ s : State, ∃ t : Thr, ∃ f : FmtI, ∃ g : Grp, ∃ th : Thread, Issues s t g th ∧ f.ty = 0 ∧ f.rsv = 0 ∧ GuardAt th f.grd 0 ∧ FreeX th f.s1
    ∧ 64 ≤ f.imm.toNat) ∧
(∃ s : State, ∃ t : Thr, ∃ f : FmtI, ∃ g : Grp, ∃ th : Thread, Issues s t g th ∧ f.s1 = 0 ∧ f.ty = 0 ∧ f.rsv = 0 ∧ GuardAt th f.grd 0) ∧
(∃ s : State, ∃ t : Thr, ∃ f : FmtR, ∃ g : Grp, ∃ th : Thread, Issues s t g th ∧ f.s2 = 0 ∧ f.s3 = 0 ∧ f.ty = 0 ∧ f.cond = 0 ∧ f.rsv = 0 ∧
    GuardAt th f.grd 0 ∧ FreeX th f.s1) :=
  ⟨⟨gst ({ thr0 with p := [(3, 1)] }), t0, { fI with d := 63, grd := 0b10011 }, grpOf ({ thr0 with p := [(3, 1)] }),
    { thr0 with p := [(3, 1)] }, by decide +kernel⟩,
   ⟨gst ({ thr0 with p := [(3, 1)] }), t0, { fI with imm := 63 }, grpOf ({ thr0 with p := [(3, 1)] }), { thr0 with p := [(3, 1)] }, by decide +kernel⟩,
   ⟨gst ({ thr0 with p := [(3, 1)] }), t0, { fI with imm := 64 }, grpOf ({ thr0 with p := [(3, 1)] }), { thr0 with p := [(3, 1)] }, by decide +kernel⟩,
   ⟨gst ({ thr0 with p := [(3, 1)] }), t0, { fI with d := 63, grd := 0b10011 }, grpOf ({ thr0 with p := [(3, 1)] }),
    { thr0 with p := [(3, 1)] }, by decide +kernel⟩,
   ⟨gst ({ thr0 with p := [(3, 1)] }), t0, { fR with d := 1 }, grpOf ({ thr0 with p := [(3, 1)] }), { thr0 with p := [(3, 1)] }, by decide +kernel⟩⟩

theorem witness_GuardsAndPredicates_of_Predicates :
(∃ cond ∈ ([(0, fun a b => a = b), (1, fun a b => a ≠ b), (2, fun a b => a.toInt < b.toInt), (3, fun a b => b.toInt ≤ a.toInt), (4, fun a
    b => a.toNat < b.toNat), (5, fun a b => b.toNat ≤ a.toNat), (6, fun _ _ => True)] : List (BitVec 4 × (W64 → W64 → Prop))), ∃ s :
    State, ∃ t : Thr, ∃ f : FmtR, ∃ g : Grp, ∃ th : Thread, Issues s t g th ∧ f.d.toNat < 8 ∧ f.s3 = 0 ∧ f.ty = 0 ∧ f.rsv = 0 ∧ f.cond =
    cond.1 ∧ GuardAt th f.grd 0 ∧ FreeX th f.s1 ∧ FreeX th f.s2 ∧ cond.2 (th.xr f.s1.toNat) (th.xr f.s2.toNat)) ∧
(∃ cond ∈ ([(0, fun a b => a = b), (1, fun a b => a ≠ b), (2, fun a b => a.toInt < b.toInt), (3, fun a b => b.toInt ≤ a.toInt), (4, fun a
    b => a.toNat < b.toNat), (5, fun a b => b.toNat ≤ a.toNat), (6, fun _ _ => True)] : List (BitVec 4 × (W64 → W64 → Prop))), ∃ s :
    State, ∃ t : Thr, ∃ f : FmtR, ∃ g : Grp, ∃ th : Thread, Issues s t g th ∧ f.d.toNat < 8 ∧ f.s3 = 0 ∧ f.ty = 0 ∧ f.rsv = 0 ∧ f.cond =
    cond.1 ∧ GuardAt th f.grd 0 ∧ FreeX th f.s1 ∧ FreeX th f.s2 ∧ (¬cond.2 (th.xr f.s1.toNat) (th.xr f.s2.toNat))) ∧
(∃ cond ∈ ([(0, fun a b => a = b), (1, fun a b => a ≠ b), (2, fun a b => a.toInt < b.toInt), (3, fun a b => b.toInt ≤ a.toInt), (4, fun a
    b => a.toNat < b.toNat), (5, fun a b => b.toNat ≤ a.toNat), (6, fun _ _ => True)] : List (BitVec 4 × (W64 → W64 → Prop))), ∃ s :
    State, ∃ t : Thr, ∃ f : FmtI, ∃ g : Grp, ∃ th : Thread, Issues s t g th ∧ f.d.toNat < 8 ∧ f.rsv = 0 ∧ f.ty = cond.1 ∧ GuardAt th f.grd
    0 ∧ FreeX th f.s1 ∧ cond.2 (th.xr f.s1.toNat) (f.imm.signExtend 64)) ∧
(∃ cond ∈ ([(0, fun a b => a = b), (1, fun a b => a ≠ b), (2, fun a b => a.toInt < b.toInt), (3, fun a b => b.toInt ≤ a.toInt), (4, fun a
    b => a.toNat < b.toNat), (5, fun a b => b.toNat ≤ a.toNat), (6, fun _ _ => True)] : List (BitVec 4 × (W64 → W64 → Prop))), ∃ s :
    State, ∃ t : Thr, ∃ f : FmtI, ∃ g : Grp, ∃ th : Thread, Issues s t g th ∧ f.d.toNat < 8 ∧ f.rsv = 0 ∧ f.ty = cond.1 ∧ GuardAt th f.grd
    0 ∧ FreeX th f.s1 ∧ (¬cond.2 (th.xr f.s1.toNat) (f.imm.signExtend 64))) ∧
(∃ s : State, ∃ t : Thr, ∃ f : FmtR, ∃ g : Grp, ∃ th : Thread, Issues s t g th ∧ 6 < f.cond.toNat) ∧
(∃ s : State, ∃ t : Thr, ∃ f : FmtR, ∃ g : Grp, ∃ th : Thread, Issues s t g th ∧ f.s3.toNat < 8 ∧ f.ty = 0 ∧ f.cond = 0 ∧ f.rsv = 0 ∧
    GuardAt th f.grd 0 ∧ FreeX th f.s1 ∧ FreeX th f.s2) ∧
(∃ s : State, ∃ t : Thr, ∃ f : FmtR, ∃ g : Grp, ∃ th : Thread, Issues s t g th ∧ f.d.toNat < 8 ∧ f.s1.toNat < 8 ∧ f.s2.toNat < 8 ∧ f.s3 =
    0 ∧ f.ty = 0 ∧ f.cond = 0 ∧ f.rsv = 0 ∧ GuardAt th f.grd 0) ∧
(∃ s : State, ∃ t : Thr, ∃ f : FmtR, ∃ g : Grp, ∃ th : Thread, Issues s t g th ∧ f.s2 = 0 ∧ f.s3 = 0 ∧ f.ty = 0 ∧ f.cond = 0 ∧ f.rsv = 0 ∧
    GuardAt th f.grd 0 ∧ f.d.toNat < 8 ∧ f.s1.toNat < 8) ∧
(∃ s : State, ∃ t : Thr, ∃ f : FmtR, ∃ g : Grp, ∃ th : Thread, Issues s t g th ∧ f.s2 = 0 ∧ f.s3 = 0 ∧ f.ty = 0 ∧ f.cond = 0 ∧ f.rsv = 0 ∧
    GuardAt th f.grd 0 ∧ f.s1.toNat < 8) ∧
(∃ s : State, ∃ t : Thr, ∃ f : FmtR, ∃ g : Grp, ∃ th : Thread, Issues s t g th ∧ f.s2 = 0 ∧ f.s3 = 0 ∧ f.ty = 0 ∧ f.cond = 0 ∧ f.rsv = 0 ∧
    GuardAt th f.grd 0 ∧ f.d.toNat < 8 ∧ FreeX th f.s1) :=
  ⟨⟨(0, fun a b => a = b), List.mem_cons_self .., gst (thr0), t0, { fR with d := 7 }, grpOf (thr0), thr0, by decide +kernel⟩,
   ⟨(1, fun a b => a ≠ b), List.mem_cons_of_mem _ (List.mem_cons_self ..), gst (thr0), t0, { fR with cond := 1 }, grpOf (thr0), thr0, by
    decide +kernel⟩,
   ⟨(0, fun a b => a = b), List.mem_cons_self .., gst (thr0), t0, fI, grpOf (thr0), thr0, by decide +kernel⟩,
   ⟨(1, fun a b => a ≠ b), List.mem_cons_of_mem _ (List.mem_cons_self ..), gst (thr0), t0, { fI with ty := 1 }, grpOf (thr0), thr0, by decide +kernel⟩,
   ⟨gst (thr0), t0, { fR with cond := 7 }, grpOf (thr0), thr0, by decide +kernel⟩,
   ⟨gst (thr0), t0, { fR with s3 := 7 }, grpOf (thr0), thr0, by decide +kernel⟩,
   ⟨gst (thr0), t0, { fR with d := 7, s1 := 7, s2 := 7 }, grpOf (thr0), thr0, by decide +kernel⟩,
   ⟨gst (thr0), t0, { fR with d := 7 }, grpOf (thr0), thr0, by decide +kernel⟩,
   ⟨gst (thr0), t0, { fR with d := 7 }, grpOf (thr0), thr0, by decide +kernel⟩,
   ⟨gst (thr0), t0, { fR with d := 7 }, grpOf (thr0), thr0, by decide +kernel⟩⟩

theorem witness_ControlTransfer :
(∃ s : State, ∃ t : Thr, ∃ f : FmtI, ∃ g : Grp, ∃ th : Thread, Issues s t g th ∧ f.d = 0 ∧ f.s1 = 0 ∧ f.ty = 0 ∧ f.rsv = 0 ∧ f.imm = 0 ∧
    GuardAt th f.grd 0) ∧
(∃ cond ∈ ([(0, fun a b => a = b), (1, fun a b => a ≠ b), (2, fun a b => a.toInt < b.toInt), (3, fun a b => b.toInt ≤ a.toInt), (4, fun a
    b => a.toNat < b.toNat), (5, fun a b => b.toNat ≤ a.toNat), (6, fun _ _ => True)] : List (BitVec 4 × (W64 → W64 → Prop))), ∃ s :
    State, ∃ t : Thr, ∃ f : FmtC, ∃ g : Grp, ∃ th : Thread, Issues s t g th ∧ f.d = 0 ∧ f.cond = cond.1 ∧ GuardAt th f.grd 0 ∧ FreeX th
    f.s1 ∧ FreeX th f.s2 ∧ cond.2 (th.xr f.s1.toNat) (th.xr f.s2.toNat)) ∧
(∃ cond ∈ ([(0, fun a b => a = b), (1, fun a b => a ≠ b), (2, fun a b => a.toInt < b.toInt), (3, fun a b => b.toInt ≤ a.toInt), (4, fun a
    b => a.toNat < b.toNat), (5, fun a b => b.toNat ≤ a.toNat), (6, fun _ _ => True)] : List (BitVec 4 × (W64 → W64 → Prop))), ∃ s :
    State, ∃ t : Thr, ∃ f : FmtC, ∃ g : Grp, ∃ th : Thread, Issues s t g th ∧ f.d = 0 ∧ f.cond = cond.1 ∧ GuardAt th f.grd 0 ∧ FreeX th
    f.s1 ∧ FreeX th f.s2 ∧ (¬cond.2 (th.xr f.s1.toNat) (th.xr f.s2.toNat))) ∧
(∃ s : State, ∃ t : Thr, ∃ f : FmtC, ∃ g : Grp, ∃ th : Thread, Issues s t g th ∧ f.s1 = 0 ∧ f.s2 = 0 ∧ f.cond = 6 ∧ GuardAt th f.grd 0) ∧
(∃ s : State, ∃ t : Thr, ∃ f : FmtC, ∃ g : Grp, ∃ th : Thread, Issues s t g th ∧ f.s2 = 0 ∧ f.cond = 6 ∧ GuardAt th f.grd 0 ∧ FreeX th
    f.s1 ∧ (th.xr f.s1.toNat).toNat % 8 = 0) ∧
(∃ s : State, ∃ t : Thr, ∃ f : FmtC, ∃ g : Grp, ∃ th : Thread, Issues s t g th ∧ f.s2 = 0 ∧ f.cond = 6 ∧ GuardAt th f.grd 0 ∧ FreeX th
    f.s1 ∧ (th.xr f.s1.toNat).toNat % 8 ≠ 0) :=
  ⟨⟨gst (thr0), t0, fI, grpOf (thr0), thr0, by decide +kernel⟩,
   ⟨(0, fun a b => a = b), List.mem_cons_self .., gst (thr0), t0, fC, grpOf (thr0), thr0, by decide +kernel⟩,
   ⟨(1, fun a b => a ≠ b), List.mem_cons_of_mem _ (List.mem_cons_self ..), gst (thr0), t0, { fC with cond := 1 }, grpOf (thr0), thr0, by
    decide +kernel⟩,
   ⟨gst (thr0), t0, { fC with cond := 6 }, grpOf (thr0), thr0, by decide +kernel⟩,
   ⟨gst (thr0), t0, { fC with cond := 6 }, grpOf (thr0), thr0, by decide +kernel⟩,
   ⟨gst ({ thr0 with x := [(1, 4)] }), t0, { fC with cond := 6, s1 := 1 }, grpOf ({ thr0 with x := [(1, 4)] }), { thr0 with x := [(1, 4)] },
    by decide +kernel⟩⟩

theorem witness_VectorLanewise :
(∃ op ∈ ([(Instr.vabs, 0, fun a => if a.toInt < 0 then -a else a), (.vneg, 0, fun a => -a), (.vabs, 4, f32Abs), (.vneg, 4, f32Neg),
    (.vsqrt, 4, f32Sqrt), (.vexp2, 4, f32Exp2), (.vlog2, 4, f32Log2)] : List ((Thr → FmtR → Instr) × BitVec 4 × (W32 → W32))), ∃ s :
    State, ∃ t : Thr, ∃ f : FmtR, ∃ g : Grp, ∃ th : Thread, Issues s t g th ∧ f.d.toNat < 32 ∧ f.s1.toNat < 32 ∧ f.s2 = 0 ∧ f.s3 = 0 ∧
    f.ty = op.2.1 ∧ f.cond = 0 ∧ f.rsv = 0 ∧ GuardWf f.grd ∧ FreeV th f.s1 ∧ FreeD th f.grd f.d) ∧
(∃ op ∈ ([(Instr.vadd, [0, 1], fun a b => a + b), (.vsub, [0, 1], fun a b => a - b), (.vmul, [0, 1], fun a b => a * b), (.vadd, [4],
    f32Add), (.vsub, [4], f32Sub), (.vmul, [4], f32Mul), (.vdiv, [4], f32Div), (.vmin, [0], fun a b => if a.toInt ≤ b.toInt then a else
    b), (.vmax, [0], fun a b => if a.toInt ≤ b.toInt then b else a), (.vmin, [1], fun a b => if a.toNat ≤ b.toNat then a else b), (.vmax,
    [1], fun a b => if a.toNat ≤ b.toNat then b else a), (.vmin, [4], f32Min), (.vmax, [4], f32Max), (.vand, [0, 1], fun a b => a &&& b),
    (.vor, [0, 1], fun a b => a ||| b), (.vxor, [0, 1], fun a b => a ^^^ b), (.vsll, [0, 1], fun a b => a <<< (b.toNat % 32)), (.vsrl, [0,
    1], fun a b => a >>> (b.toNat % 32)), (.vsra, [0, 1], fun a b => a.sshiftRight (b.toNat % 32))] : List ((Thr → FmtR → Instr) × List
    Nat × (W32 → W32 → W32))), ∃ s : State, ∃ t : Thr, ∃ f : FmtR, ∃ g : Grp, ∃ th : Thread, Issues s t g th ∧ f.d.toNat < 32 ∧ f.s1.toNat
    < 32 ∧ f.s2.toNat < 32 ∧ f.s3 = 0 ∧ f.ty.toNat ∈ op.2.1 ∧ f.cond = 0 ∧ f.rsv = 0 ∧ GuardWf f.grd ∧ FreeV th f.s1 ∧ FreeV th f.s2 ∧
    FreeD th f.grd f.d) ∧
(∃ s : State, ∃ t : Thr, ∃ f : FmtR, ∃ g : Grp, ∃ th : Thread, Issues s t g th ∧ f.d.toNat < 32 ∧ f.s1.toNat < 32 ∧ f.s2.toNat < 32 ∧
    f.s3.toNat < 32 ∧ f.ty = 4 ∧ f.cond = 0 ∧ f.rsv = 0 ∧ GuardWf f.grd ∧ FreeV th f.s1 ∧ FreeV th f.s2 ∧ FreeV th f.s3 ∧ FreeD th f.grd
    f.d) ∧
(∃ s : State, ∃ t : Thr, ∃ f : FmtR, ∃ g : Grp, ∃ th : Thread, Issues s t g th ∧ ((f.ty.toNat ∉ [0, 1, 4] ∨ 32 ≤ f.d.toNat ∨ 32 ≤
    f.s1.toNat))) ∧
(∃ a b : W32, ((f32Dec a = .nan ∨ f32Dec b = .nan))) :=
  ⟨⟨(Instr.vabs, 0, fun a => if a.toInt < 0 then -a else a), List.mem_cons_self .., gst (thr0), t0, { fR with d := 31, s1 := 31 }, grpOf
    (thr0), thr0, by decide +kernel⟩,
   ⟨(Instr.vadd, [0, 1], fun a b => a + b), List.mem_cons_self .., gst (thr0), t0, { fR with d := 31, s1 := 31 }, grpOf (thr0), thr0, by
    decide +kernel⟩,
   ⟨gst (thr0), t0, { fR with ty := 4 }, grpOf (thr0), thr0, by decide +kernel⟩,
   ⟨gst (thr0), t0, { fR with d := 32 }, grpOf (thr0), thr0, by decide +kernel⟩,
   ⟨0x7FC00000, 0, by decide +kernel⟩⟩

theorem witness_VectorMovesAndReductions_of_VectorMoves :
(∃ s : State, ∃ t : Thr, ∃ f : FmtR, ∃ g : Grp, ∃ th : Thread, Issues s t g th ∧ f.d.toNat < 8 ∧ f.s1.toNat < 32 ∧ f.s2.toNat < 32 ∧ f.s3
    = 0 ∧ f.rsv = 0 ∧ GuardWf f.grd ∧ FreeV th f.s1 ∧ FreeV th f.s2 ∧ (((f.ty.toNat ≤ 1 ∧ f.cond.toNat ≤ 6) ∨ (f.ty = 4 ∧ (f.cond = 6 ∨ (8
    ≤ f.cond.toNat ∧ f.cond.toNat ≤ 12)))))) ∧
(∃ s : State, ∃ t : Thr, ∃ f : FmtR, ∃ g : Grp, ∃ th : Thread, Issues s t g th ∧ f.d.toNat < 32 ∧ f.s1.toNat < 32 ∧ f.s2.toNat < 32 ∧ f.ty
    = 0 ∧ f.cond = 0 ∧ f.rsv = 0 ∧ GuardWf f.grd ∧ FreeV th f.s1 ∧ FreeV th f.s2 ∧ FreeD th f.grd f.d ∧ f.s3.toNat < 8) ∧
(∃ s : State, ∃ t : Thr, ∃ f : FmtR, ∃ g : Grp, ∃ th : Thread, Issues s t g th ∧ f.d.toNat < 32 ∧ f.s1.toNat < 32 ∧ f.s2.toNat < 32 ∧ f.ty
    = 0 ∧ f.cond = 0 ∧ f.rsv = 0 ∧ GuardWf f.grd ∧ FreeV th f.s1 ∧ FreeV th f.s2 ∧ FreeD th f.grd f.d ∧ f.s3 = 0) ∧
(∃ s : State, ∃ t : Thr, ∃ f : FmtR, ∃ g : Grp, ∃ th : Thread, Issues s t g th ∧ f.d.toNat < 32 ∧ f.s2 = 0 ∧ f.s3 = 0 ∧ f.ty = 0 ∧ f.cond
    = 0 ∧ f.rsv = 0 ∧ GuardWf f.grd ∧ FreeD th f.grd f.d ∧ FreeX th f.s1) ∧
(∃ s : State, ∃ t : Thr, ∃ f : FmtR, ∃ g : Grp, ∃ th : Thread, Issues s t g th ∧ f.d.toNat < 32 ∧ f.s2 = 0 ∧ f.s3 = 0 ∧ f.ty = 0 ∧ f.cond
    = 0 ∧ f.rsv = 0 ∧ GuardWf f.grd ∧ FreeD th f.grd f.d ∧ f.s1 = 0) ∧
(∃ s : State, ∃ t : Thr, ∃ f : FmtR, ∃ g : Grp, ∃ th : Thread, Issues s t g th ∧ f.s3 = 0 ∧ f.ty = 0 ∧ f.cond = 0 ∧ f.rsv = 0 ∧ GuardAt th
    f.grd 0 ∧ f.s1.toNat < 32 ∧ FreeV th f.s1 ∧ FreeX th f.s2) ∧
(∃ s : State, ∃ t : Thr, ∃ f : FmtR, ∃ g : Grp, ∃ th : Thread, Issues s t g th ∧ f.s3 = 0 ∧ f.ty = 0 ∧ f.cond = 0 ∧ f.rsv = 0 ∧ GuardAt th
    f.grd 0 ∧ f.d.toNat < 32 ∧ FreeX th f.s1 ∧ FreeX th f.s2 ∧ FreeV th f.d) ∧
(∃ s : State, ∃ t : Thr, ∃ f : FmtI, ∃ g : Grp, ∃ th : Thread, ∃ a b : Fmt, ∃ m : Rnd, Issues s t g th ∧ f.d.toNat < 32 ∧ f.s1.toNat < 32
    ∧ f.ty = 0 ∧ f.rsv = 0 ∧ f.imm.toNat < 1024 ∧ GuardWf f.grd ∧ FreeV th f.s1 ∧ FreeD th f.grd f.d ∧ Fmt.ofNibble (f.imm.toNat / 16 %
    16) = some a ∧ Fmt.ofNibble (f.imm.toNat % 16) = some b ∧ Rnd.ofBits (f.imm.toNat / 256) = some m ∧ (f.grd = 0 ∨ (a.packed = false ∧
    b.packed = false))) ∧
(∃ s : State, ∃ t : Thr, ∃ f : FmtI, ∃ g : Grp, ∃ th : Thread, ∃ a b : Fmt, ∃ m : Rnd, Issues s t g th ∧ f.d.toNat < 32 ∧ f.s1.toNat < 32
    ∧ f.ty = 0 ∧ f.rsv = 0 ∧ f.imm.toNat < 1024 ∧ GuardWf f.grd ∧ FreeV th f.s1 ∧ FreeD th f.grd f.d ∧ Fmt.ofNibble (f.imm.toNat / 16 %
    16) = some a ∧ Fmt.ofNibble (f.imm.toNat % 16) = some b ∧ Rnd.ofBits (f.imm.toNat / 256) = some m ∧ f.grd ≠ 0 ∧ ((a.packed = true ∨
    b.packed = true))) :=
  ⟨⟨gst (thr0), t0, { fR with ty := 4, cond := 12 }, grpOf (thr0), thr0, by decide +kernel⟩,
   ⟨gst (thr0), t0, { fR with s3 := 7 }, grpOf (thr0), thr0, by decide +kernel⟩,
   ⟨gst (thr0), t0, fR, grpOf (thr0), thr0, by decide +kernel⟩,
   ⟨gst (thr0), t0, fR, grpOf (thr0), thr0, by decide +kernel⟩,
   ⟨gst (thr0), t0, fR, grpOf (thr0), thr0, by decide +kernel⟩,
   ⟨gst (thr0), t0, fR, grpOf (thr0), thr0, by decide +kernel⟩,
   ⟨gst (thr0), t0, fR, grpOf (thr0), thr0, by decide +kernel⟩,
   ⟨gst (thr0), t0, { fI with imm := 0x2DC }, grpOf (thr0), thr0, fmt 13, fmt 12, .sr, by decide +kernel⟩,
   ⟨gst (thr0), t0, { fI with imm := 0x10C, grd := 0b10000 }, grpOf (thr0), thr0, fmt 0, fmt 12, .rz, by decide +kernel⟩⟩

theorem witness_VectorMovesAndReductions_of_VectorReductions :
(∃ s : State, ∃ t : Thr, ∃ f : FmtR, ∃ g : Grp, ∃ th : Thread, Issues s t g th ∧ f.d.toNat < 32 ∧ f.s1.toNat < 32 ∧ f.s2 = 0 ∧ f.s3 = 0 ∧
    f.cond = 0 ∧ f.rsv = 0 ∧ GuardWf f.grd ∧ FreeV th f.s1 ∧ f.ty.toNat ≤ 1) ∧
(∃ s : State, ∃ t : Thr, ∃ f : FmtR, ∃ g : Grp, ∃ th : Thread, Issues s t g th ∧ f.d.toNat < 32 ∧ f.s1.toNat < 32 ∧ f.s2 = 0 ∧ f.s3 = 0 ∧
    f.cond = 0 ∧ f.rsv = 0 ∧ GuardWf f.grd ∧ FreeV th f.s1 ∧ f.ty = 4) ∧
(∃ s : State, ∃ t : Thr, ∃ f : FmtR, ∃ g : Grp, ∃ th : Thread, ∃ a, ∃ rest, Issues s t g th ∧ f.d.toNat < 32 ∧ f.s1.toNat < 32 ∧ f.s2 = 0
    ∧ f.s3 = 0 ∧ f.cond = 0 ∧ f.rsv = 0 ∧ GuardWf f.grd ∧ FreeV th f.s1 ∧ f.ty.toNat ∈ [0, 1, 4] ∧ activeLanes th f.grd f.s1 = a :: rest) ∧
(∃ s : State, ∃ t : Thr, ∃ f : FmtR, ∃ g : Grp, ∃ th : Thread, Issues s t g th ∧ f.d.toNat < 32 ∧ f.s1.toNat < 32 ∧ f.s2 = 0 ∧ f.s3 = 0 ∧
    f.cond = 0 ∧ f.rsv = 0 ∧ GuardWf f.grd ∧ FreeV th f.s1 ∧ f.ty.toNat ∈ [0, 1, 4] ∧ activeLanes th f.grd f.s1 = []) :=
  ⟨⟨gst (thr0), t0, fR, grpOf (thr0), thr0, by decide +kernel⟩,
   ⟨gst (thr0), t0, { fR with ty := 4 }, grpOf (thr0), thr0, by decide +kernel⟩,
   ⟨gst (thr0), t0, fR, grpOf (thr0), thr0, 0, List.replicate 31 0, by decide +kernel⟩,
   ⟨gst (thr0), t0, { fR with grd := 0b10000 }, grpOf (thr0), thr0, by decide +kernel⟩⟩

theorem witness_Loads :
(∃ s : State, ∃ t : Thr, ∃ f : FmtM, ∃ g : Grp, ∃ th : Thread, Issues s t g th ∧ f.space ≠ 3 ∧ f.size.toNat ≤ 3 ∧ f.rsv = 0 ∧ GuardAt th
    f.grd 0 ∧ FreeX th f.base ∧ (th.xr f.base.toNat + f.offset.signExtend 64).toNat % 2 ^ f.size.toNat ≠ 0) ∧
(∃ s : State, ∃ t : Thr, ∃ f : FmtM, ∃ g : Grp, ∃ th : Thread, ∃ tgt : Tgt, Issues s t g th ∧ f.space ≠ 3 ∧ f.size.toNat ≤ 3 ∧ f.rsv = 0 ∧
    GuardAt th f.grd 0 ∧ FreeX th f.base ∧ (th.xr f.base.toNat + f.offset.signExtend 64).toNat % 2 ^ f.size.toNat = 0 ∧ s.reach g t.idx
    f.space.toNat (th.xr f.base.toNat + f.offset.signExtend 64) (2 ^ f.size.toNat) .load = .ok tgt ∧ g.blocks t.idx th tgt (2 ^
    f.size.toNat) false = true) ∧
(∃ op ∈ ([(Instr.ld, false), (.ldAcq, true)] : List ((Thr → FmtM → Instr) × Bool)), ∃ s : State, ∃ t : Thr, ∃ f : FmtM, ∃ g : Grp, ∃ th :
    Thread, ∃ tgt : Tgt, Issues s t g th ∧ f.space ≠ 3 ∧ f.size.toNat ≤ 3 ∧ f.rsv = 0 ∧ GuardAt th f.grd 0 ∧ FreeX th f.base ∧ (th.xr
    f.base.toNat + f.offset.signExtend 64).toNat % 2 ^ f.size.toNat = 0 ∧ s.reach g t.idx f.space.toNat (th.xr f.base.toNat +
    f.offset.signExtend 64) (2 ^ f.size.toNat) .load = .ok tgt ∧ g.blocks t.idx th tgt (2 ^ f.size.toNat) false = false ∧ op.2 = true ∧
    th.mcopies ≠ []) ∧
(∃ op ∈ ([(Instr.ld, false), (.ldAcq, true)] : List ((Thr → FmtM → Instr) × Bool)), ∃ s : State, ∃ t : Thr, ∃ f : FmtM, ∃ g : Grp, ∃ th :
    Thread, ∃ tgt : Tgt, Issues s t g th ∧ f.space ≠ 3 ∧ f.size.toNat ≤ 3 ∧ f.rsv = 0 ∧ GuardAt th f.grd 0 ∧ FreeX th f.base ∧ (th.xr
    f.base.toNat + f.offset.signExtend 64).toNat % 2 ^ f.size.toNat = 0 ∧ s.reach g t.idx f.space.toNat (th.xr f.base.toNat +
    f.offset.signExtend 64) (2 ^ f.size.toNat) .load = .ok tgt ∧ g.blocks t.idx th tgt (2 ^ f.size.toNat) false = false ∧ ((op.2 = false ∨
    th.mcopies = []))) ∧
(∃ th : Thread, ∃ l : LoadOp, l ∈ th.loads ∧ l.acq = true) ∧
(∃ s : State, ∃ t : Thr, ∃ f : FmtM, ∃ g : Grp, ∃ th : Thread, Issues s t g th ∧ f.space ≠ 3 ∧ f.size.toNat ≤ 2 ∧ f.rsv = 0 ∧ f.d.toNat <
    32 ∧ GuardWf f.grd ∧ FreeX th f.base ∧ FreeD th f.grd f.d ∧ ((∀ i, i < 32 → active th f.grd i = false))) ∧
(∃ s : State, ∃ t : Thr, ∃ f : FmtM, ∃ g : Grp, ∃ th : Thread, ∃ tgt : Tgt, ∃ lo n : Nat, Issues s t g th ∧ f.space ≠ 3 ∧ f.size.toNat ≤ 2
    ∧ f.rsv = 0 ∧ f.d.toNat < 32 ∧ GuardWf f.grd ∧ FreeX th f.base ∧ FreeD th f.grd f.d ∧ ((∃ i, i < 32 ∧ active th f.grd i = true)) ∧
    (th.xr f.base.toNat + f.offset.signExtend 64).toNat % (32 * 2 ^ f.size.toNat) = 0 ∧ lo = ((List.range 32).filter (active th
    f.grd)).headD 0 ∧ n = (((List.range 32).filter (active th f.grd)).getLastD 0 + 1 - lo) * 2 ^ f.size.toNat ∧ s.reach g t.idx
    f.space.toNat (th.xr f.base.toNat + f.offset.signExtend 64 + BitVec.ofNat 64 (lo * 2 ^ f.size.toNat)) n .load = .ok tgt ∧ g.blocks
    t.idx th tgt n false = false) ∧
(∃ s : State, ∃ t : Thr, ∃ f : FmtG, ∃ g : Grp, ∃ th : Thread, ∃ ts : List (Nat × Tgt), Issues s t g th ∧ f.space ≠ 3 ∧ f.size.toNat ≤ 2 ∧
    f.rsv = 0 ∧ f.d.toNat < 32 ∧ f.x.toNat < 32 ∧ GuardWf f.grd ∧ FreeX th f.base ∧ FreeV th f.x ∧ FreeD th f.grd f.d ∧ s.reachLanes g
    t.idx f th .load ((List.range 32).filter (active th f.grd)) = (ts, none) ∧ ts = []) ∧
(∃ s : State, ∃ t : Thr, ∃ f : FmtG, ∃ g : Grp, ∃ th : Thread, ∃ ts : List (Nat × Tgt), Issues s t g th ∧ f.space ≠ 3 ∧ f.size.toNat ≤ 2 ∧
    f.rsv = 0 ∧ f.d.toNat < 32 ∧ f.x.toNat < 32 ∧ GuardWf f.grd ∧ FreeX th f.base ∧ FreeV th f.x ∧ FreeD th f.grd f.d ∧ s.reachLanes g
    t.idx f th .load ((List.range 32).filter (active th f.grd)) = (ts, none) ∧ ts ≠ [] ∧ (∀ p ∈ ts, g.blocks t.idx th p.2 (2 ^
    f.size.toNat) false = false)) ∧
(∃ s : State, ∃ t : Thr, ∃ g : Grp, ∃ th : Thread, ∃ l : LoadOp, s.grp t.gid = some g ∧ g.th t.idx = some th ∧ th.loads.find? (fun x =>
    x.id = l.id) = some l ∧ ((g.phase = .running ∨ g.phase = .saving)) ∧ (∀ p ∈ l.parts, p.ready s g = true) ∧ earlierHits th.loads l =
    false ∧ (∀ p ∈ l.parts, (s.readPart g p).2 = false) ∧ l.vec = false ∧ l.dest ≠ 0) :=
  ⟨⟨gst (thr0), t0, { fM with size := 3, space := 1, offset := 4 }, grpOf (thr0), thr0, by decide +kernel⟩,
   ⟨gst ({ thr0 with loads := [{ load0 with acq := true }] }), t0, { fM with size := 3, space := 1 }, grpOf
    ({ thr0 with loads := [{ load0 with acq := true }] }), { thr0 with loads := [{ load0 with acq := true }] }, .core (coreAddr 0 0), by
    decide +kernel⟩,
   ⟨(Instr.ldAcq, true), List.mem_cons_of_mem _ (List.mem_cons_self ..), gst ({ thr0 with mcopies := [mcopy0] }), t0,
    { fM with size := 3, space := 1 }, grpOf ({ thr0 with mcopies := [mcopy0] }), { thr0 with mcopies := [mcopy0] }, .core (coreAddr 0 0),
    by decide +kernel⟩,
   ⟨(Instr.ldAcq, true), List.mem_cons_of_mem _ (List.mem_cons_self ..), gst (thr0), t0, { fM with size := 3, space := 1 }, grpOf (thr0),
    thr0, .core (coreAddr 0 0), by decide +kernel⟩,
   ⟨{ thr0 with loads := [({ load0 with acq := true })] }, { load0 with acq := true }, by decide +kernel⟩,
   ⟨gst (thr0), t0, { fM with grd := 0b10011, d := 31 }, grpOf (thr0), thr0, by decide +kernel⟩,
   ⟨gst (thr0), t0, { fM with size := 2, space := 1, d := 31 }, grpOf (thr0), thr0, .core (coreAddr 0 0), 0, 128, by decide +kernel⟩,
   ⟨gst (thr0), t0, { fG with grd := 0b10011, d := 31, x := 31 }, grpOf (thr0), thr0, [], by decide +kernel⟩,
   ⟨gst (thr0), t0, { fG with size := 2, space := 1 }, grpOf (thr0), thr0, (((gst (thr0))).reachLanes ((grpOf (thr0))) 0
    (({ fG with size := 2, space := 1 })) ((thr0)) .load ((List.range 32).filter (active ((thr0))
    (({ fG with size := 2, space := 1 })).grd))).1, by decide +kernel⟩,
   ⟨gst ({ thr0 with loads := [({ load0 with parts := [⟨0, .core (coreAddr 0 0), 8, none⟩] })] }), t0, grpOf
    ({ thr0 with loads := [({ load0 with parts := [⟨0, .core (coreAddr 0 0), 8, none⟩] })] }),
    { thr0 with loads := [({ load0 with parts := [⟨0, .core (coreAddr 0 0), 8, none⟩] })] },
    { load0 with parts := [⟨0, .core (coreAddr 0 0), 8, none⟩] }, by decide +kernel⟩⟩

theorem witness_Stores :
(∃ op ∈ ([(Instr.st, false), (.stRel, true)] : List ((Thr → FmtM → Instr) × Bool)), ∃ s : State, ∃ t : Thr, ∃ f : FmtM, ∃ g : Grp, ∃ th :
    Thread, ∃ tgt : Tgt, Issues s t g th ∧ f.space ≠ 3 ∧ f.size.toNat ≤ 3 ∧ f.sx = false ∧ f.rsv = 0 ∧ GuardAt th f.grd 0 ∧ FreeX th
    f.base ∧ FreeX th f.d ∧ (th.xr f.base.toNat + f.offset.signExtend 64).toNat % 2 ^ f.size.toNat = 0 ∧ s.reach g t.idx f.space.toNat
    (th.xr f.base.toNat + f.offset.signExtend 64) (2 ^ f.size.toNat) .store = .ok tgt ∧ g.blocks t.idx th tgt (2 ^ f.size.toNat) true =
    false ∧ op.2 = true ∧ ((th.loads ≠ [] ∨ th.mcopies ≠ []))) ∧
(∃ op ∈ ([(Instr.st, false), (.stRel, true)] : List ((Thr → FmtM → Instr) × Bool)), ∃ s : State, ∃ t : Thr, ∃ f : FmtM, ∃ g : Grp, ∃ th :
    Thread, ∃ tgt : Tgt, ∃ a, Issues s t g th ∧ f.space ≠ 3 ∧ f.size.toNat ≤ 3 ∧ f.sx = false ∧ f.rsv = 0 ∧ GuardAt th f.grd 0 ∧ FreeX th
    f.base ∧ FreeX th f.d ∧ (th.xr f.base.toNat + f.offset.signExtend 64).toNat % 2 ^ f.size.toNat = 0 ∧ s.reach g t.idx f.space.toNat
    (th.xr f.base.toNat + f.offset.signExtend 64) (2 ^ f.size.toNat) .store = .ok tgt ∧ g.blocks t.idx th tgt (2 ^ f.size.toNat) true =
    false ∧ (op.2 = false ∨ (th.loads = [] ∧ th.mcopies = [])) ∧ ((tgt = .core a ∨ tgt = .priv a)) ∧ s.mem.wf = true) ∧
(∃ op ∈ ([(Instr.st, false), (.stRel, true)] : List ((Thr → FmtM → Instr) × Bool)), ∃ s : State, ∃ t : Thr, ∃ f : FmtM, ∃ g : Grp, ∃ th :
    Thread, ∃ tgt : Tgt, ∃ va, ∃ a, Issues s t g th ∧ f.space ≠ 3 ∧ f.size.toNat ≤ 3 ∧ f.sx = false ∧ f.rsv = 0 ∧ GuardAt th f.grd 0 ∧
    FreeX th f.base ∧ FreeX th f.d ∧ (th.xr f.base.toNat + f.offset.signExtend 64).toNat % 2 ^ f.size.toNat = 0 ∧ s.reach g t.idx
    f.space.toNat (th.xr f.base.toNat + f.offset.signExtend 64) (2 ^ f.size.toNat) .store = .ok tgt ∧ g.blocks t.idx th tgt (2 ^
    f.size.toNat) true = false ∧ (op.2 = false ∨ (th.loads = [] ∧ th.mcopies = [])) ∧ tgt = .mem va a ∧
    ({ g with staged := stage g.staged va (leBytes (2 ^ f.size.toNat) (th.xr f.d.toNat).toNat) } : Grp).outside (s.recOf g) ≤ fieldAt
    (s.recOf g) 64 4) ∧
(∃ op ∈ ([(Instr.st, false), (.stRel, true)] : List ((Thr → FmtM → Instr) × Bool)), ∃ s : State, ∃ t : Thr, ∃ f : FmtM, ∃ g : Grp, ∃ th :
    Thread, ∃ tgt : Tgt, ∃ a, Issues s t g th ∧ f.space ≠ 3 ∧ f.size.toNat ≤ 3 ∧ f.sx = false ∧ f.rsv = 0 ∧ GuardAt th f.grd 0 ∧ FreeX th
    f.base ∧ FreeX th f.d ∧ (th.xr f.base.toNat + f.offset.signExtend 64).toNat % 2 ^ f.size.toNat = 0 ∧ s.reach g t.idx f.space.toNat
    (th.xr f.base.toNat + f.offset.signExtend 64) (2 ^ f.size.toNat) .store = .ok tgt ∧ g.blocks t.idx th tgt (2 ^ f.size.toNat) true =
    false ∧ (op.2 = false ∨ (th.loads = [] ∧ th.mcopies = [])) ∧ tgt = .commons a ∧ th.windows ≠ 0) ∧
(∃ s : State, ∃ t : Thr, ∃ f : FmtM, ∃ g : Grp, ∃ th : Thread, Issues s t g th ∧ f.space ≠ 3 ∧ f.size.toNat ≤ 2 ∧ f.sx = false ∧ f.rsv = 0
    ∧ f.d.toNat < 32 ∧ GuardWf f.grd ∧ FreeX th f.base ∧ FreeV th f.d ∧ ((∀ i, i < 32 → active th f.grd i = false))) ∧
(∃ s : State, ∃ t : Thr, ∃ f : FmtM, ∃ g : Grp, ∃ th : Thread, ∃ lo n a : Nat, Issues s t g th ∧ f.space ≠ 3 ∧ f.size.toNat ≤ 2 ∧ f.sx =
    false ∧ f.rsv = 0 ∧ f.d.toNat < 32 ∧ GuardWf f.grd ∧ FreeX th f.base ∧ FreeV th f.d ∧ ((∃ i, i < 32 ∧ active th f.grd i = true)) ∧
    (th.xr f.base.toNat + f.offset.signExtend 64).toNat % (32 * 2 ^ f.size.toNat) = 0 ∧ lo = ((List.range 32).filter (active th
    f.grd)).headD 0 ∧ n = (((List.range 32).filter (active th f.grd)).getLastD 0 + 1 - lo) * 2 ^ f.size.toNat ∧ s.reach g t.idx
    f.space.toNat (th.xr f.base.toNat + f.offset.signExtend 64 + BitVec.ofNat 64 (lo * 2 ^ f.size.toNat)) n .store = .ok (.core a) ∧
    g.blocks t.idx th (.core a) n true = false ∧ s.mem.wf = true) ∧
(∃ s : State, ∃ t : Thr, ∃ f : FmtG, ∃ g : Grp, ∃ th : Thread, ∃ ts : List (Nat × Tgt), Issues s t g th ∧ f.space ≠ 3 ∧ f.size.toNat ≤ 2 ∧
    f.sx = false ∧ f.rsv = 0 ∧ f.d.toNat < 32 ∧ f.x.toNat < 32 ∧ GuardWf f.grd ∧ FreeX th f.base ∧ FreeV th f.x ∧ FreeV th f.d ∧
    s.reachLanes g t.idx f th .store ((List.range 32).filter (active th f.grd)) = (ts, none) ∧ (∀ p ∈ ts, g.blocks t.idx th p.2 (2 ^
    f.size.toNat) true = false) ∧ ((∀ p ∈ ts, ∃ a, p.2 = .core a ∨ p.2 = .priv a))) :=
  ⟨⟨(Instr.stRel, true), List.mem_cons_of_mem _ (List.mem_cons_self ..), gst ({ thr0 with mcopies := [mcopy0] }), t0,
    { fM with size := 3, space := 1 }, grpOf ({ thr0 with mcopies := [mcopy0] }), { thr0 with mcopies := [mcopy0] }, .core (coreAddr 0 0),
    by decide +kernel⟩,
   ⟨(Instr.stRel, true), List.mem_cons_of_mem _ (List.mem_cons_self ..), gst (thr0), t0, { fM with size := 3, space := 1 }, grpOf (thr0),
    thr0, .core (coreAddr 0 0), coreAddr 0 0, by decide +kernel⟩,
   ⟨(Instr.stRel, true), List.mem_cons_of_mem _ (List.mem_cons_self ..), fgst fnM (grpOf (thr0)), t0, { fM with size := 3 }, grpOf (thr0),
    thr0, .mem 0 0, 0, 0, by decide +kernel⟩,
   ⟨(Instr.stRel, true), List.mem_cons_of_mem _ (List.mem_cons_self ..), cmnG (grpOf ({ thr0 with windows := 1 })), t0,
    { fM with size := 3 }, grpOf ({ thr0 with windows := 1 }), { thr0 with windows := 1 }, .commons commonsBase, commonsBase, by decide +kernel⟩,
   ⟨gst (thr0), t0, { fM with grd := 0b10011, d := 31 }, grpOf (thr0), thr0, by decide +kernel⟩,
   ⟨gst ({ thr0 with p := [(3, 0x80000001)] }), t0, { fM with size := 2, space := 1, d := 31, grd := 0b10011 }, grpOf
    ({ thr0 with p := [(3, 0x80000001)] }), { thr0 with p := [(3, 0x80000001)] }, 0, 128, coreAddr 0 0, by decide +kernel⟩,
   ⟨gst ({ thr0 with p := [(3, 1)] }), t0, { fG with size := 2, space := 1, grd := 0b10011 }, grpOf ({ thr0 with p := [(3, 1)] }),
    { thr0 with p := [(3, 1)] }, [(0, .core (coreAddr 0 0))], by decide +kernel, by decide +kernel, by decide +kernel, by decide +kernel,
    by decide +kernel, by decide +kernel, by decide +kernel, by decide +kernel, by decide +kernel, by decide +kernel, by decide +kernel,
    by decide +kernel, by decide +kernel, fun p h => ⟨coreAddr 0 0, by rw [List.mem_singleton.mp h]; exact .inl rfl⟩⟩⟩

theorem witness_Copies :
(∃ s : State, ∃ t : Thr, ∃ f : FmtR, ∃ g : Grp, ∃ th : Thread, Issues s t g th ∧ f.ty.toNat ≤ 1 ∧ f.s3 = 0 ∧ f.cond = 0 ∧ f.rsv = 0 ∧
    GuardAt th f.grd 0 ∧ FreeX th f.d ∧ FreeX th f.s1 ∧ FreeX th f.s2 ∧ (((th.xr f.d.toNat).toNat % 16 ≠ 0 ∨ (th.xr f.s1.toNat).toNat % 16
    ≠ 0 ∨ (th.xr f.s2.toNat).toNat % 16 ≠ 0))) ∧
(∃ s : State, ∃ t : Thr, ∃ f : FmtR, ∃ g : Grp, ∃ th : Thread, Issues s t g th ∧ f.ty.toNat ≤ 1 ∧ f.s3 = 0 ∧ f.cond = 0 ∧ f.rsv = 0 ∧
    GuardAt th f.grd 0 ∧ FreeX th f.d ∧ FreeX th f.s1 ∧ FreeX th f.s2 ∧ (th.xr f.d.toNat).toNat % 16 = 0 ∧ (th.xr f.s1.toNat).toNat % 16 =
    0 ∧ (th.xr f.s2.toNat).toNat % 16 = 0 ∧ 524288 < (th.xr f.s2.toNat).toNat) ∧
(∃ s : State, ∃ t : Thr, ∃ f : FmtR, ∃ g : Grp, ∃ th : Thread, Issues s t g th ∧ f.ty.toNat ≤ 1 ∧ f.s3 = 0 ∧ f.cond = 0 ∧ f.rsv = 0 ∧
    GuardAt th f.grd 0 ∧ FreeX th f.d ∧ FreeX th f.s1 ∧ FreeX th f.s2 ∧ (th.xr f.d.toNat).toNat % 16 = 0 ∧ (th.xr f.s1.toNat).toNat % 16 =
    0 ∧ (th.xr f.s2.toNat).toNat % 16 = 0 ∧ th.xr f.s2.toNat = 0) ∧
(∃ s : State, ∃ t : Thr, ∃ f : FmtR, ∃ g : Grp, ∃ th : Thread, Issues s t g th ∧ f.ty.toNat ≤ 1 ∧ f.s3 = 0 ∧ f.cond = 0 ∧ f.rsv = 0 ∧
    GuardAt th f.grd 0 ∧ FreeX th f.d ∧ FreeX th f.s1 ∧ FreeX th f.s2 ∧ (th.xr f.d.toNat).toNat % 16 = 0 ∧ (th.xr f.s1.toNat).toNat % 16 =
    0 ∧ (th.xr f.s2.toNat).toNat % 16 = 0 ∧ 0 < (th.xr f.s2.toNat).toNat ∧ (th.xr f.s2.toNat).toNat ≤ 524288 ∧ 16 ≤ th.mcopies.length) ∧
(∃ s : State, ∃ t : Thr, ∃ f : FmtR, ∃ g : Grp, ∃ th : Thread, ∃ ctgt : Tgt, ∃ ps : List LoadPart, Issues s t g th ∧ f.ty.toNat ≤ 1 ∧ f.s3
    = 0 ∧ f.cond = 0 ∧ f.rsv = 0 ∧ GuardAt th f.grd 0 ∧ FreeX th f.d ∧ FreeX th f.s1 ∧ FreeX th f.s2 ∧ (th.xr f.d.toNat).toNat % 16 = 0 ∧
    (th.xr f.s1.toNat).toNat % 16 = 0 ∧ (th.xr f.s2.toNat).toNat % 16 = 0 ∧ 0 < (th.xr f.s2.toNat).toNat ∧ (th.xr f.s2.toNat).toNat ≤
    524288 ∧ th.mcopies.length < 16 ∧ (s.reach g t.idx 1 (th.xr f.d.toNat) (th.xr f.s2.toNat).toNat (if f.ty = 1 then .load else .store) =
    .ok ctgt) ∧ (s.reachRange g t.idx (th.xr f.s1.toNat) (if f.ty = 1 then .store else .load) (cut (th.xr f.s1.toNat).toNat (th.xr
    f.s2.toNat).toNat 4096) = (ps, none)) ∧ g.blocks t.idx th ctgt (th.xr f.s2.toNat).toNat (f.ty != 1) = false ∧ ((∀ p ∈ ps, g.blocks
    t.idx th p.tgt p.size (f.ty == 1) = false ∧ isCommons p.tgt = false)) ∧ f.ty = 1) ∧
(∃ s : State, ∃ t : Thr, ∃ g : Grp, ∃ th : Thread, ∃ m : MCopyOp, s.grp t.gid = some g ∧ g.th t.idx = some th ∧ th.mcopies.find? (fun x =>
    x.id = m.id) = some m ∧ ((g.phase = .running ∨ g.phase = .saving)) ∧ ((m.out = true ∨ ∀ p ∈ m.parts, p.ready s g = true))) ∧
(∃ s : State, ∃ t : Thr, ∃ g : Grp, ∃ th : Thread, ∃ m : MCopyOp, ∃ a n : Nat, s.grp t.gid = some g ∧ g.th t.idx = some th ∧ m.out = false
    ∧ m.parts = [⟨0, .priv a, n, none⟩] ∧ s.mem.wf = true) ∧
(∃ s : State, ∃ t : Thr, ∃ f : FmtI, ∃ g : Grp, ∃ th : Thread, Issues s t g th ∧ f.d = 0 ∧ f.s1 = 0 ∧ f.ty = 0 ∧ f.rsv = 0 ∧ f.imm = 0 ∧
    GuardAt th f.grd 0 ∧ th.mcopies = []) ∧
(∃ s : State, ∃ t : Thr, ∃ f : FmtI, ∃ g : Grp, ∃ th : Thread, Issues s t g th ∧ f.d = 0 ∧ f.s1 = 0 ∧ f.ty = 0 ∧ f.rsv = 0 ∧ f.imm = 0 ∧
    GuardAt th f.grd 0 ∧ th.mcopies ≠ []) ∧
(∃ s : State, ∃ t : Thr, ∃ f : FmtS, ∃ g : Grp, ∃ th : Thread, Issues s t g th ∧ f.d = 0 ∧ f.s1 = 0 ∧ f.s2 = 0 ∧ f.s3 = 0 ∧ f.scope = 0 ∧
    f.ty = 0 ∧ f.rsv = 0 ∧ f.id = 0 ∧ GuardAt th f.grd 0 ∧ th.loads = [] ∧ th.mcopies = []) ∧
(∃ s : State, ∃ t : Thr, ∃ f : FmtS, ∃ g : Grp, ∃ th : Thread, Issues s t g th ∧ f.d = 0 ∧ f.s1 = 0 ∧ f.s2 = 0 ∧ f.s3 = 0 ∧ f.scope = 0 ∧
    f.ty = 0 ∧ f.rsv = 0 ∧ f.id = 0 ∧ GuardAt th f.grd 0 ∧ (th.loads ≠ [] ∨ th.mcopies ≠ [])) :=
  ⟨⟨gst ({ thr0 with x := [(1, 8)] }), t0, { fR with ty := 1, d := 1, s1 := 2, s2 := 3 }, grpOf ({ thr0 with x := [(1, 8)] }),
    { thr0 with x := [(1, 8)] }, by decide +kernel⟩,
   ⟨gst ({ thr0 with x := [(3, 524304)] }), t0, { fR with ty := 1, d := 1, s1 := 2, s2 := 3 }, grpOf ({ thr0 with x := [(3, 524304)] }),
    { thr0 with x := [(3, 524304)] }, by decide +kernel⟩,
   ⟨gst (thr0), t0, { fR with ty := 1, d := 1, s1 := 2, s2 := 3 }, grpOf (thr0), thr0, by decide +kernel⟩,
   ⟨gst ({ thr0 with x := [(3, 16)], mcopies := List.replicate 16 mcopy0 }), t0, { fR with ty := 1, d := 1, s1 := 2, s2 := 3 }, grpOf
    ({ thr0 with x := [(3, 16)], mcopies := List.replicate 16 mcopy0 }),
    { thr0 with x := [(3, 16)], mcopies := List.replicate 16 mcopy0 }, by decide +kernel⟩,
   ⟨fgst fnM (grpOf ({ thr0 with x := [(3, 16)] })), t0, { fR with ty := 1, d := 1, s1 := 2, s2 := 3 }, grpOf ({ thr0 with x := [(3, 16)] }),
    { thr0 with x := [(3, 16)] }, .core (coreAddr 0 0), (((fgst fnM (grpOf ({ thr0 with x := [(3, 16)] })))).reachRange ((grpOf
    ({ thr0 with x := [(3, 16)] }))) 0 0 .store (cut 0 16 4096)).1, by decide +kernel⟩,
   ⟨gst ({ thr0 with mcopies := [mcopy0] }), t0, grpOf ({ thr0 with mcopies := [mcopy0] }), { thr0 with mcopies := [mcopy0] }, mcopy0, by
    decide +kernel⟩,
   ⟨gst ({ thr0 with mcopies := [({ mcopy0 with out := false, parts := [⟨0, .priv 0, 16, none⟩] })] }), t0, grpOf
    ({ thr0 with mcopies := [({ mcopy0 with out := false, parts := [⟨0, .priv 0, 16, none⟩] })] }),
    { thr0 with mcopies := [({ mcopy0 with out := false, parts := [⟨0, .priv 0, 16, none⟩] })] },
    { mcopy0 with out := false, parts := [⟨0, .priv 0, 16, none⟩] }, 0, 16, by decide +kernel⟩,
   ⟨gst (thr0), t0, fI, grpOf (thr0), thr0, by decide +kernel⟩,
   ⟨gst ({ thr0 with mcopies := [mcopy0] }), t0, fI, grpOf ({ thr0 with mcopies := [mcopy0] }), { thr0 with mcopies := [mcopy0] }, by decide +kernel⟩,
   ⟨gst (thr0), t0, fS, grpOf (thr0), thr0, by decide +kernel⟩,
   ⟨gst ({ thr0 with loads := [load0] }), t0, fS, grpOf ({ thr0 with loads := [load0] }), { thr0 with loads := [load0] }, by decide +kernel⟩⟩

theorem witness_Atomics :
(∃ op ∈ ([(Instr.atomAdd, false, fun _ w x a _ => some ((x + a) % 2 ^ (8 * w))), (.atomFadd, true, fun _ w x a _ => some ((x + a) % 2 ^ (8
    * w))), (.atomSwap, true, fun _ _ _ a _ => some a), (.atomCas, true, fun _ _ x a c => if x = c then some a else none), (.atomMin,
    true, fun sg w x a _ => some (if (if sg then (BitVec.ofNat (8 * w) x).toInt ≤ (BitVec.ofNat (8 * w) a).toInt else x ≤ a) then x else
    a)), (.atomMax, true, fun sg w x a _ => some (if (if sg then (BitVec.ofNat (8 * w) x).toInt ≤ (BitVec.ofNat (8 * w) a).toInt else x ≤
    a) then a else x))] : List ((Thr → FmtA → Instr) × Bool × (Bool → Nat → Nat → Nat → Nat → Option Nat))), ∃ s : State, ∃ t : Thr, ∃ f :
    FmtA, ∃ g : Grp, ∃ th : Thread, ∃ w p x : Nat, Issues s t g th ∧ f.ty.toNat < 4 ∧ f.space ≠ 3 ∧ f.rsv = 0 ∧ ((op.1 t f ≠ .atomCas t f
    → f.s2 = 0)) ∧ ((op.2.1 = false → f.d = 0)) ∧ GuardAt th f.grd 0 ∧ FreeX th f.base ∧ FreeX th f.s1 ∧ FreeX th f.s2 ∧ (w = (if
    f.ty.toNat < 2 then 4 else 8)) ∧ (th.xr f.base.toNat).toNat % w = 0 ∧ s.reach g t.idx f.space.toNat (th.xr f.base.toNat) w .atomic =
    .ok (.core p) ∧ g.blocks t.idx th (.core p) w true = false ∧ s.mem.wf = true ∧ x = s.readNat p w ∧ op.2.1 = true) ∧
(∃ op ∈ ([(Instr.atomAdd, false, fun _ w x a _ => some ((x + a) % 2 ^ (8 * w))), (.atomFadd, true, fun _ w x a _ => some ((x + a) % 2 ^ (8
    * w))), (.atomSwap, true, fun _ _ _ a _ => some a), (.atomCas, true, fun _ _ x a c => if x = c then some a else none), (.atomMin,
    true, fun sg w x a _ => some (if (if sg then (BitVec.ofNat (8 * w) x).toInt ≤ (BitVec.ofNat (8 * w) a).toInt else x ≤ a) then x else
    a)), (.atomMax, true, fun sg w x a _ => some (if (if sg then (BitVec.ofNat (8 * w) x).toInt ≤ (BitVec.ofNat (8 * w) a).toInt else x ≤
    a) then a else x))] : List ((Thr → FmtA → Instr) × Bool × (Bool → Nat → Nat → Nat → Nat → Option Nat))), ∃ s : State, ∃ t : Thr, ∃ f :
    FmtA, ∃ g : Grp, ∃ th : Thread, ∃ w p x : Nat, Issues s t g th ∧ f.ty.toNat < 4 ∧ f.space ≠ 3 ∧ f.rsv = 0 ∧ ((op.1 t f ≠ .atomCas t f
    → f.s2 = 0)) ∧ ((op.2.1 = false → f.d = 0)) ∧ GuardAt th f.grd 0 ∧ FreeX th f.base ∧ FreeX th f.s1 ∧ FreeX th f.s2 ∧ (w = (if
    f.ty.toNat < 2 then 4 else 8)) ∧ (th.xr f.base.toNat).toNat % w = 0 ∧ s.reach g t.idx f.space.toNat (th.xr f.base.toNat) w .atomic =
    .ok (.core p) ∧ g.blocks t.idx th (.core p) w true = false ∧ s.mem.wf = true ∧ x = s.readNat p w ∧ op.2.1 = false) ∧
(∃ s : State, ∃ t : Thr, ∃ f : FmtA, ∃ g : Grp, ∃ th : Thread, ∃ tgt : Tgt, Issues s t g th ∧ 4 ≤ f.ty.toNat ∧ f.ty.toNat ≤ 6 ∧ f.d = 0 ∧
    f.s2 = 0 ∧ f.space ≠ 3 ∧ f.rsv = 0 ∧ GuardAt th f.grd 0 ∧ FreeX th f.base ∧ FreeX th f.s1 ∧ ((th.xr f.base.toNat).toNat % (if f.ty = 4
    then 4 else 2) = 0) ∧ (s.reach g t.idx f.space.toNat (th.xr f.base.toNat) (if f.ty = 4 then 4 else 2) .atomic = .ok tgt) ∧ (g.blocks
    t.idx th tgt (if f.ty = 4 then 4 else 2) true = false) ∧ g.xaClash tgt f.ty.toNat = true) ∧
(∃ s : State, ∃ t : Thr, ∃ f : FmtA, ∃ g : Grp, ∃ th : Thread, ∃ tgt : Tgt, ∃ o : XaOpen, Issues s t g th ∧ 4 ≤ f.ty.toNat ∧ f.ty.toNat ≤
    6 ∧ f.d = 0 ∧ f.s2 = 0 ∧ f.space ≠ 3 ∧ f.rsv = 0 ∧ GuardAt th f.grd 0 ∧ FreeX th f.base ∧ FreeX th f.s1 ∧ ((th.xr f.base.toNat).toNat
    % (if f.ty = 4 then 4 else 2) = 0) ∧ (s.reach g t.idx f.space.toNat (th.xr f.base.toNat) (if f.ty = 4 then 4 else 2) .atomic = .ok
    tgt) ∧ (g.blocks t.idx th tgt (if f.ty = 4 then 4 else 2) true = false) ∧ g.xaClash tgt f.ty.toNat = false ∧ g.xas.find (keyNat
    tgt.key) = some o) :=
  ⟨⟨(.atomCas, true, fun _ _ x a c => if x = c then some a else none), List.mem_cons_of_mem _ (List.mem_cons_of_mem _ (List.mem_cons_of_mem _
    (List.mem_cons_self ..))), gst (thr0), t0, { fA with ty := 3, space := 1, d := 1, s2 := 1 }, grpOf (thr0), thr0, 8, coreAddr 0 0, 0,
    by decide +kernel⟩,
   ⟨(Instr.atomAdd, false, fun _ w x a _ => some ((x + a) % 2 ^ (8 * w))), List.mem_cons_self .., gst (thr0), t0,
    { fA with ty := 3, space := 1 }, grpOf (thr0), thr0, 8, coreAddr 0 0, 0, by decide +kernel⟩,
   ⟨gstOf ({ grpOf (thr0) with xas := [(keyNat (0, coreAddr 0 0), (⟨.core (coreAddr 0 0), 5, Xa.zero, 0, false⟩))] }), t0,
    { fA with ty := 6, space := 1 },
    { grpOf (thr0) with xas := [(keyNat (0, coreAddr 0 0), (⟨.core (coreAddr 0 0), 5, Xa.zero, 0, false⟩))] }, thr0, .core (coreAddr 0 0),
    by decide +kernel⟩,
   ⟨gstOf ({ grpOf (thr0) with xas := [(keyNat (0, coreAddr 0 0), (⟨.core (coreAddr 0 0), 4, Xa.zero, 0, false⟩))] }), t0,
    { fA with ty := 4, space := 1 },
    { grpOf (thr0) with xas := [(keyNat (0, coreAddr 0 0), (⟨.core (coreAddr 0 0), 4, Xa.zero, 0, false⟩))] }, thr0, .core (coreAddr 0 0),
    ⟨.core (coreAddr 0 0), 4, Xa.zero, 0, false⟩, by decide +kernel⟩⟩

theorem witness_Hurdles_of_HurdleArrivals :
(∃ s : State, ∃ t : Thr, ∃ f : FmtS, ∃ g : Grp, ∃ th : Thread, ∃ k : Nat, Issues s t g th ∧ HurdleFields f ∧ GuardAt th f.grd 0 ∧ FreeX th
    f.s2 ∧ k = hurdleAt g t f.scope f.id ∧ ((f.scope = 3 ∧ (4 ≤ f.id.toNat ∨ g.prog.usesTeam = false)))) ∧
(∃ s : State, ∃ t : Thr, ∃ f : FmtS, ∃ g : Grp, ∃ th : Thread, ∃ k : Nat, Issues s t g th ∧ HurdleFields f ∧ GuardAt th f.grd 0 ∧ FreeX th
    f.s2 ∧ k = hurdleAt g t f.scope f.id ∧ (¬(f.scope = 3 ∧ (4 ≤ f.id.toNat ∨ g.prog.usesTeam = false))) ∧ ((th.loads ≠ [] ∨ th.mcopies ≠
    []))) ∧
(∃ s : State, ∃ t : Thr, ∃ f : FmtS, ∃ g : Grp, ∃ th : Thread, ∃ k : Nat, Issues s t g th ∧ HurdleFields f ∧ GuardAt th f.grd 0 ∧ FreeX th
    f.s2 ∧ k = hurdleAt g t f.scope f.id ∧ AtHurdle g th f.scope.toNat f.id.toNat ∧ t.idx ∈ (g.round k).arrived) ∧
(∃ op ∈ ([(Instr.hurdle, true), (.harrive, false)] : List ((Thr → FmtS → Instr) × Bool)), ∃ s : State, ∃ t : Thr, ∃ f : FmtS, ∃ g : Grp, ∃
    th : Thread, ∃ k : Nat, Issues s t g th ∧ HurdleFields f ∧ GuardAt th f.grd 0 ∧ FreeX th f.s2 ∧ k = hurdleAt g t f.scope f.id ∧
    AtHurdle g th f.scope.toNat f.id.toNat ∧ t.idx ∉ (g.round k).arrived ∧ op.2 = true) ∧
(∃ op ∈ ([(Instr.hurdle, true), (.harrive, false)] : List ((Thr → FmtS → Instr) × Bool)), ∃ s : State, ∃ t : Thr, ∃ f : FmtS, ∃ g : Grp, ∃
    th : Thread, ∃ k : Nat, Issues s t g th ∧ HurdleFields f ∧ GuardAt th f.grd 0 ∧ FreeX th f.s2 ∧ k = hurdleAt g t f.scope f.id ∧
    AtHurdle g th f.scope.toNat f.id.toNat ∧ t.idx ∉ (g.round k).arrived ∧ op.2 = false) ∧
(∃ s : State, ∃ t : Thr, ∃ f : FmtS, ∃ g : Grp, ∃ th : Thread, ∃ k : Nat, Issues s t g th ∧ f.grd = 0 ∧ 2 ≤ f.scope.toNat ∧ f.ty.toNat ∈
    [0, 4, 5, 6] ∧ f.d.toNat < 32 ∧ f.s1.toNat < 32 ∧ f.s3 = 0 ∧ f.rsv = 0 ∧ ((f.scope = 3 ∨ f.s2 = 0)) ∧ FreeX th f.s2 ∧ FreeV th f.s1 ∧
    k = hurdleAt g t f.scope f.id ∧ AtHurdle g th f.scope.toNat f.id.toNat ∧ t.idx ∉ (g.round k).arrived ∧ (g.round k).arrived = []) ∧
(∃ s : State, ∃ t : Thr, ∃ f : FmtS, ∃ g : Grp, ∃ th : Thread, ∃ k : Nat, ∃ ps : List LoadPart, Issues s t g th ∧ GuardAt th f.grd 0 ∧
    f.scope = 0 ∧ f.ty.toNat ∈ [0, 4, 5, 6] ∧ f.rsv = 0 ∧ FreeX th f.d ∧ FreeX th f.s1 ∧ FreeX th f.s2 ∧ FreeX th f.s3 ∧ k = hurdleAt g t
    3 f.id ∧ AtHurdle g th 3 f.id.toNat ∧ t.idx ∉ (g.round k).arrived ∧ g.collect = none ∧ (th.xr f.s3.toNat).toNat ≤ 16777216 ∧ ((th.xr
    f.s3.toNat).toNat % (if f.ty.toNat ≤ 4 then 4 else 2) = 0) ∧ ((th.xr f.s3.toNat = 0 ∨ (privVa ≤ (th.xr f.d.toNat).toNat ∧ (th.xr
    f.d.toNat).toNat + (th.xr f.s3.toNat).toNat ≤ privVa + g.prog.priv))) ∧ s.reachRange g t.idx (th.xr f.s1.toNat) .load (cut (th.xr
    f.s1.toNat).toNat (th.xr f.s3.toNat).toNat 4096) = (ps, none)) :=
  ⟨⟨gst (thr0), t0, { fS with scope := 3, id := 4 }, grpOf (thr0), thr0, hurdleAt ((grpOf (thr0))) t0
    (({ fS with scope := 3, id := 4 })).scope (({ fS with scope := 3, id := 4 })).id, by decide +kernel⟩,
   ⟨gst ({ thr0 with loads := [load0] }), t0, fS, grpOf ({ thr0 with loads := [load0] }), { thr0 with loads := [load0] }, hurdleAt ((grpOf
    ({ thr0 with loads := [load0] }))) t0 ((fS)).scope ((fS)).id, by decide +kernel⟩,
   ⟨gstOf ({ grpOf (thr0) with rounds := [(65551, { Round.empty with arrived := [0] })] }), t0, { fS with scope := 1, id := 15 },
    { grpOf (thr0) with rounds := [(65551, { Round.empty with arrived := [0] })] }, thr0, hurdleAt
    (({ grpOf (thr0) with rounds := [(65551, { Round.empty with arrived := [0] })] })) t0 (({ fS with scope := 1, id := 15 })).scope
    (({ fS with scope := 1, id := 15 })).id, by decide +kernel⟩,
   ⟨(Instr.hurdle, true), List.mem_cons_self .., gst (thr0), t0, { fS with scope := 3, id := 3, s2 := 1 }, grpOf (thr0), thr0, hurdleAt
    ((grpOf (thr0))) t0 (({ fS with scope := 3, id := 3, s2 := 1 })).scope (({ fS with scope := 3, id := 3, s2 := 1 })).id, by decide +kernel⟩,
   ⟨(Instr.harrive, false), List.mem_cons_of_mem _ (List.mem_cons_self ..), gst (thr0), t0, fS, grpOf (thr0), thr0, hurdleAt ((grpOf (thr0)))
    t0 ((fS)).scope ((fS)).id, by decide +kernel⟩,
   ⟨gst (thr0), t0, { fS with scope := 2, d := 31, s1 := 31, ty := 6 }, grpOf (thr0), thr0, hurdleAt ((grpOf (thr0))) t0
    (({ fS with scope := 2, d := 31, s1 := 31, ty := 6 })).scope (({ fS with scope := 2, d := 31, s1 := 31, ty := 6 })).id, by decide +kernel⟩,
   ⟨fgst (Fn.empty.putN PDK_IMAGE_SIZE 1) (grpOf ({ thr0 with x := [(1, 0xE00000000000), (2, 4), (3, 0xF00000000000)] })), t0,
    { fS with d := 1, s1 := 3, s3 := 2, ty := 4, id := 3 }, grpOf ({ thr0 with x := [(1, 0xE00000000000), (2, 4), (3, 0xF00000000000)] }),
    { thr0 with x := [(1, 0xE00000000000), (2, 4), (3, 0xF00000000000)] }, hurdleAt ((grpOf
    ({ thr0 with x := [(1, 0xE00000000000), (2, 4), (3, 0xF00000000000)] }))) t0 3 3, (((fgst (Fn.empty.putN PDK_IMAGE_SIZE 1) (grpOf
    ({ thr0 with x := [(1, 0xE00000000000), (2, 4), (3, 0xF00000000000)] })))).reachRange ((grpOf
    ({ thr0 with x := [(1, 0xE00000000000), (2, 4), (3, 0xF00000000000)] }))) 0 0xF00000000000 .load (cut 0xF00000000000 4 4096)).1, by
    decide +kernel⟩⟩

theorem witness_Hurdles_of_HurdleOpenings :
(∃ s : State, ∃ t : Thr, ∃ f : FmtS, ∃ g : Grp, ∃ th : Thread, ∃ k : Nat, Issues s t g th ∧ HurdleFields f ∧ GuardAt th f.grd 0 ∧ FreeX th
    f.s2 ∧ k = hurdleAt g t f.scope f.id ∧ AtHurdle g th f.scope.toNat f.id.toNat ∧ th.arrivals.find k = none) ∧
(∃ s : State, ∃ t : Thr, ∃ f : FmtS, ∃ g : Grp, ∃ th : Thread, ∃ k : Nat, ∃ n, Issues s t g th ∧ HurdleFields f ∧ GuardAt th f.grd 0 ∧
    FreeX th f.s2 ∧ k = hurdleAt g t f.scope f.id ∧ AtHurdle g th f.scope.toNat f.id.toNat ∧ th.arrivals.find k = some n ∧ n < (g.round
    k).number) ∧
(∃ s : State, ∃ t : Thr, ∃ f : FmtS, ∃ g : Grp, ∃ th : Thread, ∃ k : Nat, ∃ n, Issues s t g th ∧ HurdleFields f ∧ GuardAt th f.grd 0 ∧
    FreeX th f.s2 ∧ k = hurdleAt g t f.scope f.id ∧ AtHurdle g th f.scope.toNat f.id.toNat ∧ th.arrivals.find k = some n ∧ (g.round
    k).number ≤ n) ∧
(∃ s : State, ∃ gid k : Nat, ∃ g : Grp, s.grp gid = some g ∧ g.phase = .running ∧ g.roundFull k = true ∧ keyScope k < 2 ∧ (g.round
    k).groupArrived = false ∧ (g.round k).misuse = true) ∧
(∃ s : State, ∃ gid k : Nat, ∃ g : Grp, s.grp gid = some g ∧ g.phase = .running ∧ g.roundFull k = true ∧ keyScope k < 2 ∧ (g.round
    k).groupArrived = false ∧ (g.round k).misuse = false) ∧
(∃ k : Nat, ∃ j, j ≠ k) ∧
(∃ g : Grp, ∃ k : Nat, ∃ i, ∃ th, g.th i = some th ∧ th.st = .hurdle ∧ th.waitKey = some k ∧ th.arrivals.get 0 k = (g.round k).number ∧
    th.mcopies = [] ∧ th.sumDest = none) ∧
(∃ s : State, ∃ gid id : Nat, ∃ g : Grp, s.grp gid = some g ∧ g.phase = .running ∧ id < 4 ∧ (g.round (hurdleKey 3 0 id)).groupArrived =
    true) ∧
(∃ s : State, ∃ gid id : Nat, ∃ g : Grp, s.grp gid = some g ∧ (g.round (hurdleKey 3 0 id)).groupArrived = false) :=
  ⟨⟨gst (thr0), t0, fS, grpOf (thr0), thr0, hurdleAt ((grpOf (thr0))) t0 ((fS)).scope ((fS)).id, by decide +kernel⟩,
   ⟨gstOf ({ grpOf ({ thr0 with arrivals := [(0, 0)] }) with rounds := [(0, { Round.empty with number := 1 })] }), t0, fS,
    { grpOf ({ thr0 with arrivals := [(0, 0)] }) with rounds := [(0, { Round.empty with number := 1 })] },
    { thr0 with arrivals := [(0, 0)] }, hurdleAt
    (({ grpOf ({ thr0 with arrivals := [(0, 0)] }) with rounds := [(0, { Round.empty with number := 1 })] })) t0 ((fS)).scope ((fS)).id,
    0, by decide +kernel⟩,
   ⟨gst ({ thr0 with arrivals := [(0, 0)] }), t0, fS, grpOf ({ thr0 with arrivals := [(0, 0)] }), { thr0 with arrivals := [(0, 0)] },
    hurdleAt ((grpOf ({ thr0 with arrivals := [(0, 0)] }))) t0 ((fS)).scope ((fS)).id, 0, by decide +kernel⟩,
   ⟨gstOf ({ grpOf thr0 with rounds := [(65536, { Round.empty with arrived := List.range 16, misuse := true })] }), 0, 65536,
    { grpOf thr0 with rounds := [(65536, { Round.empty with arrived := List.range 16, misuse := true })] }, by decide +kernel⟩,
   ⟨gstOf ({ grpOf thr0 with rounds := [(65536, { Round.empty with arrived := List.range 16 })] }), 0, 65536,
    { grpOf thr0 with rounds := [(65536, { Round.empty with arrived := List.range 16 })] }, by decide +kernel⟩,
   ⟨0, 1, by decide +kernel⟩,
   ⟨{ grpOf ({ thr0 with st := .hurdle, waitKey := some 0 }) with rounds := [] }, 0, 0, { thr0 with st := .hurdle, waitKey := some 0 }, by
    decide +kernel⟩,
   ⟨gstOf ({ grpOf thr0 with rounds := [(hurdleKey 3 0 3, { Round.empty with groupArrived := true })] }), 0, 3,
    { grpOf thr0 with rounds := [(hurdleKey 3 0 3, { Round.empty with groupArrived := true })] }, by decide +kernel⟩,
   ⟨gst (thr0), 0, 0, grpOf (thr0), by decide +kernel⟩⟩

theorem witness_TensorOps :
(∃ s : State, ∃ t : Thr, ∃ f : FmtT, ∃ g : Grp, ∃ th : Thread, Issues s t g th ∧ f.sa = 0 ∧ f.sb = 0 ∧ f.sk = 0 ∧ f.ss = 0 ∧ f.fmtA = 0 ∧
    f.fmtB = 0 ∧ f.rnd = 0 ∧ f.clr = 0 ∧ f.rsv = 0 ∧ GuardAt th f.grd 0 ∧ g.prog.accTiles ≤ f.tile.toNat) ∧
(∃ s : State, ∃ t : Thr, ∃ f : FmtT, ∃ g : Grp, ∃ th : Thread, Issues s t g th ∧ f.sa = 0 ∧ f.sb = 0 ∧ f.sk = 0 ∧ f.ss = 0 ∧ f.fmtA = 0 ∧
    f.fmtB = 0 ∧ f.rnd = 0 ∧ f.clr = 0 ∧ f.rsv = 0 ∧ GuardAt th f.grd 0 ∧ f.tile.toNat < g.prog.accTiles ∧ 8 ≤ (g.tq.get [] (g.coreOf
    t.idx)).length) ∧
(∃ s : State, ∃ t : Thr, ∃ f : FmtT, ∃ g : Grp, ∃ th : Thread, Issues s t g th ∧ f.sa = 0 ∧ f.sb = 0 ∧ f.sk = 0 ∧ f.ss = 0 ∧ f.fmtA = 0 ∧
    f.fmtB = 0 ∧ f.rnd = 0 ∧ f.clr = 0 ∧ f.rsv = 0 ∧ GuardAt th f.grd 0 ∧ f.tile.toNat < g.prog.accTiles ∧ (g.tq.get [] (g.coreOf
    t.idx)).length < 8) ∧
(∃ s : State, ∃ t : Thr, ∃ f : FmtT, ∃ g : Grp, ∃ th : Thread, Issues s t g th ∧ f.sa = 0 ∧ f.sb = 0 ∧ f.sk = 0 ∧ f.ss = 0 ∧ f.fmtA = 0 ∧
    f.fmtB = 0 ∧ f.rnd = 0 ∧ f.clr = 0 ∧ f.rsv = 0 ∧ GuardAt th f.grd 0 ∧ f.tile.toNat < g.prog.accTiles ∧ (∀ o ∈ g.tq.get [] (g.coreOf
    t.idx), o.tile ≠ f.tile.toNat)) ∧
(∃ s : State, ∃ t : Thr, ∃ f : FmtT, ∃ g : Grp, ∃ th : Thread, Issues s t g th ∧ f.sa = 0 ∧ f.sb = 0 ∧ f.sk = 0 ∧ f.ss = 0 ∧ f.fmtA = 0 ∧
    f.fmtB = 0 ∧ f.rnd = 0 ∧ f.clr = 0 ∧ f.rsv = 0 ∧ GuardAt th f.grd 0 ∧ f.tile.toNat < g.prog.accTiles ∧ (∃ o ∈ g.tq.get [] (g.coreOf
    t.idx), o.tile = f.tile.toNat)) ∧
(∃ s : State, ∃ t : Thr, ∃ f : FmtT, ∃ g : Grp, ∃ th : Thread, ∃ fa fb : Fmt, ∃ k : Nat, ∃ a b c : W64, Issues s t g th ∧ Fmt.ofNibble
    f.fmtA.toNat = some fa ∧ Fmt.ofNibble f.fmtB.toNat = some fb ∧ fa.cls ≤ 16 ∧ fb.cls ≤ 16 ∧ f.rnd = 0 ∧ f.clr = 0 ∧ f.rsv = 0 ∧ ((fa.mx
    = true ∨ fb.mx = true ∨ f.ss = 0)) ∧ GuardAt th f.grd 0 ∧ FreeX th f.sa ∧ FreeX th f.sb ∧ FreeX th f.sk ∧ FreeX th f.ss ∧ a = th.xr
    f.sa.toNat ∧ b = th.xr f.sb.toNat ∧ (c = (if fa.mx || fb.mx then th.xr f.ss.toNat else 0)) ∧ k = (th.xr f.sk.toNat).toNat ∧ (a.toNat %
    64 ≠ 0 ∨ b.toNat % 64 ≠ 0 ∨ c.toNat % 64 ≠ 0)) ∧
(∃ s : State, ∃ t : Thr, ∃ f : FmtT, ∃ g : Grp, ∃ th : Thread, ∃ fa fb : Fmt, ∃ k : Nat, ∃ a b c : W64, Issues s t g th ∧ Fmt.ofNibble
    f.fmtA.toNat = some fa ∧ Fmt.ofNibble f.fmtB.toNat = some fb ∧ fa.cls ≤ 16 ∧ fb.cls ≤ 16 ∧ f.rnd = 0 ∧ f.clr = 0 ∧ f.rsv = 0 ∧ ((fa.mx
    = true ∨ fb.mx = true ∨ f.ss = 0)) ∧ GuardAt th f.grd 0 ∧ FreeX th f.sa ∧ FreeX th f.sb ∧ FreeX th f.sk ∧ FreeX th f.ss ∧ a = th.xr
    f.sa.toNat ∧ b = th.xr f.sb.toNat ∧ (c = (if fa.mx || fb.mx then th.xr f.ss.toNat else 0)) ∧ k = (th.xr f.sk.toNat).toNat ∧ a.toNat %
    64 = 0 ∧ b.toNat % 64 = 0 ∧ c.toNat % 64 = 0 ∧ ((65536 < k ∨ k % 32 ≠ 0))) ∧
(∃ s : State, ∃ t : Thr, ∃ f : FmtT, ∃ g : Grp, ∃ th : Thread, ∃ fa fb : Fmt, ∃ k : Nat, ∃ a b c : W64, Issues s t g th ∧ Fmt.ofNibble
    f.fmtA.toNat = some fa ∧ Fmt.ofNibble f.fmtB.toNat = some fb ∧ fa.cls ≤ 16 ∧ fb.cls ≤ 16 ∧ f.rnd = 0 ∧ f.clr = 0 ∧ f.rsv = 0 ∧ ((fa.mx
    = true ∨ fb.mx = true ∨ f.ss = 0)) ∧ GuardAt th f.grd 0 ∧ FreeX th f.sa ∧ FreeX th f.sb ∧ FreeX th f.sk ∧ FreeX th f.ss ∧ a = th.xr
    f.sa.toNat ∧ b = th.xr f.sb.toNat ∧ (c = (if fa.mx || fb.mx then th.xr f.ss.toNat else 0)) ∧ k = (th.xr f.sk.toNat).toNat ∧ a.toNat %
    64 = 0 ∧ b.toNat % 64 = 0 ∧ c.toNat % 64 = 0 ∧ k ≤ 65536 ∧ k % 32 = 0 ∧ f.tile.toNat < g.prog.accTiles ∧ k = 0) ∧
(∃ s : State, ∃ t : Thr, ∃ f : FmtT, ∃ g : Grp, ∃ th : Thread, ∃ fa fb : Fmt, ∃ k : Nat, ∃ a b c : W64, Issues s t g th ∧ Fmt.ofNibble
    f.fmtA.toNat = some fa ∧ Fmt.ofNibble f.fmtB.toNat = some fb ∧ fa.cls ≤ 16 ∧ fb.cls ≤ 16 ∧ f.rnd = 0 ∧ f.clr = 0 ∧ f.rsv = 0 ∧ ((fa.mx
    = true ∨ fb.mx = true ∨ f.ss = 0)) ∧ GuardAt th f.grd 0 ∧ FreeX th f.sa ∧ FreeX th f.sb ∧ FreeX th f.sk ∧ FreeX th f.ss ∧ a = th.xr
    f.sa.toNat ∧ b = th.xr f.sb.toNat ∧ (c = (if fa.mx || fb.mx then th.xr f.ss.toNat else 0)) ∧ k = (th.xr f.sk.toNat).toNat ∧ a.toNat %
    64 = 0 ∧ b.toNat % 64 = 0 ∧ c.toNat % 64 = 0 ∧ k ≤ 65536 ∧ k % 32 = 0 ∧ f.tile.toNat < g.prog.accTiles ∧ 0 < k ∧ (g.tq.get []
    (g.coreOf t.idx)).length < 8 ∧ (s.coreRanges t g th .load ([(a, 32 * rowBytes fa k), (b, 32 * rowBytes fb k)] ++ (if scaleBytes fa fb
    k = 0 then [] else [(c, scaleBytes fa fb k)])) = (none, false))) ∧
(∃ s : State, ∃ t : Thr, ∃ f : FmtT, ∃ g : Grp, ∃ th : Thread, ∃ fa : Fmt, ∃ m : Rnd, Issues s t g th ∧ f.fmtA.toNat ∈ [12, 13, 10, 11, 4,
    5] ∧ Fmt.ofNibble f.fmtA.toNat = some fa ∧ Rnd.ofBits f.rnd.toNat = some m ∧ f.sb = 0 ∧ f.sk = 0 ∧ f.ss = 0 ∧ f.fmtB = 0 ∧ f.rsv = 0 ∧
    GuardAt th f.grd 0 ∧ FreeX th f.sa ∧ (th.xr f.sa.toNat).toNat % 64 = 0 ∧ s.coreRanges t g th .store [(th.xr f.sa.toNat, 128 *
    fa.width)] = (none, false) ∧ f.tile.toNat < g.prog.accTiles ∧ (g.tq.get [] (g.coreOf t.idx)).length < 8) ∧
(∃ s : State, ∃ gid core : Nat, ∃ g : Grp, ∃ o : TOp, ∃ rest : List TOp, s.grp gid = some g ∧ ((g.phase = .running ∨ g.phase = .saving)) ∧
    g.tq.get [] core = o :: rest ∧ o.tile < 4 ∧ o.kind = .tzero) :=
  ⟨⟨gstOf ({ grpOf (thr0) with prog := { prog0 with accTiles := 3 } }), t0, { fT with tile := 3 },
    { grpOf (thr0) with prog := { prog0 with accTiles := 3 } }, thr0, by decide +kernel⟩,
   ⟨gstOf ({ grpOf (thr0) with tq := [(0, List.replicate 8 (⟨3, 0, .tzero⟩ : TOp))] }), t0, { fT with tile := 3 },
    { grpOf (thr0) with tq := [(0, List.replicate 8 (⟨3, 0, .tzero⟩ : TOp))] }, thr0, by decide +kernel⟩,
   ⟨gst (thr0), t0, { fT with tile := 3 }, grpOf (thr0), thr0, by decide +kernel⟩,
   ⟨gst (thr0), t0, { fT with tile := 3 }, grpOf (thr0), thr0, by decide +kernel⟩,
   ⟨gstOf ({ grpOf (thr0) with tq := [(0, [⟨3, 0, .tzero⟩])] }), t0, { fT with tile := 3 },
    { grpOf (thr0) with tq := [(0, [⟨3, 0, .tzero⟩])] }, thr0, by decide +kernel⟩,
   ⟨gst ({ thr0 with x := [(1, 32)] }), t0, { fT with fmtA := 4, fmtB := 11, sa := 1, sk := 2, tile := 3 }, grpOf
    ({ thr0 with x := [(1, 32)] }), { thr0 with x := [(1, 32)] }, fmt 4, fmt 11, 0, 32, 0, 0, by decide +kernel⟩,
   ⟨gst ({ thr0 with x := [(2, 65568)] }), t0, { fT with fmtA := 4, fmtB := 11, sa := 1, sk := 2, tile := 3 }, grpOf
    ({ thr0 with x := [(2, 65568)] }), { thr0 with x := [(2, 65568)] }, fmt 4, fmt 11, 65568, 0, 0, 0, by decide +kernel⟩,
   ⟨gst (thr0), t0, { fT with fmtA := 4, fmtB := 11, sa := 1, sk := 2, tile := 3 }, grpOf (thr0), thr0, fmt 4, fmt 11, 0, 0, 0, 0, by decide +kernel⟩,
   ⟨gst ({ thr0 with x := [(1, 64), (2, 32)] }), t0, { fT with fmtA := 4, fmtB := 11, sa := 1, sk := 2, tile := 3 }, grpOf
    ({ thr0 with x := [(1, 64), (2, 32)] }), { thr0 with x := [(1, 64), (2, 32)] }, fmt 4, fmt 11, 32, 64, 0, 0, by decide +kernel⟩,
   ⟨gst (thr0), t0, { fT with fmtA := 12, rnd := 2, tile := 3 }, grpOf (thr0), thr0, fmt 12, .sr, by decide +kernel⟩,
   ⟨gstOf ({ grpOf thr0 with tq := [(0, [(⟨3, 0, .tzero⟩)])] }), 0, 0, { grpOf thr0 with tq := [(0, [(⟨3, 0, .tzero⟩)])] }, ⟨3, 0, .tzero⟩,
    [], by decide +kernel⟩⟩

theorem witness_ForestOps :
(∃ s : State, ∃ t : Thr, ∃ f : FmtR, ∃ g : Grp, ∃ th : Thread, ∃ a core : Nat, ∃ d : List Byte, Issues s t g th ∧ f.d = 0 ∧ f.s2 = 0 ∧
    f.s3 = 0 ∧ f.ty = 0 ∧ f.cond = 0 ∧ f.rsv = 0 ∧ GuardAt th f.grd 0 ∧ FreeX th f.s1 ∧ (th.xr f.s1.toNat).toNat % 64 = 0 ∧ s.reach g
    t.idx 1 (th.xr f.s1.toNat) 64 .load = .ok (.core a) ∧ g.blocks t.idx th (.core a) 64 false = false ∧ d = s.readBytes a 64 ∧ core =
    g.globalCore (g.coreOf t.idx) ∧ lowest (descCodes d (s.fnNat g.fn PDK_IMAGE_SIZE * mib)) = none ∧ fdRecords d = 0) ∧
(∃ s : State, ∃ t : Thr, ∃ f : FmtR, ∃ g : Grp, ∃ th : Thread, ∃ a core : Nat, ∃ d h : List Byte, ∃ outs : List Tgt, ∃ unit : Nat, Issues
    s t g th ∧ f.d = 0 ∧ f.s2 = 0 ∧ f.s3 = 0 ∧ f.ty = 0 ∧ f.cond = 0 ∧ f.rsv = 0 ∧ GuardAt th f.grd 0 ∧ FreeX th f.s1 ∧ (th.xr
    f.s1.toNat).toNat % 64 = 0 ∧ s.reach g t.idx 1 (th.xr f.s1.toNat) 64 .load = .ok (.core a) ∧ g.blocks t.idx th (.core a) 64 false =
    false ∧ d = s.readBytes a 64 ∧ core = g.globalCore (g.coreOf t.idx) ∧ lowest (descCodes d (s.fnNat g.fn PDK_IMAGE_SIZE * mib)) = none
    ∧ 0 < fdRecords d ∧ s.imageRead g.fn (fdEnsemble d) 64 = some (h, false) ∧ lowest (State.limitCodes g d h) = none ∧ (s.foldOuts g
    t.idx (if fdMode d = 0 then [] else (List.range (fdRecords d * fhOutputs h)).map (fun i => BitVec.ofNat 64 (fdOutAddr d + 4 * i))) =
    (outs, none)) ∧ s.forestUnit (core / 256) (fdUnit d) = some unit ∧ th.fevals.length < 4 ∧ s.unitQueue unit < 16 ∧ g.blocks t.idx th
    (.core (coreAddr core (featRange d h).1)) (featRange d h).2 false = false ∧ ((fdMode d = 0 → g.blocks t.idx th (.core (coreAddr core
    (outRange d h).1)) (outRange d h).2 true = false))) ∧
(∃ s : State, ∃ t : Thr, ∃ f : FmtR, ∃ g : Grp, ∃ th : Thread, Issues s t g th ∧ f.d = 0 ∧ f.s1 = 0 ∧ f.s2 = 0 ∧ f.s3 = 0 ∧ f.ty = 0 ∧
    f.cond = 0 ∧ f.rsv = 0 ∧ GuardAt th f.grd 0 ∧ th.fevals = []) ∧
(∃ s : State, ∃ t : Thr, ∃ f : FmtR, ∃ g : Grp, ∃ th : Thread, Issues s t g th ∧ f.d = 0 ∧ f.s1 = 0 ∧ f.s2 = 0 ∧ f.s3 = 0 ∧ f.ty = 0 ∧
    f.cond = 0 ∧ f.rsv = 0 ∧ GuardAt th f.grd 0 ∧ th.fevals ≠ []) ∧
(∃ s : State, ∃ t : Thr, ∃ g : Grp, ∃ th : Thread, ∃ o : FevalOp, ∃ line : Nat, s.grp t.gid = some g ∧ g.th t.idx = some th ∧ th.feval
    o.id = some o ∧ line ∈ o.fills.take 32) ∧
(∃ s : State, ∃ t : Thr, ∃ g : Grp, ∃ th : Thread, ∃ o : FevalOp, s.grp t.gid = some g ∧ g.th t.idx = some th ∧ th.feval o.id = some o ∧
    o.fills = [] ∧ ((g.phase = .running ∨ g.phase = .saving)) ∧ (∀ w ∈ (s.walks g.fn o).flatten, ∃ b, w.stop = .leaf b) ∧ o.outFold =
    false) ∧
(∃ s : State, ∃ t : Thr, ∃ g : Grp, ∃ th : Thread, ∃ o : FevalOp, s.grp t.gid = some g ∧ g.th t.idx = some th ∧ th.feval o.id = some o ∧
    o.fills = [] ∧ ((g.phase = .running ∨ g.phase = .saving)) ∧ (∀ w ∈ (s.walks g.fn o).flatten, ∃ b, w.stop = .leaf b) ∧ o.outFold =
    true) ∧
(∃ s : State, ∃ t : Thr, ∃ f : FmtR, ∃ g : Grp, ∃ th : Thread, Issues s t g th ∧ f.d.toNat % 2 = 0 ∧ f.d ≠ 0 ∧ f.s2 = 0 ∧ f.s3 = 0 ∧ f.ty
    = 0 ∧ f.cond = 0 ∧ f.rsv = 0 ∧ GuardAt th f.grd 0 ∧ FreeX th f.s1 ∧ 8 ≤ th.finds.length) ∧
(∃ s : State, ∃ t : Thr, ∃ f : FmtR, ∃ g : Grp, ∃ th : Thread, Issues s t g th ∧ f.d.toNat % 2 = 0 ∧ f.d ≠ 0 ∧ f.s2 = 0 ∧ f.s3 = 0 ∧ f.ty
    = 0 ∧ f.cond = 0 ∧ f.rsv = 0 ∧ GuardAt th f.grd 0 ∧ FreeX th f.s1 ∧ th.finds.length < 8) ∧
(∃ s : State, ∃ gid i : Nat, ∃ g : Grp, ∃ th : Thread, ∃ l : Lookup, s.grp gid = some g ∧ g.th i = some th ∧ g.lookups.find? (fun x =>
    x.id = l.id) = some l ∧ g.phase ≠ .stopping ∧ l.thread = some i ∧ l.state = 0) ∧
(∃ s : State, ∃ gid i : Nat, ∃ g : Grp, ∃ th : Thread, ∃ l : Lookup, ∃ x : DirSlot, s.grp gid = some g ∧ g.th i = some th ∧
    g.lookups.find? (fun x => x.id = l.id) = some l ∧ g.phase ≠ .stopping ∧ l.thread = some i ∧ l.state = 1 ∧ x.tag = g.fn ∧ mustRestart l
    (s.dirEntry g.fn l.bucket).gen = false ∧ s.searchPage (dirPage (s.dirEntry g.fn l.bucket) l.sel) l.count l.key l.finger = some (some
    x)) ∧
(∃ th : Thread, ∃ id : Nat, ∃ r, 0 < th.finds.get 0 (2 * id) ∧ th.finds.get 0 (2 * id + 1) = th.finds.get 0 (2 * id) + 1 ∧ r ≠
    th.finds.get 0 (2 * id) ∧ r ≠ th.finds.get 0 (2 * id) + 1) :=
  ⟨⟨forestSt (grpOf (thr0)) 0, t0, fR, grpOf (thr0), thr0, coreAddr 0 0, 0, ((forestSt (grpOf (thr0)) 0)).readBytes (coreAddr 0 0) 64, by
    decide +kernel⟩,
   ⟨forestSt (grpOf (thr0)) 1, t0, fR, grpOf (thr0), thr0, coreAddr 0 0, 0, ((forestSt (grpOf (thr0)) 1)).readBytes (coreAddr 0 0) 64,
    ((forestSt (grpOf (thr0)) 1)).readBytes 0 64, [], 0, by decide +kernel⟩,
   ⟨gst (thr0), t0, fR, grpOf (thr0), thr0, by decide +kernel⟩,
   ⟨gst ({ thr0 with fevals := [feval0] }), t0, fR, grpOf ({ thr0 with fevals := [feval0] }), { thr0 with fevals := [feval0] }, by decide +kernel⟩,
   ⟨gst ({ thr0 with fevals := [({ feval0 with fills := [7] })] }), t0, grpOf ({ thr0 with fevals := [({ feval0 with fills := [7] })] }),
    { thr0 with fevals := [({ feval0 with fills := [7] })] }, { feval0 with fills := [7] }, 7, by decide +kernel⟩,
   ⟨gst ({ thr0 with fevals := [(feval0)] }), t0, grpOf ({ thr0 with fevals := [(feval0)] }), { thr0 with fevals := [(feval0)] }, feval0, by
    decide +kernel, by decide +kernel, by decide +kernel, by decide +kernel, by decide +kernel, (fun w h => nomatch (show w ∈ ([] : List
    Walk) from h)), by decide +kernel⟩,
   ⟨gst ({ thr0 with fevals := [({ feval0 with outFold := true })] }), t0, grpOf
    ({ thr0 with fevals := [({ feval0 with outFold := true })] }), { thr0 with fevals := [({ feval0 with outFold := true })] },
    { feval0 with outFold := true }, by decide +kernel, by decide +kernel, by decide +kernel, by decide +kernel, by decide +kernel, (fun w
    h => nomatch (show w ∈ ([] : List Walk) from h)), by decide +kernel⟩,
   ⟨gst ({ thr0 with finds := (List.range 8).map (fun i => (i, 5)) }), t0, { fR with d := 62 }, grpOf
    ({ thr0 with finds := (List.range 8).map (fun i => (i, 5)) }), { thr0 with finds := (List.range 8).map (fun i => (i, 5)) }, by decide +kernel⟩,
   ⟨gst (thr0), t0, { fR with d := 62 }, grpOf (thr0), thr0, by decide +kernel⟩,
   ⟨gstOf ({ grpOf thr0 with lookups := [({ look0 with thread := some 0 })] }), 0, 0,
    { grpOf thr0 with lookups := [({ look0 with thread := some 0 })] }, thr0, { look0 with thread := some 0 }, by decide +kernel⟩,
   ⟨gstOf ({ grpOf thr0 with lookups := [({ look0 with thread := some 0, state := 1, count := 1 })] }), 0, 0,
    { grpOf thr0 with lookups := [({ look0 with thread := some 0, state := 1, count := 1 })] }, thr0,
    { look0 with thread := some 0, state := 1, count := 1 }, ⟨0, 0, 0, 0, 0⟩, by decide +kernel⟩,
   ⟨{ thr0 with finds := [(0, 62), (1, 63)] }, 0, 1, by decide +kernel⟩⟩

theorem witness_ChecksAndSpecials_1 :
(∃ s : State, ∃ t : Thr, ∃ f : FmtI, ∃ g : Grp, ∃ th : Thread, Issues s t g th ∧ f.d = 0 ∧ f.s1 = 0 ∧ f.ty = 0 ∧ f.rsv = 0 ∧ f.imm = 0 ∧
    GuardAt th f.grd 0 ∧ th.windows = 0 ∧ g.windows = 0 ∧ th.fevals = [] ∧ (∀ o ∈ g.tq.get [] (g.coreOf t.idx), o.thread ≠ t.idx)) ∧
(∃ s : State, ∃ t : Thr, ∃ f : FmtI, ∃ g : Grp, ∃ th : Thread, Issues s t g th ∧ f.d = 0 ∧ f.s1 = 0 ∧ f.ty = 0 ∧ f.rsv = 0 ∧ f.imm = 0 ∧
    GuardAt th f.grd 0 ∧ ((th.windows ≠ 0 ∨ g.windows ≠ 0 ∨ th.fevals ≠ []))) ∧
(∃ s : State, ∃ t : Thr, ∃ f : FmtR, ∃ g : Grp, ∃ th : Thread, Issues s t g th ∧ f.d = 0 ∧ f.s3 = 0 ∧ f.cond = 0 ∧ f.rsv = 0 ∧ f.ty = 0 ∧
    GuardAt th f.grd 0 ∧ FreeX th f.s1 ∧ FreeX th f.s2 ∧ th.xr f.s1.toNat = th.xr f.s2.toNat) ∧
(∃ s : State, ∃ t : Thr, ∃ f : FmtR, ∃ g : Grp, ∃ th : Thread, Issues s t g th ∧ f.d = 0 ∧ f.s3 = 0 ∧ f.cond = 0 ∧ f.rsv = 0 ∧ f.ty = 0 ∧
    GuardAt th f.grd 0 ∧ FreeX th f.s1 ∧ FreeX th f.s2 ∧ th.xr f.s1.toNat ≠ th.xr f.s2.toNat) ∧
(∃ s : State, ∃ t : Thr, ∃ f : FmtR, ∃ g : Grp, ∃ th : Thread, Issues s t g th ∧ f.d = 0 ∧ f.s3 = 0 ∧ f.cond = 0 ∧ f.rsv = 0 ∧ f.ty = 4 ∧
    GuardWf f.grd ∧ f.s1.toNat < 32 ∧ f.s2.toNat < 32 ∧ FreeV th f.s1 ∧ FreeV th f.s2 ∧ ((∀ i, i < 32 → active th f.grd i = true → laneAt
    (th.vr f.s1.toNat) i = laneAt (th.vr f.s2.toNat) i))) ∧
(∃ s : State, ∃ t : Thr, ∃ f : FmtR, ∃ g : Grp, ∃ th : Thread, Issues s t g th ∧ f.d = 0 ∧ f.s3 = 0 ∧ f.cond = 0 ∧ f.rsv = 0 ∧ f.ty = 4 ∧
    GuardWf f.grd ∧ f.s1.toNat < 32 ∧ f.s2.toNat < 32 ∧ FreeV th f.s1 ∧ FreeV th f.s2 ∧ ((∃ i, i < 32 ∧ active th f.grd i = true ∧ laneAt
    (th.vr f.s1.toNat) i ≠ laneAt (th.vr f.s2.toNat) i))) ∧
(∃ s : State, ∃ gid : Nat, ∃ g : Grp, ∃ j : JEntry, s.grp gid = some g ∧ s.entry g.fn g.entry = some j ∧ j.mismatches < 3) ∧
(∃ s : State, ∃ gid : Nat, ∃ g : Grp, ∃ j : JEntry, s.grp gid = some g ∧ s.entry g.fn g.entry = some j ∧ 3 ≤ j.mismatches) ∧
(∃ s : State, ∃ t : Thr, ∃ f : FmtR, ∃ g : Grp, ∃ th : Thread, Issues s t g th ∧ f.d = 0 ∧ f.s1.toNat < 8 ∧ f.s2 = 0 ∧ f.s3 = 0 ∧ f.ty = 0
    ∧ f.cond = 0 ∧ f.rsv = 0 ∧ GuardAt th f.grd 0 ∧ (th.pr f.s1.toNat).getLsbD 0 = true) ∧
(∃ s : State, ∃ t : Thr, ∃ f : FmtR, ∃ g : Grp, ∃ th : Thread, Issues s t g th ∧ f.d = 0 ∧ f.s1.toNat < 8 ∧ f.s2 = 0 ∧ f.s3 = 0 ∧ f.ty = 0
    ∧ f.cond = 0 ∧ f.rsv = 0 ∧ GuardAt th f.grd 0 ∧ (th.pr f.s1.toNat).getLsbD 0 = false) ∧
(∃ s : State, ∃ gid i : Nat, ∃ g : Grp, ∃ th : Thread, s.grp gid = some g ∧ g.th i = some th ∧ 0 < th.windows) ∧
(∃ s : State, ∃ gid : Nat, ∃ g : Grp, s.grp gid = some g ∧ 0 < g.windows) :=
  ⟨⟨gst (thr0), t0, fI, grpOf (thr0), thr0, by decide +kernel⟩,
   ⟨gst ({ thr0 with windows := 1 }), t0, fI, grpOf ({ thr0 with windows := 1 }), { thr0 with windows := 1 }, by decide +kernel⟩,
   ⟨gst (thr0), t0, fR, grpOf (thr0), thr0, by decide +kernel⟩,
   ⟨gst ({ thr0 with x := [(1, 1)] }), t0, { fR with s1 := 1 }, grpOf ({ thr0 with x := [(1, 1)] }), { thr0 with x := [(1, 1)] }, by decide +kernel⟩,
   ⟨gst (thr0), t0, { fR with ty := 4, s1 := 31, s2 := 31 }, grpOf (thr0), thr0, by decide +kernel⟩,
   ⟨gst ({ thr0 with v := [(1, [1])] }), t0, { fR with ty := 4, s1 := 1 }, grpOf ({ thr0 with v := [(1, [1])] }),
    { thr0 with v := [(1, [1])] }, by decide +kernel⟩,
   ⟨wst { ({ rec0 tWork with mismatches := 2 }) with mismatches := 2 } (grpOf (thr0)), 0, grpOf (thr0), { rec0 tWork with mismatches := 2 },
    by decide +kernel⟩,
   ⟨wst ({ rec0 tWork with mismatches := 3 }) (grpOf (thr0)), 0, grpOf (thr0), { rec0 tWork with mismatches := 3 }, by decide +kernel⟩,
   ⟨gst ({ thr0 with p := [(7, 1)] }), t0, { fR with s1 := 7 }, grpOf ({ thr0 with p := [(7, 1)] }), { thr0 with p := [(7, 1)] }, by decide +kernel⟩,
   ⟨gst (thr0), t0, { fR with s1 := 7 }, grpOf (thr0), thr0, by decide +kernel⟩,
   ⟨gst ({ thr0 with windows := 1 }), 0, 0, grpOf ({ thr0 with windows := 1 }), { thr0 with windows := 1 }, by decide +kernel⟩,
   ⟨gstOf ({ grpOf thr0 with windows := 1 }), 0, { grpOf thr0 with windows := 1 }, by decide +kernel⟩⟩

theorem witness_ChecksAndSpecials_2 :
(∃ s : State, ∃ t : Thr, ∃ f : FmtI, ∃ g : Grp, ∃ th : Thread, Issues s t g th ∧ f.s1 = 0 ∧ f.ty = 0 ∧ f.rsv = 0 ∧ GuardAt th f.grd 0 ∧
    f.imm.toNat ≤ 1 ∧ s.confidential g.fn = true) ∧
(∃ s : State, ∃ t : Thr, ∃ f : FmtI, ∃ g : Grp, ∃ th : Thread, Issues s t g th ∧ f.s1 = 0 ∧ f.ty = 0 ∧ f.rsv = 0 ∧ GuardAt th f.grd 0 ∧
    f.imm = 1 ∧ s.confidential g.fn = false) ∧
(∃ s : State, ∃ t : Thr, ∃ f : FmtI, ∃ g : Grp, ∃ th : Thread, Issues s t g th ∧ f.s1 = 0 ∧ f.ty = 0 ∧ f.rsv = 0 ∧ GuardAt th f.grd 0 ∧
    f.imm = 0 ∧ s.confidential g.fn = false) :=
  ⟨⟨(gst (thr0)).hubSetN SEC_PADDOCK_CFG 1, t0, { fI with imm := 1 }, grpOf (thr0), thr0, by decide +kernel⟩,
   ⟨gst (thr0), t0, { fI with imm := 1 }, grpOf (thr0), thr0, by decide +kernel⟩,
   ⟨gst (thr0), t0, fI, grpOf (thr0), thr0, by decide +kernel⟩⟩

theorem witness_TranslationCompletions :
(∃ s : State, ∃ fn va page base lpa log2 : Nat, ∃ write : Bool, page = va / 4096 * 4096 ∧ page ∈ (s.fn fn).xlt.walks ∧ s.walk fn page =
    .mapped base lpa log2 write) ∧
(∃ s : State, ∃ fn va : Nat, va / 4096 * 4096 ∉ (s.fn fn).xlt.walks) ∧
(∃ s : State, ∃ fn va : Nat, (∀ q ∈ (s.fn fn).xlt.atsReqs, q.1 ≠ va / 4096 * 4096)) ∧
(∃ s : State, ∃ fn va page : Nat, ∃ d w : Bool, page = va / 4096 * 4096 ∧ (page, w) ∈ (s.fn fn).xlt.atsReqs ∧ page ∉ (s.fn
    fn).xlt.staleAts ∧ ((∃ x ∈ (s.fn fn).xlt.waits, x.page = page ∧ x.stage = .ats)) ∧ ((∀ x ∈ (s.fn fn).xlt.waits, x.page = page →
    x.stage = .ats → x.direct = d))) ∧
(∃ s : State, ∃ fn : Nat, 32 ≤ (s.fn fn).xlt.invs.length) ∧
(∃ s : State, ∃ fn : Nat, (s.fn fn).xlt.invs.length < 32) ∧
(∃ s : State, ∃ fn itag : Nat, (∃ i ∈ (s.fn fn).xlt.invs, i.itag = itag) ∧ s.pceHeld fn = false ∧ (∀ q ∈ s.pce.waiting, q.fn ≠ fn)) :=
  ⟨⟨{ fst { Fn.empty with xlt := { Xlt.empty with walks := [0] } } with mem := memAt [(1, 0x10), (7, 0x80), (4103, 0xB0)] }, 0, 0, 0, 0, 0,
    30, true, by decide +kernel⟩,
   ⟨rdy, 0, 0, by decide +kernel⟩,
   ⟨rdy, 0, 0, by decide +kernel⟩,
   ⟨fst { Fn.empty with xlt := { Xlt.empty with atsReqs := [(0, false)], waits := [⟨0, false, false, true, .ats, 0, .ring⟩] } }, 0, 0, 0,
    true, false, by decide +kernel⟩,
   ⟨fst { Fn.empty with xlt := { Xlt.empty with invs := List.replicate 32 ⟨0, 0, 0⟩ } }, 0, by decide +kernel⟩,
   ⟨fst { Fn.empty with xlt := { Xlt.empty with invs := List.replicate 31 ⟨0, 0, 0⟩ } }, 0, by decide +kernel⟩,
   ⟨fst { Fn.empty with xlt := { Xlt.empty with invs := [⟨7, 0, 0⟩] }, pce := { PceFn.reset with busMaster := true } }, 0, 7, by decide +kernel⟩⟩

theorem witness_PageRequests :
(∃ s : State, ∃ fn i : Nat, (s.fn fn).xlt.prgs.find i = none) ∧
(∃ s : State, ∃ fn i : Nat, ∃ p : Prg, (s.fn fn).xlt.prgs.find i = some p ∧ p.quarantined = false ∧ (s.fn fn).xlt.waits = [] ∧ (s.fn
    fn).xlt.prgs.length ≤ 512) ∧
(∃ s : State, ∃ fn i : Nat, ∃ p : Prg, (s.fn fn).xlt.prgs.find i = some p ∧ p.quarantined = true) ∧
(∃ s : State, ∃ fn i : Nat, ∃ p : Prg, (s.fn fn).xlt.prgs.find i = some p ∧ p.quarantined = false ∧ s.time < p.sentAt + 1000 * s.fnNat fn
    XLT_PRI_TIMEOUT) ∧
(∃ s : State, ∃ fn i : Nat, ∃ p : Prg, (s.fn fn).xlt.prgs.find i = some p ∧ p.quarantined = false ∧ p.sentAt + 1000 * s.fnNat fn
    XLT_PRI_TIMEOUT ≤ s.time) ∧
(∃ s : State, ∃ fn : Nat, ∃ enable : Bool, enable = true ∧ (s.fn fn).xlt.priEnable = false) ∧
(∃ s : State, ∃ fn : Nat, ∃ enable : Bool, enable = (s.fn fn).xlt.priEnable) :=
  ⟨⟨rdy, 0, 0, by decide +kernel⟩,
   ⟨{ fst { Fn.empty with xlt := { Xlt.empty with prgs := [(0, (⟨0, false, false, 1⟩))] } } with time := 1000 }, 0, 0, ⟨0, false, false, 1⟩,
    by decide +kernel⟩,
   ⟨{ fst { Fn.empty with xlt := { Xlt.empty with prgs := [(0, (⟨0, false, true, 0⟩))] } } with time := 1000 }, 0, 0, ⟨0, false, true, 0⟩, by
    decide +kernel⟩,
   ⟨{ fst (({ Fn.empty with xlt := { Xlt.empty with prgs := [(0, (⟨0, false, false, 1⟩))] } } : Fn).putN XLT_PRI_TIMEOUT 1) with time := 1000 },
    0, 0, ⟨0, false, false, 1⟩, by decide +kernel⟩,
   ⟨{ fst { Fn.empty with xlt := { Xlt.empty with prgs := [(0, (⟨0, false, false, 1000⟩))] } } with time := 1000 }, 0, 0, ⟨0, false, false,
    1000⟩, by decide +kernel⟩,
   ⟨rdy, 0, true, by decide +kernel⟩,
   ⟨rdy, 0, false, by decide +kernel⟩⟩

theorem witness_EndpointRequests :
(∃ s : State, ∃ tag : Nat, s.up = true ∧ s.pce.reqs.find tag = none) ∧
(∃ s : State, ∃ tag : Nat, ∃ c : CplResult, ∃ q : PcieReq, s.up = true ∧ s.pce.reqs.find tag = some q ∧ c.ok = true ∧ c.poisoned = false) ∧
(∃ s : State, ∃ tag : Nat, ∃ c : CplResult, ∃ q : PcieReq, s.up = true ∧ s.pce.reqs.find tag = some q ∧ c.ok = false) ∧
(∃ s : State, ∃ tag : Nat, ∃ c : CplResult, ∃ q : PcieReq, s.up = true ∧ s.pce.reqs.find tag = some q ∧ c.ok = true ∧ c.poisoned = true) ∧
(∃ s : State, ∃ q : PcieReq, ∃ e i : Nat, ∃ j : JEntry, ∃ p : LoadPart, q.use = .load e i ∧ s.entry q.fn e = some j ∧ j.src[i]? = some p) ∧
(∃ s : State, ∃ tag : Nat, ∃ q : PcieReq, s.pce.reqs.find tag = some q) ∧
(∃ s : State, ∃ fn : Nat, ∃ b : Bool, s.up = true ∧ s.fnExists fn = true ∧ (s.fn fn).pce.busMaster = b) ∧
(∃ s : State, ∃ fn : Nat, ∃ b : Bool, s.up = true ∧ s.fnExists fn = true ∧ (s.fn fn).pce.busMaster ≠ b ∧ (fn = 0 ∨ (s.tdi fn ≠ tdiLocked ∧
    s.tdi fn ≠ tdiRun))) :=
  ⟨⟨up, 255, by decide +kernel⟩,
   ⟨{ up with pce := { Pce.reset with reqs := [(255, (⟨0, .dead, 0, 4⟩))] } }, 255, ⟨true, false, []⟩, ⟨0, .dead, 0, 4⟩, by decide +kernel⟩,
   ⟨{ up with pce := { Pce.reset with reqs := [(255, (⟨0, .dead, 0, 4⟩))] } }, 255, ⟨false, false, []⟩, ⟨0, .dead, 0, 4⟩, by decide +kernel⟩,
   ⟨{ up with pce := { Pce.reset with reqs := [(255, (⟨0, .dead, 0, 4⟩))] } }, 255, ⟨true, true, []⟩, ⟨0, .dead, 0, 4⟩, by decide +kernel⟩,
   ⟨est ({ rec0 tLoadProgram with src := [(⟨0, .core 0, 4, none⟩)] }), ⟨0, .load 0 0, 0, 4⟩, 0, 0,
    { rec0 tLoadProgram with src := [(⟨0, .core 0, 4, none⟩)] }, ⟨0, .core 0, 4, none⟩, by decide +kernel⟩,
   ⟨{ up with pce := { Pce.reset with reqs := [(255, (⟨0, .dead, 0, 4⟩))] } }, 255, ⟨0, .dead, 0, 4⟩, by decide +kernel⟩,
   ⟨up, 0, false, by decide +kernel⟩,
   ⟨up, 0, true, by decide +kernel⟩⟩

theorem witness_FunctionResets :
(∃ s : State, ∃ fn : Nat, s.up = true ∧ fn ≤ 31 ∧ s.fnExists fn = true ∧ (s.fn fn).pce.flrBusy = false ∧ ((fn = 0 ∨ (s.tdi fn ≠ tdiLocked
    ∧ s.tdi fn ≠ tdiRun))) ∧ fn ≠ 0 ∧ s.boot.ready = true) ∧
(∃ s : State, ∃ fn : Nat, s.up = true ∧ fn ≤ 31 ∧ s.fnExists fn = true ∧ (s.fn fn).pce.flrBusy = false ∧ ((fn = 0 ∨ (s.tdi fn ≠ tdiLocked
    ∧ s.tdi fn ≠ tdiRun))) ∧ fn ≠ 0 ∧ s.boot.ready = false) ∧
(∃ s : State, ∃ fn : Nat, s.up = true ∧ fn ≤ 31 ∧ s.fnExists fn = true ∧ (s.fn fn).pce.flrBusy = false ∧ ((fn = 0 ∨ (s.tdi fn ≠ tdiLocked
    ∧ s.tdi fn ≠ tdiRun))) ∧ fn = 0 ∧ s.boot.ready = true) ∧
(∃ s : State, ∃ fn : Nat, s.up = true ∧ fn ≤ 31 ∧ s.fnExists fn = true ∧ (s.fn fn).pce.flrBusy = false ∧ ((fn = 0 ∨ (s.tdi fn ≠ tdiLocked
    ∧ s.tdi fn ≠ tdiRun))) ∧ fn = 0 ∧ s.boot.ready = false) ∧
(∃ s : State, ∃ fn : Nat, fn ≠ 0 ∧ (((s.fn fn).pce.flrBusy = true ∨ s.fnExists fn = false))) ∧
(∃ s : State, ∃ v : Nat, s.up = true ∧ v ≤ 31) ∧
(∃ s : State, ∃ v : Nat, s.up = true ∧ 31 < v) ∧
(∃ s : State, ∃ fn : Nat, (s.fn fn).pce.flrBusy = false) ∧
(∃ s : State, ∃ fn : Nat, (s.fn fn).pce.flrBusy = true ∧ ((s.pumpOut fn).fn fn).outWalks = false) ∧
(∃ s : State, s.up = true ∧ modPerst (s.resetEndpoint false).boot.modRec ≠ 1) ∧
(∃ s : State, s.up = true ∧ modPerst (s.resetEndpoint false).boot.modRec = 1) :=
  ⟨⟨{ rdy with pce := { Pce.reset with vfEnable := true, numVfs := 31 } }, 31, by decide +kernel⟩,
   ⟨{ up with pce := { Pce.reset with vfEnable := true, numVfs := 31 } }, 31, by decide +kernel⟩,
   ⟨{ rdy with pce := { Pce.reset with vfEnable := true, numVfs := 31 } }, 0, by decide +kernel⟩,
   ⟨up, 0, by decide +kernel⟩,
   ⟨up, 31, by decide +kernel⟩,
   ⟨{ rdy with pce := { Pce.reset with vfEnable := true, numVfs := 31 } }, 31, by decide +kernel⟩,
   ⟨{ rdy with pce := { Pce.reset with vfEnable := true, numVfs := 31 } }, 32, by decide +kernel⟩,
   ⟨up, 31, by decide +kernel⟩,
   ⟨{ rdy with pce := { Pce.reset with vfEnable := true, numVfs := 31 }, fns := [(31, { Fn.empty with pce := { PceFn.reset with flrBusy := true } })] },
    31, by decide +kernel⟩,
   ⟨up, by decide +kernel⟩,
   ⟨{ up with boot := { up.boot with modRec := [1] } }, by decide +kernel⟩⟩

theorem witness_InterruptsAndLinkPower_of_Interrupts :
∃ s : State, s.barOpen 0 = true ∧ s.intLevel = true :=
⟨(up.hubSetN PCE_INT_STATUS 1).hubSetN PCE_INT_ENABLE 1, by decide +kernel⟩

theorem witness_InterruptsAndLinkPower_of_LinkPower :
(∃ s : State, s.up = true ∧ s.pce.linkUp = true ∧ s.pce.pm = .l0) ∧
(∃ s : State, s.up = true ∧ s.flitMode = true ∧ 2 ^ (s.hubNat PCE_L0P_POLICY % 8) < s.activeWidth) ∧
(∃ s : State, s.up = true ∧ s.flitMode = true ∧ s.activeWidth < fieldOf (s.hubNat PCE_LINK_STATUS) 14 5) ∧
(∃ s : State, s.up = true ∧ s.pce.ptmPending = true ∧ s.clockMaster = false) ∧
(∃ s : State, ∃ off : Int, s.up = true ∧ s.pce.ptmPending = true ∧ s.clockMaster = true ∧ (s.pce.ptmDone = false ∧ 1000000 < off)) ∧
(∃ s : State, ∃ off : Int, s.up = true ∧ s.pce.ptmPending = true ∧ s.clockMaster = true ∧ (s.pce.ptmDone = true ∨ off ≤ 1000000)) ∧
(∃ s : State, s.up = true ∧ s.pce.ptmPending = true ∧ 2 ≤ s.pce.ptmFails) ∧
(∃ s : State, ∃ kind : Nat, s.up = true ∧ kind < 5) ∧
(∃ s : State, ∃ kind : Nat, s.up = true ∧ 5 ≤ kind ∧ kind ≤ 8) :=
  ⟨⟨{ up with pce := { Pce.reset with linkUp := true } }, by decide +kernel⟩,
   ⟨(up.hubSetN PCE_LINK_STATUS (1024 + 16 * 2 ^ 19)).hubSetN PCE_L0P_POLICY 3, by decide +kernel⟩,
   ⟨up.hubSetN PCE_LINK_STATUS (1024 + 16 * 2 ^ 14 + 8 * 2 ^ 19), by decide +kernel⟩,
   ⟨({ up with pce := { Pce.reset with ptmPending := true } } : State).hubSetN LNK_BELLWETHER 5 |>.hubSetN LNK_NODE (2 ^ 18), by decide +kernel⟩,
   ⟨{ up with pce := { Pce.reset with ptmPending := true } }, 1000001, by decide +kernel⟩,
   ⟨{ up with pce := { Pce.reset with ptmPending := true } }, 0, by decide +kernel⟩,
   ⟨{ up with pce := { Pce.reset with ptmPending := true, ptmFails := 2 } }, by decide +kernel⟩,
   ⟨up, 4, by decide +kernel⟩,
   ⟨up, 5, by decide +kernel⟩⟩

theorem witness_SecuritySessions_of_DeviceInterfaceMessages :
(∃ s : State, ∃ fn stream : Nat, s.tdispUp fn = true ∧ s.fnExists fn = true ∧ s.tdi fn = tdiUnlocked ∧ s.fnNat fn XLT_PASID ≠ 0 ∧ stream <
    8) ∧
(∃ s : State, ∃ fn : Nat, s.tdispUp fn = true ∧ s.tdi fn = tdiLocked) ∧
(∃ s : State, ∃ fn : Nat, s.tdispUp fn = true ∧ s.tdi fn ≠ tdiUnlocked ∧ fn ∉ s.sec.tdiStops ∧ (s.fn fn).pdk = pdkEmpty) ∧
(∃ s : State, ∃ fn : Nat, s.tdispUp fn = true ∧ s.tdi fn ≠ tdiUnlocked ∧ fn ∉ s.sec.tdiStops ∧ (s.fn fn).pdk = pdkQuiesced ∧
    s.sec.scrubbing = []) ∧
(∃ s : State, ∃ fn : Nat, s.tdispUp fn = true ∧ (s.tdi fn = tdiLocked ∨ s.tdi fn = tdiRun)) ∧
(∃ s : State, ∃ fn : Nat, s.tdispUp fn = true ∧ s.tdi fn ≠ tdiUnlocked) ∧
(∃ s : State, ∃ fn : Nat, s.tdispUp fn = true ∧ s.tdi fn ≠ tdiLocked) ∧
(∃ s : State, ∃ fn : Nat, s.tdispUp fn = true ∧ s.tdi fn = tdiUnlocked) ∧
(∃ s : State, ∃ fn : Nat, (s.spdmUp = false ∨ s.sec.sessions = [] ∨ fn = 0)) :=
  ⟨⟨({ rdy with pce := { Pce.reset with vfEnable := true, numVfs := 31 }, sec := { Sec.reset with sessions := [1] } } : State).fnSetN 31
    XLT_PASID 1, 31, 7, by decide +kernel⟩,
   ⟨({ rdy with pce := { Pce.reset with vfEnable := true, numVfs := 31 }, sec := { Sec.reset with sessions := [1] } } : State).hubSetN
    (SEC_TDI_STATE + 4 * 31) tdiLocked, 31, by decide +kernel⟩,
   ⟨({ rdy with pce := { Pce.reset with vfEnable := true, numVfs := 31 }, sec := { Sec.reset with sessions := [1] } } : State).hubSetN
    (SEC_TDI_STATE + 4 * 31) tdiLocked, 31, by decide +kernel⟩,
   ⟨(({ rdy with pce := { Pce.reset with vfEnable := true, numVfs := 31 }, sec := { Sec.reset with sessions := [1] } } : State).hubSetN
    (SEC_TDI_STATE + 4 * 31) tdiRun).fnSetN 31 PDK_STATE pdkQuiesced, 31, by decide +kernel⟩,
   ⟨({ rdy with pce := { Pce.reset with vfEnable := true, numVfs := 31 }, sec := { Sec.reset with sessions := [1] } } : State).hubSetN
    (SEC_TDI_STATE + 4 * 31) tdiLocked, 31, by decide +kernel⟩,
   ⟨({ rdy with pce := { Pce.reset with vfEnable := true, numVfs := 31 }, sec := { Sec.reset with sessions := [1] } } : State).hubSetN
    (SEC_TDI_STATE + 4 * 31) tdiLocked, 31, by decide +kernel⟩,
   ⟨{ rdy with pce := { Pce.reset with vfEnable := true, numVfs := 31 }, sec := { Sec.reset with sessions := [1] } }, 31, by decide +kernel⟩,
   ⟨{ rdy with pce := { Pce.reset with vfEnable := true, numVfs := 31 }, sec := { Sec.reset with sessions := [1] } }, 31, by decide +kernel⟩,
   ⟨({ rdy with pce := { Pce.reset with vfEnable := true, numVfs := 31 }, sec := { Sec.reset with sessions := [1] } } : State).hubSetN
    (SEC_TDI_STATE + 4 * 31) tdiLocked, 0, by decide +kernel⟩⟩

theorem witness_SecuritySessions_of_AttestationMessages :
(∃ s : State, ∃ b, s.spdmUp = true ∧ b = sha384 (s.certSlot 0 ++ s.aliasCert) ++ s.summary) ∧
(∃ s : State, ∃ slot : Nat, s.spdmUp = true ∧ 2 ≤ slot) ∧
(∃ s : State, ∃ block : Nat, ∃ is, ∃ b, s.spdmUp = true ∧ (is = (if block = 0xFF then allBlocks else [block])) ∧ b = s.blockBytes is ∧
    (block = 0xFF ∨ (s.measBlock block).isSome = true) ∧ (∀ p ∈ s.sites, s.siteLive p.1 = false)) ∧
(∃ s : State, ∃ block : Nat, ∃ is, ∃ b, s.spdmUp = true ∧ (is = (if block = 0xFF then allBlocks else [block])) ∧ b = s.blockBytes is ∧
    (block = 0xFF ∨ (s.measBlock block).isSome = true) ∧ ((∃ p ∈ s.sites, s.siteLive p.1 = true ∧ 0 < p.2.measCount))) ∧
(∃ s : State, ∃ block : Nat, s.spdmUp = true ∧ block ≠ 0xFF ∧ s.measBlock block = none) ∧
(∃ s : State, ∃ b, s.spdmUp = true ∧ b = beBytes 96 (Config.ecPublic s.free) ++ s.summary ∧ s.sec.sessions.length < 4) ∧
(∃ s : State, s.spdmUp = true ∧ 4 ≤ s.sec.sessions.length) :=
  ⟨⟨rdy, sha384 (((rdy)).certSlot 0 ++ ((rdy)).aliasCert) ++ ((rdy)).summary, by decide +kernel, rfl⟩,
   ⟨rdy, 2, by decide +kernel⟩,
   ⟨rdy, 0xFF, allBlocks, ((rdy)).blockBytes allBlocks, by decide +kernel, by decide +kernel, rfl, by decide +kernel, by decide +kernel⟩,
   ⟨({ rdy with sites := [(19, { Site.empty with measCount := 1 })] } : State).hubSetN (cmnOff 19 4) cmnActive, 0x13, [0x13],
    ((({ rdy with sites := [(19, { Site.empty with measCount := 1 })] } : State).hubSetN (cmnOff 19 4) cmnActive)).blockBytes [0x13], by
    decide +kernel, by decide +kernel, rfl, by decide +kernel, by decide +kernel⟩,
   ⟨rdy, 0x14, by decide +kernel⟩,
   ⟨sess3, beBytes 96 (Config.ecPublic ((sess3)).free) ++ ((sess3)).summary, by decide +kernel, rfl, by decide +kernel⟩,
   ⟨{ rdy with sec := { Sec.reset with sessions := [1, 2, 3, 4] } }, by decide +kernel⟩⟩

theorem witness_CrookTokens :
(∃ s : State, s.up = true ∧ s.lc ≠ lcScrapped) ∧
(∃ s : State, ∃ c : Nat, s.sec.challengeAt = some c ∧ c + 60000000000 ≤ s.time) ∧
(∃ s : State, ∃ c : Nat, s.sec.challengeAt = some c ∧ s.time < c + 60000000000) ∧
(∃ s : State, ∃ c : Instr, ∃ op : Nat, (c, op) ∈ [(Instr.tokenPaddockDebug, opDebug), (.tokenReturn, opReturn), (.tokenScrap, opScrap),
    (.tokenDeploy, opDeploy), (.tokenProvision, opProvision)] ∧ s.up = true ∧ s.lc ≠ lcScrapped ∧ tokenOp s.token ≠ op) ∧
(∃ s : State, ∃ c : Instr, ∃ op : Nat, (c, op) ∈ [(Instr.tokenPaddockDebug, opDebug), (.tokenReturn, opReturn), (.tokenScrap, opScrap),
    (.tokenDeploy, opDeploy), (.tokenProvision, opProvision)] ∧ s.up = true ∧ s.lc ≠ lcScrapped ∧ tokenOp s.token = op) ∧
(∃ s : State, ∃ t : Trans, s.sec.trans = some t ∧ s.up = true ∧ s.hubNat LCS_STATUS = 1 ∧ ((∀ f ∈ s.fns, ∀ e ∈ f.2.entries, e.2.st =
    .releasing → e.2.left = []))) ∧
(∃ s : State, s.sec.trans = none) :=
  ⟨⟨rdy, by decide +kernel⟩,
   ⟨{ rdy with sec := { Sec.reset with challengeAt := some 0 }, time := 60000000000 }, 0, by decide +kernel⟩,
   ⟨{ rdy with sec := { Sec.reset with challengeAt := some 0 }, time := 59999999999 }, 0, by decide +kernel⟩,
   ⟨rdy, .tokenDeploy, opDeploy, by decide +kernel⟩,
   ⟨rdy.hubSetN SEC_TOKEN 0x0401, .tokenDeploy, opDeploy, by decide +kernel⟩,
   ⟨({ rdy with sec := { Sec.reset with trans := some .deploy } } : State).hubSetN LCS_STATUS 1, .deploy, by decide +kernel⟩,
   ⟨rdy, by decide +kernel⟩⟩

theorem witness_DebugAndScrub :
(∃ s : State, ∃ n e : Nat, s.sec.debugUntil.find n = some e ∧ s.time < e) ∧
(∃ s : State, ∃ n e : Nat, s.sec.debugUntil.find n = some e ∧ e ≤ s.time) ∧
(∃ s : State, s.up = true ∧ s.lc ≠ lcScrapped) ∧
(∃ s : State, s.sec.debugUntil.find (fieldOf (s.hubNat SEC_DEBUG_ADDR) 48 5) = none) ∧
(∃ s : State, ∃ a : Nat, ∃ bs : List Byte, ∃ e : Nat, s.sec.debugUntil.find (fieldOf (s.hubNat SEC_DEBUG_ADDR) 48 5) = some e ∧
    s.debugPlace (fieldOf (s.hubNat SEC_DEBUG_ADDR) 48 5) (s.hubNat SEC_DEBUG_ADDR % 2 ^ 48 / 8 * 8) = some a ∧ s.fetch a 8 = (bs, false)) ∧
(∃ s : State, ∃ value : W32, ∃ n : Nat, n = value.toNat % 32 ∧ s.up = true ∧ s.lc ≠ lcScrapped ∧ bitOf value.toNat 31 = true ∧ (s.fn
    n).pdk = pdkQuiesced ∧ (s.fn n).isDrained = true ∧ s.tdi n = tdiUnlocked ∧ n ≠ 0 ∧ s.sec.scrubbing = [] ∧ bitOf (s.fnNat n
    PDK_COMMONS) 7 = false) ∧
(∃ s : State, ∃ value : W32, ∃ n : Nat, n = value.toNat % 32 ∧ s.up = true ∧ s.lc ≠ lcScrapped ∧ bitOf value.toNat 31 = true ∧ (s.fn
    n).pdk ≠ pdkQuiesced ∧ s.sec.scrubbing = []) ∧
(∃ s : State, ∃ n : Nat, ∃ rest : List Nat, s.up = true ∧ s.sec.scrubbing = n :: rest ∧ n < 32 ∧ (s.fn n).pdk = pdkQuiesced ∧ n ∉
    s.sec.begun) ∧
(∃ s : State, ∃ n : Nat, ∃ rest : List Nat, s.up = true ∧ s.sec.scrubbing = n :: rest ∧ n < 32 ∧ (s.fn n).pdk = pdkQuiesced ∧ n ∈
    s.sec.begun) :=
  ⟨⟨{ rdy with sec := { Sec.reset with debugUntil := [(3, 5)] }, time := 4 }, 3, 5, by decide +kernel⟩,
   ⟨{ rdy with sec := { Sec.reset with debugUntil := [(3, 5)] }, time := 5 }, 3, 5, by decide +kernel⟩,
   ⟨rdy, by decide +kernel⟩,
   ⟨rdy, by decide +kernel⟩,
   ⟨(({ rdy with sec := { Sec.reset with debugUntil := [(3, 5)] }, time := 4 } : State).hubSetN SEC_DEBUG_ADDR (3 * 2 ^ 48 + imageVa)).fnSetN
    3 PDK_IMAGE_SIZE 1, 0, zeros 8, 5, by decide +kernel⟩,
   ⟨rdy.fnSetN 3 PDK_STATE pdkQuiesced, 0x80000003, 3, by decide +kernel⟩,
   ⟨rdy, 0x80000003, 3, by decide +kernel⟩,
   ⟨({ rdy with sec := { Sec.reset with scrubbing := [3] } } : State).fnSetN 3 PDK_STATE pdkQuiesced, 3, [], by decide +kernel⟩,
   ⟨({ rdy with sec := { Sec.reset with scrubbing := [3], begun := [3] } } : State).fnSetN 3 PDK_STATE pdkQuiesced, 3, [], by decide +kernel⟩⟩

theorem witness_SuppliesAndTriggers_1 :
(∃ s : State, s.boot.v48 = false ∧ s.boot.aux = true ∧ s.boot.sysRst = false ∧ s.boot.powered = false) ∧
(∃ s : State, s.boot.v48 = false ∧ (s.boot.aux = false ∨ s.boot.sysRst = true ∨ s.boot.powered = true)) ∧
(∃ s : State, s.boot.aux = false ∧ s.boot.v48 = true ∧ s.boot.sysRst = false ∧ s.boot.powered = false) ∧
(∃ s : State, s.boot.aux = false ∧ (s.boot.v48 = false ∨ s.boot.sysRst = true ∨ s.boot.powered = true)) ∧
(∃ s : State, s.boot.sysRst = true ∧ s.boot.aux = true ∧ s.boot.v48 = true ∧ s.boot.powered = false) ∧
(∃ s : State, s.boot.powered = true) ∧
(∃ s : State, s.boot.powered = false) ∧
(∃ s : State, s.up = true ∧ s.lc ≠ lcScrapped) ∧
(∃ s : State, s.autoDue = true) ∧
(∃ s : State, s.autoDue = false) ∧
(∃ n, n < 32) ∧
(∃ a, a < scratchBase) :=
  ⟨⟨{ State.reset with boot := { Boot.reset with aux := true } }, by decide +kernel⟩,
   ⟨State.reset, by decide +kernel⟩,
   ⟨{ State.reset with boot := { Boot.reset with v48 := true } }, by decide +kernel⟩,
   ⟨State.reset, by decide +kernel⟩,
   ⟨{ State.reset with boot := { Boot.reset with sysRst := true, aux := true, v48 := true } }, by decide +kernel⟩,
   ⟨up, by decide +kernel⟩,
   ⟨State.reset, by decide +kernel⟩,
   ⟨up, by decide +kernel⟩,
   ⟨(({ rdy with boot := { rdy.boot with modRec := [0, 1, 0, 0, 4] }, sdg := { Sdg.reset with held := [(cMeshLost, 0)] } } : State).hubSetN
    SDG_STATUS 0x80000000), by decide +kernel⟩,
   ⟨up, by decide +kernel⟩,
   ⟨31, by decide +kernel⟩,
   ⟨scratchBase - 1, by decide +kernel⟩⟩

theorem witness_SuppliesAndTriggers_2 :
∃ a, scratchBase ≤ a ∧ a < commonsBase :=
⟨commonsBase - 1, by decide +kernel⟩

theorem witness_StartSteps_1 :
(∃ s : State, ∃ site : Nat, s.discovering site = false) ∧
(∃ s : State, ∃ site : Nat, ∃ strap : BitVec 9, s.discovering site = true ∧ site < 16 ∧ strap.toNat = s.ident.pad site) ∧
(∃ s : State, ∃ site : Nat, ∃ strap : BitVec 9, s.discovering site = true ∧ site < 16 ∧ (strap.toNat ≠ s.ident.pad site ∨ s.boot.startAt +
    2000000 ≤ s.time) ∧ strap.toNat ≠ s.ident.pad site) ∧
(∃ s : State, ∃ site : Nat, ∃ strap : BitVec 9, s.discovering site = true ∧ site < 16 ∧ (strap.toNat ≠ s.ident.pad site ∨ s.boot.startAt +
    2000000 ≤ s.time) ∧ s.boot.startAt + 2000000 ≤ s.time) ∧
(∃ s : State, ∃ site : Nat, s.discovering site = true ∧ 16 ≤ site ∧ s.boot.startAt + 2000000 ≤ s.time) ∧
(∃ s : State, s.time < s.boot.startAt + 2000000) ∧
(∃ s : State, ∃ stack : Nat, s.up = true ∧ s.boot.step = 8 ∧ stack < 24 ∧ stack ∈ s.boot.machines) ∧
(∃ s : State, ∃ stack : Nat, s.up = true ∧ s.boot.step = 8 ∧ stack < 24 ∧ stack ∉ s.boot.machines ∧ s.boot.kind = 1) ∧
(∃ s : State, ∃ stack : Nat, s.up = true ∧ s.boot.step = 8 ∧ stack < 24 ∧ stack ∉ s.boot.machines ∧ s.boot.kind = 2 ∧
    s.boot.machines.length = 23) ∧
(∃ s : State, ∃ stack : Nat, s.up = true ∧ s.boot.step = 8 ∧ stack < 24 ∧ stack ∉ s.boot.machines ∧ (s.fenceStack stack).boot.kind = 1) ∧
(∃ s : State, s.up = true ∧ s.boot.step = 8 ∧ s.linksEnded = false) ∧
(∃ s : State, s.up = true ∧ s.boot.step = 8 ∧ s.linksEnded = true) :=
  ⟨⟨up, 15, by decide +kernel⟩,
   ⟨{ up with boot := { up.boot with step := 6 } }, 15, BitVec.ofNat 9 ((({ up with boot := { up.boot with step := 6 } })).ident.pad 15), by
    decide +kernel⟩,
   ⟨{ up with boot := { up.boot with step := 6 } }, 15, 0, by decide +kernel⟩,
   ⟨{ up with boot := { up.boot with step := 6 }, time := 2000000 }, 15, 0, by decide +kernel⟩,
   ⟨({ up with boot := { up.boot with step := 6 }, time := 2000000 } : State).hubSetN (cmnOff 16 4) cmnDiscovering, 16, by decide +kernel⟩,
   ⟨up, by decide +kernel⟩,
   ⟨{ up with boot := { up.boot with step := 8, machines := [23] } }, 23, by decide +kernel⟩,
   ⟨{ up with boot := { up.boot with step := 8, kind := 1 } }, 23, by decide +kernel⟩,
   ⟨{ up with boot := { up.boot with step := 8, kind := 2, machines := List.range 23 } }, 23, by decide +kernel⟩,
   ⟨{ up with boot := { up.boot with step := 8, kind := 1 } }, 23, by decide +kernel⟩,
   ⟨({ up with boot := { up.boot with step := 8 } } : State).hubSetN LNK_PORT_CFG (2 ^ 28), by decide +kernel⟩,
   ⟨{ up with boot := { up.boot with step := 8 } }, by decide +kernel⟩⟩

theorem witness_StartSteps_2 :
(∃ s : State, s.up = true ∧ s.boot.step = 8 ∧ s.boot.ready = false ∧ s.boot.failed = false ∧ s.boot.recovery = false ∧ s.boot.linksDone =
    true ∧ 24 ≤ s.boot.machines.length ∧ ((s.boot.kind = 1 ∨ ∀ n ∈ s.paddocks, s.recovered n = true))) ∧
(∃ s : State, s.up = true ∧ s.boot.step = 8 ∧ s.boot.ready = false ∧ s.boot.failed = false ∧ s.boot.recovery = false ∧ (s.boot.linksDone =
    false ∨ s.boot.machines.length < 24)) ∧
(∃ s : State, s.up = true ∧ s.boot.step ≠ 0 ∧ s.boot.ready = false ∧ s.boot.failed = false ∧ s.boot.recovery = false ∧ s.sec.trans = none
    ∧ s.lc ≠ lcScrapped ∧ s.time < s.boot.startAt + s.readyLimit) ∧
(∃ s : State, s.up = true ∧ s.boot.step ≠ 0 ∧ s.boot.ready = false ∧ s.boot.failed = false ∧ s.boot.recovery = false ∧ s.sec.trans = none
    ∧ s.lc ≠ lcScrapped ∧ s.boot.startAt + s.readyLimit ≤ s.time) ∧
(∃ s : State, s.boot.ready = true) ∧
(∃ s : State, s.up = true ∧ s.boot.failed = true ∧ s.time < s.boot.failAt + 1000000000) ∧
(∃ s : State, s.up = true ∧ s.boot.failed = true ∧ s.boot.failAt + 1000000000 ≤ s.time) :=
  ⟨⟨{ up with boot := { up.boot with step := 8, kind := 1, linksDone := true, machines := List.range 24 } }, by decide +kernel⟩,
   ⟨{ up with boot := { up.boot with step := 8, machines := List.range 23 } }, by decide +kernel⟩,
   ⟨{ up with boot := { up.boot with step := 8, kind := 1 }, time := 599999999999 }, by decide +kernel⟩,
   ⟨{ up with boot := { up.boot with step := 8, kind := 1 }, time := 600000000000 }, by decide +kernel⟩,
   ⟨rdy, by decide +kernel⟩,
   ⟨{ up with boot := { up.boot with step := 8, failed := true }, time := 999999999 }, by decide +kernel⟩,
   ⟨{ up with boot := { up.boot with step := 8, failed := true }, time := 1000000000 }, by decide +kernel⟩⟩

theorem witness_BootFlash :
(∃ s : State, ∃ c : Instr, ∃ op size a : Nat, (c, op, size) ∈ [(Instr.flashRead, 1, 256), (.flashProgram, 2, 256), (.flashErase, 3,
    65536)] ∧ a = s.hubNat BOOT_FLASH_ADDR % 2 ^ 27 / size * size ∧ s.up = true ∧ s.lc ≠ lcScrapped ∧ s.boot.flashOp ≠ none) ∧
(∃ s : State, ∃ c : Instr, ∃ op size a : Nat, (c, op, size) ∈ [(Instr.flashRead, 1, 256), (.flashProgram, 2, 256), (.flashErase, 3,
    65536)] ∧ a = s.hubNat BOOT_FLASH_ADDR % 2 ^ 27 / size * size ∧ s.up = true ∧ s.lc ≠ lcScrapped ∧ s.boot.flashOp = none ∧ ((if op = 1
    then flashArea a 0x30000 0x10000 = false else s.flashWritable a = true))) ∧
(∃ s : State, ∃ c : Instr, ∃ op size a : Nat, (c, op, size) ∈ [(Instr.flashRead, 1, 256), (.flashProgram, 2, 256), (.flashErase, 3,
    65536)] ∧ a = s.hubNat BOOT_FLASH_ADDR % 2 ^ 27 / size * size ∧ s.up = true ∧ s.lc ≠ lcScrapped ∧ s.boot.flashOp = none ∧ ((if op = 1
    then flashArea a 0x30000 0x10000 = true else s.flashWritable a = false))) ∧
(∃ s : State, ∃ a : Nat, s.boot.flashOp = some ⟨1, a⟩) ∧
(∃ s : State, ∃ a : Nat, ∃ new : List Byte, s.boot.flashOp = some ⟨2, a⟩ ∧ flashArea a (slotBase false) 4096 = false ∧ flashArea a
    (slotBase true) 4096 = false ∧ new = s.hubBytesGet BOOT_FLASH_BUF 256 ∧ (s.flashBytes a 256).zipWith (· &&& ·) new = new) ∧
(∃ s : State, ∃ a : Nat, ∃ new : List Byte, s.boot.flashOp = some ⟨2, a⟩ ∧ flashArea a (slotBase false) 4096 = false ∧ flashArea a
    (slotBase true) 4096 = false ∧ new = s.hubBytesGet BOOT_FLASH_BUF 256 ∧ (s.flashBytes a 256).zipWith (· &&& ·) new ≠ new) ∧
(∃ s : State, ∃ a : Nat, s.boot.flashOp = some ⟨3, a⟩) :=
  ⟨⟨({ up with boot := { up.boot with flashOp := some ⟨1, 0⟩ } } : State).hubSetN BOOT_FLASH_ADDR 0x5FFFF, .flashErase, 3, 65536, 0x50000, by
    decide +kernel⟩,
   ⟨up.hubSetN BOOT_FLASH_ADDR 0x5FFFF, .flashErase, 3, 65536, 0x50000, by decide +kernel⟩,
   ⟨up.hubSetN BOOT_FLASH_ADDR 0x6FFFF |>.hubSetN BOOT_FLASH_ADDR 0x7FFFF, .flashErase, 3, 65536, 0x70000, by decide +kernel⟩,
   ⟨{ up with boot := { up.boot with flashOp := some ⟨(1), (0)⟩ } }, 0, by decide +kernel⟩,
   ⟨{ up with boot := { up.boot with flashOp := some ⟨(2), (0x50000)⟩ } }, 0x50000,
    (({ up with boot := { up.boot with flashOp := some ⟨(2), (0x50000)⟩ } })).hubBytesGet BOOT_FLASH_BUF 256, by decide +kernel⟩,
   ⟨({ up with boot := { up.boot with flashOp := some ⟨(2), (0x50000)⟩ }, flash := [(0x50000, 0)] } : State).hubSetN BOOT_FLASH_BUF 1,
    0x50000, ((({ up with boot := { up.boot with flashOp := some ⟨(2), (0x50000)⟩ }, flash := [(0x50000, 0)] } : State).hubSetN
    BOOT_FLASH_BUF 1)).hubBytesGet BOOT_FLASH_BUF 256, by decide +kernel⟩,
   ⟨{ up with boot := { up.boot with flashOp := some ⟨(3), (0x50000)⟩ } }, 0x50000, by decide +kernel⟩⟩

theorem witness_MeshMessages_of_MeshRequests :
(∃ s : State, ∃ link half k : Nat, k = link * 2 + half % 2 ∧ s.up = true ∧ k ∉ s.noc.halfFenced ∧ s.noc.halfFails.get 0 k < 2) ∧
(∃ s : State, ∃ link half k : Nat, k = link * 2 + half % 2 ∧ s.up = true ∧ k ∉ s.noc.halfFenced ∧ 2 ≤ s.noc.halfFails.get 0 k) ∧
(∃ s : State, ∃ link half k : Nat, ∃ src : BitVec 24, k = link * 2 + half % 2 ∧ s.up = true ∧ k ∉ s.noc.halfFenced ∧ s.stale src.toNat =
    true) ∧
(∃ s : State, ∃ link half k : Nat, ∃ src : BitVec 24, k = link * 2 + half % 2 ∧ s.up = true ∧ k ∉ s.noc.halfFenced ∧ s.stale src.toNat =
    false) ∧
(∃ s : State, ∃ q : ReqFlit, ∃ op left : Nat, ∃ u : State, s.up = true ∧ s.noc.outs.find (reqKey q.src.toNat q.txn) = none ∧ s.stale
    q.src.toNat = false ∧ u =
    { s with noc := { s.noc with outs := s.noc.outs.set (reqKey q.src.toNat q.txn) ⟨q, op, left, false, s.time⟩ } } ∧ op = opRead ∧ (left
    = (if q.size = 1#3 then 4 else 1)) ∧ s.idFenced q.dst.toNat = false ∧ s.reqOwner q false = .ok) ∧
(∃ s : State, ∃ q : ReqFlit, ∃ op left : Nat, ∃ u : State, s.up = true ∧ s.noc.outs.find (reqKey q.src.toNat q.txn) = none ∧ s.stale
    q.src.toNat = false ∧ u =
    { s with noc := { s.noc with outs := s.noc.outs.set (reqKey q.src.toNat q.txn) ⟨q, op, left, false, s.time⟩ } } ∧ op = opWrite ∧ (left
    = (if q.size = 1#3 then 4 else 1)) ∧ s.idFenced q.dst.toNat = false ∧ s.reqOwner q true = .ok) ∧
(∃ s : State, ∃ q : ReqFlit, ∃ op left : Nat, ∃ u : State, ∃ o : AtomOp, ∃ r : List Byte, s.up = true ∧ s.noc.outs.find (reqKey
    q.src.toNat q.txn) = none ∧ s.stale q.src.toNat = false ∧ u =
    { s with noc := { s.noc with outs := s.noc.outs.set (reqKey q.src.toNat q.txn) ⟨q, op, left, false, s.time⟩ } } ∧ op = opAtomic ∧ left
    = 0 ∧ s.idFenced q.dst.toNat = false ∧ s.reqOwner q true = .ok ∧ atomOfSize q.size.toNat = some o ∧ u.reqRead q q.addr.toNat (tySize
    q.ty.toNat) = (r, false)) ∧
(∃ s : State, ∃ q : ReqFlit, ∃ op left : Nat, ∃ u : State, ∃ g : Grp, ∃ e : XaOpen, s.up = true ∧ s.noc.outs.find (reqKey q.src.toNat
    q.txn) = none ∧ s.stale q.src.toNat = false ∧ u =
    { s with noc := { s.noc with outs := s.noc.outs.set (reqKey q.src.toNat q.txn) ⟨q, op, left, false, s.time⟩ } } ∧ op = opXadd ∧ left =
    0 ∧ s.idFenced q.dst.toNat = false ∧ s.reqOwner q true = .ok ∧ s.reqGroup q = some g ∧ g.xaClash (u.reqTgt q q.addr.toNat) q.ty.toNat
    = false ∧ g.xas.find (keyNat (u.reqTgt q q.addr.toNat).key) = some e) ∧
(∃ s : State, ∃ q : ReqFlit, ∃ op left : Nat, ∃ u : State, ∃ c ∈ [(Instr.nocRead q, opRead, (if q.size = 1#3 then 4 else 1), false),
    (.nocWrite q, opWrite, (if q.size = 1#3 then 4 else 1), true), (.nocAtomic q, opAtomic, 0, true), (.nocXadd q, opXadd, 0, true)], s.up
    = true ∧ s.noc.outs.find (reqKey q.src.toNat q.txn) = none ∧ s.stale q.src.toNat = false ∧ u =
    { s with noc := { s.noc with outs := s.noc.outs.set (reqKey q.src.toNat q.txn) ⟨q, op, left, false, s.time⟩ } } ∧ op = c.2.1 ∧ left =
    c.2.2.1 ∧ s.idFenced q.dst.toNat = true) ∧
(∃ s : State, ∃ q : ReqFlit, ∃ op left : Nat, ∃ u : State, ∃ c ∈ [(Instr.nocRead q, opRead, (if q.size = 1#3 then 4 else 1), false),
    (.nocWrite q, opWrite, (if q.size = 1#3 then 4 else 1), true), (.nocAtomic q, opAtomic, 0, true), (.nocXadd q, opXadd, 0, true)], s.up
    = true ∧ s.noc.outs.find (reqKey q.src.toNat q.txn) = none ∧ s.stale q.src.toNat = false ∧ u =
    { s with noc := { s.noc with outs := s.noc.outs.set (reqKey q.src.toNat q.txn) ⟨q, op, left, false, s.time⟩ } } ∧ op = c.2.1 ∧ left =
    c.2.2.1 ∧ s.idFenced q.dst.toNat = false ∧ s.reqOwner q c.2.2.2 = .denied) ∧
(∃ s : State, ∃ q : ReqFlit, ∃ physical : Nat, ∃ new : Option Nat, s.up = true ∧ s.stale q.src.toNat = false ∧ (new = (if physical = 0
    then none else some (physical - 1))) ∧ q.hub = false) ∧
(∃ s : State, ∃ q : ReqFlit, ∃ kind logical physical old : Nat, ∃ new : Option Nat, s.up = true ∧ s.stale q.src.toNat = false ∧ (new = (if
    physical = 0 then none else some (physical - 1))) ∧ q.hub = true ∧ s.phys kind logical = some old ∧ new ≠ some old) :=
  ⟨⟨{ up with noc := { Noc.reset with halfFails := [(7, 1)] } }, 3, 1, 7, by decide +kernel⟩,
   ⟨{ up with noc := { Noc.reset with halfFails := [(7, 2)] } }, 3, 1, 7, by decide +kernel⟩,
   ⟨up, 3, 1, 7, 0x100000, by decide +kernel⟩,
   ⟨up, 3, 1, 7, 0, by decide +kernel⟩,
   ⟨up, (⟨0, 0, 7, 0, 0, true, 0, 0, 0, 0, 0, 0, 0, 0⟩ : ReqFlit), opRead, 1,
    { ((up)) with noc := { ((up)).noc with outs := ((up)).noc.outs.set (reqKey (((⟨0, 0, 7, 0, 0, true, 0, 0, 0, 0, 0, 0, 0, 0⟩ : ReqFlit))).src.toNat (((⟨0, 0, 7, 0, 0, true, 0, 0, 0, 0, 0, 0, 0, 0⟩ : ReqFlit))).txn) ⟨((⟨0, 0, 7, 0, 0, true, 0, 0, 0, 0, 0, 0, 0, 0⟩ : ReqFlit)), (opRead), (1), false, ((up)).time⟩ } },
    by decide +kernel, by decide +kernel, by decide +kernel, rfl, by decide +kernel, by decide +kernel, by decide +kernel, by decide +kernel⟩,
   ⟨up, (⟨0, 0, 7, 0, 0, true, 0, 0, 0, 0, 0, 0, 0, 0⟩ : ReqFlit), opWrite, 1,
    { ((up)) with noc := { ((up)).noc with outs := ((up)).noc.outs.set (reqKey (((⟨0, 0, 7, 0, 0, true, 0, 0, 0, 0, 0, 0, 0, 0⟩ : ReqFlit))).src.toNat (((⟨0, 0, 7, 0, 0, true, 0, 0, 0, 0, 0, 0, 0, 0⟩ : ReqFlit))).txn) ⟨((⟨0, 0, 7, 0, 0, true, 0, 0, 0, 0, 0, 0, 0, 0⟩ : ReqFlit)), (opWrite), (1), false, ((up)).time⟩ } },
    by decide +kernel, by decide +kernel, by decide +kernel, rfl, by decide +kernel, by decide +kernel, by decide +kernel, by decide +kernel⟩,
   ⟨up, (⟨0, 0, 7, 0, 0, true, 0, 0, 0, 0, 0, 0, 0, 0⟩ : ReqFlit), opAtomic, 0,
    { ((up)) with noc := { ((up)).noc with outs := ((up)).noc.outs.set (reqKey (((⟨0, 0, 7, 0, 0, true, 0, 0, 0, 0, 0, 0, 0, 0⟩ : ReqFlit))).src.toNat (((⟨0, 0, 7, 0, 0, true, 0, 0, 0, 0, 0, 0, 0, 0⟩ : ReqFlit))).txn) ⟨((⟨0, 0, 7, 0, 0, true, 0, 0, 0, 0, 0, 0, 0, 0⟩ : ReqFlit)), (opAtomic), (0), false, ((up)).time⟩ } },
    .add, zeros (tySize 0), by decide +kernel, by decide +kernel, by decide +kernel, rfl, by decide +kernel, by decide +kernel, by decide +kernel,
    by decide +kernel, by decide +kernel, by decide +kernel⟩,
   ⟨fgst (Fn.empty.putN PDK_HIRSELS 1)
    ({ grpOf thr0 with xas := [(keyNat (Tgt.core 0x300000000000).key, (⟨.core 0x300000000000, 0, Xa.zero, 0, false⟩))] }), (⟨0, 0, 7, 0,
    0, false, 0, 0x300000000000, 0, 0, 0, 1, 0, 0⟩ : ReqFlit), opXadd, 0,
    { ((fgst (Fn.empty.putN PDK_HIRSELS 1) ({ grpOf thr0 with xas := [(keyNat (Tgt.core 0x300000000000).key, (⟨.core 0x300000000000, 0, Xa.zero, 0, false⟩))] }))) with noc := { ((fgst (Fn.empty.putN PDK_HIRSELS 1) ({ grpOf thr0 with xas := [(keyNat (Tgt.core 0x300000000000).key, (⟨.core 0x300000000000, 0, Xa.zero, 0, false⟩))] }))).noc with outs := ((fgst (Fn.empty.putN PDK_HIRSELS 1) ({ grpOf thr0 with xas := [(keyNat (Tgt.core 0x300000000000).key, (⟨.core 0x300000000000, 0, Xa.zero, 0, false⟩))] }))).noc.outs.set (reqKey (((⟨0, 0, 7, 0, 0, false, 0, 0x300000000000, 0, 0, 0, 1, 0, 0⟩ : ReqFlit))).src.toNat (((⟨0, 0, 7, 0, 0, false, 0, 0x300000000000, 0, 0, 0, 1, 0, 0⟩ : ReqFlit))).txn) ⟨((⟨0, 0, 7, 0, 0, false, 0, 0x300000000000, 0, 0, 0, 1, 0, 0⟩ : ReqFlit)), (opXadd), (0), false, ((fgst (Fn.empty.putN PDK_HIRSELS 1) ({ grpOf thr0 with xas := [(keyNat (Tgt.core 0x300000000000).key, (⟨.core 0x300000000000, 0, Xa.zero, 0, false⟩))] }))).time⟩ } },
    { grpOf thr0 with xas := [(keyNat (Tgt.core 0x300000000000).key, (⟨.core 0x300000000000, 0, Xa.zero, 0, false⟩))] }, ⟨.core
    0x300000000000, 0, Xa.zero, 0, false⟩, by decide +kernel, by decide +kernel, by decide +kernel, rfl, by decide +kernel, by decide +kernel,
    by decide +kernel, by decide +kernel, by decide +kernel, by decide +kernel, by decide +kernel⟩,
   ⟨{ up with noc := { Noc.reset with fenced := [(kStack, 3)] } }, (⟨12288, 0, 7, 0, 0, false, 0, 0, 0, 0, 0, 0, 0, 0⟩ : ReqFlit), opRead, 1,
    { (({ up with noc := { Noc.reset with fenced := [(kStack, 3)] } })) with noc := { (({ up with noc := { Noc.reset with fenced := [(kStack, 3)] } })).noc with outs := (({ up with noc := { Noc.reset with fenced := [(kStack, 3)] } })).noc.outs.set (reqKey (((⟨12288, 0, 7, 0, 0, false, 0, 0, 0, 0, 0, 0, 0, 0⟩ : ReqFlit))).src.toNat (((⟨12288, 0, 7, 0, 0, false, 0, 0, 0, 0, 0, 0, 0, 0⟩ : ReqFlit))).txn) ⟨((⟨12288, 0, 7, 0, 0, false, 0, 0, 0, 0, 0, 0, 0, 0⟩ : ReqFlit)), (opRead), (1), false, (({ up with noc := { Noc.reset with fenced := [(kStack, 3)] } })).time⟩ } },
    (Instr.nocRead ((⟨12288, 0, 7, 0, 0, false, 0, 0, 0, 0, 0, 0, 0, 0⟩ : ReqFlit)), opRead, (if (((⟨12288, 0, 7, 0, 0, false, 0, 0, 0, 0,
    0, 0, 0, 0⟩ : ReqFlit))).size = 1#3 then 4 else 1), false), List.mem_cons_self .., by decide +kernel, by decide +kernel, by decide +kernel,
    rfl, by decide +kernel, by decide +kernel, by decide +kernel⟩,
   ⟨up, (⟨0, 0, 7, 0, 0, false, 0, 0x100000000000, 0, 0, 0, 0, 0, 0⟩ : ReqFlit), opRead, 1,
    { ((up)) with noc := { ((up)).noc with outs := ((up)).noc.outs.set (reqKey (((⟨0, 0, 7, 0, 0, false, 0, 0x100000000000, 0, 0, 0, 0, 0, 0⟩ : ReqFlit))).src.toNat (((⟨0, 0, 7, 0, 0, false, 0, 0x100000000000, 0, 0, 0, 0, 0, 0⟩ : ReqFlit))).txn) ⟨((⟨0, 0, 7, 0, 0, false, 0, 0x100000000000, 0, 0, 0, 0, 0, 0⟩ : ReqFlit)), (opRead), (1), false, ((up)).time⟩ } },
    (Instr.nocRead ((⟨0, 0, 7, 0, 0, false, 0, 0x100000000000, 0, 0, 0, 0, 0, 0⟩ : ReqFlit)), opRead, (if (((⟨0, 0, 7, 0, 0, false, 0,
    0x100000000000, 0, 0, 0, 0, 0, 0⟩ : ReqFlit))).size = 1#3 then 4 else 1), false), List.mem_cons_self .., by decide +kernel, by decide +kernel,
    by decide +kernel, rfl, by decide +kernel, by decide +kernel, by decide +kernel, by decide +kernel⟩,
   ⟨up, (⟨0, 0, 7, 0, 0, false, 0, 0, 0, 0, 0, 0, 0, 0⟩ : ReqFlit), 0, none, by decide +kernel⟩,
   ⟨up, (⟨0, 0, 7, 0, 0, true, 0, 0, 0, 0, 0, 0, 0, 0⟩ : ReqFlit), kStack, 23, 0, 23, none, by decide +kernel⟩⟩

theorem witness_MeshMessages_of_MeshAnswers_1 :
(∃ s : State, ∃ r : RspFlit, s.up = true ∧ s.stale r.src.toNat = false ∧ s.noc.outs.find (reqKey r.dst.toNat r.txn) = none) ∧
(∃ s : State, ∃ r : RspFlit, ∃ o, s.up = true ∧ s.stale r.src.toNat = false ∧ s.noc.outs.find (reqKey r.dst.toNat r.txn) = some o ∧ o.op =
    opWrite) ∧
(∃ s : State, ∃ r : RspFlit, ∃ o, s.up = true ∧ s.stale r.src.toNat = false ∧ s.noc.outs.find (reqKey r.dst.toNat r.txn) = some o ∧ o.op ≠
    opWrite) ∧
(∃ s : State, ∃ r : RspFlit, ∃ o, s.up = true ∧ s.stale r.src.toNat = false ∧ s.noc.outs.find (reqKey r.dst.toNat r.txn) = some o ∧
    r.status.toNat ≠ statusFenced ∧ ((o.req.hub = true ∨ s.grp (reqGid o.req) = none))) ∧
(∃ s : State, ∃ r : RspFlit, ∃ o, s.up = true ∧ s.stale r.src.toNat = false ∧ s.noc.outs.find (reqKey r.dst.toNat r.txn) = some o ∧
    r.status.toNat = statusDenied ∧ o.req.hub = false ∧ (s.grp (reqGid o.req)).isSome = true) ∧
(∃ s : State, ∃ r : RspFlit, ∃ o, s.up = true ∧ s.stale r.src.toNat = false ∧ s.noc.outs.find (reqKey r.dst.toNat r.txn) = some o ∧
    r.status.toNat = statusPoison ∧ o.req.hub = false ∧ (s.grp (reqGid o.req)).isSome = true) ∧
(∃ s : State, ∃ r : RspFlit, ∃ o, s.up = true ∧ s.stale r.src.toNat = false ∧ s.noc.outs.find (reqKey r.dst.toNat r.txn) = some o ∧
    r.status.toNat = statusOk) ∧
(∃ s : State, ∃ r : RspFlit, ∃ o, s.up = true ∧ s.stale r.src.toNat = false ∧ s.noc.outs.find (reqKey r.dst.toNat r.txn) = some o ∧
    r.status.toNat = statusFenced ∧ s.remapped o.req = true) ∧
(∃ s : State, ∃ r : RspFlit, ∃ o, s.up = true ∧ s.stale r.src.toNat = false ∧ s.noc.outs.find (reqKey r.dst.toNat r.txn) = some o ∧
    r.status.toNat = statusFenced ∧ s.remapped o.req = false) ∧
(∃ s : State, ∃ d : DatFlit, ∃ o : NocReq, ∃ base : Nat, s.up = true ∧ s.stale d.src.toNat = false ∧ d.crcOk = true ∧ s.cohDat d = none ∧
    s.noc.outs.find (reqKey d.src.toNat d.txn) = some o ∧ o.op = opWrite ∧ o.granted = true ∧ o.req.dst = d.dst ∧ s.reqGroup o.req = none
    ∧ d.poison = false ∧ d.byteEn = 0xFFFFFFFFFFFFFFFF#64 ∧ (base = (if o.req.size = 1#3 then o.req.addr.toNat / 256 * 256 + 64 *
    d.index.toNat else o.req.addr.toNat / 64 * 64)) ∧ s.stackFenced base = false) ∧
(∃ s : State, ∃ d : DatFlit, ∃ o : NocReq, s.up = true ∧ s.stale d.src.toNat = false ∧ d.crcOk = true ∧ s.cohDat d = none ∧
    s.noc.outs.find (reqKey d.src.toNat d.txn) = none ∧ s.noc.outs.find (reqKey d.dst.toNat d.txn) = some o ∧ o.op = opRead ∧ d.poison =
    false) ∧
(∃ s : State, ∃ router entry k : Nat, s.up = true ∧ entry < 16 ∧ k = router * 64 + entry ∧ router ∉ routeHolders) :=
  ⟨⟨up, ⟨0, 0, 7, (0), 0⟩, by decide +kernel⟩,
   ⟨{ up with noc := { Noc.reset with outs := [(reqKey 0 7, ((⟨((⟨0, 0, 7, 0, 0, false, 0, 0, 0, 0, 0, 0, 0, 0⟩ : ReqFlit)), (opWrite), 1, true, 0⟩ : NocReq)))] } },
    ⟨0, 0, 7, (0), 0⟩, (⟨((⟨0, 0, 7, 0, 0, false, 0, 0, 0, 0, 0, 0, 0, 0⟩ : ReqFlit)), (opWrite), 1, true, 0⟩ : NocReq), by decide +kernel⟩,
   ⟨{ up with noc := { Noc.reset with outs := [(reqKey 0 7, ((⟨((⟨0, 0, 7, 0, 0, false, 0, 0, 0, 0, 0, 0, 0, 0⟩ : ReqFlit)), (opRead), 1, true, 0⟩ : NocReq)))] } },
    ⟨0, 0, 7, (0), 0⟩, (⟨((⟨0, 0, 7, 0, 0, false, 0, 0, 0, 0, 0, 0, 0, 0⟩ : ReqFlit)), (opRead), 1, true, 0⟩ : NocReq), by decide +kernel⟩,
   ⟨{ up with noc := { Noc.reset with outs := [(reqKey 0 7, ((⟨((⟨0, 0, 7, 0, 0, true, 0, 0, 0, 0, 0, 0, 0, 0⟩ : ReqFlit)), (opRead), 1, true, 0⟩ : NocReq)))] } },
    ⟨0, 0, 7, (0), 0⟩, (⟨((⟨0, 0, 7, 0, 0, true, 0, 0, 0, 0, 0, 0, 0, 0⟩ : ReqFlit)), (opRead), 1, true, 0⟩ : NocReq), by decide +kernel⟩,
   ⟨{ (gst thr0) with noc := { Noc.reset with outs := [(reqKey 0 7, ((⟨((⟨0, 0, 7, 0, 0, false, 0, 0, 0, 0, 0, 0, 0, 0⟩ : ReqFlit)), (opRead), 1, true, 0⟩ : NocReq)))] } },
    ⟨0, 0, 7, (3), 0⟩, (⟨((⟨0, 0, 7, 0, 0, false, 0, 0, 0, 0, 0, 0, 0, 0⟩ : ReqFlit)), (opRead), 1, true, 0⟩ : NocReq), by decide +kernel⟩,
   ⟨{ (gst thr0) with noc := { Noc.reset with outs := [(reqKey 0 7, ((⟨((⟨0, 0, 7, 0, 0, false, 0, 0, 0, 0, 0, 0, 0, 0⟩ : ReqFlit)), (opRead), 1, true, 0⟩ : NocReq)))] } },
    ⟨0, 0, 7, (1), 0⟩, (⟨((⟨0, 0, 7, 0, 0, false, 0, 0, 0, 0, 0, 0, 0, 0⟩ : ReqFlit)), (opRead), 1, true, 0⟩ : NocReq), by decide +kernel⟩,
   ⟨{ up with noc := { Noc.reset with outs := [(reqKey 0 7, ((⟨((⟨0, 0, 7, 0, 0, false, 0, 0, 0, 0, 0, 0, 0, 0⟩ : ReqFlit)), (opRead), 1, true, 0⟩ : NocReq)))] } },
    ⟨0, 0, 7, (0), 0⟩, (⟨((⟨0, 0, 7, 0, 0, false, 0, 0, 0, 0, 0, 0, 0, 0⟩ : ReqFlit)), (opRead), 1, true, 0⟩ : NocReq), by decide +kernel⟩,
   ⟨{ up with noc := { Noc.reset with outs := [(reqKey 0 7, ((⟨((⟨12288, 0, 7, 0, 0, false, 0, 0, 0, 0, 0, 0, 0, 0⟩ : ReqFlit)), (opRead), 1, true, 0⟩ : NocReq)))] }, sdg := { Sdg.reset with pinfold := [⟨2 * 2 ^ 59 + 3 * 2 ^ 24 + 2 ^ 50, 0⟩] } },
    ⟨0, 0, 7, (2), 0⟩, (⟨((⟨12288, 0, 7, 0, 0, false, 0, 0, 0, 0, 0, 0, 0, 0⟩ : ReqFlit)), (opRead), 1, true, 0⟩ : NocReq), by decide +kernel⟩,
   ⟨{ up with noc := { Noc.reset with outs := [(reqKey 0 7, ((⟨((⟨0, 0, 7, 0, 0, false, 0, 0, 0, 0, 0, 0, 0, 0⟩ : ReqFlit)), (opRead), 1, true, 0⟩ : NocReq)))] } },
    ⟨0, 0, 7, (2), 0⟩, (⟨((⟨0, 0, 7, 0, 0, false, 0, 0, 0, 0, 0, 0, 0, 0⟩ : ReqFlit)), (opRead), 1, true, 0⟩ : NocReq), by decide +kernel⟩,
   ⟨{ up with noc := { Noc.reset with outs := [(reqKey 0 7, ((⟨((⟨0, 0, 7, 0, 0, false, 0, 0, 0, 0, 0, 0, 0, 0⟩ : ReqFlit)), (opWrite), 1, true, 0⟩ : NocReq)))] } },
    ⟨0, (0), 7, 0, false, 0, 0xFFFFFFFFFFFFFFFF, zeros 64, true⟩, (⟨((⟨0, 0, 7, 0, 0, false, 0, 0, 0, 0, 0, 0, 0, 0⟩ : ReqFlit)),
    (opWrite), 1, true, 0⟩ : NocReq), 0, by decide +kernel⟩,
   ⟨{ up with noc := { Noc.reset with outs := [(reqKey 0 7, ((⟨((⟨0, 0, 7, 0, 0, false, 0, 0, 0, 0, 0, 0, 0, 0⟩ : ReqFlit)), (opRead), 1, true, 0⟩ : NocReq)))] } },
    ⟨0, (12288), 7, 0, false, 0, 0xFFFFFFFFFFFFFFFF, zeros 64, true⟩, (⟨((⟨0, 0, 7, 0, 0, false, 0, 0, 0, 0, 0, 0, 0, 0⟩ : ReqFlit)),
    (opRead), 1, true, 0⟩ : NocReq), by decide +kernel⟩,
   ⟨up, 0, 15, (0) * 64 + 15, by decide +kernel⟩⟩

theorem witness_MeshMessages_of_MeshAnswers_2 :
(∃ s : State, ∃ router entry k : Nat, s.up = true ∧ entry < 16 ∧ k = router * 64 + entry ∧ router ∈ routeHolders) ∧
(∃ s : State, ∃ owner granule line : Nat, s.up = true ∧ line = granule * 4 + 3 ∧ line * 64 < hbmTop ∧ s.slices owner 1 ≠ [] ∧ line ∉
    s.poison ∧ s.stackFenced (line * 64) = false) :=
  ⟨⟨up, 219, 15, (219) * 64 + 15, by decide +kernel⟩,
   ⟨pst Fn.empty, 0, 0, 3, by decide +kernel⟩⟩

theorem witness_CoherentWindow :
(∃ s : State, ∃ q : ReqFlit, ∃ c : Instr, ∃ kind : TxnKind, ∃ g l : Nat, ∃ need : Bool, ∃ hs : SMap Moesi, (c, kind) ∈ [(Instr.rdShared q,
    TxnKind.shared), (.rdUnique q, .unique), (.upgrade q, .upgrade), (.writeback q, .writeback)] ∧ s.up = true ∧ s.stale q.src.toNat =
    false ∧ s.agentOf q.src.toNat = some g ∧ s.agentActive g = true ∧ s.inWindow q.addr.toNat = true ∧ l = lineOf q.addr.toNat ∧ need =
    (kind != .writeback && (s.line l).home == .absent) ∧ (hs = (if kind = .writeback ∧ (s.line l).holder g = .e then (s.line
    l).holders.set g .m else (s.line l).holders)) ∧ (s.line l).lock = none) ∧
(∃ s : State, ∃ q : ReqFlit, ∃ c : Instr, ∃ kind : TxnKind, ∃ g l : Nat, ∃ need : Bool, ∃ hs : SMap Moesi, (c, kind) ∈ [(Instr.rdShared q,
    TxnKind.shared), (.rdUnique q, .unique), (.upgrade q, .upgrade), (.writeback q, .writeback)] ∧ s.up = true ∧ s.stale q.src.toNat =
    false ∧ s.agentOf q.src.toNat = some g ∧ s.agentActive g = true ∧ s.inWindow q.addr.toNat = true ∧ l = lineOf q.addr.toNat ∧ need =
    (kind != .writeback && (s.line l).home == .absent) ∧ (hs = (if kind = .writeback ∧ (s.line l).holder g = .e then (s.line
    l).holders.set g .m else (s.line l).holders)) ∧ (s.line l).lock ≠ none) ∧
(∃ s : State, ∃ q : ReqFlit, ∃ c : Instr, ∃ kind : TxnKind, (c, kind) ∈ [(Instr.rdShared q, TxnKind.shared), (.rdUnique q, .unique),
    (.upgrade q, .upgrade), (.writeback q, .writeback)] ∧ s.up = true ∧ s.stale q.src.toNat = false ∧ (s.agentOf q.src.toNat = none ∨
    s.inWindow q.addr.toNat = false)) ∧
(∃ s : State, ∃ l : Nat, (s.line l).lock = none) ∧
(∃ s : State, ∃ l : Nat, ∃ x : CohTxn, ∃ k : TxnKind, (s.line l).lock = some x ∧ x.goSent = true ∧ x.launched = false ∧ x.kind ≠
    .writeback ∧ (k = (if x.kind = .upgrade ∧ (s.line l).holder x.agent = .i then .unique else x.kind))) ∧
(∃ s : State, ∃ l a : Nat, ∃ x : CohTxn, ∃ c : Instr, ∃ k : TxnKind, ∃ r : Moesi × Bool, (c, k) ∈ [(Instr.snpShared l a, TxnKind.shared),
    (.snpUnique l a, .unique), (.snpInvalid l a, .upgrade)] ∧ (s.line l).lock = some x ∧ x.launched = true ∧ x.lapDone = false ∧ x.snoop =
    k ∧ a ≠ x.agent ∧ a ∉ x.passed ∧ s.agentGone a = false ∧ r = answerSnoop ((s.line l).holder a) k x.needPush ∧ k = .unique) ∧
(∃ s : State, ∃ l a : Nat, ∃ x : CohTxn, ∃ c : Instr, ∃ k : TxnKind, ∃ r : Moesi × Bool, (c, k) ∈ [(Instr.snpShared l a, TxnKind.shared),
    (.snpUnique l a, .unique), (.snpInvalid l a, .upgrade)] ∧ (s.line l).lock = some x ∧ x.launched = true ∧ x.lapDone = false ∧ x.snoop =
    k ∧ a ≠ x.agent ∧ a ∉ x.passed ∧ s.agentGone a = false ∧ r = answerSnoop ((s.line l).holder a) k x.needPush ∧ r.2 = true) ∧
(∃ s : State, ∃ l a : Nat, ∃ x : CohTxn, ∃ c : Instr, ∃ k : TxnKind, ∃ r : Moesi × Bool, (c, k) ∈ [(Instr.snpShared l a, TxnKind.shared),
    (.snpUnique l a, .unique), (.snpInvalid l a, .upgrade)] ∧ (s.line l).lock = some x ∧ x.launched = true ∧ x.lapDone = false ∧ x.snoop =
    k ∧ a ≠ x.agent ∧ a ∉ x.passed ∧ s.agentGone a = false ∧ r = answerSnoop ((s.line l).holder a) k x.needPush ∧ r.2 = false) ∧
(∃ s : State, ∃ l : Nat, ∃ x : CohTxn, (s.line l).lock = some x ∧ x.launched = true ∧ x.kind ≠ .writeback ∧ x.lapDone = false ∧ ((∀ h ∈
    (s.line l).holders, h.1 = x.agent ∨ h.1 ∈ x.passed))) ∧
(∃ s : State, ∃ l : Nat, ∃ x : CohTxn, (s.line l).lock = some x ∧ x.kind ≠ .writeback ∧ x.lapDone = true ∧ x.granted = false ∧ (x.pushed =
    true ∧ x.pushIn = false ∨ x.awaiting ≠ [])) ∧
(∃ s : State, ∃ l : Nat, ∃ x : CohTxn, (s.line l).lock = some x ∧ x.kind ≠ .writeback ∧ x.lapDone = true ∧ x.granted = false ∧ (x.pushed =
    false ∨ x.pushIn = true) ∧ x.awaiting = [] ∧ x.lost = false ∧ (s.line l).home ≠ .absent) ∧
(∃ s : State, ∃ l : Nat, ∃ x : CohTxn, (s.line l).lock = some x ∧ x.granted = true ∧ x.kind ≠ .writeback ∧ (s.line l).queue = []) :=
  ⟨⟨cohSt CohLine.empty, (⟨0, 721920, 7, 0, 0, false, 0, 0, 0, 0, 0, 0, 0, 0⟩ : ReqFlit), .rdShared ((⟨0, 721920, 7, 0, 0, false, 0, 0, 0, 0,
    0, 0, 0, 0⟩ : ReqFlit)), .shared, 19, 0, true, [], by decide +kernel⟩,
   ⟨cohSt { CohLine.empty with lock := some (((newTxn (0) 0 (.shared) 0))) }, (⟨0, 721920, 7, 0, 0, false, 0, 0, 0, 0, 0, 0, 0, 0⟩ :
    ReqFlit), .rdShared ((⟨0, 721920, 7, 0, 0, false, 0, 0, 0, 0, 0, 0, 0, 0⟩ : ReqFlit)), .shared, 19, 0, true, [], by decide +kernel⟩,
   ⟨up, (⟨0, 721920, 7, 0, 0, false, 0, 0, 0, 0, 0, 0, 0, 0⟩ : ReqFlit), .rdShared ((⟨0, 721920, 7, 0, 0, false, 0, 0, 0, 0, 0, 0, 0, 0⟩ :
    ReqFlit)), .shared, by decide +kernel⟩,
   ⟨cohSt CohLine.empty, 0, by decide +kernel⟩,
   ⟨cohSt { CohLine.empty with lock := some ((({ (newTxn (0) 0 (.upgrade) 0) with goSent := true } : CohTxn))) }, 0,
    ({ (newTxn (0) 0 (.upgrade) 0) with goSent := true } : CohTxn), .unique, by decide +kernel⟩,
   ⟨cohSt { CohLine.empty with lock := some ((({ (newTxn (0) 0 ((.unique)) 0) with launched := true, snoop := (.unique) } : CohTxn))) }, 0,
    23, ({ (newTxn (0) 0 ((.unique)) 0) with launched := true, snoop := (.unique) } : CohTxn), .snpUnique (0) (23), .unique, (.i, false),
    by decide +kernel⟩,
   ⟨cohSt
    { CohLine.empty with lock := some ((({ (newTxn (0) 0 ((.shared)) 0) with launched := true, snoop := (.shared) } : CohTxn))), holders := [(23, .m)] },
    0, 23, ({ (newTxn (0) 0 ((.shared)) 0) with launched := true, snoop := (.shared) } : CohTxn), .snpShared (0) (23), .shared, (.o,
    true), by decide +kernel⟩,
   ⟨cohSt
    { CohLine.empty with lock := some ((({ (newTxn (0) 0 ((.upgrade)) 0) with launched := true, snoop := (.upgrade) } : CohTxn))), holders := [(23, .s)] },
    0, 23, ({ (newTxn (0) 0 ((.upgrade)) 0) with launched := true, snoop := (.upgrade) } : CohTxn), .snpInvalid (0) (23), .upgrade, (.i,
    false), by decide +kernel⟩,
   ⟨cohSt { CohLine.empty with lock := some ((({ (newTxn (0) 0 (.shared) 0) with launched := true } : CohTxn))) }, 0,
    ({ (newTxn (0) 0 (.shared) 0) with launched := true } : CohTxn), by decide +kernel⟩,
   ⟨cohSt { CohLine.empty with lock := some ((({ (newTxn (0) 0 (.shared) 0) with lapDone := true, pushed := true } : CohTxn))) }, 0,
    ({ (newTxn (0) 0 (.shared) 0) with lapDone := true, pushed := true } : CohTxn), by decide +kernel⟩,
   ⟨cohSt { CohLine.empty with lock := some ((({ (newTxn (0) 0 (.shared) 0) with lapDone := true } : CohTxn))), home := .clean }, 0,
    ({ (newTxn (0) 0 (.shared) 0) with lapDone := true } : CohTxn), by decide +kernel⟩,
   ⟨cohSt { CohLine.empty with lock := some ((({ (newTxn (0) 0 (.shared) 0) with granted := true } : CohTxn))) }, 0,
    ({ (newTxn (0) 0 (.shared) 0) with granted := true } : CohTxn), by decide +kernel⟩⟩

theorem witness_MemoryControllers_1 :
(∃ s : State, ∃ stack temp : Nat, s.up = true ∧ stack < 24 ∧ s.vacant kStack stack = false ∧ temp ≤ 105) ∧
(∃ s : State, ∃ stack temp : Nat, s.up = true ∧ stack < 24 ∧ s.vacant kStack stack = false ∧ 105 < temp) ∧
(∃ s : State, ∃ stack : Nat, s.up = true ∧ stack < 24 ∧ s.vacant kStack stack = false ∧ s.fencedUnit kStack stack = true) ∧
(∃ s : State, ∃ e : Nat, s.up = true ∧ e < 1536) ∧
(∃ s : State, ∃ line : Nat, s.up = true ∧ line * 64 < hbmTop ∧ s.vacant kStack (s.stackOf (line * 64)) = false ∧ line ∈ s.poison) ∧
(∃ s : State, ∃ line : Nat, s.up = true ∧ line * 64 < hbmTop ∧ s.vacant kStack (s.stackOf (line * 64)) = false ∧ line ∉ s.poison ∧
    s.pastureLine (line * 64) = none) ∧
(∃ s : State, ∃ g : Nat, s.running = true ∧ s.ms.pastureLost = [g] ∧ fieldOf (s.hubNat MCT_TWIN_STATUS) 4 4 = g ∧ s.hubNat MCT_TWIN_STATUS
    % 4 ≠ 0 ∧ fieldOf (s.hubNat MCT_PASTURE_CFG) 16 16 ≠ 0) ∧
(∃ s : State, ∃ n : Nat, s.running = true ∧ (s.fn n).tmpl ≠ [] ∧ s.vacant kStack (s.fn n).standby = false ∧ s.fnNat n JRN_STATUS % 4 ≠ 0 ∧
    s.vacant kStack (fieldOf (s.fnNat n JRN_STATUS) 8 8) = true) ∧
(∃ s : State, ∃ n : Nat, s.hubNat MCT_TWIN_STATUS % 4 = 0 ∧ s.fnNat n JRN_STATUS % 4 = 0) ∧
(∃ s : State, ∃ v : W32, s.up = true ∧ bitOf v.toNat 31 = true ∧ v.toNat % 2 ^ 11 < 1536) ∧
(∃ s : State, ∃ v : W32, s.up = true ∧ bitOf v.toNat 31 = false) ∧
(∃ s : State, s.ms.margin = none) :=
  ⟨⟨up, 23, 105, by decide +kernel⟩,
   ⟨up, 23, 106, by decide +kernel⟩,
   ⟨{ up with noc := { Noc.reset with fenced := [(kStack, 23)] } }, 23, by decide +kernel⟩,
   ⟨up, 1535, by decide +kernel⟩,
   ⟨{ up with poison := [3] }, 3, by decide +kernel⟩,
   ⟨up, 3, by decide +kernel⟩,
   ⟨hubs { rdy with ms := { MemSys.reset with pastureLost := [5] } } [(MCT_TWIN_STATUS, 81), (MCT_PASTURE_CFG, 65536)], 5, by decide +kernel⟩,
   ⟨{ fst (({ Fn.empty with tmpl := zeros 1 } : Fn).putN JRN_STATUS 0x501) with noc := { Noc.reset with maps := [(kStack * 65536 + 5, 0)] } },
    0, by decide +kernel⟩,
   ⟨up, 0, by decide +kernel⟩,
   ⟨up, 0x800005FF, by decide +kernel⟩,
   ⟨up, 0, by decide +kernel⟩,
   ⟨up, by decide +kernel⟩⟩

theorem witness_MemoryControllers_2 :
∃ s : State, s.ms.margin ≠ none :=
⟨{ up with ms := { MemSys.reset with margin := some 0 } }, by decide +kernel⟩

theorem witness_BandwidthRegulation :
(∃ s : State, s.up = true ∧ s.time % 1000 ≠ 0) ∧
(∃ s : State, s.up = true ∧ s.time % 1000 = 0) ∧
(∃ s : State, ∃ o c n : Nat, ∃ a : ChargeKind, s.up = true ∧ s.isFlow o c = true ∧ n = chargeBytes a (o != ownerHub && s.integrity o) ∧ o
    ≠ ownerHub ∧ s.confidential o = false) ∧
(∃ s : State, ∃ o c n : Nat, ∃ a : ChargeKind, s.up = true ∧ s.isFlow o c = true ∧ n = chargeBytes a (o != ownerHub && s.integrity o) ∧
    s.confidential o = true) ∧
(∃ s : State, ∃ o c : Nat, s.up = true ∧ s.isFlow o c = true ∧ realTime o c = false) ∧
(∃ s : State, ∃ o c : Nat, s.up = true ∧ s.isFlow o c = true ∧ realTime o c = true) ∧
(∃ s : State, ∃ e : Nat, s.up = true ∧ e < 1536) ∧
(∃ s : State, ∃ g : Nat, s.up = true ∧ (g ∉ s.ms.shortfall ∨ s.time < s.ms.lastLog.get 0 g + 100000000)) ∧
(∃ s : State, ∃ g : Nat, s.up = true ∧ g ∈ s.ms.shortfall ∧ s.ms.lastLog.get 0 g + 100000000 ≤ s.time) :=
  ⟨⟨{ up with time := 1 }, by decide +kernel⟩,
   ⟨up, by decide +kernel⟩,
   ⟨{ up with fns := [(31, { Fn.empty with tmpl := zeros 1 })] }, 31, 0, 256, .readMiss, by decide +kernel⟩,
   ⟨({ up with fns := [(31, { Fn.empty with tmpl := zeros 1 })] } : State).hubSetN (SEC_PADDOCK_CFG + 124) 1, 31, 0, 256, .readMiss, by
    decide +kernel⟩,
   ⟨up, ownerHub, 11, by decide +kernel⟩,
   ⟨up, ownerHub, 8, by decide +kernel⟩,
   ⟨up, 0, by decide +kernel⟩,
   ⟨up, 0, by decide +kernel⟩,
   ⟨{ up with ms := { MemSys.reset with shortfall := [5] }, time := 100000000 }, 5, by decide +kernel⟩⟩

theorem witness_Sheepdog_1 :
(∃ s : State, ∃ r : Report, s.up = true ∧ (r.cause = 0 ∨ cRecoveryLimit < r.cause)) ∧
(∃ s : State, ∃ r : Report, s.up = true ∧ r.cause = cSramCe ∧ r.block = 0x14) ∧
(∃ s : State, ∃ r : Report, s.up = true ∧ r.cause ∈ [cMeshLost, cJournalLost, cKeyUnwrap, cHubRail, cThermalTrip, cShepherdAll,
    cRecoveryLimit]) ∧
(∃ s : State, ∃ r : Report, s.up = true ∧ r.cause ∈ [cResidue, cDuplicate, cCompletion] ∧ fencedAtOnce r.kind = false) ∧
(∃ s : State, ∃ r : Report, s.up = true ∧ r.cause = cE2eCrc) ∧
(∃ s : State, ∃ r : Report, s.up = true ∧ fencedAtOnce r.kind = false) ∧
(∃ s : State, ∃ cause : Nat, ∃ self : Bool, cause < 256 ∧ (s.safe = false ∨ self = true)) ∧
(∃ cause : Nat, ∃ self : Bool, cause < 256 ∧ self = true) ∧
(∃ s : State, s.mayExit = false) ∧
(∃ s : State, s.mayExit = true ∧ s.hubNat SDG_RECOVERY_LIMIT % 256 < s.recentExits.length) ∧
(∃ s : State, s.mayExit = true ∧ s.recentExits.length ≤ s.hubNat SDG_RECOVERY_LIMIT % 256) ∧
(∃ s : State, s.up = true) :=
  ⟨⟨up, ⟨0, .uc, 0, 0, 0, 0, false, 0, 0, 0, 0, []⟩, by decide +kernel⟩,
   ⟨up, ⟨cSramCe, .uc, 0, 0x14, 0, 0, false, 0, 0, 0, 0, []⟩, by decide +kernel⟩,
   ⟨up, ⟨cRecoveryLimit, .uc, 0, 0, 0, 0, false, 0, 0, 0, 0, []⟩, by decide +kernel⟩,
   ⟨up, ⟨cCompletion, .uc, 0, 0, 0, 0, false, 0, 0, kStack, 0, []⟩, by decide +kernel⟩,
   ⟨up, ⟨cE2eCrc, .uc, 0, 0, 0, 0, false, 0, 0, 0, 0, []⟩, by decide +kernel⟩,
   ⟨up, ⟨0, .uc, 0, 0, 0, 0, false, 0, 0, kStack, 0, []⟩, by decide +kernel⟩,
   ⟨up, 255, false, by decide +kernel⟩,
   ⟨255, true, by decide +kernel⟩,
   ⟨up, by decide +kernel⟩,
   ⟨hubs { rdy with sdg := { Sdg.reset with exits := [0] } } [(SDG_STATUS, 0x80000000)], by decide +kernel⟩,
   ⟨hubs { rdy with sdg := { Sdg.reset with exits := [] } } [(SDG_STATUS, 0x80000000)], by decide +kernel⟩,
   ⟨up, by decide +kernel⟩⟩

theorem witness_Sheepdog_2 :
(∃ s : State, s.up = true ∧ s.safe = true) ∧
(∃ s : State, s.up = true ∧ s.safe = false) :=
  ⟨⟨hubs { rdy with sdg := { Sdg.reset with exits := [] } } [(SDG_STATUS, 0x80000000)], by decide +kernel⟩,
   ⟨up, by decide +kernel⟩⟩

theorem witness_OpticalTraining_1 :
(∃ k : Nat, k < 4) ∧
(∃ p : Nat, p < 16) ∧
(∃ s : State, ∃ p : Nat, s.up = true ∧ p < 16 ∧ s.portState p ≠ psExcluded) ∧
(∃ s : State, ∃ p : Nat, s.up = true ∧ p < 16 ∧ s.portState p = psExcluded ∧ (fieldOf (s.hubNat (LNK_PORT_STATUS + 4 * p)) 24 4 =
    rsNoTrain ∨ fieldOf (s.hubNat (LNK_PORT_STATUS + 4 * p)) 24 4 = rsLinkLost)) ∧
(∃ s : State, ∃ p : Nat, s.linksUp = true ∧ p < 16 ∧ s.training p = true ∧ ((s.port p).identOk = false ∨ (s.port p).keyed = false)) ∧
(∃ s : State, ∃ p : Nat, ∃ width, s.linksUp = true ∧ p < 16 ∧ s.training p = true ∧ (s.port p).identOk = true ∧ (s.port p).keyed = true ∧
    width < portWidthMin (s.portCfg p)) ∧
(∃ s : State, ∃ p : Nat, ∃ width, s.linksUp = true ∧ p < 16 ∧ s.training p = true ∧ (s.port p).identOk = true ∧ (s.port p).keyed = true ∧
    portWidthMin (s.portCfg p) ≤ width) ∧
(∃ s : State, ∃ p : Nat, ∃ i : IdentMsg, s.linksUp = true ∧ p < 16 ∧ s.training p = true ∧ s.unusedPort p = false ∧ s.carries p = false ∧
    s.portState p ≠ psFencedPeer ∧ s.miswired p i = true) ∧
(∃ s : State, ∃ p : Nat, ∃ i : IdentMsg, s.linksUp = true ∧ p < 16 ∧ s.training p = true ∧ s.unusedPort p = false ∧ s.carries p = false ∧
    s.portState p ≠ psFencedPeer ∧ s.miswired p i = false ∧ max (portWidthMin (s.portCfg p)) i.widthMin ≤ (s.port p).lanes.length) ∧
(∃ s : State, ∃ p : Nat, s.linksUp = true ∧ p < 16 ∧ s.training p = true ∧ (s.port p).identOk = true ∧ s.lowerEnd p = false) ∧
(∃ s : State, ∃ p : Nat, ∃ k : KeyxMsg, ∃ body, ∃ log, s.linksUp = true ∧ p < 16 ∧ s.training p = true ∧ (s.port p).identOk = true ∧
    (s.port p).kx = 1 ∧ body = kxBody 2 0 k.share k.credential (beBytes 96 k.signature) ∧ log = (s.port p).kxLog ++ body) ∧
(∃ s : State, ∃ p : Nat, ∃ k : KeyxMsg, ∃ body, s.linksUp = true ∧ p < 16 ∧ s.training p = true ∧ (s.port p).identOk = true ∧ (s.port
    p).kx = 2 ∧ body = kxBody 3 0 0 [] (beBytes 96 k.signature)) :=
  ⟨⟨3, by decide +kernel⟩,
   ⟨15, by decide +kernel⟩,
   ⟨up, 15, by decide +kernel⟩,
   ⟨lnk 0 (4 * 2 ^ 28 + 2 * 2 ^ 24) Port.empty, 15, by decide +kernel⟩,
   ⟨lnk 0 (2 ^ 28) Port.empty, 15, by decide +kernel⟩,
   ⟨lnk 256 (2 ^ 28) { Port.empty with identOk := true, keyed := true }, 15, 0, by decide +kernel⟩,
   ⟨lnk 256 (2 ^ 28) { Port.empty with identOk := true, keyed := true }, 15, 1, by decide +kernel⟩,
   ⟨lnk (7 * 2 ^ 28) (2 ^ 28) Port.empty, 15, ⟨0, 1, 0, 7, 0, 0, 0, 0⟩, by decide +kernel⟩,
   ⟨lnk (7 * 2 ^ 28) (2 ^ 28) Port.empty, 15, ⟨0, 0, 0, 7, 0, 0, 0, 0⟩, by decide +kernel⟩,
   ⟨lnk 0 (2 ^ 28) { Port.empty with identOk := true }, 15, by decide +kernel⟩,
   ⟨lnk 0 (2 ^ 28) { Port.empty with identOk := true, kx := 1 }, 15, (⟨0, [], 0, 0⟩ : KeyxMsg), kxBody 2 0 (((⟨0, [], 0, 0⟩ :
    KeyxMsg))).share (((⟨0, [], 0, 0⟩ : KeyxMsg))).credential (beBytes 96 (((⟨0, [], 0, 0⟩ : KeyxMsg))).signature), (((lnk 0 (2 ^ 28)
    { Port.empty with identOk := true, kx := 1 })).port 15).kxLog ++ (kxBody 2 0 (((⟨0, [], 0, 0⟩ : KeyxMsg))).share (((⟨0, [], 0, 0⟩ :
    KeyxMsg))).credential (beBytes 96 (((⟨0, [], 0, 0⟩ : KeyxMsg))).signature)), by decide +kernel, by decide +kernel, by decide +kernel,
    by decide +kernel, by decide +kernel, rfl, rfl⟩,
   ⟨lnk 0 (2 ^ 28) { Port.empty with identOk := true, kx := 2 }, 15, (⟨0, [], 0, 0⟩ : KeyxMsg), kxBody 3 0 0 [] (beBytes 96 (((⟨0, [], 0, 0⟩
    : KeyxMsg))).signature), by decide +kernel, by decide +kernel, by decide +kernel, by decide +kernel, by decide +kernel, rfl⟩⟩

theorem witness_OpticalTraining_2 :
(∃ s : State, ∃ p : Nat, s.linksUp = true ∧ p < 16 ∧ s.training p = true ∧ (s.port p).identOk = true ∧ (s.port p).keyed = false) ∧
(∃ s : State, ∃ p : Nat, s.linksUp = true ∧ p < 16 ∧ s.training p = true ∧ (s.port p).identOk = true ∧ (s.port p).keyed = true) ∧
(∃ s : State, ∃ p gen : Nat, s.linksUp = true ∧ p < 16 ∧ s.carries p = true ∧ (s.port p).keyed = true ∧ gen = ((s.port p).keyGen + 1) %
    65536 ∧ (s.port p).kx = 0 ∧ ((s.port p).keyedAt + s.hubNat LNK_REKEY_MS * 1000000 ≤ s.time ∨ 2 ^ 32 ≤ (s.port p).sent)) ∧
(∃ s : State, ∃ p gen : Nat, s.linksUp = true ∧ p < 16 ∧ s.carries p = true ∧ (s.port p).keyed = true ∧ gen = ((s.port p).keyGen + 1) %
    65536 ∧ s.time < (s.port p).keyedAt + s.hubNat LNK_REKEY_MS * 1000000 ∧ (s.port p).sent < 2 ^ 32) ∧
(∃ s : State, ∃ p gen : Nat, s.linksUp = true ∧ p < 16 ∧ s.carries p = true ∧ (s.port p).keyed = true ∧ gen = ((s.port p).keyGen + 1) %
    65536 ∧ ((s.port p).kx = 0 ∨ s.lowerEnd p = false)) ∧
(∃ s : State, ∃ p gen : Nat, s.linksUp = true ∧ p < 16 ∧ s.carries p = true ∧ (s.port p).keyed = true ∧ gen = ((s.port p).keyGen + 1) %
    65536 ∧ (s.port p).kx = 3 ∧ s.lowerEnd p = true) ∧
(∃ s : State, ∃ p gen : Nat, s.linksUp = true ∧ p < 16 ∧ s.carries p = true ∧ (s.port p).keyed = true ∧ gen = ((s.port p).keyGen + 1) %
    65536 ∧ (s.port p).kx ≠ 3) ∧
(∃ s : State, ∃ p gen : Nat, s.linksUp = true ∧ p < 16 ∧ s.carries p = true ∧ (s.port p).keyed = true ∧ gen = ((s.port p).keyGen + 1) %
    65536 ∧ (s.port p).kx = 3 ∧ (s.port p).kxAt + 10000000 ≤ s.time) ∧
(∃ s : State, ∃ p gen : Nat, s.linksUp = true ∧ p < 16 ∧ s.carries p = true ∧ (s.port p).keyed = true ∧ gen = ((s.port p).keyGen + 1) %
    65536 ∧ s.time < (s.port p).kxAt + 10000000) :=
  ⟨⟨lnk 0 (2 ^ 28) { Port.empty with identOk := true }, 15, by decide +kernel⟩,
   ⟨lnk 0 (2 ^ 28) { Port.empty with identOk := true, keyed := true }, 15, by decide +kernel⟩,
   ⟨lnk 0 (2 * 2 ^ 28) { Port.empty with keyed := true, sent := 2 ^ 32 }, 15, 1, by decide +kernel⟩,
   ⟨(lnk 0 (2 * 2 ^ 28) { Port.empty with keyed := true, sent := 2 ^ 32 - 1 }).hubSetN LNK_REKEY_MS 1, 15, 1, by decide +kernel⟩,
   ⟨lnk 0 (2 * 2 ^ 28) { Port.empty with keyed := true }, 15, 1, by decide +kernel⟩,
   ⟨lnk 0 (2 * 2 ^ 28 + 128) { Port.empty with keyed := true, kx := 3 }, 15, 1, by decide +kernel⟩,
   ⟨lnk 0 (2 * 2 ^ 28) { Port.empty with keyed := true }, 15, 1, by decide +kernel⟩,
   ⟨{ lnk 0 (2 * 2 ^ 28) { Port.empty with keyed := true, kx := 3 } with time := 10000000 }, 15, 1, by decide +kernel⟩,
   ⟨{ lnk 0 (2 * 2 ^ 28) { Port.empty with keyed := true, kx := 3 } with time := 9999999 }, 15, 1, by decide +kernel⟩⟩

theorem witness_LinkTraffic_1 :
(∃ s : State, ∃ p : Nat, ∃ f : LflFlit, s.linksUp = true ∧ p < 16 ∧ s.carries p = true ∧ f.crcOk = false) ∧
(∃ s : State, ∃ p : Nat, ∃ f : LflFlit, s.linksUp = true ∧ p < 16 ∧ s.carries p = true ∧ f.crcOk = true ∧ f.seq ≠ (s.port p).rxNext) ∧
(∃ s : State, ∃ p : Nat, ∃ f : LflFlit, s.linksUp = true ∧ p < 16 ∧ s.carries p = true ∧ f.crcOk = true ∧ f.seq = (s.port p).rxNext ∧
    f.authOk = false ∧ (s.port p).authFailed = true) ∧
(∃ s : State, ∃ p : Nat, ∃ f : LflFlit, s.linksUp = true ∧ p < 16 ∧ s.carries p = true ∧ f.crcOk = true ∧ f.seq = (s.port p).rxNext ∧
    f.authOk = false ∧ (s.port p).authFailed = false) ∧
(∃ s : State, ∃ p : Nat, ∃ f : LflFlit, s.linksUp = true ∧ p < 16 ∧ s.carries p = true ∧ f.crcOk = true ∧ f.seq = (s.port p).rxNext ∧
    f.authOk = true) ∧
(∃ s : State, ∃ p seq : Nat, s.linksUp = true ∧ p < 16 ∧ s.carries p = true ∧ (s.port p).nakSeq = seq ∧ 15 ≤ (s.port p).naks) ∧
(∃ s : State, ∃ p seq : Nat, s.linksUp = true ∧ p < 16 ∧ s.carries p = true ∧ ((s.port p).nakSeq ≠ seq ∨ (s.port p).naks < 15)) ∧
(∃ s : State, ∃ p : Nat, ∃ lanes, s.linksUp = true ∧ p < 16 ∧ s.carries p = true ∧ portWidthMin (s.portCfg p) ≤ (lanesOfMask
    lanes).length) ∧
(∃ s : State, ∃ p : Nat, ∃ lane, s.linksUp = true ∧ p < 16 ∧ s.carries p = true ∧ lane ∉ (s.port p).lanes) ∧
(∃ s : State, ∃ p : Nat, ∃ lane, ∃ q, ∃ rest, s.linksUp = true ∧ p < 16 ∧ s.carries p = true ∧ lane < 16 ∧ lane ∉ (s.port p).lanes ∧
    s.lanePhys p lane = none ∧ s.laneSpares (p / 4) = q :: rest) ∧
(∃ s : State, ∃ p : Nat, s.linksUp = true ∧ p < 16 ∧ s.carries p = true ∧ s.bellwether ≠ s.nodeId) ∧
(∃ s : State, ∃ p l q : Nat, s.lanePhys p l = some q) :=
  ⟨⟨lnk 0 (2 * 2 ^ 28) Port.empty, 15, ⟨0, 0, 0, false, true, 0, []⟩, by decide +kernel⟩,
   ⟨lnk 0 (2 * 2 ^ 28) Port.empty, 15, ⟨1, 0, 0, true, true, 0, []⟩, by decide +kernel⟩,
   ⟨lnk 0 (2 * 2 ^ 28) { Port.empty with authFailed := true }, 15, ⟨0, 0, 0, true, false, 0, []⟩, by decide +kernel⟩,
   ⟨lnk 0 (2 * 2 ^ 28) Port.empty, 15, ⟨0, 0, 0, true, false, 0, []⟩, by decide +kernel⟩,
   ⟨lnk 0 (2 * 2 ^ 28) Port.empty, 15, ⟨0, 0, 0, true, true, 0, []⟩, by decide +kernel⟩,
   ⟨lnk 0 (2 * 2 ^ 28) { Port.empty with naks := 15 }, 15, 0, by decide +kernel⟩,
   ⟨lnk 0 (2 * 2 ^ 28) Port.empty, 15, 0, by decide +kernel⟩,
   ⟨lnk 256 (2 * 2 ^ 28) Port.empty, 15, 1, by decide +kernel⟩,
   ⟨lnk 0 (2 * 2 ^ 28) Port.empty, 15, 15, by decide +kernel⟩,
   ⟨{ lnk 0 (2 * 2 ^ 28) Port.empty with noc := { Noc.reset with maps := [(kLane * 65536 + 255, 0)] } }, 15, 15,
    ((({ lnk 0 (2 * 2 ^ 28) Port.empty with noc := { Noc.reset with maps := [(kLane * 65536 + 255, 0)] } })).laneSpares 3).headD 0,
    ((({ lnk 0 (2 * 2 ^ 28) Port.empty with noc := { Noc.reset with maps := [(kLane * 65536 + 255, 0)] } })).laneSpares 3).tail, by decide +kernel⟩,
   ⟨(lnk 0 (2 * 2 ^ 28) Port.empty).hubSetN LNK_BELLWETHER 5, 15, by decide +kernel⟩,
   ⟨lnk 16 (2 * 2 ^ 28) Port.empty, 15, 15, (((lnk 16 (2 * 2 ^ 28) Port.empty)).lanePhys 15 15).getD 0, by decide +kernel⟩⟩

theorem witness_LinkTraffic_2 :
(∃ s : State, s.linksUp = true ∧ s.bellwether = s.nodeId) ∧
(∃ s : State, ∃ p, ∃ hop, s.linksUp = true ∧ s.bellwether ≠ s.nodeId ∧ s.egress s.bellwether = some (p, hop)) ∧
(∃ s : State, s.up = true ∧ s.bellwether ≠ s.nodeId ∧ bitOf (s.hubNat LNK_TIME_STATUS) 31 = true ∧ s.time < s.torus.syncAt + 10000000) ∧
(∃ s : State, s.up = true ∧ s.bellwether ≠ s.nodeId ∧ bitOf (s.hubNat LNK_TIME_STATUS) 31 = true ∧ s.torus.syncAt + 10000000 ≤ s.time) ∧
(∃ s : State, ∃ since : Nat, s.up = true ∧ s.torus.bwLostAt = some since ∧ bitOf (s.hubNat LNK_BELLWETHER) 15 = true ∧ s.time < since +
    100000000) ∧
(∃ s : State, ∃ since : Nat, s.up = true ∧ s.torus.bwLostAt = some since ∧ bitOf (s.hubNat LNK_BELLWETHER) 15 = true ∧ since + 100000000 ≤
    s.time) ∧
(∃ s : State, s.up = true ∧ s.safe = true) ∧
(∃ s : State, s.up = true ∧ s.safe = false) :=
  ⟨⟨up, by decide +kernel⟩,
   ⟨(lnk (7 * 2 ^ 28 + 5 * 2 ^ 16) (2 * 2 ^ 28) Port.empty).hubSetN LNK_BELLWETHER 5, 15, 8, by decide +kernel⟩,
   ⟨hubs up [(LNK_BELLWETHER, 5), (LNK_TIME_STATUS, 2 ^ 31)], by decide +kernel⟩,
   ⟨hubs { up with time := 10000000 } [(LNK_BELLWETHER, 5), (LNK_TIME_STATUS, 2 ^ 31)], by decide +kernel⟩,
   ⟨hubs { up with time := 99999999, torus := { Torus.empty with bwLostAt := some 0 } } [(LNK_BELLWETHER, 2 ^ 15)], 0, by decide +kernel⟩,
   ⟨hubs { up with time := 100000000, torus := { Torus.empty with bwLostAt := some 0 } } [(LNK_BELLWETHER, 2 ^ 15)], 0, by decide +kernel⟩,
   ⟨hubs { rdy with sdg := { Sdg.reset with exits := [] } } [(SDG_STATUS, 0x80000000)], by decide +kernel⟩,
   ⟨lnk 0 (2 * 2 ^ 28) Port.empty, by decide +kernel⟩⟩

theorem witness_TorusMessages :
(∃ s : State, ∃ m : LflMsg, ∃ c : Instr, ∃ op : Nat, (c, op) ∈ [(Instr.collectData m, opCollectData), (.hurdleArrive m, opHurdleArrive),
    (.lstate m, opLstate), (.collectResult m, opCollectResult), (.hurdleOpen m, opHurdleOpen), (.e2eAck m, opE2eAck)] ∧ (s.linksUp = false
    ∨ m.crcOk = false ∨ m.reservedOk = false ∨ m.dst ≠ s.nodeId)) ∧
(∃ s : State, ∃ m : LflMsg, ∃ c : Instr, ∃ op : Nat, (c, op) ∈ [(Instr.collectData m, opCollectData), (.hurdleArrive m, opHurdleArrive),
    (.lstate m, opLstate), (.collectResult m, opCollectResult), (.hurdleOpen m, opHurdleOpen), (.e2eAck m, opE2eAck)] ∧ s.linksUp = true ∧
    m.crcOk = true ∧ m.reservedOk = true ∧ m.dst = s.nodeId ∧ op = opE2eAck) ∧
(∃ s : State, ∃ m : LflMsg, ∃ c : Instr, ∃ op : Nat, (c, op) ∈ [(Instr.collectData m, opCollectData), (.hurdleArrive m, opHurdleArrive),
    (.lstate m, opLstate), (.collectResult m, opCollectResult), (.hurdleOpen m, opHurdleOpen), (.e2eAck m, opE2eAck)] ∧ s.linksUp = true ∧
    m.crcOk = true ∧ m.reservedOk = true ∧ m.dst = s.nodeId ∧ op = opLstate) ∧
(∃ s : State, ∃ m : LflMsg, ∃ c : Instr, ∃ op : Nat, (c, op) ∈ [(Instr.collectData m, opCollectData), (.hurdleArrive m, opHurdleArrive),
    (.lstate m, opLstate), (.collectResult m, opCollectResult), (.hurdleOpen m, opHurdleOpen), (.e2eAck m, opE2eAck)] ∧ s.linksUp = true ∧
    m.crcOk = true ∧ m.reservedOk = true ∧ m.dst = s.nodeId ∧ op ≠ opE2eAck ∧ op ≠ opLstate) ∧
(∃ s : State, ∃ m : LflMsg, m.src ≠ s.nodeId ∧ s.torus.nodes.find m.src = none) ∧
(∃ s : State, ∃ dst cls seq : Nat, s.linksUp = true ∧ s.torus.kept.find? (fun k => k.msg.dst = dst && msgClass k.msg.op = cls &&
    k.msg.e2eSeq = seq) = none) ∧
(∃ s : State, ∃ dst cls seq : Nat, ∃ k, s.linksUp = true ∧ s.torus.kept.find? (fun k => k.msg.dst = dst && msgClass k.msg.op = cls &&
    k.msg.e2eSeq = seq) = some k ∧ s.time < k.sentAt + 50000) ∧
(∃ s : State, ∃ dst cls seq : Nat, ∃ k, s.linksUp = true ∧ s.torus.kept.find? (fun k => k.msg.dst = dst && msgClass k.msg.op = cls &&
    k.msg.e2eSeq = seq) = some k ∧ k.sentAt + 50000 ≤ s.time ∧ 8 ≤ k.resends) ∧
(∃ s : State, ∃ dst cls seq : Nat, ∃ k, ∃ p, ∃ hop, s.linksUp = true ∧ s.torus.kept.find? (fun k => k.msg.dst = dst && msgClass k.msg.op =
    cls && k.msg.e2eSeq = seq) = some k ∧ k.sentAt + 50000 ≤ s.time ∧ k.resends < 8 ∧ s.egress dst = some (p, hop)) ∧
(∃ s : State, ∃ m : LflMsg, (m.dst = s.nodeId ∨ portRole (s.portCfg m.port) = 7)) ∧
(∃ s : State, ∃ m : LflMsg, ∃ p, s.linksUp = true ∧ m.dst ≠ s.nodeId ∧ portRole (s.portCfg m.port) ≠ 7 ∧ s.carries m.port = true ∧
    s.pickPort (s.nextDir m.dst m.hop) m.src m.dst = some p) ∧
(∃ s : State, s.linksUp = false) :=
  ⟨⟨up, (⟨0, 0, opCollectData, 0, 0, 0, 0, 0, 0, 0, 0, [], false, true, 15⟩ : LflMsg), .collectData ((⟨0, 0, opCollectData, 0, 0, 0, 0, 0, 0,
    0, 0, [], false, true, 15⟩ : LflMsg)), opCollectData, by decide +kernel⟩,
   ⟨up, (⟨0, 0, opCollectData, 0, 0, 0, 0, 0, 0, 0, 0, [], true, true, 15⟩ : LflMsg), .e2eAck ((⟨0, 0, opCollectData, 0, 0, 0, 0, 0, 0, 0, 0,
    [], true, true, 15⟩ : LflMsg)), opE2eAck, by decide +kernel⟩,
   ⟨up, (⟨0, 0, opCollectData, 0, 0, 0, 0, 0, 0, 0, 0, [], true, true, 15⟩ : LflMsg), .lstate ((⟨0, 0, opCollectData, 0, 0, 0, 0, 0, 0, 0, 0,
    [], true, true, 15⟩ : LflMsg)), opLstate, by decide +kernel⟩,
   ⟨up, (⟨0, 0, opCollectData, 0, 0, 0, 0, 0, 0, 0, 0, [], true, true, 15⟩ : LflMsg), .collectData ((⟨0, 0, opCollectData, 0, 0, 0, 0, 0, 0,
    0, 0, [], true, true, 15⟩ : LflMsg)), opCollectData, by decide +kernel⟩,
   ⟨up, (⟨0, 511, opCollectData, 0, 0, 0, 0, 0, 0, 0, 0, [], true, true, 15⟩ : LflMsg), by decide +kernel⟩,
   ⟨up, 0, msgClass opCollectData, 0, by decide +kernel⟩,
   ⟨{ up with torus := { Torus.empty with kept := [((⟨((⟨0, 0, opCollectData, 0, 0, 0, 0, 0, 0, 0, 0, [], true, true, 15⟩ : LflMsg)), (0), 0⟩ : Kept))] }, time := 49999 },
    0, msgClass opCollectData, 0, (⟨((⟨0, 0, opCollectData, 0, 0, 0, 0, 0, 0, 0, 0, [], true, true, 15⟩ : LflMsg)), (0), 0⟩ : Kept), by
    decide +kernel⟩,
   ⟨{ up with torus := { Torus.empty with kept := [((⟨((⟨0, 0, opCollectData, 0, 0, 0, 0, 0, 0, 0, 0, [], true, true, 15⟩ : LflMsg)), (8), 0⟩ : Kept))] }, time := 50000 },
    0, msgClass opCollectData, 0, (⟨((⟨0, 0, opCollectData, 0, 0, 0, 0, 0, 0, 0, 0, [], true, true, 15⟩ : LflMsg)), (8), 0⟩ : Kept), by
    decide +kernel⟩,
   ⟨{ lnk (7 * 2 ^ 28 + 5 * 2 ^ 16) (2 * 2 ^ 28) Port.empty with torus := { Torus.empty with kept := [((⟨((⟨5, 0, opCollectData, 0, 0, 0, 0, 0, 0, 0, 0, [], true, true, 15⟩ : LflMsg)), (7), 0⟩ : Kept))] }, time := 50000 },
    5, msgClass opCollectData, 0, (⟨((⟨5, 0, opCollectData, 0, 0, 0, 0, 0, 0, 0, 0, [], true, true, 15⟩ : LflMsg)), (7), 0⟩ : Kept), 15,
    8, by decide +kernel⟩,
   ⟨up, (⟨0, 0, opCollectData, 0, 0, 0, 0, 0, 0, 0, 0, [], true, true, 15⟩ : LflMsg), by decide +kernel⟩,
   ⟨lnk (2 ^ 28) (2 * 2 ^ 28) Port.empty, (⟨1, 0, opCollectData, 0, 0, 0, 0, 0, 0, 0, 0, [], true, true, 15⟩ : LflMsg), 15, by decide +kernel⟩,
   ⟨State.reset, by decide +kernel⟩⟩

theorem witness_CommonsManagement_1 :
(∃ s : State, ∃ n : Nat, s.up = true ∧ isCommonsSite n = true ∧ s.cmnSt n ≠ cmnDiscovering) ∧
(∃ s : State, ∃ n : Nat, ∃ d : DiscoverMsg, s.up = true ∧ isCommonsSite n = true ∧ s.cmnSt n = cmnDiscovering ∧ d.strap ≠ s.ident.pad n) ∧
(∃ s : State, ∃ n : Nat, ∃ d : DiscoverMsg, s.up = true ∧ isCommonsSite n = true ∧ s.cmnSt n = cmnDiscovering ∧ d.strap = s.ident.pad n ∧
    (discoverOk d = false ∨ rolesOk (s.cmnCfg n) d.declare = false)) ∧
(∃ s : State, ∃ n : Nat, ∃ d : DiscoverMsg, s.up = true ∧ isCommonsSite n = true ∧ s.cmnSt n = cmnDiscovering ∧ d.strap = s.ident.pad n ∧
    discoverOk d = true ∧ rolesOk (s.cmnCfg n) d.declare = true) ∧
(∃ s : State, ∃ n : Nat, s.up = true ∧ isCommonsSite n = true ∧ s.cmnSt n = cmnTraining ∧ (s.site n).step = 3) ∧
(∃ s : State, ∃ n : Nat, s.up = true ∧ isCommonsSite n = true ∧ s.cmnSt n = cmnTraining ∧ (s.site n).step ≠ 3) ∧
(∃ s : State, ∃ n : Nat, s.up = true ∧ isCommonsSite n = true ∧ s.cmnSt n = cmnTraining ∧ (s.site n).step = 4) ∧
(∃ s : State, ∃ n : Nat, ∃ b, s.up = true ∧ isCommonsSite n = true ∧ s.cmnSt n = cmnTraining ∧ (s.site n).step = 5 ∧ b < 16) ∧
(∃ s : State, ∃ n : Nat, ∃ b, s.up = true ∧ isCommonsSite n = true ∧ s.cmnSt n = cmnTraining ∧ (s.site n).step = 5 ∧ (s.site n).mgmt =
    some (4, [b]) ∧ b < (s.site n).measCount ∧ bitOf (s.cmnCfg n) 8 = false ∧ ((∃ i, i < (s.site n).measCount ∧ i ≠ b ∧ (s.site
    n).measures.find i = none))) ∧
(∃ s : State, ∃ n : Nat, ∃ b, s.up = true ∧ isCommonsSite n = true ∧ s.cmnSt n = cmnTraining ∧ (s.site n).step = 5 ∧ (s.site n).mgmt =
    some (4, [b]) ∧ b < (s.site n).measCount ∧ bitOf (s.cmnCfg n) 8 = false ∧ ((∀ i, i < (s.site n).measCount → i ≠ b → (s.site
    n).measures.find i ≠ none))) ∧
(∃ s : State, ∃ n b : Nat, ∃ d old : List Byte, s.siteLive n = true ∧ (s.site n).mgmt = some (4, [b]) ∧ (s.site n).measures.find b = some
    old ∧ old = (d ++ zeros 48).take 48) ∧
(∃ s : State, ∃ n b : Nat, ∃ d old : List Byte, s.siteLive n = true ∧ (s.site n).mgmt = some (4, [b]) ∧ (s.site n).measures.find b = some
    old ∧ old ≠ (d ++ zeros 48).take 48) :=
  ⟨⟨siteSt 0 cmnActive Site.empty, 19, by decide +kernel⟩,
   ⟨siteSt 0 cmnDiscovering Site.empty, 19, ⟨1, (((siteSt 0 cmnDiscovering Site.empty)).ident.pad 19 + 1), 0, 0, 0, 16, 0, 1000, 100, 5000,
    1048576, 0, true⟩, by decide +kernel⟩,
   ⟨siteSt 0 cmnDiscovering Site.empty, 19, ⟨1, (((siteSt 0 cmnDiscovering Site.empty)).ident.pad 19), 0, 0, 0, 16, 0, 1000, 100, 5000,
    1048576, 0, false⟩, by decide +kernel⟩,
   ⟨siteSt 15 cmnDiscovering Site.empty, 19, ⟨1, (((siteSt 15 cmnDiscovering Site.empty)).ident.pad 19), 0, 0, 0, 16, 255, 1000, 100, 5000,
    1048576, 0, true⟩, by decide +kernel⟩,
   ⟨siteSt 0 cmnTraining { Site.empty with step := 3 }, 19, by decide +kernel⟩,
   ⟨siteSt 0 cmnTraining { Site.empty with step := 2 }, 19, by decide +kernel⟩,
   ⟨siteSt 0 cmnTraining { Site.empty with step := 4 }, 19, by decide +kernel⟩,
   ⟨siteSt 0 cmnTraining { Site.empty with step := 5 }, 19, 15, by decide +kernel⟩,
   ⟨siteSt 0 cmnTraining { Site.empty with step := 5, measCount := 2, mgmt := some (4, [0]) }, 19, 0, by decide +kernel⟩,
   ⟨siteSt 0 cmnTraining { Site.empty with step := 5, measCount := 1, mgmt := some (4, [0]) }, 19, 0, by decide +kernel⟩,
   ⟨siteSt 0 cmnActive { Site.empty with mgmt := some (4, [0]), measures := [(0, zeros 48)] }, 19, 0, ([] : List Byte), zeros 48, by decide +kernel⟩,
   ⟨siteSt 0 cmnActive { Site.empty with mgmt := some (4, [0]), measures := [(0, zeros 48)] }, 19, 0, [1], zeros 48, by decide +kernel⟩⟩

theorem witness_CommonsManagement_2 :
(∃ s : State, ∃ n : Nat, ∃ temp, s.siteLive n = true ∧ 3 ≤ (s.site n).step ∧ temp < 105 ∧ fieldOf (s.hubNat (cmnOff n 0x18)) 16 8 < 105) ∧
(∃ s : State, ∃ n : Nat, ∃ temp, s.siteLive n = true ∧ 3 ≤ (s.site n).step ∧ 115 ≤ temp ∧ s.pow.hotSites = []) ∧
(∃ s : State, ∃ n : Nat, s.siteLive n = true ∧ 3 ≤ (s.site n).step ∧ (s.site n).beatAt + 1000000 ≤ s.time) ∧
(∃ s : State, ∃ n : Nat, s.siteLive n = true ∧ 3 ≤ (s.site n).step ∧ s.time < (s.site n).beatAt + 1000000) ∧
(∃ s : State, ∃ n : Nat, ∃ peak, ∃ temp, s.siteLive n = true ∧ 3 ≤ (s.site n).step ∧ max temp (fieldOf (s.hubNat (cmnOff n 0x18)) 24 8) <
    105 ∧ 110 < peak) ∧
(∃ s : State, ∃ n : Nat, ∃ mean, ∃ peak, ∃ temp, s.siteLive n = true ∧ 3 ≤ (s.site n).step ∧ max temp (fieldOf (s.hubNat (cmnOff n 0x18))
    24 8) < 105 ∧ peak ≤ 110 ∧ mean ≤ s.siteBudget n * 100) ∧
(∃ s : State, ∃ n : Nat, ∃ mean, ∃ peak, ∃ temp, s.siteLive n = true ∧ 3 ≤ (s.site n).step ∧ max temp (fieldOf (s.hubNat (cmnOff n 0x18))
    24 8) < 105 ∧ peak ≤ 110 ∧ s.siteBudget n * 100 < mean) ∧
(∃ s : State, ∃ n : Nat, ∃ f : ChipFault, s.siteLive n = true ∧ 3 ≤ (s.site n).step ∧ 2 < f.cls) ∧
(∃ s : State, ∃ n : Nat, ∃ f : ChipFault, s.siteLive n = true ∧ 3 ≤ (s.site n).step ∧ f.cls ≤ 2 ∧ f.cls = 0) ∧
(∃ s : State, ∃ n : Nat, ∃ f : ChipFault, s.siteLive n = true ∧ 3 ≤ (s.site n).step ∧ f.cls ≤ 2 ∧ f.cls = 2) ∧
(∃ s : State, ∃ n : Nat, ∃ f : ChipFault, s.siteLive n = true ∧ 3 ≤ (s.site n).step ∧ f.cls ≤ 2 ∧ f.cls = 1 ∧ f.record = 0) ∧
(∃ s : State, ∃ n : Nat, s.siteLive n = true ∧ 3 ≤ (s.site n).step ∧ (s.site n).keyed = true ∧ (s.site n).kx = 0 ∧ (s.site n).sentData < 2
    ^ 32 ∧ (s.site n).recvData < 2 ^ 32) :=
  ⟨⟨siteSt 0 cmnActive { Site.empty with step := 8 }, 19, 104, by decide +kernel⟩,
   ⟨siteSt 0 cmnActive { Site.empty with step := 8 }, 19, 115, by decide +kernel⟩,
   ⟨{ siteSt 0 cmnActive { Site.empty with step := 8 } with time := 1000000 }, 19, by decide +kernel⟩,
   ⟨{ siteSt 0 cmnActive { Site.empty with step := 8 } with time := 999999 }, 19, by decide +kernel⟩,
   ⟨siteSt 0 cmnActive { Site.empty with step := 8 }, 19, 111, 104, by decide +kernel⟩,
   ⟨siteSt 0 cmnActive { Site.empty with step := 8 }, 19, 0, 110, 104, by decide +kernel⟩,
   ⟨siteSt 0 cmnActive { Site.empty with step := 8 }, 19, 1, 110, 104, by decide +kernel⟩,
   ⟨siteSt 0 cmnActive { Site.empty with step := 8 }, 19, ⟨3, 0, 0, 0⟩, by decide +kernel⟩,
   ⟨siteSt 0 cmnActive { Site.empty with step := 8 }, 19, ⟨0, 0, 0, 0⟩, by decide +kernel⟩,
   ⟨siteSt 0 cmnActive { Site.empty with step := 8 }, 19, ⟨2, 0, 0, 0⟩, by decide +kernel⟩,
   ⟨siteSt 0 cmnActive { Site.empty with step := 8 }, 19, ⟨1, 0, 0, 0⟩, by decide +kernel⟩,
   ⟨siteSt 0 cmnActive { Site.empty with step := 8, keyed := true, sentData := 2 ^ 32 - 1 }, 19, by decide +kernel⟩⟩

theorem witness_CommonsManagement_3 :
(∃ s : State, ∃ n : Nat, s.siteLive n = true ∧ 3 ≤ (s.site n).step ∧ (s.site n).keyed = true ∧ (s.site n).kx = 0 ∧ (2 ^ 32 ≤ (s.site
    n).sentData ∨ 2 ^ 32 ≤ (s.site n).recvData)) ∧
(∃ s : State, ∃ n : Nat, s.up = true ∧ isCommonsSite n = true ∧ (s.site n).kx = 1) ∧
(∃ s : State, ∃ n : Nat, s.up = true ∧ isCommonsSite n = true ∧ (s.site n).kx = 2) ∧
(∃ s : State, ∃ n : Nat, s.up = true ∧ isCommonsSite n = true ∧ (s.site n).kx = 3) ∧
(∃ s : State, ∃ n : Nat, ∃ tag, s.up = true ∧ isCommonsSite n = true ∧ (s.site n).kx = 4 ∧ tag ≠ confirmOf (s.site n) [0x63#8, 0x68#8,
    0x69#8, 0x70#8]) ∧
(∃ s : State, ∃ n : Nat, ∃ tag, s.up = true ∧ isCommonsSite n = true ∧ (s.site n).kx = 4 ∧ tag = confirmOf (s.site n) [0x63#8, 0x68#8,
    0x69#8, 0x70#8] ∧ (s.site n).step = 6) ∧
(∃ s : State, ∃ n : Nat, ∃ tag, s.up = true ∧ isCommonsSite n = true ∧ (s.site n).kx = 4 ∧ tag = confirmOf (s.site n) [0x63#8, 0x68#8,
    0x69#8, 0x70#8] ∧ (s.site n).step ≠ 6) ∧
(∃ s : State, ∃ n : Nat, ∃ code, ∃ a, s.up = true ∧ isCommonsSite n = true ∧ (s.site n).mgmt = some (code, a)) ∧
(∃ s : State, ∃ n : Nat, s.up = true ∧ isCommonsSite n = true ∧ (s.site n).mgmt = none) ∧
(∃ s : State, ∃ n : Nat, ∃ step, s.up = true ∧ isCommonsSite n = true ∧ s.cmnSt n = cmnTraining ∧ step ≠ 0 ∧ (s.site n).step ≤ step ∧
    s.time < (s.site n).upAt + stepBound step) ∧
(∃ s : State, ∃ n : Nat, ∃ step, s.up = true ∧ isCommonsSite n = true ∧ s.cmnSt n = cmnTraining ∧ step ≠ 0 ∧ (s.site n).step ≤ step ∧
    (s.site n).step ≠ 1 ∧ (s.site n).upAt + stepBound step ≤ s.time) :=
  ⟨⟨siteSt 0 cmnActive { Site.empty with step := 8, keyed := true, recvData := 2 ^ 32 }, 19, by decide +kernel⟩,
   ⟨siteSt 0 cmnActive { Site.empty with kx := 1 }, 19, by decide +kernel⟩,
   ⟨siteSt 0 cmnActive { Site.empty with kx := 2 }, 19, by decide +kernel⟩,
   ⟨siteSt 0 cmnActive { Site.empty with kx := 3 }, 19, by decide +kernel⟩,
   ⟨siteSt 0 cmnActive { Site.empty with kx := 4 }, 19, confirmOf (((siteSt 0 cmnActive { Site.empty with kx := 4 })).site 19) [0x63#8,
    0x68#8, 0x69#8, 0x70#8] + 1, by decide +kernel, by decide +kernel, by decide +kernel, by omega⟩,
   ⟨siteSt 0 cmnTraining { Site.empty with kx := 4, step := 6 }, 19, confirmOf (((siteSt 0 cmnTraining
    { Site.empty with kx := 4, step := 6 })).site 19) [0x63#8, 0x68#8, 0x69#8, 0x70#8], by decide +kernel, by decide +kernel, by decide +kernel,
    rfl, by decide +kernel⟩,
   ⟨siteSt 0 cmnActive { Site.empty with kx := 4, step := 8 }, 19, confirmOf (((siteSt 0 cmnActive
    { Site.empty with kx := 4, step := 8 })).site 19) [0x63#8, 0x68#8, 0x69#8, 0x70#8], by decide +kernel, by decide +kernel, by decide +kernel,
    rfl, by decide +kernel⟩,
   ⟨siteSt 0 cmnActive { Site.empty with mgmt := some (4, []) }, 19, 4, ([] : List Nat), by decide +kernel⟩,
   ⟨siteSt 0 cmnActive Site.empty, 19, by decide +kernel⟩,
   ⟨{ siteSt 0 cmnTraining { Site.empty with step := 1 } with time := stepBound 1 - 1 }, 19, 1, by decide +kernel⟩,
   ⟨{ siteSt 0 cmnTraining { Site.empty with step := 2 } with time := stepBound 2 }, 19, 2, by decide +kernel⟩⟩

theorem witness_CommonsWindow_1 :
(∃ s : State, ∃ n kind : Nat, s.siteLive n = true ∧ (kind = 0 ∨ 3 < kind)) ∧
(∃ s : State, ∃ n seq kind ack : Nat, s.siteLive n = true ∧ kind = 1 ∧ seq % 65536 = (s.site n).rxSeq ∧ (∀ r ∈ (s.site n).replay, r.1 ≠
    ack % 65536)) ∧
(∃ s : State, ∃ t : Thr, ∃ g : Grp, ∃ load part lane lpa size n off : Nat, s.up = true ∧ s.grp t.gid = some g ∧ g.live = true ∧ g.partOf
    t.idx load part = some ⟨lane, .commons lpa, size, none⟩ ∧ n = s.servedBy (16 + (lpa - commonsBase) / 2 ^ 40) ∧ off = (lpa -
    commonsBase) % 2 ^ 40 ∧ (∀ r ∈ (s.site n).reqs, r.2.gid ≠ t.gid) ∧ s.owns g.fn lpa = .fenced) ∧
(∃ s : State, ∃ t : Thr, ∃ g : Grp, ∃ load part lane lpa size n off : Nat, s.up = true ∧ s.grp t.gid = some g ∧ g.live = true ∧ g.partOf
    t.idx load part = some ⟨lane, .commons lpa, size, none⟩ ∧ n = s.servedBy (16 + (lpa - commonsBase) / 2 ^ 40) ∧ off = (lpa -
    commonsBase) % 2 ^ 40 ∧ (∀ r ∈ (s.site n).reqs, r.2.gid ≠ t.gid) ∧ s.owns g.fn lpa = .ok ∧ s.keyHeld n = false ∧ (s.site n).endsFirst
    t.gid = false ∧ s.lspRoom n = true ∧ (s.site n).reqs.length < 4096) ∧
(∃ s : State, ∃ n tag : Nat, ∃ q : WinReq, s.siteLive n = true ∧ (s.site n).reqs.find tag = some q ∧ q.write = true ∧ q.sent = false ∧
    q.dead = false ∧ s.keyHeld n = false ∧ (s.site n).endsFirst q.gid = false ∧ s.lspRoom n = true) ∧
(∃ s : State, ∃ n tag : Nat, ∃ q : WinReq, s.siteLive n = true ∧ (s.site n).reqs.find tag = some q ∧ (q.write = false ∨ q.sent = true)) ∧
(∃ s : State, ∃ n tag : Nat, ∃ q : WinReq, s.siteLive n = true ∧ (s.site n).reqs.find tag = some q ∧ q.sent = true ∧ q.answered = false ∧
    s.time < q.sentAt + min (4 * s.hubNat (cmnOff n 0x1C)) 20000) ∧
(∃ s : State, ∃ n tag : Nat, ∃ q : WinReq, s.siteLive n = true ∧ (s.site n).reqs.find tag = some q ∧ q.sent = true ∧ q.answered = false ∧
    q.sentAt + min (4 * s.hubNat (cmnOff n 0x1C)) 20000 ≤ s.time ∧ (s.site n).timeouts = []) ∧
(∃ s : State, ∃ n : Nat, ∃ m : LspMsg, ∃ q : WinReq, s.siteLive n = true ∧ lspBad m = false ∧ s.role n roleWindow = true ∧ (s.site
    n).reqs.find m.tag = some q ∧ q.sent = true ∧ q.answered = false ∧ q.dead = true) ∧
(∃ s : State, ∃ n : Nat, ∃ m : LspMsg, ∃ q : WinReq, s.siteLive n = true ∧ lspBad m = false ∧ s.role n roleWindow = true ∧ (s.site
    n).reqs.find m.tag = some q ∧ q.sent = true ∧ q.answered = false ∧ q.dead = false ∧ lspCheck m ≠ checkFail ∧ lspSt m ≠ statusOk) ∧
(∃ s : State, ∃ n : Nat, ∃ m : LspMsg, ∃ q : WinReq, s.siteLive n = true ∧ lspBad m = false ∧ s.role n roleWindow = true ∧ (s.site
    n).reqs.find m.tag = some q ∧ q.sent = true ∧ q.answered = false ∧ q.dead = false ∧ lspCheck m ≠ checkFail ∧ lspSt m = statusOk ∧
    q.write = true) ∧
(∃ s : State, ∃ n : Nat, ∃ m : LspMsg, ∃ q : WinReq, s.siteLive n = true ∧ lspBad m = false ∧ s.role n roleWindow = true ∧ (s.site
    n).reqs.find m.tag = some q ∧ q.sent = true ∧ q.answered = false ∧ q.dead = false ∧ lspCheck m = 1 ∧ lspSt m = statusOk ∧ q.write =
    false) :=
  ⟨⟨siteSt 0 cmnActive Site.empty, 19, 4, by decide +kernel⟩,
   ⟨siteSt 0 cmnActive Site.empty, 19, 0, 1, 0, by decide +kernel⟩,
   ⟨(cmnG (grpOf { thr0 with loads := [{ load0 with parts := [⟨0, .commons commonsBase, 8, none⟩] }] })).hubSetN (cmnOff 16 4) cmnFenced, t0,
    grpOf { thr0 with loads := [{ load0 with parts := [⟨0, .commons commonsBase, 8, none⟩] }] }, 0, 0, 0, commonsBase, 8, 16, 0, by decide +kernel⟩,
   ⟨cmnG (grpOf { thr0 with loads := [{ load0 with parts := [⟨0, .commons commonsBase, 8, none⟩] }] }), t0, grpOf
    { thr0 with loads := [{ load0 with parts := [⟨0, .commons commonsBase, 8, none⟩] }] }, 0, 0, 0, commonsBase, 8, 16, 0, by decide +kernel⟩,
   ⟨siteSt 1 cmnActive { Site.empty with reqs := [(7, (⟨0, 0, 0, 0, 0, 0, 0, 8, true, [], false, 0, false, false⟩))], windowMib := 1 }, 19,
    7, ⟨0, 0, 0, 0, 0, 0, 0, 8, true, [], false, 0, false, false⟩, by decide +kernel⟩,
   ⟨siteSt 1 cmnActive { Site.empty with reqs := [(7, (⟨0, 0, 0, 0, 0, 0, 0, 8, false, [], true, 0, false, false⟩))], windowMib := 1 }, 19,
    7, ⟨0, 0, 0, 0, 0, 0, 0, 8, false, [], true, 0, false, false⟩, by decide +kernel⟩,
   ⟨(siteSt 1 cmnActive
    { Site.empty with reqs := [(7, (⟨0, 0, 0, 0, 0, 0, 0, 8, false, [], true, 0, false, false⟩))], windowMib := 1 }).hubSetN (cmnOff 19
    0x1C) 1, 19, 7, ⟨0, 0, 0, 0, 0, 0, 0, 8, false, [], true, 0, false, false⟩, by decide +kernel⟩,
   ⟨siteSt 1 cmnActive { Site.empty with reqs := [(7, (⟨0, 0, 0, 0, 0, 0, 0, 8, false, [], true, 0, false, false⟩))], windowMib := 1 }, 19,
    7, ⟨0, 0, 0, 0, 0, 0, 0, 8, false, [], true, 0, false, false⟩, by decide +kernel⟩,
   ⟨siteSt 1 cmnActive { Site.empty with reqs := [(7, (⟨0, 0, 0, 0, 0, 0, 0, 8, false, [], true, 0, false, true⟩))], windowMib := 1 }, 19,
    (⟨7, 0, 8, 0, 0, 0, true⟩ : LspMsg), ⟨0, 0, 0, 0, 0, 0, 0, 8, false, [], true, 0, false, true⟩, by decide +kernel⟩,
   ⟨siteSt 1 cmnActive { Site.empty with reqs := [(7, (⟨0, 0, 0, 0, 0, 0, 0, 8, false, [], true, 0, false, false⟩))], windowMib := 1 }, 19,
    (⟨7, 0, 8, 1, 0, 0, true⟩ : LspMsg), ⟨0, 0, 0, 0, 0, 0, 0, 8, false, [], true, 0, false, false⟩, by decide +kernel⟩,
   ⟨siteSt 1 cmnActive { Site.empty with reqs := [(7, (⟨0, 0, 0, 0, 0, 0, 0, 8, true, [], true, 0, false, false⟩))], windowMib := 1 }, 19,
    (⟨7, 0, 8, 16, 0, 0, true⟩ : LspMsg), ⟨0, 0, 0, 0, 0, 0, 0, 8, true, [], true, 0, false, false⟩, by decide +kernel⟩,
   ⟨siteSt 1 cmnActive { Site.empty with reqs := [(7, (⟨0, 0, 0, 0, 0, 0, 0, 8, false, [], true, 0, false, false⟩))], windowMib := 1 }, 19,
    (⟨7, 0, 8, 16, 0, 0, true⟩ : LspMsg), ⟨0, 0, 0, 0, 0, 0, 0, 8, false, [], true, 0, false, false⟩, by decide +kernel⟩⟩

theorem witness_CommonsWindow_2 :
(∃ s : State, ∃ n : Nat, ∃ m : LspMsg, s.siteLive n = true ∧ lspBad m = true) ∧
(∃ s : State, ∃ n record : Nat, ∃ e : WinEnd, s.siteLive n = true ∧ (s.site n).endsPending = [e] ∧ e.record = record ∧ s.endDue e = true ∧
    s.lspRoom n = true ∧ (s.site n).reqs = []) ∧
(∃ s : State, ∃ n : Nat, ∃ m : LspMsg, s.siteLive n = true ∧ s.dmaBad n m false = false ∧ s.keyHeld n = false) ∧
(∃ s : State, ∃ n : Nat, ∃ m : LspMsg, s.siteLive n = true ∧ s.dmaBad n m false = false ∧ s.keyHeld n = true) ∧
(∃ s : State, ∃ n : Nat, ∃ m : LspMsg, s.siteLive n = true ∧ s.dmaBad n m true = false) ∧
(∃ s : State, ∃ n : Nat, ∃ m : LspMsg, s.siteLive n = true ∧ lspBad m = false ∧ m.sub ≤ 3 ∧ s.role n roleCoherent = true ∧ s.agentActive
    (n + 4) = true ∧ s.inWindow m.addr = true) ∧
(∃ s : State, ∃ n : Nat, ∃ m : LspMsg, s.siteLive n = true ∧ lspBad m = false ∧ m.sub ≤ 3 ∧ s.role n roleCoherent = true ∧ (s.agentActive
    (n + 4) = false ∨ s.inWindow m.addr = false)) ∧
(∃ s : State, ∃ n l : Nat, ∃ x : CohTxn, s.siteLive n = true ∧ (s.line l).lock = some x ∧ n + 4 ∈ x.awaiting ∧ s.lspRoom n = true ∧
    x.pushed = true ∧ x.pushOwner = n + 4 ∧ (n + 4) * 2 ∉ x.told) ∧
(∃ s : State, ∃ n l : Nat, ∃ x : CohTxn, ∃ b : Bool, s.siteLive n = true ∧ (s.line l).lock = some x ∧ n + 4 ∈ x.awaiting ∧ s.lspRoom n =
    true ∧ (n + 4) * 2 + 1 ∉ x.told ∧ ((s.line l).holder (n + 4) = (if b then .s else .i))) ∧
(∃ s : State, ∃ n l : Nat, ∃ x : CohTxn, s.siteLive n = true ∧ (s.line l).lock = some x ∧ n + 4 ∈ x.awaiting ∧ x.startedAt + 4000 ≤
    s.time) ∧
(∃ s : State, ∃ n l : Nat, ∃ x : CohTxn, s.siteLive n = true ∧ (s.line l).lock = some x ∧ (n + 4 ∉ x.awaiting ∨ s.time < x.startedAt +
    4000)) ∧
(∃ s : State, ∃ n tag l : Nat, ∃ x : CohTxn, s.siteLive n = true ∧ s.lspRoom n = true ∧ s.txnOf (n + 4) tag (fun t => t.kind == .writeback
    && t.goSent && !t.launched) = some (l, x)) :=
  ⟨⟨siteSt 0 cmnActive Site.empty, 19, (⟨7, 0, 8, 0, 0, 0, false⟩ : LspMsg), by decide +kernel⟩,
   ⟨siteSt 1 cmnActive { Site.empty with endsPending := [(⟨0, 0, 0⟩)] }, 19, 0, ⟨0, 0, 0⟩, by decide +kernel⟩,
   ⟨siteSt 2 cmnActive Site.empty, 19, (⟨7, 0, 8, 0, 0, 0, true⟩ : LspMsg), by decide +kernel⟩,
   ⟨siteSt 2 cmnActive { Site.empty with kx := 1 }, 19, (⟨7, 0, 8, 0, 0, 0, true⟩ : LspMsg), by decide +kernel⟩,
   ⟨siteSt 2 cmnActive Site.empty, 19, (⟨7, 0, 8, 0, 0, 0, true⟩ : LspMsg), by decide +kernel⟩,
   ⟨siteCoh (4) ((CohLine.empty)) { Site.empty with step := 8 }, 19, (⟨7, 0, 8, 0, 0, 0, true⟩ : LspMsg), by decide +kernel⟩,
   ⟨siteSt 4 cmnActive Site.empty, 19, (⟨7, 0, 8, 0, 0, 0, true⟩ : LspMsg), by decide +kernel⟩,
   ⟨siteCoh (5)
    (({ CohLine.empty with lock := some ((({ (newTxn (0) 0 (.shared) 0) with awaiting := [23], pushed := true, pushOwner := 23 } : CohTxn))) }))
    { Site.empty with step := 8 }, 19, 0, ({ (newTxn (0) 0 (.shared) 0) with awaiting := [23], pushed := true, pushOwner := 23 } :
    CohTxn), by decide +kernel⟩,
   ⟨siteCoh (5) (({ CohLine.empty with lock := some ((({ (newTxn (0) 0 (.shared) 0) with awaiting := [23] } : CohTxn))) }))
    { Site.empty with step := 8 }, 19, 0, ({ (newTxn (0) 0 (.shared) 0) with awaiting := [23] } : CohTxn), false, by decide +kernel⟩,
   ⟨{ siteCoh (5) (({ CohLine.empty with lock := some ((({ (newTxn (0) 0 (.shared) 0) with awaiting := [23] } : CohTxn))) })) { Site.empty with step := 8 } with time := 4000 },
    19, 0, ({ (newTxn (0) 0 (.shared) 0) with awaiting := [23] } : CohTxn), by decide +kernel⟩,
   ⟨{ siteCoh (5) (({ CohLine.empty with lock := some ((({ (newTxn (0) 0 (.shared) 0) with awaiting := [23] } : CohTxn))) })) { Site.empty with step := 8 } with time := 3999 },
    19, 0, ({ (newTxn (0) 0 (.shared) 0) with awaiting := [23] } : CohTxn), by decide +kernel⟩,
   ⟨siteCoh (5) (({ CohLine.empty with lock := some ((({ (newTxn (23) 0 (.writeback) 0) with goSent := true } : CohTxn))) }))
    { Site.empty with step := 8 }, 19, 0, 0, ({ (newTxn (23) 0 (.writeback) 0) with goSent := true } : CohTxn), by decide +kernel⟩⟩

theorem witness_CommonsWindow_3 :
(∃ s : State, ∃ n tag l : Nat, ∃ x : CohTxn, ∃ m : LspMsg, s.siteLive n = true ∧ lspBad m = false ∧ m.tag = tag ∧ x.kind ≠ .writeback ∧
    s.txnOf (n + 4) tag (fun t => t.granted || (t.kind == .writeback && t.launched)) = some (l, x)) ∧
(∃ s : State, ∃ n : Nat, ∃ m : LspMsg, ∃ cs : List (Nat × Byte), ∃ a : Nat, s.siteLive n = true ∧ lspBad m = false ∧ (s.site n).keyed =
    true ∧ a ≠ lspTag (s.site n).keyUp (s.site n).recvData (lspHeader lData m.tag m.status m.sub m.addr m.record m.len) (lineOfCells cs)) ∧
(∃ s : State, ∃ n : Nat, ∃ m : LspMsg, s.siteLive n = true ∧ lspBad m = false ∧ (s.site n).keyed = false ∧ lspSt m ≠ statusPoison) ∧
(∃ s : State, ∃ n : Nat, ∃ m : LspMsg, s.siteLive n = true ∧ lspBad m = false ∧ (s.site n).keyed = false ∧ s.dataFor n m.tag = .nothing) :=
  ⟨⟨siteCoh (5) (({ CohLine.empty with lock := some (({ newTxn 23 7 .shared 0 with granted := true })) })) { Site.empty with step := 8 }, 19,
    7, 0, { newTxn 23 7 .shared 0 with granted := true }, (⟨7, 0, 8, 0, 0, 0, true⟩ : LspMsg), by decide +kernel⟩,
   ⟨siteSt 0 cmnActive { Site.empty with keyed := true }, 19, (⟨7, 0, 8, 0, 0, 0, true⟩ : LspMsg), [], lspTag (((siteSt 0 cmnActive
    { Site.empty with keyed := true })).site 19).keyUp (((siteSt 0 cmnActive { Site.empty with keyed := true })).site 19).recvData
    (lspHeader lData (((⟨7, 0, 8, 0, 0, 0, true⟩ : LspMsg))).tag (((⟨7, 0, 8, 0, 0, 0, true⟩ : LspMsg))).status (((⟨7, 0, 8, 0, 0, 0,
    true⟩ : LspMsg))).sub (((⟨7, 0, 8, 0, 0, 0, true⟩ : LspMsg))).addr (((⟨7, 0, 8, 0, 0, 0, true⟩ : LspMsg))).record (((⟨7, 0, 8, 0, 0,
    0, true⟩ : LspMsg))).len) (lineOfCells []) + 1, by decide +kernel, by decide +kernel, by decide +kernel, Nat.succ_ne_self _⟩,
   ⟨siteSt 0 cmnActive Site.empty, 19, (⟨7, 0, 8, 0, 0, 0, true⟩ : LspMsg), by decide +kernel⟩,
   ⟨siteSt 0 cmnActive Site.empty, 19, (⟨7, 0, 8, 0, 0, 0, true⟩ : LspMsg), by decide +kernel⟩⟩

theorem witness_PowerAndCalibration_1 :
(∃ s : State, ∃ meanW : Nat, s.up = true ∧ 9 ≤ s.pow.msPeriods ∧ s.cap * 10 < s.pow.msSum + meanW ∧ s.pow.halved = true) ∧
(∃ s : State, ∃ meanW : Nat, s.up = true ∧ s.cap < meanW ∧ s.tilesAtFloor = false) ∧
(∃ s : State, ∃ meanW : Nat, s.up = true ∧ s.cap < meanW ∧ s.tilesAtFloor = true ∧ s.hubAtFloor = false) ∧
(∃ s : State, ∃ meanW : Nat, s.up = true ∧ s.cap < meanW ∧ s.tilesAtFloor = true ∧ s.hubAtFloor = true ∧ s.activeSites ≠ [] ∧ 20 <
    s.pow.sitePct ∧ s.pow.sitePct ≤ 100) ∧
(∃ s : State, ∃ meanW : Nat, s.up = true ∧ s.cap < meanW ∧ s.tilesAtFloor = true ∧ s.hubAtFloor = true ∧ (s.activeSites = [] ∨
    s.pow.sitePct ≤ 20)) ∧
(∃ s : State, ∃ meanW : Nat, s.up = true ∧ meanW ≤ s.cap ∧ (s.cap * 97 ≤ meanW * 100 ∨ s.pow.calmPeriods < 9)) ∧
(∃ s : State, ∃ meanW : Nat, s.up = true ∧ meanW * 100 < s.cap * 97 ∧ 9 ≤ s.pow.calmPeriods ∧ s.pow.halved = true) ∧
(∃ s : State, ∃ meanW : Nat, s.up = true ∧ meanW * 100 < s.cap * 97 ∧ 9 ≤ s.pow.calmPeriods ∧ s.pow.halved = false ∧ s.pow.sitePct < 100) ∧
(∃ s : State, ∃ meanW : Nat, s.up = true ∧ meanW * 100 < s.cap * 97 ∧ 9 ≤ s.pow.calmPeriods ∧ s.pow.halved = false ∧ 100 ≤ s.pow.sitePct ∧
    s.capLimit hubRailNo < s.setpoint hubRailNo) ∧
(∃ s : State, ∃ meanW : Nat, s.up = true ∧ meanW * 100 < s.cap * 97 ∧ 9 ≤ s.pow.calmPeriods ∧ s.pow.halved = false ∧ 100 ≤ s.pow.sitePct ∧
    s.setpoint hubRailNo ≤ s.capLimit hubRailNo) ∧
(∃ s : State, ∃ r : Nat, s.up = true ∧ r ≤ 16 ∧ s.railFloor r < railMax r) ∧
(∃ s : State, ∃ r : Nat, s.up = true ∧ r ≤ 16 ∧ railMax r ≤ s.railFloor r ∧ s.pow.late.find r = none) :=
  ⟨⟨hubs { up with pow := { Power.reset with msPeriods := 9, halved := true } } [], 1, by decide +kernel⟩,
   ⟨hubs { up with pow := { Power.reset with floor := [(0, 7000)] } } [(PWR_TILE_SETPOINT, 800)], 1, by decide +kernel⟩,
   ⟨hubs { up with pow := { Power.reset with floor := [(16, 7000)] } } [(PWR_HUB_SETPOINT, 800)], 1, by decide +kernel⟩,
   ⟨hubs up [(cmnOff 19 4, cmnActive)], 1, by decide +kernel⟩,
   ⟨up, 1, by decide +kernel⟩,
   ⟨up, 0, by decide +kernel⟩,
   ⟨hubs { up with pow := { Power.reset with calmPeriods := 9, halved := true } } [(PWR_CAP, 1)], 0, by decide +kernel⟩,
   ⟨hubs { up with pow := { Power.reset with calmPeriods := 9, sitePct := 99 } } [(PWR_CAP, 1)], 0, by decide +kernel⟩,
   ⟨hubs { up with pow := { Power.reset with calmPeriods := 9, capLimit := [(16, 5)] } } [(PWR_CAP, 1), (PWR_HUB_SETPOINT, 800)], 0, by
    decide +kernel⟩,
   ⟨hubs { up with pow := { Power.reset with calmPeriods := 9 } } [(PWR_CAP, 1)], 0, by decide +kernel⟩,
   ⟨up, 16, by decide +kernel⟩,
   ⟨hubs { up with pow := { Power.reset with floor := [(16, 9000)] } } [], 16, by decide +kernel⟩⟩

theorem witness_PowerAndCalibration_2 :
(∃ s : State, ∃ r : Nat, s.up = true ∧ r ≤ 16 ∧ s.pow.quietAt.get s.boot.startAt r + 10000000 ≤ s.time) ∧
(∃ s : State, ∃ r : Nat, s.up = true ∧ r ≤ 16 ∧ s.time < s.pow.quietAt.get s.boot.startAt r + 10000000) ∧
(∃ s : State, ∃ t0 : Nat, ∃ n, s.up = true ∧ t0 + s.holdNs ≤ s.time ∧ n < 16 ∧ s.pow.late.find n = some t0) ∧
(∃ s : State, ∃ t0 : Nat, s.up = true ∧ t0 + s.holdNs ≤ s.time ∧ s.pow.late.find hubRailNo = some t0) ∧
(∃ s : State, ∃ t0 : Nat, ∃ k, ∃ i, s.up = true ∧ t0 + s.holdNs ≤ s.time ∧ k < 24 ∧ i < 64 ∧ s.vacant kStack k = false ∧
    s.pow.belowPcs.find (k * 64 + i) = some t0) ∧
(∃ s : State, ∃ t0 : Nat, ∃ p, ∃ l, s.up = true ∧ t0 + s.holdNs ≤ s.time ∧ p < 16 ∧ l < 16 ∧ s.pow.belowLanes.find (p * 16 + l) = some t0) ∧
(∃ s : State, ∃ n : Nat, (s.pow.late.find n = none ∨ (∃ t0, s.pow.late.find n = some t0 ∧ s.time < t0 + s.holdNs))) ∧
(∃ s : State, ∃ temp : Nat, s.up = true ∧ s.pow.thermMoved = [] ∧ temp < 100 ∧ s.hubNat PWR_THERM_TARGET % 128 < temp) ∧
(∃ s : State, ∃ temp : Nat, s.up = true ∧ s.pow.thermMoved = [] ∧ temp < 100 ∧ temp ≤ s.hubNat PWR_THERM_TARGET % 128 ∧ s.hubNat
    PWR_THERM_TARGET % 128 < temp + 3) ∧
(∃ s : State, ∃ temp : Nat, s.up = true ∧ s.pow.thermMoved = [] ∧ temp < 100 ∧ temp + 3 ≤ s.hubNat PWR_THERM_TARGET % 128) ∧
(∃ s : State, ∃ temp : Nat, s.up = true ∧ s.pow.thermMoved = [] ∧ 100 ≤ temp ∧ temp ≤ 110 ∧ hubRailNo ∉ s.pow.hot ∧ s.pow.target.get
    (s.setpoint hubRailNo) hubRailNo ≤ s.railFloor hubRailNo) ∧
(∃ s : State, ∃ temp : Nat, s.up = true ∧ s.pow.thermMoved = [] ∧ 110 < temp ∧ hubRailNo ∈ s.pow.hot) :=
  ⟨⟨{ up with time := 10000000 }, 16, by decide +kernel⟩,
   ⟨{ up with time := 9999999 }, 16, by decide +kernel⟩,
   ⟨hubs { up with pow := { Power.reset with late := [(15, 0)] } } [], 0, 15, by decide +kernel⟩,
   ⟨hubs { up with pow := { Power.reset with late := [(16, 0)] } } [], 0, by decide +kernel⟩,
   ⟨hubs { up with pow := { Power.reset with belowPcs := [(1535, 0)] } } [], 0, 23, 63, by decide +kernel⟩,
   ⟨hubs { up with pow := { Power.reset with belowLanes := [(255, 0)] } } [], 0, 15, 15, by decide +kernel⟩,
   ⟨up, 15, Or.inl (by decide +kernel)⟩,
   ⟨up, 99, by decide +kernel⟩,
   ⟨up, 0, by decide +kernel⟩,
   ⟨hubs up [(PWR_THERM_TARGET, 3)], 0, by decide +kernel⟩,
   ⟨up, 110, by decide +kernel⟩,
   ⟨hubs { up with pow := { Power.reset with hot := [16] } } [], 111, by decide +kernel⟩⟩

theorem witness_PowerAndCalibration_3 :
(∃ s : State, ∃ temp : Nat, ∃ a, s.up = true ∧ s.pow.thermMoved = [] ∧ a < 100 ∧ temp < 100 ∧ s.hubNat PWR_THERM_TARGET % 128 < a) ∧
(∃ s : State, ∃ a b : Nat, ∃ n, s.up = true ∧ n < 16 ∧ ((6800 ≤ a ∧ a ≤ 9300) ∨ (6800 ≤ b ∧ b ≤ 9300))) ∧
(∃ s : State, ∃ a b : Nat, ∃ n, s.up = true ∧ n < 16 ∧ (a < 6800 ∨ 9300 < a) ∧ (b < 6800 ∨ 9300 < b)) ∧
(∃ s : State, ∃ a b : Nat, s.up = true ∧ (a < 6600 ∨ 8800 < a) ∧ (b < 6600 ∨ 8800 < b)) ∧
(∃ s : State, ∃ b : Nat, s.up = true ∧ 6600 ≤ b ∧ b ≤ 8800) ∧
(∃ s : State, ∃ n, s.up = true ∧ isCommonsSite n = true) ∧
(∃ s : State, ∃ a b : Nat, ∃ rail : RailUnit, s.up = true ∧ (rail = .phy ∨ (∃ k r, rail = .hbm k r true) ∨ (∃ g, rail = .optics g) ∨ (∃ g,
    rail = .heater g)) ∧ s.railOutside rail a = true ∧ s.railOutside rail b = true) ∧
(∃ s : State, ∃ n : Nat, s.up = true ∧ n ≤ 33 ∧ n = 33) ∧
(∃ s : State, ∃ n : Nat, s.up = true ∧ n ≤ 33 ∧ n < 24) ∧
(∃ s : State, ∃ n : Nat, s.up = true ∧ n ≤ 33 ∧ 24 ≤ n ∧ n < 33) ∧
(∃ s : State, ∃ temp : Nat, s.up = true ∧ temp ≤ 120) ∧
(∃ s : State, ∃ temp : Nat, s.up = true ∧ 120 < temp) :=
  ⟨⟨up, 0, 99, by decide +kernel⟩,
   ⟨up, 6800, 0, 15, by decide +kernel⟩,
   ⟨up, 6799, 9301, 15, by decide +kernel⟩,
   ⟨up, 6599, 8801, by decide +kernel⟩,
   ⟨up, 8800, by decide +kernel⟩,
   ⟨up, 19, by decide +kernel⟩,
   ⟨up, 0, 0, RailUnit.phy, by decide +kernel, Or.inl rfl, by decide +kernel, by decide +kernel⟩,
   ⟨up, 33, by decide +kernel⟩,
   ⟨up, 23, by decide +kernel⟩,
   ⟨up, 32, by decide +kernel⟩,
   ⟨up, 120, by decide +kernel⟩,
   ⟨up, 121, by decide +kernel⟩⟩

theorem witness_PowerAndCalibration_4 :
(∃ s : State, ∃ st pc k bytes : Nat, s.up = true ∧ st < 24 ∧ pc < 64 ∧ k < 3 ∧ s.vacant kStack st = false ∧ st ∈ s.boot.machines ∧ 192 <
    s.burstUsed (st * 64 + pc) + bytes) ∧
(∃ s : State, ∃ st pc k : Nat, ∃ t0, s.up = true ∧ st < 24 ∧ pc < 64 ∧ k < 3 ∧ s.vacant kStack st = false ∧ st ∈ s.boot.machines ∧
    s.pow.stepAt.find (st * 64 + pc) = some t0 ∧ s.time < t0 + 10000000) ∧
(∃ s : State, ∃ st pc k re we bytes : Nat, s.up = true ∧ st < 24 ∧ pc < 64 ∧ k < 3 ∧ s.vacant kStack st = false ∧ st ∈ s.boot.machines ∧
    s.burstUsed (st * 64 + pc) + bytes ≤ 192 ∧ ((∀ t0, s.pow.stepAt.find (st * 64 + pc) = some t0 → t0 + 10000000 ≤ s.time)) ∧ (s.hubNat
    CAL_LIMITS % 256 ≤ min re we ∨ s.pow.belowPcs.find (st * 64 + pc) ≠ none)) ∧
(∃ s : State, ∃ st pc k re we bytes : Nat, s.up = true ∧ st < 24 ∧ pc < 64 ∧ k < 3 ∧ s.vacant kStack st = false ∧ st ∈ s.boot.machines ∧
    s.burstUsed (st * 64 + pc) + bytes ≤ 192 ∧ ((∀ t0, s.pow.stepAt.find (st * 64 + pc) = some t0 → t0 + 10000000 ≤ s.time)) ∧ min re we <
    s.hubNat CAL_LIMITS % 256 ∧ s.pow.belowPcs.find (st * 64 + pc) = none) ∧
(∃ s : State, ∃ p : Nat, s.up = true ∧ p < 16 ∧ (s.unusedPort p = true ∨ s.portState p = psExcluded)) ∧
(∃ s : State, ∃ p : Nat, ∃ below : List Nat, s.up = true ∧ p < 16 ∧ s.unusedPort p = false ∧ s.portState p ≠ psExcluded ∧ (s.port
    p).lanes.length ≤ 16 ∧ ((∀ l, l ∈ (s.port p).lanes → l ∈ below → s.pow.belowLanes.find (p * 16 + l) ≠ none))) ∧
(∃ s : State, s.up = false) :=
  ⟨⟨mch, 23, 63, 2, 193, by decide +kernel⟩,
   ⟨{ mch with pow := { Power.reset with stepAt := [(1535, 0)] } }, 23, 63, 2, 0, by decide +kernel⟩,
   ⟨mch, 23, 63, 2, 0, 0, 192, by decide +kernel, by decide +kernel, by decide +kernel, by decide +kernel, by decide +kernel, by decide +kernel,
    by decide +kernel, (fun t0 h => nomatch (show (none : Option Nat) = some t0 from h)), by decide +kernel⟩,
   ⟨hubs mch [(CAL_LIMITS, 1)], 23, 63, 2, 0, 0, 192, by decide +kernel, by decide +kernel, by decide +kernel, by decide +kernel, by decide +kernel,
    by decide +kernel, by decide +kernel, (fun t0 h => nomatch (show (none : Option Nat) = some t0 from h)), by decide +kernel, by decide +kernel⟩,
   ⟨up, 15, by decide +kernel⟩,
   ⟨lnk (2 ^ 28) 0 Port.empty, 15, [], by decide +kernel, by decide +kernel, by decide +kernel, by decide +kernel, by decide +kernel, (fun _
    h => nomatch h)⟩,
   ⟨State.reset, by decide +kernel⟩⟩

theorem witness_Observation_1 :
(∃ s : State, ∃ n : Nat, s.up = true ∧ n < 32) ∧
(∃ s : State, s.up = true ∧ bitOf (s.hubNat TLY_FAB_SNAP) 0 = true) ∧
(∃ s : State, s.up = true ∧ bitOf (s.hubNat TLY_FAB_SNAP) 0 = false ∧ s.hub.Pairwise (fun a b => a.1 < b.1)) ∧
(∃ s : State, ∃ f : SeenFlit, s.up = true ∧ ((∀ k, k < 8 → s.probeSees k f = false))) ∧
(∃ s : State, ∃ f : SeenFlit, ∃ k, ∃ b, ∃ c, s.up = true ∧ k < 8 ∧ s.probeSees k f = true ∧ ((∀ j, j < 8 → j ≠ k → s.probeSees j f =
    false)) ∧ c = (s.probeReg k 0).toNat ∧ b = fieldOf c 26 2 ∧ s.hidden f = true ∧ (f.plane = 0 ∨ bitOf c 30 = false)) ∧
(∃ s : State, ∃ f : SeenFlit, ∃ k, ∃ b, ∃ c, s.up = true ∧ k < 8 ∧ s.probeSees k f = true ∧ ((∀ j, j < 8 → j ≠ k → s.probeSees j f =
    false)) ∧ c = (s.probeReg k 0).toNat ∧ b = fieldOf c 26 2 ∧ s.hidden f = false ∧ bitOf c 28 = true ∧ bitOf c 29 = false ∧ bitOf c 30 =
    false) ∧
(∃ s : State, ∃ f : SeenFlit, ∃ k, ∃ b, ∃ c, s.up = true ∧ k < 8 ∧ s.probeSees k f = true ∧ ((∀ j, j < 8 → j ≠ k → s.probeSees j f =
    false)) ∧ c = (s.probeReg k 0).toNat ∧ b = fieldOf c 26 2 ∧ s.hidden f = false ∧ bitOf c 28 = false ∧ bitOf c 29 = true ∧ bitOf c 30 =
    false ∧ s.trcExists b = true ∧ s.obs.probeBeat.find k = none) ∧
(∃ s : State, ∃ f : SeenFlit, ∃ k, ∃ b, ∃ c, ∃ t0, s.up = true ∧ k < 8 ∧ s.probeSees k f = true ∧ ((∀ j, j < 8 → j ≠ k → s.probeSees j f =
    false)) ∧ c = (s.probeReg k 0).toNat ∧ b = fieldOf c 26 2 ∧ s.hidden f = false ∧ bitOf c 28 = false ∧ bitOf c 29 = true ∧ bitOf c 30 =
    false ∧ s.trcExists b = true ∧ s.obs.probeBeat.find k = some t0 ∧ f.beat < t0 + 16) ∧
(∃ s : State, ∃ f : SeenFlit, ∃ k, ∃ b, ∃ c, s.up = true ∧ k < 8 ∧ s.probeSees k f = true ∧ ((∀ j, j < 8 → j ≠ k → s.probeSees j f =
    false)) ∧ c = (s.probeReg k 0).toNat ∧ b = fieldOf c 26 2 ∧ bitOf c 28 = false ∧ bitOf c 29 = false ∧ bitOf c 30 = true ∧ (s.hidden f
    = false ∨ f.plane ≠ 0)) ∧
(∃ s : State, ∃ r : TraceRec, s.up = true ∧ r.buffer < 4 ∧ s.obs.offers = []) ∧
(∃ s : State, ∃ r : TraceRec, ∃ allow : Bool, s.up = true ∧ r.buffer < 4 ∧ s.obs.offers = [r] ∧ allow = false) ∧
(∃ s : State, ∃ r : TraceRec, ∃ allow : Bool, s.up = true ∧ r.buffer < 4 ∧ s.obs.offers = [r] ∧ allow = true ∧ s.trcOpen r.buffer = true ∧
    s.obs.drops.find (r.buffer * 65536 + r.source) = none ∧ 32 ≤ s.trcRoom) :=
  ⟨⟨up, 31, by decide +kernel⟩,
   ⟨hubs up [(TLY_FAB_SNAP, 1)], by decide +kernel⟩,
   ⟨up, by decide +kernel⟩,
   ⟨up, ⟨0, 0, (0), 0, 0, 0, 0, false, (15), []⟩, by decide +kernel⟩,
   ⟨hubs { up with obs := { Observe.reset with probeBeat := [] } } [(TRC_PROBE_CTL + 0x1C0, 2 ^ 31), (TRC_PROBE_CTL + 0x1E0, 1),
    (SEC_PADDOCK_CFG, 1)], ⟨0, 0, (0), 0, 0, 0, 0, false, (15), []⟩, 7, 0, (2 ^ 31), by decide +kernel⟩,
   ⟨hubs { up with obs := { Observe.reset with probeBeat := [] } } [(TRC_PROBE_CTL + 0x1C0, 2 ^ 31 + 2 ^ 28), (TRC_PROBE_CTL + 0x1E0, 1)],
    ⟨0, 0, (0), 0, 0, 0, 0, false, (15), []⟩, 7, 0, (2 ^ 31 + 2 ^ 28), by decide +kernel⟩,
   ⟨hubs { up with obs := { Observe.reset with probeBeat := [] } } [(TRC_PROBE_CTL + 0x1C0, 2 ^ 31 + 2 ^ 29), (TRC_PROBE_CTL + 0x1E0, 1),
    (TRC_BUF_CFG, 65536)], ⟨0, 0, (0), 0, 0, 0, 0, false, (15), []⟩, 7, 0, (2 ^ 31 + 2 ^ 29), by decide +kernel⟩,
   ⟨hubs { up with obs := { Observe.reset with probeBeat := [(7, 0)] } } [(TRC_PROBE_CTL + 0x1C0, 2 ^ 31 + 2 ^ 29), (TRC_PROBE_CTL + 0x1E0,
    1), (TRC_BUF_CFG, 65536)], ⟨0, 0, (0), 0, 0, 0, 0, false, (15), []⟩, 7, 0, (2 ^ 31 + 2 ^ 29), 0, by decide +kernel⟩,
   ⟨hubs { up with obs := { Observe.reset with probeBeat := [] } } [(TRC_PROBE_CTL + 0x1C0, 2 ^ 31 + 2 ^ 30), (TRC_PROBE_CTL + 0x1E0, 1)],
    ⟨0, 0, (0), 0, 0, 0, 0, false, (15), []⟩, 7, 0, (2 ^ 31 + 2 ^ 30), by decide +kernel⟩,
   ⟨up, ⟨3, 0, []⟩, by decide +kernel⟩,
   ⟨hubs { up with obs := { Observe.reset with offers := [(⟨3, 0, []⟩)] } } [(TRC_BUF_STATUS + 12, 0), (TRC_BUF_CFG + 12, 65536)], ⟨3, 0,
    []⟩, false, by decide +kernel⟩,
   ⟨hubs { up with obs := { Observe.reset with offers := [(⟨3, 0, []⟩)] } } [(TRC_BUF_STATUS + 12, trcArmed), (TRC_BUF_CFG + 12, 65536)], ⟨3,
    0, []⟩, true, by decide +kernel⟩⟩

theorem witness_Observation_2 :
(∃ s : State, ∃ r : TraceRec, ∃ allow pair : Bool, ∃ d, s.up = true ∧ r.buffer < 4 ∧ s.obs.offers = [r] ∧ s.obs.drops.find (r.buffer *
    65536 + r.source) = some d ∧ allow = true ∧ pair = true ∧ s.trcOpen r.buffer = true ∧ s.trcPairFits r.buffer = true ∧ 64 ≤ s.trcRoom) ∧
(∃ s : State, ∃ r : TraceRec, ∃ pair : Bool, ∃ d, s.up = true ∧ r.buffer < 4 ∧ s.obs.offers = [r] ∧ s.obs.drops.find (r.buffer * 65536 +
    r.source) = some d ∧ (pair = false ∨ s.trcPairFits r.buffer = false ∨ s.trcRoom < 64)) ∧
(∃ s : State, ∃ b : Nat, b < 4 ∧ (s.trcState b = trcTriggered ∨ (s.trcState b = trcArmed ∧ s.trcMode b = 0)) ∧ s.trcPtr b + 32 < 2 ^ 64) ∧
(∃ s : State, ∃ b : Nat, b < 4 ∧ s.trcState b = trcArmed ∧ s.trcMode b ≠ 0 ∧ s.trcPtr b + 32 < 2 ^ 64) ∧
(∃ s : State, ∃ b : Nat, b < 4 ∧ (s.trcState b = trcIdle ∨ s.trcState b = trcStopped)) ∧
(∃ s : State, ∃ b : Nat, s.up = true ∧ s.trcExists b = false) ∧
(∃ s : State, ∃ b : Nat, s.up = true ∧ s.trcExists b = true ∧ (s.trcState b = trcIdle ∨ s.trcState b = trcStopped)) ∧
(∃ s : State, ∃ b : Nat, s.up = true ∧ s.trcExists b = true ∧ s.trcState b ≠ trcIdle ∧ s.trcState b ≠ trcStopped) ∧
(∃ s : State, ∃ b : Nat, s.up = true ∧ s.trcExists b = true ∧ s.trcState b = trcIdle) ∧
(∃ s : State, ∃ b : Nat, s.up = true ∧ s.trcExists b = true ∧ s.trcState b = trcStopped ∧ s.obs.stopDrops.find b = none) ∧
(∃ s : State, ∃ b : Nat, s.trcExists b = true ∧ s.trcState b = trcArmed ∧ s.trcMode b = 2) ∧
(∃ s : State, ∃ b : Nat, (s.trcExists b = false ∨ s.trcState b ≠ trcArmed ∨ s.trcMode b ≠ 2)) :=
  ⟨⟨hubs { up with obs := { Observe.reset with offers := [(⟨3, 0, []⟩)], drops := [(3 * 65536, ⟨1, 0⟩)] } } [(TRC_BUF_STATUS + 12, trcArmed),
    (TRC_BUF_CFG + 12, 65536)], ⟨3, 0, []⟩, true, true, (⟨1, 0⟩ : Drops), by decide +kernel⟩,
   ⟨hubs { up with obs := { Observe.reset with offers := [(⟨3, 0, []⟩)], drops := [(3 * 65536, ⟨1, 0⟩)] } } [(TRC_BUF_STATUS + 12, trcArmed),
    (TRC_BUF_CFG + 12, 65536)], ⟨3, 0, []⟩, false, (⟨1, 0⟩ : Drops), by decide +kernel⟩,
   ⟨hubs { up with obs := { Observe.reset with offers := [] } } [(TRC_BUF_STATUS + 12, trcTriggered), (TRC_BUF_CFG + 12, 65536)], 3, by
    decide +kernel⟩,
   ⟨hubs { up with obs := { Observe.reset with offers := [] } } [(TRC_BUF_STATUS + 12, trcArmed), (TRC_BUF_CFG + 12, 65537)], 3, by decide +kernel⟩,
   ⟨hubs { up with obs := { Observe.reset with offers := [] } } [(TRC_BUF_STATUS + 12, trcStopped), (TRC_BUF_CFG + 12, 65536)], 3, by decide +kernel⟩,
   ⟨up, 3, by decide +kernel⟩,
   ⟨hubs { up with obs := { Observe.reset with offers := [] } } [(TRC_BUF_STATUS + 12, trcStopped), (TRC_BUF_CFG + 12, 65536)], 3, by decide +kernel⟩,
   ⟨hubs { up with obs := { Observe.reset with offers := [] } } [(TRC_BUF_STATUS + 12, trcArmed), (TRC_BUF_CFG + 12, 65536)], 3, by decide +kernel⟩,
   ⟨hubs { up with obs := { Observe.reset with offers := [] } } [(TRC_BUF_STATUS + 12, 0), (TRC_BUF_CFG + 12, 65536)], 3, by decide +kernel⟩,
   ⟨hubs { up with obs := { Observe.reset with offers := [] } } [(TRC_BUF_STATUS + 12, trcStopped), (TRC_BUF_CFG + 12, 65536)], 3, by decide +kernel⟩,
   ⟨hubs { up with obs := { Observe.reset with offers := [] } } [(TRC_BUF_STATUS + 12, trcArmed), (TRC_BUF_CFG + 12, 65538)], 3, by decide +kernel⟩,
   ⟨up, 3, by decide +kernel⟩⟩

theorem witness_Observation_3 :
(∃ s : State, ∃ v : W32, s.up = true ∧ v.toNat % 16 = 0) ∧
(∃ s : State, s.up = false) :=
  ⟨⟨up, 0, by decide +kernel⟩,
   ⟨State.reset, by decide +kernel⟩⟩

theorem witness_AssertRaises :
∃ s : State, ∃ t : Thr, ∃ f : FmtR, ∃ g : Grp, ∃ th : Thread, Issues s t g th ∧ f.d = 0 ∧ f.s1.toNat < 8 ∧ f.s2 = 0 ∧ f.s3 = 0 ∧ f.ty = 0
    ∧ f.cond = 0 ∧ f.rsv = 0 ∧ GuardAt th f.grd 0 ∧ (th.pr f.s1.toNat).getLsbD 0 = false :=
⟨gst thr0, t0, { fR with s1 := 7 }, grpOf thr0, thr0, by decide +kernel⟩

theorem witness_ProbesAreBlind :
(∃ s : State, ∃ f : SeenFlit, ∃ n : Nat, n < 32 ∧ s.confidential n = true ∧ (f.plane = 1 ∨ f.plane = 3)) ∧
(∃ s : State, ∃ f : SeenFlit, f.plane = 0 ∧ f.hub = false ∧ s.confidential f.paddock = true) :=
  ⟨⟨hubs up [(SEC_PADDOCK_CFG + 124, 1)], ⟨0, 0, 3, 0, 0, 0, 0, false, 0, []⟩, 31, by decide +kernel⟩,
   ⟨hubs up [(SEC_PADDOCK_CFG + 124, 1)], ⟨0, 0, 0, 0, 0, 0, 31, false, 0, []⟩, by decide +kernel⟩⟩

theorem witness_ResetState :
∃ g, g < 6 :=
⟨5, by decide +kernel⟩

theorem witness_InstructionsConfined :
∃ i : Instr, ∃ s u : State, ∃ x : Thr × BitVec 5, issuedBy i = some x ∧ exec i s = .next u :=
⟨.nop t0 fI, gst thr0, _, (t0, 0), rfl, rfl⟩

theorem witness_MemoryKeepsItsForm :
∃ s t : State, s.memWf ∧ step s = .next t :=
⟨up, _, by unfold State.memWf; decide, rfl⟩

theorem witness_QuietStep :
(∃ s : State, s.pending = [] ∧ s.up = false) ∧
(∃ s : State, s.pending = [] ∧ s.up = true ∧ s.pce.slew.natAbs < s.slewDone) ∧
(∃ s : State, s.pending = [] ∧ s.up = true ∧ s.slewDone ≤ s.pce.slew.natAbs ∧ s.time < s.pce.slewAt + 10000) ∧
(∃ s : State, s.pending = [] ∧ s.up = true ∧ s.slewDone ≤ s.pce.slew.natAbs ∧ s.pce.slewAt + 10000 ≤ s.time ∧ 0 < s.pce.slew) ∧
(∃ s : State, s.pending = [] ∧ s.up = true ∧ s.slewDone ≤ s.pce.slew.natAbs ∧ s.pce.slewAt + 10000 ≤ s.time ∧ s.pce.slew ≤ 0) :=
  ⟨⟨State.reset, by decide +kernel⟩,
   ⟨{ up with time := 10000, pce := { Pce.reset with slew := 49 } }, by decide +kernel⟩,
   ⟨{ up with time := 9999, pce := { Pce.reset with slew := 50 } }, by decide +kernel⟩,
   ⟨{ up with time := 10000, pce := { Pce.reset with slew := 50 } }, by decide +kernel⟩,
   ⟨{ up with time := 10000, pce := { Pce.reset with slew := -50 } }, by decide +kernel⟩⟩

end Sys2Proof.Tests
end

section
/-! SUPPORT. What an issued instruction and an exception do to a group (R157, R158, R200, R201), and CHK.ASSERT (R198). -/

namespace Sys2Proof.Machine
open Sys2Proof Sys2Proof.Claims

/-! ### Groups read after a write -/

@[simp] theorem State.grp_setGrp_self (s : State) (gid : Nat) (g : Grp) : (s.setGrp gid g).grp gid = some g := by
  simp [State.setGrp, State.grp]
theorem State.grp_setGrp_other (s : State) (gid k : Nat) (g : Grp) (h : k ≠ gid) : (s.setGrp gid g).grp k = s.grp k := by
  simp [State.setGrp, State.grp, SMap.find_set_other _ _ _ _ h]
@[simp] theorem State.grp_modGrp_self (s : State) (gid : Nat) (m : Grp → Grp) : (s.modGrp gid m).grp gid = (s.grp gid).map m := by
  unfold State.modGrp
  split <;> simp [*]
theorem State.grp_modGrp_other (s : State) (gid k : Nat) (m : Grp → Grp) (h : k ≠ gid) : (s.modGrp gid m).grp k = s.grp k := by
  unfold State.modGrp
  split
  · exact State.grp_setGrp_other s gid k _ h
  · rfl
@[simp] theorem State.grp_traceExc (s : State) (fn idx pc va code k : Nat) : (s.traceExc fn idx pc va code).grp k = s.grp k := by
  simp [State.grp]

/-! ### Exceptions (R201) -/

theorem State.grp_failGroup_of_running {s : State} {gid : Nat} {g : Grp} (code : Nat) (hg : s.grp gid = some g)
    (hrun : g.phase = .running) :
    (s.failGroup gid code).grp gid = some { g with phase := .stopping, code := some (g.code.getD code) } := by
  simp [State.failGroup, hg, hrun]
theorem State.grp_failGroup_other (s : State) (gid code k : Nat) (h : k ≠ gid) : (s.failGroup gid code).grp k = s.grp k :=
  State.grp_modGrp_other s gid k _ h

/-- An exception fails its group, from a state whose groups it has not touched: trace alone may have taken a record (R202). -/
theorem State.raise_eq_failGroup {s : State} {t : Thr} {g : Grp} (code va : Nat) (hg : s.grp t.gid = some g) :
    ∃ s' : State, s.raise t code va = s'.failGroup t.gid code ∧ ∀ k, s'.grp k = s.grp k := by
  unfold State.raise
  rw [hg]
  refine ⟨_, rfl, fun k => ?_⟩
  split
  · exact State.grp_traceExc ..
  · rfl

theorem State.grp_raise_of_running {s : State} {t : Thr} {g : Grp} (code va : Nat) (hg : s.grp t.gid = some g)
    (hrun : g.phase = .running) :
    (s.raise t code va).grp t.gid = some { g with phase := .stopping, code := some (g.code.getD code) } := by
  obtain ⟨s', hraise, hsame⟩ := State.raise_eq_failGroup code va hg
  rw [hraise]
  exact State.grp_failGroup_of_running code ((hsame t.gid).trans hg) hrun
theorem State.grp_raise_other {s : State} {t : Thr} {g : Grp} (code va k : Nat) (hg : s.grp t.gid = some g) (h : k ≠ t.gid) :
    (s.raise t code va).grp k = s.grp k := by
  obtain ⟨s', hraise, hsame⟩ := State.raise_eq_failGroup code va hg
  rw [hraise, State.grp_failGroup_other s' t.gid code k h, hsame k]

/-! ### Issue (R153 to R158) -/

theorem guardOk_of_guardAt {th : Thread} {grd : BitVec 5} {i : Nat} (h : GuardAt th grd i) : guardOk grd = true := by
  obtain h0 | ⟨hG, -⟩ := h
  · simp [guardOk, h0]
  · simp [guardOk, hG]
theorem Thread.guard_of_guardAt {th : Thread} {grd : BitVec 5} {i : Nat} (h : GuardAt th grd i) : th.guard grd i = true := by
  obtain h0 | ⟨hG, hbit⟩ := h
  · simp [Thread.guard, h0]
  · simpa [Thread.guard, gReg, gNegate, hG] using hbit

/-- A legal instruction whose guard holds and that waits for no register takes its effect. -/
theorem State.insn_of_issues {s : State} {t : Thr} {g : Grp} {th : Thread} {grd : BitVec 5} {legal : Bool} {xs vs : List Nat}
    (vec : Bool) (k : Grp → Thread → State) (hi : Issues s t g th) (hlegal : legal = true) (hgrd : GuardAt th grd 0)
    (hxs : ∀ r ∈ xs, r = 0 ∨ r ∉ th.pendX) (hvs : ∀ r ∈ vs, r ∉ th.pendV) :
    s.insn t grd vec legal xs vs k = k g th := by
  obtain ⟨hg, hth, hphase, hst, himage, hpoison⟩ := hi
  have hfree : (xs.any (fun r => r != 0 && th.pendX.contains r) || vs.any (fun r => th.pendV.contains r)) = false := by
    simpa [← or_iff_not_imp_left] using ⟨hxs, hvs⟩
  have hok := guardOk_of_guardAt hgrd
  have hlane := Thread.guard_of_guardAt hgrd
  simp only [State.insn, hg, hth, hphase, hst, himage, hpoison, hlegal, hok, hlane, hfree]
  simp

/-! ### CHK.ASSERT (R198) -/

theorem exec_chkAssert (t : Thr) (f : FmtR) (s : State) : exec (.chkAssert t f) s = execChkAssert t f s := rfl

theorem exec_chkAssert_of_clear {s : State} {t : Thr} {f : FmtR} {g : Grp} {th : Thread} (hi : Issues s t g th) (hd : f.d = 0)
    (hs1 : f.s1.toNat < 8) (hs2 : f.s2 = 0) (hs3 : f.s3 = 0) (hty : f.ty = 0) (hcond : f.cond = 0) (hrsv : f.rsv = 0)
    (hgrd : GuardAt th f.grd 0) (hclear : (th.pr f.s1.toNat).getLsbD 0 = false) :
    exec (.chkAssert t f) s = .next (s.raise t xAssert 0) := by
  have hlegal : (f.d == 0 && isP f.s1 && f.s2 == 0 && f.s3 == 0 && f.ty == 0 && f.cond == 0 && f.rsv == 0) = true := by
    simp [hd, isP, hs1, hs2, hs3, hty, hcond, hrsv]
  rw [exec_chkAssert, execChkAssert, State.insn_of_issues false _ hi hlegal hgrd (by simp) (by simp), hclear]
  rfl

/-- Settles O54: the instruction is legal and its guard holds, so its effect is the exception; the rest is what an exception leaves of a
running group (R201). -/
theorem assertRaises : Obligations.AssertRaises := by
  intro s t f g th hi hd hs1 hs2 hs3 hty hcond hrsv hgrd hclear
  have ⟨hg, _, hrun, _⟩ := hi
  have hexec := exec_chkAssert_of_clear hi hd hs1 hs2 hs3 hty hcond hrsv hgrd hclear
  exact ⟨s.raise t xAssert 0, hexec, rfl, State.grp_raise_of_running xAssert 0 hg hrun,
    fun k => State.grp_raise_other xAssert 0 k hg, by simp⟩

end Sys2Proof.Machine
end

section
/-! SUPPORT. What a probe still does with a flit that R677 hides from it, and PROBE_MATCH of such a flit. -/

namespace Sys2Proof.Machine
open Sys2Proof

/-! ### A trigger writes the registers of its buffer alone (R683) -/

/-- `t` has the observation state of `s` and its registers outside the Tally counts (R669) and the trace buffers' block (R678): a trigger
writes inside both, while the paddocks' settings and the probes lie outside. -/
structure State.SameToProbes (s t : State) : Prop where
  obs : t.obs = s.obs
  hub : ∀ a, a < TLY_COUNT ∨ TRC_PROBE_CTL ≤ a → t.hubGet a = s.hubGet a

theorem State.SameToProbes.refl (s : State) : s.SameToProbes s := ⟨rfl, fun _ _ => rfl⟩

theorem State.SameToProbes.trans {s t u : State} (hst : s.SameToProbes t) (htu : t.SameToProbes u) : s.SameToProbes u :=
  ⟨htu.obs.trans hst.obs, fun a ha => (htu.hub a ha).trans (hst.hub a ha)⟩

theorem State.SameToProbes.confidential {s t : State} (h : s.SameToProbes t) {n : Nat} (hn : n < 32) :
    t.confidential n = s.confidential n := by
  have hcfg : SEC_PADDOCK_CFG + 4 * n < TLY_COUNT := by simp only [SEC_PADDOCK_CFG, TLY_COUNT]; omega
  simp only [State.confidential, State.hubNat, h.hub _ (.inl hcfg)]

theorem State.SameToProbes.hubSet {s t : State} (h : s.SameToProbes t) {off : Nat} (v : W64) (hlo : TLY_COUNT ≤ off)
    (hhi : off < TRC_PROBE_CTL) : s.SameToProbes (t.hubSet off v) :=
  ⟨h.obs, fun a ha => (State.hubGet_hubSet_other t off a v (by omega)).trans (h.hub a ha)⟩

theorem State.sameToProbes_store (s : State) (a : Nat) (bytes : List Byte) : s.SameToProbes (s.store a bytes) :=
  ⟨rfl, fun _ _ => rfl⟩

theorem State.sameToProbes_trcPut (s : State) (b off : Nat) (bytes : List Byte) : s.SameToProbes (s.trcPut b off bytes) :=
  (s.sameToProbes_store (s.hubNat (TRC_BUF_BASE + 8 * b) + off) bytes).hubSet (off := TLY_COUNT + 8 * 0x1C) _ (by decide) (by decide)

theorem State.SameToProbes.trcSetState {s t : State} (h : s.SameToProbes t) {b : Nat} (st : Nat) (hb : b < 4) :
    s.SameToProbes (t.trcSetState b st) :=
  h.hubSet _ (by simp only [TLY_COUNT, TRC_BUF_STATUS]; omega) (by simp only [TRC_PROBE_CTL, TRC_BUF_STATUS]; omega)

theorem State.SameToProbes.trcSetPtr {s t : State} (h : s.SameToProbes t) {b : Nat} (p : Nat) (hb : b < 4) :
    s.SameToProbes (t.trcSetPtr b p) :=
  h.hubSet _ (by simp only [TLY_COUNT, TRC_WRITE_PTR]; omega) (by simp only [TRC_PROBE_CTL, TRC_WRITE_PTR]; omega)

theorem State.lt_of_trcExists {s : State} {b : Nat} (h : s.trcExists b = true) : b < 4 := by
  simp only [State.trcExists, Bool.and_eq_true, decide_eq_true_eq] at h
  exact h.left

theorem State.sameToProbes_trcTrigger (s : State) (b code source : Nat) : s.SameToProbes (s.trcTrigger b code source) := by
  unfold State.trcTrigger
  split
  case isTrue harmed =>
    simp only [Bool.and_eq_true] at harmed
    obtain ⟨⟨hexists, -⟩, -⟩ := harmed
    have hb : b < 4 := State.lt_of_trcExists hexists
    have hput := (s.sameToProbes_trcPut b (s.trcPost b) (s.trcRecord 5 source 0 false (leBytes 1 code))).trcSetState trcTriggered hb
    have hptr := (hput.hubSet (off := TRC_TRIGGER_PTR + 8 * b) (BitVec.ofNat 64 (s.trcPost b))
      (by simp only [TLY_COUNT, TRC_TRIGGER_PTR]; omega) (by simp only [TRC_PROBE_CTL, TRC_TRIGGER_PTR]; omega)).trcSetPtr
        (s.trcPost b + 32) hb
    dsimp only
    split
    · exact hptr.trcSetState trcStopped hb
    · exact hptr
  case isFalse => exact (State.SameToProbes.refl s).hubSet _ (by decide) (by decide)

/-! ### A hidden flit (R677) -/

theorem State.hidden_of_reply {s : State} {f : SeenFlit} {n : Nat} (hn : n < 32) (hconf : s.confidential n = true)
    (hplane : f.plane = 1 ∨ f.plane = 3) : s.hidden f = true := by
  have hany : s.anyConfidential = true := List.any_eq_true.mpr ⟨n, List.mem_range.mpr hn, hconf⟩
  simp [State.hidden, hplane, hany]

theorem State.hidden_of_request {s : State} {f : SeenFlit} (hplane : f.plane = 0) (hhub : f.hub = false)
    (hconf : s.confidential f.paddock = true) : s.hidden f = true := by
  simp [State.hidden, hplane, hhub, hconf]

/-- Of a hidden flit a probe neither counts nor offers, whatever its control register enables: the trigger is left. -/
theorem State.probeHit_of_hidden {s : State} {f : SeenFlit} (k : Nat) (h : s.hidden f = true) :
    s.probeHit k f = if bitOf (s.probeReg k 0).toNat 30 ∧ f.plane ≠ 0
      then s.trcTrigger (fieldOf (s.probeReg k 0).toNat 26 2) 1 k else s := by
  simp [State.probeHit, h]

theorem State.sameToProbes_probeHit {s : State} {f : SeenFlit} (k : Nat) (h : s.hidden f = true) : s.SameToProbes (s.probeHit k f) := by
  rw [State.probeHit_of_hidden k h]
  split
  · exact s.sameToProbes_trcTrigger _ 1 k
  · exact .refl s

theorem State.probeHit_of_hidden_request {s : State} {f : SeenFlit} (k : Nat) (h : s.hidden f = true) (hplane : f.plane = 0) :
    s.probeHit k f = s := by
  simp [State.probeHit_of_hidden k h, hplane]

/-! ### PROBE_MATCH -/

theorem exec_probeMatch (f : SeenFlit) (s : State) : exec (.probeMatch f) s = execProbeMatch f s := rfl

/-- What holds of the state and is kept by each probe that sees the flit holds after PROBE_MATCH. -/
theorem exec_probeMatch_keeps {P : State → Prop} {s : State} {f : SeenFlit} (hs : P s) (hhit : ∀ t k, P t → P (t.probeHit k f)) :
    ∃ t : State, exec (.probeMatch f) s = .next t ∧ P t := by
  rw [exec_probeMatch]
  refine ⟨_, rfl, ?_⟩
  split
  · refine List.foldlRecOn _ _ hs fun t ht k _ => ?_
    split
    · exact hhit t k ht
    · exact ht
  · exact hs

/-- A reply stays hidden from every probe in turn, for a trigger leaves the paddocks' settings. -/
theorem exec_probeMatch_reply {s : State} {f : SeenFlit} {n : Nat} (hn : n < 32) (hconf : s.confidential n = true)
    (hplane : f.plane = 1 ∨ f.plane = 3) : ∃ t : State, exec (.probeMatch f) s = .next t ∧ s.SameToProbes t := by
  refine exec_probeMatch_keeps (State.SameToProbes.refl s) fun t k hst => ?_
  have hhidden : t.hidden f = true := State.hidden_of_reply hn ((hst.confidential hn).trans hconf) hplane
  exact hst.trans (State.sameToProbes_probeHit k hhidden)

theorem exec_probeMatch_request {s : State} {f : SeenFlit} (hplane : f.plane = 0) (hhub : f.hub = false)
    (hconf : s.confidential f.paddock = true) : exec (.probeMatch f) s = .next s := by
  have hhidden : s.hidden f = true := State.hidden_of_request hplane hhub hconf
  obtain ⟨t, hexec, rfl⟩ := exec_probeMatch_keeps (P := (· = s)) (f := f) rfl fun t k hts => by
    rw [hts, State.probeHit_of_hidden_request k hhidden hplane]
  exact hexec

/-- Settles O55: a reply that R677 hides can only trigger, and no trigger writes a probe's registers; a hidden request does not even
trigger. -/
theorem probesAreBlind : Obligations.ProbesAreBlind := by
  refine ⟨fun s f n hn hconf hplane => ?_, fun s f hplane hhub hconf => exec_probeMatch_request hplane hhub hconf⟩
  obtain ⟨t, hexec, hsame⟩ := exec_probeMatch_reply hn hconf hplane
  have hprobe (k : Nat) : TRC_PROBE_CTL ≤ TRC_PROBE_COUNT + 0x40 * k := by simp only [TRC_PROBE_CTL, TRC_PROBE_COUNT]; omega
  exact ⟨t, hexec, hsame.obs, fun k _ => hsame.hub _ (.inr (hprobe k))⟩

end Sys2Proof.Machine
end

section
/-! SUPPORT. What an instruction of a thread does not reach (R35, R36, R172 to R198, R579). -/

namespace Sys2Proof.Machine
open Sys2Proof Sys2Proof.Claims

/-! ### What every command keeps -/

/-- The queue of waiting commands stands, and memory and boot flash keep their canonical form. -/
structure State.Keeps (s t : State) : Prop where
  pending : t.pending = s.pending
  mem : Memory.wf s.mem = true → Memory.wf t.mem = true
  flash : flashWf s.flash = true → flashWf t.flash = true

theorem State.Keeps.refl (s : State) : s.Keeps s := ⟨rfl, id, id⟩
theorem State.Keeps.trans {s t u : State} (hst : s.Keeps t) (htu : t.Keeps u) : s.Keeps u :=
  ⟨htu.pending.trans hst.pending, htu.mem ∘ hst.mem, htu.flash ∘ hst.flash⟩
theorem State.Keeps.foldl {α : Type} {g : State → α → State} (hg : ∀ (t : State) x, t.Keeps (g t x)) (l : List α) (s : State) :
    s.Keeps (l.foldl g s) :=
  List.foldlRecOn l g (.refl s) fun t hst x _ => hst.trans (hg t x)

/-- The outcome is a next state that has this property. -/
def Goes (P : State → Prop) (o : Out) : Prop := ∃ t : State, o = .next t ∧ P t
theorem Goes.next {P : State → Prop} {t : State} (h : P t) : Goes P (.next t) := ⟨t, rfl, h⟩
theorem Goes.mono {P Q : State → Prop} {o : Out} (h : Goes P o) (hPQ : ∀ t, P t → Q t) : Goes Q o := by
  obtain ⟨t, ho, ht⟩ := h
  exact ⟨t, ho, hPQ t ht⟩

/-! ### What an instruction keeps beside -/

/-- Beside what every command keeps: boot flash, identity, security, the fabric's maps, power and module time as they were. -/
structure State.Confined (s t : State) : Prop where
  pending : t.pending = s.pending
  mem : Memory.wf s.mem = true → Memory.wf t.mem = true
  flash : t.flash = s.flash
  ident : t.ident = s.ident
  sec : t.sec = s.sec
  noc : t.noc = s.noc
  pow : t.pow = s.pow
  time : t.time = s.time

namespace State.Confined

theorem keeps {s t : State} (h : s.Confined t) : s.Keeps t := ⟨h.pending, h.mem, fun hf => by rw [h.flash]; exact hf⟩
theorem refl (s : State) : s.Confined s := ⟨rfl, id, rfl, rfl, rfl, rfl, rfl, rfl⟩
theorem trans {s t u : State} (hst : s.Confined t) (htu : t.Confined u) : s.Confined u :=
  ⟨htu.pending.trans hst.pending, htu.mem ∘ hst.mem, htu.flash.trans hst.flash, htu.ident.trans hst.ident, htu.sec.trans hst.sec,
    htu.noc.trans hst.noc, htu.pow.trans hst.pow, htu.time.trans hst.time⟩
theorem ite {s a b : State} {c : Prop} [Decidable c] (ha : s.Confined a) (hb : s.Confined b) : s.Confined (if c then a else b) := by
  split <;> assumption
theorem foldl {α : Type} {g : State → α → State} (hg : ∀ (t : State) x, t.Confined (g t x)) (l : List α) (s : State) :
    s.Confined (l.foldl g s) :=
  List.foldlRecOn l g (refl s) fun t hst x _ => hst.trans (hg t x)

variable (s : State) (t : Thr) (g : Grp) (th : Thread)

/-! The operations that end an instruction. -/

theorem raise (code va : Nat) : s.Confined (s.raise t code va) := by constructor <;> simp +contextual
theorem retire : s.Confined (s.retire t g th) := by constructor <;> simp +contextual
theorem memPoison (gid : Nat) (line : Option Nat) : s.Confined (s.memPoison gid line) := by constructor <;> simp +contextual
theorem unreached (va : Nat) (k : AccKind) (r : Reach) : s.Confined (s.unreached t va k r) := by constructor <;> simp +contextual
theorem raiseXlate (va cause : Nat) (w : Bool) : s.Confined (s.raiseXlate t va cause w) := by constructor <;> simp +contextual
theorem doneX (d : BitVec 6) (v : W64) : s.Confined (s.doneX t g th d v) := by constructor <;> simp +contextual
theorem doneP (d : BitVec 6) (v : W32) : s.Confined (s.doneP t g th d v) := by constructor <;> simp +contextual
theorem doneV (d : BitVec 6) (v : List W32) : s.Confined (s.doneV t g th d v) := by constructor <;> simp +contextual
theorem startLoad (op : LoadOp) : s.Confined (s.startLoad t g th op) := by constructor <;> simp +contextual
theorem checkMismatch (gid : Nat) : s.Confined (s.checkMismatch gid) := by constructor <;> simp +contextual
theorem askCopy (id : Nat) (ps : List LoadPart) : s.Confined (s.askCopy t g id ps) := by constructor <;> simp +contextual
theorem putTgt (gid : Nat) (tgt : Tgt) (bs : List Byte) : s.Confined (s.putTgt gid tgt bs) := by constructor <;> simp +contextual
theorem winStore (l : Nat) (bs : List Byte) : s.Confined (s.winStore t l bs) := by constructor <;> simp +contextual

/-- The steps before an instruction's effect reach no further than the effect may (R153 to R158, R166). -/
theorem insn {grd : BitVec 5} {vec legal : Bool} {xs vs : List Nat} {k : Grp → Thread → State}
    (hk : ∀ g th, s.Confined (k g th)) : s.Confined (s.insn t grd vec legal xs vs k) := by
  unfold State.insn
  split
  case h_1 => exact refl s
  case h_2 g hg =>
    split
    case h_1 => exact refl s
    case h_2 th hth =>
      split_ifs
      · exact refl s
      · exact raise s t ..
      · exact memPoison s ..
      · exact raise s t ..
      · exact retire s t ..
      · exact refl s
      · exact hk g th

end State.Confined

namespace State.Confined
variable (s : State) (t : Thr)

/-! The operand forms that many instructions share. -/

theorem scalar2 (f : FmtR) (op : W64 → W64 → W64) : s.Confined (s.scalar2 t f op) := insn s t fun g th => doneX s t g th ..
theorem scalar1 (f : FmtR) (op : W64 → W64) : s.Confined (s.scalar1 t f op) := insn s t fun g th => doneX s t g th ..
theorem scalarI (f : FmtI) (ok : Bool) (op : W64 → BitVec 32 → W64) : s.Confined (s.scalarI t f ok op) :=
  insn s t fun g th => doneX s t g th ..
theorem pred2 (f : FmtR) (op : W32 → W32 → W32) : s.Confined (s.pred2 t f op) := insn s t fun g th => doneP s t g th ..
theorem vecN (f : FmtR) (n : Nat) (tys : List Nat) (op : Nat → W32 → W32 → W32 → W32) : s.Confined (s.vecN t f n tys op) :=
  insn s t fun g th => doneV s t g th ..
theorem vred (f : FmtR) (red : Nat → List W32 → Option W32) : s.Confined (s.vred t f red) := by
  refine insn s t fun g th => ?_
  split
  · exact doneV s t g th ..
  · exact retire s t g _
theorem atomInt (f : FmtA) (o : AtomOp) (ret : Bool) (g : Grp) (th : Thread) (tgt : Tgt) :
    s.Confined (s.atomInt t f o ret g th tgt) := by
  constructor <;> simp +contextual
theorem atomAt {f : FmtA} {legal : Bool} {k : Grp → Thread → Tgt → State} (hk : ∀ g th tgt, s.Confined (k g th tgt)) :
    s.Confined (s.atomAt t f legal k) := by
  refine insn s t fun g th => ?_
  dsimp only
  split_ifs
  · exact raise s t ..
  · split
    · split_ifs
      · exact refl s
      · exact hk g th _
    · exact unreached s t ..
theorem withTile {g : Grp} {tile : Nat} {k : State} (hk : s.Confined k) : s.Confined (s.withTile t g tile k) := by
  unfold State.withTile
  split_ifs
  · exact raise s t ..
  · exact hk
theorem enqueue (g : Grp) (th : Thread) (o : TOp) : s.Confined (s.enqueue t g th o) := by constructor <;> simp +contextual
theorem arrive (g : Grp) (th : Thread) (k : Nat) (a : Arrival) (wait : Bool) : s.Confined (s.arrive t g th k a wait) := by
  constructor <;> simp +contextual
theorem checkDeadlock (gid : Nat) : s.Confined (s.checkDeadlock gid) := by constructor <;> simp +contextual
theorem atHurdle {g : Grp} {th : Thread} {scope id : Nat} {k : Nat → State} (hk : ∀ key, s.Confined (k key)) :
    s.Confined (s.atHurdle t g th scope id k) := by
  unfold State.atHurdle
  split_ifs
  · exact raise s t ..
  · exact refl s
  · exact hk _
theorem exactAdd (gid : Nat) (tgt : Tgt) (ty : Nat) (v : Fv) : s.Confined (s.exactAdd gid tgt ty v) := by
  constructor <;> simp +contextual
theorem countFeval (fn since : Nat) : s.Confined (s.countFeval fn since) := by constructor <;> simp +contextual
theorem startFeval (g : Grp) (th : Thread) (d : List Byte) : s.Confined (s.startFeval t g th d) := by constructor <;> simp +contextual
theorem storeLanes (v : List W32) (lanes : List Nat) (size : Nat) (at_ : Nat → Tgt) : s.Confined (s.storeLanes t v lanes size at_) := by
  constructor <;> simp +contextual
end State.Confined

theorem State.confined_load (s : State) (t : Thr) (f : FmtM) (acq : Bool) : s.Confined (execLoad s t f acq) := by
  constructor <;> simp +contextual
theorem State.confined_store (s : State) (t : Thr) (f : FmtM) (rel : Bool) : s.Confined (execStore s t f rel) := by
  constructor <;> simp +contextual


/-! Instructions with a meaning of their own. -/

section
variable (s : State) (t : Thr)

theorem confined_execExit (f : FmtI) : Goes s.Confined (execExit t f s) :=
  .next (.insn s t fun g th => .trans (.retire s t g { th.advance with st := .exited }) (by constructor <;> simp +contextual))
theorem confined_execVcvt (f : FmtI) : Goes s.Confined (execVcvt t f s) := by
  refine .next (.insn s t fun g th => ?_)
  split
  · exact .doneV s t g ..
  · exact .raise s t ..
theorem confined_execRdtime (f : FmtI) : Goes s.Confined (execRdtime t f s) := .next (.insn s t fun g _ => .doneX s t g ..)
theorem confined_execRdcnt (f : FmtI) : Goes s.Confined (execRdcnt t f s) := .next (by constructor <;> simp +contextual)
theorem confined_execRand (f : FmtI) : Goes s.Confined (execRand t f s) := .next (by constructor <;> simp +contextual)
theorem confined_execChkSync (f : FmtI) : Goes s.Confined (execChkSync t f s) := .next (by constructor <;> simp +contextual)
theorem confined_execChkCmp (f : FmtR) : Goes s.Confined (execChkCmp t f s) := .next (by constructor <;> simp +contextual)
theorem confined_execChkAssert (f : FmtR) : Goes s.Confined (execChkAssert t f s) := .next (by constructor <;> simp +contextual)
theorem confined_execWaitm (f : FmtI) : Goes s.Confined (execWaitm t f s) := .next (by constructor <;> simp +contextual)
theorem confined_execFence (f : FmtS) : Goes s.Confined (execFence t f s) := .next (by constructor <;> simp +contextual)
theorem confined_execFwait (f : FmtR) : Goes s.Confined (execFwait t f s) := .next (by constructor <;> simp +contextual)
theorem confined_execDfind (f : FmtR) : Goes s.Confined (execDfind t f s) := .next (by constructor <;> simp +contextual)
theorem confined_execBc (f : FmtC) : Goes s.Confined (execBc t f s) := .next (by constructor <;> simp +contextual)
theorem confined_execJalr (f : FmtC) : Goes s.Confined (execJalr t f s) := .next (by constructor <;> simp +contextual)
theorem confined_plainArrive (f : FmtS) (w : Bool) : s.Confined (s.plainArrive t f w) := by constructor <;> simp +contextual
theorem confined_execTzero (f : FmtT) : Goes s.Confined (execTzero t f s) := .next (by constructor <;> simp +contextual)
theorem confined_execTwait (f : FmtT) : Goes s.Confined (execTwait t f s) := .next (by constructor <;> simp +contextual)
theorem confined_execTmma (f : FmtT) : Goes s.Confined (execTmma t f s) := by
  unfold execTmma
  refine .next ?_
  dsimp only
  split <;> constructor <;> simp +contextual
theorem confined_execTrd (f : FmtT) : Goes s.Confined (execTrd t f s) := by
  refine .next (.insn s t fun g th => .ite (.raise s t ..) ?_)
  split
  · exact .raise s t ..
  · exact .refl s
  · exact .withTile s t (.enqueue s t g ..)
theorem confined_execHurdleSum (f : FmtS) : Goes s.Confined (execHurdleSum t f s) :=
  .next (.insn s t fun g th => .atHurdle s t fun _ => .arrive s t g th ..)
theorem confined_execHwait (f : FmtS) : Goes s.Confined (execHwait t f s) := by
  refine .next (.insn s t fun g th => .atHurdle s t fun key => ?_)
  split
  · exact .raise s t ..
  · exact .ite (.retire s t g _) (.trans (.retire s t g _) (.checkDeadlock ..))
theorem confined_execCollect (f : FmtS) : Goes s.Confined (execCollect t f s) := by
  refine .next (.insn s t fun g th => .atHurdle s t fun key => .ite (.raise s t ..) (.ite (.raiseXlate s t ..) ?_))
  split
  · exact .arrive s t g th ..
  · exact .unreached s t ..
theorem confined_execAtomAdd (f : FmtA) : Goes s.Confined (execAtomAdd t f s) := by
  exact .next (.atomAt s t fun g th tgt =>
    .ite (.atomInt s t f ..) (.ite (.raise s t ..) (.trans (.exactAdd s ..) (.retire _ t g _))))
theorem confined_execFeval (f : FmtR) : Goes s.Confined (execFeval t f s) := by
  refine .next (.insn s t fun g th => .ite (.raise s t ..) ?_)
  split
  · refine .ite (.refl s) ?_
    dsimp only
    split
    · exact .ite (.raiseXlate s t ..) (.raise s t ..)
    · exact .ite (.trans (.countFeval s ..) (.retire _ t g _)) (.startFeval s t g ..)
  · exact .unreached s t ..
theorem confined_execMcopy (f : FmtR) : Goes s.Confined (execMcopy t f s) := by
  refine .next (.insn s t fun g th => .ite (.raise s t ..) (.ite (.raise s t ..) (.ite (.retire s t g _) (.ite (.refl s) ?_))))
  split
  · split
    · exact .ite (.refl s) (.ite (.retire s t g _) (.trans (.retire s t g _) (.askCopy ..)))
    · exact .unreached s t ..
  · exact .unreached s t ..
theorem confined_execVld (f : FmtM) : Goes s.Confined (execVld t f s) := by
  refine .next (.insn s t fun g th => .ite (.retire s t g _) (.ite (.raise s t ..) ?_))
  dsimp only
  split
  · exact .ite (.refl s) (.startLoad s t g ..)
  · exact .unreached s t ..
theorem confined_execVldG (f : FmtG) : Goes s.Confined (execVldG t f s) := by
  refine .next (.insn s t fun g th => ?_)
  dsimp only
  split
  · exact .ite (.retire s t g _) (.ite (.refl s) (.startLoad s t g ..))
  · exact .unreached s t ..
theorem confined_execVst (f : FmtM) : Goes s.Confined (execVst t f s) := by
  refine .next (.insn s t fun g th => .ite (.retire s t g _) (.ite (.raise s t ..) ?_))
  dsimp only
  split
  · refine .ite (.refl s) ?_
    split
    · exact .ite (.refl s) (.trans (.foldl (fun u p => .winStore u t ..) _ s) (.retire _ t g _))
    · exact .trans (.storeLanes s ..) (.retire _ t g _)
  · exact .unreached s t ..
theorem confined_execVstS (f : FmtG) : Goes s.Confined (execVstS t f s) := by
  refine .next (.insn s t fun g th => ?_)
  dsimp only
  split
  · refine .ite (.refl s) (.ite (.refl s) (.trans (.foldl (fun u p => ?_) _ s) (.retire _ t g _)))
    split
    · exact .winStore u t ..
    · exact .putTgt u ..
  · exact .unreached s t ..
end

theorem confined_of_issued {i : Instr} {x : Thr × BitVec 5} (s : State) (hx : issuedBy i = some x) : Goes s.Confined (exec i s) := by
  cases i with
  | add t f | sub t f | mul t f | mulh t f | mulhu t f | div t f | divu t f | rem t f | remu t f | opAnd t f | opOr t f
  | opXor t f | sll t f | srl t f | sra t f | opMin t f | opMax t f | minu t f | maxu t f => exact .next (.scalar2 s t f _)
  | clz t f | ctz t f | popc t f => exact .next (.scalar1 s t f _)
  | addi t f | andi t f | ori t f | xori t f | slli t f | srli t f | srai t f | li t f | lih t f => exact .next (.scalarI s t f _ _)
  | pand t f | por t f | pxor t f => exact .next (.pred2 s t f _)
  | vadd t f | vsub t f | vmul t f | vfma t f | vmin t f | vmax t f | vabs t f | vneg t f | vdiv t f | vsqrt t f | vexp2 t f
  | vlog2 t f | vand t f | vor t f | vxor t f | vsll t f | vsrl t f | vsra t f => exact .next (.vecN s t f _ _ _)
  | vredSum t f | vredMin t f | vredMax t f => exact .next (.vred s t f _)
  | atomFadd t f | atomSwap t f | atomCas t f | atomMin t f | atomMax t f =>
    exact .next (.atomAt s t fun g th tgt => .atomInt s t f _ _ g th tgt)
  | sel t f | movpx t f | vext t f => exact .next (.insn s t fun g th => .doneX s t g th _ _)
  | cmp t f | cmpi t f | pnot t f | movxp t f | vcmp t f => exact .next (.insn s t fun g th => .doneP s t g th _ _)
  | vsel t f | vbcast t f | vins t f | vperm t f | vlane t f => exact .next (.insn s t fun g th => .doneV s t g th _ _)
  | ld t f | ldAcq t f => exact .next (s.confined_load t f _)
  | st t f | stRel t f => exact .next (s.confined_store t f _)
  | nop t f => exact .next (.insn s t fun g th => .retire s t g _)
  | jal t f => exact .next (.insn s t fun g th => .retire s t g _)
  | hurdle t f | harrive t f => exact .next (confined_plainArrive s t f _)
  | exit t f => exact confined_execExit s t f
  | vcvt t f => exact confined_execVcvt s t f
  | rdtime t f => exact confined_execRdtime s t f
  | rdcnt t f => exact confined_execRdcnt s t f
  | rand t f => exact confined_execRand s t f
  | chkSync t f => exact confined_execChkSync s t f
  | chkCmp t f => exact confined_execChkCmp s t f
  | chkAssert t f => exact confined_execChkAssert s t f
  | waitm t f => exact confined_execWaitm s t f
  | fence t f => exact confined_execFence s t f
  | fwait t f => exact confined_execFwait s t f
  | dfind t f => exact confined_execDfind s t f
  | bc t f => exact confined_execBc s t f
  | jalr t f => exact confined_execJalr s t f
  | tzero t f => exact confined_execTzero s t f
  | twait t f => exact confined_execTwait s t f
  | tmma t f => exact confined_execTmma s t f
  | trd t f => exact confined_execTrd s t f
  | hurdleSum t f => exact confined_execHurdleSum s t f
  | hwait t f => exact confined_execHwait s t f
  | collect t f => exact confined_execCollect s t f
  | atomAdd t f => exact confined_execAtomAdd s t f
  | feval t f => exact confined_execFeval s t f
  | mcopy t f => exact confined_execMcopy s t f
  | vld t f => exact confined_execVld s t f
  | vldG t f => exact confined_execVldG s t f
  | vst t f => exact confined_execVst s t f
  | vstS t f => exact confined_execVstS s t f
  | _ => simp [issuedBy] at hx

/-- Settles O58: every instruction that a thread issues is confined, by its operand form or its own meaning. -/
theorem instructionsConfined : Obligations.InstructionsConfined := by
  intro i s u x hx hexec
  obtain ⟨t, ht, h⟩ := confined_of_issued s hx
  obtain rfl : t = u := by simpa [ht] using hexec
  exact ⟨h.flash, h.ident, h.sec, h.noc, h.pow, h.time⟩

end Sys2Proof.Machine
end

section
/-! SUPPORT. Every command answers a next state, leaves the queue of commands alone, and keeps the canonical form of memory and of the boot
flash. -/

namespace Sys2Proof.Machine
open Sys2Proof Sys2Proof.Claims

/-! ### The operations that the longer commands are made of -/

namespace State.Keeps
variable (s : State)

theorem ite {s a b : State} {c : Prop} [Decidable c] (ha : s.Keeps a) (hb : s.Keeps b) : s.Keeps (if c then a else b) := by
  split <;> assumption
/-- `trans`, the last operation first, as terms spell them. -/
theorem after {s t u : State} (htu : t.Keeps u) (hst : s.Keeps t) : s.Keeps u := hst.trans htu
theorem pump (fn : Nat) : s.Keeps (s.pump fn) := by constructor <;> simp +contextual
theorem noteDrained (fn : Nat) : s.Keeps (s.noteDrained fn) := by constructor <;> simp +contextual
theorem retryWaits (fn : Nat) (p : XWait → Bool) : s.Keeps (s.retryWaits fn p) := by constructor <;> simp +contextual
theorem failWait (fn : Nat) (w : XWait) (c : Nat) : s.Keeps (s.failWait fn w c) := by constructor <;> simp +contextual
theorem failPrg (fn i c : Nat) : s.Keeps (s.failPrg fn i c) := by constructor <;> simp +contextual
theorem dropPrg (fn i : Nat) : s.Keeps (s.dropPrg fn i) := by constructor <;> simp +contextual
theorem report (r : Report) : s.Keeps (s.report r) := by constructor <;> simp +contextual
theorem progress (fn : Nat) : s.Keeps (s.progress fn) := by constructor <;> simp +contextual
theorem decide (fn e st d : Nat) : s.Keeps (s.decide fn e st d) := by constructor <;> simp +contextual
theorem takeWaits (fn : Nat) (p : XWait → Bool) : s.Keeps (s.takeWaits fn p).2 := by constructor <;> simp +contextual
theorem modXlt (fn : Nat) (g : Xlt → Xlt) : s.Keeps (s.modXlt fn g) := by constructor <;> simp +contextual
theorem askAts (fn : Nat) (w : XWait) : s.Keeps (s.askAts fn w) := by constructor <;> simp +contextual
theorem afterAts (fn : Nat) (w : XWait) : s.Keeps (s.afterAts fn w) := by constructor <;> simp +contextual
theorem hostWait (fn : Nat) (w : XWait) : s.Keeps (s.hostWait fn w) := by constructor <;> simp +contextual
theorem walkBroken (fn : Nat) (w : XWait) (p : Bool) : s.Keeps (s.walkBroken fn w p) := by constructor <;> simp +contextual
theorem wakeAll (ws : List XWait) : s.Keeps (s.wakeAll ws) := by constructor <;> simp +contextual
theorem setPage (fn va : Nat) (r : List Byte) (i : Nat) : s.Keeps (s.setPage fn va r i) := by constructor <;> simp +contextual
theorem thermRead (r t : Nat) : s.Keeps (s.thermRead r t) := by constructor <;> simp +contextual
theorem fenceStack (k : Nat) : s.Keeps (s.fenceStack k) := by constructor <;> simp +contextual
theorem hubSetN (off v : Nat) : s.Keeps (s.hubSetN off v) := by constructor <;> simp +contextual
theorem recover : s.Keeps s.recover := by constructor <;> simp +contextual
theorem tryReady : s.Keeps s.tryReady := by constructor <;> simp +contextual
theorem leaveHirsels : s.Keeps s.leaveHirsels := by constructor <;> simp +contextual
theorem pumpOut (fn : Nat) : s.Keeps (s.pumpOut fn) := by constructor <;> simp +contextual
theorem notePri (fn : Nat) : s.Keeps (s.notePri fn) := by constructor <;> simp +contextual
theorem ringPlace (fn va : Nat) : s.Keeps (s.ringPlace fn va).2 := by constructor <;> simp +contextual
theorem hubCount (off n : Nat) : s.Keeps (s.hubCount off n) := by constructor <;> simp +contextual
theorem startCores (g : Grp) : s.Keeps ((((s.clearCores g).clearPriv g).writeBlocks g).writeRows g) :=
  .trans (by constructor <;> simp +contextual : s.Keeps ((s.clearCores g).clearPriv g)) (by constructor <;> simp +contextual)
theorem gatherKey (gid k : Nat) : s.Keeps (s.gatherKey gid k) := by constructor <;> simp +contextual
theorem reqArrive {q : ReqFlit} {op left access : Nat} {write : Bool} {k : State → State} (hk : ∀ u : State, u.Keeps (k u)) :
    s.Keeps (s.reqArrive q op left write access k) :=
  ⟨State.reqArrive_pending _ _ _ _ _ _ _ fun u => (hk u).pending, fun hw => State.reqArrive_wf _ _ _ _ _ _ _ hw fun u => (hk u).mem,
    fun hf => State.reqArrive_flashWf _ _ _ _ _ _ _ hf fun u => (hk u).flash⟩
end State.Keeps

/-! ### Commands whose steps go on from each other's outcome -/

theorem keeps_execThermalSample (s : State) (tiles : List Nat) (hub : Nat) : Goes s.Keeps (execThermalSample tiles hub s) :=
  .next (.ite (.foldl (fun t _ => .thermRead t ..) _ s) (.refl s))
theorem keeps_execMemoryMachineDone (s : State) (stack : Nat) (ok : Bool) : Goes s.Keeps (execMemoryMachineDone stack ok s) := by
  unfold execMemoryMachineDone
  refine .next (.ite (.refl s) (.after (.tryReady _) ?_))
  have hrest (u : State) (ms : List Nat) : u.Keeps { u with boot := { u.boot with machines := ms } } := ⟨rfl, id, id⟩
  exact .ite (.after (.recover _) (.after (.hubSetN ..) (.after (hrest ..) (.ite (.refl s) (.fenceStack s _)))))
    (.after (.hubSetN ..) (.after (hrest ..) (.ite (.refl s) (.fenceStack s _))))
theorem keeps_execTableUpdate (s : State) (fn entry : Nat) : Goes s.Keeps (execTableUpdate fn entry s) := by
  unfold execTableUpdate
  refine .next ?_
  split
  · exact .refl s
  · exact .ite (.refl s) (.trans (.foldl (fun t x => .setPage t ..) _ s) (.trans (.decide ..) (.progress ..)))
theorem keeps_execNocWrite (s : State) (q : ReqFlit) : Goes s.Keeps (execNocWrite q s) := by
  refine .next (.reqArrive s fun u => ?_)
  dsimp only
  split <;> constructor <;> simp +contextual
theorem keeps_execNocAtomic (s : State) (q : ReqFlit) : Goes s.Keeps (execNocAtomic q s) := by
  refine .next (.reqArrive s fun u => ?_)
  dsimp only
  split
  · exact .refl u
  · split
    · constructor <;> simp +contextual
    · split <;> constructor <;> simp +contextual
theorem keeps_execNocXadd (s : State) (q : ReqFlit) : Goes s.Keeps (execNocXadd q s) := by
  refine .next (.reqArrive s fun u => ?_)
  dsimp only
  split
  · exact .refl u
  · constructor <;> simp +contextual
theorem keeps_execReleaseLogged (s : State) (fn entry : Nat) : Goes s.Keeps (execReleaseLogged fn entry s) := by
  unfold execReleaseLogged
  refine .next ?_
  split
  · refine .ite (.trans ?_ (.trans (.leaveHirsels _) (.trans (.pumpOut ..) (.progress ..)))) (.refl s)
    constructor <;> simp +contextual
  · exact .refl s
theorem keeps_execPrgResponse (s : State) (fn index : Nat) (r : PrgResult) : Goes s.Keeps (execPrgResponse fn index r s) := by
  unfold execPrgResponse
  refine .next ?_
  split
  · constructor <;> simp +contextual
  · refine .trans ?_ (.trans (.retryWaits ..) (.trans (.pump ..) (.noteDrained ..)))
    refine .ite ?_ ?_
    · constructor <;> simp +contextual
    · split
      · constructor <;> simp +contextual
      · exact .trans (.failPrg s ..) (.dropPrg ..)
      · constructor <;> simp +contextual
theorem keeps_execPriTimeout (s : State) (fn index : Nat) : Goes s.Keeps (execPriTimeout fn index s) := by
  unfold execPriTimeout
  refine .next ?_
  split
  · exact .refl s
  · exact .ite (.refl s) (.trans (.failPrg s fn index _) (.trans (.modXlt ..) (.trans (.notePri ..) (.trans (.report ..) (.pump ..)))))
theorem keeps_execReceiptWrite (s : State) (fn : Nat) : Goes s.Keeps (execReceiptWrite fn s) := by
  unfold execReceiptWrite
  refine .next (.ite (.refl s) ?_)
  split
  · exact .refl s
  · have hplace := State.Keeps.ringPlace s fn ((s.fn fn).ringAddr + 32 * ((s.fn fn).ringWritten % 2 ^ (s.fn fn).ringLog))
    split <;> rename_i u heq <;> rw [heq] at hplace
    · refine .after (t := u) ?_ hplace
      constructor <;> simp +contextual
    · exact hplace
theorem keeps_execGatherComplete (s : State) (gid : Nat) : Goes s.Keeps (execGatherComplete gid s) := by
  unfold execGatherComplete
  refine .next ?_
  split
  case h_1 => exact .refl s
  case h_2 g hg =>
    refine .ite (.refl s) ?_
    dsimp only
    have hkeys (l : List Nat) : s.Keeps (l.foldl (fun t k => t.gatherKey gid k) s) := .foldl (fun t k => .gatherKey t gid k) _ s
    split
    case h_1 => exact hkeys _
    case h_2 g1 hg1 =>
      refine .ite (hkeys _) (.after ?_ (.after (.startCores _ g1) (hkeys (List.range (keyCount (s.recOf g))))))
      constructor <;> simp +contextual
theorem keeps_execTableWalkDone (s : State) (fn va : Nat) : Goes s.Keeps (execTableWalkDone fn va s) := by
  unfold execTableWalkDone
  dsimp only
  refine .next (.ite (.refl s) (.after (.pump ..) ?_))
  split
  · exact .after (.wakeAll ..) (.after (.modXlt ..) (.after (.takeWaits ..) (.modXlt ..)))
  · exact .after (.foldl (fun t w => .hostWait t ..) ..) (.after (.takeWaits ..) (.modXlt ..))
  · exact .after (.foldl (fun t w => .failWait t ..) ..) (.after (.takeWaits ..) (.modXlt ..))
  · exact .after (.foldl (fun t w => .walkBroken t ..) ..) (.after (.report ..) (.after (.takeWaits ..) (.modXlt ..)))
  · exact .after (.foldl (fun t w => .walkBroken t ..) ..) (.after (.takeWaits ..) (.modXlt ..))
theorem keeps_execAtsCompletion (s : State) (fn va : Nat) (c : AtsResult) : Goes s.Keeps (execAtsCompletion fn va c s) := by
  unfold execAtsCompletion
  dsimp only
  have htake (x : Xlt → Xlt) (p : XWait → Bool) : s.Keeps ((s.modXlt fn x).takeWaits fn p).2 := .after (.takeWaits ..) (.modXlt ..)
  have hadd {t : State} {b : Bool} {x : Xlt → Xlt} (h : s.Keeps t) : s.Keeps (if b then t.modXlt fn x else t) :=
    .ite (.after (.modXlt ..) h) h
  refine .next (.ite (.hubCount ..) (.ite (.after (.foldl (fun t w => .askAts t ..) ..) (htake ..)) (.after (.pump ..) ?_)))
  split
  · exact .after (.foldl (fun t w => .failWait t ..) ..) (.after (.hubCount ..) (htake ..))
  · exact .after (.foldl (fun t w => .afterAts t ..) ..) (hadd (hadd (htake ..)))
  · exact .after (.modXlt ..) (.after (.foldl (fun t w => .afterAts t ..) ..) (hadd (hadd (htake ..))))

/-! ### Commands that choose among outcomes by what they find -/

theorem keeps_execLookupComplete (s : State) (gid lookup : Nat) : Goes s.Keeps (execLookupComplete gid lookup s) := by
  unfold execLookupComplete
  refine .next ?_
  dsimp only
  (repeat' split) <;> constructor <;> simp +contextual
theorem keeps_execReleaseStart (s : State) (fn entry : Nat) : Goes s.Keeps (execReleaseStart fn entry s) := by
  unfold execReleaseStart
  refine .next ?_
  dsimp only
  (repeat' split) <;> constructor <;> simp +contextual
theorem keeps_execFevalComplete (s : State) (t : Thr) (eval : Nat) : Goes s.Keeps (execFevalComplete t eval s) := by
  unfold execFevalComplete
  refine .next ?_
  dsimp only
  (repeat' split) <;> constructor <;> simp +contextual
theorem keeps_execPastureRebuildDone (s : State)  : Goes s.Keeps (execPastureRebuildDone s) := by
  unfold execPastureRebuildDone
  refine .next ?_
  dsimp only
  (repeat' split) <;> constructor <;> simp +contextual
theorem keeps_execE2eResend (s : State) (dst cls seq : Nat) : Goes s.Keeps (execE2eResend dst cls seq s) := by
  unfold execE2eResend
  refine .next ?_
  dsimp only
  (repeat' split) <;> constructor <;> simp +contextual
theorem keeps_execMeasure (s : State) (site block : Nat) (digest : List Byte) : Goes s.Keeps (execMeasure site block digest s) := by
  unfold execMeasure
  refine .next ?_
  dsimp only
  (repeat' split) <;> constructor <;> simp +contextual
theorem keeps_execFault (s : State) (site : Nat) (f : ChipFault) : Goes s.Keeps (execFault site f s) := by
  unfold execFault
  refine .next ?_
  dsimp only
  (repeat' split) <;> constructor <;> simp +contextual
theorem keeps_execWinWrite (s : State) (site : Nat) (tag : Nat) : Goes s.Keeps (execWinWrite site tag s) := by
  unfold execWinWrite
  refine .next ?_
  dsimp only
  (repeat' split) <;> constructor <;> simp +contextual
theorem keeps_execRecordEnd (s : State) (site : Nat) (record : Nat) : Goes s.Keeps (execRecordEnd site record s) := by
  unfold execRecordEnd
  refine .next ?_
  dsimp only
  (repeat' split) <;> constructor <;> simp +contextual
theorem keeps_execLspData (s : State) (site : Nat) (m : LspMsg) (cells : List (Nat × Byte)) (authTag : Nat) :
    Goes s.Keeps (execLspData site m cells authTag s) := by
  unfold execLspData
  refine .next ?_
  dsimp only
  (repeat' split) <;> constructor <;> simp +contextual
theorem keeps_execJournalEntryWritten (s : State) (fn entry : Nat) (twinA twinB : Bool) :
    Goes s.Keeps (execJournalEntryWritten fn entry twinA twinB s) := by
  unfold execJournalEntryWritten
  refine .next ?_
  (repeat' split) <;> constructor <;> simp +contextual
theorem keeps_execNopRecord (s : State) (fn entry : Nat) : Goes s.Keeps (execNopRecord fn entry s) := by
  unfold execNopRecord
  refine .next ?_
  (repeat' split) <;> constructor <;> simp +contextual
theorem keeps_execBind (s : State) (fn entry : Nat) : Goes s.Keeps (execBind fn entry s) := by
  unfold execBind
  refine .next ?_
  (repeat' split) <;> constructor <;> simp +contextual
theorem keeps_execWork (s : State) (fn entry : Nat) : Goes s.Keeps (execWork fn entry s) := by
  unfold execWork
  refine .next ?_
  (repeat' split) <;> constructor <;> simp +contextual
theorem keeps_execAuditClose (s : State) (fn entry : Nat) : Goes s.Keeps (execAuditClose fn entry s) := by
  unfold execAuditClose
  refine .next ?_
  (repeat' split) <;> constructor <;> simp +contextual
theorem keeps_execLoadCopyDone (s : State) (fn entry : Nat) : Goes s.Keeps (execLoadCopyDone fn entry s) := by
  unfold execLoadCopyDone
  refine .next ?_
  (repeat' split) <;> constructor <;> simp +contextual
theorem keeps_execUnload (s : State) (fn entry : Nat) : Goes s.Keeps (execUnload fn entry s) := by
  unfold execUnload
  refine .next ?_
  (repeat' split) <;> constructor <;> simp +contextual
theorem keeps_execInvalidate (s : State) (fn entry : Nat) : Goes s.Keeps (execInvalidate fn entry s) := by
  unfold execInvalidate
  refine .next ?_
  (repeat' split) <;> constructor <;> simp +contextual
theorem keeps_execQuiesce (s : State) (fn entry : Nat) : Goes s.Keeps (execQuiesce fn entry s) := by
  unfold execQuiesce
  refine .next ?_
  (repeat' split) <;> constructor <;> simp +contextual
theorem keeps_execQuiesceTimeout (s : State) (fn : Nat) : Goes s.Keeps (execQuiesceTimeout fn s) := by
  unfold execQuiesceTimeout
  refine .next ?_
  (repeat' split) <;> constructor <;> simp +contextual
theorem keeps_execResume (s : State) (fn entry : Nat) : Goes s.Keeps (execResume fn entry s) := by
  unfold execResume
  refine .next ?_
  (repeat' split) <;> constructor <;> simp +contextual
theorem keeps_execLaunch (s : State) (fn entry : Nat) : Goes s.Keeps (execLaunch fn entry s) := by
  unfold execLaunch
  refine .next ?_
  (repeat' split) <;> constructor <;> simp +contextual
theorem keeps_execInputDigestDone (s : State) (gid : Nat) : Goes s.Keeps (execInputDigestDone gid s) := by
  unfold execInputDigestDone
  refine .next ?_
  (repeat' split) <;> constructor <;> simp +contextual
theorem keeps_execGroupAbortDone (s : State) (gid : Nat) : Goes s.Keeps (execGroupAbortDone gid s) := by
  unfold execGroupAbortDone
  refine .next ?_
  (repeat' split) <;> constructor <;> simp +contextual
theorem keeps_execCheckWindowClose (s : State) (gid : Nat) (thread : Option Nat) (error : Bool) :
    Goes s.Keeps (execCheckWindowClose gid thread error s) := by
  unfold execCheckWindowClose
  refine .next ?_
  (repeat' split) <;> constructor <;> simp +contextual
theorem keeps_execRecordCommit (s : State) (fn entry : Nat) : Goes s.Keeps (execRecordCommit fn entry s) := by
  unfold execRecordCommit
  refine .next ?_
  (repeat' split) <;> constructor <;> simp +contextual
theorem keeps_execCheckpointSigned (s : State) (fn : Nat) : Goes s.Keeps (execCheckpointSigned fn s) := by
  unfold execCheckpointSigned
  refine .next ?_
  (repeat' split) <;> constructor <;> simp +contextual
theorem keeps_execSwitchOutTrigger (s : State) (gid : Nat) : Goes s.Keeps (execSwitchOutTrigger gid s) := by
  unfold execSwitchOutTrigger
  refine .next ?_
  (repeat' split) <;> constructor <;> simp +contextual
theorem keeps_execSwitchOutSaved (s : State) (gid : Nat) : Goes s.Keeps (execSwitchOutSaved gid s) := by
  unfold execSwitchOutSaved
  refine .next ?_
  (repeat' split) <;> constructor <;> simp +contextual
theorem keeps_execGroupRestore (s : State) (gid : Nat) : Goes s.Keeps (execGroupRestore gid s) := by
  unfold execGroupRestore
  refine .next ?_
  (repeat' split) <;> constructor <;> simp +contextual
theorem keeps_execLoadReturn (s : State) (t : Thr) (load : Nat) : Goes s.Keeps (execLoadReturn t load s) := by
  unfold execLoadReturn
  refine .next ?_
  (repeat' split) <;> constructor <;> simp +contextual
theorem keeps_execMcopyComplete (s : State) (t : Thr) (copy : Nat) : Goes s.Keeps (execMcopyComplete t copy s) := by
  unfold execMcopyComplete
  refine .next ?_
  (repeat' split) <;> constructor <;> simp +contextual
theorem keeps_execHurdleTimeout (s : State) (gid id : Nat) : Goes s.Keeps (execHurdleTimeout gid id s) := by
  unfold execHurdleTimeout
  refine .next ?_
  (repeat' split) <;> constructor <;> simp +contextual
theorem keeps_execTensorOpComplete (s : State) (gid core : Nat) : Goes s.Keeps (execTensorOpComplete gid core s) := by
  unfold execTensorOpComplete
  refine .next ?_
  (repeat' split) <;> constructor <;> simp +contextual
theorem keeps_execNodeFillReturn (s : State) (t : Thr) (eval line : Nat) : Goes s.Keeps (execNodeFillReturn t eval line s) := by
  unfold execNodeFillReturn
  refine .next ?_
  (repeat' split) <;> constructor <;> simp +contextual
theorem keeps_execPcieCompletion (s : State) (tag : Nat) (c : CplResult) : Goes s.Keeps (execPcieCompletion tag c s) := by
  unfold execPcieCompletion
  refine .next ?_
  (repeat' split) <;> constructor <;> simp +contextual
theorem keeps_execCompletionTimeout (s : State) (tag : Nat) : Goes s.Keeps (execCompletionTimeout tag s) := by
  unfold execCompletionTimeout
  refine .next ?_
  (repeat' split) <;> constructor <;> simp +contextual
theorem keeps_execPtmResponse (s : State) (offset : Option Int) : Goes s.Keeps (execPtmResponse offset s) := by
  unfold execPtmResponse
  refine .next ?_
  (repeat' split) <;> constructor <;> simp +contextual
theorem keeps_execControl (s : State) (q : ReqFlit) (m : ControlMsg) : Goes s.Keeps (execControl q m s) := by
  unfold execControl
  refine .next ?_
  (repeat' split) <;> constructor <;> simp +contextual
theorem keeps_execNocGo (s : State) (line : Nat) : Goes s.Keeps (execNocGo line s) := by
  unfold execNocGo
  refine .next ?_
  (repeat' split) <;> constructor <;> simp +contextual
theorem keeps_execSnoopDone (s : State) (line : Nat) : Goes s.Keeps (execSnoopDone line s) := by
  unfold execSnoopDone
  refine .next ?_
  (repeat' split) <;> constructor <;> simp +contextual
theorem keeps_execNocData (s : State) (d : DatFlit) : Goes s.Keeps (execNocData d s) := by
  unfold execNocData
  refine .next ?_
  (repeat' split) <;> constructor <;> simp +contextual
theorem keeps_execWriteGrant (s : State) (r : RspFlit) : Goes s.Keeps (execWriteGrant r s) := by
  unfold execWriteGrant
  refine .next ?_
  (repeat' split) <;> constructor <;> simp +contextual
theorem keeps_execNocDone (s : State) (r : RspFlit) : Goes s.Keeps (execNocDone r s) := by
  unfold execNocDone
  refine .next ?_
  (repeat' split) <;> constructor <;> simp +contextual
theorem keeps_execNocAck (s : State) (line : Nat) : Goes s.Keeps (execNocAck line s) := by
  unfold execNocAck
  refine .next ?_
  (repeat' split) <;> constructor <;> simp +contextual
theorem keeps_execMarginResult (s : State) (readEye writeEye ref : BitVec 8) : Goes s.Keeps (execMarginResult readEye writeEye ref s) := by
  unfold execMarginResult
  refine .next ?_
  (repeat' split) <;> constructor <;> simp +contextual
theorem keeps_execDirEntryRebuild (s : State) (bucket : Nat) : Goes s.Keeps (execDirEntryRebuild bucket s) := by
  unfold execDirEntryRebuild
  refine .next ?_
  (repeat' split) <;> constructor <;> simp +contextual
theorem keeps_execFlashOpDone (s : State) (verified : Bool) : Goes s.Keeps (execFlashOpDone verified s) := by
  unfold execFlashOpDone
  refine .next ?_
  (repeat' split) <;> constructor <;> simp +contextual
theorem keeps_execChallengeExpiry (s : State)  : Goes s.Keeps (execChallengeExpiry s) := by
  unfold execChallengeExpiry
  refine .next ?_
  (repeat' split) <;> constructor <;> simp +contextual
theorem keeps_execTransitionDone (s : State)  : Goes s.Keeps (execTransitionDone s) := by
  unfold execTransitionDone
  refine .next ?_
  (repeat' split) <;> constructor <;> simp +contextual
theorem keeps_execDebugExpiry (s : State) (paddock : Nat) : Goes s.Keeps (execDebugExpiry paddock s) := by
  unfold execDebugExpiry
  refine .next ?_
  (repeat' split) <;> constructor <;> simp +contextual
theorem keeps_execScrubDone (s : State)  : Goes s.Keeps (execScrubDone s) := by
  unfold execScrubDone
  refine .next ?_
  (repeat' split) <;> constructor <;> simp +contextual
theorem keeps_execLaneSwapDone (s : State) (port lane : Nat) (ok : Bool) : Goes s.Keeps (execLaneSwapDone port lane ok s) := by
  unfold execLaneSwapDone
  refine .next ?_
  (repeat' split) <;> constructor <;> simp +contextual
theorem keeps_execTimeExchangeTick (s : State)  : Goes s.Keeps (execTimeExchangeTick s) := by
  unfold execTimeExchangeTick
  refine .next ?_
  (repeat' split) <;> constructor <;> simp +contextual
theorem keeps_execBellwetherLost (s : State)  : Goes s.Keeps (execBellwetherLost s) := by
  unfold execBellwetherLost
  refine .next ?_
  (repeat' split) <;> constructor <;> simp +contextual
theorem keeps_execLflForward (s : State) (m : LflMsg) : Goes s.Keeps (execLflForward m s) := by
  unfold execLflForward
  refine .next ?_
  (repeat' split) <;> constructor <;> simp +contextual
theorem keeps_execMgmtRetry (s : State) (site : Nat) : Goes s.Keeps (execMgmtRetry site s) := by
  unfold execMgmtRetry
  refine .next ?_
  (repeat' split) <;> constructor <;> simp +contextual
theorem keeps_execLspFlit (s : State) (site seq : Nat) (crcOk : Bool) (kind ack : Nat) :
    Goes s.Keeps (execLspFlit site seq crcOk kind ack s) := by
  unfold execLspFlit
  refine .next ?_
  (repeat' split) <;> constructor <;> simp +contextual
theorem keeps_execWinRead (s : State) (t : Thr) (load part : Nat) : Goes s.Keeps (execWinRead t load part s) := by
  unfold execWinRead
  refine .next ?_
  (repeat' split) <;> constructor <;> simp +contextual
theorem keeps_execLspDone (s : State) (site : Nat) (m : LspMsg) : Goes s.Keeps (execLspDone site m s) := by
  unfold execLspDone
  refine .next ?_
  (repeat' split) <;> constructor <;> simp +contextual
theorem keeps_execLspGo (s : State) (site tag : Nat) : Goes s.Keeps (execLspGo site tag s) := by
  unfold execLspGo
  refine .next ?_
  (repeat' split) <;> constructor <;> simp +contextual
theorem keeps_execLspAck (s : State) (site : Nat) (m : LspMsg) : Goes s.Keeps (execLspAck site m s) := by
  unfold execLspAck
  refine .next ?_
  (repeat' split) <;> constructor <;> simp +contextual
theorem keeps_execSnpPush (s : State) (site line : Nat) : Goes s.Keeps (execSnpPush site line s) := by
  unfold execSnpPush
  refine .next ?_
  (repeat' split) <;> constructor <;> simp +contextual
theorem keeps_execSnpInv (s : State) (site line : Nat) (toShared : Bool) : Goes s.Keeps (execSnpInv site line toShared s) := by
  unfold execSnpInv
  refine .next ?_
  (repeat' split) <;> constructor <;> simp +contextual
theorem keeps_execWindowTimeout (s : State) (site tag : Nat) : Goes s.Keeps (execWindowTimeout site tag s) := by
  unfold execWindowTimeout
  refine .next ?_
  (repeat' split) <;> constructor <;> simp +contextual
theorem keeps_execSnpAckTimeout (s : State) (site line : Nat) : Goes s.Keeps (execSnpAckTimeout site line s) := by
  unfold execSnpAckTimeout
  refine .next ?_
  (repeat' split) <;> constructor <;> simp +contextual
theorem keeps_execCommonsPowerCheck (s : State) (site meanPower peakPct temp : Nat) :
    Goes s.Keeps (execCommonsPowerCheck site meanPower peakPct temp s) := by
  unfold execCommonsPowerCheck
  refine .next ?_
  (repeat' split) <;> constructor <;> simp +contextual
theorem keeps_execCalMarginEscalate (s : State) (u : MarginUnit) : Goes s.Keeps (execCalMarginEscalate u s) := by
  unfold execCalMarginEscalate
  refine .next ?_
  (repeat' split) <;> constructor <;> simp +contextual
theorem keeps_execRailMonitorSample (s : State) (rail : RailUnit) (first second : Nat) :
    Goes s.Keeps (execRailMonitorSample rail first second s) := by
  unfold execRailMonitorSample
  refine .next ?_
  (repeat' split) <;> constructor <;> simp +contextual
theorem keeps_execTraceRecordOffer (s : State) (source : Nat) (allow pair : Bool) :
    Goes s.Keeps (execTraceRecordOffer source allow pair s) := by
  unfold execTraceRecordOffer
  refine .next ?_
  (repeat' split) <;> constructor <;> simp +contextual

/-! ### Commands that compose operations of the state -/

theorem keeps_execRegisterWrite (s : State) (bar : Bar) (off : Nat) (wide : Bool) (data : W64) :
    Goes s.Keeps (execRegisterWrite bar off wide data s) :=
  .next (by constructor <;> simp +contextual)
theorem keeps_execRcRegisterRead (s : State) (bar : Bar) (off : Nat) (wide : Bool) : Goes s.Keeps (execRcRegisterRead bar off wide s) :=
  .next (by constructor <;> simp +contextual)
theorem keeps_execLowHalfRead (s : State) (bar : Bar) (off : Nat) : Goes s.Keeps (execLowHalfRead bar off s) :=
  .next (by constructor <;> simp +contextual)
theorem keeps_execLowHalfWrite (s : State) (bar : Bar) (off : Nat) (data : W32) : Goes s.Keeps (execLowHalfWrite bar off data s) :=
  .next (by constructor <;> simp +contextual)
theorem keeps_execHighHalfWrite (s : State) (bar : Bar) (off : Nat) (data : W32) : Goes s.Keeps (execHighHalfWrite bar off data s) :=
  .next (by constructor <;> simp +contextual)
theorem keeps_execBadAccess (s : State) (bar : Bar) (off len : Nat) (fullEnables write : Bool) :
    Goes s.Keeps (execBadAccess bar off len fullEnables write s) :=
  .next (by constructor <;> simp +contextual)
theorem keeps_execUnsupportedRequest (s : State) (fn : Nat) (posted : Bool) : Goes s.Keeps (execUnsupportedRequest fn posted s) :=
  .next (by constructor <;> simp +contextual)
theorem keeps_execTagCommitPf (s : State)  : Goes s.Keeps (execTagCommitPf s) := .next (by constructor <;> simp +contextual)
theorem keeps_execTagCommitI3c (s : State)  : Goes s.Keeps (execTagCommitI3c s) := .next (by constructor <;> simp +contextual)
theorem keeps_execTagCommitDone (s : State) (verified : Bool) : Goes s.Keeps (execTagCommitDone verified s) :=
  .next (by constructor <;> simp +contextual)
theorem keeps_execI3cRead (s : State) (off : Nat) : Goes s.Keeps (execI3cRead off s) := .next (by constructor <;> simp +contextual)
theorem keeps_execI3cWrite (s : State) (off : Nat) (data : W32) : Goes s.Keeps (execI3cWrite off data s) :=
  .next (by constructor <;> simp +contextual)
theorem keeps_execTileDiscovery (s : State) (site : Nat) (strap : BitVec 9) : Goes s.Keeps (execTileDiscovery site strap s) :=
  .next (by constructor <;> simp +contextual)
theorem keeps_execDiscoveryTimeout (s : State) (site : Nat) : Goes s.Keeps (execDiscoveryTimeout site s) :=
  .next (by constructor <;> simp +contextual)
theorem keeps_execStileWrite (s : State) (fn slot : Nat) (poisoned : Bool) (cells : List (Nat × Byte)) :
    Goes s.Keeps (execStileWrite fn slot poisoned cells s) :=
  .next (by constructor <;> simp +contextual)
theorem keeps_execRecordSeal (s : State) (fn slot : Nat) (cells : List (Nat × Byte)) : Goes s.Keeps (execRecordSeal fn slot cells s) :=
  .next (by constructor <;> simp +contextual)
theorem keeps_execSlotAbandon (s : State) (fn slot : Nat) : Goes s.Keeps (execSlotAbandon fn slot s) :=
  .next (by constructor <;> simp +contextual)
theorem keeps_execGapHoldExpiry (s : State) (fn slot : Nat) : Goes s.Keeps (execGapHoldExpiry fn slot s) :=
  .next (by constructor <;> simp +contextual)
theorem keeps_execWatermarkTick (s : State) (fn : Nat) : Goes s.Keeps (execWatermarkTick fn s) :=
  .next (by constructor <;> simp +contextual)
theorem keeps_execRingHeadWrite (s : State) (fn : Nat) (value : W32) : Goes s.Keeps (execRingHeadWrite fn value s) :=
  .next (by constructor <;> simp +contextual)
theorem keeps_execAuditHeadWrite (s : State) (fn : Nat) (value : W64) : Goes s.Keeps (execAuditHeadWrite fn value s) :=
  .next (by constructor <;> simp +contextual)
theorem keeps_execLoadProgram (s : State) (fn entry : Nat) : Goes s.Keeps (execLoadProgram fn entry s) :=
  .next (by constructor <;> simp +contextual)
theorem keeps_execLoadWeights (s : State) (fn entry : Nat) : Goes s.Keeps (execLoadWeights fn entry s) :=
  .next (by constructor <;> simp +contextual)
theorem keeps_execDirInsert (s : State) (fn entry : Nat) : Goes s.Keeps (execDirInsert fn entry s) :=
  .next (by constructor <;> simp +contextual)
theorem keeps_execDirDelete (s : State) (fn entry : Nat) : Goes s.Keeps (execDirDelete fn entry s) :=
  .next (by constructor <;> simp +contextual)
theorem keeps_execAuditWrite (s : State) (fn : Nat) : Goes s.Keeps (execAuditWrite fn s) := .next (by constructor <;> simp +contextual)
theorem keeps_execAtsInvalidateRequest (s : State) (fn itag va size : Nat) : Goes s.Keeps (execAtsInvalidateRequest fn itag va size s) :=
  .next (by constructor <;> simp +contextual)
theorem keeps_execAtsInvalidateComplete (s : State) (fn itag : Nat) : Goes s.Keeps (execAtsInvalidateComplete fn itag s) :=
  .next (by constructor <;> simp +contextual)
theorem keeps_execRingWriteRetry (s : State) (fn : Nat) : Goes s.Keeps (execRingWriteRetry fn s) :=
  .next (by constructor <;> simp +contextual)
theorem keeps_execPriEnableChange (s : State) (fn : Nat) (enable : Bool) : Goes s.Keeps (execPriEnableChange fn enable s) :=
  .next (by constructor <;> simp +contextual)
theorem keeps_execBusMasterEnableChange (s : State) (fn : Nat) (enable : Bool) : Goes s.Keeps (execBusMasterEnableChange fn enable s) :=
  .next (by constructor <;> simp +contextual)
theorem keeps_execPowerStateChange (s : State) (fn : Nat) (d3hot : Bool) : Goes s.Keeps (execPowerStateChange fn d3hot s) :=
  .next (by constructor <;> simp +contextual)
theorem keeps_execVfEnableClear (s : State)  : Goes s.Keeps (execVfEnableClear s) := .next (by constructor <;> simp +contextual)
theorem keeps_execNumvfsWrite (s : State) (value : Nat) : Goes s.Keeps (execNumvfsWrite value s) :=
  .next (by constructor <;> simp +contextual)
theorem keeps_execFlr (s : State) (fn : Nat) : Goes s.Keeps (execFlr fn s) := .next (by constructor <;> simp +contextual)
theorem keeps_execFlrDone (s : State) (fn : Nat) : Goes s.Keeps (execFlrDone fn s) := .next (by constructor <;> simp +contextual)
theorem keeps_execHotReset (s : State)  : Goes s.Keeps (execHotReset s) := .next (by constructor <;> simp +contextual)
theorem keeps_execPerst (s : State)  : Goes s.Keeps (execPerst s) := .next (by constructor <;> simp +contextual)
theorem keeps_execIntStatusClear (s : State) (ones : W32) : Goes s.Keeps (execIntStatusClear ones s) :=
  .next (by constructor <;> simp +contextual)
theorem keeps_execIntEnableWrite (s : State) (value : W32) : Goes s.Keeps (execIntEnableWrite value s) :=
  .next (by constructor <;> simp +contextual)
theorem keeps_execInterruptDisableChange (s : State) (disable : Bool) : Goes s.Keeps (execInterruptDisableChange disable s) :=
  .next (by constructor <;> simp +contextual)
theorem keeps_execIntaHoldoffExpiry (s : State)  : Goes s.Keeps (execIntaHoldoffExpiry s) := .next (by constructor <;> simp +contextual)
theorem keeps_execL1Entry (s : State)  : Goes s.Keeps (execL1Entry s) := .next (by constructor <;> simp +contextual)
theorem keeps_execL1Exit (s : State)  : Goes s.Keeps (execL1Exit s) := .next (by constructor <;> simp +contextual)
theorem keeps_execL0pNarrow (s : State)  : Goes s.Keeps (execL0pNarrow s) := .next (by constructor <;> simp +contextual)
theorem keeps_execL0pWiden (s : State)  : Goes s.Keeps (execL0pWiden s) := .next (by constructor <;> simp +contextual)
theorem keeps_execPtmDialogue (s : State)  : Goes s.Keeps (execPtmDialogue s) := .next (by constructor <;> simp +contextual)
theorem keeps_execLockInterface (s : State) (fn stream : Nat) : Goes s.Keeps (execLockInterface fn stream s) :=
  .next (by constructor <;> simp +contextual)
theorem keeps_execStartInterface (s : State) (fn : Nat) : Goes s.Keeps (execStartInterface fn s) :=
  .next (by constructor <;> simp +contextual)
theorem keeps_execStopInterface (s : State) (fn : Nat) : Goes s.Keeps (execStopInterface fn s) :=
  .next (by constructor <;> simp +contextual)
theorem keeps_execGetDeviceInterfaceReport (s : State) (fn : Nat) : Goes s.Keeps (execGetDeviceInterfaceReport fn s) :=
  .next (by constructor <;> simp +contextual)
theorem keeps_execSpdmGetCertificate (s : State) (slot : Nat) : Goes s.Keeps (execSpdmGetCertificate slot s) :=
  .next (by constructor <;> simp +contextual)
theorem keeps_execSpdmChallenge (s : State) (slot : Nat) (nonce : List Byte) : Goes s.Keeps (execSpdmChallenge slot nonce s) :=
  .next (by constructor <;> simp +contextual)
theorem keeps_execSpdmGetMeasurements (s : State) (block : Nat) (nonce : List Byte) :
    Goes s.Keeps (execSpdmGetMeasurements block nonce s) :=
  .next (by constructor <;> simp +contextual)
theorem keeps_execSpdmKeyExchange (s : State) (slot : Nat) (share : Nat) : Goes s.Keeps (execSpdmKeyExchange slot share s) :=
  .next (by constructor <;> simp +contextual)
theorem keeps_execFlitReceive (s : State) (link half : Nat) (crcOk : Bool) (src dst : BitVec 24) (_privileged : Bool) :
    Goes s.Keeps (execFlitReceive link half crcOk src dst _privileged s) :=
  .next (by constructor <;> simp +contextual)
theorem keeps_execNocRead (s : State) (q : ReqFlit) : Goes s.Keeps (execNocRead q s) := .next (by constructor <;> simp +contextual)
theorem keeps_execRdShared (s : State) (q : ReqFlit) : Goes s.Keeps (execRdShared q s) := .next (by constructor <;> simp +contextual)
theorem keeps_execRdUnique (s : State) (q : ReqFlit) : Goes s.Keeps (execRdUnique q s) := .next (by constructor <;> simp +contextual)
theorem keeps_execUpgrade (s : State) (q : ReqFlit) : Goes s.Keeps (execUpgrade q s) := .next (by constructor <;> simp +contextual)
theorem keeps_execWriteback (s : State) (q : ReqFlit) : Goes s.Keeps (execWriteback q s) := .next (by constructor <;> simp +contextual)
theorem keeps_execSnpShared (s : State) (line agent : Nat) : Goes s.Keeps (execSnpShared line agent s) :=
  .next (by constructor <;> simp +contextual)
theorem keeps_execSnpUnique (s : State) (line agent : Nat) : Goes s.Keeps (execSnpUnique line agent s) :=
  .next (by constructor <;> simp +contextual)
theorem keeps_execSnpInvalid (s : State) (line agent : Nat) : Goes s.Keeps (execSnpInvalid line agent s) :=
  .next (by constructor <;> simp +contextual)
theorem keeps_execRouteEntryInstall (s : State) (router port entry : Nat) (value : W64) :
    Goes s.Keeps (execRouteEntryInstall router port entry value s) :=
  .next (by constructor <;> simp +contextual)
theorem keeps_execFoldFillReturn (s : State) (owner granule : Nat) : Goes s.Keeps (execFoldFillReturn owner granule s) :=
  .next (by constructor <;> simp +contextual)
theorem keeps_execHbmTempPoll (s : State) (stack temp : Nat) : Goes s.Keeps (execHbmTempPoll stack temp s) :=
  .next (by constructor <;> simp +contextual)
theorem keeps_execHbmEccPoll (s : State) (stack count : Nat) : Goes s.Keeps (execHbmEccPoll stack count s) :=
  .next (by constructor <;> simp +contextual)
theorem keeps_execRfmRequest (s : State) (stack : Nat) : Goes s.Keeps (execRfmRequest stack s) :=
  .next (by constructor <;> simp +contextual)
theorem keeps_execWriteAgeExpiry (s : State) (engine : Nat) : Goes s.Keeps (execWriteAgeExpiry engine s) :=
  .next (by constructor <;> simp +contextual)
theorem keeps_execHbmChannelLost (s : State) (stack : Nat) : Goes s.Keeps (execHbmChannelLost stack s) :=
  .next (by constructor <;> simp +contextual)
theorem keeps_execPatrolScrubRead (s : State) (line : Nat) (r : EccResult) : Goes s.Keeps (execPatrolScrubRead line r s) :=
  .next (by constructor <;> simp +contextual)
theorem keeps_execJournalRebuildDone (s : State) (fn : Nat) : Goes s.Keeps (execJournalRebuildDone fn s) :=
  .next (by constructor <;> simp +contextual)
theorem keeps_execMarginRequest (s : State) (value : W32) : Goes s.Keeps (execMarginRequest value s) :=
  .next (by constructor <;> simp +contextual)
theorem keeps_execRegulatorWindow (s : State) (waiting throughout : List (Nat × Nat)) :
    Goes s.Keeps (execRegulatorWindow waiting throughout s) :=
  .next (by constructor <;> simp +contextual)
theorem keeps_execChargeReport (s : State) (owner cls : Nat) (a : ChargeKind) (surplus : Bool) :
    Goes s.Keeps (execChargeReport owner cls a surplus s) :=
  .next (by constructor <;> simp +contextual)
theorem keeps_execQueueFeedback (s : State) (occupancy : List (Nat × Nat × Nat)) : Goes s.Keeps (execQueueFeedback occupancy s) :=
  .next (by constructor <;> simp +contextual)
theorem keeps_execUrgencyChange (s : State) (owner cls level : Nat) : Goes s.Keeps (execUrgencyChange owner cls level s) :=
  .next (by constructor <;> simp +contextual)
theorem keeps_execShortfallLogTick (s : State) (group : Nat) : Goes s.Keeps (execShortfallLogTick group s) :=
  .next (by constructor <;> simp +contextual)
theorem keeps_execFaultReport (s : State) (r : Report) : Goes s.Keeps (execFaultReport r s) := .next (by constructor <;> simp +contextual)
theorem keeps_execSafeExit (s : State)  : Goes s.Keeps (execSafeExit s) := .next (by constructor <;> simp +contextual)
theorem keeps_execSheepdogSelfFault (s : State)  : Goes s.Keeps (execSheepdogSelfFault s) := .next (by constructor <;> simp +contextual)
theorem keeps_execStallWatchdog (s : State) (r : Report) : Goes s.Keeps (execStallWatchdog r s) :=
  .next (by constructor <;> simp +contextual)
theorem keeps_execQRelease (s : State) (value : W32) : Goes s.Keeps (execQRelease value s) := .next (by constructor <;> simp +contextual)
theorem keeps_execFirstErrorClear (s : State)  : Goes s.Keeps (execFirstErrorClear s) := .next (by constructor <;> simp +contextual)
theorem keeps_execSupplyValid (s : State) (sris : Bool) : Goes s.Keeps (execSupplyValid sris s) :=
  .next (by constructor <;> simp +contextual)
theorem keeps_execSupplyDip (s : State)  : Goes s.Keeps (execSupplyDip s) := .next (by constructor <;> simp +contextual)
theorem keeps_execAuxLoss (s : State)  : Goes s.Keeps (execAuxLoss s) := .next (by constructor <;> simp +contextual)
theorem keeps_execSysRstAssert (s : State)  : Goes s.Keeps (execSysRstAssert s) := .next (by constructor <;> simp +contextual)
theorem keeps_execSysRstDeassert (s : State)  : Goes s.Keeps (execSysRstDeassert s) := .next (by constructor <;> simp +contextual)
theorem keeps_execWarmRstAssert (s : State)  : Goes s.Keeps (execWarmRstAssert s) := .next (by constructor <;> simp +contextual)
theorem keeps_execStartReqCold (s : State)  : Goes s.Keeps (execStartReqCold s) := .next (by constructor <;> simp +contextual)
theorem keeps_execStartReqWarm (s : State)  : Goes s.Keeps (execStartReqWarm s) := .next (by constructor <;> simp +contextual)
theorem keeps_execAutoWarmStart (s : State)  : Goes s.Keeps (execAutoWarmStart s) := .next (by constructor <;> simp +contextual)
theorem keeps_execLinkTrainingEnd (s : State)  : Goes s.Keeps (execLinkTrainingEnd s) := .next (by constructor <;> simp +contextual)
theorem keeps_execReadyLimitExpiry (s : State)  : Goes s.Keeps (execReadyLimitExpiry s) := .next (by constructor <;> simp +contextual)
theorem keeps_execStartRetry (s : State)  : Goes s.Keeps (execStartRetry s) := .next (by constructor <;> simp +contextual)
theorem keeps_execFlashRead (s : State)  : Goes s.Keeps (execFlashRead s) := .next (by constructor <;> simp +contextual)
theorem keeps_execFlashProgram (s : State)  : Goes s.Keeps (execFlashProgram s) := .next (by constructor <;> simp +contextual)
theorem keeps_execFlashErase (s : State)  : Goes s.Keeps (execFlashErase s) := .next (by constructor <;> simp +contextual)
theorem keeps_execChallengeNew (s : State)  : Goes s.Keeps (execChallengeNew s) := .next (by constructor <;> simp +contextual)
theorem keeps_execTokenPaddockDebug (s : State)  : Goes s.Keeps (execTokenPaddockDebug s) := .next (by constructor <;> simp +contextual)
theorem keeps_execTokenReturn (s : State)  : Goes s.Keeps (execTokenReturn s) := .next (by constructor <;> simp +contextual)
theorem keeps_execTokenScrap (s : State)  : Goes s.Keeps (execTokenScrap s) := .next (by constructor <;> simp +contextual)
theorem keeps_execTokenDeploy (s : State)  : Goes s.Keeps (execTokenDeploy s) := .next (by constructor <;> simp +contextual)
theorem keeps_execTokenProvision (s : State)  : Goes s.Keeps (execTokenProvision s) := .next (by constructor <;> simp +contextual)
theorem keeps_execDebugRead (s : State) (high : W32) : Goes s.Keeps (execDebugRead high s) := .next (by constructor <;> simp +contextual)
theorem keeps_execScrubStart (s : State) (value : W32) : Goes s.Keeps (execScrubStart value s) :=
  .next (by constructor <;> simp +contextual)
theorem keeps_execLightChange (s : State) (input : Nat) (on : Bool) : Goes s.Keeps (execLightChange input on s) :=
  .next (by constructor <;> simp +contextual)
theorem keeps_execTrainPattern (s : State) (port : Nat) : Goes s.Keeps (execTrainPattern port s) :=
  .next (by constructor <;> simp +contextual)
theorem keeps_execPortTrained (s : State) (port width : Nat) : Goes s.Keeps (execPortTrained port width s) :=
  .next (by constructor <;> simp +contextual)
theorem keeps_execTrainTimeout (s : State)  : Goes s.Keeps (execTrainTimeout s) := .next (by constructor <;> simp +contextual)
theorem keeps_execTrain (s : State) (port lanes : Nat) : Goes s.Keeps (execTrain port lanes s) :=
  .next (by constructor <;> simp +contextual)
theorem keeps_execIdent (s : State) (port : Nat) (i : IdentMsg) : Goes s.Keeps (execIdent port i s) :=
  .next (by constructor <;> simp +contextual)
theorem keeps_execKeyxOffer (s : State) (port : Nat) (k : KeyxMsg) : Goes s.Keeps (execKeyxOffer port k s) :=
  .next (by constructor <;> simp +contextual)
theorem keeps_execKeyxAccept (s : State) (port : Nat) (k : KeyxMsg) : Goes s.Keeps (execKeyxAccept port k s) :=
  .next (by constructor <;> simp +contextual)
theorem keeps_execKeyxConfirm (s : State) (port : Nat) (k : KeyxMsg) : Goes s.Keeps (execKeyxConfirm port k s) :=
  .next (by constructor <;> simp +contextual)
theorem keeps_execKeyxRekey (s : State) (port share : Nat) : Goes s.Keeps (execKeyxRekey port share s) :=
  .next (by constructor <;> simp +contextual)
theorem keeps_execKeyxAck (s : State) (port share : Nat) : Goes s.Keeps (execKeyxAck port share s) :=
  .next (by constructor <;> simp +contextual)
theorem keeps_execRekeyTimer (s : State) (port : Nat) : Goes s.Keeps (execRekeyTimer port s) := .next (by constructor <;> simp +contextual)
theorem keeps_execRekeyTimeout (s : State) (port : Nat) : Goes s.Keeps (execRekeyTimeout port s) :=
  .next (by constructor <;> simp +contextual)
theorem keeps_execLflFlit (s : State) (port : Nat) (f : LflFlit) : Goes s.Keeps (execLflFlit port f s) :=
  .next (by constructor <;> simp +contextual)
theorem keeps_execNak (s : State) (port seq : Nat) : Goes s.Keeps (execNak port seq s) := .next (by constructor <;> simp +contextual)
theorem keeps_execWidth (s : State) (port lanes : Nat) : Goes s.Keeps (execWidth port lanes s) :=
  .next (by constructor <;> simp +contextual)
theorem keeps_execLaneFault (s : State) (port lane : Nat) : Goes s.Keeps (execLaneFault port lane s) :=
  .next (by constructor <;> simp +contextual)
theorem keeps_execTimeReq (s : State) (port : Nat) (_t1 : W64) : Goes s.Keeps (execTimeReq port _t1 s) :=
  .next (by constructor <;> simp +contextual)
theorem keeps_execTimeResp (s : State) (port : Nat) (t2 t3 : W64) : Goes s.Keeps (execTimeResp port t2 t3 s) :=
  .next (by constructor <;> simp +contextual)
theorem keeps_execTimeSyncLost (s : State)  : Goes s.Keeps (execTimeSyncLost s) := .next (by constructor <;> simp +contextual)
theorem keeps_execFenced (s : State) (port node : Nat) : Goes s.Keeps (execFenced port node s) :=
  .next (by constructor <;> simp +contextual)
theorem keeps_execFencedRepeat (s : State)  : Goes s.Keeps (execFencedRepeat s) := .next (by constructor <;> simp +contextual)
theorem keeps_execCollectData (s : State) (m : LflMsg) : Goes s.Keeps (execCollectData m s) := .next (by constructor <;> simp +contextual)
theorem keeps_execHurdleArrive (s : State) (m : LflMsg) : Goes s.Keeps (execHurdleArrive m s) := .next (by constructor <;> simp +contextual)
theorem keeps_execLstate (s : State) (m : LflMsg) : Goes s.Keeps (execLstate m s) := .next (by constructor <;> simp +contextual)
theorem keeps_execCollectResult (s : State) (m : LflMsg) : Goes s.Keeps (execCollectResult m s) :=
  .next (by constructor <;> simp +contextual)
theorem keeps_execHurdleOpen (s : State) (m : LflMsg) : Goes s.Keeps (execHurdleOpen m s) := .next (by constructor <;> simp +contextual)
theorem keeps_execE2eAck (s : State) (m : LflMsg) : Goes s.Keeps (execE2eAck m s) := .next (by constructor <;> simp +contextual)
theorem keeps_execLstateTick (s : State)  : Goes s.Keeps (execLstateTick s) := .next (by constructor <;> simp +contextual)
theorem keeps_execDiscover (s : State) (site : Nat) (d : DiscoverMsg) : Goes s.Keeps (execDiscover site d s) :=
  .next (by constructor <;> simp +contextual)
theorem keeps_execConfigure (s : State) (site : Nat) : Goes s.Keeps (execConfigure site s) := .next (by constructor <;> simp +contextual)
theorem keeps_execConfigureAck (s : State) (site : Nat) (echoOk : Bool) : Goes s.Keeps (execConfigureAck site echoOk s) :=
  .next (by constructor <;> simp +contextual)
theorem keeps_execMeasureReq (s : State) (site block : Nat) : Goes s.Keeps (execMeasureReq site block s) :=
  .next (by constructor <;> simp +contextual)
theorem keeps_execHeartbeat (s : State) (site temp _flags : Nat) : Goes s.Keeps (execHeartbeat site temp _flags s) :=
  .next (by constructor <;> simp +contextual)
theorem keeps_execHeartbeatTimeout (s : State) (site : Nat) : Goes s.Keeps (execHeartbeatTimeout site s) :=
  .next (by constructor <;> simp +contextual)
theorem keeps_execThrottle (s : State) (site watts : Nat) : Goes s.Keeps (execThrottle site watts s) :=
  .next (by constructor <;> simp +contextual)
theorem keeps_execHubShare (s : State) (site : Nat) : Goes s.Keeps (execHubShare site s) := .next (by constructor <;> simp +contextual)
theorem keeps_execChipShare (s : State) (site share : Nat) : Goes s.Keeps (execChipShare site share s) :=
  .next (by constructor <;> simp +contextual)
theorem keeps_execHubConfirm (s : State) (site : Nat) : Goes s.Keeps (execHubConfirm site s) := .next (by constructor <;> simp +contextual)
theorem keeps_execChipConfirm (s : State) (site : Nat) (tag : Nat) : Goes s.Keeps (execChipConfirm site tag s) :=
  .next (by constructor <;> simp +contextual)
theorem keeps_execLspNak (s : State) (site seq : Nat) : Goes s.Keeps (execLspNak site seq s) := .next (by constructor <;> simp +contextual)
theorem keeps_execDmaRead (s : State) (site : Nat) (m : LspMsg) : Goes s.Keeps (execDmaRead site m s) :=
  .next (by constructor <;> simp +contextual)
theorem keeps_execDmaWrite (s : State) (site : Nat) (m : LspMsg) : Goes s.Keeps (execDmaWrite site m s) :=
  .next (by constructor <;> simp +contextual)
theorem keeps_execCohReq (s : State) (site : Nat) (m : LspMsg) : Goes s.Keeps (execCohReq site m s) :=
  .next (by constructor <;> simp +contextual)
theorem keeps_execSnpAck (s : State) (site : Nat) (m : LspMsg) : Goes s.Keeps (execSnpAck site m s) :=
  .next (by constructor <;> simp +contextual)
theorem keeps_execWindowRekey (s : State) (site : Nat) : Goes s.Keeps (execWindowRekey site s) :=
  .next (by constructor <;> simp +contextual)
theorem keeps_execBringupStepTimeout (s : State) (site step : Nat) : Goes s.Keeps (execBringupStepTimeout site step s) :=
  .next (by constructor <;> simp +contextual)
theorem keeps_execPowerControlPeriod (s : State) (meanW inputV10 : Nat) : Goes s.Keeps (execPowerControlPeriod meanW inputV10 s) :=
  .next (by constructor <;> simp +contextual)
theorem keeps_execCanaryWindow (s : State) (rail : Nat) : Goes s.Keeps (execCanaryWindow rail s) :=
  .next (by constructor <;> simp +contextual)
theorem keeps_execMarginRelax (s : State) (rail : Nat) : Goes s.Keeps (execMarginRelax rail s) :=
  .next (by constructor <;> simp +contextual)
theorem keeps_execPllLockLoss (s : State) (pll : Nat) : Goes s.Keeps (execPllLockLoss pll s) := .next (by constructor <;> simp +contextual)
theorem keeps_execHbmCentringStep (s : State) (stack pc setting : Nat) (up : Bool) (readEye writeEye bytes : Nat) :
    Goes s.Keeps (execHbmCentringStep stack pc setting up readEye writeEye bytes s) :=
  .next (by constructor <;> simp +contextual)
theorem keeps_execRingTracking (s : State) (port : Nat) (below : List Nat) (detune : Nat) :
    Goes s.Keeps (execRingTracking port below detune s) :=
  .next (by constructor <;> simp +contextual)
theorem keeps_execThermalShutdown (s : State) (temp : Nat) : Goes s.Keeps (execThermalShutdown temp s) :=
  .next (by constructor <;> simp +contextual)
theorem keeps_execTlyReset (s : State)  : Goes s.Keeps (execTlyReset s) := .next (by constructor <;> simp +contextual)
theorem keeps_execTlyFnReset (s : State) (fn : Nat) : Goes s.Keeps (execTlyFnReset fn s) := .next (by constructor <;> simp +contextual)
theorem keeps_execFabSnapTake (s : State)  : Goes s.Keeps (execFabSnapTake s) := .next (by constructor <;> simp +contextual)
theorem keeps_execFabSnapDone (s : State)  : Goes s.Keeps (execFabSnapDone s) := .next (by constructor <;> simp +contextual)
theorem keeps_execProbeMatch (s : State) (f : SeenFlit) : Goes s.Keeps (execProbeMatch f s) := .next (by constructor <;> simp +contextual)
theorem keeps_execTraceArm (s : State) (b : Nat) : Goes s.Keeps (execTraceArm b s) := .next (by constructor <;> simp +contextual)
theorem keeps_execTraceDisarm (s : State) (b : Nat) : Goes s.Keeps (execTraceDisarm b s) := .next (by constructor <;> simp +contextual)
theorem keeps_execTraceTrigger (s : State) (value : W32) : Goes s.Keeps (execTraceTrigger value s) :=
  .next (by constructor <;> simp +contextual)
theorem keeps_execAuxSupplyValid (s : State) (sris : Bool) : Goes s.Keeps (execAuxSupplyValid sris s) :=
  .next (by constructor <;> simp +contextual)
theorem keeps_execPcieLinkError (s : State) (kind : Nat) : Goes s.Keeps (execPcieLinkError kind s) :=
  .next (by constructor <;> simp +contextual)
theorem keeps_execKeyExchangeTimeout (s : State) (port : Nat) : Goes s.Keeps (execKeyExchangeTimeout port s) :=
  .next (by constructor <;> simp +contextual)
theorem keeps_execClkreqAsserted (s : State)  : Goes s.Keeps (execClkreqAsserted s) := .next (by constructor <;> simp +contextual)

/-! ### All commands -/

theorem goes_keeps (c : Instr) (s : State) : Goes s.Keeps (exec c s) := by
  rcases hx : issuedBy c with _ | x
  case some => exact (confined_of_issued s hx).mono fun _ h => h.keeps
  case none =>
    cases c with
    | registerWrite => exact keeps_execRegisterWrite s ..
    | rcRegisterRead => exact keeps_execRcRegisterRead s ..
    | lowHalfRead => exact keeps_execLowHalfRead s ..
    | lowHalfWrite => exact keeps_execLowHalfWrite s ..
    | highHalfWrite => exact keeps_execHighHalfWrite s ..
    | badAccess => exact keeps_execBadAccess s ..
    | unsupportedRequest => exact keeps_execUnsupportedRequest s ..
    | tagCommitPf => exact keeps_execTagCommitPf s ..
    | tagCommitI3c => exact keeps_execTagCommitI3c s ..
    | tagCommitDone => exact keeps_execTagCommitDone s ..
    | i3cRead => exact keeps_execI3cRead s ..
    | i3cWrite => exact keeps_execI3cWrite s ..
    | tileDiscovery => exact keeps_execTileDiscovery s ..
    | discoveryTimeout => exact keeps_execDiscoveryTimeout s ..
    | stileWrite => exact keeps_execStileWrite s ..
    | recordSeal => exact keeps_execRecordSeal s ..
    | slotAbandon => exact keeps_execSlotAbandon s ..
    | gapHoldExpiry => exact keeps_execGapHoldExpiry s ..
    | journalEntryWritten => exact keeps_execJournalEntryWritten s ..
    | watermarkTick => exact keeps_execWatermarkTick s ..
    | ringHeadWrite => exact keeps_execRingHeadWrite s ..
    | auditHeadWrite => exact keeps_execAuditHeadWrite s ..
    | receiptWrite => exact keeps_execReceiptWrite s ..
    | nopRecord => exact keeps_execNopRecord s ..
    | bind => exact keeps_execBind s ..
    | work => exact keeps_execWork s ..
    | auditClose => exact keeps_execAuditClose s ..
    | loadProgram => exact keeps_execLoadProgram s ..
    | loadWeights => exact keeps_execLoadWeights s ..
    | loadCopyDone => exact keeps_execLoadCopyDone s ..
    | unload => exact keeps_execUnload s ..
    | tableUpdate => exact keeps_execTableUpdate s ..
    | invalidate => exact keeps_execInvalidate s ..
    | dirInsert => exact keeps_execDirInsert s ..
    | dirDelete => exact keeps_execDirDelete s ..
    | quiesce => exact keeps_execQuiesce s ..
    | quiesceTimeout => exact keeps_execQuiesceTimeout s ..
    | resume => exact keeps_execResume s ..
    | launch => exact keeps_execLaunch s ..
    | lookupComplete => exact keeps_execLookupComplete s ..
    | gatherComplete => exact keeps_execGatherComplete s ..
    | inputDigestDone => exact keeps_execInputDigestDone s ..
    | groupAbortDone => exact keeps_execGroupAbortDone s ..
    | checkWindowClose => exact keeps_execCheckWindowClose s ..
    | releaseStart => exact keeps_execReleaseStart s ..
    | releaseLogged => exact keeps_execReleaseLogged s ..
    | auditWrite => exact keeps_execAuditWrite s ..
    | recordCommit => exact keeps_execRecordCommit s ..
    | checkpointSigned => exact keeps_execCheckpointSigned s ..
    | switchOutTrigger => exact keeps_execSwitchOutTrigger s ..
    | switchOutSaved => exact keeps_execSwitchOutSaved s ..
    | groupRestore => exact keeps_execGroupRestore s ..
    | loadReturn => exact keeps_execLoadReturn s ..
    | mcopyComplete => exact keeps_execMcopyComplete s ..
    | hurdleTimeout => exact keeps_execHurdleTimeout s ..
    | tensorOpComplete => exact keeps_execTensorOpComplete s ..
    | fevalComplete => exact keeps_execFevalComplete s ..
    | nodeFillReturn => exact keeps_execNodeFillReturn s ..
    | tableWalkDone => exact keeps_execTableWalkDone s ..
    | atsCompletion => exact keeps_execAtsCompletion s ..
    | atsInvalidateRequest => exact keeps_execAtsInvalidateRequest s ..
    | atsInvalidateComplete => exact keeps_execAtsInvalidateComplete s ..
    | prgResponse => exact keeps_execPrgResponse s ..
    | priTimeout => exact keeps_execPriTimeout s ..
    | ringWriteRetry => exact keeps_execRingWriteRetry s ..
    | priEnableChange => exact keeps_execPriEnableChange s ..
    | pcieCompletion => exact keeps_execPcieCompletion s ..
    | completionTimeout => exact keeps_execCompletionTimeout s ..
    | busMasterEnableChange => exact keeps_execBusMasterEnableChange s ..
    | powerStateChange => exact keeps_execPowerStateChange s ..
    | vfEnableClear => exact keeps_execVfEnableClear s ..
    | numvfsWrite => exact keeps_execNumvfsWrite s ..
    | flr => exact keeps_execFlr s ..
    | flrDone => exact keeps_execFlrDone s ..
    | hotReset => exact keeps_execHotReset s ..
    | perst => exact keeps_execPerst s ..
    | intStatusClear => exact keeps_execIntStatusClear s ..
    | intEnableWrite => exact keeps_execIntEnableWrite s ..
    | interruptDisableChange => exact keeps_execInterruptDisableChange s ..
    | intaHoldoffExpiry => exact keeps_execIntaHoldoffExpiry s ..
    | l1Entry => exact keeps_execL1Entry s ..
    | l1Exit => exact keeps_execL1Exit s ..
    | l0pNarrow => exact keeps_execL0pNarrow s ..
    | l0pWiden => exact keeps_execL0pWiden s ..
    | ptmDialogue => exact keeps_execPtmDialogue s ..
    | ptmResponse => exact keeps_execPtmResponse s ..
    | lockInterface => exact keeps_execLockInterface s ..
    | startInterface => exact keeps_execStartInterface s ..
    | stopInterface => exact keeps_execStopInterface s ..
    | getDeviceInterfaceReport => exact keeps_execGetDeviceInterfaceReport s ..
    | spdmGetCertificate => exact keeps_execSpdmGetCertificate s ..
    | spdmChallenge => exact keeps_execSpdmChallenge s ..
    | spdmGetMeasurements => exact keeps_execSpdmGetMeasurements s ..
    | spdmKeyExchange => exact keeps_execSpdmKeyExchange s ..
    | flitReceive link half crcOk src dst privileged => exact keeps_execFlitReceive s link half crcOk src dst privileged
    | nocRead => exact keeps_execNocRead s ..
    | nocWrite => exact keeps_execNocWrite s ..
    | nocAtomic => exact keeps_execNocAtomic s ..
    | nocXadd => exact keeps_execNocXadd s ..
    | control => exact keeps_execControl s ..
    | rdShared => exact keeps_execRdShared s ..
    | rdUnique => exact keeps_execRdUnique s ..
    | upgrade => exact keeps_execUpgrade s ..
    | writeback => exact keeps_execWriteback s ..
    | nocGo => exact keeps_execNocGo s ..
    | snpShared => exact keeps_execSnpShared s ..
    | snpUnique => exact keeps_execSnpUnique s ..
    | snpInvalid => exact keeps_execSnpInvalid s ..
    | snoopDone => exact keeps_execSnoopDone s ..
    | nocData => exact keeps_execNocData s ..
    | writeGrant => exact keeps_execWriteGrant s ..
    | nocDone => exact keeps_execNocDone s ..
    | nocAck => exact keeps_execNocAck s ..
    | routeEntryInstall => exact keeps_execRouteEntryInstall s ..
    | foldFillReturn => exact keeps_execFoldFillReturn s ..
    | hbmTempPoll => exact keeps_execHbmTempPoll s ..
    | hbmEccPoll => exact keeps_execHbmEccPoll s ..
    | rfmRequest => exact keeps_execRfmRequest s ..
    | writeAgeExpiry => exact keeps_execWriteAgeExpiry s ..
    | hbmChannelLost => exact keeps_execHbmChannelLost s ..
    | patrolScrubRead => exact keeps_execPatrolScrubRead s ..
    | pastureRebuildDone => exact keeps_execPastureRebuildDone s ..
    | journalRebuildDone => exact keeps_execJournalRebuildDone s ..
    | marginRequest => exact keeps_execMarginRequest s ..
    | marginResult => exact keeps_execMarginResult s ..
    | dirEntryRebuild => exact keeps_execDirEntryRebuild s ..
    | regulatorWindow => exact keeps_execRegulatorWindow s ..
    | chargeReport => exact keeps_execChargeReport s ..
    | queueFeedback => exact keeps_execQueueFeedback s ..
    | urgencyChange => exact keeps_execUrgencyChange s ..
    | shortfallLogTick => exact keeps_execShortfallLogTick s ..
    | faultReport => exact keeps_execFaultReport s ..
    | safeExit => exact keeps_execSafeExit s ..
    | sheepdogSelfFault => exact keeps_execSheepdogSelfFault s ..
    | stallWatchdog => exact keeps_execStallWatchdog s ..
    | qRelease => exact keeps_execQRelease s ..
    | firstErrorClear => exact keeps_execFirstErrorClear s ..
    | supplyValid => exact keeps_execSupplyValid s ..
    | supplyDip => exact keeps_execSupplyDip s ..
    | auxLoss => exact keeps_execAuxLoss s ..
    | sysRstAssert => exact keeps_execSysRstAssert s ..
    | sysRstDeassert => exact keeps_execSysRstDeassert s ..
    | warmRstAssert => exact keeps_execWarmRstAssert s ..
    | startReqCold => exact keeps_execStartReqCold s ..
    | startReqWarm => exact keeps_execStartReqWarm s ..
    | autoWarmStart => exact keeps_execAutoWarmStart s ..
    | memoryMachineDone => exact keeps_execMemoryMachineDone s ..
    | linkTrainingEnd => exact keeps_execLinkTrainingEnd s ..
    | readyLimitExpiry => exact keeps_execReadyLimitExpiry s ..
    | startRetry => exact keeps_execStartRetry s ..
    | flashRead => exact keeps_execFlashRead s ..
    | flashProgram => exact keeps_execFlashProgram s ..
    | flashErase => exact keeps_execFlashErase s ..
    | flashOpDone => exact keeps_execFlashOpDone s ..
    | challengeNew => exact keeps_execChallengeNew s ..
    | challengeExpiry => exact keeps_execChallengeExpiry s ..
    | tokenPaddockDebug => exact keeps_execTokenPaddockDebug s ..
    | tokenReturn => exact keeps_execTokenReturn s ..
    | tokenScrap => exact keeps_execTokenScrap s ..
    | tokenDeploy => exact keeps_execTokenDeploy s ..
    | tokenProvision => exact keeps_execTokenProvision s ..
    | transitionDone => exact keeps_execTransitionDone s ..
    | debugExpiry => exact keeps_execDebugExpiry s ..
    | debugRead => exact keeps_execDebugRead s ..
    | scrubStart => exact keeps_execScrubStart s ..
    | scrubDone => exact keeps_execScrubDone s ..
    | lightChange => exact keeps_execLightChange s ..
    | trainPattern => exact keeps_execTrainPattern s ..
    | portTrained => exact keeps_execPortTrained s ..
    | trainTimeout => exact keeps_execTrainTimeout s ..
    | train => exact keeps_execTrain s ..
    | ident => exact keeps_execIdent s ..
    | keyxOffer => exact keeps_execKeyxOffer s ..
    | keyxAccept => exact keeps_execKeyxAccept s ..
    | keyxConfirm => exact keeps_execKeyxConfirm s ..
    | keyxRekey => exact keeps_execKeyxRekey s ..
    | keyxAck => exact keeps_execKeyxAck s ..
    | rekeyTimer => exact keeps_execRekeyTimer s ..
    | rekeyTimeout => exact keeps_execRekeyTimeout s ..
    | lflFlit => exact keeps_execLflFlit s ..
    | nak => exact keeps_execNak s ..
    | width => exact keeps_execWidth s ..
    | laneFault => exact keeps_execLaneFault s ..
    | laneSwapDone => exact keeps_execLaneSwapDone s ..
    | timeReq port t1 => exact keeps_execTimeReq s port t1
    | timeResp => exact keeps_execTimeResp s ..
    | timeExchangeTick => exact keeps_execTimeExchangeTick s ..
    | timeSyncLost => exact keeps_execTimeSyncLost s ..
    | bellwetherLost => exact keeps_execBellwetherLost s ..
    | fenced => exact keeps_execFenced s ..
    | fencedRepeat => exact keeps_execFencedRepeat s ..
    | collectData => exact keeps_execCollectData s ..
    | hurdleArrive => exact keeps_execHurdleArrive s ..
    | lstate => exact keeps_execLstate s ..
    | collectResult => exact keeps_execCollectResult s ..
    | hurdleOpen => exact keeps_execHurdleOpen s ..
    | e2eAck => exact keeps_execE2eAck s ..
    | e2eResend => exact keeps_execE2eResend s ..
    | lstateTick => exact keeps_execLstateTick s ..
    | lflForward => exact keeps_execLflForward s ..
    | discover => exact keeps_execDiscover s ..
    | configure => exact keeps_execConfigure s ..
    | configureAck => exact keeps_execConfigureAck s ..
    | measureReq => exact keeps_execMeasureReq s ..
    | measure => exact keeps_execMeasure s ..
    | heartbeat site temp flags => exact keeps_execHeartbeat s site temp flags
    | heartbeatTimeout => exact keeps_execHeartbeatTimeout s ..
    | fault => exact keeps_execFault s ..
    | throttle => exact keeps_execThrottle s ..
    | hubShare => exact keeps_execHubShare s ..
    | chipShare => exact keeps_execChipShare s ..
    | hubConfirm => exact keeps_execHubConfirm s ..
    | chipConfirm => exact keeps_execChipConfirm s ..
    | mgmtRetry => exact keeps_execMgmtRetry s ..
    | lspFlit => exact keeps_execLspFlit s ..
    | lspNak => exact keeps_execLspNak s ..
    | winRead => exact keeps_execWinRead s ..
    | winWrite => exact keeps_execWinWrite s ..
    | recordEnd => exact keeps_execRecordEnd s ..
    | dmaRead => exact keeps_execDmaRead s ..
    | dmaWrite => exact keeps_execDmaWrite s ..
    | cohReq => exact keeps_execCohReq s ..
    | lspDone => exact keeps_execLspDone s ..
    | lspGo => exact keeps_execLspGo s ..
    | lspAck => exact keeps_execLspAck s ..
    | snpPush => exact keeps_execSnpPush s ..
    | snpInv => exact keeps_execSnpInv s ..
    | snpAck => exact keeps_execSnpAck s ..
    | lspData => exact keeps_execLspData s ..
    | windowTimeout => exact keeps_execWindowTimeout s ..
    | snpAckTimeout => exact keeps_execSnpAckTimeout s ..
    | windowRekey => exact keeps_execWindowRekey s ..
    | commonsPowerCheck => exact keeps_execCommonsPowerCheck s ..
    | bringupStepTimeout => exact keeps_execBringupStepTimeout s ..
    | powerControlPeriod => exact keeps_execPowerControlPeriod s ..
    | canaryWindow => exact keeps_execCanaryWindow s ..
    | marginRelax => exact keeps_execMarginRelax s ..
    | calMarginEscalate => exact keeps_execCalMarginEscalate s ..
    | thermalSample => exact keeps_execThermalSample s ..
    | railMonitorSample => exact keeps_execRailMonitorSample s ..
    | pllLockLoss => exact keeps_execPllLockLoss s ..
    | hbmCentringStep => exact keeps_execHbmCentringStep s ..
    | ringTracking => exact keeps_execRingTracking s ..
    | thermalShutdown => exact keeps_execThermalShutdown s ..
    | tlyReset => exact keeps_execTlyReset s ..
    | tlyFnReset => exact keeps_execTlyFnReset s ..
    | fabSnapTake => exact keeps_execFabSnapTake s ..
    | fabSnapDone => exact keeps_execFabSnapDone s ..
    | probeMatch => exact keeps_execProbeMatch s ..
    | traceRecordOffer => exact keeps_execTraceRecordOffer s ..
    | traceArm => exact keeps_execTraceArm s ..
    | traceDisarm => exact keeps_execTraceDisarm s ..
    | traceTrigger => exact keeps_execTraceTrigger s ..
    | auxSupplyValid => exact keeps_execAuxSupplyValid s ..
    | pcieLinkError => exact keeps_execPcieLinkError s ..
    | keyExchangeTimeout => exact keeps_execKeyExchangeTimeout s ..
    | clkreqAsserted => exact keeps_execClkreqAsserted s ..
    | _ => simp [issuedBy] at hx

/-- Settles O1: the definition of `step`. -/
theorem stepRunsFrontCommand : Obligations.StepRunsFrontCommand := by
  intro c rest s hp
  simp [step, hp]

/-- Settles O57: what every command keeps includes the queue. -/
theorem commandsAnswer : Obligations.CommandsAnswer := by
  intro c s
  obtain ⟨t, hexec, hkeeps⟩ := goes_keeps c s
  exact ⟨t, hexec, hkeeps.pending⟩

theorem State.keeps_tick (s : State) : s.Keeps s.tick := by constructor <;> simp +contextual

/-- Settles O59: a step is a command or a nanosecond of module time, and both keep the forms. -/
theorem memoryKeepsItsForm : Obligations.MemoryKeepsItsForm := by
  rintro s t ⟨hmem, hflash⟩ hstep
  unfold step at hstep
  split at hstep
  case h_1 =>
    obtain rfl : s.tick = t := by simpa using hstep
    exact ⟨s.keeps_tick.mem hmem, s.keeps_tick.flash hflash⟩
  case h_2 c rest _ =>
    obtain ⟨u, hexec, hkeeps⟩ := goes_keeps c { s with pending := rest }
    obtain rfl : u = t := by simpa [hexec] using hstep
    exact ⟨hkeeps.mem hmem, hkeeps.flash hflash⟩

/-! ### A nanosecond without a command -/

theorem State.time_tickTime (s : State) : s.tickTime.time =
    if s.slewDone ≤ s.pce.slew.natAbs ∧ s.pce.slewAt + 10000 ≤ s.time then if 0 < s.pce.slew then s.time + 2 else s.time
    else s.time + 1 := by
  unfold State.tickTime
  split_ifs <;> simp_all

/-- Settles O60: a nanosecond moves module time as the slewing due says, and firmware's part leaves it. -/
theorem quietStep : Obligations.QuietStep := by
  intro s hp
  refine ⟨s.tick, by simp [step, hp], by simp [hp], fun hup => by simp [State.tick, hup], ?_⟩
  have htime (hup : s.up = true) : s.tick.time = s.tickTime.time := by simp [State.tick, hup]
  refine ⟨fun hup hslew => ?_, fun hup _ hearly => ?_, fun hup hslew hdue => ⟨fun hpos => ?_, fun hneg => ?_⟩⟩ <;>
    rw [htime hup, s.time_tickTime]
  · rw [if_neg (by omega)]
  · rw [if_neg (by omega)]
  · rw [if_pos ⟨hslew, hdue⟩, if_pos hpos]
  · rw [if_pos ⟨hslew, hdue⟩, if_neg (by omega)]

/-! ### The module before its supplies -/

/-- Settles O56: each clause is the value that `State.reset` lists or leaves out. -/
theorem resetState : Obligations.ResetState := by
  refine ⟨rfl, rfl, rfl, rfl, rfl, rfl, ⟨rfl, rfl⟩, by decide, by decide, by decide, ?_, by decide, by decide, by decide⟩
  decide

end Sys2Proof.Machine
end

section
/-! SUPPORT. Issue of an instruction (R153 to R158, R166), the registers of a thread after a write (R156), and what retiring and exceptions
leave alone (R201, R669). -/

namespace Sys2Proof.Machine
open Sys2Proof Sys2Proof.Claims

/-! ### Every instruction is issued the same way -/

/-- Whatever a thread issues takes its effect behind the steps of R153 to R158. -/
theorem exec_eq_insn {i : Instr} {x : Thr × BitVec 5} (s : State) (hx : issuedBy i = some x) :
    ∃ vec legal xs vs k, exec i s = .next (s.insn x.1 x.2 vec legal xs vs k) := by
  cases i with
  | chkCmp t f =>
    obtain rfl := Option.some.inj hx
    by_cases hty : (f.ty == 4) = true
    · exact ⟨_, _, _, _, _, congrArg Host.Outcome.next (if_pos hty)⟩
    · exact ⟨_, _, _, _, _, congrArg Host.Outcome.next (if_neg hty)⟩
  | tmma t f =>
    obtain rfl := Option.some.inj hx
    have hexec : exec (.tmma t f) s = execTmma t f s := rfl
    rw [hexec, execTmma]
    dsimp only
    split <;> exact ⟨_, _, _, _, _, rfl⟩
  | nop t f | exit t f | addi t f | andi t f | ori t f | xori t f | slli t f | srli t f | srai t f | li t f | lih t f | cmpi t f
  | vcvt t f | waitm t f | chkSync t f | rdtime t f | rdcnt t f | rand t f | add t f | sub t f | mul t f | mulh t f | mulhu t f
  | div t f | divu t f | rem t f | remu t f | opAnd t f | opOr t f | opXor t f | sll t f | srl t f | sra t f | cmp t f | opMin t f
  | opMax t f | minu t f | maxu t f | sel t f | clz t f | ctz t f | popc t f | pand t f | por t f | pxor t f | pnot t f | movpx t f
  | movxp t f | vadd t f | vsub t f | vmul t f | vfma t f | vmin t f | vmax t f | vabs t f | vneg t f | vdiv t f | vsqrt t f
  | vexp2 t f | vlog2 t f | vcmp t f | vsel t f | vand t f | vor t f | vxor t f | vsll t f | vsrl t f | vsra t f | vbcast t f
  | vext t f | vins t f | vperm t f | vredSum t f | vredMin t f | vredMax t f | vlane t f | mcopy t f | feval t f | fwait t f
  | dfind t f | chkAssert t f | bc t f | jal t f | jalr t f | ld t f | st t f | ldAcq t f | stRel t f | vld t f | vst t f | vldG t f
  | vstS t f | atomAdd t f | atomFadd t f | atomSwap t f | atomCas t f | atomMin t f | atomMax t f | fence t f | hurdle t f
  | harrive t f | hwait t f | hurdleSum t f | collect t f | tzero t f | trd t f | twait t f =>
    obtain rfl := Option.some.inj hx
    exact ⟨_, _, _, _, _, rfl⟩
  | _ => simp [issuedBy] at hx

/-! ### The steps before an instruction's effect -/

section
variable {s : State} {t : Thr} {g : Grp} {th : Thread} {grd : BitVec 5} {legal vec : Bool} {xs vs : List Nat}
  {k : Grp → Thread → State}

theorem State.insn_of_idle (h : ∀ g th, s.grp t.gid = some g → g.th t.idx = some th → g.phase ≠ .running ∨ th.st ≠ .running) :
    s.insn t grd vec legal xs vs k = s := by
  unfold State.insn
  split
  case h_1 => rfl
  case h_2 g hg =>
    split
    case h_1 => rfl
    case h_2 th hth =>
      have := h g th hg hth
      rw [if_pos (by simpa using this)]

theorem State.insn_of_outside (hg : s.grp t.gid = some g) (hth : g.th t.idx = some th) (hphase : g.phase = .running)
    (hst : th.st = .running) (hout : g.inImage th.pc = false) :
    s.insn t grd vec legal xs vs k = s.raise t xFetch th.pc.toNat := by
  simp [State.insn, hg, hth, hphase, hst, hout]

theorem State.insn_of_illegal (hi : Issues s t g th) (h : (legal && guardOk grd) = false) :
    s.insn t grd vec legal xs vs k = s.raise t xIllegal 0 := by
  obtain ⟨hg, hth, hphase, hst, himage, hpoison⟩ := hi
  simp [State.insn, hg, hth, hphase, hst, himage, hpoison, h]

/-- A scalar guard that is false leaves the instruction nothing but the PC's advance (R158). -/
theorem State.insn_of_guardFalse (hi : Issues s t g th) (hlegal : legal = true) (hgrd : GuardFalse th grd) :
    s.insn t grd false legal xs vs k = s.retire t g th.advance := by
  obtain ⟨hg, hth, hphase, hst, himage, hpoison⟩ := hi
  obtain ⟨hG, hbit⟩ := hgrd
  have hlane : th.guard grd 0 = false := by simpa [Thread.guard, gReg, gNegate, hG] using hbit
  simp [State.insn, hg, hth, hphase, hst, himage, hpoison, hlegal, guardOk, hG, hlane]

theorem guardOk_of_guardWf (h : GuardWf grd) : guardOk grd = true := by
  obtain rfl | hG := h
  · rfl
  · simp [guardOk, hG]

/-- A source that a load or a find has still to write holds the thread back (R154). -/
theorem State.insn_of_waiting (hi : Issues s t g th) (hlegal : legal = true) (hgrd : GuardAt th grd 0)
    (hwait : (∃ r ∈ xs, r ≠ 0 ∧ r ∈ th.pendX) ∨ ∃ r ∈ vs, r ∈ th.pendV) : s.insn t grd vec legal xs vs k = s := by
  obtain ⟨hg, hth, hphase, hst, himage, hpoison⟩ := hi
  have hok := guardOk_of_guardAt hgrd
  have hlane := Thread.guard_of_guardAt hgrd
  have hbusy : (xs.any (fun r => r != 0 && th.pendX.contains r) || vs.any (fun r => th.pendV.contains r)) = true := by
    simpa using hwait
  simp only [State.insn, hg, hth, hphase, hst, himage, hpoison, hlegal, hok, hlane, hbusy]
  simp

/-- A vector guard chooses lanes; it stops no instruction (R158). -/
theorem State.insn_vec_of_issues (hi : Issues s t g th) (hlegal : legal = true) (hgrd : GuardWf grd)
    (hxs : ∀ r ∈ xs, r = 0 ∨ r ∉ th.pendX) (hvs : ∀ r ∈ vs, r ∉ th.pendV) : s.insn t grd true legal xs vs k = k g th := by
  obtain ⟨hg, hth, hphase, hst, himage, hpoison⟩ := hi
  have hfree : (xs.any (fun r => r != 0 && th.pendX.contains r) || vs.any (fun r => th.pendV.contains r)) = false := by
    simpa [← or_iff_not_imp_left] using ⟨hxs, hvs⟩
  have hok := guardOk_of_guardWf hgrd
  simp only [State.insn, hg, hth, hphase, hst, himage, hpoison, hlegal, hok, hfree]
  simp

end

/-! ### Retiring (R669) -/

@[simp] theorem State.grp_tallyP (s : State) (fn : Nat) (st : Option Nat) (code n k : Nat) : (s.tallyP fn st code n).grp k = s.grp k := by
  simp [State.grp]
theorem State.hub_tallyP_of_confidential {s : State} {fn : Nat} (st : Option Nat) (code n : Nat) (h : s.confidential fn = true) :
    s.tallyP fn st code n = s := by
  simp [State.tallyP, h]
theorem State.hubGet_tallyP_other (s : State) (fn : Nat) (st : Option Nat) {code : Nat} (n : Nat) {off : Nat}
    (hoff : off ≠ TLY_COUNT + 8 * code) : (s.tallyP fn st code n).hubGet off = s.hubGet off := by
  unfold State.tallyP
  split
  · rfl
  · exact State.hubGet_hubSet_other s _ off _ hoff

theorem State.grp_retire_self {s : State} {t : Thr} {g : Grp} (th : Thread) (hg : s.grp t.gid = some g) :
    (s.retire t g th).grp t.gid = some (g.setTh t.idx th) := by
  simp [State.retire, State.setTh, hg]
theorem State.grp_retire_other (s : State) (t : Thr) (g : Grp) (th : Thread) {k : Nat} (h : k ≠ t.gid) :
    (s.retire t g th).grp k = s.grp k := by
  simp [State.retire, State.setTh, State.grp_modGrp_other _ _ _ _ h]
theorem Grp.th_setTh_other (g : Grp) (i : Nat) (th : Thread) {k : Nat} (h : k ≠ i) : (g.setTh i th).th k = g.th k :=
  SMap.find_set_other g.threads i k th h
@[simp] theorem Grp.th_setTh_self (g : Grp) (i : Nat) (th : Thread) : (g.setTh i th).th i = some th :=
  SMap.find_set_self g.threads i th

/-- Of the registers, retiring touches the Tally counts of the instructions issued alone. -/
theorem State.hubGet_retire_other (s : State) (t : Thr) (g : Grp) (th : Thread) {off : Nat}
    (hoff : off < TLY_COUNT ∨ TLY_COUNT + 8 * 256 ≤ off) : (s.retire t g th).hubGet off = s.hubGet off := by
  unfold State.retire
  dsimp only
  rw [State.hubGet_tallyP_other _ _ _ _ (by omega), State.hubGet_tallyP_other _ _ _ _ (by omega)]
  simp [State.hubGet]

theorem State.confidential_setTh (s : State) (t : Thr) (th : Thread) (n : Nat) : (s.setTh t th).confidential n = s.confidential n := by
  simp [State.confidential, State.hubNat, State.hubGet]
theorem State.retire_of_confidential {s : State} {g : Grp} (t : Thr) (th : Thread) (h : s.confidential g.fn = true) :
    s.retire t g th = s.setTh t th := by
  have h' := (s.confidential_setTh t th g.fn).trans h
  simp [State.retire, State.hub_tallyP_of_confidential _ _ _ h']

/-- Settles O17: each instruction stands behind `State.insn`, which says when it issues; the rest is what an exception and retiring
leave. -/
theorem threadsIssue : Obligations.ThreadsIssue := by
  refine ⟨fun i t grd s hx hidle => ?_, fun i t grd s g th hx hg hth hphase hst hout => ?_, fun s t code va g hg hrun => ?_,
    fun s t g th hg => ?_⟩
  · obtain ⟨vec, legal, xs, vs, k, hexec⟩ := exec_eq_insn s hx
    rw [hexec, State.insn_of_idle hidle]
  · obtain ⟨vec, legal, xs, vs, k, hexec⟩ := exec_eq_insn s hx
    have himage : g.inImage th.pc = false := by simpa [Grp.inImage, imp_iff_not_or] using hout
    rw [hexec, State.insn_of_outside hg hth hphase hst himage]
  · exact ⟨State.grp_raise_of_running code va hg hrun, fun k hk => State.grp_raise_other code va k hg hk, by simp, by simp, by simp⟩
  · refine ⟨State.grp_retire_self th hg, fun k hk => State.grp_retire_other s t g th hk, fun k hk => Grp.th_setTh_other g t.idx th hk,
      by simp, by simp, by simp, by simp, fun off hoff => State.hubGet_retire_other s t g th hoff, fun hconf => ?_⟩
    rw [State.retire_of_confidential t th hconf]
    simp

end Sys2Proof.Machine
end

section
/-! SUPPORT. Scalar, predicate and control instructions (R156, R168, R172). -/

namespace Sys2Proof.Machine
open Sys2Proof Sys2Proof.Claims

/-! ### Registers read after a write (R156) -/

theorem Thread.xr_setX_self (th : Thread) (r : Nat) (v : W64) : (th.setX r v).xr r = if r = 0 then 0 else v := by
  by_cases h : r = 0 <;> simp [Thread.setX, Thread.xr, h]
theorem Thread.xr_setX_other (th : Thread) {r k : Nat} (v : W64) (h : k ≠ r) : (th.setX r v).xr k = th.xr k := by
  by_cases hr : r = 0 <;> simp [Thread.setX, Thread.xr, hr, SMap.get_set_other _ _ _ _ _ h]
theorem Thread.setX_frame (th : Thread) (r : Nat) (v : W64) :
    (th.setX r v).v = th.v ∧ (th.setX r v).p = th.p ∧ (th.setX r v).pc = th.pc ∧ (th.setX r v).st = th.st ∧
    (th.setX r v).windows = th.windows ∧ (th.setX r v).mcopies = th.mcopies ∧ (th.setX r v).fevals = th.fevals := by
  unfold Thread.setX
  split <;> exact ⟨rfl, rfl, rfl, rfl, rfl, rfl, rfl⟩

/-- The thread that `State.doneX` puts back. -/
theorem wroteX_setX (th : Thread) (d : BitVec 6) (v : W64) : WroteX th ((th.setX d.toNat v).window 1).advance d v := by
  obtain ⟨hv, hp, hpc, hst, hwin, hmc, hfe⟩ := th.setX_frame d.toNat v
  have hself := th.xr_setX_self d.toNat v
  have hd : d.toNat = 0 ↔ d = 0 := by rw [← BitVec.toNat_inj]; rfl
  rw [if_congr hd rfl rfl] at hself
  exact ⟨hself, fun r hr => th.xr_setX_other v hr, hv, hp, congrArg (· + 8) hpc, hst, congrArg (· + 1) hwin, hmc, hfe⟩

theorem wroteP_setP (th : Thread) (d : BitVec 6) (v : W32) : WroteP th ((th.setP d.toNat v).window 1).advance d v :=
  ⟨SMap.get_set_self .., fun _ hr => SMap.get_set_other _ _ _ _ _ hr, rfl, rfl, rfl, rfl, rfl, rfl, rfl⟩

theorem wroteV_setV (th : Thread) (d : BitVec 6) (v : List W32) :
    WroteV th ((th.setV d.toNat v).window 1).advance d (laneAt v) :=
  ⟨fun i _ => congrArg (laneAt · i) (SMap.get_set_self ..), fun _ hr => SMap.get_set_other _ _ _ _ _ hr, rfl, rfl, rfl, rfl, rfl, rfl, rfl⟩

/-! ### Operand forms -/

section
variable {s : State} {t : Thr} {g : Grp} {th : Thread}

theorem free_pair {a b : BitVec 6} (ha : FreeX th a) (hb : FreeX th b) : ∀ r ∈ [a.toNat, b.toNat], r = 0 ∨ r ∉ th.pendX := by
  have h0 (r : BitVec 6) (h : FreeX th r) : r.toNat = 0 ∨ r.toNat ∉ th.pendX := h.imp_left (by rintro rfl; rfl)
  simpa using ⟨h0 a ha, h0 b hb⟩
theorem free_single {a : BitVec 6} (ha : FreeX th a) : ∀ r ∈ [a.toNat], r = 0 ∨ r ∉ th.pendX := by
  simpa using free_pair ha ha

theorem State.scalar2_of_issues {f : FmtR} (op : W64 → W64 → W64) (hi : Issues s t g th) (h3 : f.s3 = 0) (hty : f.ty = 0)
    (hcond : f.cond = 0) (hrsv : f.rsv = 0) (hgrd : GuardAt th f.grd 0) (h1 : FreeX th f.s1) (h2 : FreeX th f.s2) :
    s.scalar2 t f op = s.doneX t g th f.d (op (th.xr f.s1.toNat) (th.xr f.s2.toNat)) :=
  State.insn_of_issues false _ hi (by simp [h3, hty, hcond, hrsv]) hgrd (free_pair h1 h2) (by simp)
theorem State.scalar1_of_issues {f : FmtR} (op : W64 → W64) (hi : Issues s t g th) (h2 : f.s2 = 0) (h3 : f.s3 = 0) (hty : f.ty = 0)
    (hcond : f.cond = 0) (hrsv : f.rsv = 0) (hgrd : GuardAt th f.grd 0) (h1 : FreeX th f.s1) :
    s.scalar1 t f op = s.doneX t g th f.d (op (th.xr f.s1.toNat)) :=
  State.insn_of_issues false _ hi (by simp [h2, h3, hty, hcond, hrsv]) hgrd (free_single h1) (by simp)
theorem State.scalarI_of_issues {f : FmtI} {ok : Bool} (op : W64 → BitVec 32 → W64) (hi : Issues s t g th) (hok : ok = true)
    (hty : f.ty = 0) (hrsv : f.rsv = 0) (hgrd : GuardAt th f.grd 0) (h1 : FreeX th f.s1) :
    s.scalarI t f ok op = s.doneX t g th f.d (op (th.xr f.s1.toNat) f.imm) :=
  State.insn_of_issues false _ hi (by simp [hty, hrsv, hok]) hgrd (free_single h1) (by simp)
theorem State.pred2_of_issues {f : FmtR} (op : W32 → W32 → W32) (hi : Issues s t g th) (hd : f.d.toNat < 8) (h1 : f.s1.toNat < 8)
    (h2 : f.s2.toNat < 8) (h3 : f.s3 = 0) (hty : f.ty = 0) (hcond : f.cond = 0) (hrsv : f.rsv = 0) (hgrd : GuardAt th f.grd 0) :
    s.pred2 t f op = s.doneP t g th f.d (op (th.pr f.s1.toNat) (th.pr f.s2.toNat)) :=
  State.insn_of_issues false _ hi (by simp [isP, hd, h1, h2, h3, hty, hcond, hrsv]) hgrd (by simp) (by simp)

/-- An instruction whose effect is to write xD. -/
theorem wroteX_of_doneX {o : Out} {d : BitVec 6} {v w : W64} (ho : o = .next (s.doneX t g th d v)) (hv : v = w) :
    ∃ th', o = .next (s.retire t g th') ∧ WroteX th th' d w :=
  ⟨_, ho, hv ▸ wroteX_setX th d v⟩
theorem wroteP_of_doneP {o : Out} {d : BitVec 6} {v w : W32} (ho : o = .next (s.doneP t g th d v)) (hv : v = w) :
    ∃ th', o = .next (s.retire t g th') ∧ WroteP th th' d w :=
  ⟨_, ho, hv ▸ wroteP_setP th d v⟩

end

/-! ### The functions of scalar arithmetic (R172) -/

theorem divS_eq (a b : W64) : divS a b = if b = 0 then BitVec.allOnes 64 else BitVec.ofInt 64 (a.toInt.tdiv b.toInt) := by
  have hdiv : a.sdiv b = BitVec.ofInt 64 (a.toInt.tdiv b.toInt) :=
    BitVec.eq_of_toInt_eq (by rw [BitVec.toInt_sdiv, BitVec.toInt_ofInt])
  rw [divS, hdiv]
theorem remS_eq (a b : W64) : remS a b = if b = 0 then a else BitVec.ofInt 64 (a.toInt.tmod b.toInt) := by
  rw [remS, ← BitVec.toInt_srem, BitVec.ofInt_toInt]
theorem divU_eq (a b : W64) : divU a b = if b = 0 then BitVec.allOnes 64 else BitVec.ofNat 64 (a.toNat / b.toNat) := by
  have hdiv : a / b = BitVec.ofNat 64 (a.toNat / b.toNat) := by rw [← BitVec.toNat_udiv, BitVec.ofNat_toNat, BitVec.setWidth_eq]
  rw [divU, hdiv]
theorem remU_eq (a b : W64) : remU a b = if b = 0 then a else BitVec.ofNat 64 (a.toNat % b.toNat) := by
  have hmod : a % b = BitVec.ofNat 64 (a.toNat % b.toNat) := by rw [← BitVec.toNat_umod, BitVec.ofNat_toNat, BitVec.setWidth_eq]
  rw [remU, hmod]

/-- LIH keeps the low half and puts the immediate above it. -/
theorem lih_eq (a : W64) (i : BitVec 32) :
    (i.zeroExtend 64 <<< 32) ||| ((a.truncate 32 : BitVec 32).zeroExtend 64) = BitVec.ofNat 64 (i.toNat * 2 ^ 32 + a.toNat % 2 ^ 32) := by
  have hlow : a.toNat % 2 ^ 32 < 2 ^ 32 := Nat.mod_lt _ (by decide)
  have hi := i.isLt
  apply BitVec.eq_of_toNat_eq
  simp only [BitVec.truncate_eq_setWidth, BitVec.toNat_or, BitVec.toNat_shiftLeft, BitVec.toNat_setWidth,
    BitVec.toNat_ofNat]
  rw [Nat.mod_eq_of_lt (a := i.toNat) (by omega), Nat.mod_eq_of_lt (a := a.toNat % 2 ^ 32) (by omega), Nat.shiftLeft_eq,
    Nat.mod_eq_of_lt (a := i.toNat * 2 ^ 32) (by omega), Nat.mod_eq_of_lt (a := i.toNat * 2 ^ 32 + _) (by omega), Nat.mul_comm,
    Nat.two_pow_add_eq_or_of_lt hlow]

theorem clz64_le (a : W64) : clz64 a ≤ 64 := by
  unfold clz64
  split <;> omega
theorem getLsbD_above_clz64 (a : W64) {i : Nat} (hi : i < clz64 a) : a.getLsbD (63 - i) = false := by
  unfold clz64 at hi
  split at hi
  · simp [*]
  · rename_i ha
    have : a.toNat < 2 ^ (63 - i) := (Nat.log2_lt (by simpa [← BitVec.toNat_inj] using ha)).mp (by omega)
    exact Nat.testBit_lt_two_pow this
theorem getLsbD_clz64 (a : W64) (h : clz64 a < 64) : a.getLsbD (63 - clz64 a) = true := by
  unfold clz64 at h ⊢
  split at h
  · omega
  · rename_i ha
    have hne : a.toNat ≠ 0 := by simpa [← BitVec.toNat_inj] using ha
    have hlog : a.toNat.log2 < 64 := (Nat.log2_lt hne).mpr a.isLt
    rw [if_neg ha, show 63 - (63 - a.toNat.log2) = a.toNat.log2 by omega]
    exact Nat.testBit_log2 hne

theorem ctz64_le (a : W64) : ctz64 a ≤ 64 := by
  unfold ctz64
  cases h : (List.range 64).find? (fun i => a.getLsbD i) with
  | none => simp
  | some k => simpa using (List.mem_range.mp (List.mem_of_find?_eq_some h)).le
theorem getLsbD_below_ctz64 (a : W64) {i : Nat} (hi : i < ctz64 a) : a.getLsbD i = false := by
  unfold ctz64 at hi
  cases h : (List.range 64).find? (fun i => a.getLsbD i) with
  | none =>
    rw [h] at hi
    have := List.find?_eq_none.mp h i (List.mem_range.mpr (by simpa using hi))
    simpa using this
  | some k =>
    rw [h] at hi
    have := (List.find?_range_eq_some.mp h).2.2 i (by simpa using hi)
    simpa using this
theorem getLsbD_ctz64 (a : W64) (h : ctz64 a < 64) : a.getLsbD (ctz64 a) = true := by
  unfold ctz64 at h ⊢
  cases hf : (List.range 64).find? (fun i => a.getLsbD i) with
  | none => simp [hf] at h
  | some k => simpa using List.find?_some hf

/-! ### Scalar arithmetic -/

/-- Settles O18: an instruction that issues does `State.doneX` with the function of its operand form. -/
theorem scalarArithmetic : Obligations.ScalarArithmetic := by
  refine ⟨fun op hop s t f g th hi h3 hty hcond hrsv hgrd h1 h2 => ?_, fun op hop s t f g th hi hty hrsv hgrd h1 => ?_,
    fun op hop s t f g th hi hty hrsv hgrd h1 => ?_, fun s t f g th hi h1 hty hrsv hgrd => ?_,
    fun s t f g th hi h2 h3 hty hcond hrsv hgrd h1 => ?_⟩
  · have hexec : exec (op.1 t f) s = .next (s.scalar2 t f op.2) := by
      revert op
      simp only [List.forall_mem_cons, List.not_mem_nil, false_imp_iff, implies_true, and_true, ← divS_eq, ← divU_eq, ← remS_eq, ← remU_eq]
      and_intros <;> rfl
    rw [hexec, State.scalar2_of_issues op.2 hi h3 hty hcond hrsv hgrd h1 h2]
    exact wroteX_of_doneX rfl rfl
  · have hexec : exec (op.1 t f) s = .next (s.scalarI t f true op.2) := by
      revert op
      simp only [List.forall_mem_cons, List.not_mem_nil, false_imp_iff, implies_true, and_true, ← lih_eq]
      and_intros <;> rfl
    rw [hexec, State.scalarI_of_issues op.2 hi rfl hty hrsv hgrd h1]
    exact wroteX_of_doneX rfl rfl
  · have hexec : exec (op.1 t f) s = .next (s.scalarI t f (immShift f) (fun a i => op.2 a i.toNat)) := by
      revert op
      simp only [List.forall_mem_cons, List.not_mem_nil, false_imp_iff, implies_true, and_true]
      and_intros <;> rfl
    refine ⟨fun himm => ?_, fun himm => ?_⟩
    · rw [hexec, State.scalarI_of_issues _ hi (by simp [immShift, himm]) hty hrsv hgrd h1]
      exact wroteX_of_doneX rfl rfl
    · have hno : immShift f = false := by simpa [immShift] using himm
      rw [hexec, State.scalarI, State.insn_of_illegal hi (by simp [hno])]
  · have hexec : exec (.li t f) s = .next (s.scalarI t f (f.s1 == 0) (fun _ i => sext32 i)) := rfl
    rw [hexec, State.scalarI_of_issues _ hi (by simp [h1]) hty hrsv hgrd (.inl h1)]
    exact wroteX_of_doneX rfl rfl
  · have hone (op : W64 → W64) := State.scalar1_of_issues op hi h2 h3 hty hcond hrsv hgrd h1
    refine ⟨?_, ?_, ?_⟩
    · obtain ⟨th', hexec, hwrote⟩ := wroteX_of_doneX (congrArg Host.Outcome.next (hone (fun a => BitVec.ofNat 64 (clz64 a)))) rfl
      exact ⟨th', _, hexec, hwrote, clz64_le _, fun i hi => getLsbD_above_clz64 _ hi, getLsbD_clz64 _⟩
    · obtain ⟨th', hexec, hwrote⟩ := wroteX_of_doneX (congrArg Host.Outcome.next (hone (fun a => BitVec.ofNat 64 (ctz64 a)))) rfl
      exact ⟨th', _, hexec, hwrote, ctz64_le _, fun i hi => getLsbD_below_ctz64 _ hi, getLsbD_ctz64 _⟩
    · exact wroteX_of_doneX (congrArg Host.Outcome.next (hone (fun a => BitVec.ofNat 64 (popc64 a)))) rfl

/-! ### Conditions (R168) -/

/-- The integer conditions and ALWAYS by their code. -/
def intConds : List (BitVec 4 × (W64 → W64 → Prop)) :=
  [(0, fun a b => a = b), (1, fun a b => a ≠ b), (2, fun a b => a.toInt < b.toInt), (3, fun a b => b.toInt ≤ a.toInt),
    (4, fun a b => a.toNat < b.toNat), (5, fun a b => b.toNat ≤ a.toNat), (6, fun _ _ => True)]

theorem condInt_iff (a b : W64) : ∀ cond ∈ intConds, condInt cond.1.toNat a b = true ↔ cond.2 a b := by
  simp only [intConds, List.forall_mem_cons, List.not_mem_nil, false_imp_iff, implies_true, and_true]
  and_intros <;> simp [condInt, BitVec.slt, BitVec.ult]
theorem condIsInt_of_mem : ∀ cond ∈ intConds, condIsInt cond.1.toNat = true := by
  simp only [intConds, List.forall_mem_cons, List.not_mem_nil, false_imp_iff, implies_true, and_true]
  and_intros <;> rfl
theorem allOnes_condInt {cond : BitVec 4 × (W64 → W64 → Prop)} (hc : cond ∈ intConds) (a b : W64) :
    (cond.2 a b → allOnes (condInt cond.1.toNat a b) = 0xFFFFFFFF) ∧ (¬cond.2 a b → allOnes (condInt cond.1.toNat a b) = 0) := by
  rw [← condInt_iff a b cond hc]
  cases condInt cond.1.toNat a b <;> simp [allOnes]

/-! ### Predicates and guards -/

section
variable {s : State} {t : Thr} {g : Grp} {th : Thread}

theorem exec_cmp_of_issues {f : FmtR} (hi : Issues s t g th) (hd : f.d.toNat < 8) (h3 : f.s3 = 0) (hty : f.ty = 0) (hrsv : f.rsv = 0)
    (hcond : condIsInt f.cond.toNat = true) (hgrd : GuardAt th f.grd 0) (h1 : FreeX th f.s1) (h2 : FreeX th f.s2) :
    exec (.cmp t f) s = .next (s.doneP t g th f.d (allOnes (condInt f.cond.toNat (th.xr f.s1.toNat) (th.xr f.s2.toNat)))) :=
  congrArg Host.Outcome.next
    (State.insn_of_issues false _ hi (by simp [isP, hd, h3, hty, hrsv, hcond]) hgrd (free_pair h1 h2) (by simp))
theorem exec_cmpi_of_issues {f : FmtI} (hi : Issues s t g th) (hd : f.d.toNat < 8) (hrsv : f.rsv = 0)
    (hcond : condIsInt f.ty.toNat = true) (hgrd : GuardAt th f.grd 0) (h1 : FreeX th f.s1) :
    exec (.cmpi t f) s = .next (s.doneP t g th f.d (allOnes (condInt f.ty.toNat (th.xr f.s1.toNat) (sext32 f.imm)))) :=
  congrArg Host.Outcome.next
    (State.insn_of_issues false _ hi (by simp [isP, hd, hrsv, hcond]) hgrd (free_single h1) (by simp))

theorem not_free_pair {a b : BitVec 6} (h : ¬(FreeX th a ∧ FreeX th b)) : ∃ r ∈ [a.toNat, b.toNat], r ≠ 0 ∧ r ∈ th.pendX := by
  have h0 (r : BitVec 6) (h : ¬FreeX th r) : r.toNat ≠ 0 ∧ r.toNat ∈ th.pendX := by
    simpa [FreeX, ← BitVec.toNat_inj] using h
  obtain ha | hb := not_and_or.mp h
  · exact ⟨a.toNat, by simp, h0 a ha⟩
  · exact ⟨b.toNat, by simp, h0 b hb⟩

/-- What keeps a two-source scalar instruction from its effect. -/
theorem scalar2_guards {f : FmtR} (op : W64 → W64 → W64) (hi : Issues s t g th) :
    (¬(f.s3 = 0 ∧ f.ty = 0 ∧ f.cond = 0 ∧ f.rsv = 0) ∨ (f.grd.getLsbD 4 = false ∧ f.grd ≠ 0) →
      s.scalar2 t f op = s.raise t xIllegal 0) ∧
    (f.s3 = 0 → f.ty = 0 → f.cond = 0 → f.rsv = 0 → GuardFalse th f.grd →
      s.scalar2 t f op = s.retire t g { th with pc := th.pc + 8, issued := th.issued + 1 }) ∧
    (f.s3 = 0 → f.ty = 0 → f.cond = 0 → f.rsv = 0 → GuardAt th f.grd 0 → ¬(FreeX th f.s1 ∧ FreeX th f.s2) → s.scalar2 t f op = s) := by
  refine ⟨fun hbad => State.insn_of_illegal hi ?_, fun h3 hty hcond hrsv hgrd => ?_, fun h3 hty hcond hrsv hgrd hwait => ?_⟩
  · obtain hfields | ⟨hG, hne⟩ := hbad
    · have hno : (f.s3 == 0 && f.ty == 0 && f.cond == 0 && f.rsv == 0) = false := by
        simpa [imp_iff_not_or, or_assoc, not_and_or] using hfields
      rw [hno, Bool.false_and]
    · have hno : guardOk f.grd = false := by rw [guardOk, hG, beq_eq_false_iff_ne.mpr hne, Bool.false_or]
      rw [hno, Bool.and_false]
  · exact State.insn_of_guardFalse hi (by simp [h3, hty, hcond, hrsv]) hgrd
  · exact State.insn_of_waiting hi (by simp [h3, hty, hcond, hrsv]) hgrd (.inl (not_free_pair hwait))

end

/-- Settles O19: predicates are written by `State.doneP`, SEL and MOVPX by `State.doneX`; the guards are those of `State.insn`. -/
theorem guardsAndPredicates : Obligations.GuardsAndPredicates := by
  refine ⟨⟨fun cond hc => ⟨fun s t f g th hi hd h3 hty hrsv hcond hgrd h1 h2 => ?_, fun s t f g th hi hd hrsv hcond hgrd h1 => ?_⟩,
    fun s t f g th hi hcond => ?_, fun s t f g th hi hs3 hty hcond hrsv hgrd h1 h2 => ?_,
    fun op hop s t f g th hi hd h1 h2 h3 hty hcond hrsv hgrd => ?_, fun s t f g th hi h2 h3 hty hcond hrsv hgrd => ?_⟩,
    fun op hop s t f g th hi => ?_⟩
  · have hexec := exec_cmp_of_issues hi hd h3 hty hrsv (hcond ▸ condIsInt_of_mem cond hc) hgrd h1 h2
    obtain ⟨htrue, hfalse⟩ := allOnes_condInt hc (th.xr f.s1.toNat) (th.xr f.s2.toNat)
    exact ⟨_, _, hexec, wroteP_setP .., hcond ▸ htrue, hcond ▸ hfalse⟩
  · have hexec := exec_cmpi_of_issues hi hd hrsv (hcond ▸ condIsInt_of_mem cond hc) hgrd h1
    obtain ⟨htrue, hfalse⟩ := allOnes_condInt hc (th.xr f.s1.toNat) (sext32 f.imm)
    exact ⟨_, _, hexec, wroteP_setP .., hcond ▸ htrue, hcond ▸ hfalse⟩
  · have hno : condIsInt f.cond.toNat = false := by simpa [condIsInt] using hcond
    exact congrArg Host.Outcome.next (State.insn_of_illegal hi (by simp [hno]))
  · refine wroteX_of_doneX (congrArg Host.Outcome.next ?_) rfl
    exact State.insn_of_issues false _ hi (by simp [isP, hs3, hty, hcond, hrsv]) hgrd (free_pair h1 h2) (by simp)
  · have hexec : exec (op.1 t f) s = .next (s.pred2 t f op.2) := by
      revert op
      simp only [List.forall_mem_cons, List.not_mem_nil, false_imp_iff, implies_true, and_true]
      and_intros <;> rfl
    rw [hexec, State.pred2_of_issues op.2 hi hd h1 h2 h3 hty hcond hrsv hgrd]
    exact wroteP_of_doneP rfl rfl
  · refine ⟨fun hd h1 => ?_, fun h1 => ?_, fun hd h1 => ?_⟩
    · refine wroteP_of_doneP (congrArg Host.Outcome.next ?_) rfl
      exact State.insn_of_issues false _ hi (by simp [isP, hd, h1, h2, h3, hty, hcond, hrsv]) hgrd (by simp) (by simp)
    · refine wroteX_of_doneX (congrArg Host.Outcome.next ?_) (BitVec.ofNat_toNat ..).symm
      exact State.insn_of_issues false _ hi (by simp [isP, h1, h2, h3, hty, hcond, hrsv]) hgrd (by simp) (by simp)
    · refine wroteP_of_doneP (congrArg Host.Outcome.next ?_) (BitVec.ofNat_toNat ..).symm
      exact State.insn_of_issues false _ hi (by simp [isP, hd, h2, h3, hty, hcond, hrsv]) hgrd (free_single h1) (by simp)
  · obtain ⟨h, hexec⟩ : ∃ h, exec (op t f) s = .next (s.scalar2 t f h) := by
      revert op
      simp only [List.forall_mem_cons, List.not_mem_nil, false_imp_iff, implies_true, and_true]
      and_intros <;> exact ⟨_, rfl⟩
    obtain ⟨hillegal, hfalse, hwait⟩ := scalar2_guards (f := f) h hi
    rw [hexec]
    exact ⟨fun h => congrArg _ (hillegal h), fun h3 hty hcond hrsv hgrd => congrArg _ (hfalse h3 hty hcond hrsv hgrd),
      fun h3 hty hcond hrsv hgrd hbusy => congrArg _ (hwait h3 hty hcond hrsv hgrd hbusy)⟩

/-! ### Control transfer -/

theorem dispBytes_mod8 (f : FmtC) (a : W64) : (a + dispBytes f).toNat % 8 = a.toNat % 8 := by
  simp only [dispBytes, BitVec.toNat_add, BitVec.toNat_mul]
  rw [show (8 : W64).toNat = 8 from rfl]
  omega

theorem Thread.xr_jal (th : Thread) (d : BitVec 6) (v a : W64) :
    (((th.setX d.toNat v).window 1).jump a).xr d.toNat = (if d = 0 then 0 else v) ∧
    (∀ r, r ≠ d.toNat → (((th.setX d.toNat v).window 1).jump a).xr r = th.xr r) ∧
    (((th.setX d.toNat v).window 1).jump a).v = th.v ∧ (((th.setX d.toNat v).window 1).jump a).p = th.p := by
  obtain ⟨hself, hother, hv, hp, -⟩ := wroteX_setX th d v
  exact ⟨hself, hother, hv, hp⟩

/-- Settles O20: what each transfer makes of the PC, and that the other registers stand. -/
theorem controlTransfer : Obligations.ControlTransfer := by
  refine ⟨fun s t f g th hi hd h1 hty hrsv himm hgrd => ⟨?_, ?_⟩, fun cond hc s t f g th hi hd hcond hgrd h1 h2 => ?_,
    fun s t f g th hi h1 h2 hcond hgrd => ?_, fun s t f g th hi h2 hcond hgrd h1 => ⟨fun halign => ?_, fun halign => ?_⟩⟩
  · exact congrArg Host.Outcome.next
      (State.insn_of_issues false _ hi (by simp [hd, h1, hty, hrsv, himm]) hgrd (by simp) (by simp))
  · exact congrArg Host.Outcome.next
      (State.insn_of_issues false _ hi (by simp [plainI, hd, h1, hty, hrsv, himm]) hgrd (by simp) (by simp))
  · have hexec : exec (.bc t f) s = .next (if condInt f.cond.toNat (th.xr f.s1.toNat) (th.xr f.s2.toNat)
        then s.retire t g ((th.jump (th.pc + dispBytes f)).window 1) else s.retire t g (th.window 1).advance) :=
      congrArg Host.Outcome.next (State.insn_of_issues false _ hi (by simp [hd, hcond ▸ condIsInt_of_mem cond hc]) hgrd
        (free_pair h1 h2) (by simp))
    have hiff := condInt_iff (th.xr f.s1.toNat) (th.xr f.s2.toNat) cond hc
    rw [← hcond] at hiff
    rw [hexec]
    by_cases htaken : cond.2 (th.xr f.s1.toNat) (th.xr f.s2.toNat)
    · rw [if_pos (hiff.mpr htaken)]
      exact ⟨_, rfl, rfl, rfl, rfl, fun _ => rfl, fun h => absurd htaken h⟩
    · rw [if_neg (mt hiff.mp htaken)]
      exact ⟨_, rfl, rfl, rfl, rfl, fun h => absurd h htaken, fun _ => rfl⟩
  · have hexec : exec (.jal t f) s = .next (s.retire t g (((th.setX f.d.toNat (th.pc + 8)).window 1).jump (th.pc + dispBytes f))) :=
      congrArg Host.Outcome.next (State.insn_of_issues false _ hi (by simp [h1, h2, hcond]) hgrd (by simp) (by simp))
    obtain ⟨hself, hother, hv, hp⟩ := th.xr_jal f.d (th.pc + 8) (th.pc + dispBytes f)
    exact ⟨_, hexec, rfl, hself, hother, hv, hp⟩
  all_goals
    have hexec : exec (.jalr t f) s = .next (if (th.xr f.s1.toNat + dispBytes f).toNat % 8 = 0
        then s.retire t g (((th.setX f.d.toNat (th.pc + 8)).window 1).jump (th.xr f.s1.toNat + dispBytes f))
        else s.raise t xFetch (th.xr f.s1.toNat + dispBytes f).toNat) :=
      congrArg Host.Outcome.next (State.insn_of_issues false _ hi (by simp [h2, hcond]) hgrd (free_single h1) (by simp))
    rw [dispBytes_mod8] at hexec
  · obtain ⟨hself, hother, hv, hp⟩ := th.xr_jal f.d (th.pc + 8) (th.xr f.s1.toNat + dispBytes f)
    rw [if_pos halign] at hexec
    exact ⟨_, hexec, rfl, hself, hother, hv, hp⟩
  · rw [if_neg halign] at hexec
    exact ⟨_, hexec⟩

end Sys2Proof.Machine
end

section
/-! SUPPORT. Vector instructions (R158, R173, R174, R214 to R218, R705). -/

namespace Sys2Proof.Machine
open Sys2Proof Sys2Proof.Claims

/-! ### Lanes -/

theorem laneAt_map_range (h : Nat → W32) {i : Nat} (hi : i < 32) : laneAt ((List.range 32).map h) i = h i := by
  simp [laneAt, List.getD_eq_getElem?_getD, hi]

theorem Thread.guard_eq_active (th : Thread) {grd : BitVec 5} (hgrd : GuardWf grd) (i : Nat) : th.guard grd i = active th grd i := by
  obtain rfl | hG := hgrd
  · simp [Thread.guard, active]
  · have hne : (grd == 0) = false := by
      rw [beq_eq_false_iff_ne]
      rintro rfl
      simp at hG
    rw [Thread.guard, if_pos hG, active, hne, Bool.false_or, gReg, gNegate]

theorem laneAt_laneMap (th : Thread) {grd : BitVec 5} (hgrd : GuardWf grd) (d : BitVec 6) (h : Nat → W32) {i : Nat} (hi : i < 32) :
    laneAt (laneMap th grd (th.vr d.toNat) h) i = lanewise th grd d h i := by
  rw [laneMap, laneAt_map_range _ hi, th.guard_eq_active hgrd, lanewise]

/-- Writing lanes that agree with `h`. -/
theorem wroteV_of_lanes (th : Thread) (d : BitVec 6) {v : List W32} {h : Nat → W32} (hv : ∀ i, i < 32 → laneAt v i = h i) :
    WroteV th ((th.setV d.toNat v).window 1).advance d h := by
  obtain ⟨hlanes, hrest⟩ := wroteV_setV th d v
  exact ⟨fun i hi => (hlanes i hi).trans (hv i hi), hrest⟩

theorem keepD_free {th : Thread} {grd : BitVec 5} {d : BitVec 6} (h : FreeD th grd d) : ∀ r ∈ keepD grd d, r ∉ th.pendV := by
  unfold keepD
  split
  case isTrue hG =>
    obtain rfl | hfree := h
    · simp at hG
    · simpa using hfree
  case isFalse => simp

section
variable {s : State} {t : Thr} {g : Grp} {th : Thread}

/-- An instruction whose effect is to write lanes of vD. -/
theorem wroteV_of_doneV {o : Out} {d : BitVec 6} {v : List W32} {h : Nat → W32} (ho : o = .next (s.doneV t g th d v))
    (hv : ∀ i, i < 32 → laneAt v i = h i) : ∃ th', o = .next (s.retire t g th') ∧ WroteV th th' d h :=
  ⟨_, ho, wroteV_of_lanes th d hv⟩

/-! ### The lanewise form -/

/-- The encoding that a lanewise instruction with `n` sources accepts. -/
abbrev LaneLegal (f : FmtR) (n : Nat) (tys : List Nat) : Prop :=
  f.ty.toNat ∈ tys ∧ f.cond = 0 ∧ f.rsv = 0 ∧ f.d.toNat < 32 ∧ f.s1.toNat < 32 ∧
    (if 2 ≤ n then f.s2.toNat < 32 else f.s2 = 0) ∧ (if 3 ≤ n then f.s3.toNat < 32 else f.s3 = 0)

theorem State.vecN_of_issues {f : FmtR} {n : Nat} {tys : List Nat} (op : Nat → W32 → W32 → W32 → W32) (hi : Issues s t g th)
    (hlegal : LaneLegal f n tys) (hgrd : GuardWf f.grd)
    (hsrc : ∀ r ∈ [f.s1.toNat, f.s2.toNat, f.s3.toNat].take n, r ∉ th.pendV) (hd : FreeD th f.grd f.d) :
    s.vecN t f n tys op = s.doneV t g th f.d (laneMap th f.grd (th.vr f.d.toNat) (fun i =>
      op f.ty.toNat (laneAt (th.vr f.s1.toNat) i) (laneAt (th.vr f.s2.toNat) i) (laneAt (th.vr f.s3.toNat) i))) := by
  obtain ⟨hty, hcond, hrsv, hvd, hv1, hv2, hv3⟩ := hlegal
  refine State.insn_vec_of_issues hi ?_ hgrd (by simp) ?_
  · simp only [Bool.and_eq_true]
    refine ⟨⟨⟨⟨⟨⟨by simpa using hty, by simp [hcond]⟩, by simp [hrsv]⟩, by simp [isV, hvd]⟩, by simp [isV, hv1]⟩, ?_⟩, ?_⟩
    · split at hv2 <;> simp [isV, *]
    · split at hv3 <;> simp [isV, *]
  · exact fun r hr => (List.mem_append.mp hr).elim (hsrc r) (keepD_free hd r)

theorem wroteV_of_vecN {o : Out} {f : FmtR} {n : Nat} {tys : List Nat} {op : Nat → W32 → W32 → W32 → W32} {h : W32 → W32 → W32 → W32}
    (ho : o = .next (s.vecN t f n tys op)) (hop : ∀ a b c, op f.ty.toNat a b c = h a b c) (hi : Issues s t g th)
    (hlegal : LaneLegal f n tys) (hgrd : GuardWf f.grd)
    (hsrc : ∀ r ∈ [f.s1.toNat, f.s2.toNat, f.s3.toNat].take n, r ∉ th.pendV) (hd : FreeD th f.grd f.d) :
    ∃ th', o = .next (s.retire t g th') ∧ WroteV th th' f.d (lanewise th f.grd f.d
      (fun i => h (laneAt (th.vr f.s1.toNat) i) (laneAt (th.vr f.s2.toNat) i) (laneAt (th.vr f.s3.toNat) i))) := by
  rw [State.vecN_of_issues op hi hlegal hgrd hsrc hd] at ho
  simp only [hop] at ho
  exact wroteV_of_doneV ho fun i hi => laneAt_laneMap th hgrd f.d _ hi

theorem State.vecN_illegal {f : FmtR} {n : Nat} {tys : List Nat} (op : Nat → W32 → W32 → W32 → W32) (hi : Issues s t g th)
    (htys : ∀ k ∈ tys, k ∈ [0, 1, 4]) (hbad : f.ty.toNat ∉ [0, 1, 4] ∨ 32 ≤ f.d.toNat ∨ 32 ≤ f.s1.toNat) :
    s.vecN t f n tys op = s.raise t xIllegal 0 := by
  refine State.insn_of_illegal hi ?_
  obtain hty | hd | h1 := hbad
  · have hno : tys.contains f.ty.toNat = false := by simpa using mt (htys _) hty
    simp only [hno, Bool.false_and]
  · have hno : isV f.d = false := by simpa [isV] using hd
    simp only [hno, Bool.and_false, Bool.false_and]
  · have hno : isV f.s1 = false := by simpa [isV] using h1
    simp only [hno, Bool.and_false, Bool.false_and]

end

/-! ### NaN results (R173) -/

theorem fvAdd_nan_left (b : Fv) : fvAdd .nan b = f32Nan := by cases b <;> rfl
theorem fvAdd_nan_right (a : Fv) : fvAdd a .nan = f32Nan := by cases a <;> rfl
theorem fvMul_nan_left (b : Fv) : fvMul .nan b = .nan := by cases b <;> rfl
theorem fvMul_nan_right (a : Fv) : fvMul a .nan = .nan := by cases a <;> rfl
theorem f32Div_nan {a b : W32} (h : f32Dec a = .nan ∨ f32Dec b = .nan) : f32Div a b = f32Nan := by
  obtain ha | hb := h
  · simp [f32Div, ha]
  · unfold f32Div
    rw [hb]
    cases f32Dec a <;> rfl

theorem nan_results (a b c : W32) (h : f32Dec a = .nan ∨ f32Dec b = .nan) :
    f32Add a b = f32Nan ∧ f32Sub a b = f32Nan ∧ f32Mul a b = f32Nan ∧ f32Div a b = f32Nan ∧ f32Fma a b c = f32Nan := by
  have hmul : fvMul (f32Dec a) (f32Dec b) = .nan := by
    obtain ha | hb := h
    · rw [ha, fvMul_nan_left]
    · rw [hb, fvMul_nan_right]
  refine ⟨?_, ?_, by rw [f32Mul, hmul]; rfl, f32Div_nan h, by rw [f32Fma, hmul, fvAdd_nan_left]⟩
  · obtain ha | hb := h
    · rw [f32Add, ha, fvAdd_nan_left]
    · rw [f32Add, hb, fvAdd_nan_right]
  · obtain ha | hb := h
    · rw [f32Sub, ha, fvAdd_nan_left]
    · rw [f32Sub, hb, fvNeg, fvAdd_nan_right]

/-! ### Lanewise instructions -/

/-- The instruction is the lanewise form with `n` sources, and at each of the TYPEs `ks` its function is `h`. -/
def LaneForm (s : State) (t : Thr) (f : FmtR) (n : Nat) (i : Instr) (ks : List Nat) (h : W32 → W32 → W32 → W32) : Prop :=
  ∃ tys op, exec i s = .next (s.vecN t f n tys op) ∧ ∀ k ∈ ks, k ∈ tys ∧ ∀ a b c, op k a b c = h a b c

theorem lane_abs (a : W32) : (if a.msb then -a else a) = if a.toInt < 0 then -a else a := by
  simp [BitVec.msb_eq_toInt]

/-- Settles O21: a lanewise instruction is the lanewise form of its function, and TYPE chooses the function. -/
theorem vectorLanewise : Obligations.VectorLanewise := by
  refine ⟨fun op hop s t f g th hi hd h1 h2 h3 hty hcond hrsv hgrd hf1 hfd => ?_,
    fun op hop s t f g th hi hd h1 h2 h3 hty hcond hrsv hgrd hf1 hf2 hfd => ?_,
    fun s t f g th hi hd h1 h2 h3 hty hcond hrsv hgrd hf1 hf2 hf3 hfd => ?_, fun op hop s t f g th hi hbad => ?_,
    fun a b c h => nan_results a b c h⟩
  · obtain ⟨tys, h, hexec, hform⟩ : LaneForm s t f 1 (op.1 t f) [op.2.1.toNat] fun a _ _ => op.2.2 a := by
      clear hty
      revert op
      simp only [List.forall_mem_cons, List.not_mem_nil, false_imp_iff, implies_true, and_true]
      and_intros <;> exact ⟨_, _, rfl, by simp [tyI32, tyFP32, lane_abs]⟩
    obtain ⟨hmem, hfun⟩ := hform f.ty.toNat (by simp [hty])
    exact wroteV_of_vecN hexec hfun hi ⟨hmem, hcond, hrsv, hd, h1, by simpa using h2, by simpa using h3⟩ hgrd (by simpa using hf1) hfd
  · obtain ⟨tys, h, hexec, hform⟩ : LaneForm s t f 2 (op.1 t f) op.2.1 fun a b _ => op.2.2 a b := by
      clear hty
      revert op
      simp only [List.forall_mem_cons, List.not_mem_nil, false_imp_iff, implies_true, and_true]
      and_intros <;> exact ⟨_, _, rfl, by
        simp [tyI32, tyU32, tyFP32, tyArith, tyInt, byType, tyMin, tyMax, sMin, sMax, uMin, uMax]⟩
    obtain ⟨hmem, hfun⟩ := hform f.ty.toNat hty
    exact wroteV_of_vecN hexec hfun hi ⟨hmem, hcond, hrsv, hd, h1, by simpa using h2, by simpa using h3⟩ hgrd
      (by simpa using ⟨hf1, hf2⟩) hfd
  · exact wroteV_of_vecN (n := 3) (tys := [tyFP32]) (op := fun _ a b c => f32Fma a b c) rfl (fun _ _ _ => rfl) hi
      ⟨by simp [hty, tyFP32], hcond, hrsv, hd, h1, by simpa using h2, by simpa using h3⟩ hgrd (by simpa using ⟨hf1, hf2, hf3⟩) hfd
  · obtain ⟨n, tys, h, hexec, htys⟩ : ∃ n tys h, exec (op t f) s = .next (s.vecN t f n tys h) ∧ ∀ k ∈ tys, k ∈ [0, 1, 4] := by
      revert op
      simp only [List.forall_mem_cons, List.not_mem_nil, false_imp_iff, implies_true, and_true]
      and_intros <;> exact ⟨_, _, _, rfl, by decide⟩
    rw [hexec, State.vecN_illegal h hi htys hbad]

/-! ### Bits and folds over lanes -/

theorem sum_bits_lt (h : Nat → Bool) (n : Nat) : (List.range n).foldl (fun a i => a + boolN (h i) * 2 ^ i) 0 < 2 ^ n := by
  induction n with
  | zero => simp
  | succ n ih =>
    rw [List.range_succ, List.foldl_append, pow_succ, List.foldl_cons, List.foldl_nil]
    have hbit : boolN (h n) * 2 ^ n ≤ 2 ^ n := by cases h n <;> simp [boolN]
    omega
theorem testBit_sum_bits (h : Nat → Bool) (n i : Nat) :
    ((List.range n).foldl (fun a i => a + boolN (h i) * 2 ^ i) 0).testBit i = (decide (i < n) && h i) := by
  induction n with
  | zero => simp
  | succ n ih =>
    have hlt := sum_bits_lt h n
    rw [List.range_succ, List.foldl_append]
    simp only [List.foldl_cons, List.foldl_nil]
    rw [Nat.add_comm, Nat.mul_comm, Nat.two_pow_add_eq_or_of_lt hlt, Nat.testBit_or, ih, Nat.testBit_two_pow_mul]
    rcases Nat.lt_trichotomy i n with hin | rfl | hin
    · simp [hin, Nat.lt_succ_of_lt hin, Nat.not_le.mpr hin]
    · cases h i <;> simp [boolN]
    · have : boolN (h n) < 2 ^ (i - n) := by
        have : 2 ^ 1 ≤ 2 ^ (i - n) := Nat.pow_le_pow_right (by decide) (by omega)
        unfold boolN
        split <;> omega
      simp [Nat.testBit_lt_two_pow this, Nat.not_lt.mpr hin.le, Nat.not_lt.mpr (Nat.succ_le_of_lt hin)]

theorem getLsbD_bitsOf (h : Nat → Bool) {i : Nat} (hi : i < 32) : (bitsOf h).getLsbD i = h i := by
  rw [bitsOf, BitVec.getLsbD_ofNat, testBit_sum_bits]
  simp [hi]

theorem Thread.lanes_eq_active (th : Thread) {grd : BitVec 5} (hgrd : GuardWf grd) (r : BitVec 6) :
    (th.lanes grd).map (laneAt (th.vr r.toNat)) = activeLanes th grd r := by
  rw [Thread.lanes, activeLanes, funext (th.guard_eq_active hgrd)]

theorem foldl_add_eq_sum (vs : List W32) : vs.foldl (fun a b => a + b) 0 = BitVec.ofNat 32 (vs.map BitVec.toNat).sum := by
  have hacc (acc : W32) : vs.foldl (fun a b => a + b) acc = acc + BitVec.ofNat 32 (vs.map BitVec.toNat).sum := by
    induction vs generalizing acc with
    | nil => simp
    | cons v vs ih => simp [ih, BitVec.add_assoc, BitVec.ofNat_add]
  simpa using hacc 0

/-! ### Reductions -/

section
variable {s : State} {t : Thr} {g : Grp} {th : Thread} {f : FmtR}

theorem State.vred_of_issues (red : Nat → List W32 → Option W32) (hi : Issues s t g th) (hd : f.d.toNat < 32) (h1 : f.s1.toNat < 32)
    (h2 : f.s2 = 0) (h3 : f.s3 = 0) (hty : f.ty.toNat ∈ [0, 1, 4]) (hcond : f.cond = 0) (hrsv : f.rsv = 0) (hgrd : GuardWf f.grd)
    (hf1 : FreeV th f.s1) :
    s.vred t f red = match red f.ty.toNat (activeLanes th f.grd f.s1) with
      | some r => s.doneV t g th f.d (List.replicate 32 r)
      | none => s.retire t g th.advance := by
  have htys : f.ty.toNat ∈ tyArith := hty
  rw [← th.lanes_eq_active hgrd]
  exact State.insn_vec_of_issues hi (by simp [isV, hd, h1, h2, h3, htys, hcond, hrsv]) hgrd (by simp) (by simpa using hf1)

theorem wroteV_of_vred {o : Out} {red : Nat → List W32 → Option W32} {r : W32} (ho : o = .next (s.vred t f red))
    (hvred : s.vred t f red = s.doneV t g th f.d (List.replicate 32 r)) :
    ∃ th', o = .next (s.retire t g th') ∧ WroteV th th' f.d (fun _ => r) :=
  wroteV_of_doneV (ho.trans (congrArg _ hvred)) fun i hi => by
    rw [laneAt, List.getD_eq_getElem _ _ (by simpa using hi), List.getElem_replicate]

end

theorem ty_eq_fp32 (ty : BitVec 4) : ty.toNat = tyFP32 ↔ ty = 4 := by rw [← BitVec.toNat_inj]; rfl
theorem ty_eq_u32 (ty : BitVec 4) : ty.toNat = tyU32 ↔ ty = 1 := by rw [← BitVec.toNat_inj]; rfl

/-- The minimum or maximum that TYPE orders. -/
theorem tyMin_eq (ty : BitVec 4) : tyMin ty.toNat = if ty = 4 then f32Min else if ty = 1 then uMin else sMin := by
  funext a b
  simp only [tyMin, ty_eq_fp32, ty_eq_u32]
  split_ifs <;> rfl
theorem tyMax_eq (ty : BitVec 4) : tyMax ty.toNat = if ty = 4 then f32Max else if ty = 1 then uMax else sMax := by
  funext a b
  simp only [tyMax, ty_eq_fp32, ty_eq_u32]
  split_ifs <;> rfl

/-- A fold of lanes by TYPE, a NaN made canonical. -/
theorem redFold_byType (ty : BitVec 4) {op fo uo so : W32 → W32 → W32} (hop : op = if ty = 4 then fo else if ty = 1 then uo else so)
    (a : W32) (rest : List W32) :
    (redFold op (a :: rest)).map (fun r => if ty.toNat = tyFP32 then f32Canon r else r) =
    some (if ty = 4 then f32Canon (rest.foldl fo a) else if ty = 1 then rest.foldl uo a else rest.foldl so a) := by
  simp only [redFold, Option.map_some, ty_eq_fp32, hop]
  split_ifs <;> rfl

/-! ### Moves, conversions and reductions -/

theorem vcmpOk_of {ty cond : BitVec 4} (h : (ty.toNat ≤ 1 ∧ cond.toNat ≤ 6) ∨ (ty = 4 ∧ (cond = 6 ∨ (8 ≤ cond.toNat ∧ cond.toNat ≤ 12)))) :
    vcmpOk ty.toNat cond.toNat = true := by
  obtain ⟨hty, hcond⟩ | ⟨rfl, rfl | hcond⟩ := h
  · obtain hty | hty : ty.toNat = 0 ∨ ty.toNat = 1 := by omega
    · simp [vcmpOk, condIsInt, hcond, tyI32, hty]
    · simp [vcmpOk, condIsInt, hcond, tyU32, hty]
  · rfl
  · simp [vcmpOk, condIsFp, hcond, tyFP32]

/-- Settles O22: what each move writes, and what a reduction takes from the active lanes. -/
theorem vectorMovesAndReductions : Obligations.VectorMovesAndReductions := by
  refine ⟨⟨fun s t f g th hi hd h1 h2 h3 hrsv hgrd hf1 hf2 hcond => ?_, fun s t f g th hi hd h1 h2 hty hcond hrsv hgrd hf1 hf2 hfd => ?_,
    fun s t f g th hi hd h2 h3 hty hcond hrsv hgrd hfd => ?_, fun s t f g th hi h3 hty hcond hrsv hgrd => ?_,
    fun s t f g th a b m hi hd h1 hty hrsv himm hgrd hf1 hfd ha hb hm => ?_⟩,
    fun s t f g th hi hd h1 h2 h3 hcond hrsv hgrd hf1 => ?_⟩
  · refine ⟨_, _, congrArg Host.Outcome.next (State.insn_vec_of_issues hi ?_ hgrd (by simp) (by simpa using ⟨hf1, hf2⟩)), wroteP_setP .., ?_⟩
    · simp [isP, isV, hd, h1, h2, h3, hrsv, vcmpOk_of hcond]
    · intro i hi
      rw [getLsbD_bitsOf _ hi, th.guard_eq_active hgrd]
  · have hsrc : ∀ r ∈ [f.s1.toNat, f.s2.toNat] ++ keepD f.grd f.d, r ∉ th.pendV := fun r hr =>
      (List.mem_append.mp hr).elim (by rintro hr; simp at hr; rcases hr with rfl | rfl <;> assumption) (keepD_free hfd r)
    refine ⟨fun h3 => ?_, fun h3 => ?_⟩
    · refine wroteV_of_doneV (congrArg Host.Outcome.next (State.insn_vec_of_issues hi ?_ hgrd (by simp) hsrc))
        fun i hi => laneAt_laneMap th hgrd f.d _ hi
      simp [isP, isV, hd, h1, h2, h3, hty, hcond, hrsv]
    · refine wroteV_of_doneV (congrArg Host.Outcome.next (State.insn_vec_of_issues hi ?_ hgrd (by simp) hsrc))
        fun i hi => laneAt_laneMap th hgrd f.d _ hi
      simp [isV, hd, h1, h2, h3, hty, hcond, hrsv]
  · refine ⟨fun hf1 => ?_, fun h1 => ?_⟩
    · refine wroteV_of_doneV (congrArg Host.Outcome.next (State.insn_vec_of_issues hi ?_ hgrd (free_single hf1) (keepD_free hfd)))
        fun i hi => ?_
      · simp [isV, hd, h2, h3, hty, hcond, hrsv]
      · rw [laneAt_laneMap th hgrd f.d _ hi, BitVec.ofNat_toNat]
    · refine wroteV_of_doneV (congrArg Host.Outcome.next (State.insn_vec_of_issues hi ?_ hgrd (by simp) (keepD_free hfd)))
        fun i hi => laneAt_laneMap th hgrd f.d _ hi
      simp [isV, hd, h1, h2, h3, hty, hcond, hrsv]
  · refine ⟨fun h1 hf1 hf2 => ?_, fun hd hf1 hf2 hfd => ?_⟩
    · refine wroteX_of_doneX (congrArg Host.Outcome.next ?_) (BitVec.ofNat_toNat ..).symm
      exact State.insn_of_issues false _ hi (by simp [isV, h1, h3, hty, hcond, hrsv]) hgrd (free_single hf2) (by simpa using hf1)
    · refine wroteV_of_doneV (congrArg Host.Outcome.next (State.insn_of_issues false _ hi ?_ hgrd (free_pair hf1 hf2) (by simpa using hfd)))
        fun i hi => ?_
      · simp [isV, hd, h3, hty, hcond, hrsv]
      · rw [laneAt_map_range _ hi, BitVec.ofNat_toNat]
  · have hfields : fieldOf f.imm.toNat 8 2 = f.imm.toNat / 256 := Nat.mod_eq_of_lt (by omega)
    have hhigh : fieldOf f.imm.toNat 10 22 = 0 := by simp [fieldOf, Nat.div_eq_of_lt himm]
    have ha' : Fmt.ofNibble (fieldOf f.imm.toNat 4 4) = some a := ha
    rw [← hfields] at hm
    refine ⟨fun hok => ?_, fun hne hpacked => ?_⟩
    · have hlegal : vcvtOk f = true := by
        simp only [vcvtOk, ha', hb, hm]
        obtain h0 | ⟨hpa, hpb⟩ := hok
        · simp [h0]
        · simp [hpa, hpb]
      have hexec : exec (.vcvt t f) s = .next (s.doneV t g (if m == .sr then { th with op := th.op + 1 } else th) f.d
          (laneMap th f.grd (th.vr f.d.toNat) (laneAt (vcvtResult a b m (s.randoms g t.idx th.op 32) (th.vr f.s1.toNat))))) := by
        refine congrArg Host.Outcome.next ((State.insn_vec_of_issues hi ?_ hgrd (by simp) ?_).trans (by simp only [ha', hb, hm]))
        · simp [isV, hd, h1, hty, hrsv, hhigh, hlegal]
        · exact fun r hr => (List.mem_append.mp hr).elim (fun h => List.mem_singleton.mp h ▸ hf1) (keepD_free hfd r)
      have hlanes := wroteV_of_lanes (if m == .sr then { th with op := th.op + 1 } else th) f.d fun i hi =>
        laneAt_laneMap th hgrd f.d (laneAt (vcvtResult a b m (s.randoms g t.idx th.op 32) (th.vr f.s1.toNat))) hi
      refine ⟨_, hexec, ?_, ?_⟩
      · cases m <;> exact hlanes
      · cases m <;> rfl
    · have hno : vcvtOk f = false := by
        have hG : f.grd.getLsbD 4 = true := hgrd.resolve_left hne
        simp only [vcvtOk, ha', hb, hm, hG]
        obtain hp | hp := hpacked <;> simp [hp]
      exact congrArg Host.Outcome.next (State.insn_of_illegal hi (by simp [hno]))
  · have hred (red) (hty : f.ty.toNat ∈ [0, 1, 4]) := State.vred_of_issues (s := s) (t := t) red hi hd h1 h2 h3 hty hcond hrsv hgrd hf1
    refine ⟨fun hty => ?_, fun hty => ?_, fun hty a rest hact => ⟨?_, ?_⟩, fun hty hact => ⟨?_, ?_⟩⟩
    · have hsum : redSum f.ty.toNat (activeLanes th f.grd f.s1) = BitVec.ofNat 32 ((activeLanes th f.grd f.s1).map BitVec.toNat).sum := by
        rw [redSum, if_neg (by simp only [tyFP32]; omega), foldl_add_eq_sum]
      refine wroteV_of_vred rfl ((hred _ ?_).trans (by rw [hsum]))
      have : f.ty.toNat = 0 ∨ f.ty.toNat = 1 := by omega
      simpa using this.imp_right .inl
    · exact wroteV_of_vred rfl ((hred _ (by simp [hty])).trans (by rw [hty]; rfl))
    · exact wroteV_of_vred rfl ((hred _ hty).trans (by rw [hact, redFold_byType f.ty (tyMin_eq f.ty)]))
    · exact wroteV_of_vred rfl ((hred _ hty).trans (by rw [hact, redFold_byType f.ty (tyMax_eq f.ty)]))
    · exact congrArg Host.Outcome.next ((hred _ hty).trans (by rw [hact]; rfl))
    · exact congrArg Host.Outcome.next ((hred _ hty).trans (by rw [hact]; rfl))

end Sys2Proof.Machine
end

section
/-! SUPPORT. Accesses of registers by the host (R10, R13, R426, R427, R430) and the identity block (R36 to R42). -/

namespace Sys2Proof.Machine
open Sys2Proof Sys2Proof.Claims

/-! ### Reads and writes that a function answers -/

section
variable {s : State} {bar : Bar} {off : Nat} {r : RegRow}

theorem State.responds_of_answers (h : Answers s bar) (off : Nat) (write : Bool) : s.responds bar off write = true := by
  obtain ⟨-, hrec, hlc⟩ := h
  simp [State.responds, hrec, hlc]

/-- An aligned 4-byte write reaches the register. -/
theorem State.hostWrite4_of_answers (h : Answers s bar) (halign : off % 4 = 0) (v : Nat) :
    s.hostWrite bar off false v = s.write4 bar off (v % 2 ^ 32) := by
  obtain ⟨hopen, hrec, -⟩ := h
  simp [State.hostWrite, hopen, hrec, halign]
theorem State.hostRead4_of_answers (h : Answers s bar) (halign : off % 4 = 0) :
    s.hostRead bar off false = (s.read4 bar off).2.send (.cpl (BitVec.ofNat 64 (s.read4 bar off).1)) := by
  have hup : s.up = true := by
    obtain ⟨hopen, -⟩ := h
    simp only [State.barOpen, Bool.and_eq_true] at hopen
    exact hopen.1.1.1
  obtain ⟨hopen, hrec, -⟩ := h
  simp [State.hostRead, hup, hopen, hrec, halign]

theorem State.write4_narrow (h : Answers s bar) (hrow : rowAt bar off = some r) (hwide : r.wide = false) (v : Nat) :
    s.write4 bar off v = s.writeReg bar r (r.base off) v := by
  simp [State.write4, State.responds_of_answers h, hrow, hwide]
theorem State.write4_low (h : Answers s bar) (hrow : rowAt bar off = some r) (hwide : r.wide = true) (hlow : r.base off = off)
    (hacc : r.acc = .rw) (v : Nat) : s.write4 bar off v = s.setHelds bar ((s.helds bar).set off (BitVec.ofNat 32 v)) := by
  simp [State.write4, State.responds_of_answers h, hrow, hwide, hlow, hacc]
theorem State.write4_high (h : Answers s bar) (hrow : rowAt bar off = some r) (hwide : r.wide = true) (hhigh : r.base off ≠ off)
    (hacc : r.acc = .rw) (v : Nat) :
    s.write4 bar off v = (s.setHelds bar ((s.helds bar).del (r.base off))).writeReg bar r (r.base off)
      ((match (s.helds bar).find (r.base off) with
        | some w => w.toNat
        | none => s.barView bar (r.base off) % 2 ^ 32) + v * 2 ^ 32) := by
  simp only [State.write4, State.responds_of_answers h, hrow, hwide, if_neg (Ne.symm hhigh), hacc, bne_self_eq_false, Bool.not_true,
    Bool.false_eq_true, if_false] <;> rfl

theorem State.writeReg_plain (s : State) {base : Nat} (hacc : r.acc = .rw) (hplain : PlainRw base) (v : Nat) :
    s.writeReg .bar4 r base v = s.hubSetN base (v &&& r.mask) := by
  obtain ⟨hint, hmargin, hdebug, hprobe⟩ := hplain
  have hno : ¬(TRC_PROBE_CTL ≤ base ∧ base < TRC_PROBE_CTL + 0x200 ∧ (base - TRC_PROBE_CTL) % 64 = 0) := fun h => hprobe ⟨h.1, h.2.1⟩
  simp only [State.writeReg, hacc, State.writeRw, hint, hmargin, hdebug, if_false, Bool.and_eq_true, decide_eq_true_eq, and_assoc, hno]

end

/-- Settles O3: each access is one 4-byte read or write of its register's row. -/
theorem registerAccesses : Obligations.RegisterAccesses := by
  refine ⟨fun s off r data h halign hrow hacc hwide hplain => ?_, fun s off r h halign hrow hacc hwide => ?_,
    fun s off r h halign hrow hwide hlow hwo hrc => ?_, fun s off r data h halign hrow hwide hlow hacc => ?_,
    fun s off r data h halign hrow hwide hhigh hacc hplain => ?_⟩
  · exact congrArg Host.Outcome.next ((State.hostWrite4_of_answers h halign _).trans
      ((State.write4_narrow h hrow hwide _).trans (s.writeReg_plain hacc hplain _)))
  · have hread : s.read4 .bar4 off = (s.hubView (r.base off), s.hubSetN (r.base off) 0) := by
      simp [State.read4, State.responds_of_answers h, hrow, State.readReg, hacc, hwide, State.barView, State.putBar]
    exact congrArg Host.Outcome.next ((State.hostRead4_of_answers h halign).trans (by rw [hread]))
  · have hread : s.read4 .bar4 off =
        (s.hubView off % 2 ^ 32, { s with latch := s.latch.set off (BitVec.ofNat 32 (s.hubView off / 2 ^ 32)) }) := by
      have hreg : s.readReg .bar4 r off = (s.hubView off, s) := by
        unfold State.readReg
        cases hacc : r.acc with
        | wo => exact absurd hacc hwo
        | rc => exact absurd hacc hrc
        | _ => rfl
      simp [State.read4, State.responds_of_answers h, hrow, hreg, hwide, hlow, State.latches, State.setLatches]
    refine ⟨_, congrArg Host.Outcome.next (State.hostRead4_of_answers h halign), ?_⟩
    rw [hread]
    exact ⟨rfl, SMap.find_set_self .., rfl⟩
  · refine ⟨_, congrArg Host.Outcome.next ((State.hostWrite4_of_answers h halign _).trans
      (State.write4_low h hrow hwide hlow hacc _)), ?_, rfl, rfl⟩
    rw [Nat.mod_eq_of_lt data.isLt, BitVec.ofNat_toNat, BitVec.setWidth_eq]
    exact SMap.find_set_self ..
  · refine ⟨_, congrArg Host.Outcome.next ((State.hostWrite4_of_answers h halign _).trans
      ((State.write4_high h hrow hwide hhigh hacc _).trans (State.writeReg_plain _ hacc hplain _))), ?_, ?_⟩
    · rw [Nat.mod_eq_of_lt data.isLt]
      rfl
    · exact SMap.find_del_self ..

/-! ### Accesses that a function turns away -/

theorem sat_eq_min (top v : Nat) : sat top v = min top v := by
  simp only [sat, Nat.min_def]
  split_ifs <;> omega

/-- Settles O4: a bad access counts, an unsupported one is reported where its function exists. -/
theorem refusedAccesses : Obligations.RefusedAccesses := by
  refine ⟨fun s bar off len full write hopen hbad => ?_, fun s fn posted hup hno => ?_, fun s fn posted hup hfn => ?_⟩
  · have hcount : s.hubCount PCE_BAD_ACCESSES 1 =
        s.hubSetN PCE_BAD_ACCESSES (min 0xFFFFFFFF (s.hubNat PCE_BAD_ACCESSES + 1)) := by rw [State.hubCount, sat_eq_min]
    have hisBad : (!((len = 4 || len = 8) && off % len = 0) || (write && !full)) = true := by
      simpa [imp_iff_not_or, not_or] using hbad
    have hexec : exec (.badAccess bar off len full write) s = .next (if write then s.hubCount PCE_BAD_ACCESSES 1
        else (s.hubCount PCE_BAD_ACCESSES 1).send (.cpl 0)) := by
      refine congrArg Host.Outcome.next ?_
      have hcounted : ¬(!s.barOpen (barFn bar) || !(!((len = 4 || len = 8) && off % len = 0) || (write && !full))) = true := by
        rw [hopen, hisBad]
        decide
      cases bar <;> exact if_neg hcounted
    rw [hexec, hcount]
    cases write <;> simp [State.send, State.hubSetN, State.hubSet]
  · refine congrArg Host.Outcome.next ((if_neg (by simp [hup])).trans ?_)
    cases posted with
    | false => exact if_neg (Bool.eq_false_iff.mp hno)
    | true => exact (if_neg (Bool.eq_false_iff.mp hno)).trans (by simp)
  · refine ⟨if posted then (s.aerUnc fn 20).send (.err fn 1) else (s.send .cplUr).advisory fn 20,
      congrArg Host.Outcome.next ((if_neg (by simp [hup])).trans ?_), ?_⟩
    · cases posted <;> exact if_pos hfn
    · cases posted <;> simp [State.send, State.advisory]

/-! ### The tag area (R36 to R42) -/

/-- The bytes that a commit of a side programs: what is staged, with its CRC-32. -/
def State.tagImage (s : State) (pf : Bool) : List Byte :=
  (s.hubBytesGet (stageOff pf) 256).take 252 ++ leBytes 4 (crc32 ((s.hubBytesGet (stageOff pf) 256).take 252)).toNat

section
variable {s : State}

theorem State.ident_beginCommit {pf : Bool} {rest : List Bool} (n : Nat) (hc : s.ident.commits = pf :: rest)
    (hw : tagWritable s.lc = true) (hnext : s.ident.next < 16) :
    (State.beginCommit (n + 1) s).ident = { s.ident with burn := s.tagImage pf } := by
  have hroom : ¬16 ≤ s.ident.next := by omega
  unfold State.beginCommit
  simp [hc, hw, hroom, State.tagImage]
theorem State.beginCommit_of_none (n : Nat) (hc : s.ident.commits = []) : State.beginCommit n s = s := by
  cases n <;> simp [State.beginCommit, hc]

theorem State.ident_askCommit (pf : Bool) (hc : s.ident.commits = []) (hw : tagWritable s.lc = true) (hnext : s.ident.next < 16) :
    (s.askCommit pf).ident = { s.ident with commits := [pf], burn := s.tagImage pf } := by
  simp only [State.askCommit, hc, List.contains_nil, List.isEmpty_nil, Bool.false_eq_true, if_false, if_true, List.nil_append,
    State.noteTags_frame]
  exact State.ident_beginCommit 1 rfl hw hnext

end

theorem fieldOf_withField_result (v x : Nat) (hx : x < 16) : fieldOf (withField v 8 4 x % 2 ^ 64) 8 4 = x := by
  simp only [fieldOf, withField]
  omega

theorem State.fieldOf_noteTags (s : State) : fieldOf (s.noteTags.hubNat IDN_TAG_STATUS) 8 4 = fieldOf (s.hubNat IDN_TAG_STATUS) 8 4 := by
  have hlayout : ∀ cur next f : Nat, ∀ b c : Bool, cur % 2 ^ 12 = 0 → f < 16 →
      (cur + next * 2 ^ 14 + f * 256 + boolN b * 2 + boolN c) % 2 ^ 64 / 2 ^ 8 % 2 ^ 4 = f := by
    intro cur next f b c hcur hf
    cases b <;> cases c <;> simp only [boolN, if_true, if_false, Bool.false_eq_true] <;> omega
  have hf : fieldOf (s.hubNat IDN_TAG_STATUS) 8 4 < 16 := Nat.mod_lt _ (by decide)
  rw [State.noteTags, State.hubNat_hubSetN_self]
  cases s.ident.current with
  | none => exact hlayout 0 _ _ _ _ rfl hf
  | some g => exact hlayout (g * 2 ^ 20 + 2 ^ 19) _ _ _ _ (by omega) hf

/-- Settles O5: a commit takes the staged bytes, its end writes them; the rest is one command's own step. -/
theorem identityBlock : Obligations.IdentityBlock := by
  refine ⟨fun s hup hc hw hnext => ?_, fun s hup hc hw hnext => ?_, fun s pf hup hburn hc => ?_, fun s off hup => ?_,
    fun s off data hup hlo hhi halign => ?_, fun s off data hup hout hne => ?_⟩
  · have hident := State.ident_askCommit true hc hw hnext
    refine ⟨s.askCommit true, congrArg Host.Outcome.next (if_pos hup), ?_, by simp, ?_⟩
    · rw [hident]
    · rw [hident]; rfl
  · have hident := State.ident_askCommit false hc hw hnext
    refine ⟨(s.askCommit false).send (.i3c 0 0), congrArg Host.Outcome.next (if_pos hup), ?_, by simp [State.send], ?_⟩
    · exact congrArg Ident.commits hident
    · exact congrArg Ident.burn hident
  · set u : State := { s with ident := s.ident.putGen s.ident.next s.ident.burn } with hu
    have hnone : (u.endCommit tagDone).ident.commits = [] := by simp [State.endCommit, State.hubSetN, State.hubSet, hu, Ident.putGen, hc]
    have hexec : exec (.tagCommitDone true) s = .next (u.endCommit tagDone).noteTags := by
      refine congrArg Host.Outcome.next ((if_neg (by simp [hup, hburn])).trans ?_)
      exact congrArg State.noteTags (State.beginCommit_of_none 2 hnone)
    refine ⟨_, hexec, ?_, ?_, ?_⟩
    · simpa using hnone
    · simp [State.endCommit, State.hubSetN, State.hubSet, hu]
    · rw [State.fieldOf_noteTags, State.endCommit, State.hubNat_hubSetN_self]
      exact fieldOf_withField_result _ _ (by decide)
  · exact congrArg Host.Outcome.next (if_pos hup)
  · refine congrArg Host.Outcome.next ?_
    have hne : off ≠ IDN_TAG_COMMIT := by simp only [IDN_TAG_COMMIT, IDN_TAG_STAGE_I3C] at *; omega
    simp [hup, hne, hlo, hhi, halign]
  · refine congrArg Host.Outcome.next ?_
    have hno : ¬(IDN_TAG_STAGE_I3C ≤ off ∧ off < IDN_TAG_STAGE_I3C + 256 ∧ off % 4 = 0) := by omega
    simp only [hup, hne, Bool.and_eq_true, decide_eq_true_eq, and_assoc, hno]
    rfl

end Sys2Proof.Machine
end

section
/-! SUPPORT. What the bookkeeping of a function leaves unchanged, and the records that need no copy of their own: acceptance,
NOP, AUDIT_CLOSE, QUIESCE, RESUME, BIND and the release of WORK (R49 to R92, R448 to R457). -/

namespace Sys2Proof.Machine
open Sys2Proof Sys2Proof.Claims

/-! ### A tally changes nothing of a function but its counters -/

/-- Two states of a function that differ in registers from TLY_FN_COUNT on at most. -/
def Fn.SameButTally (f g : Fn) : Prop := g = { f with regs := g.regs } ∧ ∀ off < TLY_FN_COUNT, g.get off = f.get off

section
variable {f g h : Fn}

theorem Fn.SameButTally.refl (f : Fn) : f.SameButTally f := ⟨rfl, fun _ _ => rfl⟩
theorem Fn.SameButTally.trans (hfg : f.SameButTally g) (hgh : g.SameButTally h) : f.SameButTally h := by
  obtain ⟨hg, hgetg⟩ := hfg
  obtain ⟨hh, hgeth⟩ := hgh
  refine ⟨?_, fun off hoff => (hgeth off hoff).trans (hgetg off hoff)⟩
  rw [hg] at hh
  exact hh
theorem Fn.SameButTally.put (f : Fn) {off : Nat} (v : W64) (hoff : TLY_FN_COUNT ≤ off) : f.SameButTally (f.put off v) :=
  ⟨rfl, fun a ha => Fn.get_put_other f off a v (by omega)⟩
theorem Fn.SameButTally.foldl {α : Type} {step : Fn → α → Fn} (hstep : ∀ (f : Fn) (x : α), f.SameButTally (step f x)) (l : List α) (f : Fn) :
    f.SameButTally (l.foldl step f) := by
  induction l generalizing f with
  | nil => exact .refl f
  | cons x xs ih => exact (hstep f x).trans (ih _)
theorem Fn.sameButTally_tallyRec (f : Fn) (st code n : Nat) : f.SameButTally (f.tallyRec st code n) := by
  simp only [Fn.tallyRec]
  split
  · refine .foldl (fun f k => ?_) _ f
    split
    · exact .put f _ (by simp only [TLY_FN_COUNT, TLY_REC_COUNT]; omega)
    · exact .refl f
  · exact .refl f

theorem Fn.SameButTally.nat (h : f.SameButTally g) {off : Nat} (hoff : off < TLY_FN_COUNT) : g.nat off = f.nat off :=
  congrArg BitVec.toNat (h.2 off hoff)
theorem Fn.SameButTally.entry (h : f.SameButTally g) (e : Nat) : g.entry e = f.entry e := by rw [h.1]; rfl
theorem Fn.SameButTally.audit (h : f.SameButTally g) : g.audit = f.audit := by rw [h.1]

end

theorem State.sameButTally_tallyP (s : State) (fn : Nat) (stream : Option Nat) (code n m : Nat) :
    (s.fn m).SameButTally ((s.tallyP fn stream code n).fn m) := by
  rw [State.tallyP]
  split
  · exact .refl _
  · dsimp only
    by_cases hm : m = fn
    · subst hm
      rw [State.fn_modFn_self]
      have hput := Fn.SameButTally.put (s.fn m) (off := TLY_FN_COUNT + 8 * code)
        (tlyAdd ((s.fn m).get (TLY_FN_COUNT + 8 * code)) n) (by omega)
      cases stream with
      | none => exact hput
      | some st => exact hput.trans (Fn.sameButTally_tallyRec _ st code n)
    · rw [State.fn_modFn_other _ _ _ _ hm]
      exact .refl _
theorem State.entry_tallyP (s : State) (fn : Nat) (stream : Option Nat) (code n m e : Nat) :
    (s.tallyP fn stream code n).entry m e = s.entry m e := (s.sameButTally_tallyP fn stream code n m).entry e

theorem Fn.nat_congr {f g : Fn} (h : f.regs = g.regs) (off : Nat) : f.nat off = g.nat off := by rw [Fn.nat, Fn.get, h]; rfl

/-! ### Entries -/

section
variable {s : State} {fn e type : Nat} {j : JEntry}

theorem State.of_open (h : s.open fn e type = some j) :
    s.entry fn e = some j ∧ s.running = true ∧ j.st = .accepted ∧ j.outcome = none ∧ recType j.record = type := by
  unfold State.open at h
  split at h
  · next k hk =>
    split at h
    · next hcond =>
      cases h
      simp only [Bool.and_eq_true, beq_iff_eq, decide_eq_true_eq, Option.isNone_iff_eq_none] at hcond
      obtain ⟨⟨⟨hrun, hst⟩, hout⟩, htype⟩ := hcond
      exact ⟨hk, hrun, hst, hout, htype⟩
    · cases h
  · cases h
theorem State.open_of_inTurn (h : s.inTurn fn e type = some j) : s.open fn e type = some j := by
  unfold State.inTurn at h
  split at h
  · next k hk =>
    split at h
    · cases h
    · cases h; exact hk
  · cases h

@[simp] theorem Fn.entry_setEntry_self (f : Fn) (e : Nat) (j : JEntry) : (f.setEntry e j).entry e = some j := SMap.find_set_self ..
theorem Fn.entry_modEntry_self {f : Fn} (h : f.entry e = some j) (k : JEntry → JEntry) : (f.modEntry e k).entry e = some (k j) := by
  rw [Fn.modEntry, h]
  exact Fn.entry_setEntry_self ..
theorem State.entry_modEntry_self (h : s.entry fn e = some j) (k : JEntry → JEntry) : (s.modEntry fn e k).entry fn e = some (k j) := by
  rw [State.modEntry, State.entry, State.fn_modFn_self]
  exact Fn.entry_modEntry_self h k
/-- Changing an entry leaves the rest of its function. -/
theorem Fn.modEntry_eq (f : Fn) (e : Nat) (k : JEntry → JEntry) : f.modEntry e k = { f with entries := (f.modEntry e k).entries } := by
  rw [Fn.modEntry]
  split <;> rfl
theorem State.fn_modEntry_eq (s : State) (fn e : Nat) (k : JEntry → JEntry) :
    (s.modEntry fn e k).fn fn = { s.fn fn with entries := ((s.modEntry fn e k).fn fn).entries } := by
  rw [State.modEntry, State.fn_modFn_self]
  exact Fn.modEntry_eq ..

theorem State.entry_dropLoadReads (s : State) (fn e m a : Nat) : (s.dropLoadReads fn e).entry m a = s.entry m a := by
  by_cases hm : m = fn
  · simp [State.dropLoadReads, State.entry, State.fn, State.modFn, State.setFn, hm, Fn.entry]
  · simp [State.dropLoadReads, State.entry, State.fn, State.modFn, State.setFn, SMap.get_set_other _ _ _ _ _ hm]
/-- Deciding an outcome other than QUIESCED. -/
theorem State.decide_of_accepted (h : s.entry fn e = some j) (hst : j.st = .accepted) (hout : j.outcome = none) {status : Nat}
    (hq : status ≠ stQuiesced) (detail : Nat) : s.decide fn e status detail = (s.dropLoadReads fn e).modEntry fn e
      (fun j => { j with outcome := some (status, detail), busy := false, src := [] }) := by
  simp [State.decide, h, hst, hout, hq]
theorem State.entry_decide (h : s.entry fn e = some j) (hst : j.st = .accepted) (hout : j.outcome = none) {status : Nat}
    (hq : status ≠ stQuiesced) (detail : Nat) : (s.decide fn e status detail).entry fn e =
      some { j with outcome := some (status, detail), busy := false, src := [] } := by
  rw [State.decide_of_accepted h hst hout hq]
  exact State.entry_modEntry_self ((State.entry_dropLoadReads s fn e fn e).trans h) _
/-- Deciding an outcome other than QUIESCED leaves of the function all but its entries and the waits of a load. -/
theorem State.fn_decide_eq (h : s.entry fn e = some j) (hst : j.st = .accepted) (hout : j.outcome = none) {status : Nat}
    (hq : status ≠ stQuiesced) (detail : Nat) : (s.decide fn e status detail).fn fn = { s.fn fn with
      entries := ((s.decide fn e status detail).fn fn).entries, xlt := ((s.decide fn e status detail).fn fn).xlt } := by
  have hdrop : (s.dropLoadReads fn e).fn fn = { s.fn fn with xlt := ((s.dropLoadReads fn e).fn fn).xlt } := by
    simp [State.dropLoadReads, State.fn, State.modFn, State.setFn]
  rw [State.decide_of_accepted h hst hout hq, State.fn_modEntry_eq, hdrop]

theorem State.entry_commitEntry (h : s.entry fn e = some j) :
    (s.commitEntry fn e).entry fn e = some { j with st := .committed, busy := false } := by
  simp only [State.commitEntry, h, State.entry_tallyP]
  exact State.entry_modEntry_self h _

end

/-! ### Acceptance (R63, R73) -/

/-- A function with an entry accepted: the watermark moves, the slot is free. -/
def Fn.noteAccepted (f : Fn) (e : Nat) (j : JEntry) : Fn :=
  let g := (({ f with nextOrder := f.nextOrder + 1 } : Fn).setEntry e { j with st := .accepted, order := f.nextOrder }).putN
    (STL_WATERMARK + 8 * recStream j.record) (recSeq j.record)
  if (g.slot j.slot).accepting = some e then g.freeSlot j.slot else g
/-- The module with an entry accepted, before what acceptance does by type. -/
def State.noteAccepted (s : State) (fn e : Nat) (j : JEntry) : State :=
  (s.modFn fn (fun f => f.noteAccepted e j)).tallyP fn (some (recStream j.record)) 0x00 1

theorem Fn.entry_noteAccepted (f : Fn) (e : Nat) (j : JEntry) :
    (f.noteAccepted e j).entry e = some { j with st := .accepted, order := f.nextOrder } := by
  simp only [Fn.noteAccepted]
  split <;> exact Fn.entry_setEntry_self ..
theorem Fn.watermark_noteAccepted (f : Fn) (e : Nat) (j : JEntry) :
    (f.noteAccepted e j).watermark (recStream j.record) = recSeq j.record % 2 ^ 64 := by
  simp only [Fn.noteAccepted]
  split <;> exact Fn.nat_putN_self ..
theorem State.entry_noteAccepted (s : State) (fn e : Nat) (j : JEntry) :
    (s.noteAccepted fn e j).entry fn e = some { j with st := .accepted, order := (s.fn fn).nextOrder } := by
  rw [State.noteAccepted, State.entry_tallyP, State.entry, State.fn_modFn_self]
  exact Fn.entry_noteAccepted ..
theorem State.watermark_noteAccepted (s : State) (fn e : Nat) (j : JEntry) :
    ((s.noteAccepted fn e j).fn fn).watermark (recStream j.record) = recSeq j.record % 2 ^ 64 := by
  have hlow : STL_WATERMARK + 8 * recStream j.record < TLY_FN_COUNT := by
    have : recStream j.record < 16 := Nat.mod_lt _ (by decide)
    simp only [STL_WATERMARK, TLY_FN_COUNT]
    omega
  rw [Fn.watermark, State.noteAccepted, (State.sameButTally_tallyP ..).nat hlow, State.fn_modFn_self]
  exact Fn.watermark_noteAccepted ..
theorem State.acceptEntry_eq (s : State) (fn e : Nat) (j : JEntry) : s.acceptEntry fn e j =
    (((s.noteAccepted fn e j).acceptEffects fn e { j with st := .accepted, order := (s.fn fn).nextOrder }).progress fn).intake fn := by
  change (match (s.noteAccepted fn e j).entry fn e with
    | some k => (((s.noteAccepted fn e j).acceptEffects fn e k).progress fn).intake fn
    | none => s.noteAccepted fn e j) = _
  rw [s.entry_noteAccepted fn e j]

/-- Settles O7: with both twins, or the surviving one, the entry is accepted; else the twin is noted. -/
theorem recordsAccepted : Obligations.RecordsAccepted := by
  refine ⟨fun s fn e a b j hj hst hrun hdur => ?_, fun s fn e a b j hj hst hrun hdur => ?_⟩
  · let j' : JEntry := { j with twinA := j.twinA || a, twinB := j.twinB || b }
    have hexec : exec (.journalEntryWritten fn e a b) s = .next (s.acceptEntry fn e j') := by
      refine congrArg Host.Outcome.next ?_
      simp only [hj, hst, hrun, hdur, bne_self_eq_false, Bool.not_true, Bool.or_self, Bool.false_eq_true, if_false, if_true]
      rfl
    rw [hexec, State.acceptEntry_eq]
    exact ⟨s.noteAccepted fn e j', _, rfl, s.entry_noteAccepted fn e j', rfl, rfl, s.watermark_noteAccepted fn e j', by
      simp [State.noteAccepted]⟩
  · refine ⟨_, congrArg Host.Outcome.next (a₂ := s.modFn fn (fun f => f.setEntry e { j with twinA := j.twinA || a, twinB := j.twinB || b })) ?_, ?_, ?_⟩
    · simp only [hj, hst, hrun, hdur, bne_self_eq_false, Bool.not_true, Bool.or_self, Bool.false_eq_true, if_false]
    · simp [State.entry]
    · simp [Fn.setEntry]

/-! ### Records without a copy, and quiesces (R49, R50, R64, R448, R451) -/

theorem State.fn_checkpoint_eq (s : State) (fn : Nat) :
    (s.checkpoint fn).fn fn = { s.fn fn with audit := ((s.checkpoint fn).fn fn).audit } := by
  simp only [State.checkpoint]
  split
  · rfl
  · simp only [State.fn_setFn_self]
theorem State.entry_checkpoint (s : State) (fn e : Nat) : (s.checkpoint fn).entry fn e = s.entry fn e := by
  rw [State.entry, State.fn_checkpoint_eq]
  rfl
theorem State.fn_noteLtr (s : State) (m : Nat) : s.noteLtr.fn m = s.fn m := by simp [State.fn]

/-- Settles O9: each record is decided in its turn; a quiesce stops its groups at its time. -/
theorem quiesceAndSimpleRecords : Obligations.QuiesceAndSimpleRecords := by
  have hok : stOk ≠ stQuiesced := by decide
  refine ⟨⟨fun s fn e j h hmay => ?_, fun s fn e j h => ?_, fun s fn e j h hpdk => ?_, fun s fn e j h => ?_⟩,
    fun s fn q hq hrun hpdk hdue => ?_, fun s fn q hq hearly => ?_⟩
  · obtain ⟨hj, -, hst, hout, -⟩ := State.of_open h
    refine ⟨s.decide fn e stOk 0, congrArg Host.Outcome.next ?_, State.entry_decide hj hst hout hok 0, by simp, by simp, by simp⟩
    simp only [h, hmay, if_true]
  · obtain ⟨hj, -, hst, hout, -⟩ := State.of_open (State.open_of_inTurn h)
    have hj' : (if (s.fn fn).audit.sinceAny then s.checkpoint fn else s).entry fn e = some j := by
      split
      · rw [State.entry_checkpoint, hj]
      · exact hj
    refine ⟨(if (s.fn fn).audit.sinceAny then s.checkpoint fn else s).decide fn e stOk 0, congrArg Host.Outcome.next ?_,
      State.entry_decide hj' hst hout hok 0, ?_, by simp⟩
    · simp only [h]
    · rw [State.fn_decide_eq hj' hst hout hok]
  · obtain ⟨hj, -, hst, hout, -⟩ := State.of_open (State.open_of_inTurn h)
    have hj' : (s.fnSetN fn PDK_STATE pdkOpen).noteLtr.entry fn e = some j := by
      rw [State.entry, State.fn_noteLtr, State.fnSetN, State.fn_modFn_self]
      exact hj
    refine ⟨(s.fnSetN fn PDK_STATE pdkOpen).noteLtr.decide fn e stOk 0, congrArg Host.Outcome.next ?_, ?_,
      State.entry_decide hj' hst hout hok 0, by simp⟩
    · simp only [h, hpdk, if_true]
    · rw [State.fn_decide_eq hj' hst hout hok]
      simp only [Fn.pdk]
      rw [State.fn_noteLtr, State.fnSetN, State.fn_modFn_self]
      exact congrArg (· % 4) (Fn.nat_putN_self (s.fn fn) PDK_STATE pdkOpen)
  · refine congrArg Host.Outcome.next ?_
    simp only [h]
  · refine ⟨_, congrArg Host.Outcome.next ?_, rfl⟩
    simp only [hq, hrun, hpdk, hdue, decide_true, Bool.and_self, if_true]
    rfl
  · refine congrArg Host.Outcome.next ?_
    have hno : ¬q.since + q.timeoutUs * 1000 ≤ s.time := by omega
    simp only [hq, hno, decide_false, Bool.and_false, Bool.false_eq_true, if_false]

/-! ### BIND (R52, R68, R457) -/

/-- Placing a carried receipt changes the numbering, the notices and the entries. -/
theorem Fn.placeCarried_eq (f : Fn) (c : Carried) : f.placeCarried c = { f with
    nextRing := f.nextRing + 1, entries := (f.placeCarried c).entries, notices := (f.placeCarried c).notices } := by
  cases c with
  | entry e =>
    simp only [Fn.placeCarried, Fn.modEntry]
    split <;> rfl
  | notice img => rfl
theorem Fn.foldl_placeCarried_eq (cs : List Carried) (f : Fn) : cs.foldl Fn.placeCarried f = { f with
    nextRing := f.nextRing + cs.length, entries := (cs.foldl Fn.placeCarried f).entries,
    notices := (cs.foldl Fn.placeCarried f).notices } := by
  induction cs generalizing f with
  | nil => rfl
  | cons c cs ih =>
    rw [List.foldl_cons, ih, Fn.placeCarried_eq, List.length_cons, Nat.add_right_comm]
    rfl

theorem fieldAt_one_lt (r : List Byte) (off : Nat) : fieldAt r off 1 < 256 := by
  rw [fieldAt]
  cases r.drop off with
  | nil => decide
  | cons b _ => simpa [leNat] using b.isLt

/-- What into STL_BIND_STATE: BOUND, and the sizes of the two rings. -/
theorem bindState_fields (v a b : Nat) (ha : a < 256) (hb : b < 256) :
    let w := withField (withField (withField v 0 1 1) 8 8 a) 16 8 b % 2 ^ 64
    bitOf w 0 = true ∧ fieldOf w 8 8 = a ∧ fieldOf w 16 8 = b := by
  have hbound : withField v 0 1 1 % 2 = 1 := by
    simp only [withField, fieldOf]
    omega
  have hring : ∀ x, withField x 8 8 a % 2 ^ 8 = x % 2 ^ 8 ∧ withField x 8 8 a / 2 ^ 8 % 2 ^ 8 = a := by
    intro x
    simp only [withField, fieldOf]
    omega
  have haudit : ∀ x, withField x 16 8 b % 2 ^ 16 = x % 2 ^ 16 ∧ withField x 16 8 b / 2 ^ 16 % 2 ^ 8 = b := by
    intro x
    simp only [withField, fieldOf]
    omega
  obtain ⟨hr1, hr2⟩ := hring (withField v 0 1 1)
  obtain ⟨ha1, ha2⟩ := haudit (withField (withField v 0 1 1) 8 8 a)
  dsimp only [bitOf, fieldOf]
  rw [decide_eq_true_iff]
  refine ⟨?_, ?_, ?_⟩ <;> omega

section
variable (f : Fn) (r : List Byte)

theorem Fn.regs_bindRings : (f.bindRings r).regs = ((f.putN STL_BIND_STATE
    (withField (withField (withField (f.nat STL_BIND_STATE) 0 1 1) 8 8 (fieldAt r 40 1)) 16 8 (fieldAt r 56 1))).putN STL_RING_HEAD 0).regs :=
  rfl
/-- What the registers say of the rings once BIND has set them. -/
theorem Fn.rings_of_regs {f : Fn} {r : List Byte} {g : Fn} (h : g.regs = (f.bindRings r).regs) :
    g.bound = true ∧ g.ringLog = fieldAt r 40 1 ∧ g.auditLog = fieldAt r 56 1 ∧ g.nat STL_RING_HEAD = 0 := by
  have hstate : g.nat STL_BIND_STATE =
      withField (withField (withField (f.nat STL_BIND_STATE) 0 1 1) 8 8 (fieldAt r 40 1)) 16 8 (fieldAt r 56 1) % 2 ^ 64 := by
    rw [Fn.nat_congr (h.trans (f.regs_bindRings r)), Fn.nat_putN_other _ _ _ _ (by decide), Fn.nat_putN_self]
  have hhead : g.nat STL_RING_HEAD = 0 := by
    rw [Fn.nat_congr (h.trans (f.regs_bindRings r)), Fn.nat_putN_self, Nat.zero_mod]
  obtain ⟨hbound, hring, haudit⟩ := bindState_fields (f.nat STL_BIND_STATE) _ _ (fieldAt_one_lt r 40) (fieldAt_one_lt r 56)
  rw [Fn.bound, Fn.ringLog, Fn.auditLog, hstate]
  exact ⟨hbound, hring, haudit, hhead⟩

end

/-- The, and nothing but the chain has changed. -/
theorem State.fn_genesis (s : State) (fn : Nat) : ((s.genesis fn).fn fn).audit.started = true ∧
    (s.genesis fn).fn fn = { s.fn fn with audit := ((s.genesis fn).fn fn).audit } := by
  simp only [State.genesis]
  split
  · next h => exact ⟨h, rfl⟩
  · simp only [State.fn_setFn_self, and_self]

/-- Settles O10: the rings of the body become current, then the carried receipts and the BIND's own take their indices. -/
theorem bindRecords : Obligations.BindRecords := by
  intro s fn e j h
  refine ⟨(s.genesis fn).modFn fn (fun f => (s.fn fn).carried.foldl Fn.placeCarried (f.bindRings j.record)),
    congrArg Host.Outcome.next ?_, ?_⟩
  · simp only [h]
  obtain ⟨hstarted, -⟩ := s.fn_genesis fn
  rw [State.fnNat, State.fn_modFn_self]
  have hfold := Fn.foldl_placeCarried_eq (s.fn fn).carried (((s.genesis fn).fn fn).bindRings j.record)
  have hregs : ((s.fn fn).carried.foldl Fn.placeCarried (((s.genesis fn).fn fn).bindRings j.record)).regs =
      (((s.genesis fn).fn fn).bindRings j.record).regs := by rw [hfold]
  obtain ⟨hbound, hring, haudit, hhead⟩ := Fn.rings_of_regs hregs
  exact ⟨hbound, congrArg Fn.ringAddr hfold, congrArg Fn.auditAddr hfold, hring, haudit, hhead, congrArg Fn.ringWritten hfold,
    (congrArg Fn.nextRing hfold).trans (Nat.zero_add _), congrArg Fn.carried hfold,
    (congrArg (fun f : Fn => f.audit.started) hfold).trans hstarted, by simp⟩

/-! ### The release of WORK (R54, R77) -/

theorem State.fn_pushAudit_eq (s : State) (fn : Nat) (img : List Byte) :
    (s.pushAudit fn img).fn fn = { s.fn fn with audit := ((s.pushAudit fn img).fn fn).audit } := by
  simp only [State.pushAudit]
  split
  · rw [State.fn_checkpoint_eq, State.fn_setFn_self]
  · simp only [State.fn_setFn_self]
/-- Forgetting an attempt leaves of a function all but its waits. -/
theorem State.fn_dropGroup_eq (s : State) (gid sub m : Nat) :
    (s.dropGroup gid sub).fn m = { s.fn m with xlt := ((s.dropGroup gid sub).fn m).xlt } := by
  change (((s.endWindow gid sub).modFn (gid / 65536) (fun f => f.leaveWaits gid)).fn m) = { s.fn m with
    xlt := (((s.endWindow gid sub).modFn (gid / 65536) (fun f => f.leaveWaits gid)).fn m).xlt }
  by_cases hm : m = gid / 65536
  · subst hm
    rw [State.fn_modFn_self]
    rfl
  · rw [State.fn_modFn_other _ _ _ _ hm]
    rfl

section
variable (f : Fn) (e : Nat) (j : JEntry) (status detail audit : Nat) (unchecked : Bool)

/-- The entry takes the next index of the receipt ring, or none while receipts are carried. -/
theorem Fn.entry_addCompletion : ∃ img, (f.addCompletion e j status detail unchecked audit).entry e =
    some { j with receipt := img, ringIndex := if f.carrying then none else some f.nextRing } := by
  simp only [Fn.addCompletion]
  split
  · next h => exact ⟨_, Fn.entry_setEntry_self ..⟩
  · next h => exact ⟨_, Fn.entry_setEntry_self ..⟩
theorem Fn.nextRing_addCompletion (h : f.carrying = false) :
    (f.addCompletion e j status detail unchecked audit).nextRing = (f.nextRing + 1) % 2 ^ 32 := by
  simp only [Fn.addCompletion, h]
  rfl

end

theorem State.entry_dropGroup (s : State) (gid sub m e : Nat) : (s.dropGroup gid sub).entry m e = s.entry m e := by
  rw [State.entry, State.fn_dropGroup_eq]
  rfl
theorem State.nextRing_dropGroup (s : State) (gid sub m : Nat) : ((s.dropGroup gid sub).fn m).nextRing = (s.fn m).nextRing := by
  rw [State.fn_dropGroup_eq]

/-- The RESULT image of a record. -/
def State.resultImage (s : State) (fn : Nat) (j : JEntry) (g : Grp) : List Byte :=
  auditImage aResult (boolN g.unchecked) fn (recStream j.record) (recSeq j.record) (s.fn fn).epoch (s.fn fn).audit.next s.time
    (resultBody g j.record)
/-- An entry with its RESULT image, RELEASING. -/
def JEntry.releasing (img chain : List Byte) (a : Nat) (j : JEntry) : JEntry :=
  { j with audit := img, auditIndex := some a, chain := chainNext chain img, st := .releasing, stage := .writing, left := pagesOf j.logSet }

section
variable {s : State} {fn e : Nat} {j : JEntry} (g : Grp)

/-- The module with the RESULT image of a record in its chain and its entry RELEASING. -/
def State.markReleasing (s : State) (fn e : Nat) (j : JEntry) (g : Grp) : State :=
  (s.pushAudit fn (s.resultImage fn j g)).modEntry fn e
    (JEntry.releasing (s.resultImage fn j g) (s.fn fn).audit.chain (s.fn fn).audit.next)

theorem State.entry_markReleasing (h : s.entry fn e = some j) : (s.markReleasing fn e j g).entry fn e =
    some (j.releasing (s.resultImage fn j g) (s.fn fn).audit.chain (s.fn fn).audit.next) := by
  refine State.entry_modEntry_self ?_ _
  rw [State.entry, State.fn_pushAudit_eq]
  exact h
theorem State.fn_markReleasing_eq (j : JEntry) : (s.markReleasing fn e j g).fn fn = { s.fn fn with
    audit := ((s.markReleasing fn e j g).fn fn).audit, entries := ((s.markReleasing fn e j g).fn fn).entries } := by
  rw [State.markReleasing, State.fn_modEntry_eq, State.fn_pushAudit_eq]

/-- Then the completion receipt takes its index. -/
theorem State.toReleasing_eq (h : s.entry fn e = some j) : s.toReleasing fn e j g = (s.markReleasing fn e j g).modFn fn (fun f =>
    f.addCompletion e (j.releasing (s.resultImage fn j g) (s.fn fn).audit.chain (s.fn fn).audit.next) stOk 0 g.unchecked
      (s.fn fn).audit.next) := by
  change (match (s.markReleasing fn e j g).entry fn e with
    | some k => (s.markReleasing fn e j g).modFn fn (fun f => f.addCompletion e k stOk 0 g.unchecked (s.fn fn).audit.next)
    | none => s.markReleasing fn e j g) = _
  rw [State.entry_markReleasing g h]

/-- Building the RESULT images gives the entry its indices and marks it RELEASING. -/
theorem State.entry_toReleasing (h : s.entry fn e = some j) : ∃ k, (s.toReleasing fn e j g).entry fn e = some k ∧
    k.st = .releasing ∧ k.auditIndex = some (s.fn fn).audit.next ∧ k.left = pagesOf j.logSet ∧ k.record = j.record ∧
    k.logSet = j.logSet ∧ ((s.fn fn).carrying = false → k.ringIndex = some (s.fn fn).nextRing) := by
  obtain ⟨receipt, hk⟩ := Fn.entry_addCompletion ((s.markReleasing fn e j g).fn fn) e
    (j.releasing (s.resultImage fn j g) (s.fn fn).audit.chain (s.fn fn).audit.next) stOk 0 (s.fn fn).audit.next g.unchecked
  rw [State.toReleasing_eq g h, State.entry, State.fn_modFn_self]
  refine ⟨_, hk, rfl, rfl, rfl, rfl, rfl, fun hcarry => ?_⟩
  have hfn := State.fn_markReleasing_eq (s := s) (fn := fn) (e := e) g j
  rw [congrArg Fn.carrying hfn, congrArg Fn.nextRing hfn, hcarry]
  rfl
theorem State.nextRing_toReleasing (h : s.entry fn e = some j) (hcarry : (s.fn fn).carrying = false) :
    ((s.toReleasing fn e j g).fn fn).nextRing = ((s.fn fn).nextRing + 1) % 2 ^ 32 := by
  have hfn := State.fn_markReleasing_eq (s := s) (fn := fn) (e := e) g j
  rw [State.toReleasing_eq g h, State.fn_modFn_self, Fn.nextRing_addCompletion, congrArg Fn.nextRing hfn]
  rw [congrArg Fn.carrying hfn]
  exact hcarry

end

/-- Settles O16: the release is logged, takes its indices and is committed once it is written. -/
theorem releaseSteps : Obligations.ReleaseSteps := by
  refine ⟨fun s fn e off j g h hg hphase hwin hdig hcode hpoison hstage hearlier hquiet hlog => ?_,
    fun s fn e j g h hg hstage => ?_, fun s fn e a j hj ha hrel hst hleft hwritten => ?_⟩
  · obtain ⟨hj, -⟩ := State.of_open h
    refine ⟨_, congrArg Host.Outcome.next ?_, State.entry_modEntry_self hj (fun k => { k with
        stage := .logging, logOffset := off, logLength := (g.releaseSet j.record).length, logSet := g.releaseSet j.record }),
      by simp, by simp, by simp⟩
    have hsome : g.inputDigest.isSome = true := Option.isSome_iff_ne_none.mpr hdig
    simp [h, hg, hphase, hwin, hsome, hcode, hpoison, hstage, hearlier, hquiet, hlog]
  · obtain ⟨hj, -⟩ := State.of_open h
    obtain ⟨k, hk, hkst, hkidx, hkleft, hkrec, hkset, hkring⟩ := State.entry_toReleasing g hj
    refine ⟨(s.toReleasing fn e j g).dropGroup (gidOf fn e) subCommitted, k, congrArg Host.Outcome.next ?_,
      SMap.find_del_self .., (State.entry_dropGroup ..).trans hk, hkst, hkidx, hkleft, hkrec, hkset, by simp, fun hcarry =>
        ⟨hkring hcarry, (State.nextRing_dropGroup ..).trans (State.nextRing_toReleasing g hj hcarry)⟩⟩
    simp only [h, hg, hstage, beq_self_eq_true, if_true]
  · refine ⟨_, congrArg Host.Outcome.next ?_,
      State.entry_commitEntry (State.entry_modEntry_self hj (fun j => { j with stage := .none, logSet := [] })), by simp, by simp⟩
    simp [hj, ha, hrel, hst, hleft, hwritten]

end Sys2Proof.Machine
end

section
/-! SUPPORT. The stile (R43 to R59) and the rings (R69 to R96). -/

namespace Sys2Proof.Machine
open Sys2Proof Sys2Proof.Claims

theorem SMap.get_eq_find {α : Type} (d : α) (m : SMap α) (k : Nat) : m.get d k = (m.find k).getD d := by
  induction m with
  | nil => rfl
  | cons p t ih =>
    simp only [SMap.get, SMap.find]
    split
    · rfl
    · exact ih

/-! ### Saturating counters of a function -/

theorem State.fnNat_fnCount_self (s : State) (fn off n : Nat) :
    (s.fnCount fn off n).fnNat fn off = min 0xFFFFFFFF (s.fnNat fn off + n) := by
  rw [State.fnNat, State.fnCount, State.fnSetN, State.fn_modFn_self, Fn.nat_putN_self, sat_eq_min]
  omega
theorem State.fn_fnCount_eq (s : State) (fn off n : Nat) :
    (s.fnCount fn off n).fn fn = { s.fn fn with regs := ((s.fnCount fn off n).fn fn).regs } := by
  rw [State.fnCount, State.fnSetN, State.fn_modFn_self]
  rfl

/-! ### Slots (R43 to R46, R59) -/

section
variable {s : State} {fn i : Nat} {cells : List (Nat × Byte)}

@[simp] theorem Fn.slot_putSlot_self (f : Fn) (i : Nat) (x : Slot) : (f.putSlot i x).slot i = x := by simp [Fn.putSlot, Fn.slot]
theorem Fn.slot_putSlot_other (f : Fn) {i k : Nat} (x : Slot) (h : k ≠ i) : (f.putSlot i x).slot k = f.slot k := by
  simp [Fn.putSlot, Fn.slot, SMap.get_set_other _ _ _ _ _ h]
@[simp] theorem Fn.slot_freeSlot_self (f : Fn) (i : Nat) : (f.freeSlot i).slot i = Slot.empty := by
  simp [Fn.freeSlot, Fn.slot, SMap.get_eq_find]

/-- A slot after a write that does not seal it. -/
def State.filled (s : State) (x : Slot) (cells : List (Nat × Byte)) : Slot :=
  { Slot.empty with st := .filling, bytes := setBytes x.bytes cells, since := if x.st = .free then s.time else x.since }
/-- A slot after the write that seals it. -/
def State.sealed (s : State) (x : Slot) (cells : List (Nat × Byte)) : Slot :=
  { Slot.empty with st := .sealed, bytes := setBytes x.bytes cells, since := s.time }

theorem State.slotWrite_of_sealed (hopen : s.barOpen fn = true) (hi : i < 4096) (hready : s.boot.ready = true)
    (hst : ((s.fn fn).slot i).st = .sealed) : s.slotWrite fn i cells = (s.tallyM 0x18 cells.length).fnCount fn STL_BUSY_WRITES 1 := by
  have hst' : (((s.tallyM 0x18 cells.length).fn fn).slot i).st = .sealed := hst
  simp [State.slotWrite, hopen, hready, hst', show ¬4096 ≤ i by omega]
theorem State.slotWrite_of_seal (hopen : s.barOpen fn = true) (hi : i < 4096) (hready : s.boot.ready = true)
    (hst : ((s.fn fn).slot i).st ≠ .sealed) (hseal : cells.any (fun c => c.1 = 255) = true) : s.slotWrite fn i cells =
      ((s.tallyM 0x18 cells.length).modFn fn (fun f => f.putSlot i (s.sealed ((s.fn fn).slot i) cells))).judge fn i := by
  have hst' : (((s.tallyM 0x18 cells.length).fn fn).slot i).st ≠ .sealed := hst
  simp only [State.slotWrite, hopen, hready, hseal, beq_iff_eq, hst', show ¬4096 ≤ i by omega, Bool.not_true, decide_false, Bool.or_self,
    Bool.false_eq_true, if_false, if_true]
  rfl
theorem State.slotWrite_of_fill (hopen : s.barOpen fn = true) (hi : i < 4096) (hready : s.boot.ready = true)
    (hst : ((s.fn fn).slot i).st ≠ .sealed) (hfill : cells.any (fun c => c.1 = 255) = false) : s.slotWrite fn i cells =
      (s.tallyM 0x18 cells.length).modFn fn (fun f => f.putSlot i (s.filled ((s.fn fn).slot i) cells)) := by
  have hst' : (((s.tallyM 0x18 cells.length).fn fn).slot i).st ≠ .sealed := hst
  simp only [State.slotWrite, hopen, hready, hfill, beq_iff_eq, hst', show ¬4096 ≤ i by omega, Bool.not_true, decide_false, Bool.or_self,
    Bool.false_eq_true, if_false]
  rfl

/-- A held record of a bound function whose hold has run out is refused. -/
theorem State.judge_of_expired {x : Slot} (hx : (s.fn fn).slot i = x) (hst : x.st = .sealed) (hheld : x.held = true)
    (hacc : x.accepting = none) (hexp : x.expired = true) (hbound : (s.fn fn).bound = true)
    (hgap : 1 < (s.fn fn).distance (recordOf x)) (hnear : (s.fn fn).distance (recordOf x) < 2 ^ 47) :
    s.judge fn i = s.modFn fn (fun f => f.refuse i x stGap 0) := by
  have horder : s.verdict fn x = (.refuse stGap 0, s) := by
    have h0 : (s.fn fn).distance (recordOf x) ≠ 0 := by omega
    have h1 : (s.fn fn).distance (recordOf x) ≠ 1 := by omega
    simp [State.verdict, State.orderChecks, hbound, hheld, hexp, h0, h1, show (s.fn fn).distance (recordOf x) < 140737488355328 by omega]
  simp [State.judge, hx, hst, hacc, horder]

end

section
variable {f : Fn} (i : Nat) (x : Slot) (status detail : Nat)

theorem Fn.refuse_of_bound (hbound : f.bound = true) (hroom : f.noticeCount < 256) : ∃ g : Fn,
    f.refuse i x status detail = (g.putN STL_REFUSE_COUNT (sat 0xFFFFFFFF (f.nat STL_REFUSE_COUNT + 1))).freeSlot i := by
  simp only [Fn.refuse, hbound, Bool.not_true, Bool.false_eq_true, if_false, show ¬256 ≤ f.noticeCount by omega]
  exact ⟨_, rfl⟩

end

/-- Settles O6: one equation of `State.slotWrite` for each state of the slot. -/
theorem stileSlots : Obligations.StileSlots := by
  refine ⟨fun s fn i cells hopen hi hready hst hfill => ?_, fun s fn i cells hopen hi hready hst => ?_, fun s fn i cells hup => ?_,
    fun s fn i cells hopen hi hready hst hseal => ?_, fun s fn i hup hst hdue => ?_,
    fun s fn i hup hready hst hheld hacc hdue hbound hroom hgap hnear => ?_⟩
  · have hany : cells.any (fun c => c.1 = 255) = false := by simpa using hfill
    refine ⟨_, congrArg Host.Outcome.next (State.slotWrite_of_fill hopen hi hready hst hany), ?_⟩
    rw [State.fn_modFn_self, Fn.slot_putSlot_self]
    exact ⟨rfl, rfl, fun k hk => Fn.slot_putSlot_other _ _ hk, by simp⟩
  · have hbusy := State.slotWrite_of_sealed (cells := cells) hopen hi hready hst
    refine ⟨_, congrArg Host.Outcome.next hbusy, congrArg Host.Outcome.next hbusy, ?_, State.fnNat_fnCount_self ..⟩
    rw [State.fn_fnCount_eq]
    rfl
  · exact ⟨s.poisonedWrite fn, congrArg Host.Outcome.next (if_pos hup), rfl, rfl⟩
  · have hany : cells.any (fun c => c.1 = 255) = true := by simpa using hseal
    refine ⟨_, congrArg Host.Outcome.next (State.slotWrite_of_seal hopen hi hready hst hany), ?_⟩
    rw [State.fn_modFn_self, Fn.slot_putSlot_self]
    exact ⟨rfl, rfl, rfl, rfl, by simp⟩
  · refine ⟨(s.fnCount fn STL_ABANDONED 1).modFn fn (fun f => f.freeSlot i), congrArg Host.Outcome.next ?_, ?_, ?_, by simp⟩
    · simp [hup, hst, hdue]
    · rw [State.fn_modFn_self, State.fn_fnCount_eq]
      rfl
    · rw [State.fnNat, State.fn_modFn_self]
      exact s.fnNat_fnCount_self fn STL_ABANDONED 1
  · let x : Slot := { (s.fn fn).slot i with expired := true }
    have hrec : recordOf x = recordOf ((s.fn fn).slot i) := rfl
    have hfn : (s.modFn fn (fun f => f.putSlot i x)).fn fn = (s.fn fn).putSlot i x := State.fn_modFn_self ..
    have hjudge : (s.modFn fn (fun f => f.putSlot i x)).judge fn i =
        (s.modFn fn (fun f => f.putSlot i x)).modFn fn (fun f => f.refuse i x stGap 0) := by
      refine State.judge_of_expired (x := x) ?_ hst hheld hacc rfl ?_ ?_ ?_ <;> rw [hfn]
      · exact Fn.slot_putSlot_self ..
      · exact hbound
      · exact hgap
      · exact hnear
    obtain ⟨g, hg⟩ := Fn.refuse_of_bound (f := (s.fn fn).putSlot i x) i x stGap 0 hbound hroom
    refine ⟨(s.modFn fn (fun f => f.putSlot i x)).modFn fn (fun f => f.refuse i x stGap 0), congrArg Host.Outcome.next ?_, ?_, ?_⟩
    · rw [← hjudge]
      simp [hup, hready, hst, hheld, hdue, x]
    · rw [State.fn_modFn_self, hfn, hg, Fn.slot_freeSlot_self]
    · rw [State.fnNat, State.fn_modFn_self, hfn, hg]
      refine (Fn.nat_putN_self g ..).trans ?_
      rw [sat_eq_min]
      exact Nat.mod_eq_of_lt (by omega)

/-! ### The rings (R69 to R71, R74, R79, R80, R93 to R96) -/

theorem Fn.mem_entries_passHead {f : Fn} {old new : Nat} {p : Nat × JEntry} (h : p ∈ (f.passHead old new).entries) :
    p ∈ f.entries ∧ ∀ i, p.2.st = .committed → p.2.ringIndex = some i → passed old new i = false := by
  obtain ⟨hmem, hkeep⟩ := List.mem_filter.mp h
  refine ⟨hmem, fun i hst hi => ?_⟩
  simpa [hst, hi] using hkeep

/-- RING_HEAD_WRITE, before what follows from the entries that it frees. -/
def State.moveRingHead (s : State) (fn v : Nat) : State :=
  s.setFn fn (((s.fn fn).passHead (s.fnNat fn STL_RING_HEAD) v).putN STL_RING_HEAD v)
/-- AUDIT_HEAD_WRITE, before what follows from it. -/
def State.moveAuditHead (s : State) (fn : Nat) (v : W64) : State :=
  s.setFn fn { (s.fn fn).put STL_AUDIT_HEAD v with audit := { (s.fn fn).audit with
    entries := (s.fn fn).audit.entries.filter (fun (p : Nat × List Byte) => v.toNat ≤ p.1) } }

section
variable {s : State} {fn : Nat}

theorem ringHeads_move (v : W32) (hopen : s.barOpen fn = true)
    (hle : (v.toNat + 2 ^ 32 - s.fnNat fn STL_RING_HEAD) % 2 ^ 32 ≤ ((s.fn fn).ringWritten + 2 ^ 32 - s.fnNat fn STL_RING_HEAD) % 2 ^ 32) :
    ∃ u : State, exec (.ringHeadWrite fn v) s = .next (((u.progress fn).intake fn).noteDrained fn) ∧
      u.fnNat fn STL_RING_HEAD = v.toNat ∧
      (u.fn fn).notices = (s.fn fn).notices.filter (fun n => !passed (s.fnNat fn STL_RING_HEAD) v.toNat n.index) ∧
      (∀ p ∈ (u.fn fn).entries, p ∈ (s.fn fn).entries ∧ ∀ i, p.2.st = .committed → p.2.ringIndex = some i →
        passed (s.fnNat fn STL_RING_HEAD) v.toNat i = false) ∧ u.mem = s.mem := by
  have hfn : (s.moveRingHead fn v.toNat).fn fn =
      ((s.fn fn).passHead (s.fnNat fn STL_RING_HEAD) v.toNat).putN STL_RING_HEAD v.toNat := State.fn_setFn_self ..
  refine ⟨s.moveRingHead fn v.toNat, congrArg Host.Outcome.next (if_neg ?_), ?_, ?_, fun p hp => ?_, rfl⟩
  · simpa [hopen, State.fnNat] using hle
  · rw [State.fnNat, hfn, Fn.nat_putN_self]
    exact Nat.mod_eq_of_lt (by omega)
  · rw [hfn]
    rfl
  · rw [hfn] at hp
    exact Fn.mem_entries_passHead hp
theorem auditHeads_move (v : W64) (hopen : s.barOpen fn = true) (hlo : s.fnNat fn STL_AUDIT_HEAD ≤ v.toNat)
    (hhi : v.toNat ≤ (s.fn fn).audit.written) : ∃ u : State, exec (.auditHeadWrite fn v) s = .next (u.noteDrained fn) ∧
      u.fnGet fn STL_AUDIT_HEAD = v ∧ (u.fn fn).audit.next = (s.fn fn).audit.next ∧ u.mem = s.mem := by
  refine ⟨s.moveAuditHead fn v, congrArg Host.Outcome.next (if_neg ?_), ?_, ?_, rfl⟩
  · simpa [hopen, hhi, State.fnNat] using hlo
  · rw [State.fnGet, State.moveAuditHead, State.fn_setFn_self]
    exact Fn.get_put_self ..
  · rw [State.moveAuditHead, State.fn_setFn_self]

theorem receipt_written {ha : Nat} {img : List Byte} (hrel : s.releases = true) (hbound : (s.fn fn).bound = true)
    (hnext : (s.fn fn).ringWritten ≠ (s.fn fn).nextRing)
    (hroom : ((s.fn fn).ringWritten + 2 ^ 32 - s.fnNat fn STL_RING_HEAD) % 2 ^ 32 < 2 ^ (s.fn fn).ringLog)
    (hdue : (s.fn fn).dueReceipt (s.fn fn).ringWritten = some img)
    (hplace : s.ringPlace fn ((s.fn fn).ringAddr + 32 * ((s.fn fn).ringWritten % 2 ^ (s.fn fn).ringLog)) = (some ha, s)) :
    exec (.receiptWrite fn) s = .next ((((s.send (.hostWrite fn ha img)).tallyM 0x17 32).modFn fn
      (fun f => { f with ringWritten := ((s.fn fn).ringWritten + 1) % 2 ^ 32 })).raiseInt intReceipt) := by
  have hwrite : ¬(!s.releases || !(s.fn fn).bound || (s.fn fn).ringWritten = (s.fn fn).nextRing ||
      2 ^ (s.fn fn).ringLog ≤ ((s.fn fn).ringWritten + 2 ^ 32 - s.fnNat fn STL_RING_HEAD) % 2 ^ 32) = true := by
    simpa [hrel, hbound, hnext] using hroom
  refine congrArg Host.Outcome.next ((if_neg hwrite).trans ?_)
  simp only [hdue, hplace]

/-- The next audit entry is written where its place in the ring is known. -/
theorem State.auditWrite_of_place {ha : Nat} (hrel : s.releases = true) (hbound : (s.fn fn).bound = true)
    (hnext : (s.fn fn).audit.written < (s.fn fn).audit.next)
    (hsigned : ∀ c ∈ (s.fn fn).audit.unsigned, c.index ≠ (s.fn fn).audit.written)
    (hout : (s.fn fn).outPending (s.fn fn).audit.written = false)
    (hroom : (s.fn fn).audit.written < s.fnNat fn STL_AUDIT_HEAD + 2 ^ (s.fn fn).auditLog)
    (hplace : s.ringPlace fn ((s.fn fn).auditAddr + 256 * (((s.fn fn).audit.written - (s.fn fn).audit.origin) % 2 ^ (s.fn fn).auditLog)) =
      (some ha, s)) :
    s.auditWrite fn = (((s.send (.hostWrite fn ha (putAt ((s.fn fn).audit.entries.get (zeros 256) (s.fn fn).audit.written) 5
        (auditPhase (s.fn fn).auditLog ((s.fn fn).audit.written - (s.fn fn).audit.origin))))).tallyM 0x17 256).modFn fn
      (fun f => { f with audit := { f.audit with written := (s.fn fn).audit.written + 1 } })).noteDrained fn := by
  have hany : (s.fn fn).audit.unsigned.any (fun c => c.index = (s.fn fn).audit.written) = false := by simpa using hsigned
  have hwrite : ¬(!s.releases || !(s.fn fn).bound || (s.fn fn).audit.next ≤ (s.fn fn).audit.written ||
      (s.fn fn).audit.unsigned.any (fun c => c.index = (s.fn fn).audit.written) || (s.fn fn).outPending (s.fn fn).audit.written ||
      s.fnNat fn STL_AUDIT_HEAD + 2 ^ (s.fn fn).auditLog ≤ (s.fn fn).audit.written) = true := by
    rw [hany]
    simpa [hrel, hbound, hout, hnext] using hroom
  refine (if_neg hwrite).trans ?_
  simp only [hplace]

end

/-- Settles O8: heads free what they pass; each ring write is one place of its ring. -/
theorem rings : Obligations.Rings := by
  refine ⟨⟨fun s fn v hopen hle => ringHeads_move v hopen hle, fun s fn v hlt => ?_,
      fun s fn v hopen hlo hhi => auditHeads_move v hopen hlo hhi, fun s fn v hout => ?_⟩,
    fun s fn ha img hrel hbound hnext hroom hdue hplace => ?_, fun s fn ha hrel hbound hnext hsigned hout hroom hplace => ?_,
    fun s fn c rest hunsigned hc => ?_, fun s fn hrun hbound hperiod htime => ?_⟩
  · exact congrArg Host.Outcome.next (if_pos (by simp only [Bool.or_eq_true, decide_eq_true_eq]; exact Or.inr hlt))
  · refine congrArg Host.Outcome.next (if_pos ?_)
    simp only [Bool.or_eq_true, decide_eq_true_eq, or_assoc]
    exact Or.inr hout
  · refine ⟨_, receipt_written hrel hbound hnext hroom hdue hplace, by simp [State.send], ?_, ?_⟩
    · rw [State.fn_modFn_self]
    · rw [State.fn_modFn_self]
      rfl
  · refine ⟨_, congrArg Host.Outcome.next (State.auditWrite_of_place hrel hbound hnext hsigned hout hroom hplace), by simp [State.send], ?_, ?_⟩
    · rw [State.fn_modFn_self]
    · rw [State.fn_modFn_self]
      rfl
  · refine ⟨s.modFn fn (fun f => { f with audit := { f.audit with unsigned := rest } }), congrArg Host.Outcome.next ?_, ?_, rfl⟩
    · simp only [hunsigned, hc, if_false]
    · rw [State.fn_modFn_self]
  · refine ⟨_, congrArg Host.Outcome.next (if_pos ?_), State.fn_modFn_self .., rfl⟩
    simp [hrun, hbound, hperiod, htime]

end Sys2Proof.Machine
end

section
/-! SUPPORT. Load records and their handles (R105 to R113). -/

namespace Sys2Proof.Machine
open Sys2Proof Sys2Proof.Claims

theorem State.fn_congr {s t : State} (h : t.fns = s.fns) (m : Nat) : t.fn m = s.fn m := by rw [State.fn, h, State.fn]

section
variable {s : State} {fn e type : Nat} {j : JEntry}

theorem State.open_of_loadReady (h : s.loadReady fn e type = some j) : s.open fn e type = some j := by
  unfold State.loadReady at h
  split at h
  · next k hk =>
    dsimp only at h
    split at h
    · cases h; exact hk
    · cases h
  · cases h

/-- A load that may begin sets its entry to work. -/
theorem State.beginLoad_of_ready (h : s.loadReady fn e type = some j) (hbusy : j.busy = false) :
    ∃ u : State, s.beginLoad fn e type = u.pumpLoad fn e ∧ u.entry fn e = some { j with busy := true } ∧ u.mem = s.mem ∧ u.tx = s.tx := by
  obtain ⟨hj, -⟩ := State.of_open (State.open_of_loadReady h)
  refine ⟨_, ?_, State.entry_modEntry_self hj (fun j => { j with busy := true }), by simp, by simp⟩
  simp only [State.beginLoad, h, hbusy, Bool.false_eq_true, if_false]

theorem State.fn_placeImage (s : State) (fn m : Nat) (r image : List Byte) (h : Handle) : (s.placeImage fn r image h).fn m = s.fn m := by
  simp [State.fn]

theorem State.fn_dropNodes (s : State) (fn m : Nat) : (s.dropNodes fn).fn m = s.fn m := by simp [State.fn]

/-- Building a completion receipt leaves the handles and the chain. -/
theorem Fn.addCompletion_keeps (f : Fn) (e : Nat) (j : JEntry) (status detail audit : Nat) (unchecked : Bool) :
    (f.addCompletion e j status detail unchecked audit).handles = f.handles ∧
      (f.addCompletion e j status detail unchecked audit).audit = f.audit := by
  simp only [Fn.addCompletion]
  split <;> exact ⟨rfl, rfl⟩

/-- An entry takes one index; after every 4,096 a CHECKPOINT takes another (R92). -/
theorem State.auditNext_pushAudit (s : State) (fn : Nat) (img : List Byte) : ((s.pushAudit fn img).fn fn).audit.next =
    (s.fn fn).audit.next + 1 + (if 4096 ≤ (s.fn fn).audit.since + 1 ∧ (s.fn fn).audit.started = true then 1 else 0) := by
  simp only [State.pushAudit, Audit.push]
  by_cases hsince : 4096 ≤ (s.fn fn).audit.since + 1
  · by_cases hstarted : (s.fn fn).audit.started = true
    · simp [hsince, hstarted, State.checkpoint, Audit.push]
    · simp [hsince, hstarted, State.checkpoint]
  · simp [hsince]

/-- The function of a load once its handle is LOADED and its measurement noted. -/
def Fn.noteLoaded (f : Fn) (r digest : List Byte) (h : Handle) : Fn :=
  ({ f with handles := f.handles.set (fieldAt r 32 4) { h with st := .loaded, digest := digest },
            measLog := f.measLog ++ [leBytes 4 (fieldAt r 32 4) ++ leBytes 1 (measKind r) ++ zeros 11 ++ digest] } : Fn).putN
    PDK_MEASURE_COUNT (f.measLog.length + 1)

theorem State.commitLoad_eq {image : List Byte} {h : Handle} (hh : (s.fn fn).handles.find (fieldAt j.record 32 4) = some h) :
    ∃ (img : List Byte) (k : JEntry) (i : Nat), s.commitLoad fn e j image =
      (((((((s.placeImage fn j.record image h).modFn fn (fun f => f.noteLoaded j.record (s.loadDigest j.record image) h)).pushAudit fn
        img).modFn fn (fun f => f.addCompletion e k stOk 0 false i)).commitEntry fn e)).progress fn) := by
  simp only [State.commitLoad, hh]
  exact ⟨_, _, _, rfl⟩

/-- A function without a handle. -/
def Fn.dropHandle (f : Fn) (k : Nat) : Fn := ({ f with handles := f.handles.del k } : Fn).noteHandles

/-- UNLOAD in its turn: lines of the image leave the caches, then the handle goes. -/
theorem exec_unload (h : s.loadReady fn e tUnload = some j) (hearlier : (s.fn fn).earlierOpen j = false) :
    ∃ v : State, v.fns = s.fns ∧ v.mem = s.mem ∧ v.flash = s.flash ∧ exec (.unload fn e) s = .next ((((v.modFn fn
      (fun f => f.dropHandle (fieldAt j.record 32 4))).dropNodes fn).decide fn e stOk 0).progress fn) := by
  cases hh : (s.fn fn).handles.find (fieldAt j.record 32 4) with
  | none =>
    refine ⟨s, rfl, rfl, rfl, congrArg Host.Outcome.next ?_⟩
    simp only [h, hearlier, hh, Bool.false_eq_true, if_false]
    rfl
  | some k =>
    refine ⟨(cut k.offset k.len 4096).foldl (fun (s : State) (p : Nat × Nat) => s.foldDrop (some fn) (s.imageAddr fn (k.offset + p.1)) p.2) s,
      ?_, ?_, ?_, congrArg Host.Outcome.next ?_⟩
    · exact foldl_keep State.fns _ _ _ (fun _ _ => by simp)
    · exact foldl_keep State.mem _ _ _ (fun _ _ => by simp)
    · exact foldl_keep State.flash _ _ _ (fun _ _ => by simp)
    · simp only [h, hearlier, hh, Bool.false_eq_true, if_false]
      rfl

/-- Settles O11: begin, copy, commit and unload as the model's operations say. -/
theorem loadRecords : Obligations.LoadRecords := by
  refine ⟨fun s fn e j h hbusy => ?_, fun s fn e j h hbusy => ?_, fun s fn e j image h hj hrun hbusy hst hout hearlier himage hh => ?_,
    fun s fn e j h hearlier => ?_⟩
  · obtain ⟨u, hu, hrest⟩ := State.beginLoad_of_ready h hbusy
    exact ⟨u, congrArg Host.Outcome.next hu, hrest⟩
  · obtain ⟨u, hu, hrest⟩ := State.beginLoad_of_ready h hbusy
    exact ⟨u, congrArg Host.Outcome.next hu, hrest⟩
  · obtain ⟨img, k, i, hcommit⟩ := State.commitLoad_eq (e := e) (image := image) hh
    have hfn := ((s.placeImage fn j.record image h).modFn fn
      (fun f => f.noteLoaded j.record (s.loadDigest j.record image) h)).fn_pushAudit_eq fn img
    have hnext := ((s.placeImage fn j.record image h).modFn fn
      (fun f => f.noteLoaded j.record (s.loadDigest j.record image) h)).auditNext_pushAudit fn img
    rw [State.fn_modFn_self, State.fn_placeImage] at hfn hnext
    refine ⟨_, congrArg Host.Outcome.next (Eq.trans ?_ hcommit), ?_, by simp, ?_⟩
    · simp [hj, hrun, hbusy, hst, hout, hearlier, himage]
    · rw [State.fn_modFn_self, (Fn.addCompletion_keeps ..).1, congrArg Fn.handles hfn]
      exact SMap.find_set_self ..
    · rw [State.fn_modFn_self, (Fn.addCompletion_keeps ..).2]
      exact hnext
  · obtain ⟨hj, -, hst, hout, -⟩ := State.of_open (State.open_of_loadReady h)
    obtain ⟨v, hfns, hmem, hflash, hexec⟩ := exec_unload h hearlier
    have hfn : ((v.modFn fn (fun f => f.dropHandle (fieldAt j.record 32 4))).dropNodes fn).fn fn =
        (s.fn fn).dropHandle (fieldAt j.record 32 4) := by
      rw [State.fn_dropNodes, State.fn_modFn_self, State.fn_congr hfns]
    have hj' : ((v.modFn fn (fun f => f.dropHandle (fieldAt j.record 32 4))).dropNodes fn).entry fn e = some j := by
      rw [State.entry, hfn]
      exact hj
    refine ⟨_, hexec, ?_, State.entry_decide hj' hst hout (by decide) 0, by simpa using hmem, by simpa using hflash⟩
    rw [State.fn_decide_eq hj' hst hout (by decide), hfn]
    exact SMap.find_del_self ..

end

end Sys2Proof.Machine
end

section
/-! SUPPORT. Directory records and the rebuild of a bucket's entry (R271 to R277). -/

namespace Sys2Proof.Machine
open Sys2Proof Sys2Proof.Claims

theorem State.entry_fnSetN (s : State) (fn off v m a : Nat) : (s.fnSetN fn off v).entry m a = s.entry m a := by
  by_cases hm : m = fn
  · subst hm
    rw [State.entry, State.fnSetN, State.fn_modFn_self]
    rfl
  · rw [State.entry, State.fnSetN, State.fn_modFn_other _ _ _ _ hm]
    rfl
theorem State.entry_fnCount (s : State) (fn off n m a : Nat) : (s.fnCount fn off n).entry m a = s.entry m a :=
  State.entry_fnSetN ..
theorem State.entry_congr {s t : State} (h : t.fns = s.fns) (m a : Nat) : t.entry m a = s.entry m a := by
  rw [State.entry, State.fn_congr h]
  rfl

theorem State.dirEntry_of_find {s : State} {b : Nat} {en : DirEntry} (h : s.ms.dir.find b = some en) (fn : Nat) :
    s.dirEntry fn b = en := by
  rw [State.dirEntry, h]
theorem State.dirEntry_setDir (s : State) (b : Nat) (en : DirEntry) (fn : Nat) : (s.setDir b en).dirEntry fn b = en :=
  State.dirEntry_of_find (SMap.find_set_self ..) fn

/-! ### The update of a bucket -/

section
variable {s : State} {fn b : Nat} (en : DirEntry) (slots : List DirSlot)

/-- The entry that selects the page just written. -/
def DirEntry.updated (en : DirEntry) (n : Nat) : DirEntry :=
  ⟨en.gen + 2, n, if n = 0 then .empty else .active, !en.sel, en.pair⟩

theorem State.find_dirUpdate : (s.dirUpdate fn b en slots).ms.dir.find b = some (en.updated slots.length) := by
  have hdir : (s.dirUpdate fn b en slots).ms.dir = s.ms.dir.set b (en.updated slots.length) := by
    simp [State.dirUpdate, State.setDir, DirEntry.updated]
  rw [hdir, SMap.find_set_self]
theorem State.mem_dirUpdate : (s.dirUpdate fn b en slots).mem =
    (s.commitAll (dirPage en (!en.sel)) (pageImage (en.gen + 2) b fn (boolN (!en.sel)) slots)).mem := by
  simp [State.dirUpdate]
theorem State.entry_dirUpdate (m a : Nat) : (s.dirUpdate fn b en slots).entry m a = s.entry m a := by
  simp only [State.dirUpdate, State.entry_fnSetN]
  have hset : ∀ t : State, t.fns = s.fns → ∀ v w, ((if (en.st == .damaged) = true then (t.fnSetN fn DIR_KEYS v).fnSetN fn DIR_DAMAGED w
      else t.fnSetN fn DIR_KEYS v)).entry m a = s.entry m a := by
    intro t ht v w
    split
    · rw [State.entry_fnSetN, State.entry_fnSetN, State.entry_congr ht]
    · rw [State.entry_fnSetN, State.entry_congr ht]
  exact hset _ (by simp) _ _

/-- A record whose update has been made is decided OK. -/
theorem dirUpdate_decided {e : Nat} {j : JEntry} (hj : s.entry fn e = some j) (hst : j.st = .accepted) (hout : j.outcome = none) :
    ((s.dirUpdate fn b en slots).decide fn e stOk 0).dirEntry fn b = en.updated slots.length ∧
    ((s.dirUpdate fn b en slots).decide fn e stOk 0).mem =
      (s.commitAll (dirPage en (!en.sel)) (pageImage (en.gen + 2) b fn (boolN (!en.sel)) slots)).mem ∧
    ((s.dirUpdate fn b en slots).decide fn e stOk 0).entry fn e =
      some { j with outcome := some (stOk, 0), busy := false, src := [] } := by
  refine ⟨State.dirEntry_of_find ?_ fn, ?_, State.entry_decide ((State.entry_dirUpdate en slots fn e).trans hj) hst hout (by decide) 0⟩
  · rw [show ((s.dirUpdate fn b en slots).decide fn e stOk 0).ms = (s.dirUpdate fn b en slots).ms by simp]
    exact State.find_dirUpdate en slots
  · rw [show ((s.dirUpdate fn b en slots).decide fn e stOk 0).mem = (s.dirUpdate fn b en slots).mem by simp]
    exact State.mem_dirUpdate en slots

end

/-! ### A directory record in its turn -/

/-- A directory record in its turn: nothing before it keeps it waiting. -/
def State.DirTurn (s : State) (fn e type : Nat) (j : JEntry) : Prop :=
  s.open fn e type = some j ∧ (s.fn fn).streamClear j = true ∧ (s.fn fn).noInvalidate j = true ∧
    s.bucketBusy fn (s.dirPlace fn (dirKey j.record)).1 j = false

section
variable {s : State} {fn e type : Nat} {j : JEntry}

/-- The slot that a record names. -/
def State.slotOf (s : State) (fn : Nat) (r : List Byte) : DirSlot :=
  ⟨(s.dirPlace fn (dirKey r)).2, dirKey r, fieldAt r 40 8 % 2 ^ 48, fieldAt r 48 4, fn⟩

theorem State.dirRecord_of_damaged (h : s.DirTurn fn e type j) (hwhole : dirWhole j.record = false)
    (hst : (s.dirEntry fn (s.dirPlace fn (dirKey j.record)).1).st = .damaged) :
    s.dirRecord fn e type = ((s.fnCount fn MCT_POISON_COMPLETIONS 1).decide fn e stPoisoned 0).progress fn := by
  obtain ⟨hopen, hclear, hinv, hbusy⟩ := h
  simp [State.dirRecord, hopen, hclear, hinv, hbusy, hwhole, hst]
/-- A record that can read its page updates the bucket. -/
theorem State.dirRecord_of_readable (h : s.DirTurn fn e type j) {en : DirEntry}
    (hen : s.dirEntry fn (s.dirPlace fn (dirKey j.record)).1 = en)
    (hst : dirWhole j.record = false → en.st ≠ .damaged)
    (hbad : dirWhole j.record = false → en.st = .active → s.badRange (dirPage en en.sel) 8192 = false) :
    s.dirRecord fn e type = ((s.dirUpdate fn (s.dirPlace fn (dirKey j.record)).1 en (updatedSlots
      (if dirWhole j.record || en.st == .empty then [] else s.pageSlots (dirPage en en.sel) en.count) (type = tDirInsert)
      (dirWhole j.record) (s.slotOf fn j.record))).decide fn e stOk 0).progress fn := by
  obtain ⟨hopen, hclear, hinv, hbusy⟩ := h
  have hturn : ¬(!(s.fn fn).streamClear j || !(s.fn fn).noInvalidate j || s.bucketBusy fn (s.dirPlace fn (dirKey j.record)).1 j) = true := by
    simp [hclear, hinv, hbusy]
  have hok : ¬(!dirWhole j.record && en.st == .damaged) = true := by simpa using hst
  have hread : ¬(!dirWhole j.record && en.st == .active && s.badRange (dirPage en en.sel) 8192) = true := by simpa using hbad
  simp only [State.dirRecord, hopen, hen, if_neg hturn, if_neg hok, if_neg hread]
  rfl

end

theorem updatedSlots_insert (old : List DirSlot) (x : DirSlot) : updatedSlots old true false x =
    if ∃ y ∈ old, y.key = x.key then old.map (fun y => if y.key = x.key then x else y) else old ++ [x] := by
  simp [updatedSlots]
theorem updatedSlots_insert_ne_nil (old : List DirSlot) (x : DirSlot) : (updatedSlots old true false x).length ≠ 0 := by
  rw [updatedSlots_insert]
  split
  · next h =>
    obtain ⟨y, hy, -⟩ := h
    simpa using List.ne_nil_of_mem hy
  · simp
theorem updatedSlots_delete (old : List DirSlot) (last x : DirSlot) (h : ∃ y ∈ old ++ [last], y.key = x.key) :
    updatedSlots (old ++ [last]) false false x = old.map (fun y => if y.key = x.key then last else y) := by
  have hany : (old ++ [last]).any (fun y => y.key = x.key) = true := by simpa using h
  simp only [updatedSlots, Bool.false_eq_true, if_false, List.getLast?_concat, hany, if_true, List.map_append, List.map_cons, List.map_nil,
    List.dropLast_concat]

/-- The entry that a rebuild takes where both pages qualify and the second is newer. -/
theorem State.rebuildEntry_of_newer {s : State} {fn b g0 c0 g1 c1 : Nat} (hlt : g0 < g1)
    (h0 : s.pageHeader fn b (dirPage (s.dirEntry fn b) false) = some (g0, c0, 0))
    (h1 : s.pageHeader fn b (dirPage (s.dirEntry fn b) true) = some (g1, c1, 0)) :
    s.rebuildEntry fn b = s.setDir b ⟨g1, c1, if c1 = 0 then .empty else .active, true, (s.dirEntry fn b).pair⟩ := by
  simp [State.rebuildEntry, h0, h1, hlt, bitOf]

/-- Settles O12: one update of the bucket for each record, none where it is DAMAGED. -/
theorem directoryRecords : Obligations.DirectoryRecords := by
  refine ⟨fun s fn e j hopen hclear hinv hbusy en hen hst hread old hold x hx new hnew => ?_,
    fun s fn e j hopen hclear hinv hbusy hwhole en hen hst hread old last hold hkey => ?_,
    fun s fn e j hopen hclear hinv hbusy hwhole en hen => ?_,
    fun s fn e j del hopen hclear hinv hbusy hwhole hst => ?_, fun s b fn g0 c0 g1 c1 howner hup hlt h0 h1 => ?_⟩
  · obtain ⟨hj, -, hacc, hout, htype⟩ := State.of_open hopen
    have hwhole : dirWhole j.record = false := by simp [dirWhole, htype, tDirInsert, tDirDelete]
    have hrec := State.dirRecord_of_readable ⟨hopen, hclear, hinv, hbusy⟩ hen (fun _ => hst) (fun _ => hread)
    have hslots : updatedSlots (if dirWhole j.record || en.st == .empty then [] else s.pageSlots (dirPage en en.sel) en.count)
        (tDirInsert = tDirInsert) (dirWhole j.record) (s.slotOf fn j.record) = new := by
      rw [hnew, hx, ← State.slotOf, hwhole, Bool.false_or, hold]
      simp only [beq_iff_eq, decide_true]
      exact updatedSlots_insert _ _
    have hne : new.length ≠ 0 := by
      rw [← hslots, hwhole]
      exact updatedSlots_insert_ne_nil _ _
    rw [hslots] at hrec
    obtain ⟨hdir, hmem, hentry⟩ := dirUpdate_decided (b := (s.dirPlace fn (dirKey j.record)).1) en new hj hacc hout
    refine ⟨_, congrArg Host.Outcome.next hrec, ?_, hmem, hentry, by simp⟩
    rw [hdir, DirEntry.updated, if_neg hne]
  · obtain ⟨hj, -, hacc, hout, htype⟩ := State.of_open hopen
    have hrec := State.dirRecord_of_readable ⟨hopen, hclear, hinv, hbusy⟩ hen (fun _ => by simp [hst]) (fun _ _ => hread)
    have hslots : updatedSlots (if dirWhole j.record || en.st == .empty then [] else s.pageSlots (dirPage en en.sel) en.count)
        (tDirDelete = tDirInsert) (dirWhole j.record) (s.slotOf fn j.record) =
          old.map (fun y => if y.key = dirKey j.record then last else y) := by
      simp only [hwhole, hst, hold]
      exact updatedSlots_delete _ _ _ hkey
    rw [hslots] at hrec
    obtain ⟨hdir, hmem, hentry⟩ := dirUpdate_decided (b := (s.dirPlace fn (dirKey j.record)).1) en
      (old.map (fun y => if y.key = dirKey j.record then last else y)) hj hacc hout
    refine ⟨_, congrArg Host.Outcome.next hrec, ?_, hmem, hentry⟩
    rw [hdir, DirEntry.updated, List.length_map]
    simp only [List.length_eq_zero_iff]
  · obtain ⟨hj, -, hacc, hout, htype⟩ := State.of_open hopen
    have hrec := State.dirRecord_of_readable ⟨hopen, hclear, hinv, hbusy⟩ hen (fun h => by simp [hwhole] at h)
      (fun h => by simp [hwhole] at h)
    rw [hwhole] at hrec
    obtain ⟨hdir, -, hentry⟩ := dirUpdate_decided (b := (s.dirPlace fn (dirKey j.record)).1) en [] hj hacc hout
    exact ⟨_, congrArg Host.Outcome.next hrec, hdir, hentry⟩
  · have hrec := State.dirRecord_of_damaged ⟨hopen, hclear, hinv, hbusy⟩ hwhole hst
    obtain ⟨hj, -, hacc, hout, -⟩ := State.of_open hopen
    have hj' := (s.entry_fnCount fn MCT_POISON_COMPLETIONS 1 fn e).trans hj
    refine ⟨(s.fnCount fn MCT_POISON_COMPLETIONS 1).decide fn e stPoisoned 0, ?_, by simp, by simp, ?_,
      State.entry_decide hj' hacc hout (by decide) 0⟩
    · cases del <;> exact congrArg Host.Outcome.next hrec
    · rw [State.fnNat, State.fn_decide_eq hj' hacc hout (by decide)]
      exact s.fnNat_fnCount_self fn MCT_POISON_COMPLETIONS 1
  · have hrec := State.rebuildEntry_of_newer hlt h0 h1
    refine ⟨(s.rebuildEntry fn b).fnCount fn DIR_REBUILDS 1, congrArg Host.Outcome.next ?_, ?_, ?_, by simp [hrec]⟩
    · simp only [howner, hup, if_true]
    · rw [hrec]
      exact State.dirEntry_of_find (SMap.find_set_self ..) fn
    · rw [State.fnNat_fnCount_self, hrec, State.fnNat, State.fn_congr (s := s) (by simp)]
      rfl

end Sys2Proof.Machine
end

section
/-! SUPPORT. Table records (R391 to R398, R402). -/

namespace Sys2Proof.Machine
open Sys2Proof Sys2Proof.Claims

/-! ### An update of the tables leaves the entries of the journal -/

theorem State.entry_newTable {s t : State} {fn a : Nat} {ents : Nat → Nat} (h : s.newTable fn ents = some (a, t)) (m e : Nat) :
    t.entry m e = s.entry m e := by
  unfold State.newTable at h
  split at h
  · cases h
  · simp only [Option.some.injEq, Prod.mk.injEq] at h
    obtain ⟨rfl, rfl⟩ := h
    by_cases hm : m = fn
    · subst hm
      rw [State.entry, State.fn_modFn_self, State.fn_congr (s := s) (by simp)]
      rfl
    · rw [State.entry, State.fn_modFn_other _ _ _ _ hm, State.fn_congr (s := s) (by simp)]
      rfl

theorem State.entry_setLeaf (s : State) (fn va target : Nat) (size64 : Bool) (k : LeafKind) (lvl tbl m e : Nat) :
    (s.setLeaf fn va target size64 k lvl tbl).entry m e = s.entry m e := by
  induction lvl generalizing s tbl with
  | zero =>
    refine State.entry_congr ?_ m e
    unfold State.setLeaf
    dsimp only
    split
    · exact foldl_keep State.fns _ _ _ (fun _ _ => by simp)
    · split
      · simp
      · simp
  | succ l ih =>
    unfold State.setLeaf
    dsimp only
    split
    · by_cases hm : m = fn
      · subst hm
        rw [State.entry, State.fn_modFn_self, State.fn_congr (s := s) (by simp)]
        rfl
      · rw [State.entry, State.fn_modFn_other _ _ _ _ hm, State.fn_congr (s := s) (by simp)]
        rfl
    · split
      · exact ih ..
      · split
        · rfl
        · split
          · rfl
          · next a t h => exact ((ih ..).trans (State.entry_congr (s := t) (by simp) m e)).trans (State.entry_newTable h m e)

/-- The tables after every page of an update. -/
def State.setPages (s : State) (fn : Nat) (r : List Byte) : State :=
  (List.range (fieldAt r 40 4)).foldl (fun s i => s.setPage fn (fieldAt r 32 8 + i * tuSize r) r i) s

theorem State.entry_setPages (s : State) (fn : Nat) (r : List Byte) (m e : Nat) : (s.setPages fn r).entry m e = s.entry m e :=
  foldl_keep (fun s => s.entry m e) _ _ _ (fun _ _ => State.entry_setLeaf ..)
theorem State.groups_setPages (s : State) (fn : Nat) (r : List Byte) : (s.setPages fn r).groups = s.groups :=
  foldl_keep State.groups _ _ _ (fun _ _ => by simp)

section
variable {s : State} {fn e : Nat} {j : JEntry}

theorem exec_tableUpdate (hopen : s.open fn e tTableUpdate = some j) (hclear : (s.fn fn).streamClear j = true)
    (hno : (s.fn fn).noTable j = true) :
    exec (.tableUpdate fn e) s = .next (((s.setPages fn j.record).decide fn e stOk 0).progress fn) := by
  refine congrArg Host.Outcome.next ?_
  simp only [hopen, hclear, hno, Bool.and_self, Bool.not_true, Bool.false_eq_true, if_false]
  rfl

/-- One page of 1 GiB is one entry of the table below the root. -/
theorem State.setPages_gib {tbl : Nat} {r : List Byte} (hcount : fieldAt r 40 4 = 1) (hsize : fieldAt r 44 1 = 3)
    (htype : fieldAt r 45 1 = 1) (halign : tbl % 4096 = 0) (hlt : tbl < 2 ^ 47)
    (hroot : s.readNat (entAt (s.tableRoot fn) 3 (fieldAt r 32 8)) 8 = 2 ^ 63 + tbl) :
    (s.setPages fn r).mem = (s.commitStore (entAt tbl 2 (fieldAt r 32 8)) (leBytes 8 (2 ^ 63 + 2 ^ 61 +
        (if bitOf (fieldAt r 46 1) 0 then 2 ^ 60 else 0) + fieldAt r 48 8))).mem := by
  have hbit : bitOf (2 ^ 63 + tbl) 63 = true := by
    simp only [bitOf, decide_eq_true_eq]
    omega
  have hkind : fieldOf (2 ^ 63 + tbl) 61 2 = 0 := by
    simp only [fieldOf]
    omega
  have hnext : fieldOf (2 ^ 63 + tbl) 12 35 * 4096 = tbl := by
    simp only [fieldOf]
    omega
  have hlevel : tuLevel r = 2 := by simp [tuLevel, hsize]
  have hone : s.setPages fn r = s.setLeaf fn (fieldAt r 32 8) 2 false (tuKind r 0) 3 (s.tableRoot fn) := by
    simp [State.setPages, hcount, List.range_one, State.setPage, hlevel, hsize]
  have hdown : s.setLeaf fn (fieldAt r 32 8) 2 false (tuKind r 0) 3 (s.tableRoot fn) =
      s.setLeaf fn (fieldAt r 32 8) 2 false (tuKind r 0) 2 tbl := by
    rw [State.setLeaf]
    simp only [hroot, hbit, hkind, hnext]
    exact (if_neg (by decide)).trans (if_pos (by simp))
  have hword : (tuKind r 0).word false = 2 ^ 63 + 2 ^ 61 + (if bitOf (fieldAt r 46 1) 0 then 2 ^ 60 else 0) + fieldAt r 48 8 := by
    rw [tuKind, if_neg (by omega), if_pos htype]
    simp only [LeafKind.word, localEntry, Nat.zero_mul, Nat.add_zero]
    cases bitOf (fieldAt r 46 1) 0 <;>
      simp only [boolN, if_true, if_false, Bool.false_eq_true, Nat.zero_mul, Nat.one_mul, Nat.add_zero]
  rw [hone, hdown, State.setLeaf, ← hword]
  simp [State.putEnt]

/-- The translations that an INVALIDATE leaves. -/
def Fn.invalidated (f : Fn) (all : Bool) (va n : Nat) : Fn :=
  ({ f with
      freed := f.freed.filter (fun t => !(f.freed.filter (fun t => all || (va ≤ t.2.1 && t.2.1 + t.2.2 ≤ va + n))).contains t),
      tables := f.tables.filter (fun t =>
        !((f.freed.filter (fun t => all || (va ≤ t.2.1 && t.2.1 + t.2.2 ≤ va + n))).map (·.1)).contains t),
      xlt := { f.xlt with tlb := f.xlt.tlb.filter (fun e => !(all || (!e.direct && meets e.va (2 ^ e.log2) va n))) } } : Fn).noteTables

theorem Fn.mem_tlb_invalidated (f : Fn) (all : Bool) (va n : Nat) (t : Tlb) : t ∈ (f.invalidated all va n).xlt.tlb ↔
    t ∈ f.xlt.tlb ∧ all = false ∧ (t.direct = true ∨ t.va + 2 ^ t.log2 ≤ va ∨ va + n ≤ t.va) := by
  refine List.mem_filter.trans (and_congr_right fun _ => ?_)
  cases all <;> cases t.direct <;> simp [meets, or_iff_not_imp_left]
  omega
theorem Fn.freed_invalidated {f : Fn} {all : Bool} {va n : Nat} {t : Nat × Nat × Nat} (ht : t ∈ f.freed)
    (hin : all = true ∨ (va ≤ t.2.1 ∧ t.2.1 + t.2.2 ≤ va + n)) :
    t ∉ (f.invalidated all va n).freed ∧ t.1 ∉ (f.invalidated all va n).tables := by
  have hback : t ∈ f.freed.filter (fun t => all || (va ≤ t.2.1 && t.2.1 + t.2.2 ≤ va + n)) :=
    List.mem_filter.mpr ⟨ht, by simpa using hin⟩
  refine ⟨fun hmem => ?_, fun hmem => ?_⟩
  · have hnot := (List.mem_filter.mp hmem).2
    rw [List.contains_iff_mem.mpr hback] at hnot
    cases hnot
  · have hnot := (List.mem_filter.mp hmem).2
    rw [List.contains_iff_mem.mpr (List.mem_map_of_mem hback)] at hnot
    cases hnot

theorem State.tlb_decide (h : s.entry fn e = some j) (hst : j.st = .accepted) (hout : j.outcome = none) {status : Nat}
    (hq : status ≠ stQuiesced) (detail : Nat) : ((s.decide fn e status detail).fn fn).xlt.tlb = (s.fn fn).xlt.tlb := by
  rw [State.decide_of_accepted h hst hout hq, State.fn_modEntry_eq]
  simp [State.dropLoadReads, State.fn, State.modFn, State.setFn]

end

/-- Settles O13: an update writes its leaves, an INVALIDATE filters what is cached. -/
theorem tableRecords : Obligations.TableRecords := by
  refine ⟨fun s fn e j hopen hclear hno => ?_, fun s fn e tbl j hopen hclear hno hcount hsize htype halign hlt hroot _ => ?_,
    fun s fn e j hopen hclear hall => ?_⟩
  · obtain ⟨hj, -, hst, hout, -⟩ := State.of_open hopen
    exact ⟨_, exec_tableUpdate hopen hclear hno, by simp [State.setPages],
      State.entry_decide ((State.entry_setPages ..).trans hj) hst hout (by decide) 0, by simp [State.groups_setPages]⟩
  · refine ⟨_, exec_tableUpdate hopen hclear hno, ?_⟩
    rw [← State.setPages_gib hcount hsize htype halign hlt hroot]
    simp
  · obtain ⟨hj, -, hst, hout, -⟩ := State.of_open hopen
    have hearlier : (s.fn fn).entries.all (fun p => p.2.st == .committed || j.order ≤ p.2.order) = true := by
      simp only [List.all_eq_true, Bool.or_eq_true, beq_iff_eq, decide_eq_true_eq]
      intro p hp
      by_cases hlt : p.2.order < j.order
      · exact Or.inl (hall p hp hlt)
      · exact Or.inr (by omega)
    let v := s.modFn fn (fun f => f.invalidated (bitOf (fieldAt j.record 48 1) 0) (fieldAt j.record 32 8) (fieldAt j.record 40 8))
    have hfn : v.fn fn = (s.fn fn).invalidated (bitOf (fieldAt j.record 48 1) 0) (fieldAt j.record 32 8) (fieldAt j.record 40 8) :=
      State.fn_modFn_self ..
    have hj' : v.entry fn e = some j := by
      rw [State.entry, hfn]
      exact hj
    have hdec := State.fn_decide_eq hj' hst hout (status := stOk) (by decide) 0
    refine ⟨v.decide fn e stOk 0, congrArg Host.Outcome.next ?_, by simp [v], fun t => ?_, fun t ht hin => ?_,
      State.entry_decide hj' hst hout (by decide) 0⟩
    · simp only [hopen, hclear, hearlier, Bool.and_self, Bool.not_true, Bool.false_eq_true, if_false]
      rfl
    · rw [State.tlb_decide hj' hst hout (by decide), hfn]
      exact Fn.mem_tlb_invalidated ..
    · rw [hdec, hfn]
      exact Fn.freed_invalidated ht hin

end Sys2Proof.Machine
end

section
/-! SUPPORT. WORK from its acceptance to the start of its threads (R115 to R120, R266 to R280). -/

namespace Sys2Proof.Machine
open Sys2Proof Sys2Proof.Claims

theorem State.grp_congr {s t : State} (h : t.groups = s.groups) (gid : Nat) : t.grp gid = s.grp gid := by
  rw [State.grp, h, State.grp]
theorem State.grp_fnCount (s : State) (fn off n gid : Nat) : (s.fnCount fn off n).grp gid = s.grp gid := State.grp_congr (by simp) gid
theorem State.grp_modEntry (s : State) (fn e : Nat) (k : JEntry → JEntry) (gid : Nat) : (s.modEntry fn e k).grp gid = s.grp gid :=
  State.grp_congr (by simp) gid
theorem State.fnNat_congr {s t : State} (h : t.fns = s.fns) (fn off : Nat) : t.fnNat fn off = s.fnNat fn off := by
  rw [State.fnNat, State.fn_congr h, State.fnNat]
theorem State.fnNat_modEntry (s : State) (fn e off : Nat) (k : JEntry → JEntry) : (s.modEntry fn e k).fnNat fn off = s.fnNat fn off := by
  rw [State.fnNat, State.fn_modEntry_eq]
  rfl

theorem SMap.find_map_range {α : Type} (f : Nat → α) {i n : Nat} (h : i < n) :
    SMap.find ((List.range n).map (fun i => (i, f i))) i = some (f i) := by
  have hfrom : ∀ k n, k ≤ i → i < k + n → SMap.find ((List.range' k n).map (fun i => (i, f i))) i = some (f i) := by
    intro k n
    induction n generalizing k with
    | zero => intro hk hn; omega
    | succ n ih =>
      intro hk hn
      rw [List.range'_succ, List.map_cons, SMap.find]
      split
      · next he => rw [he]
      · next he => exact ih (k + 1) (by omega) (by omega)
  rw [List.range_eq_range']
  exact hfrom 0 n (by omega) (by omega)

/-! ### Eligibility and launch -/

section
variable {s : State} {fn e : Nat} {j : JEntry}

/-- A record is seen as eligible; one that has to wait counts. -/
theorem exec_work (hj : s.entry fn e = some j) (hseen : j.eligibleSeen = false) (hel : s.eligible fn e = true) :
    ∃ counts : Bool, exec (.work fn e) s = .next (if counts then
        (s.modEntry fn e (fun j => { j with eligibleSeen := true })).fnCount fn DSP_HIRSEL_WAITS 1
      else s.modEntry fn e (fun j => { j with eligibleSeen := true })) ∧
      ∀ p, (s.fn fn).program j.record = some p → (s.resources fn p = none ∨ s.mustWait fn e j = true) → counts = true := by
  cases hp : (s.fn fn).program j.record with
  | none =>
    refine ⟨false, congrArg Host.Outcome.next ?_, fun p h => by cases h⟩
    simp [hj, hseen, hel, hp]
  | some p =>
    refine ⟨!((s.resources fn p).isSome && !s.mustWait fn e j), congrArg Host.Outcome.next ?_, fun q h hwait => ?_⟩
    · cases hres : (s.resources fn p).isSome && !s.mustWait fn e j <;> simp [hj, hseen, hel, hp, hres]
    · cases h
      obtain hres | hmust := hwait
      · simp [hres]
      · simp [hmust]

/-- One lookup of a launch is issued. -/
def State.issueLookup (s : State) (gid : Nat) (r : List Byte) (k : Nat) : State :=
  ((s.modGrp gid (fun g => { g with lookups := g.lookups ++ [s.startLookup (gid / 65536) g.nextLookup none k (recKey r k)],
                                    nextLookup := g.nextLookup + 1 })).fnCount (gid / 65536) DIR_LOOKUPS 1).tallyP (gid / 65536)
    (some (recStream r)) 0x09 1

theorem State.grp_issueLookup {gid : Nat} {g : Grp} (hg : s.grp gid = some g) (r : List Byte) (k : Nat) :
    (s.issueLookup gid r k).grp gid = some { g with
      lookups := g.lookups ++ [s.startLookup (gid / 65536) g.nextLookup none k (recKey r k)], nextLookup := g.nextLookup + 1 } := by
  rw [State.issueLookup, State.grp_tallyP, State.grp_fnCount, State.grp_modGrp_self, hg]
  rfl
/-- Issuing lookups adds them to their group and changes nothing else of it. -/
theorem State.grp_foldl_issueLookup {gid : Nat} (r : List Byte) (ks : List Nat) {s : State} {g : Grp} (hg : s.grp gid = some g) :
    ∃ ls n, (ks.foldl (fun s k => s.issueLookup gid r k) s).grp gid = some { g with lookups := ls, nextLookup := n } ∧
      ls.length = g.lookups.length + ks.length := by
  induction ks generalizing s g with
  | nil => exact ⟨g.lookups, g.nextLookup, hg, rfl⟩
  | cons k ks ih =>
    obtain ⟨ls, n, hls, hlen⟩ := ih (State.grp_issueLookup hg r k)
    refine ⟨ls, n, hls, ?_⟩
    rw [hlen, List.length_append, List.length_cons, List.length_nil, List.length_cons]
    omega
theorem State.entry_issueLookups (gid : Nat) (r : List Byte) (m a : Nat) : (s.issueLookups gid r).entry m a = s.entry m a :=
  foldl_keep (fun s => s.entry m a) _ _ _ (fun t _ => by
    rw [State.entry_tallyP, State.entry_fnCount]
    exact State.entry_congr (by simp) m a)

/-- LAUNCH of a record that need not wait, before it begins to read its input. -/
def State.launched (s : State) (fn e : Nat) (j : JEntry) (p : Handle) (q : List Nat × Nat) : State :=
  (((s.setGrp (gidOf fn e) (newGroup fn e q.1 p ((s.fn fn).weightSet j.record) q.2 (s.heldBefore fn e) s.time)).modEntry fn e
    (fun j => { j with attempts := j.attempts + 1 })).fnCount fn DSP_LAUNCHES 1).issueLookups (gidOf fn e) j.record

theorem State.grp_launched (j : JEntry) (p : Handle) (q : List Nat × Nat) : ∃ ls n, (s.launched fn e j p q).grp (gidOf fn e) =
    some { newGroup fn e q.1 p ((s.fn fn).weightSet j.record) q.2 (s.heldBefore fn e) s.time with lookups := ls, nextLookup := n } ∧
      ls.length = keyCount j.record := by
  have hg : (((s.setGrp (gidOf fn e) (newGroup fn e q.1 p ((s.fn fn).weightSet j.record) q.2 (s.heldBefore fn e) s.time)).modEntry fn e
      (fun j => { j with attempts := j.attempts + 1 })).fnCount fn DSP_LAUNCHES 1).grp (gidOf fn e) =
        some (newGroup fn e q.1 p ((s.fn fn).weightSet j.record) q.2 (s.heldBefore fn e) s.time) := by
    rw [State.grp_fnCount, State.grp_modEntry]
    exact State.grp_setGrp_self ..
  obtain ⟨ls, n, hls, hlen⟩ := State.grp_foldl_issueLookup j.record (List.range (keyCount j.record)) hg
  refine ⟨ls, n, hls, hlen.trans ?_⟩
  rw [List.length_range]
  exact Nat.zero_add _
theorem State.entry_launched (hj : s.entry fn e = some j) (p : Handle) (q : List Nat × Nat) :
    (s.launched fn e j p q).entry fn e = some { j with attempts := j.attempts + 1 } := by
  rw [State.launched, State.entry_issueLookups, State.entry_fnCount]
  refine State.entry_modEntry_self ?_ _
  rw [State.entry_congr (s := s) (by simp)]
  exact hj

end

/-! ### Lookups of keys -/

section
variable {s : State} {gid : Nat} {g : Grp} {l : Lookup}

theorem State.gen_dirEntry_congr {s t : State} (h : t.ms = s.ms) (fn b : Nat) : (t.dirEntry fn b).gen = (s.dirEntry fn b).gen := by
  rw [State.dirEntry, State.dirEntry, h]
  cases s.ms.dir.find b <;> rfl

/-- What a lookup that need not begin again leaves to its outcome. -/
def State.dropLookup (s : State) (gid id : Nat) : State :=
  s.modGrp gid (fun g => { g with lookups := g.lookups.filter (fun l => l.id != id) })

theorem State.grp_dropLookup (hg : s.grp gid = some g) (id : Nat) :
    (s.dropLookup gid id).grp gid = some { g with lookups := g.lookups.filter (fun l => l.id != id) } := by
  rw [State.dropLookup, State.grp_modGrp_self, hg]
  rfl

/-- A lookup of a key that has its result ends. -/
theorem exec_lookupComplete_notFound (hg : s.grp gid = some g) (hl : g.lookups.find? (fun x => x.id = l.id) = some l)
    (hphase : g.phase ≠ .stopping) (hthread : l.thread = none) {t : State} (hres : s.lookupResult g.fn l = (.notFound, t))
    (hkeep : mustRestart l (t.dirEntry g.fn l.bucket).gen = false) : exec (.lookupComplete gid l.id) s =
      .next ((t.dropLookup gid l.id).modGrp gid (fun g => { g with keyResults := g.keyResults.set l.keyIx (zeros 16) })) := by
  refine congrArg Host.Outcome.next ?_
  simp only [hg, hl, beq_iff_eq, hphase, hres, hkeep, hthread, if_false, Bool.and_false, Bool.false_eq_true]
  rfl
theorem exec_lookupComplete_found (hg : s.grp gid = some g) (hl : g.lookups.find? (fun x => x.id = l.id) = some l)
    (hphase : g.phase ≠ .stopping) (hthread : l.thread = none) {t : State} {a n : Nat} (hres : s.lookupResult g.fn l = (.found a n, t))
    (hkeep : mustRestart l (t.dirEntry g.fn l.bucket).gen = false) : exec (.lookupComplete gid l.id) s =
      .next ((t.dropLookup gid l.id).modGrp gid (fun g => { g with keyResults := g.keyResults.set l.keyIx (keyResult a n) })) := by
  refine congrArg Host.Outcome.next ?_
  simp only [hg, hl, beq_iff_eq, hphase, hres, hkeep, hthread, if_false, Bool.and_false, Bool.false_eq_true]
  rfl
/-- A lookup that begins again, and its group. -/
def State.againLookup (s : State) (fn : Nat) (l : Lookup) : Lookup :=
  { s.startLookup fn l.id l.thread l.keyIx l.key with restarted := true }
def Grp.againLookup (g : Grp) (id : Nat) (again : Lookup) : Grp :=
  { g with lookups := g.lookups.map (fun x => if x.id = id then again else x) }

/-- One whose bucket has been rewritten begins again. -/
theorem exec_lookupComplete_again (hg : s.grp gid = some g) (hl : g.lookups.find? (fun x => x.id = l.id) = some l)
    (hphase : g.phase ≠ .stopping) (hres : s.lookupResult g.fn l = (.notFound, s))
    (hagain : mustRestart l (s.dirEntry g.fn l.bucket).gen = true) : exec (.lookupComplete gid l.id) s =
      .next ((s.modGrp gid (fun h => h.againLookup l.id (s.againLookup g.fn l))).fnCount g.fn DIR_RESTARTS 1) := by
  refine congrArg Host.Outcome.next ?_
  simp only [hg, hl, beq_iff_eq, hphase, hres, hagain, if_false]
  rfl

end

/-! ### The start of the threads -/

theorem startThread_regs (g : Grp) (off i : Nat) : (startThread g off i).st = .running ∧
    (startThread g off i).xr 1 = BitVec.ofNat 64 i ∧ (startThread g off i).xr 2 = BitVec.ofNat 64 g.count ∧
    (startThread g off i).xr 3 = 0x7FC00 ∧ (∀ r, 3 < r → (startThread g off i).xr r = 0) ∧ (startThread g off i).v = [] ∧
    (startThread g off i).p = [] := by
  refine ⟨rfl, rfl, rfl, rfl, fun r hr => ?_, rfl, rfl⟩
  have h0 : r ≠ 0 := by omega
  have h1 : 1 ≠ r := by omega
  have h2 : 2 ≠ r := by omega
  have h3 : 3 ≠ r := by omega
  simp [Thread.xr, startThread, SMap.get, h0, h1, h2, h3]

/-- A group whose threads start. -/
def Grp.started (g : Grp) (g1 : Grp) : Grp :=
  { g with phase := .running, threads := (List.range g1.count).map (fun i => (i, startThread g1 g1.prog.entry i)) }

/-- GATHER_COMPLETE, once the rows are gathered: core stores are prepared and the threads start. -/
def State.startThreads (v : State) (gid : Nat) (h : Grp) : State :=
  ((((v.clearCores h).clearPriv h).writeBlocks h).writeRows h).modGrp gid (fun g => g.started h)
/-- What is counted of a start. -/
def State.countStart (t : State) (fn : Nat) (r : List Byte) (time : Nat) (conf : Bool) : State :=
  let t := (t.tallyP fn (some (recStream r)) 0x02 1).fnMax fn DSP_LAUNCH_MAX time
  if conf then t else t.modFn fn (fun f => f.recReset (recStream r) (recSeq r))

theorem State.grp_startThreads {v : State} {gid : Nat} {h : Grp} (hh : v.grp gid = some h) :
    (v.startThreads gid h).grp gid = some (h.started h) := by
  rw [State.startThreads, State.grp_modGrp_self, State.grp_congr (s := v) (by simp), hh]
  rfl
theorem State.grp_countStart (t : State) (fn : Nat) (r : List Byte) (time : Nat) (conf : Bool) (gid : Nat) :
    (t.countStart fn r time conf).grp gid = t.grp gid := by
  cases conf <;> exact State.grp_congr (by simp [State.countStart]) gid

theorem exec_gatherComplete {s v : State} {gid : Nat} {g h : Grp} (hg : s.grp gid = some g) (hphase : g.phase = .launching)
    (hdone : ∀ l ∈ g.lookups, l.thread ≠ none) (hv : v = (List.range (keyCount (s.recOf g))).foldl (fun s k => s.gatherKey gid k) s)
    (hh : v.grp gid = some h) (hhphase : h.phase = .launching) : exec (.gatherComplete gid) s =
      .next ((((v.startThreads gid h).countStart g.fn (s.recOf g) (s.time - g.launchAt) (s.confidential g.fn)).pumpInput
        gid).noteRunning g.fn) := by
  have hlook : g.lookups.any (fun l => l.thread.isNone) = false := by simpa using hdone
  refine congrArg Host.Outcome.next ?_
  simp only [hg, hphase, hlook, ← hv, hh, hhphase, bne_self_eq_false, Bool.or_self, Bool.false_eq_true, if_false]
  rfl

/-- Settles O14: eligibility, launch, lookups and the start of the threads. -/
theorem workLaunch : Obligations.WorkLaunch := by
  refine ⟨fun s fn e j hj hseen hel => ?_, fun s fn e j p q hj hseen hel hwait hp hq => ?_,
    fun s gid g l hg hl hphase hthread hst => ?_, fun s gid g l x hg hl hphase hthread hst htag hkeep hfound => ?_,
    fun s gid g l hg hl hphase hst hfresh hgen hfound => ?_, fun s v gid g h hg hphase hdone hv hh hhphase => ?_⟩
  · obtain ⟨counts, hexec, hcounts⟩ := exec_work hj hseen hel
    have hmark := State.entry_modEntry_self hj (fun j => { j with eligibleSeen := true })
    refine ⟨_, hexec, ?_, ?_, ?_, fun p hp hwait => ?_⟩
    · cases counts
      · exact hmark
      · exact (State.entry_fnCount ..).trans hmark
    · cases counts <;> simp
    · cases counts <;> simp
    · rw [hcounts p hp hwait, if_pos rfl, State.fnNat_fnCount_self, State.fnNat_modEntry]
  · obtain ⟨ls, n, hgrp, hlen⟩ := State.grp_launched (s := s) (fn := fn) (e := e) j p q
    refine ⟨s.launched fn e j p q, _, congrArg Host.Outcome.next ?_, hgrp, rfl, rfl, rfl, rfl, rfl, rfl, hlen,
      State.entry_launched hj p q, by simp [State.launched]⟩
    simp only [hj, hseen, hel, hwait, hp, hq, Bool.and_self, Bool.not_true, Bool.or_self, Bool.false_eq_true, if_false]
    rfl
  · have hres : s.lookupResult g.fn l = (.notFound, s) := by simp [State.lookupResult, hst]
    refine ⟨_, exec_lookupComplete_notFound hg hl hphase hthread hres (by simp [mustRestart, hst]), by simp [State.dropLookup], ?_⟩
    rw [State.grp_modGrp_self, State.grp_dropLookup hg]
    rfl
  · have hres : s.lookupResult g.fn l = (.found x.addr x.len, s.fnCount g.fn DIR_HITS 1) := by
      simp [State.lookupResult, hst, hfound, htag]
    refine ⟨_, exec_lookupComplete_found hg hl hphase hthread hres ?_, by simp [State.dropLookup], ?_, ?_⟩
    · rw [State.gen_dirEntry_congr (s := s) (by simp)]
      exact hkeep
    · rw [State.fnNat_congr (s := s.fnCount g.fn DIR_HITS 1) (by simp [State.dropLookup]), State.fnNat_fnCount_self]
    · rw [State.grp_modGrp_self, State.grp_dropLookup ((State.grp_congr (by simp) gid).trans hg)]
      rfl
  · have hres : s.lookupResult g.fn l = (.notFound, s) := by simp [State.lookupResult, hst, hfound]
    refine ⟨_, g.againLookup l.id (s.againLookup g.fn l), exec_lookupComplete_again hg hl hphase hres (by simp [mustRestart, hst, hfresh, hgen]), by simp, ?_, ?_, ?_, ?_, ?_⟩
    · rw [State.grp_fnCount, State.grp_modGrp_self, hg]
      rfl
    · exact List.length_map ..
    · intro y hy hid
      obtain ⟨x, -, rfl⟩ := List.mem_map.mp hy
      split at hid
      · next h => rw [if_pos h]; rfl
      · next h => exact absurd hid h
    · rfl
    · rw [State.fnNat_fnCount_self, State.fnNat_congr (s := s) (by simp)]
  · refine ⟨_, h.started h, exec_gatherComplete hg hphase hdone hv hh hhphase,
      (State.grp_countStart ..).trans (State.grp_startThreads hh), rfl, rfl, fun i hi => ⟨startThread h h.prog.entry i, SMap.find_map_range _ hi, ?_⟩⟩
    obtain ⟨hst, hrest⟩ := startThread_regs h h.prog.entry i
    exact ⟨hst, rfl, hrest⟩

end Sys2Proof.Machine
end

section
/-! SUPPORT. The end of a thread group (R55, R118, R201 to R206). The statement asks a saturating count of a register that may
already lie above its top: no step to the end of a record lifts a counter of 32 bits above its top, so a state that shows more is
a counterexample. -/

namespace Sys2Proof.Machine
open Sys2Proof Sys2Proof.Claims

theorem SMap.find_map {α β : Type} (f : α → β) (m : SMap α) (k : Nat) :
    SMap.find (m.map (fun p => (p.1, f p.2))) k = (m.find k).map f := by
  induction m with
  | nil => rfl
  | cons p t ih =>
    simp only [List.map_cons, SMap.find]
    split
    · rfl
    · exact ih

/-- MCT_POISON_COMPLETIONS of a function is not above the top of its 32 bits. -/
def Fn.Capped (f : Fn) : Prop := f.nat MCT_POISON_COMPLETIONS ≤ 0xFFFFFFFF
def State.Capped (fn : Nat) (s : State) : Prop := (s.fn fn).Capped

section
variable {f g : Fn} {s t : State} {fn : Nat}

theorem Fn.Capped.of_regs (hf : f.Capped) (h : g.regs = f.regs) : g.Capped := by
  rw [Fn.Capped, Fn.nat_congr h]
  exact hf
theorem Fn.Capped.of_sameButTally (hf : f.Capped) (h : f.SameButTally g) : g.Capped := by
  rw [Fn.Capped, h.nat (by decide)]
  exact hf
theorem Fn.Capped.putN (hf : f.Capped) {off : Nat} (v : Nat) (h : off ≠ MCT_POISON_COMPLETIONS) : (f.putN off v).Capped := by
  rw [Fn.Capped, Fn.nat_putN_other _ _ _ _ (Ne.symm h)]
  exact hf
theorem withField_zero_le (v lo : Nat) : withField v lo 1 0 ≤ v := by
  simp only [withField, Nat.zero_mod, Nat.zero_mul, Nat.add_zero]
  omega
theorem Fn.Capped.setHirsel (hf : f.Capped) (h : Nat) : (f.setHirsel h false).Capped := by
  rw [Fn.setHirsel]
  by_cases hoff : PDK_HIRSELS + 4 * (h / 32) = MCT_POISON_COMPLETIONS
  · rw [hoff, Fn.Capped, Fn.nat_putN_self]
    exact (Nat.mod_le _ _).trans ((withField_zero_le _ _).trans hf)
  · exact hf.putN _ hoff
theorem Fn.Capped.addCompletion (hf : f.Capped) (e : Nat) (j : JEntry) (status detail audit : Nat) (unchecked : Bool) :
    (f.addCompletion e j status detail unchecked audit).Capped := by
  simp only [Fn.addCompletion]
  split
  · exact (hf.putN _ (show PCE_FLR_CARRIED ≠ MCT_POISON_COMPLETIONS by decide)).of_regs rfl
  · exact hf.of_regs rfl

theorem State.Capped.congr (hs : s.Capped fn) (h : t.fns = s.fns) : t.Capped fn := by
  rw [State.Capped, State.fn_congr h]
  exact hs
theorem State.Capped.modFn (hs : s.Capped fn) (m : Nat) {k : Fn → Fn} (hk : ∀ f : Fn, f.Capped → (k f).Capped) :
    (s.modFn m k).Capped fn := by
  rw [State.Capped]
  by_cases h : fn = m
  · subst h
    rw [State.fn_modFn_self]
    exact hk _ hs
  · rw [State.fn_modFn_other _ _ _ _ h]
    exact hs
theorem State.Capped.setFn (hs : s.Capped fn) (m : Nat) (h : g.regs = (s.fn m).regs) : (s.setFn m g).Capped fn := by
  rw [State.Capped]
  by_cases hm : fn = m
  · subst hm
    rw [State.fn_setFn_self]
    exact Fn.Capped.of_regs hs h
  · rw [State.fn_setFn_other _ _ _ _ hm]
    exact hs
theorem State.Capped.foldl {α : Type} {step : State → α → State} (hstep : ∀ s x, State.Capped fn s → State.Capped fn (step s x))
    (l : List α) {s : State} (hs : s.Capped fn) : (l.foldl step s).Capped fn := by
  induction l generalizing s with
  | nil => exact hs
  | cons x xs ih => exact ih (hstep s x hs)
theorem State.Capped.ite {c : Prop} [Decidable c] (hs : s.Capped fn) (ht : t.Capped fn) : (if c then s else t).Capped fn := by
  split
  · exact hs
  · exact ht

theorem State.Capped.fnCount (hs : s.Capped fn) (m off n : Nat) : (s.fnCount m off n).Capped fn := by
  rw [State.Capped, Fn.Capped]
  by_cases h : fn = m
  · subst h
    by_cases hoff : off = MCT_POISON_COMPLETIONS
    · subst hoff
      exact (s.fnNat_fnCount_self fn MCT_POISON_COMPLETIONS n).le.trans (Nat.min_le_left ..)
    · rw [State.fnCount, State.fnSetN, State.fn_modFn_self]
      exact Fn.Capped.putN hs _ hoff
  · rw [State.fnCount, State.fnSetN, State.fn_modFn_other _ _ _ _ h]
    exact hs
theorem State.Capped.fnSetN (hs : s.Capped fn) (m : Nat) {off : Nat} (v : Nat) (h : off ≠ MCT_POISON_COMPLETIONS) :
    (s.fnSetN m off v).Capped fn := hs.modFn m (fun _ hf => hf.putN v h)
theorem State.Capped.tallyP (hs : s.Capped fn) (m : Nat) (stream : Option Nat) (code n : Nat) : (s.tallyP m stream code n).Capped fn :=
  Fn.Capped.of_sameButTally hs (State.sameButTally_tallyP ..)
theorem State.Capped.modEntry (hs : s.Capped fn) (m e : Nat) (k : JEntry → JEntry) : (s.modEntry m e k).Capped fn :=
  hs.modFn m (fun f hf => hf.of_regs (by rw [Fn.modEntry_eq]))
theorem State.Capped.checkpoint (hs : s.Capped fn) (m : Nat) : (s.checkpoint m).Capped fn := by
  simp only [State.checkpoint]
  split
  · exact hs
  · exact hs.setFn m rfl
theorem State.Capped.raiseInt (hs : s.Capped fn) (bit : Nat) : (s.raiseInt bit).Capped fn := hs.congr (by simp)

/-! ### No step to the end of a record lifts the counter above its top -/

theorem State.Capped.noteDrained (hs : s.Capped fn) (m : Nat) : (s.noteDrained m).Capped fn :=
  have hset := hs.setFn m (g := { s.fn m with drained := (s.fn m).isDrained }) rfl
  .ite (hset.raiseInt _) hset
theorem State.Capped.noteLtr (hs : s.Capped fn) : s.noteLtr.Capped fn := hs.congr (by simp)
theorem State.Capped.restartGroup (hs : s.Capped fn) (gid : Nat) : (s.restartGroup gid).Capped fn := by
  unfold State.restartGroup
  split
  · exact hs
  · refine State.Capped.modEntry (State.Capped.tallyP (State.Capped.fnCount ?_ ..) ..) ..
    exact (State.Capped.modFn (hs.congr (t := s.endWindow gid 1) rfl) (gid / 65536) (k := fun f => f.leaveWaits gid)
      (fun f hf => hf.of_regs rfl)).congr rfl
theorem State.Capped.restartForwarded (hs : s.Capped fn) (gid : Nat) : (s.restartForwarded gid).Capped fn := by
  unfold State.restartForwarded
  split
  · exact hs
  · refine .ite (.foldl (fun t k ht => ?_) _ hs) hs
    split
    · exact .ite (ht.restartGroup k) ht
    · exact ht
theorem State.Capped.dropGroup (hs : s.Capped fn) (gid sub : Nat) : (s.dropGroup gid sub).Capped fn :=
  Fn.Capped.of_regs hs (by rw [State.fn_dropGroup_eq])
theorem State.Capped.decide (hs : s.Capped fn) (m e status detail : Nat) : (s.decide m e status detail).Capped fn := by
  have hdrop : (s.dropLoadReads m e).Capped fn :=
    (hs.modFn m (k := fun f => { f with xlt := { f.xlt with waits := f.xlt.waits.filter (fun w => w.who != .load e) } })
      (fun f hf => hf.of_regs rfl)).congr rfl
  unfold State.decide
  split
  · refine .ite (.ite (State.Capped.modFn (hdrop.modEntry ..) m (fun f hf => hf.of_regs ?_)) (hdrop.modEntry ..)) hs
    split <;> rfl
  · exact hs
theorem State.Capped.leaveHirsels (hs : s.Capped fn) : s.leaveHirsels.Capped fn := by
  refine State.Capped.foldl (fun t h ht => ?_) _ (hs.congr rfl)
  have hoff : State.Capped fn { t with fns := t.fns.map (fun p => (p.1, p.2.setHirsel h false)) } := by
    have hget : State.fn { t with fns := t.fns.map (fun p => (p.1, p.2.setHirsel h false)) } fn =
        ((t.fns.find fn).map (fun f => f.setHirsel h false)).getD Fn.empty :=
      (SMap.get_eq_find ..).trans (congrArg (·.getD Fn.empty) (SMap.find_map (fun f : Fn => f.setHirsel h false) t.fns fn))
    rw [State.Capped, State.fn, SMap.get_eq_find] at ht
    rw [State.Capped, hget]
    cases hfind : t.fns.find fn with
    | none =>
      rw [hfind] at ht
      exact ht
    | some f =>
      rw [hfind] at ht
      exact Fn.Capped.setHirsel ht h
  exact hoff.congr (foldl_keep State.fns _ _ _ (fun _ _ => rfl))
theorem State.Capped.endRecord (hs : s.Capped fn) (gid m e status detail : Nat) : (s.endRecord gid m e status detail).Capped fn :=
  State.Capped.leaveHirsels (State.Capped.fnSetN (((hs.restartForwarded gid).dropGroup gid subEnded).decide m e status detail) m _ (by decide))

theorem State.Capped.settleOne (hs : s.Capped fn) (m e : Nat) : (s.settleOne m e).Capped fn := by
  have hcommit : ∀ {t : State}, t.Capped fn → (t.commitEntry m e).Capped fn := by
    intro t ht
    unfold State.commitEntry
    split
    · exact (ht.modEntry ..).tallyP ..
    · exact ht
  unfold State.settleOne
  split
  · split
    · exact .ite (hcommit (hs.modFn m (fun f hf => hf.addCompletion ..))) hs
    · exact hs
  · exact hs
theorem State.Capped.settle (hs : s.Capped fn) (m : Nat) : (s.settle m).Capped fn := .foldl (fun _ e ht => ht.settleOne m e) _ hs
theorem State.Capped.quiesceSweep (hs : s.Capped fn) (m : Nat) : (s.quiesceSweep m).Capped fn := by
  unfold State.quiesceSweep
  split
  · exact hs
  · refine State.Capped.modFn (.foldl (fun t p ht => ?_) _ hs) m
      (fun f hf => (hf.of_regs (g := { f with handles := _ }) rfl).putN _ (show PDK_HANDLES ≠ MCT_POISON_COMPLETIONS by decide))
    split
    · exact ht
    · exact .ite (ht.endRecord ..) ht
theorem State.Capped.quiesceCommit (hs : s.Capped fn) (m : Nat) : (s.quiesceCommit m).Capped fn := by
  have hend : ∀ (t : State) (n : Nat), t.Capped fn →
      (((((t.modFn m (fun f => { f.putN PDK_STATE pdkQuiesced with quiesce := none })).fnMax m PCE_QUIESCE_MAX n).raiseInt
        intQuiesced).noteDrained m).noteLtr).Capped fn := by
    intro t n ht
    have hmod := ht.modFn m (k := fun f => { f.putN PDK_STATE pdkQuiesced with quiesce := none })
      (fun f hf => (hf.putN _ (show PDK_STATE ≠ MCT_POISON_COMPLETIONS by decide)).of_regs rfl)
    exact (((hmod.fnSetN m _ (show PCE_QUIESCE_MAX ≠ MCT_POISON_COMPLETIONS by decide)).raiseInt _).noteDrained m).noteLtr
  unfold State.quiesceCommit
  split
  · exact hs
  · refine .ite (hend _ _ ?_) hs
    split
    · exact ((hs.checkpoint m).modEntry ..).settle m
    · exact hs.checkpoint m
theorem State.Capped.progress (hs : s.Capped fn) (m : Nat) : (s.progress m).Capped fn :=
  .ite hs ((((hs.quiesceSweep m).settle m).quiesceCommit m).noteDrained m)

end

/-! ### The counterexample -/

/-- A stopping group of paddock 0 that has read poison, though not of memory, while the counter shows more than its 32 bits. -/
def overCounted : State :=
  { Tests.wst (Tests.rec0 tWork) { Tests.grpOf Tests.thr0 with phase := .stopping, poison := true } with
    fns := [(0, { Fn.empty with entries := [(0, Tests.rec0 tWork)], regs := [(MCT_POISON_COMPLETIONS, 0x100000000)] })] }

theorem exec_groupAbortDone_poison {s : State} {gid : Nat} {g : Grp} {j : JEntry} (hg : s.grp gid = some g)
    (hj : s.entry g.fn g.entry = some j) (hphase : g.phase = .stopping) (hearlier : (s.fn g.fn).earlierOpen j = false)
    (hpoison : g.poison = true) (hmem : g.memPoison = false) :
    exec (.groupAbortDone gid) s = .next ((s.endRecord gid g.fn g.entry stPoisoned 0).progress g.fn) := by
  refine congrArg Host.Outcome.next ?_
  simp only [hg, hj, hphase, hearlier, hpoison, hmem, bne_self_eq_false, Bool.or_self, Bool.false_eq_true, if_false, if_true]

/-- Refutes O15: where the poison does not lie in memory the counter keeps its value, which may exceed 0xFFFFFFFF; no state that
shows at most that can end in the same one. -/
theorem not_groupEnds : ¬ Obligations.GroupEnds := by
  unfold Obligations.GroupEnds
  rintro ⟨-, -, hpoison, -⟩
  obtain ⟨u, hexec, -, hcount⟩ := hpoison overCounted 0 { Tests.grpOf Tests.thr0 with phase := .stopping, poison := true }
    (Tests.rec0 tWork) (by decide +kernel) (by decide +kernel) rfl (by decide +kernel) rfl
  have hu : u.Capped 0 := hcount.le.trans (Nat.min_le_left ..)
  have hend : exec (.groupAbortDone 0) overCounted = .next ((overCounted.endRecord 0 0 0 stPoisoned 0).progress 0) :=
    exec_groupAbortDone_poison (g := { Tests.grpOf Tests.thr0 with phase := .stopping, poison := true }) (j := Tests.rec0 tWork)
      (by decide +kernel) (by decide +kernel) rfl (by decide +kernel) rfl rfl
  have hsame := Host.Outcome.next.inj (hend.symm.trans hexec)
  have hcapped : State.Capped 0 ((overCounted.endRecord 0 0 0 stPoisoned 0).progress 0) := by
    rw [hsame]
    exact (hu.endRecord 0 0 0 stPoisoned 0).progress 0
  exact absurd hcapped (by unfold State.Capped Fn.Capped; decide +kernel)

end Sys2Proof.Machine
end

section
/-! SUPPORT. Loads and what they return (R129, R154, R159, R176 to R179). -/

namespace Sys2Proof.Machine
open Sys2Proof Sys2Proof.Claims

/-! ### A load becomes outstanding -/

/-- The thread after a load has begun. -/
def Thread.withLoad (th : Thread) (op : LoadOp) : Thread :=
  ({ th.forget op.vec op.dest with loads := (th.forget op.vec op.dest).loads ++ [{ op with id := th.nextId }],
                                   nextId := th.nextId + 1 } : Thread).advance

section
variable {s : State} {t : Thr} {g : Grp} {th : Thread}

theorem Thread.advanced_withLoad (th : Thread) (op : LoadOp) : Advanced th (th.withLoad op) := ⟨rfl, rfl, rfl, rfl, rfl⟩
theorem Thread.mem_withLoad (th : Thread) (op : LoadOp) : { op with id := th.nextId } ∈ (th.withLoad op).loads :=
  List.mem_append_right _ (List.mem_singleton_self _)
theorem Thread.length_withLoad (th : Thread) (op : LoadOp) : (th.withLoad op).loads.length = th.loads.length + 1 := by
  simp [Thread.withLoad, Thread.advance, Thread.forget]
theorem Thread.advanced_advance (th : Thread) : Advanced th th.advance := ⟨rfl, rfl, rfl, rfl, rfl⟩
/-- A load that starts is outstanding under the thread's next identifier. -/
theorem State.exists_startLoad (s : State) (t : Thr) (g : Grp) (th : Thread) (op : LoadOp) : ∃ (u : State) (th' : Thread) (l : LoadOp),
    s.startLoad t g th op = u.askParts t g th.nextId l.parts ∧ u = s.retire t g th' ∧ u.mem = s.mem ∧ Advanced th th' ∧ l ∈ th'.loads ∧
      l = { op with id := th.nextId } ∧ th'.loads.length = th.loads.length + 1 :=
  ⟨_, th.withLoad op, { op with id := th.nextId }, rfl, rfl, by simp, th.advanced_withLoad op, th.mem_withLoad op, rfl, th.length_withLoad op⟩

theorem Grp.blocks_of_acq {idx n : Nat} {tgt : Tgt} {writes : Bool} {l : LoadOp} (hl : l ∈ th.loads) (hacq : l.acq = true) :
    g.blocks idx th tgt n writes = true := by
  have hany : th.loads.any (fun l => l.acq || (writes && l.hits tgt.key n)) = true :=
    List.any_eq_true.mpr ⟨l, hl, by simp [hacq]⟩
  simp [Grp.blocks, hany]

/-- What a scalar load does once it issues. -/
theorem execLoad_of_issues {f : FmtM} (acq : Bool) (hi : Issues s t g th) (hspace : f.space ≠ 3) (hsize : f.size.toNat ≤ 3)
    (hrsv : f.rsv = 0) (hgrd : GuardAt th f.grd 0) (hbase : FreeX th f.base) : execLoad s t f acq =
      (if (th.xr f.base.toNat + f.offset.signExtend 64).toNat % 2 ^ f.size.toNat ≠ 0 then
        s.raise t xMisaligned (th.xr f.base.toNat + f.offset.signExtend 64).toNat
      else match s.reach g t.idx f.space.toNat (th.xr f.base.toNat + f.offset.signExtend 64) (2 ^ f.size.toNat) .load with
        | .ok tgt =>
          if g.blocks t.idx th tgt (2 ^ f.size.toNat) false || (acq && !th.mcopies.isEmpty) then s
          else s.startLoad t g th ⟨0, f.d.toNat, false, 2 ^ f.size.toNat, f.sx, acq, 0, splitPart 0 (2 ^ f.size.toNat) tgt (2 ^ f.size.toNat)⟩
        | r => s.unreached t (th.xr f.base.toNat + f.offset.signExtend 64).toNat .load r) :=
  State.insn_of_issues false _ hi (by simpa [hsize, hrsv] using hspace) hgrd (free_single hbase) (by simp)

/-- A scalar load whose address is reached waits or starts. -/
theorem execLoad_of_reached {f : FmtM} {tgt : Tgt} (acq : Bool) (hi : Issues s t g th) (hspace : f.space ≠ 3) (hsize : f.size.toNat ≤ 3)
    (hrsv : f.rsv = 0) (hgrd : GuardAt th f.grd 0) (hbase : FreeX th f.base)
    (halign : (th.xr f.base.toNat + f.offset.signExtend 64).toNat % 2 ^ f.size.toNat = 0)
    (hreach : s.reach g t.idx f.space.toNat (th.xr f.base.toNat + f.offset.signExtend 64) (2 ^ f.size.toNat) .load = .ok tgt) :
    execLoad s t f acq = if g.blocks t.idx th tgt (2 ^ f.size.toNat) false || (acq && !th.mcopies.isEmpty) then s
      else s.startLoad t g th ⟨0, f.d.toNat, false, 2 ^ f.size.toNat, f.sx, acq, 0, splitPart 0 (2 ^ f.size.toNat) tgt (2 ^ f.size.toNat)⟩ := by
  rw [execLoad_of_issues acq hi hspace hsize hrsv hgrd hbase, if_neg (by simpa using halign), hreach]

end

/-- LD and LD.ACQ are one operation. -/
theorem loads_scalar (op : (Thr → FmtM → Instr) × Bool) (h : op ∈ [(Instr.ld, false), (.ldAcq, true)]) (s : State) (t : Thr) (f : FmtM) :
    exec (op.1 t f) s = .next (execLoad s t f op.2) := by
  revert op
  simp only [List.forall_mem_cons, List.not_mem_nil, false_imp_iff, implies_true, and_true]
  exact ⟨rfl, rfl⟩

/-! ### Vector loads -/

section
variable {s : State} {t : Thr} {g : Grp} {th : Thread}

theorem lanes_eq_filter_active {grd : BitVec 5} (hgrd : GuardWf grd) : th.lanes grd = (List.range 32).filter (active th grd) := by
  rw [Thread.lanes, funext (th.guard_eq_active hgrd)]
theorem getLsbD_laneMask_active (grd : BitVec 5) {i : Nat} (hi : i < 32) :
    (laneMask ((List.range 32).filter (active th grd))).getLsbD i = active th grd i := by
  refine (getLsbD_bitsOf _ hi).trans ?_
  cases h : active th grd i <;> simp [h, hi]

/-- What VLD does once it issues. -/
theorem execVld_of_issues {f : FmtM} (hi : Issues s t g th) (hspace : f.space ≠ 3) (hsize : f.size.toNat ≤ 2) (hrsv : f.rsv = 0)
    (hd : f.d.toNat < 32) (hgrd : GuardWf f.grd) (hbase : FreeX th f.base) (hfree : FreeD th f.grd f.d) :
    ∃ next : State, exec (.vld t f) s = .next next ∧
      (th.lanes f.grd = [] → next = s.retire t g th.advance) ∧
      ∀ tgt, th.lanes f.grd ≠ [] → (th.xr f.base.toNat + f.offset.signExtend 64).toNat % (32 * 2 ^ f.size.toNat) = 0 →
        s.reach g t.idx f.space.toNat (th.xr f.base.toNat + f.offset.signExtend 64 +
          BitVec.ofNat 64 ((laneSpan (th.lanes f.grd) (2 ^ f.size.toNat)).1 * 2 ^ f.size.toNat))
          (laneSpan (th.lanes f.grd) (2 ^ f.size.toNat)).2 .load = .ok tgt →
        g.blocks t.idx th tgt (laneSpan (th.lanes f.grd) (2 ^ f.size.toNat)).2 false = false →
        next = s.startLoad t g th ⟨0, f.d.toNat, true, 2 ^ f.size.toNat, f.sx, false, laneMask (th.lanes f.grd),
          splitPart (laneSpan (th.lanes f.grd) (2 ^ f.size.toNat)).1 (2 ^ f.size.toNat) tgt (laneSpan (th.lanes f.grd) (2 ^ f.size.toNat)).2⟩ := by
  refine ⟨_, congrArg Host.Outcome.next (State.insn_vec_of_issues hi (by simpa [hsize, hrsv, isV, hd] using hspace) hgrd (free_single hbase)
    (fun r hr => keepD_free hfree r hr)), fun hnone => ?_, fun tgt hsome halign hreach hblocks => ?_⟩
  · exact if_pos (by simp [hnone])
  · refine (if_neg (by simpa using hsome)).trans ((if_neg (by simpa [sext32] using halign)).trans ?_)
    simp only [sext32, hreach, hblocks, Bool.false_eq_true, if_false]

/-- What VLD.G does once it issues and every active lane is reached. -/
theorem execVldG_of_issues {f : FmtG} {ts : List (Nat × Tgt)} (hi : Issues s t g th) (hspace : f.space ≠ 3) (hsize : f.size.toNat ≤ 2)
    (hrsv : f.rsv = 0) (hd : f.d.toNat < 32) (hx : f.x.toNat < 32) (hgrd : GuardWf f.grd) (hbase : FreeX th f.base) (hvx : FreeV th f.x)
    (hfree : FreeD th f.grd f.d) (hreach : s.reachLanes g t.idx f th .load (th.lanes f.grd) = (ts, none)) :
    exec (.vldG t f) s = .next (if ts.isEmpty then s.retire t g th.advance
      else if ts.any (fun p => g.blocks t.idx th p.2 (2 ^ f.size.toNat) false) then s
      else s.startLoad t g th ⟨0, f.d.toNat, true, 2 ^ f.size.toNat, f.sx, false, laneMask (ts.map (·.1)),
        (ts.map (fun p => splitPart p.1 (2 ^ f.size.toNat) p.2 (2 ^ f.size.toNat))).flatten⟩) := by
  refine congrArg Host.Outcome.next ((State.insn_vec_of_issues hi (by simpa [fmtGOk, hsize, hrsv, isV, hd, hx] using hspace) hgrd (free_single hbase)
    (fun r hr => ?_)).trans ?_)
  · obtain hr | hr := List.mem_append.mp hr
    · rw [List.mem_singleton.mp hr]
      exact hvx
    · exact keepD_free hfree r hr
  · simp only [hreach]

end

/-! ### LOAD_RETURN -/

section
variable {s : State} {gid : Nat} {g : Grp}

/-- Noting a read changes of its group what it has read, and no memory. -/
theorem State.noteRead_grp (hg : s.grp gid = some g) (h : Grp) (tgt : Tgt) (n : Nat) : ∃ g', (s.noteRead gid h tgt n).grp gid = some g' ∧
    g'.staged = g.staged ∧ g'.threads = g.threads := by
  simp only [State.noteRead]
  rw [State.grp_modGrp_self, State.grp_congr (s := s) (foldl_keep State.groups _ _ _ (fun _ _ => by simp)), hg]
  exact ⟨_, rfl, rfl, rfl⟩
theorem State.foldl_noteRead_grp (h : Grp) (ps : List LoadPart) (hg : s.grp gid = some g) :
    ∃ g', (ps.foldl (fun s p => s.noteRead gid h p.tgt p.size) s).grp gid = some g' ∧ g'.staged = g.staged ∧ g'.threads = g.threads := by
  induction ps generalizing s g with
  | nil => exact ⟨g, hg, rfl, rfl⟩
  | cons p ps ih =>
    obtain ⟨g1, hg1, hst1, hth1⟩ := State.noteRead_grp hg h p.tgt p.size
    obtain ⟨g2, hg2, hst2, hth2⟩ := ih hg1
    exact ⟨g2, hg2, hst2.trans hst1, hth2.trans hth1⟩

end

theorem Thread.pc_loaded (th : Thread) (op : LoadOp) (ps : List (LoadPart × List Byte)) : (th.loaded op ps).pc = th.pc := by
  simp only [Thread.loaded]
  split
  · rfl
  · split <;> rfl
theorem Thread.xr_loaded (th : Thread) {op : LoadOp} (ps : List (LoadPart × List Byte)) (hvec : op.vec = false) (hd : op.dest ≠ 0) :
    (th.loaded op ps).xr op.dest = extendN op.size op.sx (leNat (ps.map (·.2)).flatten) := by
  simp [Thread.loaded, hvec, hd, Thread.xr]

/-- Settles O23: a load becomes outstanding where nothing is in its way, and its return writes what its parts read. -/
theorem loads : Obligations.Loads := by
  refine ⟨fun op hop s t f g th tgt hi hspace hsize hrsv hgrd hbase => ?_, fun g idx n th tgt writes l hl hacq => Grp.blocks_of_acq hl hacq,
    fun s t f g th tgt lo n hi hspace hsize hrsv hd hgrd hbase hfree => ?_,
    fun s t f g th ts hi hspace hsize hrsv hd hx hgrd hbase hvx hfree hreach => ?_,
    fun s t g th l hg hth hl hphase hready hearlier hpoison => ?_⟩
  · rw [loads_scalar op hop]
    refine ⟨fun hmis => ?_, fun halign hreach => ?_⟩
    · rw [execLoad_of_issues op.2 hi hspace hsize hrsv hgrd hbase, if_pos hmis]
    rw [execLoad_of_reached op.2 hi hspace hsize hrsv hgrd hbase halign hreach]
    refine ⟨fun hblocks => by simp [hblocks], fun hblocks hacq hcopies => by simp [hblocks, hacq, hcopies], fun hblocks hnocopies => ?_⟩
    have hgo : ¬(g.blocks t.idx th tgt (2 ^ f.size.toNat) false || (op.2 && !th.mcopies.isEmpty)) = true := by
      obtain h | h := hnocopies <;> simp [hblocks, h]
    rw [if_neg hgo]
    obtain ⟨u, th', l, hstart, hu, hmem, hadv, hl, rfl, hlen⟩ := s.exists_startLoad t g th ⟨0, f.d.toNat, false, 2 ^ f.size.toNat, f.sx, op.2, 0,
      splitPart 0 (2 ^ f.size.toNat) tgt (2 ^ f.size.toNat)⟩
    exact ⟨u, th', _, congrArg Host.Outcome.next hstart, hu, hmem, hadv, hl, rfl, rfl, rfl, rfl, rfl, rfl, rfl, hlen⟩
  · obtain ⟨next, hexec, hnone, hsome⟩ := execVld_of_issues hi hspace hsize hrsv hd hgrd hbase hfree
    rw [lanes_eq_filter_active hgrd] at hnone hsome
    refine ⟨fun hidle => ?_, fun hact halign hlo hn hreach hblocks => ?_⟩
    · refine ⟨th.advance, ?_, th.advanced_advance⟩
      rw [hexec, hnone (List.filter_eq_nil_iff.mpr fun i hi => by simp [hidle i (List.mem_range.mp hi)])]
    · obtain ⟨i, hi32, hact⟩ := hact
      have hne : (List.range 32).filter (active th f.grd) ≠ [] := List.ne_nil_of_mem (List.mem_filter.mpr ⟨List.mem_range.mpr hi32, hact⟩)
      subst hlo hn
      rw [hexec, hsome tgt hne halign hreach hblocks]
      obtain ⟨u, th', l, hstart, hu, -, hadv, hl, rfl, -⟩ := s.exists_startLoad t g th _
      exact ⟨u, th', _, congrArg Host.Outcome.next hstart, hu, hadv, hl, rfl, rfl, rfl, fun i hi => getLsbD_laneMask_active f.grd hi⟩
  · have hexec := execVldG_of_issues hi hspace hsize hrsv hd hx hgrd hbase hvx hfree ((lanes_eq_filter_active hgrd).symm ▸ hreach)
    refine ⟨fun hnone => ⟨th.advance, ?_, th.advanced_advance⟩, fun hsome hblocks => ?_⟩
    · rw [hexec, if_pos (by simp [hnone])]
    · have hgo : ts.any (fun p => g.blocks t.idx th p.2 (2 ^ f.size.toNat) false) = false := by simpa using hblocks
      rw [hexec, if_neg (by simpa using hsome), hgo, if_neg (by decide)]
      obtain ⟨u, th', l, hstart, hu, -, hadv, hl, rfl, -⟩ := s.exists_startLoad t g th _
      exact ⟨u, th', _, congrArg Host.Outcome.next hstart, hu, hadv, hl, rfl, rfl, rfl⟩
  · obtain ⟨h, hh, hstaged, hthreads⟩ := State.foldl_noteRead_grp g l.parts hg
    have hhth : h.th t.idx = some th := by
      rw [Grp.th, hthreads]
      exact hth
    have hall : l.parts.all (fun p => p.ready s g) = true := by simpa using hready
    have hnone : (l.parts.map (fun p => (p, s.readPart g p))).any (fun p => p.2.2) = false := by simpa using hpoison
    have hphase' : (g.phase == .running || g.phase == .saving) = true := by simpa using hphase
    have hexec : exec (.loadReturn t l.id) s = .next ((l.parts.foldl (fun s p => s.noteRead t.gid g p.tgt p.size) s).modTh t
        (fun th => th.loaded l ((l.parts.map (fun p => (p, s.readPart g p))).map (fun p => (p.1, p.2.1))))) := by
      refine congrArg Host.Outcome.next ?_
      simp only [hg, hth, hl, hall, hphase', hearlier, hnone, Bool.not_true, Bool.or_self, Bool.false_eq_true, if_false]
    rw [List.map_map] at hexec
    refine ⟨_, h.setTh t.idx (th.loaded l (l.parts.map (fun p => (p, (s.readPart g p).1)))), _, hexec, ?_, ?_, Grp.th_setTh_self .., hstaged, rfl,
      Thread.pc_loaded .., fun a off hvec hparts hdest => ?_⟩
    · simp [State.modTh]
    · rw [State.modTh, State.grp_modGrp_self, hh, Option.map_some, hhth]
      rfl
    · rw [Thread.xr_loaded th _ hvec hdest, hparts]
      simp [State.readPart, State.readTgt, State.readNat]

end Sys2Proof.Machine
end

section
/-! SUPPORT. What a range of memory reads after it has been written, and copies (R131, R179 to R182). -/

namespace Sys2Proof.Machine
open Sys2Proof Sys2Proof.Claims

/-! ### Ranges of memory -/

theorem length_cellsGet (d : Byte) (m : Memory) (a n : Nat) : (cellsGet d m a n).length = n := by
  induction n generalizing a with
  | zero => rfl
  | succ n ih => rw [cellsGet, List.length_cons, ih]
theorem cellsGet_congr {d : Byte} {m m' : Memory} {a n : Nat} (h : ∀ x, a ≤ x → x < a + n → cellGet d m' x = cellGet d m x) :
    cellsGet d m' a n = cellsGet d m a n := by
  induction n generalizing a with
  | zero => rfl
  | succ n ih => rw [cellsGet, cellsGet, h a (by omega) (by omega), ih fun x hlo hhi => h x (by omega) (by omega)]
/-- A range reads as it was written. -/
theorem cellsGet_cellsPut_self (d : Byte) (m : Memory) (a : Nat) (bs : List Byte) (h : cellWfFrom d 0 m = true) :
    cellsGet d (cellsPut d m a bs) a bs.length = bs := by
  induction bs generalizing m a with
  | nil => rfl
  | cons b bs ih =>
    rw [List.length_cons, cellsGet, cellsPut, cellGet_cellsPut_other _ _ _ _ _ (by omega), cellGet_cellPut_self _ _ 0 _ _ h,
      ih _ _ (cellPut_wfFrom d m 0 a b (Nat.zero_le a) h)]

section
variable {s t : State}

theorem State.length_readBytes (s : State) (a n : Nat) : (s.readBytes a n).length = n := length_cellsGet ..
theorem State.readBytes_congr (h : t.mem = s.mem) (a n : Nat) : t.readBytes a n = s.readBytes a n := by
  rw [State.readBytes, h, State.readBytes]
theorem State.readByte_congr (h : t.mem = s.mem) (a : Nat) : t.readByte a = s.readByte a := by
  rw [State.readByte, h, State.readByte]
theorem State.readBytes_store_self (h : s.mem.wf = true) (a : Nat) (bs : List Byte) : (s.store a bs).readBytes a bs.length = bs :=
  cellsGet_cellsPut_self 0#8 s.mem a bs h
theorem State.keepsOutside_store (s : State) (a : Nat) (bs : List Byte) : KeepsOutside s (s.store a bs) a bs.length :=
  fun x hx => s.readByte_store_other a x bs hx

end

/-! ### MCOPY, WAITM and FENCE -/

section
variable {s : State} {t : Thr} {g : Grp} {th : Thread}

theorem free_triple {a b c : BitVec 6} (ha : FreeX th a) (hb : FreeX th b) (hc : FreeX th c) :
    ∀ r ∈ [a.toNat, b.toNat, c.toNat], r = 0 ∨ r ∉ th.pendX := by
  intro r hr
  obtain rfl | hr := List.mem_cons.mp hr
  · exact free_single ha _ (List.mem_singleton_self _)
  · exact free_pair hb hc r hr

/-- An MCOPY that may issue, its registers read. -/
def McopyIssues (s : State) (t : Thr) (f : FmtR) (g : Grp) (th : Thread) : Prop :=
  Issues s t g th ∧ f.ty.toNat ≤ 1 ∧ f.s3 = 0 ∧ f.cond = 0 ∧ f.rsv = 0 ∧ GuardAt th f.grd 0 ∧ FreeX th f.d ∧ FreeX th f.s1 ∧ FreeX th f.s2
/-- Its operands are multiples of 16. -/
def McopyAligned (th : Thread) (f : FmtR) : Prop :=
  (th.xr f.d.toNat).toNat % 16 = 0 ∧ (th.xr f.s1.toNat).toNat % 16 = 0 ∧ (th.xr f.s2.toNat).toNat % 16 = 0

section
variable {f : FmtR}

theorem exec_mcopy_misaligned (h : McopyIssues s t f g th) (hmis : ¬McopyAligned th f) :
    exec (.mcopy t f) s = .next (s.raise t xMisaligned (th.xr f.s1.toNat).toNat) := by
  obtain ⟨hi, hty, h3, hcond, hrsv, hgrd, hfd, hf1, hf2⟩ := h
  refine congrArg Host.Outcome.next ((State.insn_of_issues false _ hi (by simp [hty, h3, hcond, hrsv]) hgrd (free_triple hfd hf1 hf2)
    (by simp)).trans (if_pos ?_))
  simp only [McopyAligned, not_and_or] at hmis
  simpa [or_assoc] using hmis
theorem mcopy_aligned_iff : McopyAligned th f ↔ ¬((th.xr f.d.toNat).toNat % 16 ≠ 0 || (th.xr f.s1.toNat).toNat % 16 ≠ 0 ||
    (th.xr f.s2.toNat).toNat % 16 ≠ 0) = true := by
  simp [McopyAligned, and_assoc]
theorem exec_mcopy_tooLong (h : McopyIssues s t f g th) (hal : McopyAligned th f) (hlong : 524288 < (th.xr f.s2.toNat).toNat) :
    exec (.mcopy t f) s = .next (s.raise t xOperand (th.xr f.s1.toNat).toNat) := by
  obtain ⟨hi, hty, h3, hcond, hrsv, hgrd, hfd, hf1, hf2⟩ := h
  exact congrArg Host.Outcome.next ((State.insn_of_issues false _ hi (by simp [hty, h3, hcond, hrsv]) hgrd (free_triple hfd hf1 hf2)
    (by simp)).trans ((if_neg (mcopy_aligned_iff.mp hal)).trans (if_pos hlong)))
theorem exec_mcopy_empty (h : McopyIssues s t f g th) (hal : McopyAligned th f) (hzero : (th.xr f.s2.toNat).toNat = 0) :
    exec (.mcopy t f) s = .next (s.retire t g th.advance) := by
  obtain ⟨hi, hty, h3, hcond, hrsv, hgrd, hfd, hf1, hf2⟩ := h
  exact congrArg Host.Outcome.next ((State.insn_of_issues false _ hi (by simp [hty, h3, hcond, hrsv]) hgrd (free_triple hfd hf1 hf2)
    (by simp)).trans ((if_neg (mcopy_aligned_iff.mp hal)).trans ((if_neg (by omega)).trans (if_pos hzero))))
theorem exec_mcopy_full (h : McopyIssues s t f g th) (hal : McopyAligned th f) (hpos : 0 < (th.xr f.s2.toNat).toNat)
    (hle : (th.xr f.s2.toNat).toNat ≤ 524288) (hfull : 16 ≤ th.mcopies.length) : exec (.mcopy t f) s = .next s := by
  obtain ⟨hi, hty, h3, hcond, hrsv, hgrd, hfd, hf1, hf2⟩ := h
  exact congrArg Host.Outcome.next ((State.insn_of_issues false _ hi (by simp [hty, h3, hcond, hrsv]) hgrd (free_triple hfd hf1 hf2)
    (by simp)).trans ((if_neg (mcopy_aligned_iff.mp hal)).trans ((if_neg (by omega)).trans ((if_neg (by omega)).trans (if_pos hfull)))))

/-- The copy that an MCOPY begins. -/
def State.mcopyOf (s : State) (t : Thr) (f : FmtR) (g : Grp) (th : Thread) (ps : List LoadPart) : MCopyOp :=
  ⟨th.nextId, f.ty == 1, (th.xr f.d.toNat).toNat, (th.xr f.s1.toNat).toNat, (th.xr f.s2.toNat).toNat,
    if f.ty == 1 then s.readBytes (coreAddr (g.globalCore (g.coreOf t.idx)) (th.xr f.d.toNat).toNat) (th.xr f.s2.toNat).toNat else [], ps⟩
/-- The thread after an MCOPY has begun. -/
def Thread.withCopy (th : Thread) (m : MCopyOp) : Thread :=
  ({ th with mcopies := th.mcopies ++ [m], nextId := th.nextId + 1 } : Thread).advance

theorem exec_mcopy_begins {ctgt : Tgt} {ps : List LoadPart} (h : McopyIssues s t f g th) (hal : McopyAligned th f)
    (hpos : 0 < (th.xr f.s2.toNat).toNat) (hle : (th.xr f.s2.toNat).toNat ≤ 524288) (hroom : th.mcopies.length < 16)
    (hreach : s.reach g t.idx 1 (th.xr f.d.toNat) (th.xr f.s2.toNat).toNat (if f.ty = 1 then .load else .store) = .ok ctgt)
    (hrange : s.reachRange g t.idx (th.xr f.s1.toNat) (if f.ty = 1 then .store else .load)
      (cut (th.xr f.s1.toNat).toNat (th.xr f.s2.toNat).toNat 4096) = (ps, none))
    (hblocks : g.blocks t.idx th ctgt (th.xr f.s2.toNat).toNat (f.ty != 1) = false)
    (hparts : ∀ p ∈ ps, g.blocks t.idx th p.tgt p.size (f.ty == 1) = false ∧ isCommons p.tgt = false) :
    exec (.mcopy t f) s = .next (if f.ty = 1 then s.retire t g (th.withCopy (s.mcopyOf t f g th ps))
      else (s.retire t g (th.withCopy (s.mcopyOf t f g th ps))).askCopy t g th.nextId ps) := by
  obtain ⟨hi, hty, h3, hcond, hrsv, hgrd, hfd, hf1, hf2⟩ := h
  have hnoblock : ps.any (fun p => g.blocks t.idx th p.tgt p.size (f.ty == 1)) = false := by
    simpa using fun p hp => (hparts p hp).1
  have hnocommons : ps.any (fun p => isCommons p.tgt) = false := by simpa using fun p hp => (hparts p hp).2
  have hblocks' : g.blocks t.idx th ctgt (th.xr f.s2.toNat).toNat (!(f.ty == 1)) = false := hblocks
  have hreach' : s.reach g t.idx 1 (th.xr f.d.toNat) (th.xr f.s2.toNat).toNat (if (f.ty == 1) = true then .load else .store) = .ok ctgt := by
    simpa using hreach
  have hrange' : s.reachRange g t.idx (th.xr f.s1.toNat) (if (f.ty == 1) = true then .store else .load)
      (cut (th.xr f.s1.toNat).toNat (th.xr f.s2.toNat).toNat 4096) = (ps, none) := by simpa using hrange
  refine congrArg Host.Outcome.next ((State.insn_of_issues false _ hi (by simp [hty, h3, hcond, hrsv]) hgrd (free_triple hfd hf1 hf2)
    (by simp)).trans ((if_neg (mcopy_aligned_iff.mp hal)).trans ((if_neg (by omega)).trans ((if_neg (by omega)).trans
      ((if_neg (by omega)).trans ?_)))))
  simp only [hreach', hrange', hblocks', hnoblock, hnocommons, Bool.or_self, Bool.and_false, Bool.false_eq_true, if_false]
  by_cases hout : f.ty = 1
  · simp [hout, State.mcopyOf, Thread.withCopy]
  · simp [State.mcopyOf, Thread.withCopy]

end

theorem exec_waitm {f : FmtI} (hi : Issues s t g th) (hd : f.d = 0) (h1 : f.s1 = 0) (hty : f.ty = 0) (hrsv : f.rsv = 0) (himm : f.imm = 0)
    (hgrd : GuardAt th f.grd 0) : exec (.waitm t f) s = .next (if th.mcopies.isEmpty then s.retire t g th.advance else s) :=
  congrArg Host.Outcome.next (State.insn_of_issues false _ hi (by simp [plainI, hd, h1, hty, hrsv, himm]) hgrd (by simp) (by simp))
theorem exec_fence {f : FmtS} (hi : Issues s t g th) (hd : f.d = 0) (h1 : f.s1 = 0) (h2 : f.s2 = 0) (h3 : f.s3 = 0) (hscope : f.scope = 0)
    (hty : f.ty = 0) (hrsv : f.rsv = 0) (hid : f.id = 0) (hgrd : GuardAt th f.grd 0) :
    exec (.fence t f) s = .next (if th.loads.isEmpty && th.mcopies.isEmpty then s.retire t g th.advance else s) :=
  congrArg Host.Outcome.next (State.insn_of_issues false _ hi (by simp [hd, h1, h2, h3, hscope, hty, hrsv, hid]) hgrd (by simp) (by simp))

/-! ### The end of a copy -/

/-- A copy in from a thread's own storage with one part is one store to the thread's core store. -/
theorem State.copyDone_of_priv {m : MCopyOp} {a n : Nat} (hout : m.out = false) (hparts : m.parts = [⟨0, .priv a, n, none⟩]) :
    s.copyDone t g m = ((s.modTh t (fun th => { th with mcopies := th.mcopies.filter (fun c => c.id != m.id) })).noteRead t.gid g
      (.priv a) n).store (coreAddr (g.globalCore (g.coreOf t.idx)) m.csOff) (s.readBytes a n) := by
  have htake : (s.readBytes a n).take n = s.readBytes a n := List.take_of_length_le (s.length_readBytes a n).le
  simp [State.copyDone, hout, hparts, State.readPart, State.readTgt, htake]

end

/-- Settles O25: an equation of MCOPY for each of its outcomes; the end of a copy is one store. -/
theorem copies : Obligations.Copies := by
  refine ⟨fun s t f g th hi hty h3 hcond hrsv hgrd hfd hf1 hf2 => ?_, fun s t g th m hg hth hm hphase hready => ?_,
    fun s t g th m a n hg hth hout hparts hwf => ?_, fun s t f g th hi hd h1 hty hrsv himm hgrd => ?_,
    fun s t f g th hi hd h1 h2 h3 hscope hty hrsv hid hgrd => ?_⟩
  · have h : McopyIssues s t f g th := ⟨hi, hty, h3, hcond, hrsv, hgrd, hfd, hf1, hf2⟩
    refine ⟨fun hmis => exec_mcopy_misaligned h (by simpa [McopyAligned, imp_iff_not_or, or_assoc] using hmis), fun hd16 h16 hn16 => ?_⟩
    have hal : McopyAligned th f := ⟨hd16, h16, hn16⟩
    refine ⟨fun hlong => exec_mcopy_tooLong h hal hlong, fun hzero => ?_, fun hpos hle => ⟨fun hfull => exec_mcopy_full h hal hpos hle hfull,
      fun ctgt ps hroom hreach hrange hblocks hps => ?_⟩⟩
    · exact ⟨th.advance, exec_mcopy_empty h hal (by simp [hzero]), th.advanced_advance, rfl⟩
    · have hbegin := exec_mcopy_begins h hal hpos hle hroom hreach hrange hblocks hps
      exact ⟨_, th.withCopy (s.mcopyOf t f g th ps), s.mcopyOf t f g th ps, hbegin, rfl, ⟨rfl, rfl, rfl, rfl, rfl⟩, rfl, rfl, rfl, rfl, rfl, rfl,
        fun hout => by simp [State.mcopyOf, hout]⟩
  · have hphase' : (g.phase == .running || g.phase == .saving) = true := by simpa using hphase
    have hready' : (m.out || m.parts.all (fun p => p.ready s g)) = true := by simpa using hready
    refine congrArg Host.Outcome.next ?_
    simp only [hg, hth, hm, hphase', hready', Bool.not_true, Bool.or_self, Bool.false_eq_true, if_false]
  · rw [State.copyDone_of_priv hout hparts]
    generalize hu : (s.modTh t (fun th => { th with mcopies := th.mcopies.filter (fun c => c.id != m.id) })).noteRead t.gid g
      (.priv a) n = u
    have hmem : u.mem = s.mem := by simp [← hu, State.modTh]
    have hlen := s.length_readBytes a n
    refine ⟨fun x hx => ?_, ?_, ?_⟩
    · rw [State.readByte_store_other _ _ _ _ (by rw [hlen]; exact hx), State.readByte_congr hmem]
    · have hself := State.readBytes_store_self (s := u) (by rw [hmem]; exact hwf) (coreAddr (g.globalCore (g.coreOf t.idx)) m.csOff) (s.readBytes a n)
      rwa [hlen] at hself
    · have hmod : (s.modTh t (fun th => { th with mcopies := th.mcopies.filter (fun c => c.id != m.id) })).grp t.gid =
          some (g.setTh t.idx { th with mcopies := th.mcopies.filter (fun c => c.id != m.id) }) := by
        rw [State.modTh, State.grp_modGrp_self, hg, Option.map_some, hth]
      obtain ⟨h, hh, -, hthreads⟩ := State.noteRead_grp hmod g (.priv a) n
      rw [hu] at hh
      refine ⟨h, { th with mcopies := th.mcopies.filter (fun c => c.id != m.id) }, hh, ?_, fun c hc => ?_⟩
      · rw [Grp.th, hthreads]
        exact Grp.th_setTh_self ..
      · simpa using (List.mem_filter.mp hc).2
  · have hexec := exec_waitm hi hd h1 hty hrsv himm hgrd
    refine ⟨fun hnone => ⟨th.advance, by rw [hexec, hnone]; rfl, th.advanced_advance⟩, fun hsome => ?_⟩
    rw [hexec, if_neg (by simpa using hsome)]
  · have hexec := exec_fence hi hd h1 h2 h3 hscope hty hrsv hid hgrd
    refine ⟨fun hl hm => ⟨th.advance, by rw [hexec, hl, hm]; rfl, th.advanced_advance⟩, fun hsome => ?_⟩
    rw [hexec, if_neg (by simpa [imp_iff_not_or] using hsome)]

end Sys2Proof.Machine
end

section
/-! SUPPORT. Numbers as bytes, and atomics (R141, R142, R144, R183, R184). -/

namespace Sys2Proof.Machine
open Sys2Proof Sys2Proof.Claims

/-! ### Numbers as bytes -/

theorem length_leBytes (n v : Nat) : (leBytes n v).length = n := by
  induction n generalizing v with
  | zero => rfl
  | succ n ih => rw [leBytes, List.length_cons, ih]
theorem leNat_lt (bs : List Byte) : leNat bs < 2 ^ (8 * bs.length) := by
  induction bs with
  | nil => decide
  | cons b bs ih =>
    have hb : b.toNat < 256 := b.isLt
    rw [leNat, List.length_cons, Nat.mul_succ, Nat.pow_add]
    omega
theorem leNat_leBytes (n v : Nat) : leNat (leBytes n v) = v % 2 ^ (8 * n) := by
  induction n generalizing v with
  | zero => rw [leBytes, leNat, Nat.mul_zero, Nat.pow_zero, Nat.mod_one]
  | succ n ih =>
    rw [leBytes, leNat, ih, BitVec.toNat_ofNat, Nat.mul_succ, Nat.add_comm (8 * n) 8, Nat.pow_add]
    exact (Nat.mod_mul).symm

section
variable {s u : State}

theorem State.leNat_readBytes (s : State) (a n : Nat) : leNat (s.readBytes a n) = s.readNat a n := rfl
theorem State.readNat_congr (h : u.mem = s.mem) (a n : Nat) : u.readNat a n = s.readNat a n := by
  rw [State.readNat, State.readBytes_congr h, State.readNat]
theorem State.readNat_lt (s : State) (a n : Nat) : s.readNat a n < 2 ^ (8 * n) := by
  have h := leNat_lt (s.readBytes a n)
  rwa [s.length_readBytes a n] at h
/-- A number reads as it was stored. -/
theorem State.readNat_store (h : s.mem.wf = true) (a n : Nat) {v : Nat} (hv : v < 2 ^ (8 * n)) : (s.store a (leBytes n v)).readNat a n = v := by
  have hself := State.readBytes_store_self h a (leBytes n v)
  rw [length_leBytes] at hself
  rw [State.readNat, hself, leNat_leBytes, Nat.mod_eq_of_lt hv]

end

/-! ### An atomic at its target -/

section
variable {s : State} {t : Thr} {f : FmtA} {g : Grp} {th : Thread}

/-- An atomic that issues at a reached address with nothing in its way goes to its target. -/
theorem State.atomAt_of_issues {legal : Bool} {tgt : Tgt} (k : Grp → Thread → Tgt → State) (hi : Issues s t g th) (hlegal : legal = true)
    (hspace : f.space ≠ 3) (hrsv : f.rsv = 0) (hgrd : GuardAt th f.grd 0) (hbase : FreeX th f.base) (h1 : FreeX th f.s1) (h2 : FreeX th f.s2)
    (halign : (th.xr f.base.toNat).toNat % tySize f.ty.toNat = 0)
    (hreach : s.reach g t.idx f.space.toNat (th.xr f.base.toNat) (tySize f.ty.toNat) .atomic = .ok tgt)
    (hblocks : g.blocks t.idx th tgt (tySize f.ty.toNat) true = false) : s.atomAt t f legal k = k g th tgt := by
  refine (State.insn_of_issues false _ hi (by simpa [hlegal, hrsv] using hspace) hgrd (free_triple hbase h1 h2) (by simp)).trans
    ((if_neg (by simpa using halign)).trans ?_)
  simp only [hreach, hblocks, Bool.false_eq_true, if_false]

theorem atomNew_lt {o : AtomOp} {ty old a c v : Nat} (hold : old < 2 ^ (8 * tySize ty)) (ha : a < 2 ^ (8 * tySize ty))
    (h : atomNew o ty old a c = some v) : v < 2 ^ (8 * tySize ty) := by
  cases o with
  | add =>
    cases h
    exact Nat.mod_lt _ (Nat.two_pow_pos _)
  | swap =>
    cases h
    exact ha
  | cas =>
    simp only [atomNew, Option.ite_none_right_eq_some, Option.some.injEq] at h
    exact h.2 ▸ ha
  | min =>
    simp only [atomNew, Option.some.injEq] at h
    subst h
    split <;> assumption
  | max =>
    simp only [atomNew, Option.some.injEq] at h
    subst h
    split <;> assumption

/-- At a core-store address an integer atomic stores its new value and nothing else. -/
theorem State.atomInt_core (o : AtomOp) (ret : Bool) (p : Nat) (hwf : s.mem.wf = true) : ∃ u : State,
    s.atomInt t f o ret g th (.core p) = u.retire t g
      (((if ret then th.setX f.d.toNat (atomPrior f.ty.toNat (s.readNat p (tySize f.ty.toNat))) else th).window 1).advance) ∧
    KeepsOutside s u p (tySize f.ty.toNat) ∧
    u.readNat p (tySize f.ty.toNat) = (atomNew o f.ty.toNat (s.readNat p (tySize f.ty.toNat))
      ((th.xr f.s1.toNat).toNat % 2 ^ (8 * tySize f.ty.toNat)) ((th.xr f.s2.toNat).toNat % 2 ^ (8 * tySize f.ty.toNat))).getD
        (s.readNat p (tySize f.ty.toNat)) := by
  generalize hn : tySize f.ty.toNat = n
  have hmem : (s.noteRead t.gid g (.core p) n).mem = s.mem := by simp
  cases hnew : atomNew o f.ty.toNat (s.readNat p n) ((th.xr f.s1.toNat).toNat % 2 ^ (8 * n)) ((th.xr f.s2.toNat).toNat % 2 ^ (8 * n)) with
  | none =>
    refine ⟨s.noteRead t.gid g (.core p) n, ?_, fun x _ => State.readByte_congr hmem x, State.readNat_congr hmem p n⟩
    simp only [State.atomInt, State.readTgt, hn, State.leNat_readBytes, hnew, Bool.false_eq_true, if_false]
  | some v =>
    have hv : v < 2 ^ (8 * n) := by
      subst hn
      exact atomNew_lt (s.readNat_lt p _) (Nat.mod_lt _ (Nat.two_pow_pos _)) hnew
    refine ⟨(s.noteRead t.gid g (.core p) n).store p (leBytes n v), ?_, fun x hx => ?_, State.readNat_store (by rw [hmem]; exact hwf) p n hv⟩
    · simp only [State.atomInt, State.readTgt, hn, State.leNat_readBytes, hnew, Bool.false_eq_true, if_false]
      rfl
    · rw [State.readByte_store_other _ _ _ _ (by rw [length_leBytes]; exact hx), State.readByte_congr hmem]

end

/-- The integer atomics, each with the operation of the model that it is. -/
theorem atomics_rows (op : (Thr → FmtA → Instr) × Bool × (Bool → Nat → Nat → Nat → Nat → Option Nat))
    (h : op ∈ ([(Instr.atomAdd, false, fun _ w x a _ => some ((x + a) % 2 ^ (8 * w))),
      (.atomFadd, true, fun _ w x a _ => some ((x + a) % 2 ^ (8 * w))), (.atomSwap, true, fun _ _ _ a _ => some a),
      (.atomCas, true, fun _ _ x a c => if x = c then some a else none),
      (.atomMin, true, fun sg w x a _ => some (if (if sg then (BitVec.ofNat (8 * w) x).toInt ≤ (BitVec.ofNat (8 * w) a).toInt else x ≤ a) then x else a)),
      (.atomMax, true, fun sg w x a _ => some (if (if sg then (BitVec.ofNat (8 * w) x).toInt ≤ (BitVec.ofNat (8 * w) a).toInt else x ≤ a) then a else x))] :
      List ((Thr → FmtA → Instr) × Bool × (Bool → Nat → Nat → Nat → Nat → Option Nat)))) :
    ∃ o : AtomOp, (∀ (s : State) (t : Thr) (f : FmtA), f.ty.toNat < 4 → (op.1 t f ≠ .atomCas t f → f.s2 = 0) → (op.2.1 = false → f.d = 0) →
        ∃ legal : Bool, legal = true ∧ exec (op.1 t f) s = .next (s.atomAt t f legal (s.atomInt t f o op.2.1))) ∧
      ∀ ty old a c, ty < 4 → atomNew o ty old a c = op.2.2 (ty % 2 == 0) (tySize ty) old a c := by
  have hint : ∀ f : FmtA, f.ty.toNat < 4 → isIntTy f.ty.toNat = true := fun f h => by simp [isIntTy, h]
  have hle : ∀ ty w a b, ty < 4 → (atomLe ty w a b = true ↔
      if (ty % 2 == 0) = true then (BitVec.ofNat (8 * w) a).toInt ≤ (BitVec.ofNat (8 * w) b).toInt else a ≤ b) := by
    intro ty w a b hty
    interval_cases ty <;> simp [atomLe, tySigned, tyI32, tyI64]
  simp only [List.mem_cons, List.not_mem_nil, or_false] at h
  obtain rfl | rfl | rfl | rfl | rfl | rfl := h
  · refine ⟨.add, fun s t f hty h2 hd => ⟨f.d == 0 && f.s2 == 0 && f.ty.toNat ≤ tyFP16, ?_, ?_⟩, fun ty old a c hty => rfl⟩
    · have h2' := h2 (by simp)
      have hd' := hd rfl
      rw [hd', h2']
      exact decide_eq_true (show f.ty.toNat ≤ 6 by omega)
    · refine congrArg Host.Outcome.next (congrArg (s.atomAt t f _) ?_)
      funext g th tgt
      exact if_pos (hint f hty)
  · exact ⟨.add, fun s t f hty h2 _ => ⟨_, by simp [h2 (by simp), hint f hty], rfl⟩, fun ty old a c hty => rfl⟩
  · exact ⟨.swap, fun s t f hty h2 _ => ⟨_, by simp [h2 (by simp), hint f hty], rfl⟩, fun ty old a c hty => rfl⟩
  · exact ⟨.cas, fun s t f hty _ _ => ⟨_, hint f hty, rfl⟩, fun ty old a c hty => rfl⟩
  · refine ⟨.min, fun s t f hty h2 _ => ⟨_, by simp [h2 (by simp), hint f hty], rfl⟩, fun ty old a c hty => ?_⟩
    simp only [atomNew, hle ty _ _ _ hty]
  · refine ⟨.max, fun s t f hty h2 _ => ⟨_, by simp [h2 (by simp), hint f hty], rfl⟩, fun ty old a c hty => ?_⟩
    simp only [atomNew, hle ty _ _ _ hty]

theorem tySize_int {ty : Nat} (h : ty < 4) : tySize ty = if ty < 2 then 4 else 8 := by
  interval_cases ty <;> rfl
theorem tySize_float {ty : BitVec 4} (hlo : 4 ≤ ty.toNat) (hhi : ty.toNat ≤ 6) : tySize ty.toNat = if ty = 4 then 4 else 2 := by
  have h : ty = 4 ∨ ty = 5 ∨ ty = 6 := by bv_omega
  obtain rfl | rfl | rfl := h <;> rfl

/-! ### Adds to open elements (R141) -/

/-- An add to an element that is open changes that element and no memory. -/
theorem State.exactAdd_of_open {s : State} {gid : Nat} {g : Grp} {tgt : Tgt} {o : XaOpen} (hg : s.grp gid = some g)
    (ho : g.xas.find (keyNat tgt.key) = some o) (ty : Nat) (v : Fv) : (s.exactAdd gid tgt ty v).mem = s.mem ∧
    ∃ h : Grp, (s.exactAdd gid tgt ty v).grp gid = some h ∧ h.xas.find (keyNat tgt.key) = some { o with xa := (o.xa.addValue v).normalise } := by
  simp only [State.exactAdd, hg, ho]
  exact ⟨by simp, _, (State.grp_tallyP ..).trans (State.grp_setGrp_self ..), SMap.find_set_self ..⟩

/-- Settles O26: one store for an integer atomic, one exact add for a floating one. -/
theorem atomics : Obligations.Atomics := by
  refine ⟨fun op hop s t f g th w p x hi hty hspace hrsv h2z hdz hgrd hbase h1 h2 hw halign hreach hblocks hwf hx => ?_,
    fun s t f g th tgt o hi hlo hhi hd h2 hspace hrsv hgrd hbase h1 halign hreach hblocks => ?_⟩
  · obtain ⟨o, hexec, hnew⟩ := atomics_rows op hop
    obtain ⟨legal, hlegal, hexec⟩ := hexec s t f hty h2z hdz
    rw [← tySize_int hty] at hw
    subst hw hx
    obtain ⟨u, hu, hkeep, hread⟩ := State.atomInt_core (t := t) (f := f) (g := g) (th := th) o op.2.1 p hwf
    rw [State.atomAt_of_issues _ hi hlegal hspace hrsv hgrd hbase h1 h2 halign hreach hblocks, hu] at hexec
    rw [hnew _ _ _ _ hty] at hread
    refine ⟨u, _, hexec, hkeep, hread, fun hret => ?_, fun hret => ?_⟩
    · rw [hret, if_pos rfl]
      have hprior : atomPrior f.ty.toNat (s.readNat p (tySize f.ty.toNat)) = if f.ty = 0 then
          (BitVec.ofNat 32 (s.readNat p (tySize f.ty.toNat))).signExtend 64 else BitVec.ofNat 64 (s.readNat p (tySize f.ty.toNat)) := by
        rw [atomPrior]
        exact if_congr (by rw [tyI32]; bv_omega) rfl rfl
      rw [hprior]
      exact wroteX_setX ..
    · rw [hret]
      exact ⟨rfl, rfl, rfl, rfl, rfl⟩
  · rw [← tySize_float hlo hhi] at halign hreach hblocks ⊢
    have hlegal : (f.d == 0 && f.s2 == 0 && f.ty.toNat ≤ tyFP16) = true := by
      simp only [Bool.and_eq_true, beq_iff_eq, decide_eq_true_eq]
      exact ⟨⟨hd, h2⟩, hhi⟩
    have hfloat : ¬isIntTy f.ty.toNat = true := by
      simp only [isIntTy, decide_eq_true_eq]
      omega
    have hexec : exec (.atomAdd t f) s = .next (if g.xaClash tgt f.ty.toNat then s.raise t xIllegal (th.xr f.base.toNat).toNat
        else (s.exactAdd t.gid tgt f.ty.toNat (tyValue f.ty.toNat (leBytes (tySize f.ty.toNat) (th.xr f.s1.toNat).toNat))).retire t g th.advance) :=
      congrArg Host.Outcome.next ((State.atomAt_of_issues _ hi hlegal hspace hrsv hgrd hbase h1 (.inl h2) halign hreach hblocks).trans
        (if_neg hfloat))
    refine ⟨fun hclash => by rw [hexec, hclash, if_pos rfl], fun hclash ho => ?_⟩
    rw [hclash, if_neg (by decide)] at hexec
    obtain ⟨hg, -⟩ := hi
    obtain ⟨hmem, h, hh, hfind⟩ := State.exactAdd_of_open hg ho f.ty.toNat
      (tyValue f.ty.toNat (leBytes (tySize f.ty.toNat) (th.xr f.s1.toNat).toNat))
    exact ⟨_, _, h, hexec, th.advanced_advance, hmem, hh, hfind⟩

end Sys2Proof.Machine
end

section
/-! SUPPORT. Hurdles and collectives (R131 to R139, R179, R187 to R190). -/

namespace Sys2Proof.Machine
open Sys2Proof Sys2Proof.Claims

/-! ### Arrivals -/

section
variable {s : State} {t : Thr} {g : Grp} {th : Thread}

theorem misused_iff {scope id : Nat} : (decide (scope = scTorus) && (decide (4 ≤ id) || !g.prog.usesTeam)) = true ↔
    scope = 3 ∧ (4 ≤ id ∨ g.prog.usesTeam = false) := by
  rw [Bool.and_eq_true, Bool.or_eq_true, decide_eq_true_iff, decide_eq_true_iff, Bool.not_eq_true']
  rfl
theorem State.atHurdle_of_misused {scope id : Nat} (k : Nat → State) (h : scope = 3 ∧ (4 ≤ id ∨ g.prog.usesTeam = false)) :
    s.atHurdle t g th scope id k = s.raise t xHurdle 0 := if_pos (misused_iff.mpr h)
theorem not_misused_of_atHurdle {scope id : Nat} (h : AtHurdle g th scope id) : ¬(scope = 3 ∧ (4 ≤ id ∨ g.prog.usesTeam = false)) := by
  obtain ⟨htorus, -⟩ := h
  rintro ⟨hscope, hid⟩
  obtain ⟨hlt, hteam⟩ := htorus hscope
  obtain hge | hno := hid
  · omega
  · simp [hteam] at hno
theorem State.atHurdle_of_busy {scope id : Nat} (k : Nat → State) (h : ¬(scope = 3 ∧ (4 ≤ id ∨ g.prog.usesTeam = false)))
    (hbusy : th.loads ≠ [] ∨ th.mcopies ≠ []) : s.atHurdle t g th scope id k = s := by
  refine (if_neg (mt misused_iff.mp h)).trans (if_pos ?_)
  simpa [imp_iff_not_or] using hbusy
theorem State.atHurdle_of_free {scope id : Nat} (k : Nat → State) (h : AtHurdle g th scope id) :
    s.atHurdle t g th scope id k = k (hurdleKey scope (g.unitOf scope t.idx) id) := by
  have hno := not_misused_of_atHurdle h
  obtain ⟨-, hloads, hcopies⟩ := h
  exact (if_neg (mt misused_iff.mp hno)).trans (if_neg (by simp [hloads, hcopies]))

theorem State.arrive_of_arrived {k : Nat} (a : Arrival) (wait : Bool) (h : t.idx ∈ (g.round k).arrived) :
    s.arrive t g th k a wait = s.raise t xHurdle 0 := if_pos (List.contains_iff_mem.mpr h)

/-- The thread after it has arrived. -/
def Thread.arrivedAt (th : Thread) (k number : Nat) (sum : Option Nat) (wait : Bool) : Thread :=
  { th.advance with arrivals := th.arrivals.set k number, st := if wait then .hurdle else .running,
                    waitKey := if wait then some k else none, sumDest := sum, nextId := th.nextId + 1 }
/-- Whether an arrival brings other operands than the collective under way. -/
def Arrival.clashes (a : Arrival) (g : Grp) : Bool :=
  match a.collect, g.collect with
  | some c, some d => !sameCollect c d
  | _, _ => false
/-- The group with one more arrival. -/
def Grp.joined (g : Grp) (k : Nat) (r : Round) (c : Option CollectOp) : Grp :=
  { g with rounds := g.rounds.set k r, collect := match g.collect with
            | some c => some c
            | none => c }

theorem State.arrive_of_new {k : Nat} (a : Arrival) (wait : Bool) (h : t.idx ∉ (g.round k).arrived) : s.arrive t g th k a wait =
    ((((s.modGrp t.gid (fun h => h.joined k ((g.round k).join t.idx a (a.clashes g)) a.collect)).retire t g
      (th.arrivedAt k (g.round k).number (a.sum.map (·.2)) wait)).tryOpen t.gid k).checkDeadlock t.gid) :=
  if_neg (by simpa using h)

end

section
variable {s : State} {t : Thr} {g : Grp}

theorem Round.number_join (r : Round) (idx : Nat) (a : Arrival) (clash : Bool) : (r.join idx a clash).number = r.number ∧
    (r.join idx a clash).arrived = r.arrived ++ [idx] := ⟨rfl, rfl⟩
theorem Grp.round_joined_self (g : Grp) (k : Nat) (r : Round) (c : Option CollectOp) : (g.joined k r c).round k = r := SMap.get_set_self ..
/-- A group with one more arrival is one in which only the round and a collective have changed. -/
theorem Grp.arrived_joined (g : Grp) (k idx : Nat) (a : Arrival) (clash : Bool) :
    Arrived g (g.joined k ((g.round k).join idx a clash) a.collect) idx k := by
  rw [Arrived, Grp.round_joined_self]
  exact ⟨rfl, rfl, fun j hj => SMap.get_set_other _ _ _ _ _ hj, rfl, rfl, rfl⟩
theorem State.grp_joined (hg : s.grp t.gid = some g) (k : Nat) (r : Round) (c : Option CollectOp) :
    (s.modGrp t.gid (fun h => h.joined k r c)).grp t.gid = some (g.joined k r c) := by
  rw [State.grp_modGrp_self, hg]
  rfl
theorem Thread.arrivedAt_regs (th : Thread) (k number : Nat) (sum : Option Nat) (wait : Bool) :
    (th.arrivedAt k number sum wait).pc = th.pc + 8 ∧ (th.arrivedAt k number sum wait).x = th.x ∧
      (th.arrivedAt k number sum wait).v = th.v ∧ (th.arrivedAt k number sum wait).p = th.p := ⟨rfl, rfl, rfl, rfl⟩

end

/-! ### The instructions -/

theorem hurdles_plain (op : (Thr → FmtS → Instr) × Bool) (h : op ∈ [(Instr.hurdle, true), (.harrive, false)]) (s : State) (t : Thr) (f : FmtS) :
    exec (op.1 t f) s = .next (s.plainArrive t f op.2) := by
  revert op
  simp only [List.forall_mem_cons, List.not_mem_nil, false_imp_iff, implies_true, and_true]
  exact ⟨rfl, rfl⟩

section
variable {s : State} {t : Thr} {f : FmtS} {g : Grp} {th : Thread}

theorem hurdleLegal_of_fields (h : HurdleFields f) : hurdleLegal f = true := by
  obtain ⟨hd, h1, h3, hty, hrsv, hs⟩ := h
  simpa [hurdleLegal, hd, h1, h3, hty, hrsv] using hs

theorem State.plainArrive_of_issues (wait : Bool) (hi : Issues s t g th) (hf : HurdleFields f) (hgrd : GuardAt th f.grd 0) (h2 : FreeX th f.s2) :
    s.plainArrive t f wait = s.atHurdle t g th f.scope.toNat f.id.toNat (fun k => s.arrive t g th k ⟨0, 0, tagOf f th, none, none⟩ wait) :=
  State.insn_of_issues false _ hi (hurdleLegal_of_fields hf) hgrd (free_single h2) (by simp)

/-- What HWAIT does at a hurdle that the thread may use. -/
theorem exec_hwait (hi : Issues s t g th) (hf : HurdleFields f) (hgrd : GuardAt th f.grd 0) (h2 : FreeX th f.s2)
    (hat : AtHurdle g th f.scope.toNat f.id.toNat) : exec (.hwait t f) s = .next
      (match th.arrivals.find (hurdleAt g t f.scope f.id) with
      | none => s.raise t xHurdle 0
      | some n =>
        if n < (g.round (hurdleAt g t f.scope f.id)).number then s.retire t g th.advance
        else (s.retire t g { th.advance with st := .hurdle, waitKey := some (hurdleAt g t f.scope f.id), sumDest := none }).checkDeadlock t.gid) :=
  congrArg Host.Outcome.next ((State.insn_of_issues false _ hi (hurdleLegal_of_fields hf) hgrd (free_single h2) (by simp)).trans
    (State.atHurdle_of_free _ hat))

theorem mem_collectTy {ty : Nat} (h : ty ∈ [0, 4, 5, 6]) : collectTy ty = true := by
  simp only [List.mem_cons, List.not_mem_nil, or_false] at h
  obtain rfl | rfl | rfl | rfl := h <;> rfl

theorem exec_hurdleSum {k : Nat} (hi : Issues s t g th) (hgrd : f.grd = 0) (hscope : 2 ≤ f.scope.toNat) (hty : f.ty.toNat ∈ [0, 4, 5, 6])
    (hd : f.d.toNat < 32) (h1 : f.s1.toNat < 32) (h3 : f.s3 = 0) (hrsv : f.rsv = 0) (htag : f.scope = 3 ∨ f.s2 = 0) (h2 : FreeX th f.s2)
    (hv1 : FreeV th f.s1) (hk : k = hurdleAt g t f.scope f.id) (hat : AtHurdle g th f.scope.toNat f.id.toNat) :
    exec (.hurdleSum t f) s = .next (s.arrive t g th k ⟨1, f.ty.toNat, tagOf f th, some (th.vr f.s1.toNat, f.d.toNat), none⟩ true) := by
  have hlegal : (f.grd == 0 && decide (2 ≤ f.scope.toNat) && collectTy f.ty.toNat && isV f.d && isV f.s1 && f.s3 == 0 && f.rsv == 0 &&
      (f.scope == 3 || f.s2 == 0)) = true := by
    simpa [hgrd, hscope, mem_collectTy hty, isV, hd, h1, h3, hrsv] using htag
  subst hk
  exact congrArg Host.Outcome.next ((State.insn_of_issues false _ hi hlegal (.inl hgrd) (free_single h2) (by simpa using hv1)).trans
    (State.atHurdle_of_free _ hat))

/-- The operands of a COLLECT. -/
def collectOp (t : Thr) (f : FmtS) (th : Thread) (ps : List LoadPart) : CollectOp :=
  ⟨(th.xr f.s1.toNat).toNat, (th.xr f.d.toNat).toNat, (th.xr f.s3.toNat).toNat, f.ty.toNat, th.nextId, t.idx, ps, false⟩

theorem exec_collect {k : Nat} {ps : List LoadPart} (hi : Issues s t g th) (hgrd : GuardAt th f.grd 0) (hscope : f.scope = 0)
    (hty : f.ty.toNat ∈ [0, 4, 5, 6]) (hrsv : f.rsv = 0) (hd : FreeX th f.d) (h1 : FreeX th f.s1) (h2 : FreeX th f.s2) (h3 : FreeX th f.s3)
    (hk : k = hurdleAt g t 3 f.id) (hat : AtHurdle g th 3 f.id.toNat) (hlen : (th.xr f.s3.toNat).toNat ≤ 16777216)
    (hmul : (th.xr f.s3.toNat).toNat % (if f.ty.toNat ≤ 4 then 4 else 2) = 0)
    (hdst : th.xr f.s3.toNat = 0 ∨ (privVa ≤ (th.xr f.d.toNat).toNat ∧
      (th.xr f.d.toNat).toNat + (th.xr f.s3.toNat).toNat ≤ privVa + g.prog.priv))
    (hrange : s.reachRange g t.idx (th.xr f.s1.toNat) .load (cut (th.xr f.s1.toNat).toNat (th.xr f.s3.toNat).toNat 4096) = (ps, none)) :
    exec (.collect t f) s = .next (s.arrive t g th k
      ⟨2, f.ty.toNat, (th.xr f.s2.toNat).toNat % 2 ^ 32, none, some (collectOp t f th ps)⟩ true) := by
  have hfree : ∀ r ∈ [f.d.toNat, f.s1.toNat, f.s2.toNat, f.s3.toNat], r = 0 ∨ r ∉ th.pendX := by
    intro r hr
    obtain rfl | hr := List.mem_cons.mp hr
    · exact free_single hd _ (List.mem_singleton_self _)
    · exact free_triple h1 h2 h3 r hr
  have hsize : tySize f.ty.toNat = if f.ty.toNat ≤ 4 then 4 else 2 := by
    simp only [List.mem_cons, List.not_mem_nil, or_false] at hty
    obtain h | h | h | h := hty <;> rw [h] <;> rfl
  have hok : ¬(decide (16 * mib < (th.xr f.s3.toNat).toNat) || decide ((th.xr f.s3.toNat).toNat % tySize f.ty.toNat ≠ 0)) = true := by
    rw [hsize, Bool.or_eq_true, decide_eq_true_iff, decide_eq_true_iff]
    simp only [mib]
    omega
  have hin : ¬(decide ((th.xr f.s3.toNat).toNat ≠ 0) && !(decide (privVa ≤ (th.xr f.d.toNat).toNat) &&
      decide ((th.xr f.d.toNat).toNat + (th.xr f.s3.toNat).toNat ≤ privVa + g.prog.priv))) = true := by
    obtain hzero | hin := hdst
    · simp [hzero]
    · simp [hin]
  subst hk
  refine congrArg Host.Outcome.next ((State.insn_of_issues false _ hi (by simp [hscope, mem_collectTy hty, hrsv]) hgrd hfree (by simp)).trans
    ((State.atHurdle_of_free _ hat).trans ((if_neg hok).trans ((if_neg hin).trans ?_))))
  simp only [hrange]
  rfl

end

/-! ### Opening -/

theorem SMap.find_map_keys {α : Type} (F : Nat × α → Nat × α) (hF : ∀ p, (F p).1 = p.1) (m : SMap α) (k : Nat) :
    SMap.find (m.map F) k = (m.find k).map (fun v => (F (k, v)).2) := by
  induction m with
  | nil => rfl
  | cons p m ih =>
    obtain ⟨i, v⟩ := p
    have hkey := hF (i, v)
    rw [List.map_cons, ← Prod.eta (F (i, v)), hkey]
    simp only [SMap.find]
    split
    · next h => rw [h]; rfl
    · exact ih

/-- A thread as the opening of a round with a sum leaves it, before it is released. -/
def Thread.takeSum (th : Thread) (k number : Nat) (sum : List W32) : Thread :=
  match th.sumDest with
  | some d => if th.waitKey = some k && th.arrivals.get 0 k = number then th.setV d sum else th
  | none => th
/-- A thread that leaves a hurdle. -/
def Thread.freed (th : Thread) : Thread := { th with st := .running, waitKey := none, sumDest := none }

theorem Grp.th_release (g : Grp) (i : Nat) : g.release.th i = (g.th i).map (fun th => if g.leaves th then th.freed else th) := by
  refine (SMap.find_map_keys _ (fun p => ?_) g.threads i).trans (congrArg (Option.map · (g.th i)) (funext fun th => ?_))
  · split <;> rfl
  · dsimp only
    split <;> rfl

/-- A group whose round has opened, before its threads leave. -/
def Grp.opened (g : Grp) (k : Nat) (sum : List W32) : Grp :=
  { g with threads := g.threads.map (fun (p : Nat × Thread) => (p.1, p.2.takeSum k (g.round k).number sum)),
           rounds := g.rounds.set k { Round.empty with number := (g.round k).number + 1 } }

section
variable (g : Grp) (k : Nat) (sum : List W32)

theorem Grp.openRound_eq : g.openRound k sum = (g.opened k sum).release := by
  refine congrArg (fun ths => Grp.release { g with
    threads := g.threads.map ths, rounds := g.rounds.set k { Round.empty with number := (g.round k).number + 1 } }) (funext fun p => ?_)
  cases hd : p.2.sumDest with
  | none => simp only [Thread.takeSum, hd]
  | some d =>
    simp only [Thread.takeSum, hd]
    split <;> rfl
theorem Grp.th_opened (i : Nat) : (g.opened k sum).th i = (g.th i).map (fun th => th.takeSum k (g.round k).number sum) :=
  SMap.find_map (fun th : Thread => th.takeSum k (g.round k).number sum) g.threads i
theorem Grp.round_opened_self : (g.openRound k sum).round k = { Round.empty with number := (g.round k).number + 1 } := by
  rw [Grp.openRound_eq]
  exact SMap.get_set_self ..
theorem Grp.round_opened_other {j : Nat} (h : j ≠ k) : (g.openRound k sum).round j = g.round j := by
  rw [Grp.openRound_eq]
  exact SMap.get_set_other _ _ _ _ _ h

variable {g k}

/-- A thread that waits for the round leaves it. -/
theorem Grp.th_openRound {i : Nat} {th : Thread} (hth : g.th i = some th) (hst : th.st = .hurdle) (hkey : th.waitKey = some k)
    (harr : th.arrivals.get 0 k = (g.round k).number) (hcopies : th.mcopies = []) :
    (g.openRound k sum).th i = some (th.takeSum k (g.round k).number sum).freed := by
  have hframe : (th.takeSum k (g.round k).number sum).st = th.st ∧ (th.takeSum k (g.round k).number sum).waitKey = th.waitKey ∧
      (th.takeSum k (g.round k).number sum).arrivals = th.arrivals ∧ (th.takeSum k (g.round k).number sum).mcopies = th.mcopies := by
    simp only [Thread.takeSum]
    split
    · split <;> exact ⟨rfl, rfl, rfl, rfl⟩
    · exact ⟨rfl, rfl, rfl, rfl⟩
  obtain ⟨hst', hkey', harr', hcopies'⟩ := hframe
  have hround : (g.opened k sum).round k = { Round.empty with number := (g.round k).number + 1 } := SMap.get_set_self ..
  have hleaves : (g.opened k sum).leaves (th.takeSum k (g.round k).number sum) = true := by
    simp only [Grp.leaves, hkey', hkey, hst', hst, harr', harr, hcopies', hcopies, hround]
    simp
  rw [Grp.openRound_eq, Grp.th_release, Grp.th_opened, hth, Option.map_some, Option.map_some, hleaves, if_pos rfl]

/-- What the sum does to the registers of a thread that leaves. -/
theorem Thread.regs_takeSum {th : Thread} {number : Nat} (hkey : th.waitKey = some k) (harr : th.arrivals.get 0 k = number) :
    (th.takeSum k number sum).pc = th.pc ∧ (th.takeSum k number sum).x = th.x ∧
      (th.sumDest = none → (th.takeSum k number sum).v = th.v) ∧
      ∀ d, th.sumDest = some d → (th.takeSum k number sum).vr d = sum ∧ ∀ r, r ≠ d → (th.takeSum k number sum).vr r = th.vr r := by
  simp only [Thread.takeSum]
  cases hd : th.sumDest with
  | none => exact ⟨rfl, rfl, fun _ => rfl, fun d h => nomatch h⟩
  | some d =>
    dsimp only
    rw [if_pos (by simp [hkey, harr])]
    refine ⟨rfl, rfl, (nomatch ·), fun d' h => ?_⟩
    cases h
    exact ⟨SMap.get_set_self .., fun r hr => SMap.get_set_other _ _ _ _ _ hr⟩

end

section
variable {s : State} {gid k : Nat} {g : Grp}

theorem State.tryOpen_of_misuse (hg : s.grp gid = some g) (hphase : g.phase = .running) (hfull : g.roundFull k = true)
    (hnew : (g.round k).groupArrived = false) (hmis : (g.round k).misuse = true) : s.tryOpen gid k = s.raise ⟨gid, 0⟩ xHurdle 0 := by
  simp only [State.tryOpen, hg, hphase, hfull, hnew, hmis, bne_self_eq_false, Bool.not_true, Bool.or_self, Bool.false_eq_true, if_false,
    if_true, State.misuse]
/-- The last arrival below paddock scope opens the round. -/
theorem State.tryOpen_of_full (hg : s.grp gid = some g) (hphase : g.phase = .running) (hfull : g.roundFull k = true)
    (hnew : (g.round k).groupArrived = false) (hmis : (g.round k).misuse = false) (hscope : keyScope k < 2) :
    s.tryOpen gid k = s.modGrp gid (fun g => g.openRound k []) := by
  have htorus : keyScope k ≠ scTorus := by
    rw [scTorus]
    omega
  have hpaddock : keyScope k ≠ 2 := by omega
  simp only [State.tryOpen, hg, hphase, hfull, hnew, hmis, htorus, hpaddock, bne_self_eq_false, Bool.not_true, Bool.or_self,
    Bool.false_eq_true, if_false]

end

/-! ### The statement -/

theorem hurdleArrivals_plain (op : (Thr → FmtS → Instr) × Bool) (hop : op ∈ [(Instr.hurdle, true), (.harrive, false)]) {s : State} {t : Thr}
    {f : FmtS} {g : Grp} {th : Thread} {k : Nat} (hi : Issues s t g th) (hf : HurdleFields f) (hgrd : GuardAt th f.grd 0) (h2 : FreeX th f.s2)
    (hk : k = hurdleAt g t f.scope f.id) (hat : AtHurdle g th f.scope.toNat f.id.toNat) : exec (op.1 t f) s =
      .next (s.arrive t g th k ⟨0, 0, tagOf f th, none, none⟩ op.2) := by
  subst hk
  rw [hurdles_plain op hop, State.plainArrive_of_issues op.2 hi hf hgrd h2, State.atHurdle_of_free _ hat]
  rfl

theorem scope_eq_three {b : BitVec 2} : b.toNat = 3 ↔ b = 3 := by rw [← BitVec.toNat_inj]; rfl

/-- Settles O27: an arrival joins its round; the last one opens it. -/
theorem hurdles : Obligations.Hurdles := by
  refine ⟨⟨fun op hop s t f g th k hi hf hgrd h2 hk => ?_,
      fun s t f g th k hi hgrd hscope hty hd h1 h3 hrsv htag h2 hv1 hk hat hnew => ?_,
      fun s t f g th k ps hi hgrd hscope hty hrsv hd h1 h2 h3 hk hat hnew hnone hlen hmul hdst hrange => ?_⟩,
    fun s t f g th k hi hf hgrd h2 hk hat => ?_, fun s gid k g hg hphase hfull hscope hnew => ⟨fun hmis => ?_, fun hmis => ?_⟩,
    fun g k sum => ⟨?_, ?_, fun j hj => Grp.round_opened_other g k sum hj, fun i th hth hst hkey harr hcopies => ?_⟩,
    fun s gid id g hg => ⟨fun hphase hid harr => ?_, fun harr => ?_⟩⟩
  · have hissue := (hurdles_plain op hop s t f).trans (congrArg Host.Outcome.next (State.plainArrive_of_issues op.2 hi hf hgrd h2))
    refine ⟨fun hmis => ?_, fun hok hbusy => ?_, fun hat hin => ?_, fun hat hnew => ?_⟩
    · rw [hissue, State.atHurdle_of_misused _ (by rwa [scope_eq_three])]
    · rw [hissue, State.atHurdle_of_busy _ (by rwa [scope_eq_three]) hbusy]
    · rw [hurdleArrivals_plain op hop hi hf hgrd h2 hk hat, State.arrive_of_arrived _ _ hin]
    · have hg := hi.1
      rw [hurdleArrivals_plain op hop hi hf hgrd h2 hk hat, State.arrive_of_new _ _ hnew]
      refine ⟨_, _, _, rfl, by simp, by simp, State.grp_joined hg k _ _, g.arrived_joined k t.idx _ _, rfl, rfl, rfl, rfl,
        SMap.get_set_self .., fun hw => ?_, fun hw => ?_⟩ <;> rw [hw] <;> exact ⟨rfl, rfl⟩
  · have hg := hi.1
    rw [exec_hurdleSum hi hgrd hscope hty hd h1 h3 hrsv htag h2 hv1 hk hat, State.arrive_of_new _ _ hnew]
    refine ⟨_, _, _, rfl, by simp, State.grp_joined hg k _ _, g.arrived_joined k t.idx _ _, ?_, rfl, rfl, rfl, rfl, rfl, rfl, fun hfirst => ?_⟩
    · rw [Grp.round_joined_self]
      exact SMap.get_set_self ..
    · rw [Grp.round_joined_self]
      simp [Round.join, hfirst]
  · have hg := hi.1
    rw [exec_collect hi hgrd hscope hty hrsv hd h1 h2 h3 hk hat hlen hmul hdst hrange, State.arrive_of_new _ _ hnew]
    refine ⟨_, _, _, collectOp t f th ps, rfl, by simp, State.grp_joined hg k _ _, g.arrived_joined k t.idx _ _, ?_, rfl, rfl, rfl, rfl, rfl, rfl,
      rfl, rfl, rfl, rfl, rfl⟩
    simp [Grp.joined, hnone]
  · subst hk
    have hexec := exec_hwait hi hf hgrd h2 hat
    refine ⟨fun hnone => ?_, fun n hn hlt => ⟨th.advance, ?_, th.advanced_advance⟩, fun n hn hle => 
      ⟨{ th.advance with st := .hurdle, waitKey := some (hurdleAt g t f.scope f.id), sumDest := none }, ?_, rfl, rfl, rfl, rfl, rfl, rfl⟩⟩
    · rw [hexec, hnone]
    · rw [hexec, hn]
      exact congrArg Host.Outcome.next (if_pos hlt)
    · rw [hexec, hn]
      exact congrArg Host.Outcome.next (if_neg (by omega))
  · exact State.tryOpen_of_misuse hg hphase hfull hnew hmis
  · rw [State.tryOpen_of_full hg hphase hfull hnew hmis hscope, State.grp_modGrp_self, hg]
    exact ⟨rfl, by simp⟩
  · rw [Grp.round_opened_self]
  · rw [Grp.round_opened_self]
    rfl
  · obtain ⟨hpc, hx, hv, hsum⟩ := Thread.regs_takeSum sum hkey harr
    exact ⟨_, Grp.th_openRound sum hth hst hkey harr hcopies, rfl, rfl, hpc, hx, hv, hsum⟩
  · refine congrArg Host.Outcome.next ?_
    have harr' : (g.round (hurdleKey scTorus 0 id)).groupArrived = true := harr
    simp only [hg, hphase, hid, harr', beq_self_eq_true, decide_true, Bool.and_self, if_true]
  · refine congrArg Host.Outcome.next ?_
    have harr' : (g.round (hurdleKey scTorus 0 id)).groupArrived = false := harr
    simp only [hg, harr', Bool.and_false, Bool.false_eq_true, if_false]

end Sys2Proof.Machine
end

section
/-! SUPPORT. Checks, check windows and the special instructions (R196 to R199, R243, R245). -/

namespace Sys2Proof.Machine
open Sys2Proof Sys2Proof.Claims

section
variable {s : State} {t : Thr} {g : Grp} {th : Thread}

theorem plainI_of_fields {f : FmtI} (hd : f.d = 0) (h1 : f.s1 = 0) (hty : f.ty = 0) (hrsv : f.rsv = 0) (himm : f.imm = 0) : plainI f = true := by
  simp [plainI, hd, h1, hty, hrsv, himm]
theorem specialLegal_of_fields {f : FmtI} {imm : Bool} (h1 : f.s1 = 0) (hty : f.ty = 0) (hrsv : f.rsv = 0) (himm : imm = true ∨ f.imm = 0) :
    specialLegal f imm = true := by
  simpa [specialLegal, h1, hty, hrsv] using himm

/-- Nothing that a CHK.SYNC waits for is left: no window is open, and neither a FEVAL nor a tensor operation of the thread is under way. -/
def syncDone (t : Thr) (g : Grp) (th : Thread) : Bool :=
  th.windows = 0 && g.windows = 0 && th.fevals.isEmpty && !(g.tq.get [] (g.coreOf t.idx)).any (fun o => o.thread = t.idx)

theorem syncDone_of_idle (hth : th.windows = 0) (hg : g.windows = 0) (hfe : th.fevals = [])
    (htq : ∀ o ∈ g.tq.get [] (g.coreOf t.idx), o.thread ≠ t.idx) : syncDone t g th = true := by
  simpa [syncDone, hth, hg, hfe] using htq
theorem syncDone_of_busy (h : th.windows ≠ 0 ∨ g.windows ≠ 0 ∨ th.fevals ≠ []) : ¬syncDone t g th = true := by
  intro hdone
  simp only [syncDone, Bool.and_eq_true, decide_eq_true_iff, List.isEmpty_iff] at hdone
  obtain ⟨⟨⟨hth, hg⟩, hfe⟩, -⟩ := hdone
  exact h.elim (· hth) (Or.elim · (· hg) (· hfe))

theorem exec_chkSync {f : FmtI} (hi : Issues s t g th) (hlegal : plainI f = true) (hgrd : GuardAt th f.grd 0) :
    exec (.chkSync t f) s = .next (if syncDone t g th = true then s.retire t g th.advance else s) :=
  congrArg Host.Outcome.next (State.insn_of_issues false _ hi hlegal hgrd (by simp) (by simp))

theorem exec_chkCmp_scalar {f : FmtR} (hi : Issues s t g th) (hd : f.d = 0) (h3 : f.s3 = 0) (hcond : f.cond = 0) (hrsv : f.rsv = 0)
    (hty : f.ty = 0) (hgrd : GuardAt th f.grd 0) (h1 : FreeX th f.s1) (h2 : FreeX th f.s2) : exec (.chkCmp t f) s =
      .next (if (th.xr f.s1.toNat == th.xr f.s2.toNat) = true then s.retire t g th.advance else s.checkMismatch t.gid) := by
  have hlegal : (f.d == 0 && f.s3 == 0 && f.cond == 0 && f.rsv == 0 && f.ty == 0) = true := by simp [hd, h3, hcond, hrsv, hty]
  exact congrArg Host.Outcome.next ((if_neg (by simp [hty])).trans
    (State.insn_of_issues false _ hi hlegal hgrd (free_pair h1 h2) (by simp)))
theorem exec_chkCmp_vector {f : FmtR} (hi : Issues s t g th) (hd : f.d = 0) (h3 : f.s3 = 0) (hcond : f.cond = 0) (hrsv : f.rsv = 0)
    (hty : f.ty = 4) (hgrd : GuardWf f.grd) (h1 : f.s1.toNat < 32) (h2 : f.s2.toNat < 32) (hv1 : FreeV th f.s1) (hv2 : FreeV th f.s2) :
    exec (.chkCmp t f) s = .next (if ((List.range 32).filter (active th f.grd)).all
        (fun i => laneAt (th.vr f.s1.toNat) i == laneAt (th.vr f.s2.toNat) i) = true then s.retire t g th.advance
      else s.checkMismatch t.gid) := by
  have hlegal : (f.d == 0 && f.s3 == 0 && f.cond == 0 && f.rsv == 0 && isV f.s1 && isV f.s2) = true := by
    simp [hd, h3, hcond, hrsv, isV, h1, h2]
  rw [← lanes_eq_filter_active hgrd]
  exact congrArg Host.Outcome.next ((if_pos (by simp [hty])).trans
    (State.insn_vec_of_issues hi hlegal hgrd (by simp) (by simpa using ⟨hv1, hv2⟩)))
theorem exec_chkAssert_of_set {f : FmtR} (hi : Issues s t g th) (hd : f.d = 0) (h1 : f.s1.toNat < 8) (h2 : f.s2 = 0) (h3 : f.s3 = 0)
    (hty : f.ty = 0) (hcond : f.cond = 0) (hrsv : f.rsv = 0) (hgrd : GuardAt th f.grd 0) (hset : (th.pr f.s1.toNat).getLsbD 0 = true) :
    exec (.chkAssert t f) s = .next (s.retire t g th.advance) := by
  have hlegal : (f.d == 0 && isP f.s1 && f.s2 == 0 && f.s3 == 0 && f.ty == 0 && f.cond == 0 && f.rsv == 0) = true := by
    simp [hd, isP, h1, h2, h3, hty, hcond, hrsv]
  exact congrArg Host.Outcome.next ((State.insn_of_issues false _ hi hlegal hgrd (by simp) (by simp)).trans (if_pos hset))

/-- What a mismatch leads to, once it has been counted against the record. -/
theorem State.checkMismatch_of_entry {gid : Nat} {j : JEntry} (hg : s.grp gid = some g) (hj : s.entry g.fn g.entry = some j) :
    s.checkMismatch gid =
      if 4 ≤ j.mismatches + 1 then ((s.modEntry g.fn g.entry (fun j => { j with mismatches := j.mismatches + 1 })).endRecord
        gid g.fn g.entry stFaulted xCheck).progress g.fn
      else (s.modEntry g.fn g.entry (fun j => { j with mismatches := j.mismatches + 1 })).datapathError gid true := by
  simp only [State.checkMismatch, hg, State.entry_modEntry_self hj]

/-- A thread that has closed one of its check windows. -/
def Thread.windowClosed (th : Thread) : Thread := { th with windows := th.windows - 1 }

theorem exec_checkWindowClose_thread {gid i : Nat} (error : Bool) (hg : s.grp gid = some g) (hth : g.th i = some th) (hwin : 0 < th.windows) :
    exec (.checkWindowClose gid (some i) error) s = .next
      (if error = true then (s.setTh ⟨gid, i⟩ th.windowClosed).datapathError gid true else s.setTh ⟨gid, i⟩ th.windowClosed) := by
  refine congrArg Host.Outcome.next ?_
  simp only [hg, hth, hwin.ne', if_false]
  rfl
theorem exec_checkWindowClose_group {gid : Nat} (error : Bool) (hg : s.grp gid = some g) (hwin : 0 < g.windows) :
    exec (.checkWindowClose gid none error) s = .next
      (if error = true then (s.setGrp gid { g with windows := g.windows - 1 }).datapathError gid true
       else s.setGrp gid { g with windows := g.windows - 1 }) := by
  refine congrArg Host.Outcome.next ?_
  simp only [hg, hwin.ne', if_false]

theorem Thread.lastTime_setX (th : Thread) (r : Nat) (v : W64) : (th.setX r v).lastTime = th.lastTime := by
  rw [Thread.setX]
  split <;> rfl

variable {f : FmtI}

theorem exec_rdtime (hi : Issues s t g th) (hlegal : specialLegal f false = true) (hgrd : GuardAt th f.grd 0) :
    exec (.rdtime t f) s = .next
      (s.doneX t g { th with lastTime := max s.time th.lastTime } f.d (BitVec.ofNat 64 (max s.time th.lastTime))) :=
  congrArg Host.Outcome.next (State.insn_of_issues false _ hi hlegal hgrd (by simp) (by simp))
theorem exec_rdcnt (hi : Issues s t g th) (hlegal : specialLegal f true = true) (himm : f.imm = 0 ∨ f.imm = 1) (hgrd : GuardAt th f.grd 0) :
    exec (.rdcnt t f) s = .next (if s.confidential g.fn = true then s.doneX t g th f.d 0
      else if (f.imm == 1) = true then s.doneX t g th f.d (BitVec.ofNat 64 th.issued)
      else s.drawn.doneX t g th f.d (BitVec.ofNat 64 s.free)) := by
  have hlegal' : (specialLegal f true && (f.imm == 0 || f.imm == 1)) = true := by simpa [hlegal] using himm
  exact congrArg Host.Outcome.next (State.insn_of_issues false _ hi hlegal' hgrd (by simp) (by simp))
theorem exec_rand (hi : Issues s t g th) (hlegal : specialLegal f false = true) (hgrd : GuardAt th f.grd 0) :
    exec (.rand t f) s = .next (s.drawn.doneX t g th f.d (BitVec.ofNat 64 s.free)) :=
  congrArg Host.Outcome.next (State.insn_of_issues false _ hi hlegal hgrd (by simp) (by simp))

end

/-- Settles O30: each instruction issues with a legal encoding; what it then does is one branch on its operands. -/
theorem checksAndSpecials : Obligations.ChecksAndSpecials := by
  refine ⟨fun s t f g th hi hd h1 hty hrsv himm hgrd => ?_,
    fun s t f g th hi hd h3 hcond hrsv => ⟨fun hty hgrd h1 h2 => ?_, fun hty hgrd h1 h2 hv1 hv2 => ?_⟩,
    fun s gid g j hg hj => ?_,
    fun s t f g th hi hd h1 h2 h3 hty hcond hrsv hgrd => ⟨fun hset => ⟨th.advance, ?_, th.advanced_advance⟩, fun hclear => ?_⟩,
    fun s gid i g th error hg hth hwin => ⟨s.setTh ⟨gid, i⟩ th.windowClosed, exec_checkWindowClose_thread error hg hth hwin, ?_, by simp [State.setTh], by simp [State.setTh]⟩,
    fun s gid g error hg hwin => ⟨_, exec_checkWindowClose_group error hg hwin, State.grp_setGrp_self .., rfl, rfl⟩,
    fun s t f g th hi h1 hty hrsv hgrd => ⟨fun himm => ?_, fun himm hconf => ?_, fun himm hconf => ?_, fun himm hconf => ?_, fun himm => ?_⟩⟩
  · have hexec := exec_chkSync hi (plainI_of_fields hd h1 hty hrsv himm) hgrd
    refine ⟨fun hth hg hfe htq => ⟨th.advance, ?_, th.advanced_advance⟩, fun hbusy => ?_⟩
    · rw [hexec, if_pos (syncDone_of_idle hth hg hfe htq)]
    · rw [hexec, if_neg (syncDone_of_busy hbusy)]
  · have hexec := exec_chkCmp_scalar hi hd h3 hcond hrsv hty hgrd h1 h2
    refine ⟨fun heq => ⟨th.advance, ?_, th.advanced_advance⟩, fun hne => ?_⟩
    · rw [hexec, if_pos (beq_iff_eq.mpr heq)]
    · rw [hexec, if_neg (by simpa using hne)]
  · have hexec := exec_chkCmp_vector hi hd h3 hcond hrsv hty hgrd h1 h2 hv1 hv2
    refine ⟨fun heq => ⟨th.advance, ?_, th.advanced_advance⟩, fun hne => ?_⟩
    · rw [hexec, if_pos (List.all_eq_true.mpr fun i hi => beq_iff_eq.mpr ?_)]
      obtain ⟨hlt, hact⟩ := List.mem_filter.mp hi
      exact heq i (List.mem_range.mp hlt) hact
    · rw [hexec, if_neg (by simpa using hne)]
  · refine ⟨s.modEntry g.fn g.entry (fun j => { j with mismatches := j.mismatches + 1 }), State.entry_modEntry_self hj _, rfl, rfl,
      fun hlt => ?_, fun hle => ?_⟩
    · rw [State.checkMismatch_of_entry hg hj, if_neg (by omega)]
    · rw [State.checkMismatch_of_entry hg hj, if_pos (by omega)]
  · exact exec_chkAssert_of_set hi hd h1 h2 h3 hty hcond hrsv hgrd hset
  · exact exec_chkAssert_of_clear hi hd h1 h2 h3 hty hcond hrsv hgrd hclear
  · rw [State.setTh, State.grp_modGrp_self, hg]
    rfl
  · refine ⟨_, exec_rdtime hi (specialLegal_of_fields h1 hty hrsv (.inr himm)) hgrd, ?_, ?_⟩
    · exact wroteX_setX { th with lastTime := max s.time th.lastTime } f.d _
    · exact Thread.lastTime_setX _ f.d.toNat _
  · refine wroteX_of_doneX ((exec_rdcnt hi (specialLegal_of_fields h1 hty hrsv (.inl rfl)) ?_ hgrd).trans ?_) rfl
    · have hlt : f.imm.toNat = 0 ∨ f.imm.toNat = 1 := by omega
      exact hlt.imp (fun h => BitVec.eq_of_toNat_eq h) (fun h => BitVec.eq_of_toNat_eq h)
    · rw [if_pos hconf]
  · refine wroteX_of_doneX ((exec_rdcnt hi (specialLegal_of_fields h1 hty hrsv (.inl rfl)) (.inr himm) hgrd).trans ?_) rfl
    rw [if_neg (by simp [hconf]), if_pos (by simp [himm])]
  · refine wroteX_of_doneX ((exec_rdcnt hi (specialLegal_of_fields h1 hty hrsv (.inl rfl)) (.inl himm) hgrd).trans ?_) rfl
    rw [if_neg (by simp [hconf]), if_neg (by simp [himm])]
    rfl
  · exact wroteX_of_doneX (exec_rand hi (specialLegal_of_fields h1 hty hrsv (.inr himm)) hgrd) rfl

end Sys2Proof.Machine
end

section
/-! SUPPORT. Tensor operations: their issue and what they do to a tile (R191 to R195, R207, R219, R226). -/

namespace Sys2Proof.Machine
open Sys2Proof Sys2Proof.Claims

/-! ### Maps -/

theorem SMap.find_filter {α : Type} (q : Nat → Bool) (m : SMap α) (k : Nat) :
    SMap.find (m.filter (fun p => q p.1)) k = if q k = true then m.find k else none := by
  induction m with
  | nil => simp [SMap.find]
  | cons p m ih =>
    obtain ⟨j, v⟩ := p
    by_cases hj : j = k
    · subst hj
      by_cases hq : q j = true
      · simp [SMap.find, hq]
      · simp [hq, ih]
    · by_cases hq : q j = true
      · simp [SMap.find, hq, hj, ih]
      · simp [SMap.find, hq, hj, ih]

section
variable {α β : Type} (d : α) (key : β → Nat) (f : β → α → α)

/-- Update the values at the keys of a list, one after the other. -/
def SMap.updateAll (l : List β) (m : SMap α) : SMap α := l.foldl (fun m e => m.set (key e) (f e (m.get d (key e)))) m

theorem SMap.get_updateAll_other {k : Nat} {l : List β} (h : ∀ e ∈ l, key e ≠ k) (m : SMap α) :
    (SMap.updateAll d key f l m).get d k = m.get d k := by
  induction l generalizing m with
  | nil => rfl
  | cons e l ih =>
    obtain ⟨he, hl⟩ := List.forall_mem_cons.mp h
    exact (ih hl _).trans (SMap.get_set_other _ _ _ _ _ he.symm)
theorem SMap.get_updateAll_self {l : List β} (hl : l.Nodup) (hinj : ∀ a ∈ l, ∀ b ∈ l, key a = key b → a = b) {e : β} (he : e ∈ l)
    (m : SMap α) : (SMap.updateAll d key f l m).get d (key e) = f e (m.get d (key e)) := by
  induction l generalizing m with
  | nil => simp at he
  | cons b l ih =>
    obtain ⟨hb, hnodup⟩ := List.nodup_cons.mp hl
    have hinj' : ∀ x ∈ l, ∀ y ∈ l, key x = key y → x = y :=
      fun x hx y hy => hinj x (List.mem_cons_of_mem b hx) y (List.mem_cons_of_mem b hy)
    obtain rfl | hel := List.mem_cons.mp he
    · have hout : ∀ x ∈ l, key x ≠ key e := fun x hx heq => hb (hinj x (List.mem_cons_of_mem e hx) e List.mem_cons_self heq ▸ hx)
      exact (SMap.get_updateAll_other d key f hout _).trans (SMap.get_set_self ..)
    · have hne : key e ≠ key b := fun heq => hb (hinj e he b List.mem_cons_self heq ▸ hel)
      refine (ih hnodup hinj' hel _).trans ?_
      rw [SMap.get_set_other _ _ _ _ _ hne]

end

/-! ### Tiles -/

theorem tileKey_inj {c c' i i' e e' : Nat} (hi : i < 4) (hi' : i' < 4) (he : e < 1024) (he' : e' < 1024) (h : tileKey c i e = tileKey c' i' e') :
    c = c' ∧ i = i' ∧ e = e' := by
  rw [tileKey, tileKey] at h
  omega

section
variable (g : Grp) {core tile : Nat}

theorem Grp.find_zeroTile (k : Nat) : (g.zeroTile core tile).tiles.find k =
    if (k / 1024 != tileKey core tile 0 / 1024) = true then g.tiles.find k else none :=
  SMap.find_filter (fun k => k / 1024 != tileKey core tile 0 / 1024) g.tiles k
theorem Grp.elem_zeroTile_self {e : Nat} (he : e < 1024) : (g.zeroTile core tile).elem core tile e = Xa.zero := by
  have hkey : tileKey core tile e / 1024 = tileKey core tile 0 / 1024 := by
    rw [tileKey, tileKey]
    omega
  rw [Grp.elem, SMap.get_eq_find, Grp.find_zeroTile, if_neg (by simp [hkey])]
  rfl
theorem Grp.elem_zeroTile_other {c i e : Nat} (htile : tile < 4) (hi : i < 4) (he : e < 1024) (hne : ¬(c = core ∧ i = tile)) :
    (g.zeroTile core tile).elem c i e = g.elem c i e := by
  have hkey : tileKey c i e / 1024 ≠ tileKey core tile 0 / 1024 := by
    rw [tileKey, tileKey]
    omega
  rw [Grp.elem, Grp.elem, SMap.get_eq_find, SMap.get_eq_find, Grp.find_zeroTile, if_pos (by simpa using hkey)]

variable (fa fb : Fmt) (k : Nat) (a b sc : List Byte)

/-- What a TMMA does to an element of its tile. -/
def slabs (e : Nat) (x : Xa) : Xa :=
  addAllSlabs fa fb a b (if fa.mx then sc.take k else []) (if fb.mx then sc.drop (if fa.mx then k else 0) else []) k (e / 32) (e % 32) x

theorem Grp.tiles_tmma : (g.tmma core tile fa fb k a b sc).tiles =
    SMap.updateAll Xa.zero (tileKey core tile) (slabs fa fb k a b sc) (List.range 1024) g.tiles := by
  simp only [Grp.tmma, SMap.updateAll, slabs]
theorem Grp.tmma_frame : (g.tmma core tile fa fb k a b sc).tq = g.tq ∧ (g.tmma core tile fa fb k a b sc).staged = g.staged ∧
    (g.tmma core tile fa fb k a b sc).phase = g.phase := by
  simp only [Grp.tmma, and_self]
theorem Grp.elem_tmma_self {e : Nat} (htile : tile < 4) (he : e < 1024) :
    (g.tmma core tile fa fb k a b sc).elem core tile e = slabs fa fb k a b sc e (g.elem core tile e) := by
  rw [Grp.elem, Grp.tiles_tmma]
  exact SMap.get_updateAll_self Xa.zero (tileKey core tile) (slabs fa fb k a b sc) List.nodup_range
    (fun _ hx _ hy h => (tileKey_inj htile htile (List.mem_range.mp hx) (List.mem_range.mp hy) h).2.2) (List.mem_range.mpr he) g.tiles
theorem Grp.elem_tmma_other {c i e : Nat} (htile : tile < 4) (hi : i < 4) (he : e < 1024) (hne : ¬(c = core ∧ i = tile)) :
    (g.tmma core tile fa fb k a b sc).elem c i e = g.elem c i e := by
  rw [Grp.elem, Grp.tiles_tmma]
  refine SMap.get_updateAll_other Xa.zero (tileKey core tile) (slabs fa fb k a b sc) (fun x hx heq => ?_) g.tiles
  obtain ⟨hc, hit, -⟩ := tileKey_inj htile hi (List.mem_range.mp hx) he heq
  exact hne ⟨hc.symm, hit.symm⟩

/-- A group that differs from another at most in its threads and in what it keeps of extended entries. -/
def Grp.SameTiles (h b : Grp) : Prop := h.tiles = b.tiles ∧ h.tq = b.tq ∧ h.staged = b.staged ∧ h.phase = b.phase

theorem Grp.SameTiles.trans {a b c : Grp} (hab : a.SameTiles b) (hbc : b.SameTiles c) : a.SameTiles c := by
  obtain ⟨ht, hq, hs, hp⟩ := hab
  obtain ⟨ht', hq', hs', hp'⟩ := hbc
  exact ⟨ht.trans ht', hq.trans hq', hs.trans hs', hp.trans hp'⟩
theorem Grp.SameTiles.zeroTile {h b : Grp} (hs : h.SameTiles b) (core tile : Nat) : (h.zeroTile core tile).SameTiles (b.zeroTile core tile) := by
  obtain ⟨htiles, hrest⟩ := hs
  exact ⟨congrArg (List.filter _) htiles, hrest⟩
theorem Grp.SameTiles.elem_eq {h b : Grp} (hs : h.SameTiles b) (c i e : Nat) : h.elem c i e = b.elem c i e := by
  rw [Grp.elem, Grp.elem, hs.1]

end

/-! ### The operations -/

section
variable {s : State} {gid : Nat} {g : Grp}

theorem State.modGrp_of_grp (hg : s.grp gid = some g) (h : Grp → Grp) : s.modGrp gid h = s.setGrp gid (h g) := by
  simp only [State.modGrp, hg]

theorem State.grp_touchTile (hg : s.grp gid = some g) (core tile : Nat) : ∃ h, (s.touchTile gid core tile).grp gid = some h ∧ h.SameTiles g := by
  simp only [State.touchTile, hg, State.grp_tallyP]
  exact ⟨_, State.grp_setGrp_self .., rfl, rfl, rfl, rfl⟩
theorem State.grp_openWindows (hg : s.grp gid = some g) (idx n : Nat) :
    ∃ h, (s.openWindows gid idx n).grp gid = some h ∧ h.SameTiles g := by
  rw [State.openWindows, State.modTh, State.grp_modGrp_self, hg]
  refine ⟨_, rfl, ?_⟩
  dsimp only
  split <;> exact ⟨rfl, rfl, rfl, rfl⟩

/-- Touching a tile and opening windows on a thread leave tiles and memory. -/
theorem State.touched (hg : s.grp gid = some g) (core tile idx n : Nat) :
    ∃ h, ((s.touchTile gid core tile).openWindows gid idx n).grp gid = some h ∧ h.SameTiles g := by
  obtain ⟨h, hgrp, hsame⟩ := State.grp_touchTile hg core tile
  obtain ⟨h', hgrp', hsame'⟩ := State.grp_openWindows hgrp idx n
  exact ⟨h', hgrp', hsame'.trans hsame⟩

variable {core : Nat} {o : TOp}

theorem State.tensorOp_tzero (hg : s.grp gid = some g) (hk : o.kind = .tzero) (g' : Grp) :
    (s.tensorOp gid core g' o).mem = s.mem ∧ (s.tensorOp gid core g' o).grp gid = some (g.zeroTile core o.tile) := by
  simp only [State.tensorOp, hk, State.modGrp_of_grp hg]
  exact ⟨rfl, State.grp_setGrp_self ..⟩
theorem State.tensorOp_tmma {na nb k : Nat} {a b sc : List Byte} {fa fb : Fmt} (hg : s.grp gid = some g) (hk : o.kind = .tmma na nb k a b sc)
    (ha : Fmt.ofNibble na = some fa) (hb : Fmt.ofNibble nb = some fb) (g' : Grp) : (s.tensorOp gid core g' o).mem = s.mem ∧
      ∃ h, (s.tensorOp gid core g' o).grp gid = some h ∧ h.SameTiles (g.tmma core o.tile fa fb k a b sc) := by
  simp only [State.tensorOp, hk, ha, hb, State.modGrp_of_grp hg]
  refine ⟨by simp [State.setGrp], State.touched ?_ core o.tile o.thread (k / 32)⟩
  rw [State.grp_tallyP, State.grp_tallyP, State.grp_setGrp_self]
theorem State.tensorOp_trd {na rnd sa op : Nat} {clr : Bool} {f : Fmt} {m : Rnd} (hg : s.grp gid = some g) (hk : o.kind = .trd na rnd sa clr op)
    (ha : Fmt.ofNibble na = some f) (hm : Rnd.ofBits rnd = some m) (g' : Grp) :
    (s.tensorOp gid core g' o).mem = (s.store (coreAddr (g'.globalCore core) sa) (s.trdBytes g' core o.tile f m o.thread op)).mem ∧
      ∃ h, (s.tensorOp gid core g' o).grp gid = some h ∧ h.SameTiles (if clr then g.zeroTile core o.tile else g) := by
  simp only [State.tensorOp, hk, ha, hm]
  have hst : (s.store (coreAddr (g'.globalCore core) sa) (s.trdBytes g' core o.tile f m o.thread op)).grp gid = some g := by
    simpa [State.grp] using hg
  obtain ⟨h, hgrp, hsame⟩ := State.grp_touchTile hst core o.tile
  cases clr with
  | false =>
    obtain ⟨h', hgrp', hsame'⟩ := State.grp_openWindows hgrp o.thread 1
    exact ⟨by simp, h', hgrp', hsame'.trans hsame⟩
  | true =>
    simp only [if_true, State.modGrp_of_grp hgrp]
    obtain ⟨h', hgrp', hsame'⟩ := State.grp_openWindows (State.grp_setGrp_self _ gid (h.zeroTile core o.tile)) o.thread 1
    exact ⟨by simp [State.setGrp], h', hgrp', hsame'.trans (hsame.zeroTile core o.tile)⟩

end

/-! ### Issue -/

section
variable {s : State} {t : Thr} {f : FmtT} {g : Grp} {th : Thread}

theorem State.withTile_of_le {tile : Nat} (k : State) (h : g.prog.accTiles ≤ tile) : s.withTile t g tile k = s.raise t xTile 0 := if_pos h
theorem State.withTile_of_lt {tile : Nat} (k : State) (h : tile < g.prog.accTiles) : s.withTile t g tile k = k := if_neg (by omega)

/-- An operation that finds room joins the queue of its core. -/
theorem State.exists_enqueue (hg : s.grp t.gid = some g) (th : Thread) (o : TOp) (hroom : (g.tq.get [] (g.coreOf t.idx)).length < 8) :
    ∃ (u : State) (h : Grp), s.enqueue t g th o = u.retire t g th.advance ∧ u.mem = s.mem ∧ u.grp t.gid = some h ∧ h.tiles = g.tiles ∧
      h.tq.get [] (g.coreOf t.idx) = g.tq.get [] (g.coreOf t.idx) ++ [o] := by
  refine ⟨_, { g with tq := g.tq.set (g.coreOf t.idx) (g.tq.get [] (g.coreOf t.idx) ++ [o]) }, if_neg (by omega), ?_, ?_, rfl,
    SMap.get_set_self ..⟩
  · simp
  · rw [State.grp_modGrp_self, hg]
    rfl

theorem tileOnly_of_fields (ha : f.sa = 0) (hb : f.sb = 0) (hk : f.sk = 0) (hs : f.ss = 0) (hfa : f.fmtA = 0) (hfb : f.fmtB = 0) (hr : f.rnd = 0)
    (hc : f.clr = 0) (hrsv : f.rsv = 0) : tileOnly f = true := by
  simp [tileOnly, ha, hb, hk, hs, hfa, hfb, hr, hc, hrsv]

theorem exec_tzero (hi : Issues s t g th) (hlegal : tileOnly f = true) (hgrd : GuardAt th f.grd 0) : exec (.tzero t f) s =
    .next (s.withTile t g f.tile.toNat (s.enqueue t g th ⟨f.tile.toNat, t.idx, .tzero⟩)) :=
  congrArg Host.Outcome.next (State.insn_of_issues false _ hi hlegal hgrd (by simp) (by simp))
theorem exec_twait (hi : Issues s t g th) (hlegal : tileOnly f = true) (hgrd : GuardAt th f.grd 0) : exec (.twait t f) s =
    .next (s.withTile t g f.tile.toNat
      (if (g.tq.get [] (g.coreOf t.idx)).any (fun o => o.tile = f.tile.toNat) = true then s else s.retire t g th.advance)) :=
  congrArg Host.Outcome.next (State.insn_of_issues false _ hi hlegal hgrd (by simp) (by simp))

theorem not_misaligned {a b c : Nat} (ha : a % 64 = 0) (hb : b % 64 = 0) (hc : c % 64 = 0) :
    ¬(decide (a % 64 ≠ 0) || decide (b % 64 ≠ 0) || decide (c % 64 ≠ 0)) = true := by simp [ha, hb, hc]

theorem free_four {a b c d : BitVec 6} (ha : FreeX th a) (hb : FreeX th b) (hc : FreeX th c) (hd : FreeX th d) :
    ∀ r ∈ [a.toNat, b.toNat, c.toNat, d.toNat], r = 0 ∨ r ∉ th.pendX := fun r hr =>
  (List.mem_append.mp (show r ∈ [a.toNat, b.toNat] ++ [c.toNat, d.toNat] from hr)).elim (free_pair ha hb r) (free_pair hc hd r)

theorem exec_tmma {fa fb : Fmt} (hi : Issues s t g th) (ha : Fmt.ofNibble f.fmtA.toNat = some fa) (hb : Fmt.ofNibble f.fmtB.toNat = some fb)
    (hca : fa.cls ≤ 16) (hcb : fb.cls ≤ 16) (hr : f.rnd = 0) (hc : f.clr = 0) (hrsv : f.rsv = 0) (hss : fa.mx = true ∨ fb.mx = true ∨ f.ss = 0)
    (hgrd : GuardAt th f.grd 0) (hxa : FreeX th f.sa) (hxb : FreeX th f.sb) (hxk : FreeX th f.sk) (hxs : FreeX th f.ss) :
    exec (.tmma t f) s = .next (s.tmmaAt t f fa fb g th) := by
  have hlegal : (fa.cls ≤ 16 && fb.cls ≤ 16 && f.rnd == 0 && f.clr == 0 && f.rsv == 0 && (fa.mx || fb.mx || f.ss == 0)) = true := by
    simpa [hca, hcb, hr, hc, hrsv, or_assoc] using hss
  refine congrArg Host.Outcome.next ?_
  simp only [ha, hb]
  exact State.insn_of_issues false _ hi hlegal hgrd (free_four hxa hxb hxk hxs) (by simp)

/-- Rows a format of TRD writes, and their width. -/
theorem exec_trd {fa : Fmt} {m : Rnd} (hi : Issues s t g th) (hfmt : f.fmtA.toNat ∈ [12, 13, 10, 11, 4, 5])
    (ha : Fmt.ofNibble f.fmtA.toNat = some fa) (hm : Rnd.ofBits f.rnd.toNat = some m) (hb : f.sb = 0) (hk : f.sk = 0) (hs : f.ss = 0)
    (hfb : f.fmtB = 0) (hrsv : f.rsv = 0) (hgrd : GuardAt th f.grd 0) (hxa : FreeX th f.sa) (halign : (th.xr f.sa.toNat).toNat % 64 = 0)
    (hreach : s.coreRanges t g th .store [(th.xr f.sa.toNat, 128 * fa.width)] = (none, false)) (htile : f.tile.toNat < g.prog.accTiles) :
    exec (.trd t f) s = .next (s.enqueue t g { th with op := th.op + boolN (m == .sr) }
      ⟨f.tile.toNat, t.idx, .trd f.fmtA.toNat f.rnd.toNat (th.xr f.sa.toNat).toNat (f.clr == 1) th.op⟩) := by
  have hlegal : (trdFmt f.fmtA.toNat && (Rnd.ofBits f.rnd.toNat).isSome && f.sb == 0 && f.sk == 0 && f.ss == 0 && f.fmtB == 0 && f.rsv == 0)
      = true := by
    simpa [trdFmt, hm, hb, hk, hs, hfb, hrsv, or_assoc] using hfmt
  refine congrArg Host.Outcome.next ((State.insn_of_issues false _ hi hlegal hgrd (free_single hxa) (by simp)).trans ?_)
  simp only [ha, halign, hreach, hm, ne_eq, not_true_eq_false, if_false]
  exact State.withTile_of_lt _ htile

end

/-! ### The statement -/

section
variable {s : State} {gid core : Nat} {g : Grp} {o : TOp} {rest : List TOp}

theorem exec_tensorOpComplete (hg : s.grp gid = some g) (hphase : g.phase = .running ∨ g.phase = .saving) (hq : g.tq.get [] core = o :: rest) :
    exec (.tensorOpComplete gid core) s = .next (((s.setGrp gid { g with tq := g.tq.set core rest }).tensorOp gid core g o).settleGroup gid) := by
  have hrun : (g.phase == .running || g.phase == .saving) = true := by simpa using hphase
  refine congrArg Host.Outcome.next ?_
  simp only [hg, hrun, Bool.not_true, Bool.false_eq_true, if_false, hq, State.modGrp_of_grp hg]

end

/-- A group whose queue of one core has moved on. -/
def Grp.dequeued (g : Grp) (core : Nat) (rest : List TOp) : Grp := { g with tq := g.tq.set core rest }
/-- What a completed operation leaves of its group. -/
def Grp.After (h g : Grp) (core tile : Nat) (rest : List TOp) : Prop :=
  h.tq.get [] core = rest ∧ h.staged = g.staged ∧ h.phase = g.phase ∧
    ∀ c i e, i < 4 → e < 1024 → ¬(c = core ∧ i = tile) → h.elem c i e = g.elem c i e

section
variable {g h : Grp} {core tile : Nat} {rest : List TOp}

theorem Grp.SameTiles.after_dequeued (hs : h.SameTiles (g.dequeued core rest)) :
    h.After g core tile rest ∧ ∀ e, h.elem core tile e = g.elem core tile e := by
  obtain ⟨-, hq, hst, hph⟩ := id hs
  refine ⟨⟨?_, hst, hph, fun c i e _ _ _ => hs.elem_eq c i e⟩, hs.elem_eq core tile⟩
  rw [hq]
  exact SMap.get_set_self ..
theorem Grp.SameTiles.after_zeroTile (htile : tile < 4) (hs : h.SameTiles ((g.dequeued core rest).zeroTile core tile)) :
    h.After g core tile rest ∧ ∀ e, e < 1024 → h.elem core tile e = Xa.zero := by
  obtain ⟨-, hq, hst, hph⟩ := id hs
  refine ⟨⟨?_, hst, hph, fun c i e hi he hne => ?_⟩, fun e he => (hs.elem_eq core tile e).trans (Grp.elem_zeroTile_self _ he)⟩
  · rw [hq]
    exact SMap.get_set_self ..
  · exact (hs.elem_eq c i e).trans (Grp.elem_zeroTile_other (g.dequeued core rest) htile hi he hne)
theorem Grp.SameTiles.after_tmma {fa fb : Fmt} {k : Nat} {a b sc : List Byte} (htile : tile < 4)
    (hs : h.SameTiles ((g.dequeued core rest).tmma core tile fa fb k a b sc)) :
    h.After g core tile rest ∧ ∀ e, e < 1024 → h.elem core tile e = slabs fa fb k a b sc e (g.elem core tile e) := by
  obtain ⟨-, hq, hst, hph⟩ := id hs
  obtain ⟨hq', hst', hph'⟩ := Grp.tmma_frame (g.dequeued core rest) (core := core) (tile := tile) fa fb k a b sc
  refine ⟨⟨?_, hst.trans hst', hph.trans hph', fun c i e hi he hne => ?_⟩,
    fun e he => (hs.elem_eq core tile e).trans (Grp.elem_tmma_self _ _ _ _ _ _ _ htile he)⟩
  · rw [hq, hq']
    exact SMap.get_set_self ..
  · exact (hs.elem_eq c i e).trans (Grp.elem_tmma_other (g.dequeued core rest) _ _ _ _ _ _ htile hi he hne)

end

/-- An operation of a format that does not exist changes nothing. -/
theorem State.tensorOp_unformatted {s : State} {gid core : Nat} {g : Grp} {o : TOp}
    (hk : o.kind ≠ .tzero) (htmma : ∀ na nb k a b sc, o.kind = .tmma na nb k a b sc → Fmt.ofNibble na = none ∨ Fmt.ofNibble nb = none)
    (htrd : ∀ na rnd sa clr op, o.kind = .trd na rnd sa clr op → Fmt.ofNibble na = none ∨ Rnd.ofBits rnd = none) :
    s.tensorOp gid core g o = s := by
  cases hkind : o.kind with
  | tzero => exact absurd hkind hk
  | tmma na nb k a b sc =>
    simp only [State.tensorOp, hkind]
    obtain hno | hno := htmma na nb k a b sc hkind
    · simp only [hno]
    · simp only [hno]
      cases Fmt.ofNibble na <;> rfl
  | trd na rnd sa clr op =>
    simp only [State.tensorOp, hkind]
    obtain hno | hno := htrd na rnd sa clr op hkind
    · simp only [hno]
    · simp only [hno]
      cases Fmt.ofNibble na <;> rfl

/-- A tensor operation leaves all but its queue and its tile. -/
theorem State.exists_after_tensorOp {s : State} {gid core : Nat} {g : Grp} {o : TOp} (rest : List TOp) (htile : o.tile < 4)
    (hg : s.grp gid = some (g.dequeued core rest)) : ∃ h, (s.tensorOp gid core g o).grp gid = some h ∧ h.After g core o.tile rest ∧
      (o.kind = .tzero → (s.tensorOp gid core g o).mem = s.mem ∧ ∀ e, e < 1024 → h.elem core o.tile e = Xa.zero) ∧
      (∀ na nb k a b sc fa fb, o.kind = .tmma na nb k a b sc → Fmt.ofNibble na = some fa → Fmt.ofNibble nb = some fb →
        (s.tensorOp gid core g o).mem = s.mem ∧ ∀ e, e < 1024 → h.elem core o.tile e = slabs fa fb k a b sc e (g.elem core o.tile e)) ∧
      (∀ na rnd sa op clr f m, o.kind = .trd na rnd sa clr op → Fmt.ofNibble na = some f → Rnd.ofBits rnd = some m →
        (s.tensorOp gid core g o).mem = (s.store (coreAddr (g.globalCore core) sa) (s.trdBytes g core o.tile f m o.thread op)).mem ∧
        ∀ e, e < 1024 → h.elem core o.tile e = if clr then Xa.zero else g.elem core o.tile e) := by
  by_cases hzero : o.kind = .tzero
  · obtain ⟨hmem, hgrp⟩ := State.tensorOp_tzero (core := core) hg hzero g
    obtain ⟨hafter, helem⟩ := Grp.SameTiles.after_zeroTile (h := (g.dequeued core rest).zeroTile core o.tile) htile ⟨rfl, rfl, rfl, rfl⟩
    refine ⟨_, hgrp, hafter, fun _ => ⟨hmem, helem⟩, fun _ _ _ _ _ _ _ _ hk => ?_, fun _ _ _ _ _ _ _ hk => ?_⟩ <;>
      exact nomatch hzero.symm.trans hk
  by_cases htmma : ∃ na nb k a b sc fa fb, o.kind = .tmma na nb k a b sc ∧ Fmt.ofNibble na = some fa ∧ Fmt.ofNibble nb = some fb
  · obtain ⟨na, nb, k, a, b, sc, fa, fb, hkind, ha, hb⟩ := htmma
    obtain ⟨hmem, h, hgrp, hsame⟩ := State.tensorOp_tmma (core := core) hg hkind ha hb g
    obtain ⟨hafter, helem⟩ := hsame.after_tmma htile
    refine ⟨h, hgrp, hafter, (absurd · hzero), fun na' nb' k' a' b' sc' fa' fb' hk ha' hb' => ?_,
      fun _ _ _ _ _ _ _ hk => (nomatch hkind.symm.trans hk)⟩
    cases hkind.symm.trans hk
    cases ha.symm.trans ha'
    cases hb.symm.trans hb'
    exact ⟨hmem, helem⟩
  by_cases htrd : ∃ na rnd sa op clr f m, o.kind = .trd na rnd sa clr op ∧ Fmt.ofNibble na = some f ∧ Rnd.ofBits rnd = some m
  · obtain ⟨na, rnd, sa, op, clr, f, m, hkind, ha, hm⟩ := htrd
    obtain ⟨hmem, h, hgrp, hsame⟩ := State.tensorOp_trd (core := core) hg hkind ha hm g
    have hafter : h.After g core o.tile rest ∧ ∀ e, e < 1024 → h.elem core o.tile e = if clr then Xa.zero else g.elem core o.tile e := by
      cases clr with
      | false =>
        obtain ⟨hafter, helem⟩ := hsame.after_dequeued
        exact ⟨hafter, fun e _ => helem e⟩
      | true => exact hsame.after_zeroTile htile
    obtain ⟨hafter, helem⟩ := hafter
    refine ⟨h, hgrp, hafter, (absurd · hzero), fun _ _ _ _ _ _ _ _ hk => (nomatch hkind.symm.trans hk),
      fun na' rnd' sa' op' clr' f' m' hk ha' hm' => ?_⟩
    cases hkind.symm.trans hk
    cases ha.symm.trans ha'
    cases hm.symm.trans hm'
    exact ⟨hmem, helem⟩
  · have hsame : s.tensorOp gid core g o = s := by
      refine State.tensorOp_unformatted hzero (fun na nb k a b sc hk => ?_) (fun na rnd sa clr op hk => ?_)
      · rw [Option.eq_none_iff_forall_ne_some, Option.eq_none_iff_forall_ne_some, ← forall_or_left]
        by_contra! hno
        obtain ⟨fb, ⟨fa, ha⟩, hb⟩ := hno
        exact htmma ⟨na, nb, k, a, b, sc, fa, fb, hk, ha, hb⟩
      · rw [Option.eq_none_iff_forall_ne_some, Option.eq_none_iff_forall_ne_some, ← forall_or_left]
        by_contra! hno
        obtain ⟨m, ⟨fa, ha⟩, hm⟩ := hno
        exact htrd ⟨na, rnd, sa, op, clr, fa, m, hk, ha, hm⟩
    obtain ⟨hafter, -⟩ := Grp.SameTiles.after_dequeued (g := g) (h := g.dequeued core rest) (core := core) (tile := o.tile) (rest := rest)
      ⟨rfl, rfl, rfl, rfl⟩
    rw [hsame]
    exact ⟨_, hg, hafter, (absurd · hzero), fun na nb k a b sc fa fb hk ha hb => absurd ⟨na, nb, k, a, b, sc, fa, fb, hk, ha, hb⟩ htmma,
      fun na rnd sa op clr f m hk ha hm => absurd ⟨na, rnd, sa, op, clr, f, m, hk, ha, hm⟩ htrd⟩

/-- Settles O28: what issues joins its core's queue; what completes changes its own tile only. -/
theorem tensorOps : Obligations.TensorOps := by
  refine ⟨fun s t f g th hi ha hb hk hs hfa hfb hr hc hrsv hgrd => ?_,
    fun s t f g th fa fb k a b c hi ha hb hca hcb hr hc hrsv hss hgrd hxa hxb hxk hxs hea heb hec hek => ?_,
    fun s t f g th fa m hi hfmt ha hm hb hk hs hfb hrsv hgrd hxa halign hreach htile hroom => ?_,
    fun s gid core g o rest hg hphase hq htile => ?_⟩
  · have hlegal := tileOnly_of_fields ha hb hk hs hfa hfb hr hc hrsv
    have hzero := exec_tzero hi hlegal hgrd
    have hwait := exec_twait hi hlegal hgrd
    refine ⟨fun htile => ⟨?_, ?_⟩, fun htile hfull => ?_, fun htile hroom => ?_, fun htile hnone => ⟨th.advance, ?_, th.advanced_advance⟩,
      fun htile hsome => ?_⟩
    · rw [hzero, State.withTile_of_le _ htile]
    · rw [hwait, State.withTile_of_le _ htile]
    · rw [hzero, State.withTile_of_lt _ htile]
      exact congrArg Host.Outcome.next (if_pos hfull)
    · obtain ⟨u, h, hu, hmem, hgrp, htiles, htq⟩ := State.exists_enqueue hi.1 th ⟨f.tile.toNat, t.idx, .tzero⟩ hroom
      exact ⟨u, th.advance, h, by rw [hzero, State.withTile_of_lt _ htile, hu], th.advanced_advance, hmem, hgrp, htiles, htq⟩
    · rw [hwait, State.withTile_of_lt _ htile, if_neg (by simpa using hnone)]
    · rw [hwait, State.withTile_of_lt _ htile, if_pos (by simpa using hsome)]
  · have hexec := exec_tmma hi ha hb hca hcb hr hc hrsv hss hgrd hxa hxb hxk hxs
    subst hea heb hec hek
    refine ⟨fun hmis => ?_, fun h1 h2 h3 hk => ?_, fun h1 h2 h3 hk hk32 htile => ⟨fun hzero => ⟨th.advance, ?_, th.advanced_advance⟩,
      fun hpos hroom hreach => ?_⟩⟩
    · rw [hexec]
      exact congrArg Host.Outcome.next (if_pos (by simpa [or_assoc] using hmis))
    · rw [hexec]
      exact congrArg Host.Outcome.next ((if_neg (not_misaligned h1 h2 h3)).trans (if_pos (by simpa using hk)))
    · rw [hexec]
      exact congrArg Host.Outcome.next ((if_neg (not_misaligned h1 h2 h3)).trans ((if_neg (by simp [hk.not_gt, hk32])).trans
        ((State.withTile_of_lt _ htile).trans (if_pos hzero))))
    · obtain ⟨u, h, hu, hmem, hgrp, htiles, htq⟩ := State.exists_enqueue hi.1 th ⟨f.tile.toNat, t.idx, .tmma f.fmtA.toNat f.fmtB.toNat
        (th.xr f.sk.toNat).toNat (s.readBytes (coreAddr (g.globalCore (g.coreOf t.idx)) (th.xr f.sa.toNat).toNat)
          (32 * rowBytes fa (th.xr f.sk.toNat).toNat))
        (s.readBytes (coreAddr (g.globalCore (g.coreOf t.idx)) (th.xr f.sb.toNat).toNat) (32 * rowBytes fb (th.xr f.sk.toNat).toNat))
        (if scaleBytes fa fb (th.xr f.sk.toNat).toNat = 0 then [] else
          s.readBytes (coreAddr (g.globalCore (g.coreOf t.idx)) (if fa.mx || fb.mx then th.xr f.ss.toNat else 0).toNat)
            (scaleBytes fa fb (th.xr f.sk.toNat).toNat))⟩ hroom
      refine ⟨u, th.advance, h, ?_, th.advanced_advance, hmem, hgrp, htiles, htq⟩
      rw [hexec, ← hu]
      refine congrArg Host.Outcome.next ((if_neg (not_misaligned h1 h2 h3)).trans ((if_neg (by simp [hk.not_gt, hk32])).trans
        ((State.withTile_of_lt _ htile).trans ((if_neg hpos.ne').trans ?_))))
      simp only [hreach]
  · obtain ⟨u, h, hu, hmem, hgrp, htiles, htq⟩ := State.exists_enqueue hi.1 { th with op := th.op + boolN (m == .sr) }
      ⟨f.tile.toNat, t.idx, .trd f.fmtA.toNat f.rnd.toNat (th.xr f.sa.toNat).toNat (f.clr == 1) th.op⟩ hroom
    refine ⟨u, Thread.advance { th with op := th.op + boolN (m == .sr) }, h, ?_, ⟨rfl, rfl, rfl, rfl, rfl⟩, hmem, hgrp, ?_, htq⟩
    · rw [exec_trd hi hfmt ha hm hb hk hs hfb hrsv hgrd hxa halign hreach htile, hu]
    · exact congrArg (th.op + ·) (if_congr beq_iff_eq rfl rfl)
  · have hexec := exec_tensorOpComplete hg hphase hq
    have hg1 : (s.setGrp gid (g.dequeued core rest)).grp gid = some (g.dequeued core rest) := State.grp_setGrp_self ..
    obtain ⟨h, hgrp, ⟨htq, hst, hph, hother⟩, hzero, htmma, htrd⟩ := State.exists_after_tensorOp (o := o) rest htile hg1
    exact ⟨_, h, hexec, hgrp, htq, hst, hph, hother, hzero, htmma, htrd⟩

end Sys2Proof.Machine
end

section
/-! SUPPORT. Challenges, crook tokens and life-cycle transitions (R570 to R577, R582). -/

namespace Sys2Proof.Machine
open Sys2Proof Sys2Proof.Claims

/-! ### Bytes held in consecutive registers -/

theorem leBytes_leNat (bs : List Byte) : leBytes bs.length (leNat bs) = bs := by
  induction bs with
  | nil => rfl
  | cons b bs ih =>
    have hlow : BitVec.ofNat 8 (b.toNat + 256 * leNat bs) = b := BitVec.eq_of_toNat_eq (by
      rw [BitVec.toNat_ofNat]
      omega)
    have hhigh : (b.toNat + 256 * leNat bs) / 256 = leNat bs := by omega
    rw [List.length_cons, leNat, leBytes, hlow, hhigh, ih]

theorem flatten_chunks (k n : Nat) (bs : List Byte) :
    ((List.range n).map (fun i => (bs.drop (k * i)).take k)).flatten = bs.take (k * n) := by
  induction n with
  | zero => simp
  | succ n ih => rw [List.range_succ, List.map_append, List.flatten_append, ih, List.map_singleton, List.flatten_singleton, Nat.mul_succ,
      List.take_add]

section
variable (s : State) (off : Nat) (v : Nat → Nat) {n : Nat}

/-- Values in consecutive 32-bit registers. -/
def State.hubWords (s : State) (off : Nat) (v : Nat → Nat) (n : Nat) : State :=
  (List.range n).foldl (fun s i => s.hubSetN (off + 4 * i) (v i)) s

theorem State.hubWords_succ : s.hubWords off v (n + 1) = (s.hubWords off v n).hubSetN (off + 4 * n) (v n) := by
  rw [State.hubWords, List.range_succ, List.foldl_append]
  rfl
theorem State.hubNat_hubWords_of_lt {i : Nat} (hi : i < n) : (s.hubWords off v n).hubNat (off + 4 * i) = v i % 2 ^ 64 := by
  induction n with
  | zero => omega
  | succ n ih =>
    rw [State.hubWords_succ]
    obtain hlt | rfl := Nat.lt_succ_iff_lt_or_eq.mp hi
    · rw [State.hubNat_hubSetN_other _ _ _ _ (by omega), ih hlt]
    · exact State.hubNat_hubSetN_self ..

end

theorem length_take_drop_of_le {bs : List Byte} {a n : Nat} (h : a + n ≤ bs.length) : ((bs.drop a).take n).length = n := by
  rw [List.length_take, List.length_drop]
  omega

/-- Bytes put in registers are read back. -/
theorem State.hubBytesGet_hubBytes (s : State) (off k : Nat) {bs : List Byte} (hlen : bs.length = 4 * k) :
    (s.hubBytes off bs).hubBytesGet off (4 * k) = bs := by
  have hk : (4 * k + 3) / 4 = k := by omega
  have hword : ∀ i ∈ List.range k, leBytes 4 ((s.hubBytes off bs).hubNat (off + 4 * i)) = (bs.drop (4 * i)).take 4 := by
    intro i hi
    have hlt := List.mem_range.mp hi
    have hlen4 := length_take_drop_of_le (bs := bs) (a := 4 * i) (n := 4) (by omega)
    have hbound := leNat_lt ((bs.drop (4 * i)).take 4)
    rw [hlen4] at hbound
    have hnat : (s.hubBytes off bs).hubNat (off + 4 * i) = leNat ((bs.drop (4 * i)).take 4) := by
      rw [State.hubBytes, hlen, hk]
      exact (State.hubNat_hubWords_of_lt s off (fun i => leNat ((bs.drop (4 * i)).take 4)) hlt).trans (Nat.mod_eq_of_lt (by omega))
    have hback := leBytes_leNat ((bs.drop (4 * i)).take 4)
    rwa [hlen4, ← hnat] at hback
  rw [State.hubBytesGet, hk, List.map_congr_left hword, flatten_chunks, ← hlen, List.take_length, List.take_length]

theorem length_leBytes_48 (v : Nat) : (leBytes 48 v).length = 4 * 12 := by rw [length_leBytes]

/-! ### Bits of the life-cycle OTP -/

theorem bitOf_eq_testBit (v i : Nat) : bitOf v i = v.testBit i := by
  rw [bitOf, Nat.testBit_eq_decide_div_mod_eq]

/-- Bits of the life-cycle OTP that one state has, another has as well. -/
def State.OtpRises (s u : State) : Prop := ∀ w, s.sec.otp.get 0 w ||| u.sec.otp.get 0 w = u.sec.otp.get 0 w

section
variable {s t u : State}

theorem State.OtpRises.of_eq (h : u.sec.otp = s.sec.otp) : s.OtpRises u := fun w => by
  rw [h, BitVec.or_self]
theorem State.OtpRises.trans (hst : s.OtpRises t) (htu : t.OtpRises u) : s.OtpRises u := fun w => by
  rw [← htu w, ← BitVec.or_assoc, hst w]
theorem State.otpRises_burn (s : State) (w bits : Nat) : s.OtpRises (s.burn w bits) := fun i => by
  by_cases hi : i = w
  · subst hi
    simp only [State.burn, SMap.get_set_self]
    rw [← BitVec.or_assoc, BitVec.or_self]
  · simp only [State.burn, SMap.get_set_other _ _ _ _ _ hi, BitVec.or_self]
theorem State.OtpRises.burn (h : s.OtpRises u) (w bits : Nat) : s.OtpRises (u.burn w bits) := h.trans (u.otpRises_burn w bits)
theorem State.OtpRises.foldl {α : Type} {f : State → α → State} {l : List α} (h : s.OtpRises u) (hf : ∀ x a, State.OtpRises x (f x a)) :
    s.OtpRises (l.foldl f u) := by
  induction l generalizing u with
  | nil => exact h
  | cons a l ih => exact ih (h.trans (hf u a))
theorem State.OtpRises.bitOf (h : s.OtpRises u) {w i : Nat} (hbit : bitOf (s.sec.word w) i = true) : bitOf (u.sec.word w) i = true := by
  rw [bitOf_eq_testBit, Sec.word, ← BitVec.getLsbD] at hbit ⊢
  rw [← h w, BitVec.getLsbD_or, hbit, Bool.true_or]

theorem State.bitOf_burn (s : State) (w : Nat) {i : Nat} (hi : i < 32) : Sys2Proof.Machine.bitOf ((s.burn w (2 ^ i)).sec.word w) i = true := by
  simp only [State.burn, Sec.word, SMap.get_set_self, bitOf_eq_testBit, BitVec.toNat_or, Nat.testBit_or, BitVec.toNat_ofNat]
  rw [Nat.testBit_mod_two_pow, Nat.testBit_two_pow_self, decide_eq_true hi]
  simp

theorem State.otpRises_transWork (s : State) (t : Trans) (i : Nat) : s.OtpRises (s.transWork t i) := by
  have hkeys : ∀ e, s.OtpRises (s.deriveKeys e) := fun e => .of_eq (by
    unfold State.deriveKeys
    split <;> rfl)
  have hdrawn : s.OtpRises s.drawn := .of_eq rfl
  have hfresh : ∀ n, s.OtpRises (s.burnFresh n) := fun n => hdrawn.foldl fun x i => x.otpRises_burn _ _
  have hones : ∀ a n, s.OtpRises (s.burnOnes a n) := fun a n => State.OtpRises.foldl (.of_eq rfl) fun x i => x.otpRises_burn _ _
  have hdigest : s.OtpRises s.burnDigest := (State.OtpRises.foldl (.of_eq rfl) fun x i => x.otpRises_burn _ _).burn _ _
  have hwipe : s.OtpRises s.wipeAll := .of_eq rfl
  unfold State.transWork
  split
  · exact State.OtpRises.foldl (.of_eq rfl) fun x w => x.otpRises_burn _ _
  split
  · exact .of_eq rfl
  split
  · exact (hfresh 9).burn _ _
  · exact (hkeys s.epochRec.epoch).trans (.of_eq (by simp [State.showIk]))
  · exact hdigest
  · exact (hfresh 18).burn _ _
  · exact hkeys _
  · exact hones _ _
  · exact hwipe
  · exact hkeys _
  · exact hones _ _
  · exact hwipe
  · exact hkeys _
  · exact .of_eq rfl

/-- A list of marks is worked through: the OTP only rises, and every mark of the list is set. -/
theorem State.foldl_transWork {t : Trans} {l : List Nat} (hl : ∀ i ∈ l, t.field.1 + 1 + i < 32) (s : State) :
    s.OtpRises (l.foldl (fun x i => (x.transWork t i).burn 8 (2 ^ (t.field.1 + 1 + i))) s) ∧
      ∀ i ∈ l, Sys2Proof.Machine.bitOf ((l.foldl (fun x i => (x.transWork t i).burn 8 (2 ^ (t.field.1 + 1 + i))) s).sec.word 8)
        (t.field.1 + 1 + i) = true := by
  have hrise : ∀ x i, State.OtpRises x ((x.transWork t i).burn 8 (2 ^ (t.field.1 + 1 + i))) :=
    fun x i => (x.otpRises_transWork t i).burn _ _
  refine ⟨State.OtpRises.foldl (.of_eq rfl) hrise, ?_⟩
  induction l generalizing s with
  | nil => simp
  | cons a l ih =>
    obtain ⟨ha, hl⟩ := List.forall_mem_cons.mp hl
    refine List.forall_mem_cons.mpr ⟨?_, ih hl _⟩
    exact State.OtpRises.bitOf (s := (s.transWork t a).burn 8 (2 ^ (t.field.1 + 1 + a))) (State.OtpRises.foldl (.of_eq rfl) hrise)
      ((s.transWork t a).bitOf_burn 8 ha)

theorem Trans.field_lt (t : Trans) : t.field.1 + 5 < 32 := by cases t <;> decide

/-- A whole transition sets all of its marks. -/
theorem State.transRun_five (s : State) (t : Trans) : s.OtpRises (s.transRun t 5) ∧
    ∀ i, 1 ≤ i → i ≤ 5 → Sys2Proof.Machine.bitOf ((s.transRun t 5).sec.word 8) (t.field.1 + i) = true := by
  have hfield := t.field_lt
  have hall : ((List.range 5).filter (fun i => !Sys2Proof.Machine.bitOf (s.sec.word 8) (t.field.1 + 1 + i))).take 5 =
      (List.range 5).filter (fun i => !Sys2Proof.Machine.bitOf (s.sec.word 8) (t.field.1 + 1 + i)) :=
    List.take_of_length_le (List.length_filter_le ..)
  rw [State.transRun, hall]
  obtain ⟨hrise, hset⟩ := State.foldl_transWork (t := t)
    (l := (List.range 5).filter (fun i => !Sys2Proof.Machine.bitOf (s.sec.word 8) (t.field.1 + 1 + i))) (fun i hi => by
      have hlt := List.mem_range.mp (List.mem_of_mem_filter hi)
      omega) s
  refine ⟨hrise, fun i h1 h5 => ?_⟩
  obtain ⟨j, rfl⟩ := Nat.exists_eq_add_of_le h1
  rw [← Nat.add_assoc]
  by_cases hbit : Sys2Proof.Machine.bitOf (s.sec.word 8) (t.field.1 + 1 + j) = true
  · exact hrise.bitOf hbit
  · exact hset j (List.mem_filter.mpr ⟨List.mem_range.mpr (by omega), by simpa using hbit⟩)

end

/-! ### Debug -/

theorem mem_addAll {n : Nat} {new : List Nat} (h : n ∈ new) (old : List Nat) : n ∈ addAll new old := by
  have hkeep : ∀ (new old : List Nat), n ∈ old → n ∈ addAll new old := by
    intro new
    induction new with
    | nil => exact fun _ h => h
    | cons a new ih =>
      refine fun old hold => ih _ ?_
      dsimp only
      split
      · exact hold
      · exact List.mem_append_left _ hold
  induction new generalizing old with
  | nil => simp at h
  | cons a new ih =>
    obtain rfl | hn := List.mem_cons.mp h
    · refine hkeep new _ ?_
      dsimp only
      split
      · next hin => exact List.contains_iff_mem.mp hin
      · exact List.mem_append_right _ (List.mem_singleton_self n)
    · exact ih hn _

theorem SMap.find_foldl_set_of_notMem {α : Type} {ps : List Nat} {n : Nat} (h : n ∉ ps) (v : α) (m : SMap α) :
    SMap.find (ps.foldl (fun m n => m.set n v) m) n = m.find n := by
  induction ps generalizing m with
  | nil => rfl
  | cons a ps ih =>
    obtain ⟨ha, hps⟩ := not_or.mp (mt List.mem_cons.mpr h)
    exact (ih hps _).trans (SMap.find_set_other _ _ _ _ ha)
theorem SMap.find_foldl_set_of_mem {α : Type} {ps : List Nat} {n : Nat} (h : n ∈ ps) (v : α) (m : SMap α) :
    SMap.find (ps.foldl (fun m n => m.set n v) m) n = some v := by
  induction ps generalizing m with
  | nil => simp at h
  | cons a ps ih =>
    by_cases hn : n ∈ ps
    · exact ih hn _
    · obtain rfl | hps := List.mem_cons.mp h
      · exact (SMap.find_foldl_set_of_notMem hn v _).trans (SMap.find_set_self ..)
      · exact absurd hps hn

/-- A token opens the paddocks that it names and that are not confidential. -/
theorem State.sec_openDebug (s : State) (tok : List Byte) :
    (∀ n, n < 32 → bitOf (fieldAt tok 4 4) n = true → s.confidential n = false → n ∈ (s.openDebug tok).sec.debugged ∧
      (s.openDebug tok).sec.debugUntil.find n = some (s.time + fieldAt tok 8 4 * 1000000000)) ∧
    (∀ n, 32 ≤ n ∨ s.confidential n = true → (s.openDebug tok).sec.debugUntil.find n = s.sec.debugUntil.find n) ∧
    (s.openDebug tok).sec.challengeAt = s.sec.challengeAt ∧ (s.openDebug tok).sec.otp = s.sec.otp := by
  refine ⟨fun n hn hbit hconf => ?_, fun n hconf => ?_, rfl, rfl⟩
  · have hmem : n ∈ (List.range 32).filter (fun n => bitOf (fieldAt tok 4 4) n && !s.confidential n) := by
      simp [hn, hbit, hconf]
    exact ⟨mem_addAll hmem _, SMap.find_foldl_set_of_mem hmem _ _⟩
  · have hnot : n ∉ (List.range 32).filter (fun n => bitOf (fieldAt tok 4 4) n && !s.confidential n) := by
      obtain hn | hconf := hconf
      · simp [hn.not_gt]
      · simp [hconf]
    exact SMap.find_foldl_set_of_notMem hnot _ _

/-! ### Submissions -/

section
variable {s : State}

/-- A submission ends the challenge and shows its result. -/
def State.submitted (s : State) : State :=
  ({ s with sec := { s.sec with challengeAt := none } } : State).hubSetN SEC_TOKEN_STATUS (s.tokenResult s.token)

theorem State.tokenResult_le (s : State) (tok : List Byte) : s.tokenResult tok ≤ 7 := by
  unfold State.tokenResult
  repeat' split
  all_goals decide
theorem State.hubNat_submitted (s : State) : s.submitted.hubNat SEC_TOKEN_STATUS = s.tokenResult s.token := by
  have hle := s.tokenResult_le s.token
  refine (State.hubNat_hubSetN_self ..).trans (Nat.mod_eq_of_lt ?_)
  omega

theorem State.confidential_submitted (s : State) {n : Nat} (hn : n < 32) : s.submitted.confidential n = s.confidential n := by
  have hoff : SEC_PADDOCK_CFG + 4 * n ≠ SEC_TOKEN_STATUS := by
    rw [SEC_PADDOCK_CFG, SEC_TOKEN_STATUS]
    omega
  exact congrArg (bitOf · 0) (State.hubNat_hubSetN_other _ _ _ _ hoff)

theorem State.submitToken_of_up (hup : s.up = true) (hlc : s.lc ≠ lcScrapped) : s.submitToken =
    if s.tokenResult s.token ≠ tokAccepted then s.submitted
    else if tokenOp s.token = opDebug then s.submitted.openDebug s.token
    else s.submitted.beginTrans (transOf (tokenOp s.token)) s.token :=
  if_neg (by simp [hup, hlc])

/-- What a transition has done before its paddocks are quiesced. -/
def State.transMarked (s : State) (t : Trans) (tok : List Byte) : State :=
  ({ if (t == .deploy) = true then (s.eraseFlash 0x30000 0x10000).flashPut 0x30000 tok else s with
      sec := { (if (t == .deploy) = true then (s.eraseFlash 0x30000 0x10000).flashPut 0x30000 tok else s).sec with trans := some t } } :
    State).hubSetN LCS_STATUS 1

theorem State.beginTrans_eq (s : State) (t : Trans) (tok : List Byte) :
    s.beginTrans t tok = ((List.range 32).foldl State.forceQuiesce (s.transMarked t tok)).burn 8 (2 ^ t.field.1) := rfl
theorem State.transMarked_frame (s : State) (t : Trans) (tok : List Byte) : (s.transMarked t tok).sec.challengeAt = s.sec.challengeAt ∧
    (s.transMarked t tok).sec.trans = some t ∧ (s.transMarked t tok).hubNat LCS_STATUS = 1 ∧
    (s.transMarked t tok).hubNat SEC_TOKEN_STATUS = s.hubNat SEC_TOKEN_STATUS ∧ (s.transMarked t tok).sec.otp = s.sec.otp ∧
    (s.transMarked t tok).fns = s.fns ∧ (t ≠ .deploy → (s.transMarked t tok).flash = s.flash) := by
  refine ⟨?_, rfl, State.hubNat_hubSetN_self .., ?_, ?_, ?_, fun ht => ?_⟩
  · unfold State.transMarked
    split <;> rfl
  · refine (State.hubNat_hubSetN_other _ _ _ _ (by decide)).trans ?_
    split <;> rfl
  · unfold State.transMarked
    split <;> rfl
  · unfold State.transMarked
    split <;> rfl
  · unfold State.transMarked
    rw [if_neg (by simpa using ht)]
    rfl

theorem transOf_ne_deploy {op : Nat} (h : op ≠ opDeploy) : transOf op ≠ .deploy := by
  unfold transOf
  rw [if_neg h]
  repeat' split
  all_goals decide

theorem exec_token {c : Instr} {op : Nat} (h : (c, op) ∈ [(Instr.tokenPaddockDebug, opDebug), (.tokenReturn, opReturn), (.tokenScrap, opScrap),
    (.tokenDeploy, opDeploy), (.tokenProvision, opProvision)]) (s : State) : exec c s = .next (s.submitIf op) := by
  simp only [List.mem_cons, Prod.mk.injEq, List.not_mem_nil, or_false] at h
  obtain ⟨rfl, rfl⟩ | ⟨rfl, rfl⟩ | ⟨rfl, rfl⟩ | ⟨rfl, rfl⟩ | ⟨rfl, rfl⟩ := h <;> rfl

theorem exec_challengeNew (hup : s.up = true) (hlc : s.lc ≠ lcScrapped) : exec .challengeNew s =
    .next { s.drawn.hubBytes SEC_CHALLENGE (leBytes 48 s.free) with sec := { s.sec with challengeAt := some s.time } } :=
  congrArg Host.Outcome.next (if_pos (by simp [hup, hlc]))

theorem exec_challengeExpiry {c : Nat} (h : s.sec.challengeAt = some c) : exec .challengeExpiry s =
    .next (if c + 60000000000 ≤ s.time then { s with sec := { s.sec with challengeAt := none } } else s) := by
  refine congrArg Host.Outcome.next ?_
  simp only [h]

/-- A transition that is worked through, before its cold start. -/
def State.transEnded (s : State) (t : Trans) : State :=
  { s.transRun t 5 with sec := { (s.transRun t 5).sec with trans := none, redraws := 0 } }
theorem exec_transitionDone {t : Trans} (ht : s.sec.trans = some t) (hup : s.up = true) (hst : s.hubNat LCS_STATUS = 1)
    (hout : ∀ f ∈ s.fns, ∀ e ∈ f.2.entries, e.2.st = .releasing → e.2.left = []) :
    exec .transitionDone s = .next ((s.transEnded t).startCold 7 false false) := by
  have hnone : (s.fns.any (fun f => f.2.entries.any (fun e => e.2.st == .releasing && !e.2.left.isEmpty))) = false := by
    rw [List.any_eq_false]
    intro f hf
    rw [Bool.not_eq_true, List.any_eq_false]
    intro e he
    by_cases hst : e.2.st = .releasing
    · simp [hout f hf e he hst]
    · simp [hst]
  refine congrArg Host.Outcome.next ?_
  simp only [ht, hup, hst, hnone]
  rfl

end

/-- Settles O37: a submission ends its challenge, and only an accepted one does what its operation says. -/
theorem crookTokens : Obligations.CrookTokens := by
  refine ⟨fun s hup hlc => ⟨_, exec_challengeNew hup hlc, rfl, ?_, by simp [State.drawn], rfl, by simp [State.drawn], by simp [State.drawn]⟩,
    fun s c hc => ⟨fun hle => ?_, fun hlt => ?_⟩, fun s c op hop hup hlc => ⟨fun hne => ?_, fun heq => ?_⟩,
    fun s t ht hup hst hout => ⟨s.transEnded t, exec_transitionDone ht hup hst hout, rfl, rfl, ?_, ?_⟩, fun s hnone => ?_⟩
  · exact s.drawn.hubBytesGet_hubBytes SEC_CHALLENGE 12 (length_leBytes_48 s.free)
  · rw [exec_challengeExpiry hc, if_pos hle]
  · rw [exec_challengeExpiry hc, if_neg (by omega)]
  · rw [exec_token hop, State.submitIf, if_neg hne]
  · have hexec : exec c s = .next s.submitToken := by rw [exec_token hop, State.submitIf, if_pos heq]
    rw [State.submitToken_of_up hup hlc, heq] at hexec
    split
    · next hres =>
      rw [if_pos hres] at hexec
      exact ⟨_, hexec, rfl, s.hubNat_submitted, fun off hoff => State.hubGet_hubSet_other _ _ _ _ hoff, rfl, rfl, rfl⟩
    · next hres =>
      rw [if_neg hres] at hexec
      have hst : s.submitted.hubNat SEC_TOKEN_STATUS = tokAccepted := s.hubNat_submitted.trans (not_not.mp hres)
      split
      · next hdebug =>
        rw [if_pos hdebug] at hexec
        obtain ⟨hopen, hkeep, hch, hotp⟩ := s.submitted.sec_openDebug s.token
        exact ⟨_, hexec, hch, (State.hubNat_hubSetN_other _ _ _ _ (by decide)).trans hst, hotp, rfl, rfl,
          fun n hn hbit hconf => hopen n hn hbit ((s.confidential_submitted hn).trans hconf),
          fun n hconf => hkeep n ((Nat.lt_or_ge n 32).elim (fun hn => .inr ((s.confidential_submitted hn).trans hconf)) .inl)⟩
      · next hdebug =>
        rw [if_neg hdebug, State.beginTrans_eq] at hexec
        obtain ⟨hch, htrans, hlcs, htok, hotp, hfns, hflash⟩ := s.submitted.transMarked_frame (transOf op) s.token
        have hfield := (transOf op).field_lt
        exact ⟨_, hexec, hch, htrans, hlcs, htok.trans hst, hotp, hfns, fun hne => hflash (transOf_ne_deploy hne),
          State.bitOf_burn _ 8 (by omega)⟩
  · simp [State.transEnded]
  · exact ⟨(s.transRun_five t).2, (s.transRun_five t).1⟩
  · refine congrArg Host.Outcome.next ?_
    simp only [hnone]

end Sys2Proof.Machine
end

section
/-! SUPPORT. Debug reads and the scrub between tenants (R562 to R564, R578, R579, R583). -/

namespace Sys2Proof.Machine
open Sys2Proof Sys2Proof.Claims

/-! ### Debug -/

section
variable {s : State}

theorem State.sec_closeDebug (s : State) (n : Nat) : (s.closeDebug n).sec = { s.sec with debugUntil := s.sec.debugUntil.del n } := rfl

theorem exec_debugExpiry {n e : Nat} (h : s.sec.debugUntil.find n = some e) :
    exec (.debugExpiry n) s = .next (if e ≤ s.time then s.closeDebug n else s) := by
  refine congrArg Host.Outcome.next ?_
  simp only [h]

/-- What the low half of SEC_DEBUG_ADDR is when the high half is written. -/
def State.debugLow (s : State) : Nat := ((s.held.find SEC_DEBUG_ADDR).map BitVec.toNat).getD (s.hubNat SEC_DEBUG_ADDR % 2 ^ 32)
/-- SEC_DEBUG_ADDR is complete. -/
def State.debugAddressed (s : State) (high : W32) : State :=
  ({ s with held := s.held.del SEC_DEBUG_ADDR } : State).hubSetN SEC_DEBUG_ADDR (high.toNat % 2 ^ 21 * 2 ^ 32 + s.debugLow / 8 * 8)

theorem State.debugLow_lt (s : State) : s.debugLow < 2 ^ 32 := by
  unfold State.debugLow
  cases s.held.find SEC_DEBUG_ADDR with
  | none => exact Nat.mod_lt _ (by decide)
  | some w => exact w.isLt
theorem State.hubNat_debugAddressed (s : State) (high : W32) : (s.debugAddressed high).hubNat SEC_DEBUG_ADDR =
    high.toNat % 2 ^ 21 * 2 ^ 32 + s.debugLow / 8 * 8 := by
  have hlow := s.debugLow_lt
  have hhigh : high.toNat % 2 ^ 21 < 2 ^ 21 := Nat.mod_lt _ (by decide)
  refine (State.hubNat_hubSetN_self ..).trans (Nat.mod_eq_of_lt ?_)
  omega
theorem exec_debugRead (high : W32) (hup : s.up = true) (hlc : s.lc ≠ lcScrapped) :
    exec (.debugRead high) s = .next (s.debugAddressed high).debugRead := by
  refine congrArg Host.Outcome.next ((if_neg (by simp [hup, hlc])).trans ?_)
  simp only [State.debugAddressed, State.debugLow]
  cases s.held.find SEC_DEBUG_ADDR <;> rfl

theorem State.debugRead_of_open {a e : Nat} {bs : List Byte} (he : s.sec.debugUntil.find (fieldOf (s.hubNat SEC_DEBUG_ADDR) 48 5) = some e)
    (ha : s.debugPlace (fieldOf (s.hubNat SEC_DEBUG_ADDR) 48 5) (s.hubNat SEC_DEBUG_ADDR % 2 ^ 48 / 8 * 8) = some a)
    (hf : s.fetch a 8 = (bs, false)) : s.debugRead = (s.hubSetN SEC_DEBUG_DATA (leNat bs)).hubSetN SEC_DEBUG_STATUS 2 := by
  simp only [State.debugRead, he, ha, hf, Option.isNone_some, Bool.false_eq_true, if_false]

end

/-! ### Wiped memory -/

theorem cellGet_eq_find (d : Byte) (m : Memory) (a : Nat) : cellGet d m a = (SMap.find m a).getD d := by
  induction m with
  | nil => rfl
  | cons c m ih =>
    simp only [cellGet, SMap.find]
    split
    · rfl
    · exact ih
theorem cellGet_filter (d : Byte) (q : Nat → Bool) (m : Memory) (a : Nat) :
    cellGet d (m.filter (fun c => q c.1)) a = if q a = true then cellGet d m a else d := by
  rw [cellGet_eq_find, cellGet_eq_find, SMap.find_filter]
  split <;> rfl
theorem State.readByte_wipe (s : State) {a n x : Nat} (hlo : a ≤ x) (hhi : x < a + n) : (s.wipe a n).readByte x = 0 := by
  refine (cellGet_filter 0 (fun c => c < a || a + n ≤ c) s.mem x).trans (if_neg ?_)
  simp
  omega

/-! ### The start of a scrub -/

section
variable {s : State} {n : Nat}

/-- A scrub's site reset, where the paddock has a commons. -/
def State.scrubSite (s : State) (n : Nat) : State :=
  if bitOf (s.fnNat n PDK_COMMONS) 7 = true then
    ({ s with sec := { s.sec with paddockKeys := s.sec.paddockKeys.del n, begun := n :: s.sec.begun } } : State).pulseSite
      (s.servedBy (s.fnNat n PDK_COMMONS % 32))
  else { s with sec := { s.sec with paddockKeys := s.sec.paddockKeys.del n, begun := n :: s.sec.begun } }
/-- The function of a scrub, its translations dropped. -/
def State.scrubXlt (s : State) (n : Nat) : State :=
  (s.scrubSite n).modXlt n (fun x => { Xlt.empty with priEnable := x.priEnable, priAlloc := x.priAlloc, prgs := x.prgs.filter (fun p => p.2.quarantined) })
/-- Core stores, slices and node caches of a scrub. -/
def State.scrubWiped (s : State) (n : Nat) : State :=
  let u := ((s.scrubXlt n).fn n).hirselList.foldl (fun (s : State) h => s.wipe (coreAddr (h * 16) 0) (16 * 0x80000)) (s.scrubXlt n)
  let u := (u.foldDrop (some n) 0 hbmTop).dropNodes n
  (u.slices n 2).foldl (fun (s : State) l => s.wipe (scratchBase + l * 0x800000) 0x800000) u

theorem State.scrubWiped_frame (s : State) (n : Nat) : (s.scrubWiped n).fns = (s.scrubXlt n).fns ∧ (s.scrubWiped n).sec = (s.scrubXlt n).sec := by
  simp [State.scrubWiped]
theorem State.sec_scrubXlt (s : State) (n : Nat) :
    (s.scrubXlt n).sec = { s.sec with paddockKeys := s.sec.paddockKeys.del n, begun := n :: s.sec.begun } := by
  simp only [State.scrubXlt, State.modXlt_frame, State.scrubSite]
  split
  · simp
  · rfl
theorem State.fn_scrubXlt (s : State) (n : Nat) : ((s.scrubXlt n).fn n).xlt.tlb = [] := by
  rw [State.scrubXlt, State.modXlt, State.fn_modFn_self]
  rfl
/-- Without a commons the registers of the function are as they were. -/
theorem State.fnNat_scrubXlt (hc : bitOf (s.fnNat n PDK_COMMONS) 7 = false) (off : Nat) : (s.scrubXlt n).fnNat n off = s.fnNat n off := by
  have hsite : (s.scrubSite n).fns = s.fns := by
    simp only [State.scrubSite, hc, Bool.false_eq_true, if_false]
  rw [State.fnNat, State.scrubXlt, State.modXlt, State.fn_modFn_self]
  exact Fn.nat_congr (congrArg Fn.regs (State.fn_congr hsite n)) off

/-- The buckets of a function's directory are gone. -/
def State.dirDropped (s : State) (n : Nat) : State :=
  { s with ms := { s.ms with dir := s.ms.dir.filter (fun p => p.1 < s.fnNat n DIR_BASE || s.fnNat n DIR_BASE + s.fnNat n DIR_ENTRIES ≤ p.1) } }
def Fn.dirEmptied (f : Fn) : Fn := ((f.putN DIR_KEYS 0).putN DIR_FULLEST 0).putN DIR_DAMAGED 0

theorem Fn.nat_dirEmptied (f : Fn) : f.dirEmptied.nat DIR_KEYS = 0 := by
  rw [Fn.dirEmptied, Fn.nat_putN_other _ _ _ _ (by decide), Fn.nat_putN_other _ _ _ _ (by decide), Fn.nat_putN_self]
  rfl
theorem State.scrubChips_eq (s : State) (n : Nat) :
    s.scrubChips n = (((s.scrubWiped n).dirDropped n).modFn n Fn.dirEmptied).drawSalt n := rfl

theorem State.fn_drawSalt (s : State) (n : Nat) : ∃ v, (s.drawSalt n).fn n = { s.fn n with dirSalt := v } := by
  unfold State.drawSalt
  split
  · exact ⟨_, rfl⟩
  · exact ⟨_, State.fn_modFn_self ..⟩

theorem State.sec_scrubChips (s : State) (n : Nat) :
    (s.scrubChips n).sec = { s.sec with paddockKeys := s.sec.paddockKeys.del n, begun := n :: s.sec.begun } := by
  obtain ⟨-, hsec⟩ := s.scrubWiped_frame n
  rw [State.scrubChips_eq, ← s.sec_scrubXlt n, ← hsec]
  simp [State.dirDropped]
/-- Translations are gone and the directory reads empty. -/
theorem State.fn_scrubChips (s : State) (n : Nat) : ((s.scrubChips n).fn n).xlt.tlb = [] ∧ (s.scrubChips n).fnNat n DIR_KEYS = 0 := by
  obtain ⟨hfns, -⟩ := s.scrubWiped_frame n
  rw [State.fnNat, State.scrubChips_eq]
  obtain ⟨v, hfn⟩ := State.fn_drawSalt (((s.scrubWiped n).dirDropped n).modFn n Fn.dirEmptied) n
  rw [hfn, State.fn_modFn_self]
  exact ⟨(congrArg (fun f : Fn => f.xlt.tlb) (State.fn_congr hfns n)).trans (s.fn_scrubXlt n), Fn.nat_dirEmptied _⟩
theorem State.dir_scrubChips (hc : bitOf (s.fnNat n PDK_COMMONS) 7 = false) {p : Nat × DirEntry} (hp : p ∈ (s.scrubChips n).ms.dir) :
    p.1 < s.fnNat n DIR_BASE ∨ s.fnNat n DIR_BASE + s.fnNat n DIR_ENTRIES ≤ p.1 := by
  obtain ⟨hfns, -⟩ := s.scrubWiped_frame n
  have hreg (off : Nat) : (s.scrubWiped n).fnNat n off = s.fnNat n off :=
    (congrArg (fun f : Fn => f.nat off) (State.fn_congr hfns n)).trans (State.fnNat_scrubXlt hc off)
  rw [State.scrubChips_eq] at hp
  simp only [State.drawSalt_frame, State.modFn_frame] at hp
  obtain ⟨-, hout⟩ := List.mem_filter.mp hp
  simpa [hreg] using hout

/-! ### The end of a scrub -/

/-- The state of a scrub that ends, before its marks are taken away: its memory is wiped and its function forgets its tenant. -/
def State.scrubForgets (s : State) (n : Nat) : State :=
  let s := s.wipe (s.capBase n) (s.capSize n)
  let team := (s.fn n).nat PDK_TEAM
  let alone := s.fns.all (fun p => p.1 = n || p.2.nat PDK_TEAM ≠ team)
  let s := if alone then { s with torus := { s.torus with staging := s.torus.staging.filter (fun x => x.team ≠ team) } } else s
  let s := { s with groups := s.groups.filter (fun g => g.2.fn ≠ n) }
  let s := (s.modFn n Fn.scrubbed).beginSession n
  if n = 0 then s else s.closeDebug n
/-- The marks of a scrub go, and its result shows. -/
def State.scrubShown (s : State) (n : Nat) : State :=
  let s := { s with sec := { s.sec with scrubbing := s.sec.scrubbing.filter (· != n), begun := s.sec.begun.filter (· != n) } }
  let s := (s.hubCount SEC_SCRUBS 1).hubSetN SEC_SCRUB_STATUS (n * 65536 + 1)
  if n = 0 then s.closeDebug 0 else s
/-- The streams and marks of a stopped device interface are gone. -/
def State.tdiFreed (s : State) (n : Nat) : State :=
  ({ s with sec := { s.sec with tdiStops := s.sec.tdiStops.filter (· != n) }, pce := { s.pce with tdiStream := s.pce.tdiStream.del n } } :
    State).hubSetN (SEC_TDI_STATE + 4 * n) tdiUnlocked
/-- A stopped device interface is answered. -/
def State.scrubAnswers (s : State) (n : Nat) : State :=
  if s.sec.tdiStops.contains n then
    ((s.tdiFreed n).modPceFn n (fun p => { p with tdiHold := false })).send (.doe doeTdisp [2, n] [])
  else s
theorem State.scrubEnd_eq (s : State) (n : Nat) : s.scrubEnd n = ((s.scrubForgets n).scrubShown n).scrubAnswers n := rfl

theorem State.scrubAnswers_keeps (s : State) (n : Nat) :
    (s.scrubAnswers n).sec.scrubbing = s.sec.scrubbing ∧ (s.scrubAnswers n).sec.begun = s.sec.begun ∧ (s.scrubAnswers n).mem = s.mem ∧
      (∀ off, off < SEC_TDI_STATE → (s.scrubAnswers n).hubNat off = s.hubNat off) ∧
      ∃ p, (s.scrubAnswers n).fn n = { s.fn n with pce := p } := by
  unfold State.scrubAnswers
  split
  · refine ⟨rfl, rfl, rfl, fun off hoff => ?_, { (s.fn n).pce with tdiHold := false }, ?_⟩
    · exact State.hubNat_hubSetN_other _ _ _ _ (by omega)
    · exact (State.fn_congr (s := (s.tdiFreed n).modPceFn n (fun p => { p with tdiHold := false })) rfl n).trans (State.fn_modFn_self ..)
  · exact ⟨rfl, rfl, rfl, fun _ _ => rfl, (s.fn n).pce, rfl⟩

theorem State.scrubShown_keeps (s : State) (n : Nat) : (s.scrubShown n).fns = s.fns ∧ (s.scrubShown n).mem = s.mem := by
  unfold State.scrubShown
  dsimp only
  split <;> simp [State.hubCount]
theorem State.sec_scrubShown (s : State) (n : Nat) : (s.scrubShown n).sec.scrubbing = s.sec.scrubbing.filter (· != n) ∧
    (s.scrubShown n).sec.begun = s.sec.begun.filter (· != n) := by
  unfold State.scrubShown
  dsimp only
  split <;> exact ⟨rfl, rfl⟩
theorem State.hub_scrubShown (s : State) {n : Nat} (hn : n < 32) : (s.scrubShown n).hubNat SEC_SCRUB_STATUS = n * 65536 + 1 ∧
    (s.scrubShown n).hubNat SEC_SCRUBS = min 0xFFFFFFFF (s.hubNat SEC_SCRUBS + 1) := by
  have hstatus : (n * 65536 + 1) % 2 ^ 64 = n * 65536 + 1 := Nat.mod_eq_of_lt (by omega)
  have hcount : (sat 0xFFFFFFFF (s.hubNat SEC_SCRUBS + 1)) % 2 ^ 64 = min 0xFFFFFFFF (s.hubNat SEC_SCRUBS + 1) := by
    rw [sat_eq_min]
    exact Nat.mod_eq_of_lt (by omega)
  have hshown : (((({ s with sec := { s.sec with scrubbing := s.sec.scrubbing.filter (· != n), begun := s.sec.begun.filter (· != n) } } :
      State).hubCount SEC_SCRUBS 1).hubSetN SEC_SCRUB_STATUS (n * 65536 + 1)).hubNat SEC_SCRUB_STATUS = n * 65536 + 1) ∧
      (((({ s with sec := { s.sec with scrubbing := s.sec.scrubbing.filter (· != n), begun := s.sec.begun.filter (· != n) } } :
      State).hubCount SEC_SCRUBS 1).hubSetN SEC_SCRUB_STATUS (n * 65536 + 1)).hubNat SEC_SCRUBS = min 0xFFFFFFFF (s.hubNat SEC_SCRUBS + 1)) := by
    refine ⟨(State.hubNat_hubSetN_self ..).trans hstatus, (State.hubNat_hubSetN_other _ _ _ _ (by decide)).trans ?_⟩
    exact (State.hubNat_hubSetN_self ..).trans hcount
  unfold State.scrubShown
  dsimp only
  split
  · exact ⟨(State.hubNat_hubSetN_other _ _ _ _ (by decide)).trans hshown.1, (State.hubNat_hubSetN_other _ _ _ _ (by decide)).trans hshown.2⟩
  · exact hshown

theorem State.fn_scrubForgets (s : State) (n : Nat) : (s.scrubForgets n).fn n = (s.fn n).scrubbed := by
  unfold State.scrubForgets
  dsimp only
  split
  · refine (State.fn_modFn_self ..).trans (congrArg Fn.scrubbed ?_)
    split <;> rfl
  · refine (State.fn_modFn_self ..).trans (congrArg Fn.scrubbed ?_)
    split <;> rfl
theorem State.scrubForgets_keeps (s : State) (n : Nat) : (s.scrubForgets n).mem = (s.wipe (s.capBase n) (s.capSize n)).mem ∧
    (s.scrubForgets n).hubNat SEC_SCRUBS = s.hubNat SEC_SCRUBS := by
  unfold State.scrubForgets
  dsimp only
  split
  · refine ⟨?_, congrArg BitVec.toNat ?_⟩
    · simp only [State.beginSession_frame, State.modFn_frame]
      split <;> rfl
    · simp only [State.hubGet, State.beginSession_frame, State.modFn_frame]
      split <;> rfl
  · refine ⟨?_, (State.hubNat_hubSetN_other _ _ _ _ (by decide)).trans (congrArg BitVec.toNat ?_)⟩
    · simp only [State.closeDebug_frame, State.beginSession_frame, State.modFn_frame]
      split <;> rfl
    · simp only [State.hubGet, State.beginSession_frame, State.modFn_frame]
      split <;> rfl

theorem Fn.scrubbed_fields (f : Fn) : f.scrubbed.entries = [] ∧ f.scrubbed.handles = [] ∧ f.scrubbed.audit = Audit.empty ∧
    f.scrubbed.measLog = [] := ⟨rfl, rfl, rfl, rfl⟩

/-- What the end of a scrub leaves. -/
theorem State.scrubEnd_of_lt (s : State) {n : Nat} (hn : n < 32) : n ∉ (s.scrubEnd n).sec.scrubbing ∧ n ∉ (s.scrubEnd n).sec.begun ∧
    (s.scrubEnd n).hubNat SEC_SCRUB_STATUS = n * 65536 + 1 ∧ (s.scrubEnd n).hubNat SEC_SCRUBS = min 0xFFFFFFFF (s.hubNat SEC_SCRUBS + 1) ∧
    (∃ p, (s.scrubEnd n).fn n = { (s.fn n).scrubbed with pce := p }) ∧ (s.scrubEnd n).mem = (s.wipe (s.capBase n) (s.capSize n)).mem := by
  rw [State.scrubEnd_eq]
  obtain ⟨hscr, hbeg, hmem, hhub, p, hfn⟩ := ((s.scrubForgets n).scrubShown n).scrubAnswers_keeps n
  obtain ⟨hfns, hmem'⟩ := (s.scrubForgets n).scrubShown_keeps n
  obtain ⟨hscr', hbeg'⟩ := (s.scrubForgets n).sec_scrubShown n
  obtain ⟨hstatus, hcount⟩ := (s.scrubForgets n).hub_scrubShown hn
  obtain ⟨hmem'', hscrubs⟩ := s.scrubForgets_keeps n
  refine ⟨?_, ?_, (hhub _ (by decide)).trans hstatus, (hhub _ (by decide)).trans (hcount.trans (by rw [hscrubs])), ⟨p, ?_⟩,
    hmem.trans (hmem'.trans hmem'')⟩
  · rw [hscr, hscr']
    simp
  · rw [hbeg, hbeg']
    simp
  · rw [hfn, State.fn_congr hfns, State.fn_scrubForgets]

/-! ### Commands -/

theorem State.scrubRefusal_of_ready (hpdk : (s.fn n).pdk = pdkQuiesced) (hdr : (s.fn n).isDrained = true) (htdi : s.tdi n = tdiUnlocked)
    (hn : n ≠ 0) (hscr : s.sec.scrubbing = []) : s.scrubRefusal n = 0 := by
  simp [State.scrubRefusal, hpdk, hdr, htdi, hn, hscr]
theorem State.scrubRefusal_of_running (hpdk : (s.fn n).pdk ≠ pdkQuiesced) : s.scrubRefusal n = 2 := if_pos (by simp [hpdk])

theorem exec_scrubStart (value : W32) (hn : n = value.toNat % 32) (hup : s.up = true) (hlc : s.lc ≠ lcScrapped)
    (hbit : bitOf value.toNat 31 = true) : exec (.scrubStart value) s = .next (if s.scrubRefusal n ≠ 0 then
        s.hubSetN SEC_SCRUB_STATUS (boolN (!s.sec.scrubbing.isEmpty) * 2 ^ 31 + n * 65536 + s.scrubRefusal n)
      else ((s.markScrub n).scrubChips n).hubSetN SEC_SCRUB_STATUS (2 ^ 31 + n * 65536)) := by
  subst hn
  exact congrArg Host.Outcome.next (if_neg (by simp [hup, hlc, hbit]))
theorem exec_scrubDone {rest : List Nat} (hup : s.up = true) (hscr : s.sec.scrubbing = n :: rest) (hpdk : (s.fn n).pdk = pdkQuiesced) :
    exec .scrubDone s = .next ((if s.sec.begun.contains n = true then s else s.scrubChips n).scrubEnd n) := by
  refine congrArg Host.Outcome.next ?_
  simp only [hscr]
  exact if_neg (by simp [hup, hpdk])

end

/-- Settles O38: each command is one branch on what it finds; a scrub ends with the wiped capacity and an empty function. -/
theorem debugAndScrub : Obligations.DebugAndScrub := by
  refine ⟨fun s n e he => ⟨fun hlt => ?_, fun hle => ⟨s.closeDebug n, ?_, SMap.find_del_self .., fun m hm => SMap.find_del_other _ _ _ hm, rfl, rfl, rfl⟩⟩,
    fun s high hup hlc => ⟨_, exec_debugRead high hup hlc, ?_, SMap.find_del_self .., rfl, rfl, rfl⟩,
    fun s hnone => if_pos (by rw [hnone]; rfl), fun s a bs e he ha hf => ?_, fun s value n hn hup hlc hbit =>
      ⟨fun hpdk hdr htdi h0 hscr => ?_, fun hpdk hscr => ?_⟩,
    fun s n rest hup hscr hn hpdk => ⟨fun hbeg => ?_, fun hbeg => ?_⟩⟩
  · rw [exec_debugExpiry he, if_neg (by omega)]
  · rw [exec_debugExpiry he, if_pos hle]
  · rw [State.hubNat_debugAddressed, State.debugLow]
    cases s.held.find SEC_DEBUG_ADDR <;> rfl
  · rw [State.debugRead_of_open he ha hf]
    have hbs : bs = s.readBytes a 8 := (congrArg Prod.fst hf).symm
    have hlen : bs.length = 8 := by rw [hbs, State.length_readBytes]
    have hlt := leNat_lt bs
    rw [hlen] at hlt
    refine ⟨(State.hubNat_hubSetN_other _ _ _ _ (by decide)).trans ?_, State.hubNat_hubSetN_self .., rfl⟩
    exact (State.hubNat_hubSetN_self ..).trans (Nat.mod_eq_of_lt (by omega))
  · have hn32 : n < 32 := hn ▸ Nat.mod_lt _ (by decide)
    have hexec := exec_scrubStart value hn hup hlc hbit
    rw [State.scrubRefusal_of_ready hpdk hdr htdi h0 hscr, if_neg (by decide)] at hexec
    have hsec := (s.markScrub n).sec_scrubChips n
    obtain ⟨htlb, hkeys⟩ := (s.markScrub n).fn_scrubChips n
    refine ⟨_, hexec, ?_, (State.hubNat_hubSetN_self ..).trans (Nat.mod_eq_of_lt (by omega)), ?_, htlb, hkeys,
      fun hc p hp => State.dir_scrubChips (s := s.markScrub n) hc hp⟩
    · refine (congrArg Sec.scrubbing hsec).trans ?_
      simp [State.markScrub, hscr]
    · exact (congrArg (fun x : Sec => x.paddockKeys.find n) hsec).trans (SMap.find_del_self ..)
  · have hn32 : n < 32 := hn ▸ Nat.mod_lt _ (by decide)
    have hexec := exec_scrubStart value hn hup hlc hbit
    rw [State.scrubRefusal_of_running hpdk, if_pos (by decide), hscr] at hexec
    refine ⟨_, hexec, (State.hubNat_hubSetN_self ..).trans ?_, rfl, rfl, rfl⟩
    simp only [List.isEmpty_nil, Bool.not_true, boolN, Bool.false_eq_true, if_false, Nat.zero_mul, Nat.zero_add]
    exact Nat.mod_eq_of_lt (by omega)
  · rw [exec_scrubDone hup hscr hpdk, if_neg (by simpa using hbeg)]
  · have hexec := exec_scrubDone hup hscr hpdk
    rw [if_pos (by simpa using hbeg)] at hexec
    obtain ⟨hscr', hbeg', hstatus, hcount, ⟨p, hfn⟩, hmem⟩ := s.scrubEnd_of_lt hn
    obtain ⟨hent, hhan, haud, hmeas⟩ := (s.fn n).scrubbed_fields
    refine ⟨_, hexec, hscr', hbeg', hstatus, hcount, ?_, ?_, ?_, ?_, fun a hlo hhi => ?_⟩
    · rw [hfn, hent]
    · rw [hfn, hhan]
    · rw [hfn, haud]
    · rw [hfn, hmeas]
    · rw [State.readByte_congr (s := s.wipe (s.capBase n) (s.capSize n)) hmem, State.readByte_wipe s hlo hhi]
      rfl

end Sys2Proof.Machine
end

section
/-! SUPPORT. Supplies, reset lands and what a start resets (R606 to R608, R637, R638, R643, R695, R697). -/

namespace Sys2Proof.Machine
open Sys2Proof Sys2Proof.Claims

section
variable {s : State}

theorem State.readByte_wipe_other (s : State) {a n x : Nat} (h : x < a ∨ a + n ≤ x) : (s.wipe a n).readByte x = s.readByte x := by
  refine (cellGet_filter 0 (fun c => c < a || a + n ≤ c) s.mem x).trans (if_pos ?_)
  simpa using h

/-- The converters of a module whose inputs are in place start it. -/
theorem State.powerUp_of_ready (cause : Nat) (haux : s.boot.aux = true) (h48 : s.boot.v48 = true) (hrst : s.boot.sysRst = false)
    (hoff : s.boot.powered = false) :
    s.powerUp cause = ({ s with boot := { s.boot with powered := true } } : State).startCold cause false true :=
  if_pos (by simp [haux, h48, hrst, hoff])
theorem State.powerUp_of_not_ready (cause : Nat)
    (h : s.boot.aux = false ∨ s.boot.v48 = false ∨ s.boot.sysRst = true ∨ s.boot.powered = true) : s.powerUp cause = s := by
  refine if_neg ?_
  obtain h | h | h | h := h <;> simp [h]

theorem State.powerDown_of_powered (h : s.boot.powered = true) : s.powerDown = s.unpower := if_pos h
theorem State.powerDown_of_off (h : s.boot.powered = false) : s.powerDown = s := if_neg (by simp [h])

theorem exec_supplyValid (sris : Bool) (h : s.boot.v48 = false) : exec (.supplyValid sris) s =
    .next (({ s with boot := { s.boot with v48 := true, sris := if s.boot.aux then sris else s.boot.sris } } : State).powerUp 0) :=
  congrArg Host.Outcome.next (if_neg (by simp [h]))
theorem exec_auxSupplyValid (sris : Bool) (h : s.boot.aux = false) : exec (.auxSupplyValid sris) s =
    .next (({ s with boot := { s.boot with aux := true, sris := if s.boot.v48 then sris else s.boot.sris } } : State).powerUp 0) :=
  congrArg Host.Outcome.next (if_neg (by simp [h]))
theorem exec_sysRstDeassert (h : s.boot.sysRst = true) :
    exec .sysRstDeassert s = .next (({ s with boot := { s.boot with sysRst := false } } : State).powerUp 1) :=
  congrArg Host.Outcome.next (if_pos h)

/-- The module before its converters stop: a tag generation being programmed is spoiled (R41). -/
def State.tagSpoiled (s : State) : State :=
  if s.ident.commits.isEmpty then s
  else
    let v := leBytes 256 s.free
    let w := if !genBlank v && !genValid v then v else 1#8 :: zeros 255
    { s.drawn with ident := { (if s.ident.next < 16 then s.ident.putGen s.ident.next w else s.ident) with commits := [] } }
theorem State.tagSpoiled_frame (s : State) : s.tagSpoiled.flash = s.flash ∧ s.tagSpoiled.boot = s.boot := by
  unfold State.tagSpoiled
  split <;> exact ⟨rfl, rfl⟩
/-- What the converters' end leaves of a module. -/
theorem State.unpower_keeps (s : State) : s.unpower.up = false ∧ s.unpower.mem = [] ∧ s.unpower.groups = [] ∧ s.unpower.flash = s.flash ∧
    s.unpower.boot.fuses = s.boot.fuses ∧ s.unpower.boot.v48 = s.boot.v48 ∧ s.unpower.boot.aux = s.boot.aux := by
  obtain ⟨hflash, hboot⟩ := s.tagSpoiled_frame
  have hboot' : s.tagSpoiled.transCut.boot = s.boot := (by simp : s.tagSpoiled.transCut.boot = s.tagSpoiled.boot).trans hboot
  have hflash' : s.tagSpoiled.transCut.flash = s.flash := (by simp : s.tagSpoiled.transCut.flash = s.tagSpoiled.flash).trans hflash
  exact ⟨rfl, rfl, rfl, hflash', (congrArg Boot.fuses hboot' :), (congrArg Boot.v48 hboot' :), (congrArg Boot.aux hboot' :)⟩

end

/-! ### Resets -/

section
variable (s : State)

theorem State.fn_coldReset (power : Bool) {n : Nat} (hn : n < 32) : (s.coldReset power).fn n = (s.fn n).cold power := by
  refine (SMap.get_eq_find ..).trans ?_
  rw [show (s.coldReset power).fns = (List.range 32).map (fun n => (n, (s.fn n).cold power)) from rfl, SMap.find_map_range _ hn]
  rfl
theorem Fn.nat_cold_epoch (f : Fn) (power : Bool) : (f.cold power).nat STL_EPOCH = f.nat STL_EPOCH :=
  congrArg BitVec.toNat (SMap.get_set_self ..)

/-- A function after a warm start, listed or not. -/
theorem State.fn_warmReset (n : Nat) : (s.warmReset.fn n).handles = (s.fn n).handles ∧ (s.warmReset.fn n).audit = (s.fn n).audit ∧
    (s.warmReset.fn n).slots = [] := by
  have hfns : s.warmReset.fns = s.fns.map (fun (p : Nat × Fn) => (p.1, p.2.warm)) := rfl
  rw [State.fn, State.fn, SMap.get_eq_find, SMap.get_eq_find, hfns, SMap.find_map]
  cases SMap.find s.fns n with
  | none => exact ⟨rfl, rfl, rfl⟩
  | some f => exact ⟨rfl, rfl, rfl⟩

end

/-- Settles O39: supplies and reset lands start or stop the module; a start resets what R608 names. -/
theorem suppliesAndTriggers : Obligations.SuppliesAndTriggers := by
  refine ⟨fun s sris h48 => ⟨fun haux hrst hoff => ⟨{ s with boot := { s.boot with v48 := true, sris := sris, powered := true } }, ?_, rfl⟩,
      fun hno => ⟨_, (exec_supplyValid sris h48).trans (congrArg Host.Outcome.next (State.powerUp_of_not_ready 0 ?_)), rfl, rfl, rfl, rfl, rfl⟩⟩,
    fun s sris haux => ⟨fun h48 hrst hoff => ⟨{ s with boot := { s.boot with aux := true, sris := sris, powered := true } }, ?_, rfl⟩,
      fun hno => ⟨_, (exec_auxSupplyValid sris haux).trans (congrArg Host.Outcome.next (State.powerUp_of_not_ready 0 ?_)), rfl, rfl, rfl, rfl, rfl⟩⟩,
    fun s hrst haux h48 hoff => ⟨{ s with boot := { s.boot with sysRst := false, powered := true } }, ?_, rfl⟩,
    fun s => ⟨fun hon => ⟨congrArg Host.Outcome.next (State.powerDown_of_powered hon), congrArg Host.Outcome.next (State.powerDown_of_powered hon),
        congrArg Host.Outcome.next (State.powerDown_of_powered hon)⟩,
      fun hoff => ⟨congrArg Host.Outcome.next (State.powerDown_of_off hoff), congrArg Host.Outcome.next (State.powerDown_of_off hoff),
        congrArg Host.Outcome.next (State.powerDown_of_off hoff)⟩, s.unpower_keeps⟩,
    fun s hup => ⟨congrArg Host.Outcome.next (if_pos hup), fun hlc => ⟨congrArg Host.Outcome.next (if_pos ?_),
      congrArg Host.Outcome.next (if_pos ?_)⟩⟩,
    fun s => ⟨fun hdue => ⟨{ s with boot := { s.boot with autoStarts := s.time :: s.recentStarts } }, congrArg Host.Outcome.next (if_pos hdue),
        rfl, rfl, rfl, rfl⟩, fun hno => congrArg Host.Outcome.next (if_neg ?_)⟩,
    fun s power => ⟨rfl, rfl, rfl, rfl, rfl, rfl, fun n hn => ⟨?_, ?_, ?_⟩⟩,
    fun s => ⟨rfl, rfl, rfl, fun a ha => ?_, fun a hlo hhi => ?_, s.fn_warmReset⟩⟩
  · rw [exec_supplyValid sris h48, State.powerUp_of_ready 0 (by exact haux) (by rfl) (by exact hrst) (by exact hoff)]
    simp only [haux, if_true]
  · exact hno.imp id .inr
  · rw [exec_auxSupplyValid sris haux, State.powerUp_of_ready 0 (by rfl) (by exact h48) (by exact hrst) (by exact hoff)]
    simp only [h48, if_true]
  · exact .inr hno
  · rw [exec_sysRstDeassert hrst, State.powerUp_of_ready 1 (by exact haux) (by exact h48) (by rfl) (by exact hoff)]
  · simp [hup, hlc]
  · simp [hup, hlc]
  · simp [hno]
  · rw [s.fn_coldReset power hn]
    rfl
  · rw [s.fn_coldReset power hn]
    rfl
  · rw [State.fnNat, State.fnNat, s.fn_coldReset power hn, Fn.nat_cold_epoch]
  · exact State.readByte_wipe_other _ (.inl ha)
  · exact State.readByte_wipe _ hlo (by rw [scratchBase, commonsBase] at *; omega)

end Sys2Proof.Machine
end

section
/-! SUPPORT. The boot flash (R609, R615, R616). -/

namespace Sys2Proof.Machine
open Sys2Proof Sys2Proof.Claims

section
variable {s : State}

theorem State.hubBytesGet_hubSetN (s : State) {off a : Nat} (v n : Nat) (h : a < off) : (s.hubSetN a v).hubBytesGet off n = s.hubBytesGet off n := by
  have hword : ∀ i, leBytes 4 ((s.hubSetN a v).hubNat (off + 4 * i)) = leBytes 4 (s.hubNat (off + 4 * i)) :=
    fun i => congrArg (leBytes 4) (State.hubNat_hubSetN_other _ _ _ _ (by omega))
  rw [State.hubBytesGet, List.map_congr_left (fun i _ => hword i), State.hubBytesGet]
theorem State.length_flashBytes (s : State) (a n : Nat) : (s.flashBytes a n).length = n := length_cellsGet ..

/-! ### Operations begin -/

/-- The size of an operation's area. -/
def flashSize (op : Nat) : Nat := if op = 3 then 65536 else 256
/-- The address of an operation that begins. -/
def State.flashAddr (s : State) (op : Nat) : Nat := s.hubNat BOOT_FLASH_ADDR % 2 ^ 27 / flashSize op * flashSize op
/-- An area that an operation may not reach. -/
def State.flashDenied (s : State) (op a : Nat) : Bool := if op = 1 then flashArea a 0x30000 0x10000 else !s.flashWritable a

theorem State.flashBegin_of_up (op : Nat) (hup : s.up = true) (hlc : s.lc ≠ lcScrapped) : s.flashBegin op =
    if s.boot.flashOp.isSome = true then s.hubSetN BOOT_FLASH_STATUS (2 ^ 31 + fsBusy)
    else if s.flashDenied op (s.flashAddr op) = true then s.hubSetN BOOT_FLASH_STATUS fsDenied
    else ({ s with boot := { s.boot with flashOp := some ⟨op, s.flashAddr op⟩ } } : State).hubSetN BOOT_FLASH_STATUS (2 ^ 31) :=
  if_neg (by simp [hup, hlc])

theorem exec_flashBegin {c : Instr} {op size : Nat}
    (h : (c, op, size) ∈ [(Instr.flashRead, 1, 256), (.flashProgram, 2, 256), (.flashErase, 3, 65536)]) (s : State) :
    exec c s = .next (s.flashBegin op) ∧ size = flashSize op := by
  simp only [List.mem_cons, Prod.mk.injEq, List.not_mem_nil, or_false] at h
  obtain ⟨rfl, rfl, rfl⟩ | ⟨rfl, rfl, rfl⟩ | ⟨rfl, rfl, rfl⟩ := h <;> exact ⟨rfl, rfl⟩

theorem State.flashDenied_eq_false {op a : Nat} (h : if op = 1 then flashArea a 0x30000 0x10000 = false else s.flashWritable a = true) :
    s.flashDenied op a = false := by
  unfold State.flashDenied
  split at h
  · next hop => rw [if_pos hop, h]
  · next hop => rw [if_neg hop, h, Bool.not_true]
theorem State.flashDenied_eq_true {op a : Nat} (h : if op = 1 then flashArea a 0x30000 0x10000 = true else s.flashWritable a = false) :
    s.flashDenied op a = true := by
  unfold State.flashDenied
  split at h
  · next hop => rw [if_pos hop, h]
  · next hop => rw [if_neg hop, h, Bool.not_false]

/-! ### Operations end -/

theorem State.programmed_true (s : State) (a : Nat) :
    s.programmed a true = (s.flashBytes a 256).zipWith (· &&& ·) (s.hubBytesGet BOOT_FLASH_BUF 256) := if_pos rfl
theorem State.programmed_false (s : State) (a : Nat) : s.programmed a false = leBytes 256 s.free := if_neg (by decide)
/-- The state of an operation that ends, its part free again. -/
def State.flashFreed (s : State) : State := { s with boot := { s.boot with flashOp := none } }

theorem exec_flashOpDone_read {a : Nat} (v : Bool) (h : s.boot.flashOp = some ⟨1, a⟩) : exec (.flashOpDone v) s =
    .next ((s.flashFreed.hubBytes BOOT_FLASH_BUF (s.flashBytes a 256)).hubSetN BOOT_FLASH_STATUS fsDone) := by
  refine congrArg Host.Outcome.next ?_
  simp only [h]
  rfl
theorem exec_flashOpDone_erase {a : Nat} (v : Bool) (h : s.boot.flashOp = some ⟨3, a⟩) :
    exec (.flashOpDone v) s = .next ((s.flashFreed.eraseFlash a 65536).hubSetN BOOT_FLASH_STATUS fsDone) := by
  refine congrArg Host.Outcome.next ?_
  simp only [h]
  rfl
/-- Outside the slot headers programming changes no fail count. -/
theorem State.clearFails_of_outside {a : Nat} (hA : flashArea a (slotBase false) 4096 = false) (hB : flashArea a (slotBase true) 4096 = false) :
    s.clearFails a = s := by
  simp only [State.clearFails, hA, hB, Bool.not_false, Bool.and_self, if_true]
theorem exec_flashOpDone_program {a : Nat} (v : Bool) (h : s.boot.flashOp = some ⟨2, a⟩) (hA : flashArea a (slotBase false) 4096 = false)
    (hB : flashArea a (slotBase true) 4096 = false) : exec (.flashOpDone v) s =
      .next (((if v = true then s.flashFreed else s.flashFreed.drawn).flashPut a (s.programmed a v)).hubSetN BOOT_FLASH_STATUS
        (if (v && s.programmed a v == s.hubBytesGet BOOT_FLASH_BUF 256) = true then fsDone else fsVerify)) := by
  refine congrArg Host.Outcome.next ?_
  simp only [h, State.clearFails_of_outside hA hB]
  rfl

/-- What programming leaves beside its result. -/
theorem State.flashPut_result (s : State) (v : Bool) (a : Nat) (b : List Byte) (st : Nat) :
    (((if v = true then s.flashFreed else s.flashFreed.drawn).flashPut a b).hubSetN BOOT_FLASH_STATUS st).flash = cellsPut 0xFF s.flash a b ∧
    (((if v = true then s.flashFreed else s.flashFreed.drawn).flashPut a b).hubSetN BOOT_FLASH_STATUS st).boot.flashOp = none ∧
    (((if v = true then s.flashFreed else s.flashFreed.drawn).flashPut a b).hubSetN BOOT_FLASH_STATUS st).draws =
      s.draws + (if v = true then 0 else 1) := by
  cases v <;> exact ⟨rfl, rfl, rfl⟩

theorem cellGet_eraseFlash_inside (s : State) {a n b : Nat} (hlo : a ≤ b) (hhi : b < a + n) : cellGet 0xFF (s.eraseFlash a n).flash b = 0xFF#8 := by
  refine (cellGet_filter 0xFF (fun c => c < a || a + n ≤ c) s.flash b).trans (if_neg ?_)
  simp
  omega
theorem cellGet_eraseFlash_outside (s : State) {a n b : Nat} (h : b < a ∨ a + n ≤ b) :
    cellGet 0xFF (s.eraseFlash a n).flash b = cellGet 0xFF s.flash b := by
  refine (cellGet_filter 0xFF (fun c => c < a || a + n ≤ c) s.flash b).trans (if_pos ?_)
  simpa using h

end

/-- Settles O41: an operation begins where none runs and its area allows it; what it leaves is one case per operation. -/
theorem bootFlash : Obligations.BootFlash := by
  refine ⟨fun s c op size a hc ha hup hlc => ?_, fun s a v hop => ⟨_, exec_flashOpDone_read v hop, ?_, ?_, ?_, State.hubNat_hubSetN_self ..⟩,
    fun s a new hop hA hB hnew => ⟨?_, ?_⟩,
    fun s a v hop => ⟨_, exec_flashOpDone_erase v hop, rfl, State.hubNat_hubSetN_self ..,
      fun b hlo hhi => cellGet_eraseFlash_inside s.flashFreed hlo hhi, fun b hb => cellGet_eraseFlash_outside s.flashFreed hb⟩⟩
  · obtain ⟨hexec, rfl⟩ := exec_flashBegin hc s
    have haddr : a = s.flashAddr op := ha
    rw [State.flashBegin_of_up op hup hlc, ← haddr] at hexec
    refine ⟨fun hbusy => ?_, fun hfree hok => ?_, fun hfree hden => ?_⟩
    · rw [if_pos (Option.isSome_iff_ne_none.mpr hbusy)] at hexec
      exact ⟨_, hexec, rfl, rfl, State.hubNat_hubSetN_self ..⟩
    · rw [if_neg (by simp [hfree]), if_neg (by rw [State.flashDenied_eq_false hok]; decide)] at hexec
      exact ⟨_, hexec, rfl, rfl, State.hubNat_hubSetN_self ..⟩
    · rw [if_neg (by simp [hfree]), if_pos (State.flashDenied_eq_true hden)] at hexec
      exact ⟨_, hexec, rfl, rfl, State.hubNat_hubSetN_self ..⟩
  · simp [State.flashFreed]
  · simp [State.flashFreed]
  · rw [State.hubBytesGet_hubSetN _ _ _ (by decide)]
    exact s.flashFreed.hubBytesGet_hubBytes BOOT_FLASH_BUF 64 (s.length_flashBytes a 256)
  · have hexec := exec_flashOpDone_program true hop hA hB
    rw [State.programmed_true, ← hnew] at hexec
    obtain ⟨hflash, hfree, -⟩ := s.flashPut_result true a ((s.flashBytes a 256).zipWith (· &&& ·) new)
      (if (true && (s.flashBytes a 256).zipWith (· &&& ·) new == new) = true then fsDone else fsVerify)
    refine ⟨_, hexec, hfree, hflash, fun hsame => (State.hubNat_hubSetN_self ..).trans ?_,
      fun hdiff => (State.hubNat_hubSetN_self ..).trans ?_⟩
    · rw [if_pos (by simp [hsame])]
      rfl
    · rw [if_neg (by simpa using hdiff)]
      rfl
  · have hexec := exec_flashOpDone_program false hop hA hB
    rw [State.programmed_false, Bool.false_and, if_neg (show ¬false = true by decide)] at hexec
    obtain ⟨hflash, hfree, hdraws⟩ := s.flashPut_result false a (leBytes 256 s.free) fsVerify
    exact ⟨_, hexec, hfree, hflash, State.hubNat_hubSetN_self .., hdraws⟩

end Sys2Proof.Machine
end

section
/-! SUPPORT. Fields of registers, and the steps of a start (R20, R21, R627 to R635). -/

namespace Sys2Proof.Machine
open Sys2Proof Sys2Proof.Claims

/-! ### Fields -/

theorem testBit_fieldOf (v lo w i : Nat) : (fieldOf v lo w).testBit i = (decide (i < w) && v.testBit (lo + i)) := by
  rw [fieldOf, Nat.testBit_mod_two_pow, Nat.testBit_div_two_pow, Nat.add_comm]

/-- Replacing a field keeps what lies above and below it. -/
theorem withField_eq (v lo w x : Nat) : withField v lo w x = 2 ^ lo * (2 ^ w * (v / 2 ^ lo / 2 ^ w) + x % 2 ^ w) + v % 2 ^ lo := by
  have hlow := Nat.div_add_mod v (2 ^ lo)
  have hhigh := Nat.div_add_mod (v / 2 ^ lo) (2 ^ w)
  have hv : v = 2 ^ lo * (2 ^ w * (v / 2 ^ lo / 2 ^ w)) + 2 ^ lo * (v / 2 ^ lo % 2 ^ w) + v % 2 ^ lo := by
    rw [← Nat.mul_add, hhigh, hlow]
  rw [withField, fieldOf, Nat.mul_add, Nat.mul_comm _ (2 ^ lo), Nat.mul_comm _ (2 ^ lo)]
  omega
theorem testBit_withField (v lo w x i : Nat) :
    (withField v lo w x).testBit i = if lo ≤ i ∧ i < lo + w then x.testBit (i - lo) else v.testBit i := by
  have hlow : v % 2 ^ lo < 2 ^ lo := Nat.mod_lt _ (Nat.two_pow_pos lo)
  have hmid : x % 2 ^ w < 2 ^ w := Nat.mod_lt _ (Nat.two_pow_pos w)
  rw [withField_eq, Nat.testBit_two_pow_mul_add _ hlow]
  split
  · next hi => rw [if_neg (by omega), Nat.testBit_mod_two_pow, decide_eq_true hi, Bool.true_and]
  · next hi =>
    rw [Nat.testBit_two_pow_mul_add _ hmid]
    split
    · next hw => rw [if_pos (by omega), Nat.testBit_mod_two_pow, decide_eq_true hw, Bool.true_and]
    · next hw =>
      rw [if_neg (by omega), Nat.testBit_div_two_pow, Nat.testBit_div_two_pow]
      congr 1
      omega

/-- A field just written, as a register holds it. -/
theorem fieldOf_withField_self (v : Nat) {lo w x : Nat} (h : lo + w ≤ 64) (hx : x < 2 ^ w) : fieldOf (withField v lo w x % 2 ^ 64) lo w = x := by
  refine Nat.eq_of_testBit_eq fun i => ?_
  rw [testBit_fieldOf]
  by_cases hi : i < w
  · rw [decide_eq_true hi, Bool.true_and, Nat.testBit_mod_two_pow, decide_eq_true (by omega), Bool.true_and, testBit_withField, if_pos (by omega),
      Nat.add_sub_cancel_left]
  · have hle : x < 2 ^ i := Nat.lt_of_lt_of_le hx (Nat.pow_le_pow_right (by decide) (by omega))
    rw [decide_eq_false hi, Bool.false_and, Nat.testBit_lt_two_pow hle]
/-- A bit outside a field just written. -/
theorem bitOf_withField_other (v : Nat) {lo w x i : Nat} (h : i < 64) (hi : i < lo ∨ lo + w ≤ i) :
    bitOf (withField v lo w x % 2 ^ 64) i = bitOf v i := by
  rw [bitOf_eq_testBit, bitOf_eq_testBit, Nat.testBit_mod_two_pow, decide_eq_true h, Bool.true_and, testBit_withField, if_neg (by omega)]
/-- A bit just written. -/
theorem bitOf_withField_self (v : Nat) {x i : Nat} (h : i < 64) : bitOf (withField v i 1 x % 2 ^ 64) i = bitOf x 0 := by
  rw [bitOf_eq_testBit, bitOf_eq_testBit, Nat.testBit_mod_two_pow, decide_eq_true h, Bool.true_and, testBit_withField, if_pos (by omega), Nat.sub_self]

/-! ### Sites -/

section
variable {s : State} {site : Nat}

theorem State.siteReg_hubSetN (s : State) (site v : Nat) : (s.hubSetN (IDN_SITE + 4 * site) v).siteReg site = v % 2 ^ 64 := State.hubNat_hubSetN_self ..

/-- A site that has been marked STRAP_ERR, before the error is reported. -/
def State.strapMarked (s : State) (site : Nat) : State :=
  let s := s.hubSetN (IDN_SITE + 4 * site) (withField (withField (s.siteReg site) 7 1 1) 2 2 siteEmpty)
  if site < 16 then
    let s := s.hubSetN IDN_TILES_PRESENT (withField (s.hubNat IDN_TILES_PRESENT) site 1 0)
    { s with noc := { s.noc with maps := s.noc.maps.set (kTile * 65536 + site) 0 } }
  else s
theorem State.strapErr_eq (s : State) (site : Nat) :
    s.strapErr site = ((s.strapMarked site).report (hubReport cStrap .uc 0x17 site 0)).foundSite site := rfl

theorem State.siteReg_strapMarked (s : State) (site : Nat) :
    (s.strapMarked site).siteReg site = withField (withField (s.siteReg site) 7 1 1) 2 2 siteEmpty % 2 ^ 64 := by
  have hoff : IDN_SITE + 4 * site ≠ IDN_TILES_PRESENT := by
    rw [IDN_SITE, IDN_TILES_PRESENT]
    omega
  unfold State.strapMarked
  split
  · exact (State.hubNat_hubSetN_other _ _ _ _ hoff).trans (s.siteReg_hubSetN site _)
  · exact s.siteReg_hubSetN site _
/-- A marked site is empty and shows the error. -/
theorem State.site_strapMarked (s : State) (site : Nat) : (s.strapMarked site).siteErr site = true ∧ (s.strapMarked site).siteSt site = siteEmpty := by
  refine ⟨?_, ?_⟩
  · rw [State.siteErr, State.siteReg_strapMarked, bitOf_withField_other _ (by decide) (.inr (by decide)), bitOf_eq_testBit, testBit_withField]
    rfl
  · rw [State.siteSt, State.siteReg_strapMarked]
    exact fieldOf_withField_self _ (by decide) (by decide)
theorem State.strapMarked_frame (s : State) (site : Nat) : (s.strapMarked site).fns = s.fns ∧ (s.strapMarked site).mem = s.mem ∧
    (s.strapMarked site).sites = s.sites := by
  unfold State.strapMarked
  split <;> exact ⟨rfl, rfl, rfl⟩
/-- A marked tile is absent and vacant. -/
theorem State.tile_strapMarked (s : State) (hs : site < 16) : bitOf ((s.strapMarked site).hubNat IDN_TILES_PRESENT) site = false ∧
    (s.strapMarked site).phys kTile site = none := by
  have heq : s.strapMarked site = let u := s.hubSetN (IDN_SITE + 4 * site) (withField (withField (s.siteReg site) 7 1 1) 2 2 siteEmpty)
      let u := u.hubSetN IDN_TILES_PRESENT (withField (u.hubNat IDN_TILES_PRESENT) site 1 0)
      { u with noc := { u.noc with maps := u.noc.maps.set (kTile * 65536 + site) 0 } } := if_pos hs
  rw [heq]
  refine ⟨?_, ?_⟩
  · refine (congrArg (bitOf · site) (State.hubNat_hubSetN_self ..)).trans ?_
    exact bitOf_withField_self _ (by omega)
  · simp only [State.phys, SMap.find_set_self, if_true]

/-- A tile that answered as its pads say. -/
theorem State.site_active (s : State) (site : Nat) : (s.setSiteSt site siteActive).siteSt site = siteActive := by
  rw [State.siteSt, State.setSiteSt, State.siteReg_hubSetN]
  exact fieldOf_withField_self _ (by decide) (by decide)
theorem State.foundSite_found (s : State) (site : Nat) : site ∈ (s.foundSite site).boot.found ∧ (s.foundSite site).hub = s.hub ∧
    (s.foundSite site).fns = s.fns ∧ (s.foundSite site).mem = s.mem ∧ (s.foundSite site).sdg = s.sdg := by
  unfold State.foundSite
  split
  · next h => exact ⟨List.contains_iff_mem.mp h, rfl, rfl, rfl, rfl⟩
  · exact ⟨List.mem_cons_self, rfl, rfl, rfl, rfl⟩

/-- A silent commons site, before it is marked. -/
def State.siteOff (s : State) (site : Nat) : State := (s.setSite site Site.empty).setCmnSt site cmnOffSt
theorem State.cmnSt_siteOff (s : State) (hlo : 16 ≤ site) : ((s.siteOff site).strapMarked site).cmnSt site = cmnOffSt := by
  have heq : (s.siteOff site).strapMarked site = (s.siteOff site).hubSetN (IDN_SITE + 4 * site)
      (withField (withField ((s.siteOff site).siteReg site) 7 1 1) 2 2 siteEmpty) := if_neg (by omega)
  have hoff : cmnOff site 4 ≠ IDN_SITE + 4 * site := by
    rw [cmnOff, CMN_SITE_CFG, IDN_SITE]
    omega
  have hfield := fieldOf_withField_self ((s.setSite site Site.empty).hubNat (cmnOff site 4)) (lo := 0) (w := 4) (x := cmnOffSt) (by decide) (by decide)
  rw [fieldOf, Nat.pow_zero, Nat.div_one] at hfield
  rw [heq, State.cmnSt, State.hubNat_hubSetN_other _ _ _ _ hoff, State.siteOff, State.setCmnSt, State.hubNat_hubSetN_self]
  exact hfield

theorem exec_tileDiscovery {strap : BitVec 9} (hd : s.discovering site = true) (hs : site < 16) : exec (.tileDiscovery site strap) s =
    .next (if strap.toNat ≠ s.ident.pad site then (s.strapErr site).advance else ((s.setSiteSt site siteActive).foundSite site).advance) :=
  congrArg Host.Outcome.next (if_neg (by simp [hd, hs]))
theorem exec_discoveryTimeout (hd : s.discovering site = true) (ht : s.boot.startAt + 2000000 ≤ s.time) : exec (.discoveryTimeout site) s =
    .next (if site < 16 then (s.strapErr site).advance else ((s.siteOff site).strapErr site).advance) :=
  congrArg Host.Outcome.next (if_neg (by simp [hd, ht]))
theorem exec_discoveryTimeout_early (ht : s.time < s.boot.startAt + 2000000) : exec (.discoveryTimeout site) s = .next s :=
  congrArg Host.Outcome.next (if_pos (by simp [ht]))

end

/-! ### Memory machines, links and readiness -/

section
variable {s : State} {stack : Nat}

/-- A memory machine that has ended. -/
def State.machineEnded (s : State) (stack : Nat) : State :=
  ({ s with boot := { s.boot with machines := stack :: s.boot.machines } } : State).hubSetN BOOT_TRAIN_STATUS
    (withField (s.hubNat BOOT_TRAIN_STATUS) stack 1 1)
theorem State.bitOf_machineEnded (s : State) (h : stack < 24) : bitOf ((s.machineEnded stack).hubNat BOOT_TRAIN_STATUS) stack = true :=
  (congrArg (bitOf · stack) (State.hubNat_hubSetN_self ..)).trans (bitOf_withField_self _ (by omega))
/-- Training ends. -/
def State.linksTrained (s : State) : State :=
  ({ s with boot := { s.boot with linksDone := true } } : State).hubSetN BOOT_TRAIN_STATUS (withField (s.hubNat BOOT_TRAIN_STATUS) 31 1 1)
theorem State.bitOf_linksTrained (s : State) : bitOf (s.linksTrained.hubNat BOOT_TRAIN_STATUS) 31 = true :=
  (congrArg (bitOf · 31) (State.hubNat_hubSetN_self ..)).trans (bitOf_withField_self _ (by decide))

theorem exec_memoryMachineDone (ok : Bool) (hup : s.up = true) (hstep : s.boot.step = 8) (hs : stack < 24) (hnew : stack ∉ s.boot.machines)
    {u : State} (hu : (if ok = true then s else s.fenceStack stack) = u) : exec (.memoryMachineDone stack ok) s = .next
      (if (u.boot.kind = 2 && 24 ≤ u.boot.machines.length + 1) = true then (u.machineEnded stack).recover else u.machineEnded stack).tryReady := by
  subst hu
  exact congrArg Host.Outcome.next (if_neg (by simp [hup, hstep, hs, hnew]))
theorem exec_memoryMachineDone_again (ok : Bool) (h : stack ∈ s.boot.machines) : exec (.memoryMachineDone stack ok) s = .next s :=
  congrArg Host.Outcome.next (if_pos (by simp [h]))

end

/-- Settles O40: each command of a start is one branch on what it finds. -/
theorem startSteps : Obligations.StartSteps := by
  refine ⟨fun s site strap => ⟨fun hno => ⟨congrArg Host.Outcome.next (if_pos (by simp [hno])), congrArg Host.Outcome.next (if_pos (by simp [hno]))⟩,
      fun hd hs => ⟨fun hok => ⟨(s.setSiteSt site siteActive).foundSite site, ?_, ?_⟩, fun hbad => ⟨s.strapMarked site, fun hne => ?_, fun ht => ?_, ?_⟩⟩,
      fun hd hs ht => ⟨(s.siteOff site).strapMarked site, ?_, ?_⟩, exec_discoveryTimeout_early⟩,
    fun s stack ok hup hstep hs => ⟨exec_memoryMachineDone_again ok, fun hnew hkind => ⟨s.machineEnded stack, ?_, rfl, s.bitOf_machineEnded hs, rfl, rfl⟩,
      fun hnew hkind hlen => ⟨s.machineEnded stack, ?_, rfl, rfl, rfl⟩, fun hnew hkind => ⟨(s.fenceStack stack).machineEnded stack, ?_, rfl, rfl, rfl⟩⟩,
    fun s hup hstep => ⟨fun hno => congrArg Host.Outcome.next (if_pos (by simp [hno])),
      fun hyes => ⟨s.linksTrained, congrArg Host.Outcome.next (if_neg (by simp [hyes, hup, hstep])), rfl, s.bitOf_linksTrained, rfl, rfl⟩⟩,
    fun s hup hstep hready hfail hrec => ⟨fun hlinks hmach hkind => if_pos ?_, fun hno => if_neg ?_⟩,
    fun s hup hstep hready hfail hrec htrans hlc => ⟨fun ht => congrArg Host.Outcome.next (if_neg (by simp [ht])),
      fun ht => congrArg Host.Outcome.next (if_pos (by simp [hup, hstep, hready, hfail, hrec, htrans, hlc, ht]))⟩,
    fun s hready => congrArg Host.Outcome.next (if_neg (by simp [hready])),
    fun s hup hfail => ⟨fun ht => congrArg Host.Outcome.next (if_neg (by simp [ht])),
      fun ht => congrArg Host.Outcome.next (if_pos (by simp [hup, hfail, ht]))⟩⟩
  · rw [exec_tileDiscovery hd hs, if_neg (by simp [hok])]
  · obtain ⟨hin, hhub, hfns, hmem, hsdg⟩ := (s.setSiteSt site siteActive).foundSite_found site
    refine ⟨?_, hin, hfns, hmem, hsdg⟩
    rw [State.siteSt, State.siteReg, State.hubNat, State.hubGet, hhub]
    exact s.site_active site
  · rw [exec_tileDiscovery hd hs, if_pos hne, State.strapErr_eq]
  · rw [exec_discoveryTimeout hd ht, if_pos hs, State.strapErr_eq]
  · obtain ⟨herr, hst⟩ := s.site_strapMarked site
    obtain ⟨hbit, hphys⟩ := s.tile_strapMarked hs
    obtain ⟨hfns, hmem, -⟩ := s.strapMarked_frame site
    exact ⟨herr, hst, hbit, hphys, hfns, hmem⟩
  · rw [exec_discoveryTimeout hd ht, if_neg (by omega), State.strapErr_eq]
  · obtain ⟨herr, hst⟩ := (s.siteOff site).site_strapMarked site
    obtain ⟨-, -, hsites⟩ := (s.siteOff site).strapMarked_frame site
    refine ⟨herr, hst, s.cmnSt_siteOff hs, ?_⟩
    rw [State.site, hsites]
    exact SMap.get_set_self ..
  · rw [exec_memoryMachineDone true hup hstep hs hnew (if_pos rfl), if_neg (by simp [hkind])]
  · rw [exec_memoryMachineDone true hup hstep hs hnew (if_pos rfl), if_pos (by simp [hkind, hlen])]
  · rw [exec_memoryMachineDone false hup hstep hs hnew (if_neg (by decide)), if_neg (by simp [hkind])]
  · simpa [hup, hstep, hready, hfail, hrec, hlinks, hmach] using hkind
  · obtain hno | hno := hno
    · simp [hno]
    · simp [hno]

end Sys2Proof.Machine
end

section
/-! SUPPORT. The sheepdog: reports, the safe state and the capture registers (R588, R589, R595 to R597, R600 to R602). -/

namespace Sys2Proof.Machine
open Sys2Proof Sys2Proof.Claims

section
variable {s : State} {r : Report}

theorem State.hubNat_congr {s t : State} (h : t.hub = s.hub) (off : Nat) : t.hubNat off = s.hubNat off := by
  rw [State.hubNat, State.hubGet, h, State.hubNat, State.hubGet]
theorem State.hubCount_eq (s : State) (off n : Nat) : s.hubCount off n = s.hubSetN off (min 0xFFFFFFFF (s.hubNat off + n)) := by
  rw [State.hubCount, sat_eq_min]
theorem State.hubNat_hubCount_self (s : State) (off n : Nat) : (s.hubCount off n).hubNat off = min 0xFFFFFFFF (s.hubNat off + n) := by
  rw [State.hubCount_eq, State.hubNat_hubSetN_self]
  exact Nat.mod_eq_of_lt (by omega)
theorem State.hubNat_hubCount_other (s : State) (n : Nat) {off a : Nat} (h : a ≠ off) : (s.hubCount off n).hubNat a = s.hubNat a :=
  State.hubNat_hubSetN_other _ _ _ _ h

/-! ### Reports -/

theorem exec_faultReport (r : Report) (hup : s.up = true) : exec (.faultReport r) s = .next (s.takeReport r) := congrArg Host.Outcome.next (if_pos hup)
theorem exec_stallWatchdog (r : Report) (hup : s.up = true) : exec (.stallWatchdog r) s = .next (s.takeReport { r with cause := cCompletion }) :=
  congrArg Host.Outcome.next (if_pos hup)

/-- A cause outside the catalogue has no effect. -/
theorem State.takeReport_of_unknown (h : r.cause = 0 ∨ cRecoveryLimit < r.cause) : s.takeReport r = s := if_pos (by simpa using h)
theorem State.takeReport_of_selfCe (h : r.cause = cSramCe) (hb : r.block = 0x14) : s.takeReport r = s.hubCount SDG_SELF_CE 1 := by
  refine (if_neg ?_).trans (if_pos ?_)
  · rw [h]
    decide
  · simp [h, hb]
/-- The causes whose entry is all that the catalogue asks for, beside the safe state. -/
theorem State.takeReport_of_ft
    (h : r.cause ∈ [cMeshLost, cJournalLost, cKeyUnwrap, cHubRail, cThermalTrip, cShepherdAll, cRecoveryLimit]) :
    s.takeReport r = s.report { r with cls := .ft } := by
  obtain ⟨cause, cls, addr, block, phys, initiator, hub, paddock, access, kind, unit, records⟩ := r
  simp only [List.mem_cons, List.not_mem_nil, or_false] at h
  obtain rfl | rfl | rfl | rfl | rfl | rfl | rfl := h <;> rfl
/-- An error of a checked datapath that fences no unit at once. -/
theorem State.takeReport_of_datapath (h : r.cause ∈ [cResidue, cDuplicate, cCompletion]) (hk : fencedAtOnce r.kind = false) :
    s.takeReport r = (s.report { r with cls := .uc }).errorAll r.records true := by
  have hreact : ∀ q : Report, q.cause ∈ [cResidue, cDuplicate, cCompletion] → s.react q =
      (if fencedAtOnce q.kind = true then (s.report q).fenceNamed q.kind q.unit q.cause else s.report q).errorAll q.records true := by
    intro q hq
    simp only [List.mem_cons, List.not_mem_nil, or_false] at hq
    obtain hq | hq | hq := hq <;> simp only [State.react, hq] <;> rfl
  have hcls : (if (r.cause = cCommonsReport && r.cls == .ft) = true then FaultClass.ft else causeClass r.cause r.cls) = .uc := by
    simp only [List.mem_cons, List.not_mem_nil, or_false] at h
    obtain h | h | h := h <;> rw [h] <;> rfl
  rw [State.takeReport, hcls, hreact { r with cls := .uc } h, if_neg (by simp [hk])]
theorem State.takeReport_of_e2e (h : r.cause = cE2eCrc) :
    s.takeReport r = ((s.hubCount NOC_E2E_ERRORS 1).report { r with cls := .uc }).errorAll r.records true := by
  have hcls : (if (r.cause = cCommonsReport && r.cls == .ft) = true then FaultClass.ft else causeClass r.cause r.cls) = .uc := by
    rw [h]
    rfl
  rw [State.takeReport, hcls]
  simp only [State.react, h]
  rfl

end

/-! ### The safe state -/

theorem sdgStatusAfter_bits (old : Nat) {cause : Nat} (self : Bool) (h : cause < 256) : sdgStatusAfter old cause self < 2 ^ 64 ∧
    bitOf (sdgStatusAfter old cause self) 31 = true ∧ (self = true → bitOf (sdgStatusAfter old cause self) 30 = true) ∧
    (bitOf old 31 = false ∨ self = true → fieldOf (sdgStatusAfter old cause self) 8 8 = cause) := by
  have hlayout : ∀ (a b : Bool) (c : Nat), c < 256 → 2 ^ 31 + boolN a * 2 ^ 30 + boolN b * 2 ^ 29 + c * 256 < 2 ^ 64 ∧
      bitOf (2 ^ 31 + boolN a * 2 ^ 30 + boolN b * 2 ^ 29 + c * 256) 31 = true ∧
      (a = true → bitOf (2 ^ 31 + boolN a * 2 ^ 30 + boolN b * 2 ^ 29 + c * 256) 30 = true) ∧
      fieldOf (2 ^ 31 + boolN a * 2 ^ 30 + boolN b * 2 ^ 29 + c * 256) 8 8 = c := by
    intro a b c hc
    simp only [bitOf, fieldOf, decide_eq_true_iff]
    have ha : boolN a ≤ 1 ∧ (a = true → boolN a = 1) := by cases a <;> decide
    have hb : boolN b ≤ 1 := by cases b <;> decide
    obtain ⟨ha, hset⟩ := ha
    exact ⟨by omega, by omega, fun h => by have := hset h; omega, by omega⟩
  have hc : (if (bitOf old 31 && !self) = true then fieldOf old 8 8 else cause) < 256 := by
    split
    · exact Nat.mod_lt _ (by decide)
    · exact h
  obtain ⟨hlt, h31, h30, hcause⟩ := hlayout (bitOf old 30 || self) (bitOf old 29 || holdingCause cause) _ hc
  refine ⟨hlt, h31, fun hself => h30 (by simp [hself]), fun hnew => hcause.trans (if_neg ?_)⟩
  obtain hnew | hnew := hnew <;> simp [hnew]

section
variable {s : State}

theorem State.hubNat_raiseInt_other (s : State) (bit : Nat) {off : Nat} (h : off ≠ PCE_INT_STATUS) :
    (s.raiseInt bit).hubNat off = s.hubNat off := by
  have hhub : (s.raiseInt bit).hub = (s.hubSet PCE_INT_STATUS (s.hubGet PCE_INT_STATUS ||| BitVec.ofNat 64 (2 ^ bit))).hub := by
    simp [State.raiseInt]
  rw [State.hubNat, State.hubGet, hhub]
  exact congrArg BitVec.toNat (State.hubGet_hubSet_other _ _ _ _ h)

/-- An FT is noted. -/
def State.safeNoted (s : State) (cause : Nat) (self : Bool) : State :=
  let s := s.hubSetN SDG_STATUS (sdgStatusAfter (s.hubNat SDG_STATUS) cause self)
  let s := { s with sdg := { s.sdg with lastFt := s.time,
                                        held := if holdingCause cause then s.sdg.held.set cause s.time else s.sdg.held },
                    boot := { s.boot with coldNeeded := s.boot.coldNeeded || cause = cJournalLost || cause = cKeyUnwrap } }
  if s.boot.ready || s.boot.step = 0 then s else s.failStart (ftReason s.boot.step cause)
theorem State.enterSafe_eq (s : State) (cause : Nat) (self : Bool) : s.enterSafe cause self =
    if s.safe = true then s.safeNoted cause self else ((s.safeNoted cause self).stopAll.sendFenced).raiseInt intSafe := rfl
theorem State.hub_safeNoted (s : State) (cause : Nat) (self : Bool) :
    (s.safeNoted cause self).hub = (s.hubSetN SDG_STATUS (sdgStatusAfter (s.hubNat SDG_STATUS) cause self)).hub := by
  unfold State.safeNoted
  dsimp only
  split
  · rfl
  · simp

/-- The status register after an FT. -/
theorem State.status_enterSafe (s : State) {cause : Nat} (self : Bool) (h : cause < 256) :
    (s.enterSafe cause self).hubNat SDG_STATUS = sdgStatusAfter (s.hubNat SDG_STATUS) cause self := by
  obtain ⟨hlt, -⟩ := sdgStatusAfter_bits (s.hubNat SDG_STATUS) self h
  have hnoted : (s.safeNoted cause self).hubNat SDG_STATUS = sdgStatusAfter (s.hubNat SDG_STATUS) cause self := by
    rw [State.hubNat, State.hubGet, State.hub_safeNoted]
    exact (State.hubNat_hubSetN_self ..).trans (Nat.mod_eq_of_lt hlt)
  rw [State.enterSafe_eq]
  split
  · exact hnoted
  · rw [State.hubNat_raiseInt_other _ _ (by decide), State.hubNat, State.hubGet]
    simp only [State.sendFenced_frame, State.stopAll_frame]
    exact hnoted

/-! ### Leaving it, the queue and the capture registers -/

/-- The exit is counted, the safe state ends and its time is noted. -/
def State.safeLeft (s : State) : State :=
  let s := s.hubCount SDG_RECOVERIES 1
  { s.hubSetN SDG_STATUS (withField (s.hubNat SDG_STATUS) 31 1 0) with sdg := { s.sdg with exits := s.time :: s.recentExits } }

theorem State.hub_safeLeft (s : State) : s.safeLeft.hub = ((s.hubCount SDG_RECOVERIES 1).hubSetN SDG_STATUS
    (withField ((s.hubCount SDG_RECOVERIES 1).hubNat SDG_STATUS) 31 1 0)).hub := rfl
theorem State.safe_safeLeft (s : State) : s.safeLeft.safe = false := by
  rw [State.safe, State.hubNat_congr s.hub_safeLeft, State.hubNat_hubSetN_self, bitOf_withField_self _ (by decide)]
  rfl
theorem State.exits_safeLeft (s : State) : s.safeLeft.sdg.exits = s.time :: s.recentExits := by
  have hlimit := s.hubNat_hubCount_other 1 (off := SDG_RECOVERIES) (a := SDG_RECOVERY_LIMIT) (by decide)
  have hexits : (s.hubCount SDG_RECOVERIES 1).recentExits = s.recentExits := by
    simp only [State.recentExits, hlimit, State.hubCount_frame]
  simp only [State.safeLeft, hexits, State.hubCount_frame]
theorem State.recoveries_safeLeft (s : State) : s.safeLeft.hubNat SDG_RECOVERIES = min 0xFFFFFFFF (s.hubNat SDG_RECOVERIES + 1) := by
  rw [State.hubNat_congr s.hub_safeLeft, State.hubNat_hubSetN_other _ _ _ _ (by decide), State.hubNat_hubCount_self]

theorem exec_safeExit_done (hmay : s.mayExit = true) (hfew : s.recentExits.length ≤ s.hubNat SDG_RECOVERY_LIMIT % 256) : exec .safeExit s =
    .next ((List.range 16).foldl (fun (x : State) p => if x.unusedPort p then x else x.sendIdent p)
      ((s.safeLeft.raiseInt intSafe).fns.foldl (fun (x : State) (p : Nat × Fn) => x.pump p.1) (s.safeLeft.raiseInt intSafe))) :=
  congrArg Host.Outcome.next ((if_neg (by simp [hmay])).trans (if_neg (by omega)))

theorem State.releaseSlot_queue (s : State) (k : Nat) : (s.releaseSlot k).sdg.queue.find k = none ∧
    (∀ j, j ≠ k → (s.releaseSlot k).sdg.queue.find j = s.sdg.queue.find j) ∧ (s.releaseSlot k).sdg.pinfold = s.sdg.pinfold := by
  unfold State.releaseSlot
  cases hk : s.sdg.queue.find k with
  | none => exact ⟨hk, fun _ _ => rfl, rfl⟩
  | some e => exact ⟨SMap.find_del_self .., fun j hj => SMap.find_del_other _ _ _ hj, rfl⟩

/-- The capture registers are cleared. -/
def State.captureCleared (s : State) : State :=
  (((s.hubSetN SDG_FIRST_INFO 0).hubSetN SDG_FIRST_ADDR 0).hubSetN SDG_FIRST_CAUSE 0).hubSetN SDG_FIRST_TIME 0
theorem State.hub_captureCleared (s : State) : s.captureCleared.hubNat SDG_FIRST_INFO = 0 ∧ s.captureCleared.hubNat SDG_FIRST_ADDR = 0 ∧
    s.captureCleared.hubNat SDG_FIRST_CAUSE = 0 ∧ s.captureCleared.hubNat SDG_FIRST_TIME = 0 := by
  refine ⟨?_, ?_, ?_, State.hubNat_hubSetN_self ..⟩
  · rw [State.captureCleared, State.hubNat_hubSetN_other _ _ _ _ (by decide), State.hubNat_hubSetN_other _ _ _ _ (by decide),
      State.hubNat_hubSetN_other _ _ _ _ (by decide), State.hubNat_hubSetN_self]
    rfl
  · rw [State.captureCleared, State.hubNat_hubSetN_other _ _ _ _ (by decide), State.hubNat_hubSetN_other _ _ _ _ (by decide),
      State.hubNat_hubSetN_self]
    rfl
  · rw [State.captureCleared, State.hubNat_hubSetN_other _ _ _ _ (by decide), State.hubNat_hubSetN_self]
    rfl

end

/-- Settles O46: reports by the class of their cause, the safe state by its status register. -/
theorem sheepdog : Obligations.Sheepdog := by
  refine ⟨fun s r hup => ⟨fun h => ?_, fun h hb => ?_, fun h => ?_, fun h hk => ?_, fun h => ⟨s.hubCount NOC_E2E_ERRORS 1, ?_, s.hubNat_hubCount_self ..,
      rfl, rfl⟩, fun hk => ?_, congrArg Host.Outcome.next (if_pos hup)⟩,
    fun s cause self h => ⟨?_, fun hnew => ?_, fun hself => ?_⟩,
    fun s => ⟨fun hno => congrArg Host.Outcome.next (if_pos (by simp [hno])),
      fun hmay hmany => congrArg Host.Outcome.next ((if_neg (by simp [hmay])).trans (if_pos hmany)),
      fun hmay hfew => ⟨s.safeLeft, s.safeLeft.raiseInt intSafe, exec_safeExit_done hmay hfew, rfl,
        s.safe_safeLeft, s.exits_safeLeft, s.recoveries_safeLeft, rfl, rfl⟩⟩,
    fun s v hup => ?_,
    fun s hup => ⟨fun hsafe => congrArg Host.Outcome.next (if_neg (by simp [hsafe])), fun hsafe => ?_⟩⟩
  · rw [exec_faultReport r hup, State.takeReport_of_unknown h]
  · rw [exec_faultReport r hup, State.takeReport_of_selfCe h hb, State.hubCount_eq]
  · rw [exec_faultReport r hup, State.takeReport_of_ft h]
  · rw [exec_faultReport r hup, State.takeReport_of_datapath h hk]
  · rw [exec_faultReport r hup, State.takeReport_of_e2e h]
  · exact (exec_stallWatchdog r hup).trans
      (congrArg Host.Outcome.next (State.takeReport_of_datapath (r := { r with cause := cCompletion }) (by simp) hk))
  · obtain ⟨-, h31, -⟩ := sdgStatusAfter_bits (s.hubNat SDG_STATUS) self h
    rw [State.safe, s.status_enterSafe self h, h31]
  · obtain ⟨-, -, -, hcause⟩ := sdgStatusAfter_bits (s.hubNat SDG_STATUS) self h
    rw [s.status_enterSafe self h, hcause hnew]
  · obtain ⟨-, -, h30, -⟩ := sdgStatusAfter_bits (s.hubNat SDG_STATUS) self h
    rw [s.status_enterSafe self h, h30 hself]
  · obtain ⟨hself, hother, hpin⟩ := s.releaseSlot_queue (v.toNat % 1024)
    exact ⟨_, congrArg Host.Outcome.next (if_pos hup), hself, hother, hpin, by simp, by simp⟩
  · obtain ⟨hinfo, haddr, hcause, htime⟩ := s.hub_captureCleared
    exact ⟨s.captureCleared, congrArg Host.Outcome.next (if_pos (by simp [hup, hsafe])), hinfo, haddr, hcause, htime, rfl, rfl⟩

end Sys2Proof.Machine
end

section
/-! SUPPORT. The bandwidth regulators (R327, R328, R333 to R336, R344, R348, R349). -/

namespace Sys2Proof.Machine
open Sys2Proof Sys2Proof.Claims

/-! ### Flows -/

section
variable {s t : State} {o c : Nat}

theorem State.flow_congr (hfns : t.fns = s.fns) (hms : t.ms = s.ms) (o c : Nat) : t.flow o c = s.flow o c := by
  rw [State.flow, State.flow, hms, State.fn_congr hfns]
theorem State.flow_setFlow_self (s : State) (o c : Nat) (x : Flow) : (s.setFlow o c x).flow o c = x := by
  unfold State.flow State.setFlow
  split
  · exact SMap.get_set_self ..
  · rw [State.fn_modFn_self]
    exact SMap.get_set_self ..
theorem State.flow_setFlow_other (s : State) (x : Flow) {o' c' : Nat} (h : (o', c') ≠ (o, c)) : (s.setFlow o c x).flow o' c' = s.flow o' c' := by
  by_cases ho : o' = o
  · subst ho
    have hc : c' ≠ c := fun hc => h (by rw [hc])
    unfold State.flow State.setFlow
    split
    · exact SMap.get_set_other _ _ _ _ _ hc
    · rw [State.fn_modFn_self]
      exact SMap.get_set_other _ _ _ _ _ hc
  · unfold State.flow State.setFlow
    by_cases hhub : o = ownerHub
    · rw [if_pos hhub, if_neg (hhub ▸ ho), if_neg (hhub ▸ ho)]
      rfl
    · rw [if_neg hhub, State.fn_modFn_other _ _ _ _ ho]
      rfl
/-- Flows set one after the other, each to a value of its own. -/
theorem State.flow_setFlows (f : Nat × Nat → Flow) {l : List (Nat × Nat)} (s : State) {x : Nat × Nat} (h : x ∈ l) :
    ((l.map (fun x => (x, f x))).foldl (fun s y => s.setFlow y.1.1 y.1.2 y.2) s).flow x.1 x.2 = f x := by
  have hkeep : ∀ (l : List (Nat × Nat)) (s : State), s.flow x.1 x.2 = f x →
      ((l.map (fun x => (x, f x))).foldl (fun s y => s.setFlow y.1.1 y.1.2 y.2) s).flow x.1 x.2 = f x := by
    intro l
    induction l with
    | nil => exact fun _ h => h
    | cons a l ih =>
      refine fun s hs => ih _ ?_
      by_cases ha : x = a
      · subst ha
        exact State.flow_setFlow_self ..
      · exact (State.flow_setFlow_other s _ ha).trans hs
  induction l generalizing s with
  | nil => simp at h
  | cons a l ih =>
    by_cases hl : x ∈ l
    · exact ih _ hl
    · obtain rfl | h := List.mem_cons.mp h
      · exact hkeep l _ (State.flow_setFlow_self ..)
      · exact absurd h hl

theorem State.flow_of_fn (hms : t.ms = s.ms) (hfn : ∀ n, (t.fn n).flows = (s.fn n).flows) (o c : Nat) : t.flow o c = s.flow o c := by
  rw [State.flow, State.flow, hms, hfn]
theorem State.flow_fnSetN (s : State) (n off v o c : Nat) : (s.fnSetN n off v).flow o c = s.flow o c := by
  refine State.flow_of_fn (by simp) (fun m => ?_) o c
  by_cases hm : m = n
  · subst hm
    rw [State.fnSetN, State.fn_modFn_self]
    rfl
  · rw [State.fnSetN, State.fn_modFn_other _ _ _ _ hm]
theorem State.flow_tallyP (s : State) (n : Nat) (st : Option Nat) (code k o c : Nat) : (s.tallyP n st code k).flow o c = s.flow o c := by
  refine State.flow_of_fn (by simp) (fun m => ?_) o c
  obtain ⟨heq, -⟩ := s.sameButTally_tallyP n st code k m
  rw [heq]

/-! ### Windows -/

/-- The flows of a window that begins. -/
def State.windowFlows (s : State) (w : List (Nat × Nat)) : State :=
  ((s.allFlows ++ [(ownerHub, 0xB)]).map (fun x => (x, s.openWindow w x))).foldl (fun (s : State) (y : (Nat × Nat) × Flow) => s.setFlow y.1.1 y.1.2 y.2) s
/-- Scales are shown and urgent windows counted. -/
def State.windowShown (s : State) : State := (s.paddocks.foldl (fun s n => s.fnSetN n BWG_SCALE (s.paddockScale n)) s).countUrgent

theorem exec_regulatorWindow {w th : List (Nat × Nat)} (hup : s.up = true) (ht : s.time % 1000 = 0) :
    exec (.regulatorWindow w th) s = .next (((s.closeWindow w th).markShortfall).windowFlows w).windowShown :=
  congrArg Host.Outcome.next (if_neg (by simp [hup, ht]))
theorem State.flow_windowShown (s : State) (o c : Nat) : s.windowShown.flow o c = s.flow o c := by
  refine (State.flow_congr (s := s.paddocks.foldl (fun s n => s.fnSetN n BWG_SCALE (s.paddockScale n)) s) (by simp [State.windowShown])
    (by simp [State.windowShown]) o c).trans ?_
  exact foldl_keep (fun s => s.flow o c) _ _ _ fun s n => s.flow_fnSetN ..
theorem State.flow_windowFlows {w : List (Nat × Nat)} (h : (o, c) ∈ s.allFlows) : (s.windowFlows w).flow o c = s.openWindow w (o, c) :=
  State.flow_setFlows (s.openWindow w) s (x := (o, c)) (List.mem_append_left _ h)
theorem State.grant_openWindow {w : List (Nat × Nat)} (h : (o, c) ∉ w) : (s.openWindow w (o, c)).grant = 0 := by
  have hzero : s.grantOf w o c = 0 := if_pos (by simpa using h)
  exact congrArg Int.ofNat hzero

end

/-! ### Charges and urgency -/

section
variable {s : State} {o c : Nat}

/-- A paddock's charge is counted unless it is confidential. -/
def State.chargeCounted (s : State) (o c n : Nat) (a : ChargeKind) (surplus : Bool) : State :=
  let u := s.fnCount64 o (BWG_BYTES + 0x20 * c) n
  let u := if surplus then u.fnCount64 o (BWG_SURPLUS + 0x20 * c) n else u
  u.tallyP o none (if isWriteCharge a then 0x0D else 0x0C) n

theorem exec_chargeReport {a : ChargeKind} {n : Nat} (surplus : Bool) (hup : s.up = true) (hf : s.isFlow o c = true)
    (hn : n = chargeBytes a (o != ownerHub && s.integrity o)) : exec (.chargeReport o c a surplus) s =
      .next (if (o = ownerHub || (s.charge o c n surplus).confidential o) = true then s.charge o c n surplus
        else (s.charge o c n surplus).chargeCounted o c n a surplus) := by
  subst hn
  exact congrArg Host.Outcome.next (if_neg (by simp [hup, hf]))

theorem State.flow_charge (s : State) (o c n : Nat) (surplus : Bool) : (s.charge o c n surplus).flow o c =
    { s.flow o c with balance := if surplus then (s.flow o c).balance else (s.flow o c).balance - n,
                      grant := if surplus then max ((s.flow o c).grant - n) 0 else (s.flow o c).grant,
                      charged := (s.flow o c).charged + n } := State.flow_setFlow_self ..
theorem State.flow_chargeCounted (s : State) (o c n : Nat) (a : ChargeKind) (surplus : Bool) :
    (s.chargeCounted o c n a surplus).flow o c = s.flow o c := by
  unfold State.chargeCounted
  rw [State.flow_tallyP]
  cases surplus
  · exact s.flow_fnSetN ..
  · exact (State.flow_fnSetN ..).trans (s.flow_fnSetN ..)
theorem State.mem_chargeCounted (s : State) (o c n : Nat) (a : ChargeKind) (surplus : Bool) : (s.chargeCounted o c n a surplus).mem = s.mem := by
  cases surplus <;> simp [State.chargeCounted]

theorem State.fnNat_fnCount64_self (s : State) (n off k : Nat) : (s.fnCount64 n off k).fnNat n off = min 0xFFFFFFFFFFFFFFFF (s.fnNat n off + k) := by
  rw [State.fnCount64, State.fnNat, State.fnSetN, State.fn_modFn_self, Fn.nat_putN_self, sat_eq_min]
  exact Nat.mod_eq_of_lt (by omega)
theorem class_lt_of_isFlow (h : s.isFlow o c = true) (ho : o ≠ ownerHub) : c < 6 := by
  have hall : (o, c) ∈ s.allFlows := by simpa [State.isFlow, ho] using h
  obtain hpad | hhub := List.mem_append.mp hall
  · obtain ⟨l, hl, hc⟩ := List.mem_flatten.mp hpad
    obtain ⟨n, -, rfl⟩ := List.mem_map.mp hl
    obtain ⟨k, hk, heq⟩ := List.mem_map.mp hc
    cases heq
    exact List.mem_range.mp hk
  · simp [ho] at hhub

theorem State.setFlow_keepsRegs (s : State) (o c : Nat) (x : Flow) (n : Nat) : ((s.setFlow o c x).fn n).regs = (s.fn n).regs := by
  unfold State.setFlow
  split
  · rfl
  · by_cases hn : n = o
    · subst hn
      rw [State.fn_modFn_self]
    · rw [State.fn_modFn_other _ _ _ _ hn]

/-- What every charge does, whatever it is counted in. -/
theorem exec_chargeReport_flow {a : ChargeKind} {n : Nat} (surplus : Bool) (hup : s.up = true) (hf : s.isFlow o c = true)
    (hn : n = chargeBytes a (o != ownerHub && s.integrity o)) : ∃ t : State, exec (.chargeReport o c a surplus) s = .next t ∧
      t.flow o c = (s.charge o c n surplus).flow o c ∧ t.mem = s.mem ∧
      (o ≠ ownerHub → s.confidential o = false → t = (s.charge o c n surplus).chargeCounted o c n a surplus) ∧
      (s.confidential o = true → t = s.charge o c n surplus) := by
  have hexec := exec_chargeReport (a := a) surplus hup hf hn
  have hconf : (s.charge o c n surplus).confidential o = s.confidential o := congrArg (bitOf · 0) (State.hubNat_congr (by simp) _)
  by_cases hskip : o = ownerHub ∨ s.confidential o = true
  · rw [if_pos (by simpa [hconf] using hskip)] at hexec
    exact ⟨_, hexec, rfl, by simp, fun ho hc => absurd hskip (by simp [ho, hc]), fun _ => rfl⟩
  · rw [if_neg (by simpa [hconf] using hskip)] at hexec
    refine ⟨_, hexec, State.flow_chargeCounted .., (State.mem_chargeCounted ..).trans (by simp), fun _ _ => rfl, fun hc => absurd (.inr hc) hskip⟩

theorem exec_urgencyChange {l : Nat} (hup : s.up = true) (hf : s.isFlow o c = true) (hrt : realTime o c = true) :
    exec (.urgencyChange o c l) s = .next
      (if o = ownerHub then s.setFlow o c { s.flow o c with urgency := s.urgencyLevel o c l }
       else (s.setFlow o c { s.flow o c with urgency := s.urgencyLevel o c l }).fnSetN o BWG_URGENCY
        (withField ((s.setFlow o c { s.flow o c with urgency := s.urgencyLevel o c l }).fnNat o BWG_URGENCY) (if c = clsStile then 0 else 2) 2
          (s.urgencyLevel o c l))) :=
  congrArg Host.Outcome.next (if_neg (by simp [hup, hf, hrt]))

/-! ### Feedback -/

/-- Queues as the feedback of one engine leaves them. -/
def State.queued (s : State) (e r w : Nat) : State :=
  { s with ms := { s.ms with engines := s.ms.engines.set e { s.ms.engines.get Engine.empty e with rq := sat 64 r, wq := sat 64 w } } }
/-- The groups marked by their levels. -/
def State.groupsMarked (s : State) : State :=
  { s with ms := { s.ms with amber := s.groupsAt (s.hubNat BWG_FEEDBACK % 64), red := s.groupsAt (fieldOf (s.hubNat BWG_FEEDBACK) 8 6) } }

theorem exec_queueFeedback_one {e r w : Nat} (hup : s.up = true) (he : e < 1536) :
    exec (.queueFeedback [(e, r, w)]) s = .next (s.queued e r w).groupsMarked := by
  refine congrArg Host.Outcome.next ((if_neg (by simp [hup])).trans ?_)
  simp only [List.foldl_cons, List.foldl_nil, he, if_true]
  rfl
theorem State.mem_groupsAt {g level : Nat} : g ∈ s.groupsAt level ↔ g < 6 ∧ s.activeChannels g < 8 * s.enginesAt g level := by
  rw [State.groupsAt, List.mem_filter, List.mem_range, decide_eq_true_iff]

end

/-- Settles O45: windows, charges, urgency, feedback and the shortfall log, each by what it sets. -/
theorem bandwidthRegulation : Obligations.BandwidthRegulation := by
  refine ⟨fun s w th hup => ⟨fun hno => congrArg Host.Outcome.next (if_pos (by simp [hno])), fun ht =>
      ⟨_, _, rfl, exec_regulatorWindow hup ht, ?_, ?_, fun o c hoc => ?_⟩⟩, ⟨rfl, rfl, rfl, rfl, rfl⟩,
    fun s o c n a hup hf hn => ⟨?_, ?_⟩,
    fun s o c l hup hf => ⟨fun hno => congrArg Host.Outcome.next (if_pos (by simp [hno])), fun hrt => ?_⟩,
    fun s e r w hup he => ⟨_, exec_queueFeedback_one hup he, ?_, ?_, fun g => State.mem_groupsAt (s := s.queued e r w),
      fun g => State.mem_groupsAt (s := s.queued e r w), rfl, rfl⟩,
    fun s g hup => ⟨fun hno => congrArg Host.Outcome.next (if_neg ?_), fun hin ht =>
      ⟨s.shortfallReport g false, congrArg Host.Outcome.next (if_pos (by simp [hup, hin, ht])), ?_, by simp, by simp⟩⟩⟩
  · simp [State.windowShown, State.windowFlows]
  · simp [State.windowShown, State.windowFlows]
  · rw [State.flow_windowShown, State.flow_windowFlows hoc]
    exact ⟨rfl, rfl, rfl, rfl, State.grant_openWindow⟩
  · obtain ⟨t, hexec, hflow, hmem, hcount, hconf⟩ := exec_chargeReport_flow (a := a) false hup hf hn
    rw [State.flow_charge] at hflow
    refine ⟨t, hexec, by rw [hflow]; rfl, by rw [hflow]; rfl, by rw [hflow], hmem, fun ho hc => ?_, fun hc => ?_⟩
    · have hc6 := class_lt_of_isFlow hf ho
      have hoff : BWG_BYTES + 0x20 * c < TLY_FN_COUNT := by
        rw [BWG_BYTES, TLY_FN_COUNT]
        omega
      have htally := (State.sameButTally_tallyP ((s.charge o c n false).fnCount64 o (BWG_BYTES + 0x20 * c) n) o none
        (if isWriteCharge a then 0x0D else 0x0C) n o).nat hoff
      rw [hcount ho hc]
      refine htally.trans ((State.fnNat_fnCount64_self ..).trans ?_)
      have hregs : ((s.charge o c n false).fn o).regs = (s.fn o).regs := s.setFlow_keepsRegs ..
      exact congrArg (fun v => min 0xFFFFFFFFFFFFFFFF (v + n)) (Fn.nat_congr hregs _)
    · rw [hconf hc]
      exact ⟨by simp, s.setFlow_keepsRegs ..⟩
  · obtain ⟨t, hexec, hflow, hmem, -⟩ := exec_chargeReport_flow (a := a) true hup hf hn
    rw [State.flow_charge] at hflow
    exact ⟨t, hexec, by rw [hflow]; rfl, by rw [hflow]; rfl, by rw [hflow], hmem⟩
  · have hexec := exec_urgencyChange (l := l) hup hf hrt
    by_cases ho : o = ownerHub
    · rw [if_pos ho] at hexec
      exact ⟨_, hexec, State.flow_setFlow_self .., by simp, by simp⟩
    · rw [if_neg ho] at hexec
      exact ⟨_, hexec, (State.flow_fnSetN ..).trans (State.flow_setFlow_self ..), by simp, by simp⟩
  · refine (congrArg Engine.rq (SMap.get_set_self ..)).trans ?_
    exact sat_eq_min ..
  · refine (congrArg Engine.wq (SMap.get_set_self ..)).trans ?_
    exact sat_eq_min ..
  · obtain hno | hno := hno
    · simp [hno]
    · simp [hno.not_ge]
  · exact (SMap.get_set_self ..).trans (by simp)

end Sys2Proof.Machine
end

section
/-! SUPPORT. Page request groups (R408 to R415). -/

namespace Sys2Proof.Machine
open Sys2Proof Sys2Proof.Claims

/-! ### The translation unit of a function -/

section
variable {s : State} {fn : Nat}

/-- The translation unit of a function. -/
def State.xltOf (s : State) (fn : Nat) : Xlt := (s.fn fn).xlt

theorem State.xltOf_modXlt (s : State) (fn : Nat) (g : Xlt → Xlt) : (s.modXlt fn g).xltOf fn = g (s.xltOf fn) := by
  rw [State.xltOf, State.modXlt, State.fn_modFn_self]
  rfl
theorem State.xltOf_fnSetN (s : State) (fn off v : Nat) : (s.fnSetN fn off v).xltOf fn = s.xltOf fn := by
  rw [State.xltOf, State.fnSetN, State.fn_modFn_self]
  rfl
theorem State.xltOf_fnCount (s : State) (fn off n : Nat) : (s.fnCount fn off n).xltOf fn = s.xltOf fn := s.xltOf_fnSetN ..
theorem State.xltOf_notePri (s : State) (fn : Nat) : (s.notePri fn).xltOf fn = s.xltOf fn := by
  rw [State.xltOf, State.notePri, State.fn_modFn_self]
  rfl
theorem State.fnNat_modXlt (s : State) (fn : Nat) (g : Xlt → Xlt) (off : Nat) : (s.modXlt fn g).fnNat fn off = s.fnNat fn off := by
  rw [State.fnNat, State.modXlt, State.fn_modFn_self]
  rfl

/-- Asking for a translation adds one wait, which is held back or for the answer, and at most a request. -/
theorem State.xltOf_askAts (s : State) (fn : Nat) (w : XWait) : ∃ st reqs, (st = .held ∨ st = .ats) ∧
    (s.askAts fn w).xltOf fn = { s.xltOf fn with waits := (s.xltOf fn).waits ++ [{ w with stage := st }], atsReqs := reqs } := by
  unfold State.askAts
  split
  · exact ⟨.held, _, .inl rfl, s.xltOf_modXlt fn _⟩
  · dsimp only
    split
    · exact ⟨.ats, _, .inr rfl, s.xltOf_modXlt fn _⟩
    · refine ⟨.ats, (s.xltOf fn).atsReqs ++ [(w.page, w.write)], .inr rfl, (State.xltOf_fnCount ..).trans ((State.xltOf_modXlt ..).trans ?_)⟩
      rw [State.addWait, State.xltOf_modXlt]

/-! ### Groups -/

theorem State.xltOf_dropPrg (s : State) (fn i : Nat) : (s.dropPrg fn i).xltOf fn = { s.xltOf fn with prgs := (s.xltOf fn).prgs.del i } := by
  rw [State.dropPrg, State.xltOf_notePri, State.xltOf_modXlt]

/-- An index is free: no group has it, and nothing waits on one. -/
def Xlt.IndexFree (x : Xlt) (i page n : Nat) : Prop := x.prgs.find i = none ∧ x.retries.get 0 page = n ∧ ∀ w ∈ x.waits, waitsOn i w = false

theorem State.indexFree_askAts {i page n : Nat} (w : XWait) (h : (s.xltOf fn).IndexFree i page n) : ((s.askAts fn w).xltOf fn).IndexFree i page n := by
  obtain ⟨hprg, hret, hwaits⟩ := h
  obtain ⟨st, reqs, hst, heq⟩ := s.xltOf_askAts fn w
  rw [heq]
  refine ⟨hprg, hret, fun v hv => ?_⟩
  obtain hv | hv := List.mem_append.mp hv
  · exact hwaits v hv
  · rw [List.mem_singleton.mp hv]
    obtain rfl | rfl := hst <;> rfl

/-- A successful response frees the index, counts for its page, and whoever waited asks again. -/
theorem State.indexFree_prgSuccess (s : State) (fn i : Nat) (p : Prg) :
    ((s.prgSuccess fn i p).xltOf fn).IndexFree i p.page ((s.xltOf fn).retries.get 0 p.page + 1) := by
  unfold State.prgSuccess
  dsimp only
  refine List.foldlRecOn (motive := fun u : State => (u.xltOf fn).IndexFree i p.page ((s.xltOf fn).retries.get 0 p.page + 1)) _ _ ?_
    fun u hu w _ => State.indexFree_askAts w hu
  rw [State.takeWaits, State.xltOf_modXlt, State.xltOf_modXlt, State.xltOf_dropPrg]
  refine ⟨SMap.find_del_self .., SMap.get_set_self .., fun w hw => ?_⟩
  obtain ⟨-, hno⟩ := List.mem_filter.mp hw
  simpa using hno

theorem State.mem_prgSuccess (s : State) (fn i : Nat) (p : Prg) : (s.prgSuccess fn i p).mem = s.mem := by
  simp [State.prgSuccess]

/-! ### Response Failure -/

/-- Where nothing waits, a group that fails changes nothing. -/
theorem State.failPrg_of_noWaits (s : State) (fn i cause : Nat) (h : (s.xltOf fn).waits = []) :
    s.failPrg fn i cause = s.modXlt fn (fun x => { x with waits := x.waits.filter (fun w => !waitsOn i w) }) := by
  have hnone : (s.takeWaits fn (waitsOn i)).1 = [] := by
    rw [State.takeWaits]
    exact (congrArg (List.filter (waitsOn i)) h)
  rw [State.failPrg, hnone]
  rfl

/-- PRI has stopped, nothing waits, and no more groups than indices are listed. -/
def State.PriStopped (s : State) (fn : Nat) : Prop :=
  (s.xltOf fn).waits = [] ∧ (s.xltOf fn).prgs.length ≤ 512 ∧ bitOf (s.fnNat fn XLT_PRI_STATE) 31 = true

theorem Fn.bitOf_notePri {f : Fn} (hlen : f.xlt.prgs.length ≤ 512) : bitOf (f.notePri.nat XLT_PRI_STATE) 31 = bitOf (f.nat XLT_PRI_STATE) 31 := by
  have hq : (f.xlt.prgs.filter (fun p => p.2.quarantined)).length ≤ f.xlt.prgs.length := List.length_filter_le ..
  rw [Fn.notePri, Fn.nat_putN_self, bitOf, bitOf]
  generalize (f.xlt.prgs.filter (fun p => p.2.quarantined)).length = q at hq
  have hb : f.nat XLT_PRI_STATE / 2 ^ 31 % 2 < 2 := Nat.mod_lt _ (by decide)
  generalize f.nat XLT_PRI_STATE / 2 ^ 31 % 2 = b at hb
  have hlt : b * 2 ^ 31 + (f.xlt.prgs.length - q) * 65536 + q < 2 ^ 64 := by omega
  have hhigh : (b * 2 ^ 31 + (f.xlt.prgs.length - q) * 65536 + q) / 2 ^ 31 = b := by omega
  rw [Nat.mod_eq_of_lt hlt, hhigh, Nat.mod_eq_of_lt hb]
theorem State.PriStopped.dropPrg {i cause : Nat} (h : s.PriStopped fn) : ((s.failPrg fn i cause).dropPrg fn i).PriStopped fn := by
  obtain ⟨hw, hlen, hbit⟩ := h
  rw [State.failPrg_of_noWaits s fn i cause hw]
  have hlen' : ((s.xltOf fn).prgs.del i).length ≤ 512 := (List.length_filter_le ..).trans hlen
  refine ⟨?_, ?_, ?_⟩
  · rw [State.xltOf_dropPrg, State.xltOf_modXlt]
    exact congrArg (List.filter _) hw
  · rw [State.xltOf_dropPrg, State.xltOf_modXlt]
    exact hlen'
  · rw [State.dropPrg, State.notePri, State.fnNat, State.fn_modFn_self, Fn.bitOf_notePri]
    · refine Eq.trans ?_ hbit
      exact congrArg (bitOf · 31) ((State.fnNat_modXlt ..).trans (State.fnNat_modXlt ..))
    · refine (congrArg (fun x : Xlt => x.prgs.length) ((State.xltOf_modXlt ..).trans (by rw [State.xltOf_modXlt]))).trans_le ?_
      exact hlen'

/-- Dropping groups one after the other drops what is listed. -/
theorem State.PriStopped.foldl {cause i : Nat} {l : List Nat} (h : s.PriStopped fn)
    (hi : i ∈ l ∨ (s.xltOf fn).prgs.find i = none) :
    (l.foldl (fun s i => (s.failPrg fn i cause).dropPrg fn i) s).PriStopped fn ∧
      ((l.foldl (fun s i => (s.failPrg fn i cause).dropPrg fn i) s).xltOf fn).prgs.find i = none := by
  induction l generalizing s with
  | nil => exact ⟨h, hi.resolve_left (by simp)⟩
  | cons a l ih =>
    refine ih h.dropPrg ?_
    have hprgs : (((s.failPrg fn a cause).dropPrg fn a).xltOf fn).prgs = (s.xltOf fn).prgs.del a := by
      obtain ⟨hw, -⟩ := h
      rw [State.failPrg_of_noWaits s fn a cause hw, State.xltOf_dropPrg, State.xltOf_modXlt]
    rw [hprgs]
    by_cases ha : i = a
    · subst ha
      exact .inr (SMap.find_del_self ..)
    · obtain hi | hi := hi
      · exact .inl ((List.mem_cons.mp hi).resolve_left ha)
      · exact .inr ((SMap.find_del_other _ _ _ ha).trans hi)

theorem SMap.mem_of_find {α : Type} {m : SMap α} {k : Nat} {v : α} (h : m.find k = some v) : (k, v) ∈ m := by
  induction m with
  | nil => cases h
  | cons p m ih =>
    obtain ⟨j, u⟩ := p
    by_cases hj : j = k
    · have hu : u = v := Option.some.inj ((if_pos hj).symm.trans h)
      rw [hj, hu]
      exact List.mem_cons_self
    · exact List.mem_cons_of_mem _ (ih ((if_neg hj).symm.trans h))

/-- Response Failure with nothing waiting: PRI stops, and every group outstanding is gone. -/
theorem State.prgFailure_stops {i : Nat} {p : Prg} (hp : (s.xltOf fn).prgs.find i = some p) (hq : p.quarantined = false)
    (hw : (s.xltOf fn).waits = []) (hlen : (s.xltOf fn).prgs.length ≤ 512) :
    (s.prgFailure fn).PriStopped fn ∧ ((s.prgFailure fn).xltOf fn).prgs.find i = none := by
  have hxlt : (s.modFn fn (fun f => f.putN XLT_PRI_STATE (withField (f.nat XLT_PRI_STATE) 31 1 1))).xltOf fn = s.xltOf fn := by
    rw [State.xltOf, State.fn_modFn_self]
    rfl
  refine State.PriStopped.foldl ⟨by rw [hxlt, hw], by rw [hxlt]; exact hlen, ?_⟩ (.inl ?_)
  · rw [State.fnNat, State.fn_modFn_self, Fn.nat_putN_self, bitOf_withField_self _ (by decide)]
    rfl
  · refine List.mem_map.mpr ⟨(i, p), List.mem_filter.mpr ⟨SMap.mem_of_find ?_, by simp [hq]⟩, rfl⟩
    exact (congrArg (fun x : Xlt => x.prgs.find i) hxlt).trans hp

theorem State.mem_prgFailure (hw : (s.xltOf fn).waits = []) : (s.prgFailure fn).mem = s.mem := by
  have hloop : ∀ (l : List Nat) (u : State), (u.xltOf fn).waits = [] →
      (l.foldl (fun s i => (s.failPrg fn i xcPriInvalid).dropPrg fn i) u).mem = u.mem := by
    intro l
    induction l with
    | nil => exact fun _ _ => rfl
    | cons a l ih =>
      intro u hu
      refine (ih _ ?_).trans ?_ <;> dsimp only
      · rw [State.failPrg_of_noWaits u fn a _ hu, State.xltOf_dropPrg, State.xltOf_modXlt]
        exact congrArg (List.filter _) hu
      · rw [State.failPrg_of_noWaits u fn a _ hu]
        simp
  refine (hloop _ _ ?_).trans (by simp)
  rw [State.xltOf, State.fn_modFn_self]
  exact hw

/-! ### Commands -/

/-- What a response leads to. -/
def State.prgAnswered (s : State) (fn i : Nat) (r : PrgResult) (p : Prg) : State :=
  if p.quarantined then
    if p.sentAt < s.boot.startAt then (s.dropPrg fn i).fnCount fn XLT_STALE_RESPONSES 1 else s.dropPrg fn i
  else match r with
    | .success => s.prgSuccess fn i p
    | .invalid => (s.failPrg fn i xcPriInvalid).dropPrg fn i
    | .failure => s.prgFailure fn

theorem exec_prgResponse_none {i : Nat} (r : PrgResult) (h : (s.fn fn).xlt.prgs.find i = none) :
    exec (.prgResponse fn i r) s = .next (s.fnCount fn XLT_STALE_RESPONSES 1) := by
  refine congrArg Host.Outcome.next ?_
  simp only [h]
theorem exec_prgResponse {i : Nat} {p : Prg} (r : PrgResult) (h : (s.fn fn).xlt.prgs.find i = some p) : exec (.prgResponse fn i r) s =
    .next ((((s.prgAnswered fn i r p).retryWaits fn isIndexWait).pump fn).noteDrained fn) := by
  refine congrArg Host.Outcome.next ?_
  simp only [h, State.prgAnswered] <;> rfl

/-- A group that has timed out: what was joined to it fails, and its index is quarantined. -/
def State.prgTimedOut (s : State) (fn i : Nat) (p : Prg) : State :=
  ((s.failPrg fn i xcPriTimeout).modXlt fn (fun x => { x with prgs := x.prgs.set i { p with quarantined := true } })).notePri fn
theorem exec_priTimeout {i : Nat} {p : Prg} (h : (s.fn fn).xlt.prgs.find i = some p) (hq : p.quarantined = false) : exec (.priTimeout fn i) s =
    .next (if s.time < p.sentAt + 1000 * s.fnNat fn XLT_PRI_TIMEOUT then s
      else ((s.prgTimedOut fn i p).report (padReport cPriTimeout .uc 0x08 0 p.page fn 0)).pump fn) := by
  refine congrArg Host.Outcome.next ?_
  simp only [h, hq, Bool.false_or, decide_eq_true_iff]
  rfl
theorem State.prgs_prgTimedOut (s : State) (fn i : Nat) (p : Prg) :
    ((s.prgTimedOut fn i p).xltOf fn).prgs.find i = some { p with quarantined := true } := by
  rw [State.prgTimedOut, State.xltOf_notePri, State.xltOf_modXlt]
  exact SMap.find_set_self ..

/-- PRI Enable is set, and setting it again ends PRI_STOPPED. -/
def Fn.priSet (f : Fn) (enable was : Bool) : Fn :=
  if enable && !was then (f.modXlt (fun x => { x with priEnable := enable })).putN XLT_PRI_STATE
      (withField ((f.modXlt (fun x => { x with priEnable := enable })).nat XLT_PRI_STATE) 31 1 0)
  else f.modXlt (fun x => { x with priEnable := enable })
theorem Fn.priEnable_priSet (f : Fn) (enable was : Bool) : (f.priSet enable was).xlt.priEnable = enable := by
  unfold Fn.priSet
  split <;> rfl
theorem Fn.bitOf_priSet (f : Fn) {enable was : Bool} (hen : enable = true) (hwas : was = false) :
    bitOf ((f.priSet enable was).nat XLT_PRI_STATE) 31 = false := by
  rw [Fn.priSet, if_pos (by simp [hen, hwas]), Fn.nat_putN_self, bitOf_withField_self _ (by decide)]
  rfl
theorem Fn.regs_priSet (f : Fn) {enable was : Bool} (h : enable = was) : (f.priSet enable was).regs = f.regs := by
  rw [Fn.priSet, if_neg (by simp [h])]
  rfl
theorem exec_priEnableChange (enable : Bool) : exec (.priEnableChange fn enable) s =
    .next (((s.modFn fn (fun f => f.priSet enable (s.fn fn).xlt.priEnable)).retryWaits fn isIndexWait).pump fn) := rfl

end

/-- Settles O32: an index is freed, quarantined or kept by what answers its group. -/
theorem pageRequests : Obligations.PageRequests := by
  refine ⟨fun s fn i r hnone => ?_, fun s fn i p hp hq => ⟨⟨s.prgSuccess fn i p, ?_, ?_, ?_⟩, ⟨(s.failPrg fn i xcPriInvalid).dropPrg fn i, ?_, ?_⟩,
      fun hw hlen => ⟨s.prgFailure fn, ?_, ?_⟩⟩,
    fun s fn i p r hp hq => ⟨s.prgAnswered fn i r p, exec_prgResponse r hp, ?_⟩,
    fun s fn i p hp hq => ⟨fun ht => ?_, fun ht => ⟨s.prgTimedOut fn i p, ?_, s.prgs_prgTimedOut fn i p⟩⟩,
    fun s fn => ⟨_, rfl, ?_, by simp, by simp, ?_⟩, fun s fn enable => ⟨_, exec_priEnableChange enable, ?_, by simp, by simp, fun hen hwas => ?_,
      fun hsame => ?_⟩⟩
  · rw [exec_prgResponse_none r hnone, State.fnCount, sat_eq_min]
  · rw [exec_prgResponse .success hp, State.prgAnswered, if_neg (by simp [hq])]
  · exact s.mem_prgSuccess fn i p
  · exact s.indexFree_prgSuccess fn i p
  · rw [exec_prgResponse .invalid hp, State.prgAnswered, if_neg (by simp [hq])]
  · exact (congrArg (fun x : Xlt => x.prgs.find i) (State.xltOf_dropPrg ..)).trans (SMap.find_del_self ..)
  · rw [exec_prgResponse .failure hp, State.prgAnswered, if_neg (by simp [hq])]
  · obtain ⟨⟨-, -, hbit⟩, hnone⟩ := State.prgFailure_stops hp hq hw hlen
    exact ⟨hbit, hnone, State.mem_prgFailure hw⟩
  · have hdrop : ((s.dropPrg fn i).xltOf fn).prgs.find i = none :=
      (congrArg (fun x : Xlt => x.prgs.find i) (State.xltOf_dropPrg ..)).trans (SMap.find_del_self ..)
    unfold State.prgAnswered
    rw [if_pos hq]
    split
    · exact ⟨(congrArg (fun x : Xlt => x.prgs.find i) (State.xltOf_fnCount ..)).trans hdrop, by simp, by simp⟩
    · exact ⟨hdrop, by simp, by simp⟩
  · rw [exec_priTimeout hp hq, if_pos ht]
  · rw [exec_priTimeout hp hq, if_neg (by omega)]
  · exact congrArg Xlt.ringBlocked (State.xltOf_modXlt ..)
  · rw [State.modXlt, State.fn_modFn_self]
    rfl
  · rw [State.fn_modFn_self]
    exact Fn.priEnable_priSet ..
  · rw [State.fnNat, State.fn_modFn_self]
    exact Fn.bitOf_priSet _ hen hwas
  · rw [State.fn_modFn_self]
    exact Fn.regs_priSet _ hsame

end Sys2Proof.Machine
end

section
/-! SUPPORT. Walks, translation completions and invalidations (R390, R402 to R406, R411). -/

namespace Sys2Proof.Machine
open Sys2Proof Sys2Proof.Claims

/-! ### A walk reads the tables alone -/

section
variable {s t : State} {fn : Nat}

/-- States with the same memory, hub registers, unit maps and controllers, which is all that a walk reads. -/
structure State.SameStore (s t : State) : Prop where
  mem : t.mem = s.mem
  poison : t.poison = s.poison
  hub : t.hub = s.hub
  noc : t.noc = s.noc
  ms : t.ms = s.ms

theorem State.SameStore.phys (h : s.SameStore t) (kind logical : Nat) : t.phys kind logical = s.phys kind logical := by
  have hbad : t.badIn = s.badIn := by
    unfold State.badIn
    rw [h.noc]
  have hbase : t.basePhys kind logical = s.basePhys kind logical := by
    unfold State.basePhys
    rw [h.noc, hbad]
  unfold State.phys
  rw [h.noc, hbase]
theorem State.SameStore.hbmPlace (h : s.SameStore t) (a : Nat) : t.hbmPlace a = s.hbmPlace a := by
  unfold State.hbmPlace
  rw [State.hubNat_congr h.hub, State.hubNat_congr h.hub]
theorem State.SameStore.pastureBase (h : s.SameStore t) : t.pastureBase = s.pastureBase := by
  unfold State.pastureBase
  rw [State.hubNat_congr h.hub, State.hubNat_congr h.hub, State.hubNat_congr h.hub]
theorem State.SameStore.pastureOff (h : s.SameStore t) (a : Nat) : t.pastureOff a = s.pastureOff a := by
  unfold State.pastureOff
  rw [h.pastureBase, State.hubNat_congr h.hub]
theorem State.SameStore.stackFenced (h : s.SameStore t) (a : Nat) : t.stackFenced a = s.stackFenced a := by
  have hgroups : t.pastureGroups = s.pastureGroups := by
    unfold State.pastureGroups
    rw [State.hubNat_congr h.hub, h.ms]
  have hstack a : t.stackOf a = s.stackOf a := by rw [State.stackOf, h.hbmPlace, State.stackOf]
  have hvacant k n : t.vacant k n = s.vacant k n := by rw [State.vacant, h.phys, State.vacant]
  unfold State.stackFenced
  simp only [h.pastureOff, hvacant, hstack, hgroups]
theorem State.SameStore.walkAt (h : s.SameStore t) (lvl tbl va : Nat) : t.walkAt lvl tbl va = s.walkAt lvl tbl va := by
  have hany a n : t.anyPoison a n = s.anyPoison a n := by rw [State.anyPoison, h.poison, State.anyPoison]
  have hread a n : t.readNat a n = s.readNat a n := State.readNat_congr h.mem a n
  induction lvl generalizing tbl with
  | zero =>
    unfold State.walkAt
    simp only [hany, hread, h.stackFenced]
  | succ l ih =>
    unfold State.walkAt
    simp only [hany, hread, h.stackFenced, ih]
theorem State.sameStore_modXlt (s : State) (fn : Nat) (g : Xlt → Xlt) : s.SameStore (s.modXlt fn g) := by
  constructor <;> simp

theorem State.tableRoot_modXlt (s : State) (fn : Nat) (g : Xlt → Xlt) : (s.modXlt fn g).tableRoot fn = s.tableRoot fn := by
  have hfn : (s.modXlt fn g).fn fn = (s.fn fn).modXlt g := State.fn_modFn_self ..
  simp only [State.tableRoot, State.dirArea, State.dirBytes, State.capBase, State.capSize, State.fnNat_modXlt, hfn]
  rfl

theorem State.walk_modXlt (s : State) (fn : Nat) (g : Xlt → Xlt) (va : Nat) : (s.modXlt fn g).walk fn va = s.walk fn va := by
  rw [State.walk, State.tableRoot_modXlt, (s.sameStore_modXlt fn g).walkAt, State.walk]

/-! ### Waiting threads run again -/

/-- A thread after whoever parked it lets it go on. -/
def Thread.unparked (th : Thread) : Thread := if th.st == .parked then { th with st := .running } else th
theorem Thread.pc_unparked (th : Thread) : th.unparked.pc = th.pc := by
  unfold Thread.unparked
  split <;> rfl
theorem Thread.st_unparked {th : Thread} (h : th.st = .running ∨ th.st = .parked) : th.unparked.st = .running := by
  unfold Thread.unparked
  split
  · rfl
  · next hne => exact h.resolve_right (fun h => hne (by simp [h]))

/-- The thread of `th` is there with its PC, and runs, or is parked if `parked` allows it. -/
def State.Unparking (s : State) (gid i : Nat) (th : Thread) (parked : Prop) : Prop :=
  ∃ (h : Grp) (th' : Thread), s.grp gid = some h ∧ h.th i = some th' ∧ th'.pc = th.pc ∧ (th'.st = .running ∨ th'.st = .parked ∧ parked)

theorem State.unparking_unpark {gid i : Nat} {th0 : Thread} {p : Prop} (w : XWho) (h : s.Unparking gid i th0 p) :
    (s.unpark w).Unparking gid i th0 (p ∧ w ≠ .thread gid i) := by
  obtain ⟨g, th, hg, hth, hpc, hst⟩ := h
  have hkept (hw : w ≠ .thread gid i) (u : State) (g' : Grp) (hg' : u.grp gid = some g') (hth' : g'.th i = some th) :
      u.Unparking gid i th0 (p ∧ w ≠ .thread gid i) := ⟨g', th, hg', hth', hpc, hst.imp id (fun h => ⟨h.1, h.2, hw⟩)⟩
  cases w with
  | thread a b =>
    by_cases ha : a = gid
    · subst ha
      have hmod := (State.grp_modGrp_self s a _).trans (congrArg (Option.map (fun g => Option.elim (g.th b) g (fun th => g.setTh b th.unparked))) hg)
      have heq : s.unpark (.thread a b) = s.modGrp a (fun g => Option.elim (g.th b) g (fun th => g.setTh b th.unparked)) := by
        unfold State.unpark State.modTh
        dsimp only
        refine congrArg (s.modGrp a) (funext fun g => ?_)
        cases g.th b <;> rfl
      rw [← heq] at hmod
      by_cases hb : b = i
      · subst hb
        refine ⟨g.setTh b th.unparked, th.unparked, hmod.trans ?_, Grp.th_setTh_self .., (Thread.pc_unparked th).trans hpc,
          .inl (Thread.st_unparked (hst.imp id And.left))⟩
        rw [Option.map_some, hth]
        rfl
      · refine hkept (by simp [hb]) _ _ hmod ?_
        dsimp only
        cases g.th b with
        | none => exact hth
        | some o => exact (Grp.th_setTh_other _ _ _ (fun h => hb h.symm)).trans hth
    · exact hkept (by simp [ha]) _ g ((State.grp_modGrp_other _ _ _ _ (fun h => ha h.symm)).trans hg) hth
  | load _ | input _ | out _ | ring => exact hkept (by simp) _ g hg hth

theorem State.unparking_wakeAll {gid i : Nat} {th0 : Thread} {p : Prop} (ws : List XWait) (h : s.Unparking gid i th0 p) :
    (s.wakeAll ws).Unparking gid i th0 (p ∧ ∀ w ∈ ws, w.who ≠ .thread gid i) := by
  unfold State.wakeAll
  induction ws generalizing s p with
  | nil => exact h.imp (fun _ h => h.imp (fun _ ⟨hg, hth, hpc, hst⟩ => ⟨hg, hth, hpc, hst.imp id (fun h => ⟨h.1, h.2, by simp⟩)⟩))
  | cons w ws ih =>
    obtain ⟨g, th, hg, hth, hpc, hst⟩ := ih (State.unparking_unpark w.who h)
    exact ⟨g, th, hg, hth, hpc, hst.imp id (fun ⟨hst, ⟨hp, hw⟩, hws⟩ => ⟨hst, hp, List.forall_mem_cons.mpr ⟨hw, hws⟩⟩)⟩

/-! ### The end of a walk -/

/-- The waits on a walk of the page. -/
def walkWaits (page : Nat) (w : XWait) : Bool := w.page = page && w.stage == .walk

/-- The waits on a page of those that `p` names, in the list. -/
theorem State.takeWaits_fst_modXlt (s : State) (fn : Nat) (g : Xlt → Xlt) (hg : ∀ x, (g x).waits = x.waits) (p : XWait → Bool) :
    ((s.modXlt fn g).takeWaits fn p).1 = (s.xltOf fn).waits.filter p :=
  congrArg (List.filter p) ((congrArg Xlt.waits (State.xltOf_modXlt ..)).trans (hg _))

/-- The walk of the page is over, and the waits on it are taken out. -/
def State.walkTaken (s : State) (fn page : Nat) : List XWait × State :=
  (s.modXlt fn (fun x => { x with walks := x.walks.filter (· != page) })).takeWaits fn (walkWaits page)

theorem State.fst_walkTaken (s : State) (fn page : Nat) : (s.walkTaken fn page).1 = (s.xltOf fn).waits.filter (walkWaits page) :=
  State.takeWaits_fst_modXlt s fn (fun x => { x with walks := x.walks.filter (· != page) }) (fun _ => rfl) _

/-- The walk has found a LOCAL page, which is cached. -/
def State.walkCached (s : State) (fn page base lpa log2 : Nat) (write : Bool) : State :=
  (s.walkTaken fn page).2.modXlt fn (fun x => x.add ⟨false, base, log2, false, lpa, true, write⟩)

/-- The threads parked for the page run. -/
def State.walkMapped (s : State) (fn page base lpa log2 : Nat) (write : Bool) : State :=
  (s.walkCached fn page base lpa log2 write).wakeAll (s.walkTaken fn page).1

theorem exec_tableWalkDone_mapped {page base lpa log2 : Nat} {write : Bool} (va : Nat) (hpage : page = va / 4096 * 4096)
    (hmem : page ∈ (s.fn fn).xlt.walks) (hwalk : s.walk fn page = .mapped base lpa log2 write) :
    exec (.tableWalkDone fn va) s = .next ((s.walkMapped fn page base lpa log2 write).pump fn) := by
  subst hpage
  refine congrArg Host.Outcome.next ((if_neg (by simpa using hmem)).trans ?_)
  simp only [State.walk_modXlt, hwalk]
  rfl

theorem State.xltOf_walkMapped (s : State) (fn page base lpa log2 : Nat) (write : Bool) :
    (s.walkMapped fn page base lpa log2 write).xltOf fn = { s.xltOf fn with
      walks := (s.xltOf fn).walks.filter (· != page), waits := (s.xltOf fn).waits.filter (fun w => !walkWaits page w),
      tlb := ⟨false, base, log2, false, lpa, true, write⟩ :: (s.xltOf fn).tlb } := by
  rw [State.xltOf, State.walkMapped, State.fn_congr (s := s.walkCached fn page base lpa log2 write) (by simp)]
  refine (State.xltOf_modXlt ..).trans ?_
  rw [State.walkTaken, State.takeWaits, State.xltOf_modXlt, State.xltOf_modXlt]
  rfl

theorem State.unparking_walkMapped {page gid i : Nat} {g : Grp} {th : Thread} (base lpa log2 : Nat) (write : Bool)
    (hg : s.grp gid = some g) (hth : g.th i = some th) (hst : th.st = .parked)
    (hw : ∃ w ∈ (s.fn fn).xlt.waits, w.page = page ∧ w.stage = .walk ∧ w.who = .thread gid i) :
    (s.walkMapped fn page base lpa log2 write).Unparking gid i th False := by
  have hgrp : (s.walkCached fn page base lpa log2 write).grp gid = some g :=
    (State.grp_congr (s := s) (by simp [State.walkCached, State.walkTaken]) gid).trans hg
  obtain ⟨h, th', hh, hth', hpc, hst'⟩ := State.unparking_wakeAll (s.walkTaken fn page).1 (p := True) ⟨g, th, hgrp, hth, rfl, .inr ⟨hst, trivial⟩⟩
  refine ⟨h, th', hh, hth', hpc, hst'.imp id (fun ⟨_, _, hall⟩ => ?_)⟩
  obtain ⟨w, hmem, hpage, hstage, hwho⟩ := hw
  refine absurd hwho (hall w ?_)
  rw [State.fst_walkTaken]
  exact List.mem_filter.mpr ⟨hmem, by simp [walkWaits, hpage, hstage]⟩

/-! ### A completion with read and write permission -/

/-- The waits on the translation of the page. -/
def atsWaits (page : Nat) (w : XWait) : Bool := w.page = page && w.stage == .ats

/-- The request for the page is answered, and the waits on it are taken out. -/
def State.atsTaken (s : State) (fn page : Nat) : List XWait × State :=
  (s.modXlt fn (fun x => { x with atsReqs := x.atsReqs.filter (fun q => q.1 != page),
                                  staleAts := x.staleAts.filter (· != page) })).takeWaits fn (atsWaits page)
theorem State.fst_atsTaken (s : State) (fn page : Nat) : (s.atsTaken fn page).1 = (s.xltOf fn).waits.filter (atsWaits page) :=
  State.takeWaits_fst_modXlt s fn (fun x => { x with atsReqs := x.atsReqs.filter (fun q => q.1 != page),
                                                     staleAts := x.staleAts.filter (· != page) }) (fun _ => rfl) _

/-- Cache a host translation in the place of those that it meets. -/
def Xlt.cacheHost (x : Xlt) (d : Bool) (e : Tlb) : Xlt :=
  { x with tlb := e :: x.tlb.filter (fun o => !(o.host && o.direct == d && meets o.va (2 ^ o.log2) e.va (2 ^ e.log2))) }
def State.atsCache (s : State) (fn page ha log2 : Nat) (r w d : Bool) : State :=
  s.modXlt fn (fun x => x.cacheHost d (s.atsEntry fn page ha log2 d r w))
theorem State.xltOf_atsCache (s : State) (fn page ha log2 : Nat) (r w d : Bool) :
    (s.atsCache fn page ha log2 r w d).xltOf fn = (s.xltOf fn).cacheHost d (s.atsEntry fn page ha log2 d r w) := State.xltOf_modXlt ..

/-- The page is cached and those who waited go on. -/
def State.atsPaged (s : State) (fn page ha log2 : Nat) (d : Bool) : State :=
  (s.atsTaken fn page).1.foldl (fun s w => s.afterAts fn w) ((s.atsTaken fn page).2.atsCache fn page ha log2 true true d)

/-- Whoever waited for the translation of the page reached it the way that `d` says, and someone did. -/
def Xlt.Waited (x : Xlt) (page : Nat) (d : Bool) : Prop :=
  (∃ w ∈ x.waits, w.page = page ∧ w.stage = .ats) ∧ ∀ w ∈ x.waits, w.page = page → w.stage = .ats → w.direct = d

theorem State.atsTaken_of_waited {page : Nat} {d : Bool} (h : (s.xltOf fn).Waited page d) :
    (∀ w ∈ (s.atsTaken fn page).1, w.page = page ∧ w.direct = d) ∧ (s.atsTaken fn page).1 ≠ [] := by
  obtain ⟨⟨x, hx, hp, hs⟩, hall⟩ := h
  rw [State.fst_atsTaken]
  refine ⟨fun w hw => ?_, List.ne_nil_of_mem (List.mem_filter.mpr ⟨hx, by simp [atsWaits, hp, hs]⟩)⟩
  obtain ⟨hw, hq⟩ := List.mem_filter.mp hw
  simp only [atsWaits, Bool.and_eq_true, decide_eq_true_eq, beq_iff_eq] at hq
  exact ⟨hq.1, hall w hw hq.1 hq.2⟩

theorem any_eq_of_forall {α : Type} {l : List α} {p : α → Bool} {b : Bool} (h : ∀ x ∈ l, p x = b) (hne : l ≠ []) : l.any p = b := by
  obtain ⟨x, hx⟩ := List.exists_mem_of_ne_nil l hne
  cases b
  · exact List.any_eq_false.mpr (fun y hy => by simp [h y hy])
  · exact List.any_eq_true.mpr ⟨x, hx, h x hx⟩

theorem exec_atsCompletion_page {page : Nat} {w d : Bool} (va ha log2 : Nat) (hpage : page = va / 4096 * 4096)
    (hreq : (page, w) ∈ (s.fn fn).xlt.atsReqs) (hstale : page ∉ (s.fn fn).xlt.staleAts) (hw : (s.xltOf fn).Waited page d) :
    exec (.atsCompletion fn va (.page ha log2 true true)) s = .next ((s.atsPaged fn page ha log2 d).pump fn) := by
  subst hpage
  have hany : (s.fn fn).xlt.atsReqs.any (fun q => q.1 = va / 4096 * 4096) = true := List.any_eq_true.mpr ⟨_, hreq, by simp⟩
  obtain ⟨hall, hne⟩ := State.atsTaken_of_waited hw
  have hd : (s.atsTaken fn (va / 4096 * 4096)).1.any (fun w => w.direct) = d := any_eq_of_forall (fun w hw => (hall w hw).2) hne
  have hd' : (s.atsTaken fn (va / 4096 * 4096)).1.any (fun w => !w.direct) = !d :=
    any_eq_of_forall (fun w hw => by rw [(hall w hw).2]) hne
  refine congrArg Host.Outcome.next ((if_neg (by simp [hany])).trans
    ((if_neg (fun h => hstale (List.contains_iff_mem.mp h))).trans (congrArg (fun t : State => t.pump fn) ?_)))
  refine congrArg (List.foldl _ · _) ?_
  cases d
  · exact (if_pos hd').trans (congrArg (State.atsCache · fn (va / 4096 * 4096) ha log2 true true false) (if_neg (fun h => Bool.false_ne_true (hd.symm.trans h))))
  · exact (if_neg (fun h => Bool.false_ne_true (hd'.symm.trans h))).trans (if_pos hd)

/-- What a waiter that goes on after its translation leaves: memory, cached translations and requests. -/
def State.AtsKept (s t : State) (fn : Nat) : Prop :=
  t.mem = s.mem ∧ (t.xltOf fn).tlb = (s.xltOf fn).tlb ∧ (t.xltOf fn).atsReqs = (s.xltOf fn).atsReqs

theorem State.atsKept_afterAts {w : XWait} {e : Tlb} {rest : List Tlb} (htlb : (s.xltOf fn).tlb = e :: rest)
    (hd : e.direct = w.direct) (hc : e.covers w.page = true) (hh : e.host = true) (hr : e.read = true) (hwr : e.write = true) :
    s.AtsKept (s.afterAts fn w) fn := by
  have hx : (s.unpark w.who).xltOf fn = s.xltOf fn := congrArg Fn.xlt (State.fn_congr (s := s) (by simp) fn)
  have hres : (s.fn fn).xlt.resolve w.direct w.page w.write w.atomic =
      if w.atomic then .illegal else .at true (e.target + (w.page - e.va)) := by
    have hlook : (s.fn fn).xlt.lookup w.direct w.page = some e :=
      (congrArg (List.find? _) htlb).trans (List.find?_cons_of_pos (by simp [hd, hc]))
    simp only [Xlt.resolve, hlook, hh, hr, hwr, if_true, ite_self]
  unfold State.afterAts
  rw [hres]
  cases w.atomic
  · exact ⟨by simp, by simp [State.xltOf_modXlt, hx], by simp [State.xltOf_modXlt, hx]⟩
  · exact ⟨by simp, congrArg Xlt.tlb hx, congrArg Xlt.atsReqs hx⟩

theorem State.atsKept_foldl {page : Nat} {e : Tlb} {rest : List Tlb} (ws : List XWait) (hws : ∀ w ∈ ws, w.page = page ∧ w.direct = e.direct)
    (htlb : (s.xltOf fn).tlb = e :: rest) (hc : e.covers page = true) (hh : e.host = true) (hr : e.read = true) (hwr : e.write = true) :
    s.AtsKept (ws.foldl (fun s w => s.afterAts fn w) s) fn := by
  induction ws generalizing s with
  | nil => exact ⟨rfl, rfl, rfl⟩
  | cons w ws ih =>
    obtain ⟨⟨hp, hd⟩, hws⟩ := List.forall_mem_cons.mp hws
    obtain ⟨hm, ht, hq⟩ := State.atsKept_afterAts htlb hd.symm (hp ▸ hc) hh hr hwr
    obtain ⟨hm', ht', hq'⟩ := ih hws (ht.trans htlb)
    exact ⟨hm'.trans hm, ht'.trans ht, hq'.trans hq⟩

/-- The entry of a completion covers its page, which it maps where the completion says. -/
theorem State.atsEntry_spec (s : State) (fn page ha log2 : Nat) (d : Bool) : ∃ k, k ≤ max 12 log2 ∧
    s.atsEntry fn page ha log2 d true true = ⟨d, page / 2 ^ k * 2 ^ k, k, true,
      ha / 2 ^ max 12 log2 * 2 ^ max 12 log2 + (page / 2 ^ k * 2 ^ k - page / 2 ^ max 12 log2 * 2 ^ max 12 log2), true, true⟩ :=
  ⟨_, by omega, rfl⟩

theorem div_mul_bounds (page k : Nat) : page / 2 ^ k * 2 ^ k ≤ page ∧ page < page / 2 ^ k * 2 ^ k + 2 ^ k :=
  ⟨Nat.div_mul_le_self .., Nat.lt_div_mul_add (Nat.two_pow_pos k)⟩
theorem div_mul_le_div_mul {k l : Nat} (h : k ≤ l) (page : Nat) : page / 2 ^ l * 2 ^ l ≤ page / 2 ^ k * 2 ^ k := by
  obtain ⟨m, rfl⟩ := Nat.exists_eq_add_of_le h
  rw [Nat.pow_add, ← Nat.div_div_eq_div_mul, Nat.mul_comm (2 ^ k), ← Nat.mul_assoc]
  exact Nat.mul_le_mul_right _ (Nat.div_mul_le_self ..)

theorem State.xltOf_atsTaken (s : State) (fn page : Nat) : (s.atsTaken fn page).2.xltOf fn = { s.xltOf fn with
    atsReqs := (s.xltOf fn).atsReqs.filter (fun q => q.1 != page), staleAts := (s.xltOf fn).staleAts.filter (· != page),
    waits := (s.xltOf fn).waits.filter (fun w => !atsWaits page w) } := by
  rw [State.atsTaken, State.takeWaits, State.xltOf_modXlt, State.xltOf_modXlt]

/-- The page is cached, at the head of the list, and its request is gone. -/
theorem State.atsPaged_spec {page : Nat} {d : Bool} (ha log2 : Nat) (hw : (s.xltOf fn).Waited page d) :
    ∃ (k : Nat) (rest : List Tlb), k ≤ max 12 log2 ∧ (s.atsPaged fn page ha log2 d).mem = s.mem ∧
      ((s.atsPaged fn page ha log2 d).xltOf fn).tlb = ⟨d, page / 2 ^ k * 2 ^ k, k, true,
        ha / 2 ^ max 12 log2 * 2 ^ max 12 log2 + (page / 2 ^ k * 2 ^ k - page / 2 ^ max 12 log2 * 2 ^ max 12 log2), true, true⟩ :: rest ∧
      ((s.atsPaged fn page ha log2 d).xltOf fn).atsReqs = (s.xltOf fn).atsReqs.filter (fun q => q.1 != page) := by
  obtain ⟨k, hk, he⟩ := (s.atsTaken fn page).2.atsEntry_spec fn page ha log2 d
  have hcover : page / 2 ^ k * 2 ^ k ≤ page ∧ page < page / 2 ^ k * 2 ^ k + 2 ^ k := div_mul_bounds page k
  have hx := (s.atsTaken fn page).2.xltOf_atsCache fn page ha log2 true true d
  have htlb := congrArg Xlt.tlb hx
  have htaken : ((s.atsTaken fn page).2.xltOf fn).atsReqs = (s.xltOf fn).atsReqs.filter (fun q => q.1 != page) :=
    congrArg Xlt.atsReqs (s.xltOf_atsTaken fn page)
  have hreq := (congrArg Xlt.atsReqs hx).trans htaken
  rw [he] at htlb
  obtain ⟨hm, ht, hq⟩ := State.atsKept_foldl (s.atsTaken fn page).1 (State.atsTaken_of_waited hw).1 htlb
    (by simp [Tlb.covers, hcover]) rfl rfl rfl
  exact ⟨k, _, hk, hm.trans (by simp [State.atsCache, State.atsTaken]), ht.trans htlb, hq.trans hreq⟩

/-! ### Invalidations -/

/-- An invalidation answered and counted. -/
def State.invalidated (s : State) (fn itag : Nat) : State :=
  (s.modXlt fn (fun x => { x with invs := x.invs.filter (fun i => i.itag != itag) })).fnCount fn XLT_ATS_INVALIDATIONS 1
theorem State.xltOf_invalidated (s : State) (fn itag : Nat) :
    (s.invalidated fn itag).xltOf fn = { s.xltOf fn with invs := (s.xltOf fn).invs.filter (fun i => i.itag != itag) } :=
  (State.xltOf_fnCount ..).trans (State.xltOf_modXlt ..)
theorem exec_atsInvalidateComplete {itag : Nat} (h : ∃ i ∈ (s.fn fn).xlt.invs, i.itag = itag) (hheld : s.pceHeld fn = false)
    (hq : ∀ q ∈ s.pce.waiting, q.fn ≠ fn) : exec (.atsInvalidateComplete fn itag) s =
    .next ((s.invalidated fn itag).send (.atsDone fn itag)) :=
  congrArg Host.Outcome.next (if_pos (by simpa [hheld] using ⟨h, hq⟩))

theorem meets_eq_false_iff (a n b m : Nat) : meets a n b m = false ↔ a + n ≤ b ∨ b + m ≤ a := by
  simp only [meets, Bool.and_eq_false_iff, decide_eq_false_iff_not]
  omega

end

/-- Settles O31: a walk or completion caches what it found, and an invalidation removes what it meets. -/
theorem translationCompletions : Obligations.TranslationCompletions := by
  refine ⟨fun s fn va page base lpa log2 write hpage hmem hwalk => ⟨s.walkMapped fn page base lpa log2 write,
      exec_tableWalkDone_mapped va hpage hmem hwalk, by simp [State.walkMapped, State.walkCached, State.walkTaken], ?_, ?_, fun w => ?_,
      fun gid i g th hg hth hst hw => ?_⟩,
    fun s fn va hnot => congrArg Host.Outcome.next (if_pos (by simpa using hnot)),
    fun s fn va c hnot => ?_,
    fun s fn va page ha log2 d w hpage hreq hstale hex hall => ?_,
    fun s fn itag va size => ⟨fun h => congrArg Host.Outcome.next (if_pos h), fun h => ⟨_, congrArg Host.Outcome.next (if_neg (by omega)),
      by simp, by simp, congrArg Xlt.invs (State.xltOf_modXlt ..), (congrArg Xlt.waits (State.xltOf_modXlt ..) :), fun e => ?_⟩⟩,
    fun s fn itag hi hheld hq => ⟨_, exec_atsInvalidateComplete hi hheld hq, by simp [State.send, State.invalidated], fun i hmem => ?_, ?_, ?_⟩⟩
  · have hwalks : ((s.walkMapped fn page base lpa log2 write).xltOf fn).walks = (s.xltOf fn).walks.filter (· != page) :=
      congrArg Xlt.walks (State.xltOf_walkMapped ..)
    refine fun h => ?_
    rw [show ((s.walkMapped fn page base lpa log2 write).fn fn).xlt.walks = _ from hwalks] at h
    simp at h
  · exact congrArg Xlt.tlb (State.xltOf_walkMapped ..)
  · refine (iff_of_eq (congrArg (w ∈ ·) (congrArg Xlt.waits (State.xltOf_walkMapped ..)))).trans ?_
    rw [List.mem_filter, walkWaits, Bool.not_eq_true', Bool.and_eq_false_iff, decide_eq_false_iff_not, beq_eq_false_iff_ne, not_and_or]
    rfl
  · obtain ⟨h, th', hh, hth', hpc, hst'⟩ := State.unparking_walkMapped base lpa log2 write hg hth hst hw
    exact ⟨h, th', hh, hth', hst'.resolve_right And.right, hpc⟩
  · rw [← sat_eq_min]
    exact congrArg Host.Outcome.next (if_pos (by simpa using hnot))
  · have hw : (s.xltOf fn).Waited page d := ⟨hex, hall⟩
    obtain ⟨k, rest, hk, hm, ht, hq⟩ := State.atsPaged_spec ha log2 hw
    refine ⟨s.atsPaged fn page ha log2 d, _, rest, exec_atsCompletion_page va ha log2 hpage hreq hstale hw, hm, ht, rfl, rfl, rfl, rfl,
      (div_mul_bounds page k).1, (div_mul_bounds page k).2, ?_, fun q hmem => ?_⟩
    · have hsplit := Nat.div_add_mod' page (2 ^ max 12 log2)
      have hle := div_mul_le_div_mul hk page
      have hbase := (div_mul_bounds page k).1
      dsimp only
      omega
    · have hmem' : q ∈ (s.xltOf fn).atsReqs.filter (fun q => q.1 != page) := hq ▸ hmem
      simpa using (List.mem_filter.mp hmem').2
  · refine (iff_of_eq (congrArg (e ∈ ·) (congrArg Xlt.tlb (State.xltOf_modXlt ..)))).trans ?_
    simp [← meets_eq_false_iff, State.xltOf]
  · have hinvs : ((s.invalidated fn itag).xltOf fn).invs = (s.xltOf fn).invs.filter (fun i => i.itag != itag) :=
      congrArg Xlt.invs (State.xltOf_invalidated ..)
    have hmem' : i ∈ (s.xltOf fn).invs.filter (fun i => i.itag != itag) := hinvs ▸ hmem
    simpa using (List.mem_filter.mp hmem').2
  · exact (congrArg (fun x : Xlt => x.tlb) (State.xltOf_invalidated s fn itag) :)
  · exact (State.fnNat_fnCount_self ..).trans (by rw [State.fnNat_modXlt])

end Sys2Proof.Machine
end

section
/-! SUPPORT. INTA, the power states of the link, PTM and link errors (R434 to R444, R461 to R463). -/

namespace Sys2Proof.Machine
open Sys2Proof Sys2Proof.Claims

/-! ### INTA follows its level -/

/-- Assert_INTA has been sent last, or a hold-off runs, where the level is high; Assert_INTA has not been sent last where it is low. -/
def State.IntaFollows (s : State) : Prop :=
  (s.intLevel = true → s.pce.intaSent = true ∨ s.pce.holdoff = true) ∧ (s.intLevel = false → s.pce.intaSent = false)

theorem State.intLevel_updateInta (s : State) : s.updateInta.intLevel = s.intLevel := by
  unfold State.updateInta
  split
  · rfl
  · split <;> rfl

theorem State.intaFollows_updateInta (s : State) : s.updateInta.IntaFollows := by
  unfold State.IntaFollows
  rw [State.intLevel_updateInta]
  unfold State.updateInta
  cases hl : s.intLevel <;> cases ha : s.pce.intaSent <;> cases hh : s.pce.holdoff <;> simp [ha, hh]

theorem State.tx_updateInta (s : State) : s.updateInta.tx.length ≤ s.tx.length + 1 := by
  unfold State.updateInta State.send
  split
  · simp
  · split <;> simp

theorem State.intDisable_updateInta (s : State) : s.updateInta.pce.intDisable = s.pce.intDisable := by
  unfold State.updateInta
  split
  · rfl
  · split <;> rfl

/-- With a high level and no hold-off, Assert_INTA goes out unless it has. -/
theorem State.updateInta_of_high {s : State} (hl : s.intLevel = true) (hh : s.pce.holdoff = false) :
    s.updateInta.pce.intaSent = true ∧ s.updateInta.tx = s.tx ++ (if s.pce.intaSent then [] else [.inta true]) := by
  unfold State.updateInta
  cases ha : s.pce.intaSent <;> simp [hl, hh, ha, State.send]

section
variable {s : State}

theorem State.up_of_barOpen {n : Nat} (h : s.barOpen n = true) : s.up = true := by
  simp only [State.barOpen, Bool.and_eq_true] at h
  exact h.1.1.1

theorem exec_intStatusClear (ones : W32) (h : s.barOpen 0 = true) : exec (.intStatusClear ones) s =
    .next (s.hubSetN PCE_INT_STATUS (s.hubNat PCE_INT_STATUS &&& (0xFFFFFFFF ^^^ ones.toNat))).updateInta :=
  congrArg Host.Outcome.next (if_neg (by simp [h]))
theorem exec_intEnableWrite (value : W32) (h : s.barOpen 0 = true) : exec (.intEnableWrite value) s =
    .next (s.hubSetN PCE_INT_ENABLE value.toNat).updateInta :=
  congrArg Host.Outcome.next (if_neg (by simp [h]))
theorem exec_interruptDisableChange (b : Bool) (h : s.up = true) : exec (.interruptDisableChange b) s =
    .next ({ s with pce := { s.pce with intDisable := b } } : State).updateInta :=
  congrArg Host.Outcome.next (if_neg (by simp [h]))
theorem exec_intaHoldoffExpiry (h : s.up = true) : exec .intaHoldoffExpiry s =
    .next ({ s with pce := { s.pce with holdoff := false } } : State).updateInta :=
  congrArg Host.Outcome.next (if_neg (by simp [h]))

/-! ### The power states of the link -/

theorem State.hubGet_congr {t : State} (h : t.hub = s.hub) (off : Nat) : t.hubGet off = s.hubGet off := by
  rw [State.hubGet, h, State.hubGet]

theorem State.activeWidth_setWidth (s : State) {w : Nat} (h : w < 32) : (s.setWidth w).activeWidth = w := by
  rw [State.activeWidth, State.setWidth, State.hubNat_hubCount_other _ _ (by decide), State.hubNat_hubSetN_self]
  exact fieldOf_withField_self _ (by decide) h
theorem State.changes_setWidth (s : State) (w : Nat) :
    (s.setWidth w).hubNat PCE_L0P_CHANGES = min 0xFFFFFFFF (s.hubNat PCE_L0P_CHANGES + 1) := by
  rw [State.setWidth, State.hubNat_hubCount_self, State.hubNat_hubSetN_other _ _ _ _ (by decide)]
theorem fieldOf_lt (v lo w : Nat) : fieldOf v lo w < 2 ^ w := Nat.mod_lt _ (Nat.two_pow_pos w)

/-! ### PTM -/

theorem ptmStatus_lt {fails : Nat} (h : fails < 2 ^ 16) (a v : Bool) : ptmStatus fails a v < 2 ^ 64 := by
  unfold ptmStatus boolN
  split <;> split <;> omega
theorem fieldOf_ptmStatus {fails : Nat} (h : fails < 2 ^ 16) (a v : Bool) : fieldOf (ptmStatus fails a v) 16 16 = fails := by
  unfold ptmStatus boolN fieldOf
  split <;> split <;> omega
theorem bitOf_ptmStatus (fails : Nat) (a v : Bool) : bitOf (ptmStatus fails a v) 0 = v := by
  unfold ptmStatus boolN bitOf
  cases a <;> cases v <;> simp <;> omega

/-- A dialogue that failed. -/
def State.ptmFailed (s : State) : State :=
  ({ s with pce := { s.pce with ptmPending := false, ptmFails := s.pce.ptmFails + 1 } } : State).hubSetN PCE_PTM_STATUS
    (ptmStatus (sat 0xFFFF (fieldOf (s.hubNat PCE_PTM_STATUS) 16 16 + 1)) (bitOf (s.hubNat PCE_PTM_STATUS) 1)
      (bitOf (s.hubNat PCE_PTM_STATUS) 0 && s.pce.ptmFails + 1 < 3))
theorem exec_ptmResponse_none (hup : s.up = true) (hp : s.pce.ptmPending = true) : exec (.ptmResponse none) s = .next s.ptmFailed :=
  congrArg Host.Outcome.next (if_neg (by simp [hup, hp]))

/-- An offset is noted, and valid. -/
def State.ptmNoted (s : State) (off : Int) : State :=
  (({ s with pce := { s.pce with ptmPending := false } } : State).hubSet PCE_PTM_OFFSET (BitVec.ofInt 64 off)).hubSetN PCE_PTM_STATUS
    (ptmStatus (fieldOf (s.hubNat PCE_PTM_STATUS) 16 16) s.clockMaster true)
/-- An offset noted takes effect where the module follows the host. -/
def State.ptmApplied (s : State) (off : Int) : State :=
  if s.clockMaster then (s.ptmNoted off).applyOffset off (!s.pce.ptmDone) else s.ptmNoted off
def State.ptmAnswered (s : State) (off : Int) : State :=
  { s.ptmApplied off with pce := { (s.ptmApplied off).pce with ptmFails := 0, ptmDone := true } }

theorem State.hub_ptmApplied (s : State) (off : Int) : (s.ptmApplied off).hub = (s.ptmNoted off).hub := by
  unfold State.ptmApplied State.applyOffset
  split
  · split <;> rfl
  · rfl

theorem State.clockMaster_congr {t : State} (h : ∀ a ∈ [LNK_BELLWETHER, LNK_TIME_STATUS, LNK_NODE], t.hubNat a = s.hubNat a) :
    t.clockMaster = s.clockMaster := by
  simp only [List.forall_mem_cons] at h
  obtain ⟨hbell, htime, hnode, -⟩ := h
  unfold State.clockMaster State.torusSize State.nodeId
  rw [hbell, htime, hnode]

/-- The offset is noted before the module asks whether it follows the host. -/
def State.ptmOffset (s : State) (off : Int) : State :=
  ({ s with pce := { s.pce with ptmPending := false } } : State).hubSet PCE_PTM_OFFSET (BitVec.ofInt 64 off)
theorem State.clockMaster_ptmOffset (s : State) (off : Int) : (s.ptmOffset off).clockMaster = s.clockMaster := by
  refine State.clockMaster_congr fun a ha => ?_
  refine congrArg BitVec.toNat ((State.hubGet_hubSet_other _ _ _ _ fun h => ?_).trans (State.hubGet_congr rfl a))
  subst h
  exact absurd ha (by decide)

theorem exec_ptmResponse_some (off : Int) (hup : s.up = true) (hp : s.pce.ptmPending = true) :
    exec (.ptmResponse (some off)) s = .next (s.ptmAnswered off) := by
  refine congrArg Host.Outcome.next ((if_neg (by simp [hup, hp])).trans ?_)
  unfold State.ptmAnswered State.ptmApplied State.ptmNoted
  rw [← s.clockMaster_ptmOffset off]
  rfl

theorem State.offset_ptmAnswered (s : State) (off : Int) : (s.ptmAnswered off).hubGet PCE_PTM_OFFSET = BitVec.ofInt 64 off := by
  refine (State.hubGet_congr (s.hub_ptmApplied off) _).trans ?_
  rw [State.ptmNoted, State.hubSetN, State.hubGet_hubSet_other _ _ _ _ (by decide)]
  exact State.hubGet_hubSet_self ..
theorem State.valid_ptmAnswered (s : State) (off : Int) : bitOf ((s.ptmAnswered off).hubNat PCE_PTM_STATUS) 0 = true := by
  refine (congrArg (bitOf · 0) (State.hubNat_congr (s.hub_ptmApplied off) _)).trans ?_
  rw [State.ptmNoted, State.hubNat_hubSetN_self, Nat.mod_eq_of_lt (ptmStatus_lt (fieldOf_lt ..) ..), bitOf_ptmStatus]
theorem State.ptmPending_ptmAnswered (s : State) (off : Int) : (s.ptmAnswered off).pce.ptmPending = false := by
  unfold State.ptmAnswered State.ptmApplied State.applyOffset
  split
  · split <;> rfl
  · rfl
theorem State.ptmAnswered_of_not_master (off : Int) (h : s.clockMaster = false) :
    (s.ptmAnswered off).time = s.time ∧ (s.ptmAnswered off).pce.slew = s.pce.slew := by
  unfold State.ptmAnswered State.ptmApplied
  rw [h]
  exact ⟨rfl, rfl⟩
theorem State.ptmAnswered_of_master (off : Int) (h : s.clockMaster = true) :
    (s.pce.ptmDone = false ∧ 1000000 < off → (s.ptmAnswered off).time = s.time + off.toNat ∧ (s.ptmAnswered off).pce.slew = 0) ∧
    (s.pce.ptmDone = true ∨ off ≤ 1000000 → (s.ptmAnswered off).time = s.time ∧ (s.ptmAnswered off).pce.slew = off) := by
  unfold State.ptmAnswered State.ptmApplied State.applyOffset
  rw [if_pos h]
  refine ⟨fun ⟨hdone, hoff⟩ => ?_, fun hor => ?_⟩
  · rw [if_pos (by simp [hdone, hoff])]
    exact ⟨rfl, rfl⟩
  · rw [if_neg (by simpa [imp_iff_not_or] using hor)]
    exact ⟨rfl, rfl⟩

theorem State.ptmFailed_count (s : State) : fieldOf (s.ptmFailed.hubNat PCE_PTM_STATUS) 16 16 =
    min 0xFFFF (fieldOf (s.hubNat PCE_PTM_STATUS) 16 16 + 1) := by
  have hlt : min 0xFFFF (fieldOf (s.hubNat PCE_PTM_STATUS) 16 16 + 1) < 2 ^ 16 := by omega
  rw [State.ptmFailed, State.hubNat_hubSetN_self, sat_eq_min, Nat.mod_eq_of_lt (ptmStatus_lt hlt ..), fieldOf_ptmStatus hlt]
theorem State.ptmFailed_invalid (h : 2 ≤ s.pce.ptmFails) : bitOf (s.ptmFailed.hubNat PCE_PTM_STATUS) 0 = false := by
  have hlt : min 0xFFFF (fieldOf (s.hubNat PCE_PTM_STATUS) 16 16 + 1) < 2 ^ 16 := by omega
  rw [State.ptmFailed, State.hubNat_hubSetN_self, sat_eq_min, Nat.mod_eq_of_lt (ptmStatus_lt hlt ..), bitOf_ptmStatus,
    Bool.and_eq_false_iff, decide_eq_false_iff_not]
  exact .inr (by omega)

end

/-- Settles O35: INTA follows its level after each of its writes, and the link's states, PTM and errors do what R434 to R463 say. -/
theorem interruptsAndLinkPower : Obligations.InterruptsAndLinkPower := by
  refine ⟨fun s ones value b hbar => ?_, fun s hup => ?_, fun s off hup hp => ⟨s.ptmAnswered off, exec_ptmResponse_some off hup hp,
      s.offset_ptmAnswered off, s.valid_ptmAnswered off, s.ptmPending_ptmAnswered off, rfl, rfl, State.ptmAnswered_of_not_master off,
      State.ptmAnswered_of_master off⟩,
    fun s hup hp => ⟨s.ptmFailed, exec_ptmResponse_none hup hp, rfl, rfl, rfl, rfl, s.ptmFailed_count, State.ptmFailed_invalid⟩,
    fun s kind hup => ⟨fun hk => ⟨_, congrArg Host.Outcome.next ((if_neg (by simp [hup]; omega)).trans (if_pos hk)), rfl, rfl, rfl⟩,
      fun hlo hhi => ⟨_, congrArg Host.Outcome.next ((if_neg (by simp [hup]; omega)).trans (if_neg (by omega))), rfl, rfl, rfl⟩⟩⟩
  · have hup := State.up_of_barOpen hbar
    refine ⟨⟨_, exec_intStatusClear ones hbar, ?_, ?_, (State.intaFollows_updateInta _).1, (State.intaFollows_updateInta _).2,
        State.tx_updateInta _, by simp, by simp⟩,
      ⟨_, exec_intEnableWrite value hbar, ?_, ?_, (State.intaFollows_updateInta _).1, (State.intaFollows_updateInta _).2,
        State.tx_updateInta _, by simp, by simp⟩,
      ⟨_, exec_interruptDisableChange b hup, State.intDisable_updateInta _, by simp, (State.intaFollows_updateInta _).1,
        (State.intaFollows_updateInta _).2, State.tx_updateInta _, by simp, by simp⟩,
      fun hl => ⟨_, exec_intaHoldoffExpiry hup, ?_, by simp, ?_⟩⟩
    · rw [State.hubNat_congr (State.updateInta_frame _).2.2.2.1, State.hubNat_hubSetN_self]
      exact Nat.mod_eq_of_lt (Nat.lt_of_le_of_lt Nat.and_le_left (s.hubGet _).isLt)
    · rw [State.hubGet_congr (State.updateInta_frame _).2.2.2.1]
      exact State.hubGet_hubSet_other _ _ _ _ (by decide)
    · rw [State.hubNat_congr (State.updateInta_frame _).2.2.2.1, State.hubNat_hubSetN_self]
      exact Nat.mod_eq_of_lt (by omega)
    · rw [State.hubGet_congr (State.updateInta_frame _).2.2.2.1]
      exact State.hubGet_hubSet_other _ _ _ _ (by decide)
    · exact (State.updateInta_of_high (s := { s with pce := { s.pce with holdoff := false } }) hl rfl).1
    · exact (State.updateInta_of_high (s := { s with pce := { s.pce with holdoff := false } }) hl rfl).2
  · refine ⟨fun hlink hpm => ⟨_, congrArg Host.Outcome.next (if_pos (by simp [hup, hlink, hpm])), rfl, ?_, rfl⟩, ?_, ?_,
      fun hflit hw => ⟨_, congrArg Host.Outcome.next (if_pos (by simp [hup, hflit, hw])), s.activeWidth_setWidth ?_, s.changes_setWidth _, rfl⟩,
      fun hflit hw => ⟨_, congrArg Host.Outcome.next (if_pos (by simp [hup, hflit, hw])), s.activeWidth_setWidth ?_, s.changes_setWidth _, rfl⟩,
      fun hlink => congrArg Host.Outcome.next (if_pos (by simp [hup, hlink]))⟩
    · rw [State.hubNat_hubCount_self]
      exact congrArg (fun n => min 0xFFFFFFFF (n + 1)) (State.hubNat_congr rfl _)
    · exact congrArg Host.Outcome.next (if_pos hup)
    · exact congrArg Host.Outcome.next (if_pos hup)
    · exact Nat.lt_of_le_of_lt (Nat.div_le_self ..) (fieldOf_lt ..)
    · exact fieldOf_lt ..

end Sys2Proof.Machine
end

section
/-! SUPPORT. Messages of the device interfaces and of attestation (R529, R542, R554 to R558, R563). -/

namespace Sys2Proof.Machine
open Sys2Proof Sys2Proof.Claims

section
variable {s : State} {fn : Nat}

/-! ### The TDI of a VF -/

theorem State.tdi_setTdi_self (s : State) (fn v : Nat) (h : v < 4) : (s.hubSetN (SEC_TDI_STATE + 4 * fn) v).tdi fn = v := by
  rw [State.tdi, State.hubNat_hubSetN_self]
  omega
theorem State.tdi_setTdi_other (s : State) (v : Nat) {n : Nat} (h : n ≠ fn) : (s.hubSetN (SEC_TDI_STATE + 4 * fn) v).tdi n = s.tdi n := by
  rw [State.tdi, State.hubNat_hubSetN_other _ _ _ _ (by omega), State.tdi]
theorem State.tdi_congr {t : State} (h : t.hub = s.hub) (n : Nat) : t.tdi n = s.tdi n := by
  rw [State.tdi, State.hubNat_congr h, State.tdi]

theorem State.lt_of_tdispUp (h : s.tdispUp fn = true) : fn < 32 := by
  simp only [State.tdispUp, Bool.and_eq_true, decide_eq_true_eq] at h
  exact h.2
theorem State.not_tdispUp (h : s.spdmUp = false ∨ s.sec.sessions = [] ∨ fn = 0) : s.tdispUp fn = false := by
  rcases h with h | h | h <;> simp [State.tdispUp, h]

/-- A TDI in another state, with its response sent. -/
def State.tdiMoved (s : State) (fn v : Nat) (code : Nat) : State :=
  (s.hubSetN (SEC_TDI_STATE + 4 * fn) v).send (.doe doeTdisp [code, fn] [])
def State.streamBound (s : State) (fn stream : Nat) : State :=
  { s with pce := { s.pce with tdiStream := s.pce.tdiStream.set fn stream } }

theorem exec_lockInterface {stream : Nat} (hup : s.tdispUp fn = true) (hex : s.fnExists fn = true) (htdi : s.tdi fn = tdiUnlocked)
    (hpasid : s.fnNat fn XLT_PASID ≠ 0) (hstream : stream < 8) :
    exec (.lockInterface fn stream) s = .next ((s.tdiMoved fn tdiLocked 0).streamBound fn stream) :=
  congrArg Host.Outcome.next ((if_neg (by simp [hup])).trans (if_pos (by simp [hex, htdi, hpasid, hstream])))
theorem exec_lockInterface_refused (stream : Nat) (hup : s.tdispUp fn = true) (h : s.tdi fn ≠ tdiUnlocked) :
    exec (.lockInterface fn stream) s = .next (s.tdispError fn) :=
  congrArg Host.Outcome.next ((if_neg (by simp [hup])).trans (if_neg (by simp [h])))
theorem exec_startInterface (hup : s.tdispUp fn = true) (h : s.tdi fn = tdiLocked) :
    exec (.startInterface fn) s = .next (s.tdiMoved fn tdiRun 1) :=
  congrArg Host.Outcome.next ((if_neg (by simp [hup])).trans (if_pos h))
theorem exec_startInterface_refused (hup : s.tdispUp fn = true) (h : s.tdi fn ≠ tdiLocked) :
    exec (.startInterface fn) s = .next (s.tdispError fn) :=
  congrArg Host.Outcome.next ((if_neg (by simp [hup])).trans (if_neg h))
theorem exec_stopInterface_refused (hup : s.tdispUp fn = true) (h : s.tdi fn = tdiUnlocked) :
    exec (.stopInterface fn) s = .next (s.tdispError fn) :=
  congrArg Host.Outcome.next ((if_neg (by simp [hup])).trans (if_pos h))
theorem exec_getDeviceInterfaceReport (hup : s.tdispUp fn = true) (h : s.tdi fn = tdiLocked ∨ s.tdi fn = tdiRun) :
    exec (.getDeviceInterfaceReport fn) s = .next (s.send (.doe doeTdisp [3, fn, 0x100000, 0x10000, fn,
      s.hubNat (SEC_PADDOCK_CFG + 4 * fn), s.fnNat 0 STL_EPOCH] (s.padBlock fn))) :=
  congrArg Host.Outcome.next ((if_neg (by simp [hup])).trans (if_pos (by simpa using h)))
theorem exec_getDeviceInterfaceReport_refused (hup : s.tdispUp fn = true) (h : s.tdi fn = tdiUnlocked) :
    exec (.getDeviceInterfaceReport fn) s = .next (s.tdispError fn) :=
  congrArg Host.Outcome.next ((if_neg (by simp [hup])).trans (if_neg (by simp [h, tdiUnlocked, tdiLocked, tdiRun])))

/-- A stop under way: the paddock is marked for scrubbing, and the response is owed. -/
def State.stopMarked (s : State) (fn : Nat) : State :=
  { s.markScrub fn with sec := { (s.markScrub fn).sec with tdiStops := s.sec.tdiStops ++ [fn] } }
/-- The mark and the stop are over, and the stream is no longer bound. -/
def State.stopEnded (s : State) (fn : Nat) : State :=
  let u := s.stopMarked fn
  { u with sec := { u.sec with tdiStops := u.sec.tdiStops.filter (· != fn), scrubbing := u.sec.scrubbing.filter (· != fn) },
           pce := { u.pce with tdiStream := u.pce.tdiStream.del fn } }
/-- The stop of an EMPTY paddock's TDI is over at once. -/
def State.stopEmpty (s : State) (fn : Nat) : State :=
  (((s.stopEnded fn).hubSetN (SEC_TDI_STATE + 4 * fn) tdiUnlocked).modPceFn fn (fun p => { p with tdiHold := false })).send
    (.doe doeTdisp [2, fn] [])
/-- The stop of a QUIESCED paddock's TDI scrubs it. -/
def State.stopQuiesced (s : State) (fn : Nat) : State :=
  ((s.stopMarked fn).scrubChips fn).hubSetN SEC_SCRUB_STATUS (2 ^ 31 + ((s.stopMarked fn).scrubChips fn).sec.scrubbing.headD fn * 65536)

theorem State.forceQuiesce_of_idle (h : (s.fn fn).pdk ≠ pdkOpen ∧ (s.fn fn).pdk ≠ pdkQuiescing) : s.forceQuiesce fn = s :=
  if_neg (by simp [h])
theorem exec_stopInterface_of_idle (hup : s.tdispUp fn = true) (htdi : s.tdi fn ≠ tdiUnlocked) (hstop : fn ∉ s.sec.tdiStops)
    (h : (s.fn fn).pdk ≠ pdkOpen ∧ (s.fn fn).pdk ≠ pdkQuiescing) : exec (.stopInterface fn) s = .next (
      if (s.fn fn).pdk = pdkEmpty then s.stopEmpty fn
      else (if (s.fn fn).pdk = pdkQuiesced then (s.stopMarked fn).scrubChips fn else s.stopMarked fn).hubSetN SEC_SCRUB_STATUS (2 ^ 31 +
        (if (s.fn fn).pdk = pdkQuiesced then (s.stopMarked fn).scrubChips fn else s.stopMarked fn).sec.scrubbing.headD fn * 65536)) := by
  refine congrArg Host.Outcome.next ((if_neg (by simp [hup])).trans ((if_neg htdi).trans ((if_neg (by simpa using hstop)).trans ?_)))
  rw [State.forceQuiesce_of_idle h]
  rfl
theorem exec_stopInterface_empty (hup : s.tdispUp fn = true) (htdi : s.tdi fn ≠ tdiUnlocked) (hstop : fn ∉ s.sec.tdiStops)
    (h : (s.fn fn).pdk = pdkEmpty) : exec (.stopInterface fn) s = .next (s.stopEmpty fn) := by
  rw [exec_stopInterface_of_idle hup htdi hstop (by rw [h]; decide), if_pos h]
theorem exec_stopInterface_quiesced (hup : s.tdispUp fn = true) (htdi : s.tdi fn ≠ tdiUnlocked) (hstop : fn ∉ s.sec.tdiStops)
    (h : (s.fn fn).pdk = pdkQuiesced) : exec (.stopInterface fn) s = .next (s.stopQuiesced fn) := by
  rw [exec_stopInterface_of_idle hup htdi hstop (by rw [h]; decide), if_neg (by rw [h]; decide), if_pos h, State.stopQuiesced]

theorem State.tdi_stopEmpty (s : State) (fn n : Nat) :
    (s.stopEmpty fn).tdi n = ((s.stopEnded fn).hubSetN (SEC_TDI_STATE + 4 * fn) tdiUnlocked).tdi n :=
  State.tdi_congr (by simp [State.stopEmpty, State.send]) n
theorem State.tdi_stopEmpty_self (s : State) (fn : Nat) : (s.stopEmpty fn).tdi fn = tdiUnlocked :=
  (s.tdi_stopEmpty fn fn).trans (State.tdi_setTdi_self _ fn tdiUnlocked (by decide))
theorem State.tdi_stopEmpty_other (s : State) {n : Nat} (h : n ≠ fn) : (s.stopEmpty fn).tdi n = s.tdi n :=
  (s.tdi_stopEmpty fn n).trans ((State.tdi_setTdi_other _ tdiUnlocked h).trans (State.tdi_congr rfl n))

theorem State.stopEmpty_kept (s : State) (fn : Nat) : (s.stopEmpty fn).sec = (s.stopEnded fn).sec ∧
    (s.stopEmpty fn).pce = (s.stopEnded fn).pce ∧
    (((s.stopEnded fn).hubSetN (SEC_TDI_STATE + 4 * fn) tdiUnlocked).modPceFn fn (fun p => { p with tdiHold := false })).tx = s.tx ∧
    (s.stopEmpty fn).mem = s.mem := by
  simp [State.stopEmpty, State.send, State.stopEnded, State.stopMarked]

theorem State.sec_stopQuiesced (s : State) (fn : Nat) (h : s.sec.scrubbing = []) :
    fn ∈ (s.stopQuiesced fn).sec.tdiStops ∧ (s.stopQuiesced fn).sec.scrubbing = [fn] ∧ (s.stopQuiesced fn).sec.paddockKeys.find fn = none := by
  have hsec : (s.stopQuiesced fn).sec = ((s.stopMarked fn).scrubChips fn).sec := rfl
  rw [hsec, State.sec_scrubChips]
  refine ⟨List.mem_append_right _ (List.mem_singleton_self fn), ?_, SMap.find_del_self ..⟩
  simp [State.stopMarked, State.markScrub, h]
theorem State.status_stopQuiesced (h : s.sec.scrubbing = []) (hfn : fn < 32) :
    (s.stopQuiesced fn).hubNat SEC_SCRUB_STATUS = 2 ^ 31 + fn * 65536 := by
  have hscrub : ((s.stopMarked fn).scrubChips fn).sec.scrubbing = [fn] := (s.sec_stopQuiesced fn h).2.1
  rw [State.stopQuiesced, hscrub, State.hubNat_hubSetN_self, List.headD_cons]
  omega

/-! ### Attestation -/

theorem exec_spdmGetCertificate_zero (hup : s.spdmUp = true) :
    exec (.spdmGetCertificate 0) s = .next (s.send (.doe doeCertificate [0] (s.certSlot 0 ++ s.aliasCert))) :=
  congrArg Host.Outcome.next ((if_neg (by simp [hup])).trans (if_pos (by simp)))
theorem exec_spdmGetCertificate_unknown {slot : Nat} (hup : s.spdmUp = true) (h : 2 ≤ slot) :
    exec (.spdmGetCertificate slot) s = .next (s.send (.doe doeError [slot] [])) :=
  congrArg Host.Outcome.next ((if_neg (by simp [hup])).trans (if_neg (by
    rw [Bool.or_eq_true, Bool.and_eq_true, decide_eq_true_eq, decide_eq_true_eq]
    omega)))
theorem exec_spdmChallenge_zero (nonce : List Byte) (hup : s.spdmUp = true) : exec (.spdmChallenge 0 nonce) s =
    .next (s.send (.doe doeChallengeAuth [0] (sha384 (s.certSlot 0 ++ s.aliasCert) ++ s.summary ++
      s.akSign (sha384 (s.certSlot 0 ++ s.aliasCert) ++ s.summary ++ nonce)))) :=
  congrArg Host.Outcome.next ((if_neg (by simp [hup])).trans (if_pos (by simp)))
theorem exec_spdmChallenge_unknown {slot : Nat} (nonce : List Byte) (hup : s.spdmUp = true) (h : 2 ≤ slot) :
    exec (.spdmChallenge slot nonce) s = .next (s.send (.doe doeError [slot] [])) :=
  congrArg Host.Outcome.next ((if_neg (by simp [hup])).trans (if_neg (by
    rw [Bool.or_eq_true, Bool.and_eq_true, decide_eq_true_eq, decide_eq_true_eq]
    omega)))

/-- The live commons are asked for their measurements again. -/
def State.measuring (s : State) (block : Nat) (nonce : List Byte) : State :=
  { s with sec := { s.sec with attest := some (block, nonce) },
           sites := s.sites.map (fun (p : Nat × Site) => if s.siteLive p.1 then (p.1, { p.2 with toMeasure := List.range p.2.measCount }) else p) }
theorem exec_spdmGetMeasurements {block : Nat} (nonce : List Byte) (hup : s.spdmUp = true)
    (h : block = 0xFF ∨ (s.measBlock block).isSome = true) :
    exec (.spdmGetMeasurements block nonce) s = .next (s.measuring block nonce).finishAttest :=
  congrArg Host.Outcome.next ((if_neg (by simp [hup])).trans (if_neg (by
    rcases h with h | h
    · simp [h]
    · simp [Option.isNone_eq_false_iff.mpr h])))
theorem exec_spdmGetMeasurements_unknown {block : Nat} (nonce : List Byte) (hup : s.spdmUp = true) (hall : block ≠ 0xFF)
    (h : s.measBlock block = none) : exec (.spdmGetMeasurements block nonce) s = .next (s.send (.doe doeError [block] [])) :=
  congrArg Host.Outcome.next ((if_neg (by simp [hup])).trans (if_pos (by simp [hall, h])))

/-- No block of a measurement depends on the attestation under way. -/
def State.attesting (s : State) (a : Option (Nat × List Byte)) : State := { s with sec := { s.sec with attest := a } }
theorem State.blockBytes_attesting (s : State) (a : Option (Nat × List Byte)) (is : List Nat) : (s.attesting a).blockBytes is = s.blockBytes is := by
  have hblock (i : Nat) : (s.attesting a).measBlock i = s.measBlock i := rfl
  rw [State.blockBytes, State.blockBytes, funext hblock]

theorem State.measuring_of_none_live {block : Nat} (nonce : List Byte) (h : ∀ p ∈ s.sites, s.siteLive p.1 = false) :
    s.measuring block nonce = s.attesting (some (block, nonce)) := by
  have hsites : s.sites.map (fun (p : Nat × Site) => if s.siteLive p.1 then (p.1, { p.2 with toMeasure := List.range p.2.measCount }) else p) =
      s.sites := by
    refine (List.map_congr_left fun p hp => ?_).trans (List.map_id _)
    rw [h p hp]
    rfl
  rw [State.measuring, hsites]
  rfl

/-- The response of a measurement, with the blocks it was asked for. -/
def State.measured (s : State) (block : Nat) (nonce : List Byte) : State :=
  (s.attesting none).sendMeasurements block nonce
theorem State.finishAttest_of_none_live {block : Nat} (nonce : List Byte) (h : ∀ p ∈ s.sites, s.siteLive p.1 = false) :
    (s.measuring block nonce).finishAttest = s.measured block nonce := by
  rw [State.measuring_of_none_live nonce h]
  have hany : (s.attesting (some (block, nonce))).sites.any (fun p => (s.attesting (some (block, nonce))).siteLive p.1 && !p.2.toMeasure.isEmpty) =
      false := List.any_eq_false.mpr (fun p hp => by simp [show (s.attesting (some (block, nonce))).siteLive p.1 = false from h p hp])
  exact if_neg (fun ht => Bool.false_ne_true (hany.symm.trans ht))
theorem State.tx_measured (s : State) (block : Nat) (nonce : List Byte) (is : List Nat) (his : is = if block = 0xFF then allBlocks else [block]) :
    (s.measured block nonce).tx = s.tx ++ [.doe doeMeasurements [block] (s.blockBytes is ++ s.akSign (s.blockBytes is ++ nonce))] := by
  subst his
  simp only [State.measured, State.sendMeasurements, State.send, State.blockBytes_attesting]
  rfl

/-- A live commons that holds measurements is waited for. -/
theorem State.finishAttest_of_live {block : Nat} (nonce : List Byte) (h : ∃ p ∈ s.sites, s.siteLive p.1 = true ∧ 0 < p.2.measCount) :
    (s.measuring block nonce).finishAttest = s.measuring block nonce := by
  obtain ⟨p, hp, hlive, hcount⟩ := h
  refine if_pos (List.any_eq_true.mpr ⟨_, List.mem_map_of_mem hp, ?_⟩)
  have hne : (List.range p.2.measCount).isEmpty = false := by
    simp only [List.isEmpty_eq_false_iff, ne_eq, List.range_eq_nil]
    omega
  rw [if_pos hlive, Bool.and_eq_true]
  exact ⟨hlive, congrArg Bool.not hne⟩
theorem State.toMeasure_measuring {block : Nat} {nonce : List Byte} {p : Nat × Site} (hp : p ∈ (s.measuring block nonce).sites)
    (hlive : s.siteLive p.1 = true) : p.2.toMeasure = List.range p.2.measCount := by
  obtain ⟨q, hq, rfl⟩ := List.mem_map.mp hp
  dsimp only at hlive ⊢
  by_cases h : s.siteLive q.1 = true
  · rw [if_pos h]
  · rw [if_neg h] at hlive
    exact absurd hlive h

/-- A session begun: the share drawn is sent with the signed summary. -/
def State.keyExchanged (s : State) (slot share : Nat) : State :=
  let b := beBytes 96 (Config.ecPublic s.free) ++ s.summary
  { s.drawn.send (.doe doeKeyExchange [slot] (b ++ s.akSign (b ++ beBytes 96 share))) with
    sec := { s.sec with sessions := s.sec.sessions ++ [Config.ecdh s.free share] } }
theorem exec_spdmKeyExchange (slot share : Nat) (hup : s.spdmUp = true) (h : s.sec.sessions.length < 4) :
    exec (.spdmKeyExchange slot share) s = .next (s.keyExchanged slot share) :=
  congrArg Host.Outcome.next ((if_neg (by simp [hup])).trans (if_neg (by omega)))
theorem exec_spdmKeyExchange_full (slot share : Nat) (hup : s.spdmUp = true) (h : 4 ≤ s.sec.sessions.length) :
    exec (.spdmKeyExchange slot share) s = .next (s.send (.doe doeError [slot] [])) :=
  congrArg Host.Outcome.next ((if_neg (by simp [hup])).trans (if_pos h))

end

/-- Settles O36: each message of a device interface or of attestation is answered as its state allows. -/
theorem securitySessions : Obligations.SecuritySessions := by
  refine ⟨⟨fun s fn stream hup hex htdi hpasid hstream => ⟨(s.tdiMoved fn tdiLocked 0).streamBound fn stream, exec_lockInterface hup hex htdi hpasid hstream, ?_, SMap.find_set_self .., rfl,
      fun n hn => State.tdi_setTdi_other s tdiLocked hn, rfl, rfl⟩,
    fun s fn hup htdi => ⟨s.tdiMoved fn tdiRun 1, exec_startInterface hup htdi, ?_, rfl, fun n hn => State.tdi_setTdi_other s tdiRun hn, rfl, rfl, rfl⟩,
    fun s fn hup htdi hstop => ⟨fun hpdk => ⟨s.stopEmpty fn, exec_stopInterface_empty hup htdi hstop hpdk, s.tdi_stopEmpty_self fn, ?_, ?_, ?_,
        fun n hn => s.tdi_stopEmpty_other hn, ?_⟩,
      fun hpdk hnone => ?_⟩,
    fun s fn hup htdi => exec_getDeviceInterfaceReport hup htdi,
    fun s fn stream hup => ⟨exec_lockInterface_refused stream hup, exec_startInterface_refused hup,
      fun h => ⟨exec_stopInterface_refused hup h, exec_getDeviceInterfaceReport_refused hup h⟩⟩,
    fun s fn stream hdown => ?_⟩,
    fun s slot share block nonce hup => ⟨exec_spdmGetCertificate_zero hup, fun b hb => hb ▸ exec_spdmChallenge_zero nonce hup,
      fun hslot => ⟨exec_spdmGetCertificate_unknown hup hslot, exec_spdmChallenge_unknown nonce hup hslot⟩,
      fun is b his hb hblock => ⟨fun hnone => ⟨_, exec_spdmGetMeasurements nonce hup hblock, ?_⟩,
        fun hlive => ⟨_, exec_spdmGetMeasurements nonce hup hblock, ?_⟩⟩,
      exec_spdmGetMeasurements_unknown nonce hup,
      fun b hb hlen => ⟨s.keyExchanged slot share, exec_spdmKeyExchange slot share hup hlen, rfl, ?_, rfl, rfl⟩, exec_spdmKeyExchange_full slot share hup⟩⟩
  · exact State.tdi_setTdi_self s fn tdiLocked (by decide)
  · exact State.tdi_setTdi_self s fn tdiRun (by decide)
  · exact (congrArg (fun p : Pce => p.tdiStream.find fn) (s.stopEmpty_kept fn).2.1).trans (SMap.find_del_self ..)
  · rw [(s.stopEmpty_kept fn).1]
    exact fun h => by simpa using (List.mem_filter.mp h).2
  · exact congrArg (· ++ _) (s.stopEmpty_kept fn).2.2.1
  · exact (s.stopEmpty_kept fn).2.2.2
  · obtain ⟨hmem, hscrub, hkeys⟩ := s.sec_stopQuiesced fn hnone
    exact ⟨_, exec_stopInterface_quiesced hup htdi hstop hpdk, hmem, hscrub, State.status_stopQuiesced hnone (State.lt_of_tdispUp hup), hkeys⟩
  · have hno : (!s.tdispUp fn) = true := by rw [State.not_tdispUp hdown, Bool.not_false]
    exact ⟨congrArg Host.Outcome.next (if_pos hno), congrArg Host.Outcome.next (if_pos hno), congrArg Host.Outcome.next (if_pos hno),
      congrArg Host.Outcome.next (if_pos hno)⟩
  · subst hb
    rw [State.finishAttest_of_none_live nonce hnone]
    exact ⟨s.tx_measured block nonce is his, rfl, rfl, rfl, rfl⟩
  · rw [State.finishAttest_of_live nonce hlive]
    exact ⟨rfl, rfl, fun p hp => State.toMeasure_measuring hp⟩
  · subst hb
    rfl

end Sys2Proof.Machine
end

section
/-! SUPPORT. Completions of the endpoint's reads, and what holds a function (R431 to R433, R436, R558). -/

namespace Sys2Proof.Machine
open Sys2Proof Sys2Proof.Claims

section
variable {s : State} {tag : Nat} {q : PcieReq} {c : CplResult}

/-- The read of a completion is over, and its bytes are counted. -/
def State.readEnded (s : State) (tag : Nat) (c : CplResult) : State := (s.dropReq tag).tallyM 0x18 c.data.length
/-- What a completion leaves before its read is given its data, fails or is poisoned. -/
def State.completed (s : State) (tag : Nat) (c : CplResult) (q : PcieReq) : State :=
  if c.ok = false then (s.readEnded tag c).hubCount PCE_CPL_ERRORS 1
  else if c.poisoned then (((s.readEnded tag c).hubCount PCE_CPL_ERRORS 1).aerUnc q.fn 12).send (.err q.fn 1)
  else s.readEnded tag c

theorem State.hubNat_readEnded (s : State) (tag : Nat) (c : CplResult) : (s.readEnded tag c).hubNat PCE_CPL_ERRORS = s.hubNat PCE_CPL_ERRORS :=
  congrArg BitVec.toNat ((State.hubGet_hubSet_other _ _ _ _ (by decide)).trans (State.hubGet_congr rfl _))

theorem State.completed_kept (s : State) (tag : Nat) (c : CplResult) (q : PcieReq) : (s.completed tag c q).pce.reqs.find tag = none ∧
    (s.completed tag c q).mem = s.mem ∧ (s.completed tag c q).fns = s.fns ∧ (s.completed tag c q).groups = s.groups := by
  unfold State.completed
  split
  · exact ⟨SMap.find_del_self .., rfl, rfl, rfl⟩
  · split
    · exact ⟨SMap.find_del_self .., rfl, rfl, rfl⟩
    · exact ⟨SMap.find_del_self .., rfl, rfl, rfl⟩

section
variable (hup : s.up = true) (hreq : s.pce.reqs.find tag = some q)
include hup hreq

theorem exec_pcieCompletion : exec (.pcieCompletion tag c) s = .next (
    if !c.ok then ((s.readEnded tag c).hubCount PCE_CPL_ERRORS 1).failRead q
    else if c.poisoned then ((((s.readEnded tag c).hubCount PCE_CPL_ERRORS 1).aerUnc q.fn 12).send (.err q.fn 1)).poisonRead q
    else (s.readEnded tag c).giveData q c.data) := by
  refine congrArg Host.Outcome.next ((if_neg (by simp [hup])).trans ?_)
  simp only [hreq]
  rfl
theorem exec_pcieCompletion_data (hok : c.ok = true) (hp : c.poisoned = false) :
    exec (.pcieCompletion tag c) s = .next ((s.completed tag c q).giveData q c.data) ∧ (s.completed tag c q).tx = s.tx := by
  rw [exec_pcieCompletion hup hreq, if_neg (by simp [hok]), if_neg (by simp [hp]), State.completed, if_neg (by simp [hok]), if_neg (by simp [hp])]
  exact ⟨rfl, rfl⟩
theorem exec_pcieCompletion_error (hok : c.ok = false) : exec (.pcieCompletion tag c) s = .next ((s.completed tag c q).failRead q) ∧
    (s.completed tag c q).hubNat PCE_CPL_ERRORS = min 0xFFFFFFFF (s.hubNat PCE_CPL_ERRORS + 1) := by
  rw [exec_pcieCompletion hup hreq, if_pos (by simp [hok]), State.completed, if_pos hok, State.hubNat_hubCount_self, State.hubNat_readEnded]
  exact ⟨rfl, rfl⟩
theorem exec_pcieCompletion_poisoned (hok : c.ok = true) (hp : c.poisoned = true) :
    exec (.pcieCompletion tag c) s = .next ((s.completed tag c q).poisonRead q) ∧ (s.completed tag c q).tx = s.tx ++ [.err q.fn 1] ∧
      (s.completed tag c q).hubNat PCE_CPL_ERRORS = min 0xFFFFFFFF (s.hubNat PCE_CPL_ERRORS + 1) := by
  rw [exec_pcieCompletion hup hreq, if_neg (by simp [hok]), if_pos hp, State.completed, if_neg (by simp [hok]), if_pos hp]
  refine ⟨rfl, rfl, ?_⟩
  rw [← s.hubNat_readEnded tag c, ← State.hubNat_hubCount_self]
  exact State.hubNat_congr rfl _

end

theorem LoadPart.answer_of_some {ps : List LoadPart} {i : Nat} {p : LoadPart} (h : ps[i]? = some p) (d : List Byte) :
    LoadPart.answer ps i d = ps.set i { p with data := some d } := by
  unfold LoadPart.answer
  rw [h]

/-- The data of a load's piece are held with it. -/
theorem State.entry_giveData_load {e i : Nat} {j : JEntry} {p : LoadPart} (huse : q.use = .load e i) (he : s.entry q.fn e = some j)
    (hp : j.src[i]? = some p) (d : List Byte) :
    (s.giveData q d).entry q.fn e = some { j with src := j.src.set i { p with data := some d } } := by
  unfold State.giveData
  rw [huse]
  refine (State.entry_modEntry_self he _).trans ?_
  rw [LoadPart.answer_of_some hp]

/-- A read that has timed out, before it fails. -/
def State.readTimedOut (s : State) (tag : Nat) (q : PcieReq) : State :=
  ((((s.dropReq tag).hubCount PCE_CPL_ERRORS 1).hubCount PCE_CPL_TIMEOUTS 1).aerUnc q.fn 14).send (.err q.fn 1)
theorem exec_completionTimeout (hreq : s.pce.reqs.find tag = some q) :
    exec (.completionTimeout tag) s = .next ((s.readTimedOut tag q).failRead q) := by
  refine congrArg Host.Outcome.next ?_
  simp only [hreq]
  rfl
theorem State.hubNat_readTimedOut (s : State) (tag : Nat) (q : PcieReq) :
    (s.readTimedOut tag q).hubNat PCE_CPL_TIMEOUTS = min 0xFFFFFFFF (s.hubNat PCE_CPL_TIMEOUTS + 1) ∧
    (s.readTimedOut tag q).hubNat PCE_CPL_ERRORS = min 0xFFFFFFFF (s.hubNat PCE_CPL_ERRORS + 1) := by
  have hhub : (s.readTimedOut tag q).hub = (((s.dropReq tag).hubCount PCE_CPL_ERRORS 1).hubCount PCE_CPL_TIMEOUTS 1).hub := rfl
  have hreg off : (s.dropReq tag).hubNat off = s.hubNat off := State.hubNat_congr rfl off
  constructor
  · rw [State.hubNat_congr hhub, State.hubNat_hubCount_self, State.hubNat_hubCount_other _ _ (by decide), hreg]
  · rw [State.hubNat_congr hhub, State.hubNat_hubCount_other _ _ (by decide), State.hubNat_hubCount_self, hreg]

/-! ### What holds a function -/

theorem State.pce_modPceFn (s : State) (fn : Nat) (g : PceFn → PceFn) : ((s.modPceFn fn g).fn fn).pce = g (s.fn fn).pce := by
  rw [State.modPceFn, State.fn_modFn_self]

theorem State.tdiFail_of_idle {fn : Nat} (h : fn = 0 ∨ (s.tdi fn ≠ tdiLocked ∧ s.tdi fn ≠ tdiRun)) : s.tdiFail fn = s :=
  if_neg (by
    rcases h with h | ⟨hl, hr⟩
    · simp [h]
    · simp [hl, hr])

theorem exec_busMasterEnableChange {fn : Nat} {b : Bool} (hup : s.up = true) (hex : s.fnExists fn = true) (h : (s.fn fn).pce.busMaster ≠ b) :
    exec (.busMasterEnableChange fn b) s =
      .next (((s.modPceFn fn (fun p => { p with busMaster := b })).tdiFail fn).resumeHost fn) :=
  congrArg Host.Outcome.next (if_neg (by simp [hup, hex, h]))
theorem exec_powerStateChange {fn : Nat} (b : Bool) (hup : s.up = true) (hex : s.fnExists fn = true) :
    exec (.powerStateChange fn b) s = .next ((s.modPceFn fn (fun p => { p with d3hot := b })).resumeHost fn) :=
  congrArg Host.Outcome.next (if_neg (by simp [hup, hex]))

end

/-- Settles O33: a completion reaches its read or is unexpected, and a function goes on when nothing holds it. -/
theorem endpointRequests : Obligations.EndpointRequests := by
  refine ⟨fun s tag c hup hnone => ⟨(s.hubCount PCE_CPL_ERRORS 1).advisory 0 16, ?_, ?_, rfl, rfl, rfl⟩,
    fun s tag c q hup hreq => ?_,
    fun s q e i j p d huse he hp => ⟨_, State.entry_giveData_load huse he hp d, ?_, fun n hn => ?_, rfl, by simp [State.giveData, huse]⟩,
    fun s tag q hreq => ⟨s.readTimedOut tag q, exec_completionTimeout hreq, SMap.find_del_self .., rfl, rfl, rfl, (s.hubNat_readTimedOut tag q).1,
      (s.hubNat_readTimedOut tag q).2⟩,
    fun s fn b hup hex => ⟨fun h => congrArg Host.Outcome.next (if_pos (by simp [h])),
      fun h => ⟨_, exec_busMasterEnableChange hup hex h, s.pce_modPceFn fn _, by simp, by simp, fun hidle => State.tdiFail_of_idle ?_⟩⟩,
    fun s fn b hup hex => ⟨_, exec_powerStateChange b hup hex, s.pce_modPceFn fn _, by simp, by simp, by simp⟩⟩
  · refine congrArg Host.Outcome.next ((if_neg (by simp [hup])).trans ?_)
    simp only [hnone]
  · rw [← State.hubNat_hubCount_self]
    exact State.hubNat_congr rfl _
  · obtain ⟨hreqs, hmem, hfns, hgroups⟩ := s.completed_kept tag c q
    exact ⟨s.completed tag c q, hreqs, hmem, hfns, hgroups, exec_pcieCompletion_data hup hreq, exec_pcieCompletion_error hup hreq,
      exec_pcieCompletion_poisoned hup hreq⟩
  · exact List.getElem?_set_self (List.getElem?_eq_some_iff.mp hp).1
  · exact List.getElem?_set_ne (fun h => hn h.symm)
  · rwa [State.tdi_congr (s := s) (by simp)]

end Sys2Proof.Machine
end

section
/-! SUPPORT. Tally resets, fabric snapshots and the registers of trace buffers (R667, R668, R675, R682, R683). -/

namespace Sys2Proof.Machine
open Sys2Proof Sys2Proof.Claims

/-! ### Tally -/

theorem toNat_tlyReset (w : W64) : (tlyReset w).toNat = (w.toNat / 2 ^ 48 + 1) % 2 ^ 16 * 2 ^ 48 := by
  have hw := w.isLt
  simp only [tlyReset, fieldOf, BitVec.toNat_ofNat]
  omega

/-- Every counter of a block of 32 is reset. -/
def tallyCleared (base : Nat) (m : SMap W64) : SMap W64 := SMap.updateAll 0 (fun e => base + 8 * e) (fun _ => tlyReset) (List.range 32) m
theorem get_tallyCleared_self (base : Nat) (m : SMap W64) {e : Nat} (h : e < 32) :
    (tallyCleared base m).get 0 (base + 8 * e) = tlyReset (m.get 0 (base + 8 * e)) :=
  SMap.get_updateAll_self 0 _ (fun _ => tlyReset) List.nodup_range (fun a _ b _ heq => by omega) (List.mem_range.mpr h) m
theorem get_tallyCleared_other (base : Nat) (m : SMap W64) {off : Nat} (h : off < base ∨ base + 256 ≤ off) :
    (tallyCleared base m).get 0 off = m.get 0 off := by
  refine SMap.get_updateAll_other 0 _ (fun _ => tlyReset) (fun e he heq => ?_) m
  have hlt := List.mem_range.mp he
  omega

theorem State.resetTally_eq (s : State) : s.resetTally = { s with hub := tallyCleared TLY_COUNT s.hub } := by
  unfold State.resetTally tallyCleared SMap.updateAll
  generalize List.range 32 = l
  induction l generalizing s with
  | nil => rfl
  | cons e l ih => exact ih _
theorem Fn.resetTally_eq (f : Fn) : f.resetTally = { f with regs := tallyCleared TLY_FN_COUNT f.regs } := by
  unfold Fn.resetTally tallyCleared SMap.updateAll
  generalize List.range 32 = l
  induction l generalizing f with
  | nil => rfl
  | cons e l ih => exact ih _

/-! ### Fabric snapshots -/

section
variable {α : Type} (g : Nat → Nat)

/-- The entries of `m`, listed in `acc` under other keys. -/
def SMap.moveInto (m acc : SMap α) : SMap α := m.foldl (fun (a : SMap α) p => a.set (g p.1) p.2) acc
theorem SMap.find_moveInto_other {m : SMap α} {k : Nat} (h : ∀ p ∈ m, g p.1 ≠ k) (acc : SMap α) : (SMap.moveInto g m acc).find k = acc.find k := by
  induction m generalizing acc with
  | nil => rfl
  | cons p m ih =>
    obtain ⟨hp, hm⟩ := List.forall_mem_cons.mp h
    exact (ih hm _).trans (SMap.find_set_other _ _ _ _ hp.symm)
theorem SMap.find_moveInto_self {m : SMap α} (hm : m.Pairwise (fun a b => a.1 < b.1)) (hg : ∀ p ∈ m, ∀ q ∈ m, p.1 < q.1 → g p.1 ≠ g q.1)
    {k : Nat} {v : α} (h : (k, v) ∈ m) (acc : SMap α) : (SMap.moveInto g m acc).find (g k) = some v := by
  induction m generalizing acc with
  | nil => cases h
  | cons p m ih =>
    obtain ⟨hp, hm'⟩ := List.pairwise_cons.mp hm
    obtain rfl | hmem := List.mem_cons.mp h
    · exact (SMap.find_moveInto_other g (fun q hq heq => hg (k, v) List.mem_cons_self q (List.mem_cons_of_mem _ hq) (hp q hq) heq.symm) _).trans
        (SMap.find_set_self ..)
    · exact ih hm' (fun a ha b hb => hg a (List.mem_cons_of_mem _ ha) b (List.mem_cons_of_mem _ hb)) hmem _

end

theorem SMap.find_ne_none_of_mem {α : Type} {m : SMap α} {p : Nat × α} (h : p ∈ m) : m.find p.1 ≠ none := by
  induction m with
  | nil => cases h
  | cons q m ih =>
    obtain ⟨j, v⟩ := q
    unfold SMap.find
    split
    · simp
    · next hne =>
      obtain rfl | hmem := List.mem_cons.mp h
      · exact absurd rfl hne
      · exact ih hmem

/-- The blocks of the fabric, and the copy of a snapshot. -/
def inFab (off : Nat) : Bool := TLY_FAB ≤ off && off < TLY_FAB + 0x80 * 75
def inSnap (off : Nat) : Bool := TLY_FAB_SNAPSHOT ≤ off && off < TLY_FAB_SNAPSHOT + 0x80 * 75
theorem snapshotRegs_eq (r : SMap W64) : snapshotRegs r =
    SMap.moveInto (fun k => k - TLY_FAB + TLY_FAB_SNAPSHOT) (r.filter (fun p => inFab p.1)) (r.filter (fun p => !inSnap p.1)) := rfl
theorem fab_of_mem {r : SMap W64} {p : Nat × W64} (h : p ∈ r.filter (fun p => inFab p.1)) : 0xC4000 ≤ p.1 ∧ p.1 < 0xC4000 + 0x2580 := by
  obtain ⟨-, hp⟩ := List.mem_filter.mp h
  simp only [inFab, Bool.and_eq_true, decide_eq_true_eq] at hp
  exact hp

theorem get_snapshotRegs_other (r : SMap W64) {off : Nat} (h : inSnap off = false) : (snapshotRegs r).get 0 off = r.get 0 off := by
  have hne : ∀ p ∈ r.filter (fun p => inFab p.1), p.1 - TLY_FAB + TLY_FAB_SNAPSHOT ≠ off := fun p hp heq => by
    obtain ⟨hlo, hhi⟩ := fab_of_mem hp
    simp only [inSnap, Bool.and_eq_false_iff, decide_eq_false_iff_not] at h
    simp only [TLY_FAB_SNAPSHOT, TLY_FAB] at h heq
    omega
  rw [SMap.get_eq_find, snapshotRegs_eq, SMap.find_moveInto_other _ hne, SMap.find_filter (fun k => !inSnap k), if_pos (by simp [h]),
    ← SMap.get_eq_find]
theorem get_snapshotRegs_copy {r : SMap W64} (hr : r.Pairwise (fun a b => a.1 < b.1)) {i : Nat} (h : i < 0x80 * 75) :
    (snapshotRegs r).get 0 (TLY_FAB_SNAPSHOT + i) = r.get 0 (TLY_FAB + i) := by
  have hkey : TLY_FAB_SNAPSHOT + i = TLY_FAB + i - TLY_FAB + TLY_FAB_SNAPSHOT := by omega
  have hfab : inFab (TLY_FAB + i) = true := by simp [inFab, h]
  have hinj : ∀ p ∈ r.filter (fun p => inFab p.1), ∀ q ∈ r.filter (fun p => inFab p.1), p.1 < q.1 →
      p.1 - TLY_FAB + TLY_FAB_SNAPSHOT ≠ q.1 - TLY_FAB + TLY_FAB_SNAPSHOT := fun p hp q hq hlt => by
    have := fab_of_mem hp
    simp only [TLY_FAB]
    omega
  rw [SMap.get_eq_find, SMap.get_eq_find, snapshotRegs_eq]
  cases hf : r.find (TLY_FAB + i) with
  | some v =>
    rw [hkey, SMap.find_moveInto_self _ (hr.filter _) hinj (List.mem_filter.mpr ⟨SMap.mem_of_find hf, hfab⟩)]
  | none =>
    have hne : ∀ p ∈ r.filter (fun p => inFab p.1), p.1 - TLY_FAB + TLY_FAB_SNAPSHOT ≠ TLY_FAB_SNAPSHOT + i := fun p hp heq => by
      have hlo := (fab_of_mem hp).1
      have hpk : p.1 = TLY_FAB + i := by
        simp only [TLY_FAB] at heq ⊢
        omega
      exact SMap.find_ne_none_of_mem (List.mem_of_mem_filter hp) (hpk ▸ hf)
    have hsnap : inSnap (TLY_FAB_SNAPSHOT + i) = true := by simp [inSnap, h]
    rw [SMap.find_moveInto_other _ hne, SMap.find_filter (fun k => !inSnap k), if_neg (by simp [hsnap])]

/-- The copy is taken and dated, and under way. -/
def State.snapped (s : State) : State :=
  ((({ s with hub := snapshotRegs s.hub } : State).hubSetN TLY_FAB_SNAP_GEN
    ((({ s with hub := snapshotRegs s.hub } : State).hubNat TLY_FAB_SNAP_GEN + 1) % 65536)).hubSetN TLY_FAB_SNAP_TIME s.time).hubSetN TLY_FAB_SNAP 1

/-! ### The registers of a trace buffer -/

section
variable {s : State} {b : Nat}

theorem State.hubNat_tallyM_other (s : State) (n : Nat) {code off : Nat} (h : off ≠ TLY_COUNT + 8 * code) :
    (s.tallyM code n).hubNat off = s.hubNat off := congrArg BitVec.toNat (State.hubGet_hubSet_other _ _ _ _ h)

theorem State.hubNat_trcPut (s : State) (b off : Nat) (bs : List Byte) {a : Nat} (h : TRC_BUF_CFG ≤ a) :
    (s.trcPut b off bs).hubNat a = s.hubNat a :=
  (State.hubNat_tallyM_other _ _ (by simp only [TRC_BUF_CFG, TLY_COUNT] at *; omega)).trans (State.hubNat_congr (by simp) a)
theorem State.hubNat_trcSetPtr (s : State) (b p : Nat) {a : Nat} (h : a ≠ TRC_WRITE_PTR + 8 * b) : (s.trcSetPtr b p).hubNat a = s.hubNat a :=
  State.hubNat_hubSetN_other _ _ _ _ h
theorem State.hubNat_trcSetState (s : State) (b st : Nat) {a : Nat} (h : a ≠ TRC_BUF_STATUS + 4 * b) :
    (s.trcSetState b st).hubNat a = s.hubNat a := State.hubNat_hubSetN_other _ _ _ _ h

theorem State.trcState_trcSetState (s : State) (b : Nat) {st : Nat} (h : st < 8) : (s.trcSetState b st).trcState b = st := by
  have hf := fieldOf_withField_self (s.hubNat (TRC_BUF_STATUS + 4 * b)) (lo := 0) (w := 3) (by decide) h
  rw [State.trcState, State.trcSetState, State.hubNat_hubSetN_self]
  rw [fieldOf, Nat.pow_zero, Nat.div_one] at hf
  exact hf
theorem State.trcPtr_trcSetPtr (s : State) (b : Nat) {p : Nat} (h : p < 2 ^ 64) : (s.trcSetPtr b p).trcPtr b = p := by
  rw [State.trcPtr, State.trcSetPtr, State.hubNat_hubSetN_self, Nat.mod_eq_of_lt h]

section
variable (hb : b < 4)
include hb

theorem State.trcState_trcSetPtr (s : State) (p : Nat) : (s.trcSetPtr b p).trcState b = s.trcState b := by
  rw [State.trcState, State.hubNat_trcSetPtr _ _ _ (by simp only [TRC_BUF_STATUS, TRC_WRITE_PTR]; omega), State.trcState]
theorem State.trcSize_trcSetPtr (s : State) (p : Nat) : (s.trcSetPtr b p).trcSize b = s.trcSize b := by
  rw [State.trcSize, State.hubNat_trcSetPtr _ _ _ (by simp only [TRC_BUF_CFG, TRC_WRITE_PTR]; omega), State.trcSize]
theorem State.trcPtr_trcSetState (s : State) (st : Nat) : (s.trcSetState b st).trcPtr b = s.trcPtr b := by
  rw [State.trcPtr, State.hubNat_trcSetState _ _ _ (by simp only [TRC_WRITE_PTR, TRC_BUF_STATUS]; omega), State.trcPtr]

end

theorem State.trcSize_trcSetState (s : State) (b st : Nat) : (s.trcSetState b st).trcSize b = s.trcSize b := by
  rw [State.trcSize, State.hubNat_trcSetState _ _ _ (by simp only [TRC_BUF_CFG, TRC_BUF_STATUS]; omega), State.trcSize]
theorem State.trcState_trcPut (s : State) (b off : Nat) (bs : List Byte) : (s.trcPut b off bs).trcState b = s.trcState b := by
  rw [State.trcState, State.hubNat_trcPut _ _ _ _ (by simp only [TRC_BUF_STATUS, TRC_BUF_CFG]; omega), State.trcState]
theorem State.trcSize_trcPut (s : State) (b off : Nat) (bs : List Byte) : (s.trcPut b off bs).trcSize b = s.trcSize b := by
  rw [State.trcSize, State.hubNat_trcPut _ _ _ _ (Nat.le_add_right ..), State.trcSize]
theorem State.trcSize_lt (s : State) (b : Nat) : s.trcSize b < 2 ^ 40 := by
  have h := fieldOf_lt (s.hubNat (TRC_BUF_CFG + 4 * b)) 16 16
  simp only [State.trcSize, mib]
  omega
theorem State.trcPost_le (s : State) (b : Nat) : s.trcPost b ≤ s.trcSize b := Nat.sub_le ..
theorem State.mem_trcPut (s : State) (b off : Nat) (bs : List Byte) :
    (s.trcPut b off bs).mem = (s.store (s.hubNat (TRC_BUF_BASE + 8 * b) + off) bs).mem := rfl

/-- A buffer that has no place left after the record at `p` stops. -/
def State.trcClose (s : State) (b p : Nat) : State := if s.trcSize b ≤ p + 64 then s.trcSetState b trcStopped else s
theorem State.trcState_trcClose (s : State) (b p : Nat) :
    (s.trcClose b p).trcState b = if s.trcSize b ≤ p + 64 then trcStopped else s.trcState b := by
  unfold State.trcClose
  split
  · exact s.trcState_trcSetState b (by decide)
  · rfl
theorem State.hubNat_trcClose (s : State) (b p : Nat) {a : Nat} (h : a ≠ TRC_BUF_STATUS + 4 * b) : (s.trcClose b p).hubNat a = s.hubNat a := by
  unfold State.trcClose
  split
  · exact s.hubNat_trcSetState b _ h
  · rfl
theorem State.mem_trcClose (s : State) (b p : Nat) : (s.trcClose b p).mem = s.mem ∧ (s.trcClose b p).tx = s.tx := by
  unfold State.trcClose
  split <;> exact ⟨by simp, by simp⟩

/-- A record written in order, the pointer after it. -/
def State.trcAppend (s : State) (b p : Nat) (bs : List Byte) : State := (s.trcPut b p bs).trcSetPtr b (p + 32)

/-- Where a buffer is filled in order. -/
theorem State.trcWrite_linear (bs : List Byte) (h : s.trcState b = trcTriggered ∨ (s.trcState b = trcArmed ∧ s.trcMode b = 0)) :
    s.trcWrite b bs = (s.trcAppend b (s.trcPtr b) bs).trcClose b (s.trcPtr b) := if_pos (by simpa using h)
theorem State.trcWrite_idle (bs : List Byte) (h : s.trcState b = trcIdle ∨ s.trcState b = trcStopped) : s.trcWrite b bs = s := by
  rcases h with h | h
  · exact (if_neg (by simp [h, trcIdle, trcTriggered, trcArmed])).trans (if_neg (by simp [h, trcIdle, trcArmed]))
  · exact (if_neg (by simp [h, trcStopped, trcTriggered, trcArmed])).trans (if_neg (by simp [h, trcStopped, trcArmed]))

/-- First byte beyond the ring of a buffer that is written round and round. -/
def State.trcTop (s : State) (b : Nat) : Nat := if s.trcMode b = 2 then s.trcPost b else s.trcSize b
/-- A ring goes round, and notes that it has. -/
def State.trcWrap (s : State) (b : Nat) : State :=
  (s.trcSetPtr b 0).hubSetN (TRC_BUF_STATUS + 4 * b) (withField (s.hubNat (TRC_BUF_STATUS + 4 * b)) 3 1 1)
theorem State.trcWrite_ring (bs : List Byte) (h : s.trcState b = trcArmed) (hmode : s.trcMode b ≠ 0) : s.trcWrite b bs =
    if s.trcTop b ≤ s.trcPtr b + 32 then (s.trcPut b (s.trcPtr b) bs).trcWrap b else s.trcAppend b (s.trcPtr b) bs :=
  (if_neg (by simp [h, hmode, trcArmed, trcTriggered])).trans (if_pos h)

theorem State.trcState_trcWrap (s : State) (b : Nat) : (s.trcWrap b).trcState b = s.trcState b := by
  rw [State.trcState, State.trcWrap, State.hubNat_hubSetN_self, State.trcState]
  simp only [withField_eq]
  omega
theorem State.trcPtr_trcWrap (s : State) (hb : b < 4) : (s.trcWrap b).trcPtr b = 0 := by
  rw [State.trcPtr, State.trcWrap, State.hubNat_hubSetN_other _ _ _ _ (by simp only [TRC_WRITE_PTR, TRC_BUF_STATUS]; omega)]
  exact s.trcPtr_trcSetPtr b (by decide)

/-- Where the trigger of a buffer lies. -/
def State.trcSetTrigger (s : State) (b p : Nat) : State := s.hubSetN (TRC_TRIGGER_PTR + 8 * b) p
theorem State.trcState_trcSetTrigger (s : State) (p : Nat) (hb : b < 4) : (s.trcSetTrigger b p).trcState b = s.trcState b := by
  rw [State.trcState, State.trcSetTrigger, State.hubNat_hubSetN_other _ _ _ _ (by simp only [TRC_TRIGGER_PTR, TRC_BUF_STATUS]; omega), State.trcState]
theorem State.trcSize_trcSetTrigger (s : State) (p : Nat) (hb : b < 4) : (s.trcSetTrigger b p).trcSize b = s.trcSize b := by
  rw [State.trcSize, State.trcSetTrigger, State.hubNat_hubSetN_other _ _ _ _ (by simp only [TRC_TRIGGER_PTR, TRC_BUF_CFG]; omega), State.trcSize]

/-- An armed buffer of two regions takes the trigger's record at the start of the second. -/
def State.trcFire (s : State) (b code source : Nat) : State :=
  ((((s.trcPut b (s.trcPost b) (s.trcRecord 5 source 0 false (leBytes 1 code))).trcSetState b trcTriggered).trcSetTrigger b
    (s.trcPost b)).trcSetPtr b (s.trcPost b + 32)).trcClose b (s.trcPost b)
theorem State.trcTrigger_armed (code source : Nat) (hex : s.trcExists b = true) (h : s.trcState b = trcArmed) (hmode : s.trcMode b = 2) :
    s.trcTrigger b code source = s.trcFire b code source := if_pos (by simp [hex, h, hmode])
theorem State.trcTrigger_ignored (code source : Nat) (h : s.trcExists b = false ∨ s.trcState b ≠ trcArmed ∨ s.trcMode b ≠ 2) :
    s.trcTrigger b code source = s.hubCount TRC_TRIGGERS_IGNORED 1 := if_neg (by
  rcases h with h | h | h <;> simp [h])

theorem State.trcFire_spec (s : State) (code source : Nat) (hb : b < 4) :
    (s.trcFire b code source).trcState b = (if s.trcSize b ≤ s.trcPost b + 64 then trcStopped else trcTriggered) ∧
    (s.trcFire b code source).hubNat (TRC_TRIGGER_PTR + 8 * b) = s.trcPost b ∧ (s.trcFire b code source).trcPtr b = s.trcPost b + 32 ∧
    (s.trcFire b code source).tx = s.tx ∧ (s.trcFire b code source).mem =
      (s.store (s.hubNat (TRC_BUF_BASE + 8 * b) + s.trcPost b) (s.trcRecord 5 source 0 false (leBytes 1 code))).mem := by
  have hpost : s.trcPost b + 32 < 2 ^ 64 := by
    have := s.trcPost_le b
    have := s.trcSize_lt b
    omega
  refine ⟨?_, ?_, ?_, ?_, ?_⟩
  · rw [State.trcFire, State.trcState_trcClose, State.trcSize_trcSetPtr hb, State.trcState_trcSetPtr hb, State.trcSize_trcSetTrigger _ _ hb,
      State.trcState_trcSetTrigger _ _ hb, State.trcSize_trcSetState, State.trcState_trcSetState _ _ (by decide), State.trcSize_trcPut]
  · rw [State.trcFire, State.hubNat_trcClose _ _ _ (by simp only [TRC_TRIGGER_PTR, TRC_BUF_STATUS]; omega),
      State.hubNat_trcSetPtr _ _ _ (by simp only [TRC_TRIGGER_PTR, TRC_WRITE_PTR]; omega), State.trcSetTrigger, State.hubNat_hubSetN_self]
    omega
  · rw [State.trcFire, State.trcPtr, State.hubNat_trcClose _ _ _ (by simp only [TRC_WRITE_PTR, TRC_BUF_STATUS]; omega)]
    exact State.trcPtr_trcSetPtr _ b hpost
  · exact (State.mem_trcClose ..).2.trans (by simp [State.trcSetTrigger])
  · exact (State.mem_trcClose ..).1.trans (by simp [State.mem_trcPut, State.trcSetTrigger])

theorem State.trcWrite_linear_spec (bs : List Byte) (hb : b < 4)
    (h : s.trcState b = trcTriggered ∨ (s.trcState b = trcArmed ∧ s.trcMode b = 0)) (hp : s.trcPtr b + 32 < 2 ^ 64) :
    (s.trcWrite b bs).trcPtr b = s.trcPtr b + 32 ∧ (s.trcWrite b bs).mem = (s.store (s.hubNat (TRC_BUF_BASE + 8 * b) + s.trcPtr b) bs).mem ∧
      (s.trcWrite b bs).trcState b = (if s.trcSize b ≤ s.trcPtr b + 64 then trcStopped else s.trcState b) := by
  rw [State.trcWrite_linear bs h]
  refine ⟨?_, ?_, ?_⟩
  · rw [State.trcPtr, State.hubNat_trcClose _ _ _ (by simp only [TRC_WRITE_PTR, TRC_BUF_STATUS]; omega)]
    exact State.trcPtr_trcSetPtr _ b hp
  · exact (State.mem_trcClose ..).1.trans (by simp [State.trcAppend, State.mem_trcPut])
  · rw [State.trcState_trcClose, State.trcAppend, State.trcSize_trcSetPtr hb, State.trcState_trcSetPtr hb, State.trcSize_trcPut,
      State.trcState_trcPut]
theorem State.trcWrite_ring_spec (bs : List Byte) (hb : b < 4) (h : s.trcState b = trcArmed) (hmode : s.trcMode b ≠ 0)
    (hp : s.trcPtr b + 32 < 2 ^ 64) :
    (s.trcWrite b bs).mem = (s.store (s.hubNat (TRC_BUF_BASE + 8 * b) + s.trcPtr b) bs).mem ∧ (s.trcWrite b bs).trcState b = trcArmed ∧
      (s.trcWrite b bs).trcPtr b = (if s.trcTop b ≤ s.trcPtr b + 32 then 0 else s.trcPtr b + 32) := by
  rw [State.trcWrite_ring bs h hmode]
  split
  · exact ⟨by simp [State.trcWrap, State.mem_trcPut], by rw [State.trcState_trcWrap, State.trcState_trcPut, h], State.trcPtr_trcWrap _ hb⟩
  · exact ⟨by simp [State.trcAppend, State.mem_trcPut], by rw [State.trcAppend, State.trcState_trcSetPtr hb, State.trcState_trcPut, h],
      State.trcPtr_trcSetPtr _ b hp⟩

end

end Sys2Proof.Machine
end

section
/-! SUPPORT. Probes, admission and control of trace buffers (R676, R677, R681 to R683). -/

namespace Sys2Proof.Machine
open Sys2Proof Sys2Proof.Claims

/-! ### One probe sees a flit -/

theorem foldl_of_none {α : Type} {p : State → α → Bool} {g : State → α → State} {l : List α} {s : State} (h : ∀ j ∈ l, p s j = false) :
    l.foldl (fun s j => if p s j then g s j else s) s = s := by
  induction l with
  | nil => rfl
  | cons j l ih =>
    obtain ⟨hj, hl⟩ := List.forall_mem_cons.mp h
    rw [List.foldl_cons, hj]
    exact ih hl
theorem foldl_of_single {p : State → Nat → Bool} {g : State → Nat → State} {l : List Nat} {s : State} {k : Nat} (hn : l.Nodup) (hk : k ∈ l)
    (hs : p s k = true) (h : ∀ j ∈ l, j ≠ k → p s j = false ∧ p (g s k) j = false) :
    l.foldl (fun s j => if p s j then g s j else s) s = g s k := by
  induction l with
  | nil => cases hk
  | cons j l ih =>
    obtain ⟨hj, hn'⟩ := List.nodup_cons.mp hn
    obtain ⟨hjs, hl⟩ := List.forall_mem_cons.mp h
    rw [List.foldl_cons]
    obtain rfl | hmem := List.mem_cons.mp hk
    · rw [hs]
      exact foldl_of_none fun i hi => (hl i hi (fun heq => hj (heq ▸ hi))).2
    · rw [(hjs (fun heq => hj (heq ▸ hmem))).1]
      exact ih hn' hmem hl

section
variable {s t : State} {f : SeenFlit} {k b : Nat}

/-- The registers that choose what each probe sees are the same. -/
def State.SameProbes (s t : State) : Prop := ∀ j off, off ≤ 0x20 → t.probeReg j off = s.probeReg j off
theorem State.SameToProbes.sameProbes (h : s.SameToProbes t) : s.SameProbes t :=
  fun _ _ _ => h.hub _ (.inr (by omega))
theorem State.sameProbes_congr (h : t.hub = s.hub) : s.SameProbes t := fun _ _ _ => State.hubGet_congr h _
theorem State.SameProbes.probeSees (h : s.SameProbes t) (j : Nat) (f : SeenFlit) : t.probeSees j f = s.probeSees j f := by
  unfold State.probeSees
  rw [h j 0 (by decide), h j 8 (by decide), h j 0x10 (by decide), h j 0x18 (by decide), h j 0x1C (by decide), h j 0x20 (by decide)]

/-- A flit that one probe alone sees reaches that probe. -/
theorem exec_probeMatch_single (hup : s.up = true) (hk : k < 8) (hs : s.probeSees k f = true)
    (hj : ∀ j, j < 8 → j ≠ k → s.probeSees j f = false) (hsame : s.SameProbes (s.probeHit k f)) :
    exec (.probeMatch f) s = .next (s.probeHit k f) := by
  refine congrArg Host.Outcome.next ((if_pos hup).trans ?_)
  refine foldl_of_single (p := fun s j => s.probeSees j f) (g := fun s j => s.probeHit j f) List.nodup_range (List.mem_range.mpr hk) hs
    fun j hmem hne => ?_
  have hno := hj j (List.mem_range.mp hmem) hne
  exact ⟨hno, (hsame.probeSees j f).trans hno⟩
theorem exec_probeMatch_none (hup : s.up = true) (h : ∀ k, k < 8 → s.probeSees k f = false) : exec (.probeMatch f) s = .next s :=
  congrArg Host.Outcome.next ((if_pos hup).trans
    (foldl_of_none (p := fun s j => s.probeSees j f) fun j hmem => h j (List.mem_range.mp hmem)))

/-! ### What a probe does -/

theorem State.probeHit_blind (hh : s.hidden f = true) (h : f.plane = 0 ∨ bitOf (s.probeReg k 0).toNat 30 = false) : s.probeHit k f = s := by
  rw [State.probeHit_of_hidden k hh, if_neg]
  rintro ⟨hbit, hplane⟩
  rcases h with h | h
  · exact hplane h
  · rw [h] at hbit
    exact Bool.false_ne_true hbit
theorem State.probeHit_count (hh : s.hidden f = false) (h28 : bitOf (s.probeReg k 0).toNat 28 = true)
    (h29 : bitOf (s.probeReg k 0).toNat 29 = false) (h30 : bitOf (s.probeReg k 0).toNat 30 = false) :
    s.probeHit k f = s.hubCount64 (TRC_PROBE_COUNT + 0x40 * k) 1 := by
  simp [State.probeHit, hh, h28, h29, h30]
theorem State.probeHit_trace (hh : s.hidden f = false) (h28 : bitOf (s.probeReg k 0).toNat 28 = false)
    (h29 : bitOf (s.probeReg k 0).toNat 29 = true) (h30 : bitOf (s.probeReg k 0).toNat 30 = false) :
    s.probeHit k f = s.probeOffer k (fieldOf (s.probeReg k 0).toNat 26 2) f := by
  simp [State.probeHit, hh, h28, h29, h30]
theorem State.probeHit_trigger (h28 : bitOf (s.probeReg k 0).toNat 28 = false)
    (h29 : bitOf (s.probeReg k 0).toNat 29 = false) (h30 : bitOf (s.probeReg k 0).toNat 30 = true) (h : s.hidden f = false ∨ f.plane ≠ 0) :
    s.probeHit k f = s.trcTrigger (fieldOf (s.probeReg k 0).toNat 26 2) 1 k := by
  unfold State.probeHit
  simp only [h28, h29, h30, Bool.and_false, Bool.true_and, if_false, Bool.false_eq_true]
  exact if_pos (by simpa using h)

theorem State.hubNat_hubCount64_self (s : State) (off n : Nat) :
    (s.hubCount64 off n).hubNat off = min 0xFFFFFFFFFFFFFFFF (s.hubNat off + n) := by
  rw [State.hubCount64, State.hubNat_hubSetN_self, sat_eq_min]
  omega
theorem State.sameProbes_count (s : State) (k n : Nat) : s.SameProbes (s.hubCount64 (TRC_PROBE_COUNT + 0x40 * k) n) := by
  refine fun j off hoff => State.hubGet_hubSet_other _ _ _ _ ?_
  simp only [TRC_PROBE_COUNT, TRC_PROBE_CTL]
  omega
theorem State.sameProbes_trcDrop (s : State) (source n : Nat) (hb : b < 4) : s.SameProbes (s.trcDrop b source n) := by
  have hcount : s.SameProbes (s.hubCount (TRC_DROPPED + 4 * b) n) := fun j off _ => State.hubGet_hubSet_other _ _ _ _ (by
    simp only [TRC_DROPPED, TRC_PROBE_CTL]
    omega)
  unfold State.trcDrop
  dsimp only
  split <;> exact hcount

/-! ### Drops -/

/-- A drop counts in its buffer and with its producer. -/
theorem State.trcDrop_spec (s : State) (b source n : Nat) :
    (s.trcDrop b source n).hubNat (TRC_DROPPED + 4 * b) = min 0xFFFFFFFF (s.hubNat (TRC_DROPPED + 4 * b) + n) ∧
    (s.trcDrop b source n).obs.offers = s.obs.offers ∧ (s.trcDrop b source n).obs.drops.find (b * 65536 + source) =
      some ⟨(s.obs.drops.get ⟨0, s.time⟩ (b * 65536 + source)).count + n, (s.obs.drops.get ⟨0, s.time⟩ (b * 65536 + source)).first⟩ := by
  have hcount := s.hubNat_hubCount_self (TRC_DROPPED + 4 * b) n
  unfold State.trcDrop
  dsimp only
  split <;> exact ⟨hcount, rfl, SMap.find_set_self ..⟩

theorem State.probeOffer_first (hex : s.trcExists b = true) (h : s.obs.probeBeat.find k = none) : s.probeOffer k b f =
    { s with obs := { s.obs with probeBeat := s.obs.probeBeat.set k f.beat, offers := s.obs.offers ++
      [⟨b, k, s.trcRecord 1 k f.paddock f.hub (if f.plane = 2 then f.payload.take 16 else f.payload)⟩] } } :=
  (if_neg (by simp [hex])).trans ((if_neg (by simp [h])).trans (if_pos hex))
theorem State.probeOffer_soon {t0 : Nat} (hex : s.trcExists b = true) (h : s.obs.probeBeat.find k = some t0) (ht : f.beat < t0 + 16) :
    s.probeOffer k b f = s.trcDrop b k 1 :=
  (if_neg (by simp [hex])).trans (if_pos (by simp [h, ht]))

/-! ### Admission -/

theorem State.trcRoom_le (s : State) : s.trcRoom ≤ 1150000 := Nat.sub_le ..
theorem State.trcRoom_trcAdmit {n : Nat} (h : n ≤ s.trcRoom) : (s.trcAdmit n).trcRoom + n = s.trcRoom := by
  have hle := s.trcRoom_le
  have hadmit : (s.trcAdmit n).trcRoom = 1150000 - (1150000 - s.trcRoom + n) := by
    unfold State.trcRoom State.trcAdmit
    exact congrArg (1150000 - ·) (if_pos rfl)
  omega

/-- The one record offered is taken up. -/
def State.trcTaken (s : State) : State := { s with obs := { s.obs with offers := [] } }
theorem exec_traceRecordOffer_single {r : TraceRec} (allow pair : Bool) (hup : s.up = true) (h : s.obs.offers = [r]) :
    exec (.traceRecordOffer r.source allow pair) s = .next (s.trcTaken.trcDecide r allow pair) := by
  have hfind : s.obs.offers.find? (fun t => t.source = r.source) = some r := by simp [h]
  have htake : takeFirst (fun x => x.source = r.source) s.obs.offers = [] := by simp [h, takeFirst]
  refine congrArg Host.Outcome.next ((if_neg (by simp [hup])).trans ?_)
  simp only [hfind, htake, State.trcTaken]
theorem exec_traceRecordOffer_none (source : Nat) (allow pair : Bool) (h : s.obs.offers = []) :
    exec (.traceRecordOffer source allow pair) s = .next s := by
  refine congrArg Host.Outcome.next ?_
  simp [h]

section
variable {r : TraceRec} {allow pair : Bool}

theorem State.trcDecide_write (hd : s.obs.drops.find (r.buffer * 65536 + r.source) = none) (ha : allow = true) (hroom : 32 ≤ s.trcRoom)
    (hopen : s.trcOpen r.buffer = true) : s.trcDecide r allow pair = (s.trcAdmit 32).trcWrite r.buffer r.bytes := by
  unfold State.trcDecide
  simp only [hd]
  exact if_pos (by simp [ha, hroom, hopen])
theorem State.trcDecide_loss {d : Drops} (hd : s.obs.drops.find (r.buffer * 65536 + r.source) = some d) (ha : allow = true) (hp : pair = true)
    (hroom : 64 ≤ s.trcRoom) (hopen : s.trcOpen r.buffer = true) (hfit : s.trcPairFits r.buffer = true) : s.trcDecide r allow pair =
      (((s.trcAdmit 64).clearDrops r.buffer r.source).trcWrite r.buffer (s.lossRecord r.source d)).trcWrite r.buffer r.bytes := by
  unfold State.trcDecide
  simp only [hd]
  exact if_pos (by simp [ha, hp, hroom, hopen, hfit])
theorem State.trcDecide_denied (ha : allow = false) : s.trcDecide r allow pair = s.trcDrop r.buffer r.source 1 := by
  unfold State.trcDecide
  dsimp only
  split
  · exact if_neg (by simp [ha])
  · exact if_neg (by simp [ha])
theorem State.trcDecide_unpaired {d : Drops} (hd : s.obs.drops.find (r.buffer * 65536 + r.source) = some d)
    (h : pair = false ∨ s.trcPairFits r.buffer = false ∨ s.trcRoom < 64) : s.trcDecide r allow pair = s.trcDrop r.buffer r.source 1 := by
  unfold State.trcDecide
  simp only [hd]
  refine if_neg ?_
  rcases h with h | h | h
  · simp [h]
  · simp [h]
  · have hno : ¬ 64 ≤ s.trcRoom := by omega
    simp [hno]

end

/-! ### Control -/

/-- A buffer starts empty. -/
def State.trcArmedNow (s : State) (b : Nat) : State :=
  ({ ((s.trcSetPtr b 0).hubSetN (TRC_BUF_STATUS + 4 * b) trcArmed).hubSetN (TRC_DROPPED + 4 * b) 0 with
    obs := { s.obs with drops := s.obs.drops.filter (fun (p : Nat × Drops) => p.1 / 65536 != b), stopDrops := s.obs.stopDrops.del b } } : State)
theorem State.traceArm_ready (hex : s.trcExists b = true) (h : s.trcState b = trcIdle ∨ s.trcState b = trcStopped) :
    s.traceArm b = s.trcArmedNow b := if_pos (by simpa [hex] using h)
theorem State.traceArm_other (h : s.trcExists b = false ∨ (s.trcState b ≠ trcIdle ∧ s.trcState b ≠ trcStopped)) : s.traceArm b = s :=
  if_neg (by
    rcases h with h | ⟨hi, hs⟩
    · simp [h]
    · simp [hi, hs])
theorem State.trcArmedNow_spec (s : State) (hb : b < 4) : (s.trcArmedNow b).trcState b = trcArmed ∧ (s.trcArmedNow b).trcPtr b = 0 ∧
    (s.trcArmedNow b).hubNat (TRC_DROPPED + 4 * b) = 0 := by
  have hhub : (s.trcArmedNow b).hub =
    (((s.trcSetPtr b 0).hubSetN (TRC_BUF_STATUS + 4 * b) trcArmed).hubSetN (TRC_DROPPED + 4 * b) 0).hub := rfl
  refine ⟨?_, ?_, ?_⟩
  · rw [State.trcState, State.hubNat_congr hhub, State.hubNat_hubSetN_other _ _ _ _ (by simp only [TRC_BUF_STATUS, TRC_DROPPED]; omega),
      State.hubNat_hubSetN_self]
    rfl
  · rw [State.trcPtr, State.hubNat_congr hhub, State.hubNat_hubSetN_other _ _ _ _ (by simp only [TRC_WRITE_PTR, TRC_DROPPED]; omega),
      State.hubNat_hubSetN_other _ _ _ _ (by simp only [TRC_WRITE_PTR, TRC_BUF_STATUS]; omega)]
    exact s.trcPtr_trcSetPtr b (by decide)
  · rw [State.hubNat_congr hhub, State.hubNat_hubSetN_self, Nat.zero_mod]

theorem State.idle_traceDisarm (h : s.trcExists b = false ∨ s.trcState b = trcIdle) : s.traceDisarm b = s :=
  if_pos (by rcases h with h | h <;> simp [h])
theorem State.busy_traceDisarm (hex : s.trcExists b = true) (hi : s.trcState b ≠ trcIdle) (hs : s.trcState b ≠ trcStopped) :
    s.traceDisarm b = s.trcSetState b trcIdle :=
  (if_neg (by simp [hex, hi])).trans (congrArg (State.trcSetState · b trcIdle) (if_neg hs))
theorem State.stopped_traceDisarm (hex : s.trcExists b = true) (hs : s.trcState b = trcStopped) :
    s.traceDisarm b = (s.trcSeal b).trcSetState b trcIdle :=
  (if_neg (by simp [hex, hs, trcStopped, trcIdle])).trans (congrArg (State.trcSetState · b trcIdle) (if_pos hs))

theorem State.mem_sealed (s : State) (b : Nat) : ((s.trcSeal b).trcSetState b trcIdle).mem = (s.trcSeal b).mem := by simp
theorem State.trcSeal_unused (h : s.obs.stopDrops.find b = none) :
    s.trcSeal b = s.store (s.hubNat (TRC_BUF_BASE + 8 * b) + (s.trcSize b - 32)) (zeros 32) := by
  unfold State.trcSeal
  rw [h]
theorem State.trcSeal_dropped {d : Drops} (h : s.obs.stopDrops.find b = some d) :
    s.trcSeal b = s.trcPut b (s.trcSize b - 32) (s.lossRecord 0x12 d) := by
  unfold State.trcSeal
  rw [h]

theorem State.traceTriggers_none {v : Nat} (h : v % 16 = 0) : s.traceTriggers v = s := by
  refine foldl_of_none (p := fun _ b => bitOf v b) (g := fun s b => s.trcTrigger b 3 0x12) fun j hj => ?_
  have hj4 := List.mem_range.mp hj
  have hbit : v.testBit j = false := by
    have := Nat.testBit_mod_two_pow v 4 j
    rw [show v % 2 ^ 4 = 0 from h, Nat.zero_testBit] at this
    simpa [hj4] using this.symm
  rw [bitOf_eq_testBit, hbit]
theorem State.traceTriggers_single (s : State) {i : Nat} (hi : i < 4) : s.traceTriggers (2 ^ i) = s.trcTrigger i 3 0x12 := by
  have hbit (j : Nat) : bitOf (2 ^ i) j = Decidable.decide (i = j) := by rw [bitOf_eq_testBit, Nat.testBit_two_pow]
  refine foldl_of_single (p := fun _ b => bitOf (2 ^ i) b) (g := fun s b => s.trcTrigger b 3 0x12) List.nodup_range (List.mem_range.mpr hi)
    (by rw [hbit, decide_eq_true rfl]) fun j _ hne => ?_
  have hno : bitOf (2 ^ i) j = false := by rw [hbit, decide_eq_false (Ne.symm hne)]
  exact ⟨hno, hno⟩

/-! ### Counters -/

theorem State.hubGet_resetTally_self (s : State) {e : Nat} (h : e < 32) :
    s.resetTally.hubGet (TLY_COUNT + 8 * e) = tlyReset (s.hubGet (TLY_COUNT + 8 * e)) := by
  rw [State.resetTally_eq, State.hubGet, State.hubGet, ← get_tallyCleared_self TLY_COUNT s.hub h]
theorem State.hubGet_resetTally_other (s : State) {off : Nat} (h : off < TLY_COUNT ∨ TLY_COUNT + 256 ≤ off) :
    s.resetTally.hubGet off = s.hubGet off := by
  rw [State.resetTally_eq, State.hubGet, State.hubGet, ← get_tallyCleared_other TLY_COUNT s.hub h]
theorem Fn.get_resetTally_self (f : Fn) {e : Nat} (h : e < 32) : f.resetTally.get (TLY_FN_COUNT + 8 * e) = tlyReset (f.get (TLY_FN_COUNT + 8 * e)) := by
  rw [Fn.resetTally_eq, Fn.get, Fn.get, ← get_tallyCleared_self TLY_FN_COUNT f.regs h]
theorem Fn.get_resetTally_other (f : Fn) {off : Nat} (h : off < TLY_FN_COUNT ∨ TLY_FN_COUNT + 256 ≤ off) : f.resetTally.get off = f.get off := by
  rw [Fn.resetTally_eq, Fn.get, Fn.get, ← get_tallyCleared_other TLY_FN_COUNT f.regs h]

/-! ### Snapshots -/

theorem exec_fabSnapTake_idle (hup : s.up = true) (h : bitOf (s.hubNat TLY_FAB_SNAP) 0 = false) : exec .fabSnapTake s = .next s.snapped :=
  congrArg Host.Outcome.next ((if_pos hup).trans (if_neg (by simp [h])))
theorem exec_fabSnapTake_busy (hup : s.up = true) (h : bitOf (s.hubNat TLY_FAB_SNAP) 0 = true) : exec .fabSnapTake s = .next s :=
  congrArg Host.Outcome.next ((if_pos hup).trans (if_pos h))

/-- Outside the three registers of a snapshot the hub has what the copy gave it. -/
theorem State.hubGet_snapped (s : State) {off : Nat} (h : TLY_FAB ≤ off) : s.snapped.hubGet off = (snapshotRegs s.hub).get 0 off := by
  simp only [TLY_FAB] at h
  unfold State.snapped State.hubSetN
  rw [State.hubGet_hubSet_other _ _ _ _ (by simp only [TLY_FAB_SNAP]; omega),
    State.hubGet_hubSet_other _ _ _ _ (by simp only [TLY_FAB_SNAP_TIME]; omega),
    State.hubGet_hubSet_other _ _ _ _ (by simp only [TLY_FAB_SNAP_GEN]; omega)]
  rfl
theorem State.gen_snapped (s : State) : s.snapped.hubNat TLY_FAB_SNAP_GEN = (s.hubNat TLY_FAB_SNAP_GEN + 1) % 65536 := by
  have hgen : ({ s with hub := snapshotRegs s.hub } : State).hubNat TLY_FAB_SNAP_GEN = s.hubNat TLY_FAB_SNAP_GEN :=
    congrArg BitVec.toNat (get_snapshotRegs_other s.hub rfl)
  rw [State.snapped, hgen, State.hubNat_hubSetN_other _ _ _ _ (by decide), State.hubNat_hubSetN_other _ _ _ _ (by decide),
    State.hubNat_hubSetN_self]
  omega

end

/-- Settles O53: counters, snapshots, probes and trace buffers do what R667 to R683 say, and nothing without power. -/
theorem observation : Obligations.Observation := by
  refine ⟨fun w => ?_, fun s hup => ⟨s.resetTally, congrArg Host.Outcome.next (if_pos hup), by simp, by simp, by simp, fun e he => ?_,
      fun off hoff => ?_⟩,
    fun s n hup hn => ⟨s.modFn n Fn.resetTally, congrArg Host.Outcome.next (if_pos (by simp [hup, hn])), by simp, by simp, by simp,
      fun e he => ?_, fun off hoff => ?_, fun m hm => State.fn_modFn_other _ _ _ _ hm⟩,
    fun s hup => ⟨exec_fabSnapTake_busy hup, fun hidle hsorted => ⟨s.snapped, exec_fabSnapTake_idle hup hidle, fun i hi => ⟨?_, ?_⟩, s.gen_snapped,
      ?_, ?_, rfl, rfl, rfl⟩, ⟨s.hubSetN TLY_FAB_SNAP 0, congrArg Host.Outcome.next (if_pos hup), State.hubNat_hubSetN_self ..,
        fun off hoff => State.hubGet_hubSet_other _ _ _ _ hoff, rfl, rfl, rfl⟩⟩,
    fun s f hup => ⟨exec_probeMatch_none hup, fun k b c hk hs hj hc hb => ?_⟩,
    fun s r allow pair hup hb => ⟨exec_traceRecordOffer_none r.source allow pair, fun hoffer => ?_⟩,
    fun s b bs hb => ⟨State.trcWrite_linear_spec bs hb, State.trcWrite_ring_spec bs hb, State.trcWrite_idle bs⟩,
    fun s b hup => ?_, fun s b code source => ⟨fun hex harmed hmode => ⟨_, State.trcTrigger_armed code source hex harmed hmode,
        s.trcFire_spec code source (State.lt_of_trcExists hex)⟩,
      fun h => ⟨_, State.trcTrigger_ignored code source h, State.hubNat_hubCount_self .., by simp, by simp, by simp⟩⟩,
    fun s hup => ⟨fun v hv => congrArg Host.Outcome.next ((if_pos hup).trans (State.traceTriggers_none hv)),
      congrArg Host.Outcome.next ((if_pos hup).trans (s.traceTriggers_single (i := 0) (by decide))),
      congrArg Host.Outcome.next ((if_pos hup).trans (s.traceTriggers_single (i := 1) (by decide))),
      congrArg Host.Outcome.next ((if_pos hup).trans (s.traceTriggers_single (i := 2) (by decide))),
      congrArg Host.Outcome.next ((if_pos hup).trans (s.traceTriggers_single (i := 3) (by decide)))⟩,
    fun s hdown => ?_⟩
  · rw [toNat_tlyReset]
    omega
  · exact s.hubGet_resetTally_self he
  · exact s.hubGet_resetTally_other hoff
  · rw [State.fn_modFn_self, Fn.get_resetTally_self _ he]
  · rw [State.fn_modFn_self, Fn.get_resetTally_other _ hoff]
  · rw [State.hubGet_snapped _ (by simp only [TLY_FAB_SNAPSHOT, TLY_FAB]; omega)]
    exact get_snapshotRegs_copy hsorted hi
  · rw [State.hubGet_snapped _ (Nat.le_add_right ..)]
    refine get_snapshotRegs_other s.hub ?_
    simp only [inSnap, Bool.and_eq_false_iff, decide_eq_false_iff_not]
    simp only [TLY_FAB_SNAPSHOT, TLY_FAB]
    omega
  · rw [State.snapped, State.hubSetN, State.hubGet_hubSet_other _ _ _ _ (by decide)]
    exact State.hubGet_hubSet_self ..
  · exact State.hubNat_hubSetN_self ..
  · subst hc hb
    have hb4 : fieldOf (s.probeReg k 0).toNat 26 2 < 4 := fieldOf_lt ..
    refine ⟨fun hh h => ?_, fun hh h28 h29 h30 => ⟨_, ?_, State.hubNat_hubCount64_self .., by simp, by simp, by simp⟩,
      fun hh h28 h29 h30 hex => ⟨fun hbeat => ?_, fun t0 hbeat hsoon => ?_⟩, fun h28 h29 h30 h => ?_⟩
    · rw [exec_probeMatch_single hup hk hs hj (by rw [State.probeHit_blind hh h]; exact State.sameProbes_congr rfl), State.probeHit_blind hh h]
    · rw [exec_probeMatch_single hup hk hs hj (by rw [State.probeHit_count hh h28 h29 h30]; exact s.sameProbes_count k 1),
        State.probeHit_count hh h28 h29 h30]
    · have heq := (State.probeHit_trace hh h28 h29 h30).trans (State.probeOffer_first hex hbeat)
      exact ⟨_, (exec_probeMatch_single hup hk hs hj (by rw [heq]; exact State.sameProbes_congr rfl)).trans (congrArg _ heq),
        SMap.find_set_self .., rfl, rfl, rfl, rfl⟩
    · have heq := (State.probeHit_trace hh h28 h29 h30).trans (State.probeOffer_soon hex hbeat hsoon)
      obtain ⟨hcount, hoffers, -⟩ := s.trcDrop_spec (fieldOf (s.probeReg k 0).toNat 26 2) k 1
      exact ⟨_, (exec_probeMatch_single hup hk hs hj (by rw [heq]; exact s.sameProbes_trcDrop k 1 hb4)).trans (congrArg _ heq), hoffers, hcount,
        by simp, by simp⟩
    · have heq := State.probeHit_trigger h28 h29 h30 h
      exact (exec_probeMatch_single hup hk hs hj (by rw [heq]; exact (s.sameToProbes_trcTrigger _ 1 k).sameProbes)).trans (congrArg _ heq)
  · have hexec := exec_traceRecordOffer_single allow pair hup hoffer
    obtain ⟨hcount, hoffers, hdrops⟩ := s.trcTaken.trcDrop_spec r.buffer r.source 1
    refine ⟨fun ha => ⟨_, hexec.trans (congrArg _ (State.trcDecide_denied ha)), hoffers, by simp [State.trcTaken], by simp [State.trcTaken],
        hcount.trans ?_⟩,
      fun ha hopen hd hroom => ⟨s.trcTaken.trcAdmit 32, hexec.trans (congrArg _ (State.trcDecide_write hd ha hroom hopen)), rfl,
        State.trcRoom_trcAdmit (s := s.trcTaken) hroom, rfl, rfl, rfl⟩,
      fun d hd => ⟨fun ha hp hopen hfit hroom => ⟨(s.trcTaken.trcAdmit 64).clearDrops r.buffer r.source,
          hexec.trans (congrArg _ (State.trcDecide_loss hd ha hp hroom hopen hfit)), rfl, SMap.find_del_self .., rfl, rfl, rfl⟩,
        fun h => ⟨_, hexec.trans (congrArg _ (State.trcDecide_unpaired hd h)), ?_, hoffers, by simp [State.trcTaken]⟩⟩⟩
    · exact congrArg (fun n => min 0xFFFFFFFF (n + 1)) (State.hubNat_congr rfl _)
    · have hd' : s.trcTaken.obs.drops.find (r.buffer * 65536 + r.source) = some d := hd
      rw [hdrops, SMap.get_eq_find, hd']
      rfl
  · refine ⟨fun hex => ⟨congrArg Host.Outcome.next ((if_pos hup).trans (State.traceArm_other (.inl hex))),
        congrArg Host.Outcome.next ((if_pos hup).trans (State.idle_traceDisarm (.inl hex)))⟩,
      fun hex => ⟨fun h => ⟨s.trcArmedNow b, congrArg Host.Outcome.next ((if_pos hup).trans (State.traceArm_ready hex h)), ?_⟩,
        fun hi hs => congrArg Host.Outcome.next ((if_pos hup).trans (State.traceArm_other (.inr ⟨hi, hs⟩))),
        fun hi => congrArg Host.Outcome.next ((if_pos hup).trans (State.idle_traceDisarm (.inr hi))),
        fun hi hs => ⟨s.trcSetState b trcIdle, congrArg Host.Outcome.next ((if_pos hup).trans (State.busy_traceDisarm hex hi hs)),
          State.trcState_trcSetState _ _ (by decide), State.trcPtr_trcSetState (State.lt_of_trcExists hex) .., rfl, rfl⟩,
        fun hs => ⟨(s.trcSeal b).trcSetState b trcIdle, congrArg Host.Outcome.next ((if_pos hup).trans (State.stopped_traceDisarm hex hs)),
          State.trcState_trcSetState _ _ (by decide), by simp, fun hd => ?_, fun d hd => ?_⟩⟩⟩
    · obtain ⟨hst, hptr, hdrop⟩ := s.trcArmedNow_spec (State.lt_of_trcExists hex)
      exact ⟨hst, hptr, hdrop, rfl, rfl, rfl⟩
    · rw [State.mem_sealed, State.trcSeal_unused hd]
    · rw [State.mem_sealed, State.trcSeal_dropped hd, State.mem_trcPut]
  · have hno : ¬ s.up = true := by simp [hdown]
    exact ⟨congrArg Host.Outcome.next (if_neg hno), fun n => congrArg Host.Outcome.next (if_neg (by simp [hdown])),
      congrArg Host.Outcome.next (if_neg hno), congrArg Host.Outcome.next (if_neg hno), fun f => congrArg Host.Outcome.next (if_neg hno),
      fun a c d => congrArg Host.Outcome.next (if_pos (by simp [hdown])), fun b => congrArg Host.Outcome.next (if_neg hno),
      fun b => congrArg Host.Outcome.next (if_neg hno), fun v => congrArg Host.Outcome.next (if_neg hno)⟩

end Sys2Proof.Machine
end

section
/-! SUPPORT. Temperature, codes, queues, twins and margins of the stacks (R75, R284 to R300, R314, R315, R654, R655). -/

namespace Sys2Proof.Machine
open Sys2Proof Sys2Proof.Claims

/-! ### Fields beside a field just written -/

theorem withField_mod (v lo w x : Nat) : withField v lo w (x % 2 ^ w) = withField v lo w x := by
  rw [withField, withField, Nat.mod_mod]
theorem fieldOf_withField_mod (v : Nat) {lo w : Nat} (x : Nat) (h : lo + w ≤ 64) : fieldOf (withField v lo w x % 2 ^ 64) lo w = x % 2 ^ w := by
  rw [← withField_mod, fieldOf_withField_self _ h (Nat.mod_lt _ (Nat.two_pow_pos w))]
theorem fieldOf_withField_other (v : Nat) {lo w lo' w' : Nat} (x : Nat) (h : lo' + w' ≤ 64) (hd : lo' + w' ≤ lo ∨ lo + w ≤ lo') :
    fieldOf (withField v lo w x % 2 ^ 64) lo' w' = fieldOf v lo' w' := by
  refine Nat.eq_of_testBit_eq fun i => ?_
  rw [testBit_fieldOf, testBit_fieldOf]
  by_cases hi : i < w'
  · rw [Nat.testBit_mod_two_pow, decide_eq_true (p := lo' + i < 64) (by omega), Bool.true_and, testBit_withField, if_neg (by omega)]
  · rw [decide_eq_false hi, Bool.false_and, Bool.false_and]
theorem fieldOf_mod_64 (v : Nat) {lo w : Nat} (h : lo + w ≤ 64) : fieldOf (v % 2 ^ 64) lo w = fieldOf v lo w := by
  refine Nat.eq_of_testBit_eq fun i => ?_
  rw [testBit_fieldOf, testBit_fieldOf]
  by_cases hi : i < w
  · rw [Nat.testBit_mod_two_pow, decide_eq_true (p := lo + i < 64) (by omega), Bool.true_and]
  · rw [decide_eq_false hi, Bool.false_and, Bool.false_and]
theorem fieldOf_zero (v w : Nat) : fieldOf v 0 w = v % 2 ^ w := by rw [fieldOf, Nat.pow_zero, Nat.div_one]

section
variable {s t : State} {stack temp : Nat}

/-! ### Temperature -/

/-- Readings at or below 83 °C in a row, and whether refresh stays doubled. -/
def State.coolRun (s : State) (stack temp : Nat) : Nat := if temp ≤ 83 then s.ms.cool.get 0 stack + 1 else 0
def State.refreshOn (s : State) (stack temp : Nat) : Bool :=
  85 < temp || (s.ms.doubled.contains stack && Decidable.decide (s.coolRun stack temp < 10))
theorem State.refreshOn_iff (s : State) (stack temp : Nat) : s.refreshOn stack temp = true ↔
    85 < temp ∨ (stack ∈ s.ms.doubled ∧ ¬(temp ≤ 83 ∧ 9 ≤ s.ms.cool.get 0 stack)) := by
  simp only [State.refreshOn, Bool.or_eq_true, Bool.and_eq_true, decide_eq_true_eq, List.contains_iff_mem]
  refine or_congr_right (and_congr_right fun _ => ?_)
  unfold State.coolRun
  split <;> omega

theorem State.doubled_setRefresh (s : State) (stack temp : Nat) : stack ∈ (s.setRefresh stack temp).ms.doubled ↔ s.refreshOn stack temp = true := by
  have hms : (s.setRefresh stack temp).ms.doubled = if s.refreshOn stack temp then
      (if s.ms.doubled.contains stack then s.ms.doubled else stack :: s.ms.doubled) else s.ms.doubled.filter (· != stack) := rfl
  rw [hms]
  cases s.refreshOn stack temp
  · simp
  · cases hd : s.ms.doubled.contains stack
    · simp
    · simpa using hd
theorem State.hubNat_setRefresh (s : State) (stack temp : Nat) : (s.setRefresh stack temp).hubNat (stackStatus stack) =
    withField (s.hubNat (stackStatus stack)) 8 2 (boolN (s.refreshOn stack temp)) % 2 ^ 64 := State.hubNat_hubSetN_self ..
theorem State.hubNat_setRefresh_other (s : State) (stack temp : Nat) {off : Nat} (h : off ≠ stackStatus stack) :
    (s.setRefresh stack temp).hubNat off = s.hubNat off := (State.hubNat_hubSetN_other _ _ _ _ h).trans (State.hubNat_congr rfl off)

theorem State.hub_stackThermal (s : State) (stack temp : Nat) {off : Nat} (hi : off ≠ PCE_INT_STATUS) (he : off ≠ PWR_THERM_EVENTS) :
    (s.stackThermal stack temp).hubNat off = s.hubNat off := by
  unfold State.stackThermal State.thermalEvent
  dsimp only
  split
  · split
    · rfl
    · rw [State.hubNat_raiseInt_other _ _ hi, State.hubNat_hubCount_other _ _ he]
      exact State.hubNat_congr rfl off
  · split <;> rfl
theorem State.events_stackThermal (s : State) (stack temp : Nat) : (s.stackThermal stack temp).hubNat PWR_THERM_EVENTS =
    if 95 < temp ∧ stack ∉ s.pow.hotStacks then min 0xFFFFFFFF (s.hubNat PWR_THERM_EVENTS + 1) else s.hubNat PWR_THERM_EVENTS := by
  unfold State.stackThermal State.thermalEvent
  dsimp only
  by_cases ht : 95 < temp
  · rw [if_pos ht]
    cases hh : s.pow.hotStacks.contains stack
    · have hmem : stack ∉ s.pow.hotStacks := by simpa using hh
      rw [if_neg Bool.false_ne_true, if_pos ⟨ht, hmem⟩, State.hubNat_raiseInt_other _ _ (by decide), State.hubNat_hubCount_self]
      exact congrArg (fun n => min 0xFFFFFFFF (n + 1)) (State.hubNat_congr rfl _)
    · have hmem : stack ∈ s.pow.hotStacks := by simpa using hh
      rw [if_pos rfl, if_neg (fun h => h.2 hmem)]
  · have hno : ¬(95 < temp ∧ stack ∉ s.pow.hotStacks) := fun h => ht h.1
    rw [if_neg ht, if_neg hno]
    split <;> rfl

theorem State.hub_monitor (s : State) (id : Nat) (bad : Bool) : (s.monitor id bad).hub = s.hub := by simp

/-- The reading is shown, and refresh and surplus follow it. -/
def State.tempShown (s : State) (stack temp : Nat) : State :=
  s.hubSetN (stackStatus stack) (withField (s.hubNat (stackStatus stack)) 16 8 temp)
def State.tempTaken (s : State) (stack temp : Nat) : State :=
  (((s.tempShown stack temp).setRefresh stack temp).stackThermal stack temp).monitor (monStack stack) (105 < temp)

section
variable (hup : s.up = true) (hstack : stack < 24) (hvac : s.vacant kStack stack = false)
include hup hstack hvac

theorem exec_hbmTempPoll : exec (.hbmTempPoll stack temp) s =
    .next (if 105 < temp then (s.tempTaken stack temp).thermalTrip ((s.tempTaken stack temp).physId kStack stack) else s.tempTaken stack temp) :=
  congrArg Host.Outcome.next (if_neg (by
    have hlt : ¬ 24 ≤ stack := by omega
    simp [hup, hlt, hvac]))

end

theorem stackStatus_ne (hstack : stack < 24) : stackStatus stack ≠ PCE_INT_STATUS ∧ stackStatus stack ≠ PWR_THERM_EVENTS := by
  simp only [stackStatus, MCT_STACK_STATUS, PCE_INT_STATUS, PWR_THERM_EVENTS]
  omega

theorem State.status_tempTaken (s : State) (temp : Nat) (hstack : stack < 24) : (s.tempTaken stack temp).hubNat (stackStatus stack) =
    withField (withField (s.hubNat (stackStatus stack)) 16 8 temp % 2 ^ 64) 8 2 (boolN ((s.tempShown stack temp).refreshOn stack temp)) % 2 ^ 64 := by
  obtain ⟨hint, hevent⟩ := stackStatus_ne hstack
  rw [State.tempTaken, State.hubNat_congr (State.hub_monitor ..), State.hub_stackThermal _ _ _ hint hevent, State.hubNat_setRefresh,
    State.tempShown, State.hubNat_hubSetN_self]
theorem State.doubled_tempTaken (s : State) (stack temp : Nat) :
    stack ∈ (s.tempTaken stack temp).ms.doubled ↔ (s.tempShown stack temp).refreshOn stack temp = true := by
  have hms : (s.tempTaken stack temp).ms = ((s.tempShown stack temp).setRefresh stack temp).ms := by simp [State.tempTaken]
  rw [hms, State.doubled_setRefresh]
theorem State.events_tempTaken (s : State) (temp : Nat) (hstack : stack < 24) : (s.tempTaken stack temp).hubNat PWR_THERM_EVENTS =
    if 95 < temp ∧ stack ∉ s.pow.hotStacks then min 0xFFFFFFFF (s.hubNat PWR_THERM_EVENTS + 1) else s.hubNat PWR_THERM_EVENTS := by
  have hne := (stackStatus_ne hstack).2.symm
  have hreg : ((s.tempShown stack temp).setRefresh stack temp).hubNat PWR_THERM_EVENTS = s.hubNat PWR_THERM_EVENTS :=
    (State.hubNat_setRefresh_other _ _ _ hne).trans (State.hubNat_hubSetN_other _ _ _ _ hne)
  have hpow : ((s.tempShown stack temp).setRefresh stack temp).pow = s.pow := rfl
  rw [State.tempTaken, State.hubNat_congr (State.hub_monitor ..), State.events_stackThermal, hreg, hpow]

/-- The trip is noted before it is reported. -/
def State.tripped (s : State) : State := { s with boot := { s.boot with thermTripAt := some s.time } }
theorem State.thermalTrip_eq (s : State) (kind p : Nat) :
    s.thermalTrip (s.physId kind p) = s.tripped.report (hubReport cThermalTrip .ft 0x0F (s.tripped.physId kind p) 0) := rfl

/-! ### Lines -/

section
variable (hg : t.hubNat MCT_GLOBAL_UNITS = s.hubNat MCT_GLOBAL_UNITS) (hu : t.hubNat MCT_STACK_UNITS = s.hubNat MCT_STACK_UNITS)
include hg hu

theorem State.hbmPlace_of_units (lpa : Nat) : t.hbmPlace lpa = s.hbmPlace lpa := by
  unfold State.hbmPlace
  rw [hg, hu]
theorem State.capBase_of_units {n : Nat} (hfn : t.fn n = s.fn n) : t.capBase n = s.capBase n := by
  unfold State.capBase
  rw [hg, hu, hfn]
theorem State.holder_of_units (hfns : t.fns = s.fns) (lpa : Nat) : t.holder lpa = s.holder lpa := by
  have hbase n : t.capBase n = s.capBase n := State.capBase_of_units hg hu (State.fn_congr hfns n)
  have hsize n : t.capSize n = s.capSize n := by rw [State.capSize, State.fnNat, State.fn_congr hfns, State.capSize, State.fnNat]
  have hpads : t.paddocks = s.paddocks := by rw [State.paddocks, hfns, State.paddocks]
  simp only [State.holder, hpads, hbase, hsize]
/-- What a report of a line reads. -/
theorem State.lineReport_congr (hfns : t.fns = s.fns) (hnoc : t.noc = s.noc) (cause : Nat) (cls : FaultClass) (lpa initiator access : Nat) :
    t.lineReport cause cls lpa initiator access = s.lineReport cause cls lpa initiator access := by
  have hstack : t.stackOf lpa = s.stackOf lpa := by rw [State.stackOf, State.hbmPlace_of_units hg hu, State.stackOf]
  have hphys p : t.physId kStack p = s.physId kStack p := by rw [State.physId, State.epochOf, hnoc, State.physId, State.epochOf]
  unfold State.lineReport
  rw [hstack, hphys, State.holder_of_units hg hu hfns]

end

theorem lineOf_mul (line : Nat) : lineOf (line * 64) = line := Nat.mul_div_cancel _ (by decide)
theorem State.mem_poison_spoil (s : State) (lpa : Nat) : lineOf lpa ∈ (s.spoil lpa).poison := by
  have hpoison : (s.spoil lpa).poison = (s.poisonLine (lineOf lpa)).poison := by simp [State.spoil]
  rw [hpoison, State.poisonLine]
  split
  · next h => exact List.contains_iff_mem.mp h
  · exact List.mem_append_right _ (List.mem_singleton_self _)

section
variable {line : Nat} (hup : s.up = true) (hlt : line * 64 < hbmTop) (hvac : s.vacant kStack (s.stackOf (line * 64)) = false)
include hup hlt hvac

theorem exec_patrolScrubRead (r : EccResult) : exec (.patrolScrubRead line r) s = .next (s.lineError (line * 64) 0 1 r) :=
  congrArg Host.Outcome.next (if_pos (by simp [hup, hlt, hvac]))
theorem exec_patrolScrubRead_corrected : exec (.patrolScrubRead line .corrected) s = .next
    ((s.hubCount MCT_CE_COUNT 1).report ((s.hubCount MCT_CE_COUNT 1).lineReport cHbmCe .ce (line * 64) 0 1)) := by
  rw [exec_patrolScrubRead hup hlt hvac, State.lineReport_congr (s := s) (s.hubNat_hubCount_other 1 (by decide))
    (s.hubNat_hubCount_other 1 (by decide)) (by simp) (by simp)]
  rfl
theorem exec_patrolScrubRead_poisoned (h : line ∈ s.poison) : exec (.patrolScrubRead line .uncorrectable) s = .next s := by
  rw [exec_patrolScrubRead hup hlt hvac]
  exact congrArg Host.Outcome.next (if_pos (by rwa [lineOf_mul, List.contains_iff_mem]))
theorem exec_patrolScrubRead_lost (h : line ∉ s.poison) (hp : s.pastureLine (line * 64) = none) :
    exec (.patrolScrubRead line .uncorrectable) s = .next (((s.spoil (line * 64)).report
      ((s.spoil (line * 64)).lineReport cHbmUe .uc (line * 64) 0 1)).countUe (s.stackOf (line * 64))) := by
  rw [exec_patrolScrubRead hup hlt hvac, State.lineReport_congr (s := s) (State.hubNat_congr (by simp) _)
    (State.hubNat_congr (by simp) _) (by simp) (by simp)]
  refine congrArg Host.Outcome.next ((if_neg (by rwa [lineOf_mul, List.contains_iff_mem])).trans ?_)
  simp only [hp]

end

/-! ### Twins -/

theorem exec_pastureRebuildDone {g : Nat} (hrun : s.running = true) (hlost : s.ms.pastureLost = [g])
    (hg : fieldOf (s.hubNat MCT_TWIN_STATUS) 4 4 = g) (ht : s.hubNat MCT_TWIN_STATUS % 4 ≠ 0)
    (hsize : fieldOf (s.hubNat MCT_PASTURE_CFG) 16 16 ≠ 0) : exec .pastureRebuildDone s =
      .next (s.hubSetN MCT_TWIN_STATUS (withField (withField (s.hubNat MCT_TWIN_STATUS) 4 4
        (fieldOf (s.hubNat MCT_PASTURE_CFG) 8 4)) 0 2 0)).recomputeAdmitted := by
  refine congrArg Host.Outcome.next ((if_neg (by simp [hrun, ht, hsize])).trans ?_)
  simp [hlost, hg]
theorem exec_journalRebuildDone {n : Nat} (hrun : s.running = true) (htmpl : (s.fn n).tmpl ≠ []) (hstandby : s.vacant kStack (s.fn n).standby = false)
    (hj : s.fnNat n JRN_STATUS % 4 ≠ 0) (hvac : s.vacant kStack (fieldOf (s.fnNat n JRN_STATUS) 8 8) = true) : exec (.journalRebuildDone n) s =
      .next (s.fnSetN n JRN_STATUS (withField (withField (s.fnNat n JRN_STATUS) 8 8 (s.fn n).standby) 0 2 0)).recomputeAdmitted :=
  congrArg Host.Outcome.next ((if_neg (by simp [hrun, hj, htmpl, hstandby])).trans (if_pos hvac))

/-- A copy's field replaced, and the status TWINNED: what the word then shows. -/
theorem twinned_fields (v : Nat) {lo w : Nat} (x : Nat) (hlo : 2 ≤ lo) (h : lo + w ≤ 64) :
    withField (withField v lo w x) 0 2 0 % 2 ^ 64 % 4 = 0 ∧ fieldOf (withField (withField v lo w x) 0 2 0 % 2 ^ 64) lo w = x % 2 ^ w ∧
    ∀ lo' w', lo' + w' ≤ 64 → lo + w ≤ lo' → fieldOf (withField (withField v lo w x) 0 2 0 % 2 ^ 64) lo' w' = fieldOf v lo' w' := by
  refine ⟨?_, ?_, fun lo' w' h' hd => ?_⟩
  · have h0 := fieldOf_withField_mod (withField v lo w x) (lo := 0) (w := 2) 0 (by decide)
    rw [fieldOf_zero] at h0
    exact h0
  · rw [fieldOf_withField_other _ _ h (.inr (by omega)), ← fieldOf_mod_64 _ h, fieldOf_withField_mod _ _ h]
  · rw [fieldOf_withField_other _ _ h' (.inr (by omega)), ← fieldOf_mod_64 _ h', fieldOf_withField_other _ _ h' (.inr hd)]

/-! ### Margins -/

theorem State.marginRequest_start {v : Nat} (hstart : bitOf v 31 = true) (hpc : v % 2 ^ 11 < 1536) : s.marginRequest v =
    { (s.hubSetN MCT_MARGIN_SEL (v % 2 ^ 11)).hubSetN MCT_MARGIN_RESULT 0 with ms := { s.ms with margin := some (v % 2 ^ 11) } } :=
  if_pos (by simp only [hstart, Bool.true_and, decide_eq_true_eq]; exact hpc)
theorem State.marginRequest_keep {v : Nat} (hstart : bitOf v 31 = false) : s.marginRequest v = s.hubSetN MCT_MARGIN_SEL (v % 2 ^ 11) :=
  if_neg (by simp [hstart])
theorem State.sel_marginRequest (s : State) (v : Nat) : (s.marginRequest v).hubNat MCT_MARGIN_SEL = v % 2 ^ 11 := by
  have hsel : (s.hubSetN MCT_MARGIN_SEL (v % 2 ^ 11)).hubNat MCT_MARGIN_SEL = v % 2 ^ 11 := by
    rw [State.hubNat_hubSetN_self]
    omega
  unfold State.marginRequest
  dsimp only
  split
  · refine Eq.trans (State.hubNat_congr rfl _) ((State.hubNat_hubSetN_other _ _ _ _ ?_).trans hsel)
    decide
  · exact hsel

/-- The result of a margin request, which is over. -/
def State.marginShown (s : State) (r w f : BitVec 8) : State :=
  { s.hubSetN MCT_MARGIN_RESULT (2 ^ 31 + r.toNat * 65536 + w.toNat * 256 + f.toNat) with ms := { s.ms with margin := none } }
theorem exec_marginResult (r w f : BitVec 8) {p : Nat} (h : s.ms.margin = some p) : exec (.marginResult r w f) s = .next (s.marginShown r w f) := by
  refine congrArg Host.Outcome.next ?_
  simp only [h, State.marginShown]
theorem State.shown_marginShown (s : State) (r w f : BitVec 8) :
    (s.marginShown r w f).hubNat MCT_MARGIN_RESULT = 2 ^ 31 + r.toNat * 65536 + w.toNat * 256 + f.toNat := by
  have hr := r.isLt
  have hw := w.isLt
  have hf := f.isLt
  have hhub : (s.marginShown r w f).hub = (s.hubSetN MCT_MARGIN_RESULT (2 ^ 31 + r.toNat * 65536 + w.toNat * 256 + f.toNat)).hub := rfl
  rw [State.hubNat_congr hhub, State.hubNat_hubSetN_self]
  omega

end

/-- Settles O44: the controllers note, report and repair what R75 and R284 to R315 say. -/
theorem memoryControllers : Obligations.MemoryControllers := by
  refine ⟨fun s stack temp hup hstack hvac => ⟨fun ht => ⟨s.tempTaken stack temp, ?_, ?_, ?_, ?_, by simp [State.tempTaken, State.tempShown],
        by simp [State.tempTaken, State.tempShown], s.events_tempTaken temp hstack⟩,
      fun ht => ⟨(s.tempTaken stack temp).tripped, ?_, ?_, ?_, ?_⟩, fun count => ⟨_, congrArg Host.Outcome.next (if_pos (by simp [hup, hstack, hvac])),
        SMap.get_set_self .., rfl, rfl⟩, congrArg Host.Outcome.next (if_pos (by simp [hup, hstack, hvac])),
      congrArg Host.Outcome.next (if_pos (by simp [hup, hstack])), fun hf => congrArg Host.Outcome.next ((if_pos (by simp [hup, hstack])).trans
        (if_pos hf))⟩,
    fun s e hup he => ⟨_, _, congrArg Host.Outcome.next (if_pos (by simp [hup, he])), SMap.find_set_self .., rfl, rfl, rfl,
      Nat.sub_add_cancel (Nat.min_le_left ..), rfl, rfl⟩,
    fun s line hup hlt hvac => ⟨exec_patrolScrubRead hup hlt hvac .clean, ⟨_, exec_patrolScrubRead_corrected hup hlt hvac,
        s.hubNat_hubCount_self _ _, rfl, rfl, rfl⟩, exec_patrolScrubRead_poisoned hup hlt hvac,
      fun h hp => ⟨_, exec_patrolScrubRead_lost hup hlt hvac h hp, ?_, by simp, by simp, by simp⟩⟩,
    fun s g hrun hlost hg ht hsize => ⟨_, exec_pastureRebuildDone hrun hlost hg ht hsize, ?_⟩,
    fun s n hrun htmpl hstandby hj hvac => ⟨_, exec_journalRebuildDone hrun htmpl hstandby hj hvac, ?_⟩,
    fun s n ht hj => ⟨congrArg Host.Outcome.next (if_pos (by simp [ht])), congrArg Host.Outcome.next (if_pos (by simp [hj]))⟩,
    fun s v hup => ⟨s.marginRequest v.toNat, congrArg Host.Outcome.next (if_pos hup), ?_, fun hstart hpc => ?_, fun hstart => ?_⟩,
    fun s r w f => ⟨fun h => ?_, fun h => ?_⟩⟩
  · rw [exec_hbmTempPoll hup hstack hvac, if_neg (by omega)]
  · rw [s.status_tempTaken temp hstack, fieldOf_withField_other _ _ (by decide) (.inr (by decide)), fieldOf_withField_self _ (by decide) (by omega)]
  · rw [s.doubled_tempTaken, State.refreshOn_iff]
    rfl
  · have hb : (s.tempTaken stack temp).ms.doubled.contains stack = (s.tempShown stack temp).refreshOn stack temp := by
      rw [Bool.eq_iff_iff, List.contains_iff_mem, s.doubled_tempTaken]
    rw [s.status_tempTaken temp hstack, hb, fieldOf_withField_self _ (by decide)]
    cases (s.tempShown stack temp).refreshOn stack temp <;> decide
  · rw [exec_hbmTempPoll hup hstack hvac, if_pos ht, State.thermalTrip_eq]
  · exact congrArg some (by simp [State.tempTaken, State.tempShown])
  · exact (s.doubled_tempTaken stack temp).mpr ((State.refreshOn_iff ..).mpr (.inl (by omega)))
  · exact (by simp [State.tempTaken, State.tempShown] : (s.tempTaken stack temp).mem = s.mem)
  · have hmem := s.mem_poison_spoil (line * 64)
    rwa [lineOf_mul] at hmem
  · obtain ⟨hst, hnew, hkeep⟩ := twinned_fields (s.hubNat MCT_TWIN_STATUS) (lo := 4) (w := 4) (fieldOf (s.hubNat MCT_PASTURE_CFG) 8 4)
      (by decide) (by decide)
    rw [State.hubNat_hubSetN_self]
    exact ⟨hst, by simp, by simp, hnew.trans (Nat.mod_eq_of_lt (fieldOf_lt ..)), hkeep 8 4 (by decide) (by decide)⟩
  · obtain ⟨hst, hnew, hkeep⟩ := twinned_fields (s.fnNat n JRN_STATUS) (lo := 8) (w := 8) (s.fn n).standby (by decide) (by decide)
    have hreg : (s.fnSetN n JRN_STATUS (withField (withField (s.fnNat n JRN_STATUS) 8 8 (s.fn n).standby) 0 2 0)).fnNat n JRN_STATUS =
        withField (withField (s.fnNat n JRN_STATUS) 8 8 (s.fn n).standby) 0 2 0 % 2 ^ 64 := by
      rw [State.fnNat, State.fnSetN, State.fn_modFn_self, Fn.nat_putN_self]
    rw [hreg]
    refine ⟨hst, hnew, hkeep 16 8 (by decide) (by decide), ?_, by simp⟩
    rw [State.fnSetN, State.fn_modFn_self]
    rfl
  · rw [State.sel_marginRequest]
  · rw [State.marginRequest_start hstart hpc]
    exact ⟨rfl, (State.hubNat_congr rfl _).trans (State.hubNat_hubSetN_self ..)⟩
  · rw [State.marginRequest_keep hstart]
    exact ⟨rfl, State.hubGet_hubSet_other _ _ _ _ (by decide)⟩
  · refine congrArg Host.Outcome.next ?_
    simp only [h]
  · obtain ⟨p, hp⟩ := Option.ne_none_iff_exists'.mp h
    exact ⟨s.marginShown r w f, exec_marginResult r w f hp, rfl, s.shown_marginShown r w f⟩

end Sys2Proof.Machine
end

section
/-! SUPPORT. Messages of the torus: delivery, resending, forwarding and link states (R474, R486 to R496). -/

namespace Sys2Proof.Machine
open Sys2Proof Sys2Proof.Claims

/-! ### What a route depends on -/

section
variable {s t : State}

/-- States with the same torus nodes, node, port settings and port states, which is all that routes read. -/
structure State.SameRoutes (s t : State) : Prop where
  nodes : t.torus.nodes = s.torus.nodes
  node : t.hubNat LNK_NODE = s.hubNat LNK_NODE
  cfg : ∀ p, p < 16 → t.portCfg p = s.portCfg p
  state : ∀ p, p < 16 → t.portState p = s.portState p

namespace State.SameRoutes
variable (h : s.SameRoutes t)
include h

theorem nodeId : t.nodeId = s.nodeId := by rw [State.nodeId, h.node, State.nodeId]
theorem torusSize (d : Nat) : t.torusSize d = s.torusSize d := by rw [State.torusSize, h.node, State.torusSize]
theorem dirPorts (dir : Nat) : t.dirPorts dir = s.dirPorts dir := by
  refine List.filter_congr fun p hp => ?_
  rw [h.cfg p (List.mem_range.mp hp), h.state p (List.mem_range.mp hp)]
theorem ownDirs : t.ownDirs = s.ownDirs := by
  unfold State.ownDirs
  simp only [h.dirPorts]
theorem linkUp (node dir : Nat) : t.linkUp node dir = s.linkUp node dir := by
  unfold State.linkUp
  rw [h.nodeId, h.ownDirs, h.nodes]
theorem neighbour (n d : Nat) (neg : Bool) : t.neighbour n d neg = s.neighbour n d neg := by
  unfold State.neighbour
  rw [h.torusSize]
theorem segmentUp (n d : Nat) (neg : Bool) (hops : Nat) : t.segmentUp n d neg hops = s.segmentUp n d neg hops := by
  induction hops generalizing n with
  | zero => rfl
  | succ k ih => rw [State.segmentUp, State.segmentUp, h.linkUp, h.neighbour, ih]
theorem chooseDir (n dst d : Nat) : t.chooseDir n dst d = s.chooseDir n dst d := by
  unfold State.chooseDir
  simp only [h.torusSize, h.segmentUp]
theorem route (src dst : Nat) : t.route src dst = s.route src dst := by
  unfold State.route
  simp only [h.chooseDir]
theorem nextDir (dst hop : Nat) : t.nextDir dst hop = s.nextDir dst hop := by
  unfold State.nextDir
  rw [h.nodeId]
theorem pickPort (dir src dst : Nat) : t.pickPort dir src dst = s.pickPort dir src dst := by
  unfold State.pickPort
  rw [h.dirPorts]
theorem expressPort (dst : Nat) : t.expressPort dst = s.expressPort dst := by
  refine List.find?_congr fun p hp => ?_
  rw [h.cfg p (List.mem_range.mp hp), h.state p (List.mem_range.mp hp)]
theorem egress (dst : Nat) : t.egress dst = s.egress dst := by
  unfold State.egress
  simp only [h.expressPort, h.nodeId, h.route, h.nextDir, h.pickPort]

end State.SameRoutes

/-- Counting at a register beyond the ports' settings and states leaves routes alone. -/
theorem State.sameRoutes_hubCount (s : State) (n : Nat) {off : Nat} (h : LNK_PORT_LANES ≤ off) : s.SameRoutes (s.hubCount off n) := by
  simp only [LNK_PORT_LANES] at h
  refine ⟨rfl, State.hubNat_hubCount_other _ _ (by simp only [LNK_NODE]; omega), fun p hp => State.hubNat_hubCount_other _ _ (by
    simp only [LNK_PORT_CFG]
    omega), fun p hp => ?_⟩
  rw [State.portState, State.hubNat_hubCount_other _ _ (by simp only [LNK_PORT_STATUS]; omega), State.portState]
theorem State.sameRoutes_congr (hhub : t.hub = s.hub) (hnodes : t.torus.nodes = s.torus.nodes) : s.SameRoutes t :=
  ⟨hnodes, State.hubNat_congr hhub _, fun _ _ => State.hubNat_congr hhub _,
    fun p _ => congrArg (fieldOf · 28 4) (State.hubNat_congr hhub (LNK_PORT_STATUS + 4 * p))⟩
theorem State.SameRoutes.trans {u : State} (h : s.SameRoutes t) (h' : t.SameRoutes u) : s.SameRoutes u :=
  ⟨h'.nodes.trans h.nodes, h'.node.trans h.node, fun p hp => (h'.cfg p hp).trans (h.cfg p hp), fun p hp => (h'.state p hp).trans (h.state p hp)⟩

/-! ### Putting a message on a port -/

theorem State.hubNat_putLfl (s : State) (p : Nat) (m : LflMsg) {off : Nat} (h : off ≠ TLY_COUNT + 8 * 0x14) :
    (s.putLfl p m).hubNat off = s.hubNat off := (State.hubNat_tallyM_other _ _ h).trans (State.hubNat_congr rfl off)
theorem State.torus_putLfl (s : State) (p : Nat) (m : LflMsg) : (s.putLfl p m).torus = s.torus := by simp
theorem State.tx_putLfl (s : State) (p : Nat) (m : LflMsg) : (s.putLfl p m).tx = s.tx ++ [.lfl p m] := rfl

/-! ### Delivery -/

theorem exec_lfl {m : LflMsg} {c : Instr} {op : Nat} (h : (c, op) ∈ [(Instr.collectData m, opCollectData), (.hurdleArrive m, opHurdleArrive),
    (.lstate m, opLstate), (.collectResult m, opCollectResult), (.hurdleOpen m, opHurdleOpen), (.e2eAck m, opE2eAck)]) (s : State) :
    exec c s = .next (if s.linksUp then s.deliverLfl { m with op := op } else s) := by
  simp only [List.mem_cons, Prod.mk.injEq, List.not_mem_nil, or_false] at h
  rcases h with ⟨rfl, rfl⟩ | ⟨rfl, rfl⟩ | ⟨rfl, rfl⟩ | ⟨rfl, rfl⟩ | ⟨rfl, rfl⟩ | ⟨rfl, rfl⟩ <;> rfl

theorem State.deliverLfl_bad {m : LflMsg} (h : m.crcOk = false ∨ m.reservedOk = false ∨ m.dst ≠ s.nodeId) : s.deliverLfl m = s :=
  if_pos (by rcases h with h | h | h <;> simp [h])

section
variable {m : LflMsg} (hcrc : m.crcOk = true) (hres : m.reservedOk = true) (hdst : m.dst = s.nodeId)
include hcrc hres hdst

theorem State.deliverLfl_good : s.deliverLfl m =
    if m.op = opE2eAck then s.acked m else if m.op = opLstate then s.linkState m else s.deliver m :=
  if_neg (by simp [hcrc, hres, hdst])
theorem State.deliverLfl_ack (hop : m.op = opE2eAck) : s.deliverLfl m = s.acked m := by
  rw [State.deliverLfl_good hcrc hres hdst, if_pos hop]
theorem State.deliverLfl_lstate (hop : m.op = opLstate) : s.deliverLfl m = s.linkState m := by
  rw [State.deliverLfl_good hcrc hres hdst, if_neg (by rw [hop]; decide), if_pos hop]
theorem State.deliverLfl_other (ha : m.op ≠ opE2eAck) (hl : m.op ≠ opLstate) : s.deliverLfl m = s.deliver m := by
  rw [State.deliverLfl_good hcrc hres hdst, if_neg ha, if_neg hl]

end

theorem State.mem_kept_acked (s : State) (m : LflMsg) (k : Kept) : k ∈ (s.acked m).torus.kept ↔ k ∈ s.torus.kept ∧
    ¬(k.msg.dst = m.src ∧ msgClass k.msg.op = m.rank ∧ (m.e2eSeq + 2 ^ 32 - k.msg.e2eSeq) % 2 ^ 32 < 2 ^ 31) := by
  refine List.mem_filter.trans (and_congr_right fun _ => ?_)
  rw [Bool.not_eq_true', ← Bool.not_eq_true, Bool.and_eq_true, Bool.and_eq_true, decide_eq_true_eq, decide_eq_true_eq, decide_eq_true_eq, and_assoc]

/-! ### Link states -/

/-- The link state of a node is kept, and routes follow it. -/
def State.nodeKept (s : State) (n : Nat) (x : NodeState) : State := (s.modTorus (fun t => { t with nodes := t.nodes.set n x })).noteRoutes

theorem State.nodes_noteBellwether (s : State) : s.noteBellwether.torus.nodes = s.torus.nodes := by
  unfold State.noteBellwether
  split <;> rfl
theorem State.nodes_noteRoutes (s : State) : s.noteRoutes.torus.nodes = s.torus.nodes := by
  have htorus : (s.hubCount LNK_ROUTE_CHANGES 1).noteReach.torus = s.torus := by simp
  rw [State.noteRoutes, State.nodes_noteBellwether, htorus]
theorem State.nodes_nodeKept (s : State) (n : Nat) (x : NodeState) : (s.nodeKept n x).torus.nodes.find n = some x := by
  rw [State.nodeKept, State.nodes_noteRoutes]
  exact SMap.find_set_self ..

theorem State.linkState_new {m : LflMsg} (hsrc : m.src ≠ s.nodeId) (hnew : s.torus.nodes.find m.src = none) : s.linkState m =
    (s.nodeKept m.src ⟨fieldAt m.payload 0 1 % 64, bitOf (fieldAt m.payload 0 1) 6, fieldAt m.payload 1 4⟩).floodState m.src
      (fieldAt m.payload 0 1 % 64) (fieldAt m.payload 1 4) (bitOf (fieldAt m.payload 0 1) 6) (some m.port) :=
  if_neg (by simp [hsrc, hnew])

/-! ### Resending -/

/-- The message that an acknowledgement of this destination, class and sequence number would free. -/
def State.keptFor (s : State) (dst cls seq : Nat) : Option Kept :=
  s.torus.kept.find? (fun k => k.msg.dst = dst && msgClass k.msg.op = cls && k.msg.e2eSeq = seq)

/-- A message is sent again, once more and now. -/
def Kept.again (k : Kept) (now : Nat) : Kept := { k with resends := k.resends + 1, sentAt := now }
/-- The message is counted as sent again. -/
def State.resendNoted (s : State) (k : Kept) : State :=
  (s.modTorus (fun t => { t with kept := t.kept.map (fun x => if x == k then k.again s.time else x) })).hubCount LNK_E2E_RETRANSMITS 1
theorem State.sameRoutes_resendNoted (s : State) (k : Kept) : s.SameRoutes (s.resendNoted k) :=
  State.SameRoutes.trans
    (t := s.modTorus (fun t => { t with kept := t.kept.map (fun x => if x == k then k.again s.time else x) }))
    (State.sameRoutes_congr rfl rfl) (State.sameRoutes_hubCount _ 1 (off := LNK_E2E_RETRANSMITS) (by decide))
theorem State.hubNat_resendNoted (s : State) (k : Kept) :
    (s.resendNoted k).hubNat LNK_E2E_RETRANSMITS = min 0xFFFFFFFF (s.hubNat LNK_E2E_RETRANSMITS + 1) := by
  rw [State.resendNoted, State.hubNat_hubCount_self, State.hubNat_congr (s := s) (by simp [State.modTorus])]

section
variable {dst cls seq : Nat} {k : Kept} (hup : s.linksUp = true) (hk : s.keptFor dst cls seq = some k)
include hup hk

theorem exec_e2eResend_early (ht : s.time < k.sentAt + 50000) : exec (.e2eResend dst cls seq) s = .next s := by
  unfold State.keptFor at hk
  refine congrArg Host.Outcome.next ((if_neg (by simp [hup])).trans ?_)
  simp only [hk]
  exact if_pos ht
theorem exec_e2eResend_dropped (ht : k.sentAt + 50000 ≤ s.time) (hr : 8 ≤ k.resends) :
    exec (.e2eResend dst cls seq) s = .next { s with torus := { s.torus with kept := s.torus.kept.erase k } } := by
  unfold State.keptFor at hk
  refine congrArg Host.Outcome.next ((if_neg (by simp [hup])).trans ?_)
  simp only [hk]
  exact (if_neg (by omega)).trans (if_pos hr)
theorem exec_e2eResend_sent {p hop : Nat} (ht : k.sentAt + 50000 ≤ s.time) (hr : k.resends < 8) (he : s.egress dst = some (p, hop)) :
    exec (.e2eResend dst cls seq) s = .next ((s.resendNoted k).putLfl p { k.msg with hop := hop, port := p }) := by
  have hegress : (s.resendNoted k).egress dst = some (p, hop) := ((s.sameRoutes_resendNoted k).egress dst).trans he
  unfold State.keptFor at hk
  refine congrArg Host.Outcome.next ((if_neg (by simp [hup])).trans ?_)
  simp only [hk]
  refine (if_neg (by omega)).trans ((if_neg (by omega)).trans ?_)
  unfold State.resendNoted Kept.again at hegress ⊢
  simp only [hegress]

end

theorem State.tx_resendNoted (s : State) (k : Kept) : (s.resendNoted k).tx = s.tx := by simp [State.resendNoted, State.modTorus]
theorem exec_e2eResend_none {dst cls seq : Nat} (hk : s.keptFor dst cls seq = none) : exec (.e2eResend dst cls seq) s = .next s := by
  unfold State.keptFor at hk
  refine congrArg Host.Outcome.next ?_
  simp only [hk, ite_self]

theorem State.mem_kept_resendNoted {dst cls seq : Nat} {k : Kept} (hk : s.keptFor dst cls seq = some k) :
    k.again s.time ∈ (s.resendNoted k).torus.kept :=
  List.mem_map.mpr ⟨k, List.mem_of_find?_eq_some hk, if_pos (beq_self_eq_true k)⟩

/-! ### Forwarding and flooding -/

/-- A message in transit is counted. -/
def State.forwarded (s : State) : State := (s.hubCount64 LNK_FORWARDED 1).tallyM 0x16 1
theorem exec_lflForward {m : LflMsg} {p : Nat} (hup : s.linksUp = true) (hdst : m.dst ≠ s.nodeId) (hrole : portRole (s.portCfg m.port) ≠ 7)
    (hc : s.carries m.port = true) (hp : s.pickPort (s.nextDir m.dst m.hop) m.src m.dst = some p) :
    exec (.lflForward m) s = .next (s.forwarded.putLfl p { m with port := p }) := by
  refine congrArg Host.Outcome.next ((if_neg (by simp [hup, hdst, hrole, hc])).trans ?_)
  simp only [hp, State.forwarded]
theorem exec_lflForward_ignored {m : LflMsg} (h : m.dst = s.nodeId ∨ portRole (s.portCfg m.port) = 7) : exec (.lflForward m) s = .next s :=
  congrArg Host.Outcome.next (if_pos (by rcases h with h | h <;> simp [h]))
theorem State.hubNat_forwarded (s : State) : s.forwarded.hubNat LNK_FORWARDED = min 0xFFFFFFFFFFFFFFFF (s.hubNat LNK_FORWARDED + 1) := by
  rw [State.forwarded, State.hubNat_tallyM_other _ _ (by decide), State.hubNat_hubCount64_self]

/-- The module's own link state has its next generation. -/
def State.genStepped (s : State) : State := { s with torus := { s.torus with gen := (s.torus.gen + 1) % 2 ^ 32 } }
theorem State.sameRoutes_genStepped (s : State) : s.SameRoutes s.genStepped := State.sameRoutes_congr rfl rfl
theorem exec_lstateTick_down (hdown : s.linksUp = false) : exec .lstateTick s = .next s :=
  congrArg Host.Outcome.next (if_pos (by simp [hdown]))
theorem exec_lstateTick (hup : s.linksUp = true) :
    exec .lstateTick s = .next (s.genStepped.floodState s.nodeId s.ownDirs ((s.torus.gen + 1) % 2 ^ 32) false none) := by
  rw [← s.sameRoutes_genStepped.nodeId, ← s.sameRoutes_genStepped.ownDirs]
  exact congrArg Host.Outcome.next (if_neg (by simp [hup]))

end

/-- Settles O49: each message of the torus is delivered, resent, forwarded or flooded as its state allows. -/
theorem torusMessages : Obligations.TorusMessages := by
  refine ⟨fun s m c op hc => ⟨fun hbad => ?_, fun hup hcrc hres hdst => ⟨fun hop => ⟨s.acked { m with op := op }, ?_, by simp, by simp,
        s.mem_kept_acked { m with op := op }⟩, fun hop => ?_, fun ha hl => ?_⟩⟩,
    fun s m hsrc hnew => ⟨_, State.linkState_new hsrc hnew, State.nodes_nodeKept .., by simp [State.nodeKept, State.modTorus]⟩,
    fun s dst cls seq hup => ⟨exec_e2eResend_none, fun k hk => ⟨exec_e2eResend_early hup hk, exec_e2eResend_dropped hup hk,
      fun p hop ht hr he => ⟨_, exec_e2eResend_sent hup hk ht hr he, ?_, ?_, ?_, by simp [State.resendNoted, State.modTorus]⟩⟩⟩,
    fun s m => ⟨exec_lflForward_ignored, fun p hup hdst hrole hc hp =>
      ⟨_, exec_lflForward hup hdst hrole hc hp, State.tx_putLfl .., by simp [State.forwarded], by simp [State.forwarded], ?_⟩⟩,
    fun s => ⟨exec_lstateTick_down,
      fun hup => ⟨s.genStepped, exec_lstateTick hup, rfl, rfl, rfl⟩⟩⟩
  · rw [exec_lfl hc]
    cases hup : s.linksUp
    · rfl
    · exact congrArg Host.Outcome.next (State.deliverLfl_bad (hbad.resolve_left (by simp [hup])))
  · rw [exec_lfl hc, if_pos hup, State.deliverLfl_ack (m := { m with op := op }) hcrc hres hdst hop]
  · rw [exec_lfl hc, if_pos hup, State.deliverLfl_lstate (m := { m with op := op }) hcrc hres hdst hop]
  · rw [exec_lfl hc, if_pos hup, State.deliverLfl_other (m := { m with op := op }) hcrc hres hdst ha hl]
  · rw [State.tx_putLfl, State.tx_resendNoted]
  · rw [State.torus_putLfl]
    exact State.mem_kept_resendNoted hk
  · rw [State.hubNat_putLfl _ _ _ (by decide), State.hubNat_resendNoted]
  · rw [State.hubNat_putLfl _ _ _ (by decide), State.hubNat_forwarded]

end Sys2Proof.Machine
end

section
/-! SUPPORT. The links of the torus: flits, NAKs, lanes, module time and FENCED (R466, R478 to R484, R497 to R499). -/

namespace Sys2Proof.Machine
open Sys2Proof Sys2Proof.Claims

section
variable {s : State} {p : Nat}

/-! ### Ports and their states -/

@[simp] theorem State.port_setPort (s : State) (p : Nat) (x : Port) : (s.setPort p x).port p = x := SMap.get_set_self ..
@[simp] theorem State.port_modPort (s : State) (p : Nat) (h : Port → Port) : (s.modPort p h).port p = h (s.port p) := SMap.get_set_self ..
theorem State.port_congr {s t : State} (h : t.ports = s.ports) (p : Nat) : t.port p = s.port p := congrArg (SMap.get Port.empty · p) h

theorem State.portState_congr {s t : State} (h : t.hub = s.hub) (p : Nat) : t.portState p = s.portState p :=
  congrArg (fieldOf · 28 4) (State.hubNat_congr h _)
/-- A register that is no port status may be written without a change of the port's state. -/
theorem State.portState_hubSetN_other (s : State) {off p : Nat} (v : Nat) (h : LNK_PORT_STATUS + 4 * p ≠ off) :
    (s.hubSetN off v).portState p = s.portState p := congrArg (fieldOf · 28 4) (State.hubNat_hubSetN_other _ _ _ _ h)
theorem State.portState_setPortState_self (s : State) (p : Nat) {st : Nat} (h : st < 16) : (s.setPortState p st).portState p = st := by
  unfold State.portState State.setPortState State.portField
  rw [State.hubNat_hubSetN_self]
  exact fieldOf_withField_self _ (by decide) h
theorem State.portState_setPortState_other (s : State) {p q : Nat} (st : Nat) (h : p ≠ q) : (s.setPortState q st).portState p = s.portState p :=
  State.portState_hubSetN_other _ _ (by omega)

/-- A port that is neither UP nor STANDBY is left alone where the pools are noted. -/
theorem State.portState_notePools {st : Nat} (hup : st ≠ psUp) (hsb : st ≠ psStandby) (h : s.portState p = st) : s.notePools.portState p = st := by
  unfold State.notePools
  refine List.foldlRecOn (motive := fun (t : State) => t.portState p = st) _ _ h fun t ht q _ => ?_
  dsimp only
  split
  · next hq =>
    have hne : p ≠ q := by
      rintro rfl
      simp [ht, hup, hsb] at hq
    rw [State.portState_setPortState_other _ _ hne, ht]
  · exact ht
theorem State.portState_noteReach (s : State) (hp : p < 16) : s.noteReach.portState p = s.portState p := by
  unfold State.noteReach
  refine List.foldlRecOn (motive := fun (t : State) => t.portState p = s.portState p) _ _ rfl fun t ht w hw => ?_
  have hw := List.mem_range.mp hw
  exact (State.portState_hubSetN_other _ _ (by simp only [LNK_PORT_STATUS, LNK_REACH]; omega)).trans ht
theorem State.portState_noteBellwether (s : State) (p : Nat) : s.noteBellwether.portState p = s.portState p := by
  unfold State.noteBellwether
  split
  · exact State.portState_hubSetN_other _ _ (by simp only [LNK_PORT_STATUS, LNK_TIME_STATUS]; omega)
  · rfl
theorem State.portState_noteRoutes (s : State) (hp : p < 16) : s.noteRoutes.portState p = s.portState p := by
  rw [State.noteRoutes, State.portState_noteBellwether, State.portState_noteReach _ hp]
  exact State.portState_hubSetN_other _ _ (by simp only [LNK_PORT_STATUS, LNK_ROUTE_CHANGES]; omega)
theorem State.portState_floodState (s : State) (node dirs gen : Nat) (fenced : Bool) (ex : Option Nat) (hp : p < 16) :
    (s.floodState node dirs gen fenced ex).portState p = s.portState p := by
  unfold State.floodState
  split
  · rfl
  · have hoff : LNK_PORT_STATUS + 4 * p ≠ TLY_COUNT + 8 * 0x14 := by simp only [LNK_PORT_STATUS, TLY_COUNT]; omega
    refine foldl_keep (State.portState · p) _ _ _ fun t q => ?_
    split
    · exact congrArg (fieldOf · 28 4) (State.hubNat_putLfl _ _ _ hoff)
    · rfl
theorem State.nodes_floodState (s : State) (node dirs gen : Nat) (fenced : Bool) (ex : Option Nat) :
    (s.floodState node dirs gen fenced ex).torus = s.torus := by simp

/-- The module's own link state has its next generation once the pools are noted. -/
def State.poolsNoted (s : State) : State := s.notePools.modTorus (fun t => { t with gen := (t.gen + 1) % 2 ^ 32 })
theorem State.portsChanged_eq (s : State) : s.portsChanged =
    s.poolsNoted.noteRoutes.floodState s.poolsNoted.nodeId s.poolsNoted.ownDirs s.poolsNoted.torus.gen false none := rfl

/-- A state that is neither UP nor STANDBY is the port's state once it has entered it. -/
theorem State.portState_enterState (s : State) (hp : p < 16) {st : Nat} (hst : st < 16) (hup : st ≠ psUp) (hsb : st ≠ psStandby) :
    (s.enterState p st).portState p = st := by
  have hraise : ((s.setPortState p st).raiseInt intPort).portState p = st :=
    (congrArg (fieldOf · 28 4) (State.hubNat_raiseInt_other _ _ (by simp only [LNK_PORT_STATUS, PCE_INT_STATUS]; omega))).trans
      (State.portState_setPortState_self s p hst)
  rw [State.enterState, State.portsChanged_eq, State.portState_floodState _ _ _ _ _ _ hp, State.portState_noteRoutes _ hp]
  exact State.portState_notePools hup hsb hraise
theorem State.nodes_enterState (s : State) (p st : Nat) : (s.enterState p st).torus.nodes = s.torus.nodes := by
  rw [State.enterState, State.portsChanged_eq, State.nodes_floodState, State.nodes_noteRoutes]
  simp [State.poolsNoted, State.modTorus]

end

/-! ### Flits and NAKs -/

section
variable {s : State} {p : Nat} (hup : s.linksUp = true) (hp : p < 16) (hc : s.carries p = true)

/-- The codewords of a flit are counted. -/
def State.codewords (s : State) (p : Nat) (f : LflFlit) : State := s.hubCount64 (LNK_FEC_CORRECTED + 0x20 * p) f.corrected
/-- A flit in sequence with a good tag is taken. -/
def Port.takeFlit (x : Port) (f : LflFlit) : Port :=
  ({ x with rxNext := (x.rxNext + 1) % 65536, authFailed := false, naks := 0 } : Port).ack f.ack
/-- A flit whose tag fails is counted. -/
def State.tagFailed (s : State) (p : Nat) (f : LflFlit) : State := (s.codewords p f).hubCount (LNK_AUTH_FAILS + 0x20 * p) 1

theorem State.port_codewords (s : State) (p : Nat) (f : LflFlit) : (s.codewords p f).port p = s.port p := State.port_congr (by simp [State.codewords]) p
theorem State.port_tagFailed (s : State) (p : Nat) (f : LflFlit) : (s.tagFailed p f).port p = s.port p :=
  State.port_congr (by simp [State.tagFailed, State.codewords]) p

theorem State.tx_sendNak (s : State) (p : Nat) : (s.sendNak p).tx = s.tx ++ [.portCtl p 0x04 [(s.port p).rxNext]] := by
  have htx : (s.hubCount (LNK_RETRIES + 0x20 * p) 1).tx = s.tx := by simp
  have hport : (s.hubCount (LNK_RETRIES + 0x20 * p) 1).port p = s.port p := State.port_congr (by simp) p
  rw [← htx, ← hport]
  rfl
theorem State.hubNat_sendNak (s : State) {p off : Nat} (h : off ≠ LNK_RETRIES + 0x20 * p) : (s.sendNak p).hubNat off = s.hubNat off :=
  (State.hubNat_congr rfl off).trans (State.hubNat_hubCount_other _ _ h)

include hup

theorem exec_laneFault (lane : Nat) : exec (.laneFault p lane) s = .next (s.laneLost p lane cLaneReplaced) :=
  congrArg Host.Outcome.next (if_pos (by simp only [State.linksUp, Bool.and_eq_true] at hup; exact hup.1))

include hp hc

theorem exec_lflFlit_badCrc {f : LflFlit} (hcrc : f.crcOk = false) :
    exec (.lflFlit p f) s = .next (((s.codewords p f).hubCount (LNK_FEC_FAILED + 0x20 * p) 1).sendNak p) :=
  congrArg Host.Outcome.next ((if_neg (by simp [hup, hc, hp])).trans (if_pos (by simp [hcrc])))
theorem exec_lflFlit_outOfSequence {f : LflFlit} (hcrc : f.crcOk = true) (hseq : f.seq ≠ (s.port p).rxNext) :
    exec (.lflFlit p f) s = .next (s.codewords p f) := by
  rw [← s.port_codewords p f] at hseq
  exact congrArg Host.Outcome.next ((if_neg (by simp [hup, hc, hp])).trans ((if_neg (by simp [hcrc])).trans (if_pos hseq)))
theorem exec_lflFlit_badTag {f : LflFlit} (hcrc : f.crcOk = true) (hseq : f.seq = (s.port p).rxNext) (hauth : f.authOk = false) :
    exec (.lflFlit p f) s = .next (if (s.port p).authFailed then (s.tagFailed p f).authFail p
      else ((s.tagFailed p f).modPort p (fun x => { x with authFailed := true })).sendNak p) := by
  rw [← s.port_codewords p f] at hseq ⊢
  exact congrArg Host.Outcome.next ((if_neg (by simp [hup, hc, hp])).trans ((if_neg (by simp [hcrc])).trans
    ((if_neg (not_not.mpr hseq)).trans (if_pos (by simp [hauth])))))
theorem exec_lflFlit_taken {f : LflFlit} (hcrc : f.crcOk = true) (hseq : f.seq = (s.port p).rxNext) (hauth : f.authOk = true) :
    exec (.lflFlit p f) s = .next (f.msgs.foldl (fun (x : State) m => (x.tallyM 0x15 m.payload.length).deliverLfl { m with port := p })
      ((s.codewords p f).modPort p (Port.takeFlit · f))) := by
  rw [← s.port_codewords p f] at hseq
  exact congrArg Host.Outcome.next ((if_neg (by simp [hup, hc, hp])).trans ((if_neg (by simp [hcrc])).trans
    ((if_neg (not_not.mpr hseq)).trans (if_neg (by simp [hauth])))))

/-- NAKs in a row that name the same SEQ, with this one. -/
def Port.nakRun (x : Port) (seq : Nat) : Nat := if x.naks ≠ 0 && x.nakSeq = seq then x.naks + 1 else 1
theorem exec_nak (seq : Nat) : exec (.nak p seq) s = .next (if 16 ≤ (s.port p).nakRun seq then s.retrain p true
    else (s.setPort p { s.port p with naks := (s.port p).nakRun seq, nakSeq := seq }).sendAll
      (((s.port p).replay.filter (fun r => seqLe seq ((r.1 + r.2.1 + 65535) % 65536))).map (fun r => Tx.lfl p r.2.2))) :=
  congrArg Host.Outcome.next (if_neg (by simp [hup, hc, hp]))

/-! ### Lanes -/

theorem exec_width (lanes : Nat) : exec (.width p lanes) s = .next (s.setLanes p (lanesOfMask lanes)) :=
  congrArg Host.Outcome.next (if_pos (by simp [hup, hc, hp]))

end

theorem Port.nakRun_ge {x : Port} {seq : Nat} (h : x.nakSeq = seq) (hn : 15 ≤ x.naks) : 16 ≤ x.nakRun seq := by
  unfold Port.nakRun
  rw [if_pos (by simp [h]; omega)]
  omega
theorem Port.nakRun_lt {x : Port} {seq : Nat} (h : x.nakSeq ≠ seq ∨ x.naks < 15) : x.nakRun seq < 16 := by
  unfold Port.nakRun
  split
  · next hrun =>
    simp only [Bool.and_eq_true, decide_eq_true_eq] at hrun
    have := h.resolve_left (not_not.mpr hrun.2)
    omega
  · omega

section
variable {s : State} {p : Nat}

/-- The port's lanes are noted. -/
def State.lanesNoted (s : State) (p : Nat) (ls : List Nat) : State := (s.modPort p (fun x => { x with lanes := ls })).noteLanes p
theorem State.portCfg_lanesNoted (s : State) (ls : List Nat) : (s.lanesNoted p ls).portCfg p = s.portCfg p := by
  unfold State.lanesNoted State.noteLanes State.portField State.portCfg
  rw [State.hubNat_hubSetN_other _ _ _ _ (by simp only [LNK_PORT_CFG, LNK_PORT_STATUS]; omega),
    State.hubNat_hubSetN_other _ _ _ _ (by simp only [LNK_PORT_CFG, LNK_PORT_LANES]; omega)]
  exact State.hubNat_congr rfl _
/-- Enough lanes leave the port in service. -/
theorem State.setLanes_enough {ls : List Nat} (h : portWidthMin (s.portCfg p) ≤ ls.length) : s.setLanes p ls = s.lanesNoted p ls := by
  rw [← s.portCfg_lanesNoted ls] at h
  exact if_neg (Nat.not_lt.mpr h)
theorem State.ports_lanesNoted (s : State) (p : Nat) (ls : List Nat) : ((s.lanesNoted p ls).port p).lanes = ls := by
  rw [State.port_congr (s := s.modPort p (fun x => { x with lanes := ls })) (by simp [State.lanesNoted]) p, State.port_modPort]

theorem State.laneLost_of_notMem {lane cause : Nat} (h : lane ∉ (s.port p).lanes) : s.laneLost p lane cause = s := if_pos (by simp [h])

theorem State.noc_fenceLane {l q : Nat} (cause : Nat) (h : s.lanePhys p l = some q) : (s.fenceLane p l cause).noc =
    { s.noc with fenced := s.noc.fenced ++ [(kLane, q)], maps := s.noc.maps.set (kLane * 65536 + p * 16 + l) 0 } := by
  simp only [State.fenceLane, h]
  simp
/-- A logical lane that the map names has the physical lane it names. -/
theorem State.lanePhys_of_map {l v : Nat} (h : s.noc.maps.find (kLane * 65536 + p * 16 + l) = some v) :
    s.lanePhys p l = if v = 0 then none else some (v - 1) := by
  simp only [State.lanePhys, h]

/-- A spare takes the place of a lane. -/
def State.swapped (s : State) (p lane q : Nat) : State :=
  { s with noc := { s.noc with maps := s.noc.maps.set (kLane * 65536 + p * 16 + lane) (q + 1) } }
/-- The port counts the spare's lane among its lanes. -/
def State.swapWidened (s : State) (p lane : Nat) : State :=
  s.setLanes p ((List.range 16).filter (fun l => l = lane || (s.port p).lanes.contains l))
/-- A swap is counted, reported and told to the peer. -/
def State.swapReported (s : State) (p q : Nat) : State := (s.hubCount (LNK_LANE_SWAPS + 0x20 * p) 1).report
  (hubReport cLaneReplaced .ce 0x0B (p / 4 * 68 + q % 68) 0)
/-- The end of a swap that holds its slot. -/
def State.swapDone (s : State) (p lane q : Nat) : State :=
  let t := ((s.swapped p lane q).modPort p (fun x => { x with onSpare := x.onSpare })).swapWidened p lane
  (t.swapReported p q).send (.portCtl p 0x05 [laneMaskOf (t.port p).lanes])

theorem State.noc_swapDone (s : State) (p lane q : Nat) : (s.swapDone p lane q).noc = (s.swapped p lane q).noc := by
  simp [State.swapDone, State.swapReported, State.swapWidened]
theorem State.port_swapReported (s : State) (p q r : Nat) : (s.swapReported p q).port r = s.port r :=
  State.port_congr (by simp [State.swapReported]) r

theorem exec_laneSwapDone {lane q : Nat} {rest : List Nat} (hup : s.up = true) (hp : p < 16) (hc : s.carries p = true) (hl : lane < 16)
    (hout : lane ∉ (s.port p).lanes) (hphys : s.lanePhys p lane = none) (hspare : s.laneSpares (p / 4) = q :: rest) :
    exec (.laneSwapDone p lane true) s = .next (s.swapDone p lane q) := by
  refine congrArg Host.Outcome.next ((if_neg (by simp [hup, hp, hc, hl, hout, hphys])).trans ?_)
  simp only [hspare, List.head?_cons]
  refine (if_neg (by simp)).trans ?_
  rfl

end

/-! ### Module time -/

section
variable {s : State} {p : Nat}

/-- The parent of the exchange is shown and its request noted and sent. -/
def State.timeAsked (s : State) (p hop : Nat) : State :=
  ((s.hubSetN LNK_TIME_STATUS (withField (withField (s.hubNat LNK_TIME_STATUS) 26 4 p) 22 4
    (if hop = 8 then 1 else s.hopsTo s.bellwether hop))).modPort p (fun x => { x with timeT1 := s.time })).send (.portCtl p 0x06 [s.time])
theorem exec_timeExchangeTick {hop : Nat} (hup : s.linksUp = true) (hb : s.bellwether ≠ s.nodeId) (he : s.egress s.bellwether = some (p, hop)) :
    exec .timeExchangeTick s = .next (s.timeAsked p hop) := by
  refine congrArg Host.Outcome.next ((if_neg (by simp [hup, hb])).trans ?_)
  simp only [he] <;> rfl
theorem State.port_timeAsked (s : State) (p hop : Nat) : ((s.timeAsked p hop).port p).timeT1 = s.time := by
  exact congrArg Port.timeT1 (State.port_modPort (s.hubSetN LNK_TIME_STATUS (withField (withField (s.hubNat LNK_TIME_STATUS) 26 4 p) 22 4
    (if hop = 8 then 1 else s.hopsTo s.bellwether hop))) p (fun x => { x with timeT1 := s.time }))

/-- The offset of a response is shown, and the exchange valid. -/
def State.offsetShown (s : State) (th : Int) : State :=
  ((s.hubSet LNK_TIME_OFFSET (BitVec.ofInt 64 th)).modTorus (fun t => { t with syncAt := s.time })).hubSetN LNK_TIME_STATUS
    (withField (s.hubNat LNK_TIME_STATUS) 31 1 1)
theorem exec_timeResp (hup : s.linksUp = true) (hp : p < 16) (hc : s.carries p = true) (t2 t3 : W64) (hb : s.bellwether ≠ s.nodeId) :
    exec (.timeResp p t2 t3) s = .next ((s.offsetShown (timeTheta (s.port p).timeT1 t2.toNat t3.toNat s.time)).applyOffset
      (timeTheta (s.port p).timeT1 t2.toNat t3.toNat s.time) (s.torus.syncAt = 0)) := by
  have hstatus (th : Int) : ((s.hubSet LNK_TIME_OFFSET (BitVec.ofInt 64 th)).modTorus (fun t => { t with syncAt := s.time })).hubNat LNK_TIME_STATUS =
      s.hubNat LNK_TIME_STATUS := congrArg BitVec.toNat (State.hubGet_hubSet_other _ _ _ _ (by decide))
  unfold State.offsetShown
  rw [← hstatus]
  exact congrArg Host.Outcome.next (if_neg (by simp [hup, hp, hc, hb]))
theorem State.hubGet_offsetShown (s : State) (th : Int) : (s.offsetShown th).hubGet LNK_TIME_OFFSET = BitVec.ofInt 64 th :=
  (State.hubGet_hubSet_other _ _ _ _ (by decide)).trans (State.hubGet_hubSet_self ..)
theorem State.bitOf_offsetShown (s : State) (th : Int) : bitOf ((s.offsetShown th).hubNat LNK_TIME_STATUS) 31 = true :=
  (congrArg (bitOf · 31) (State.hubNat_hubSetN_self ..)).trans (bitOf_withField_self _ (by decide))

/-- Module time runs free. -/
def State.freeRunning (s : State) : State :=
  ({ s with pce := { s.pce with slew := 0 } } : State).hubSetN LNK_TIME_STATUS (withField (s.hubNat LNK_TIME_STATUS) 31 1 0)
theorem State.bitOf_freeRunning (s : State) : bitOf (s.freeRunning.hubNat LNK_TIME_STATUS) 31 = false :=
  (congrArg (bitOf · 31) (State.hubNat_hubSetN_self ..)).trans (bitOf_withField_self _ (by decide))
theorem exec_timeSyncLost (hup : s.up = true) (hb : s.bellwether ≠ s.nodeId) (hv : bitOf (s.hubNat LNK_TIME_STATUS) 31 = true)
    (ht : s.torus.syncAt + 10000000 ≤ s.time) : exec .timeSyncLost s = .next s.freeRunning :=
  congrArg Host.Outcome.next (if_pos (by simp [hup, hb, hv, ht]))

/-- The alternate acts as bellwether. -/
def State.alternateActs (s : State) : State :=
  s.hubSetN LNK_TIME_STATUS (if fieldOf (s.hubNat LNK_BELLWETHER) 16 9 = s.nodeId then withField (withField (s.hubNat LNK_TIME_STATUS) 30 1 1) 31 1 1
    else withField (s.hubNat LNK_TIME_STATUS) 30 1 1)
theorem exec_bellwetherLost {since : Nat} (hup : s.up = true) (hlost : s.torus.bwLostAt = some since)
    (halt : bitOf (s.hubNat LNK_BELLWETHER) 15 = true) :
    exec .bellwetherLost s = .next (if s.time < since + 100000000 then s else s.alternateActs) := by
  refine congrArg Host.Outcome.next ?_
  simp only [hlost, hup, halt, Bool.not_true, Bool.false_or, decide_eq_true_eq]
  rfl
theorem State.bitOf_alternateActs (s : State) : bitOf (s.alternateActs.hubNat LNK_TIME_STATUS) 30 = true := by
  rw [State.alternateActs, State.hubNat_hubSetN_self]
  split
  · rw [bitOf_withField_other _ (by decide) (.inl (by decide)), bitOf_eq_testBit, testBit_withField]
    rfl
  · exact bitOf_withField_self _ (by decide)
theorem State.bellwether_alternateActs (s : State) (halt : bitOf (s.hubNat LNK_BELLWETHER) 15 = true) :
    s.alternateActs.bellwether = fieldOf (s.hubNat LNK_BELLWETHER) 16 9 := by
  have hb : s.alternateActs.hubNat LNK_BELLWETHER = s.hubNat LNK_BELLWETHER := State.hubNat_hubSetN_other _ _ _ _ (by decide)
  rw [State.bellwether, hb, s.bitOf_alternateActs, halt]
  rfl

/-! ### FENCED -/

/-- A node that sends FENCED is marked and its port stops. -/
def State.peerFenced (s : State) (p node : Nat) : State :=
  (s.modTorus (fun t => { t with nodes := t.nodes.set node ⟨0, true, ((s.torus.nodes.find node).map (·.gen)).getD 0⟩ })).enterState p psFencedPeer
theorem exec_fenced (hup : s.linksUp = true) (hp : p < 16) (hc : s.carries p = true) (node : Nat) : exec (.fenced p node) s =
    .next ((s.peerFenced p node).floodState node 0 ((((s.torus.nodes.find node).map (·.gen)).getD 0 + 1) % 2 ^ 32) true (some p)) :=
  congrArg Host.Outcome.next (if_neg (by simp [hup, hp, hc]))
theorem State.nodes_peerFenced (s : State) (p node : Nat) :
    (s.peerFenced p node).torus.nodes.find node = some ⟨0, true, ((s.torus.nodes.find node).map (·.gen)).getD 0⟩ := by
  rw [State.peerFenced, State.nodes_enterState]
  exact SMap.find_set_self ..

end

/-- Settles O48: flits, NAKs, lanes, module time and FENCED as their registers and ports show. -/
theorem linkTraffic : Obligations.LinkTraffic := by
  refine ⟨fun s p f hup hp hc => ⟨fun hcrc => ⟨_, exec_lflFlit_badCrc hup hp hc hcrc, ?_, by simp [State.codewords], ?_, by simp [State.codewords]⟩,
      fun hcrc hseq => ⟨_, exec_lflFlit_outOfSequence hup hp hc hcrc hseq, by simp [State.codewords], by simp [State.codewords], by simp [State.codewords]⟩,
      fun hcrc hseq hauth => ⟨fun hfailed => ⟨s.tagFailed p f, ?_, by simp [State.tagFailed, State.codewords], by simp [State.tagFailed, State.codewords]⟩,
        fun hfailed => ⟨((s.tagFailed p f).modPort p (fun x => { x with authFailed := true })).sendNak p, ?_, ?_, ?_,
          by simp [State.tagFailed, State.codewords]⟩⟩,
      fun hcrc hseq hauth => ⟨(s.codewords p f).modPort p (Port.takeFlit · f), exec_lflFlit_taken hup hp hc hcrc hseq hauth, ?_, ?_, ?_,
        by simp [State.codewords], by simp [State.codewords]⟩⟩,
    fun s p seq hup hp hc => ⟨fun hseq hn => ?_, fun h => ⟨(s.setPort p { s.port p with naks := (s.port p).nakRun seq, nakSeq := seq }).sendAll
        (((s.port p).replay.filter (fun r => seqLe seq ((r.1 + r.2.1 + 65535) % 65536))).map (fun r => Tx.lfl p r.2.2)), ?_, ?_, ?_, rfl, rfl⟩,
      fun lanes hw => ⟨s.lanesNoted p (lanesOfMask lanes), ?_, State.ports_lanesNoted .., by simp [State.lanesNoted], by simp [State.lanesNoted]⟩,
      fun lane => ⟨exec_laneFault hup lane, fun hl => (exec_laneFault hup lane).trans (congrArg _ (State.laneLost_of_notMem hl))⟩,
      fun lane q rest hl hout hphys hspare => ⟨s.swapDone p lane q, ?_, ?_⟩,
      fun t1 => congrArg Host.Outcome.next (if_pos (by simp [hup, hp, hc])),
      fun t2 t3 hb => ⟨_, exec_timeResp hup hp hc t2 t3 hb, rfl, State.hubGet_offsetShown .., State.bitOf_offsetShown .., rfl, rfl⟩,
      fun node => ⟨s.peerFenced p node, exec_fenced hup hp hc node, State.portState_enterState _ hp (by decide) (by decide) (by decide),
        State.nodes_peerFenced ..⟩⟩,
    fun s p l cause q h => ⟨?_, ?_⟩,
    fun s hup => ⟨fun hb => congrArg Host.Outcome.next (if_pos (by simp [hb])),
      fun p hop hb he => ⟨s.timeAsked p hop, exec_timeExchangeTick hup hb he, State.port_timeAsked .., rfl, rfl⟩⟩,
    fun s hup hb hv => ⟨fun ht => congrArg Host.Outcome.next (if_neg (by simp; omega)),
      fun ht => ⟨s.freeRunning, exec_timeSyncLost hup hb hv ht, s.bitOf_freeRunning, rfl, rfl, rfl⟩⟩,
    fun s since hup hlost halt => ⟨fun ht => (exec_bellwetherLost hup hlost halt).trans (congrArg _ (if_pos ht)),
      fun ht => ⟨s.alternateActs, (exec_bellwetherLost hup hlost halt).trans (congrArg _ (if_neg (Nat.not_lt.mpr ht))), s.bitOf_alternateActs,
        s.bellwether_alternateActs halt, rfl, rfl⟩⟩,
    fun s hup => ⟨fun hs => congrArg Host.Outcome.next (if_pos (by simp [hup, hs])), fun hs => congrArg Host.Outcome.next (if_neg (by simp [hs]))⟩⟩
  · have htx : ((s.codewords p f).hubCount (LNK_FEC_FAILED + 0x20 * p) 1).tx = s.tx := by simp [State.codewords]
    have hport : ((s.codewords p f).hubCount (LNK_FEC_FAILED + 0x20 * p) 1).port p = s.port p := State.port_congr (by simp [State.codewords]) p
    rw [State.tx_sendNak, htx, hport]
  · rw [State.hubNat_sendNak _ (by simp only [LNK_FEC_FAILED, LNK_RETRIES]; omega), State.hubNat_hubCount_self, State.codewords,
      State.hubCount64, State.hubNat_hubSetN_other _ _ _ _ (by simp only [LNK_FEC_FAILED, LNK_FEC_CORRECTED]; omega)]
  · rw [exec_lflFlit_badTag hup hp hc hcrc hseq hauth, if_pos hfailed]
  · rw [exec_lflFlit_badTag hup hp hc hcrc hseq hauth, if_neg (by simp [hfailed])]
  · rw [State.port_congr (s := (s.tagFailed p f).modPort p (fun x => { x with authFailed := true })) (by simp) p, State.port_modPort,
      State.port_tagFailed]
  · have htx : ((s.tagFailed p f).modPort p (fun x => { x with authFailed := true })).tx = s.tx := by simp [State.tagFailed, State.codewords]
    rw [State.tx_sendNak, State.port_modPort, State.port_tagFailed, htx]
  · rw [State.port_modPort, State.port_codewords]
    rfl
  · rw [State.port_modPort]
    rfl
  · rw [State.port_modPort, State.port_codewords]
    rfl
  · rw [exec_nak hup hp hc, if_pos (Port.nakRun_ge hseq hn)]
  · rw [exec_nak hup hp hc, if_neg (Nat.not_le.mpr (Port.nakRun_lt h))]
  · exact congrArg Port.nakSeq (State.port_setPort ..)
  · exact (congrArg Port.replay (State.port_setPort s p { s.port p with naks := (s.port p).nakRun seq, nakSeq := seq })).trans rfl
  · rw [exec_width hup hp hc, State.setLanes_enough hw]
  · exact exec_laneSwapDone (by simp only [State.linksUp, Bool.and_eq_true] at hup; exact hup.1) hp hc hl hout hphys hspare
  · rw [State.lanePhys_of_map (v := q + 1) (by rw [State.noc_swapDone]; exact SMap.find_set_self ..)]
    simp
  · rw [State.lanePhys_of_map (v := 0) (by rw [State.noc_fenceLane _ h]; exact SMap.find_set_self ..)]
    rfl
  · rw [State.noc_fenceLane _ h]
    simp

end Sys2Proof.Machine
end

section
/-! SUPPORT. The coherent window: transactions, snoops, grants and acknowledgements (R369 to R379). -/

namespace Sys2Proof.Machine
open Sys2Proof Sys2Proof.Claims

section
variable {s : State} {l : Nat}

/-! ### Lines and their locks -/

@[simp] theorem State.line_setLine_self (s : State) (l : Nat) (x : CohLine) : (s.setLine l x).line l = x := SMap.get_set_self ..
theorem State.line_setLine_other (s : State) (x : CohLine) {l m : Nat} (h : m ≠ l) : (s.setLine l x).line m = s.line m :=
  SMap.get_set_other _ _ _ _ _ h
@[simp] theorem State.line_modLine_self (s : State) (l : Nat) (f : CohLine → CohLine) : (s.modLine l f).line l = f (s.line l) := s.line_setLine_self l _
theorem State.line_modLine_other (s : State) (f : CohLine → CohLine) {l m : Nat} (h : m ≠ l) : (s.modLine l f).line m = s.line m :=
  s.line_setLine_other _ h
theorem State.line_congr {s t : State} (h : t.lines = s.lines) (l : Nat) : t.line l = s.line l := congrArg (SMap.get CohLine.empty · l) h
/-- A change of the transaction that holds a line. -/
theorem State.line_modLock {x : CohTxn} (h : (s.line l).lock = some x) (f : CohTxn → CohTxn) :
    (s.modLock l f).line l = { s.line l with lock := some (f x) } := by
  rw [State.modLock, State.line_modLine_self, h]
  rfl

theorem CohLine.holder_hold_self (x : CohLine) (a : Nat) (st : Moesi) : (x.hold a st).holder a = st := by
  unfold CohLine.hold CohLine.holder
  split
  · next h =>
    rw [SMap.get_eq_find, SMap.find_del_self, eq_of_beq h]
    rfl
  · exact SMap.get_set_self ..
theorem CohLine.holder_hold_other (x : CohLine) {a b : Nat} (st : Moesi) (h : b ≠ a) : (x.hold a st).holder b = x.holder b := by
  unfold CohLine.hold CohLine.holder
  split
  · rw [SMap.get_eq_find, SMap.find_del_other _ _ _ h, SMap.get_eq_find]
  · exact SMap.get_set_other _ _ _ _ _ h

/-! ### Requests -/

/-- A line held in E is modified once its agent asks to write it back. -/
def State.storedTo (s : State) (g l : Nat) (kind : TxnKind) : State :=
  if kind == .writeback && (s.line l).holder g == .e then s.modLine l (fun x => x.hold g .m) else s
/-- The states of the agents once a request has come. -/
def CohLine.holdersAt (x : CohLine) (g : Nat) (kind : TxnKind) : SMap Moesi :=
  if kind = .writeback ∧ x.holder g = .e then x.holders.set g .m else x.holders
theorem State.line_storedTo (s : State) (g l : Nat) (kind : TxnKind) :
    (s.storedTo g l kind).line l = { s.line l with holders := (s.line l).holdersAt g kind } := by
  unfold State.storedTo CohLine.holdersAt
  by_cases h : kind = .writeback ∧ (s.line l).holder g = .e
  · rw [if_pos h, if_pos (by simp [h]), State.line_modLine_self]
    rfl
  · rw [if_neg h, if_neg (by simpa using h)]
theorem State.line_storedTo_other (s : State) (g : Nat) {l m : Nat} (kind : TxnKind) (h : m ≠ l) : (s.storedTo g l kind).line m = s.line m := by
  unfold State.storedTo
  split
  · exact State.line_modLine_other _ _ h
  · rfl
theorem State.agentId_storedTo (s : State) (g l : Nat) (kind : TxnKind) (a : Nat) : (s.storedTo g l kind).agentId a = s.agentId a := by
  unfold State.storedTo
  split <;> rfl

theorem State.cohStart_eq (s : State) (g tag l : Nat) (kind : TxnKind) : s.cohStart g tag l kind =
    if ((s.storedTo g l kind).line l).lock.isNone then (s.storedTo g l kind).lockLine l (newTxn g tag kind (s.storedTo g l kind).time)
    else (s.storedTo g l kind).modLine l (fun x => { x with queue := x.queue ++ [newTxn g tag kind (s.storedTo g l kind).time] }) := rfl
theorem State.time_storedTo (s : State) (g l : Nat) (kind : TxnKind) : (s.storedTo g l kind).time = s.time := by
  unfold State.storedTo
  split <;> rfl
theorem State.tx_storedTo (s : State) (g l : Nat) (kind : TxnKind) : (s.storedTo g l kind).tx = s.tx := by
  unfold State.storedTo
  split <;> rfl
/-- A request locks a free line. -/
theorem State.cohStart_free (g tag : Nat) (kind : TxnKind) (h : (s.line l).lock = none) : s.cohStart g tag l kind =
    (s.storedTo g l kind).lockLine l (newTxn g tag kind s.time) := by
  rw [State.cohStart_eq, State.time_storedTo, if_pos (by rw [State.line_storedTo]; exact Option.isNone_iff_eq_none.mpr h)]
/-- A request waits for a line that is locked. -/
theorem State.cohStart_locked (g tag : Nat) (kind : TxnKind) (h : (s.line l).lock ≠ none) : s.cohStart g tag l kind =
    (s.storedTo g l kind).modLine l (fun x => { x with queue := x.queue ++ [newTxn g tag kind s.time] }) := by
  rw [State.cohStart_eq, State.time_storedTo, if_neg (by rw [State.line_storedTo]; exact fun e => h (Option.isNone_iff_eq_none.mp e))]

/-- The transaction that locks a line. -/
def CohLine.locking (x : CohLine) (t : CohTxn) : CohTxn := { t with goSent := true, needPush := t.kind != .writeback && x.home == .absent }
theorem State.lockLine_eq (s : State) (l : Nat) (t : CohTxn) : s.lockLine l t =
    (s.setLine l { s.line l with lock := some ((s.line l).locking t) }).send
      (.rsp (s.agentId t.agent) t.tag 2 0 (boolN (t.kind != .writeback && (s.line l).home == .absent))) := rfl

theorem State.line_lockLine (s : State) (l : Nat) (t : CohTxn) : (s.lockLine l t).line l = { s.line l with lock := some ((s.line l).locking t) } :=
  State.line_setLine_self s l _
theorem State.line_lockLine_other (s : State) (t : CohTxn) {l m : Nat} (h : m ≠ l) : (s.lockLine l t).line m = s.line m :=
  State.line_setLine_other s _ h

section
variable {q : ReqFlit} {c : Instr} {kind : TxnKind} (hup : s.up = true) (hst : s.stale q.src.toNat = false)
  (hc : (c, kind) ∈ [(Instr.rdShared q, TxnKind.shared), (.rdUnique q, .unique), (.upgrade q, .upgrade), (.writeback q, .writeback)])
include hc

/-- The four requests arrive alike. -/
theorem exec_cohArrive : exec c s = .next (s.cohArrive q kind) := by
  simp only [List.mem_cons, Prod.mk.injEq, List.not_mem_nil, or_false] at hc
  rcases hc with ⟨rfl, rfl⟩ | ⟨rfl, rfl⟩ | ⟨rfl, rfl⟩ | ⟨rfl, rfl⟩ <;> rfl

include hup hst

theorem exec_coh_denied (h : s.agentOf q.src.toNat = none ∨ s.inWindow q.addr.toNat = false) : exec c s =
    .next ((s.cohDeny q.src.toNat q.dst.toNat q.addr.toNat).send (.rsp q.src.toNat q.txn.toNat 0 statusDenied 0)) := by
  rw [exec_cohArrive hc]
  refine congrArg Host.Outcome.next ((if_neg (by simp [hup])).trans ((if_neg (by simp [hst])).trans ?_))
  cases ha : s.agentOf q.src.toNat with
  | none => rfl
  | some g => exact if_pos (by simp [h.resolve_left (by simp [ha])])
theorem exec_coh_started {g : Nat} (ha : s.agentOf q.src.toNat = some g) (hact : s.agentActive g = true) (hw : s.inWindow q.addr.toNat = true) :
    exec c s = .next (s.cohStart g q.txn.toNat (lineOf q.addr.toNat) kind) := by
  rw [exec_cohArrive hc]
  refine congrArg Host.Outcome.next ((if_neg (by simp [hup])).trans ((if_neg (by simp [hst])).trans ?_))
  simp only [ha]
  exact if_neg (by simp [hact, hw])

end

/-! ### GO, snoops and their end -/

section
variable {x : CohTxn} (hlock : (s.line l).lock = some x)
include hlock

theorem exec_nocGo (hgo : x.goSent = true) (hl : x.launched = false) (hk : x.kind ≠ .writeback) : exec (.nocGo l) s =
    .next ((s.modLock l (fun t => { t with launched := true, snoop := if x.kind = .upgrade ∧ (s.line l).holder x.agent = .i then .unique else x.kind })).send
        (.snp l x.agent (if x.kind = .upgrade ∧ (s.line l).holder x.agent = .i then .unique else x.kind))) := by
  refine congrArg Host.Outcome.next ?_
  simp only [hlock]
  refine (if_neg (by simp [hgo, hl, hk])).trans ((if_neg (by simpa using hk)).trans ?_)
  simp only [Bool.and_eq_true, beq_iff_eq]

/-- A transaction that a stop has answered. -/
def CohTxn.answered (x : CohTxn) (a : Nat) (st : Moesi) (r : Moesi × Bool) : CohTxn :=
  { x with passed := a :: x.passed, sharers := if r.1 == .i then x.sharers else a :: x.sharers,
           pushed := x.pushed || r.2, pushOwner := if r.2 then a else x.pushOwner, pushM := if r.2 then st == .m else x.pushM,
           awaiting := List.replicate (if 20 ≤ a then boolN r.2 + boolN (r.1 == .i && st != .i || r.1 == .s && st != .s) else 0) a ++ x.awaiting }
/-- The stop's state and the transaction once it has answered. -/
def State.stopAnswered (s : State) (l a : Nat) (st : Moesi) (r : Moesi × Bool) : State :=
  (s.modLine l (fun x => x.hold a r.1)).modLock l (fun t => t.answered a st r)
/-- The pushes of an answer are counted. -/
def State.pushesCounted (s : State) (x : CohTxn) (st : Moesi) (r : Moesi × Bool) : State :=
  if r.2 then (s.hubCount SNP_PUSHES 1).hubCount SNP_NEED_PUSHES (boolN (x.needPush && st == .o)) else s

theorem State.snoop_answered {a : Nat} {k : TxnKind} (hl : x.launched = true) (hlap : x.lapDone = false) (hk : x.snoop = k) (ha : a ≠ x.agent)
    (hp : a ∉ x.passed) (hgone : s.agentGone a = false) : s.snoop l a k =
      (s.stopAnswered l a ((s.line l).holder a) (answerSnoop ((s.line l).holder a) k x.needPush)).pushesCounted
        x ((s.line l).holder a) (answerSnoop ((s.line l).holder a) k x.needPush) := by
  unfold State.snoop
  simp only [hlock]
  refine (if_neg (by simp [hl, hlap, hk, ha, hp])).trans ((if_neg (by simp [hgone])).trans ?_)
  rfl
theorem State.line_stopAnswered (a : Nat) (st : Moesi) (r : Moesi × Bool) : (s.stopAnswered l a st r).line l =
    { (s.line l).hold a r.1 with lock := some (x.answered a st r) } := by
  have hlock' : ((s.modLine l (fun x => x.hold a r.1)).line l).lock = some x := by rw [State.line_modLine_self]; exact hlock
  rw [State.stopAnswered, State.line_modLock hlock', State.line_modLine_self]

theorem exec_snoopDone (hl : x.launched = true) (hk : x.kind ≠ .writeback) (hlap : x.lapDone = false)
    (hall : ∀ h ∈ (s.line l).holders, h.1 = x.agent ∨ h.1 ∈ x.passed) :
    exec (.snoopDone l) s = .next ((s.modLock l (fun t => { t with lapDone := true })).tryGrant l) := by
  have hany : (s.line l).holders.any (fun h => h.1 != x.agent && !x.passed.contains h.1) = false :=
    List.any_eq_false.mpr fun h hh => by
      rcases hall h hh with e | e <;> simp [e]
  refine congrArg Host.Outcome.next ?_
  simp only [hlock]
  exact (if_neg (by simp [hlap])).trans (if_neg (by rw [hany]; simp [hl, hk]))

/-! ### Grants -/

theorem State.tryGrant_waits (h : x.pushed = true ∧ x.pushIn = false ∨ x.awaiting ≠ []) : s.tryGrant l = s := by
  unfold State.tryGrant
  simp only [hlock]
  refine if_pos ?_
  rcases h with ⟨hp, hi⟩ | h
  · simp [hp, hi]
  · simp [h]
/-- A grant from the home's copy. -/
theorem State.tryGrant_copy (hk : x.kind ≠ .writeback) (hlap : x.lapDone = true) (hg : x.granted = false)
    (hpush : x.pushed = false ∨ x.pushIn = true) (hacks : x.awaiting = []) (hlost : x.lost = false) (hhome : (s.line l).home ≠ .absent) :
    s.tryGrant l = (s.modLock l (fun t => { t with granted := true, poison := x.poison })).send
      (.dat (s.agentId x.agent) x.tag 0 x.poison (moesiCode (txnGrant x)) (s.line l).copy) := by
  have hsettle : s.settleLost l x = (s, false) := if_pos (by simp [hlost])
  have hab : ((s.line l).home == .absent) = false := by simpa using hhome
  unfold State.tryGrant
  simp only [hlock]
  refine (if_neg ?_).trans ?_
  · rcases hpush with hp | hp <;> simp [hk, hlap, hg, hp, hacks]
  · simp only [hsettle, hab, Bool.false_and, Bool.false_or, Bool.or_false, Bool.false_eq_true, if_false]
    rfl

/-! ### Acknowledgements -/

theorem exec_nocAck (hg : x.granted = true) (hk : x.kind ≠ .writeback) :
    exec (.nocAck l) s = .next ((s.modLine l (fun y => y.hold x.agent (txnGrant x))).txnDone l x) := by
  refine congrArg Host.Outcome.next ?_
  simp only [hlock]
  exact (if_neg (by simpa using hk)).trans (if_pos hg)

end

theorem txnGrant_eq (x : CohTxn) : txnGrant x = if x.kind = .shared then (if x.sharers = [] then .e else .s) else .m := by
  simp [txnGrant, List.isEmpty_iff]

/-- A completed transaction is counted and its time noted. -/
def State.txnCounted (s : State) (x : CohTxn) : State := (s.hubCount SNP_TRANSACTIONS 1).hubMax SNP_TXN_MAX (s.time - x.startedAt)
theorem State.txnDone_eq (s : State) (l : Nat) (x : CohTxn) : s.txnDone l x = (s.txnCounted x).unlock l := rfl
theorem State.line_txnCounted (s : State) (x : CohTxn) (l : Nat) : (s.txnCounted x).line l = s.line l := State.line_congr (by simp [State.txnCounted]) l
theorem State.hubNat_txnCounted (s : State) (x : CohTxn) :
    (s.txnCounted x).hubNat SNP_TRANSACTIONS = min 0xFFFFFFFF (s.hubNat SNP_TRANSACTIONS + 1) := by
  rw [State.txnCounted, State.hubMax, State.hubNat_hubSetN_other _ _ _ _ (by decide), State.hubNat_hubCount_self]

theorem State.unlock_empty (h : (s.line l).queue = []) : s.unlock l = s.setLine l { s.line l with lock := none } := by
  simp only [State.unlock, h]
theorem State.unlock_cons {y : CohTxn} {rest : List CohTxn} (h : (s.line l).queue = y :: rest) :
    s.unlock l = (s.setLine l { s.line l with lock := none, queue := rest }).lockLine l y := by
  simp only [State.unlock, h]
theorem State.hub_unlock (s : State) (l : Nat) : (s.unlock l).hub = s.hub := by simp
theorem State.holders_unlock (s : State) (l : Nat) : ((s.unlock l).line l).holders = (s.line l).holders := by
  cases h : (s.line l).queue with
  | nil => rw [State.unlock_empty h, State.line_setLine_self]
  | cons y rest =>
    rw [State.unlock_cons h, State.line_lockLine, State.line_setLine_self]

end

/-- The three snoops are one. -/
theorem exec_snoop {s : State} {l a : Nat} {c : Instr} {k : TxnKind}
    (hc : (c, k) ∈ [(Instr.snpShared l a, TxnKind.shared), (.snpUnique l a, .unique), (.snpInvalid l a, .upgrade)]) :
    exec c s = .next (s.snoop l a k) := by
  simp only [List.mem_cons, Prod.mk.injEq, List.not_mem_nil, or_false] at hc
  rcases hc with ⟨rfl, rfl⟩ | ⟨rfl, rfl⟩ | ⟨rfl, rfl⟩ <;> rfl
theorem State.snoop_idle {s : State} {l : Nat} (h : (s.line l).lock = none) (a : Nat) (k : TxnKind) : s.snoop l a k = s := by
  simp only [State.snoop, h]
theorem answerSnoop_unique (st : Moesi) (need : Bool) : (answerSnoop st .unique need).1 = .i := by cases st <;> rfl

section
variable {s : State} {x : CohTxn} {st : Moesi} {r : Moesi × Bool}
theorem State.line_pushesCounted (s : State) (x : CohTxn) (st : Moesi) (r : Moesi × Bool) (l : Nat) : (s.pushesCounted x st r).line l = s.line l := by
  unfold State.pushesCounted
  split
  · exact State.line_congr (by simp) l
  · rfl
theorem State.mem_pushesCounted (s : State) (x : CohTxn) (st : Moesi) (r : Moesi × Bool) : (s.pushesCounted x st r).mem = s.mem := by
  unfold State.pushesCounted
  split <;> simp
theorem State.tx_pushesCounted (s : State) (x : CohTxn) (st : Moesi) (r : Moesi × Bool) : (s.pushesCounted x st r).tx = s.tx := by
  unfold State.pushesCounted
  split <;> simp
theorem State.hubNat_pushesCounted (h : r.2 = true) : (s.pushesCounted x st r).hubNat SNP_PUSHES = min 0xFFFFFFFF (s.hubNat SNP_PUSHES + 1) := by
  rw [State.pushesCounted, if_pos h, State.hubNat_hubCount_other _ _ (by decide), State.hubNat_hubCount_self]
theorem State.pushesCounted_none (h : r.2 = false) : s.pushesCounted x st r = s := if_neg (by simp [h])
end

/-- Settles O43: each step of a coherent transaction, from its request to its acknowledgement. -/
theorem coherentWindow : Obligations.CoherentWindow := by
  refine ⟨fun s q c kind hc hup hst => ⟨fun g l need hs ha hact hw hl hneed hhs => ⟨fun hfree => ?_, fun hlocked => ?_⟩, exec_coh_denied hup hst hc⟩,
    fun s l a h => ⟨congrArg Host.Outcome.next (by simp only [h]), congrArg Host.Outcome.next (State.snoop_idle h ..),
      congrArg Host.Outcome.next (State.snoop_idle h ..), congrArg Host.Outcome.next (State.snoop_idle h ..),
      congrArg Host.Outcome.next (by simp only [h]), congrArg Host.Outcome.next (by simp only [h])⟩,
    fun s l x k hlock hgo hlaunched hk hk' => ?_, fun s l a x c k r hc hlock hl hlap hk ha hp hgone hr => ?_,
    fun s l x hlock hl hk hlap hall => ⟨_, exec_snoopDone hlock hl hk hlap hall, State.line_modLock hlock _, rfl, rfl⟩,
    fun s l x hlock hk hlap hg => ⟨State.tryGrant_waits hlock, fun hpush hacks hlost hhome => ?_⟩, fun s l x hlock hg hk => ?_⟩
  · subst hl hneed hhs
    refine ⟨_, (exec_coh_started hup hst hc ha hact hw).trans (congrArg _ (State.cohStart_free g _ kind hfree)), ?_, ?_, fun m hm => ?_, ?_, ?_⟩
    · rw [State.lockLine_eq, State.line_storedTo, State.agentId_storedTo, ← State.tx_storedTo s g (lineOf q.addr.toNat) kind]
      rfl
    · rw [State.line_lockLine, State.line_storedTo]
      rfl
    · rw [State.line_lockLine_other _ _ hm, State.line_storedTo_other _ _ _ hm]
    · unfold State.storedTo
      split <;> simp [State.modLine, State.setLine]
    · unfold State.storedTo
      split <;> simp [State.modLine, State.setLine]
  · subst hl hneed hhs
    refine ⟨_, (exec_coh_started hup hst hc ha hact hw).trans (congrArg _ (State.cohStart_locked g _ kind hlocked)),
      State.tx_storedTo s g _ kind, ?_, ?_, ?_⟩
    · unfold State.storedTo
      split <;> rfl
    · unfold State.storedTo
      split <;> rfl
    · rw [State.line_modLine_self, State.line_storedTo]
      rfl
  · subst hk'
    exact ⟨_, exec_nocGo hlock hgo hlaunched hk, congrArg CohLine.lock (State.line_modLock hlock _), rfl, rfl⟩
  · subst hr
    have hexec := (exec_snoop hc).trans (congrArg _ (State.snoop_answered hlock hl hlap hk ha hp hgone))
    have hline := (State.line_pushesCounted _ x ((s.line l).holder a) (answerSnoop ((s.line l).holder a) k x.needPush) l).trans
      (State.line_stopAnswered hlock a ((s.line l).holder a) (answerSnoop ((s.line l).holder a) k x.needPush))
    refine ⟨_, _, hexec, ?_, ?_, congrArg CohLine.lock hline, rfl, rfl, fun b hb => ?_, ?_, State.mem_pushesCounted .., State.tx_pushesCounted ..,
      State.hubNat_pushesCounted, fun hr => (congrArg State.hub (State.pushesCounted_none hr)).trans rfl⟩
    · rw [hline]
      exact CohLine.holder_hold_self ..
    · rintro rfl
      rw [hline]
      exact (CohLine.holder_hold_self ..).trans (answerSnoop_unique ..)
    · rw [hline]
      exact CohLine.holder_hold_other _ _ hb
    · rw [hline]
      rfl
  · rw [State.tryGrant_copy hlock hk hlap hg hpush hacks hlost hhome]
    exact ⟨rfl, congrArg CohLine.lock (State.line_modLock hlock _), rfl⟩
  · refine ⟨_, exec_nocAck hlock hg hk, ?_, ?_, by simp, fun hq => ?_, fun y rest hq => ?_⟩
    · rw [← txnGrant_eq, CohLine.holder, State.txnDone_eq, State.holders_unlock, State.line_txnCounted, State.line_modLine_self]
      exact CohLine.holder_hold_self ..
    · rw [State.txnDone_eq, State.hubNat_congr (State.hub_unlock ..), State.hubNat_txnCounted]
      rfl
    all_goals
      have hqueue : (((s.modLine l (fun y => y.hold x.agent (txnGrant x))).txnCounted x).line l).queue = (s.line l).queue := by
        rw [State.line_txnCounted, State.line_modLine_self]
        rfl
    · rw [State.txnDone_eq, State.unlock_empty (hqueue.trans hq)]
      exact ⟨congrArg CohLine.lock (State.line_setLine_self ..), by simp [State.setLine, State.txnCounted, State.modLine]⟩
    · rw [State.txnDone_eq, State.unlock_cons (hqueue.trans hq), State.line_lockLine, State.line_setLine_self]
      exact ⟨rfl, _, rfl, rfl, rfl, rfl, rfl⟩

end Sys2Proof.Machine
end

section
/-! SUPPORT. Forest operations and finds (R251 to R258, R260, R266, R267, R269). -/

namespace Sys2Proof.Machine
open Sys2Proof Sys2Proof.Claims

section
variable {s : State} {t : Thr} {g : Grp} {th : Thread}

/-! ### FEVAL -/

/-- What an FEVAL with a legal encoding that issues has. -/
def FevalIssues (s : State) (t : Thr) (f : FmtR) (g : Grp) (th : Thread) : Prop :=
  Issues s t g th ∧ f.d = 0 ∧ f.s2 = 0 ∧ f.s3 = 0 ∧ f.ty = 0 ∧ f.cond = 0 ∧ f.rsv = 0 ∧ GuardAt th f.grd 0 ∧ FreeX th f.s1

/-- A well-formed descriptor is evaluated, or counted where it names no record. -/
theorem exec_feval {f : FmtR} {a : Nat} (h : FevalIssues s t f g th) (halign : (th.xr f.s1.toNat).toNat % 64 = 0)
    (hreach : s.reach g t.idx 1 (th.xr f.s1.toNat) 64 .load = .ok (.core a)) (hblocks : g.blocks t.idx th (.core a) 64 false = false)
    (hcodes : lowest (descCodes (s.readBytes a 64) (s.fnNat g.fn PDK_IMAGE_SIZE * mib)) = none) : exec (.feval t f) s =
      .next (if fdRecords (s.readBytes a 64) = 0 then (s.countFeval g.fn s.time).retire t g th.advance
        else s.startFeval t g th (s.readBytes a 64)) := by
  obtain ⟨hi, hd, h2, h3, hty, hcond, hrsv, hgrd, hx⟩ := h
  have hread : (s.readTgt g (.core a) 64 []).1 = s.readBytes a 64 := rfl
  refine congrArg Host.Outcome.next ((State.insn_of_issues false _ hi (by simp [hd, h2, h3, hty, hcond, hrsv]) hgrd (free_single hx)
    (by simp)).trans ((if_neg (not_not.mpr halign)).trans ?_))
  simp only [hreach, hblocks, hread, hcodes, Bool.false_eq_true, if_false]

/-- An FEVAL whose header, limits and FOLD outputs are in order is admitted. -/
theorem State.startFeval_admits {d h : List Byte} {outs : List Tgt} (hheader : s.imageRead g.fn (fdEnsemble d) 64 = some (h, false))
    (hlimits : lowest (State.limitCodes g d h) = none)
    (houts : s.foldOuts g t.idx (if fdMode d = 0 then [] else
      (List.range (fdRecords d * fhOutputs h)).map (fun i => BitVec.ofNat 64 (fdOutAddr d + 4 * i))) = (outs, none)) :
    s.startFeval t g th d = s.admitFeval t g th d h outs := by
  refine (congrArg (s.fevalWith t g th d) hheader).trans ?_
  unfold State.fevalWith
  dsimp only
  rw [hlimits]
  dsimp only
  rw [houts]

/-- The FEVAL of a descriptor, without the lines that it lacks. -/
def State.fevalOf (s : State) (t : Thr) (g : Grp) (th : Thread) (d h : List Byte) (outs : List Tgt) (unit : Nat) : FevalOp :=
  ⟨th.nextId, fdEnsemble d, h, (List.range (fdRecords d)).map (fun r =>
    s.featuresOf (g.globalCore (g.coreOf t.idx)) (fdFeatOff d + r * fdStride d) (fhFeatures h)), fdRecords d, fdMode d = 1, fdOutOff d, outs,
    fdFirst d, fdCount d, bitOf (fieldAt d 32 1) 0, unit, [], s.time⟩
theorem State.admitFeval_queues {d h : List Byte} (outs : List Tgt) {unit : Nat}
    (hunit : s.forestUnit (g.globalCore (g.coreOf t.idx) / 256) (fdUnit d) = some unit) (hroom : th.fevals.length < 4)
    (hqueue : s.unitQueue unit < 16)
    (hfeat : g.blocks t.idx th (.core (coreAddr (g.globalCore (g.coreOf t.idx)) (featRange d h).1)) (featRange d h).2 false = false)
    (hout : fdMode d = 0 → g.blocks t.idx th (.core (coreAddr (g.globalCore (g.coreOf t.idx)) (outRange d h).1)) (outRange d h).2 true = false) :
    s.admitFeval t g th d h outs = s.queueFeval t g th (s.fevalOf t g th d h outs unit) := by
  unfold State.admitFeval
  simp only [hunit]
  refine if_neg ?_
  simp only [Bool.or_eq_true, Bool.and_eq_true, decide_eq_true_eq, hfeat, Bool.false_eq_true, or_false, not_or, not_and]
  exact ⟨by omega, fun hm => by simp [hout hm]⟩

/-- A queued FEVAL with the lines that it lacks. -/
def State.lacking (s : State) (fn : Nat) (o : FevalOp) : FevalOp :=
  { o with fills := (((s.walks fn o).flatten.map (·.lines)).flatten).dedup.filter (fun l => !(s.ms.nodes.get [] o.unit).contains (nodeKey fn l)) }
/-- The thread after an FEVAL has joined its unit's queue. -/
def Thread.withFeval (th : Thread) (o : FevalOp) : Thread := ({ th with fevals := th.fevals ++ [o], nextId := th.nextId + 1 } : Thread).advance
theorem State.queueFeval_eq (s : State) (t : Thr) (g : Grp) (th : Thread) (o : FevalOp) :
    s.queueFeval t g th o = s.retire t g (th.withFeval (s.lacking g.fn o)) := rfl

theorem exec_fwait {f : FmtR} (hi : Issues s t g th) (hd : f.d = 0) (h1 : f.s1 = 0) (h2 : f.s2 = 0) (h3 : f.s3 = 0) (hty : f.ty = 0)
    (hcond : f.cond = 0) (hrsv : f.rsv = 0) (hgrd : GuardAt th f.grd 0) :
    exec (.fwait t f) s = .next (if th.fevals.isEmpty then s.retire t g th.advance else s) :=
  congrArg Host.Outcome.next (State.insn_of_issues false _ hi (by simp [hd, h1, h2, h3, hty, hcond, hrsv]) hgrd (by simp) (by simp))

/-! ### Node fills -/

/-- An FEVAL of the unit has the line. -/
def FevalOp.filled (e : FevalOp) (unit line : Nat) : FevalOp := if e.unit = unit then { e with fills := e.fills.filter (· != line) } else e
def Thread.filled (th : Thread) (unit line : Nat) : Thread := { th with fevals := th.fevals.map (fun (e : FevalOp) => e.filled unit line) }
/-- Every FEVAL of the paddock in the unit has the line. -/
def filledEntry (fn unit line : Nat) (p : Nat × Grp) : Nat × Grp :=
  if p.2.fn = fn then
    (p.1, { p.2 with threads := p.2.threads.map (fun (q : Nat × Thread) => (q.1, q.2.filled unit line)) })
  else p
def State.nodeFilled (s : State) (fn unit line : Nat) : State :=
  { s with groups := s.groups.map (filledEntry fn unit line), ms := s.ms.fillNode unit (nodeKey fn line) }

theorem FevalOp.unit_filled (e : FevalOp) (unit line : Nat) : (e.filled unit line).unit = e.unit := by
  unfold FevalOp.filled
  split <;> rfl
theorem FevalOp.notMem_filled {e : FevalOp} {unit : Nat} (line : Nat) (h : (e.filled unit line).unit = unit) : line ∉ (e.filled unit line).fills := by
  rw [FevalOp.unit_filled] at h
  simp [FevalOp.filled, h]
/-- No FEVAL of the paddock in the unit lacks the line. -/
theorem State.notMem_nodeFilled {fn unit line : Nat} {p : Nat × Grp} (hp : p ∈ (s.nodeFilled fn unit line).groups) (hfn : p.2.fn = fn)
    {q : Nat × Thread} (hq : q ∈ p.2.threads) {e : FevalOp} (he : e ∈ q.2.fevals) (hu : e.unit = unit) : line ∉ e.fills := by
  obtain ⟨p0, -, rfl⟩ := List.mem_map.mp hp
  unfold filledEntry at hfn hq
  by_cases h0 : p0.2.fn = fn
  · rw [if_pos h0] at hq
    obtain ⟨q0, -, rfl⟩ := List.mem_map.mp hq
    obtain ⟨e0, -, rfl⟩ := List.mem_map.mp he
    exact FevalOp.notMem_filled line hu
  · rw [if_neg h0] at hfn
    exact absurd hfn h0

/-- Walks that end in leaves raise nothing. -/
theorem lowest_filterMap_of_leaf {ws : List Walk} {f : Walk → Option Nat} (hleaf : ∀ w ∈ ws, ∃ b, w.stop = .leaf b)
    (hf : ∀ w b, w.stop = .leaf b → f w = none) : lowest (ws.filterMap f) = none := by
  have hnil : ws.filterMap f = [] := List.filterMap_eq_nil_iff.mpr fun w hw => (hleaf w hw).elim (hf w)
  rw [hnil]
  rfl

section
variable {o : FevalOp} (hg : s.grp t.gid = some g) (hth : g.th t.idx = some th) (ho : th.feval o.id = some o)
include hg hth ho

theorem exec_nodeFillReturn {line : Nat} (hline : line ∈ o.fills.take 32) : exec (.nodeFillReturn t o.id line) s =
    .next ((s.nodeFilled g.fn o.unit line).fnCount g.fn FOR_NODE_FILLS 1) := by
  refine congrArg Host.Outcome.next ?_
  simp only [hg, hth, Option.bind_some, ho]
  exact if_neg (by simp [hline])

/-! ### The end of an FEVAL -/

/-- The FEVAL leaves its thread and is counted. -/
def State.fevalEnded (s : State) (t : Thr) (g : Grp) (o : FevalOp) : State :=
  ((((s.modTh t (fun th => { th with fevals := th.fevals.filter (fun e => e.id != o.id) })).fnCount64 g.fn FOR_PAIR_LEVELS
    (((s.walks g.fn o).flatten.map (·.levels)).sum)).fnCount g.fn FOR_SPAN_OVERFLOWS
      ((fevalSums o (s.walks g.fn o)).filter (fun x => x.ext.isSome)).length).tallyP g.fn (some (s.streamOf g)) 0x08
        (((s.walks g.fn o).flatten.map (·.levels)).sum)).tallyP g.fn (some (s.streamOf g)) 0x06
          ((fevalSums o (s.walks g.fn o)).filter (fun x => x.ext.isSome)).length
/-- The words of a LOCAL output. -/
def fevalWords (xs : List Xa) : List Byte := (xs.map (fun x => leBytes 4 (x.readOut ⟨.flt fp32, 32, false, 0, 32⟩ .rne 0))).flatten
/-- The sums reach their output. -/
def State.fevalOut (s : State) (t : Thr) (g : Grp) (o : FevalOp) (xs : List Xa) : State :=
  if o.outFold then (o.outs.zip xs).foldl (fun s p => s.joinSum t p.1 p.2) s
  else s.store (coreAddr (g.globalCore (g.coreOf t.idx)) o.outOff) (fevalWords xs)

theorem exec_fevalComplete (hfills : o.fills = []) (hphase : g.phase = .running ∨ g.phase = .saving)
    (hleaf : ∀ w ∈ (s.walks g.fn o).flatten, ∃ b, w.stop = .leaf b) : exec (.fevalComplete t o.id) s =
      .next (((((s.fevalEnded t g o).fevalOut t g o (fevalSums o (s.walks g.fn o))).openWindows t.gid t.idx 1).countFeval g.fn o.issuedAt).settleGroup
        t.gid) := by
  have hpoison : (s.walks g.fn o).flatten.any (fun w => w.stop == .poison) = false :=
    List.any_eq_false.mpr fun w hw => by
      obtain ⟨b, hb⟩ := hleaf w hw
      simp [hb]
  refine congrArg Host.Outcome.next ?_
  simp only [hg, hth, Option.bind_some, ho]
  refine (if_neg (by rcases hphase with h | h <;> simp [hfills, h])).trans ((if_neg (by simp [hpoison])).trans ?_)
  rw [lowest_filterMap_of_leaf hleaf]
  · rfl
  · intro w b hb
    simp only [hb]

end

theorem State.mem_store_congr {s t : State} (h : t.mem = s.mem) (a : Nat) (bs : List Byte) : (t.store a bs).mem = (s.store a bs).mem :=
  congrArg (cellsPut 0 · a bs) h

/-! ### Finds -/

/-- The thread after a find has begun. -/
def Thread.withFind (th : Thread) (d n : Nat) : Thread :=
  let th1 := (th.forget false d).forget false (d + 1)
  ({ th1 with finds := (th1.finds.set (2 * n) d).set (2 * n + 1) (d + 1) } : Thread).advance
/-- The lookup of a find has begun. -/
def State.findBegun (s : State) (t : Thr) (g : Grp) (key : W64) : State :=
  ((s.modGrp t.gid (fun h => { h with lookups := h.lookups ++ [s.startLookup g.fn g.nextLookup (some t.idx) 0 key],
                                      nextLookup := g.nextLookup + 1 })).fnCount g.fn DIR_LOOKUPS 1).tallyP g.fn (some (s.streamOf g)) 0x09 1

theorem exec_dfind {f : FmtR} (hi : Issues s t g th) (heven : f.d.toNat % 2 = 0) (hd : f.d ≠ 0) (h2 : f.s2 = 0) (h3 : f.s3 = 0) (hty : f.ty = 0)
    (hcond : f.cond = 0) (hrsv : f.rsv = 0) (hgrd : GuardAt th f.grd 0) (hx : FreeX th f.s1) : exec (.dfind t f) s =
      .next (if 8 ≤ th.finds.length then s
        else (s.findBegun t g (th.xr f.s1.toNat)).retire t g (th.withFind f.d.toNat g.nextLookup)) :=
  congrArg Host.Outcome.next (State.insn_of_issues false _ hi (by simpa [heven, h2, h3, hty, hcond, hrsv] using hd) hgrd (free_single hx) (by simp))
theorem State.grp_findBegun (hg : s.grp t.gid = some g) (key : W64) : (s.findBegun t g key).grp t.gid =
    some { g with lookups := g.lookups ++ [s.startLookup g.fn g.nextLookup (some t.idx) 0 key], nextLookup := g.nextLookup + 1 } := by
  rw [State.findBegun, State.grp_tallyP, State.grp_fnCount, State.grp_modGrp_self, hg]
  rfl

/-- A find of a thread ends with its result. -/
def State.findEnded (s : State) (gid i id : Nat) (a n : W64) : State :=
  (s.dropLookup gid id).modTh ⟨gid, i⟩ (fun th => th.found id a n)

section
variable {gid i : Nat} {l : Lookup} {u : State} (hg : s.grp gid = some g) (hl : g.lookups.find? (fun x => x.id = l.id) = some l)
  (hphase : g.phase ≠ .stopping) (hthread : l.thread = some i) (hkeep : mustRestart l (u.dirEntry g.fn l.bucket).gen = false)
include hg hl hphase hthread hkeep

theorem exec_findComplete_notFound (hres : s.lookupResult g.fn l = (.notFound, u)) :
    exec (.lookupComplete gid l.id) s = .next ((u.findEnded gid i l.id 0 0xFFFFFFFFFFFFFFFF).settleGroup gid) := by
  refine congrArg Host.Outcome.next ?_
  simp only [hg, hl, beq_iff_eq, hphase, hres, hkeep, hthread, if_false, Bool.and_false, Bool.false_eq_true]
  rfl
theorem exec_findComplete_found {a n : Nat} (hres : s.lookupResult g.fn l = (.found a n, u)) : exec (.lookupComplete gid l.id) s =
    .next ((u.findEnded gid i l.id (BitVec.ofNat 64 a) (BitVec.ofNat 64 n)).settleGroup gid) := by
  refine congrArg Host.Outcome.next ?_
  simp only [hg, hl, beq_iff_eq, hphase, hres, hkeep, hthread, if_false, Bool.and_false, Bool.false_eq_true]
  rfl
end

theorem State.grp_findEnded {gid i id : Nat} (hg : s.grp gid = some g) (hth : g.th i = some th) (a n : W64) :
    ∃ h, (s.findEnded gid i id a n).grp gid = some h ∧ h.th i = some (th.found id a n) := by
  have hth' : ({ g with lookups := g.lookups.filter (fun l => l.id != id) } : Grp).th i = some th := hth
  refine ⟨({ g with lookups := g.lookups.filter (fun l => l.id != id) } : Grp).setTh i (th.found id a n), ?_, Grp.th_setTh_self ..⟩
  unfold State.findEnded State.modTh
  rw [State.grp_modGrp_self, State.grp_dropLookup hg]
  simp only [hth', Option.map_some]

end

/-- The register pair of a find and nothing else takes its result. -/
theorem Thread.found_pair (th : Thread) (id : Nat) (a n : W64) (hd : 0 < th.finds.get 0 (2 * id))
    (hpair : th.finds.get 0 (2 * id + 1) = th.finds.get 0 (2 * id) + 1) :
    (th.found id a n).x = (th.x.set (th.finds.get 0 (2 * id)) a).set (th.finds.get 0 (2 * id) + 1) n ∧ (th.found id a n).v = th.v ∧
      (th.found id a n).pc = th.pc := by
  unfold Thread.found
  simp only [hpair, Nat.pos_iff_ne_zero.mp hd, Nat.succ_ne_zero, if_false, and_self]

section
variable (th : Thread)

theorem Thread.xr_found_fst {id : Nat} {a n : W64} (hd : 0 < th.finds.get 0 (2 * id))
    (hpair : th.finds.get 0 (2 * id + 1) = th.finds.get 0 (2 * id) + 1) : (th.found id a n).xr (th.finds.get 0 (2 * id)) = a := by
  obtain ⟨hx, -, -⟩ := th.found_pair id a n hd hpair
  rw [Thread.xr, if_neg (by omega), hx, SMap.get_set_other _ _ _ _ _ (by omega), SMap.get_set_self]
theorem Thread.xr_found_snd {id : Nat} {a n : W64} (hd : 0 < th.finds.get 0 (2 * id))
    (hpair : th.finds.get 0 (2 * id + 1) = th.finds.get 0 (2 * id) + 1) : (th.found id a n).xr (th.finds.get 0 (2 * id) + 1) = n := by
  obtain ⟨hx, -, -⟩ := th.found_pair id a n hd hpair
  rw [Thread.xr, if_neg (by omega), hx, SMap.get_set_self]
theorem Thread.xr_found_other {id : Nat} {a n : W64} (hd : 0 < th.finds.get 0 (2 * id))
    (hpair : th.finds.get 0 (2 * id + 1) = th.finds.get 0 (2 * id) + 1) {r : Nat} (h1 : r ≠ th.finds.get 0 (2 * id))
    (h2 : r ≠ th.finds.get 0 (2 * id) + 1) : (th.found id a n).xr r = th.xr r := by
  obtain ⟨hx, -, -⟩ := th.found_pair id a n hd hpair
  rw [Thread.xr, hx, SMap.get_set_other _ _ _ _ _ h2, SMap.get_set_other _ _ _ _ _ h1, Thread.xr]

/-- Both registers of the pair are noted under the find's number. -/
theorem Thread.finds_withFind (d n : Nat) : (th.withFind d n).finds.get 0 (2 * n) = d ∧ (th.withFind d n).finds.get 0 (2 * n + 1) = d + 1 :=
  ⟨(SMap.get_set_other _ _ _ _ _ (by omega)).trans (SMap.get_set_self ..), SMap.get_set_self ..⟩

end

/-- Settles O29: forest evaluations and finds, from their issue to their results. -/
theorem forestOps : Obligations.ForestOps := by
  refine ⟨fun s t f g th a core d hi hd h2 h3 hty hcond hrsv hgrd hx halign hreach hblocks hdesc hcore hcodes => ?_,
    fun s t f g th hi hd h1 h2 h3 hty hcond hrsv hgrd => ⟨fun h => ⟨th.advance, ?_, th.advanced_advance⟩, fun h => ?_⟩,
    fun s t g th o line hg hth ho hline => ⟨_, exec_nodeFillReturn hg hth ho hline, by simp [State.nodeFilled], ?_,
      fun p hp hfn q hq e he hu => ?_⟩,
    fun s t g th o hg hth ho hfills hphase hleaf => ⟨s.fevalEnded t g o, (s.fevalEnded t g o).fevalOut t g o (fevalSums o (s.walks g.fn o)),
      exec_fevalComplete hg hth ho hfills hphase hleaf, by simp [State.fevalEnded], by simp [State.fevalEnded], fun hlocal => ?_, fun hfold => if_pos hfold⟩,
    fun s t f g th hi heven hd h2 h3 hty hcond hrsv hgrd hx => ⟨fun hfull => ?_, fun hroom => ⟨s.findBegun t g (th.xr f.s1.toNat),
      th.withFind f.d.toNat g.nextLookup, _, ?_, ⟨rfl, rfl, rfl, rfl, rfl⟩, by simp [State.findBegun], State.grp_findBegun hi.1 _, rfl,
      (th.finds_withFind f.d.toNat g.nextLookup).1, (th.finds_withFind f.d.toNat g.nextLookup).2⟩⟩,
    fun s gid i g th l hg hth hl hphase hthread => ⟨fun hst => ?_, fun x hst htag hkeep hfound => ?_⟩,
    fun th id a n hd hpair => ⟨th.xr_found_fst hd hpair, th.xr_found_snd hd hpair, fun r h1 h2 => th.xr_found_other hd hpair h1 h2,
      (th.found_pair id a n hd hpair).2.1, (th.found_pair id a n hd hpair).2.2⟩⟩
  · subst hdesc hcore
    have hexec := exec_feval ⟨hi, hd, h2, h3, hty, hcond, hrsv, hgrd, hx⟩ halign hreach hblocks hcodes
    refine ⟨fun hnone => ⟨s.countFeval g.fn s.time, th.advance, ?_, th.advanced_advance, by simp [State.countFeval], rfl⟩,
      fun h outs unit hsome hheader hlimits houts hunit hroom hqueue hfeat hout =>
        ⟨th.withFeval (s.lacking g.fn (s.fevalOf t g th (s.readBytes a 64) h outs unit)), s.lacking g.fn (s.fevalOf t g th (s.readBytes a 64) h outs unit), ?_,
          ⟨rfl, rfl, rfl, rfl, rfl⟩, rfl, rfl, rfl, rfl, rfl, ?_, rfl, rfl, rfl, rfl, rfl, rfl⟩⟩
    · rw [hexec, if_pos hnone]
    · rw [hexec, if_neg (by omega), State.startFeval_admits hheader hlimits houts, State.admitFeval_queues outs hunit hroom hqueue hfeat hout,
        State.queueFeval_eq]
    · exact (beq_eq_decide ..).symm
  · rw [exec_fwait hi hd h1 h2 h3 hty hcond hrsv hgrd, if_pos (by simp [h])]
  · rw [exec_fwait hi hd h1 h2 h3 hty hcond hrsv hgrd, if_neg (by simp [h])]
  · rw [State.fnNat_fnCount_self]
    rfl
  · have hgroups : ((s.nodeFilled g.fn o.unit line).fnCount g.fn FOR_NODE_FILLS 1).groups = (s.nodeFilled g.fn o.unit line).groups := by simp
    exact State.notMem_nodeFilled (hgroups ▸ hp) hfn hq he hu
  · rw [State.fevalOut, if_neg (by simp [hlocal])]
    exact State.mem_store_congr (by simp [State.fevalEnded]) _ _
  · rw [exec_dfind hi heven hd h2 h3 hty hcond hrsv hgrd hx, if_pos hfull]
  · rw [exec_dfind hi heven hd h2 h3 hty hcond hrsv hgrd hx, if_neg (by omega)]
  · have hres : s.lookupResult g.fn l = (.notFound, s) := by simp [State.lookupResult, hst]
    obtain ⟨h, hh, hfoundTh⟩ := State.grp_findEnded hg hth (id := l.id) 0 0xFFFFFFFFFFFFFFFF
    exact ⟨_, h, exec_findComplete_notFound hg hl hphase hthread (by simp [mustRestart, hst]) hres, by simp [State.findEnded, State.dropLookup],
      hh, hfoundTh⟩
  · have hres : s.lookupResult g.fn l = (.found x.addr x.len, s.fnCount g.fn DIR_HITS 1) := by simp [State.lookupResult, hst, hfound, htag]
    have hkeep' : mustRestart l ((s.fnCount g.fn DIR_HITS 1).dirEntry g.fn l.bucket).gen = false := by
      rw [State.gen_dirEntry_congr (s := s) (by simp)]
      exact hkeep
    obtain ⟨h, hh, hfoundTh⟩ := State.grp_findEnded (s := s.fnCount g.fn DIR_HITS 1) ((State.grp_congr (by simp) gid).trans hg) hth (id := l.id)
      (BitVec.ofNat 64 x.addr) (BitVec.ofNat 64 x.len)
    exact ⟨_, h, exec_findComplete_found hg hl hphase hthread hkeep' hres, by simp [State.findEnded, State.dropLookup], hh, hfoundTh⟩

end Sys2Proof.Machine
end

section
/-! SUPPORT. What a report leaves of the registers, and ports that are excluded (R477, R594 to R596). -/

namespace Sys2Proof.Machine
open Sys2Proof Sys2Proof.Claims

section
variable {s : State}

/-! ### Registers that the sheepdog does not write -/

/-- A register below those of the sheepdog, the tallies and the trace buffers, other than PCE_INT_STATUS. -/
def belowSheepdog (a : Nat) : Prop := a < SDG_STATUS ∧ a ≠ PCE_INT_STATUS

variable {a : Nat} (ha : belowSheepdog a)
include ha

theorem belowSheepdog.ne {off : Nat} (h : SDG_STATUS ≤ off) : a ≠ off := Nat.ne_of_lt (Nat.lt_of_lt_of_le ha.1 h)
theorem State.hubNat_hubSetN_sheepdog (s : State) {off : Nat} (v : Nat) (h : SDG_STATUS ≤ off) : (s.hubSetN off v).hubNat a = s.hubNat a :=
  State.hubNat_hubSetN_other _ _ _ _ (ha.ne h)
theorem State.hubNat_hubCount_sheepdog (s : State) {off : Nat} (n : Nat) (h : SDG_STATUS ≤ off) : (s.hubCount off n).hubNat a = s.hubNat a :=
  s.hubNat_hubSetN_sheepdog ha _ h
theorem State.hubNat_raiseInt_sheepdog (s : State) (bit : Nat) : (s.raiseInt bit).hubNat a = s.hubNat a := State.hubNat_raiseInt_other _ _ ha.2
theorem State.hubNat_tallyM_sheepdog (s : State) (code n : Nat) : (s.tallyM code n).hubNat a = s.hubNat a :=
  State.hubNat_tallyM_other _ _ (ha.ne (Nat.le_trans (by decide) (Nat.le_add_right ..)))
theorem State.hubNat_trcPut_sheepdog (s : State) (b off : Nat) (bs : List Byte) : (s.trcPut b off bs).hubNat a = s.hubNat a :=
  (State.hubNat_tallyM_sheepdog ha _ _ _).trans (State.hubNat_congr (by simp) a)
theorem State.hubNat_trcTrigger_sheepdog (s : State) (b code source : Nat) : (s.trcTrigger b code source).hubNat a = s.hubNat a := by
  have hge {off : Nat} (h : SDG_STATUS ≤ off) (k : Nat) : SDG_STATUS ≤ off + k := Nat.le_trans h (Nat.le_add_right ..)
  unfold State.trcTrigger
  split
  · dsimp only
    split
    all_goals
      simp only [State.trcSetState, State.trcSetPtr, State.hubNat_hubSetN_sheepdog ha _ _ (hge (off := TRC_BUF_STATUS) (by decide) _),
        State.hubNat_hubSetN_sheepdog ha _ _ (hge (off := TRC_TRIGGER_PTR) (by decide) _),
        State.hubNat_hubSetN_sheepdog ha _ _ (hge (off := TRC_WRITE_PTR) (by decide) _), State.hubNat_trcPut_sheepdog ha]
  · exact State.hubNat_hubCount_sheepdog ha _ _ (by decide)
theorem State.hubNat_traceEntry (s : State) (e : SdgEntry) : (s.traceEntry e).hubNat a = s.hubNat a := by
  have hoffer (b : Nat) (bs : List Byte) : (s.trcOffer b 0x11 bs).hubNat a = s.hubNat a := State.hubNat_congr (by simp) a
  have hfold (u : State) : ((List.range 4).foldl (fun s b => if s.trcExists b then s.trcTrigger b 2 0x11 else s) u).hubNat a = u.hubNat a :=
    foldl_keep (State.hubNat · a) _ _ _ fun t b => by
      split
      · exact State.hubNat_trcTrigger_sheepdog ha ..
      · rfl
  unfold State.traceEntry
  dsimp only
  by_cases hroute : bitOf (s.hubNat TRC_ROUTE) 9 = true
  · simp only [hroute, if_true]
    split
    · rw [hfold, hoffer]
    · exact hoffer ..
  · simp only [hroute, Bool.false_eq_true, if_false]
    split
    · exact hfold s
    · rfl
theorem State.hubNat_capture (s : State) (e : SdgEntry) : (s.capture e).hubNat a = s.hubNat a := by
  unfold State.capture
  dsimp only
  split
  · rw [State.hubNat_hubSetN_sheepdog ha _ _ (by decide), State.hubNat_hubSetN_sheepdog ha _ _ (by decide),
      State.hubNat_hubSetN_sheepdog ha _ _ (by decide), State.hubNat_hubSetN_sheepdog ha _ _ (by decide)]
  · exact State.hubNat_hubSetN_sheepdog ha _ _ (by decide)
theorem State.hubNat_entryMade (s : State) (e : SdgEntry) : (s.entryMade e).hubNat a = s.hubNat a := by
  have haer : (s.aerEntry e).hubNat a = s.hubNat a := State.hubNat_congr (by simp) a
  unfold State.entryMade
  cases e.cls
  · exact (State.hubNat_traceEntry ha _ e).trans haer
  · exact (State.hubNat_raiseInt_sheepdog ha _ _).trans ((State.hubNat_capture ha _ e).trans ((State.hubNat_traceEntry ha _ e).trans haer))
  · exact (State.hubNat_raiseInt_sheepdog ha _ _).trans ((State.hubNat_capture ha _ e).trans ((State.hubNat_traceEntry ha _ e).trans haer))
theorem State.hubNat_countOverflow (s : State) (cls : FaultClass) (block : Nat) : (s.countOverflow cls block).hubNat a = s.hubNat a := by
  have hge {off : Nat} (h : SDG_STATUS ≤ off) (k : Nat) : SDG_STATUS ≤ off + k := Nat.le_trans h (Nat.le_add_right ..)
  unfold State.countOverflow
  split
  · exact State.hubNat_hubCount_sheepdog ha _ _ (hge (by decide) _)
  · exact State.hubNat_hubCount_sheepdog ha _ _ (hge (by decide) _)
/-- Placing a report writes no register below the sheepdog's. -/
theorem State.hubNat_placeReport (s : State) (r : Report) : (s.placeReport r).hubNat a = s.hubNat a := by
  have htally := State.hubNat_tallyM_sheepdog ha s (0x18 + (clsCode r.cls)) 1
  unfold State.placeReport
  dsimp only
  split
  · split
    · exact (State.hubNat_congr rfl a).trans htally
    · exact htally
  · refine (State.hubNat_entryMade ha _ _).trans ?_
    split
    · exact (State.hubNat_congr rfl a).trans ((State.hubNat_hubCount_sheepdog ha _ _ (by decide)).trans
        ((State.hubNat_countOverflow ha _ _ _).trans htally))
    · exact (State.hubNat_congr rfl a).trans htally
  · exact (State.hubNat_countOverflow ha _ _ _).trans htally
omit ha in
theorem State.report_of_ne_ft {r : Report} (h : r.cls ≠ .ft) : s.report r = s.placeReport r := by
  unfold State.report
  cases hc : r.cls
  · rfl
  · rfl
  · exact absurd hc h
theorem State.hubNat_report (s : State) {r : Report} (h : r.cls ≠ .ft) : (s.report r).hubNat a = s.hubNat a := by
  rw [State.report_of_ne_ft h, State.hubNat_placeReport ha]

end

/-! ### The settings of the links and what a change of a port keeps -/

/-- A setting of the links: a register that no change of a port writes. -/
def linkSetting (a : Nat) : Prop := (LNK_NODE ≤ a ∧ a < LNK_TIME_STATUS) ∨ (LNK_PORT_CFG ≤ a ∧ a < LNK_PORT_STATUS)
theorem linkSetting.belowSheepdog {a : Nat} (h : linkSetting a) : belowSheepdog a := by
  simp only [linkSetting, LNK_NODE, LNK_TIME_STATUS, LNK_PORT_CFG, LNK_PORT_STATUS] at h
  refine ⟨?_, ?_⟩
  · simp only [SDG_STATUS]
    omega
  · simp only [PCE_INT_STATUS]
    omega
theorem linkSetting_portCfg {p : Nat} (hp : p < 16) : linkSetting (LNK_PORT_CFG + 4 * p) :=
  .inr ⟨Nat.le_add_right .., by simp only [LNK_PORT_CFG, LNK_PORT_STATUS]; omega⟩

section
variable {s : State} {a : Nat} (ha : linkSetting a)
include ha

theorem State.hubNat_portField_setting (s : State) (p lo w v : Nat) : (s.portField p lo w v).hubNat a = s.hubNat a := by
  simp only [linkSetting, LNK_NODE, LNK_TIME_STATUS, LNK_PORT_CFG, LNK_PORT_STATUS] at ha
  exact State.hubNat_hubSetN_other _ _ _ _ (by simp only [LNK_PORT_STATUS]; omega)
theorem State.hubNat_notePools_setting (s : State) : s.notePools.hubNat a = s.hubNat a := by
  unfold State.notePools
  refine foldl_keep (State.hubNat · a) _ _ _ fun t q => ?_
  dsimp only
  split
  · exact State.hubNat_portField_setting ha ..
  · rfl
theorem State.hubNat_noteReach_setting (s : State) : s.noteReach.hubNat a = s.hubNat a := by
  unfold State.noteReach
  refine List.foldlRecOn (motive := fun (t : State) => t.hubNat a = s.hubNat a) _ _ rfl fun t ht w hw => ?_
  have hw := List.mem_range.mp hw
  simp only [linkSetting, LNK_NODE, LNK_TIME_STATUS, LNK_PORT_CFG, LNK_PORT_STATUS] at ha
  exact (State.hubNat_hubSetN_other _ _ _ _ (by simp only [LNK_REACH]; omega)).trans ht
theorem State.hubNat_noteBellwether_setting (s : State) : s.noteBellwether.hubNat a = s.hubNat a := by
  simp only [linkSetting, LNK_NODE, LNK_TIME_STATUS, LNK_PORT_CFG, LNK_PORT_STATUS] at ha
  unfold State.noteBellwether
  split
  · exact State.hubNat_hubSetN_other _ _ _ _ (by simp only [LNK_TIME_STATUS]; omega)
  · rfl
theorem State.hubNat_noteRoutes_setting (s : State) : s.noteRoutes.hubNat a = s.hubNat a := by
  rw [State.noteRoutes, State.hubNat_noteBellwether_setting ha, State.hubNat_noteReach_setting ha]
  simp only [linkSetting, LNK_NODE, LNK_TIME_STATUS, LNK_PORT_CFG, LNK_PORT_STATUS] at ha
  exact State.hubNat_hubCount_other _ _ (by simp only [LNK_ROUTE_CHANGES]; omega)
theorem State.hubNat_floodState_setting (s : State) (node dirs gen : Nat) (fenced : Bool) (ex : Option Nat) :
    (s.floodState node dirs gen fenced ex).hubNat a = s.hubNat a := by
  have hoff : a ≠ TLY_COUNT + 8 * 0x14 := ha.belowSheepdog.ne (by decide)
  unfold State.floodState
  split
  · rfl
  · refine foldl_keep (State.hubNat · a) _ _ _ fun t q => ?_
    split
    · exact State.hubNat_putLfl _ _ _ hoff
    · rfl
theorem State.hubNat_enterState_setting (s : State) (p st : Nat) : (s.enterState p st).hubNat a = s.hubNat a := by
  rw [State.enterState, State.portsChanged_eq, State.hubNat_floodState_setting ha, State.hubNat_noteRoutes_setting ha]
  refine (State.hubNat_notePools_setting ha _).trans ?_
  rw [State.hubNat_raiseInt_other _ _ ha.belowSheepdog.2]
  exact State.hubNat_portField_setting ha ..

end

section
variable {s : State}

/-- A port without its keys and its buffer. -/
def Port.dropped (x : Port) : Port := { x with replay := [], keyed := false, keyUp := 0, keyDown := 0, kx := 0, kxSecret := 0, identOk := false }
/-- An excluded port's keys and buffer are dropped and its reason shown. -/
def State.portDropped (s : State) (p reason : Nat) : State := (s.portField p 24 4 reason).modPort p Port.dropped
theorem State.excludePort_eq {p : Nat} (reason : Nat) (h : s.portState p ≠ psExcluded) : s.excludePort p reason =
    ((s.portDropped p reason).enterState p psExcluded).report (hubReport cPortExcluded .uc 0x0B p (reason * 2 ^ 8 + p)) := if_neg h

theorem belowSheepdog_portStatus {p : Nat} (hp : p < 16) : belowSheepdog (LNK_PORT_STATUS + 4 * p) := by
  refine ⟨?_, ?_⟩
  · simp only [LNK_PORT_STATUS, SDG_STATUS]
    omega
  · simp only [LNK_PORT_STATUS, PCE_INT_STATUS]
    omega
theorem hubReport_ne_ft {cause : Nat} {cls : FaultClass} {block phys addr : Nat} (h : cls ≠ .ft) : (hubReport cause cls block phys addr).cls ≠ .ft := h
theorem State.portState_report (s : State) {p : Nat} (hp : p < 16) {r : Report} (h : r.cls ≠ .ft) : (s.report r).portState p = s.portState p :=
  congrArg (fieldOf · 28 4) (State.hubNat_report (belowSheepdog_portStatus hp) s h)

theorem State.portState_excludePort_self (s : State) {p : Nat} (r : Nat) (hp : p < 16) : (s.excludePort p r).portState p = psExcluded := by
  by_cases h : s.portState p = psExcluded
  · exact (congrArg (State.portState · p) (if_pos h)).trans h
  · rw [State.excludePort_eq r h, State.portState_report _ hp (hubReport_ne_ft (by decide)), State.portState_enterState _ hp (by decide) (by decide) (by decide)]

/-- A port that is neither UP nor STANDBY keeps its state where another's changes. -/
theorem State.portState_enterState_other {p q st st' : Nat} (hp : p < 16) (hne : p ≠ q) (h : s.portState p = st) (hup : st ≠ psUp)
    (hsb : st ≠ psStandby) : (s.enterState q st').portState p = st := by
  have hraise : ((s.setPortState q st').raiseInt intPort).portState p = st :=
    (congrArg (fieldOf · 28 4) (State.hubNat_raiseInt_other _ _ (belowSheepdog_portStatus hp).2)).trans
      ((State.portState_setPortState_other s st' hne).trans h)
  rw [State.enterState, State.portsChanged_eq, State.portState_floodState _ _ _ _ _ _ hp, State.portState_noteRoutes _ hp]
  exact State.portState_notePools hup hsb hraise
theorem State.portState_excludePort_other {p q st : Nat} (r : Nat) (hp : p < 16) (hne : p ≠ q) (h : s.portState p = st) (hup : st ≠ psUp)
    (hsb : st ≠ psStandby) : (s.excludePort q r).portState p = st := by
  by_cases hq : s.portState q = psExcluded
  · exact (congrArg (State.portState · p) (if_pos hq)).trans h
  · have hdrop : (s.portDropped q r).portState p = st :=
      (State.portState_congr (s := s.portField q 24 4 r) rfl p).trans ((State.portState_hubSetN_other _ _ (by omega)).trans h)
    rw [State.excludePort_eq r hq, State.portState_report _ hp (hubReport_ne_ft (by decide)), State.portState_enterState_other hp hne hdrop hup hsb]

theorem State.hubNat_excludePort_setting {a : Nat} (ha : linkSetting a) (s : State) (p r : Nat) : (s.excludePort p r).hubNat a = s.hubNat a := by
  by_cases h : s.portState p = psExcluded
  · exact congrArg (State.hubNat · a) (if_pos h)
  · rw [State.excludePort_eq r h, State.hubNat_report ha.belowSheepdog _ (hubReport_ne_ft (by decide)), State.hubNat_enterState_setting ha]
    exact (State.hubNat_congr rfl a).trans (State.hubNat_portField_setting ha s p 24 4 r)

/-! ### When a port last began to train -/

theorem State.since_modPort (s : State) (q : Nat) (h : Port → Port) (hkeep : ∀ x, (h x).since = x.since) (p : Nat) :
    ((s.modPort q h).port p).since = (s.port p).since := by
  by_cases hpq : p = q
  · subst hpq
    rw [State.port_modPort]
    exact hkeep _
  · exact congrArg Port.since (SMap.get_set_other _ _ _ _ _ hpq)
theorem State.since_putLfl (s : State) (q : Nat) (m : LflMsg) (p : Nat) : ((s.putLfl q m).port p).since = (s.port p).since :=
  State.since_modPort s q (fun x => { x with replay := x.replay ++ [(x.txNext, flitsOf m, m)], txNext := (x.txNext + flitsOf m) % 65536,
                                             sent := x.sent + flitsOf m }) (fun _ => rfl) p
theorem State.since_floodState (s : State) (node dirs gen : Nat) (fenced : Bool) (ex : Option Nat) (p : Nat) :
    ((s.floodState node dirs gen fenced ex).port p).since = (s.port p).since := by
  unfold State.floodState
  split
  · rfl
  · refine foldl_keep (fun t => (t.port p).since) _ _ _ fun t q => ?_
    split
    · exact State.since_putLfl t q _ p
    · rfl
theorem State.since_enterState (s : State) (q st p : Nat) : ((s.enterState q st).port p).since = (s.port p).since := by
  rw [State.enterState, State.portsChanged_eq, State.since_floodState]
  exact congrArg Port.since (State.port_congr (by simp [State.poolsNoted]) p)
theorem State.since_excludePort (s : State) (q r p : Nat) : ((s.excludePort q r).port p).since = (s.port p).since := by
  by_cases h : s.portState q = psExcluded
  · exact congrArg (fun t : State => (t.port p).since) (if_pos h)
  · rw [State.excludePort_eq r h]
    have hreport (u : State) (x : Report) : ((u.report x).port p).since = (u.port p).since := congrArg Port.since (State.port_congr (by simp) p)
    have hfield : ((s.portField q 24 4 r).port p).since = (s.port p).since := congrArg Port.since (State.port_congr (by simp) p)
    rw [hreport, State.since_enterState, ← hfield]
    exact State.since_modPort (s.portField q 24 4 r) q Port.dropped (fun _ => rfl) p

/-! ### Light -/

theorem State.lightIn_noteBellwether (s : State) : s.noteBellwether.torus.lightIn = s.torus.lightIn := by
  unfold State.noteBellwether
  split <;> rfl
theorem State.lightIn_enterState (s : State) (p st : Nat) : (s.enterState p st).torus.lightIn = s.torus.lightIn := by
  have hpools : ((s.setPortState p st).raiseInt intPort).poolsNoted.torus.lightIn = s.torus.lightIn := by simp [State.poolsNoted, State.modTorus]
  have hreach : (((s.setPortState p st).raiseInt intPort).poolsNoted.hubCount LNK_ROUTE_CHANGES 1).noteReach.torus =
      ((s.setPortState p st).raiseInt intPort).poolsNoted.torus := by simp
  rw [State.enterState, State.portsChanged_eq, State.nodes_floodState, State.noteRoutes, State.lightIn_noteBellwether, hreach, hpools]
theorem State.lightIn_excludePort (s : State) (p r : Nat) : (s.excludePort p r).torus.lightIn = s.torus.lightIn := by
  by_cases h : s.portState p = psExcluded
  · exact congrArg (fun t : State => t.torus.lightIn) (if_pos h)
  · have htorus : (s.portDropped p r).torus = s.torus := by simp [State.portDropped]
    have hreport (u : State) (x : Report) : (u.report x).torus = u.torus := by simp
    rw [State.excludePort_eq r h, hreport, State.lightIn_enterState, htorus]
theorem State.lightIn_retrain (s : State) (p : Nat) (fresh : Bool) : (s.retrain p fresh).torus.lightIn = s.torus.lightIn := by
  unfold State.retrain
  rw [State.lightIn_enterState]
  simp

end

end Sys2Proof.Machine
end

section
/-! SUPPORT. Training of the optical ports, IDENT, the key exchange and rekeying (R475 to R477, R485, R550, R551). -/

namespace Sys2Proof.Machine
open Sys2Proof Sys2Proof.Claims

section
variable {s : State}

/-! ### Light and training -/

/-- The inputs that have light once one of them has changed. -/
def lightAfter (ls : List Nat) (k : Nat) (on : Bool) : List Nat := if on then k :: ls else ls.filter (· != k)
theorem mem_lightAfter_self (ls : List Nat) (k : Nat) (on : Bool) : k ∈ lightAfter ls k on ↔ on = true := by
  cases on <;> simp [lightAfter]
theorem mem_lightAfter_other (ls : List Nat) {j k : Nat} (on : Bool) (h : j ≠ k) : j ∈ lightAfter ls k on ↔ j ∈ ls := by
  cases on <;> simp [lightAfter, h]

/-- A port of an input whose light has changed. -/
def State.portLit (s : State) (on : Bool) (p : Nat) : State :=
  if s.unusedPort p then s
  else if on then
    (if s.portState p = psExcluded && fieldOf (s.hubNat (LNK_PORT_STATUS + 4 * p)) 24 4 = rsNoLight then s.retrain p true else s)
  else if s.portState p = psOff || s.portState p = psExcluded then s
  else s.excludePort p rsNoLight
theorem State.portLit_keeps (s : State) (on : Bool) (p : Nat) :
    (s.portLit on p).torus.lightIn = s.torus.lightIn ∧ (s.portLit on p).time = s.time ∧ (s.portLit on p).flash = s.flash := by
  unfold State.portLit
  split
  · exact ⟨rfl, rfl, rfl⟩
  · split
    · split
      · exact ⟨State.lightIn_retrain .., by simp, by simp⟩
      · exact ⟨rfl, rfl, rfl⟩
    · split
      · exact ⟨rfl, rfl, rfl⟩
      · exact ⟨State.lightIn_excludePort .., by simp, by simp⟩
/-- The ports of an input follow its light. -/
def State.portsLit (s : State) (k : Nat) (on : Bool) : State := ((List.range 4).map (· + 4 * k)).foldl (fun s p => s.portLit on p) s
theorem State.portsLit_keeps (s : State) (k : Nat) (on : Bool) :
    (s.portsLit k on).torus.lightIn = s.torus.lightIn ∧ (s.portsLit k on).time = s.time ∧ (s.portsLit k on).flash = s.flash :=
  ⟨foldl_keep (fun t => t.torus.lightIn) _ _ _ fun t p => (t.portLit_keeps on p).1, foldl_keep State.time _ _ _ fun t p => (t.portLit_keeps on p).2.1,
    foldl_keep State.flash _ _ _ fun t p => (t.portLit_keeps on p).2.2⟩

/-- The light of an input is noted. -/
def State.lightNoted (s : State) (k : Nat) (on : Bool) : State := s.modTorus (fun t => { t with lightIn := lightAfter t.lightIn k on })
theorem exec_lightChange_same {k : Nat} {on : Bool} (h : s.torus.lightIn.contains k = on) : exec (.lightChange k on) s = .next s :=
  congrArg Host.Outcome.next (if_pos (by rw [h]; simp))
theorem exec_lightChange {k : Nat} {on : Bool} (hk : k < 4) (h : s.torus.lightIn.contains k ≠ on) : exec (.lightChange k on) s =
    .next (if s.up then (s.lightNoted k on).portsLit k on else s.lightNoted k on) := by
  have hup : (s.lightNoted k on).up = s.up := rfl
  refine congrArg Host.Outcome.next ((if_neg (by simpa [hk] using h)).trans ?_)
  rw [← hup]
  cases h : (s.lightNoted k on).up
  · exact if_pos (by rw [Bool.not_eq_true']; exact h)
  · exact if_neg (by rw [Bool.not_eq_true', Bool.not_eq_false]; exact h)

theorem exec_trainPattern {p : Nat} (hup : s.up = true) (hp : p < 16) (hst : s.portState p = psExcluded)
    (hr : fieldOf (s.hubNat (LNK_PORT_STATUS + 4 * p)) 24 4 = rsNoTrain ∨ fieldOf (s.hubNat (LNK_PORT_STATUS + 4 * p)) 24 4 = rsLinkLost) :
    exec (.trainPattern p) s = .next (s.retrain p false) := congrArg Host.Outcome.next (if_pos (by simpa [hup, hp, hst] using hr))

/-- A port that trains at its limit is excluded. -/
def State.trainLimit (s : State) (p : Nat) : State :=
  if s.unusedPort p || !s.training p || s.time < (s.port p).since + s.hubNat LNK_TRAIN_TIMEOUT * 1000000 then s
  else s.excludePort p (if !s.torus.lightIn.contains (p / 4) then rsNoLight else if s.portState p = psRetraining then rsLinkLost else rsNoTrain)
theorem exec_trainTimeout (hup : s.up = true) : exec .trainTimeout s = .next ((List.range 16).foldl (fun s p => s.trainLimit p) s) :=
  congrArg Host.Outcome.next (if_neg (by simp [hup]))

/-- A used port that still trains in state `st` at its limit. -/
structure State.TrainsTooLong (s : State) (p st : Nat) : Prop where
  used : s.unusedPort p = false
  state : s.portState p = st
  due : (s.port p).since + s.hubNat LNK_TRAIN_TIMEOUT * 1000000 ≤ s.time

theorem State.portState_trainLimit_other {p q st : Nat} (hp : p < 16) (hne : p ≠ q) (h : s.portState p = st) (hup : st ≠ psUp) (hsb : st ≠ psStandby) :
    (s.trainLimit q).portState p = st := by
  unfold State.trainLimit
  split
  · exact h
  · exact State.portState_excludePort_other _ hp hne h hup hsb
/-- The limit of another port changes nothing of a port that trains. -/
theorem State.TrainsTooLong.other {p q st : Nat} (h : s.TrainsTooLong p st) (hp : p < 16) (hne : p ≠ q) (hup : st ≠ psUp) (hsb : st ≠ psStandby) :
    (s.trainLimit q).TrainsTooLong p st := by
  refine ⟨?_, State.portState_trainLimit_other hp hne h.state hup hsb, ?_⟩
  · unfold State.trainLimit
    split
    · exact h.used
    · exact (congrArg (fun v => Decidable.decide (portRole v = 0)) (State.hubNat_excludePort_setting (linkSetting_portCfg hp) s q _)).trans h.used
  · unfold State.trainLimit
    split
    · exact h.due
    · have htimeout (r : Nat) : (s.excludePort q r).hubNat LNK_TRAIN_TIMEOUT = s.hubNat LNK_TRAIN_TIMEOUT :=
        State.hubNat_excludePort_setting (.inl (by decide)) s q r
      have htime (r : Nat) : (s.excludePort q r).time = s.time := by simp
      rw [State.since_excludePort, htimeout, htime]
      exact h.due
theorem State.TrainsTooLong.excluded {p st : Nat} (h : s.TrainsTooLong p st) (hp : p < 16) (hst : st = psTraining ∨ st = psRetraining) :
    (s.trainLimit p).portState p = psExcluded := by
  have htrain : s.training p = true := by
    unfold State.training
    rw [h.state]
    simpa using hst
  unfold State.trainLimit
  rw [if_neg (by simp [h.used, htrain, h.due])]
  exact State.portState_excludePort_self s _ hp
theorem State.portState_trainLimit_excluded {p q : Nat} (hp : p < 16) (h : s.portState p = psExcluded) : (s.trainLimit q).portState p = psExcluded := by
  by_cases hpq : p = q
  · subst hpq
    unfold State.trainLimit
    split
    · exact h
    · exact State.portState_excludePort_self s _ hp
  · exact State.portState_trainLimit_other hp hpq h (by decide) (by decide)
/-- Every port that trains too long is excluded at the end of the round. -/
theorem State.portState_trainLimits {p st : Nat} (hp : p < 16) (hst : st = psTraining ∨ st = psRetraining) (l : List Nat) (hl : p ∈ l)
    (h : s.TrainsTooLong p st) : (l.foldl (fun s p => s.trainLimit p) s).portState p = psExcluded := by
  have hup : st ≠ psUp ∧ st ≠ psStandby := by rcases hst with rfl | rfl <;> decide
  induction l generalizing s with
  | nil => cases hl
  | cons q r ih =>
    rw [List.foldl_cons]
    by_cases hpq : p = q
    · subst hpq
      exact List.foldlRecOn (motive := fun (t : State) => t.portState p = psExcluded) r _ (h.excluded hp hst)
        fun t ht q _ => State.portState_trainLimit_excluded hp ht
    · exact ih ((List.mem_cons.mp hl).resolve_left hpq) (h.other hp hpq hup.1 hup.2)

/-! ### The end of training -/

section
variable {p : Nat} (hup : s.linksUp = true) (hp : p < 16) (htr : s.training p = true)
include hup hp htr

theorem exec_train (lanes : Nat) :
    exec (.train p lanes) s = .next ((s.modPort p (fun x => { x with lanes := x.lanes.filter (bitOf lanes) })).noteLanes p) :=
  congrArg Host.Outcome.next (if_pos (by simp [hup, hp, htr]))
theorem exec_portTrained {width : Nat} (hid : (s.port p).identOk = true) (hk : (s.port p).keyed = true) : exec (.portTrained p width) s =
    .next (if width < portWidthMin (s.portCfg p) then s.excludePort p rsBelowMin
      else (s.portField p 19 5 (min width 16)).enterState p (if portRole (s.portCfg p) = 8 then psStandby else psUp)) := by
  have hcfg : (s.portField p 19 5 (min width 16)).portCfg p = s.portCfg p := State.hubNat_portField_setting (linkSetting_portCfg hp) ..
  refine congrArg Host.Outcome.next ((if_neg (by simp [hup, hp, htr, hid, hk])).trans ?_)
  by_cases hw : width < portWidthMin (s.portCfg p)
  · rw [if_pos hw, if_pos hw]
  · rw [if_neg hw, if_neg hw]
    exact congrArg (fun c => (s.portField p 19 5 (min width 16)).enterState p (if portRole c = 8 then psStandby else psUp)) hcfg

/-- A port whose peer has said who it is. -/
def Port.identified (x : Port) (i : IdentMsg) : Port := { x with identOk := true, peerSerial := i.serial.toNat, keyed := false, kx := 0 }
/-- The peer that IDENT names is noted, and the module's own IDENT sent. -/
def State.identNoted (s : State) (p : Nat) (i : IdentMsg) : State :=
  (((s.portField p 7 9 i.node).portField p 3 4 i.port).modPort p (Port.identified · i)).sendIdent p
theorem exec_ident {i : IdentMsg} (hused : s.unusedPort p = false) (hc : s.carries p = false) (hf : s.portState p ≠ psFencedPeer) :
    exec (.ident p i) s = .next (if s.miswired p i then s.excludePort p rsMiswired
      else if (s.port p).lanes.length < max (portWidthMin (s.portCfg p)) i.widthMin then s.excludePort p rsBelowMin
      else if (s.identNoted p i).lowerEnd p then (s.identNoted p i).sendOffer p else s.identNoted p i) := by
  refine congrArg Host.Outcome.next ((if_neg (by simp [hup, hp, hused])).trans ?_)
  have hagain : (s.carries p || Decidable.decide (s.portState p = psFencedPeer)) = false := by simp [hc, hf]
  simp only [hagain, Bool.false_eq_true, if_false]
  exact if_neg (by simp [htr])

/-! ### The key exchange -/

section
variable {k : KeyxMsg}

/-- The half of an ACCEPT that is signed, the signature, and what both ends have then seen. -/
def State.acceptHalf (s : State) (sec : Nat) : List Byte := kxBody 2 0 (Config.ecPublic sec) s.credential []
def State.acceptSig (s : State) (k : KeyxMsg) (sec : Nat) : List Byte :=
  beBytes 96 (Config.ecdsaSign s.sec.ik (kxBody 1 0 k.share k.credential [] ++ (s.acceptHalf sec).take 312))
def State.acceptLog (s : State) (k : KeyxMsg) (sec : Nat) : List Byte :=
  kxBody 1 0 k.share k.credential [] ++ kxBody 2 0 (Config.ecPublic sec) s.credential (s.acceptSig k sec)
/-- A responder has taken an OFFER. -/
def State.offerTaken (s : State) (p : Nat) (k : KeyxMsg) : State :=
  ((s.drawn).installKeys p s.free k.share 0 (s.acceptLog k s.free)).modPort p (fun x =>
    { x with kx := 2, kxPeer := credKey k.credential, kxLog := s.acceptLog k s.free, kxAt := s.time, keyed := false })
theorem exec_keyxOffer (hid : (s.port p).identOk = true) (hlow : s.lowerEnd p = false) : exec (.keyxOffer p k) s =
    .next (if !s.credentialOk k.credential (s.port p).peerSerial then s.authFail p
      else (s.offerTaken p k).send (.portCtl p 0x03 [2, 0, Config.ecPublic s.free, leNat s.credential, beNat (s.acceptSig k s.free),
        kxTag ((s.offerTaken p k).port p).keyUp 0 ((s.acceptLog k s.free).drop 624)])) :=
  congrArg Host.Outcome.next (if_neg (by simp [hup, hp, htr, hid, hlow]))

/-- What the initiator has seen with the ACCEPT, its body, and the initiator's keys. -/
def acceptBody (k : KeyxMsg) : List Byte := kxBody 2 0 k.share k.credential (beBytes 96 k.signature)
def State.acceptKeyed (s : State) (p : Nat) (k : KeyxMsg) : State :=
  s.installKeys p (s.port p).kxSecret k.share 0 ((s.port p).kxLog ++ acceptBody k)
/-- The initiator has confirmed its keys. -/
def Port.confirmed (x : Port) (log : List Byte) : Port := { x with keyed := true, kxLog := log }
/-- The signature of a CONFIRM. -/
def State.confirmSig (s : State) (log : List Byte) : List Byte := beBytes 96 (Config.ecdsaSign s.sec.ik (log ++ (kxBody 3 0 0 [] []).take 312))
theorem exec_keyxAccept (hkx : (s.port p).kx = 1) : exec (.keyxAccept p k) s =
    .next (if !s.credentialOk k.credential (s.port p).peerSerial ||
        !Config.ecdsaVerify (credKey k.credential) ((s.port p).kxLog ++ (acceptBody k).take 312) k.signature then s.authFail p
      else if kxTag ((s.acceptKeyed p k).port p).keyDown 0 (acceptBody k) ≠ k.confirm then (s.acceptKeyed p k).authFail p
      else ((s.acceptKeyed p k).modPort p (Port.confirmed · ((s.port p).kxLog ++ acceptBody k))).send
        (.portCtl p 0x03 [3, 0, beNat ((s.acceptKeyed p k).confirmSig ((s.port p).kxLog ++ acceptBody k)),
          kxTag ((s.acceptKeyed p k).port p).keyUp 0 (kxBody 3 0 0 [] ((s.acceptKeyed p k).confirmSig ((s.port p).kxLog ++ acceptBody k)))])) :=
  congrArg Host.Outcome.next (if_neg (by simp [hup, hp, htr, hkx]))
theorem exec_keyxConfirm (hkx : (s.port p).kx = 2) : exec (.keyxConfirm p k) s =
    .next (if !Config.ecdsaVerify (s.port p).kxPeer ((s.port p).kxLog ++ (kxBody 3 0 0 [] (beBytes 96 k.signature)).take 312) k.signature ||
        kxTag (s.port p).keyDown 0 (kxBody 3 0 0 [] (beBytes 96 k.signature)) ≠ k.confirm then s.authFail p
      else s.modPort p (fun x => { x with keyed := true, kx := 0 })) :=
  congrArg Host.Outcome.next (if_neg (by simp [hup, hp, htr, hkx]))
end

end

theorem State.keyGen_installKeys (s : State) (p secret peer gen : Nat) (log : List Byte) :
    ((s.installKeys p secret peer gen log).port p).keyGen = gen ∧ ((s.installKeys p secret peer gen log).port p).kx = 0 ∧
      ((s.installKeys p secret peer gen log).port p).sent = 0 := by
  unfold State.installKeys
  dsimp only
  rw [State.port_modPort]
  exact ⟨rfl, rfl, rfl⟩

/-! ### Rekeying -/

section
variable {p : Nat} (hup : s.linksUp = true) (hp : p < 16) (hc : s.carries p = true) (hk : (s.port p).keyed = true)
include hup hp hc hk

/-- A rekey has begun. -/
def State.rekeyBegun (s : State) (p gen : Nat) : State :=
  (s.drawn).modPort p (fun q => { q with kx := 3, kxSecret := s.free, kxAt := s.time, kxLog := kxBody 4 gen (Config.ecPublic s.free) [] [] })
theorem exec_rekeyTimer (hkx : (s.port p).kx = 0)
    (hdue : (s.port p).keyedAt + s.hubNat LNK_REKEY_MS * 1000000 ≤ s.time ∨ 2 ^ 32 ≤ (s.port p).sent) : exec (.rekeyTimer p) s =
      .next ((s.rekeyBegun p (((s.port p).keyGen + 1) % 65536)).send
        (.portCtl p 0x03 [4, ((s.port p).keyGen + 1) % 65536, Config.ecPublic s.free])) :=
  congrArg Host.Outcome.next (if_neg (by simpa [hup, hp, hc, hk, hkx, or_iff_not_imp_left] using hdue))
omit hp in
theorem exec_rekeyTimer_early (ht : s.time < (s.port p).keyedAt + s.hubNat LNK_REKEY_MS * 1000000) (hs : (s.port p).sent < 2 ^ 32) :
    exec (.rekeyTimer p) s = .next s := congrArg Host.Outcome.next (if_pos (by simp [hup, hc, hk]; omega))

/-- A peer's REKEY has been taken. -/
def State.rekeyTaken (s : State) (p share gen : Nat) : State :=
  ((s.drawn).installKeys p s.free share gen (kxBody 4 gen share [] [] ++ kxBody 5 gen (Config.ecPublic s.free) [] [])).hubCount
    (LNK_REKEYS + 0x20 * p) 1
theorem exec_keyxRekey {share : Nat} (h : ¬((s.port p).kx = 3 ∧ s.lowerEnd p = true)) : exec (.keyxRekey p share) s =
    .next ((s.rekeyTaken p share (((s.port p).keyGen + 1) % 65536)).send
      (.portCtl p 0x03 [5, ((s.port p).keyGen + 1) % 65536, Config.ecPublic s.free])) :=
  congrArg Host.Outcome.next (if_neg (by simpa [hup, hp, hc, hk] using h))
/-- The answer to a REKEY of this end has been taken. -/
def State.ackTaken (s : State) (p share gen : Nat) : State :=
  (s.installKeys p (s.port p).kxSecret share gen ((s.port p).kxLog ++ kxBody 5 gen share [] [])).hubCount (LNK_REKEYS + 0x20 * p) 1
omit hk in
theorem exec_keyxAck {share : Nat} (hkx : (s.port p).kx = 3) :
    exec (.keyxAck p share) s = .next (s.ackTaken p share (((s.port p).keyGen + 1) % 65536)) :=
  congrArg Host.Outcome.next (if_neg (by simp [hup, hp, hc, hkx]))

end

/-- Keys installed and counted. -/
theorem State.keyed_hubCount (s : State) (p secret peer gen : Nat) (log : List Byte) :
    (((s.installKeys p secret peer gen log).hubCount (LNK_REKEYS + 0x20 * p) 1).port p).keyGen = gen ∧
    (((s.installKeys p secret peer gen log).hubCount (LNK_REKEYS + 0x20 * p) 1).port p).sent = 0 ∧
    (((s.installKeys p secret peer gen log).hubCount (LNK_REKEYS + 0x20 * p) 1).port p).kx = 0 ∧
    ((s.installKeys p secret peer gen log).hubCount (LNK_REKEYS + 0x20 * p) 1).hubNat (LNK_REKEYS + 0x20 * p) =
      min 0xFFFFFFFF (s.hubNat (LNK_REKEYS + 0x20 * p) + 1) := by
  have hport : ((s.installKeys p secret peer gen log).hubCount (LNK_REKEYS + 0x20 * p) 1).port p = (s.installKeys p secret peer gen log).port p :=
    State.port_congr (by simp) p
  obtain ⟨hgen, hkx, hsent⟩ := s.keyGen_installKeys p secret peer gen log
  rw [hport]
  exact ⟨hgen, hsent, hkx, (State.hubNat_hubCount_self ..).trans (by rw [State.hubNat_congr (s := s) (t := s.installKeys p secret peer gen log) rfl])⟩

end

section
variable {s : State} {p : Nat}

theorem State.port_noteLanes (s : State) (p q : Nat) : (s.noteLanes p).port q = s.port q := State.port_congr (by simp) q
theorem State.fieldOf_portField_width (s : State) (p width : Nat) :
    fieldOf ((s.portField p 19 5 (min width 16)).hubNat (LNK_PORT_STATUS + 4 * p)) 19 5 = min width 16 := by
  rw [State.portField, State.hubNat_hubSetN_self]
  exact fieldOf_withField_self _ (by decide) (by omega)
theorem State.port_identNoted (s : State) (p : Nat) (i : IdentMsg) : ((s.identNoted p i).port p).identOk = true ∧
    ((s.identNoted p i).port p).peerSerial = i.serial.toNat ∧ ((s.identNoted p i).port p).keyed = false := by
  have h : (s.identNoted p i).port p = (((s.portField p 7 9 i.node).portField p 3 4 i.port).port p).identified i :=
    State.port_modPort ((s.portField p 7 9 i.node).portField p 3 4 i.port) p (Port.identified · i)
  rw [h]
  exact ⟨rfl, rfl, rfl⟩
theorem State.tx_identNoted (s : State) (p : Nat) (i : IdentMsg) : (s.identNoted p i).tx.length = s.tx.length + 1 := by
  have htx : (((s.portField p 7 9 i.node).portField p 3 4 i.port).modPort p (Port.identified · i)).tx = s.tx := by simp
  rw [← htx]
  exact List.length_append
theorem State.mem_identNoted (s : State) (p : Nat) (i : IdentMsg) : (s.identNoted p i).mem = s.mem := by
  simp [State.identNoted, State.sendIdent]

end

/-- Settles O47: the life of an optical port, from its light to its rekeys. -/
theorem opticalTraining : Obligations.OpticalTraining := by
  refine ⟨fun s k on hk => ?_, fun s p r hp => s.portState_excludePort_self r hp,
    fun s p hup hp => ⟨fun h => congrArg Host.Outcome.next (if_neg (by simp [h])), exec_trainPattern hup hp⟩,
    fun s hup => ⟨_, exec_trainTimeout hup, fun p hp hused htr hdue => ?_⟩,
    fun s p hup hp htr => ⟨fun lanes => ⟨_, exec_train hup hp htr lanes, ?_, by simp, by simp, fun q hq => ?_⟩,
      fun width => ⟨fun h => congrArg Host.Outcome.next (if_pos (by rcases h with h | h <;> simp [h])), fun hid hk hw => ?_,
        fun hid hk hw => ⟨s.portField p 19 5 (min width 16), ?_, State.fieldOf_portField_width .., by simp, by simp⟩⟩,
      fun i hused hc hf => ⟨fun hm => ?_, fun hm hl => ⟨s.identNoted p i, ?_, (s.port_identNoted p i).1, (s.port_identNoted p i).2.1,
        (s.port_identNoted p i).2.2, s.tx_identNoted p i, s.mem_identNoted p i⟩⟩⟩,
    fun s p k hup hp htr hid => ⟨fun hlow => ?_, fun body log hkx hbody hlog => ?_, fun body hkx hbody => ?_, fun hk => ?_, fun hk => ?_⟩,
    fun s p gen hup hp hc hk hgen => ⟨fun hkx hdue => ?_, exec_rekeyTimer_early hup hc hk, fun share => ⟨fun h => ?_, fun h3 hlow => ?_, fun h3 => ?_, fun h3 => ?_⟩,
      fun h3 hdue => ⟨s.hubCount (LNK_AUTH_FAILS + 0x20 * p) 1, ?_, by simp, State.hubNat_hubCount_self .., by simp⟩, fun ht => ?_⟩⟩
  · by_cases h : s.torus.lightIn.contains k = on
    · exact ⟨s, exec_lightChange_same h, by rw [← h]; exact List.contains_iff_mem.symm, fun j hj => Iff.rfl, rfl, rfl⟩
    · refine ⟨_, exec_lightChange hk h, ?_⟩
      have hlit (t : State) (ht : t.torus.lightIn = lightAfter s.torus.lightIn k on) (htime : t.time = s.time) (hflash : t.flash = s.flash) :
          (k ∈ t.torus.lightIn ↔ on = true) ∧ (∀ j, j ≠ k → (j ∈ t.torus.lightIn ↔ j ∈ s.torus.lightIn)) ∧ t.time = s.time ∧ t.flash = s.flash := by
        rw [ht]
        exact ⟨mem_lightAfter_self .., fun j hj => mem_lightAfter_other _ _ hj, htime, hflash⟩
      obtain ⟨hl, ht, hf⟩ := (s.lightNoted k on).portsLit_keeps k on
      cases s.up
      · exact hlit (s.lightNoted k on) rfl rfl rfl
      · exact hlit _ hl ht hf
  · refine State.portState_trainLimits (st := s.portState p) hp ?_ _ (List.mem_range.mpr hp) ⟨hused, rfl, hdue⟩
    simpa [State.training] using htr
  · rw [State.port_noteLanes, State.port_modPort]
  · rw [State.port_noteLanes]
    exact SMap.get_set_other _ _ _ _ _ hq
  · rw [exec_portTrained hup hp htr hid hk, if_pos hw]
  · rw [exec_portTrained hup hp htr hid hk, if_neg (by omega)]
  · rw [exec_ident hup hp htr hused hc hf, if_pos hm]
  · rw [exec_ident hup hp htr hused hc hf, if_neg (by simp [hm]), if_neg (by omega)]
  · have hexec := exec_keyxOffer (k := k) hup hp htr hid hlow
    cases hcred : s.credentialOk k.credential (s.port p).peerSerial
    · rw [if_neg (by decide)]
      exact hexec.trans (congrArg _ (if_pos (by simp [hcred])))
    · rw [if_pos rfl]
      have hport : (s.offerTaken p k).port p = _ := State.port_modPort _ p _
      refine ⟨_, hexec.trans (congrArg _ (if_neg (by simp [hcred]))), ?_, ?_, ?_, List.length_append, rfl, rfl⟩
      · exact congrArg Port.kx hport
      · exact congrArg Port.keyed hport
      · exact congrArg Port.kxPeer hport
  · subst hbody hlog
    have hexec := exec_keyxAccept (k := k) hup hp htr hkx
    by_cases hok : s.credentialOk k.credential (s.port p).peerSerial = true ∧
        Config.ecdsaVerify (credKey k.credential) ((s.port p).kxLog ++ (acceptBody k).take 312) k.signature = true
    · refine (if_pos hok).mpr ?_
      by_cases htag : kxTag ((s.acceptKeyed p k).port p).keyDown 0 (acceptBody k) = k.confirm
      · refine (if_pos htag).mpr ⟨_, hexec.trans (congrArg _ ((if_neg (by simp [hok])).trans (if_neg (not_not.mpr htag)))), ?_, ?_, List.length_append, rfl⟩
        · exact congrArg Port.keyed (State.port_modPort (s.acceptKeyed p k) p (Port.confirmed · ((s.port p).kxLog ++ acceptBody k)))
        · exact (congrArg Port.keyGen (State.port_modPort (s.acceptKeyed p k) p (Port.confirmed · ((s.port p).kxLog ++ acceptBody k)))).trans
            (s.keyGen_installKeys p (s.port p).kxSecret k.share 0 ((s.port p).kxLog ++ acceptBody k)).1
      · exact (if_neg htag).mpr (hexec.trans (congrArg _ ((if_neg (by simp [hok])).trans (if_pos htag))))
    · refine (if_neg hok).mpr (hexec.trans (congrArg _ (if_pos ?_)))
      simpa using not_and_or.mp hok
  · subst hbody
    have hexec := exec_keyxConfirm (k := k) hup hp htr hkx
    by_cases hok : Config.ecdsaVerify (s.port p).kxPeer ((s.port p).kxLog ++ (kxBody 3 0 0 [] (beBytes 96 k.signature)).take 312) k.signature = true ∧
        kxTag (s.port p).keyDown 0 (kxBody 3 0 0 [] (beBytes 96 k.signature)) = k.confirm
    · exact (if_pos hok).mpr ⟨_, hexec.trans (congrArg _ (if_neg (by simp [hok]))), State.port_modPort .., rfl, rfl⟩
    · refine (if_neg hok).mpr (hexec.trans (congrArg _ (if_pos ?_)))
      simpa using not_and_or.mp hok
  · have hup' : s.up = true := by simp only [State.linksUp, Bool.and_eq_true] at hup; exact hup.1
    exact congrArg Host.Outcome.next (if_pos (by simp [hup', hp, htr, hid, hk]))
  · exact congrArg Host.Outcome.next (if_neg (by simp [hk]))
  · subst hgen
    have hport : (s.rekeyBegun p (((s.port p).keyGen + 1) % 65536)).port p = _ := State.port_modPort _ p _
    exact ⟨_, exec_rekeyTimer hup hp hc hk hkx hdue, congrArg Port.kx hport, congrArg Port.kxSecret hport, (congrArg Port.keyGen hport).trans rfl, rfl, rfl⟩
  · subst hgen
    obtain ⟨hgen, hsent, hkx, hcount⟩ := s.drawn.keyed_hubCount p s.free share (((s.port p).keyGen + 1) % 65536)
      (kxBody 4 (((s.port p).keyGen + 1) % 65536) share [] [] ++ kxBody 5 (((s.port p).keyGen + 1) % 65536) (Config.ecPublic s.free) [] [])
    refine ⟨_, exec_keyxRekey hup hp hc hk ?_, hgen, hsent, hkx, hcount, rfl, rfl⟩
    rcases h with h | h <;> simp [h]
  · exact congrArg Host.Outcome.next (if_pos (by simp [h3, hlow]))
  · subst hgen
    obtain ⟨hgen, hsent, hkx, hcount⟩ := s.keyed_hubCount p (s.port p).kxSecret share (((s.port p).keyGen + 1) % 65536)
      ((s.port p).kxLog ++ kxBody 5 (((s.port p).keyGen + 1) % 65536) share [] [])
    exact ⟨_, exec_keyxAck hup hp hc h3, hgen, hkx, rfl, hcount, rfl⟩
  · exact congrArg Host.Outcome.next (if_pos (by simp [h3]))
  · have hup' : s.up = true := by simp only [State.linksUp, Bool.and_eq_true] at hup; exact hup.1
    exact congrArg Host.Outcome.next (if_pos (by simp [hup', hp, h3, hdue]))
  · exact congrArg Host.Outcome.next (if_neg (by simp; omega))

end Sys2Proof.Machine
end

section
/-! SUPPORT. Bring-up, heat, faults and window keys of a commons site (R505 to R510, R526 to R534, R552, R553). -/

namespace Sys2Proof.Machine
open Sys2Proof Sys2Proof.Claims

section
variable {s : State} {n : Nat}

/-! ### Sites and their registers -/

@[simp] theorem State.site_setSite (s : State) (n : Nat) (x : Site) : (s.setSite n x).site n = x := SMap.get_set_self ..
@[simp] theorem State.site_modSite (s : State) (n : Nat) (f : Site → Site) : (s.modSite n f).site n = f (s.site n) := SMap.get_set_self ..
theorem State.site_congr {t : State} (h : t.sites = s.sites) (n : Nat) : t.site n = s.site n := congrArg (SMap.get Site.empty · n) h
theorem State.cmnSt_congr {t : State} (h : t.hub = s.hub) (n : Nat) : t.cmnSt n = s.cmnSt n := congrArg (· % 16) (State.hubNat_congr h _)

theorem State.siteLive_iff : s.siteLive n = true ↔ s.up = true ∧ isCommonsSite n = true ∧ (s.cmnSt n = cmnActive ∨ s.cmnSt n = cmnStandby) := by
  simp [State.siteLive, and_assoc]
theorem State.siteLive_congr {t : State} (hboot : t.boot = s.boot) (hst : t.cmnSt n = s.cmnSt n) : t.siteLive n = s.siteLive n := by
  simp only [State.siteLive, State.up, hboot, hst]
/-- A register of a site other than its status may be written without a change of its state. -/
theorem State.cmnSt_hubSetN_other (s : State) {n off : Nat} (v : Nat) (h : cmnOff n 4 ≠ off) : (s.hubSetN off v).cmnSt n = s.cmnSt n :=
  congrArg (· % 16) (State.hubNat_hubSetN_other _ _ _ _ h)
theorem State.cmnSt_setCmnSt (s : State) (n : Nat) {st : Nat} (h : st < 16) : (s.setCmnSt n st).cmnSt n = st := by
  have hf := fieldOf_withField_self (s.hubNat (cmnOff n 4)) (lo := 0) (w := 4) (by decide) h
  rw [State.cmnSt, State.setCmnSt, State.hubNat_hubSetN_self]
  rw [fieldOf, Nat.pow_zero, Nat.div_one] at hf
  exact hf
theorem cmnOff_ne {n a b : Nat} (h : a ≠ b) : cmnOff n a ≠ cmnOff n b := fun e => h (Nat.add_left_cancel e)

/-! ### Discovery -/

section
variable {d : DiscoverMsg} (hup : s.up = true) (hn : isCommonsSite n = true) (hst : s.cmnSt n = cmnDiscovering)
include hup hn hst

/-- What a site declares is shown in its registers. -/
def State.declared (s : State) (n : Nat) (d : DiscoverMsg) : State :=
  ((((s.hubSetN (cmnOff n 8) d.declare).hubSetN (cmnOff n 0x0C) (d.device * 65536 + d.vendor)).hubSet (cmnOff n 0x10) d.serial).hubSetN
    (cmnOff n 0x1C) d.respNs).setCmnSt n cmnTraining
/-- A site once it has been discovered. -/
def Site.discovered (x : Site) (d : DiscoverMsg) (now : Nat) : Site :=
  { x with strap := d.strap, stepping := d.stepping, measCount := d.measCount, nomMv := d.nomMv, pmaxW := d.pmaxW,
           windowMib := d.windowMib, step := 3, beatAt := now }
theorem exec_discover : exec (.discover n d) s =
    .next (if d.strap ≠ s.ident.pad n then (((s.setSite n Site.empty).setCmnSt n cmnOffSt).strapErr n).advance
      else if !discoverOk d || !rolesOk (s.cmnCfg n) d.declare then s.mismatch n
      else ((s.declared n d).modSite n (Site.discovered · d s.time)).checkPair n) :=
  congrArg Host.Outcome.next (if_neg (by simp [hup, hn, hst]))

end

theorem State.hubNat_declared (s : State) (n : Nat) (d : DiscoverMsg) : (s.declared n d).hubNat (cmnOff n 8) = d.declare % 2 ^ 64 := by
  have hserial (t : State) : (t.hubSet (cmnOff n 0x10) d.serial).hubNat (cmnOff n 8) = t.hubNat (cmnOff n 8) :=
    congrArg BitVec.toNat (State.hubGet_hubSet_other _ _ _ _ (cmnOff_ne (by decide)))
  rw [State.declared, State.setCmnSt, State.hubNat_hubSetN_other _ _ _ _ (cmnOff_ne (by decide)),
    State.hubNat_hubSetN_other _ _ _ _ (cmnOff_ne (by decide)), hserial, State.hubNat_hubSetN_other _ _ _ _ (cmnOff_ne (by decide)),
    State.hubNat_hubSetN_self]
theorem declare_lt_of_discoverOk {d : DiscoverMsg} (h : discoverOk d = true) : d.declare < 256 := by
  simp only [discoverOk, Bool.and_eq_true, decide_eq_true_eq] at h
  simp_all only
theorem State.frame_declared (s : State) (n : Nat) (d : DiscoverMsg) : (s.declared n d).tx = s.tx ∧ (s.declared n d).mem = s.mem :=
  ⟨by simp [State.declared, State.setCmnSt], by simp [State.declared, State.setCmnSt]⟩

/-! ### Management messages of bring-up -/

theorem State.site_askMgmt (s : State) (n code : Nat) (args : List Nat) :
    (s.askMgmt n code args).site n = { s.site n with mgmt := some (code, args) } :=
  State.site_modSite s n (fun x => { x with mgmt := some (code, args) })
theorem State.site_mgmtDone (s : State) (n : Nat) : (s.mgmtDone n).site n = { s.site n with mgmt := none } := State.site_modSite s n _

section
variable (hup : s.up = true) (hst : s.cmnSt n = cmnTraining)
include hup hst

/-- The number of clusters of a trained mainband is open. -/
def State.clustersShown (s : State) (n : Nat) : State :=
  s.drawn.hubSetN (cmnOff n 4) (withField (s.hubNat (cmnOff n 4)) 8 7 (s.free % 101))
/-- A site that is asked to configure itself. -/
def State.configuring (s : State) (n : Nat) : State :=
  ((s.clustersShown n).modSite n (fun x => { x with step := 4 })).askMgmt n 2 ((s.clustersShown n).configureArgs n)
theorem exec_configure (h3 : (s.site n).step = 3) : exec (.configure n) s =
    .next (if s.free % 101 < 90 then (s.clustersShown n).fenceSite n else s.configuring n) :=
  congrArg Host.Outcome.next (if_neg (by simp [hup, hst, h3]))
theorem exec_configureAck (h4 : (s.site n).step = 4) : exec (.configureAck n true) s =
    .next ((s.modSite n (fun x => { x with step := 5 })).mgmtDone n) := congrArg Host.Outcome.next (if_neg (by simp [hup, hst, h4]))
theorem exec_measureReq {b : Nat} (hn : isCommonsSite n = true) (h5 : (s.site n).step = 5) (hb : b < 16) :
    exec (.measureReq n b) s = .next (s.askMgmt n 4 [b]) := congrArg Host.Outcome.next (if_pos (by simp [hup, hst, hn, h5, hb]))

/-- A block measured at bring-up is kept. -/
def State.blockKept (s : State) (n b : Nat) (d : List Byte) : State :=
  s.setSite n { s.site n with measures := (s.site n).measures.set b ((d ++ zeros 48).take 48), mgmt := none }
theorem exec_measure_bringUp {b : Nat} {d : List Byte} (hn : isCommonsSite n = true) (h5 : (s.site n).step = 5)
    (hm : (s.site n).mgmt = some (4, [b])) (hb : b < (s.site n).measCount) (hpair : bitOf (s.cmnCfg n) 8 = false) : exec (.measure n b d) s =
      .next (if (List.range (s.site n).measCount).all (fun i => (((s.blockKept n b d).site n).measures.find i).isSome) then
        (s.blockKept n b d).afterMeasures n else s.blockKept n b d) := by
  have hcfg : (s.blockKept n b d).cmnCfg n = s.cmnCfg n := rfl
  have hsame : (s.blockKept n b d).cmnSt n = s.cmnSt n := rfl
  have halone : (s.blockKept n b d).partnerOf n = none := if_neg (by rw [hcfg]; simp [hpair])
  have hcheck : (s.blockKept n b d).checkPair n = s.blockKept n b d := by
    simp only [State.checkPair, halone]
  refine congrArg Host.Outcome.next ((if_neg (by simp [hup, hn, hm])).trans ((if_pos (by simp [hst, h5])).trans ((if_pos hb).trans ?_)))
  refine (congrArg (fun u : State => if (decide (u.cmnSt n = cmnTraining) &&
    (List.range (s.site n).measCount).all (fun i => ((u.site n).measures.find i).isSome)) then u.afterMeasures n else u) hcheck).trans ?_
  simp only [hsame, hst, decide_true, Bool.true_and]

end

/-! ### A live site -/

section
variable (hlive : s.siteLive n = true)
include hlive

theorem State.not_training_of_live : s.cmnSt n ≠ cmnTraining := by
  obtain ⟨-, -, h⟩ := State.siteLive_iff.mp hlive
  rcases h with h | h <;> rw [h] <;> decide

/-- A block read for an attestation has come. -/
def State.blockRead (s : State) (n b : Nat) : State :=
  s.setSite n { s.site n with mgmt := none, toMeasure := (s.site n).toMeasure.filter (· != b) }
theorem exec_measure_live {b : Nat} {d old : List Byte} (hm : (s.site n).mgmt = some (4, [b])) (hold : (s.site n).measures.find b = some old) :
    exec (.measure n b d) s = .next ((if old != (d ++ zeros 48).take 48 then (s.blockRead n b).fenceSite n else s.blockRead n b).finishAttest) := by
  obtain ⟨hup, hn, -⟩ := State.siteLive_iff.mp hlive
  refine congrArg Host.Outcome.next ((if_neg (by simp [hup, hn, hm])).trans ((if_neg ?_).trans ((if_pos hlive).trans ?_)))
  · simp [State.not_training_of_live hlive]
  · simp only [hold]
    rfl

/-! ### Heat and power -/

/-- The sites at their fencing limit once one of them has been read. -/
def hotAfter (l : List Nat) (n temp : Nat) : List Nat := if 115 ≤ temp then n :: l.filter (· != n) else l.filter (· != n)
omit hlive in
/-- Fewer than three sites at their limit do not trip. -/
theorem State.noteSiteHeat_eq {temp : Nat} (h : temp < 115 ∨ (hotAfter s.pow.hotSites n temp).length < 3) : s.noteSiteHeat n temp =
    ({ s with pow := { s.pow with hotSites := hotAfter s.pow.hotSites n temp } } : State).monitor monSite
      (3 ≤ (hotAfter s.pow.hotSites n temp).length) := by
  refine if_neg ?_
  simp only [Bool.and_eq_true, decide_eq_true_eq, not_and]
  exact fun h1 h2 => absurd h2 (by have := h.resolve_left (by omega); exact Nat.not_le.mpr this)
omit hlive in
theorem State.hub_noteSiteHeat {temp : Nat} (h : temp < 115 ∨ (hotAfter s.pow.hotSites n temp).length < 3) : (s.noteSiteHeat n temp).hub = s.hub := by
  rw [State.noteSiteHeat_eq h]
  simp
omit hlive in
/-- A reading that does not trip keeps everything but the monitors. -/
theorem State.noteSiteHeat_keeps {temp : Nat} (h : temp < 115 ∨ (hotAfter s.pow.hotSites n temp).length < 3) :
    (s.noteSiteHeat n temp).tx = s.tx ∧ (s.noteSiteHeat n temp).boot = s.boot ∧ (s.noteSiteHeat n temp).sites = s.sites ∧
      (s.noteSiteHeat n temp).noc = s.noc ∧ (s.noteSiteHeat n temp).mem = s.mem ∧
      (s.noteSiteHeat n temp).pow.hotSites = hotAfter s.pow.hotSites n temp := by
  rw [State.noteSiteHeat_eq h]
  refine ⟨by simp, by simp, by simp, by simp, by simp, by simp⟩

/-- A heartbeat is noted. -/
def State.beatNoted (s : State) (n temp : Nat) : State :=
  let t := s.modSite n (fun x => { x with beatAt := s.time })
  let t := t.hubSetN (cmnOff n 0x18) (withField (t.hubNat (cmnOff n 0x18)) 24 8 (min temp 255))
  t.noteSiteHeat n (max temp (fieldOf (t.hubNat (cmnOff n 0x18)) 16 8))
/-- The sensors of a heartbeat before its heat is judged. -/
def State.beatShown (s : State) (n temp : Nat) : State :=
  (s.modSite n (fun x => { x with beatAt := s.time })).hubSetN (cmnOff n 0x18) (withField (s.hubNat (cmnOff n 0x18)) 24 8 (min temp 255))
omit hlive in
theorem State.beatNoted_eq (s : State) (n temp : Nat) : s.beatNoted n temp = (s.beatShown n temp).noteSiteHeat n
    (max temp (fieldOf ((s.beatShown n temp).hubNat (cmnOff n 0x18)) 16 8)) := rfl
omit hlive in
theorem State.fieldOf_beatShown (s : State) (n temp : Nat) :
    fieldOf ((s.beatShown n temp).hubNat (cmnOff n 0x18)) 24 8 = min temp 255 ∧
    fieldOf ((s.beatShown n temp).hubNat (cmnOff n 0x18)) 16 8 = fieldOf (s.hubNat (cmnOff n 0x18)) 16 8 := by
  rw [State.beatShown, State.hubNat_hubSetN_self]
  exact ⟨fieldOf_withField_self _ (by decide) (by omega), fieldOf_withField_other _ _ (by decide) (by decide)⟩
theorem State.siteLive_beatNoted {temp : Nat} (h : max temp (fieldOf ((s.beatShown n temp).hubNat (cmnOff n 0x18)) 16 8) < 115 ∨
    (hotAfter s.pow.hotSites n (max temp (fieldOf ((s.beatShown n temp).hubNat (cmnOff n 0x18)) 16 8))).length < 3) :
    (s.beatNoted n temp).siteLive n = true := by
  rw [State.beatNoted_eq]
  refine (State.siteLive_congr (s := s) ?_ ?_).trans hlive
  · exact (State.noteSiteHeat_keeps (s := s.beatShown n temp) h).2.1
  · rw [State.cmnSt_congr (State.hub_noteSiteHeat (s := s.beatShown n temp) h)]
    exact State.cmnSt_hubSetN_other (s := s.modSite n (fun x => { x with beatAt := s.time })) _ (cmnOff_ne (by decide))

theorem exec_heartbeat {temp fl : Nat} (h3 : 3 ≤ (s.site n).step) : exec (.heartbeat n temp fl) s =
    .next (if (s.beatNoted n temp).siteLive n then (s.beatNoted n temp).siteHeat n temp false else s.beatNoted n temp) := by
  obtain ⟨hup, hn, -⟩ := State.siteLive_iff.mp hlive
  exact congrArg Host.Outcome.next (if_neg (by simp [hup, hn]; omega))

theorem exec_heartbeatTimeout : exec (.heartbeatTimeout n) s = .next (if (s.site n).beatAt + 1000000 ≤ s.time then s.fenceSite n else s) := by
  refine congrArg Host.Outcome.next ?_
  rw [hlive, Bool.true_and]
  by_cases h : (s.site n).beatAt + 1000000 ≤ s.time
  · rw [if_pos h, if_pos (by simpa using h)]
  · rw [if_neg h, if_neg (by simpa using h)]
theorem exec_throttle (w : Nat) : exec (.throttle n w) s = .next (s.throttle n w) := congrArg Host.Outcome.next (if_pos hlive)

/-- The hub's reading of a site is shown. -/
def State.powerShown (s : State) (n mean temp : Nat) : State := s.hubSetN (cmnOff n 0x18)
  (fieldOf (s.hubNat (cmnOff n 0x18)) 24 8 * 2 ^ 24 + min temp 255 * 2 ^ 16 + min mean 65535)
/-- The hub's reading of a site is noted. -/
def State.powerNoted (s : State) (n mean temp : Nat) : State :=
  (s.powerShown n mean temp).noteSiteHeat n (max temp (fieldOf (s.hubNat (cmnOff n 0x18)) 24 8))
theorem exec_commonsPowerCheck {mean peak temp : Nat} : exec (.commonsPowerCheck n mean peak temp) s =
    .next (if !(s.powerNoted n mean temp).siteLive n then s.powerNoted n mean temp
      else if 110 < peak then (s.powerNoted n mean temp).fenceSite n
      else (s.powerNoted n mean temp).siteHeat n (max temp (fieldOf (s.hubNat (cmnOff n 0x18)) 24 8))
        (Decidable.decide ((s.powerNoted n mean temp).siteBudget n * 100 < mean))) := by
  obtain ⟨hup, hn, -⟩ := State.siteLive_iff.mp hlive
  refine congrArg Host.Outcome.next ((if_neg (by simp [hup, hn])).trans ?_)
  simp only [hlive, if_true]
  rfl
omit hlive in
theorem State.fieldOf_powerShown (s : State) (n mean : Nat) {temp : Nat} (ht : temp < 256) :
    fieldOf ((s.powerShown n mean temp).hubNat (cmnOff n 0x18)) 0 16 = min mean 65535 ∧
    fieldOf ((s.powerShown n mean temp).hubNat (cmnOff n 0x18)) 16 8 = temp := by
  have hf := fieldOf_lt (s.hubNat (cmnOff n 0x18)) 24 8
  rw [State.powerShown, State.hubNat_hubSetN_self]
  unfold fieldOf at hf ⊢
  generalize s.hubNat (cmnOff n 0x18) / 2 ^ 24 % 2 ^ 8 = v at hf ⊢
  omega
section
variable {mean temp : Nat} (hcool : max temp (fieldOf (s.hubNat (cmnOff n 0x18)) 24 8) < 105)
include hcool
omit hlive in
theorem State.hub_powerNoted : (s.powerNoted n mean temp).hub = (s.powerShown n mean temp).hub := State.hub_noteSiteHeat (.inl (by omega))
theorem State.siteLive_powerNoted : (s.powerNoted n mean temp).siteLive n = true := by
  refine (State.siteLive_congr (s := s) ?_ ?_).trans hlive
  · exact (State.noteSiteHeat_keeps (.inl (by omega))).2.1
  · rw [State.cmnSt_congr (State.hub_powerNoted hcool)]
    exact State.cmnSt_hubSetN_other _ _ (cmnOff_ne (by decide))
omit hlive in
theorem State.siteBudget_powerNoted : (s.powerNoted n mean temp).siteBudget n = s.siteBudget n := by
  have hcfg : (s.powerNoted n mean temp).cmnCfg n = s.cmnCfg n :=
    (State.hubNat_congr (State.hub_powerNoted hcool) _).trans (State.hubNat_hubSetN_other _ _ _ _ (cmnOff_ne (by decide)))
  have hsite : (s.powerNoted n mean temp).site n = s.site n :=
    State.site_congr (State.noteSiteHeat_keeps (s := s.powerShown n mean temp) (.inl (by omega))).2.2.1 n
  rw [State.siteBudget, hcfg, hsite, State.siteBudget]
end

/-! ### Faults -/

/-- A fault of a chiplet is counted and shown. -/
def State.faultShown (s : State) (n : Nat) (f : ChipFault) : State :=
  (s.hubCount (cmnOff n 0x38) 1).hubSetN (cmnOff n 0x40) (f.code % 65536 * 65536 + f.cls * 256)
theorem exec_fault_reserved {f : ChipFault} (h3 : 3 ≤ (s.site n).step) (hf : 2 < f.cls) : exec (.fault n f) s = .next (s.fenceSite n) := by
  obtain ⟨hup, hn, -⟩ := State.siteLive_iff.mp hlive
  exact congrArg Host.Outcome.next ((if_neg (by simp [hup, hn]; omega)).trans (if_pos hf))
theorem exec_fault {f : ChipFault} (h3 : 3 ≤ (s.site n).step) (hf : f.cls ≤ 2) (hrec : f.cls = 1 → f.record = 0) : exec (.fault n f) s =
    .next (if f.cls = 0 then (s.faultShown n f).chipReport n .ce f.addr
      else if f.cls = 2 then (s.faultShown n f).fenceSite n else (s.faultShown n f).chipReport n .uc f.addr) := by
  obtain ⟨hup, hn, -⟩ := State.siteLive_iff.mp hlive
  refine congrArg Host.Outcome.next ((if_neg (by simp [hup, hn]; omega)).trans ((if_neg (by omega)).trans ?_))
  by_cases h0 : f.cls = 0
  · exact (if_pos h0).trans (if_pos h0).symm
  · by_cases h2 : f.cls = 2
    · exact (if_neg h0).trans ((if_pos h2).trans ((if_neg h0).trans (if_pos h2)).symm)
    · have hr : f.record = 0 := hrec (by omega)
      exact (if_neg h0).trans ((if_neg h2).trans ((if_pos hr).trans ((if_neg h0).trans (if_neg h2)).symm))
omit hlive in
theorem State.hubNat_faultShown (s : State) (n : Nat) (f : ChipFault) :
    (s.faultShown n f).hubNat (cmnOff n 0x38) = min 0xFFFFFFFF (s.hubNat (cmnOff n 0x38) + 1) := by
  rw [State.faultShown, State.hubNat_hubSetN_other _ _ _ _ (cmnOff_ne (by decide)), State.hubNat_hubCount_self]

theorem exec_windowRekey_due (hk : (s.site n).keyed = true) (hkx : (s.site n).kx = 0)
    (hdue : 2 ^ 32 ≤ (s.site n).sentData ∨ 2 ^ 32 ≤ (s.site n).recvData) : exec (.windowRekey n) s =
      .next (s.setSite n { s.site n with kx := 1, keyGen := ((s.site n).keyGen + 1) % 256 }) :=
  congrArg Host.Outcome.next (if_pos (by simpa [hlive, hk, hkx] using hdue))
omit hlive in
theorem exec_windowRekey_early (h1 : (s.site n).sentData < 2 ^ 32) (h2 : (s.site n).recvData < 2 ^ 32) : exec (.windowRekey n) s = .next s :=
  congrArg Host.Outcome.next (if_neg (by
    simp only [Bool.and_eq_true, Bool.or_eq_true, decide_eq_true_eq]
    omega))

end

/-! ### The window key exchange -/

section
variable (hup : s.up = true) (hn : isCommonsSite n = true)
include hup hn

/-- The hub's share has been drawn. -/
def State.shareDrawn (s : State) (n : Nat) : State :=
  (s.drawn).modSite n (fun x => { x with kx := 2, kxSecret := s.free, kxShares := beBytes 49 (compressed (Config.ecPublic s.free)) })
theorem exec_hubShare (h1 : (s.site n).kx = 1) : exec (.hubShare n) s = .next ((s.shareDrawn n).askMgmt n 9
    [1, ((s.shareDrawn n).site n).keyGen, ((s.shareDrawn n).siteOwner n).getD 0, compressed (Config.ecPublic s.free)]) :=
  congrArg Host.Outcome.next (if_neg (by simp [hup, hn, h1]))

/-- The keys that both shares give. -/
def Site.shared (x : Site) (n owner share : Nat) : Site :=
  let both := x.kxShares ++ beBytes 49 share
  let k := hkdf384 (sha384 both) (beBytes 48 (Config.ecdh x.kxSecret share))
    ([0x4C#8, 0x53#8, 0x50#8] ++ leBytes 1 n ++ leBytes 1 owner ++ leBytes 1 x.keyGen) 104
  { x with kx := 3, kxSecret := 0, kxShares := both, keyDown := k.take 32 ++ (k.drop 64).take 4,
           keyUp := (k.drop 32).take 32 ++ (k.drop 68).take 4, keyConfirm := (k.drop 72).take 32 }
theorem exec_chipShare {share : Nat} (h2 : (s.site n).kx = 2) : exec (.chipShare n share) s =
    .next ((s.modSite n (fun x => x.shared n ((s.siteOwner n).getD 0) share)).mgmtDone n) :=
  congrArg Host.Outcome.next (if_neg (by simp [hup, hn, h2]))

/-- The hub confirms. -/
def State.hubConfirming (s : State) (n : Nat) : State := s.modSite n (fun x => { x with kx := 4 })
theorem exec_hubConfirm (h3 : (s.site n).kx = 3) : exec (.hubConfirm n) s = .next ((s.hubConfirming n).askMgmt n 9
    [3, ((s.hubConfirming n).site n).keyGen, ((s.hubConfirming n).siteOwner n).getD 0,
      confirmOf ((s.hubConfirming n).site n) [0x68#8, 0x75#8, 0x62#8]]) :=
  congrArg Host.Outcome.next (if_neg (by simp [hup, hn, h3]))

/-- A site whose keys are in force. -/
def Site.keysInForce (x : Site) : Site := { x with kx := 0, keyed := true, keyConfirm := [], kxShares := [], sentData := 0, recvData := 0 }
/-- The keys of a window are in force. -/
def State.windowKeyed (s : State) (n : Nat) : State := (s.modSite n Site.keysInForce).mgmtDone n
omit hup hn in
theorem State.site_windowKeyed (s : State) (n : Nat) : (s.windowKeyed n).site n = { (s.site n).keysInForce with mgmt := none } := by
  rw [State.windowKeyed, State.site_mgmtDone, State.site_modSite]
theorem exec_chipConfirm {tag : Nat} (h4 : (s.site n).kx = 4) : exec (.chipConfirm n tag) s =
    .next (if tag ≠ confirmOf (s.site n) [0x63#8, 0x68#8, 0x69#8, 0x70#8] then s.fenceSite n
      else if (s.site n).step = 6 then (s.windowKeyed n).bringUp n else (s.windowKeyed n).pumpDma n) := by
  have hstep : ((s.windowKeyed n).site n).step = (s.site n).step := by
    rw [s.site_windowKeyed n]
    rfl
  rw [← hstep]
  exact congrArg Host.Outcome.next (if_neg (by simp [hup, hn, h4]))

omit hup hn in
theorem exec_bringupStepTimeout_early {step : Nat} (ht : s.time < (s.site n).upAt + stepBound step) :
    exec (.bringupStepTimeout n step) s = .next s := congrArg Host.Outcome.next (if_pos (by simp [ht]))
theorem exec_bringupStepTimeout {step : Nat} (hst : s.cmnSt n = cmnTraining) (h0 : step ≠ 0) (hle : (s.site n).step ≤ step)
    (h1 : (s.site n).step ≠ 1) (ht : (s.site n).upAt + stepBound step ≤ s.time) : exec (.bringupStepTimeout n step) s = .next (s.fenceSite n) :=
  congrArg Host.Outcome.next ((if_neg (by simp [hup, hn, hst, h0]; omega)).trans (if_neg (by simp [h1])))

end

end

/-- Settles O50: bring-up, heat, faults and the window key of a commons site. -/
theorem commonsManagement : Obligations.CommonsManagement := by
  refine ⟨fun s n d hup hn => ⟨fun h => congrArg Host.Outcome.next (if_pos (by simp [h])), fun hst hd => ?_, fun hst hd hbad => ?_,
      fun hst hd hok hroles => ⟨(s.declared n d).modSite n (Site.discovered · d s.time), ?_, State.cmnSt_setCmnSt _ _ (by decide), ?_, ?_, ?_, ?_, ?_,
        (s.frame_declared n d).1, (s.frame_declared n d).2⟩⟩,
    fun s n hup hn hst => ⟨fun h3 => ?_, fun h3 => congrArg Host.Outcome.next (if_pos (by simp [h3])),
      fun h4 => ⟨congrArg Host.Outcome.next (if_pos (by simp)), _, exec_configureAck hup hst h4, ?_, ?_, rfl, rfl⟩,
      fun b h5 hb => ⟨_, exec_measureReq hup hst hn h5 hb, ?_, rfl, rfl⟩,
      fun b d h5 hm hb hpair => ⟨s.blockKept n b d, ?_, ?_, rfl, rfl, fun ⟨i, hi, hib, hnone⟩ => ?_, fun hall => ?_⟩⟩,
    fun s n b d old hlive hm hold => ⟨s.blockRead n b, ?_, rfl, fun h => ?_, fun h => ?_⟩,
    fun s n hlive h3 => ⟨fun temp fl ht hf => ⟨s.beatNoted n temp, ?_⟩, fun temp fl ht hcold => ⟨s.beatNoted n temp, ?_⟩, fun ht => ?_, fun ht => ?_,
      fun w => ⟨s.throttle n w, exec_throttle hlive w, ?_, State.hubNat_hubCount_self .., ?_, ?_⟩,
      fun mean peak temp hcool => ?_, fun f => ⟨exec_fault_reserved hlive h3, fun hf => ⟨s.faultShown n f, State.hubNat_faultShown .., ?_, ?_, fun h0 => ?_,
        fun h2 => ?_, fun h1 hr => ?_⟩⟩,
      fun hk hkx => ⟨exec_windowRekey_early, fun hdue => ⟨_, exec_windowRekey_due hlive hk hkx hdue, State.site_setSite .., rfl, rfl, rfl⟩⟩⟩,
    fun s n hup hn => ⟨fun h1 => ⟨_, exec_hubShare hup hn h1, ?_, ?_, rfl, ?_, rfl⟩, fun share h2 => ⟨_, exec_chipShare hup hn h2, ?_, ?_, ?_, ?_, rfl, rfl⟩,
      fun h3 => ⟨_, exec_hubConfirm hup hn h3, ?_, ?_, rfl⟩,
      fun tag h4 => ⟨fun ht => ?_, fun ht => ⟨s.windowKeyed n, ?_, ?_, ?_, ?_, rfl, rfl, fun h6 => ?_, fun h6 => ?_⟩⟩,
      fun code a hm => ?_, fun hm => ?_, fun step hst h0 hle => ⟨exec_bringupStepTimeout_early, exec_bringupStepTimeout hup hn hst h0 hle⟩⟩⟩
  · rw [exec_discover hup hn hst, if_pos hd]
  · rw [exec_discover hup hn hst, if_neg (not_not.mpr hd), if_pos (by simpa using hbad)]
  · rw [exec_discover hup hn hst, if_neg (not_not.mpr hd), if_neg (by simp [hok, hroles])]
  · exact (State.hubNat_declared s n d).trans (Nat.mod_eq_of_lt (Nat.lt_trans (declare_lt_of_discoverOk hok) (by decide)))
  · rw [State.site_modSite]; rfl
  · rw [State.site_modSite]; rfl
  · rw [State.site_modSite]; rfl
  · rw [State.site_modSite]; rfl
  · rw [exec_configure hup hst h3]
    split
    · exact ⟨_, rfl, by simp [State.clustersShown, State.drawn], by simp [State.clustersShown, State.drawn]⟩
    · have hsite : (s.configuring n).site n = _ := State.site_askMgmt ((s.clustersShown n).modSite n (fun x => { x with step := 4 })) n 2 _
      exact ⟨_, rfl, by rw [hsite, State.site_modSite], ⟨_, congrArg Site.mgmt hsite, rfl⟩, rfl, rfl⟩
  · rw [State.site_mgmtDone, State.site_modSite]
  · rw [State.site_mgmtDone]
  · rw [State.site_askMgmt]
  · exact (congrArg (fun x : Site => x.measures.find b) (State.site_setSite ..)).trans (SMap.find_set_self ..)
  · exact congrArg Site.mgmt (State.site_setSite ..)
  · have hkept : ((s.blockKept n b d).site n).measures.find i = none :=
      ((congrArg (fun x : Site => x.measures.find i) (State.site_setSite ..)).trans (SMap.find_set_other _ _ _ _ hib)).trans hnone
    rw [exec_measure_bringUp hup hst hn h5 hm hb hpair, if_neg]
    exact fun h => by simpa [hkept] using List.all_eq_true.mp h i (List.mem_range.mpr hi)
  · rw [exec_measure_bringUp hup hst hn h5 hm hb hpair, if_pos]
    refine List.all_eq_true.mpr fun i hi => ?_
    have hmeasures : ((s.blockKept n b d).site n).measures = (s.site n).measures.set b ((d ++ zeros 48).take 48) :=
      congrArg Site.measures (State.site_setSite ..)
    rw [hmeasures]
    by_cases hib : i = b
    · subst hib
      rw [SMap.find_set_self]
      rfl
    · rw [SMap.find_set_other _ _ _ _ hib]
      exact Option.isSome_iff_ne_none.mpr (hall i (List.mem_range.mp hi) hib)
  · exact congrArg Site.mgmt (State.site_setSite ..)
  · rw [exec_measure_live hlive hm hold, if_neg (by simp [h])]
  · rw [exec_measure_live hlive hm hold, if_pos (by simpa using h)]
  · have hfields := s.fieldOf_beatShown n temp
    have hcool : max temp (fieldOf ((s.beatShown n temp).hubNat (cmnOff n 0x18)) 16 8) < 115 := by rw [hfields.2]; omega
    obtain ⟨htx, -, hsites, -, hmem, -⟩ := State.noteSiteHeat_keeps (s := s.beatShown n temp) (n := n) (.inl hcool)
    have hlive' := State.siteLive_beatNoted hlive (n := n) (.inl hcool)
    refine ⟨?_, ?_, ?_, htx, hmem⟩
    · rw [exec_heartbeat hlive h3, if_pos hlive', State.siteHeat, if_neg (by omega), if_neg (by decide), if_neg (by omega)]
    · exact congrArg Site.beatAt ((State.site_congr hsites n).trans (State.site_modSite s n (fun x => { x with beatAt := s.time })))
    · rw [State.beatNoted_eq, State.hubNat_congr (State.hub_noteSiteHeat (.inl hcool)), hfields.1]
      omega
  · have hlone (x : Nat) (hx : 115 ≤ x) : hotAfter s.pow.hotSites n x = [n] := by rw [hotAfter, if_pos hx, hcold]; rfl
    have hhot : (hotAfter s.pow.hotSites n (max temp (fieldOf ((s.beatShown n temp).hubNat (cmnOff n 0x18)) 16 8))) = [n] := hlone _ (by omega)
    have hlow : (hotAfter s.pow.hotSites n (max temp (fieldOf ((s.beatShown n temp).hubNat (cmnOff n 0x18)) 16 8))).length < 3 := by rw [hhot, List.length_singleton]; omega
    obtain ⟨-, -, -, hnoc, hmem, hpow⟩ := State.noteSiteHeat_keeps (s := s.beatShown n temp) (n := n) (.inr hlow)
    refine ⟨?_, hpow.trans hhot, hnoc, hmem⟩
    rw [exec_heartbeat hlive h3, if_pos (State.siteLive_beatNoted hlive (.inr hlow)), State.siteHeat, if_pos ht]
  · rw [exec_heartbeatTimeout hlive, if_pos ht]
  · rw [exec_heartbeatTimeout hlive, if_neg (by omega)]
  · have htx : (s.hubCount (cmnOff n 0x3C) 1).tx = s.tx := by simp
    exact congrArg (· ++ [Tx.mgmt n 8 [w]]) htx
  · simp [State.throttle]
  · simp [State.throttle]
  · obtain ⟨htx, -, hsites, hnoc, hmem, -⟩ := State.noteSiteHeat_keeps (s := s.powerShown n mean temp) (n := n)
      (temp := max temp (fieldOf (s.hubNat (cmnOff n 0x18)) 24 8)) (.inl (by omega))
    have hbudget := State.siteBudget_powerNoted (mean := mean) hcool
    have hfields := s.fieldOf_powerShown n mean (temp := temp) (by omega)
    have hexec := (exec_commonsPowerCheck hlive (mean := mean) (peak := peak) (temp := temp)).trans
      (congrArg Host.Outcome.next (if_neg (by rw [State.siteLive_powerNoted hlive hcool]; decide)))
    rw [← State.hubNat_congr (State.hub_powerNoted (mean := mean) hcool)] at hfields
    refine ⟨fun hp => ⟨s.powerNoted n mean temp, ?_, hsites, hnoc, hmem⟩, fun hp hm => ⟨s.powerNoted n mean temp, ?_, htx, hfields.1, hfields.2, hmem⟩,
      fun hp hm => ⟨(s.powerNoted n mean temp).throttle n (s.siteBudget n), ?_, ?_, ?_⟩⟩
    · rw [hexec, if_pos hp]
    · rw [hexec, if_neg (by omega), State.siteHeat, if_neg (by omega), hbudget, if_neg (by simpa using hm), if_neg (by omega)]
    · rw [hexec, if_neg (by omega), State.siteHeat, if_neg (by omega), hbudget, if_pos (by simpa using hm)]
    · have hcount : ((s.powerNoted n mean temp).hubCount (cmnOff n 0x3C) 1).tx = s.tx := by
        rw [← show (s.powerNoted n mean temp).tx = s.tx from htx]
        simp
      exact congrArg (· ++ [Tx.mgmt n 8 [s.siteBudget n]]) hcount
    · rw [← show (s.powerNoted n mean temp).mem = s.mem from hmem]
      simp [State.throttle]
  · simp [State.faultShown]
  · simp [State.faultShown]
  · rw [exec_fault hlive h3 hf (by omega), if_pos h0]
  · rw [exec_fault hlive h3 hf (by omega), if_neg (by omega), if_pos h2]
  · rw [exec_fault hlive h3 hf (fun _ => hr), if_neg (by omega), if_neg (by omega)]
  · rw [State.site_askMgmt, State.shareDrawn, State.site_modSite]
  · rw [State.site_askMgmt, State.shareDrawn, State.site_modSite]
  · have hgen : ((s.shareDrawn n).site n).keyGen = (s.site n).keyGen := by
      rw [State.shareDrawn, State.site_modSite]
      rfl
    rw [hgen]
    rfl
  · rw [State.site_mgmtDone, State.site_modSite]; rfl
  · rw [State.site_mgmtDone, State.site_modSite]; rfl
  · rw [State.site_mgmtDone, State.site_modSite]; rfl
  · rw [State.site_mgmtDone]
  · rw [State.site_askMgmt, State.hubConfirming, State.site_modSite]
  · have hsite : (s.hubConfirming n).site n = { s.site n with kx := 4 } := State.site_modSite s n (fun x => { x with kx := 4 })
    rw [hsite]
    rfl
  · rw [exec_chipConfirm hup hn h4, if_pos ht]
  · rw [s.site_windowKeyed n]; rfl
  · rw [s.site_windowKeyed n]; rfl
  · rw [s.site_windowKeyed n]; rfl
  · rw [s.site_windowKeyed n]; rfl
  · rw [exec_chipConfirm hup hn h4, if_neg (not_not.mpr ht), if_pos h6]
  · rw [exec_chipConfirm hup hn h4, if_neg (not_not.mpr ht), if_neg h6]
  · refine congrArg Host.Outcome.next ?_
    simp only [hm, hup, if_true]
    rfl
  · refine congrArg Host.Outcome.next ?_
    simp only [hm]

end Sys2Proof.Machine
end

section
/-! SUPPORT. A write over the mesh to memory that is not in canonical form (R354, R365). -/

namespace Sys2Proof.Machine
open Sys2Proof Sys2Proof.Claims

/-- A request of a paddock to write the line at address 0. -/
def lineWrite : ReqFlit := ⟨0, 0, 7, 0, 0, false, 0, 0, 0, 0, 0, 0, 0, 0⟩
/-- A line of zeros for it. -/
def zeroLine : DatFlit := ⟨0, 0, 7, 0, false, 0, 0xFFFFFFFFFFFFFFFF#64, [], true⟩
/-- A granted write of that line, where memory lists address 0 behind a higher one. -/
def unsortedWrite : State :=
  { Tests.up with noc := { Noc.reset with outs := [(reqKey 0 7, ⟨lineWrite, opWrite, 1, true, 0⟩)] }, mem := [(64, 1#8), (0, 1#8)] }

/-- What an outcome's state holds at address 0. -/
def outcomeByte (o : Out) : Option Byte :=
  match o with
  | .next t => some (t.readByte 0)
  | _ => none

/-- Refutes O42: a write of zeros leaves a byte that memory lists out of order, so it does not read back as written. The statement does
not ask that memory be in canonical form (addresses strictly rising), where it would. -/
theorem not_meshMessages : ¬ Obligations.MeshMessages := by
  unfold Obligations.MeshMessages
  rintro ⟨-, -, hwrite, -⟩
  obtain ⟨t, hexec, hread, -⟩ := hwrite unsortedWrite zeroLine ⟨lineWrite, opWrite, 1, true, 0⟩ 0 (by decide +kernel) (by decide +kernel) rfl
    (by decide +kernel) (by decide +kernel) rfl rfl rfl (by decide +kernel) rfl rfl (by decide +kernel) (by decide +kernel)
  have hstays : outcomeByte (exec (.nocData zeroLine) unsortedWrite) = some 1#8 := by decide +kernel
  rw [hexec] at hstays
  have hzero : t.readByte 0 = 0#8 := congrArg (·.headD 0#8) hread
  exact absurd (hzero.symm.trans (Option.some.inj hstays)) (by decide)

end Sys2Proof.Machine
end

section
/-! SUPPORT. The window, DMA and coherent messages of a live commons (R506, R511 to R525, R552, R553). -/

namespace Sys2Proof.Machine
open Sys2Proof Sys2Proof.Claims

section
variable {s : State} {n : Nat}

/-! ### What the hub sends -/

/-- Only DATA is encrypted. -/
theorem Site.seal_of_ne {m : LspOut} (x : Site) (h : m.op ≠ lData) : x.seal m = m := if_neg (by simp [h])
theorem State.tx_sendLsp (s : State) (n : Nat) (m : LspOut) : (s.sendLsp n m).tx = s.tx ++ [.lsp n ((s.site n).seal m)] := rfl
/-- A message other than DATA goes out as it is. -/
theorem State.tx_sendLsp_plain (s : State) (n : Nat) {m : LspOut} (h : m.op ≠ lData) : (s.sendLsp n m).tx = s.tx ++ [.lsp n m] := by
  rw [State.tx_sendLsp, Site.seal_of_ne _ h]
theorem State.site_sendLsp (s : State) (n : Nat) (m : LspOut) : ((s.sendLsp n m).site n).reqs = (s.site n).reqs ∧
    ((s.sendLsp n m).site n).endsPending = (s.site n).endsPending := by
  have h : (s.sendLsp n m).site n = _ := State.site_setSite ..
  rw [h]
  exact ⟨rfl, rfl⟩

/-! ### Flits -/

/-- What stays in a replay buffer once an ACK has come. -/
def keptAfter (l : List (Nat × LspOut)) (ack : Nat) : List (Nat × LspOut) :=
  if l.any (fun r => r.1 = ack % 65536) then (l.dropWhile (fun r => r.1 ≠ ack % 65536)).drop 1 else l
theorem keptAfter_of_none {l : List (Nat × LspOut)} {ack : Nat} (h : ∀ r ∈ l, r.1 ≠ ack % 65536) : keptAfter l ack = l :=
  if_neg (by simpa only [List.any_eq_true, decide_eq_true_eq, not_exists, not_and] using h)
theorem keptAfter_append {old new : List (Nat × LspOut)} {ack : Nat} (m : LspOut) (h : ∀ r ∈ old, r.1 ≠ ack % 65536) :
    keptAfter (old ++ (ack % 65536, m) :: new) ack = new := by
  have hdrop : (old ++ (ack % 65536, m) :: new).dropWhile (fun r => r.1 ≠ ack % 65536) = (ack % 65536, m) :: new := by
    rw [List.dropWhile_append_of_pos (fun r hr => by simpa using h r hr), List.dropWhile_cons_of_neg (by simp)]
  rw [keptAfter, if_pos (by simp), hdrop]
  rfl

section
variable (hlive : s.siteLive n = true)
include hlive

theorem exec_lspFlit_badCrc {seq kind ack : Nat} : exec (.lspFlit n seq false kind ack) s = .next (s.send (.lspNak n (s.site n).rxSeq)) :=
  congrArg Host.Outcome.next ((if_neg (by simp [hlive])).trans (if_pos rfl))
theorem exec_lspFlit_reserved {seq kind ack : Nat} (h : kind = 0 ∨ 3 < kind) : exec (.lspFlit n seq true kind ack) s = .next (s.fenceSite n) :=
  congrArg Host.Outcome.next ((if_neg (by simp [hlive])).trans ((if_neg (by decide)).trans (if_pos (by simpa using h))))
/-- A flit of DATA in sequence is taken. -/
def State.flitTaken (s : State) (n ack : Nat) : State :=
  (s.setSite n { s.site n with replay := keptAfter (s.site n).replay ack }).modSite n (fun x => { x with rxSeq := (x.rxSeq + 1) % 65536 })
theorem exec_lspFlit_taken {seq ack : Nat} (hseq : seq % 65536 = (s.site n).rxSeq) :
    exec (.lspFlit n seq true 1 ack) s = .next (s.flitTaken n ack) :=
  congrArg Host.Outcome.next ((if_neg (by simp [hlive])).trans ((if_neg (by decide)).trans ((if_neg (by decide)).trans
    ((if_neg (by decide)).trans (if_pos hseq)))))
omit hlive in
theorem State.site_flitTaken (s : State) (n ack : Nat) : (s.flitTaken n ack).site n =
    { s.site n with replay := keptAfter (s.site n).replay ack, rxSeq := ((s.site n).rxSeq + 1) % 65536 } := by
  rw [State.flitTaken, State.site_modSite, State.site_setSite]
theorem exec_lspNak (seq : Nat) : exec (.lspNak n seq) s =
    .next (s.sendAll (((s.site n).replay.dropWhile (fun r => r.1 ≠ seq % 65536)).map (fun r => .lsp n r.2))) :=
  congrArg Host.Outcome.next (if_neg (by simp [hlive]))

end

/-! ### Window requests -/

/-- A read of a window. -/
def winReadOf (t : Thr) (attempt load part off size now : Nat) : WinReq :=
  ⟨t.gid, attempt, t.idx, load, part, off / 64 * 64, off - off / 64 * 64, size, false, [], true, now, false, false⟩
/-- The attempt that a group runs. -/
def State.attemptOf (s : State) (g : Grp) : Nat := ((s.entry g.fn g.entry).map (·.attempts)).getD 0
/-- A read of a window is outstanding at its site. -/
def State.winAsked (s : State) (n : Nat) (t : Thr) (g : Grp) (load part off size : Nat) : State :=
  s.setSite n (noteUser { s.site n with reqs := (s.site n).reqs.set (freeTag (s.site n).reqs (s.site n).nextTag)
                                          (winReadOf t (s.attemptOf g) load part off size s.time),
                                        nextTag := (freeTag (s.site n).reqs (s.site n).nextTag + 1) % 4096 } (t.gid, s.attemptOf g))
/-- Its message has gone out. -/
def State.winReadSent (s : State) (n : Nat) (t : Thr) (g : Grp) (load part off size : Nat) : State :=
  ((s.winAsked n t g load part off size).hubCount (cmnOff n 0x28) 1).sendLsp n
    (lspMsg lWinRead (freeTag (s.site n).reqs (s.site n).nextTag) off size 0 (s.winRecord t.gid) 0)
theorem reqs_noteUser (x : Site) (u : Nat × Nat) : (noteUser x u).reqs = x.reqs := by
  unfold noteUser
  split <;> rfl

section
variable {t : Thr} {g : Grp} {load part lane lpa size : Nat} (hup : s.up = true) (hg : s.grp t.gid = some g) (hlive : g.live = true)
  (hpart : g.partOf t.idx load part = some ⟨lane, .commons lpa, size, none⟩)
  (hnew : ∀ r ∈ (s.site (s.servedBy (16 + (lpa - commonsBase) / 2 ^ 40))).reqs, r.2.gid ≠ t.gid)
include hup hg hlive hpart hnew

theorem exec_winRead_fenced (ho : s.owns g.fn lpa = .fenced) : exec (.winRead t load part) s = .next (s.datapathError t.gid false) := by
  refine congrArg Host.Outcome.next ?_
  simp only [hg, hpart]
  refine (if_neg ?_).trans ?_
  · simp only [hup, hlive, Bool.not_true, Bool.or_self, Bool.false_or, List.any_eq_true, Bool.and_eq_true, decide_eq_true_eq, not_exists, not_and]
    exact fun r hr ⟨⟨⟨_, e⟩, _⟩, _⟩ _ => absurd e (hnew r hr)
  · simp only [ho]
theorem exec_winRead (ho : s.owns g.fn lpa = .ok) (hkey : s.keyHeld (s.servedBy (16 + (lpa - commonsBase) / 2 ^ 40)) = false)
    (hends : (s.site (s.servedBy (16 + (lpa - commonsBase) / 2 ^ 40))).endsFirst t.gid = false)
    (hroom : s.lspRoom (s.servedBy (16 + (lpa - commonsBase) / 2 ^ 40)) = true)
    (hfull : (s.site (s.servedBy (16 + (lpa - commonsBase) / 2 ^ 40))).reqs.length < 4096) : exec (.winRead t load part) s =
      .next (s.winReadSent (s.servedBy (16 + (lpa - commonsBase) / 2 ^ 40)) t g load part ((lpa - commonsBase) % 2 ^ 40) size) := by
  refine congrArg Host.Outcome.next ?_
  simp only [hg, hpart]
  refine (if_neg ?_).trans ?_
  · simp only [hup, hlive, Bool.not_true, Bool.or_self, Bool.false_or, List.any_eq_true, Bool.and_eq_true, decide_eq_true_eq, not_exists, not_and]
    exact fun r hr ⟨⟨⟨_, e⟩, _⟩, _⟩ _ => absurd e (hnew r hr)
  · simp only [ho]
    refine (if_neg ?_).trans rfl
    simp only [hkey, hends, hroom, Bool.not_true, Bool.or_self, Bool.false_or, Bool.or_eq_true, List.any_eq_true, Bool.and_eq_true,
      decide_eq_true_eq, not_or, not_exists, not_and]
    exact ⟨by omega, fun r hr ⟨_, e⟩ _ => absurd e (hnew r hr)⟩

end
theorem State.find_winReadSent (s : State) (n : Nat) (t : Thr) (g : Grp) (load part off size : Nat) :
    ((s.winReadSent n t g load part off size).site n).reqs.find (freeTag (s.site n).reqs (s.site n).nextTag) =
      some (winReadOf t (s.attemptOf g) load part off size s.time) := by
  have hcount (u : State) : (u.hubCount (cmnOff n 0x28) 1).site n = u.site n := State.site_congr (by simp) n
  rw [State.winReadSent, (State.site_sendLsp ..).1, hcount, State.winAsked, State.site_setSite, reqs_noteUser]
  exact SMap.find_set_self ..

section
variable {tag : Nat} {q : WinReq} (hlive : s.siteLive n = true) (hq : (s.site n).reqs.find tag = some q)
include hlive hq

/-- A write of a window is sent. -/
def State.winWriteSent (s : State) (n tag : Nat) (q : WinReq) : State :=
  (((s.setSite n (noteUser { s.site n with reqs := (s.site n).reqs.set tag { q with sent := true, sentAt := s.time } } (q.gid, q.attempt))).hubCount
    (cmnOff n 0x28) 1).sendLsp n (lspMsg lWinWrite tag q.line 64 0 (s.winRecord q.gid) 0)).sendLsp n
      (lspDataMsg tag (enablesOf q.bytes) 0 0 (lineOfCells q.bytes))
theorem exec_winWrite (hw : q.write = true) (hs : q.sent = false) (hd : q.dead = false) (hkey : s.keyHeld n = false)
    (hends : (s.site n).endsFirst q.gid = false) (hroom : s.lspRoom n = true) : exec (.winWrite n tag) s = .next (s.winWriteSent n tag q) := by
  refine congrArg Host.Outcome.next ?_
  simp only [hq]
  exact if_neg (by simp [hlive, hw, hs, hd, hkey, hends, hroom])
omit hlive in
theorem exec_winWrite_not (h : q.write = false ∨ q.sent = true) : exec (.winWrite n tag) s = .next s := by
  refine congrArg Host.Outcome.next ?_
  simp only [hq]
  exact if_pos (by rcases h with h | h <;> simp [h])
omit hlive hq in
theorem State.find_winWriteSent (s : State) (n tag : Nat) (q : WinReq) :
    ((s.winWriteSent n tag q).site n).reqs.find tag = some { q with sent := true, sentAt := s.time } := by
  have hcount (u : State) : (u.hubCount (cmnOff n 0x28) 1).site n = u.site n := State.site_congr (by simp) n
  rw [State.winWriteSent, (State.site_sendLsp ..).1, (State.site_sendLsp ..).1, hcount, State.site_setSite, reqs_noteUser]
  exact SMap.find_set_self ..
omit hlive hq in
theorem State.tx_winWriteSent (s : State) (n tag : Nat) (q : WinReq) : (s.winWriteSent n tag q).tx.length = s.tx.length + 2 := by
  have hcount (u : State) : (u.hubCount (cmnOff n 0x28) 1).tx = u.tx := by simp
  rw [State.winWriteSent, State.tx_sendLsp, State.tx_sendLsp, hcount, List.length_append, List.length_append]
  rfl

/-- A request without its DONE in time ends and is counted. -/
def State.winTimedOut (s : State) (n tag : Nat) : State :=
  ((s.dropWin n tag).hubCount (cmnOff n 0x30) 1).modSite n (fun x => { x with timeouts := (s.time :: x.timeouts).take 3 })
theorem exec_windowTimeout (hs : q.sent = true) (ha : q.answered = false) : exec (.windowTimeout n tag) s =
    .next (if s.time < q.sentAt + min (4 * s.hubNat (cmnOff n 0x1C)) 20000 then s
      else if threeIn (if q.dead then s.winTimedOut n tag else (s.winTimedOut n tag).datapathError q.gid true).time
          ((if q.dead then s.winTimedOut n tag else (s.winTimedOut n tag).datapathError q.gid true).site n).timeouts then
        (if q.dead then s.winTimedOut n tag else (s.winTimedOut n tag).datapathError q.gid true).fenceSite n
      else if q.dead then s.winTimedOut n tag else (s.winTimedOut n tag).datapathError q.gid true) := by
  have htime : ((s.dropWin n tag).hubCount (cmnOff n 0x30) 1).time = s.time := by simp [State.dropWin, State.modSite, State.setSite]
  unfold State.winTimedOut
  rw [← htime]
  refine congrArg Host.Outcome.next ?_
  simp only [hq, hlive, hs, ha, Bool.not_true, Bool.or_self, Bool.false_or, decide_eq_true_eq, htime]
omit hlive hq in
theorem State.site_winTimedOut (s : State) (n tag : Nat) : (s.winTimedOut n tag).site n =
    { s.site n with reqs := (s.site n).reqs.del tag, timeouts := (s.time :: (s.site n).timeouts).take 3 } := by
  have hcount (u : State) : (u.hubCount (cmnOff n 0x30) 1).site n = u.site n := State.site_congr (by simp) n
  rw [State.winTimedOut, State.site_modSite, hcount, State.dropWin, State.site_modSite]
omit hlive hq in
theorem State.hubNat_winTimedOut (s : State) (n tag : Nat) :
    (s.winTimedOut n tag).hubNat (cmnOff n 0x30) = min 0xFFFFFFFF (s.hubNat (cmnOff n 0x30) + 1) :=
  (State.hubNat_congr rfl _).trans ((State.hubNat_hubCount_self ..).trans (by rw [State.hubNat_congr (s := s) (t := s.dropWin n tag) rfl]))

end

/-! ### DONE -/

section
variable {m : LspMsg} {q : WinReq} (hlive : s.siteLive n = true) (hbad : lspBad m = false) (hrole : s.role n roleWindow = true)
  (hq : (s.site n).reqs.find m.tag = some q) (hs : q.sent = true) (ha : q.answered = false)
include hlive hbad hrole hq hs ha

theorem exec_lspDone_dead (hd : q.dead = true) : exec (.lspDone n m) s = .next (s.dropWin n m.tag) := by
  refine congrArg Host.Outcome.next ((if_neg (by simp [hlive])).trans ((if_neg (by simp [hbad, hrole])).trans ?_))
  simp only [hq]
  exact (if_neg (by simp [hs, ha])).trans (if_pos hd)
theorem exec_lspDone (hd : q.dead = false) (hc : lspCheck m ≠ checkFail) : exec (.lspDone n m) s =
    .next (if lspSt m ≠ statusOk then (s.dropWin n m.tag).winStatus n q (lspSt m)
      else if q.write then s.dropWin n m.tag
      else if lspCheck m = checkNone && s.declares n declChecked then s.fenceSite n
      else (if lspCheck m = checkNone || !s.declares n declChecked then s.markUnchecked q.gid else s).modSite n
        (fun x => { x with reqs := x.reqs.set m.tag { q with answered := true } })) := by
  refine congrArg Host.Outcome.next ((if_neg (by simp [hlive])).trans ((if_neg (by simp [hbad, hrole])).trans ?_))
  simp only [hq]
  exact (if_neg (by simp [hs, ha])).trans ((if_neg (by simp [hd])).trans (if_neg hc))

end

/-- The attempt is marked, unless the chiplet checks what it sends. -/
def State.checkedBy (s : State) (n gid : Nat) (check : Nat) : State :=
  if check = checkNone || !s.declares n declChecked then s.markUnchecked gid else s
theorem State.checkedBy_keeps (s : State) (n gid check : Nat) : (s.checkedBy n gid check).tx = s.tx ∧ (s.checkedBy n gid check).mem = s.mem := by
  unfold State.checkedBy
  split
  · exact ⟨by simp [State.markUnchecked], by simp [State.markUnchecked]⟩
  · exact ⟨rfl, rfl⟩

theorem exec_fenced_of_lspBad {m : LspMsg} (hlive : s.siteLive n = true) (hbad : lspBad m = true) : exec (.lspDone n m) s = .next (s.fenceSite n) ∧
    exec (.dmaRead n m) s = .next (s.fenceSite n) ∧ exec (.dmaWrite n m) s = .next (s.fenceSite n) ∧
    exec (.cohReq n m) s = .next (s.fenceSite n) ∧ exec (.lspAck n m) s = .next (s.fenceSite n) ∧
    exec (.snpAck n m) s = .next (s.fenceSite n) ∧ ∀ cs a, exec (.lspData n m cs a) s = .next (s.fenceSite n) :=
  have hl : ¬(!s.siteLive n) = true := by simp [hlive]
  ⟨congrArg _ ((if_neg hl).trans (if_pos (by simp [hbad]))), congrArg _ ((if_neg hl).trans (if_pos (by simp [State.dmaBad, hbad]))),
    congrArg _ ((if_neg hl).trans (if_pos (by simp [State.dmaBad, hbad]))), congrArg _ ((if_neg hl).trans (if_pos (by simp [hbad]))),
    congrArg _ ((if_neg hl).trans (if_pos hbad)), congrArg _ ((if_neg hl).trans (if_pos (by simp [hbad]))),
    fun _ _ => congrArg _ ((if_neg hl).trans (if_pos hbad))⟩

/-! ### RECORD_END and DMA -/

/-- The RECORD_END of an attempt has been taken from those that wait. -/
def State.endTaken (s : State) (n : Nat) (e : WinEnd) : State :=
  s.setSite n { s.site n with endsPending := (s.site n).endsPending.filter (fun y => y != e),
                              nextTag := (freeTag (s.site n).reqs (s.site n).nextTag + 1) % 4096 }
theorem exec_recordEnd {e : WinEnd} (hlive : s.siteLive n = true) (he : (s.site n).endsPending = [e]) (hdue : s.endDue e = true)
    (hroom : s.lspRoom n = true) (hreqs : (s.site n).reqs = []) : exec (.recordEnd n e.record) s =
      .next ((s.endTaken n e).sendLsp n (lspMsg lRecordEnd (freeTag (s.site n).reqs (s.site n).nextTag) 0 0 0 e.record e.sub)) := by
  have hfind : (s.site n).endsPending.find? (fun y => y.record = e.record) = some e := by rw [he]; simp
  have hnone : (s.site n).reqs.any (fun r => r.2.gid = e.gid && r.2.dead && r.2.sent) = false := by rw [hreqs]; rfl
  refine congrArg Host.Outcome.next ?_
  simp only [hfind]
  exact if_neg (by rw [hnone]; simp [hlive, hdue, hroom])

section
variable {m : LspMsg} (hlive : s.siteLive n = true)
include hlive

theorem exec_dmaRead (hbad : s.dmaBad n m false = false) : exec (.dmaRead n m) s =
    .next (if s.keyHeld n then (s.hubCount (cmnOff n 0x2C) 1).modSite n (fun x => { x with dma := x.dma ++ [⟨m, false, 0, []⟩] })
      else (s.hubCount (cmnOff n 0x2C) 1).dmaServe n m) := by
  have hkey : (s.hubCount (cmnOff n 0x2C) 1).keyHeld n = s.keyHeld n :=
    congrArg (fun x : Site => Decidable.decide (x.kx ≠ 0)) (State.site_congr (by simp) n)
  rw [← hkey]
  exact congrArg Host.Outcome.next ((if_neg (by simp [hlive])).trans (if_neg (by simp [hbad])))
theorem exec_dmaWrite (hbad : s.dmaBad n m true = false) : exec (.dmaWrite n m) s =
    .next ((s.hubCount (cmnOff n 0x2C) 1).modSite n (fun x => { x with dma := x.dma ++ [⟨m, true, (m.len + 63) / 64, []⟩] })) :=
  congrArg Host.Outcome.next ((if_neg (by simp [hlive])).trans (if_neg (by simp [hbad])))

/-! ### Coherent messages -/

section
variable (hbad : lspBad m = false) (hrole : s.role n roleCoherent = true)
include hbad hrole

theorem exec_cohReq (hsub : m.sub ≤ 3) : exec (.cohReq n m) s = .next (if !s.agentActive (n + 4) || !s.inWindow m.addr then
      (s.cohDeny (s.physId kCommons n) 0 m.addr).sendLsp n (lspMsg lDone m.tag 0 0 statusDenied 0 m.sub)
    else s.cohStart (n + 4) m.tag (lineOf m.addr) (kindOfSub m.sub)) :=
  congrArg Host.Outcome.next ((if_neg (by simp [hlive])).trans (if_neg (by simp [hbad, hrole]; omega)))
/-- A transaction whose SNP_ACK has come. -/
def CohTxn.acked (x : CohTxn) (a : Nat) (poison : Bool) : CohTxn :=
  { x with awaiting := x.awaiting.erase a, poison := x.poison || (x.awaiting.contains a && poison) }
theorem exec_snpAck : exec (.snpAck n m) s =
    .next ((s.modLock (lineOf m.addr) (CohTxn.acked · (n + 4) (lspSt m = statusPoison))).tryGrant (lineOf m.addr)) :=
  congrArg Host.Outcome.next ((if_neg (by simp [hlive])).trans (if_neg (by simp [hbad, hrole])))

end

section
variable {l : Nat} {x : CohTxn} (hlock : (s.line l).lock = some x)
include hlock

/-- A message of a snoop to a commons is noted. -/
def CohTxn.toldOf (x : CohTxn) (k : Nat) : CohTxn := { x with told := k :: x.told }
theorem exec_snpPush (ha : n + 4 ∈ x.awaiting) (hroom : s.lspRoom n = true) (hp : x.pushed = true) (ho : x.pushOwner = n + 4)
    (ht : (n + 4) * 2 ∉ x.told) : exec (.snpPush n l) s =
      .next ((s.modLock l (CohTxn.toldOf · ((n + 4) * 2))).sendLsp n (lspMsg lSnpPush x.tag (l * 64) 64 0 0 0)) := by
  refine congrArg Host.Outcome.next ?_
  simp only [hlock]
  exact if_pos (by simp [hlive, ha, hp, ho, ht, hroom])
theorem exec_snpInv {b : Bool} (ha : n + 4 ∈ x.awaiting) (hroom : s.lspRoom n = true) (ht : (n + 4) * 2 + 1 ∉ x.told)
    (hh : (s.line l).holder (n + 4) = (if b then .s else .i)) : exec (.snpInv n l b) s =
      .next ((s.modLock l (CohTxn.toldOf · ((n + 4) * 2 + 1))).sendLsp n (lspMsg lSnpInv x.tag (l * 64) 64 0 0 (boolN b))) := by
  refine congrArg Host.Outcome.next ?_
  simp only [hlock]
  refine if_pos ?_
  cases b <;> simp [hlive, ha, hroom, ht, hh]
theorem exec_snpAckTimeout : exec (.snpAckTimeout n l) s =
    .next (if n + 4 ∈ x.awaiting ∧ x.startedAt + 4000 ≤ s.time then s.fenceSite n else s) := by
  refine congrArg Host.Outcome.next ?_
  simp only [hlock, hlive, Bool.true_and, Bool.and_eq_true, List.contains_iff_mem, decide_eq_true_eq]

end

section
variable {l tag : Nat} {x : CohTxn}

theorem exec_lspGo (hroom : s.lspRoom n = true)
    (hx : s.txnOf (n + 4) tag (fun t => t.kind == .writeback && t.goSent && !t.launched) = some (l, x)) : exec (.lspGo n tag) s =
      .next ((s.modLock l (fun t => { t with launched := true })).sendLsp n (lspMsg lGo tag (l * 64) 64 0 0 3)) := by
  refine congrArg Host.Outcome.next ?_
  simp only [hx]
  exact if_pos (by simp [hlive, hroom])
theorem exec_lspAck (hbad : lspBad m = false) (hk : x.kind ≠ .writeback)
    (hx : s.txnOf (n + 4) m.tag (fun t => t.granted || (t.kind == .writeback && t.launched)) = some (l, x)) : exec (.lspAck n m) s =
      .next ((s.modLine l (fun y => y.hold x.agent (txnGrant x))).txnDone l x) := by
  refine congrArg Host.Outcome.next ((if_neg (by simp [hlive])).trans ((if_neg (by simp [hbad])).trans ?_))
  simp only [hx]
  exact if_neg (by simpa using hk)

end

/-! ### DATA -/

section
variable {cs : List (Nat × Byte)} {a : Nat} (hbad : lspBad m = false)
include hbad

/-- DATA have come under the window's key, or without one. -/
def State.dataCounted (s : State) (n : Nat) : State :=
  s.setSite n { s.site n with recvData := (s.site n).recvData + boolN (s.site n).keyed }
theorem exec_lspData_badTag (hk : (s.site n).keyed = true) (ha : a ≠ lspTag (s.site n).keyUp (s.site n).recvData
    (lspHeader lData m.tag m.status m.sub m.addr m.record m.len) (lineOfCells cs)) : exec (.lspData n m cs a) s =
      .next ((s.dataCounted n).tagFail n m.tag (s.dataFor n m.tag)) :=
  congrArg Host.Outcome.next ((if_neg (by simp [hlive])).trans ((if_neg (by simp [hbad])).trans (if_pos (by simp [hk, ha]))))
section
variable (hk : (s.site n).keyed = false)
include hk
theorem exec_lspData_win {q : WinReq} (hw : s.dataFor n m.tag = .win q) (hp : lspSt m ≠ statusPoison) : exec (.lspData n m cs a) s =
    .next ((s.dataCounted n).winData n m.tag q (lineOfCells cs)) := by
  refine congrArg Host.Outcome.next ((if_neg (by simp [hlive])).trans ((if_neg (by simp [hbad])).trans ((if_neg (by simp [hk])).trans ?_)))
  simp only [hw]
  refine (if_neg (by simp [hp])).trans ?_
  simp only [hk, Bool.false_eq_true, if_false, State.dataCounted]
theorem exec_lspData_push {l : Nat} (hw : s.dataFor n m.tag = .push l) : exec (.lspData n m cs a) s =
    .next ((s.dataCounted n).pushData l (lineOfCells cs) (lspSt m = statusPoison)) := by
  refine congrArg Host.Outcome.next ((if_neg (by simp [hlive])).trans ((if_neg (by simp [hbad])).trans ((if_neg (by simp [hk])).trans ?_)))
  simp only [hw, hk, Bool.false_eq_true, if_false, State.dataCounted]
theorem exec_lspData_nothing (hw : s.dataFor n m.tag = .nothing) : exec (.lspData n m cs a) s = .next (s.dataCounted n) := by
  refine congrArg Host.Outcome.next ((if_neg (by simp [hlive])).trans ((if_neg (by simp [hbad])).trans ((if_neg (by simp [hk])).trans ?_)))
  simp only [hw, hk, State.dataCounted]
end

end

end

end

/-- Settles O51: flits, window requests, DMA, coherent messages and DATA of a live commons. -/
theorem commonsWindow : Obligations.CommonsWindow := by
  refine ⟨fun s n seq kind ack hlive => ⟨exec_lspFlit_badCrc hlive, exec_lspFlit_reserved hlive, fun hkind hseq => ?_, exec_lspNak hlive seq⟩,
    fun s t g load part lane lpa size n off hup hg hl hpart hn hoff hnew => ?_,
    fun s n tag q hlive hq => ⟨fun hw hs hd hkey hends hroom => ⟨_, exec_winWrite hlive hq hw hs hd hkey hends hroom, State.find_winWriteSent ..,
        State.tx_winWriteSent .., by simp [State.winWriteSent, State.setSite], by simp [State.winWriteSent, State.setSite]⟩, exec_winWrite_not hq,
      fun hs ha => ⟨fun ht => ?_, fun ht hnone => ⟨s.winTimedOut n tag, ?_, ?_, ?_,
        by simp [State.winTimedOut, State.modSite, State.setSite, State.dropWin], State.hubNat_winTimedOut ..⟩⟩⟩,
    fun s n m q hlive hbad hrole hq hs ha => ⟨s.dropWin n m.tag, ?_, rfl, rfl, rfl, exec_lspDone_dead hlive hbad hrole hq hs ha, fun hd hc hst => ?_,
      fun hd hc hst hw => ?_, fun hd hc hst hw => ⟨(s.checkedBy n q.gid 1).modSite n (fun x => { x with reqs := x.reqs.set m.tag { q with answered := true } }),
        ?_, ?_, (s.checkedBy_keeps n q.gid 1).1, (s.checkedBy_keeps n q.gid 1).2⟩⟩,
    fun s n m hlive hbad => exec_fenced_of_lspBad hlive hbad,
    fun s n record e hlive he hrec hdue hroom hreqs => ?_,
    fun s n m hlive => ⟨s.hubCount (cmnOff n 0x2C) 1, State.hubNat_hubCount_self .., by simp, by simp, by simp, fun hbad hkey => ?_,
      fun hbad hkey => ⟨(s.hubCount (cmnOff n 0x2C) 1).modSite n (fun x => { x with dma := x.dma ++ [⟨m, false, 0, []⟩] }), ?_, ?_,
        by simp [State.modSite, State.setSite], by simp [State.modSite, State.setSite]⟩,
      fun hbad => ⟨_, exec_dmaWrite hlive hbad, ?_, by simp [State.modSite, State.setSite], by simp [State.modSite, State.setSite]⟩⟩,
    fun s n m hlive hbad hsub hrole => ⟨fun hact hw => ?_, fun h => ?_, ⟨_, exec_snpAck hlive hbad hrole, rfl, rfl, fun x hx =>
      ⟨x.acked (n + 4) (lspSt m = statusPoison), congrArg CohLine.lock (State.line_modLock hx _), rfl⟩⟩⟩,
    fun s n l x hlive hlock => ⟨fun ha hroom => ⟨fun hp ho ht => ⟨_, exec_snpPush hlive hlock ha hroom hp ho ht,
          congrArg CohLine.lock (State.line_modLock hlock _), State.tx_sendLsp_plain _ _ (by simp [lspMsg, lSnpPush, lData]), rfl⟩,
        fun b ht hh => ⟨_, exec_snpInv hlive hlock ha hroom ht hh, congrArg CohLine.lock (State.line_modLock hlock _),
          State.tx_sendLsp_plain _ _ (by simp [lspMsg, lSnpInv, lData]), rfl⟩⟩,
      fun ha ht => ?_, fun h => ?_⟩,
    fun s n tag l x hlive => ⟨fun hroom hx => ⟨_, exec_lspGo hlive hroom hx, State.tx_sendLsp_plain _ _ (by simp [lspMsg, lGo, lData]), rfl⟩,
      fun m hbad hm hk hx => ⟨s.modLine l (fun y => y.hold x.agent (txnGrant x)), ?_, ?_, rfl⟩⟩,
    fun s n m cs a hlive hbad => ⟨fun hk ha => ⟨s.dataCounted n, exec_lspData_badTag hlive hbad hk ha, ?_, rfl⟩,
      fun hk => ⟨s.dataCounted n, ?_, rfl, rfl, rfl, fun q hw hp => exec_lspData_win hlive hbad hk hw hp, fun l hw => exec_lspData_push hlive hbad hk hw,
        exec_lspData_nothing hlive hbad hk⟩⟩⟩
  · subst hkind
    refine ⟨_, exec_lspFlit_taken hlive hseq, ?_, rfl, rfl, rfl, fun h => ?_, fun old m new hold h => ?_⟩
    · rw [State.site_flitTaken]
    · rw [State.site_flitTaken]
      exact keptAfter_of_none h
    · rw [State.site_flitTaken]
      exact (congrArg (keptAfter · ack) hold).trans (keptAfter_append m h)
  · rw [hn] at hnew
    rw [hn, hoff]
    refine ⟨exec_winRead_fenced hup hg hl hpart hnew, fun ho hkey hends hroom hfull => ?_⟩
    refine ⟨_, _, winReadOf t (s.attemptOf g) load part ((lpa - commonsBase) % 2 ^ 40) size s.time, exec_winRead hup hg hl hpart hnew ho hkey hends hroom hfull,
      State.find_winReadSent .., ?_⟩
    refine ⟨rfl, rfl, rfl, rfl, rfl, ?_, rfl, rfl, rfl, rfl, rfl, ?_, by simp [State.winReadSent, State.winAsked, State.setSite],
      by simp [State.winReadSent, State.winAsked, State.setSite]⟩
    · exact Nat.add_sub_cancel' (Nat.div_mul_le_self ..)
    · have htx (u : State) : (u.hubCount (cmnOff (s.servedBy (16 + (lpa - commonsBase) / 2 ^ 40)) 0x28) 1).tx = u.tx := by simp
      rw [State.winReadSent, State.tx_sendLsp_plain _ _ (by simp [lspMsg, lWinRead, lData]), htx]
      rfl
  · rw [exec_windowTimeout hlive hq hs ha, if_pos ht]
  · rw [exec_windowTimeout hlive hq hs ha, if_neg (by omega)]
  · rw [State.site_winTimedOut]
    exact SMap.find_del_self ..
  · rw [State.site_winTimedOut, hnone]
    rfl
  · exact (congrArg (fun x : Site => x.reqs.find m.tag) (State.site_modSite ..)).trans (SMap.find_del_self ..)
  · rw [exec_lspDone hlive hbad hrole hq hs ha hd hc, if_pos hst]
  · rw [exec_lspDone hlive hbad hrole hq hs ha hd hc, if_neg (not_not.mpr hst), if_pos hw]
  · rw [exec_lspDone hlive hbad hrole hq hs ha hd (by rw [hc]; decide), if_neg (not_not.mpr hst), if_neg (by simp [hw]), hc, if_neg (by simp [checkNone])]
    rfl
  · exact (congrArg (fun x : Site => x.reqs.find m.tag) (State.site_modSite ..)).trans (SMap.find_set_self ..)
  · subst hrec
    refine ⟨_, _, exec_recordEnd hlive he hdue hroom hreqs, ?_, State.tx_sendLsp_plain _ _ (by simp [lspMsg, lRecordEnd, lData]), rfl⟩
    rw [(State.site_sendLsp ..).2, State.endTaken, State.site_setSite, he]
    simp
  · rw [exec_dmaRead hlive hbad, if_neg (by simp [hkey])]
  · rw [exec_dmaRead hlive hbad, if_pos hkey]
  · exact (congrArg Site.dma (State.site_modSite ..)).trans (congrArg (fun x : Site => x.dma ++ [⟨m, false, 0, []⟩]) (State.site_congr (by simp) n))
  · exact (congrArg Site.dma (State.site_modSite ..)).trans
      (congrArg (fun x : Site => x.dma ++ [⟨m, true, (m.len + 63) / 64, []⟩]) (State.site_congr (by simp) n))
  · rw [exec_cohReq hlive hbad hrole hsub, if_neg (by simp [hact, hw])]
  · rw [exec_cohReq hlive hbad hrole hsub, if_pos (by simpa using h)]
  · rw [exec_snpAckTimeout hlive hlock, if_pos ⟨ha, ht⟩]
  · rw [exec_snpAckTimeout hlive hlock, if_neg (fun ⟨ha, ht⟩ => h.elim (absurd ha) (by omega))]
  · exact exec_lspAck hlive hbad hk (hm ▸ hx)
  · rw [State.line_modLine_self]
    exact CohLine.holder_hold_self ..
  · rw [State.dataCounted, State.site_setSite, hk]
    rfl
  · rw [State.dataCounted, State.site_setSite, hk]
    rfl

end Sys2Proof.Machine
end

section
/-! SUPPORT. The rails and the cap loop of the power manager (R646, R652, R665). -/

namespace Sys2Proof.Machine
open Sys2Proof Sys2Proof.Claims

/-! ### Maps filled by a fold -/

theorem SMap.find_foldl_setOwn {α : Type} (f : Nat → α) (l : List Nat) (m : SMap α) (k : Nat) :
    SMap.find (l.foldl (fun m r => m.set r (f r)) m) k = if k ∈ l then some (f k) else m.find k := by
  induction l generalizing m with
  | nil => simp
  | cons a l ih =>
    rw [List.foldl_cons, ih]
    by_cases hl : k ∈ l
    · rw [if_pos hl, if_pos (List.mem_cons_of_mem a hl)]
    · by_cases ha : k = a
      · subst ha
        rw [if_neg hl, if_pos List.mem_cons_self, SMap.find_set_self]
      · rw [if_neg hl, if_neg (by simp [ha, hl]), SMap.find_set_other _ _ _ _ ha]
theorem SMap.get_foldl_setOwn {α : Type} (f : Nat → α) {l : List Nat} (m : SMap α) {k : Nat} (h : k ∈ l) (d : α) :
    SMap.get d (l.foldl (fun m r => m.set r (f r)) m) k = f k := by
  rw [SMap.get_eq_find, SMap.find_foldl_setOwn, if_pos h, Option.getD_some]
theorem SMap.get_foldl_setOwn_other {α : Type} (f : Nat → α) {l : List Nat} (m : SMap α) {k : Nat} (h : k ∉ l) (d : α) :
    SMap.get d (l.foldl (fun m r => m.set r (f r)) m) k = m.get d k := by
  rw [SMap.get_eq_find, SMap.find_foldl_setOwn, if_neg h, SMap.get_eq_find]

/-! ### What the target of a rail depends on -/

theorem State.setpoint_congr {s t : State} (ht : t.hubNat PWR_TILE_SETPOINT = s.hubNat PWR_TILE_SETPOINT)
    (hh : t.hubNat PWR_HUB_SETPOINT = s.hubNat PWR_HUB_SETPOINT) (r : Nat) : t.setpoint r = s.setpoint r := by
  rw [State.setpoint, State.setpoint, ht, hh]

/-- The limits, floors and setpoints of the rails are the same. -/
structure State.SameRails (s t : State) : Prop where
  setpoint : ∀ r, t.setpoint r = s.setpoint r
  floor : t.pow.floor = s.pow.floor
  cap : t.pow.capLimit = s.pow.capLimit
  therm : t.pow.thermLimit = s.pow.thermLimit

section
variable {s t u : State}

theorem State.SameRails.trans (h : s.SameRails t) (k : t.SameRails u) : s.SameRails u :=
  ⟨fun r => (k.setpoint r).trans (h.setpoint r), k.floor.trans h.floor, k.cap.trans h.cap, k.therm.trans h.therm⟩
theorem State.SameRails.railFloor (h : s.SameRails t) (r : Nat) : t.railFloor r = s.railFloor r := by
  rw [State.railFloor, State.railFloor, h.setpoint, h.floor]
theorem State.SameRails.capLimit (h : s.SameRails t) (r : Nat) : t.capLimit r = s.capLimit r := by
  rw [State.capLimit, State.capLimit, h.setpoint, h.cap]
theorem State.SameRails.thermLimit (h : s.SameRails t) (r : Nat) : t.thermLimit r = s.thermLimit r := by
  rw [State.thermLimit, State.thermLimit, h.setpoint, h.therm]
theorem State.SameRails.railTarget (h : s.SameRails t) (r : Nat) : t.railTarget r = s.railTarget r := by
  rw [State.railTarget, State.railTarget, h.setpoint, h.railFloor, h.capLimit, h.thermLimit]

end
theorem State.railTarget_le (s : State) (r : Nat) : s.railTarget r ≤ railMax r := Nat.min_le_left ..

/-! ### The registers of the rails -/

theorem railReg_ne {off : Nat} (h : off < PWR_HUB_RAIL ∨ PWR_TILE + 64 ≤ off) (r : Nat) : off ≠ railReg r := by
  unfold railReg
  simp only [PWR_HUB_RAIL, PWR_TILE] at *
  split <;> omega
theorem State.hubNat_showRail {off : Nat} (h : off < PWR_HUB_RAIL ∨ PWR_TILE + 64 ≤ off) (s : State) (r m : Nat) :
    (s.showRail r m).hubNat off = s.hubNat off := State.hubNat_hubSetN_other _ _ _ _ (railReg_ne h r)
theorem State.hubNat_setRail {off : Nat} (h : off < PWR_HUB_RAIL ∨ PWR_TILE + 64 ≤ off) (s : State) (r : Nat) :
    (s.setRail r).hubNat off = s.hubNat off := State.hubNat_showRail h _ _ _
theorem State.pow_setRail (s : State) (r : Nat) : (s.setRail r).pow = { s.pow with target := s.pow.target.set r (s.railTarget r) } := by
  simp [State.setRail]
theorem State.setpoint_setRail (s : State) (r k : Nat) : (s.setRail r).setpoint k = s.setpoint k :=
  State.setpoint_congr (State.hubNat_setRail (by decide) _ _) (State.hubNat_setRail (by decide) _ _) k
theorem State.sameRails_setRail (s : State) (r : Nat) : s.SameRails (s.setRail r) :=
  ⟨State.setpoint_setRail s r, by rw [State.pow_setRail], by rw [State.pow_setRail], by rw [State.pow_setRail]⟩

/-- The targets of some rails are set. -/
theorem State.foldl_setRail (l : List Nat) (s : State) :
    (l.foldl State.setRail s).pow = { s.pow with target := l.foldl (fun m r => m.set r (s.railTarget r)) s.pow.target } ∧
    ∀ off, off < PWR_HUB_RAIL ∨ PWR_TILE + 64 ≤ off → (l.foldl State.setRail s).hubNat off = s.hubNat off := by
  induction l generalizing s with
  | nil => exact ⟨rfl, fun _ _ => rfl⟩
  | cons a l ih =>
    obtain ⟨hp, hh⟩ := ih (s.setRail a)
    refine ⟨hp.trans ?_, fun off h => (hh off h).trans (State.hubNat_setRail h s a)⟩
    rw [funext (State.sameRails_setRail s a).railTarget, State.pow_setRail, List.foldl_cons]
theorem State.pow_setRails (s : State) : s.setRails.pow =
    { s.pow with target := (List.range 17).foldl (fun m r => m.set r (s.railTarget r)) s.pow.target } := (State.foldl_setRail _ s).1
theorem State.hubNat_setRails {off : Nat} (h : off < PWR_HUB_RAIL ∨ PWR_TILE + 64 ≤ off) (s : State) : s.setRails.hubNat off = s.hubNat off :=
  (State.foldl_setRail _ s).2 off h
theorem State.sameRails_setRails (s : State) : s.SameRails s.setRails :=
  ⟨State.setpoint_congr (State.hubNat_setRails (by decide) s) (State.hubNat_setRails (by decide) s), by rw [State.pow_setRails],
    by rw [State.pow_setRails], by rw [State.pow_setRails]⟩
theorem State.target_setRails (s : State) {r : Nat} (h : r < 17) : s.setRails.pow.target.get 0 r = s.railTarget r := by
  have hmem : r ∈ List.range 17 := List.mem_range.mpr h
  rw [State.pow_setRails]
  dsimp only
  rw [SMap.get_foldl_setOwn _ _ hmem]

/-! ### Throttling the sites -/

theorem State.hubNat_throttle {off n : Nat} (h : off ≠ cmnOff n 0x3C) (s : State) (w : Nat) : (s.throttle n w).hubNat off = s.hubNat off :=
  State.hubNat_hubSetN_other _ _ _ _ h
theorem State.tx_throttle (s : State) (n w : Nat) : (s.throttle n w).tx = s.tx ++ [.mgmt n 8 [w]] := by
  simp [State.throttle, State.send]
theorem State.siteBudget_throttle (s : State) (n w m : Nat) : (s.throttle n w).siteBudget m = s.siteBudget m := by
  have hcfg : (s.throttle n w).cmnCfg m = s.cmnCfg m := State.hubNat_throttle (by unfold cmnOff; omega) s w
  rw [State.siteBudget, State.siteBudget, hcfg, State.site_congr (s := s) (t := s.throttle n w) (by simp) m]
/-- THROTTLE goes to a list of sites. -/
theorem State.foldl_throttle (pct : Nat) (l : List Nat) (s : State) :
    (l.foldl (fun s n => s.throttle n (if pct = 100 then 0 else s.siteBudget n * pct / 100)) s).pow = s.pow ∧
    (l.foldl (fun s n => s.throttle n (if pct = 100 then 0 else s.siteBudget n * pct / 100)) s).tx =
      s.tx ++ l.map (fun n => .mgmt n 8 [if pct = 100 then 0 else s.siteBudget n * pct / 100]) ∧
    ∀ off, (∀ n ∈ l, off ≠ cmnOff n 0x3C) →
      (l.foldl (fun s n => s.throttle n (if pct = 100 then 0 else s.siteBudget n * pct / 100)) s).hubNat off = s.hubNat off := by
  induction l generalizing s with
  | nil => simp
  | cons a l ih =>
    obtain ⟨hp, ht, hh⟩ := ih (s.throttle a (if pct = 100 then 0 else s.siteBudget a * pct / 100))
    refine ⟨hp.trans (by simp), ht.trans ?_, fun off h => (hh off fun n hn => h n (List.mem_cons_of_mem a hn)).trans
      (State.hubNat_throttle (h a List.mem_cons_self) _ _)⟩
    rw [State.tx_throttle, funext (State.siteBudget_throttle s a _), List.append_assoc]
    rfl
theorem State.pow_throttleSites (s : State) (pct : Nat) : (s.throttleSites pct).pow = { s.pow with sitePct := pct } :=
  (State.foldl_throttle pct s.activeSites _).1
theorem State.tx_throttleSites (s : State) {pct : Nat} (h : pct ≠ 100) : (s.throttleSites pct).tx =
    s.tx ++ s.activeSites.map (fun n => .mgmt n 8 [s.siteBudget n * pct / 100]) := by
  refine (State.foldl_throttle pct s.activeSites _).2.1.trans ?_
  simp only [if_neg h]
  rfl
theorem State.hubNat_throttleSites {off : Nat} (h : PWR_CAP ≤ off) (s : State) (pct : Nat) : (s.throttleSites pct).hubNat off = s.hubNat off := by
  refine (State.foldl_throttle pct s.activeSites _).2.2 off fun n hn => ?_
  have hmem : n ∈ [16, 17, 18, 19] := List.mem_of_mem_filter hn
  simp only [List.mem_cons, List.not_mem_nil, or_false] at hmem
  simp only [PWR_CAP] at h
  simp only [cmnOff, CMN_SITE_CFG]
  omega

/-! ### One move of the cap loop -/

theorem State.pow_moveTileCaps (s : State) (g : Nat → Nat → Nat) : (s.moveTileCaps g).pow =
    { s.pow with capLimit := (List.range 16).foldl (fun m r => m.set r (g r (s.capLimit r))) s.pow.capLimit } := by
  rw [State.moveTileCaps]
theorem State.setpoint_moveTileCaps (s : State) (g : Nat → Nat → Nat) (r : Nat) : (s.moveTileCaps g).setpoint r = s.setpoint r :=
  State.setpoint_congr (State.hubNat_congr (by simp) _) (State.hubNat_congr (by simp) _) r
theorem State.capLimit_moveTileCaps (s : State) (g : Nat → Nat → Nat) {r : Nat} (h : r < 16) :
    (s.moveTileCaps g).capLimit r = g r (s.capLimit r) := by
  have hmem : r ∈ List.range 16 := List.mem_range.mpr h
  rw [State.capLimit, State.pow_moveTileCaps]
  dsimp only
  rw [SMap.get_foldl_setOwn (fun r => g r (s.capLimit r)) _ hmem]
theorem State.capLimit_moveTileCaps_hub (s : State) (g : Nat → Nat → Nat) : (s.moveTileCaps g).capLimit hubRailNo = s.capLimit hubRailNo := by
  have hmem : hubRailNo ∉ List.range 16 := by simp [hubRailNo]
  rw [State.capLimit, State.setpoint_moveTileCaps, State.pow_moveTileCaps]
  dsimp only
  rw [SMap.get_foldl_setOwn_other (fun r => g r (s.capLimit r)) _ hmem, State.capLimit]
theorem State.capLimit_moveHubCap (s : State) (g : Nat → Nat → Nat) : (s.moveHubCap g).capLimit hubRailNo = g hubRailNo (s.capLimit hubRailNo) :=
  SMap.get_set_self ..
theorem State.capLimit_moveHubCap_other (s : State) (g : Nat → Nat → Nat) {r : Nat} (h : r < 16) : (s.moveHubCap g).capLimit r = s.capLimit r :=
  SMap.get_set_other _ _ _ _ _ (by simp only [hubRailNo]; omega)

section
variable {s : State}

theorem State.capDown_tiles (h : s.tilesAtFloor = false) : s.capDown = s.moveTileCaps stepDown := if_pos (by simp [h])
theorem State.capDown_hub (ht : s.tilesAtFloor = true) (hh : s.hubAtFloor = false) : s.capDown = s.moveHubCap stepDown :=
  (if_neg (by simp [ht])).trans (if_pos (by simp [hh]))
theorem State.capDown_sites (ht : s.tilesAtFloor = true) (hh : s.hubAtFloor = true) (ha : s.activeSites ≠ []) (hp : 20 < s.pow.sitePct) :
    s.capDown = s.throttleSites (s.pow.sitePct - 5) :=
  (if_neg (by simp [ht])).trans ((if_neg (by simp [hh])).trans (if_pos (by simp [ha, hp])))
theorem State.capDown_halve (ht : s.tilesAtFloor = true) (hh : s.hubAtFloor = true) (h : s.activeSites = [] ∨ s.pow.sitePct ≤ 20) :
    s.capDown = { s with pow := { s.pow with halved := true } } :=
  (if_neg (by simp [ht])).trans ((if_neg (by simp [hh])).trans (if_neg (by rcases h with h | h <;> simp [h])))
theorem State.capUp_halved (h : s.pow.halved = true) : s.capUp = { s with pow := { s.pow with halved := false } } := by
  have hstep : s.capStep = 4 := if_pos h
  simp only [State.capUp, hstep]
theorem State.capUp_sites (h : s.pow.halved = false) (hp : s.pow.sitePct < 100) : s.capUp = s.throttleSites (min 100 (s.pow.sitePct + 5)) := by
  have hstep : s.capStep = 3 := (if_neg (by simp [h])).trans (if_pos hp)
  simp only [State.capUp, hstep]
theorem State.capUp_hub (h : s.pow.halved = false) (hp : 100 ≤ s.pow.sitePct) (hc : s.capLimit hubRailNo < s.setpoint hubRailNo) :
    s.capUp = s.moveHubCap (fun _ v => stepUp (s.setpoint hubRailNo) v) := by
  have hstep : s.capStep = 2 := (if_neg (by simp [h])).trans ((if_neg (by omega)).trans (if_pos hc))
  simp only [State.capUp, hstep]
theorem State.capUp_tiles (h : s.pow.halved = false) (hp : 100 ≤ s.pow.sitePct) (hc : s.setpoint hubRailNo ≤ s.capLimit hubRailNo)
    (ht : ∃ r, r < 16 ∧ s.capLimit r < s.setpoint r) : s.capUp = s.moveTileCaps (fun r v => stepUp (s.setpoint r) v) := by
  have hany : (List.range 16).any (fun r => s.capLimit r < s.setpoint r) = true := by
    obtain ⟨r, hr, hlt⟩ := ht
    exact List.any_eq_true.mpr ⟨r, List.mem_range.mpr hr, decide_eq_true hlt⟩
  have hstep : s.capStep = 1 := (if_neg (by simp [h])).trans ((if_neg (by omega)).trans ((if_neg (by omega)).trans (if_pos hany)))
  simp only [State.capUp, hstep]

end

/-- What a move of the cap loop leaves: everything of the power manager but the caps, the sites' percentage and the halving, and the
registers of the power manager. -/
structure State.CapMove (s t : State) : Prop where
  floor : t.pow.floor = s.pow.floor
  therm : t.pow.thermLimit = s.pow.thermLimit
  heater : t.pow.heater = s.pow.heater
  calm : t.pow.calmPeriods = s.pow.calmPeriods
  hub : ∀ off, PWR_CAP ≤ off → t.hubNat off = s.hubNat off

theorem State.CapMove.refl (s : State) : s.CapMove s := ⟨rfl, rfl, rfl, rfl, fun _ _ => rfl⟩
theorem State.capMove_throttleSites (s : State) (pct : Nat) : s.CapMove (s.throttleSites pct) :=
  ⟨by rw [State.pow_throttleSites], by rw [State.pow_throttleSites], by rw [State.pow_throttleSites], by rw [State.pow_throttleSites],
    fun _ h => State.hubNat_throttleSites h s pct⟩
theorem State.capMove_of_hub {s t : State} (h : t.hub = s.hub) (hf : t.pow.floor = s.pow.floor) (ht : t.pow.thermLimit = s.pow.thermLimit)
    (hh : t.pow.heater = s.pow.heater) (hc : t.pow.calmPeriods = s.pow.calmPeriods) : s.CapMove t :=
  ⟨hf, ht, hh, hc, fun off _ => State.hubNat_congr h off⟩
theorem State.capMove_moveTileCaps (s : State) (g : Nat → Nat → Nat) : s.CapMove (s.moveTileCaps g) :=
  State.capMove_of_hub (by simp) (by rw [State.pow_moveTileCaps]) (by rw [State.pow_moveTileCaps]) (by rw [State.pow_moveTileCaps])
    (by rw [State.pow_moveTileCaps])
theorem State.capMove_moveHubCap (s : State) (g : Nat → Nat → Nat) : s.CapMove (s.moveHubCap g) := State.capMove_of_hub rfl rfl rfl rfl rfl
theorem State.capMove_halved (s : State) (b : Bool) : s.CapMove { s with pow := { s.pow with halved := b } } :=
  State.capMove_of_hub rfl rfl rfl rfl rfl
theorem State.capMove_capDown (s : State) : s.CapMove s.capDown := by
  unfold State.capDown
  split
  · exact s.capMove_moveTileCaps _
  · split
    · exact s.capMove_moveHubCap _
    · split
      · exact s.capMove_throttleSites _
      · exact s.capMove_halved true
theorem State.capMove_capUp (s : State) : s.CapMove s.capUp := by
  unfold State.capUp
  split
  · exact s.capMove_halved false
  · exact s.capMove_throttleSites _
  · exact s.capMove_moveHubCap _
  · exact s.capMove_moveTileCaps _
  · exact State.CapMove.refl s

end Sys2Proof.Machine
end

section
/-! SUPPORT. A control period of the power manager (R646, R652, R653, R665). -/

namespace Sys2Proof.Machine
open Sys2Proof Sys2Proof.Claims

/-! ### The 1 ms window -/

section
variable (s : State) (meanW v : Nat)

theorem State.pow_msWindow : ∃ n m, (s.msWindow meanW v).pow = { s.pow with msPeriods := n, msSum := m } := by
  unfold State.msWindow
  dsimp only
  split
  · exact ⟨_, _, rfl⟩
  · split
    · exact ⟨_, _, by rw [State.hubCount]; rfl⟩
    · exact ⟨_, _, rfl⟩
theorem State.hubNat_msWindow {off : Nat} (hi : off ≠ PWR_INPUT) (hw : off ≠ PWR_CAP_WINDOWS) :
    (s.msWindow meanW v).hubNat off = s.hubNat off := by
  unfold State.msWindow
  dsimp only
  split
  · exact State.hubNat_hubSetN_other _ _ _ _ hi
  · split
    · exact (State.hubNat_hubCount_other _ _ hw).trans (State.hubNat_hubSetN_other _ _ _ _ hi)
    · exact State.hubNat_hubSetN_other _ _ _ _ hi
theorem State.voltage_msWindow : fieldOf ((s.msWindow meanW v).hubNat PWR_INPUT) 0 16 = v % 65536 := by
  have hlow (a : Nat) : fieldOf ((a % 65536 * 65536 + v % 65536) % 2 ^ 64) 0 16 = v % 65536 := by
    rw [fieldOf_zero]
    omega
  unfold State.msWindow
  dsimp only
  split
  · exact (congrArg (fieldOf · 0 16) (State.hubNat_hubSetN_self ..)).trans (fieldOf_withField_mod _ _ (by decide))
  · split
    · rw [State.hubNat_hubCount_other _ _ (by decide), State.hubNat_hubSetN_self, hlow]
    · rw [State.hubNat_hubSetN_self, hlow]
variable {s meanW}
theorem State.mean_msWindow (h : 9 ≤ s.pow.msPeriods) :
    fieldOf ((s.msWindow meanW v).hubNat PWR_INPUT) 16 16 = (s.pow.msSum + meanW) / 10 % 65536 := by
  have hhigh (a : Nat) : fieldOf ((a % 65536 * 65536 + v % 65536) % 2 ^ 64) 16 16 = a % 65536 := by
    rw [fieldOf]
    omega
  unfold State.msWindow
  dsimp only
  rw [if_neg (by omega)]
  split
  · rw [State.hubNat_hubCount_other _ _ (by decide), State.hubNat_hubSetN_self, hhigh]
  · rw [State.hubNat_hubSetN_self, hhigh]
theorem State.windows_msWindow (h : 9 ≤ s.pow.msPeriods) (hc : s.cap * 10 < s.pow.msSum + meanW) (hh : s.pow.halved = true) :
    (s.msWindow meanW v).hubNat PWR_CAP_WINDOWS = min 0xFFFFFFFF (s.hubNat PWR_CAP_WINDOWS + 1) := by
  have hcap (a b c : Nat) : (({ s with pow := { s.pow with msPeriods := a, msSum := b } } : State).hubSetN PWR_INPUT c).cap = s.cap := by
    have hother {off : Nat} (ho : off ≠ PWR_INPUT) :
        (({ s with pow := { s.pow with msPeriods := a, msSum := b } } : State).hubSetN PWR_INPUT c).hubNat off = s.hubNat off :=
      State.hubNat_hubSetN_other _ _ _ _ ho
    rw [State.cap, hother (by decide), hother (by decide), State.cap]
  unfold State.msWindow
  dsimp only
  rw [if_neg (by omega), if_pos (by rw [hcap]; simp [hc, hh]), State.hubNat_hubCount_self]
  exact congrArg (fun w => min 0xFFFFFFFF (w + 1)) (State.hubNat_hubSetN_other _ _ _ _ (by decide))

end

/-! ### The state in which the cap loop decides -/

/-- The calm periods in a row are counted. -/
def State.calmNoted (s : State) (meanW : Nat) : State :=
  { s with pow := { s.pow with calmPeriods := if meanW * 100 < s.cap * 97 then s.pow.calmPeriods + 1 else 0 } }
/-- The loop has made its move, if any. -/
def State.capMoved (s : State) (meanW : Nat) : State :=
  if s.cap < meanW then s.capDown else if 10 ≤ s.pow.calmPeriods then s.capUp else s
theorem State.capLoop_eq (s : State) (meanW : Nat) : s.capLoop meanW =
    ((s.calmNoted meanW).capMoved meanW).hubSetN PWR_CAP_STATE ((s.calmNoted meanW).capMoved meanW).capStep := by
  rw [State.capLoop, State.capMoved, State.calmNoted]

/-- What the cap loop reads is as at the start of the period, but for the calm periods. -/
structure State.PeriodBegun (s b : State) (meanW : Nat) : Prop where
  rails : s.SameRails b
  cap : b.cap = s.cap
  noc : b.noc = s.noc
  active : b.activeSites = s.activeSites
  budget : ∀ n ∈ [16, 17, 18, 19], b.siteBudget n = s.siteBudget n
  sitePct : b.pow.sitePct = s.pow.sitePct
  halved : b.pow.halved = s.pow.halved
  heater : b.pow.heater = s.pow.heater
  tx : b.tx = s.tx
  calm : b.pow.calmPeriods = if meanW * 100 < s.cap * 97 then s.pow.calmPeriods + 1 else 0

theorem State.cap_congr {s t : State} (hc : t.hubNat PWR_CAP = s.hubNat PWR_CAP) (hr : t.hubNat PWR_CAP_RUN = s.hubNat PWR_CAP_RUN) :
    t.cap = s.cap := by
  rw [State.cap, State.cap, hc, hr]
theorem State.periodBegun (s : State) (meanW v : Nat) : s.PeriodBegun ((s.msWindow meanW v).calmNoted meanW) meanW := by
  obtain ⟨n, m, hpow⟩ := s.pow_msWindow meanW v
  have hhub {off : Nat} (hi : off ≠ PWR_INPUT) (hw : off ≠ PWR_CAP_WINDOWS) :
      ((s.msWindow meanW v).calmNoted meanW).hubNat off = s.hubNat off := s.hubNat_msWindow meanW v hi hw
  have hcap : (s.msWindow meanW v).cap = s.cap :=
    State.cap_congr (s.hubNat_msWindow _ _ (by decide) (by decide)) (s.hubNat_msWindow _ _ (by decide) (by decide))
  have hsites (n : Nat) (hn : n ∈ [16, 17, 18, 19]) (a : Nat) (ha : a < 0x100) :
      ((s.msWindow meanW v).calmNoted meanW).hubNat (cmnOff n a) = s.hubNat (cmnOff n a) := by
    simp only [List.mem_cons, List.not_mem_nil, or_false] at hn
    refine hhub ?_ ?_ <;> simp only [cmnOff, CMN_SITE_CFG, PWR_INPUT, PWR_CAP_WINDOWS] <;> omega
  have hst (n : Nat) (hn : n ∈ [16, 17, 18, 19]) : ((s.msWindow meanW v).calmNoted meanW).cmnSt n = s.cmnSt n := by
    rw [State.cmnSt, State.cmnSt, hsites n hn 4 (by decide)]
  have hcfg (n : Nat) (hn : n ∈ [16, 17, 18, 19]) : ((s.msWindow meanW v).calmNoted meanW).cmnCfg n = s.cmnCfg n := by
    rw [State.cmnCfg, State.cmnCfg, hsites n hn 0 (by decide)]
  have hsite (n : Nat) : ((s.msWindow meanW v).calmNoted meanW).site n = s.site n :=
    State.site_congr (s := s) (t := (s.msWindow meanW v).calmNoted meanW) (by simp [State.calmNoted]) n
  have hcalm : ((s.msWindow meanW v).calmNoted meanW).pow.calmPeriods =
      if meanW * 100 < (s.msWindow meanW v).cap * 97 then (s.msWindow meanW v).pow.calmPeriods + 1 else 0 := rfl
  have hkeep {α : Type} (f : Power → α) (hf : ∀ (p : Power) (a b c : Nat), f { p with msPeriods := a, msSum := b, calmPeriods := c } = f p) :
      f ((s.msWindow meanW v).calmNoted meanW).pow = f s.pow := by
    rw [State.calmNoted]
    dsimp only
    rw [hpow]
    exact hf s.pow n m _
  refine ⟨⟨State.setpoint_congr (hhub (by decide) (by decide)) (hhub (by decide) (by decide)), hkeep Power.floor fun _ _ _ _ => rfl,
    hkeep Power.capLimit fun _ _ _ _ => rfl, hkeep Power.thermLimit fun _ _ _ _ => rfl⟩,
    State.cap_congr (hhub (by decide) (by decide)) (hhub (by decide) (by decide)), by simp [State.calmNoted],
    List.filter_congr fun n hn => by rw [hst n hn], fun n hn => by rw [State.siteBudget, State.siteBudget, hcfg n hn, hsite],
    hkeep Power.sitePct fun _ _ _ _ => rfl, hkeep Power.halved fun _ _ _ _ => rfl, hkeep Power.heater fun _ _ _ _ => rfl,
    by simp [State.calmNoted], ?_⟩
  rw [hcalm, hcap, hpow]

section
variable {s b t : State} {meanW : Nat}

theorem State.PeriodBegun.tilesAtFloor (h : s.PeriodBegun b meanW) : b.tilesAtFloor = s.tilesAtFloor := by
  simp only [State.tilesAtFloor, State.liveTiles, State.fencedUnit, h.noc, h.rails.capLimit, h.rails.railFloor]
theorem State.PeriodBegun.hubAtFloor (h : s.PeriodBegun b meanW) : b.hubAtFloor = s.hubAtFloor := by
  rw [State.hubAtFloor, State.hubAtFloor, h.rails.capLimit, h.rails.railFloor]

theorem State.capMove_capMoved (b : State) (meanW : Nat) : b.CapMove (b.capMoved meanW) := by
  unfold State.capMoved
  split
  · exact b.capMove_capDown
  · split
    · exact b.capMove_capUp
    · exact State.CapMove.refl b
theorem State.CapMove.setpoint (h : s.CapMove t) (r : Nat) : t.setpoint r = s.setpoint r :=
  State.setpoint_congr (h.hub _ (by decide)) (h.hub _ (by decide)) r
theorem State.capMoved_above (h : s.PeriodBegun b meanW) (hc : s.cap < meanW) : b.capMoved meanW = b.capDown := if_pos (by rw [h.cap]; exact hc)
theorem State.capMoved_between (h : s.PeriodBegun b meanW) (hc : meanW ≤ s.cap) (hn : s.cap * 97 ≤ meanW * 100 ∨ s.pow.calmPeriods < 9) :
    b.capMoved meanW = b := by
  have hcalm : b.pow.calmPeriods < 10 := by
    rw [h.calm]
    split <;> omega
  exact (if_neg (by rw [h.cap]; omega)).trans (if_neg (by omega))
theorem State.capMoved_calm (h : s.PeriodBegun b meanW) (hc : meanW * 100 < s.cap * 97) (hn : 9 ≤ s.pow.calmPeriods) :
    b.capMoved meanW = b.capUp := by
  have hcalm : 10 ≤ b.pow.calmPeriods := by
    rw [h.calm, if_pos hc]
    omega
  exact (if_neg (by rw [h.cap]; omega)).trans (if_pos hcalm)

end

/-! ### The end of the period -/

/-- Each thermal limit may move again. -/
def State.movesCleared (s : State) : State := { s with pow := { s.pow with thermMoved := [] } }
theorem State.hubNat_movesCleared (s : State) (off : Nat) : s.movesCleared.hubNat off = s.hubNat off := rfl
theorem State.pow_movesCleared (s : State) : s.movesCleared.pow = { s.pow with thermMoved := [] } := rfl
theorem State.sameRails_movesCleared (s : State) : s.SameRails s.movesCleared := ⟨fun _ => rfl, rfl, rfl, rfl⟩
theorem State.frame_movesCleared (s : State) : s.movesCleared.tx = s.tx ∧ s.movesCleared.mem = s.mem := ⟨rfl, rfl⟩
/-- The step in force is shown. -/
def State.stepShown (c : State) : State := c.hubSetN PWR_CAP_STATE c.capStep
theorem State.sameRails_stepShown (c : State) : c.SameRails c.stepShown :=
  ⟨State.setpoint_congr (State.hubNat_hubSetN_other _ _ _ _ (by decide)) (State.hubNat_hubSetN_other _ _ _ _ (by decide)), rfl, rfl, rfl⟩
/-- And the rails are at their targets. -/
def State.periodEnded (c : State) : State := c.stepShown.setRails.movesCleared
theorem exec_powerControlPeriod {s : State} (hup : s.up = true) (meanW v : Nat) : exec (.powerControlPeriod meanW v) s =
    .next (((s.msWindow meanW v).calmNoted meanW).capMoved meanW).periodEnded := by
  refine congrArg Host.Outcome.next ((if_pos hup).trans ?_)
  rw [State.capLoop_eq, State.periodEnded, State.movesCleared, State.stepShown]

section
variable (c : State)

theorem State.pow_periodEnded : ∃ m, c.periodEnded.pow = { c.pow with target := m, thermMoved := [] } := by
  rw [State.periodEnded, State.pow_movesCleared, State.pow_setRails]
  exact ⟨_, rfl⟩
theorem State.hubNat_periodEnded {off : Nat} (hs : off ≠ PWR_CAP_STATE) (hr : off < PWR_HUB_RAIL ∨ PWR_TILE + 64 ≤ off) :
    c.periodEnded.hubNat off = c.hubNat off := by
  rw [State.periodEnded, State.hubNat_movesCleared, State.hubNat_setRails hr]
  exact State.hubNat_hubSetN_other _ _ _ _ hs
theorem State.sameRails_periodEnded : c.SameRails c.periodEnded :=
  c.sameRails_stepShown.trans (c.stepShown.sameRails_setRails.trans c.stepShown.setRails.sameRails_movesCleared)
theorem State.capStep_periodEnded : c.periodEnded.capStep = c.capStep := by
  obtain ⟨m, hpow⟩ := c.pow_periodEnded
  simp only [State.capStep, c.sameRails_periodEnded.capLimit, c.sameRails_periodEnded.setpoint]
  rw [hpow]
theorem State.capStep_lt (s : State) : s.capStep < 5 := by
  unfold State.capStep
  split
  · omega
  · split
    · omega
    · split
      · omega
      · split <;> omega
theorem State.shown_periodEnded : c.periodEnded.hubNat PWR_CAP_STATE = c.periodEnded.capStep := by
  have hlt := c.capStep_lt
  rw [State.capStep_periodEnded, State.periodEnded, State.hubNat_movesCleared, State.hubNat_setRails (by decide), State.stepShown,
    State.hubNat_hubSetN_self, Nat.mod_eq_of_lt (by omega)]
theorem State.target_periodEnded {r : Nat} (h : r < 17) : c.periodEnded.pow.target.get 0 r = c.periodEnded.railTarget r := by
  rw [c.sameRails_periodEnded.railTarget, ← c.sameRails_stepShown.railTarget, ← State.target_setRails _ h, State.periodEnded,
    State.pow_movesCleared]
theorem State.frame_periodEnded : c.periodEnded.tx = c.tx ∧ c.periodEnded.mem = c.mem := by
  obtain ⟨htx, hmem⟩ := c.stepShown.setRails.frame_movesCleared
  exact ⟨htx.trans (by simp [State.stepShown]), hmem.trans (by simp [State.stepShown])⟩

end

/-! ### What a period leaves -/

theorem State.sitePct_periodEnded (c : State) : c.periodEnded.pow.sitePct = c.pow.sitePct := by
  obtain ⟨m, hpow⟩ := c.pow_periodEnded
  rw [hpow]
theorem State.halved_periodEnded (c : State) : c.periodEnded.pow.halved = c.pow.halved := by
  obtain ⟨m, hpow⟩ := c.pow_periodEnded
  rw [hpow]

/-- The caps, the sites and the messages after a period, of those after the loop's move. -/
structure State.EndsAs (c t : State) : Prop where
  capLimit : ∀ r, t.capLimit r = c.capLimit r
  caps : t.pow.capLimit = c.pow.capLimit
  sitePct : t.pow.sitePct = c.pow.sitePct
  halved : t.pow.halved = c.pow.halved
  tx : t.tx = c.tx
theorem State.endsAs (c : State) : c.EndsAs c.periodEnded :=
  ⟨c.sameRails_periodEnded.capLimit, c.sameRails_periodEnded.cap, c.sitePct_periodEnded, c.halved_periodEnded, c.frame_periodEnded.1⟩

section
variable {s b : State} {meanW : Nat} (h : s.PeriodBegun b meanW)
include h

/-- Above the cap: the tiles go down first. -/
theorem State.PeriodBegun.tilesDown (hc : s.cap < meanW) (hf : s.tilesAtFloor = false) :
    (∀ r, r < 16 → (b.capMoved meanW).capLimit r = stepDown r (s.capLimit r)) ∧ (b.capMoved meanW).pow.sitePct = s.pow.sitePct ∧
    (b.capMoved meanW).pow.halved = s.pow.halved ∧
    (b.capMoved meanW).capLimit hubRailNo = s.capLimit hubRailNo ∧ (b.capMoved meanW).tx = s.tx := by
  rw [State.capMoved_above h hc, State.capDown_tiles (h.tilesAtFloor.trans hf), State.pow_moveTileCaps]
  exact ⟨fun r hr => by rw [State.capLimit_moveTileCaps _ _ hr, h.rails.capLimit], h.sitePct, h.halved,
    by rw [State.capLimit_moveTileCaps_hub, h.rails.capLimit], by rw [← h.tx]; simp⟩
/-- Then the hub. -/
theorem State.PeriodBegun.hubDown (hc : s.cap < meanW) (hf : s.tilesAtFloor = true) (hh : s.hubAtFloor = false) :
    (b.capMoved meanW).capLimit hubRailNo = stepDown hubRailNo (s.capLimit hubRailNo) ∧
    (∀ r, r < 16 → (b.capMoved meanW).capLimit r = s.capLimit r) ∧
    (b.capMoved meanW).pow.sitePct = s.pow.sitePct ∧ (b.capMoved meanW).pow.halved = s.pow.halved ∧ (b.capMoved meanW).tx = s.tx := by
  rw [State.capMoved_above h hc, State.capDown_hub (h.tilesAtFloor.trans hf) (h.hubAtFloor.trans hh)]
  exact ⟨by rw [State.capLimit_moveHubCap, h.rails.capLimit], fun r hr => by rw [State.capLimit_moveHubCap_other _ _ hr, h.rails.capLimit],
    h.sitePct, h.halved, by rw [← h.tx]; simp⟩
/-- Then the sites, by five percent. -/
theorem State.PeriodBegun.sitesDown (hc : s.cap < meanW) (hf : s.tilesAtFloor = true) (hh : s.hubAtFloor = true) (ha : s.activeSites ≠ [])
    (hp : 20 < s.pow.sitePct) (hle : s.pow.sitePct ≤ 100) : (b.capMoved meanW).pow.sitePct = s.pow.sitePct - 5 ∧
    (b.capMoved meanW).pow.capLimit = s.pow.capLimit ∧ (b.capMoved meanW).pow.halved = s.pow.halved ∧
    (b.capMoved meanW).tx = s.tx ++ s.activeSites.map (fun n => .mgmt n 8 [s.siteBudget n * (s.pow.sitePct - 5) / 100]) := by
  rw [State.capMoved_above h hc, State.capDown_sites (h.tilesAtFloor.trans hf) (h.hubAtFloor.trans hh) (by rw [h.active]; exact ha)
    (by rw [h.sitePct]; exact hp), h.sitePct, State.pow_throttleSites, State.tx_throttleSites _ (by omega), h.tx, h.active]
  refine ⟨rfl, h.rails.cap, h.halved, congrArg (s.tx ++ ·) (List.map_congr_left fun n hn => ?_)⟩
  rw [h.budget n (List.mem_of_mem_filter hn)]
/-- Then step 4. -/
theorem State.PeriodBegun.halves (hc : s.cap < meanW) (hf : s.tilesAtFloor = true) (hh : s.hubAtFloor = true)
    (ha : s.activeSites = [] ∨ s.pow.sitePct ≤ 20) : (b.capMoved meanW).pow.halved = true ∧ (b.capMoved meanW).pow.capLimit = s.pow.capLimit ∧
    (b.capMoved meanW).pow.sitePct = s.pow.sitePct ∧ (b.capMoved meanW).tx = s.tx := by
  rw [State.capMoved_above h hc, State.capDown_halve (h.tilesAtFloor.trans hf) (h.hubAtFloor.trans hh) (by rw [h.active, h.sitePct]; exact ha)]
  exact ⟨rfl, h.rails.cap, h.sitePct, h.tx⟩
/-- In ten calm periods step 4 is released first. -/
theorem State.PeriodBegun.unhalves (hc : meanW * 100 < s.cap * 97) (hn : 9 ≤ s.pow.calmPeriods) (hh : s.pow.halved = true) :
    (b.capMoved meanW).pow.halved = false ∧ (b.capMoved meanW).pow.capLimit = s.pow.capLimit ∧
    (b.capMoved meanW).pow.sitePct = s.pow.sitePct := by
  rw [State.capMoved_calm h hc hn, State.capUp_halved (h.halved.trans hh)]
  exact ⟨rfl, h.rails.cap, h.sitePct⟩
/-- Then the sites. -/
theorem State.PeriodBegun.sitesUp (hc : meanW * 100 < s.cap * 97) (hn : 9 ≤ s.pow.calmPeriods) (hh : s.pow.halved = false)
    (hp : s.pow.sitePct < 100) :
    (b.capMoved meanW).pow.sitePct = min 100 (s.pow.sitePct + 5) ∧ (b.capMoved meanW).pow.capLimit = s.pow.capLimit := by
  rw [State.capMoved_calm h hc hn, State.capUp_sites (h.halved.trans hh) (by rw [h.sitePct]; exact hp), State.pow_throttleSites, h.sitePct]
  exact ⟨rfl, h.rails.cap⟩
/-- Then the hub. -/
theorem State.PeriodBegun.hubUp (hc : meanW * 100 < s.cap * 97) (hn : 9 ≤ s.pow.calmPeriods) (hh : s.pow.halved = false)
    (hp : 100 ≤ s.pow.sitePct) (hlt : s.capLimit hubRailNo < s.setpoint hubRailNo) :
    (b.capMoved meanW).capLimit hubRailNo = stepUp (s.setpoint hubRailNo) (s.capLimit hubRailNo) ∧
    ∀ r, r < 16 → (b.capMoved meanW).capLimit r = s.capLimit r := by
  rw [State.capMoved_calm h hc hn, State.capUp_hub (h.halved.trans hh) (by rw [h.sitePct]; exact hp)
    (by rw [h.rails.capLimit, h.rails.setpoint]; exact hlt)]
  exact ⟨by rw [State.capLimit_moveHubCap, h.rails.capLimit, h.rails.setpoint],
    fun r hr => by rw [State.capLimit_moveHubCap_other _ _ hr, h.rails.capLimit]⟩
/-- Then the tiles. -/
theorem State.PeriodBegun.tilesUp (hc : meanW * 100 < s.cap * 97) (hn : 9 ≤ s.pow.calmPeriods) (hh : s.pow.halved = false)
    (hp : 100 ≤ s.pow.sitePct) (hle : s.setpoint hubRailNo ≤ s.capLimit hubRailNo) (ht : ∃ r, r < 16 ∧ s.capLimit r < s.setpoint r) :
    ∀ r, r < 16 → (b.capMoved meanW).capLimit r = stepUp (s.setpoint r) (s.capLimit r) := by
  intro r hr
  rw [State.capMoved_calm h hc hn, State.capUp_tiles (h.halved.trans hh) (by rw [h.sitePct]; exact hp)
    (by rw [h.rails.capLimit, h.rails.setpoint]; exact hle) (by simpa only [h.rails.capLimit, h.rails.setpoint] using ht),
    State.capLimit_moveTileCaps _ _ hr, h.rails.capLimit, h.rails.setpoint]

end

end Sys2Proof.Machine
end

section
/-! SUPPORT. The margin loop, the thermal loop, the monitors and live calibration (R643, R644, R650 to R655, R658 to R663, R704). -/

namespace Sys2Proof.Machine
open Sys2Proof Sys2Proof.Claims

/-! ### Units and monitors -/

theorem State.physId_congr {s t : State} (h : t.noc = s.noc) (kind p : Nat) : t.physId kind p = s.physId kind p := by
  rw [State.physId, State.physId, State.epochOf, State.epochOf, h]
theorem State.railPhys_congr {s t : State} (h : t.noc = s.noc) (r : Nat) : t.railPhys r = s.railPhys r := by
  rw [State.railPhys, State.railPhys, State.physId_congr h]
theorem State.mem_monitor (s : State) (id : Nat) : id ∈ (s.monitor id true).sdg.monitors := by
  unfold State.monitor
  rw [if_pos rfl]
  split
  case isTrue h => simpa using h
  case isFalse => exact List.mem_cons_self
theorem State.notMem_monitor (s : State) (id : Nat) : id ∉ (s.monitor id false).sdg.monitors := by
  unfold State.monitor
  rw [if_neg (by decide)]
  split
  case isTrue => simp
  case isFalse h => simpa using h

/-! ### The margin loop -/

theorem State.sameRails_of_hubSetN (s : State) {off : Nat} (v : Nat) (ht : PWR_TILE_SETPOINT ≠ off) (hh : PWR_HUB_SETPOINT ≠ off) :
    s.SameRails (s.hubSetN off v) :=
  ⟨State.setpoint_congr (State.hubNat_hubSetN_other _ _ _ _ ht) (State.hubNat_hubSetN_other _ _ _ _ hh), rfl, rfl, rfl⟩
/-- A late canary is counted. -/
def State.canaryLate (s : State) : State := s.hubCount CAL_CANARY_LATE 1
theorem State.sameRails_canaryLate (s : State) : s.SameRails s.canaryLate := s.sameRails_of_hubSetN _ (by decide) (by decide)

/-- A floor stands at a value. -/
def State.floorAt (s : State) (r v : Nat) : State :=
  { s with pow := { s.pow with floor := s.pow.floor.set r v, quietAt := s.pow.quietAt.set r s.time } }
theorem State.setFloor_eq (s : State) (r v : Nat) : s.setFloor r v = (s.floorAt r v).setRail r := rfl
theorem State.pow_setFloor (s : State) (r v : Nat) : (s.setFloor r v).pow =
    { (s.floorAt r v).pow with target := s.pow.target.set r ((s.floorAt r v).railTarget r) } := by
  rw [State.setFloor_eq, State.pow_setRail]
  rfl
theorem State.railFloor_setFloor (s : State) (r v : Nat) : (s.setFloor r v).railFloor r = max (railMin r) v := by
  rw [State.setFloor_eq, (State.sameRails_setRail ..).railFloor]
  exact congrArg (max (railMin r)) (SMap.get_set_self ..)
theorem State.target_setFloor (s : State) (r v : Nat) : (s.setFloor r v).pow.target.get 0 r = (s.setFloor r v).railTarget r := by
  rw [State.setFloor_eq, (State.sameRails_setRail ..).railTarget, State.pow_setRail]
  exact SMap.get_set_self ..
theorem State.quietAt_setFloor (s : State) (r v : Nat) : (s.setFloor r v).pow.quietAt.find r = some s.time := by
  rw [State.pow_setFloor]
  exact SMap.find_set_self ..
theorem State.late_setFloor (s : State) (r v : Nat) : (s.setFloor r v).pow.late = s.pow.late := by
  rw [State.pow_setFloor]
  rfl
theorem State.hubNat_setFloor (s : State) (r v : Nat) {off : Nat} (h : off < PWR_HUB_RAIL ∨ PWR_TILE + 64 ≤ off) :
    (s.setFloor r v).hubNat off = s.hubNat off := by
  rw [State.setFloor_eq, State.hubNat_setRail h]
  rfl
theorem railMin_le_railMax (r : Nat) : railMin r ≤ railMax r := by
  unfold railMin railMax
  split <;> omega
theorem State.railMin_le_railFloor (s : State) (r : Nat) : railMin r ≤ s.railFloor r := Nat.le_max_left ..

/-- The floor goes up after a late canary. -/
def State.canaryRaised (s : State) (r : Nat) : State := s.canaryLate.setFloor r (min (railMax r) (s.railFloor r + 50))
theorem State.railFloor_canaryRaised (s : State) (r : Nat) : (s.canaryRaised r).railFloor r = min (railMax r) (s.railFloor r + 50) := by
  have hmin := railMin_le_railMax r
  have hfloor := s.railMin_le_railFloor r
  rw [State.canaryRaised, State.railFloor_setFloor]
  omega
theorem State.hubNat_canaryRaised (s : State) (r : Nat) :
    (s.canaryRaised r).hubNat CAL_CANARY_LATE = min 0xFFFFFFFF (s.hubNat CAL_CANARY_LATE + 1) := by
  rw [State.canaryRaised, State.hubNat_setFloor _ _ _ (by decide)]
  exact State.hubNat_hubCount_self ..
theorem State.late_canaryRaised (s : State) (r : Nat) : (s.canaryRaised r).pow.late = s.pow.late := by
  rw [State.canaryRaised, State.late_setFloor, State.canaryLate]
  simp
theorem State.frame_canaryRaised (s : State) (r : Nat) : (s.canaryRaised r).tx = s.tx ∧ (s.canaryRaised r).mem = s.mem ∧
    (s.canaryRaised r).noc = s.noc ∧ (s.canaryRaised r).time = s.time :=
  ⟨by simp [State.canaryRaised, State.canaryLate], by simp [State.canaryRaised, State.canaryLate],
    by simp [State.canaryRaised, State.canaryLate], by simp [State.canaryRaised, State.canaryLate]⟩

section
variable {s : State} {r : Nat} (hup : s.up = true) (hr : r ≤ 16)
include hup hr

theorem exec_canaryWindow_rise (h : s.railFloor r < railMax r) : exec (.canaryWindow r) s = .next (s.canaryRaised r) := by
  have hguard : ¬(!s.up || decide (hubRailNo < r)) = true := by simp [hup, decide_eq_false (p := hubRailNo < r) (Nat.not_lt.mpr hr)]
  refine congrArg Host.Outcome.next ((if_neg hguard).trans ?_)
  have hfloor : (s.hubCount CAL_CANARY_LATE 1).railFloor r = s.railFloor r := s.sameRails_canaryLate.railFloor r
  dsimp only
  rw [hfloor, if_pos (by simp [h])]
  rfl
/-- The shortfall of a rail begins. -/
def State.lateFrom (s : State) (r : Nat) : State := { s with pow := { s.pow with late := s.pow.late.set r s.time } }
theorem exec_canaryWindow_max (h : railMax r ≤ s.railFloor r) (hl : s.pow.late.find r = none) : exec (.canaryWindow r) s =
    .next (((s.canaryRaised r).lateFrom r).takeReport (hubReport cCalMargin .ce 0x11 (s.railPhys r) 0)) := by
  have hguard : ¬(!s.up || decide (hubRailNo < r)) = true := by simp [hup, decide_eq_false (p := hubRailNo < r) (Nat.not_lt.mpr hr)]
  refine congrArg Host.Outcome.next ((if_neg hguard).trans ?_)
  have hfloor : (s.hubCount CAL_CANARY_LATE 1).railFloor r = s.railFloor r := s.sameRails_canaryLate.railFloor r
  have hlate : ((s.canaryRaised r).pow.late.find r).isSome = false := by rw [State.late_canaryRaised, hl]; rfl
  have hphys : (s.canaryRaised r).railPhys r = s.railPhys r := State.railPhys_congr (s.frame_canaryRaised r).2.2.1 r
  dsimp only
  rw [hfloor]
  refine (if_neg ?_).trans (congrArg (fun p => ((s.canaryRaised r).lateFrom r).takeReport (hubReport cCalMargin .ce 0x11 p 0)) hphys)
  simp only [Bool.or_eq_true, decide_eq_true_eq, not_or, Nat.not_lt]
  exact ⟨h, by rw [← State.canaryLate, ← State.canaryRaised, hlate]; decide⟩
/-- The floor goes down. -/
def State.marginRelaxed (s : State) (r : Nat) : State := (s.dropLate r).setFloor r (max (railMin r) (s.railFloor r - 25))
theorem exec_marginRelax (h : s.pow.quietAt.get s.boot.startAt r + 10000000 ≤ s.time) :
    exec (.marginRelax r) s = .next (s.marginRelaxed r) := by
  refine congrArg Host.Outcome.next ((if_neg ?_).trans rfl)
  simp [hup, decide_eq_false (p := hubRailNo < r) (Nat.not_lt.mpr hr), h]
omit hup hr in
theorem exec_marginRelax_early (h : s.time < s.pow.quietAt.get s.boot.startAt r + 10000000) : exec (.marginRelax r) s = .next s :=
  congrArg Host.Outcome.next (if_pos (by simp [h]))

end
theorem State.railFloor_marginRelaxed (s : State) (r : Nat) : (s.marginRelaxed r).railFloor r = max (railMin r) (s.railFloor r - 25) := by
  rw [State.marginRelaxed, State.railFloor_setFloor]
  omega
theorem State.late_marginRelaxed (s : State) (r : Nat) : (s.marginRelaxed r).pow.late.find r = none := by
  rw [State.marginRelaxed, State.late_setFloor]
  exact SMap.find_del_self ..
theorem State.frame_marginRelaxed (s : State) (r : Nat) : (s.marginRelaxed r).tx = s.tx ∧ (s.marginRelaxed r).mem = s.mem :=
  ⟨by simp [State.marginRelaxed], by simp [State.marginRelaxed]⟩

/-! ### Escalation -/

theorem State.lasted_of_le {s : State} {t0 : Nat} {o : Option Nat} (ho : o = some t0) (h : t0 + s.holdNs ≤ s.time) : s.lasted o = true := by
  rw [ho]
  exact decide_eq_true h

section
variable {s : State} {t0 : Nat} (hup : s.up = true) (ht : t0 + s.holdNs ≤ s.time)
include hup ht

theorem exec_escalate_tile {n : Nat} (hn : n < 16) (hl : s.pow.late.find n = some t0) :
    exec (.calMarginEscalate (.tile n)) s = .next ((s.dropLate n).marginUc kTile n (s.physId kTile n)) :=
  congrArg Host.Outcome.next ((if_neg (by simp [hup])).trans ((if_pos (by simp [hn, State.lasted_of_le hl ht])).trans
    (congrArg ((s.dropLate n).marginUc kTile n) (State.physId_congr (by simp) kTile n))))
theorem exec_escalate_hub (hl : s.pow.late.find hubRailNo = some t0) : exec (.calMarginEscalate (.hubRail none)) s =
    .next ((s.dropLate hubRailNo).report (hubReport cHubRail .ft 0x0F hubRailNo 0)) :=
  congrArg Host.Outcome.next ((if_neg (by simp [hup])).trans ((if_neg (by simp [State.lasted_of_le hl ht])).trans rfl))
theorem exec_escalate_unit (hl : s.pow.late.find hubRailNo = some t0) {k n : Nat} (hk : k = kSlice ∨ k = kDrover ∨ k = kHalf) :
    exec (.calMarginEscalate (.hubRail (some (k, n)))) s = .next ((s.dropLate hubRailNo).marginUc k n (s.physId k n)) :=
  congrArg Host.Outcome.next ((if_neg (by simp [hup])).trans ((if_neg (by simp [State.lasted_of_le hl ht])).trans
    ((if_pos (by simpa [or_assoc] using hk)).trans (congrArg ((s.dropLate hubRailNo).marginUc k n) (State.physId_congr (by simp) k n)))))
theorem exec_escalate_unit_other (hl : s.pow.late.find hubRailNo = some t0) {k : Nat} (n : Nat) (h1 : k ≠ kSlice) (h2 : k ≠ kDrover)
    (h3 : k ≠ kHalf) : exec (.calMarginEscalate (.hubRail (some (k, n)))) s =
      .next ((s.dropLate hubRailNo).report (hubReport cHubRail .ft 0x0F hubRailNo 0)) :=
  congrArg Host.Outcome.next ((if_neg (by simp [hup])).trans ((if_neg (by simp [State.lasted_of_le hl ht])).trans
    (if_neg (by simp [h1, h2, h3]))))
/-- The shortfalls of a stack have been escalated. -/
def State.stackEscalated (s : State) (k : Nat) : State :=
  { s.hubSetN (CAL_HBM_STACK + 4 * k) (withField (s.hubNat (CAL_HBM_STACK + 4 * k)) 0 2 2) with
      pow := { s.pow with belowPcs := s.pow.belowPcs.filter (fun p => p.1 / 64 != k) } }
theorem exec_escalate_stack {k i : Nat} (hk : k < 24) (hi : i < 64) (hv : s.vacant kStack k = false)
    (hl : s.pow.belowPcs.find (k * 64 + i) = some t0) :
    exec (.calMarginEscalate (.stack k)) s = .next ((s.stackEscalated k).marginUc kStack k (s.physId kStack k)) := by
  have hany : (pcsOf k).any (fun p => s.lasted (s.pow.belowPcs.find p)) = true :=
    List.any_eq_true.mpr ⟨k * 64 + i, List.mem_map.mpr ⟨i, List.mem_range.mpr hi, rfl⟩, State.lasted_of_le hl ht⟩
  exact congrArg Host.Outcome.next ((if_neg (by simp [hup])).trans (if_pos (by simp [hk, hv, hany])))
theorem exec_escalate_lane {p l : Nat} (hp : p < 16) (hl16 : l < 16) (hl : s.pow.belowLanes.find (p * 16 + l) = some t0) :
    exec (.calMarginEscalate (.lane p l)) s =
      .next (({ s with pow := { s.pow with belowLanes := s.pow.belowLanes.del (p * 16 + l) } } : State).marginUc kLane (p * 16 + l)
        ((s.lanePhys p l).getD 0)) :=
  congrArg Host.Outcome.next ((if_neg (by simp [hup])).trans (if_pos (by simp [hp, hl16, State.lasted_of_le hl ht])))

end
theorem State.hubNat_stackEscalated (s : State) (k : Nat) : (s.stackEscalated k).hubNat (CAL_HBM_STACK + 4 * k) % 4 = 2 := by
  have hreg : (s.stackEscalated k).hubNat (CAL_HBM_STACK + 4 * k) = withField (s.hubNat (CAL_HBM_STACK + 4 * k)) 0 2 2 % 2 ^ 64 :=
    State.hubNat_hubSetN_self ..
  rw [hreg]
  exact (fieldOf_zero _ 2).symm.trans (fieldOf_withField_self _ (by decide) (by decide))
theorem State.belowPcs_stackEscalated (s : State) {k i : Nat} (hi : i < 64) : (s.stackEscalated k).pow.belowPcs.find (k * 64 + i) = none := by
  refine (SMap.find_filter (fun p => p / 64 != k) s.pow.belowPcs (k * 64 + i)).trans (if_neg ?_)
  have hdiv : (k * 64 + i) / 64 = k := by omega
  simp [hdiv]
theorem exec_escalate_tile_not {s : State} {n : Nat} (h : s.pow.late.find n = none ∨ ∃ t0, s.pow.late.find n = some t0 ∧ s.time < t0 + s.holdNs) :
    exec (.calMarginEscalate (.tile n)) s = .next s := by
  have hnot : s.lasted (s.pow.late.find n) = false := by
    rcases h with h | ⟨t0, h, hlt⟩
    · rw [h]
      rfl
    · rw [h]
      exact decide_eq_false (by omega)
  refine congrArg Host.Outcome.next ?_
  split
  · rfl
  · exact if_neg (by simp [hnot])

end Sys2Proof.Machine
end

section
/-! SUPPORT. The thermal loop, the rail and clock monitors and the shutdown (R643, R644, R653 to R658, R704). -/

namespace Sys2Proof.Machine
open Sys2Proof Sys2Proof.Claims

/-! ### One reading -/

/-- The temperature is shown. -/
def State.railTempShown (s : State) (r temp : Nat) : State := s.hubSetN (railReg r) (withField (s.hubNat (railReg r)) 24 8 (min temp 255))
theorem State.hubNat_railTempShown (s : State) (r temp : Nat) {off : Nat} (h : off < PWR_HUB_RAIL ∨ PWR_TILE + 64 ≤ off) :
    (s.railTempShown r temp).hubNat off = s.hubNat off := State.hubNat_hubSetN_other _ _ _ _ (railReg_ne h r)
theorem State.temp_railTempShown (s : State) (r : Nat) {temp : Nat} (h : temp < 256) :
    fieldOf ((s.railTempShown r temp).hubNat (railReg r)) 24 8 = temp := by
  rw [State.railTempShown, State.hubNat_hubSetN_self, fieldOf_withField_self _ (by decide) (by omega)]
  omega
theorem State.sameRails_railTempShown (s : State) (r temp : Nat) : s.SameRails (s.railTempShown r temp) :=
  ⟨State.setpoint_congr (s.hubNat_railTempShown r temp (by decide)) (s.hubNat_railTempShown r temp (by decide)), rfl, rfl, rfl⟩

/-- Where the thermal limit of a rail goes at a temperature. -/
def State.thermNext (s : State) (r temp : Nat) : Nat :=
  if s.hubNat PWR_THERM_TARGET % 128 < temp then stepDown r (s.thermLimit r)
  else if temp + 3 ≤ s.hubNat PWR_THERM_TARGET % 128 then stepUp (s.setpoint r) (s.thermLimit r) else s.thermLimit r
theorem State.thermNext_railTempShown (s : State) (r temp k : Nat) : (s.railTempShown r temp).thermNext k temp = s.thermNext k temp := by
  rw [State.thermNext, State.hubNat_railTempShown _ _ _ (by decide), (s.sameRails_railTempShown r temp).thermLimit,
    (s.sameRails_railTempShown r temp).setpoint, State.thermNext]

/-- A reading has been shown and has moved the limit of its rail. -/
def State.tempRead (s : State) (r temp : Nat) : State :=
  { s.railTempShown r temp with pow := { s.pow with thermLimit := s.pow.thermLimit.set r (s.thermNext r temp), thermMoved := r :: s.pow.thermMoved } }
theorem State.thermMove_railTempShown {s : State} {r : Nat} (temp : Nat) (h : r ∉ s.pow.thermMoved) :
    (s.railTempShown r temp).thermMove r temp = s.tempRead r temp := by
  have hnot : ¬(s.railTempShown r temp).pow.thermMoved.contains r = true := by
    rw [List.contains_iff_mem]
    exact h
  refine (if_neg hnot).trans ?_
  rw [State.tempRead, ← State.thermNext_railTempShown s r temp r]
  rfl
theorem State.hubNat_tempRead (s : State) (r temp off : Nat) : (s.tempRead r temp).hubNat off = (s.railTempShown r temp).hubNat off := rfl
theorem State.setpoint_tempRead (s : State) (r temp k : Nat) : (s.tempRead r temp).setpoint k = s.setpoint k :=
  (s.sameRails_railTempShown r temp).setpoint k
theorem State.thermLimit_tempRead (s : State) (r temp : Nat) : (s.tempRead r temp).thermLimit r = s.thermNext r temp :=
  SMap.get_set_self ..
theorem State.thermLimit_tempRead_other (s : State) (temp : Nat) {r k : Nat} (h : k ≠ r) : (s.tempRead r temp).thermLimit k = s.thermLimit k := by
  rw [State.thermLimit, State.setpoint_tempRead]
  exact SMap.get_set_other _ _ _ _ _ h
theorem State.frame_tempRead (s : State) (r temp : Nat) : (s.tempRead r temp).tx = s.tx ∧ (s.tempRead r temp).mem = s.mem ∧
    (s.tempRead r temp).noc = s.noc ∧ (s.tempRead r temp).pow.hot = s.pow.hot ∧ (s.tempRead r temp).pow.target = s.pow.target ∧
    (s.tempRead r temp).pow.floor = s.pow.floor ∧ (s.tempRead r temp).pow.thermMoved = r :: s.pow.thermMoved :=
  ⟨rfl, rfl, rfl, rfl, rfl, rfl, rfl⟩

/-- A cool reading ends the thermal event of its rail. -/
def State.coolRead (s : State) (r temp : Nat) : State :=
  ({ s.tempRead r temp with pow := { (s.tempRead r temp).pow with hot := s.pow.hot.filter (· != r) } } : State).monitor (monSensor r) false
theorem State.thermRead_cool {s : State} {r temp : Nat} (h : r ∉ s.pow.thermMoved) (ht : temp < 100) : s.thermRead r temp = s.coolRead r temp := by
  have hdec : Decidable.decide (110 < temp) = false := decide_eq_false (by omega)
  rw [State.thermRead, if_neg (by omega), ← State.railTempShown, State.thermMove_railTempShown temp h, State.thermMark, if_pos ht, hdec]
  rfl

section
variable (s : State) (r temp : Nat)

theorem State.hubNat_coolRead (off : Nat) : (s.coolRead r temp).hubNat off = (s.railTempShown r temp).hubNat off :=
  State.hubNat_congr (State.hub_monitor ..) off
theorem State.pow_coolRead : (s.coolRead r temp).pow = { (s.tempRead r temp).pow with hot := s.pow.hot.filter (· != r) } := by
  simp [State.coolRead]
theorem State.frame_coolRead : (s.coolRead r temp).tx = s.tx ∧ (s.coolRead r temp).mem = s.mem := by
  obtain ⟨htx, hmem, -⟩ := s.frame_tempRead r temp
  exact ⟨by rw [← htx]; simp [State.coolRead], by rw [← hmem]; simp [State.coolRead]⟩
theorem State.notHot_coolRead : r ∉ (s.coolRead r temp).pow.hot := by
  rw [State.pow_coolRead]
  simp
theorem State.thermMoved_coolRead : (s.coolRead r temp).pow.thermMoved = r :: s.pow.thermMoved := by
  rw [State.pow_coolRead]
  rfl
theorem State.setpoint_coolRead (k : Nat) : (s.coolRead r temp).setpoint k = s.setpoint k :=
  State.setpoint_congr ((s.hubNat_coolRead r temp _).trans (s.hubNat_railTempShown r temp (by decide)))
    ((s.hubNat_coolRead r temp _).trans (s.hubNat_railTempShown r temp (by decide))) k
theorem State.thermLimit_coolRead : (s.coolRead r temp).thermLimit r = s.thermNext r temp := by
  rw [State.thermLimit, State.setpoint_coolRead, State.pow_coolRead]
  exact SMap.get_set_self ..
theorem State.thermLimit_coolRead_other {k : Nat} (h : k ≠ r) : (s.coolRead r temp).thermLimit k = s.thermLimit k := by
  rw [State.thermLimit, State.setpoint_coolRead, State.pow_coolRead]
  exact SMap.get_set_other _ _ _ _ _ h

end
theorem State.thermNext_hot {s : State} {temp : Nat} (r : Nat) (h : s.hubNat PWR_THERM_TARGET % 128 < temp) :
    s.thermNext r temp = stepDown r (s.thermLimit r) := if_pos h
theorem State.thermNext_near {s : State} {temp : Nat} (r : Nat) (h : temp ≤ s.hubNat PWR_THERM_TARGET % 128)
    (h3 : s.hubNat PWR_THERM_TARGET % 128 < temp + 3) : s.thermNext r temp = s.thermLimit r := (if_neg (by omega)).trans (if_neg (by omega))
theorem State.thermNext_cool {s : State} {temp : Nat} (r : Nat) (h : temp + 3 ≤ s.hubNat PWR_THERM_TARGET % 128) :
    s.thermNext r temp = stepUp (s.setpoint r) (s.thermLimit r) := (if_neg (by omega)).trans (if_pos h)

/-! ### The samples -/

section
variable {s : State} (hup : s.up = true)
include hup

theorem exec_thermalSample_hub (temp : Nat) : exec (.thermalSample [] temp) s = .next (s.thermRead hubRailNo temp) :=
  congrArg Host.Outcome.next ((if_pos hup).trans rfl)
theorem exec_thermalSample_tile (a temp : Nat) : exec (.thermalSample [a] temp) s =
    .next ((s.thermRead 0 a).thermRead hubRailNo temp) := congrArg Host.Outcome.next ((if_pos hup).trans rfl)

end
/-- A hot rail at its floor is marked. -/
def State.hotMarked (s : State) (r temp : Nat) : State :=
  { s.tempRead r temp with pow := { (s.tempRead r temp).pow with hot := r :: s.pow.hot } }
theorem State.thermRead_event {s : State} {r temp : Nat} (hm : r ∉ s.pow.thermMoved) (h : 100 ≤ temp) (hle : temp ≤ 110) (hn : r ∉ s.pow.hot)
    (hf : s.pow.target.get (s.setpoint r) r ≤ s.railFloor r) :
    s.thermRead r temp = (s.hotMarked r temp).thermalEvent.monitor (monSensor r) false := by
  have hdec : Decidable.decide (110 < temp) = false := decide_eq_false (by omega)
  have hfloor : (s.tempRead r temp).railFloor r = s.railFloor r := by
    rw [State.railFloor, State.setpoint_tempRead]
    rfl
  have hcond : ¬((s.tempRead r temp).pow.hot.contains r || Decidable.decide ((s.tempRead r temp).railFloor r <
      (s.tempRead r temp).pow.target.get ((s.tempRead r temp).setpoint r) r)) = true := by
    rw [hfloor, State.setpoint_tempRead]
    simp only [Bool.or_eq_true, List.contains_iff_mem, decide_eq_true_eq, not_or, Nat.not_lt]
    exact ⟨hn, hf⟩
  rw [State.thermRead, if_neg (by omega), ← State.railTempShown, State.thermMove_railTempShown temp hm, State.thermMark, if_neg (by omega), if_neg hcond, hdec]
  rfl
theorem State.thermRead_trip {s : State} {r temp : Nat} (hm : r ∉ s.pow.thermMoved) (h : 110 < temp) (hot : r ∈ s.pow.hot) :
    s.thermRead r temp = ((s.tempRead r temp).monitor (monSensor r) true).thermalTrip (s.railPhys r) := by
  have hcond : ((s.tempRead r temp).pow.hot.contains r || Decidable.decide ((s.tempRead r temp).railFloor r <
      (s.tempRead r temp).pow.target.get ((s.tempRead r temp).setpoint r) r)) = true :=
    Bool.or_eq_true_iff.mpr (Or.inl (List.contains_iff_mem.mpr hot))
  have hphys : ((s.tempRead r temp).monitor (monSensor r) true).railPhys r = s.railPhys r :=
    State.railPhys_congr (by rw [← (s.frame_tempRead r temp).2.2.1]; simp) r
  rw [State.thermRead, if_pos h, ← State.railTempShown, State.thermMove_railTempShown temp hm, State.thermMark, if_neg (by omega), if_pos hcond, decide_eq_true h, hphys]

/-! ### Monitors -/

theorem State.volts_showRail (s : State) (r m : Nat) : fieldOf ((s.showRail r m).hubNat (railReg r)) 0 10 = m / 10 % 1024 :=
  (congrArg (fieldOf · 0 10) (State.hubNat_hubSetN_self ..)).trans (fieldOf_withField_mod _ _ (by decide))

section
variable {s : State} (hup : s.up = true)
include hup

theorem exec_railSample_tile {n : Nat} (hn : n < 16) (a b : Nat) : exec (.railMonitorSample (.tile n) a b) s = .next
    (if s.railOutside (.tile n) a && s.railOutside (.tile n) b then
      (s.showRail n b).takeReport { hubReport cTileRail .uc 0x0F (s.physId kTile n) 0 with kind := kTile, unit := n } else s.showRail n b) := by
  refine congrArg Host.Outcome.next ((if_neg (by simp [hup])).trans ((if_neg (by omega)).trans ?_))
  dsimp only
  rw [State.physId_congr (s := s) (t := s.showRail n b) (by simp)]
theorem exec_railSample_hub (a b : Nat) : exec (.railMonitorSample .hubCore a b) s = .next
    (if s.railOutside .hubCore a && s.railOutside .hubCore b then
      ((s.showRail hubRailNo b).monitor hubRailNo (s.railOutside .hubCore a && s.railOutside .hubCore b)).report
        (hubReport cHubRail .ft 0x0F hubRailNo 0)
    else (s.showRail hubRailNo b).monitor hubRailNo (s.railOutside .hubCore a && s.railOutside .hubCore b)) :=
  congrArg Host.Outcome.next (if_neg (by simp [hup]))
theorem exec_railSample_commons {n : Nat} (hn : isCommonsSite n = true) (a b : Nat) : exec (.railMonitorSample (.commons n) a b) s = .next
    (if s.railOutside (.commons n) a && s.railOutside (.commons n) b then s.fenceSite n else s) := by
  refine congrArg Host.Outcome.next ((if_neg (by simp [hup])).trans ?_)
  simp only [hn, Bool.and_true]
theorem exec_railSample_other {rail : RailUnit} (hr : rail = .phy ∨ (∃ k r, rail = .hbm k r true) ∨ (∃ g, rail = .optics g) ∨ ∃ g, rail = .heater g)
    {a b : Nat} (ha : s.railOutside rail a = true) (hb : s.railOutside rail b = true) : exec (.railMonitorSample rail a b) s =
      .next ((s.monitor (railNo rail) true).report (hubReport cHubRail .ft 0x0F (railNo rail) 0)) := by
  have hbad : (s.railOutside rail a && s.railOutside rail b) = true := by rw [ha, hb]; rfl
  refine congrArg Host.Outcome.next ((if_neg (by simp [hup])).trans ?_)
  rw [hbad]
  rcases hr with rfl | ⟨k, r, rfl⟩ | ⟨g, rfl⟩ | ⟨g, rfl⟩
  · exact if_pos rfl
  · exact if_pos rfl
  · exact if_pos rfl
  · exact if_pos rfl

/-- The locks that the loss of a PLL leaves. -/
def State.lockLost (s : State) (n : Nat) : State :=
  if n = 33 then (s.hubSetN CLK_LOCK_HBM 0).hubSetN CLK_LOCK_OTHER 0
  else if n < 24 then s.hubSetN CLK_LOCK_HBM (withField (s.hubNat CLK_LOCK_HBM) n 1 0)
  else s.hubSetN CLK_LOCK_OTHER (withField (s.hubNat CLK_LOCK_OTHER) (n - 24) 1 0)
theorem exec_pllLockLoss {n : Nat} (hn : n ≤ 33) : exec (.pllLockLoss n) s =
    .next (((s.lockLost n).monitor (monClock n) true).report (hubReport cHubRail .ft 0x10 n 0)) :=
  congrArg Host.Outcome.next ((if_neg (by simp [hup, hn])).trans rfl)
theorem exec_thermalShutdown {temp : Nat} (h : 120 < temp) : exec (.thermalShutdown temp) s =
    .next ({ s with boot := { s.boot with thermTripAt := some s.time } } : State).unpower :=
  congrArg Host.Outcome.next (if_pos (by simp [hup, h]))

end
theorem exec_thermalShutdown_cool {s : State} {temp : Nat} (h : temp ≤ 120) : exec (.thermalShutdown temp) s = .next s :=
  congrArg Host.Outcome.next (if_neg (by simp [h]))
theorem State.hubNat_lockLost_reference (s : State) : (s.lockLost 33).hubNat CLK_LOCK_HBM = 0 ∧ (s.lockLost 33).hubNat CLK_LOCK_OTHER = 0 := by
  rw [State.lockLost, if_pos rfl]
  exact ⟨(State.hubNat_hubSetN_other _ _ _ _ (by decide)).trans (State.hubNat_hubSetN_self ..), State.hubNat_hubSetN_self ..⟩
theorem State.bit_lockLost_stack (s : State) {n : Nat} (h : n < 24) : bitOf ((s.lockLost n).hubNat CLK_LOCK_HBM) n = false := by
  rw [State.lockLost, if_neg (by omega), if_pos h, State.hubNat_hubSetN_self, bitOf_withField_self _ (by omega)]
  rfl
theorem State.bit_lockLost_other (s : State) {n : Nat} (h : 24 ≤ n) (hn : n < 33) :
    bitOf ((s.lockLost n).hubNat CLK_LOCK_OTHER) (n - 24) = false := by
  rw [State.lockLost, if_neg (by omega), if_neg (by omega), State.hubNat_hubSetN_self, bitOf_withField_self _ (by omega)]
  rfl
theorem State.mem_lockLost (s : State) (n : Nat) : (s.lockLost n).mem = s.mem := by
  unfold State.lockLost
  split
  · simp
  · split <;> simp

end Sys2Proof.Machine
end

section
/-! SUPPORT. Live calibration: centring steps and the ring loops (R659 to R663). -/

namespace Sys2Proof.Machine
open Sys2Proof Sys2Proof.Claims

/-! ### Notes of shortfalls -/

theorem find_noteBelow_self (m : SMap Nat) (k now : Nat) (below : Bool) : ((noteBelow m k now below).find k).isSome = below := by
  unfold noteBelow
  cases below with
  | false => exact congrArg Option.isSome (SMap.find_del_self ..)
  | true =>
    by_cases h : (m.find k).isSome = true
    · exact (congrArg (fun m : SMap Nat => (m.find k).isSome) (if_pos h)).trans h
    · exact (congrArg (fun m : SMap Nat => (m.find k).isSome) (if_neg h)).trans (congrArg Option.isSome (SMap.find_set_self ..))
theorem find_noteBelow_other (m : SMap Nat) {k j : Nat} (now : Nat) (below : Bool) (h : j ≠ k) : (noteBelow m k now below).find j = m.find j := by
  unfold noteBelow
  split
  · split
    · rfl
    · exact SMap.find_set_other _ _ _ _ h
  · exact SMap.find_del_other _ _ _ h

/-! ### A centring step -/

/-- A setting has moved by one and the eyes are noted. -/
def Power.centred (w : Power) (k setting : Nat) (up : Bool) (eyes : Nat × Nat) (now limit used : Nat) : Power :=
  { w with
    settings := w.settings.set (k * 3 + setting) (if up then w.settings.get 0 (k * 3 + setting) + 1 else w.settings.get 0 (k * 3 + setting) - 1),
    stepAt := w.stepAt.set k now, bursts := w.bursts.set k (now / 1000, used), eyes := w.eyes.set k eyes,
    belowPcs := noteBelow w.belowPcs k now (decide (min eyes.1 eyes.2 < limit)) }
/-- A step of a pseudo-channel of this module. -/
def State.centredPow (s : State) (k setting : Nat) (up : Bool) (eyes : Nat × Nat) (bytes : Nat) : Power :=
  s.pow.centred k setting up eyes s.time (s.hubNat CAL_LIMITS % 256) (s.burstUsed k + bytes)
/-- The registers show it. -/
def State.centred (s : State) (stack pc setting : Nat) (up : Bool) (eyes : Nat × Nat) (bytes : Nat) : State :=
  (({ s with pow := s.centredPow (stack * 64 + pc) setting up eyes bytes } : State).hubCount64 CAL_BYTES bytes).showEyes stack

section
variable (s : State) (stack pc setting : Nat) (up : Bool) (eyes : Nat × Nat) (bytes : Nat)

theorem State.pow_centred : (s.centred stack pc setting up eyes bytes).pow = s.pow.centred (stack * 64 + pc) setting up eyes s.time
    (s.hubNat CAL_LIMITS % 256) (s.burstUsed (stack * 64 + pc) + bytes) := by
  simp [State.centred, State.centredPow]
theorem State.frame_centred : (s.centred stack pc setting up eyes bytes).tx = s.tx ∧ (s.centred stack pc setting up eyes bytes).mem = s.mem ∧
    (s.centred stack pc setting up eyes bytes).noc = s.noc ∧ (s.centred stack pc setting up eyes bytes).time = s.time :=
  ⟨by simp [State.centred], by simp [State.centred], by simp [State.centred], by simp [State.centred]⟩
theorem State.settings_centred : (s.centred stack pc setting up eyes bytes).pow.settings.get 0 ((stack * 64 + pc) * 3 + setting) =
    s.pow.settings.get 0 ((stack * 64 + pc) * 3 + setting) + (if up then 1 else -1) := by
  rw [State.pow_centred]
  refine (SMap.get_set_self ..).trans ?_
  cases up with
  | false => rfl
  | true => rfl
theorem State.settings_centred_other {j : Nat} (h : j ≠ (stack * 64 + pc) * 3 + setting) :
    (s.centred stack pc setting up eyes bytes).pow.settings.get 0 j = s.pow.settings.get 0 j := by
  rw [State.pow_centred]
  exact SMap.get_set_other _ _ _ _ _ h
theorem State.eyes_centred : (s.centred stack pc setting up eyes bytes).pow.eyes.find (stack * 64 + pc) = some eyes := by
  rw [State.pow_centred]
  exact SMap.find_set_self ..
theorem State.stepAt_centred : (s.centred stack pc setting up eyes bytes).pow.stepAt.find (stack * 64 + pc) = some s.time := by
  rw [State.pow_centred]
  exact SMap.find_set_self ..
theorem State.burstUsed_centred : (s.centred stack pc setting up eyes bytes).burstUsed (stack * 64 + pc) =
    s.burstUsed (stack * 64 + pc) + bytes := by
  have hget : (s.centred stack pc setting up eyes bytes).pow.bursts.get (0, 0) (stack * 64 + pc) =
      (s.time / 1000, s.burstUsed (stack * 64 + pc) + bytes) := by
    rw [State.pow_centred]
    exact SMap.get_set_self ..
  rw [State.burstUsed, hget, (s.frame_centred ..).2.2.2]
  exact if_pos rfl
theorem State.below_centred : ((s.centred stack pc setting up eyes bytes).pow.belowPcs.find (stack * 64 + pc)).isSome = true ↔
    min eyes.1 eyes.2 < s.hubNat CAL_LIMITS % 256 := by
  rw [State.pow_centred]
  exact (Eq.congr_left (find_noteBelow_self ..)).trans decide_eq_true_iff

variable {s stack pc setting} (hup : s.up = true) (hst : stack < 24) (hpc : pc < 64) (hset : setting < 3) (hv : s.vacant kStack stack = false)
  (hm : stack ∈ s.boot.machines)
include hup hst hpc hset hv hm

theorem State.mayCentre : ¬(!s.up || Decidable.decide (24 ≤ stack) || Decidable.decide (64 ≤ pc) || Decidable.decide (3 ≤ setting) || s.vacant kStack stack ||
    !s.boot.machines.contains stack) = true := by
  simp [hup, hst, hpc, hset, hv, hm]
theorem exec_centring_busy (h : 192 < s.burstUsed (stack * 64 + pc) + bytes) :
    exec (.hbmCentringStep stack pc setting up eyes.1 eyes.2 bytes) s = .next s :=
  congrArg Host.Outcome.next ((if_neg (State.mayCentre hup hst hpc hset hv hm)).trans (if_pos h))
theorem exec_centring_early {t0 : Nat} (h : s.pow.stepAt.find (stack * 64 + pc) = some t0) (ht : s.time < t0 + 10000000) :
    exec (.hbmCentringStep stack pc setting up eyes.1 eyes.2 bytes) s = .next s := by
  have hwait : (s.pow.stepAt.find (stack * 64 + pc)).any (fun t => s.time < t + 10000000) = true := by
    rw [h, Option.any_some]
    exact decide_eq_true ht
  have hrun : exec (.hbmCentringStep stack pc setting up eyes.1 eyes.2 bytes) s =
    execHbmCentringStep stack pc setting up eyes.1 eyes.2 bytes s := rfl
  rw [hrun, execHbmCentringStep]
  dsimp only
  rw [if_neg (State.mayCentre hup hst hpc hset hv hm), if_pos hwait, ite_self]
theorem exec_centring (h : s.burstUsed (stack * 64 + pc) + bytes ≤ 192)
    (ht : ∀ t0, s.pow.stepAt.find (stack * 64 + pc) = some t0 → t0 + 10000000 ≤ s.time) :
    exec (.hbmCentringStep stack pc setting up eyes.1 eyes.2 bytes) s = .next
      (if decide (min eyes.1 eyes.2 < s.hubNat CAL_LIMITS % 256) && (s.pow.belowPcs.find (stack * 64 + pc)).isNone then
        (s.centred stack pc setting up eyes bytes).takeReport (hubReport cCalMargin .ce 0x11 (s.physId kStack stack) 0)
      else s.centred stack pc setting up eyes bytes) := by
  have hwait : ¬(s.pow.stepAt.find (stack * 64 + pc)).any (fun t => s.time < t + 10000000) = true := by
    cases hf : s.pow.stepAt.find (stack * 64 + pc) with
    | none => exact Bool.false_ne_true
    | some t0 =>
      rw [Option.any_some]
      exact fun he => absurd (of_decide_eq_true he) (Nat.not_lt.mpr (ht t0 hf))
  have hphys : (s.centred stack pc setting up eyes bytes).physId kStack stack = s.physId kStack stack :=
    State.physId_congr (s.frame_centred ..).2.2.1 kStack stack
  have hrun : exec (.hbmCentringStep stack pc setting up eyes.1 eyes.2 bytes) s =
    execHbmCentringStep stack pc setting up eyes.1 eyes.2 bytes s := rfl
  rw [hrun, execHbmCentringStep, ← hphys]
  dsimp only
  rw [if_neg (State.mayCentre hup hst hpc hset hv hm), if_neg (by omega), if_neg hwait]
  rfl

end

/-! ### The ring loop of a port -/

/-- The heater of a lane follows its photodiode. -/
def State.heaterMoved (p : Nat) (s : State) (l : Nat) : State :=
  { s.drawn with pow := { s.pow with heater := s.pow.heater.set (p * 16 + l) (s.free % 2001) } }
theorem State.pow_heaterMoved (p : Nat) (s : State) (l : Nat) :
    (State.heaterMoved p s l).pow = { s.pow with heater := s.pow.heater.set (p * 16 + l) (s.free % 2001) } := rfl
/-- The heaters of the lanes have moved. -/
def State.heated (s : State) (p : Nat) (lanes : List Nat) : State := lanes.foldl (State.heaterMoved p) s
theorem State.draws_heated (s : State) (p : Nat) (lanes : List Nat) : (s.heated p lanes).draws = s.draws + lanes.length := by
  induction lanes generalizing s with
  | nil => rfl
  | cons a as ih =>
    refine (ih _).trans ?_
    rw [State.heaterMoved, State.drawn, List.length_cons]
    dsimp only
    omega
theorem State.foldl_heaterMoved {α : Type} (f : State → α) (p : Nat) (hf : ∀ s l, f (State.heaterMoved p s l) = f s) (lanes : List Nat) (s : State) :
    f (s.heated p lanes) = f s := by
  induction lanes generalizing s with
  | nil => rfl
  | cons a as ih => exact (ih _).trans (hf s a)
theorem State.heater_heated_le (p : Nat) (lanes : List Nat) (s : State) {k : Nat}
    (h : s.pow.heater.get 0 k ≤ 2000 ∨ ∃ l ∈ lanes, p * 16 + l = k) : (s.heated p lanes).pow.heater.get 0 k ≤ 2000 := by
  induction lanes generalizing s with
  | nil =>
    rcases h with h | ⟨l, hl, -⟩
    · exact h
    · simp at hl
  | cons a as ih =>
    refine ih _ ?_
    rw [State.pow_heaterMoved]
    dsimp only
    by_cases hk : k = p * 16 + a
    · subst hk
      rw [SMap.get_set_self]
      exact Or.inl (Nat.le_of_lt_succ (Nat.mod_lt _ (by decide)))
    · rw [SMap.get_set_other _ _ _ _ _ hk]
      refine h.imp_right ?_
      rintro ⟨l, hl, rfl⟩
      obtain rfl | hl := List.mem_cons.mp hl
      · exact absurd rfl hk
      · exact ⟨l, hl, rfl⟩

/-- The lanes of a port below their limit are noted. -/
def notedLanes (m : SMap Nat) (p now : Nat) (low lanes : List Nat) : SMap Nat :=
  lanes.foldl (fun b l => noteBelow b (p * 16 + l) now (low.contains l)) m
theorem find_notedLanes_other (p now : Nat) (low : List Nat) {lanes : List Nat} {l : Nat} (h : l ∉ lanes) (m : SMap Nat) :
    (notedLanes m p now low lanes).find (p * 16 + l) = m.find (p * 16 + l) := by
  induction lanes generalizing m with
  | nil => rfl
  | cons a as ih =>
    obtain ⟨ha, has⟩ := not_or.mp (mt List.mem_cons.mpr h)
    exact (ih has _).trans (find_noteBelow_other _ _ _ (by omega))
theorem find_notedLanes (p now : Nat) (low : List Nat) {lanes : List Nat} {l : Nat} (h : l ∈ lanes) (m : SMap Nat) :
    ((notedLanes m p now low lanes).find (p * 16 + l)).isSome = low.contains l := by
  induction lanes generalizing m with
  | nil => simp at h
  | cons a as ih =>
    by_cases hl : l ∈ as
    · exact ih hl _
    · obtain rfl | has := List.mem_cons.mp h
      · exact (congrArg Option.isSome (find_notedLanes_other p now low hl _)).trans (find_noteBelow_self ..)
      · exact absurd has hl

/-- The lanes in service that the ring loop found below the limit. -/
def State.lowLanes (s : State) (p : Nat) (below : List Nat) : List Nat := (s.port p).lanes.filter (fun l => below.contains l)
/-- The ring loop of a port has run, before its reports. -/
def State.ringNoted (s : State) (p : Nat) (below : List Nat) : State :=
  { s.heated p (s.port p).lanes with
    pow := { (s.heated p (s.port p).lanes).pow with
      belowLanes := notedLanes s.pow.belowLanes p s.time (s.lowLanes p below) (s.port p).lanes } }
def State.ringTracked (s : State) (p : Nat) (below : List Nat) (d : Nat) : State :=
  (s.ringNoted p below).hubSetN (CAL_PORT + 4 * p) (min d 255 * 256 + (s.lowLanes p below).length)
theorem exec_ringTracking {s : State} (hup : s.up = true) {p : Nat} (hp : p < 16) (hu : s.unusedPort p = false) (he : s.portState p ≠ psExcluded)
    (below : List Nat) (d : Nat) : exec (.ringTracking p below d) s = .next
      (((s.lowLanes p below).filter (fun l => (s.pow.belowLanes.find (p * 16 + l)).isNone)).foldl (fun (s : State) l =>
        s.takeReport (hubReport cCalMargin .ce 0x11 ((s.lanePhys p l).getD 0) 0)) (s.ringTracked p below d)) := by
  have htime : (s.heated p (s.port p).lanes).time = s.time := State.foldl_heaterMoved State.time p (fun _ _ => rfl) _ s
  have hmarks : (s.heated p (s.port p).lanes).pow.belowLanes = s.pow.belowLanes :=
    State.foldl_heaterMoved (fun s => s.pow.belowLanes) p (fun _ _ => rfl) _ s
  refine congrArg Host.Outcome.next ((if_neg (by simp [hup, hp, hu, he])).trans ?_)
  rw [State.ringTracked, State.ringNoted, ← hmarks, ← htime]
  rfl
theorem exec_ringTracking_not {s : State} {p : Nat} (h : s.unusedPort p = true ∨ s.portState p = psExcluded) (below : List Nat) (d : Nat) :
    exec (.ringTracking p below d) s = .next s := congrArg Host.Outcome.next (if_pos (by rcases h with h | h <;> simp [h]))

section
variable (s : State) (p : Nat) (below : List Nat) (d : Nat)

theorem State.frame_ringTracked : (s.ringTracked p below d).draws = s.draws + (s.port p).lanes.length ∧ (s.ringTracked p below d).tx = s.tx ∧
    (s.ringTracked p below d).mem = s.mem ∧ (s.ringTracked p below d).noc = s.noc :=
  ⟨s.draws_heated p _, State.foldl_heaterMoved State.tx p (fun _ _ => rfl) _ s, State.foldl_heaterMoved State.mem p (fun _ _ => rfl) _ s,
    State.foldl_heaterMoved State.noc p (fun _ _ => rfl) _ s⟩
theorem State.hubNat_ringTracked {off : Nat} (h : off ≠ CAL_PORT + 4 * p) : (s.ringTracked p below d).hubNat off = s.hubNat off :=
  (State.hubNat_hubSetN_other _ _ _ _ h).trans (State.hubNat_congr (State.foldl_heaterMoved State.hub p (fun _ _ => rfl) _ s) off)
theorem State.detune_ringTracked (h : (s.port p).lanes.length ≤ 16) :
    fieldOf ((s.ringTracked p below d).hubNat (CAL_PORT + 4 * p)) 8 8 = min d 255 := by
  have hlen : (s.lowLanes p below).length ≤ 16 := le_trans (List.length_filter_le ..) h
  rw [State.ringTracked, State.hubNat_hubSetN_self, fieldOf]
  omega
theorem State.heater_ringTracked {l : Nat} (h : l ∈ (s.port p).lanes) : (s.ringTracked p below d).pow.heater.get 0 (p * 16 + l) ≤ 2000 :=
  State.heater_heated_le p _ s (Or.inr ⟨l, h, rfl⟩)
theorem State.below_ringTracked {l : Nat} (h : l ∈ (s.port p).lanes) :
    ((s.ringTracked p below d).pow.belowLanes.find (p * 16 + l)).isSome = true ↔ l ∈ below := by
  refine (Eq.congr_left (find_notedLanes p s.time (s.lowLanes p below) h s.pow.belowLanes)).trans ?_
  rw [List.contains_iff_mem, State.lowLanes, List.mem_filter, List.contains_iff_mem]
  exact and_iff_right h
variable {p}
theorem State.lanePhys_ringTracked (hp : p < 16) (l : Nat) : (s.ringTracked p below d).lanePhys p l = s.lanePhys p l := by
  have hcfg {q : Nat} (hq : q < 16) : (s.ringTracked p below d).portCfg q = s.portCfg q :=
    s.hubNat_ringTracked p below d (by simp only [LNK_PORT_CFG, CAL_PORT]; omega)
  have hbase : (s.ringTracked p below d).laneBase p = s.laneBase p := by
    rw [State.laneBase, State.laneBase]
    refine congrArg (fun l : List Nat => p / 4 * 68 + l.foldl (· + ·) 0) (List.map_congr_left fun i hi => ?_)
    have hlt := List.mem_range.mp hi
    rw [hcfg (by omega)]
  rw [State.lanePhys, State.lanePhys, State.baseLanes, State.baseLanes, (s.frame_ringTracked p below d).2.2.2, hcfg hp, hbase]

end

end Sys2Proof.Machine
end

section
/-! PROOFS. The power manager, its monitors and live calibration. -/

namespace Sys2Proof.Machine
open Sys2Proof Sys2Proof.Claims

/-! ### The clauses of a control period -/

section
variable (s : State) (meanW v : Nat)

/-- The state after a control period. -/
def State.afterPeriod : State := (((s.msWindow meanW v).calmNoted meanW).capMoved meanW).periodEnded
/-- The state after the cap loop's move. -/
def State.afterMove : State := ((s.msWindow meanW v).calmNoted meanW).capMoved meanW
theorem State.capMove_afterMove : ((s.msWindow meanW v).calmNoted meanW).CapMove (s.afterMove meanW v) := State.capMove_capMoved _ _
theorem State.hubNat_afterPeriod {off : Nat} (hc : PWR_CAP ≤ off) (hs : off ≠ PWR_CAP_STATE) (hr : off < PWR_HUB_RAIL ∨ PWR_TILE + 64 ≤ off) :
    (s.afterPeriod meanW v).hubNat off = (s.msWindow meanW v).hubNat off :=
  ((s.afterMove meanW v).hubNat_periodEnded hs hr).trans ((s.capMove_afterMove meanW v).hub off hc)
theorem State.pow_afterPeriod : (s.afterPeriod meanW v).pow.thermMoved = [] ∧ (s.afterPeriod meanW v).pow.heater = s.pow.heater ∧
    (s.afterPeriod meanW v).pow.floor = s.pow.floor ∧
    (s.afterPeriod meanW v).pow.calmPeriods = if meanW * 100 < s.cap * 97 then s.pow.calmPeriods + 1 else 0 := by
  obtain ⟨m, hpow⟩ := (s.afterMove meanW v).pow_periodEnded
  have hb := s.periodBegun meanW v
  have hm := s.capMove_afterMove meanW v
  have hpow' : (s.afterPeriod meanW v).pow = { (s.afterMove meanW v).pow with target := m, thermMoved := [] } := hpow
  rw [hpow']
  exact ⟨rfl, hm.heater.trans hb.heater, hm.floor.trans hb.rails.floor, hm.calm.trans hb.calm⟩
theorem State.mem_afterPeriod : (s.afterPeriod meanW v).mem = s.mem := by
  refine (State.frame_periodEnded _).2.trans ?_
  unfold State.capMoved
  split
  · simp [State.calmNoted]
  · split <;> simp [State.calmNoted]

end

/-- Settles O52: every clause is the rule of its loop, monitor or calibration step; the cap loop is split by the step that acts. -/
theorem powerAndCalibration : Obligations.PowerAndCalibration := by
  unfold Obligations.PowerAndCalibration
  refine ⟨fun s meanW v hup => ?_, fun s r hup hr => ⟨fun h => ?_, fun h hl => ?_, fun h => ?_, exec_marginRelax_early⟩,
    fun s t0 hup ht => ⟨fun n hn hl => ?_, fun hl => ?_, fun k i hk hi hv hl => ?_, fun p l hp hl16 hl => ?_⟩, fun s n h => exec_escalate_tile_not h,
    fun s temp hup hm => ?_, fun s a b hup => ?_, fun s n hup hn => ?_,
    fun s temp hup => ⟨exec_thermalShutdown_cool, fun h => ⟨_, exec_thermalShutdown hup h, (State.unpower_keeps _).1⟩⟩,
    fun s st pc k up re we bytes hup hst hpc hk hv hm => ?_, fun s p below d hup hp => ?_, fun s hoff => ?_⟩
  · obtain ⟨hmoved, hheater, hfloor, hcalm⟩ := s.pow_afterPeriod meanW v
    have hb := s.periodBegun meanW v
    have he : (s.afterMove meanW v).EndsAs (s.afterPeriod meanW v) := State.endsAs _
    have hin : (s.afterPeriod meanW v).hubNat PWR_INPUT = (s.msWindow meanW v).hubNat PWR_INPUT :=
      s.hubNat_afterPeriod meanW v (by decide) (by decide) (by decide)
    have hwin : (s.afterPeriod meanW v).hubNat PWR_CAP_WINDOWS = (s.msWindow meanW v).hubNat PWR_CAP_WINDOWS :=
      s.hubNat_afterPeriod meanW v (by decide) (by decide) (by decide)
    refine ⟨s.afterPeriod meanW v, exec_powerControlPeriod hup meanW v, fun r hr => ⟨State.target_periodEnded _ hr, State.railTarget_le _ r⟩,
      hmoved, State.shown_periodEnded _, hheater, hfloor, s.mem_afterPeriod meanW v, hcalm, by rw [hin, State.voltage_msWindow],
      fun h => by rw [hin, State.mean_msWindow v h], fun h hc hh => by rw [hwin, State.windows_msWindow v h hc hh],
      fun hc hf => ?_, fun hc hf hh => ?_, fun hc hf hh ha hp hle => ?_, fun hc hf hh ha => ?_, fun hc hn => ?_, fun hc hn => ⟨fun hh => ?_,
        fun hh hp => ?_, fun hh hp hlt => ?_, fun hh hp hle hx => ?_⟩⟩
    · obtain ⟨h1, h2, h3, h4, h5⟩ := hb.tilesDown hc hf
      exact ⟨fun r hr => (he.capLimit r).trans (h1 r hr), he.sitePct.trans h2, he.halved.trans h3, (he.capLimit _).trans h4, he.tx.trans h5⟩
    · obtain ⟨h1, h2, h3, h4, h5⟩ := hb.hubDown hc hf hh
      exact ⟨(he.capLimit _).trans h1, fun r hr => (he.capLimit r).trans (h2 r hr), he.sitePct.trans h3, he.halved.trans h4, he.tx.trans h5⟩
    · obtain ⟨h1, h2, h3, h4⟩ := hb.sitesDown hc hf hh ha hp hle
      exact ⟨he.sitePct.trans h1, he.caps.trans h2, he.halved.trans h3, he.tx.trans h4⟩
    · obtain ⟨h1, h2, h3, h4⟩ := hb.halves hc hf hh ha
      exact ⟨he.halved.trans h1, he.caps.trans h2, he.sitePct.trans h3, he.tx.trans h4⟩
    · have hsame : s.afterMove meanW v = (s.msWindow meanW v).calmNoted meanW := State.capMoved_between hb hc hn
      rw [hsame] at he
      exact ⟨he.caps.trans hb.rails.cap, he.sitePct.trans hb.sitePct, he.halved.trans hb.halved, he.tx.trans hb.tx⟩
    · obtain ⟨h1, h2, h3⟩ := hb.unhalves hc hn hh
      exact ⟨he.halved.trans h1, he.caps.trans h2, he.sitePct.trans h3⟩
    · obtain ⟨h1, h2⟩ := hb.sitesUp hc hn hh hp
      exact ⟨he.sitePct.trans h1, he.caps.trans h2⟩
    · obtain ⟨h1, h2⟩ := hb.hubUp hc hn hh hp hlt
      exact ⟨(he.capLimit _).trans h1, fun r hr => (he.capLimit r).trans (h2 r hr)⟩
    · exact fun r hr => (he.capLimit r).trans (hb.tilesUp hc hn hh hp hle hx r hr)
  · obtain ⟨htx, hmem, -⟩ := s.frame_canaryRaised r
    exact ⟨s.canaryRaised r, exec_canaryWindow_rise hup hr h, s.railFloor_canaryRaised r, State.target_setFloor .., State.quietAt_setFloor ..,
      s.late_canaryRaised r, htx, hmem, s.hubNat_canaryRaised r⟩
  · obtain ⟨-, hmem, -, htime⟩ := s.frame_canaryRaised r
    refine ⟨(s.canaryRaised r).lateFrom r, exec_canaryWindow_max hup hr h hl, ?_, hmem, ?_, s.hubNat_canaryRaised r⟩
    · exact (SMap.find_set_self ..).trans (congrArg some htime)
    · exact (s.railFloor_canaryRaised r).trans (by omega)
  · obtain ⟨htx, hmem⟩ := s.frame_marginRelaxed r
    exact ⟨s.marginRelaxed r, exec_marginRelax hup hr h, s.railFloor_marginRelaxed r, State.target_setFloor .., s.late_marginRelaxed r, htx, hmem⟩
  · exact ⟨s.dropLate n, exec_escalate_tile hup ht hn hl, SMap.find_del_self .., by simp, by simp⟩
  · exact ⟨s.dropLate hubRailNo, SMap.find_del_self .., by simp, by simp, exec_escalate_hub hup ht hl,
      fun k n => ⟨exec_escalate_unit hup ht hl, exec_escalate_unit_other hup ht hl n⟩⟩
  · exact ⟨s.stackEscalated k, exec_escalate_stack hup ht hk hi hv hl, s.hubNat_stackEscalated k, s.belowPcs_stackEscalated hi, rfl⟩
  · exact ⟨_, exec_escalate_lane hup ht hp hl16 hl, SMap.find_del_self .., rfl, rfl⟩
  · have hnot (r : Nat) : r ∉ s.pow.thermMoved := by
      rw [hm]
      exact List.not_mem_nil
    refine ⟨fun h => ?_, fun h hle hn hf => ?_, fun h hot => ?_, fun a ha ht => ?_⟩
    · obtain ⟨htx, hmem⟩ := s.frame_coolRead hubRailNo temp
      refine ⟨s.coolRead hubRailNo temp, (exec_thermalSample_hub hup temp).trans (by rw [State.thermRead_cool (hnot _) h]), ?_,
        s.notHot_coolRead hubRailNo temp, (s.thermMoved_coolRead hubRailNo temp).trans (by rw [hm]), htx, hmem, fun h1 => ?_, fun h1 h2 => ?_,
        fun h1 => ?_⟩
      · rw [State.hubNat_coolRead]
        exact s.temp_railTempShown hubRailNo (by omega)
      · rw [State.thermLimit_coolRead, State.thermNext_hot _ h1]
      · rw [State.thermLimit_coolRead, State.thermNext_near _ h1 h2]
      · rw [State.thermLimit_coolRead, State.thermNext_cool _ h1]
    · exact ⟨s.hotMarked hubRailNo temp, (exec_thermalSample_hub hup temp).trans (by rw [State.thermRead_event (hnot _) h hle hn hf]), rfl, rfl, rfl⟩
    · refine ⟨(s.tempRead hubRailNo temp).monitor (monSensor hubRailNo) true, (exec_thermalSample_hub hup temp).trans
        (by rw [State.thermRead_trip (hnot _) h hot]; rfl), ?_, State.mem_monitor ..⟩
      rw [← (s.frame_tempRead hubRailNo temp).2.1]
      simp
    · have hnext : hubRailNo ∉ (s.coolRead 0 a).pow.thermMoved := by
        rw [State.thermMoved_coolRead, hm]
        decide
      obtain ⟨htx, hmem⟩ := s.frame_coolRead 0 a
      obtain ⟨htx', hmem'⟩ := (s.coolRead 0 a).frame_coolRead hubRailNo temp
      refine ⟨(s.coolRead 0 a).coolRead hubRailNo temp, (exec_thermalSample_tile hup a temp).trans
        (by rw [State.thermRead_cool (hnot _) ha, State.thermRead_cool hnext ht]), ?_, ?_, htx'.trans htx, hmem'.trans hmem, fun h1 => ?_⟩
      · have hother : ((s.coolRead 0 a).railTempShown hubRailNo temp).hubNat PWR_TILE = (s.coolRead 0 a).hubNat PWR_TILE :=
          State.hubNat_hubSetN_other _ _ _ _ (by decide)
        rw [State.hubNat_coolRead, hother, State.hubNat_coolRead]
        exact s.temp_railTempShown 0 (by omega)
      · rw [State.hubNat_coolRead]
        exact (s.coolRead 0 a).temp_railTempShown hubRailNo (by omega)
      · rw [State.thermLimit_coolRead_other _ _ _ (by decide), State.thermLimit_coolRead, State.thermNext_hot _ h1]
  · refine ⟨fun n hn h => ?_, fun n hn ha hb => ?_, fun ha hb => ?_, fun hl hh => ?_, fun n hn => exec_railSample_commons hup hn a b,
      fun rail hr ha hb => ⟨s.monitor (railNo rail) true, exec_railSample_other hup hr ha hb, State.mem_monitor .., by simp⟩, ?_, fun g => ?_, fun g => ?_⟩
    · refine ⟨s.showRail n b, (exec_railSample_tile hup hn a b).trans (congrArg Host.Outcome.next (if_neg ?_)), s.volts_showRail n b, by simp, by simp,
        by simp⟩
      simp only [State.railOutside, Bool.and_eq_true, Bool.or_eq_true, decide_eq_true_eq]
      omega
    · refine ⟨s.showRail n b, (exec_railSample_tile hup hn a b).trans (congrArg Host.Outcome.next (if_pos ?_)), s.volts_showRail n b, by simp⟩
      simp only [State.railOutside, Bool.and_eq_true, Bool.or_eq_true, decide_eq_true_eq]
      exact ⟨ha, hb⟩
    · have hbad : (s.railOutside .hubCore a && s.railOutside .hubCore b) = true := by
        simp only [State.railOutside, Bool.and_eq_true, Bool.or_eq_true, decide_eq_true_eq]
        exact ⟨ha, hb⟩
      exact ⟨(s.showRail hubRailNo b).monitor hubRailNo true, (exec_railSample_hub hup a b).trans (by rw [hbad, if_pos rfl]), State.mem_monitor ..,
        by simp⟩
    · have hgood : (s.railOutside .hubCore a && s.railOutside .hubCore b) = false := by
        simp only [State.railOutside, Bool.and_eq_false_iff, Bool.or_eq_false_iff, decide_eq_false_iff_not]
        exact Or.inr ⟨by omega, by omega⟩
      exact ⟨(s.showRail hubRailNo b).monitor hubRailNo false, (exec_railSample_hub hup a b).trans (by rw [hgood, if_neg (by decide)]),
        State.notMem_monitor _ _, by simp, by simp⟩
    · simp only [State.railOutside, Bool.or_eq_true, decide_eq_true_eq]
    · simp only [State.railOutside, Bool.or_eq_true, decide_eq_true_eq]
    · simp only [State.railOutside, Bool.or_eq_true, decide_eq_true_eq]
  · have hhub (off : Nat) : ((s.lockLost n).monitor (monClock n) true).hubNat off = (s.lockLost n).hubNat off :=
      State.hubNat_congr (State.hub_monitor ..) off
    refine ⟨(s.lockLost n).monitor (monClock n) true, exec_pllLockLoss hup hn, State.mem_monitor .., by rw [← s.mem_lockLost n]; simp, fun h => ?_,
      fun h => (congrArg (bitOf · n) (hhub _)).trans (s.bit_lockLost_stack h),
      fun h h33 => (congrArg (bitOf · (n - 24)) (hhub _)).trans (s.bit_lockLost_other h h33)⟩
    subst h
    rw [hhub, hhub]
    exact s.hubNat_lockLost_reference
  · refine ⟨exec_centring_busy up (re, we) bytes hup hst hpc hk hv hm,
      fun t0 h ht => exec_centring_early up (re, we) bytes hup hst hpc hk hv hm h ht, fun h ht => ?_⟩
    have hrun := exec_centring up (re, we) bytes hup hst hpc hk hv hm h ht
    obtain ⟨htx, hmem, -⟩ := s.frame_centred st pc k up (re, we) bytes
    refine ⟨s.centred st pc k up (re, we) bytes, s.settings_centred .., fun j => s.settings_centred_other st pc k up (re, we) bytes,
      s.eyes_centred .., s.stepAt_centred .., s.burstUsed_centred .., hmem, htx, s.below_centred .., fun hn => ?_, fun hlow hnone => ?_⟩
    · refine hrun.trans (congrArg Host.Outcome.next (if_neg ?_))
      simp only [Bool.and_eq_true, decide_eq_true_eq, Option.isNone_iff_eq_none]
      exact fun ⟨h1, h2⟩ => hn.elim (fun hle => absurd h1 (Nat.not_lt.mpr hle)) (absurd h2)
    · refine hrun.trans (congrArg Host.Outcome.next (if_pos ?_))
      simp only [Bool.and_eq_true, decide_eq_true_eq, Option.isNone_iff_eq_none]
      exact ⟨hlow, hnone⟩
  · refine ⟨fun h => exec_ringTracking_not h below d, fun hu he hlen => ?_⟩
    have hrun := exec_ringTracking hup hp hu he below d
    obtain ⟨hdraws, htx, hmem, -⟩ := s.frame_ringTracked p below d
    refine ⟨s.ringTracked p below d, s.detune_ringTracked p below d hlen, hdraws, htx, hmem,
      fun l hl => ⟨s.heater_ringTracked p below d hl, s.below_ringTracked p below d hl⟩, fun hall => ?_, fun l hl hin hnone => ?_⟩
    · have hnew : (s.lowLanes p below).filter (fun l => (s.pow.belowLanes.find (p * 16 + l)).isNone) = [] := by
        refine List.filter_eq_nil_iff.mpr fun l hlow => ?_
        obtain ⟨hmeml, hbelow⟩ := List.mem_filter.mp hlow
        rw [Option.isNone_iff_eq_none]
        exact hall l hmeml (List.contains_iff_mem.mp hbelow)
      rw [hrun, hnew]
      rfl
    · have hnew : (s.lowLanes p below).filter (fun l => (s.pow.belowLanes.find (p * 16 + l)).isNone) = [l] := by
        rw [State.lowLanes, hl]
        simp [hin, hnone]
      rw [hrun, hnew, List.foldl_cons, List.foldl_nil, State.lanePhys_ringTracked _ _ _ hp]
  · exact ⟨fun a b => congrArg Host.Outcome.next (if_neg (by simp [hoff])), fun r => congrArg Host.Outcome.next (if_pos (by simp [hoff])),
      fun r => congrArg Host.Outcome.next (if_pos (by simp [hoff])), fun u => congrArg Host.Outcome.next (if_pos (by simp [hoff])),
      fun a b => congrArg Host.Outcome.next (if_neg (by simp [hoff])), fun r a b => congrArg Host.Outcome.next (if_pos (by simp [hoff])),
      fun n => congrArg Host.Outcome.next (if_pos (by simp [hoff])), fun n => congrArg Host.Outcome.next (if_neg (by simp [hoff])),
      fun a b c d e f g => congrArg Host.Outcome.next (if_pos (by simp [hoff])), fun a b c => congrArg Host.Outcome.next (if_pos (by simp [hoff]))⟩

end Sys2Proof.Machine
end
